-- ==== Sys2Proof/Word.lean ====
section
/-!
DEFINITION. The word types of the model and their plainest arithmetic.
Registers are 32 bits wide and little-endian (spec/00_scope.md R8); Headwater time is an unsigned 64-bit count of
250 ps ticks (R7) and is held as a `Nat`.
-/

namespace Sys2Proof

/-- One byte. -/
abbrev Byte := BitVec 8

/-- One 32-bit register word (R8). -/
abbrev Word := BitVec 32

/-- The `w` bits of `x` from bit `lo` upward. -/
def bits (x lo w : Nat) : Nat := x / 2 ^ lo % 2 ^ w

/-- Bit `i` of `x`. -/
def bitOf (x i : Nat) : Bool := x / 2 ^ i % 2 == 1

/-- `true` is 1 and `false` is 0. -/
def b2n (b : Bool) : Nat := if b then 1 else 0

/-- The value of the `w`-bit two's complement number `x`. -/
def sext (w x : Nat) : Int :=
  if x % 2 ^ w < 2 ^ (w - 1) then (x % 2 ^ w : Nat) else ((x % 2 ^ w : Nat) : Int) - 2 ^ w

/-- The `w`-bit two's complement form of `x`, wrapping. -/
def toTwos (w : Nat) (x : Int) : Nat := (x % (2 ^ w : Int)).toNat

/-- The `w`-bit two's complement form of `x`, clamped to the range of the width. -/
def satTwos (w : Nat) (x : Int) : Nat :=
  toTwos w (max (-(2 ^ (w - 1) : Int)) (min x (2 ^ (w - 1) - 1 : Int)))

/-- `x` limited to `w` unsigned bits, staying at the largest value. -/
def satU (w x : Nat) : Nat := min x (2 ^ w - 1)

/-- `x` divided by `y`, rounded up. -/
def ceilDiv (x y : Nat) : Nat := (x + y - 1) / y

/-- The bytes of `x`, least significant first. -/
def leBytes : Nat → Nat → List Byte
  | 0, _ => []
  | n + 1, x => BitVec.ofNat 8 x :: leBytes n (x / 256)

/-- The bytes of `x`, most significant first. -/
def beBytes (n x : Nat) : List Byte := (leBytes n x).reverse

/-- The value of little-endian bytes. -/
def leVal : List Byte → Nat
  | [] => 0
  | b :: t => b.toNat + 256 * leVal t

/-- The indices of the set bits among the low `n` bits of `x`, lowest first. -/
def bitList (n x : Nat) : List Nat := (List.range n).filter (bitOf x)

/-- The number with exactly the bits of `l` set. -/
def bitMask (l : List Nat) : Nat := l.foldl (fun m i => m ||| 2 ^ i) 0

/-- `x` with bit `i` set to `b`. -/
def setBit (x i : Nat) (b : Bool) : Nat :=
  if bitOf x i == b then x else if b then x + 2 ^ i else x - 2 ^ i

/-- The least element of a list of naturals, `d` when it is empty. -/
def leastD (d : Nat) (l : List Nat) : Nat := l.foldl min (l.headD d)

end Sys2Proof
end

