-- ==== Sys2Proof/Syntax.lean ====
section
/-!
DEFINITION. The commands of the block: one constructor per row of spec/opcode_table.json. Its operands are what comes
from outside the block and is in no register: which channel, die or port the command is about, the bytes of a received
message, the outcome of a conversion, the value written.
-/

namespace Sys2Proof

/-- A Vilti engine (spec/07_vilti_isa.md R275): the sequencer of a channel, or a loop slot by its slot number
`512 d + 8 c + s` (R454); or a sequencer whose read of the instruction at its PC met a parity error in program memory
(R295). -/
inductive Engine where
  | seq (n : Fin 192)
  | slot (k : Fin 2048)
  | seqParity (n : Fin 192)
deriving DecidableEq, Repr

/-- What the training of a DDR5 channel finds of its module (spec/15_memory.md R595 to R597): whether it trains, its
kind, ranks, rank capacity in GiB, density in Gb, row and page bits, and its highest rate in MT/s. -/
structure Dimm where
  trains : Bool := false
  mrdimm : Bool := false
  ranks : Fin 8 := 0
  rankGib : Fin 2048 := 0
  density : Fin 128 := 0
  rowBits : Fin 64 := 0
  pageBits : Fin 32 := 0
  rate : Fin 16384 := 0
deriving DecidableEq, Repr

/-- A unit whose SRAM has more bad rows than spare rows (spec/18_heat_calibration_wear.md R754). -/
inductive SramFail where
  | pipe (d : Fin 4) (p : Fin 52)
  | core (d : Fin 4) (p : Fin 68)
  | die (d : Fin 4)
  | other
deriving DecidableEq, Repr

/-- What a start-up finds in its steps 6 to 10 (spec/02_modes_power_hold.md R79): record copies of the flash that differ
from what the device last knew, by `3 (k - 1) + c`; failed SRAM; the DDR5 modules, by `8 d + m`; the UCIe modules, by
`2 d + k`, that train, with the lanes newly repaired in each direction; the recorded rows, by position in the spare
record, that hard repair takes; and whether REF156_P/N is present (R151). -/
structure StartIn where
  copies : List (Fin 12 × List (Fin 256)) := []
  sram : List SramFail := []
  dimms : List Dimm := []
  mods : List (Bool × Fin 8 × Fin 8) := []
  hppr : List Nat := []
  ref : Bool := false
deriving DecidableEq, Repr

/-- What happened to the supplies in HOLD that no command of its own says (spec/02_modes_power_hold.md R87;
spec/15_memory.md R617): the dies whose VDDQ left its range, and, where rails 0 to 16 have left theirs, the device tick at
which the last of them returned. -/
structure HoldEnd where
  lost : List (Fin 4) := []
  back : Option Nat := none
deriving DecidableEq, Repr

/-- The bytes that a register read addresses (spec/00_scope.md R14 to R16): offset in the reader's BAR0, and how many. -/
structure BusSpan where
  addr : Nat
  len : Nat := 4
deriving DecidableEq, Repr

/-- A port, with the phase of its character boundaries in 25 ps units (R384, R563). -/
structure PortPhase where
  n : Fin 192
  ph : Fin 128 := 0
deriving DecidableEq, Repr

/-- A port, and how many characters after its nominal place an alignment marker is sent (spec/13_ehriz_lanes.md R529). -/
structure PortLate where
  n : Fin 192
  late : Fin 17 := 0
deriving DecidableEq, Repr

/-- How far a line is complete at its deadline (spec/04_surfaces_fetch.md R182, R185): the first pixel not composed, and
the first whose Levee data is not in the fetch buffer. -/
structure LineEnd where
  x : Nat
  levee : Nat := 0
deriving DecidableEq, Repr

/-- Who asks for a DRAM access, and at which level: an agent identity (R4) and P0 to P7 (spec/17_inside_the_package.md
R698). -/
structure Asker where
  src : Fin 65536 := 0
  level : Fin 8 := 0
deriving DecidableEq, Repr

/-- What a start-up step that exceeds its time concerns (R81). -/
inductive StartUnit where
  | records
  | die (d : Fin 4)
  | other
deriving DecidableEq, Repr

/-- PLDM requests (spec/19_management_trust.md R769): type 0 commands; a numeric sensor of a die, head, thermistor or
rail; a state sensor of the mode or of a channel; any other type. -/
inductive PldmReq where
  | base
  | dieTemp (i : Fin 5)
  | headTemp (n : Fin 192)
  | thermistor (i : Fin 32)
  | rail (i : Fin 20)
  | mode
  | channel (n : Fin 192)
  | other
deriving DecidableEq, Repr

/-- SPDM requests (R786 to R788). -/
inductive SpdmReq where
  | version | capabilities | algorithms | digests
  | certificate (slot : Fin 8)
  | challenge (slot : Fin 8)
  | measurements (index : Fin 256)
  | keyExchange | finish | heartbeat | endSession
  | ideKeyProg (stream : Fin 8)
  | ideKeyGo (stream : Fin 8)
  | other
deriving DecidableEq, Repr

/-- The commands: one constructor per row of spec/opcode_table.json, in its order. -/
inductive Instr where
  /-- REGISTER_WRITE (R11): A write to a register that has no row of its own takes effect as its access code gives, including rejection of an RWF change while the owning block runs. -/
  | registerWrite (fn : Fin 257) (a : Nat) (data : List Byte)
  /-- POWER_GOOD (R76): Power-good after a power loss starts a power-on reset and start-up, drives SAFE-DARK and binds channels to pipelines. -/
  | powerGood (vhold : Bool) (x : StartIn)
  /-- PERST_ASSERT (R76): Assertion of PERST# starts a device reset, with SAFE-DARK within 20 µs. -/
  | perstAssert
  /-- PERST_DEASSERT (R79): Deassertion of PERST# fixes t1 and continues start-up. -/
  | perstDeassert (x : StartIn)
  /-- STARTUP_COMPLETE (R79): Start-up completes and HUB_MODE.READY is set. -/
  | startupComplete
  /-- STARTUP_STEP_TIMEOUT (R81): A start-up step exceeds its time and its unit is isolated or CONFIG_DIVERGED is set. -/
  | startupStepTimeout (u : StartUnit)
  /-- MODE_REQ_DORMANT (R55): A request DORMANT disarms ARMED channels and drains RUNNING ones. -/
  | modeReqDormant (mgmt : Bool)
  /-- MODE_REQ_SERVICE (R53): A request SERVICE moves the device to SERVICE when its conditions hold. -/
  | modeReqService (mgmt : Bool)
  /-- MODE_REQ_SHOW (R53): A request SHOW moves the device to SHOW, or to DEGRADED while HUB_DEGRADE is not 0. -/
  | modeReqShow (mgmt : Bool)
  /-- MODE_REQ_UNREQUESTABLE (R47): A write of DEGRADED, HOLD, TRIPPED or a reserved code to HUB_MODE_REQ is rejected with reason 0x04. -/
  | modeReqUnrequestable (mgmt : Bool) (m : Fin 8)
  /-- DORMANT_ENTERED (R55): Once no channel is ARMED, RUNNING or DRAINING after a request DORMANT, the device enters DORMANT. -/
  | dormantEntered
  /-- MAIN_OK_FALL (R82): MAIN_OK low starts a hand-over to HOLD. -/
  | mainOkFall (vhold : Bool)
  /-- RAIL_UNDER_VOLTAGE (R818): A core rail below its under-voltage threshold for 500 ns starts a hand-over. -/
  | railUnderVoltage (r : Fin 5) (vhold : Bool)
  /-- HOLD_LOG_COMMITTED (R82): The hold log is committed to flash and LOG_OK set. -/
  | holdLogCommitted (k : Nat)
  /-- MAIN_OK_RISE (R87): A return of MAIN_OK during HOLD raises event 0x0107 and starts the 500 ms stability count. -/
  | mainOkRise
  /-- HOLD_EXIT (R92): After 200 ms in HOLD and 500 ms of stable supply the device leaves HOLD with a return-from-hold reset. -/
  | holdExit (x : StartIn) (h : HoldEnd)
  /-- VHOLD_STOP (R91): VHOLD falls to the stop voltage in HOLD; a final log record is written and the island may power down. -/
  | vholdStop
  /-- HOLD_GAUGE_ROUND (R95): In HOLD the island subtracts each 16 ms round's draw from the gauge after converting VHOLD. -/
  | holdGaugeRound (mv : Fin 8192)
  /-- GAUGE_FULL_CHARGE (R96): After 8 rounds at full-charge conditions the gauge is set to CAP and UNCERTAIN cleared. -/
  | gaugeFullCharge
  /-- HOLD_CAPACITY_WRITE (R97): A PF0 write of HOLD_CAPACITY.CAP is stored and written to the calibration record within 1 s. -/
  | holdCapacityWrite (v : Fin 16777216)
  /-- LOCKSTEP_DISAGREE (R53): Disagreement of the safety supervisor halves trips the device. -/
  | lockstepDisagree
  /-- TRIP_LATCH_CLEAR (R60): MAIN_OK low for 100 ms clears the trip latch. -/
  | tripLatchClear
  /-- VDDIO_LOSS (R819): VDDIO leaves its range; rills stop and the hold island runs from VHOLD. -/
  | vddioLoss
  /-- VDDIO_RETURN (R819): VDDIO returns and the device performs a device reset. -/
  | vddioReturn (x : StartIn)
  /-- RAIL_OUT_OF_RANGE (R819): A SerDes or VDDQ rail leaves its range after power-good without a hand-over. -/
  | railOutOfRange (r : Fin 12)
  /-- CH_ARM (R65): CH_CTRL.ARM arms an OFF channel when every arm condition holds, or records ARM_REJECT. -/
  | chArm (mgmt : Bool) (n : Fin 192)
  /-- CH_DISARM (R63): CH_CTRL.DISARM returns an ARMED channel to OFF. -/
  | chDisarm (n : Fin 192)
  /-- CH_STOP (R64): CH_CTRL.STOP moves a RUNNING channel to DRAINING at its stop time and withdraws later items. -/
  | chStop (n : Fin 192)
  /-- CH_CLEAR (R73): CH_CTRL.CLEAR returns a FAULTED channel to OFF when its fault cause allows. -/
  | chClear (n : Fin 192)
  /-- CH_RESET (R76): CH_CTRL.RESET resets the channel's sequencer, Weir, pipeline and loops. -/
  | chReset (n : Fin 192)
  /-- CHANNEL_RUNNING (R63): An ARMED channel becomes RUNNING at the first frame boundary at or after CH_START after a commit, ending SAFE-DARK. -/
  | channelRunning (n : Fin 192)
  /-- DRAIN_COMPLETE (R404): After every item before the stop time has launched, PARK is sent and the channel goes OFF on acknowledgement. -/
  | drainComplete (n : Fin 192)
  /-- DRAIN_TIMEOUT (R63): 10 ms after the stop time without PARK acknowledgement, a DRAINING channel goes OFF. -/
  | drainTimeout (n : Fin 192)
  /-- TIME_SET (R128): TIME_CTRL.SET latches the TIME_SET value for loading at the next 1 ms boundary, or is rejected. -/
  | timeSet
  /-- TIME_SET_LOAD (R128): At the first multiple of 4 000 000 ticks after SET the latched HT is loaded. -/
  | timeSetLoad
  /-- TIME_STEP_NOW (R137): TIME_CTRL.STEP_NOW applies a pending step while the timebase is not in use, or is rejected. -/
  | timeStepNow
  /-- TIME_SWITCH (R131): TIME_CTRL.SWITCH makes the follower follow the other input, or is rejected. -/
  | timeSwitch
  /-- TIME_CNT_CLR (R151): TIME_CTRL.CNT_CLR clears TIME_ERRCNT. -/
  | timeCntClr
  /-- TIME_MESSAGE_SEND (R121): A TIME message leaves each enabled transmitter every 1 ms while HT is valid. -/
  | timeMessageSend
  /-- DELAY_REQ_SEND (R123): A follower sends a DELAY_REQ upstream on each locked input every 1 ms. -/
  | delayReqSend (b : Bool)
  /-- DELAY_REQ_RECEIVED (R124): A DELAY_REQ at the output is stamped and answered with a DELAY_RESP. -/
  | delayReqReceived (frac : Fin 16) (wait : Nat) (m : List Nat)
  /-- DELAY_RESP_RECEIVED (R125): A DELAY_RESP gives t4 and a new mean path delay. -/
  | delayRespReceived (b : Bool) (frac : Fin 16) (m : List Nat)
  /-- DELAY_RESP_TIMEOUT (R124): A measurement with no response 200 µs after t1 is discarded. -/
  | delayRespTimeout (b : Bool)
  /-- TIME_MESSAGE_RECEIVED (R126): A received TIME message gives an offset used for steering, acquisition or step suspicion. -/
  | timeMessageReceived (b : Bool) (frac : Fin 16) (m : List Nat)
  /-- HW_LINK_LOST (R118): A Headwater receiver with no valid comma for 1 µs treats its link as lost. -/
  | hwLinkLost (k : Fin 3)
  /-- HW_INPUT_TIMEOUT (R129): An input without a valid TIME message for 3 ms ceases to be valid, causing a switch or holdover. -/
  | hwInputTimeout (b : Bool)
  /-- SRC_HOLDOVER_SWITCH (R131): After 1 s of HOLDOVER on the followed input the follower switches to the other. -/
  | srcHoldoverSwitch
  /-- TIME_REVERT (R131): With REVERT set, the PRIMARY input valid for 10 s is followed again. -/
  | timeRevert
  /-- STEP_PENDING_APPLY (R137): A pending step is applied at the first instant the timebase is not in use. -/
  | stepPendingApply
  /-- HOLDOVER_EXPIRED (R141): The holdover error estimate exceeds HOLD_MAX; STATE becomes EXPIRED and VALID 0. -/
  | holdoverExpired
  /-- REF_LOST (R839): REF_OK becomes 0; HT runs on the internal oscillator and becomes invalid. -/
  | refLost
  /-- REF_RESTORED (R144): After REF_OK has been 1 for 1 s a master returns to MASTER. -/
  | refRestored
  /-- LAUNCH_CLOCK_UNLOCK (R115): A Reach die launch clock loses lock; releases stop and the die is faulted. -/
  | launchClockUnlock (d : Fin 4)
  /-- FETCH_READ_DONE (R180): A fetch read returns, with poison, decode error or rights fault substituted, or is discarded when late. -/
  | fetchReadDone (n : Fin 192) (k : Fin 9) (y : Nat) (wbFit : Bool)
  /-- LINE_DEADLINE (R182): At a line deadline an incomplete line is filled with background and becomes an underrun line. -/
  | lineDeadline (n : Fin 192) (x : LineEnd) (mx : Nat) (wbFit : Bool)
  /-- FRAME_COMPOSED (R189): The last line of a frame is composed; fetch events, signatures and counters are updated. -/
  | frameComposed (n : Fin 192) (wbFit : Bool)
  /-- FLIP_INSTANT (R207): At a frame's flip instant pending commits, fences, clips and admissions take effect and composition starts. -/
  | flipInstant (n : Fin 192)
  /-- FORMAT_DARK_END (R270): After PLANE_DARK.N dark planes the picture returns at the next frame boundary. -/
  | formatDarkEnd (n : Fin 192)
  /-- RANGE_DARK_END (R444): The range dark interval ends after its dark planes and every driver's acknowledgement. -/
  | rangeDarkEnd (n : Fin 192)
  /-- PREEMPT (R232): COMP_CTRL.PREEMPT flips PF0's fields at once, recomposes from F_p and withdraws later items. -/
  | preempt (n : Fin 192)
  /-- COMP_CNT_CLR (R238): COMP_CTRL.CNT_CLR clears the composition counters. -/
  | compCntClr (n : Fin 192)
  /-- COMP_LUT_DATA_ACCESS (R845): An access to COMP_LUT_DATA reads or writes an entry, rejecting banks in use, and advances the index. -/
  | compLutDataAccess (n : Fin 192) (w : Option Nat)
  /-- COMP_BRIGHT_WRITE (R229): A write of COMP_BRIGHT.LEVEL below the Levee floor is accepted and clamped. -/
  | compBrightWrite (fn : Fin 257) (n : Fin 192) (v : Nat)
  /-- WB_FRAME_DONE (R225): A complete write-back frame increments COMP_WB_SEQ and writes its record, or is marked incomplete. -/
  | wbFrameDone (n : Fin 192)
  /-- POOL_SLOT_FREED (R253): A frame slot becomes free and the waiting slice stage resumes. -/
  | poolSlotFreed (n : Fin 192) (wbFit : Bool)
  /-- READY_TIME_NO_SLOT (R254): At the frame's ready time without a free slot, nothing of the frame is written. -/
  | readyTimeNoSlot (n : Fin 192)
  /-- PLANE_CNT_CLR (R273): PLANE_CTRL.CNT_CLR clears the plane counters. -/
  | planeCntClr (n : Fin 192)
  /-- NOP (R285): Vilti NOP does nothing. -/
  | vNop (e : Engine)
  /-- HALT (R293): HALT stops the sequencer, or faults a loop slot with 0x08. -/
  | vHalt (e : Engine)
  /-- LDI (R287): LDI loads an immediate into a register. -/
  | vLdi (e : Engine)
  /-- MOV (R288): MOV copies 32 bits between registers. -/
  | vMov (e : Engine)
  /-- ADD (R286): ADD adds op2 to RA. -/
  | vAdd (e : Engine)
  /-- SUB (R286): SUB subtracts op2 from RA. -/
  | vSub (e : Engine)
  /-- AND (R286): AND of RA and op2. -/
  | vAnd (e : Engine)
  /-- OR (R286): OR of RA and op2. -/
  | vOr (e : Engine)
  /-- XOR (R286): XOR of RA and op2. -/
  | vXor (e : Engine)
  /-- SHL (R286): Left shift of RA. -/
  | vShl (e : Engine)
  /-- SHR (R286): Logical right shift of RA. -/
  | vShr (e : Engine)
  /-- CMP (R289): CMP sets Z, N and C from an integer or FP comparison. -/
  | vCmp (e : Engine)
  /-- BR (R285): BR jumps to TARGET. -/
  | vBr (e : Engine)
  /-- BRC (R290): BRC jumps to TARGET when COND holds. -/
  | vBrc (e : Engine)
  /-- CALL (R292): CALL pushes the return address and jumps. -/
  | vCall (e : Engine)
  /-- RET (R292): RET pops the return address, faulting on an empty stack. -/
  | vRet (e : Engine)
  /-- LD (R291): LD reads a word from descriptor half or data window. -/
  | vLd (e : Engine)
  /-- ST (R291): ST writes a word to descriptor half or data window. -/
  | vSt (e : Engine)
  /-- SIG (R294): SIG raises a program signal event. -/
  | vSig (e : Engine)
  /-- PLANE (R298): PLANE emits a plane launch at TC from a descriptor and may advance TC. -/
  | vPlane (n : Fin 192)
  /-- LINE (R300): LINE emits a scan line at TC. -/
  | vLine (n : Fin 192)
  /-- RESET (R301): The Vilti RESET instruction emits a mirror reset of the named blocks. -/
  | vReset (n : Fin 192)
  /-- LAMP (R302): LAMP emits a string amplitude change at TC. -/
  | vLamp (n : Fin 192)
  /-- SAMPLE (R303): SAMPLE attaches a sensor sample request to the string's next item. -/
  | vSample (n : Fin 192)
  /-- AT (R304): AT loads TC from a register pair. -/
  | vAt (n : Fin 192)
  /-- ADVT (R304): ADVT adds an amount to TC. -/
  | vAdvt (n : Fin 192)
  /-- WAITT (R305): WAITT suspends the sequencer until current HT reaches TC. -/
  | vWaitt (n : Fin 192)
  /-- WAITT_RESUME (R305): Current HT reaches TC and a waiting sequencer resumes. -/
  | waittResume (n : Fin 192)
  /-- WAITIX (R306): WAITIX sets TC to the next predicted index of a wheel segment, or waits for a prediction. -/
  | vWaitix (n : Fin 192)
  /-- WAITIX_RESUME (R306): A prediction appears for a waiting WAITIX, which sets TC and clears T. -/
  | waitixResume (n : Fin 192)
  /-- WAITIX_TIMEOUT (R306): TIMEOUT µs pass without a prediction; T is set and TC unchanged. -/
  | waitixTimeout (n : Fin 192)
  /-- SWAPF (R307): SWAPF emits a matrix frame swap at TC. -/
  | vSwapf (n : Fin 192)
  /-- FRAME (R307): FRAME emits a frame mark, where pending swaps and width switches take effect. -/
  | vFrame (n : Fin 192)
  /-- GAP (R307): GAP emits a calibration gap. -/
  | vGap (n : Fin 192)
  /-- GAP_START_UNDECIDED (R353): A gap still undecided at its start is dropped. -/
  | gapStartUndecided (n : Fin 192)
  /-- CEIL (R310): CEIL sets a string's program ceiling from TC. -/
  | vCeil (n : Fin 192)
  /-- DARKREL (R311): DARKREL ends the program dark hold from TC. -/
  | vDarkrel (n : Fin 192)
  /-- LEVEE_COMMIT (R313): LEVEE COMMIT is a PF0 commit of the Levee fields with target TC. -/
  | vLeveeCommit (n : Fin 192)
  /-- LEVEE_PREEMPT (R313): LEVEE PREEMPT acts as a PF0 pre-emption. -/
  | vLeveePreempt (n : Fin 192)
  /-- LEVEE_DEACTIVATE (R313): LEVEE DEACTIVATE makes ACTIVE 0 pending and commits. -/
  | vLeveeDeactivate (n : Fin 192)
  /-- WAVE (R312): WAVE selects the head's reset waveform table from TC. -/
  | vWave (n : Fin 192)
  /-- RILL (R311): RILL sets a driver's command and tag in a rill frame or starts the program dark hold. -/
  | vRill (n : Fin 192)
  /-- FADD (R314): FP addition. -/
  | vFadd (k : Fin 2048)
  /-- FSUB (R314): FP subtraction. -/
  | vFsub (k : Fin 2048)
  /-- FMUL (R314): FP multiplication. -/
  | vFmul (k : Fin 2048)
  /-- FMA (R314): FP fused multiply-add. -/
  | vFma (k : Fin 2048)
  /-- FMIN (R316): FP minimum. -/
  | vFmin (k : Fin 2048)
  /-- FMAX (R316): FP maximum. -/
  | vFmax (k : Fin 2048)
  /-- FCLP (R316): FP clamp, faulting when FB exceeds FC. -/
  | vFclp (k : Fin 2048)
  /-- FABS (R285): FP absolute value. -/
  | vFabs (k : Fin 2048)
  /-- FNEG (R285): FP negation. -/
  | vFneg (k : Fin 2048)
  /-- FCVT (R317): Conversion between integer and FP banks. -/
  | vFcvt (k : Fin 2048)
  /-- FLUT (R318): FP table lookup with interpolation. -/
  | vFlut (k : Fin 2048)
  /-- IN (R319): IN reads a latched input of the current sample. -/
  | vIn (k : Fin 2048)
  /-- OUT (R471): OUT writes an actuator, converted to its destination. -/
  | vOut (k : Fin 2048)
  /-- WAITS (R280): WAITS ends the sample's computation, takes the checkpoint and writes any eddy record. -/
  | vWaits (k : Fin 2048)
  /-- CHK (R320): CHK faults with 0x06 unless the residual is within bound. -/
  | vChk (k : Fin 2048)
  /-- TRC (R319): TRC records a value as a trace node. -/
  | vTrc (k : Fin 2048)
  /-- SEQ_WATCHDOG (R332): The instruction count since the last item exceeds the watchdog limit; fault 0x09. -/
  | seqWatchdog (n : Fin 192)
  /-- EMIT_WINDOW_OPEN (R278): An emitting instruction's launch time enters the run-ahead window and the item passes to the Weir. -/
  | emitWindowOpen (n : Fin 192)
  /-- SEQ_QUEUE_RESUME (R371): A launch-queue entry frees and a sequencer waiting on a full queue emits. -/
  | seqQueueResume (n : Fin 192)
  /-- SEQ_SWAP_REQUEST (R327): SEQ_CTRL.SWAP requests a bank swap with target SEQ_SWAP_T, or is refused. -/
  | seqSwapRequest (n : Fin 192)
  /-- SEQ_CNT_CLR (R335): SEQ_CTRL.CNT_CLR clears SEQ_FAULT_CNT. -/
  | seqCntClr (n : Fin 192)
  /-- SEQ_XCNT_CLR (R368): SEQ_XCTRL.CNT_CLR clears the sequence program counters. -/
  | seqXcntClr (n : Fin 192)
  /-- DECISION_INSTANT (R387): At an item's decision instant the Weir records slack and substitutes late data. -/
  | decisionInstant (n : Fin 192)
  /-- STAGING_START (R377): The Weir begins staging an item once its data, a buffer and earlier items allow. -/
  | stagingStart (n : Fin 192)
  /-- STAGING_COMPLETE (R381): An item's staging completes and its LAUNCH packet is sent. -/
  | stagingComplete (n : Fin 192)
  /-- STAGE_NOT_IN_TIME (R378): An item not in the head by its buffer-ready deadline stops staging and shows dark. -/
  | stageNotInTime (n : Fin 192) (k : Fin 16)
  /-- POOL_READ_POISON (R387): A poisoned pool read abandons the item's staging. -/
  | poolReadPoison (n : Fin 192) (k : Fin 16)
  /-- TOKEN_LEAD_MISS (R387): A LAUNCH packet not at the head by launch time less token lead is counted a miss. -/
  | tokenLeadMiss (n : Fin 192)
  /-- RELEASE (R114): An item is released at its pin instant on the launch clock, vernier and trim. -/
  | release (n : Fin 192) (ph : Fin 128)
  /-- PLANE_INTERVAL_END (R343): At the end of a plane's last block the string continues or turns off and the head buffer is freed. -/
  | planeIntervalEnd (n : Fin 192)
  /-- SYNC_SEND (R563): A SYNC ordered set is sent every 250 µs on each UP port. -/
  | syncSend (n : PortPhase)
  /-- WITHDRAWAL_COMPLETE (R400): At t_w + L_c the withdrawal completes with its leaked count. -/
  | withdrawalComplete (n : Fin 192)
  /-- AVS_PERIOD (R393): At the end of each period the adaptive voltage loop raises, lowers or holds the core supply. -/
  | avsPeriod (d : Fin 4) (fails : Fin 5)
  /-- WEIR_CNT_CLR (R405): WEIR_CTRL.CNT_CLR clears the Weir counters and WEIR_SLACK_LOW. -/
  | weirCntClr (n : Fin 192)
  /-- STRING_CLEAR (R416): LAMP_CTRL.STR_CLR ends a latched cut and sends CLEAR_FAULT. -/
  | stringClear (n : Fin 192) (mask : Nat)
  /-- LAMP_CNT_CLR (R450): LAMP_CTRL.CNT_CLR clears the lamp counters. -/
  | lampCntClr (n : Fin 192)
  /-- LAMP_CURVE_DATA_ACCESS (R845): An access to LAMP_CURVE_DATA reads or writes a curve entry and advances the index. -/
  | lampCurveDataAccess (n : Fin 192) (w : Option Nat)
  /-- LAMP_SCEIL_WRITE (R789): A write of LAMP_SCEIL.CEIL sets that path's value; the lesser governs. -/
  | lampSceilWrite (mgmt : Bool) (n : Fin 192) (k : Fin 6) (v : Nat)
  /-- SVC_CEIL_WRITE (R789): A write of HUB_SVC_CEIL.CEIL sets that path's value; the lesser governs. -/
  | svcCeilWrite (mgmt : Bool) (v : Nat)
  /-- FADE_DONE (R422): A fade reaches p = 1. -/
  | fadeDone (n : Fin 192) (ceiling : Bool)
  /-- DERATE_SOURCE_RESTORE (R425): After 100 ms of fresh plausible telemetry a string returns to SRC 0b00. -/
  | derateSourceRestore (n : Fin 192) (k : Fin 6)
  /-- RILL_FRAME_START (R437): A rill frame starts each PERIOD with every driver's share. -/
  | rillFrameStart (n : Fin 192)
  /-- RILL_ACK_TIMEOUT (R443): A rill command not acknowledged in time raises 0x080A and cuts the string. -/
  | rillAckTimeout (n : Fin 192) (i : Fin 16)
  /-- RILL_READBACK_DIFF (R448): A rill pad differing from its driven level is counted. -/
  | rillReadbackDiff (n : Fin 192)
  /-- RILL_READBACK_TRIP (R448): A rill pad low for 1 µs during SAFE-DARK trips the device. -/
  | rillReadbackTrip (n : Fin 192)
  /-- BYPASS_DARK_FRAME (R434): With no suitable rill frame in 100 ms the string runs dark one frame for the bypass command. -/
  | bypassDarkFrame (n : Fin 192) (k : Fin 6)
  /-- SLOT_START (R459): LOOP_SLOT_CTRL.START starts a STOPPED slot when the start checks pass. -/
  | slotStart (k : Fin 2048)
  /-- SLOT_STOP (R477): LOOP_SLOT_CTRL.STOP stops a slot, leaving its actuators. -/
  | slotStop (k : Fin 2048)
  /-- SLOT_RESUME (R476): LOOP_SLOT_CTRL.RESUME resumes a held slot when the hold cause is absent. -/
  | slotResume (k : Fin 2048) (reload : Bool)
  /-- SLOT_SAFE (R473): LOOP_SLOT_CTRL.SAFE moves a slot to HOLDING. -/
  | slotSafe (k : Fin 2048)
  /-- SLOT_FREE (R455): LOOP_SLOT_CTRL.FREE frees a STOPPED slot's image. -/
  | slotFree (k : Fin 2048)
  /-- SLOT_HOLD_EXPIRED (R455): After HOLD ms a holding slot enters RAMPING. -/
  | slotHoldExpired (k : Fin 2048)
  /-- SLOT_RAMP_EXPIRED (R455): After RAMP ms a ramping slot reaches SAFE. -/
  | slotRampExpired (k : Fin 2048)
  /-- LOOP_SAMPLE_TICK (R464): A sample tick of a RUNNING slot passes; a missing sample is skipped and ramping advances. -/
  | loopSampleTick (k : Fin 2048)
  /-- LOOP_RECORD_COMPLETE (R465): A sample record completes and the slot computes, or skips on overrun. -/
  | loopRecordComplete (k : Fin 2048)
  /-- LOOP_OVERRUN_LIMIT (R469): SKIP_RUN reaches OVR_N and the slot faults with 0x09. -/
  | loopOverrunLimit (k : Fin 2048)
  /-- LOOP_BIND_DATA_ACCESS (R845): An access to LOOP_BIND_DATA reads or writes a binding word and advances the index. -/
  | loopBindDataAccess (d : Fin 4) (cl : Fin 17) (w : Option Nat)
  /-- LOOP_SP_DATA_WRITE (R478): A write of LOOP_SP_DATA sets a set-point for the next sample. -/
  | loopSpDataWrite (d : Fin 4) (cl : Fin 17) (v : Nat)
  /-- LOOP_CL_CNT_CLR (R494): LOOP_CL_CTRL.CNT_CLR clears cluster counters. -/
  | loopClCntClr (d : Fin 4) (cl : Fin 17)
  /-- LOOP_CORE_RESET (R493): LOOP_CORE_CTRL.RESET holds the core's slots, migrates and resets the core. -/
  | loopCoreReset (d : Fin 4) (c : Fin 64)
  /-- LOOP_CORE_MIGRATE (R489): LOOP_CORE_CTRL.MIGRATE migrates the logical core to a free spare. -/
  | loopCoreMigrate (d : Fin 4) (c : Fin 64)
  /-- CORE_CHECK_FAILURE (R488): A core check failure retires the physical core and migrates or holds its slots. -/
  | coreCheckFailure (d : Fin 4) (p : Fin 68) (reason : Fin 3) (met : Bool)
  /-- LOOP_MIGRATION_DONE (R489): A migration copy ends and the spare serves the logical core. -/
  | loopMigrationDone (d : Fin 4) (c : Fin 64)
  /-- EDDY_ARM (R486): LOOP_EDDY_CTRL.ARM empties the buffer and enters ARMED. -/
  | eddyArm (d : Fin 4) (cl : Fin 17)
  /-- EDDY_TRIGGER (R486): LOOP_EDDY_CTRL.TRIGGER triggers a capture manually. -/
  | eddyTrigger (d : Fin 4) (cl : Fin 17)
  /-- EDDY_DISARM (R498): LOOP_EDDY_CTRL.DISARM enters IDLE. -/
  | eddyDisarm (d : Fin 4) (cl : Fin 17)
  /-- EDDY_FROZEN (R486): After POST records the buffer freezes. -/
  | eddyFrozen (d : Fin 4) (cl : Fin 17)
  /-- EDDY_ARCHIVED (R487): An archive copy of a frozen buffer completes. -/
  | eddyArchived (d : Fin 4) (cl : Fin 17)
  /-- WHEEL_RUN (R503): MOVE_CTRL.WHEEL_RUN latches the target and runs the profile. -/
  | wheelRun (n : Fin 192)
  /-- WHEEL_STOP (R503): MOVE_CTRL.WHEEL_STOP runs the wheel down under control. -/
  | wheelStop (n : Fin 192)
  /-- SCAN_START (R514): MOVE_CTRL.SCAN_START starts the sweep or galvanometer locking. -/
  | scanStart (n : Fin 192)
  /-- SCAN_STOP (R514): MOVE_CTRL.SCAN_STOP runs the mirror down. -/
  | scanStop (n : Fin 192)
  /-- MOVE_CNT_CLR (R518): MOVE_CTRL.CNT_CLR clears the moving-parts counters. -/
  | moveCntClr (n : Fin 192)
  /-- WHEEL_STOPPED (R502): Speed at or below STOP for 100 ms moves the wheel to STOPPED. -/
  | wheelStopped (n : Fin 192)
  /-- WHEEL_SPEED_TIMEOUT (R502): No valid speed sample for 100 ms moves a STOPPED or COAST wheel to UNKNOWN. -/
  | wheelSpeedTimeout (n : Fin 192)
  /-- WHEEL_LOCK_LOST (R502): A lock condition failing for DWELL ms returns LOCKED to RAMP. -/
  | wheelLockLost (n : Fin 192)
  /-- WHEEL_INTERLOCK_DWELL (R506): A speed or phase condition held for DWELL ms starts the wheel interlock. -/
  | wheelInterlockDwell (n : Fin 192)
  /-- WHEEL_INTERLOCK_RELEASE (R507): No interlock condition for RELEASE ms ends the wheel interlock. -/
  | wheelInterlockRelease (n : Fin 192)
  /-- WHEEL_INDEX_LOST (R509): No index for IDX_TO periods withdraws the prediction. -/
  | wheelIndexLost (n : Fin 192)
  /-- SWEEP_STEP (R512): At each dwell end the sweep records amplitude and steps frequency, finishing at F_HI. -/
  | sweepStep (n : Fin 192)
  /-- SCAN_LOCKED (R510): No scan condition for RELEASE ms moves LOCKING to LOCKED and ends the interlock. -/
  | scanLocked (n : Fin 192)
  /-- SCAN_AMP_STALE (R515): No amplitude sample for 1 ms starts the scan interlock. -/
  | scanAmpStale (n : Fin 192)
  /-- SCAN_RUNDOWN_DONE (R510): The commanded amplitude reaches 0; the slot is stopped and drive set to 0. -/
  | scanRundownDone (n : Fin 192)
  /-- SCAN_STOPPED (R510): Amplitude at or below 1 % for 10 ms moves the mirror to STOPPED. -/
  | scanStopped (n : Fin 192)
  /-- PORT_ENABLE (R535): EPHY_CTRL.EN set to 1 moves the port to DETECT. -/
  | portEnable (n : Fin 192)
  /-- PORT_DISABLE (R535): EPHY_CTRL.EN set to 0 disables the port. -/
  | portDisable (n : Fin 192)
  /-- EPHY_RETRAIN (R535): EPHY_CTRL.RETRAIN retrains the port. -/
  | ephyRetrain (n : Fin 192)
  /-- TX_SLEEP_ENTER (R551): TX_SLEEP written 1 puts the transmitter in electrical idle, rejected unless the channel is OFF. -/
  | txSleepEnter (n : Fin 192)
  /-- TX_SLEEP_EXIT (R552): TX_SLEEP written 0 resumes the packet stream. -/
  | txSleepExit (n : Fin 192)
  /-- LOOPBACK_MODE (R555): A write of EPHY_CTRL.LB_MODE enters or leaves a loopback. -/
  | loopbackMode (n : Fin 192) (m : Fin 8)
  /-- LOOPBACK_GO (R554): EPHY_CTRL.LB_GO starts the PRBS generator. -/
  | loopbackGo (n : Fin 192) (errs : Nat)
  /-- EPHY_CNT_CLR (R556): EPHY_CTRL.CNT_CLR clears the PHY counters. -/
  | ephyCntClr (n : Fin 192)
  /-- EPHY_TXEQ_WRITE (R557): A write of EPHY_TXEQ is checked and slewed in. -/
  | ephyTxeqWrite (n : Fin 192) (b : Fin 5) (v : Nat)
  /-- DETECT_TEST (R536): Every 12 ms in DETECT each lane is tested for far-end presence. -/
  | detectTest (n : Fin 192) (present : Bool)
  /-- TRAINING_SET_RECEIVED (R537): A training set is received and advances RATE, POLARITY, ORDER or WIDTH. -/
  | trainingSetReceived (n : Fin 192) (l : Fin 4) (inv : Bool) (cv disp : Nat) (ts : List Nat)
  /-- RATE_TIMEOUT (R535): 500 µs at a trial rate without training sets steps to a lower rate or DETECT. -/
  | rateTimeout (n : Fin 192)
  /-- LOCK_STATE_END (R538): The LOCK state ends and unlocked lanes are excluded. -/
  | lockStateEnd (n : Fin 192) (mask : Fin 16)
  /-- POLARITY_DONE (R539): 16 valid training sets on each locked lane complete POLARITY. -/
  | polarityDone (n : Fin 192)
  /-- ALIGNMENT_MARKER_RECEIVED (R541): An alignment marker is received for deskew and lane status. -/
  | alignmentMarkerReceived (n : Fin 192) (l : Fin 4) (pos : Nat) (seq : Fin 256) (stat : Fin 32) (cv disp : Nat)
  /-- TRAINING_TIMEOUT (R535): A training failure from LOCK to WIDTH steps to a lower rate or DETECT. -/
  | trainingTimeout (n : Fin 192)
  /-- IDENT_TIMEOUT (R535): No identification within 50 ms returns the port to DETECT. -/
  | identTimeout (n : Fin 192)
  /-- ALIGNMENT_MARKER_SEND (R528): Every 4096 characters a marker is sent, where pending width switches occur. -/
  | alignmentMarkerSend (n : PortLate)
  /-- LANE_LOST (R543): A lane is decided lost and the port narrows or retrains. -/
  | laneLost (n : Fin 192) (l : Fin 4) (cause : Fin 4) (merged : Nat)
  /-- WIDTH_ACK_TIMEOUT (R590): A WIDTH_REQ unacknowledged after 2 µs is resent; after 10 µs every lane is lost. -/
  | widthAckTimeout (n : Fin 192)
  /-- PORT_LOSS_TIMEOUT (R549): A port not UP within LOSS_MS faults its channel with cause 0x04. -/
  | portLossTimeout (n : Fin 192)
  /-- LANE_QUALIFIED (R546): A retrained lane with good FOM for WIDEN_HOLD becomes good and may set WIDEN_PENDING. -/
  | laneQualified (n : Fin 192) (l : Fin 4)
  /-- FOM_UPDATE (R533): Every 1 ms each receive lane forms its figure of merit. -/
  | fomUpdate (n : Fin 192) (foms : List Nat)
  /-- LANE_MARGINAL (R534): FOM below FOM_MIN for 100 ms marks the lane marginal. -/
  | laneMarginal (n : Fin 192) (l : Fin 4)
  /-- RX_IDLE_ENTER (R553): The head's electrical-idle set puts the receiver to sleep. -/
  | rxIdleEnter (n : Fin 192)
  /-- RX_WAKE (R553): A lane leaving electrical idle wakes the receiver. -/
  | rxWake (n : Fin 192)
  /-- WAKE_TIMEOUT (R552): No lock and deskew 100 µs after wake puts the port in RETRAIN. -/
  | wakeTimeout (n : Fin 192)
  /-- CFG_RESP (R846): A CFG_RESP packet completes a head register access. -/
  | cfgResp (n : Fin 192) (ok : Bool) (tag status : Fin 256) (words : List Nat)
  /-- CFG_TIMEOUT (R573): A CFG request unanswered 100 µs is resent, then counted a timeout. -/
  | cfgTimeout (n : Fin 192) (tag : Fin 256)
  /-- TELEM_PACKET (R574): A TELEM packet is received, or discarded on bad CRC. -/
  | telemPacket (n : Fin 192) (ok : Bool) (bad : Nat)
  /-- STATUS_RECORD (R574): A STATUS record updates head status and the head band. -/
  | statusRecord (n : Fin 192) (flags : Fin 8) (temp supply : Fin 65536) (chunks tokens launches : Fin 256)
  /-- LAMP_TEMP_RECORD (R423): A LAMP_TEMP record gives string temperatures for derating. -/
  | lampTempRecord (n : Fin 192) (temps : List Nat)
  /-- TICK_RECORD (R574): A TICK record supplies a schedule's measurements to loop records. -/
  | tickRecord (n : Fin 192) (tick : Nat) (j : Fin 8) (vals : List Nat)
  /-- SAMPLE_RECORD (R430): A SAMPLE record is classified OPEN, SHORT or GOOD, confirming faults. -/
  | sampleRecord (n : Fin 192) (stag : Fin 256) (v i : Fin 65536) (sensors : List Nat)
  /-- INDEX_RECORD (R508): An INDEX record reports a wheel index. -/
  | indexRecord (n : Fin 192) (ht : Nat) (frac : Fin 16) (merged : Nat)
  /-- DRIVER_RECORD (R433): A DRIVER record acknowledges rill tags and reports failed bypass positions. -/
  | driverRecord (n : Fin 192) (i : Fin 16) (present high : Bool) (tag : Fin 256) (faults : Fin 4096)
  /-- LINKQ_RECORD (R574): A LINKQ record reports the head's lane FOMs. -/
  | linkqRecord (n : Fin 192) (foms : List Nat)
  /-- FAULT_RECORD (R574): A FAULT record reports a head fault code. -/
  | faultRecord (n : Fin 192) (code : Fin 65536)
  /-- TELEM_STALE (R576): No STATUS record for STALE ms sets TEL_STALE. -/
  | telemStale (n : Fin 192)
  /-- PARK_ACK (R580): A PARK_ACK acknowledges PARK and completes identification. -/
  | parkAck (n : Fin 192) (ok : Bool) (seq : Fin 256)
  /-- PARK_RESEND (R585): An unacknowledged PARK is resent every 100 µs. -/
  | parkResend (n : Fin 192)
  /-- PARK_TIMEOUT (R585): PARK unacknowledged after 10 ms is counted and resending stops. -/
  | parkTimeout (n : Fin 192)
  /-- RETRAIN_REQ (R588): A head RETRAIN_REQ is acknowledged and the port retrains. -/
  | retrainReq (n : Fin 192) (ok : Bool) (mask : Fin 16) (seq : Fin 256)
  /-- WIDTH_REQ (R588): A head WIDTH_REQ is taken as a lane loss report. -/
  | widthReq (n : Fin 192) (ok : Bool) (mask : Fin 16) (seq : Fin 256)
  /-- WIDTH_ACK (R590): A WIDTH_ACK of the current request arms the width switch. -/
  | widthAck (n : Fin 192) (ok : Bool) (seq : Fin 256)
  /-- RETRAIN_ACK (R589): A RETRAIN_ACK completes the device's retrain request. -/
  | retrainAck (n : Fin 192) (ok : Bool) (seq : Fin 256)
  /-- PASS_THROUGH_REQUEST (R593): EPROT_PASS_CTRL.GO sends a pass-through CFG request. -/
  | passThroughRequest (n : Fin 192)
  /-- EPROT_CNT_CLR (R593): EPROT_CTRL.CNT_CLR clears the protocol counters. -/
  | eprotCntClr (n : Fin 192)
  /-- DRAM_READ (R608): A read request to DRAM is scheduled, ECC-checked and delivered or poisoned. -/
  | dramRead (a : Fin 35184372088832) (len : Fin 65537) (asker : Asker) (keep : Bool) (blocked : Nat) (errs : List (Nat × Bool × Fin 10 × Bool)) (drfm : Nat) (stale : Bool)
  /-- DRAM_WRITE (R605): A write request is queued, waiting while the queue is full. -/
  | dramWrite (a : Fin 35184372088832) (bytes : List Byte) (asker : Asker) (keep : Bool) (errs : List (Nat × Bool × Fin 10 × Bool)) (drfm : Nat)
  /-- DRAM_PARTIAL_WRITE (R607): A partial write is merged or read-modify-written. -/
  | dramPartialWrite (a : Fin 35184372088832) (bytes : List Byte) (asker : Asker) (keep : Bool) (err : Option (Bool × Fin 10 × Bool)) (drfm : Nat)
  /-- REQUEST_AGED (R700): A P5–P7 request waiting 1 ms is promoted to P4. -/
  | requestAged (i : Nat)
  /-- REFRESH_DUE (R610): A rank's all-bank refresh falls due. -/
  | refreshDue (d : Fin 4) (m : Fin 8) (r : Fin 4)
  /-- RETRAIN_PAUSE_DUE (R612): A rank's retraining pause falls due and starts when staging allows. -/
  | retrainPauseDue (d : Fin 4) (m : Fin 8) (r : Fin 4) (ahead : Bool)
  /-- RETRAIN_PAUSE_END (R612): A retraining pause completes and held refreshes are issued. -/
  | retrainPauseEnd (d : Fin 4) (m : Fin 8) (bad : Bool)
  /-- PAUSE_FORCED (R613): A pause overdue by OVERDUE ms starts at the next slot. -/
  | pauseForced (d : Fin 4) (m : Fin 8) (r : Fin 4)
  /-- SELF_REFRESH_ENTRY (R614): A channel idle for IDLE µs enters self-refresh. -/
  | selfRefreshEntry (d : Fin 4) (m : Fin 8) (scrub : Bool)
  /-- DDR_ALERT (R624): ALERT_n for a parity error replays commands from the retry buffer. -/
  | ddrAlert (d : Fin 4) (m : Fin 8) (replayed : Fin 256) (again : Bool) (merged : Nat)
  /-- FULL_RETRAIN_DONE (R625): A full retrain ends; on failure the channel becomes FAILED. -/
  | fullRetrainDone (d : Fin 4) (m : Fin 8) (ok : Bool)
  /-- DDR_THERMAL_READ (R609): A module thermal sensor read sets the channel band. -/
  | ddrThermalRead (d : Fin 4) (m : Fin 8) (t : Option Int)
  /-- INIT_BLOCK_DONE (R618): A 1 MiB block is initialised; the last sets INIT_DONE. -/
  | initBlockDone (d : Fin 4)
  /-- SCRUB_PASS_END (R623): A patrol scrub pass ends. -/
  | scrubPassEnd (d : Fin 4) (m : Fin 8)
  /-- BUCKET_LEAK (R626): Every LEAK s each non-zero bucket falls by 1. -/
  | bucketLeak (d : Fin 4)
  /-- DDR_MIGRATE (R627): DDR_CTRL.MIGRATE starts a spare-rank migration or is rejected. -/
  | ddrMigrate (d : Fin 4) (m : Fin 8) (r : Fin 4)
  /-- RANK_MIGRATION_END (R628): The last granule is copied and the spare takes the logical rank. -/
  | rankMigrationEnd (d : Fin 4) (m : Fin 8)
  /-- DDR_CNT_CLR (R632): DDR_CTRL.CNT_CLR clears the channel counters. -/
  | ddrCntClr (d : Fin 4) (m : Fin 8)
  /-- DDR_DIE_CNT_CLR (R633): DDR_DIE_CTRL.CNT_CLR clears DDR_DIE_OOR_CNT. -/
  | ddrDieCntClr (d : Fin 4)
  /-- DDR_DIE_WQ_WRITE (R604): A write of DDR_DIE_WQ with LOW at or above HIGH is rejected. -/
  | ddrDieWqWrite (d : Fin 4) (high low : Fin 64)
  /-- APERTURE_WRITE (R639): A BAR2 write reaches APT + offset after the rights check. -/
  | apertureWrite (t : Fin 257) (ofs : Nat) (bytes : List Byte)
  /-- APERTURE_READ (R640): A BAR2 read returns data, 0xFF on rights fault, or poisoned completion. -/
  | apertureRead (t : Fin 257) (ofs : Nat) (len : Fin 4097)
  /-- APERTURE_BASE_WRITE (R638): A write of SLUICE_APT_HI makes a new aperture base apply. -/
  | apertureBaseWrite (t : Fin 257) (v : Nat)
  /-- SEGMENT_WRITE (R642): A segment table write governs later checks. -/
  | segmentWrite (t : Fin 257) (e : Fin 256) (hi : Bool) (v : Nat)
  /-- RING_ENABLE (R644): SLUICE_RING_CFG.EN written 1 checks and enables the ring pair. -/
  | ringEnable (t : Fin 257) (r : Fin 16)
  /-- RING_DISABLE (R647): EN written 0 stops taking commands. -/
  | ringDisable (t : Fin 257) (r : Fin 16)
  /-- SQ_DOORBELL (R645): A write of SLUICE_SQ_TAIL makes new commands available to take. -/
  | sqDoorbell (t : Fin 257) (r : Fin 16) (v : Nat)
  /-- RING_RIGHTS_LOST (R647): A ring access without rights stops the ring. -/
  | ringRightsLost (t : Fin 257) (r : Fin 16)
  /-- CQ_HEAD_WRITE (R646): A write of SLUICE_CQ_HEAD frees completion space and releases held completions. -/
  | cqHeadWrite (t : Fin 257) (r : Fin 16) (v : Nat)
  /-- CQ_IRQ_TIMER (R648): TIME µs after an unsignalled completion the MSI-X vector is signalled. -/
  | cqIrqTimer (t : Fin 257) (r : Fin 16)
  /-- RING_NOP (R649): The ring NOP command completes. -/
  | ringNop (t : Fin 257) (r : Fin 16)
  /-- SURF_REG (R160): SURF_REG registers a surface descriptor under a handle. -/
  | surfReg (t : Fin 257) (r : Fin 16)
  /-- SURF_DEREG (R161): SURF_DEREG empties a handle not bound to a layer. -/
  | surfDereg (t : Fin 257) (r : Fin 16)
  /-- LAYER_UPDATE (R650): LAYER_UPDATE writes pending layer fields and may arm a fence. -/
  | layerUpdate (t : Fin 257) (r : Fin 16)
  /-- COMMIT (R209): COMMIT flips the function's pending fields at the first suitable frame boundary. -/
  | commit (t : Fin 257) (r : Fin 16)
  /-- FENCE_WAIT (R656): FENCE_WAIT stops taking later commands until a memory value reaches a target. -/
  | fenceWait (t : Fin 257) (r : Fin 16)
  /-- FENCE_WAIT_POLL (R656): Every 10 µs the FENCE_WAIT address is read and compared. -/
  | fenceWaitPoll (t : Fin 257) (r : Fin 16)
  /-- FENCE_WAIT_DEADLINE (R656): The FENCE_WAIT deadline passes and it completes REFUSED_CAPACITY. -/
  | fenceWaitDeadline (t : Fin 257) (r : Fin 16)
  /-- PROG_LOAD (R323): PROG_LOAD loads a sequence image into the inactive bank after the loader checks. -/
  | progLoad (t : Fin 257) (r : Fin 16)
  /-- PROG_LOAD_LOOP (R458): PROG_LOAD with LOOP places a loop image in a slot. -/
  | progLoadLoop (t : Fin 257) (r : Fin 16)
  /-- BANK_SWAP (R655): BANK_SWAP requests a swap from the sequencer owner. -/
  | bankSwap (t : Fin 257) (r : Fin 16)
  /-- CLIP_PLAY (R658): CLIP_PLAY copies a clip table and shows its surfaces from F0. -/
  | clipPlay (t : Fin 257) (r : Fin 16)
  /-- CLIP_STOP (R659): CLIP_STOP ends a clip at a frame boundary. -/
  | clipStop (t : Fin 257) (r : Fin 16)
  /-- STATUS_READ (R657): STATUS_READ writes a copy of a channel view. -/
  | statusRead (t : Fin 257) (r : Fin 16)
  /-- GRANT (R662): GRANT gives a tenant layers, sequencer and reservation after admission. -/
  | grant (t : Fin 257) (r : Fin 16)
  /-- REVOKE (R664): REVOKE removes a grant at the next flip instant. -/
  | revoke (t : Fin 257) (r : Fin 16)
  /-- PREEMPT_CMD (R654): The ring PREEMPT command acts as a pre-emption. -/
  | preemptCmd (t : Fin 257) (r : Fin 16)
  /-- SLUICE_RATE_INTERVAL (R675): Each 1 ms the per-holder rate limits restart. -/
  | sluiceRateInterval (d : Fin 4) (mb : Nat)
  /-- SLUICE_CAP_WRITE (R676): A write of SLUICE_DIE_CAP recomputes capacity and may set OVER. -/
  | sluiceCapWrite (d : Fin 4) (v : Nat)
  /-- SLUICE_TCNT_CLR (R687): SLUICE_TCTRL.CNT_CLR clears the tenant counters. -/
  | sluiceTcntClr (t : Fin 257)
  /-- EVENT_RING_ENABLE (R686): SLUICE_EV_CFG.EN enables the event ring and resets its indices. -/
  | eventRingEnable (t : Fin 257)
  /-- EVENT_RING_READ (R679): A write of SLUICE_EV_RD frees space; an overflow record follows drops. -/
  | eventRingRead (t : Fin 257) (v : Nat)
  /-- FLR_VF (R681): An FLR of a VF resets its tenant state. -/
  | flrVf (t : Fin 257)
  /-- PF0_LINK_RESET (R682): PCIe link-down, hot reset or FLR of PF0 clears VF Enable and resets PF0 state. -/
  | pf0LinkReset (kind : Fin 3)
  /-- D2D_CRC_ERROR (R693): A CRC error on a module is retried by the adapter. -/
  | d2dCrcError (d : Fin 4) (k : Fin 2) (dir : Fin 2) (lane : Fin 68)
  /-- D2D_RETRAIN (R694): Excess lane CRC errors retrain the module with repair. -/
  | d2dRetrain (d : Fin 4) (k : Fin 2)
  /-- D2D_RETRAIN_CMD (R694): HUB_D2D_CTRL.RETRAIN retrains a module with repair. -/
  | d2dRetrainCmd (d : Fin 4) (k : Fin 2)
  /-- D2D_RETRAIN_DONE (R695): A module retrain ends with repair or the module DOWN. -/
  | d2dRetrainDone (d : Fin 4) (k : Fin 2) (ok : Bool) (tx rx : Fin 5)
  /-- D2D_MODULE_RETRY (R695): A DOWN module is retried every 1 s. -/
  | d2dModuleRetry (d : Fin 4) (k : Fin 2)
  /-- D2D_CNT_CLR (R727): HUB_D2D_CTRL.CNT_CLR clears die-link counters. -/
  | d2dCntClr (d : Fin 4)
  /-- FAB_CNT_CLR (R726): HUB_FAB_CTRL.CNT_CLR clears the fabric counters. -/
  | fabCntClr
  /-- CDC_RESYNC (R708): After a reset of one side, a crossing resynchronises on the answer. -/
  | cdcResync (loc : Fin 5) (i : Fin 64)
  /-- CDC_RESYNC_RETRY (R708): An unanswered resynchronisation is retried every 100 µs. -/
  | cdcResyncRetry (loc : Fin 5) (i : Fin 64)
  /-- LOCK_ACQUIRE (R719): LOCK_CMD.ACQUIRE makes the writer owner of a free lock. -/
  | lockAcquire (a : Fin 65536) (n : Fin 256)
  /-- LOCK_RELEASE (R719): LOCK_CMD.RELEASE by the owner frees the lock. -/
  | lockRelease (a : Fin 65536) (n : Fin 256)
  /-- LOCK_CLEAR_BROKEN (R722): LOCK_CMD.CLEAR_BROKEN by the owner clears BROKEN. -/
  | lockClearBroken (a : Fin 65536) (n : Fin 256)
  /-- LOCK_FORCE (R721): LOCK_CTRL.FORCE breaks a named lock. -/
  | lockForce (a : Fin 65536) (n : Fin 256)
  /-- LOCK_CNT_CLR (R729): LOCK_CTRL.CNT_CLR clears LOCK_BROKEN_CNT. -/
  | lockCntClr
  /-- LOCK_LEASE_EXPIRED (R721): A lease expiry breaks the lock. -/
  | lockLeaseExpired (n : Fin 256)
  /-- HK_SLOT_END (R731): At each 250 µs slot end the four conversions take effect. -/
  | hkSlotEnd (a b : Int × Int × Int × Int) (ok : Fin 16)
  /-- SENSOR_EXCLUDED (R733): A die sensor invalid for 8 rounds is excluded. -/
  | sensorExcluded (i : Fin 104)
  /-- THERM_RESTORED (R741): 8 conversions without fault make a thermistor valid again. -/
  | thermRestored (n : Fin 32)
  /-- HK_CNT_CLR (R765): HK_CTRL.CNT_CLR clears HK_THERM_FAULT_CNT. -/
  | hkCntClr
  /-- CAL_GO (R745): HK_CAL_CTRL.GO starts a calibration job, refusing unfit targets. -/
  | calGo (v : Fin 4294967296)
  /-- CAL_RUN_DONE (R749): A calibration run completes; after run 2 the target is accepted or disagrees. -/
  | calRunDone (t : Fin 192) (vals : List (Option (Fin 65536)))
  /-- CAL_DEADLINE (R749): The job deadline passes and unfinished targets are STARVED. -/
  | calDeadline
  /-- VERNIER_APPLY (R752): An accepted VERNIER result takes effect at an HT boundary or when the die is idle. -/
  | vernierApply (d : Fin 4)
  /-- HK_CAL_DATA_READ (R845): A read of HK_CAL_DATA returns a value and advances WORD. -/
  | hkCalDataRead
  /-- PIPE_SOFT_FAILURE (R755): A soft pipeline check failure is counted and may start a substitution. -/
  | pipeSoftFailure (d : Fin 4) (p : Fin 52)
  /-- PIPE_HARD_FAILURE (R759): A hard pipeline failure stops the pipeline and starts a hard substitution. -/
  | pipeHardFailure (d : Fin 4) (p : Fin 52)
  /-- OXBOW_REQUEST (R755): HUB_OXB_CTRL.SUBST requests a substitution or is rejected. -/
  | oxbowRequest (d : Fin 4) (k : Fin 64)
  /-- OXB_CNT_CLR (R767): HUB_OXB_CTRL.CNT_CLR clears the Oxbow counters. -/
  | oxbCntClr (d : Fin 4)
  /-- OXBOW_LOADED (R756): The spare pipeline finishes loading. -/
  | oxbowLoaded (d : Fin 4)
  /-- OXBOW_FRAME_COMPARE (R757): A shadow frame's signatures are compared, succeeding or mismatching. -/
  | oxbowFrameCompare (d : Fin 4) (comp plane item : Bool)
  /-- OXBOW_SWITCH (R758): The Weir takes items from the spare after the mark of F_s. -/
  | oxbowSwitch (d : Fin 4)
  /-- OXBOW_SWITCHED (R760): The switch completes and the old pipeline is freed or retired. -/
  | oxbowSwitched (d : Fin 4)
  /-- DEVICE_RECORD_WRITE (R782): The device writes changes of its own records as one write. -/
  | deviceRecordWrite (cal : Bool)
  /-- RECORD_COPY_DONE (R781): A record copy is programmed and read back; after the last the write completes. -/
  | recordCopyDone (ok : Bool)
  /-- RECORD_REWRITE (R780): A copy differing from the chosen content is rewritten after start-up. -/
  | recordRewrite (k : Fin 4) (c : Fin 3) (ok : Bool)
  /-- CFG_RECORD_WRITE (R783): CFG_CTRL.WRITE starts a PF0 record write after checks. -/
  | cfgRecordWrite (k : Fin 256)
  /-- CFG_ACTIVATE (R784): CFG_CTRL.ACTIVATE requests firmware activation. -/
  | cfgActivate
  /-- CFG_CNT_CLR (R796): CFG_CTRL.CNT_CLR clears the configuration store counters. -/
  | cfgCntClr
  /-- FW_IMAGE_START (R784): At the next 1 ms HT boundary the loaded image starts. -/
  | fwImageStart
  /-- FW_SELF_TEST_DONE (R785): The new image's self-test passes or fails. -/
  | fwSelfTestDone (ok : Bool)
  /-- FW_SELF_TEST_TIMEOUT (R785): The self-test exceeds 50 ms and the engine reverts. -/
  | fwSelfTestTimeout
  /-- REG_READ (R774): Management REG_READ reads PF0 BAR0 words with MGT_SNAP. -/
  | regRead (tag : Fin 256) (a : Fin 4294967296) (count : Fin 256)
  /-- REG_WRITE (R774): Management REG_WRITE writes PF0 BAR0 words as the management agent. -/
  | regWrite (tag : Fin 256) (a : Fin 4294967296) (count : Fin 256) (ws : List (Fin 4294967296))
  /-- STATUS (R772): Management STATUS returns status registers. -/
  | status (tag : Fin 256)
  /-- LOG_READ (R772): LOG_READ returns hold log bytes. -/
  | logRead (tag : Fin 256) (ofs : Fin 4294967296) (len : Fin 65536)
  /-- REC_READ (R772): REC_READ returns bytes of a record copy. -/
  | recRead (tag k c : Fin 256) (ofs : Fin 4294967296) (len : Fin 65536)
  /-- REC_WRITE (R783): REC_WRITE stages a record chunk and on LAST starts the write. -/
  | recWrite (tag k : Fin 256) (last : Bool) (ofs : Fin 4294967296) (data : List (Fin 256))
  /-- FW_ACTIVATE (R784): Management FW_ACTIVATE requests firmware activation. -/
  | fwActivate (tag : Fin 256)
  /-- RELEASE_MGT (R792): RELEASE sets the named management values to none. -/
  | releaseMgt (tag : Fin 256) (mode holds ceils : Bool)
  /-- RESET_ENDPOINT (R771): RESET_ENDPOINT resets the management endpoint. -/
  | resetEndpoint (tag : Fin 256)
  /-- MGT_INVALID_CMD (R773): A reserved management CMD completes INVALID. -/
  | mgtInvalidCmd (tag cmd : Fin 256)
  /-- PLDM_REQUEST (R769): A PLDM request is answered. -/
  | pldmRequest (r : PldmReq)
  /-- SPDM_REQUEST (R786): An SPDM request is answered, including IDE key exchange. -/
  | spdmRequest (mbox : Fin 258) (r : SpdmReq)
  /-- I3C_RSTACT (R771): An I3C RSTACT resets the management endpoint. -/
  | i3cRstact
  /-- I3C_DYNAMIC_ADDRESS (R770): Assignment of an I3C dynamic address switches the port to I3C. -/
  | i3cDynamicAddress
  /-- SET_ENDPOINT_ID (R771): An MCTP Set Endpoint ID changing the EID resets the endpoint. -/
  | setEndpointId (eid : Fin 256)
  /-- MGT_CNT_CLR (R795): MGT_CTRL.CNT_CLR clears management counters. -/
  | mgtCntClr
  /-- DIE_RESET (R804): HUB_DIE_CTRL.RESET written 1 holds the Reach die in reset. -/
  | dieReset (d : Fin 4)
  /-- DIE_RELEASE (R804): HUB_DIE_CTRL.RESET written 0 allows the die to leave reset. -/
  | dieRelease (d : Fin 4)
  /-- DIE_LEAVE_RESET (R804): The die leaves reset when RESET and ISOLATED are 0 and a module is UP. -/
  | dieLeaveReset (d : Fin 4)
  /-- DIE_READY (R77): The die's memory retrains and it accepts ARM; DIE_OFFLINE clears. -/
  | dieReady (d : Fin 4)
  /-- DIE_READY_TIMEOUT (R77): A die not ready 800 ms after leaving reset is isolated. -/
  | dieReadyTimeout (d : Fin 4)
  /-- REGISTER_PAIR_READ (R16): A read that returns any byte of the lower word of a register pair latches the upper word for the reading function. -/
  | registerPairRead (fn : Fin 257) (at_ : BusSpan)
  /-- HW_CHARACTER_LOCK (R118): A Headwater receiver achieves character lock on K28.5 commas. -/
  | hwCharacterLock (k : Fin 3)
  /-- DERATE_TELEMETRY_STALE (R423): A string's last lamp-temperature telemetry sample becomes older than LAMP_DERATE2.STALE ms and its derating source falls back to the thermistor or to none. -/
  | derateTelemetryStale (n : Fin 192) (k : Fin 6)
  /-- HOLD_ISLAND_START (R843): The hold island becomes powered after being unpowered, as VDDIO enters its range or VHOLD rises above the stop voltage, and starts with no retained state. -/
  | holdIslandStart (vhold : Bool)
  /-- VF_ENABLE (R682): The host sets VF Enable in PF0's SR-IOV capability, bringing VF1–VF256 into existence. -/
  | vfEnable
deriving DecidableEq, Repr

end Sys2Proof
end

