-- ==== Sys2Proof/Machine/Operands.lean ====
section
/-!
DEFINITION. The operand forms of a Vilti instruction word (spec/07_vilti_isa.md R282 to R293, R298 to R320): its
fields, the bits an opcode names, the register indices each field admits, and a plane descriptor.
-/

namespace Sys2Proof.Machine
open Sys2Proof

/-! ### Fields (R282, R285) -/

def opcode (w : Nat) : Nat := bits w 26 6
def iRD (w : Nat) : Nat := bits w 21 5
def iRA (w : Nat) : Nat := bits w 16 5
def iRB (w : Nat) : Nat := bits w 10 5
def iFB (w : Nat) : Nat := bits w 11 5
def iFC (w : Nat) : Nat := bits w 6 5
def iI (w : Nat) : Bool := bitOf w 15
def iImm15 (w : Nat) : Nat := bits w 0 15
def iImm (w : Nat) : Nat := bits w 0 16
def iTarget (w : Nat) : Nat := bits w 0 12
def iCond (w : Nat) : Nat := bits w 22 4
/-- STR of LAMP, SAMPLE and CEIL, and REG of LAMP, ADVT and CEIL. -/
def iStr (w : Nat) : Nat := bits w 22 3
def iReg (w : Nat) : Bool := bitOf w 21
/-- REG of LINE and RESET. -/
def iReg24 (w : Nat) : Bool := bitOf w 24
def iUnit (w : Nat) : Nat := bits w 22 2

/-- Ticks of a UNIT code (R304). -/
def unitTicks (u : Nat) : Nat := if u = 0 then 1 else if u = 1 then 4 else 4000

/-- The bits that an opcode's field list names: low bit and width of each (R285, R286). -/
def namedBits (w : Nat) : List (Nat × Nat) :=
  let op := opcode w
  let op2 := if iI w then [(0, 15)] else [(10, 5)]
  if op = 0x02 then [(21, 5), (20, 1), (16, 2), (0, 16)]
  else if op = 0x03 then [(21, 5), (16, 5), (15, 1), (14, 1)]
  else if 0x04 ≤ op && op ≤ 0x0A then [(21, 5), (16, 5), (15, 1)] ++ op2
  else if op = 0x0B then [(21, 1), (16, 5), (15, 1)] ++ op2
  else if op = 0x0C || op = 0x0E then [(0, 12)]
  else if op = 0x0D then [(22, 4), (0, 12)]
  else if op = 0x10 || op = 0x11 then [(21, 5), (16, 5), (15, 1), (0, 15)]
  else if op = 0x12 then [(0, 16)]
  else if op = 0x18 then [(24, 2), (23, 1), (16, 5), (0, 11)]
  else if op = 0x19 then [(24, 1), (16, 5), (0, 12)]
  else if op = 0x1A then [(24, 1), (16, 5), (0, 16)]
  else if op = 0x1B || op = 0x28 then [(22, 3), (21, 1), (16, 5), (0, 16)]
  else if op = 0x1C then [(22, 3), (20, 2), (0, 16)]
  else if op = 0x1D then [(16, 5)]
  else if op = 0x1E then [(22, 2), (21, 1), (16, 5), (0, 16)]
  else if op = 0x20 then [(16, 4), (0, 16)]
  else if op = 0x23 then [(22, 2), (0, 16)]
  else if op = 0x2A then [(0, 2)]
  else if op = 0x2B then [(4, 1), (0, 4)]
  else if op = 0x2C then [(20, 4), (16, 4), (0, 8)]
  else if op = 0x30 || op = 0x31 || op = 0x32 || op = 0x34 || op = 0x35 then [(21, 5), (16, 5), (11, 5)]
  else if op = 0x33 || op = 0x36 then [(21, 5), (16, 5), (11, 5), (6, 5)]
  else if op = 0x37 || op = 0x38 then [(21, 5), (16, 5)]
  else if op = 0x39 then [(21, 5), (16, 5), (13, 3)]
  else if op = 0x3A then [(21, 5), (16, 5), (0, 9)]
  else if op = 0x3B then [(21, 5), (0, 4)]
  else if op = 0x3C || op = 0x3F then [(16, 5), (0, 4)]
  else if op = 0x3E then [(16, 5), (11, 5), (6, 5)]
  else []

/-- A bit that the opcode does not name is 1 (R282). -/
def reservedSet (w : Nat) : Bool :=
  w % 2 ^ 32 != (namedBits w).foldl (fun a f => a + bits w f.1 f.2 * 2 ^ f.1) (opcode w * 2 ^ 26)

/-- The opcode belongs to the profile (R285). -/
def opInProfile (loop : Bool) (op : Nat) : Bool :=
  op ≤ 0x12 || (if loop then 0x30 ≤ op else (0x18 ≤ op && op ≤ 0x23) || (0x28 ≤ op && op ≤ 0x2C))

/-- A privileged opcode (R285, R309). -/
def privileged (op : Nat) : Bool := 0x28 ≤ op && op ≤ 0x2C

/-- A reserved value or combination of a field (R287 to R291, R298, R303, R304, R313, R317). -/
def reservedValue (loop : Bool) (w : Nat) : Bool :=
  let op := opcode w
  (op == 0x02 && (bits w 16 2 == 3 || (!loop && bitOf w 20)))
  || (op == 0x03 && !loop && (bitOf w 15 || bitOf w 14))
  || (op == 0x0B && (if loop then bitOf w 21 && iI w else bitOf w 21))
  || (op == 0x0D && (0xA ≤ iCond w || (loop && (iCond w == 8 || iCond w == 9))))
  || ((op == 0x10 || op == 0x11) && !loop && bitOf w 15)
  || (op == 0x18 && bits w 24 2 == 3)
  || (op == 0x1C && bits w 20 2 == 3)
  || ((op == 0x1E || op == 0x23) && iUnit w == 3)
  || (op == 0x2A && bits w 0 2 == 3)
  || (op == 0x39 && 5 ≤ bits w 13 3)

/-- A register index is not valid for its field (R283), or AT has an odd RA or one above 14 (R304). -/
def badRegister (loop : Bool) (w : Nat) : Bool :=
  let op := opcode w
  let n := if loop then 8 else 16
  let g := fun (r : Nat) => r < n
  if op = 0x02 then !(g (iRD w) || (loop && bitOf w 20))
  else if op = 0x03 then
    !((g (iRD w) || (!loop && iRD w == 18) || (loop && bitOf w 15))
      && (g (iRA w) || (!loop && 16 ≤ iRA w && iRA w ≤ 20)
        || (loop && (bitOf w 14 || (16 ≤ iRA w && iRA w ≤ 18)))))
  else if 0x04 ≤ op && op ≤ 0x0A then !(g (iRD w) && g (iRA w) && (iI w || g (iRB w)))
  else if op = 0x0B then !((loop && bitOf w 21) || (g (iRA w) && (iI w || g (iRB w))))
  else if op = 0x10 || op = 0x11 then
    !((g (iRD w) || (loop && bitOf w 15)) && (g (iRA w) || iRA w == 31))
  else if op = 0x18 || op = 0x19 || op = 0x1A || op = 0x1B || op = 0x1E || op = 0x28 then !g (iRA w)
  else if op = 0x1D then iRA w % 2 == 1 || 14 < iRA w
  else if op = 0x39 then
    if bits w 13 3 ≤ 1 then !g (iRA w) else !g (iRD w)
  else false

/-- The instruction has a TARGET (R284). -/
def hasTarget (op : Nat) : Bool := op == 0x0C || op == 0x0D || op == 0x0E

/-- The channel's kind supports the opcode (R308): kind codes of R33. -/
def kindAllows (kind op : Nat) : Bool :=
  if op = 0x18 then kind != 1
  else if op = 0x19 then kind == 1
  else if op = 0x1A || op = 0x2B then kind == 0
  else if op = 0x21 then 2 ≤ kind
  else true

/-! ### Plane descriptors (R296) -/

/-- The fields of the 64-bit value `d` of a descriptor. -/
def dSlice (d : Nat) : Nat := bits d 0 6
def dStr (d : Nat) : Nat := bits d 8 3
def dDark (d : Nat) : Bool := bitOf d 11
def dAmp (d : Nat) : Nat := bits d 16 16
def dDur (d : Nat) : Nat := bits d 32 24
def dReserved (d : Nat) : Bool := bits d 6 2 != 0 || bits d 12 4 != 0 || bits d 56 8 != 0

/-- The settle interval t_s(a1, a2) of a head with settle time `ts` and slew time `tfs` (R267). -/
def settle (ts tfs a1 a2 : Nat) : Nat := ts + ceilDiv (((a1 : Int) - a2).natAbs * tfs) 65535

end Sys2Proof.Machine
end

