-- ==== Sys2Proof/Machine/Image.lean ====
section
/-!
DEFINITION. Program images and the loader's checks (spec/07_vilti_isa.md R322 to R324; spec/08_sequence_programs.md
R366).
-/

namespace Sys2Proof.Machine
open Sys2Proof

/-- A program image (R322): header fields, instruction words, and descriptors (64-bit) or data words. -/
structure Image where
  count : Nat := 0
  entry : Nat := 0
  x2 : Nat := 0xFFFF
  x1 : Nat := 0xFFFF
  dcount : Nat := 0
  crc : Nat := 0
  words : List Nat := []
  body : List Nat := []
deriving DecidableEq, Repr

/-- A little-endian field of a byte list. -/
def field (l : List Byte) (at_ len : Nat) : Nat := leVal ((l.drop at_).take len)

/-- The `n` little-endian values of `w` bytes from `at_` on. -/
def fields (l : List Byte) (at_ w n : Nat) : List Nat := (List.range n).map (fun i => field l (at_ + w * i) w)

/-- The header is wrong (reason 0x01): MAGIC, PROFILE, VERSION, ranges, reserved bytes or the length. -/
def headerBad (loop : Bool) (l : List Byte) : Bool :=
  let count := field l 6 2
  let dcount := field l 14 2
  l.length < 32 || field l 0 4 != 0x544C4956 || field l 4 1 != (if loop then 2 else 1) || field l 5 1 != 1
    || count == 0 || (if loop then 1024 else 4096) < count || (if loop then 512 else 2048) < dcount
    || field l 20 12 != 0 || (loop && field l 10 4 != 0)
    || l.length != 32 + 4 * count + (if loop then 4 else 8) * dcount

/-- The image of a byte list whose header is right. -/
def parseImage (loop : Bool) (l : List Byte) : Image :=
  let count := field l 6 2
  let dcount := field l 14 2
  { count, entry := field l 8 2, x2 := if loop then 0xFFFF else field l 10 2, x1 := if loop then 0xFFFF else field l 12 2
    dcount, crc := field l 16 4, words := fields l 32 4 count
    body := fields l (32 + 4 * count) (if loop then 4 else 8) dcount }

/-- The CRC over the bytes from byte 32 differs (reason 0x03). -/
def crcBad (l : List Byte) : Bool := crc32 ((l.drop 32).map (·.toNat)) != field l 16 4

/-- The entries an image declares. -/
def Image.entries (m : Image) : List Nat := m.entry :: ([m.x2, m.x1].filter (· != 0xFFFF))

/-! ### The call graph (R324) -/

/-- Where sequential flow, BR and BRC lead from instruction `i`. -/
def flowFrom (m : Image) (i : Nat) : List Nat :=
  let w := m.words.getD i 0
  let op := opcode w
  if op = 0x0F || op = 0x01 then []
  else if op = 0x0C then [iTarget w]
  else if op = 0x0D then [iTarget w, i + 1]
  else [i + 1]

/-- Instructions reached from those of `todo` without passing a RET or HALT. -/
def reach (m : Image) : Nat → List Nat → List Nat → List Nat
  | 0, _, seen => seen
  | _, [], seen => seen
  | fuel + 1, i :: t, seen =>
    if m.count ≤ i || seen.contains i then reach m fuel t seen
    else reach m fuel (flowFrom m i ++ t) (i :: seen)

/-- The edges of a node: the targets of the CALLs reached from it. -/
def callEdges (m : Image) (a : Nat) : List Nat :=
  ((reach m (3 * m.count + 3) [a] []).filterMap (fun i =>
    let w := m.words.getD i 0
    if opcode w = 0x0E then some (iTarget w) else none)).dedup

/-- The nodes: entry points and CALL targets. -/
def callNodes (m : Image) : List Nat :=
  ((m.entries ++ m.words.filterMap (fun w => if opcode w = 0x0E then some (iTarget w) else none)).filter
    (· < m.count)).dedup

/-- The nodes from which a path of `k` edges starts. -/
def longPaths (g : List (Nat × List Nat)) : Nat → List Nat
  | 0 => g.map (·.1)
  | k + 1 =>
    let l := longPaths g k
    (g.filter (fun e => e.2.any l.contains)).map (·.1)

/-- A cycle, or a path longer than the call depth (reason 0x09). -/
def callsTooDeep (loop : Bool) (m : Image) : Bool :=
  longPaths ((callNodes m).map (fun a => (a, callEdges m a))) (if loop then 5 else 9) != []

/-! ### Reasons of R323 that rest on the content -/

def reasonIf (c : Bool) (r : Nat) : List Nat := if c then [r] else []

/-- Reasons 0x03 to 0x09 and 0x0C. -/
def contentReasons (loop tenant : Bool) (kind : Nat) (l : List Byte) (m : Image) : List Nat :=
  reasonIf (crcBad l) 0x03
  ++ reasonIf (m.words.any (fun w => !opInProfile loop (opcode w))) 0x04
  ++ reasonIf (m.words.any (fun w => opInProfile loop (opcode w) && (reservedSet w || reservedValue loop w))) 0x05
  ++ reasonIf (m.words.any (fun w => opInProfile loop (opcode w) && badRegister loop w)) 0x06
  ++ reasonIf (m.words.any (fun w => hasTarget (opcode w) && m.count ≤ iTarget w) || m.entries.any (m.count ≤ ·)) 0x07
  ++ reasonIf (tenant && m.words.any (fun w => privileged (opcode w))) 0x08
  ++ reasonIf (callsTooDeep loop m) 0x09
  ++ reasonIf (!loop && m.words.any (fun w => !kindAllows kind (opcode w))) 0x0C

/-! ### Static checks of a sequence image (R366) -/

/-- What the static checks need of the head: declared strings, minimum plane duration, settle and slew times. -/
structure HeadInfo where
  strings : Nat
  tmin : Nat
  ts : Nat
  tfs : Nat
deriving DecidableEq, Repr

/-- What they need of the plane format in effect. -/
structure FmtInfo where
  h : Nat
  blocks : Nat
  phi : Nat
  /-- PRI of each slice. -/
  pris : List Nat
deriving DecidableEq, Repr

/-- Ends a basic block. -/
def endsBlock (op : Nat) : Bool :=
  op == 0x0C || op == 0x0D || op == 0x0E || op == 0x0F || op == 0x01 || op == 0x1D || op == 0x1F || op == 0x20

/-- Instruction `i` starts a basic block. -/
def startsBlock (m : Image) (i : Nat) : Bool :=
  m.entries.contains i || m.words.any (fun w => hasTarget (opcode w) && iTarget w == i)
    || (i != 0 && endsBlock (opcode (m.words.getD (i - 1) 0)))

/-- What is known in a basic block. -/
structure Blk where
  on : Bool := false
  regs : List (Nat × Nat) := []
  dx : Option Nat := none
  /-- TC offset. -/
  off : Option Nat := some 0
  /-- The channel's last plane, and the last of each string with no LAMP since: descriptor and TC offset. -/
  prev : Option (Nat × Option Nat) := none
  byStr : List (Nat × Nat × Option Nat) := []
  /-- Amplitude levels: primary, amplitude. -/
  levels : List (Nat × Nat) := []
  bad : List Nat := []
deriving DecidableEq, Repr

/-- Two planes violate R268, the string read as at the first plane's amplitude. -/
def violates (hd : HeadInfo) (f : FmtInfo) (a : Nat × Nat) (b : Nat × Nat) : Bool :=
  let e := a.2 + 4 * dDur a.1
  let sp := (f.blocks - 1) * f.phi
  b.2 < (if dStr a.1 != dStr b.1 then e + sp + settle hd.ts hd.tfs 0 (dAmp b.1)
    else if dAmp a.1 = dAmp b.1 then e
    else e + sp + settle hd.ts hd.tfs (dAmp a.1) (dAmp b.1))

/-- Set or forget a register. -/
def Blk.setReg (b : Blk) (r : Nat) (v : Option Nat) : Blk :=
  { b with regs := (b.regs.filter (·.1 != r)) ++ (match v with
    | some x => [(r, x)]
    | none => []) }

def Blk.reg (b : Blk) (r : Nat) : Option Nat := (b.regs.find? (·.1 == r)).map (·.2)

/-- A PLANE with a known descriptor `d` at TC offset `t`. -/
def Blk.plane (hd : Option HeadInfo) (f : FmtInfo) (b : Blk) (d : Nat) (t : Option Nat) : Blk :=
  let lv := match f.pris[dSlice d]? with
    | some p => if dAmp d = 0 || b.levels.contains (p, dAmp d) then b.levels else (p, dAmp d) :: b.levels
    | none => b.levels
  let four := (List.range 4).any (fun p => 4 < (lv.filter (·.1 == p)).length)
  let same := (b.byStr.find? (·.1 == dStr d)).map (·.2)
  let viol := match hd, t with
    | some h, some t =>
      let chk := fun (p : Option (Nat × Option Nat)) => match p with
        | some (a, some ta) => violates h f (a, ta) (d, t)
        | _ => false
      chk b.prev || chk same
    | _, _ => false
  { b with
    levels := lv, prev := some (d, t), byStr := (dStr d, d, t) :: b.byStr.filter (·.1 != dStr d)
    bad := reasonIf viol 0x11 ++ reasonIf four 0x12 ++ b.bad }

/-- One instruction in a block. -/
def Blk.insn (m : Image) (hd : Option HeadInfo) (f : FmtInfo) (b : Blk) (w : Nat) : Blk :=
  let op := opcode w
  if op = 0x02 then
    b.setReg (iRD w) (if bits w 16 2 = 0 then some (toTwos 32 (sext 16 (iImm w)))
      else if bits w 16 2 = 1 then some (iImm w) else none)
  else if op = 0x03 then
    let v := if iRA w = 18 then b.dx else if iRA w < 16 then b.reg (iRA w) else none
    if iRD w = 18 then { b with dx := v.map (· % 4096) } else b.setReg (iRD w) v
  else if (0x04 ≤ op && op ≤ 0x0A) || op = 0x10 then b.setReg (iRD w) none
  else if op = 0x1E then
    { b with off := if iReg w then none else b.off.map (· + iImm w * unitTicks (iUnit w)) }
  else if op = 0x1B then { b with byStr := b.byStr.filter (·.1 != iStr w) }
  else if op = 0x19 then { b with bad := reasonIf (!iReg24 w && f.h ≤ bits w 0 12) 0x13 ++ b.bad }
  else if op = 0x1A then { b with bad := reasonIf (!iReg24 w && iImm w / 2 ^ f.blocks != 0) 0x13 ++ b.bad }
  else if op = 0x18 then
    let src := bits w 24 2
    let idx := if src = 0 then some (bits w 0 11) else if src = 2 then b.dx else none
    let d := (idx.filter (· < m.dcount)).map (fun i => m.body.getD i 0)
    let t := b.off
    let b := { b with
      dx := if src = 2 then b.dx.map (fun x => (x + 1) % 4096) else b.dx
      off := if !bitOf w 23 then b.off else match d, b.off with
        | some d, some t => some (t + 4 * dDur d)
        | _, _ => none }
    match d with
    | some d => b.plane hd f d t
    | none => { b with prev := none, byStr := [] }
  else b

/-- Descriptor check (reason 0x10). -/
def descBad (hd : Option HeadInfo) (d : Nat) : Bool :=
  dReserved d || (match hd with
    | some h => h.strings ≤ dStr d || (dDur d != 0 && 4 * dDur d < h.tmin)
    | none => false)

/-- The failing reasons of R366. -/
def staticReasons (hd : Option HeadInfo) (f : FmtInfo) (m : Image) : List Nat :=
  let b := m.words.zipIdx.foldl (fun (b : Blk) p =>
    let b := if startsBlock m p.2 then { on := true, bad := b.bad } else b
    if b.on then b.insn m hd f p.1 else b) ({} : Blk)
  reasonIf (m.body.any (descBad hd)) 0x10 ++ b.bad

end Sys2Proof.Machine
end

