-- ==== Sys2Proof/Machine/State.lean ====
section
/-!
DEFINITION. The state of the block: every register, queue, buffer, counter, mode and pin the specification gives it,
as plain data, and the queue of the commands that wait. The registers are one sparse table (`State.regs`) keyed by
field, whose unlisted fields read as their reset values (spec/00_scope.md R8 to R13); what the specification gives
the machine besides registers is held in the structures of this file, one per unit, in sparse tables keyed by channel,
string, slot, die and so on.
-/

namespace Sys2Proof.Machine
open Sys2Proof

/-- A sparse table: pairs of a key and a value, keys strictly rising, no value equal to the table's default. -/
abbrev Tbl (α : Type) := List (Nat × α)

/-- An event (spec/00_scope.md R19): its stamp, its code, its channel (0xFFFF for none) and its argument. -/
structure Event where
  stamp : Nat := 0
  code : Nat := 0
  channel : Nat := 0
  arg : Nat := 0
deriving DecidableEq, Repr

/-- What leaves the block in a step, for an observer outside it: packets and ordered sets of a port, rill signalling,
Headwater messages, AVSBus writes, signalled MSI-X vectors, answers to reads and management responses. It is emptied
at the start of every step (the model's own field). -/
inductive Out where
  /-- PARK on port `n` with sequence number `seq` (R585). -/
  | park (n seq : Nat)
  /-- CANCEL on port `n`: cause and threshold T_c (R397). -/
  | cancel (n cause tc : Nat)
  /-- A SYNC ordered set: the HT it carries in 1/16 tick, and the instant its first bit is released, with the port's
  delay trim, in 25 ps units (R383, R386, R563). -/
  | sync (n ht16 pin : Nat)
  /-- Data staged into head buffer `buf` as staging number `stage`: block `block` of a plane, or a line, read from pool
  address `addr`, `len` bytes (R241, R377, R566). -/
  | stageData (n buf stage block addr len : Nat)
  /-- A PLANE_DATA or LINE_DATA packet: bytes 0 to 7 of its body, and where in the pool its payload lies (R566); `start` is
  the index of its first character in the port's packet stream, modulo 4 (R523). -/
  | chunk (n start : Nat) (header : List Nat) (addr len : Nat)
  /-- A LAUNCH packet: the bytes of the token (R567). -/
  | launchPacket (n : Nat) (token : List Byte)
  /-- An item is released: token, launch time, kind, DARK, current code, NCUR, and its pin instant with the port's delay
  trim in 25 ps units (R114, R386). -/
  | release (n token t kind dark cur ncur pin : Nat)
  /-- A LAUNCH ordered set of an EDGE port with its residual (R384). -/
  | launchSet (n : Nat) (residual : Int) (tokens : List Nat)
  /-- A CFG_WR (`write = 1`) or CFG_RD request to the head (R572). -/
  | cfgRequest (n write tag addr : Nat) (words : List Nat)
  /-- RETRAIN or WIDTH ordered set: op, width, lane mask, sequence number (R562). -/
  | linkSet (n op width mask seq : Nat)
  /-- An alignment marker: its LANE field's width, SEQ and STAT (R528). -/
  | marker (n width seq stat : Nat)
  /-- The lanes in use carry idle pairs (R526). -/
  | idlePair (n : Nat)
  /-- Port `n` in electrical idle. -/
  | idle (n : Nat)
  /-- Training sets of TYPE `code`, or with code 4 the loopback pattern, start on physical lanes of port `n`; characters 4
  to 13 of the sets (R530, R554). -/
  | train (n code : Nat) (lanes body : List Nat)
  /-- What the lanes of port `n` carry for the output just before, by physical lane; a special character is 256 plus its
  byte. The pair it ends with is repeated until something else is sent (R523, R525, R526). -/
  | lanes (n : Nat) (chars : List (Nat × List Nat))
  /-- The rill of port `n` driven high continuously (1) or released (0) (R446). -/
  | safeDark (n on : Nat)
  /-- A rill frame: the 48-bit share of each driver in order (R438). -/
  | rillFrame (n : Nat) (shares : List Nat)
  /-- An abort pulse on a rill (R439). -/
  | rillAbort (n : Nat)
  /-- A Headwater message on link `link` (0 A, 1 B, 2 output): HT at which its MARK leaves the ball, and its characters; a
  special character is 256 plus its byte (R119). -/
  | headwater (link at_ : Nat) (chars : List Nat)
  /-- An idle pair K28.5, D21.5 on a Headwater link (R118). -/
  | headwaterIdle (link : Nat)
  /-- An AVSBus voltage write on interface `i` in mV (R814). -/
  | avs (i mv : Nat)
  /-- MSI-X vector `vec` of function `fn` signalled. -/
  | msix (fn vec : Nat)
  /-- The bytes answered to a register read by agent `fn`. -/
  | readData (fn : Nat) (data : List Byte)
  /-- A BAR2 read answered with data bytes, or with a poisoned completion (R640). -/
  | apertureData (fn : Nat) (bytes : List Byte) (poisoned : Bool)
  /-- A management response: CMD, TAG, completion code, payload (R772). -/
  | mgtResponse (cmd tag code : Nat) (payload : List Byte)
  /-- An in-band interrupt of the management port on I3C (R770). -/
  | inBand
  /-- An answer in another protocol of the management port: kind and code (R773). -/
  | mgtOther (kind code : Nat) (payload : List Nat)
  /-- A DRAM read answered: data bytes, poisoned or not (R619). -/
  | dramData (addr : Nat) (bytes : List Byte) (poisoned : Bool)
  /-- A request completed UNIT_RESET (R712): class and index of the unit, requests completed. -/
  | unitReset (cls index count : Nat)
deriving DecidableEq, Repr

/-! ### The hub: modes, hold and supplies -/

/-- The mode controller, the safety supervisor and the hold island (spec/02_modes_power_hold.md). Times are device
ticks of 250 ps (`State.tick`), which run whatever HT does. -/
structure HubSt where
  /-- Past power-good, with no loss of power since. -/
  up : Bool := false
  /-- The pin MAIN_OK. -/
  mainOk : Bool := false
  /-- Tick of the last change of MAIN_OK. -/
  mainAt : Nat := 0
  /-- Rails outside their range, by rail index (R812), ascending. -/
  badRails : List Nat := []
  /-- Tick since which MAIN_OK and every rail have been in range, as far as their changes were commanded. -/
  stableAt : Nat := 0
  /-- The hold island is powered (R843). -/
  island : Bool := false
  /-- The hold island has started and CAP has not been loaded since (R97). -/
  islandLost : Bool := false
  /-- The trip latch: the causes of HUB_TRIP[2:0] that are latched (R60, R842). -/
  tripLatch : Nat := 0
  /-- Causes the latch held when MAIN_OK low for 100 ms cleared it, for R61. -/
  tripCleared : Nat := 0
  /-- PERST# is asserted. -/
  perst : Bool := false
  /-- t1 has been fixed and READY is not yet set (R79). -/
  starting : Bool := false
  /-- Tick of t1 (R79). -/
  t1 : Nat := 0
  /-- Tick of t0 of the last hand-over (R82). -/
  t0 : Nat := 0
  /-- The last reset was a power-on reset, and its start-up has not reached step 6. -/
  cold : Bool := false
  /-- The device has left HOLD and its start-up is not complete (R92). -/
  returning : Bool := false
  /-- Full-charge conditions held for this many consecutive rounds. -/
  fullRounds : Nat := 0
  /-- Full charge reached since the island last started, and no round since below -TAPER (R97). -/
  fromFull : Bool := false
  /-- Charge counted out in the present discharge, and the gauge's charge, µC (R95, R97). -/
  drawn : Nat := 0
  charge : Nat := 0
  /-- A learned capacity in the hold log, to be written to the calibration record at the next start-up (R97). -/
  learned : Option Nat := none
  /-- Value of CAP last written to the calibration record. -/
  capRecord : Nat := 0
  /-- A CAP value waiting to be written to the calibration record. -/
  capWrite : Option Nat := none
  /-- The hold log: events raised in HOLD, with their stamps (R89). -/
  holdLog : List Event := []
  /-- Records of the hold log that have been committed to flash. -/
  committed : List Event := []
  /-- Events of the hold log that wait for PF0's event ring. -/
  replay : List Event := []
  /-- Events that wait until PF0's event ring is next enabled (R682). -/
  afterEnable : List Event := []
  /-- The Weir releases nothing (R82 step 2). -/
  noRelease : Bool := false
  /-- The request being carried out came from the management agent (R104). -/
  reqMgmt : Bool := false
  /-- VF Enable of PF0's SR-IOV capability (R682). -/
  vf : Bool := false
  /-- The Ehriz transmitters may send: bring-up has started (R79 step 10), and no hand-over, trip or reset has put them
  in electrical idle since (R43, R82). -/
  portsOn : Bool := false
deriving DecidableEq, Repr

/-- The status pins: true is driven low (spec/02_modes_power_hold.md R44, R45; spec/21_pins_package_electrical.md R826).
They are driven from the hold island and released while it is powered down. -/
structure Pins where
  /-- TRIP_N. -/
  tripN : Bool := false
  /-- RPL_N. -/
  rplN : Bool := false
  /-- ALERT_N. -/
  alertN : Bool := false
  /-- MGT_ALERT_N, of the management port (spec/19_management_trust.md R770). -/
  mgtAlertN : Bool := false
deriving DecidableEq, Repr

/-! ### Event rings and grants -/

/-- The write side of one event ring (spec/16_host_tenants_sluice.md R679, R680, R686). -/
structure EvRing where
  /-- SLUICE_EV_WR. -/
  wr : Nat := 0
  /-- SLUICE_EV_RD. -/
  rd : Nat := 0
  /-- SLUICE_EV_DROP. -/
  drop : Nat := 0
  /-- Events dropped since the last event 0x0E02. -/
  lost : Nat := 0
  /-- Records written since the last signal. -/
  unsig : Nat := 0
deriving DecidableEq, Repr

/-- A grant in force (R662): tenant, grant index, channel, layer mask, sequencer, class and quantities. Tenant 0 is
PF0's channel reservation. -/
structure Grant where
  tenant : Nat := 0
  g : Nat := 0
  channel : Nat := 0
  layers : Nat := 0
  seq : Bool := false
  cls : Nat := 0
  dram : Nat := 0
  slots : Nat := 0
  weight : Nat := 0
  link : Nat := 0
  port : Nat := 0
  pool : Nat := 0
  squeezed : Bool := false
  /-- DRAM demand admitted, in MB/s (R671 to R674). -/
  used : Nat := 0
  /-- Link demand admitted, by the Reach die of the surfaces, when not all zero. -/
  usedLink : List Nat := []
  /-- Rate limit of a squeezed holder, in MB/s (R673). -/
  rate : Nat := 0
deriving DecidableEq, Repr

/-! ### Launching: the Weir of one channel -/

/-- The kinds of launch-queue entry (spec/09_weir_launch.md R370, R407). -/
inductive ItemKind where
  | plane | line | reset | lamp | swap | priv | mark
deriving DecidableEq, Repr

/-- How far an item's data has come into the head. -/
inductive Stage where
  /-- Not begun. -/
  | none
  /-- Being staged. -/
  | active
  /-- In the head. -/
  | done
  /-- Stopped or abandoned (R387). -/
  | stopped
deriving DecidableEq, Repr

/-- What the head shows for a plane or line. -/
inductive Show where
  /-- The item's own data. -/
  | own
  /-- The previous frame's plane or row of the same index (R255). -/
  | prev
  /-- The dark plane, or a line of zero samples. -/
  | dark
deriving DecidableEq, Repr

/-- An attached sample request (R303): its kind, its offset in ns, and whether the Weir attached it itself (R429). -/
structure SampleReq where
  kind : Nat := 0
  ofs : Nat := 0
  auto : Bool := false
deriving DecidableEq, Repr

/-- One entry of the launch queue. -/
structure Item where
  kind : ItemKind := .plane
  /-- Launch time L; for a frame mark, its frame boundary F. -/
  t : Nat := 0
  /-- Frame boundary of the frame the item belongs to (R339). -/
  frame : Nat := 0
  /-- Number of frame marks emitted up to that frame's mark. -/
  fno : Nat := 0
  /-- Slice index, row, block mask or privileged opcode. -/
  idx : Nat := 0
  str : Nat := 0
  /-- Programmed amplitude. -/
  amp : Nat := 0
  /-- Duration in ns. -/
  dur : Nat := 0
  /-- A descriptor with DARK set, or a plane replaced under R269, or an off-grid line (R350). -/
  dark : Bool := false
  /-- Operands of a privileged item. -/
  arg : Nat := 0
  smp : Option SampleReq := none
  /-- Its decision instant has passed. -/
  decided : Bool := false
  show_ : Show := .own
  stage : Stage := .none
  /-- First block shown dark: blocks from here on were not in time (R387); 16 when none. -/
  darkFrom : Nat := 0
  /-- Head buffer staged into. -/
  buf : Option Nat := none
  /-- Token number and HT of sending of its LAUNCH packet. -/
  sent : Option (Nat × Nat) := none
  /-- Limit of its string that its factor was taken under, once its LAUNCH packet is sent (R412). -/
  lim : Nat := 0
  /-- Its LAUNCH packet missed the token lead, or the item expired: nothing new is shown. -/
  missed : Bool := false
  launched : Bool := false
  /-- Counted leaked in a withdrawal. -/
  leaked : Bool := false
  /-- The next PLANE, LAMP or GAP emitted after it was a GAP (R343). -/
  gapNext : Bool := false
deriving DecidableEq, Repr

/-- A withdrawal not yet complete (R396 to R402). -/
structure Withdrawal where
  cause : Nat := 0
  /-- RESTAGE; otherwise DROP. -/
  restage : Bool := false
  tc : Nat := 0
  td : Nat := 0
  /-- CANCEL instant t_w, absent while the CANCEL has not been sent (R402). -/
  tw : Option Nat := none
  leaked : Nat := 0
  /-- Ring command to complete (R400): handle of `State.cmds`. -/
  cmd : Option Nat := none
  /-- Launch times of removed items whose LAUNCH packet had reached the head (R399). -/
  cands : List Nat := []
deriving DecidableEq, Repr

/-- A condition counted over one frame whose event is raised when the frame's last item passes its pin instant
(R407): how many, the stamp of the first and the argument bits of the first. -/
structure FrameCount where
  n : Nat := 0
  stamp : Nat := 0
  arg : Nat := 0
deriving DecidableEq, Repr

/-- A head buffer in use (R379). -/
structure BufHold where
  buf : Nat := 0
  /-- Frame and slice or row it holds. -/
  fno : Nat := 0
  idx : Nat := 0
  /-- HT at which the last interval that uses it ends; 0 while a launch that uses it is still due. -/
  until_ : Nat := 0
deriving DecidableEq, Repr

/-- One plane launch of the current frame as the drift check needs it (R264): primary, bit, duration, amplitude. -/
structure DriftRec where
  pri : Nat := 0
  bit : Nat := 0
  dur : Nat := 0
  amp : Nat := 0
deriving DecidableEq, Repr

/-- The Weir of one channel. -/
structure WeirSt where
  q : List Item := []
  wds : List Withdrawal := []
  nextTok : Nat := 0
  bufs : List BufHold := []
  /-- Earliest lit launch (R66, R447). -/
  litFrom : Nat := 0
  /-- Frame boundary at which the channel reached RUNNING. -/
  runFrame : Nat := 0
  /-- Smallest slack recorded in the frame being decided. -/
  slack : Option Int := none
  /-- Smallest slack recorded since the die's last AVS period. -/
  slackPeriod : Option Int := none
  late : Tbl FrameCount := []
  miss : Tbl FrameCount := []
  expired : Tbl FrameCount := []
  edgeLate : Tbl FrameCount := []
  down : Tbl FrameCount := []
  /-- End of the last launch ordered set of an EDGE port, HT. -/
  setEnd : Nat := 0
  /-- Common factor taken, plus one, per primary and frame: key `fno * 4 + primary` (R261). -/
  factor : Tbl Nat := []
  /-- Distinct non-zero amplitudes of a primary in a frame, descending: key `fno * 4 + primary` (R262). -/
  levels : Tbl (List Nat) := []
  /-- Launches of a frame as the drift check needs them (R264). -/
  drift : Tbl (List DriftRec) := []
  /-- The last checked frame had uncorrectable drift. -/
  driftBad : Bool := false
  /-- The PARK of DRAINING's end has been sent (R404). -/
  parkSent : Bool := false
  /-- Last frame boundary passed, and its number among the marks. -/
  curF : Nat := 0
  curFno : Nat := 0
  /-- A frame boundary has been passed since ARM. -/
  curAny : Bool := false
  /-- The next frame boundary applies the ceiling the mode asks for (R54). -/
  ceilDue : Bool := false
  /-- HT at which a commit first completed since the last ARM. -/
  commitAt : Nat := 0
  /-- Slack recorded per frame: key frame number, value slack + 2 ^ 62. -/
  slackOf : Tbl Nat := []
  /-- Strings on which a cut, an abort or a clamped current touched a launch of a frame: key frame number, mask of
  primaries whose drift check is skipped (R266, R419). -/
  driftSkip : Tbl Nat := []
  /-- Limit of the string under which a frame's factor was taken, by the keys of `factor` (R412). -/
  facLim : Tbl Nat := []
  /-- End of the interval of the last launched plane with the last block counted, per string (HT); R343. -/
  planeEnd : Nat := 0
  /-- String and programmed amplitude of the last launched plane whose interval end has not been carried out. -/
  openPlane : Option (Nat × Nat) := none
  /-- Currents of the LAMPs in force, by string: a plane of the string ends one, and while a plane interval is open it
  waits (R302, R343, R345). -/
  lampCur : Tbl Nat := []
  /-- Driven amplitude of each string's last launched LAMP (R414). -/
  lampDrv : Tbl Nat := []
  /-- Current each string was last told to take. -/
  strCur : Tbl Nat := []
  /-- Reset waveform selections in force from a TC: (TC, code), code 16 for AUTO (R312). -/
  waves : List (Nat × Nat) := []
  /-- The next PLANE, LAMP or GAP emitted after the open plane was a GAP (R343). -/
  openGap : Bool := false
  /-- Number of the last frame whose items have all passed, and one more (R405, R407). -/
  closed : Nat := 0
  /-- Launch times of EDGE items whose launch ordered set has left before their launch time (R399). -/
  ahead : List Nat := []
  /-- Light factors last reported by the colour loop (R264), in 2^-26: key `4 * primary + level`. -/
  lambda : Tbl Nat := []
  /-- CORR and λ of the four levels as they stood when the primary's common factor was taken (R471): key
  `fno * 4 + primary`. -/
  corrs : Tbl (List (Nat × Nat)) := []
deriving DecidableEq, Repr

/-! ### The sequencer of one channel -/

/-- What a sequencer is doing. -/
inductive SeqRun where
  /-- Not started, or stopped by a stop time, a fault or a reset. -/
  | stopped
  /-- About to execute the instruction at PC. -/
  | ready
  /-- An emitting instruction waits for the run-ahead window (R278). -/
  | window
  /-- An emitting instruction waits for a launch-queue entry (R371). -/
  | full
  /-- WAITT waits for HT to reach TC (R305). -/
  | waitT
  /-- WAITIX waits for a prediction of a segment until a deadline (R306). -/
  | waitIx (seg deadline : Nat)
  /-- After HALT (R293). -/
  | halted
deriving DecidableEq, Repr

/-- A calibration gap not yet decided (R352, R353), or offered. -/
structure Gap where
  t : Nat := 0
  e : Nat := 0
  offered : Bool := false
  /-- Nothing emitted so far stands against it (R352). -/
  ok : Bool := true
  /-- String and amplitude of the DARK plane whose interval it is (R346, R747). -/
  plane : Option (Nat × Nat) := none
deriving DecidableEq, Repr

/-- A pending bank swap (R328): its target, and the ring command to complete if any. -/
structure SwapReq where
  target : Nat := 0
  /-- Frame boundaries at or after the target that the old program had emitted when the swap was requested. -/
  before : Nat := 0
  cmd : Option Nat := none
deriving DecidableEq, Repr

/-- An emission that waits for the run-ahead window or for a launch-queue entry (R278, R371): the item, the end of a GAP,
the opcode (0 for the frame mark of a start), and PC, TC and DX after it. -/
structure Emit where
  item : Item := {}
  gap : Option Nat := none
  op : Nat := 0
  pc : Nat := 0
  tc : Nat := 0
  dx : Nat := 0
deriving DecidableEq, Repr

/-- The architectural state of one sequencer (spec/07_vilti_isa.md R275) and its emission records. -/
structure SeqSt where
  run : SeqRun := .stopped
  pc : Nat := 0
  /-- S0 to S15. -/
  S : Tbl Nat := []
  tc : Nat := 0
  dx : Nat := 0
  z : Bool := false
  n : Bool := false
  c : Bool := false
  t : Bool := false
  stack : List Nat := []
  /-- Instructions executed since the last emitted item, WAITT or WAITIX. -/
  insns : Nat := 0
  /-- Launch time of the last item or mark emitted. -/
  lastT : Nat := 0
  /-- Frame boundary of the last mark emitted, if any since the start. -/
  lastF : Option Nat := none
  /-- Frame marks emitted since the start, with their boundaries at or after a pending swap's target. -/
  marks : List Nat := []
  /-- Sample requests not yet attached: string, kind, offset. -/
  reqs : List (Nat × Nat × Nat) := []
  /-- Items counted in the frame (R342). -/
  counted : Nat := 0
  /-- The frame has passed SEQ_SLOTS.LIMIT. -/
  overLimit : Bool := false
  /-- Sample requests passed in the frame (R348). -/
  samples : Nat := 0
  sampleDrop : FrameCount := {}
  /-- By string, its last plane emitted: end of block 0, amplitude, and 1 when the string has turned off since, or will at
  its interval's end (R268, R344). -/
  prevs : Tbl (Nat × Nat × Nat) := []
  /-- The last plane emitted: start, end of block 0, string, amplitude. -/
  prevPlane : Option (Nat × Nat × Nat × Nat) := none
  /-- A PLANE, LAMP or GAP has been emitted after it. -/
  prevNext : Bool := false
  /-- Latest end of a plane's last block, and the last launch time of a LINE, SWAPF or lit LAMP (R352). -/
  planeEnd : Nat := 0
  lastBad : Option Nat := none
  held : Option Emit := none
  /-- Causes of R269 whose event has been raised in the frame, as a mask. -/
  violRaised : Nat := 0
  /-- SWAPFs emitted in the frame (R351). -/
  swaps : Nat := 0
  swap : Option SwapReq := none
  gaps : List Gap := []
  /-- Stop time of DRAINING (R64), once known. -/
  stopT : Option Nat := none
  /-- A STOP whose stop time is the first frame boundary at or after this instant, not yet emitted. -/
  stopReq : Option Nat := none
  /-- Sequencer owner: 0 for PF0, t for tenant t. -/
  owner : Nat := 0
  /-- Program ceilings that take effect from a TC: (TC, string, ceiling) (R310). -/
  ceils : List (Nat × Nat × Nat) := []
  /-- Lines of the frame launched dark for the grid (R350). -/
  offGrid : Nat := 0
deriving DecidableEq, Repr

/-! ### Lamps and the rill -/

/-- A fade engine (spec/10_lamps_rill.md R420): from `v0` at `t0` to `v1` over `dur` ticks with the curve and GAMMA
taken at its start. -/
structure Fade where
  v0 : Nat := 65535
  v1 : Nat := 65535
  t0 : Nat := 0
  dur : Nat := 0
  curve : Nat := 0
  gamma : Nat := 0
  /-- The fade has not yet reached p = 1. -/
  active : Bool := false
deriving DecidableEq, Repr

/-- The rill and the fade engines of one port. -/
structure LampSt where
  fadeB : Fade := {}
  fadeC : Fade := {}
  /-- Program dark hold active (R447). -/
  hold : Bool := false
  /-- RILL FORCE_DARK (true) and DARKREL (false) instructions waiting for a frame start, with their TCs, in program
  order (R447). -/
  holdReqs : List (Bool × Nat) := []
  /-- HT of the earliest start of the next frame. -/
  nextFrame : Nat := 0
  /-- Latch of the frame last started, HT. -/
  frameEnd : Nat := 0
  /-- Limits L_send of the frame last started, per string, until they are taken as latched. -/
  inFrame : List (Nat × Nat) := []
  /-- The next frame is the first since the channel reached RUNNING or the dark hold ended (R66, R447). -/
  first : Bool := false
  /-- Read-back differences since the last event 0x080C, and HT of the earliest next event (R448). -/
  rbDiffs : Nat := 0
  rbFrom : Nat := 0
deriving DecidableEq, Repr

/-- One lamp string of a port. -/
structure StrSt where
  /-- Causes 1 to 7 of the cut table that hold, as a mask (R416). -/
  cuts : Nat := 0
  /-- The previous telemetry sample, 1/16 °C. -/
  prevTel : Option Int := none
  /-- HT of the last telemetry sample. -/
  telAt : Nat := 0
  /-- The last telemetry sample was plausible (R424). -/
  telOk : Bool := false
  /-- HT since which every telemetry sample has been fresh and plausible. -/
  telSince : Nat := 0
  /-- A valid T_s has been formed since reset (R423). -/
  formed : Bool := false
  /-- D at the last valid T_s. -/
  dLast : Nat := 0
  /-- D* is held at 0 until T_s falls to CUT - HYST (R427). -/
  dZero : Bool := false
  /-- Tick of the last update of D_s. -/
  dAt : Nat := 0
  /-- Consecutive OPEN and SHORT samples (R431). -/
  opens : Nat := 0
  shorts : Nat := 0
  /-- L_latched (R412). -/
  latched : Nat := 0
  /-- Limits that govern items whose interval has not ended: (limit, HT of the end). -/
  govern : List (Nat × Nat) := []
  /-- Launched at amplitude zero until the next common factor, after a cut ended (R418). -/
  zeroNext : Bool := false
  /-- Drivers whose range acknowledgement is awaited after RUNNING (R445), as a mask. -/
  rangeWait : Nat := 0
  /-- HT of the first frame that could not carry a waiting bypass command (R434). -/
  bypSince : Option Nat := none
  /-- The string runs dark over this frame boundary for a bypass command (R434). -/
  bypDark : Option Nat := none
  /-- Frame number, plus one, in which an item of the string has carried the automatic or a program sample (R429). -/
  autoFrame : Nat := 0
  /-- Programmed amplitude of the last PLANE or LAMP emitted for the string. -/
  lastAmp : Nat := 0
deriving DecidableEq, Repr

/-- A rill command for a driver (R440): code, tag, program command, HT of its first frame, and for BYPASS_APPLY the
failed position and the spare brought in. -/
structure RillCmd where
  cmd : Nat := 0
  tag : Nat := 0
  prog : Bool := false
  /-- HT from which a program command may be sent (R311). -/
  tc : Nat := 0
  first : Option Nat := none
  pos : Nat := 0
  spare : Nat := 15
  /-- Its tag was the driver's last executed tag when it was first sent, so that it is never executed (R442). -/
  stale : Bool := false
  /-- Its acknowledgement time has passed (R443). -/
  late : Bool := false
deriving DecidableEq, Repr

/-- One lamp driver of a rill chain (R409, R432, R440). -/
structure DrvSt where
  failed : Nat := 0
  brought : Nat := 0
  mask : Nat := 0
  /-- Last executed tag reported in head telemetry. -/
  tag : Nat := 0
  present : Bool := false
  /-- Commands in the order they arose; the first is being sent. -/
  cmds : List RillCmd := []
  /-- Tag of the last command, sent on with NOP. -/
  lastTag : Nat := 0
  /-- Range the driver reported: 1 high. -/
  high : Bool := false
deriving DecidableEq, Repr


/-- A queued delivery of an event: the functions whose rings receive it (0 is PF0, t is VF t), and the event. -/
structure Queued where
  dest : List Nat
  ev : Event
deriving DecidableEq, Repr

/-- A queued memory write: address, bytes, and whether the bytes carry the poison marker. -/
structure MemWrite where
  addr : Nat
  bytes : List Byte
  poison : Bool := false
deriving DecidableEq, Repr



/-! ### Moving parts -/

/-- A value that moves along a profile: from `v0` at HT `at_` toward `target`, rising by `up` and falling by `down` a
tick (R503, R510). -/
structure Profile where
  v0 : Nat := 0
  at_ : Nat := 0
  target : Nat := 0
  up : Nat := 0
  down : Nat := 0
deriving DecidableEq, Repr

/-- What a channel holds of its wheel and its scan mirror beyond the registers (spec/12_wheels_scan_mirrors.md). Times
are HT. -/
structure MoveSt where
  /-- ω_c in 1/256 rev/s divided by 4 000 000 000, and ω_t in 1/256 rev/s. -/
  wheel : Profile := {}
  wTarget : Nat := 0
  /-- HT of entry to the wheel's state. -/
  wAt : Nat := 0
  /-- HT of the last valid speed sample. -/
  speedAt : Option Nat := none
  /-- HT since which every speed sample has been at or below STOP. -/
  stopSince : Option Nat := none
  /-- HT of the last speed sample that was not below the interlock threshold. -/
  speedGood : Nat := 0
  /-- Consecutive samples of the wheel slot with the lock conditions met (R502). -/
  lockRun : Nat := 0
  /-- HT since which a lock condition has failed. -/
  lockFail : Option Nat := none
  /-- Index error ε as a fraction of a revolution: numerator in 1/16 tick, denominator in 1/16 tick; 0 for none. -/
  epsNum : Int := 0
  epsDen : Nat := 0
  /-- HT since which |ε| has exceeded PHTOL. -/
  phaseSince : Option Nat := none
  /-- Period and next index of a prediction, each once written (R508). -/
  predP : Option Nat := none
  predI : Option Nat := none
  /-- Last phase written, in ticks from its sample tick. -/
  predPh : Int := 0
  /-- Writes of period and phase are ignored until an index is measured (R509). -/
  predWait : Bool := false
  /-- Predicted index nearest to the last measured one, or to the appearance of the prediction. -/
  idxAt : Nat := 0
  /-- HT since which no condition of the wheel interlock has held, and the condition that held last. -/
  wClear : Option Nat := none
  wLast : Nat := 0
  /-- Commanded amplitude of the scan mirror, 65536 * 4 * 10^11 being 1.0. -/
  scan : Profile := {}
  /-- HT of the last amplitude sample, and whether one has come since the last reset. -/
  ampAt : Option Nat := none
  /-- HT since which every amplitude sample has been at or below 1 %. -/
  smallSince : Option Nat := none
  sClear : Option Nat := none
  sLast : Nat := 0
  /-- Frequency of the present dwell of the sweep and HT of its start; the amplitudes recorded, oldest first. -/
  sweepF : Nat := 0
  sweepAt : Nat := 0
  sweep : List (Nat × Nat) := []
  /-- A rundown whose end has been carried out. -/
  runDone : Bool := false
  /-- Period and phase of the sweep grid, in 1/256 tick (R471). -/
  gridP : Nat := 0
  gridPh : Nat := 0
deriving DecidableEq, Repr

/-! ### Loop engines -/

/-- What a RUNNING slot's computation is doing. -/
inductive SlotPhase where
  /-- Between samples. -/
  | waiting
  /-- Its record is complete and its core computes another slot's sample. -/
  | queued
  /-- Computing. -/
  | computing
  /-- Its record completed during a migration (R490). -/
  | held
deriving DecidableEq, Repr

/-- A set-point write that waits for the slot's sample (R478): set-point, value, and for an OUT the writer's sample
tick. -/
structure SpWrite where
  n : Nat
  v : Nat
  out : Option Nat := none
deriving DecidableEq, Repr

/-- One loop slot (spec/11_loop_engines.md R455 to R478). Sample ticks are HT values. -/
structure SlotSt where
  /-- Initial data words and entry point of the image. -/
  init : List Nat := []
  entry : Nat := 0
  pc : Nat := 0
  /-- Instruction after the last WAITS, where the next sample starts (R280). -/
  resume : Nat := 0
  /-- No sample has been computed since START or RESUME: the next starts at the entry point (R280, R476). -/
  first : Bool := true
  stack : List Nat := []
  insns : Nat := 0
  /-- Sample period and phase, fixed at START (R460). -/
  per : Nat := 0
  phi : Nat := 0
  /-- Last sample tick that has passed, and whether its record is not yet complete. -/
  tick : Option Nat := none
  open_ : Bool := false
  /-- Inputs whose value for that tick has come, as a mask. -/
  have_ : Nat := 0
  phase : SlotPhase := .waiting
  /-- Tick of the sample being computed, its DT, and the tick of the last computed one. -/
  cTick : Nat := 0
  dt : Nat := 0
  lastTick : Option Nat := none
  /-- Last value of each input, binary32, and the mask of those new since the last computed sample. -/
  vals : Tbl Nat := []
  news : Nat := 0
  /-- Latched inputs of the sample being computed. -/
  latched : Tbl Nat := []
  /-- Inputs new in the latched sample, and its set-points: they stay new until a sample is computed. -/
  latNews : Nat := 0
  latSps : Tbl Nat := []
  /-- Nodes traced by the sample: node, value. -/
  traces : List (Nat × Nat) := []
  /-- A sample has been skipped since the slot's previous eddy record. -/
  skipped : Bool := false
  /-- No sample has ended since START or RESUME. -/
  firstRec : Bool := false
  /-- The last sample was computed, so that a skip raises event 0x0905. -/
  computed : Bool := false
  /-- HT of entry to HOLDING or RAMPING, and each actuator's value at entry to RAMPING. -/
  holdAt : Nat := 0
  rampFrom : Tbl Int := []
  /-- Set-point writes not yet in effect, and the set-points at the last computed sample. -/
  spWrites : List SpWrite := []
  spSeen : Tbl Nat := []
  /-- The data window at the slot's last WAITS (R489). -/
  check : List Nat := []
  /-- The core has migrated since the slot's previous eddy record. -/
  migrated : Bool := false
deriving DecidableEq, Repr

/-- One logical loop core (R275, R489). -/
structure CoreSt where
  I : Tbl Nat := []
  F : Tbl Nat := []
  z : Bool := false
  n : Bool := false
  c : Bool := false
  /-- Slot computing, plus one; slots that wait for the core, in order. -/
  cur : Option Nat := none
  queue : List Nat := []
  /-- Spare that a migration copies to, and whether PF0 asked for it. -/
  migTo : Option (Nat × Bool) := none
  /-- PF0 asked for a migration that starts when no slot is computing. -/
  migReq : Bool := false
  /-- Instructions of the samples computed in the last second: HT, count. -/
  load : List (Nat × Nat) := []
deriving DecidableEq, Repr

/-- One eddy record (R485): tick, slot number, nodes in ascending order with their values, LAT and FLAGS. -/
structure EddyRec where
  tick : Nat
  slot : Nat
  nodes : List (Nat × Nat)
  lat : Nat
  flags : Nat
deriving DecidableEq, Repr

/-- The eddy buffer of a cluster (R486): records, oldest first; records still accepted after the trigger; a manual
trigger that waits for a record; the last value of the threshold node. -/
structure EddySt where
  recs : List EddyRec := []
  left : Nat := 0
  manual : Bool := false
  thr : Option Nat := none
  /-- The frozen buffer has been dealt with: archived, or its area does not lie in the die's region. -/
  archived : Bool := false
deriving DecidableEq, Repr

/-! ### Ports and heads -/

/-- A request for head registers (spec/14_ehriz_protocol_heads.md R572, R573). -/
structure CfgReq where
  tag : Nat
  write : Bool
  addr : Nat
  /-- Words to write; empty for a read. -/
  words : List Nat
  count : Nat
  /-- Tick of sending; meaningless while the request waits to be sent. -/
  sent : Nat := 0
  resent : Bool := false
  /-- A pass-through request of PF0 (R593). -/
  pass : Bool := false
deriving DecidableEq, Repr

/-- A sample request sent to the head whose SAMPLE record has not come: tag, string, kind, commanded current, launch
time, frame; the current of R415 with X taken as 1, the driven amplitude, and a plane's amplitude level (R466). -/
structure SampleOut where
  stag : Nat
  str : Nat
  kind : Nat
  cur : Nat
  t : Nat
  fno : Nat
  req : Nat := 0
  a : Nat := 0
  level : Option Nat := none
deriving DecidableEq, Repr

/-- The port's own WIDTH_REQ (R544, R547, R590): sequence number, width and logical lanes asked for, widening or not,
tick of the first sending, HT at which the loss was decided. -/
structure WidthReq where
  seq : Nat
  width : Nat
  lanes : Nat
  widen : Bool
  sentAt : Nat
  lossAt : Nat
  resent : Bool := false
  acked : Bool := false
deriving DecidableEq, Repr

/-- How far identification has come (R580). -/
inductive Ident where
  /-- Not begun. -/
  | no
  /-- Reading the head registers. -/
  | reading
  /-- Writing the configuration registers. -/
  | writing
  /-- PARK sent, not acknowledged. -/
  | parking
  /-- Identified. -/
  | yes
  /-- Stopped by a failed check (R581). -/
  | rejected
deriving DecidableEq, Repr

/-- The protocol and lane state of one port beyond its registers. Ticks are device ticks. -/
structure PortSt where
  parkSeq : Nat := 0
  /-- A PARK awaits its acknowledgement. -/
  parkWait : Bool := false
  parkFirst : Nat := 0
  parkLast : Nat := 0
  /-- CANCELs to be sent when the link next trains (R402): cause and threshold. -/
  cancels : List (Nat × Nat) := []
  /-- Requests outstanding, and requests that wait for one of the 8 places. -/
  cfg : List CfgReq := []
  cfgWait : List CfgReq := []
  /-- Requests unanswered when the port left UP, to be sent again with their tags when it is UP again (R591). -/
  cfgKept : List CfgReq := []
  ident : Ident := .no
  /-- Head registers read so far in the present identification, by index. -/
  idRegs : List Nat := []
  /-- Head registers of the previous identification since power-on reset. -/
  prevId : List Nat := []
  /-- A write of the present group of format registers has been rejected (R579). -/
  fmtBad : Bool := false
  /-- The last PARK has been acknowledged. -/
  parkDone : Bool := false
  /-- Tick, plus one, of the last STATUS record; 0 when none has come since reset. -/
  telAt : Nat := 0
  /-- Errors of the frame for event 0x0C04: chunks, tokens, launches, stamp of the first. -/
  headErr : Option (Nat × Nat × Nat × Nat) := none
  /-- Receiver discards of the frame for event 0x0C0B: count and stamp of the first. -/
  rxErr : Option (Nat × Nat) := none
  /-- Actuator values last written: head register address, value. -/
  act : Tbl Nat := []
  /-- Head schedules in use: period, phase, mask of measurements (R575). -/
  scheds : List (Nat × Nat × Nat) := []
  samples : List SampleOut := []
  /-- Head array temperature, and the supply voltage, of the last STATUS record. -/
  arrayT : Int := 0
  supply : Nat := 0
  /-- LAUNCH packets sent and not known launched: token, launch time, HT of sending. -/
  tokens : List (Nat × Nat × Nat) := []
  /-- The bytes of the last LAUNCH packet sent with each token number (R591). -/
  tokBytes : Tbl (List Byte) := []
  /-- Head temperature band (R742). -/
  band : Nat := 1
  /-- The port's last non-zero width, 0 before the first (R355). -/
  lastW : Nat := 0
  /-- Tick of entry to the port's state (R535). -/
  stAt : Nat := 0
  /-- Training sets of the head in the present bring-up, or a lane's background retraining, by physical lane: how many
  valid, the LANE field plus one; lanes on which they arrive inverted. -/
  tsCount : Tbl Nat := []
  laneRx : Tbl Nat := []
  tsInv : Nat := 0
  /-- Alignment markers seen in DESKEW, by physical lane: SEQ, and character position plus one. -/
  markers : Tbl (Nat × Nat) := []
  /-- Marker count of the transmitter, and the tick, in 25 ps units, of the nominal place of its last marker (R529). -/
  markSeq : Nat := 0
  markNom : Option Nat := none
  /-- Begin and end of the last SYNC or LAUNCH ordered set, 25 ps units of HT (R529). -/
  setAt : Nat × Nat := (0, 0)
  /-- Index of the next character of the packet stream, modulo 4 (R523). -/
  nextChar : Nat := 0
  /-- Tick at which the transmitter left electrical idle, until its next marker (R552). -/
  txWake : Option Nat := none
  /-- Taps of the decision-feedback equaliser of each receive lane (R531). -/
  dfe : Tbl (List Nat) := []
  wreq : Option WidthReq := none
  /-- Sequence number of the port's own unacknowledged RETRAIN_REQ; and, of a head's RETRAIN_REQ that waits for the
  port's own request, its lane mask and sequence number (R589). -/
  rreq : Option Nat := none
  /-- The last RETRAIN or WIDTH request of the head that was acted on: op, mask, sequence number; a later copy of it is
  ignored (R561). -/
  headSet : Option (Nat × Nat × Nat) := none
  headRetrain : Option (Nat × Nat) := none
  /-- Tick at which every lane in use was lost, until the port is UP again or the port-loss time has passed (R549). -/
  lossAt : Option Nat := none
  /-- Lanes retrained in the background (R546): tick, plus one, since which they have been deskewed with FOM at or above
  FOM_MIN, by physical lane. -/
  back : Tbl Nat := []
  /-- Tick, plus one, since which a lane's FOM has been below FOM_MIN, and at or above it, by physical lane (R534). -/
  fomLow : Tbl Nat := []
  fomHigh : Tbl Nat := []
  /-- HT at which WIDEN_PENDING was set (R547). -/
  widenAt : Nat := 0
  /-- Tick of the last wake, until lock is regained (R552, R553). -/
  wakeAt : Option Nat := none
  /-- Transmit coefficients PRE and POST at tick `eqAt`, once they have moved (R532). -/
  eq : Option (Nat × Nat) := none
  eqAt : Nat := 0
deriving DecidableEq, Repr

/-! ### Frames of the plane pool -/

/-- A plane format in effect or still used by queued frames (spec/06_pixels_to_planes.md R252). -/
structure Fmt where
  id : Nat := 0
  w : Nat := 1
  h : Nat := 1
  blocks : Nat := 1
  depth : Nat := 6
  count : Nat := 1
  bidir : Bool := false
  base : Nat := 0
  frames : Nat := 3
  /-- PRI and BIT of the slice list. -/
  slices : List (Nat × Nat) := []
  /-- Number, within the format, of its next frame. -/
  next : Nat := 0
deriving DecidableEq, Repr

/-- A pixel in composition: alpha and the colour components R, G and B, 16 bits each (R156). -/
structure Px where
  a : Nat := 0
  r : Nat := 0
  g : Nat := 0
  b : Nat := 0
deriving DecidableEq, Repr

/-- What the read of one unit of a surface gave: of a 64-byte burst of a packed surface, or of a tile (R173, R174, R180,
R181). -/
inductive Fetched where
  /-- The burst's bytes. -/
  | burst (bs : List Byte)
  /-- The tile's header entry and its payload. -/
  | tile (hdr : Nat) (payload : List Byte)
  /-- Poison in the burst, the header entry or the payload. -/
  | poison
  /-- A decode error, with its cause (R169). -/
  | decode (cause : Nat)
deriving DecidableEq, Repr

/-- What governs the composition of one frame, and what has come of it so far (spec/04_surfaces_fetch.md,
spec/05_layers_levee.md). -/
structure Comp where
  /-- Values in effect of the channel's shadowed fields at the frame's flip instant (R172, R207). -/
  gov : Tbl Nat := []
  /-- Coefficients of the scalers that are not at the default set: 512 horizontal, then 384 vertical (R199). -/
  coef : Tbl (List Int) := []
  /-- CSEQ(f) (R234). -/
  cseq : Nat := 0
  /-- The Levee takes part (R226). -/
  levee : Bool := false
  /-- Head temperature band of the uniformity map (R221). -/
  band : Nat := 1
  /-- Write-back handle, when the frame is written back, and the frame's place in the alternation (R224). -/
  wb : Option Nat := none
  wbIdx : Nat := 0
  /-- Layer data delivered for lines not yet composed, as output columns: key `16 * line + layer`. -/
  got : List (Nat × List Px) := []
  /-- Bursts, by address divided by 64, and tiles, by number, that have been read for a layer: layer, unit, what came. -/
  units : List ((Nat × Nat) × Fetched) := []
  /-- Bursts and tiles of a layer that have been replaced in the frame: layer, number (R180, R181). -/
  seen : List (Nat × Nat) := []
  poison : Tbl FrameCount := []
  decode : Tbl FrameCount := []
  /-- Layers made transparent, with the line (R179). -/
  rights : Tbl FrameCount := []
  /-- Underrun lines, the first, and the stamp of the first (R182). -/
  under : FrameCount := {}
  /-- Running CRC-32 registers of the frame and Levee windows (R233). -/
  sigF : Nat := 0xFFFFFFFF
  sigL : Nat := 0xFFFFFFFF
  /-- Bytes the windows have had. -/
  lenF : Nat := 0
  lenL : Nat := 0
  /-- Functions whose surface table each layer is fetched through, where not PF0 (R157): layer, function. -/
  own : Tbl Nat := []
  /-- Bursts given unity gain, by cause (R222). -/
  mapMiss : Tbl FrameCount := []
  /-- Lines whose write-back data was dropped (R27). -/
  wbDrop : Nat := 0
  /-- Lines composed and not yet written for want of a free slot: primaries of each pixel (R254). -/
  held : List (List (Nat × Nat × Nat)) := []
  /-- The last line has been composed and the frame's end carried out. -/
  ended : Bool := false
deriving DecidableEq, Repr

/-- One frame of a channel, from its mark until every item of it and of the next frame has gone (R252 to R255). -/
structure Frm where
  fno : Nat
  bnd : Nat
  fmt : Nat := 0
  /-- Number within the plane format. -/
  g : Nat := 0
  /-- Its flip instant has passed and composition has begun. -/
  flipped : Bool := false
  /-- Lines composed. -/
  lines : Nat := 0
  /-- Lines written to the pool. -/
  written : Nat := 0
  /-- HT at which the last byte was written to the pool, once the frame is complete. -/
  complete : Option Nat := none
  /-- Nothing of the frame is written (R254). -/
  dropped : Bool := false
  /-- Lines filled while the slice stage waited for a slot. -/
  waitLines : Nat := 0
  waited : Bool := false
  /-- Index of the frame since RUNNING, for the dither (R244). -/
  dither : Nat := 0
  /-- Events of the frame that have been raised, at most once each: code and argument bits as one number (R189, R239). -/
  said : List Nat := []
  /-- MATRIX: planes of the matrix frame in the head or given up, in index order; one is being staged; those given up for
  poison; the swap is withheld (R250, R378, R387). -/
  mDone : Nat := 0
  mActive : Bool := false
  mBad : List Nat := []
  mFail : Bool := false
  /-- HT at which each line was written to the pool, in order. -/
  lineT : List Nat := []
  /-- Launch time of the frame's SWAPF, once emitted. -/
  swapT : Option Nat := none
  /-- Reset phase φ that governs the frame, in ticks. -/
  phase : Nat := 0
  comp : Comp := {}
deriving DecidableEq, Repr

/-! ### The timebase -/

/-- One Headwater input (spec/03_headwater_time.md R118 to R129). -/
structure HwIn where
  /-- Character lock. -/
  lock : Bool := false
  /-- Device tick, plus one, of the last TIME message that passed R120; 0 when none. -/
  seen : Nat := 0
  /-- HOP and SRC_ID of that message allow the input (R129). -/
  fit : Bool := false
  hop : Nat := 0
  src : Nat := 0
  flags : Nat := 0
  err : Nat := 0
  /-- Arrival less T_A of the last message, 1/16 tick. -/
  raw : Option Int := none
  /-- Offset of the last message, 1/16 tick (R126). -/
  ofs : Int := 0
  /-- The last values of d, newest first, at most 8, in 1/32 tick (R125). -/
  delays : List Nat := []
  /-- SEQ of the next DELAY_REQ. -/
  seqNo : Nat := 0
  /-- SEQ and t1 of a DELAY_REQ whose response is awaited. -/
  req : Option (Nat × Nat) := none
  /-- Device tick since which the input has been valid. -/
  validAt : Nat := 0
  /-- Device tick, plus one, since which every message has carried HOLDOVER; 0 when the last did not. -/
  holdAt : Nat := 0
deriving DecidableEq, Repr

/-- The Headwater timebase unit. -/
structure TimeSt where
  inA : HwIn := {}
  inB : HwIn := {}
  /-- Character lock of the output's receiver. -/
  outLock : Bool := false
  /-- A source is followed. -/
  following : Bool := false
  /-- LOCKED has been reached since acquisition. -/
  locked : Bool := false
  /-- Consecutive TIME messages with |o| at most 1 ns (R133). -/
  good : Nat := 0
  /-- Offsets of the present run of step suspects, newest first, 1/16 tick (R135). -/
  suspects : List Int := []
  /-- The offset of a pending step, 1/16 tick (R137). -/
  stepOfs : Int := 0
  /-- Ticks by which the servo has still to move HT (R133). -/
  slew : Int := 0
  /-- Filtered |o| in ns. -/
  filt : Nat := 0
  /-- E0 and device tick of the entry to holdover (R141). -/
  e0 : Nat := 0
  holdAt : Nat := 0
  /-- Value latched by SET and HT at which it loads (R128). -/
  setReq : Option (Nat × Nat) := none
  /-- Messages for which the A/B difference has stayed within WARN (R139). -/
  abGood : Nat := 0
  /-- SEQ of the next TIME message. -/
  seqNo : Nat := 0
  /-- Device tick, plus one, of the last TIME message sent; 0 when none. -/
  sentAt : Nat := 0
  /-- The source has been taken up and no message of it has been acted on yet. -/
  fresh : Bool := false
  /-- Device tick, plus one, at which the source was last taken up. -/
  takenAt : Nat := 0
  /-- Device tick since which REF_OK has been 1 (R144). -/
  refAt : Nat := 0
  /-- By transmitter (input A, input B, output): HT at which the MARK of its last message leaves, and at which the message
  has ended; idle pairs are sent outside (R118). -/
  busy : Tbl (Nat × Nat) := []
deriving DecidableEq, Repr

/-! ### Surfaces, layers and commits -/

/-- A registered surface (spec/04_surfaces_fetch.md R159). Width 0 is an empty entry. -/
structure Surf where
  base : Nat := 0
  hdr : Nat := 0
  w : Nat := 0
  h : Nat := 0
  /-- Byte distance between rows. -/
  stride : Nat := 0
  fmt : Nat := 0
  ignA : Bool := false
  gran : Nat := 0
deriving DecidableEq, Repr

/-- A commit that has been taken and not taken effect (spec/05_layers_levee.md R209): function, target, ring command if
any, frame boundaries at which the Sluice held it (R672). -/
structure CommitReq where
  fn : Nat := 0
  target : Nat := 0
  cmd : Option Nat := none
  held : Nat := 0
  /-- A LEVEE instruction's commit, which flips only the Levee fields (R313). -/
  levee : Bool := false
deriving DecidableEq, Repr

/-- A layer update in fence mode, or one with FEN = 0, not yet flipped (R212, R215). -/
structure UpdateReq where
  fn : Nat := 0
  layer : Nat := 0
  cmd : Option Nat := none
  /-- Flip instants since it was taken at which it did not flip. -/
  late : Nat := 0
  /-- FEN = 0: flips at the next flip instant as a commit of its own. -/
  free : Bool := false
  /-- Flip instants at which the Sluice held it (R672). -/
  held : Nat := 0
deriving DecidableEq, Repr

/-- A clip on a layer (spec/16_host_tenants_sluice.md R658). -/
structure Clip where
  layer : Nat := 0
  fn : Nat := 0
  table : List Nat := []
  frames : Nat := 1
  loops : Nat := 0
  start : Nat := 0
  /-- Frame number of F0, once passed its flip. -/
  f0 : Option Nat := none
  /-- Stop HT of a CLIP_STOP, and its command. -/
  stop : Option Nat := none
  stopCmd : Option Nat := none
  cmd : Option Nat := none
deriving DecidableEq, Repr

/-- Coefficients read into a scaler's pending bank (R200): the scaler, the layer and the function of the update, and the
block. -/
structure CoefReq where
  sc : Nat := 0
  layer : Nat := 0
  fn : Nat := 0
  l : List Int := []
deriving DecidableEq, Repr

/-- PF0's fields that a pre-emption has flipped for F_p and later while frames before F_p have still to take the state
that governs them (R232): the earliest boundary F_p can be, the fields with their values, none for the reset value, and
the coefficients that go with them. -/
structure PreFlip where
  h : Nat := 0
  vals : List (Nat × Option Nat) := []
  coefs : List CoefReq := []
deriving DecidableEq, Repr

/-- What the checks on a frame's window signatures keep of it (R234, R236): S and CSEQ of the frame where freeze detection
was enabled, the count U, and the consecutive Levee mismatches up to it. -/
structure FrameMem where
  sig : Option (Nat × Nat) := none
  u : Nat := 0
  miss : Nat := 0
deriving DecidableEq, Repr

/-- What a channel holds for its layers, commits and dark intervals. -/
structure ChSt where
  /-- Shadowed fields written and not flipped: field key, function plus one (R208). -/
  pend : Tbl Nat := []
  commits : List CommitReq := []
  updates : List UpdateReq := []
  /-- Armed fences: layer, function plus one (R212). -/
  fences : Tbl Nat := []
  /-- Scaler coefficients read and not yet flipped, those that flip at the present flip instant, and those in effect, by
scaler (R200, R201). -/
  coefPend : List CoefReq := []
  coefDue : List CoefReq := []
  coef : Tbl (List Int) := []
  /-- Layer, plus one, that each scaler served in the previous flipped state. -/
  served : Tbl Nat := []
  clips : List Clip := []
  /-- Shadowed launch-side values that take effect at a frame boundary: boundary, field key, value, none for the reset value (R111). -/
  defer : List (Nat × Nat × Option Nat) := []
  /-- Pre-emption whose F_p has not been emitted: earliest F_p and the ring command (R232). -/
  preempt : Option (Nat × List Nat) := none
  /-- What pre-emptions have flipped that frames before their F_p do not take. -/
  pre : List PreFlip := []
  /-- Layers to leave at the next flip for a REVOKE or FLR: layer mask, and REVOKE commands to complete (R664). -/
  leave : Nat := 0
  revokes : List Nat := []
  /-- Frame boundaries emitted since the channel was last armed, oldest first (R209). -/
  bounds : List Nat := []
  /-- What freeze detection and the Levee check keep of each frame, by frame number (R234, R236). -/
  mem : Tbl FrameMem := []
  /-- Event 0x0406 has been raised since the last match (R236). -/
  missSaid : Bool := false
  /-- Stamp and fetch-buffer use of the first refusal for capacity since the last event 0x0305 (R189). -/
  refused : Option (Nat × Nat) := none
  /-- Frame in which event 0x0409 was last raised, plus one (R239). -/
  clampAt : Nat := 0
  /-- Write-back frames since the flip that set WB_ALT (R224). -/
  wbAlt : Nat := 0
  /-- Frames at which a new plane format takes effect, and with a change of range the strings changed, whose boundary has
not passed (R270, R359). -/
  fmtDue : List Nat := []
  rangeDue : Tbl Nat := []
  /-- First frame number of the format and of the range dark interval that is open (R270, R359). -/
  darkFrom : Option Nat := none
  rangeFrom : Option Nat := none
  /-- Frame number from which the planes of each interval count, and the planes launched dark since. -/
  darkFirst : Nat := 0
  darkN : Nat := 0
  rangeFirst : Nat := 0
  rangeN : Nat := 0
  /-- Strings whose range changes. -/
  rangeMask : Nat := 0
  /-- The dark planes of the frames before the present one suffice. -/
  darkOk : Bool := false
  rangeOk : Bool := false
  /-- Brightness targets that start their fade at a frame boundary: boundary, EFF, step at once (R420). -/
  bright : List (Nat × Nat × Bool) := []
  /-- Number of the next frame mark, of the first since ARM and of the first since RUNNING. -/
  nextFno : Nat := 0
  armFno : Nat := 0
  runFno : Nat := 0
  /-- Revoked grants of the channel whose reservation is released at the next flip instant (R664). -/
  released : List (Nat × Nat) := []
deriving DecidableEq, Repr

/-! ### Rings and commands -/

/-- A ring command taken and not completed (spec/16_host_tenants_sluice.md R645, R649). -/
structure Cmd where
  id : Nat := 0
  /-- Issuing function and ring. -/
  fn : Nat := 0
  ring : Nat := 0
  tag : Nat := 0
  op : Nat := 0
  /-- Channel, 0xFFFF for none. -/
  ch : Nat := 0xFFFF
  sub : Nat := 0
  /-- Target HT of a frame-timed command, 0 for none. -/
  target : Nat := 0
  /-- First frame boundary that could have served it, once known (R209): frame boundaries passed by since. -/
  passed : Nat := 0
  /-- Further operands, as the opcode uses them. -/
  args : List Nat := []
deriving DecidableEq, Repr

/-- The completion side of one ring (R646 to R648). -/
structure RingSt where
  /-- Completions held: the entry without its phase. -/
  held : List (List Byte) := []
  /-- Completions written since the last signal, and the device tick of the first of them. -/
  unsig : Nat := 0
  unsigAt : Nat := 0
deriving DecidableEq, Repr

/-! ### Rate-limited events -/

/-- Occurrences of a kind whose event is raised at most once per second: how many wait, the stamp, code, channel and
argument of the first, the place and width of the count in the argument, and the device tick, plus one, of the last such
event. -/
structure Rate where
  n : Nat := 0
  stamp : Nat := 0
  code : Nat := 0
  ch : Nat := 0
  arg : Nat := 0
  lo : Nat := 0
  w : Nat := 0
  last : Nat := 0
  /-- The period in ticks; 0 is one second. -/
  per : Nat := 0
deriving DecidableEq, Repr

/-! ### Memory channels -/

/-- A DRAM request that waits for its channel (spec/15_memory.md R605, R612, R625): its address, its bytes when it
writes, its length, its level, when it arrived, its page hint, and the errors its reads will meet: granule of the
request, uncorrectable, device, on the spare rank. -/
structure DramReq where
  write : Bool := false
  addr : Nat := 0
  len : Nat := 0
  bytes : List Byte := []
  level : Nat := 0
  since : Nat := 0
  keep : Bool := true
  errs : List (Nat × Bool × Nat × Bool) := []
  drfm : Nat := 0
  stale : Bool := false
  /-- The function whose aperture the request came through (R640). -/
  fn : Option Nat := none
  /-- The identity of the agent the request comes from (R4). -/
  src : Nat := 0
  /-- The request still waits at the switch output towards the die of its memory (R698). -/
  sw : Bool := false
deriving DecidableEq, Repr

/-- State of a DDR5 channel beyond its registers, by `8 d + m`. -/
structure DdrSt where
  /-- Physical rank of each logical rank after a migration; empty: the ranks in service in ascending order (R602). -/
  ranks : List Nat := []
  /-- Granules of the write queue, oldest first (R604). -/
  wq : List Nat := []
  /-- Successive replays that met a further alert (R625). -/
  alerts : Nat := 0
  /-- Rank of the retraining pause that runs, and the due pauses that wait, with their due ticks (R612). -/
  pause : Option Nat := none
  waits : List (Nat × Nat) := []
  /-- Refreshes held for the end of the pause, in due order (R610). -/
  held : List Nat := []
  /-- Device tick of each rank's next refresh and of its next retraining pause. -/
  refAt : Tbl Nat := []
  trainAt : Tbl Nat := []
  /-- Ranks whose bucket stands at or above the threshold, and ranks that have had an uncorrectable error, as masks. -/
  above : Nat := 0
  ue : Nat := 0
  /-- Correctable errors of each row since start-up: key `((2 rank + subchannel) * 32 + bank) * 2 ^ 24 + row` (R630). -/
  rows : Tbl Nat := []
  /-- Open pages: key `(2 rank + subchannel) * 32 + bank`, value row and device tick of the last hit (R603). -/
  pages : Tbl (Nat × Nat) := []
  /-- Device tick of the last request (R614). -/
  lastReq : Nat := 0
deriving DecidableEq, Repr

/-! ### Reach dies -/

/-- State of a Reach die beyond its registers. -/
structure DieSt where
  /-- Blocks of 1 MiB initialised in ascending order so far, and those initialised out of order (R618). -/
  initNext : Nat := 0
  initOut : List Nat := []
  /-- Device tick of the last leak of the error buckets (R626). -/
  leakAt : Nat := 0
  /-- Device tick, plus one, at which the die left reset, until it accepts ARM (R77). -/
  leftAt : Nat := 0
  /-- Traffic of each of the last 16 intervals of 1 ms in MB/s, newest first (R674). -/
  traffic : List Nat := []
  /-- An accepted VERNIER result not yet in effect (R752). -/
  vernier : Option (List Nat) := none
  /-- Consecutive periods of R393 that allow a lowering, and of R395 that are short or not. -/
  avsDown : Nat := 0
  avsShort : Nat := 0
  avsLong : Nat := 0
deriving DecidableEq, Repr

/-! ### Inside the package -/

/-- A UCIe module, by `2 d + k` (spec/17_inside_the_package.md R691 to R697): CRC errors of its lanes in the last 1 ms,
by `2 lane + direction` as device ticks; device tick, plus one, of its last failed training; lane repairs recorded in
each direction, die to Confluence and back. -/
structure D2dSt where
  errs : Tbl (List Nat) := []
  downAt : Nat := 0
  tx : Nat := 0
  rx : Nat := 0
deriving DecidableEq, Repr

/-- A crossing whose resynchronisation is not answered (R708): device tick, plus one, at which the reset side left
reset, and whether its failure has been counted. -/
structure Cross where
  since : Nat := 0
  failed : Bool := false
deriving DecidableEq, Repr

/-! ### Housekeeping and calibration -/

/-- A die sensor (spec/18_heat_calibration_wear.md R733 to R736): its last reading in 1/16 °C and whether it was valid,
the valid readings of the last 8 rounds, newest first, consecutive invalid rounds, exclusion, and a reading of 125 °C in
the last round. -/
structure Sens where
  t : Int := 0
  valid : Bool := false
  hist : List (Option Int) := []
  bad : Nat := 0
  excl : Bool := false
  hot : Bool := false
deriving DecidableEq, Repr

/-- The housekeeping round: next slot; sensors by HK_SENS_IDX; consecutive calm rounds of each die (R736); conversions
without fault of each thermistor since its fault, plus one, 0 when it was never faulted (R741); some sensor has read
125 °C or more in the last two rounds (R735). -/
structure HkSt where
  slot : Nat := 0
  hot2 : Bool := false
  sens : Tbl Sens := []
  calm : Tbl Nat := []
  thermGood : Tbl Nat := []
deriving DecidableEq, Repr

/-- A calibration target without an outcome: the target, and the values of its run 1 once that is complete, none for a
point that was not measured (R749). -/
structure CalTarget where
  target : Nat
  run1 : Option (List (Option Nat)) := none
  /-- HT from which the run that goes on may take steps (R749), and the steps of it that have had a place (R747), each
  as `64 string + point`. -/
  since : Nat := 0
  seen : List Nat := []
  /-- HT, plus one, since which every string of the channel has been off; 0 while one is lit (R745, R748). -/
  offAt : Nat := 0
deriving DecidableEq, Repr

/-- The calibration job that runs: its targets without an outcome, and the device tick of its deadline; and accepted
converter values that wait for the next round. -/
structure CalSt where
  targets : List CalTarget := []
  deadline : Nat := 0
  adc : Option (List Nat) := none
deriving DecidableEq, Repr

/-- What the calibration record holds besides HOLD_CAPACITY.CAP (R776): WEIR_TRIM by channel, lamp curves as
`State.curves`, calibration values as `State.cals`. -/
structure CalRec where
  trims : Tbl Nat := []
  curves : Tbl Nat := []
  cals : Tbl Nat := []
deriving DecidableEq, Repr

/-! ### Oxbow -/

/-- The substitution of a Reach die (R755 to R761). -/
structure OxSt where
  /-- Port being substituted; none when none runs. -/
  port : Option Nat := none
  /-- 1 soft, 2 request, 3 hard; and a load of CH_CTRL.CLEAR (R73), which is a request without an old pipeline. -/
  trigger : Nat := 0
  clear : Bool := false
  old : Nat := 0
  spare : Nat := 0
  attempt : Nat := 0
  /-- 0 idle, 1 loading, 2 shadow, 3 switching. -/
  phase : Nat := 0
  /-- F_a has been emitted; marks emitted since, and how many of the last frames matched in a row. -/
  shadow : Bool := false
  frames : Nat := 0
  good : Nat := 0
  /-- The comparison has succeeded; F_s, once its mark has been emitted: boundary, and frame count. -/
  success : Bool := false
  fs : Option (Nat × Nat) := none
  /-- The switch has been made. -/
  switched : Bool := false
  /-- Soft triggers (1), hard failures (3), loads of a CLEAR (4) and abandoned substitutions (8 and the trigger) that wait: port, which. -/
  waits : List (Nat × Nat) := []
deriving DecidableEq, Repr

/-- Check failures of a pipeline, by `52 d + p`: device ticks of the soft ones in the last second, and the device tick,
plus one, of the last failure of any kind. -/
structure PipeSt where
  soft : List Nat := []
  lastFail : Nat := 0
deriving DecidableEq, Repr

/-- The pipeline of a channel as a hard substitution needs it (R759): stopped, the sequencer state at the last frame
mark emitted, items emitted after it, and items of the spare still to be discarded. -/
structure PipeCh where
  down : Bool := false
  copy : SeqSt := {}
  since : Nat := 0
  skip : Nat := 0
deriving DecidableEq, Repr

/-! ### Management, the configuration store and firmware -/

/-- A record write (spec/19_management_trust.md R781 to R783): record type, GEN, payload, who asked (0 the device, 1 PF0,
2 the board management controller), the copy being written, whether it is its second try, and the copies identical to
the new content so far. A rewrite of R780 writes one copy only. -/
structure RecWrite where
  k : Nat
  gen : Nat := 0
  payload : List Byte := []
  src : Nat := 0
  copy : Nat := 0
  again : Bool := false
  same : Nat := 0
deriving DecidableEq, Repr

/-- The configuration store: the copies in the flash by `3 (k - 1) + c`, the chosen content of each record as its GEN
and payload, the write that runs and those that wait, and the device tick, plus one, of the first change of a record of
its own not yet written. -/
structure CfgSt where
  copies : Tbl (List Byte) := []
  chosen : Tbl (Nat × List Byte) := []
  write : Option RecWrite := none
  queue : List RecWrite := []
  dirty : Tbl Nat := []
deriving DecidableEq, Repr

/-- A hub firmware image: SVN, GEN and payload; the boot ROM's has an empty payload. -/
structure FwImage where
  svn : Nat := 0
  gen : Nat := 0
  payload : List Byte := []
deriving DecidableEq, Repr

/-- The hub firmware engine: active and previous image, the image loaded for an activation, a request that waits for a
record write, and HT of the new image's start. -/
structure FwSt where
  active : FwImage := {}
  prev : FwImage := {}
  next : Option FwImage := none
  waiting : Bool := false
  startAt : Option Nat := none
deriving DecidableEq, Repr

/-- The management port: SMBus address, the staging buffer of REC_WRITE (bytes that are not zero, and its length), and
the TAG of a REC_WRITE whose answer is awaited. -/
structure MgtSt where
  addr : Nat := 0x4C
  staging : Tbl Nat := []
  stagingLen : Nat := 0
  recTag : Option Nat := none
  /-- MGT_SNAP has counted a change of the present instant (R794). -/
  snapped : Bool := false
deriving DecidableEq, Repr

/-! ### The whole state -/

/-- The state of the block. Every field's default is its value after reset. -/
structure State where
  /-- The queue of waiting commands, first in, first out (the model's own). -/
  pending : List Instr := []
  /-- What left the block in the last step (the model's own). -/
  out : List Out := []
  /-- How many unstated values have been drawn (the model's own). -/
  free : Nat := 0
  /-- Events raised in the present step and not yet delivered; empty between steps (the model's own). -/
  evq : List Queued := []
  /-- Memory writes of the present step not yet made; empty between steps (the model's own). -/
  memq : List MemWrite := []
  /-- Device ticks of 250 ps since power, which run whatever HT does. -/
  tick : Nat := 0
  /-- Current HT (R7). -/
  ht : Nat := 0
  /-- Registers that differ from their reset value, by `Fld.key`. -/
  regs : Tbl Nat := []
  /-- Values in effect of shadowed fields (R11, RWS and RWL), by `Fld.key`. -/
  eff : Tbl Nat := []
  /-- Latched upper words of register pairs: reading function, address of the upper word, value (R16). -/
  latch : List (Nat × Nat × Nat) := []
  /-- Device memory (R598, R618): bytes that are not zero, by device address. -/
  mem : List Host.Cell := []
  /-- Reach dies whose DRAM lost its contents in the present step, as a mask; 0 between steps (the model's own). -/
  memLost : Nat := 0
  /-- Granules that carry the poison marker (R620), by address div 64. -/
  poison : Tbl Nat := []
  hub : HubSt := {}
  /-- The status pins. -/
  pins : Pins := {}
  /-- Event rings: 0 PF0, t VF t. -/
  evr : Tbl EvRing := []
  grants : List Grant := []
  /-- Management values of LAMP_SCEIL, by string block (R789); 0xFFFF is none. -/
  mgtCeil : Tbl Nat := []
  /-- Launch queues, sequencers, rills, strings (key 8 n + s), drivers (key 16 n + i) and ports of the channels. -/
  weirs : Tbl WeirSt := []
  seqs : Tbl SeqSt := []
  lamps : Tbl LampSt := []
  strs : Tbl StrSt := []
  drvs : Tbl DrvSt := []
  ports : Tbl PortSt := []
  /-- Amplitude-to-light curves: key ((n * 6 + string) * 2 + range) * 33 + entry, entries at their reset value unlisted. -/
  curves : Tbl Nat := []
  /-- Program memory of the sequencers: key `(2 n + bank) * 4096 + index`; and their descriptor halves as 32-bit words:
  key `(2 n + bank) * 4096 + word` (R275, R297). -/
  prog : Tbl Nat := []
  descr : Tbl Nat := []
  /-- Moving parts of the channels. -/
  moves : Tbl MoveSt := []
  /-- Loop slots by slot number (R454), logical cores by `64 d + c`, eddy buffers by `17 d + cluster`. -/
  slots : Tbl SlotSt := []
  cores : Tbl CoreSt := []
  eddys : Tbl EddySt := []
  /-- Program memory of the loop cores, `1024 core + index`, and data memory, `512 core + word` (R275). -/
  lprog : Tbl Nat := []
  ldata : Tbl Nat := []
  /-- Binding words, `48 slot + word` (R495); set-points in effect and as last written, `4 slot + n` (R478). -/
  binds : Tbl Nat := []
  sps : Tbl Nat := []
  spReg : Tbl Nat := []
  /-- Physical core that serves a logical core, `64 d + c`: 0 the core of the same number, p + 1, or 128 for none; and
  the retired physical cores, `68 d + p` (R454, R753). -/
  serve : Tbl Nat := []
  retired : Tbl Nat := []
  /-- Device tick of each thermistor's last conversion, plus one; 0 when none. -/
  thermAt : Tbl Nat := []
  /-- Frames of the channels that are still in use, oldest first, and their plane formats. -/
  frms : Tbl (List Frm) := []
  fmts : Tbl (List Fmt) := []
  time : TimeSt := {}
  dst : Tbl DieSt := []
  ddrs : Tbl DdrSt := []
  /-- DRAM requests that wait, in order of arrival. -/
  dreqs : List DramReq := []
  /-- Device tick from which the switch output towards a Reach die is free again (R698). -/
  swBusy : Tbl Nat := []
  /-- Rows recorded for repair in the spare record (R630, R753): channel `8 d + m`, row key. -/
  spareRows : List (Nat × Nat) := []
  /-- Events raised at most once per second, by a key of their own. -/
  rates : Tbl Rate := []
  /-- Surface tables, by `1024 fn + handle`. -/
  surfs : Tbl Surf := []
  /-- Surfaces of a reset function that frames in composition still use: they are emptied once none does (R681). -/
  flrs : List Nat := []
  chs : Tbl ChSt := []
  /-- Transfer LUTs: key `((2 n + bank) * 3 + primary) * 1025 + entry`, entries at their reset value unlisted (R219). -/
  luts : Tbl Nat := []
  /-- Ring commands taken and not completed, oldest first, and the number of the next. -/
  cmds : List Cmd := []
  nextCmd : Nat := 1
  /-- Rings, by `16 t + r`. -/
  rings : Tbl RingSt := []
  /-- Epochs of the units (R710), by `512 class + index`. -/
  epochs : Tbl Nat := []
  /-- Crossings that wait for their resynchronisation, by `64 location + crossing` (R708). -/
  crosses : Tbl Cross := []
  d2ds : Tbl D2dSt := []
  /-- Device tick, plus one, of the acquisition of each owned lock, and the lease in ms it runs with (R724). -/
  lockAt : Tbl (Nat × Nat) := []
  hk : HkSt := {}
  cal : CalSt := {}
  /-- Calibration values in use (R765), by `(256 kind + target) * 64 + word`. -/
  cals : Tbl Nat := []
  calRec : CalRec := {}
  /-- New lamp curves that wait for the channel's next frame boundary: curve key and value (R745). -/
  curveDue : Tbl (List (Nat × Nat)) := []
  oxs : Tbl OxSt := []
  pipes : Tbl PipeSt := []
  pipeChs : Tbl PipeCh := []
  /-- The spare record's pipelines (R753): pipeline bound to a channel, plus one, where it is not the channel's own;
  retired pipelines by `52 d + p`. -/
  pipeRec : Tbl Nat := []
  pipeDead : Tbl Nat := []
  cfg : CfgSt := {}
  fw : FwSt := {}
  mgt : MgtSt := {}
  /-- IDE streams: 1 keys programmed, 2 KEY_GO completed (R788); SPDM sessions open, by mailbox: function, 257 for the
  management port (R786). -/
  ide : Tbl Nat := []
  spdm : Tbl Nat := []
deriving DecidableEq, Repr

/-- Why the machine stops with a fault. -/
inductive Fault where
  /-- A command whose operands describe something that cannot exist (a message of a wrong length, a value above its
  width); raised by `Machine.guarded`. Safe: nothing outside the block can send it. -/
  | illFormed
deriving DecidableEq, Repr

/-- Why a command has no meaning. -/
inductive Refusal where
  /-- The row of this mnemonic is not modelled yet. Safe: the machine stops. -/
  | notModelled (mnemonic : String)
deriving DecidableEq, Repr

/-- The machine as its tables' reset values give it (R76): DORMANT, not ready, every channel OFF, every rill in
SAFE-DARK, memory with nothing listed; the first POWER_GOOD is still to come (log 7). -/
def State.reset : State := {}

end Sys2Proof.Machine
end

