-- ==== Sys2Proof/Machine/Chars.lean ====
section
/-!
DEFINITION. The characters of an Ehriz port (spec/13_ehriz_lanes.md R523 to R530, spec/14_ehriz_protocol_heads.md R560 to
R567, R572): what each lane carries for a packet, an ordered set, a marker or a training set. A data character is its
byte; a special character is 256 plus its byte.
-/

namespace Sys2Proof.Machine
open Sys2Proof

/-! ### Special characters (R525)

K28.0 and K28.7 are never sent and have no name here; K30.7 ends a packet that is given up, and the specification names
no occasion on which the device gives one up. -/

/-- K23.7: the electrical-idle ordered set. -/
abbrev kElecIdle : Nat := 256 + 0xF7
/-- K27.7 and K29.7: packet start and end. -/
abbrev kStart : Nat := 256 + 0xFB
abbrev kEnd : Nat := 256 + 0xFD
/-- K28.1: SYNC and LAUNCH ordered sets. -/
abbrev kTiming : Nat := 256 + 0x3C
/-- K28.2: the CANCEL ordered set. -/
abbrev kCancel : Nat := 256 + 0x5C
/-- K28.3: an alignment marker. -/
abbrev kMarker : Nat := 256 + 0x7C
/-- K28.4: PARK ordered sets. -/
abbrev kPark : Nat := 256 + 0x9C
/-- K28.5: the idle pair and the training set. -/
abbrev kComma : Nat := 256 + 0xBC
/-- K28.6: RETRAIN and WIDTH ordered sets. -/
abbrev kLink : Nat := 256 + 0xDC

/-- The idle pair K28.5, D16.2 that every lane in use carries between packets and ordered sets (R526). -/
def idlePair : List Nat := [kComma, 0x50]

/-! ### Checks -/

/-- One bit of CRC-8 with polynomial 0x07. -/
def crc8Bit (crc : Nat) (b : Bool) : Nat :=
  let x := (crc * 2) % 256
  if (bitOf crc 7 != b) then x ^^^ 0x07 else x

/-- CRC-8 over bytes, most significant bit first, from 0 (R438, R530). -/
def crc8 (l : List Nat) : Nat :=
  l.foldl (fun c x => [7, 6, 5, 4, 3, 2, 1, 0].foldl (fun c i => crc8Bit c (bitOf x i)) c) 0

/-- Most significant byte first, as characters. -/
def beChars (n x : Nat) : List Nat := (beBytes n x).map (·.toNat)

/-! ### Ordered sets (R560 to R562) -/

/-- An ordered set: its special character, and the CRC-8 over every character after the first. -/
def orderedSet (k : Nat) (body : List Nat) : List Nat := k :: body ++ [crc8 body]

/-- Sent twice, back to back (R561). -/
def twice (l : List Nat) : List Nat := l ++ l

/-- The characters of an ordered set on every lane; none for anything else. -/
def setChars : Out → Option (List Nat)
  | .sync _ ht16 _ => some (orderedSet kTiming (1 :: beChars 8 (ht16 / 16) ++ [ht16 % 16]))
  | .launchSet _ r toks => some (orderedSet kTiming (2 :: toTwos 8 r :: toks.length :: toks))
  | .cancel _ cause tc => some (twice (orderedSet kCancel (cause :: beChars 8 tc)))
  | .park _ seq => some (twice (orderedSet kPark [1, seq]))
  | .linkSet _ op w mask seq => some (twice (orderedSet kLink [op, w + 8 * mask, seq]))
  | .idlePair _ => some []
  | _ => none

/-! ### Packets (R565, R567, R572) -/

/-- A packet: K27.7, the body, its CRC-32, K29.7. -/
def packet (body : List Nat) : List Nat := kStart :: body ++ beChars 4 (crc32 body) ++ [kEnd]

/-- The body of a LAUNCH, CFG_WR or CFG_RD packet. -/
def packetBody : Out → Option (List Nat)
  | .launchPacket _ bs => some (bs.map (·.toNat))
  | .cfgRequest _ write tag addr words =>
    if write = 1 then some ([4, tag] ++ beChars 3 addr ++ words.length :: words.flatMap (beChars 4))
    else some ([5, tag] ++ beChars 3 addr ++ words)
  | _ => none

/-- Bytes 0 to 7 of a PLANE_DATA or LINE_DATA packet: chunk `k` of `count`, `len` bytes long (R566). -/
def chunkHeader (line : Bool) (buf stage k count len : Nat) : List Nat :=
  [if line then 2 else 1, buf] ++ beChars 2 k ++ [len / 64, b2n (k = 0) + 2 * b2n (k + 1 = count)] ++ beChars 2 stage

/-- Characters of a packet whose body has `n` bytes. -/
def packetLength (n : Nat) : Nat := n + 6

/-- Deal the characters of a packet, whose first is character `start` of the packet stream, to the lanes in use in
rising order of their logical numbers: character i on lane i mod w (R523). -/
def stripe (lanes : List Nat) (start : Nat) (chars : List Nat) : List (Nat × List Nat) :=
  let w := max 1 lanes.length
  lanes.zipIdx.map (fun p => (p.1, (chars.zipIdx.filter (fun c => (start + c.2) % w == p.2)).map (·.1)))

/-! ### Markers and training sets (R528, R530) -/

/-- The alignment marker of a logical lane. -/
def markerChars (logical width seq stat : Nat) : List Nat := [kMarker, logical + 4 * width, seq, stat]

/-- The training set of physical lane `l`: TYPE, then `body`, characters 4 to 13. -/
def trainingChars (type l : Nat) (body : List Nat) : List Nat :=
  let c := [0xB5, type, l] ++ body
  kComma :: c ++ [crc8 c, 0xB5]

/-! ### What each lane carries -/

/-- The lanes of a port as a sender sees them: physical and logical numbers of those in use, in rising order of the
logical ones; those being trained; and the index, modulo 4, of the next character of the packet stream. -/
structure LaneView where
  use : List (Nat × Nat)
  training : List (Nat × Nat)
  next : Nat
deriving DecidableEq, Repr

/-- The same characters on every lane in use, from one character boundary (R523, R560), and the idle pair that follows. -/
def onEvery (v : LaneView) (chars : List Nat) : List (Nat × List Nat) := v.use.map (fun l => (l.1, chars ++ idlePair))

/-- By physical lane, the characters of an output; none for one that is no business of a port's lanes. -/
def laneChars (v : LaneView) (o : Out) : List (Nat × List Nat) :=
  match setChars o with
  | some c => onEvery v c
  | none =>
    match packetBody o with
    | some b => (stripe (v.use.map (·.1)) v.next (packet b)).map (fun l => (l.1, l.2 ++ idlePair))
    | none =>
      match o with
      | .marker _ w seq stat => (v.use ++ v.training).map (fun l => (l.1, markerChars l.2 w seq stat))
      | .train _ code lanes body => if code = 4 then [] else lanes.map (fun l => (l, trainingChars code l body))
      | .idle _ => v.use.map (fun l => (l.1, [kElecIdle]))
      | _ => []

end Sys2Proof.Machine
end

