-- ==== Sys2Proof/Config.lean ====
section
/-!
DEFINITION. What an implementation fixes and the specification does not state: opaque constants with no body, so that
nothing can evaluate them or prove a value of them. Each is named in a row of notes/assumptions/.
-/

namespace Sys2Proof.Config
open Sys2Proof

/-- Device serial number, fused (spec/20_register_map.md R800). -/
opaque serial : BitVec 64

/-- Minor silicon revision, per stepping (R800). -/
opaque revMinor : Nat

/-- Major silicon revision, per stepping (R800). -/
opaque revMajor : Nat

/-- Lowest firmware security version accepted, fused (spec/19_management_trust.md R796). -/
opaque svnMin : Nat

/-- The debug lock and the JTAG lock of the security root, fused; 0 is open (spec/19_management_trust.md R787,
spec/21_pins_package_electrical.md R833). -/
opaque debugLock : Nat
opaque jtagLock : Nat

/-- The hold island's own draw in HOLD in mW, fused, about 0x4B0 (spec/02_modes_power_hold.md R103). -/
opaque islandDraw : Nat

/-- A fresh unstated value: applied to the counter `State.free`, which every use advances. -/
opaque freeValue : Nat → Nat

/-- The rounding of a fade value that falls between two integers, up when it is odd: curve, gamma, start, target,
elapsed ticks, duration (spec/10_lamps_rill.md R421). -/
opaque fadeValue : Nat → Nat → Nat → Nat → Nat → Nat → Nat

/-- Instruction words and entry point of the standard loop images 1 to 4, and the initial state words of images 3 and 4
that their tables do not list (spec/11_loop_engines.md R480 to R484). -/
opaque stdCode : Nat → List Nat
opaque stdEntry : Nat → Nat
opaque stdState : Nat → List Nat

/-- The 96 signature bytes of a record copy over header bytes 0 to 63 and payload (spec/19_management_trust.md R777). -/
opaque recordSig : List Nat → List Nat

/-- Whether a FIRMWARE payload's Mazente signature verifies, and its security version (R776, R783); the SVN of the boot
ROM's firmware. -/
opaque fwSigOk : List Nat → Bool
opaque fwSvn : List Nat → Nat
opaque romSvn : Nat

/-- The payload of a record of the device's own, by record type, for its content as numbers (R776, R753). -/
opaque devPayload : Nat → List Nat → List Nat

/-- A CALIBRATION or SPARE payload that the device did not write last itself, read as content (R776). -/
opaque devContent : Nat → List Nat → List Nat

/-- Start-up values of a CONFIG payload (R776): TIME_CTRL.ROLE and PRIMARY, the management address, the DDR5 mapping of a
die as masks M_0 to M_3, fold bits p_0 to p_3, masks N_0 to N_4 and fold bits q_0 to q_4, and the spare rank of a DDR5
channel. -/
opaque configRole : List Nat → Nat
opaque configPrimary : List Nat → Nat
opaque configAddr : List Nat → Nat
opaque configMap : List Nat → Nat → Option (List Nat)
opaque configSpare : List Nat → Nat → Nat → Option Nat

/-- A byte of the hold log (R772, R776): its records as numbers, and the offset. -/
opaque logByte : List Nat → Nat → Nat

/-- Certificates, digests and measurements (R786, R787): slot or index, content measured. -/
opaque certificate : Nat → List Nat
opaque measurement : Nat → List Nat → List Nat

end Sys2Proof.Config
end

