-- ==== Sys2Proof/Machine/Fields.lean ====
section
/-!
DEFINITION. What a register field is (spec/00_scope.md R8 to R13): its place, its width, its access code and its
reset value. The tables of the chapters are the constants of `Regs….lean`.
-/

namespace Sys2Proof.Machine
open Sys2Proof

/-- The access codes of R11. -/
inductive Acc where
  /-- Read returns the current value; a write takes effect at once. -/
  | rw
  /-- Read returns the current value; a write is ignored. -/
  | ro
  /-- Each 1 written clears the bit. -/
  | w1c
  /-- Reads 0; a write takes effect at once. -/
  | wo
  /-- Reads the pending value; takes effect at the next commit or frame boundary. -/
  | rws
  /-- Reads the value last written; takes effect at the next sample tick or line. -/
  | rwl
  /-- Takes effect at once while the owning block is stopped; rejected while it runs. -/
  | rwf
deriving DecidableEq, Repr

/-- One field of a register, or of each register of an array: instance `i` lies `stride * i` bytes and `bstep * i`
bits further on. -/
structure Fld where
  /-- Byte offset of the register from the base of its block. -/
  off : Nat
  /-- Lowest bit of the field. -/
  lo : Nat
  /-- Width in bits. -/
  w : Nat
  /-- Access code (R11). -/
  acc : Acc
  /-- Reset value, unless `rsts` gives one for the instance. -/
  rst : Nat
  /-- Distance of two registers of an array in bytes; 0 when the register stands alone. -/
  stride : Nat := 0
  /-- Distance of two fields of one register in bits, for fields the tables give as `[4i+2:4i]`. -/
  bstep : Nat := 0
  /-- Number of instances. -/
  n : Nat := 1
  /-- Reset values that differ by instance. -/
  rsts : List Nat := []

/-- The byte offset of instance `i` of the field's register. -/
def Fld.offAt (f : Fld) (i : Nat) : Nat := f.off + f.stride * i

/-- The lowest bit of instance `i`. -/
def Fld.loAt (f : Fld) (i : Nat) : Nat := f.lo + f.bstep * i

/-- The key under which instance `i` of the field is stored, for a block at byte address `base`: register address
times 32 plus the lowest bit, so that two fields never share a key. -/
def Fld.key (f : Fld) (base i : Nat) : Nat := (base + f.off + f.stride * i) * 32 + (f.lo + f.bstep * i)

/-- The reset value of instance `i`. -/
def Fld.reset (f : Fld) (i : Nat) : Nat := f.rsts.getD i f.rst

end Sys2Proof.Machine
end

