-- ==== Sys2Proof/Machine/RegsChannel.lean ====
section
/-!
DEFINITION. The register fields of these blocks, one constant per field, as the register tables of spec/ list them:
`chBlk`: the logical channel block (R801).
`fetchLayerBlk`: the FETCH_ registers of one layer (R186).
`compLayerBlk`: the COMP_L registers of one layer (R237).
`lampStrBlk`: the LAMP_ registers of one string (R451).
`lampBypBlk`: the LAMP_BYP registers of one driver (R452).
-/

namespace Sys2Proof.Machine.R
open Sys2Proof

/-- R32: CH_KIND.KIND [1:0] RWF. Channel kind; encoding in the table below. The owning block is the channel, which runs in every channel … -/
def CH_KIND_KIND : Fld :=
  { off := 0x8, lo := 0, w := 2, acc := .rwf, rst := 0 }

/-- R32: CH_KIND.PCLASS [8] RO. 1 when the channel's port is a P-class port -/
def CH_KIND_PCLASS : Fld :=
  { off := 0x8, lo := 8, w := 1, acc := .ro, rst := 0 }

/-- R32: CH_KIND.HEAD_KIND [10:9] RO. Kind declared by the head at its last identification, encoded as KIND; 0b11 when no head is identified -/
def CH_KIND_HEAD_KIND : Fld :=
  { off := 0x8, lo := 9, w := 2, acc := .ro, rst := 3 }

/-- R32: CH_KIND.KIND_MISMATCH [11] RO. 1 when HEAD_KIND is 0b00, 0b01 or 0b10 and differs from KIND -/
def CH_KIND_KIND_MISMATCH : Fld :=
  { off := 0x8, lo := 11, w := 1, acc := .ro, rst := 0 }

/-- R68: CH_CTRL.ARM [0] WO. 1: arm the channel -/
def CH_CTRL_ARM : Fld :=
  { off := 0x0, lo := 0, w := 1, acc := .wo, rst := 0 }

/-- R68: CH_CTRL.DISARM [1] WO. 1: return an ARMED channel to OFF -/
def CH_CTRL_DISARM : Fld :=
  { off := 0x0, lo := 1, w := 1, acc := .wo, rst := 0 }

/-- R68: CH_CTRL.STOP [2] WO. 1: drain a RUNNING channel at its stop time -/
def CH_CTRL_STOP : Fld :=
  { off := 0x0, lo := 2, w := 1, acc := .wo, rst := 0 }

/-- R68: CH_CTRL.CLEAR [3] WO. 1: return a FAULTED channel to OFF -/
def CH_CTRL_CLEAR : Fld :=
  { off := 0x0, lo := 3, w := 1, acc := .wo, rst := 0 }

/-- R68: CH_CTRL.RESET [4] WO. 1: channel reset -/
def CH_CTRL_RESET : Fld :=
  { off := 0x0, lo := 4, w := 1, acc := .wo, rst := 0 }

/-- R71: CH_STATUS.STATE [2:0] RO. 0b000 OFF, 0b001 ARMED, 0b010 RUNNING, 0b011 DRAINING, 0b100 FAULTED; other codes never reported -/
def CH_STATUS_STATE : Fld :=
  { off := 0x4, lo := 0, w := 3, acc := .ro, rst := 0 }

/-- R71: CH_STATUS.ARM_REJECT [7:4] RO. Reason of the last rejected ARM: 0x0 none, 0x1–0x6 as in R65; 0x7–0xF never reported -/
def CH_STATUS_ARM_REJECT : Fld :=
  { off := 0x4, lo := 4, w := 4, acc := .ro, rst := 0 }

/-- R71: CH_STATUS.FAULT [15:8] RO. Cause of the current or last FAULTED entry -/
def CH_STATUS_FAULT : Fld :=
  { off := 0x4, lo := 8, w := 8, acc := .ro, rst := 0 }

/-- R71: CH_STATUS.WRITE_REJECTED [16] W1C. Set by a rejected write to an RWF field of the channel block -/
def CH_STATUS_WRITE_REJECTED : Fld :=
  { off := 0x4, lo := 16, w := 1, acc := .w1c, rst := 0 }

/-- R71: CH_STATUS.CMD_IGNORED [17] W1C. Set as in R70 -/
def CH_STATUS_CMD_IGNORED : Fld :=
  { off := 0x4, lo := 17, w := 1, acc := .w1c, rst := 0 }

/-- R71: CH_STATUS.COMMITTED [18] RO. 1 once a commit has completed since the last ARM -/
def CH_STATUS_COMMITTED : Fld :=
  { off := 0x4, lo := 18, w := 1, acc := .ro, rst := 0 }

/-- R71: CH_STATUS.SAFE_DARK [19] RO. 1 while the channel's rill drives SAFE-DARK -/
def CH_STATUS_SAFE_DARK : Fld :=
  { off := 0x4, lo := 19, w := 1, acc := .ro, rst := 1 }

/-- R71: CH_STATUS.PARKED [20] RO. 1 while the head reports itself parked -/
def CH_STATUS_PARKED : Fld :=
  { off := 0x4, lo := 20, w := 1, acc := .ro, rst := 1 }

/-- R188: FETCH_CTRL.CNT_CLR [0] WO. 1: clear the counters at 0x0608–0x0618 and FETCH_UFRAME -/
def FETCH_CTRL_CNT_CLR : Fld :=
  { off := 0x600, lo := 0, w := 1, acc := .wo, rst := 0 }

/-- R188: FETCH_STATUS.UNDERRUN [0] RO. 1: the last completed frame had an underrun line -/
def FETCH_STATUS_UNDERRUN : Fld :=
  { off := 0x604, lo := 0, w := 1, acc := .ro, rst := 0 }

/-- R188: FETCH_STATUS.POISON [1] RO. 1: the last completed frame had a poison replacement -/
def FETCH_STATUS_POISON : Fld :=
  { off := 0x604, lo := 1, w := 1, acc := .ro, rst := 0 }

/-- R188: FETCH_STATUS.DECODE [2] RO. 1: the last completed frame had a decode error -/
def FETCH_STATUS_DECODE : Fld :=
  { off := 0x604, lo := 2, w := 1, acc := .ro, rst := 0 }

/-- R188: FETCH_STATUS.RIGHTS [3] RO. 1: the last completed frame had a rights fault -/
def FETCH_STATUS_RIGHTS : Fld :=
  { off := 0x604, lo := 3, w := 1, acc := .ro, rst := 0 }

/-- R188: FETCH_STATUS.BUF_REFUSED [4] W1C. Set as in R177 -/
def FETCH_STATUS_BUF_REFUSED : Fld :=
  { off := 0x604, lo := 4, w := 1, acc := .w1c, rst := 0 }

/-- R188: FETCH_UNDERRUN_LINES.COUNT [31:0] RO. Underrun lines -/
def FETCH_UNDERRUN_LINES_COUNT : Fld :=
  { off := 0x608, lo := 0, w := 32, acc := .ro, rst := 0 }

/-- R188: FETCH_UNDERRUN_FRAMES.COUNT [31:0] RO. Frames with an underrun line -/
def FETCH_UNDERRUN_FRAMES_COUNT : Fld :=
  { off := 0x60C, lo := 0, w := 32, acc := .ro, rst := 0 }

/-- R188: FETCH_POISON_CNT.COUNT [31:0] RO. Bursts and tiles replaced for poison -/
def FETCH_POISON_CNT_COUNT : Fld :=
  { off := 0x610, lo := 0, w := 32, acc := .ro, rst := 0 }

/-- R188: FETCH_DECODE_CNT.COUNT [31:0] RO. Tiles replaced for decode errors -/
def FETCH_DECODE_CNT_COUNT : Fld :=
  { off := 0x614, lo := 0, w := 32, acc := .ro, rst := 0 }

/-- R188: FETCH_RIGHTS_CNT.COUNT [31:0] RO. Layer-frames with a rights fault -/
def FETCH_RIGHTS_CNT_COUNT : Fld :=
  { off := 0x618, lo := 0, w := 32, acc := .ro, rst := 0 }

/-- R188: FETCH_UFRAME_LO.HT [31:0] RO. Frame boundary of the last underrun frame, [31:0]; latches FETCH_UFRAME_HI as in R16 -/
def FETCH_UFRAME_LO_HT : Fld :=
  { off := 0x61C, lo := 0, w := 32, acc := .ro, rst := 0 }

/-- R188: FETCH_UFRAME_HI.HT [31:0] RO. [63:32] -/
def FETCH_UFRAME_HI_HT : Fld :=
  { off := 0x620, lo := 0, w := 32, acc := .ro, rst := 0 }

/-- R188: FETCH_BUF_USED.BYTES [21:0] RO. Fetch-buffer use of the layer state in effect (R176) -/
def FETCH_BUF_USED_BYTES : Fld :=
  { off := 0x624, lo := 0, w := 22, acc := .ro, rst := 0 }

/-- R238: COMP_CTRL.MODE [0] RWF. 0 commit mode, 1 fence mode -/
def COMP_CTRL_MODE : Fld :=
  { off := 0xA40, lo := 0, w := 1, acc := .rwf, rst := 0 }

/-- R238: COMP_CTRL.WB_EN [1] RWS. 1: write-back on -/
def COMP_CTRL_WB_EN : Fld :=
  { off := 0xA40, lo := 1, w := 1, acc := .rws, rst := 0 }

/-- R238: COMP_CTRL.WB_ALT [2] RWS. 1: alternate write-back handles (R224) -/
def COMP_CTRL_WB_ALT : Fld :=
  { off := 0xA40, lo := 2, w := 1, acc := .rws, rst := 0 }

/-- R238: COMP_CTRL.FRZ_EN [3] RWS. 1: freeze detection on -/
def COMP_CTRL_FRZ_EN : Fld :=
  { off := 0xA40, lo := 3, w := 1, acc := .rws, rst := 0 }

/-- R238: COMP_CTRL.FRZ_WIN [4] RWS. 0 whole output, 1 freeze window -/
def COMP_CTRL_FRZ_WIN : Fld :=
  { off := 0xA40, lo := 4, w := 1, acc := .rws, rst := 0 }

/-- R238: COMP_CTRL.UMAP_EN [5] RWS. 1: uniformity gain on -/
def COMP_CTRL_UMAP_EN : Fld :=
  { off := 0xA40, lo := 5, w := 1, acc := .rws, rst := 0 }

/-- R238: COMP_CTRL.LUT_BANK [6] RWS. LUT bank in use (R219) -/
def COMP_CTRL_LUT_BANK : Fld :=
  { off := 0xA40, lo := 6, w := 1, acc := .rws, rst := 0 }

/-- R238: COMP_CTRL.PREEMPT [7] WO. 1: pre-empt (R232) -/
def COMP_CTRL_PREEMPT : Fld :=
  { off := 0xA40, lo := 7, w := 1, acc := .wo, rst := 0 }

/-- R238: COMP_CTRL.CNT_CLR [8] WO. 1: clear the counters of this table and every COMP_LLATE_CNT -/
def COMP_CTRL_CNT_CLR : Fld :=
  { off := 0xA40, lo := 8, w := 1, acc := .wo, rst := 0 }

/-- R238: COMP_STATUS.FROZEN [0] RO. As in R235 -/
def COMP_STATUS_FROZEN : Fld :=
  { off := 0xA44, lo := 0, w := 1, acc := .ro, rst := 0 }

/-- R238: COMP_STATUS.LEVEE_EFF [1] RO. 1: the Levee took part in the last completed frame -/
def COMP_STATUS_LEVEE_EFF : Fld :=
  { off := 0xA44, lo := 1, w := 1, acc := .ro, rst := 0 }

/-- R238: COMP_STATUS.LEVEE_MISMATCH [2] RO. 1: the last checked frame mismatched -/
def COMP_STATUS_LEVEE_MISMATCH : Fld :=
  { off := 0xA44, lo := 2, w := 1, acc := .ro, rst := 0 }

/-- R238: COMP_STATUS.BRIGHT_CLAMPED [3] W1C. As in R229 -/
def COMP_STATUS_BRIGHT_CLAMPED : Fld :=
  { off := 0xA44, lo := 3, w := 1, acc := .w1c, rst := 0 }

/-- R238: COMP_STATUS.WB_INCOMPLETE [4] RO. 1: the last write-back frame was incomplete -/
def COMP_STATUS_WB_INCOMPLETE : Fld :=
  { off := 0xA44, lo := 4, w := 1, acc := .ro, rst := 0 }

/-- R238: COMP_STATUS.WB_UNDERRUN [5] RO. 1: the last write-back frame had an underrun line -/
def COMP_STATUS_WB_UNDERRUN : Fld :=
  { off := 0xA44, lo := 5, w := 1, acc := .ro, rst := 0 }

/-- R238: COMP_STATUS.BAND_EFF [8:6] RO. Band of the map used in the last frame, 0–4 (below 0, 0–45, 45–70, 70–85, above 85 °C) -/
def COMP_STATUS_BAND_EFF : Fld :=
  { off := 0xA44, lo := 6, w := 3, acc := .ro, rst := 1 }

/-- R238: COMP_STATUS.LUT_BANK_EFF [9] RO. LUT bank of the last frame -/
def COMP_STATUS_LUT_BANK_EFF : Fld :=
  { off := 0xA44, lo := 9, w := 1, acc := .ro, rst := 0 }

/-- R238: COMP_FLIP.LEAD [15:0] RWF. Flip lead in µs (25 000); values below 0x03E8 act as 0x03E8 -/
def COMP_FLIP_LEAD : Fld :=
  { off := 0xA48, lo := 0, w := 16, acc := .rwf, rst := 25000 }

/-- R238: COMP_FLIP.PREEMPT_LEAD [31:16] RW. Pre-emption lead in µs (12 000) -/
def COMP_FLIP_PREEMPT_LEAD : Fld :=
  { off := 0xA48, lo := 16, w := 16, acc := .rw, rst := 12000 }

/-- R238: COMP_BG.B [9:0] RWS. Background blue, expanded as in R156 -/
def COMP_BG_B : Fld :=
  { off := 0xA4C, lo := 0, w := 10, acc := .rws, rst := 0 }

/-- R238: COMP_BG.G [19:10] RWS. Background green -/
def COMP_BG_G : Fld :=
  { off := 0xA4C, lo := 10, w := 10, acc := .rws, rst := 0 }

/-- R238: COMP_BG.R [29:20] RWS. Background red -/
def COMP_BG_R : Fld :=
  { off := 0xA4C, lo := 20, w := 10, acc := .rws, rst := 0 }

/-- R238: COMP_MAT0.M00 [15:0] RWS. Matrix P0 ← R -/
def COMP_MAT0_M00 : Fld :=
  { off := 0xA50, lo := 0, w := 16, acc := .rws, rst := 4096 }

/-- R238: COMP_MAT0.M01 [31:16] RWS. P0 ← G -/
def COMP_MAT0_M01 : Fld :=
  { off := 0xA50, lo := 16, w := 16, acc := .rws, rst := 0 }

/-- R238: COMP_MAT1.M02 [15:0] RWS. P0 ← B -/
def COMP_MAT1_M02 : Fld :=
  { off := 0xA54, lo := 0, w := 16, acc := .rws, rst := 0 }

/-- R238: COMP_MAT1.M10 [31:16] RWS. P1 ← R -/
def COMP_MAT1_M10 : Fld :=
  { off := 0xA54, lo := 16, w := 16, acc := .rws, rst := 0 }

/-- R238: COMP_MAT2.M11 [15:0] RWS. P1 ← G -/
def COMP_MAT2_M11 : Fld :=
  { off := 0xA58, lo := 0, w := 16, acc := .rws, rst := 4096 }

/-- R238: COMP_MAT2.M12 [31:16] RWS. P1 ← B -/
def COMP_MAT2_M12 : Fld :=
  { off := 0xA58, lo := 16, w := 16, acc := .rws, rst := 0 }

/-- R238: COMP_MAT3.M20 [15:0] RWS. P2 ← R -/
def COMP_MAT3_M20 : Fld :=
  { off := 0xA5C, lo := 0, w := 16, acc := .rws, rst := 0 }

/-- R238: COMP_MAT3.M21 [31:16] RWS. P2 ← G -/
def COMP_MAT3_M21 : Fld :=
  { off := 0xA5C, lo := 16, w := 16, acc := .rws, rst := 0 }

/-- R238: COMP_MAT4.M22 [15:0] RWS. P2 ← B -/
def COMP_MAT4_M22 : Fld :=
  { off := 0xA60, lo := 0, w := 16, acc := .rws, rst := 4096 }

/-- R238: COMP_LUT_IDX.ENTRY [10:0] RW. Entry 0–1024; values above 1024 make COMP_LUT_DATA accesses read 0 and ignore writes, without advancing … -/
def COMP_LUT_IDX_ENTRY : Fld :=
  { off := 0xA64, lo := 0, w := 11, acc := .rw, rst := 0 }

/-- R238: COMP_LUT_IDX.PRI [12:11] RW. Primary 0–2; 0b11 makes COMP_LUT_DATA accesses read 0 and ignore writes -/
def COMP_LUT_IDX_PRI : Fld :=
  { off := 0xA64, lo := 11, w := 2, acc := .rw, rst := 0 }

/-- R238: COMP_LUT_IDX.BANK [13] RW. Bank accessed -/
def COMP_LUT_IDX_BANK : Fld :=
  { off := 0xA64, lo := 13, w := 1, acc := .rw, rst := 0 }

/-- R238: COMP_LUT_DATA.VALUE [15:0] RW. Entry value; each access to an entry, including a rejected write, advances ENTRY by 1, and from 1024 to 0 … -/
def COMP_LUT_DATA_VALUE : Fld :=
  { off := 0xA68, lo := 0, w := 16, acc := .rw, rst := 0 }

/-- R238: COMP_UMAP_CFG.STRIDE [15:0] RWS. Map row pitch, 256-byte units -/
def COMP_UMAP_CFG_STRIDE : Fld :=
  { off := 0xA6C, lo := 0, w := 16, acc := .rws, rst := 0 }

/-- R238: COMP_UMAP_CFG.BAND_EN [20:16] RWS. Bit b: band b has a map -/
def COMP_UMAP_CFG_BAND_EN : Fld :=
  { off := 0xA6C, lo := 16, w := 5, acc := .rws, rst := 0 }

/-- R238: COMP_UMAP_BASE_LO.BASE [31:0] RWS. Map base of band b, [31:0], a multiple of 256; b = 0–4 -/
def COMP_UMAP_BASE_LO_BASE : Fld :=
  { off := 0xA70, lo := 0, w := 32, acc := .rws, rst := 0, stride := 8, bstep := 0, n := 5 }

/-- R238: COMP_UMAP_BASE_HI.BASE [12:0] RWS. [44:32] -/
def COMP_UMAP_BASE_HI_BASE : Fld :=
  { off := 0xA74, lo := 0, w := 13, acc := .rws, rst := 0, stride := 8, bstep := 0, n := 5 }

/-- R238: COMP_BRIGHT.LEVEL [15:0] RWS. Master brightness written -/
def COMP_BRIGHT_LEVEL : Fld :=
  { off := 0xA98, lo := 0, w := 16, acc := .rws, rst := 65535 }

/-- R238: COMP_BRIGHT.EFF [31:16] RO. Effective master brightness (R227) -/
def COMP_BRIGHT_EFF : Fld :=
  { off := 0xA98, lo := 16, w := 16, acc := .ro, rst := 65535 }

/-- R238: COMP_LEVEE_CTRL.ACTIVE [0] RWS. 1: Levee active -/
def COMP_LEVEE_CTRL_ACTIVE : Fld :=
  { off := 0xA9C, lo := 0, w := 1, acc := .rws, rst := 0 }

/-- R238: COMP_LEVEE_CTRL.FORCE_DARK [1] RW. 1: mismatch forces FAULTED (R236) -/
def COMP_LEVEE_CTRL_FORCE_DARK : Fld :=
  { off := 0xA9C, lo := 1, w := 1, acc := .rw, rst := 0 }

/-- R238: COMP_LEVEE_CTRL.MISS_N [5:2] RW. Mismatched frames before forcing; 0x0 acts as 0x1 -/
def COMP_LEVEE_CTRL_MISS_N : Fld :=
  { off := 0xA9C, lo := 2, w := 4, acc := .rw, rst := 3 }

/-- R238: COMP_LEVEE_CTRL.FLOOR [31:16] RWS. Brightness floor (20 %) -/
def COMP_LEVEE_CTRL_FLOOR : Fld :=
  { off := 0xA9C, lo := 16, w := 16, acc := .rws, rst := 13107 }

/-- R238: COMP_LEVEE_WPOS.X [13:0] RWS. Levee window left column -/
def COMP_LEVEE_WPOS_X : Fld :=
  { off := 0xAA0, lo := 0, w := 14, acc := .rws, rst := 0 }

/-- R238: COMP_LEVEE_WPOS.Y [29:16] RWS. Levee window top row -/
def COMP_LEVEE_WPOS_Y : Fld :=
  { off := 0xAA0, lo := 16, w := 14, acc := .rws, rst := 0 }

/-- R238: COMP_LEVEE_WSIZE.W_M1 [13:0] RWS. Levee window width − 1 -/
def COMP_LEVEE_WSIZE_W_M1 : Fld :=
  { off := 0xAA4, lo := 0, w := 14, acc := .rws, rst := 0 }

/-- R238: COMP_LEVEE_WSIZE.H_M1 [29:16] RWS. Levee window height − 1 -/
def COMP_LEVEE_WSIZE_H_M1 : Fld :=
  { off := 0xAA4, lo := 16, w := 14, acc := .rws, rst := 0 }

/-- R238: COMP_LEVEE_SIG_EXP.SIG [31:0] RWS. Expected Levee signature -/
def COMP_LEVEE_SIG_EXP_SIG : Fld :=
  { off := 0xAA8, lo := 0, w := 32, acc := .rws, rst := 0 }

/-- R238: COMP_LEVEE_SIG.SIG [31:0] RO. Last Levee signature formed -/
def COMP_LEVEE_SIG_SIG : Fld :=
  { off := 0xAAC, lo := 0, w := 32, acc := .ro, rst := 0 }

/-- R238: COMP_FRZ_CFG.N [7:0] RW. Frames to FROZEN; 0x00 and 0x01 act as 0x02 -/
def COMP_FRZ_CFG_N : Fld :=
  { off := 0xAB0, lo := 0, w := 8, acc := .rw, rst := 10 }

/-- R238: COMP_FRZ_WPOS.X [13:0] RWS. Freeze window left column -/
def COMP_FRZ_WPOS_X : Fld :=
  { off := 0xAB4, lo := 0, w := 14, acc := .rws, rst := 0 }

/-- R238: COMP_FRZ_WPOS.Y [29:16] RWS. Freeze window top row -/
def COMP_FRZ_WPOS_Y : Fld :=
  { off := 0xAB4, lo := 16, w := 14, acc := .rws, rst := 0 }

/-- R238: COMP_FRZ_WSIZE.W_M1 [13:0] RWS. Freeze window width − 1 -/
def COMP_FRZ_WSIZE_W_M1 : Fld :=
  { off := 0xAB8, lo := 0, w := 14, acc := .rws, rst := 0 }

/-- R238: COMP_FRZ_WSIZE.H_M1 [29:16] RWS. Freeze window height − 1 -/
def COMP_FRZ_WSIZE_H_M1 : Fld :=
  { off := 0xAB8, lo := 16, w := 14, acc := .rws, rst := 0 }

/-- R238: COMP_FRAME_SIG.SIG [31:0] RO. Last frame signature (R234) -/
def COMP_FRAME_SIG_SIG : Fld :=
  { off := 0xABC, lo := 0, w := 32, acc := .ro, rst := 0 }

/-- R238: COMP_CSEQ.SEQ [31:0] RO. Commit sequence; wraps from 0xFFFF_FFFF to 0 -/
def COMP_CSEQ_SEQ : Fld :=
  { off := 0xAC0, lo := 0, w := 32, acc := .ro, rst := 0 }

/-- R238: COMP_WB_SURF.HANDLE0 [9:0] RWS. Write-back handle in PF0's table -/
def COMP_WB_SURF_HANDLE0 : Fld :=
  { off := 0xAC4, lo := 0, w := 10, acc := .rws, rst := 0 }

/-- R238: COMP_WB_SURF.HANDLE1 [25:16] RWS. Alternate handle -/
def COMP_WB_SURF_HANDLE1 : Fld :=
  { off := 0xAC4, lo := 16, w := 10, acc := .rws, rst := 0 }

/-- R238: COMP_WB_REC_LO.EN [0] RWS. 1: write the write-back record -/
def COMP_WB_REC_LO_EN : Fld :=
  { off := 0xAC8, lo := 0, w := 1, acc := .rws, rst := 0 }

/-- R238: COMP_WB_REC_LO.ADDR [31:5] RWS. Record address [31:5] -/
def COMP_WB_REC_LO_ADDR : Fld :=
  { off := 0xAC8, lo := 5, w := 27, acc := .rws, rst := 0 }

/-- R238: COMP_WB_REC_HI.ADDR [12:0] RWS. [44:32] -/
def COMP_WB_REC_HI_ADDR : Fld :=
  { off := 0xACC, lo := 0, w := 13, acc := .rws, rst := 0 }

/-- R238: COMP_WB_SEQ_LO.SEQ [31:0] RO. Write-back sequence [31:0]; latches COMP_WB_SEQ_HI as in R16 -/
def COMP_WB_SEQ_LO_SEQ : Fld :=
  { off := 0xAD0, lo := 0, w := 32, acc := .ro, rst := 0 }

/-- R238: COMP_WB_SEQ_HI.SEQ [31:0] RO. [63:32] -/
def COMP_WB_SEQ_HI_SEQ : Fld :=
  { off := 0xAD4, lo := 0, w := 32, acc := .ro, rst := 0 }

/-- R238: COMP_WB_INC_CNT.COUNT [31:0] RO. Incomplete write-back frames -/
def COMP_WB_INC_CNT_COUNT : Fld :=
  { off := 0xAD8, lo := 0, w := 32, acc := .ro, rst := 0 }

/-- R238: COMP_LEVEE_MISS_CNT.COUNT [31:0] RO. Mismatched Levee frames -/
def COMP_LEVEE_MISS_CNT_COUNT : Fld :=
  { off := 0xADC, lo := 0, w := 32, acc := .ro, rst := 0 }

/-- R238: COMP_UMAP_FALLBACK_CNT.COUNT [31:0] RO. Bursts given unity gain (R222) -/
def COMP_UMAP_FALLBACK_CNT_COUNT : Fld :=
  { off := 0xAE0, lo := 0, w := 32, acc := .ro, rst := 0 }

/-- R238: COMP_FROZEN_CNT.COUNT [31:0] RO. Entries to FROZEN -/
def COMP_FROZEN_CNT_COUNT : Fld :=
  { off := 0xAE4, lo := 0, w := 32, acc := .ro, rst := 0 }

/-- R273: PLANE_GEOM.W_M1 [12:0] RWS. Output width − 1 -/
def PLANE_GEOM_W_M1 : Fld :=
  { off := 0xC00, lo := 0, w := 13, acc := .rws, rst := 0 }

/-- R273: PLANE_GEOM.H_M1 [28:16] RWS. Output height − 1 -/
def PLANE_GEOM_H_M1 : Fld :=
  { off := 0xC00, lo := 16, w := 13, acc := .rws, rst := 0 }

/-- R273: PLANE_CFG.DEPTH [3:0] RWS. Code depth D, 1–12 -/
def PLANE_CFG_DEPTH : Fld :=
  { off := 0xC04, lo := 0, w := 4, acc := .rws, rst := 6 }

/-- R273: PLANE_CFG.BLOCKS_M1 [7:4] RWS. Reset blocks − 1; MIRROR only -/
def PLANE_CFG_BLOCKS_M1 : Fld :=
  { off := 0xC04, lo := 4, w := 4, acc := .rws, rst := 0 }

/-- R273: PLANE_CFG.DITHER [9:8] RWS. Dither mode (R243) -/
def PLANE_CFG_DITHER : Fld :=
  { off := 0xC04, lo := 8, w := 2, acc := .rws, rst := 1 }

/-- R273: PLANE_CFG.TSTEP [13:10] RWS. Temporal step of the ordered dither -/
def PLANE_CFG_TSTEP : Fld :=
  { off := 0xC04, lo := 10, w := 4, acc := .rws, rst := 0 }

/-- R273: PLANE_CFG.BIDIR [14] RWS. SCAN: 1 reverses odd rows (R249) -/
def PLANE_CFG_BIDIR : Fld :=
  { off := 0xC04, lo := 14, w := 1, acc := .rws, rst := 0 }

/-- R273: PLANE_CFG.COUNT_M1 [21:16] RWS. Slice-list length − 1 -/
def PLANE_CFG_COUNT_M1 : Fld :=
  { off := 0xC04, lo := 16, w := 6, acc := .rws, rst := 0 }

/-- R273: PLANE_DMAT_LO.M [31:0] RWS. Dither matrix rows 0 and 1 (R244) -/
def PLANE_DMAT_LO_M : Fld :=
  { off := 0xC08, lo := 0, w := 32, acc := .rws, rst := 1850516096 }

/-- R273: PLANE_DMAT_HI.M [31:0] RWS. Dither matrix rows 2 and 3 -/
def PLANE_DMAT_HI_M : Fld :=
  { off := 0xC0C, lo := 0, w := 32, acc := .rws, rst := 1568641459 }

/-- R273: PLANE_POOL_BASE_LO.BASE [31:16] RWS. Pool base [31:16] -/
def PLANE_POOL_BASE_LO_BASE : Fld :=
  { off := 0xC10, lo := 16, w := 16, acc := .rws, rst := 0 }

/-- R273: PLANE_POOL_BASE_HI.BASE [12:0] RWS. Pool base [44:32] -/
def PLANE_POOL_BASE_HI_BASE : Fld :=
  { off := 0xC14, lo := 0, w := 13, acc := .rws, rst := 0 }

/-- R273: PLANE_POOL_CFG.FRAMES [3:0] RWS. Frame slots, 2–8 -/
def PLANE_POOL_CFG_FRAMES : Fld :=
  { off := 0xC18, lo := 0, w := 4, acc := .rws, rst := 3 }

/-- R273: PLANE_POOL_SIZE.SIZE [23:0] RO. Pool size of the format in effect, 64 KiB units -/
def PLANE_POOL_SIZE_SIZE : Fld :=
  { off := 0xC1C, lo := 0, w := 24, acc := .ro, rst := 0 }

/-- R273: PLANE_RESET.PHASE [19:0] RWS. φ in ticks; 0 global reset -/
def PLANE_RESET_PHASE : Fld :=
  { off := 0xC20, lo := 0, w := 20, acc := .rws, rst := 0 }

/-- R273: PLANE_PACE.PACE [23:0] RWS. Line pace in ticks (R256, R257) -/
def PLANE_PACE_PACE : Fld :=
  { off := 0xC24, lo := 0, w := 24, acc := .rws, rst := 25000 }

/-- R273: PLANE_DARK.N [5:0] RW. Dark planes at a format change; values below 0x02 act as 0x02 -/
def PLANE_DARK_N : Fld :=
  { off := 0xC28, lo := 0, w := 6, acc := .rw, rst := 2 }

/-- R273: PLANE_WTOL.TOL [15:0] RW. Drift tolerance, 2^−16 units -/
def PLANE_WTOL_TOL : Fld :=
  { off := 0xC2C, lo := 0, w := 16, acc := .rw, rst := 64 }

/-- R273: PLANE_STATUS.FMT_DARK [0] RO. 1 during a format-change dark interval -/
def PLANE_STATUS_FMT_DARK : Fld :=
  { off := 0xC30, lo := 0, w := 1, acc := .ro, rst := 0 }

/-- R273: PLANE_STATUS.DRIFT [1] RO. 1: the last checked frame exceeded tolerance -/
def PLANE_STATUS_DRIFT : Fld :=
  { off := 0xC30, lo := 1, w := 1, acc := .ro, rst := 0 }

/-- R273: PLANE_STATUS.DRIFT_UNCORR [2] RO. 1: the last checked frame had uncorrectable drift -/
def PLANE_STATUS_DRIFT_UNCORR : Fld :=
  { off := 0xC30, lo := 2, w := 1, acc := .ro, rst := 0 }

/-- R273: PLANE_STATUS.POOL_WAIT [3] RO. 1: the last frame waited for its slot -/
def PLANE_STATUS_POOL_WAIT : Fld :=
  { off := 0xC30, lo := 3, w := 1, acc := .ro, rst := 0 }

/-- R273: PLANE_CTRL.CNT_CLR [0] WO. 1: clear the counters of this table -/
def PLANE_CTRL_CNT_CLR : Fld :=
  { off := 0xC34, lo := 0, w := 1, acc := .wo, rst := 0 }

/-- R273: PLANE_VIOL_CNT.COUNT [31:0] RO. Planes replaced under R269 -/
def PLANE_VIOL_CNT_COUNT : Fld :=
  { off := 0xC38, lo := 0, w := 32, acc := .ro, rst := 0 }

/-- R273: PLANE_DRIFT_CNT.COUNT [31:0] RO. Frames with uncorrectable drift -/
def PLANE_DRIFT_CNT_COUNT : Fld :=
  { off := 0xC3C, lo := 0, w := 32, acc := .ro, rst := 0 }

/-- R273: PLANE_POOLWAIT_CNT.COUNT [31:0] RO. Frames that waited for a slot -/
def PLANE_POOLWAIT_CNT_COUNT : Fld :=
  { off := 0xC40, lo := 0, w := 32, acc := .ro, rst := 0 }

/-- R273: PLANE_SLICE.PRI [1:0] RWS. Primary of plane i, i = 0–63; 0b11 refused, reason 0x0C -/
def PLANE_SLICE_PRI : Fld :=
  { off := 0xC50, lo := 0, w := 2, acc := .rws, rst := 0, stride := 4, bstep := 0, n := 64 }

/-- R273: PLANE_SLICE.BIT [7:4] RWS. Code bit of plane i -/
def PLANE_SLICE_BIT : Fld :=
  { off := 0xC50, lo := 4, w := 4, acc := .rws, rst := 0, stride := 4, bstep := 0, n := 64 }

/-- R273: PLANE_LVL.AMP [15:0] RO. Level j of primary r in the last frame; 0 when absent -/
def PLANE_LVL_AMP : Fld :=
  { off := 0xD50, lo := 0, w := 16, acc := .ro, rst := 0, stride := 4, bstep := 0, n := 12 }

/-- R273: PLANE_LVL.CORR [31:16] RO. Level correction, 0x4000 = 1.0 (R263) -/
def PLANE_LVL_CORR : Fld :=
  { off := 0xD50, lo := 16, w := 16, acc := .ro, rst := 16384, stride := 4, bstep := 0, n := 12 }

/-- R273: PLANE_DRIFT.PRI [1:0] RO. Primary of the largest drift -/
def PLANE_DRIFT_PRI : Fld :=
  { off := 0xD80, lo := 0, w := 2, acc := .ro, rst := 0 }

/-- R273: PLANE_DRIFT.BIT [5:2] RO. Bit of the largest drift -/
def PLANE_DRIFT_BIT : Fld :=
  { off := 0xD80, lo := 2, w := 4, acc := .ro, rst := 0 }

/-- R273: PLANE_DRIFT.DELTA [31:16] RO. δ, signed, 2^−16 units, saturating -/
def PLANE_DRIFT_DELTA : Fld :=
  { off := 0xD80, lo := 16, w := 16, acc := .ro, rst := 0 }

/-- R335: SEQ_CTRL.SWAP [0] WO. 1: request a swap with target SEQ_SWAP_T (R327) -/
def SEQ_CTRL_SWAP : Fld :=
  { off := 0x1000, lo := 0, w := 1, acc := .wo, rst := 0 }

/-- R335: SEQ_CTRL.CNT_CLR [1] WO. 1: clear SEQ_FAULT_CNT -/
def SEQ_CTRL_CNT_CLR : Fld :=
  { off := 0x1000, lo := 1, w := 1, acc := .wo, rst := 0 }

/-- R335: SEQ_STATUS.BANK [0] RO. Active bank -/
def SEQ_STATUS_BANK : Fld :=
  { off := 0x1004, lo := 0, w := 1, acc := .ro, rst := 0 }

/-- R335: SEQ_STATUS.SWAP_PENDING [1] RO. 1 while a swap is pending -/
def SEQ_STATUS_SWAP_PENDING : Fld :=
  { off := 0x1004, lo := 1, w := 1, acc := .ro, rst := 0 }

/-- R335: SEQ_STATUS.HALTED [2] RO. 1 after HALT (R293), until the next start or swap -/
def SEQ_STATUS_HALTED : Fld :=
  { off := 0x1004, lo := 2, w := 1, acc := .ro, rst := 0 }

/-- R335: SEQ_STATUS.WAITING [3] RO. 1 while waiting on run-ahead, WAITT or WAITIX -/
def SEQ_STATUS_WAITING : Fld :=
  { off := 0x1004, lo := 3, w := 1, acc := .ro, rst := 0 }

/-- R335: SEQ_STATUS.VERIFIED0 [4] RO. Bank 0 verified (R325) -/
def SEQ_STATUS_VERIFIED0 : Fld :=
  { off := 0x1004, lo := 4, w := 1, acc := .ro, rst := 0 }

/-- R335: SEQ_STATUS.VERIFIED1 [5] RO. Bank 1 verified -/
def SEQ_STATUS_VERIFIED1 : Fld :=
  { off := 0x1004, lo := 5, w := 1, acc := .ro, rst := 0 }

/-- R335: SEQ_STATUS.TENANT_OWNED [6] RO. 1 while a tenant owns the sequencer -/
def SEQ_STATUS_TENANT_OWNED : Fld :=
  { off := 0x1004, lo := 6, w := 1, acc := .ro, rst := 0 }

/-- R335: SEQ_STATUS.FAULT [15:8] RO. Fault code (R332) -/
def SEQ_STATUS_FAULT : Fld :=
  { off := 0x1004, lo := 8, w := 8, acc := .ro, rst := 0 }

/-- R335: SEQ_STATUS.WRITE_REJECTED [16] W1C. Set as in R326 -/
def SEQ_STATUS_WRITE_REJECTED : Fld :=
  { off := 0x1004, lo := 16, w := 1, acc := .w1c, rst := 0 }

/-- R335: SEQ_STATUS.SWAP_REJECTED [17] W1C. Set as in R327 -/
def SEQ_STATUS_SWAP_REJECTED : Fld :=
  { off := 0x1004, lo := 17, w := 1, acc := .w1c, rst := 0 }

/-- R335: SEQ_FAULT_INFO.PC [11:0] RO. Index of the faulting instruction -/
def SEQ_FAULT_INFO_PC : Fld :=
  { off := 0x1008, lo := 0, w := 12, acc := .ro, rst := 0 }

/-- R335: SEQ_FAULT_INFO.BANK [12] RO. Bank of the faulting instruction -/
def SEQ_FAULT_INFO_BANK : Fld :=
  { off := 0x1008, lo := 12, w := 1, acc := .ro, rst := 0 }

/-- R335: SEQ_FAULT_INSN.WORD [31:0] RO. Faulting instruction word -/
def SEQ_FAULT_INSN_WORD : Fld :=
  { off := 0x100C, lo := 0, w := 32, acc := .ro, rst := 0 }

/-- R335: SEQ_FAULT_TC_LO.TC [31:0] RO. TC at the fault, [31:0]; latches SEQ_FAULT_TC_HI as in R16 -/
def SEQ_FAULT_TC_LO_TC : Fld :=
  { off := 0x1010, lo := 0, w := 32, acc := .ro, rst := 0 }

/-- R335: SEQ_FAULT_TC_HI.TC [31:0] RO. [63:32] -/
def SEQ_FAULT_TC_HI_TC : Fld :=
  { off := 0x1014, lo := 0, w := 32, acc := .ro, rst := 0 }

/-- R335: SEQ_TC_LO.TC [31:0] RO. Current TC, [31:0]; latches SEQ_TC_HI as in R16 -/
def SEQ_TC_LO_TC : Fld :=
  { off := 0x1018, lo := 0, w := 32, acc := .ro, rst := 0 }

/-- R335: SEQ_TC_HI.TC [31:0] RO. [63:32] -/
def SEQ_TC_HI_TC : Fld :=
  { off := 0x101C, lo := 0, w := 32, acc := .ro, rst := 0 }

/-- R335: SEQ_SWAP_T_LO.T [31:0] RW. Swap target, [31:0] -/
def SEQ_SWAP_T_LO_T : Fld :=
  { off := 0x1020, lo := 0, w := 32, acc := .rw, rst := 0 }

/-- R335: SEQ_SWAP_T_HI.T [31:0] RW. [63:32] -/
def SEQ_SWAP_T_HI_T : Fld :=
  { off := 0x1024, lo := 0, w := 32, acc := .rw, rst := 0 }

/-- R335: SEQ_WDOG.LIMIT [15:0] RW. Watchdog limit, 1024-instruction units; 0x0000 acts as 0x0001 -/
def SEQ_WDOG_LIMIT : Fld :=
  { off := 0x1028, lo := 0, w := 16, acc := .rw, rst := 1024 }

/-- R335: SEQ_FAULT_CNT.COUNT [31:0] RO. Sequencer faults -/
def SEQ_FAULT_CNT_COUNT : Fld :=
  { off := 0x102C, lo := 0, w := 32, acc := .ro, rst := 0 }

/-- R335: SEQ_BSIZE.COUNT [12:0] RO. COUNT of bank b's image, b = 0–1 -/
def SEQ_BSIZE_COUNT : Fld :=
  { off := 0x1030, lo := 0, w := 13, acc := .ro, rst := 0, stride := 16, bstep := 0, n := 2 }

/-- R335: SEQ_BSIZE.DCOUNT [27:16] RO. DCOUNT of bank b's image -/
def SEQ_BSIZE_DCOUNT : Fld :=
  { off := 0x1030, lo := 16, w := 12, acc := .ro, rst := 0, stride := 16, bstep := 0, n := 2 }

/-- R335: SEQ_BENTRY.ENTRY [11:0] RO. ENTRY of bank b's image -/
def SEQ_BENTRY_ENTRY : Fld :=
  { off := 0x1034, lo := 0, w := 12, acc := .ro, rst := 0, stride := 16, bstep := 0, n := 2 }

/-- R335: SEQ_BFALL.ENTRY_X2 [15:0] RO. ENTRY_X2 of bank b's image -/
def SEQ_BFALL_ENTRY_X2 : Fld :=
  { off := 0x1038, lo := 0, w := 16, acc := .ro, rst := 65535, stride := 16, bstep := 0, n := 2 }

/-- R335: SEQ_BFALL.ENTRY_X1 [31:16] RO. ENTRY_X1 of bank b's image -/
def SEQ_BFALL_ENTRY_X1 : Fld :=
  { off := 0x1038, lo := 16, w := 16, acc := .ro, rst := 65535, stride := 16, bstep := 0, n := 2 }

/-- R335: SEQ_BCRC.CRC [31:0] RO. CRC of bank b's image -/
def SEQ_BCRC_CRC : Fld :=
  { off := 0x103C, lo := 0, w := 32, acc := .ro, rst := 0, stride := 16, bstep := 0, n := 2 }

/-- R335: SEQ_BLOADER.LOADER0 [15:0] RO. Agent identity that loaded bank 0; 0xFFFF none -/
def SEQ_BLOADER_LOADER0 : Fld :=
  { off := 0x1050, lo := 0, w := 16, acc := .ro, rst := 65535 }

/-- R335: SEQ_BLOADER.LOADER1 [31:16] RO. As LOADER0, for bank 1 -/
def SEQ_BLOADER_LOADER1 : Fld :=
  { off := 0x1050, lo := 16, w := 16, acc := .ro, rst := 65535 }

/-- R368: SEQ_RUNAHEAD.FRAMES [3:0] RW. Run-ahead window in nominal frame periods (R341); 0x0 acts as 0x1, 0x9–0xF act as 0x8 -/
def SEQ_RUNAHEAD_FRAMES : Fld :=
  { off := 0x1054, lo := 0, w := 4, acc := .rw, rst := 2 }

/-- R368: SEQ_FPERIOD.PERIOD [31:0] RW. Nominal frame period in ticks (1/60 s); 0 acts as the reset value -/
def SEQ_FPERIOD_PERIOD : Fld :=
  { off := 0x1058, lo := 0, w := 32, acc := .rw, rst := 66666667 }

/-- R368: SEQ_WIDTH.WIDTH [2:0] RO. Port width 1, 2 or 4; 0 while untrained; other codes never reported -/
def SEQ_WIDTH_WIDTH : Fld :=
  { off := 0x105C, lo := 0, w := 3, acc := .ro, rst := 0 }

/-- R368: SEQ_WIDTH.ENTRY [4:3] RO. Entry in use: 0b00 ENTRY, 0b01 ENTRY_X2, 0b10 ENTRY_X1; 0b11 never reported -/
def SEQ_WIDTH_ENTRY : Fld :=
  { off := 0x105C, lo := 3, w := 2, acc := .ro, rst := 0 }

/-- R368: SEQ_WIDTH.SWITCH_PENDING [5] RO. As in R355 -/
def SEQ_WIDTH_SWITCH_PENDING : Fld :=
  { off := 0x105C, lo := 5, w := 1, acc := .ro, rst := 0 }

/-- R368: SEQ_WIDTH.WIDER_ENTRY [6] RO. As in R354 -/
def SEQ_WIDTH_WIDER_ENTRY : Fld :=
  { off := 0x105C, lo := 6, w := 1, acc := .ro, rst := 0 }

/-- R368: SEQ_RANGE.HIGH [5:0] RWS. Bit s: string s in the high current range; 0 low; flips at PF0's commit (R359) -/
def SEQ_RANGE_HIGH : Fld :=
  { off := 0x1060, lo := 0, w := 6, acc := .rws, rst := 0 }

/-- R368: SEQ_RANGE_STAT.HIGH_EFF [5:0] RO. Ranges in effect at the drivers -/
def SEQ_RANGE_STAT_HIGH_EFF : Fld :=
  { off := 0x1064, lo := 0, w := 6, acc := .ro, rst := 0 }

/-- R368: SEQ_RANGE_STAT.RANGE_DARK [6] RO. 1 during a range dark interval -/
def SEQ_RANGE_STAT_RANGE_DARK : Fld :=
  { off := 0x1064, lo := 6, w := 1, acc := .ro, rst := 0 }

/-- R368: SEQ_SCAN_TOL.TOL [15:0] RW. Scan-grid tolerance in ticks (100 ns) (R350) -/
def SEQ_SCAN_TOL_TOL : Fld :=
  { off := 0x1068, lo := 0, w := 16, acc := .rw, rst := 400 }

/-- R368: SEQ_SLOTS.LIMIT [15:0] RO. Admitted items per frame (R342), set by the Sluice -/
def SEQ_SLOTS_LIMIT : Fld :=
  { off := 0x106C, lo := 0, w := 16, acc := .ro, rst := 65535 }

/-- R368: SEQ_SLOTS.USED [31:16] RO. Items counted in the last completed frame, saturating -/
def SEQ_SLOTS_USED : Fld :=
  { off := 0x106C, lo := 16, w := 16, acc := .ro, rst := 0 }

/-- R368: SEQ_XCTRL.CNT_CLR [0] WO. 1: clear the counters of this table -/
def SEQ_XCTRL_CNT_CLR : Fld :=
  { off := 0x1070, lo := 0, w := 1, acc := .wo, rst := 0 }

/-- R368: SEQ_FRAME_LO.HT [31:0] RO. Launch time of the last frame mark emitted, [31:0]; latches SEQ_FRAME_HI as in R16 -/
def SEQ_FRAME_LO_HT : Fld :=
  { off := 0x1074, lo := 0, w := 32, acc := .ro, rst := 0 }

/-- R368: SEQ_FRAME_HI.HT [31:0] RO. [63:32] -/
def SEQ_FRAME_HI_HT : Fld :=
  { off := 0x1078, lo := 0, w := 32, acc := .ro, rst := 0 }

/-- R368: SEQ_FRAME_CNT.COUNT [31:0] RO. Frame marks emitted -/
def SEQ_FRAME_CNT_COUNT : Fld :=
  { off := 0x107C, lo := 0, w := 32, acc := .ro, rst := 0 }

/-- R368: SEQ_SWITCH_CNT.COUNT [31:0] RO. Width switches (R355) -/
def SEQ_SWITCH_CNT_COUNT : Fld :=
  { off := 0x1080, lo := 0, w := 32, acc := .ro, rst := 0 }

/-- R368: SEQ_SLOT_DROP_CNT.COUNT [31:0] RO. Items discarded under R342 -/
def SEQ_SLOT_DROP_CNT_COUNT : Fld :=
  { off := 0x1084, lo := 0, w := 32, acc := .ro, rst := 0 }

/-- R368: SEQ_SAMPLE_DROP_CNT.COUNT [31:0] RO. Sample requests dropped under R348 -/
def SEQ_SAMPLE_DROP_CNT_COUNT : Fld :=
  { off := 0x1088, lo := 0, w := 32, acc := .ro, rst := 0 }

/-- R368: SEQ_GAP_DROP_CNT.COUNT [31:0] RO. Gaps dropped under R352 and R353 -/
def SEQ_GAP_DROP_CNT_COUNT : Fld :=
  { off := 0x108C, lo := 0, w := 32, acc := .ro, rst := 0 }

/-- R368: SEQ_OFFGRID_CNT.COUNT [31:0] RO. Lines launched dark under R350 -/
def SEQ_OFFGRID_CNT_COUNT : Fld :=
  { off := 0x1090, lo := 0, w := 32, acc := .ro, rst := 0 }

/-- R368: SEQ_SWAPERR_CNT.COUNT [31:0] RO. Frames counted under R351 -/
def SEQ_SWAPERR_CNT_COUNT : Fld :=
  { off := 0x1094, lo := 0, w := 32, acc := .ro, rst := 0 }

/-- R368: SEQ_LOADCHK.REASON [7:0] RO. Reason of the last failed ARM re-check (R367); 0x00 none -/
def SEQ_LOADCHK_REASON : Fld :=
  { off := 0x1098, lo := 0, w := 8, acc := .ro, rst := 0 }

/-- R405: WEIR_CTRL.CNT_CLR [0] WO. 1: clear the counters and WEIR_SLACK_LOW -/
def WEIR_CTRL_CNT_CLR : Fld :=
  { off := 0x1400, lo := 0, w := 1, acc := .wo, rst := 0 }

/-- R405: WEIR_CFG.PREV_EN [0] RWF. 1: substitute the previous frame's plane or line (R387); 0: dark -/
def WEIR_CFG_PREV_EN : Fld :=
  { off := 0x1404, lo := 0, w := 1, acc := .rwf, rst := 1 }

/-- R405: WEIR_STATUS.HEAD_MODE [1:0] RO. 0b00 no head identified, 0b01 TIMED, 0b10 EDGE; 0b11 never reported -/
def WEIR_STATUS_HEAD_MODE : Fld :=
  { off := 0x1408, lo := 0, w := 2, acc := .ro, rst := 0 }

/-- R405: WEIR_STATUS.LINK_UP [2] RO. 1 while a lane of the port is up -/
def WEIR_STATUS_LINK_UP : Fld :=
  { off := 0x1408, lo := 2, w := 1, acc := .ro, rst := 0 }

/-- R405: WEIR_STATUS.QUEUE_FULL [3] RO. As in R371 -/
def WEIR_STATUS_QUEUE_FULL : Fld :=
  { off := 0x1408, lo := 3, w := 1, acc := .ro, rst := 0 }

/-- R405: WEIR_STATUS.WD_ACTIVE [4] RO. 1 from t_d until a withdrawal completes -/
def WEIR_STATUS_WD_ACTIVE : Fld :=
  { off := 0x1408, lo := 4, w := 1, acc := .ro, rst := 0 }

/-- R405: WEIR_STATUS.LATE [5] RO. 1: the last completed frame had a late item -/
def WEIR_STATUS_LATE : Fld :=
  { off := 0x1408, lo := 5, w := 1, acc := .ro, rst := 0 }

/-- R405: WEIR_STATUS.MISS [6] RO. 1: the last completed frame had an item not in time, undelivered or poisoned -/
def WEIR_STATUS_MISS : Fld :=
  { off := 0x1408, lo := 6, w := 1, acc := .ro, rst := 0 }

/-- R405: WEIR_STATUS.EXPIRED [7] RO. 1: the last completed frame had an expired item -/
def WEIR_STATUS_EXPIRED : Fld :=
  { off := 0x1408, lo := 7, w := 1, acc := .ro, rst := 0 }

/-- R405: WEIR_STATUS.BUF_FREE [10:8] RO. Head buffers free, saturating at 7 -/
def WEIR_STATUS_BUF_FREE : Fld :=
  { off := 0x1408, lo := 8, w := 3, acc := .ro, rst := 0 }

/-- R405: WEIR_TRIM.TRIM [7:0] RWS. Release delay, 25 ps units (R386); loaded from the calibration record at start-up; takes effect at the … -/
def WEIR_TRIM_TRIM : Fld :=
  { off := 0x140C, lo := 0, w := 8, acc := .rws, rst := 0 }

/-- R405: WEIR_TRIM.TRIM_EFF [15:8] RO. TRIM in effect -/
def WEIR_TRIM_TRIM_EFF : Fld :=
  { off := 0x140C, lo := 8, w := 8, acc := .ro, rst := 0 }

/-- R405: WEIR_LINK.PAYLOAD [16:0] RO. U of the lead in effect, Mb/s (R375); up to 77 000 -/
def WEIR_LINK_PAYLOAD : Fld :=
  { off := 0x1410, lo := 0, w := 17, acc := .ro, rst := 0 }

/-- R405: WEIR_LINK.WIDTH [19:17] RO. Width of the lead in effect: 1, 2 or 4; 0 untrained -/
def WEIR_LINK_WIDTH : Fld :=
  { off := 0x1410, lo := 17, w := 3, acc := .ro, rst := 0 }

/-- R405: WEIR_LEAD.LEAD [31:0] RO. Staging lead in effect, ticks -/
def WEIR_LEAD_LEAD : Fld :=
  { off := 0x1414, lo := 0, w := 32, acc := .ro, rst := 0 }

/-- R405: WEIR_QUEUE.USED [12:0] RO. Queue entries in use -/
def WEIR_QUEUE_USED : Fld :=
  { off := 0x1418, lo := 0, w := 13, acc := .ro, rst := 0 }

/-- R405: WEIR_QUEUE.PEAK [28:16] RO. Largest USED since CNT_CLR -/
def WEIR_QUEUE_PEAK : Fld :=
  { off := 0x1418, lo := 16, w := 13, acc := .ro, rst := 0 }

/-- R405: WEIR_SLACK_FRAME.SLACK [31:0] RO. Smallest slack of the last completed frame, signed ticks, saturating; 0x7FFF_FFFF when none recorded -/
def WEIR_SLACK_FRAME_SLACK : Fld :=
  { off := 0x141C, lo := 0, w := 32, acc := .ro, rst := 2147483647 }

/-- R405: WEIR_SLACK_LOW.SLACK [31:0] RO. Smallest WEIR_SLACK_FRAME since CNT_CLR -/
def WEIR_SLACK_LOW_SLACK : Fld :=
  { off := 0x1420, lo := 0, w := 32, acc := .ro, rst := 2147483647 }

/-- R405: WEIR_LATE_CNT.COUNT [31:0] RO. Late planes and lines -/
def WEIR_LATE_CNT_COUNT : Fld :=
  { off := 0x1424, lo := 0, w := 32, acc := .ro, rst := 0 }

/-- R405: WEIR_LATE_DARK_CNT.COUNT [31:0] RO. Late items launched dark -/
def WEIR_LATE_DARK_CNT_COUNT : Fld :=
  { off := 0x1428, lo := 0, w := 32, acc := .ro, rst := 0 }

/-- R405: WEIR_MISS_CNT.COUNT [31:0] RO. Items not in time, undelivered or poisoned -/
def WEIR_MISS_CNT_COUNT : Fld :=
  { off := 0x142C, lo := 0, w := 32, acc := .ro, rst := 0 }

/-- R405: WEIR_EXPIRED_CNT.COUNT [31:0] RO. Expired items -/
def WEIR_EXPIRED_CNT_COUNT : Fld :=
  { off := 0x1430, lo := 0, w := 32, acc := .ro, rst := 0 }

/-- R405: WEIR_EDGE_LATE_CNT.COUNT [31:0] RO. EDGE items with clamped residual (R385) -/
def WEIR_EDGE_LATE_CNT_COUNT : Fld :=
  { off := 0x1434, lo := 0, w := 32, acc := .ro, rst := 0 }

/-- R405: WEIR_DOWN_CNT.COUNT [31:0] RO. Items dropped with no lane up -/
def WEIR_DOWN_CNT_COUNT : Fld :=
  { off := 0x1438, lo := 0, w := 32, acc := .ro, rst := 0 }

/-- R405: WEIR_WD_CNT.COUNT [31:0] RO. Completed withdrawals -/
def WEIR_WD_CNT_COUNT : Fld :=
  { off := 0x143C, lo := 0, w := 32, acc := .ro, rst := 0 }

/-- R405: WEIR_LEAK_CNT.COUNT [31:0] RO. Leaked items -/
def WEIR_LEAK_CNT_COUNT : Fld :=
  { off := 0x1440, lo := 0, w := 32, acc := .ro, rst := 0 }

/-- R405: WEIR_WD_INFO.CAUSE [2:0] RO. Cause of the last withdrawal (R396); 0b000 none -/
def WEIR_WD_INFO_CAUSE : Fld :=
  { off := 0x1444, lo := 0, w := 3, acc := .ro, rst := 0 }

/-- R405: WEIR_WD_INFO.KIND [3] RO. 0 DROP, 1 RESTAGE -/
def WEIR_WD_INFO_KIND : Fld :=
  { off := 0x1444, lo := 3, w := 1, acc := .ro, rst := 0 }

/-- R405: WEIR_WD_INFO.PENDING [4] RO. As in R402 -/
def WEIR_WD_INFO_PENDING : Fld :=
  { off := 0x1444, lo := 4, w := 1, acc := .ro, rst := 0 }

/-- R405: WEIR_WD_INFO.LEAKED [31:16] RO. Items leaked by the last completed withdrawal, saturating -/
def WEIR_WD_INFO_LEAKED : Fld :=
  { off := 0x1444, lo := 16, w := 16, acc := .ro, rst := 0 }

/-- R405: WEIR_WD_T_LO.HT [31:0] RO. T_c of the last withdrawal, [31:0]; latches WEIR_WD_T_HI as in R16 -/
def WEIR_WD_T_LO_HT : Fld :=
  { off := 0x1448, lo := 0, w := 32, acc := .ro, rst := 0 }

/-- R405: WEIR_WD_T_HI.HT [31:0] RO. [63:32] -/
def WEIR_WD_T_HI_HT : Fld :=
  { off := 0x144C, lo := 0, w := 32, acc := .ro, rst := 0 }

/-- R405: WEIR_WD_PIN_LO.HT [31:0] RO. t_w of the last withdrawal, [31:0]; latches WEIR_WD_PIN_HI as in R16 -/
def WEIR_WD_PIN_LO_HT : Fld :=
  { off := 0x1450, lo := 0, w := 32, acc := .ro, rst := 0 }

/-- R405: WEIR_WD_PIN_HI.HT [31:0] RO. [63:32] -/
def WEIR_WD_PIN_HI_HT : Fld :=
  { off := 0x1454, lo := 0, w := 32, acc := .ro, rst := 0 }

/-- R450: LAMP_CTRL.CNT_CLR [0] WO. 1: clear the counters of this table -/
def LAMP_CTRL_CNT_CLR : Fld :=
  { off := 0x1800, lo := 0, w := 1, acc := .wo, rst := 0 }

/-- R450: LAMP_CTRL.STR_CLR [13:8] WO. Bit s: end string s's latched cut and send CLEAR_FAULT to its drivers (R416) -/
def LAMP_CTRL_STR_CLR : Fld :=
  { off := 0x1800, lo := 8, w := 6, acc := .wo, rst := 0 }

/-- R450: LAMP_STATUS.CUT [5:0] RO. Bit s: string s cut -/
def LAMP_STATUS_CUT : Fld :=
  { off := 0x1804, lo := 0, w := 6, acc := .ro, rst := 0 }

/-- R450: LAMP_STATUS.DERATING [11:6] RO. Bit s: D_s below 0xFFFF; every bit 1 from reset, when D_s is SAFE (R423) -/
def LAMP_STATUS_DERATING : Fld :=
  { off := 0x1804, lo := 6, w := 6, acc := .ro, rst := 63 }

/-- R450: LAMP_STATUS.FALLBACK [17:12] RO. Bit s: SRC of string s not 0b00; every bit 1 from reset, when SRC is 0b10 -/
def LAMP_STATUS_FALLBACK : Fld :=
  { off := 0x1804, lo := 12, w := 6, acc := .ro, rst := 63 }

/-- R450: LAMP_STATUS.DARK_HOLD [18] RO. 1: program dark hold active -/
def LAMP_STATUS_DARK_HOLD : Fld :=
  { off := 0x1804, lo := 18, w := 1, acc := .ro, rst := 0 }

/-- R450: LAMP_STATUS.CMD_PENDING [19] RO. 1: a rill command awaits acknowledgement -/
def LAMP_STATUS_CMD_PENDING : Fld :=
  { off := 0x1804, lo := 19, w := 1, acc := .ro, rst := 0 }

/-- R450: LAMP_STATUS.READBACK_ERR [20] W1C. As in R448 -/
def LAMP_STATUS_READBACK_ERR : Fld :=
  { off := 0x1804, lo := 20, w := 1, acc := .w1c, rst := 0 }

/-- R450: LAMP_RILL_CFG.LEN_M1 [3:0] RWF. Drivers in the chain − 1 -/
def LAMP_RILL_CFG_LEN_M1 : Fld :=
  { off := 0x1808, lo := 0, w := 4, acc := .rwf, rst := 0 }

/-- R450: LAMP_RILL_CFG.PERIOD [19:8] RW. Frame start interval, µs (R437) -/
def LAMP_RILL_CFG_PERIOD : Fld :=
  { off := 0x1808, lo := 8, w := 12, acc := .rw, rst := 250 }

/-- R450: LAMP_RILL_CFG.ACK [27:20] RW. Acknowledgement time, ms; 0x00 acts as 0x01 -/
def LAMP_RILL_CFG_ACK : Fld :=
  { off := 0x1808, lo := 20, w := 8, acc := .rw, rst := 20 }

/-- R450: LAMP_DRVMAP_LO.STR [4i+2:4i] RWF. String of driver i, i = 0–7; 0b110 and 0b111 rejected as a running-block write -/
def LAMP_DRVMAP_LO_STR : Fld :=
  { off := 0x180C, lo := 0, w := 3, acc := .rwf, rst := 0, stride := 0, bstep := 4, n := 8 }

/-- R450: LAMP_DRVMAP_HI.STR [4i+2:4i] RWF. String of driver 8 + i, i = 0–7; as LAMP_DRVMAP_LO -/
def LAMP_DRVMAP_HI_STR : Fld :=
  { off := 0x1810, lo := 0, w := 3, acc := .rwf, rst := 0, stride := 0, bstep := 4, n := 8 }

/-- R450: LAMP_DERATE0.KNEE [7:0] RW. Knee, signed °C (55) -/
def LAMP_DERATE0_KNEE : Fld :=
  { off := 0x1814, lo := 0, w := 8, acc := .rw, rst := 55 }

/-- R450: LAMP_DERATE0.CUT [15:8] RW. Cut, signed °C (80) -/
def LAMP_DERATE0_CUT : Fld :=
  { off := 0x1814, lo := 8, w := 8, acc := .rw, rst := 80 }

/-- R450: LAMP_DERATE0.HYST [19:16] RW. Cut hysteresis, °C -/
def LAMP_DERATE0_HYST : Fld :=
  { off := 0x1814, lo := 16, w := 4, acc := .rw, rst := 5 }

/-- R450: LAMP_DERATE0.SLOPE [31:20] RW. Slope, 0.01 %/°C (2 %/°C) -/
def LAMP_DERATE0_SLOPE : Fld :=
  { off := 0x1814, lo := 20, w := 12, acc := .rw, rst := 200 }

/-- R450: LAMP_DERATE1.FLOOR [15:0] RW. Derating floor (30 %) -/
def LAMP_DERATE1_FLOOR : Fld :=
  { off := 0x1818, lo := 0, w := 16, acc := .rw, rst := 19660 }

/-- R450: LAMP_DERATE1.SAFE [31:16] RW. Ceiling with no temperature source (R423) -/
def LAMP_DERATE1_SAFE : Fld :=
  { off := 0x1818, lo := 16, w := 16, acc := .rw, rst := 19660 }

/-- R450: LAMP_DERATE2.THERM [4:0] RW. Thermistor THERM0–THERM31 -/
def LAMP_DERATE2_THERM : Fld :=
  { off := 0x181C, lo := 0, w := 5, acc := .rw, rst := 0 }

/-- R450: LAMP_DERATE2.TEN [5] RW. 1: thermistor fall-back enabled -/
def LAMP_DERATE2_TEN : Fld :=
  { off := 0x181C, lo := 5, w := 1, acc := .rw, rst := 0 }

/-- R450: LAMP_DERATE2.THERM_OFS [15:8] RW. Added to the thermistor reading, signed °C -/
def LAMP_DERATE2_THERM_OFS : Fld :=
  { off := 0x181C, lo := 8, w := 8, acc := .rw, rst := 10 }

/-- R450: LAMP_DERATE2.STALE [23:16] RW. Telemetry age limit, ms (50); 0x00 acts as 0x01 -/
def LAMP_DERATE2_STALE : Fld :=
  { off := 0x181C, lo := 16, w := 8, acc := .rw, rst := 50 }

/-- R450: LAMP_DERATE2.PLAUS [31:24] RW. Plausibility bound, °C (R424) -/
def LAMP_DERATE2_PLAUS : Fld :=
  { off := 0x181C, lo := 24, w := 8, acc := .rw, rst := 15 }

/-- R450: LAMP_DERATE3.RISE [7:0] RW. Derating recovery rate, %/s (R428); 0x00 acts as 0x01 -/
def LAMP_DERATE3_RISE : Fld :=
  { off := 0x1820, lo := 0, w := 8, acc := .rw, rst := 10 }

/-- R450: LAMP_FADE_B.DUR [15:0] RW. Brightness fade duration, ms (500) -/
def LAMP_FADE_B_DUR : Fld :=
  { off := 0x1824, lo := 0, w := 16, acc := .rw, rst := 500 }

/-- R450: LAMP_FADE_B.CURVE [17:16] RW. Curve (R421) -/
def LAMP_FADE_B_CURVE : Fld :=
  { off := 0x1824, lo := 16, w := 2, acc := .rw, rst := 1 }

/-- R450: LAMP_FADE_B.GAMMA [23:20] RW. γ = 1 + GAMMA ÷ 8 (2.25) -/
def LAMP_FADE_B_GAMMA : Fld :=
  { off := 0x1824, lo := 20, w := 4, acc := .rw, rst := 10 }

/-- R450: LAMP_FADE_C.DUR [15:0] RW. Ceiling fade duration, ms (250) -/
def LAMP_FADE_C_DUR : Fld :=
  { off := 0x1828, lo := 0, w := 16, acc := .rw, rst := 250 }

/-- R450: LAMP_FADE_C.CURVE [17:16] RW. Curve -/
def LAMP_FADE_C_CURVE : Fld :=
  { off := 0x1828, lo := 16, w := 2, acc := .rw, rst := 0 }

/-- R450: LAMP_FADE_C.GAMMA [23:20] RW. As LAMP_FADE_B -/
def LAMP_FADE_C_GAMMA : Fld :=
  { off := 0x1828, lo := 20, w := 4, acc := .rw, rst := 0 }

/-- R450: LAMP_FADE_STAT.B [15:0] RO. Brightness engine value -/
def LAMP_FADE_STAT_B : Fld :=
  { off := 0x182C, lo := 0, w := 16, acc := .ro, rst := 65535 }

/-- R450: LAMP_FADE_STAT.C_MODE [31:16] RO. Ceiling engine value -/
def LAMP_FADE_STAT_C_MODE : Fld :=
  { off := 0x182C, lo := 16, w := 16, acc := .ro, rst := 65535 }

/-- R450: LAMP_DET_CFG.AUTO [0] RW. 1: automatic samples (R429) -/
def LAMP_DET_CFG_AUTO : Fld :=
  { off := 0x1830, lo := 0, w := 1, acc := .rw, rst := 1 }

/-- R450: LAMP_DET_CFG.ACT [1] RW. 1: cut on a confirmed open (R431) -/
def LAMP_DET_CFG_ACT : Fld :=
  { off := 0x1830, lo := 1, w := 1, acc := .rw, rst := 1 }

/-- R450: LAMP_DET_CFG.CONFIRM [7:4] RW. Samples to confirm; 0x0 acts as 0x1 -/
def LAMP_DET_CFG_CONFIRM : Fld :=
  { off := 0x1830, lo := 4, w := 4, acc := .rw, rst := 2 }

/-- R450: LAMP_DET_CFG.IMIN [31:16] RW. Lowest I_c tested (2.5 %) -/
def LAMP_DET_CFG_IMIN : Fld :=
  { off := 0x1830, lo := 16, w := 16, acc := .rw, rst := 1638 }

/-- R450: LAMP_CURVE_IDX.ENTRY [5:0] RW. Entry 0–32; values above 32 make LAMP_CURVE_DATA accesses read 0 and ignore writes, without advancing the … -/
def LAMP_CURVE_IDX_ENTRY : Fld :=
  { off := 0x1834, lo := 0, w := 6, acc := .rw, rst := 0 }

/-- R450: LAMP_CURVE_IDX.STR [8:6] RW. String 0–5; 0b110 and 0b111 likewise -/
def LAMP_CURVE_IDX_STR : Fld :=
  { off := 0x1834, lo := 6, w := 3, acc := .rw, rst := 0 }

/-- R450: LAMP_CURVE_IDX.RANGE [9] RW. 0 low, 1 high -/
def LAMP_CURVE_IDX_RANGE : Fld :=
  { off := 0x1834, lo := 9, w := 1, acc := .rw, rst := 0 }

/-- R450: LAMP_CURVE_DATA.VALUE [15:0] RWF. Entry e[k]; each access to an entry, including a write rejected under R12, advances ENTRY by 1, and from … -/
def LAMP_CURVE_DATA_VALUE : Fld :=
  { off := 0x1838, lo := 0, w := 16, acc := .rwf, rst := 0 }

/-- R450: LAMP_OPEN_CNT.COUNT [31:0] RO. Confirmed opens -/
def LAMP_OPEN_CNT_COUNT : Fld :=
  { off := 0x1840, lo := 0, w := 32, acc := .ro, rst := 0 }

/-- R450: LAMP_SHORT_CNT.COUNT [31:0] RO. Confirmed shorts -/
def LAMP_SHORT_CNT_COUNT : Fld :=
  { off := 0x1844, lo := 0, w := 32, acc := .ro, rst := 0 }

/-- R450: LAMP_CUT_CNT.COUNT [31:0] RO. Cuts -/
def LAMP_CUT_CNT_COUNT : Fld :=
  { off := 0x1848, lo := 0, w := 32, acc := .ro, rst := 0 }

/-- R450: LAMP_BYP_CNT.COUNT [31:0] RO. Failed positions bypassed -/
def LAMP_BYP_CNT_COUNT : Fld :=
  { off := 0x184C, lo := 0, w := 32, acc := .ro, rst := 0 }

/-- R450: LAMP_FALLBACK_CNT.COUNT [31:0] RO. Changes away from telemetry -/
def LAMP_FALLBACK_CNT_COUNT : Fld :=
  { off := 0x1850, lo := 0, w := 32, acc := .ro, rst := 0 }

/-- R450: LAMP_RILL_FRAME_CNT.COUNT [31:0] RO. Rill frames sent -/
def LAMP_RILL_FRAME_CNT_COUNT : Fld :=
  { off := 0x1854, lo := 0, w := 32, acc := .ro, rst := 0 }

/-- R450: LAMP_RILL_ABORT_CNT.COUNT [31:0] RO. Rill frames aborted -/
def LAMP_RILL_ABORT_CNT_COUNT : Fld :=
  { off := 0x1858, lo := 0, w := 32, acc := .ro, rst := 0 }

/-- R450: LAMP_READBACK_CNT.COUNT [31:0] RO. Read-back differences -/
def LAMP_READBACK_CNT_COUNT : Fld :=
  { off := 0x185C, lo := 0, w := 32, acc := .ro, rst := 0 }

/-- R518: MOVE_CTRL.WHEEL_RUN [0] WO. 1: run the wheel to MOVE_WHEEL_TGT (R503) -/
def MOVE_CTRL_WHEEL_RUN : Fld :=
  { off := 0x1C00, lo := 0, w := 1, acc := .wo, rst := 0 }

/-- R518: MOVE_CTRL.WHEEL_STOP [1] WO. 1: controlled run-down -/
def MOVE_CTRL_WHEEL_STOP : Fld :=
  { off := 0x1C00, lo := 1, w := 1, acc := .wo, rst := 0 }

/-- R518: MOVE_CTRL.SCAN_START [2] WO. 1: start the scan mirror (R514) -/
def MOVE_CTRL_SCAN_START : Fld :=
  { off := 0x1C00, lo := 2, w := 1, acc := .wo, rst := 0 }

/-- R518: MOVE_CTRL.SCAN_STOP [3] WO. 1: run the scan mirror down -/
def MOVE_CTRL_SCAN_STOP : Fld :=
  { off := 0x1C00, lo := 3, w := 1, acc := .wo, rst := 0 }

/-- R518: MOVE_CTRL.CNT_CLR [4] WO. 1: clear the counters of this table -/
def MOVE_CTRL_CNT_CLR : Fld :=
  { off := 0x1C00, lo := 4, w := 1, acc := .wo, rst := 0 }

/-- R518: MOVE_STATUS.WSTATE [2:0] RO. 0b000 OFF, 0b001 UNKNOWN, 0b010 STOPPED, 0b011 RAMP, 0b100 LOCKED, 0b101 RUNDOWN, 0b110 COAST; 0b111 never … -/
def MOVE_STATUS_WSTATE : Fld :=
  { off := 0x1C04, lo := 0, w := 3, acc := .ro, rst := 0 }

/-- R518: MOVE_STATUS.W_ILK [3] RO. Wheel interlock holds (R507) -/
def MOVE_STATUS_W_ILK : Fld :=
  { off := 0x1C04, lo := 3, w := 1, acc := .ro, rst := 0 }

/-- R518: MOVE_STATUS.PRED [4] RO. Index prediction present -/
def MOVE_STATUS_PRED : Fld :=
  { off := 0x1C04, lo := 4, w := 1, acc := .ro, rst := 0 }

/-- R518: MOVE_STATUS.SSTATE [10:8] RO. 0b000 OFF, 0b001 UNKNOWN, 0b010 STOPPED, 0b011 SWEEP, 0b100 LOCKING, 0b101 LOCKED, 0b110 RUNDOWN; 0b111 … -/
def MOVE_STATUS_SSTATE : Fld :=
  { off := 0x1C04, lo := 8, w := 3, acc := .ro, rst := 0 }

/-- R518: MOVE_STATUS.S_ILK [11] RO. Scan interlock holds (R516) -/
def MOVE_STATUS_S_ILK : Fld :=
  { off := 0x1C04, lo := 11, w := 1, acc := .ro, rst := 0 }

/-- R518: MOVE_STATUS.GRID [12] RO. Sweep grid present -/
def MOVE_STATUS_GRID : Fld :=
  { off := 0x1C04, lo := 12, w := 1, acc := .ro, rst := 0 }

/-- R518: MOVE_STATUS.REJECT [19:16] RO. Reason of the last rejected command, 0x1–0x4; 0x0 none -/
def MOVE_STATUS_REJECT : Fld :=
  { off := 0x1C04, lo := 16, w := 4, acc := .ro, rst := 0 }

/-- R518: MOVE_STATUS.WRITE_REJECTED [20] W1C. Set by a rejected RWF write -/
def MOVE_STATUS_WRITE_REJECTED : Fld :=
  { off := 0x1C04, lo := 20, w := 1, acc := .w1c, rst := 0 }

/-- R518: MOVE_WHEEL_CFG.SEGS_M1 [2:0] RWF. Wheel segments − 1 -/
def MOVE_WHEEL_CFG_SEGS_M1 : Fld :=
  { off := 0x1C08, lo := 0, w := 3, acc := .rwf, rst := 2 }

/-- R518: MOVE_WHEEL_CFG.SLOT [16:8] RWF. Die slot index of the wheel slot -/
def MOVE_WHEEL_CFG_SLOT : Fld :=
  { off := 0x1C08, lo := 8, w := 9, acc := .rwf, rst := 0 }

/-- R518: MOVE_WHEEL_CFG.IDX_TO [31:24] RW. Revolutions without index before withdrawal (R509); 0x00 acts as 0x01 -/
def MOVE_WHEEL_CFG_IDX_TO : Fld :=
  { off := 0x1C08, lo := 24, w := 8, acc := .rw, rst := 4 }

/-- R518: MOVE_WHEEL_TGT.SPEED [15:0] RW. Target speed, 1/256 rev/s (60 rev/s); values above 0xF000 act as 0xF000; latched at WHEEL_RUN -/
def MOVE_WHEEL_TGT_SPEED : Fld :=
  { off := 0x1C0C, lo := 0, w := 16, acc := .rw, rst := 15360 }

/-- R518: MOVE_WHEEL_RAMP.ACC [15:0] RW. Acceleration, rev/s² (100) -/
def MOVE_WHEEL_RAMP_ACC : Fld :=
  { off := 0x1C10, lo := 0, w := 16, acc := .rw, rst := 100 }

/-- R518: MOVE_WHEEL_RAMP.DEC [31:16] RW. Deceleration, rev/s² (400); for both, 0 acts as 1 and values above 400 act as 400 -/
def MOVE_WHEEL_RAMP_DEC : Fld :=
  { off := 0x1C10, lo := 16, w := 16, acc := .rw, rst := 400 }

/-- R518: MOVE_WHEEL_ILK.THRESH [15:0] RW. Speed threshold, fraction of ω_t (90 %) -/
def MOVE_WHEEL_ILK_THRESH : Fld :=
  { off := 0x1C14, lo := 0, w := 16, acc := .rw, rst := 58982 }

/-- R518: MOVE_WHEEL_ILK.DWELL [23:16] RW. Dwell, ms; 0x00 acts as 0x01 -/
def MOVE_WHEEL_ILK_DWELL : Fld :=
  { off := 0x1C14, lo := 16, w := 8, acc := .rw, rst := 2 }

/-- R518: MOVE_WHEEL_ILK.RELEASE [31:24] RW. Release time, ms (20) -/
def MOVE_WHEEL_ILK_RELEASE : Fld :=
  { off := 0x1C14, lo := 24, w := 8, acc := .rw, rst := 20 }

/-- R518: MOVE_WHEEL_LIM.PHTOL [15:0] RW. Index error bound, 2^−16 rev (0.002 rev) -/
def MOVE_WHEEL_LIM_PHTOL : Fld :=
  { off := 0x1C18, lo := 0, w := 16, acc := .rw, rst := 131 }

/-- R518: MOVE_WHEEL_LIM.STOP [31:16] RW. Stopped speed, 1/256 rev/s (0.5 rev/s) -/
def MOVE_WHEEL_LIM_STOP : Fld :=
  { off := 0x1C18, lo := 16, w := 16, acc := .rw, rst := 128 }

/-- R518: MOVE_WSEG.START [15:0] RWF. Start of segment k, k = 1–7, 2^−16 rev after the index of segment 0 -/
def MOVE_WSEG_START : Fld :=
  { off := 0x1C1C, lo := 0, w := 16, acc := .rwf, rst := 0, stride := 4, bstep := 0, n := 8 }

/-- R518: MOVE_WSPEED.MEAS [15:0] RO. Last measured speed, 1/256 rev/s -/
def MOVE_WSPEED_MEAS : Fld :=
  { off := 0x1C3C, lo := 0, w := 16, acc := .ro, rst := 0 }

/-- R518: MOVE_WSPEED.CMD [31:16] RO. ω_c, 1/256 rev/s -/
def MOVE_WSPEED_CMD : Fld :=
  { off := 0x1C3C, lo := 16, w := 16, acc := .ro, rst := 0 }

/-- R518: MOVE_WIDX_LO.HT [31:0] RO. I_0 [31:0]; latches MOVE_WIDX_HI as in R16 -/
def MOVE_WIDX_LO_HT : Fld :=
  { off := 0x1C40, lo := 0, w := 32, acc := .ro, rst := 0 }

/-- R518: MOVE_WIDX_HI.HT [31:0] RO. [63:32] -/
def MOVE_WIDX_HI_HT : Fld :=
  { off := 0x1C44, lo := 0, w := 32, acc := .ro, rst := 0 }

/-- R518: MOVE_WPERIOD.PERIOD [31:0] RO. Π in ticks; 0 when no prediction is present -/
def MOVE_WPERIOD_PERIOD : Fld :=
  { off := 0x1C48, lo := 0, w := 32, acc := .ro, rst := 0 }

/-- R518: MOVE_WERR.ERR [31:0] RO. Last ε, signed, 2^−16 rev, saturating -/
def MOVE_WERR_ERR : Fld :=
  { off := 0x1C4C, lo := 0, w := 32, acc := .ro, rst := 0 }

/-- R518: MOVE_SCAN_CFG.TYPE [0] RO. 0 resonant, 1 galvanometer, as declared -/
def MOVE_SCAN_CFG_TYPE : Fld :=
  { off := 0x1C50, lo := 0, w := 1, acc := .ro, rst := 0 }

/-- R518: MOVE_SCAN_CFG.AUTO_SP [1] RWF. 1: write SP0 and start the slot (R513) -/
def MOVE_SCAN_CFG_AUTO_SP : Fld :=
  { off := 0x1C50, lo := 1, w := 1, acc := .rwf, rst := 1 }

/-- R518: MOVE_SCAN_CFG.SLOT [16:8] RWF. Die slot index of the scan slot -/
def MOVE_SCAN_CFG_SLOT : Fld :=
  { off := 0x1C50, lo := 8, w := 9, acc := .rwf, rst := 0 }

/-- R518: MOVE_SCAN_SWEEP.F_LO [15:0] RWF. Lowest sweep frequency, Hz (8000); galvanometer: the scan frequency -/
def MOVE_SCAN_SWEEP_F_LO : Fld :=
  { off := 0x1C54, lo := 0, w := 16, acc := .rwf, rst := 8000 }

/-- R518: MOVE_SCAN_SWEEP.F_HI [31:16] RWF. Highest sweep frequency, Hz (48 000); for a resonant mirror, values outside 8000–48 000 act as the nearer … -/
def MOVE_SCAN_SWEEP_F_HI : Fld :=
  { off := 0x1C54, lo := 16, w := 16, acc := .rwf, rst := 48000 }

/-- R518: MOVE_SCAN_STEP.SAMP [15:0] RWF. Sweep drive amplitude (10 %) -/
def MOVE_SCAN_STEP_SAMP : Fld :=
  { off := 0x1C58, lo := 0, w := 16, acc := .rwf, rst := 6553 }

/-- R518: MOVE_SCAN_STEP.STEP [23:16] RWF. Step, Hz (25); 0x00 acts as 0x01 -/
def MOVE_SCAN_STEP_STEP : Fld :=
  { off := 0x1C58, lo := 16, w := 8, acc := .rwf, rst := 25 }

/-- R518: MOVE_SCAN_STEP.DWELL [31:24] RWF. Dwell per step, ms; 0x00 acts as 0x01 -/
def MOVE_SCAN_STEP_DWELL : Fld :=
  { off := 0x1C58, lo := 24, w := 8, acc := .rwf, rst := 1 }

/-- R518: MOVE_SCAN_ILK.AMIN [15:0] RW. Amplitude threshold, fraction of target (95 %) -/
def MOVE_SCAN_ILK_AMIN : Fld :=
  { off := 0x1C5C, lo := 0, w := 16, acc := .rw, rst := 62259 }

/-- R518: MOVE_SCAN_ILK.RELEASE [23:16] RW. Release time, ms -/
def MOVE_SCAN_ILK_RELEASE : Fld :=
  { off := 0x1C5C, lo := 16, w := 8, acc := .rw, rst := 5 }

/-- R518: MOVE_SCAN_LIM.PHTOL [15:0] RW. Phase error bound, ns (100) -/
def MOVE_SCAN_LIM_PHTOL : Fld :=
  { off := 0x1C60, lo := 0, w := 16, acc := .rw, rst := 100 }

/-- R518: MOVE_SCAN_LIM.ARATE [31:16] RW. Amplitude ramp, %/s (200); 0 acts as 1 -/
def MOVE_SCAN_LIM_ARATE : Fld :=
  { off := 0x1C60, lo := 16, w := 16, acc := .rw, rst := 200 }

/-- R518: MOVE_SCAN_MEAS.AMP [15:0] RO. Last measured amplitude, fraction of target -/
def MOVE_SCAN_MEAS_AMP : Fld :=
  { off := 0x1C64, lo := 0, w := 16, acc := .ro, rst := 0 }

/-- R518: MOVE_SCAN_MEAS.FRES [31:16] RO. Resonance found by the last sweep, Hz; 0 none or failed -/
def MOVE_SCAN_MEAS_FRES : Fld :=
  { off := 0x1C64, lo := 16, w := 16, acc := .ro, rst := 0 }

/-- R518: MOVE_SCAN_PHERR.ERR [31:0] RO. Last phase error, signed ns, saturating -/
def MOVE_SCAN_PHERR_ERR : Fld :=
  { off := 0x1C68, lo := 0, w := 32, acc := .ro, rst := 0 }

/-- R518: MOVE_WILK_CNT.COUNT [31:0] RO. Wheel interlock starts -/
def MOVE_WILK_CNT_COUNT : Fld :=
  { off := 0x1C6C, lo := 0, w := 32, acc := .ro, rst := 0 }

/-- R518: MOVE_IDXLOST_CNT.COUNT [31:0] RO. Index predictions withdrawn -/
def MOVE_IDXLOST_CNT_COUNT : Fld :=
  { off := 0x1C70, lo := 0, w := 32, acc := .ro, rst := 0 }

/-- R518: MOVE_SILK_CNT.COUNT [31:0] RO. Scan interlock starts -/
def MOVE_SILK_CNT_COUNT : Fld :=
  { off := 0x1C74, lo := 0, w := 32, acc := .ro, rst := 0 }

/-- R518: MOVE_SWEEPFAIL_CNT.COUNT [31:0] RO. Failed sweeps -/
def MOVE_SWEEPFAIL_CNT_COUNT : Fld :=
  { off := 0x1C78, lo := 0, w := 32, acc := .ro, rst := 0 }

/-- R593: EPROT_CTRL.CNT_CLR [0] WO. 1: clear the counters of this table -/
def EPROT_CTRL_CNT_CLR : Fld :=
  { off := 0x2000, lo := 0, w := 1, acc := .wo, rst := 0 }

/-- R593: EPROT_STATUS.IDENTIFIED [0] RO. 1 from identification until the port leaves UP -/
def EPROT_STATUS_IDENTIFIED : Fld :=
  { off := 0x2004, lo := 0, w := 1, acc := .ro, rst := 0 }

/-- R593: EPROT_STATUS.PARKED [1] RO. Head's last reported PARKED -/
def EPROT_STATUS_PARKED : Fld :=
  { off := 0x2004, lo := 1, w := 1, acc := .ro, rst := 1 }

/-- R593: EPROT_STATUS.HT_LOCK [2] RO. Head's last reported HT_LOCK -/
def EPROT_STATUS_HT_LOCK : Fld :=
  { off := 0x2004, lo := 2, w := 1, acc := .ro, rst := 0 }

/-- R593: EPROT_STATUS.HEAD_FAULT [3] RO. Head's last reported FAULT -/
def EPROT_STATUS_HEAD_FAULT : Fld :=
  { off := 0x2004, lo := 3, w := 1, acc := .ro, rst := 0 }

/-- R593: EPROT_STATUS.TEL_STALE [4] RO. As in R576 -/
def EPROT_STATUS_TEL_STALE : Fld :=
  { off := 0x2004, lo := 4, w := 1, acc := .ro, rst := 0 }

/-- R593: EPROT_STATUS.FMT_REJECTED [5] RO. 1 while R579 holds the channel dark -/
def EPROT_STATUS_FMT_REJECTED : Fld :=
  { off := 0x2004, lo := 5, w := 1, acc := .ro, rst := 0 }

/-- R593: EPROT_STATUS.WRITE_REJECTED [6] W1C. Set by a rejected pass-through write -/
def EPROT_STATUS_WRITE_REJECTED : Fld :=
  { off := 0x2004, lo := 6, w := 1, acc := .w1c, rst := 0 }

/-- R593: EPROT_STATUS.REJECT [15:8] RO. Last identification reason (R581); 0x00 none -/
def EPROT_STATUS_REJECT : Fld :=
  { off := 0x2004, lo := 8, w := 8, acc := .ro, rst := 0 }

/-- R593: EPROT_STATUS.SCHED [23:16] RO. Bit j: head schedule j in use -/
def EPROT_STATUS_SCHED : Fld :=
  { off := 0x2004, lo := 16, w := 8, acc := .ro, rst := 0 }

/-- R593: EPROT_CFG.STALE [7:0] RW. Staleness limit, ms (R576); 0x00 acts as 0x01 -/
def EPROT_CFG_STALE : Fld :=
  { off := 0x2008, lo := 0, w := 8, acc := .rw, rst := 5 }

/-- R593: EPROT_CFG.DRIVE_HOLD [23:8] RW. Written to HCFG_DRIVE_HOLD at identification and on change -/
def EPROT_CFG_DRIVE_HOLD : Fld :=
  { off := 0x2008, lo := 8, w := 16, acc := .rw, rst := 50 }

/-- R593: EPROT_WAVE_MAP.WAVE [4b+3:4b] RW. Table for head band b, b = 0–4 (R570); values above WAVES_M1 act as WAVES_M1 -/
def EPROT_WAVE_MAP_WAVE : Fld :=
  { off := 0x200C, lo := 0, w := 4, acc := .rw, rst := 0, stride := 0, bstep := 4, n := 5 }

/-- R593: EPROT_PASS_CTRL.GO [0] WO. 1: send the request -/
def EPROT_PASS_CTRL_GO : Fld :=
  { off := 0x2010, lo := 0, w := 1, acc := .wo, rst := 0 }

/-- R593: EPROT_PASS_CTRL.WRITE [1] RW. 1 CFG_WR, 0 CFG_RD -/
def EPROT_PASS_CTRL_WRITE : Fld :=
  { off := 0x2010, lo := 1, w := 1, acc := .rw, rst := 0 }

/-- R593: EPROT_PASS_CTRL.COUNT_M1 [5:2] RW. Words − 1 -/
def EPROT_PASS_CTRL_COUNT_M1 : Fld :=
  { off := 0x2010, lo := 2, w := 4, acc := .rw, rst := 0 }

/-- R593: EPROT_PASS_CTRL.ADDR [31:16] RW. Head address; a write below 0x8000 is not sent and sets WRITE_REJECTED -/
def EPROT_PASS_CTRL_ADDR : Fld :=
  { off := 0x2010, lo := 16, w := 16, acc := .rw, rst := 0 }

/-- R593: EPROT_PASS_STAT.BUSY [0] RO. 1 while a request is outstanding; GO ignored while 1 -/
def EPROT_PASS_STAT_BUSY : Fld :=
  { off := 0x2014, lo := 0, w := 1, acc := .ro, rst := 0 }

/-- R593: EPROT_PASS_STAT.DONE [1] W1C. Set at completion -/
def EPROT_PASS_STAT_DONE : Fld :=
  { off := 0x2014, lo := 1, w := 1, acc := .w1c, rst := 0 }

/-- R593: EPROT_PASS_STAT.STATUS [15:8] RO. CFG_RESP STATUS; 0xFF timeout -/
def EPROT_PASS_STAT_STATUS : Fld :=
  { off := 0x2014, lo := 8, w := 8, acc := .ro, rst := 0 }

/-- R593: EPROT_TEL_AGE.AGE [15:0] RO. Age of the last STATUS record, 100 µs units, saturating -/
def EPROT_TEL_AGE_AGE : Fld :=
  { off := 0x2018, lo := 0, w := 16, acc := .ro, rst := 65535 }

/-- R593: EPROT_RX_ERR_CNT.COUNT [31:0] RO. Packets and sets discarded by the BX9192 receiver (R559, R565) -/
def EPROT_RX_ERR_CNT_COUNT : Fld :=
  { off := 0x201C, lo := 0, w := 32, acc := .ro, rst := 0 }

/-- R593: EPROT_HEAD_ERR_CNT.COUNT [31:0] RO. Sum of the STATUS error counts -/
def EPROT_HEAD_ERR_CNT_COUNT : Fld :=
  { off := 0x2020, lo := 0, w := 32, acc := .ro, rst := 0 }

/-- R593: EPROT_IDENT_CNT.COUNT [31:0] RO. Identifications -/
def EPROT_IDENT_CNT_COUNT : Fld :=
  { off := 0x2024, lo := 0, w := 32, acc := .ro, rst := 0 }

/-- R593: EPROT_PARK_TO_CNT.COUNT [31:0] RO. PARK timeouts (R585) -/
def EPROT_PARK_TO_CNT_COUNT : Fld :=
  { off := 0x2028, lo := 0, w := 32, acc := .ro, rst := 0 }

/-- R593: EPROT_STALE_CNT.COUNT [31:0] RO. Entries to TEL_STALE -/
def EPROT_STALE_CNT_COUNT : Fld :=
  { off := 0x202C, lo := 0, w := 32, acc := .ro, rst := 0 }

/-- R593: EPROT_CFG_TO_CNT.COUNT [31:0] RO. CFG timeouts (R573) -/
def EPROT_CFG_TO_CNT_COUNT : Fld :=
  { off := 0x2030, lo := 0, w := 32, acc := .ro, rst := 0 }

/-- R593: EPROT_PASS_DATA.DATA [31:0] RW. Word i of the request or response, i = 0–15 -/
def EPROT_PASS_DATA_DATA : Fld :=
  { off := 0x2040, lo := 0, w := 32, acc := .rw, rst := 0, stride := 4, bstep := 0, n := 16 }

/-- R593: EPROT_HCAP.VALUE [31:0] RO. Head register 4i as read at the last identification, i = 0–31 -/
def EPROT_HCAP_VALUE : Fld :=
  { off := 0x2080, lo := 0, w := 32, acc := .ro, rst := 0, stride := 4, bstep := 0, n := 32 }

/-- R74: CH_START_LO.HT [31:0] RWF. HT time [31:0] -/
def CH_START_LO_HT : Fld :=
  { off := 0x10, lo := 0, w := 32, acc := .rwf, rst := 0 }

/-- R74: CH_START_HI.HT [31:0] RWF. HT time [63:32] -/
def CH_START_HI_HT : Fld :=
  { off := 0x14, lo := 0, w := 32, acc := .rwf, rst := 0 }

/-- R74: CH_STOP_LO.HT [31:0] RW. HT time [31:0] -/
def CH_STOP_LO_HT : Fld :=
  { off := 0x18, lo := 0, w := 32, acc := .rw, rst := 0 }

/-- R74: CH_STOP_HI.HT [31:0] RW. HT time [63:32] -/
def CH_STOP_HI_HT : Fld :=
  { off := 0x1C, lo := 0, w := 32, acc := .rw, rst := 0 }

/-- Part 0 of `chBlk`. -/
def chBlk0 : List Fld :=
  [CH_KIND_KIND,
   CH_KIND_PCLASS,
   CH_KIND_HEAD_KIND,
   CH_KIND_KIND_MISMATCH,
   CH_CTRL_ARM,
   CH_CTRL_DISARM,
   CH_CTRL_STOP,
   CH_CTRL_CLEAR,
   CH_CTRL_RESET,
   CH_STATUS_STATE,
   CH_STATUS_ARM_REJECT,
   CH_STATUS_FAULT,
   CH_STATUS_WRITE_REJECTED,
   CH_STATUS_CMD_IGNORED,
   CH_STATUS_COMMITTED,
   CH_STATUS_SAFE_DARK,
   CH_STATUS_PARKED,
   FETCH_CTRL_CNT_CLR,
   FETCH_STATUS_UNDERRUN,
   FETCH_STATUS_POISON,
   FETCH_STATUS_DECODE,
   FETCH_STATUS_RIGHTS,
   FETCH_STATUS_BUF_REFUSED,
   FETCH_UNDERRUN_LINES_COUNT,
   FETCH_UNDERRUN_FRAMES_COUNT,
   FETCH_POISON_CNT_COUNT,
   FETCH_DECODE_CNT_COUNT,
   FETCH_RIGHTS_CNT_COUNT,
   FETCH_UFRAME_LO_HT,
   FETCH_UFRAME_HI_HT,
   FETCH_BUF_USED_BYTES,
   COMP_CTRL_MODE,
   COMP_CTRL_WB_EN,
   COMP_CTRL_WB_ALT,
   COMP_CTRL_FRZ_EN,
   COMP_CTRL_FRZ_WIN,
   COMP_CTRL_UMAP_EN,
   COMP_CTRL_LUT_BANK,
   COMP_CTRL_PREEMPT,
   COMP_CTRL_CNT_CLR]

/-- Part 1 of `chBlk`. -/
def chBlk1 : List Fld :=
  [COMP_STATUS_FROZEN,
   COMP_STATUS_LEVEE_EFF,
   COMP_STATUS_LEVEE_MISMATCH,
   COMP_STATUS_BRIGHT_CLAMPED,
   COMP_STATUS_WB_INCOMPLETE,
   COMP_STATUS_WB_UNDERRUN,
   COMP_STATUS_BAND_EFF,
   COMP_STATUS_LUT_BANK_EFF,
   COMP_FLIP_LEAD,
   COMP_FLIP_PREEMPT_LEAD,
   COMP_BG_B,
   COMP_BG_G,
   COMP_BG_R,
   COMP_MAT0_M00,
   COMP_MAT0_M01,
   COMP_MAT1_M02,
   COMP_MAT1_M10,
   COMP_MAT2_M11,
   COMP_MAT2_M12,
   COMP_MAT3_M20,
   COMP_MAT3_M21,
   COMP_MAT4_M22,
   COMP_LUT_IDX_ENTRY,
   COMP_LUT_IDX_PRI,
   COMP_LUT_IDX_BANK,
   COMP_LUT_DATA_VALUE,
   COMP_UMAP_CFG_STRIDE,
   COMP_UMAP_CFG_BAND_EN,
   COMP_UMAP_BASE_LO_BASE,
   COMP_UMAP_BASE_HI_BASE,
   COMP_BRIGHT_LEVEL,
   COMP_BRIGHT_EFF,
   COMP_LEVEE_CTRL_ACTIVE,
   COMP_LEVEE_CTRL_FORCE_DARK,
   COMP_LEVEE_CTRL_MISS_N,
   COMP_LEVEE_CTRL_FLOOR,
   COMP_LEVEE_WPOS_X,
   COMP_LEVEE_WPOS_Y,
   COMP_LEVEE_WSIZE_W_M1,
   COMP_LEVEE_WSIZE_H_M1]

/-- Part 2 of `chBlk`. -/
def chBlk2 : List Fld :=
  [COMP_LEVEE_SIG_EXP_SIG,
   COMP_LEVEE_SIG_SIG,
   COMP_FRZ_CFG_N,
   COMP_FRZ_WPOS_X,
   COMP_FRZ_WPOS_Y,
   COMP_FRZ_WSIZE_W_M1,
   COMP_FRZ_WSIZE_H_M1,
   COMP_FRAME_SIG_SIG,
   COMP_CSEQ_SEQ,
   COMP_WB_SURF_HANDLE0,
   COMP_WB_SURF_HANDLE1,
   COMP_WB_REC_LO_EN,
   COMP_WB_REC_LO_ADDR,
   COMP_WB_REC_HI_ADDR,
   COMP_WB_SEQ_LO_SEQ,
   COMP_WB_SEQ_HI_SEQ,
   COMP_WB_INC_CNT_COUNT,
   COMP_LEVEE_MISS_CNT_COUNT,
   COMP_UMAP_FALLBACK_CNT_COUNT,
   COMP_FROZEN_CNT_COUNT,
   PLANE_GEOM_W_M1,
   PLANE_GEOM_H_M1,
   PLANE_CFG_DEPTH,
   PLANE_CFG_BLOCKS_M1,
   PLANE_CFG_DITHER,
   PLANE_CFG_TSTEP,
   PLANE_CFG_BIDIR,
   PLANE_CFG_COUNT_M1,
   PLANE_DMAT_LO_M,
   PLANE_DMAT_HI_M,
   PLANE_POOL_BASE_LO_BASE,
   PLANE_POOL_BASE_HI_BASE,
   PLANE_POOL_CFG_FRAMES,
   PLANE_POOL_SIZE_SIZE,
   PLANE_RESET_PHASE,
   PLANE_PACE_PACE,
   PLANE_DARK_N,
   PLANE_WTOL_TOL,
   PLANE_STATUS_FMT_DARK,
   PLANE_STATUS_DRIFT]

/-- Part 3 of `chBlk`. -/
def chBlk3 : List Fld :=
  [PLANE_STATUS_DRIFT_UNCORR,
   PLANE_STATUS_POOL_WAIT,
   PLANE_CTRL_CNT_CLR,
   PLANE_VIOL_CNT_COUNT,
   PLANE_DRIFT_CNT_COUNT,
   PLANE_POOLWAIT_CNT_COUNT,
   PLANE_SLICE_PRI,
   PLANE_SLICE_BIT,
   PLANE_LVL_AMP,
   PLANE_LVL_CORR,
   PLANE_DRIFT_PRI,
   PLANE_DRIFT_BIT,
   PLANE_DRIFT_DELTA,
   SEQ_CTRL_SWAP,
   SEQ_CTRL_CNT_CLR,
   SEQ_STATUS_BANK,
   SEQ_STATUS_SWAP_PENDING,
   SEQ_STATUS_HALTED,
   SEQ_STATUS_WAITING,
   SEQ_STATUS_VERIFIED0,
   SEQ_STATUS_VERIFIED1,
   SEQ_STATUS_TENANT_OWNED,
   SEQ_STATUS_FAULT,
   SEQ_STATUS_WRITE_REJECTED,
   SEQ_STATUS_SWAP_REJECTED,
   SEQ_FAULT_INFO_PC,
   SEQ_FAULT_INFO_BANK,
   SEQ_FAULT_INSN_WORD,
   SEQ_FAULT_TC_LO_TC,
   SEQ_FAULT_TC_HI_TC,
   SEQ_TC_LO_TC,
   SEQ_TC_HI_TC,
   SEQ_SWAP_T_LO_T,
   SEQ_SWAP_T_HI_T,
   SEQ_WDOG_LIMIT,
   SEQ_FAULT_CNT_COUNT,
   SEQ_BSIZE_COUNT,
   SEQ_BSIZE_DCOUNT,
   SEQ_BENTRY_ENTRY,
   SEQ_BFALL_ENTRY_X2]

/-- Part 4 of `chBlk`. -/
def chBlk4 : List Fld :=
  [SEQ_BFALL_ENTRY_X1,
   SEQ_BCRC_CRC,
   SEQ_BLOADER_LOADER0,
   SEQ_BLOADER_LOADER1,
   SEQ_RUNAHEAD_FRAMES,
   SEQ_FPERIOD_PERIOD,
   SEQ_WIDTH_WIDTH,
   SEQ_WIDTH_ENTRY,
   SEQ_WIDTH_SWITCH_PENDING,
   SEQ_WIDTH_WIDER_ENTRY,
   SEQ_RANGE_HIGH,
   SEQ_RANGE_STAT_HIGH_EFF,
   SEQ_RANGE_STAT_RANGE_DARK,
   SEQ_SCAN_TOL_TOL,
   SEQ_SLOTS_LIMIT,
   SEQ_SLOTS_USED,
   SEQ_XCTRL_CNT_CLR,
   SEQ_FRAME_LO_HT,
   SEQ_FRAME_HI_HT,
   SEQ_FRAME_CNT_COUNT,
   SEQ_SWITCH_CNT_COUNT,
   SEQ_SLOT_DROP_CNT_COUNT,
   SEQ_SAMPLE_DROP_CNT_COUNT,
   SEQ_GAP_DROP_CNT_COUNT,
   SEQ_OFFGRID_CNT_COUNT,
   SEQ_SWAPERR_CNT_COUNT,
   SEQ_LOADCHK_REASON,
   WEIR_CTRL_CNT_CLR,
   WEIR_CFG_PREV_EN,
   WEIR_STATUS_HEAD_MODE,
   WEIR_STATUS_LINK_UP,
   WEIR_STATUS_QUEUE_FULL,
   WEIR_STATUS_WD_ACTIVE,
   WEIR_STATUS_LATE,
   WEIR_STATUS_MISS,
   WEIR_STATUS_EXPIRED,
   WEIR_STATUS_BUF_FREE,
   WEIR_TRIM_TRIM,
   WEIR_TRIM_TRIM_EFF,
   WEIR_LINK_PAYLOAD]

/-- Part 5 of `chBlk`. -/
def chBlk5 : List Fld :=
  [WEIR_LINK_WIDTH,
   WEIR_LEAD_LEAD,
   WEIR_QUEUE_USED,
   WEIR_QUEUE_PEAK,
   WEIR_SLACK_FRAME_SLACK,
   WEIR_SLACK_LOW_SLACK,
   WEIR_LATE_CNT_COUNT,
   WEIR_LATE_DARK_CNT_COUNT,
   WEIR_MISS_CNT_COUNT,
   WEIR_EXPIRED_CNT_COUNT,
   WEIR_EDGE_LATE_CNT_COUNT,
   WEIR_DOWN_CNT_COUNT,
   WEIR_WD_CNT_COUNT,
   WEIR_LEAK_CNT_COUNT,
   WEIR_WD_INFO_CAUSE,
   WEIR_WD_INFO_KIND,
   WEIR_WD_INFO_PENDING,
   WEIR_WD_INFO_LEAKED,
   WEIR_WD_T_LO_HT,
   WEIR_WD_T_HI_HT,
   WEIR_WD_PIN_LO_HT,
   WEIR_WD_PIN_HI_HT,
   LAMP_CTRL_CNT_CLR,
   LAMP_CTRL_STR_CLR,
   LAMP_STATUS_CUT,
   LAMP_STATUS_DERATING,
   LAMP_STATUS_FALLBACK,
   LAMP_STATUS_DARK_HOLD,
   LAMP_STATUS_CMD_PENDING,
   LAMP_STATUS_READBACK_ERR,
   LAMP_RILL_CFG_LEN_M1,
   LAMP_RILL_CFG_PERIOD,
   LAMP_RILL_CFG_ACK,
   LAMP_DRVMAP_LO_STR,
   LAMP_DRVMAP_HI_STR,
   LAMP_DERATE0_KNEE,
   LAMP_DERATE0_CUT,
   LAMP_DERATE0_HYST,
   LAMP_DERATE0_SLOPE,
   LAMP_DERATE1_FLOOR]

/-- Part 6 of `chBlk`. -/
def chBlk6 : List Fld :=
  [LAMP_DERATE1_SAFE,
   LAMP_DERATE2_THERM,
   LAMP_DERATE2_TEN,
   LAMP_DERATE2_THERM_OFS,
   LAMP_DERATE2_STALE,
   LAMP_DERATE2_PLAUS,
   LAMP_DERATE3_RISE,
   LAMP_FADE_B_DUR,
   LAMP_FADE_B_CURVE,
   LAMP_FADE_B_GAMMA,
   LAMP_FADE_C_DUR,
   LAMP_FADE_C_CURVE,
   LAMP_FADE_C_GAMMA,
   LAMP_FADE_STAT_B,
   LAMP_FADE_STAT_C_MODE,
   LAMP_DET_CFG_AUTO,
   LAMP_DET_CFG_ACT,
   LAMP_DET_CFG_CONFIRM,
   LAMP_DET_CFG_IMIN,
   LAMP_CURVE_IDX_ENTRY,
   LAMP_CURVE_IDX_STR,
   LAMP_CURVE_IDX_RANGE,
   LAMP_CURVE_DATA_VALUE,
   LAMP_OPEN_CNT_COUNT,
   LAMP_SHORT_CNT_COUNT,
   LAMP_CUT_CNT_COUNT,
   LAMP_BYP_CNT_COUNT,
   LAMP_FALLBACK_CNT_COUNT,
   LAMP_RILL_FRAME_CNT_COUNT,
   LAMP_RILL_ABORT_CNT_COUNT,
   LAMP_READBACK_CNT_COUNT,
   MOVE_CTRL_WHEEL_RUN,
   MOVE_CTRL_WHEEL_STOP,
   MOVE_CTRL_SCAN_START,
   MOVE_CTRL_SCAN_STOP,
   MOVE_CTRL_CNT_CLR,
   MOVE_STATUS_WSTATE,
   MOVE_STATUS_W_ILK,
   MOVE_STATUS_PRED,
   MOVE_STATUS_SSTATE]

/-- Part 7 of `chBlk`. -/
def chBlk7 : List Fld :=
  [MOVE_STATUS_S_ILK,
   MOVE_STATUS_GRID,
   MOVE_STATUS_REJECT,
   MOVE_STATUS_WRITE_REJECTED,
   MOVE_WHEEL_CFG_SEGS_M1,
   MOVE_WHEEL_CFG_SLOT,
   MOVE_WHEEL_CFG_IDX_TO,
   MOVE_WHEEL_TGT_SPEED,
   MOVE_WHEEL_RAMP_ACC,
   MOVE_WHEEL_RAMP_DEC,
   MOVE_WHEEL_ILK_THRESH,
   MOVE_WHEEL_ILK_DWELL,
   MOVE_WHEEL_ILK_RELEASE,
   MOVE_WHEEL_LIM_PHTOL,
   MOVE_WHEEL_LIM_STOP,
   MOVE_WSEG_START,
   MOVE_WSPEED_MEAS,
   MOVE_WSPEED_CMD,
   MOVE_WIDX_LO_HT,
   MOVE_WIDX_HI_HT,
   MOVE_WPERIOD_PERIOD,
   MOVE_WERR_ERR,
   MOVE_SCAN_CFG_TYPE,
   MOVE_SCAN_CFG_AUTO_SP,
   MOVE_SCAN_CFG_SLOT,
   MOVE_SCAN_SWEEP_F_LO,
   MOVE_SCAN_SWEEP_F_HI,
   MOVE_SCAN_STEP_SAMP,
   MOVE_SCAN_STEP_STEP,
   MOVE_SCAN_STEP_DWELL,
   MOVE_SCAN_ILK_AMIN,
   MOVE_SCAN_ILK_RELEASE,
   MOVE_SCAN_LIM_PHTOL,
   MOVE_SCAN_LIM_ARATE,
   MOVE_SCAN_MEAS_AMP,
   MOVE_SCAN_MEAS_FRES,
   MOVE_SCAN_PHERR_ERR,
   MOVE_WILK_CNT_COUNT,
   MOVE_IDXLOST_CNT_COUNT,
   MOVE_SILK_CNT_COUNT]

/-- Part 8 of `chBlk`. -/
def chBlk8 : List Fld :=
  [MOVE_SWEEPFAIL_CNT_COUNT,
   EPROT_CTRL_CNT_CLR,
   EPROT_STATUS_IDENTIFIED,
   EPROT_STATUS_PARKED,
   EPROT_STATUS_HT_LOCK,
   EPROT_STATUS_HEAD_FAULT,
   EPROT_STATUS_TEL_STALE,
   EPROT_STATUS_FMT_REJECTED,
   EPROT_STATUS_WRITE_REJECTED,
   EPROT_STATUS_REJECT,
   EPROT_STATUS_SCHED,
   EPROT_CFG_STALE,
   EPROT_CFG_DRIVE_HOLD,
   EPROT_WAVE_MAP_WAVE,
   EPROT_PASS_CTRL_GO,
   EPROT_PASS_CTRL_WRITE,
   EPROT_PASS_CTRL_COUNT_M1,
   EPROT_PASS_CTRL_ADDR,
   EPROT_PASS_STAT_BUSY,
   EPROT_PASS_STAT_DONE,
   EPROT_PASS_STAT_STATUS,
   EPROT_TEL_AGE_AGE,
   EPROT_RX_ERR_CNT_COUNT,
   EPROT_HEAD_ERR_CNT_COUNT,
   EPROT_IDENT_CNT_COUNT,
   EPROT_PARK_TO_CNT_COUNT,
   EPROT_STALE_CNT_COUNT,
   EPROT_CFG_TO_CNT_COUNT,
   EPROT_PASS_DATA_DATA,
   EPROT_HCAP_VALUE,
   CH_START_LO_HT,
   CH_START_HI_HT,
   CH_STOP_LO_HT,
   CH_STOP_HI_HT]

/-- Every field of the logical channel block (R801). -/
def chBlk : List Fld :=
  chBlk0 ++ chBlk1 ++ chBlk2 ++ chBlk3 ++ chBlk4 ++ chBlk5 ++ chBlk6 ++ chBlk7 ++ chBlk8

/-- R186: FETCH_SURF.HANDLE [9:0] RWS. Surface handle in the grant holder's table, or in PF0's for k = 8 -/
def FETCH_SURF_HANDLE : Fld :=
  { off := 0x0, lo := 0, w := 10, acc := .rws, rst := 0 }

/-- R186: FETCH_SURF.EN [16] RWS. 1: layer fetched -/
def FETCH_SURF_EN : Fld :=
  { off := 0x0, lo := 16, w := 1, acc := .rws, rst := 0 }

/-- R186: FETCH_SRC_POS.X [13:0] RWS. Source rectangle left column -/
def FETCH_SRC_POS_X : Fld :=
  { off := 0x4, lo := 0, w := 14, acc := .rws, rst := 0 }

/-- R186: FETCH_SRC_POS.Y [29:16] RWS. Source rectangle top row -/
def FETCH_SRC_POS_Y : Fld :=
  { off := 0x4, lo := 16, w := 14, acc := .rws, rst := 0 }

/-- R186: FETCH_SRC_SIZE.W_M1 [13:0] RWS. Source width − 1 -/
def FETCH_SRC_SIZE_W_M1 : Fld :=
  { off := 0x8, lo := 0, w := 14, acc := .rws, rst := 0 }

/-- R186: FETCH_SRC_SIZE.H_M1 [29:16] RWS. Source height − 1 -/
def FETCH_SRC_SIZE_H_M1 : Fld :=
  { off := 0x8, lo := 16, w := 14, acc := .rws, rst := 0 }

/-- R186: FETCH_LSTAT.HANDLE_EFF [9:0] RO. Handle in effect for the last completed frame -/
def FETCH_LSTAT_HANDLE_EFF : Fld :=
  { off := 0xC, lo := 0, w := 10, acc := .ro, rst := 0 }

/-- R186: FETCH_LSTAT.EN_EFF [10] RO. EN in effect for the last completed frame -/
def FETCH_LSTAT_EN_EFF : Fld :=
  { off := 0xC, lo := 10, w := 1, acc := .ro, rst := 0 }

/-- R186: FETCH_LSTAT.CLIPPED [11] RO. 1: the rectangle was clipped in the last completed frame (R178) -/
def FETCH_LSTAT_CLIPPED : Fld :=
  { off := 0xC, lo := 11, w := 1, acc := .ro, rst := 0 }

/-- R186: FETCH_LSTAT.POISON [12] RO. 1: a poison replacement in the last completed frame -/
def FETCH_LSTAT_POISON : Fld :=
  { off := 0xC, lo := 12, w := 1, acc := .ro, rst := 0 }

/-- R186: FETCH_LSTAT.DECODE [13] RO. 1: a decode error in the last completed frame -/
def FETCH_LSTAT_DECODE : Fld :=
  { off := 0xC, lo := 13, w := 1, acc := .ro, rst := 0 }

/-- R186: FETCH_LSTAT.RIGHTS [14] RO. 1: a rights fault in the last completed frame -/
def FETCH_LSTAT_RIGHTS : Fld :=
  { off := 0xC, lo := 14, w := 1, acc := .ro, rst := 0 }

/-- Every field of the FETCH_ registers of one layer (R186). -/
def fetchLayerBlk : List Fld :=
  [FETCH_SURF_HANDLE,
   FETCH_SURF_EN,
   FETCH_SRC_POS_X,
   FETCH_SRC_POS_Y,
   FETCH_SRC_SIZE_W_M1,
   FETCH_SRC_SIZE_H_M1,
   FETCH_LSTAT_HANDLE_EFF,
   FETCH_LSTAT_EN_EFF,
   FETCH_LSTAT_CLIPPED,
   FETCH_LSTAT_POISON,
   FETCH_LSTAT_DECODE,
   FETCH_LSTAT_RIGHTS]

/-- R237: COMP_LDST_POS.X [15:0] RWS. Destination left column, signed -/
def COMP_LDST_POS_X : Fld :=
  { off := 0x0, lo := 0, w := 16, acc := .rws, rst := 0 }

/-- R237: COMP_LDST_POS.Y [31:16] RWS. Destination top row, signed -/
def COMP_LDST_POS_Y : Fld :=
  { off := 0x0, lo := 16, w := 16, acc := .rws, rst := 0 }

/-- R237: COMP_LDST_SIZE.W_M1 [13:0] RWS. Destination width − 1; scaled layers only -/
def COMP_LDST_SIZE_W_M1 : Fld :=
  { off := 0x4, lo := 0, w := 14, acc := .rws, rst := 0 }

/-- R237: COMP_LDST_SIZE.H_M1 [29:16] RWS. Destination height − 1; scaled layers only -/
def COMP_LDST_SIZE_H_M1 : Fld :=
  { off := 0x4, lo := 16, w := 14, acc := .rws, rst := 0 }

/-- R237: COMP_LSTEP_X.STEP [18:0] RWS. Horizontal step, 2^−16 source pixels (R198) -/
def COMP_LSTEP_X_STEP : Fld :=
  { off := 0x8, lo := 0, w := 19, acc := .rws, rst := 65536 }

/-- R237: COMP_LSTEP_Y.STEP [18:0] RWS. Vertical step, 2^−16 source pixels -/
def COMP_LSTEP_Y_STEP : Fld :=
  { off := 0xC, lo := 0, w := 19, acc := .rws, rst := 65536 }

/-- R237: COMP_LBLEND.GA [15:0] RWS. Global alpha (R203) -/
def COMP_LBLEND_GA : Fld :=
  { off := 0x10, lo := 0, w := 16, acc := .rws, rst := 65535 }

/-- R237: COMP_LBLEND.MODE [17:16] RWS. Blend mode (R204) -/
def COMP_LBLEND_MODE : Fld :=
  { off := 0x10, lo := 16, w := 2, acc := .rws, rst := 0 }

/-- R237: COMP_LSCALER.SCALER [2:0] RWS. 0b000–0b011 scaler 0–3; 0b100 none; 0b101–0b111 reserved, refused with reason 0x03 -/
def COMP_LSCALER_SCALER : Fld :=
  { off := 0x14, lo := 0, w := 3, acc := .rws, rst := 4 }

/-- R237: COMP_LFENCE_A_LO.FEN [0] RWS. 1: arm the fence (R212) -/
def COMP_LFENCE_A_LO_FEN : Fld :=
  { off := 0x18, lo := 0, w := 1, acc := .rws, rst := 0 }

/-- R237: COMP_LFENCE_A_LO.ADDR [31:3] RWS. Fence address [31:3] -/
def COMP_LFENCE_A_LO_ADDR : Fld :=
  { off := 0x18, lo := 3, w := 29, acc := .rws, rst := 0 }

/-- R237: COMP_LFENCE_A_HI.ADDR [12:0] RWS. Fence address [44:32] -/
def COMP_LFENCE_A_HI_ADDR : Fld :=
  { off := 0x1C, lo := 0, w := 13, acc := .rws, rst := 0 }

/-- R237: COMP_LFENCE_T_LO.TARGET [31:0] RWS. Fence target [31:0] -/
def COMP_LFENCE_T_LO_TARGET : Fld :=
  { off := 0x20, lo := 0, w := 32, acc := .rws, rst := 0 }

/-- R237: COMP_LFENCE_T_HI.TARGET [31:0] RWS. Fence target [63:32] -/
def COMP_LFENCE_T_HI_TARGET : Fld :=
  { off := 0x24, lo := 0, w := 32, acc := .rws, rst := 0 }

/-- R237: COMP_LFLIP_STAT.PENDING [0] RO. 1: fields pending for this layer -/
def COMP_LFLIP_STAT_PENDING : Fld :=
  { off := 0x28, lo := 0, w := 1, acc := .ro, rst := 0 }

/-- R237: COMP_LFLIP_STAT.LATE [1] RO. 1: the fence was not reached at the last flip instant -/
def COMP_LFLIP_STAT_LATE : Fld :=
  { off := 0x28, lo := 1, w := 1, acc := .ro, rst := 0 }

/-- R237: COMP_LFLIP_STAT.FENCE_FAULT [2] RO. 1: the last fence read failed (R214) -/
def COMP_LFLIP_STAT_FENCE_FAULT : Fld :=
  { off := 0x28, lo := 2, w := 1, acc := .ro, rst := 0 }

/-- R237: COMP_LFLIP_STAT.ARMED [3] RO. 1: a fence is armed -/
def COMP_LFLIP_STAT_ARMED : Fld :=
  { off := 0x28, lo := 3, w := 1, acc := .ro, rst := 0 }

/-- R237: COMP_LFLIP_STAT.LATE_RUN [15:8] RO. Consecutive late frames, saturating at 0xFF; 0 after a flip -/
def COMP_LFLIP_STAT_LATE_RUN : Fld :=
  { off := 0x28, lo := 8, w := 8, acc := .ro, rst := 0 }

/-- R237: COMP_LLATE_CNT.COUNT [31:0] RO. Late frames of this layer, saturating -/
def COMP_LLATE_CNT_COUNT : Fld :=
  { off := 0x2C, lo := 0, w := 32, acc := .ro, rst := 0 }

/-- R237: COMP_LFLIP_LO.HT [31:0] RO. Frame boundary of the last flip, [31:0]; latches COMP_LFLIP_HI as in R16 -/
def COMP_LFLIP_LO_HT : Fld :=
  { off := 0x30, lo := 0, w := 32, acc := .ro, rst := 0 }

/-- R237: COMP_LFLIP_HI.HT [31:0] RO. [63:32] -/
def COMP_LFLIP_HI_HT : Fld :=
  { off := 0x34, lo := 0, w := 32, acc := .ro, rst := 0 }

/-- Every field of the COMP_L registers of one layer (R237). -/
def compLayerBlk : List Fld :=
  [COMP_LDST_POS_X,
   COMP_LDST_POS_Y,
   COMP_LDST_SIZE_W_M1,
   COMP_LDST_SIZE_H_M1,
   COMP_LSTEP_X_STEP,
   COMP_LSTEP_Y_STEP,
   COMP_LBLEND_GA,
   COMP_LBLEND_MODE,
   COMP_LSCALER_SCALER,
   COMP_LFENCE_A_LO_FEN,
   COMP_LFENCE_A_LO_ADDR,
   COMP_LFENCE_A_HI_ADDR,
   COMP_LFENCE_T_LO_TARGET,
   COMP_LFENCE_T_HI_TARGET,
   COMP_LFLIP_STAT_PENDING,
   COMP_LFLIP_STAT_LATE,
   COMP_LFLIP_STAT_FENCE_FAULT,
   COMP_LFLIP_STAT_ARMED,
   COMP_LFLIP_STAT_LATE_RUN,
   COMP_LLATE_CNT_COUNT,
   COMP_LFLIP_LO_HT,
   COMP_LFLIP_HI_HT]

/-- R451: LAMP_SCEIL.CEIL [15:0] RWS. C_reg -/
def LAMP_SCEIL_CEIL : Fld :=
  { off := 0x0, lo := 0, w := 16, acc := .rws, rst := 65535 }

/-- R451: LAMP_SCEIL.PROG [31:16] RO. C_prog -/
def LAMP_SCEIL_PROG : Fld :=
  { off := 0x0, lo := 16, w := 16, acc := .ro, rst := 65535 }

/-- R451: LAMP_SGAIN.GAIN [15:0] RO. G, written by the colour loop -/
def LAMP_SGAIN_GAIN : Fld :=
  { off := 0x4, lo := 0, w := 16, acc := .ro, rst := 16384 }

/-- R451: LAMP_SGAIN.TRIM [31:16] RO. X, written by the lamp current loop -/
def LAMP_SGAIN_TRIM : Fld :=
  { off := 0x4, lo := 16, w := 16, acc := .ro, rst := 16384 }

/-- R451: LAMP_SLIMIT.L [15:0] RO. L_s -/
def LAMP_SLIMIT_L : Fld :=
  { off := 0x8, lo := 0, w := 16, acc := .ro, rst := 0 }

/-- R451: LAMP_SLIMIT.RILL_CEIL [31:16] RO. Rill ceiling last sent -/
def LAMP_SLIMIT_RILL_CEIL : Fld :=
  { off := 0x8, lo := 16, w := 16, acc := .ro, rst := 0 }

/-- R451: LAMP_STEMP.T [15:0] RO. T_s, signed, 1/16 °C -/
def LAMP_STEMP_T : Fld :=
  { off := 0xC, lo := 0, w := 16, acc := .ro, rst := 0 }

/-- R451: LAMP_STEMP.SRC [17:16] RO. Source (R423) -/
def LAMP_STEMP_SRC : Fld :=
  { off := 0xC, lo := 16, w := 2, acc := .ro, rst := 2 }

/-- R451: LAMP_SSTAT.OPEN [0] RO. Confirmed open, until STR_CLR -/
def LAMP_SSTAT_OPEN : Fld :=
  { off := 0x10, lo := 0, w := 1, acc := .ro, rst := 0 }

/-- R451: LAMP_SSTAT.SHORT [1] RO. Confirmed short, until STR_CLR -/
def LAMP_SSTAT_SHORT : Fld :=
  { off := 0x10, lo := 1, w := 1, acc := .ro, rst := 0 }

/-- R451: LAMP_SSTAT.CUT [2] RO. String cut -/
def LAMP_SSTAT_CUT : Fld :=
  { off := 0x10, lo := 2, w := 1, acc := .ro, rst := 0 }

/-- R451: LAMP_SSTAT.SPARES_OUT [3] RO. As in R435 -/
def LAMP_SSTAT_SPARES_OUT : Fld :=
  { off := 0x10, lo := 3, w := 1, acc := .ro, rst := 0 }

/-- R451: LAMP_SSTAT.CAUSE [7:4] RO. While cut, the cause that started last; after a cut, the cause that ended last (R416, R417, R418) -/
def LAMP_SSTAT_CAUSE : Fld :=
  { off := 0x10, lo := 4, w := 4, acc := .ro, rst := 0 }

/-- R451: LAMP_SSTAT.HIGH [8] RO. Range acknowledged by every driver: 0 low, 1 high -/
def LAMP_SSTAT_HIGH : Fld :=
  { off := 0x10, lo := 8, w := 1, acc := .ro, rst := 0 }

/-- R451: LAMP_SSTAT.D [31:16] RO. D_s; from reset, LAMP_DERATE1.SAFE (R423) -/
def LAMP_SSTAT_D : Fld :=
  { off := 0x10, lo := 16, w := 16, acc := .ro, rst := 19660 }

/-- R451: LAMP_SSAMPLE.V [15:0] RO. Last sampled voltage, 10 mV units -/
def LAMP_SSAMPLE_V : Fld :=
  { off := 0x14, lo := 0, w := 16, acc := .ro, rst := 0 }

/-- R451: LAMP_SSAMPLE.I [31:16] RO. Last sampled current, fraction of range full scale -/
def LAMP_SSAMPLE_I : Fld :=
  { off := 0x14, lo := 16, w := 16, acc := .ro, rst := 0 }

/-- R451: LAMP_SVWIN.VLOW [15:0] RW. Short threshold, 10 mV; 0 disables short detection -/
def LAMP_SVWIN_VLOW : Fld :=
  { off := 0x18, lo := 0, w := 16, acc := .rw, rst := 0 }

/-- R451: LAMP_SVWIN.VOPEN [31:16] RW. Open voltage threshold, 10 mV -/
def LAMP_SVWIN_VOPEN : Fld :=
  { off := 0x18, lo := 16, w := 16, acc := .rw, rst := 0 }

/-- Every field of the LAMP_ registers of one string (R451). -/
def lampStrBlk : List Fld :=
  [LAMP_SCEIL_CEIL,
   LAMP_SCEIL_PROG,
   LAMP_SGAIN_GAIN,
   LAMP_SGAIN_TRIM,
   LAMP_SLIMIT_L,
   LAMP_SLIMIT_RILL_CEIL,
   LAMP_STEMP_T,
   LAMP_STEMP_SRC,
   LAMP_SSTAT_OPEN,
   LAMP_SSTAT_SHORT,
   LAMP_SSTAT_CUT,
   LAMP_SSTAT_SPARES_OUT,
   LAMP_SSTAT_CAUSE,
   LAMP_SSTAT_HIGH,
   LAMP_SSTAT_D,
   LAMP_SSAMPLE_V,
   LAMP_SSAMPLE_I,
   LAMP_SVWIN_VLOW,
   LAMP_SVWIN_VOPEN]

/-- R452: LAMP_BYP_CFG.SPARE [11:0] RWF. Positions holding spare diodes -/
def LAMP_BYP_CFG_SPARE : Fld :=
  { off := 0x0, lo := 0, w := 12, acc := .rwf, rst := 0 }

/-- R452: LAMP_BYP_STAT.MASK [11:0] RO. Bypass mask in effect -/
def LAMP_BYP_STAT_MASK : Fld :=
  { off := 0x4, lo := 0, w := 12, acc := .ro, rst := 0 }

/-- R452: LAMP_BYP_STAT.FAILED [27:16] RO. Failed positions (R432) -/
def LAMP_BYP_STAT_FAILED : Fld :=
  { off := 0x4, lo := 16, w := 12, acc := .ro, rst := 0 }

/-- R452: LAMP_BYP_STAT.SPARES_LEFT [31:28] RO. Spares neither failed nor brought in -/
def LAMP_BYP_STAT_SPARES_LEFT : Fld :=
  { off := 0x4, lo := 28, w := 4, acc := .ro, rst := 0 }

/-- Every field of the LAMP_BYP registers of one driver (R452). -/
def lampBypBlk : List Fld :=
  [LAMP_BYP_CFG_SPARE,
   LAMP_BYP_STAT_MASK,
   LAMP_BYP_STAT_FAILED,
   LAMP_BYP_STAT_SPARES_LEFT]

end Sys2Proof.Machine.R
end

