-- ==== Sys2Proof/Machine/RegsDie.lean ====
section
/-!
DEFINITION. The register fields of these blocks, one constant per field, as the register tables of spec/ list them:
`dieBlk`: the Reach die control and WEIR_AVS_ registers (R803, R406).
`d2dBlk`: the die-link registers (R727).
`ddrBlk`: the DDR5 channel registers (R632).
`ddrDieBlk`: the DDR_DIE_ registers (R633).
`ephyBlk`: the EPHY_ registers of one port (R556, R557).
`ephyLaneBlk`: the EPHY_ registers of one lane (R557).
`clusterBlk`: the loop cluster registers (R494).
`coreBlk`: the loop core registers (R496).
`slotBlk`: the loop slot registers (R497).
`eddyBlk`: the eddy buffer registers (R498).
`oxbBlk`: the spares/Oxbow block (R767).
-/

namespace Sys2Proof.Machine.R
open Sys2Proof

/-- R406: WEIR_AVS_CTRL.EN [0] RW. 1: loop in control (R393); 0: hold (R394) -/
def WEIR_AVS_CTRL_EN : Fld :=
  { off := 0x100, lo := 0, w := 1, acc := .rw, rst := 1 }

/-- R406: WEIR_AVS_CTRL.STEP [7:4] RW. Step in mV; 0x0 acts as 0x1 -/
def WEIR_AVS_CTRL_STEP : Fld :=
  { off := 0x100, lo := 4, w := 4, acc := .rw, rst := 5 }

/-- R406: WEIR_AVS_CTRL.DOWN_N [11:8] RW. Periods before a lowering step; 0x0 acts as 0x1 -/
def WEIR_AVS_CTRL_DOWN_N : Fld :=
  { off := 0x100, lo := 8, w := 4, acc := .rw, rst := 8 }

/-- R406: WEIR_AVS_CTRL.PERIOD [23:16] RW. Period in ms; 0x00 acts as 0x01 -/
def WEIR_AVS_CTRL_PERIOD : Fld :=
  { off := 0x100, lo := 16, w := 8, acc := .rw, rst := 4 }

/-- R406: WEIR_AVS_CTRL.SHORT_N [31:24] RW. Periods for R395; 0x00 acts as 0x01 -/
def WEIR_AVS_CTRL_SHORT_N : Fld :=
  { off := 0x100, lo := 24, w := 8, acc := .rw, rst := 16 }

/-- R406: WEIR_AVS_LIMIT.VMIN [9:0] RW. Lowest supply, mV (620) -/
def WEIR_AVS_LIMIT_VMIN : Fld :=
  { off := 0x104, lo := 0, w := 10, acc := .rw, rst := 620 }

/-- R406: WEIR_AVS_LIMIT.VMAX [25:16] RW. Highest supply, mV (880); each limit outside 620–880 acts as the nearer bound; VMIN above VMAX acts as VMAX -/
def WEIR_AVS_LIMIT_VMAX : Fld :=
  { off := 0x104, lo := 16, w := 10, acc := .rw, rst := 880 }

/-- R406: WEIR_AVS_MARGIN.MARGIN [15:0] RW. Slack margin of band b, µs -/
def WEIR_AVS_MARGIN_MARGIN : Fld :=
  { off := 0x108, lo := 0, w := 16, acc := .rw, rst := 3000, stride := 4, bstep := 0, n := 5, rsts := [3000, 2000, 2000, 2500, 3000] }

/-- R406: WEIR_AVS_STATUS.VOUT [9:0] RO. Supply last commanded, mV (750 at start-up) -/
def WEIR_AVS_STATUS_VOUT : Fld :=
  { off := 0x11C, lo := 0, w := 10, acc := .ro, rst := 750 }

/-- R406: WEIR_AVS_STATUS.AT_MAX [10] RO. 1 while VOUT is VMAX -/
def WEIR_AVS_STATUS_AT_MAX : Fld :=
  { off := 0x11C, lo := 10, w := 1, acc := .ro, rst := 0 }

/-- R406: WEIR_AVS_STATUS.AT_MIN [11] RO. 1 while VOUT is VMIN -/
def WEIR_AVS_STATUS_AT_MIN : Fld :=
  { off := 0x11C, lo := 11, w := 1, acc := .ro, rst := 0 }

/-- R406: WEIR_AVS_STATUS.SHORT_AT_MAX [12] RO. As in R395 -/
def WEIR_AVS_STATUS_SHORT_AT_MAX : Fld :=
  { off := 0x11C, lo := 12, w := 1, acc := .ro, rst := 0 }

/-- R406: WEIR_AVS_STATUS.BAND [18:16] RO. Die temperature band in use, 0–4; 0b101–0b111 never reported -/
def WEIR_AVS_STATUS_BAND : Fld :=
  { off := 0x11C, lo := 16, w := 3, acc := .ro, rst := 1 }

/-- R406: WEIR_AVS_STATUS.LIMIT_PORT [31:24] RO. Port k, 0–47, whose channel recorded s_min in the last period; 0xFF when none -/
def WEIR_AVS_STATUS_LIMIT_PORT : Fld :=
  { off := 0x11C, lo := 24, w := 8, acc := .ro, rst := 255 }

/-- R406: WEIR_AVS_SLACK.SLACK [31:0] RO. s_min of the last period, signed ticks, saturating; 0x7FFF_FFFF when none -/
def WEIR_AVS_SLACK_SLACK : Fld :=
  { off := 0x120, lo := 0, w := 32, acc := .ro, rst := 2147483647 }

/-- R406: WEIR_AVS_SHORT_CNT.COUNT [31:0] RO. Periods counted under R395, saturating -/
def WEIR_AVS_SHORT_CNT_COUNT : Fld :=
  { off := 0x124, lo := 0, w := 32, acc := .ro, rst := 0 }

/-- R803: HUB_DIE_CTRL.RESET [0] RW. 1: hold the die in reset; 0: release it -/
def HUB_DIE_CTRL_RESET : Fld :=
  { off := 0x0, lo := 0, w := 1, acc := .rw, rst := 0 }

/-- R803: HUB_DIE_STATUS.IN_RESET [0] RO. 1 while the die is held in reset, for any cause -/
def HUB_DIE_STATUS_IN_RESET : Fld :=
  { off := 0x4, lo := 0, w := 1, acc := .ro, rst := 0 }

/-- R803: HUB_DIE_STATUS.ISOLATED [1] RO. 1 after an isolation under R81, R115 or R696, until the next write of RESET = 1 -/
def HUB_DIE_STATUS_ISOLATED : Fld :=
  { off := 0x4, lo := 1, w := 1, acc := .ro, rst := 0 }

/-- R803: HUB_DIE_STATUS.READY [2] RO. 1 once the die accepts ARM (R77) -/
def HUB_DIE_STATUS_READY : Fld :=
  { off := 0x4, lo := 2, w := 1, acc := .ro, rst := 0 }

/-- R803: HUB_DIE_STATUS.CLK_LOCK [3] RO. 1 while the die's launch clock is locked (R113) -/
def HUB_DIE_STATUS_CLK_LOCK : Fld :=
  { off := 0x4, lo := 3, w := 1, acc := .ro, rst := 0 }

/-- Every field of the Reach die control and WEIR_AVS_ registers (R803, R406). -/
def dieBlk : List Fld :=
  [WEIR_AVS_CTRL_EN,
   WEIR_AVS_CTRL_STEP,
   WEIR_AVS_CTRL_DOWN_N,
   WEIR_AVS_CTRL_PERIOD,
   WEIR_AVS_CTRL_SHORT_N,
   WEIR_AVS_LIMIT_VMIN,
   WEIR_AVS_LIMIT_VMAX,
   WEIR_AVS_MARGIN_MARGIN,
   WEIR_AVS_STATUS_VOUT,
   WEIR_AVS_STATUS_AT_MAX,
   WEIR_AVS_STATUS_AT_MIN,
   WEIR_AVS_STATUS_SHORT_AT_MAX,
   WEIR_AVS_STATUS_BAND,
   WEIR_AVS_STATUS_LIMIT_PORT,
   WEIR_AVS_SLACK_SLACK,
   WEIR_AVS_SHORT_CNT_COUNT,
   HUB_DIE_CTRL_RESET,
   HUB_DIE_STATUS_IN_RESET,
   HUB_DIE_STATUS_ISOLATED,
   HUB_DIE_STATUS_READY,
   HUB_DIE_STATUS_CLK_LOCK]

/-- R727: HUB_D2D_STATUS.MOD0 [1:0] RO. 0b00 DOWN, 0b01 TRAINING, 0b10 UP, 0b11 REPAIRING -/
def HUB_D2D_STATUS_MOD0 : Fld :=
  { off := 0x0, lo := 0, w := 2, acc := .ro, rst := 0 }

/-- R727: HUB_D2D_STATUS.MOD1 [3:2] RO. As MOD0 -/
def HUB_D2D_STATUS_MOD1 : Fld :=
  { off := 0x0, lo := 2, w := 2, acc := .ro, rst := 0 }

/-- R727: HUB_D2D_STATUS.MOD0_TX_SPARES [6:4] RO. Redundant lanes left, die to Confluence -/
def HUB_D2D_STATUS_MOD0_TX_SPARES : Fld :=
  { off := 0x0, lo := 4, w := 3, acc := .ro, rst := 4 }

/-- R727: HUB_D2D_STATUS.MOD0_RX_SPARES [9:7] RO. Redundant lanes left, Confluence to die -/
def HUB_D2D_STATUS_MOD0_RX_SPARES : Fld :=
  { off := 0x0, lo := 7, w := 3, acc := .ro, rst := 4 }

/-- R727: HUB_D2D_STATUS.MOD1_TX_SPARES [12:10] RO. As MOD0_TX_SPARES -/
def HUB_D2D_STATUS_MOD1_TX_SPARES : Fld :=
  { off := 0x0, lo := 10, w := 3, acc := .ro, rst := 4 }

/-- R727: HUB_D2D_STATUS.MOD1_RX_SPARES [15:13] RO. As MOD0_RX_SPARES -/
def HUB_D2D_STATUS_MOD1_RX_SPARES : Fld :=
  { off := 0x0, lo := 13, w := 3, acc := .ro, rst := 4 }

/-- R727: HUB_D2D_STATUS.EXHAUSTED [16] RO. As in R697 -/
def HUB_D2D_STATUS_EXHAUSTED : Fld :=
  { off := 0x0, lo := 16, w := 1, acc := .ro, rst := 0 }

/-- R727: HUB_D2D_CRC_CNT0.COUNT [31:0] RO. CRC retries, module 0 -/
def HUB_D2D_CRC_CNT0_COUNT : Fld :=
  { off := 0x4, lo := 0, w := 32, acc := .ro, rst := 0 }

/-- R727: HUB_D2D_CRC_CNT1.COUNT [31:0] RO. CRC retries, module 1 -/
def HUB_D2D_CRC_CNT1_COUNT : Fld :=
  { off := 0x8, lo := 0, w := 32, acc := .ro, rst := 0 }

/-- R727: HUB_D2D_REPAIR_CNT.COUNT [31:0] RO. Runtime lane repairs -/
def HUB_D2D_REPAIR_CNT_COUNT : Fld :=
  { off := 0xC, lo := 0, w := 32, acc := .ro, rst := 0 }

/-- R727: HUB_D2D_DOWN_CNT.COUNT [31:0] RO. Entries to DOWN -/
def HUB_D2D_DOWN_CNT_COUNT : Fld :=
  { off := 0x10, lo := 0, w := 32, acc := .ro, rst := 0 }

/-- R727: HUB_FAB_P0_MAX.NS [15:0] RO. Longest P0 blocking, ns, saturating -/
def HUB_FAB_P0_MAX_NS : Fld :=
  { off := 0x14, lo := 0, w := 16, acc := .ro, rst := 0 }

/-- R727: HUB_FAB_P0_MAX.CHAN [18:16] RO. DDR5 channel where it occurred -/
def HUB_FAB_P0_MAX_CHAN : Fld :=
  { off := 0x14, lo := 16, w := 3, acc := .ro, rst := 0 }

/-- R727: HUB_FAB_P0_OVER_CNT.COUNT [31:0] RO. P0 reads blocked over 2.6 µs -/
def HUB_FAB_P0_OVER_CNT_COUNT : Fld :=
  { off := 0x18, lo := 0, w := 32, acc := .ro, rst := 0 }

/-- R727: HUB_D2D_CTRL.CNT_CLR [0] WO. 1: clear the counters of this table and HUB_FAB_P0_MAX -/
def HUB_D2D_CTRL_CNT_CLR : Fld :=
  { off := 0x1C, lo := 0, w := 1, acc := .wo, rst := 0 }

/-- R727: HUB_D2D_CTRL.RETRAIN0 [1] WO. 1: retrain module 0 with repair (R694) -/
def HUB_D2D_CTRL_RETRAIN0 : Fld :=
  { off := 0x1C, lo := 1, w := 1, acc := .wo, rst := 0 }

/-- R727: HUB_D2D_CTRL.RETRAIN1 [2] WO. 1: retrain module 1 with repair -/
def HUB_D2D_CTRL_RETRAIN1 : Fld :=
  { off := 0x1C, lo := 2, w := 1, acc := .wo, rst := 0 }

/-- R727: HUB_CDC_OVR_LO.OVR [31:0] W1C. Overrun flags, crossings 0–31 -/
def HUB_CDC_OVR_LO_OVR : Fld :=
  { off := 0x20, lo := 0, w := 32, acc := .w1c, rst := 0 }

/-- R727: HUB_CDC_OVR_HI.OVR [31:0] W1C. Overrun flags, crossings 32–63 -/
def HUB_CDC_OVR_HI_OVR : Fld :=
  { off := 0x24, lo := 0, w := 32, acc := .w1c, rst := 0 }

/-- Every field of the die-link registers (R727). -/
def d2dBlk : List Fld :=
  [HUB_D2D_STATUS_MOD0,
   HUB_D2D_STATUS_MOD1,
   HUB_D2D_STATUS_MOD0_TX_SPARES,
   HUB_D2D_STATUS_MOD0_RX_SPARES,
   HUB_D2D_STATUS_MOD1_TX_SPARES,
   HUB_D2D_STATUS_MOD1_RX_SPARES,
   HUB_D2D_STATUS_EXHAUSTED,
   HUB_D2D_CRC_CNT0_COUNT,
   HUB_D2D_CRC_CNT1_COUNT,
   HUB_D2D_REPAIR_CNT_COUNT,
   HUB_D2D_DOWN_CNT_COUNT,
   HUB_FAB_P0_MAX_NS,
   HUB_FAB_P0_MAX_CHAN,
   HUB_FAB_P0_OVER_CNT_COUNT,
   HUB_D2D_CTRL_CNT_CLR,
   HUB_D2D_CTRL_RETRAIN0,
   HUB_D2D_CTRL_RETRAIN1,
   HUB_CDC_OVR_LO_OVR,
   HUB_CDC_OVR_HI_OVR]

/-- R632: DDR_CTRL.CNT_CLR [0] WO. 1: clear the counters of this block -/
def DDR_CTRL_CNT_CLR : Fld :=
  { off := 0x0, lo := 0, w := 1, acc := .wo, rst := 0 }

/-- R632: DDR_CTRL.MIGRATE [1] WO. 1: migrate rank MIG_RANK (R627) -/
def DDR_CTRL_MIGRATE : Fld :=
  { off := 0x0, lo := 1, w := 1, acc := .wo, rst := 0 }

/-- R632: DDR_CTRL.MIG_RANK [3:2] WO. Physical rank to migrate -/
def DDR_CTRL_MIG_RANK : Fld :=
  { off := 0x0, lo := 2, w := 2, acc := .wo, rst := 0 }

/-- R632: DDR_STATUS.STATE [2:0] RO. 0b000 UNTRAINED, 0b001 TRAINING, 0b010 UP, 0b011 SELF_REFRESH, 0b100 RETRAINING, 0b101 FAILED; others … -/
def DDR_STATUS_STATE : Fld :=
  { off := 0x4, lo := 0, w := 3, acc := .ro, rst := 0 }

/-- R632: DDR_STATUS.IN_SERVICE [6:3] RO. Bit r: physical rank r in service -/
def DDR_STATUS_IN_SERVICE : Fld :=
  { off := 0x4, lo := 3, w := 4, acc := .ro, rst := 0 }

/-- R632: DDR_STATUS.SPARE [8:7] RO. Physical rank designated spare -/
def DDR_STATUS_SPARE : Fld :=
  { off := 0x4, lo := 7, w := 2, acc := .ro, rst := 0 }

/-- R632: DDR_STATUS.SPARE_AVAIL [9] RO. 1: a spare is designated and unused -/
def DDR_STATUS_SPARE_AVAIL : Fld :=
  { off := 0x4, lo := 9, w := 1, acc := .ro, rst := 0 }

/-- R632: DDR_STATUS.SPARE_USED [10] RO. 1: the spare has been used -/
def DDR_STATUS_SPARE_USED : Fld :=
  { off := 0x4, lo := 10, w := 1, acc := .ro, rst := 0 }

/-- R632: DDR_STATUS.MIGRATING [11] RO. 1 while a migration runs -/
def DDR_STATUS_MIGRATING : Fld :=
  { off := 0x4, lo := 11, w := 1, acc := .ro, rst := 0 }

/-- R632: DDR_STATUS.BAND [14:12] RO. Temperature band in use (R609); 0b101–0b111 never reported -/
def DDR_STATUS_BAND : Fld :=
  { off := 0x4, lo := 12, w := 3, acc := .ro, rst := 4 }

/-- R632: DDR_STATUS.THERM_FAIL [15] RO. 1: the last sensor read failed -/
def DDR_STATUS_THERM_FAIL : Fld :=
  { off := 0x4, lo := 15, w := 1, acc := .ro, rst := 0 }

/-- R632: DDR_STATUS.WRITE_REJECTED [16] W1C. Set as in R627 -/
def DDR_STATUS_WRITE_REJECTED : Fld :=
  { off := 0x4, lo := 16, w := 1, acc := .w1c, rst := 0 }

/-- R632: DDR_STATUS.CONTENT_LOST [17] RO. As in R617 -/
def DDR_STATUS_CONTENT_LOST : Fld :=
  { off := 0x4, lo := 17, w := 1, acc := .ro, rst := 0 }

/-- R632: DDR_GEOM.RANKS [2:0] RO. Ranks on the module: 1, 2 or 4 -/
def DDR_GEOM_RANKS : Fld :=
  { off := 0x8, lo := 0, w := 3, acc := .ro, rst := 0 }

/-- R632: DDR_GEOM.MRDIMM [3] RO. 1: multiplexed-rank module -/
def DDR_GEOM_MRDIMM : Fld :=
  { off := 0x8, lo := 3, w := 1, acc := .ro, rst := 0 }

/-- R632: DDR_GEOM.RANK_GIB [18:8] RO. Rank capacity, GiB, up to 1024 -/
def DDR_GEOM_RANK_GIB : Fld :=
  { off := 0x8, lo := 8, w := 11, acc := .ro, rst := 0 }

/-- R632: DDR_GEOM.ROW_BITS [24:19] RO. Row address bits -/
def DDR_GEOM_ROW_BITS : Fld :=
  { off := 0x8, lo := 19, w := 6, acc := .ro, rst := 0 }

/-- R632: DDR_GEOM.PAGE_BITS [29:25] RO. Page offset bits (R600) -/
def DDR_GEOM_PAGE_BITS : Fld :=
  { off := 0x8, lo := 25, w := 5, acc := .ro, rst := 0 }

/-- R632: DDR_RATE.MTS [13:0] RO. Data rate, MT/s -/
def DDR_RATE_MTS : Fld :=
  { off := 0xC, lo := 0, w := 14, acc := .ro, rst := 0 }

/-- R632: DDR_WQ.USED [6:0] RO. Write queue entries -/
def DDR_WQ_USED : Fld :=
  { off := 0x10, lo := 0, w := 7, acc := .ro, rst := 0 }

/-- R632: DDR_WQ.BATCH [7] RO. 1 during a write batch -/
def DDR_WQ_BATCH : Fld :=
  { off := 0x10, lo := 7, w := 1, acc := .ro, rst := 0 }

/-- R632: DDR_WQ.PEAK [14:8] RO. Largest USED since CNT_CLR -/
def DDR_WQ_PEAK : Fld :=
  { off := 0x10, lo := 8, w := 7, acc := .ro, rst := 0 }

/-- R632: DDR_MIG.PROGRESS [7:0] RO. Copy point, 1/256 of the rank -/
def DDR_MIG_PROGRESS : Fld :=
  { off := 0x14, lo := 0, w := 8, acc := .ro, rst := 0 }

/-- R632: DDR_MIG.FROM [9:8] RO. Failing physical rank -/
def DDR_MIG_FROM : Fld :=
  { off := 0x14, lo := 8, w := 2, acc := .ro, rst := 0 }

/-- R632: DDR_MIG.TO [11:10] RO. Spare physical rank -/
def DDR_MIG_TO : Fld :=
  { off := 0x14, lo := 10, w := 2, acc := .ro, rst := 0 }

/-- R632: DDR_ERR_ADDR_LO.ADDR [31:0] RO. Device address of the last error, [31:0]; latches DDR_ERR_ADDR_HI as in R16 -/
def DDR_ERR_ADDR_LO_ADDR : Fld :=
  { off := 0x18, lo := 0, w := 32, acc := .ro, rst := 0 }

/-- R632: DDR_ERR_ADDR_HI.ADDR [12:0] RO. [44:32] -/
def DDR_ERR_ADDR_HI_ADDR : Fld :=
  { off := 0x1C, lo := 0, w := 13, acc := .ro, rst := 0 }

/-- R632: DDR_ERR_INFO.TYPE [1:0] RO. 0b00 none, 0b01 correctable, 0b10 uncorrectable, 0b11 poison written -/
def DDR_ERR_INFO_TYPE : Fld :=
  { off := 0x20, lo := 0, w := 2, acc := .ro, rst := 0 }

/-- R632: DDR_ERR_INFO.RANK [3:2] RO. Physical rank -/
def DDR_ERR_INFO_RANK : Fld :=
  { off := 0x20, lo := 2, w := 2, acc := .ro, rst := 0 }

/-- R632: DDR_ERR_INFO.SUBCH [4] RO. 0 A, 1 B -/
def DDR_ERR_INFO_SUBCH : Fld :=
  { off := 0x20, lo := 4, w := 1, acc := .ro, rst := 0 }

/-- R632: DDR_ERR_INFO.DEVICE [8:5] RO. Device 0–9 of the correctable error; 0xF otherwise -/
def DDR_ERR_INFO_DEVICE : Fld :=
  { off := 0x20, lo := 5, w := 4, acc := .ro, rst := 0 }

/-- R632: DDR_CE_CNT.COUNT [31:0] RO. Correctable errors -/
def DDR_CE_CNT_COUNT : Fld :=
  { off := 0x24, lo := 0, w := 32, acc := .ro, rst := 0 }

/-- R632: DDR_UE_CNT.COUNT [31:0] RO. Uncorrectable errors -/
def DDR_UE_CNT_COUNT : Fld :=
  { off := 0x28, lo := 0, w := 32, acc := .ro, rst := 0 }

/-- R632: DDR_POISON_RD_CNT.COUNT [31:0] RO. Poisoned bursts read -/
def DDR_POISON_RD_CNT_COUNT : Fld :=
  { off := 0x2C, lo := 0, w := 32, acc := .ro, rst := 0 }

/-- R632: DDR_POISON_WR_CNT.COUNT [31:0] RO. Partial writes to bad or poisoned bursts -/
def DDR_POISON_WR_CNT_COUNT : Fld :=
  { off := 0x30, lo := 0, w := 32, acc := .ro, rst := 0 }

/-- R632: DDR_ALERT_CNT.COUNT [31:0] RO. Parity alerts replayed -/
def DDR_ALERT_CNT_COUNT : Fld :=
  { off := 0x34, lo := 0, w := 32, acc := .ro, rst := 0 }

/-- R632: DDR_HARD_RETRAIN_CNT.COUNT [31:0] RO. Full retrains (R625) -/
def DDR_HARD_RETRAIN_CNT_COUNT : Fld :=
  { off := 0x38, lo := 0, w := 32, acc := .ro, rst := 0 }

/-- R632: DDR_DRFM_CNT.COUNT [31:0] RO. Neighbour refreshes -/
def DDR_DRFM_CNT_COUNT : Fld :=
  { off := 0x3C, lo := 0, w := 32, acc := .ro, rst := 0 }

/-- R632: DDR_PAUSE_CNT.COUNT [31:0] RO. Retraining pauses -/
def DDR_PAUSE_CNT_COUNT : Fld :=
  { off := 0x40, lo := 0, w := 32, acc := .ro, rst := 0 }

/-- R632: DDR_PAUSE_FORCED_CNT.COUNT [31:0] RO. Forced pauses (R613) -/
def DDR_PAUSE_FORCED_CNT_COUNT : Fld :=
  { off := 0x44, lo := 0, w := 32, acc := .ro, rst := 0 }

/-- R632: DDR_SR_CNT.COUNT [31:0] RO. Self-refresh entries -/
def DDR_SR_CNT_COUNT : Fld :=
  { off := 0x48, lo := 0, w := 32, acc := .ro, rst := 0 }

/-- R632: DDR_RAW_WAIT_CNT.COUNT [31:0] RO. Reads that waited on a write -/
def DDR_RAW_WAIT_CNT_COUNT : Fld :=
  { off := 0x4C, lo := 0, w := 32, acc := .ro, rst := 0 }

/-- R632: DDR_SCRUB_PASS_CNT.COUNT [31:0] RO. Completed scrub passes -/
def DDR_SCRUB_PASS_CNT_COUNT : Fld :=
  { off := 0x50, lo := 0, w := 32, acc := .ro, rst := 0 }

/-- R632: DDR_RANK.BUCKET [15:0] RO. Error bucket of physical rank r, r = 0–3 (R626) -/
def DDR_RANK_BUCKET : Fld :=
  { off := 0x60, lo := 0, w := 16, acc := .ro, rst := 0, stride := 4, bstep := 0, n := 4 }

/-- R632: DDR_RANK.ROWS [23:16] RO. Rows recorded for repair, saturating -/
def DDR_RANK_ROWS : Fld :=
  { off := 0x60, lo := 16, w := 8, acc := .ro, rst := 0, stride := 4, bstep := 0, n := 4 }

/-- R632: DDR_RANK.OUT [24] RO. 1: taken out of service -/
def DDR_RANK_OUT : Fld :=
  { off := 0x60, lo := 24, w := 1, acc := .ro, rst := 0, stride := 4, bstep := 0, n := 4 }

/-- R632: DDR_RANK.OVER [25] RO. 1: crossed its threshold with no migration -/
def DDR_RANK_OVER : Fld :=
  { off := 0x60, lo := 25, w := 1, acc := .ro, rst := 0, stride := 4, bstep := 0, n := 4 }

/-- Part 0 of `ddrBlk`. -/
def ddrBlk0 : List Fld :=
  [DDR_CTRL_CNT_CLR,
   DDR_CTRL_MIGRATE,
   DDR_CTRL_MIG_RANK,
   DDR_STATUS_STATE,
   DDR_STATUS_IN_SERVICE,
   DDR_STATUS_SPARE,
   DDR_STATUS_SPARE_AVAIL,
   DDR_STATUS_SPARE_USED,
   DDR_STATUS_MIGRATING,
   DDR_STATUS_BAND,
   DDR_STATUS_THERM_FAIL,
   DDR_STATUS_WRITE_REJECTED,
   DDR_STATUS_CONTENT_LOST,
   DDR_GEOM_RANKS,
   DDR_GEOM_MRDIMM,
   DDR_GEOM_RANK_GIB,
   DDR_GEOM_ROW_BITS,
   DDR_GEOM_PAGE_BITS,
   DDR_RATE_MTS,
   DDR_WQ_USED,
   DDR_WQ_BATCH,
   DDR_WQ_PEAK,
   DDR_MIG_PROGRESS,
   DDR_MIG_FROM,
   DDR_MIG_TO,
   DDR_ERR_ADDR_LO_ADDR,
   DDR_ERR_ADDR_HI_ADDR,
   DDR_ERR_INFO_TYPE,
   DDR_ERR_INFO_RANK,
   DDR_ERR_INFO_SUBCH,
   DDR_ERR_INFO_DEVICE,
   DDR_CE_CNT_COUNT,
   DDR_UE_CNT_COUNT,
   DDR_POISON_RD_CNT_COUNT,
   DDR_POISON_WR_CNT_COUNT,
   DDR_ALERT_CNT_COUNT,
   DDR_HARD_RETRAIN_CNT_COUNT,
   DDR_DRFM_CNT_COUNT,
   DDR_PAUSE_CNT_COUNT,
   DDR_PAUSE_FORCED_CNT_COUNT]

/-- Part 1 of `ddrBlk`. -/
def ddrBlk1 : List Fld :=
  [DDR_SR_CNT_COUNT,
   DDR_RAW_WAIT_CNT_COUNT,
   DDR_SCRUB_PASS_CNT_COUNT,
   DDR_RANK_BUCKET,
   DDR_RANK_ROWS,
   DDR_RANK_OUT,
   DDR_RANK_OVER]

/-- Every field of the DDR5 channel registers (R632). -/
def ddrBlk : List Fld :=
  ddrBlk0 ++ ddrBlk1

/-- R633: DDR_DIE_CTRL.CNT_CLR [0] WO. 1: clear DDR_DIE_OOR_CNT -/
def DDR_DIE_CTRL_CNT_CLR : Fld :=
  { off := 0x0, lo := 0, w := 1, acc := .wo, rst := 0 }

/-- R633: DDR_DIE_STATUS.MEM_OK [0] RO. 1: the die's memory is in service -/
def DDR_DIE_STATUS_MEM_OK : Fld :=
  { off := 0x4, lo := 0, w := 1, acc := .ro, rst := 0 }

/-- R633: DDR_DIE_STATUS.ORG_MISMATCH [1] RO. As in R597 -/
def DDR_DIE_STATUS_ORG_MISMATCH : Fld :=
  { off := 0x4, lo := 1, w := 1, acc := .ro, rst := 0 }

/-- R633: DDR_DIE_STATUS.MAP_DEFAULT [2] RO. As in R601 -/
def DDR_DIE_STATUS_MAP_DEFAULT : Fld :=
  { off := 0x4, lo := 2, w := 1, acc := .ro, rst := 0 }

/-- R633: DDR_DIE_STATUS.INIT_DONE [3] RO. As in R618 -/
def DDR_DIE_STATUS_INIT_DONE : Fld :=
  { off := 0x4, lo := 3, w := 1, acc := .ro, rst := 0 }

/-- R633: DDR_DIE_STATUS.WRITE_REJECTED [4] W1C. As in R604 -/
def DDR_DIE_STATUS_WRITE_REJECTED : Fld :=
  { off := 0x4, lo := 4, w := 1, acc := .w1c, rst := 0 }

/-- R633: DDR_DIE_STATUS.INIT_PROGRESS [15:8] RO. Blocks initialised, 1/256 of the die -/
def DDR_DIE_STATUS_INIT_PROGRESS : Fld :=
  { off := 0x4, lo := 8, w := 8, acc := .ro, rst := 0 }

/-- R633: DDR_DIE_CAP.GIB [13:0] RO. Installed capacity, GiB (R598) -/
def DDR_DIE_CAP_GIB : Fld :=
  { off := 0x8, lo := 0, w := 14, acc := .ro, rst := 0 }

/-- R633: DDR_DIE_OOR_CNT.COUNT [31:0] RO. Requests outside installed DRAM -/
def DDR_DIE_OOR_CNT_COUNT : Fld :=
  { off := 0xC, lo := 0, w := 32, acc := .ro, rst := 0 }

/-- R633: DDR_DIE_CMASK_LO.MASK [31:0] RO. M_i, O[31:0], i = 0–3 -/
def DDR_DIE_CMASK_LO_MASK : Fld :=
  { off := 0x10, lo := 0, w := 32, acc := .ro, rst := 1077952576, stride := 8, bstep := 0, n := 4, rsts := [1077952576, 286331136, 572662272, 1145324544] }

/-- R633: DDR_DIE_CMASK_HI.MASK [10:0] RO. M_i, O[42:32] -/
def DDR_DIE_CMASK_HI_MASK : Fld :=
  { off := 0x14, lo := 0, w := 11, acc := .ro, rst := 64, stride := 8, bstep := 0, n := 4, rsts := [64, 273, 546, 1092] }

/-- R633: DDR_DIE_CFOLD.P0 [4:0] RO. Fold bit p_0 -/
def DDR_DIE_CFOLD_P0 : Fld :=
  { off := 0x30, lo := 0, w := 5, acc := .ro, rst := 6 }

/-- R633: DDR_DIE_CFOLD.P1 [12:8] RO. p_1 -/
def DDR_DIE_CFOLD_P1 : Fld :=
  { off := 0x30, lo := 8, w := 5, acc := .ro, rst := 8 }

/-- R633: DDR_DIE_CFOLD.P2 [20:16] RO. p_2 -/
def DDR_DIE_CFOLD_P2 : Fld :=
  { off := 0x30, lo := 16, w := 5, acc := .ro, rst := 9 }

/-- R633: DDR_DIE_CFOLD.P3 [28:24] RO. p_3 -/
def DDR_DIE_CFOLD_P3 : Fld :=
  { off := 0x30, lo := 24, w := 5, acc := .ro, rst := 10 }

/-- R633: DDR_DIE_BMASK_LO.MASK [31:0] RO. N_j, S[31:0], j = 0–4 -/
def DDR_DIE_BMASK_LO_MASK : Fld :=
  { off := 0x40, lo := 0, w := 32, acc := .ro, rst := 277094400, stride := 8, bstep := 0, n := 5, rsts := [277094400, 554188800, 1108377600, 2216755200, 138543104] }

/-- R633: DDR_DIE_BMASK_HI.MASK [6:0] RO. N_j, S[38:32] -/
def DDR_DIE_BMASK_HI_MASK : Fld :=
  { off := 0x44, lo := 0, w := 7, acc := .ro, rst := 2, stride := 8, bstep := 0, n := 5, rsts := [2, 4, 8, 16, 33] }

/-- R633: DDR_DIE_BFOLD.Q [29:0] RO. Fold bit q_j at [6j + 5 : 6j] -/
def DDR_DIE_BFOLD_Q : Fld :=
  { off := 0x68, lo := 0, w := 30, acc := .ro, rst := 289469325 }

/-- R633: DDR_DIE_CFG.MAX_RATE [13:0] RW. Highest rate, MT/s (8800); takes effect at the next training -/
def DDR_DIE_CFG_MAX_RATE : Fld :=
  { off := 0x70, lo := 0, w := 14, acc := .rw, rst := 8800 }

/-- R633: DDR_DIE_WQ.HIGH [5:0] RW. Batch start (48) -/
def DDR_DIE_WQ_HIGH : Fld :=
  { off := 0x74, lo := 0, w := 6, acc := .rw, rst := 48 }

/-- R633: DDR_DIE_WQ.LOW [13:8] RW. Batch end (16) -/
def DDR_DIE_WQ_LOW : Fld :=
  { off := 0x74, lo := 8, w := 6, acc := .rw, rst := 16 }

/-- R633: DDR_DIE_PAGE.IDLE [11:0] RW. Open-page idle time, ns (200) -/
def DDR_DIE_PAGE_IDLE : Fld :=
  { off := 0x78, lo := 0, w := 12, acc := .rw, rst := 200 }

/-- R633: DDR_DIE_PAGE.OVR [31:16] RW. For level Pn, bits [17 + 2n : 16 + 2n]: 0b00 requester hint, 0b01 CLOSE, 0b10 KEEP, 0b11 acts as 0b00 -/
def DDR_DIE_PAGE_OVR : Fld :=
  { off := 0x78, lo := 16, w := 16, acc := .rw, rst := 0 }

/-- R633: DDR_DIE_REF.TREFI [12:0] RW. Refresh interval, ns (3900); values above 3900 act as 3900, below 1000 as 1000 -/
def DDR_DIE_REF_TREFI : Fld :=
  { off := 0x7C, lo := 0, w := 13, acc := .rw, rst := 3900 }

/-- R633: DDR_DIE_RH.K [4:0] RW. Neighbour refresh exponent; outside 8–16 acts as the nearer bound -/
def DDR_DIE_RH_K : Fld :=
  { off := 0x80, lo := 0, w := 5, acc := .rw, rst := 12 }

/-- R633: DDR_DIE_SR.IDLE [15:0] RW. Self-refresh idle time, µs (1000); 0 disables -/
def DDR_DIE_SR_IDLE : Fld :=
  { off := 0x84, lo := 0, w := 16, acc := .rw, rst := 1000 }

/-- R633: DDR_DIE_TRAIN.PERIOD [9:0] RW. Retraining period per rank, ms (256); below 0x040 acts as 0x040 -/
def DDR_DIE_TRAIN_PERIOD : Fld :=
  { off := 0x88, lo := 0, w := 10, acc := .rw, rst := 256 }

/-- R633: DDR_DIE_TRAIN.AHEAD [23:16] RW. Staged data required, µs (R612) -/
def DDR_DIE_TRAIN_AHEAD : Fld :=
  { off := 0x88, lo := 16, w := 8, acc := .rw, rst := 8 }

/-- R633: DDR_DIE_TRAIN.OVERDUE [31:24] RW. Wait before forcing, ms (32); 0x00 acts as 0x01 -/
def DDR_DIE_TRAIN_OVERDUE : Fld :=
  { off := 0x88, lo := 24, w := 8, acc := .rw, rst := 32 }

/-- R633: DDR_DIE_RAS0.CE_THR [15:0] RW. Bucket threshold (1024); 0 acts as 1 -/
def DDR_DIE_RAS0_CE_THR : Fld :=
  { off := 0x8C, lo := 0, w := 16, acc := .rw, rst := 1024 }

/-- R633: DDR_DIE_RAS0.LEAK [31:16] RW. Leak period, s (60); 0 acts as 1 -/
def DDR_DIE_RAS0_LEAK : Fld :=
  { off := 0x8C, lo := 16, w := 16, acc := .rw, rst := 60 }

/-- R633: DDR_DIE_RAS1.ROW_THR [7:0] RW. Errors in one row before recording (16); 0x00 acts as 0x01 -/
def DDR_DIE_RAS1_ROW_THR : Fld :=
  { off := 0x90, lo := 0, w := 8, acc := .rw, rst := 16 }

/-- R633: DDR_DIE_RAS1.REPLAY_MAX [11:8] RW. Successive replays before a full retrain; 0x0 acts as 0x1 -/
def DDR_DIE_RAS1_REPLAY_MAX : Fld :=
  { off := 0x90, lo := 8, w := 4, acc := .rw, rst := 3 }

/-- R633: DDR_DIE_RAS1.SCRUB_H [23:16] RW. Scrub pass period, hours (24); 0x00 disables scrubbing -/
def DDR_DIE_RAS1_SCRUB_H : Fld :=
  { off := 0x90, lo := 16, w := 8, acc := .rw, rst := 24 }

/-- R633: DDR_DIE_RATE.MIG_GBPS [7:0] RW. Migration copy rate, GB/s; 0x00 acts as 0x01 -/
def DDR_DIE_RATE_MIG_GBPS : Fld :=
  { off := 0x94, lo := 0, w := 8, acc := .rw, rst := 4 }

/-- R633: DDR_DIE_RATE.INIT_GBPS [15:8] RW. Initialisation rate per die, GB/s (140); 0x00 acts as 0x01 -/
def DDR_DIE_RATE_INIT_GBPS : Fld :=
  { off := 0x94, lo := 8, w := 8, acc := .rw, rst := 140 }

/-- Every field of the DDR_DIE_ registers (R633). -/
def ddrDieBlk : List Fld :=
  [DDR_DIE_CTRL_CNT_CLR,
   DDR_DIE_STATUS_MEM_OK,
   DDR_DIE_STATUS_ORG_MISMATCH,
   DDR_DIE_STATUS_MAP_DEFAULT,
   DDR_DIE_STATUS_INIT_DONE,
   DDR_DIE_STATUS_WRITE_REJECTED,
   DDR_DIE_STATUS_INIT_PROGRESS,
   DDR_DIE_CAP_GIB,
   DDR_DIE_OOR_CNT_COUNT,
   DDR_DIE_CMASK_LO_MASK,
   DDR_DIE_CMASK_HI_MASK,
   DDR_DIE_CFOLD_P0,
   DDR_DIE_CFOLD_P1,
   DDR_DIE_CFOLD_P2,
   DDR_DIE_CFOLD_P3,
   DDR_DIE_BMASK_LO_MASK,
   DDR_DIE_BMASK_HI_MASK,
   DDR_DIE_BFOLD_Q,
   DDR_DIE_CFG_MAX_RATE,
   DDR_DIE_WQ_HIGH,
   DDR_DIE_WQ_LOW,
   DDR_DIE_PAGE_IDLE,
   DDR_DIE_PAGE_OVR,
   DDR_DIE_REF_TREFI,
   DDR_DIE_RH_K,
   DDR_DIE_SR_IDLE,
   DDR_DIE_TRAIN_PERIOD,
   DDR_DIE_TRAIN_AHEAD,
   DDR_DIE_TRAIN_OVERDUE,
   DDR_DIE_RAS0_CE_THR,
   DDR_DIE_RAS0_LEAK,
   DDR_DIE_RAS1_ROW_THR,
   DDR_DIE_RAS1_REPLAY_MAX,
   DDR_DIE_RAS1_SCRUB_H,
   DDR_DIE_RATE_MIG_GBPS,
   DDR_DIE_RATE_INIT_GBPS]

/-- R556: EPHY_CTRL.EN [0] RWF. 1: port enabled (R535) -/
def EPHY_CTRL_EN : Fld :=
  { off := 0x0, lo := 0, w := 1, acc := .rwf, rst := 1 }

/-- R556: EPHY_CTRL.RETRAIN [1] WO. 1: retrain the port -/
def EPHY_CTRL_RETRAIN : Fld :=
  { off := 0x0, lo := 1, w := 1, acc := .wo, rst := 0 }

/-- R556: EPHY_CTRL.TX_SLEEP [2] RW. 1: transmitter in electrical idle (R551) -/
def EPHY_CTRL_TX_SLEEP : Fld :=
  { off := 0x0, lo := 2, w := 1, acc := .rw, rst := 0 }

/-- R556: EPHY_CTRL.DFE_HOLD [3] RW. 1: hold the DFE taps -/
def EPHY_CTRL_DFE_HOLD : Fld :=
  { off := 0x0, lo := 3, w := 1, acc := .rw, rst := 0 }

/-- R556: EPHY_CTRL.LB_MODE [6:4] RW. Loopback (R554); 0b100–0b111 rejected -/
def EPHY_CTRL_LB_MODE : Fld :=
  { off := 0x0, lo := 4, w := 3, acc := .rw, rst := 0 }

/-- R556: EPHY_CTRL.LB_GO [7] WO. 1: start the loopback generator -/
def EPHY_CTRL_LB_GO : Fld :=
  { off := 0x0, lo := 7, w := 1, acc := .wo, rst := 0 }

/-- R556: EPHY_CTRL.CNT_CLR [8] WO. 1: clear the counters of this block -/
def EPHY_CTRL_CNT_CLR : Fld :=
  { off := 0x0, lo := 8, w := 1, acc := .wo, rst := 0 }

/-- R556: EPHY_CFG.MAX_RATE [1:0] RWF. Highest rate tried, as the rate code (12.5 Gbaud) -/
def EPHY_CFG_MAX_RATE : Fld :=
  { off := 0x4, lo := 0, w := 2, acc := .rwf, rst := 2 }

/-- R556: EPHY_CFG.WIDTHS [4:2] RWF. Bit 0 ×1, bit 1 ×2, bit 2 ×4 allowed; 0b000 acts as 0b001 -/
def EPHY_CFG_WIDTHS : Fld :=
  { off := 0x4, lo := 2, w := 3, acc := .rwf, rst := 7 }

/-- R556: EPHY_CFG.FOM_MIN [15:8] RW. FOM threshold (R534, R546) -/
def EPHY_CFG_FOM_MIN : Fld :=
  { off := 0x4, lo := 8, w := 8, acc := .rw, rst := 64 }

/-- R556: EPHY_CFG.LOSS_MS [23:16] RW. Port-loss time, ms (R549); 0x00 acts as 0x01 -/
def EPHY_CFG_LOSS_MS : Fld :=
  { off := 0x4, lo := 16, w := 8, acc := .rw, rst := 10 }

/-- R556: EPHY_CFG.WIDEN_HOLD [31:24] RW. Lane qualification time, ms (100); 0x00 acts as 0x01 -/
def EPHY_CFG_WIDEN_HOLD : Fld :=
  { off := 0x4, lo := 24, w := 8, acc := .rw, rst := 100 }

/-- R556: EPHY_STATUS.STATE [3:0] RO. 0x0 DISABLED, 0x1 DETECT, 0x2 RATE, 0x3 LOCK, 0x4 POLARITY, 0x5 ORDER, 0x6 DESKEW, 0x7 WIDTH, 0x8 IDENT, … -/
def EPHY_STATUS_STATE : Fld :=
  { off := 0x8, lo := 0, w := 4, acc := .ro, rst := 1 }

/-- R556: EPHY_STATUS.RATE [5:4] RO. Rate code in use or on trial -/
def EPHY_STATUS_RATE : Fld :=
  { off := 0x8, lo := 4, w := 2, acc := .ro, rst := 0 }

/-- R556: EPHY_STATUS.WIDTH [8:6] RO. 1, 2 or 4 in IDENT and UP; 0 otherwise -/
def EPHY_STATUS_WIDTH : Fld :=
  { off := 0x8, lo := 6, w := 3, acc := .ro, rst := 0 }

/-- R556: EPHY_STATUS.LANES [12:9] RO. Logical lanes in use -/
def EPHY_STATUS_LANES : Fld :=
  { off := 0x8, lo := 9, w := 4, acc := .ro, rst := 0 }

/-- R556: EPHY_STATUS.GOOD [16:13] RO. Logical lanes good (R542, R546) -/
def EPHY_STATUS_GOOD : Fld :=
  { off := 0x8, lo := 13, w := 4, acc := .ro, rst := 0 }

/-- R556: EPHY_STATUS.REVERSED [17] RO. As in R540 -/
def EPHY_STATUS_REVERSED : Fld :=
  { off := 0x8, lo := 17, w := 1, acc := .ro, rst := 0 }

/-- R556: EPHY_STATUS.TX_IDLE [18] RO. Transmitter in electrical idle -/
def EPHY_STATUS_TX_IDLE : Fld :=
  { off := 0x8, lo := 18, w := 1, acc := .ro, rst := 1 }

/-- R556: EPHY_STATUS.RX_IDLE [19] RO. Receiver asleep or in electrical idle -/
def EPHY_STATUS_RX_IDLE : Fld :=
  { off := 0x8, lo := 19, w := 1, acc := .ro, rst := 1 }

/-- R556: EPHY_STATUS.WIDEN_PENDING [20] RO. As in R547 -/
def EPHY_STATUS_WIDEN_PENDING : Fld :=
  { off := 0x8, lo := 20, w := 1, acc := .ro, rst := 0 }

/-- R556: EPHY_STATUS.WRITE_REJECTED [21] W1C. Set by a rejected write (R551, R555, R557) -/
def EPHY_STATUS_WRITE_REJECTED : Fld :=
  { off := 0x8, lo := 21, w := 1, acc := .w1c, rst := 0 }

/-- R556: EPHY_LB_ERR.COUNT [31:0] RO. Loopback byte errors -/
def EPHY_LB_ERR_COUNT : Fld :=
  { off := 0xC, lo := 0, w := 32, acc := .ro, rst := 0 }

/-- R556: EPHY_TRAIN_CNT.COUNT [31:0] RO. Entries to UP -/
def EPHY_TRAIN_CNT_COUNT : Fld :=
  { off := 0x10, lo := 0, w := 32, acc := .ro, rst := 0 }

/-- R556: EPHY_TRAIN_FAIL_CNT.COUNT [31:0] RO. Training failures to DETECT -/
def EPHY_TRAIN_FAIL_CNT_COUNT : Fld :=
  { off := 0x14, lo := 0, w := 32, acc := .ro, rst := 0 }

/-- R556: EPHY_NARROW_CNT.COUNT [31:0] RO. Narrowings (R544) -/
def EPHY_NARROW_CNT_COUNT : Fld :=
  { off := 0x18, lo := 0, w := 32, acc := .ro, rst := 0 }

/-- R556: EPHY_WIDEN_CNT.COUNT [31:0] RO. Widenings (R547) -/
def EPHY_WIDEN_CNT_COUNT : Fld :=
  { off := 0x1C, lo := 0, w := 32, acc := .ro, rst := 0 }

/-- R556: EPHY_DOWN_CNT.COUNT [31:0] RO. Entries to RETRAIN -/
def EPHY_DOWN_CNT_COUNT : Fld :=
  { off := 0x20, lo := 0, w := 32, acc := .ro, rst := 0 }

/-- R557: EPHY_TXEQ.PRE [4:0] RW. Pre-cursor, 1/64 units -/
def EPHY_TXEQ_PRE : Fld :=
  { off := 0x80, lo := 0, w := 5, acc := .rw, rst := 4, stride := 4, bstep := 0, n := 5, rsts := [4, 3, 3, 4, 4] }

/-- R557: EPHY_TXEQ.POST [12:8] RW. Post-cursor, 1/64 units -/
def EPHY_TXEQ_POST : Fld :=
  { off := 0x80, lo := 8, w := 5, acc := .rw, rst := 10, stride := 4, bstep := 0, n := 5, rsts := [10, 8, 9, 10, 12] }

/-- R557: EPHY_TXEQ.SWING [19:16] RW. Launch amplitude, 400 + 50 × SWING mV differential peak-to-peak -/
def EPHY_TXEQ_SWING : Fld :=
  { off := 0x80, lo := 16, w := 4, acc := .rw, rst := 12, stride := 4, bstep := 0, n := 5 }

/-- Every field of the EPHY_ registers of one port (R556, R557). -/
def ephyBlk : List Fld :=
  [EPHY_CTRL_EN,
   EPHY_CTRL_RETRAIN,
   EPHY_CTRL_TX_SLEEP,
   EPHY_CTRL_DFE_HOLD,
   EPHY_CTRL_LB_MODE,
   EPHY_CTRL_LB_GO,
   EPHY_CTRL_CNT_CLR,
   EPHY_CFG_MAX_RATE,
   EPHY_CFG_WIDTHS,
   EPHY_CFG_FOM_MIN,
   EPHY_CFG_LOSS_MS,
   EPHY_CFG_WIDEN_HOLD,
   EPHY_STATUS_STATE,
   EPHY_STATUS_RATE,
   EPHY_STATUS_WIDTH,
   EPHY_STATUS_LANES,
   EPHY_STATUS_GOOD,
   EPHY_STATUS_REVERSED,
   EPHY_STATUS_TX_IDLE,
   EPHY_STATUS_RX_IDLE,
   EPHY_STATUS_WIDEN_PENDING,
   EPHY_STATUS_WRITE_REJECTED,
   EPHY_LB_ERR_COUNT,
   EPHY_TRAIN_CNT_COUNT,
   EPHY_TRAIN_FAIL_CNT_COUNT,
   EPHY_NARROW_CNT_COUNT,
   EPHY_WIDEN_CNT_COUNT,
   EPHY_DOWN_CNT_COUNT,
   EPHY_TXEQ_PRE,
   EPHY_TXEQ_POST,
   EPHY_TXEQ_SWING]

/-- R557: EPHY_LSTAT.LOCK [0] RO. Character lock -/
def EPHY_LSTAT_LOCK : Fld :=
  { off := 0x0, lo := 0, w := 1, acc := .ro, rst := 0 }

/-- R557: EPHY_LSTAT.INVERTED [1] RO. Receive polarity corrected (R539) -/
def EPHY_LSTAT_INVERTED : Fld :=
  { off := 0x0, lo := 1, w := 1, acc := .ro, rst := 0 }

/-- R557: EPHY_LSTAT.LOGICAL [3:2] RO. Logical lane of this physical lane -/
def EPHY_LSTAT_LOGICAL : Fld :=
  { off := 0x0, lo := 2, w := 2, acc := .ro, rst := 0 }

/-- R557: EPHY_LSTAT.EXCLUDED [4] RO. Excluded (R538, R540, R541) or lost -/
def EPHY_LSTAT_EXCLUDED : Fld :=
  { off := 0x0, lo := 4, w := 1, acc := .ro, rst := 0 }

/-- R557: EPHY_LSTAT.MARGINAL [5] RO. As in R534 -/
def EPHY_LSTAT_MARGINAL : Fld :=
  { off := 0x0, lo := 5, w := 1, acc := .ro, rst := 0 }

/-- R557: EPHY_LSTAT.DESKEWED [6] RO. Deskewed -/
def EPHY_LSTAT_DESKEWED : Fld :=
  { off := 0x0, lo := 6, w := 1, acc := .ro, rst := 0 }

/-- R557: EPHY_LSTAT.FOM [15:8] RO. Figure of merit (R533) -/
def EPHY_LSTAT_FOM : Fld :=
  { off := 0x0, lo := 8, w := 8, acc := .ro, rst := 0 }

/-- R557: EPHY_LSTAT.SKEW [21:16] RO. Skew from the earliest lane, characters -/
def EPHY_LSTAT_SKEW : Fld :=
  { off := 0x0, lo := 16, w := 6, acc := .ro, rst := 0 }

/-- R557: EPHY_LERR.CV [15:0] RO. Invalid codes and reserved characters -/
def EPHY_LERR_CV : Fld :=
  { off := 0x4, lo := 0, w := 16, acc := .ro, rst := 0 }

/-- R557: EPHY_LERR.DISP [31:16] RO. Disparity errors -/
def EPHY_LERR_DISP : Fld :=
  { off := 0x4, lo := 16, w := 16, acc := .ro, rst := 0 }

/-- R557: EPHY_LLOSS.COUNT [31:0] RO. Losses (R543) -/
def EPHY_LLOSS_COUNT : Fld :=
  { off := 0x8, lo := 0, w := 32, acc := .ro, rst := 0 }

/-- R557: EPHY_LFAR.FOM [7:0] RO. FOM the head last reported for the matching head lane -/
def EPHY_LFAR_FOM : Fld :=
  { off := 0xC, lo := 0, w := 8, acc := .ro, rst := 0 }

/-- Every field of the EPHY_ registers of one lane (R557). -/
def ephyLaneBlk : List Fld :=
  [EPHY_LSTAT_LOCK,
   EPHY_LSTAT_INVERTED,
   EPHY_LSTAT_LOGICAL,
   EPHY_LSTAT_EXCLUDED,
   EPHY_LSTAT_MARGINAL,
   EPHY_LSTAT_DESKEWED,
   EPHY_LSTAT_FOM,
   EPHY_LSTAT_SKEW,
   EPHY_LERR_CV,
   EPHY_LERR_DISP,
   EPHY_LLOSS_COUNT,
   EPHY_LFAR_FOM]

/-- R494: LOOP_CL_CTRL.CNT_CLR [0] WO. 1: clear the counters of the cluster's cores and slots -/
def LOOP_CL_CTRL_CNT_CLR : Fld :=
  { off := 0x0, lo := 0, w := 1, acc := .wo, rst := 0 }

/-- R494: LOOP_BIND_IDX.SLOT [4:0] RW. Slot 8 × (c mod 4) + s in the cluster -/
def LOOP_BIND_IDX_SLOT : Fld :=
  { off := 0x4, lo := 0, w := 5, acc := .rw, rst := 0 }

/-- R494: LOOP_BIND_IDX.WORD [13:8] RW. Binding word 0–47; above 47, LOOP_BIND_DATA reads 0 and ignores writes -/
def LOOP_BIND_IDX_WORD : Fld :=
  { off := 0x4, lo := 8, w := 6, acc := .rw, rst := 0 }

/-- R494: LOOP_BIND_DATA.DATA [31:0] RWF. Binding word (R495); each access advances WORD by 1 -/
def LOOP_BIND_DATA_DATA : Fld :=
  { off := 0x8, lo := 0, w := 32, acc := .rwf, rst := 0 }

/-- R494: LOOP_SP_IDX.SLOT [4:0] RW. Slot, as LOOP_BIND_IDX -/
def LOOP_SP_IDX_SLOT : Fld :=
  { off := 0xC, lo := 0, w := 5, acc := .rw, rst := 0 }

/-- R494: LOOP_SP_IDX.N [9:8] RW. Set-point 0–3 -/
def LOOP_SP_IDX_N : Fld :=
  { off := 0xC, lo := 8, w := 2, acc := .rw, rst := 0 }

/-- R494: LOOP_SP_DATA.VALUE [31:0] RWL. Set-point, binary32; takes effect as R478 gives -/
def LOOP_SP_DATA_VALUE : Fld :=
  { off := 0x10, lo := 0, w := 32, acc := .rwl, rst := 0 }

/-- Every field of the loop cluster registers (R494). -/
def clusterBlk : List Fld :=
  [LOOP_CL_CTRL_CNT_CLR,
   LOOP_BIND_IDX_SLOT,
   LOOP_BIND_IDX_WORD,
   LOOP_BIND_DATA_DATA,
   LOOP_SP_IDX_SLOT,
   LOOP_SP_IDX_N,
   LOOP_SP_DATA_VALUE]

/-- R496: LOOP_CORE_CTRL.RESET [0] WO. 1: loop core reset (R493) -/
def LOOP_CORE_CTRL_RESET : Fld :=
  { off := 0x0, lo := 0, w := 1, acc := .wo, rst := 0 }

/-- R496: LOOP_CORE_CTRL.MIGRATE [1] WO. 1: migrate to a free spare (R489); ignored, with no spare free or a migration under way -/
def LOOP_CORE_CTRL_MIGRATE : Fld :=
  { off := 0x0, lo := 1, w := 1, acc := .wo, rst := 0 }

/-- R496: LOOP_CORE_STAT.PHYS [6:0] RO. Physical core serving this logical core, 0x7F none. In cluster 16: logical core served by this spare, 0x7F … -/
def LOOP_CORE_STAT_PHYS : Fld :=
  { off := 0x4, lo := 0, w := 7, acc := .ro, rst := 0 }

/-- R496: LOOP_CORE_STAT.RETIRED [7] RO. 1 while no physical core serves the logical core; in cluster 16, 1 when this spare is retired -/
def LOOP_CORE_STAT_RETIRED : Fld :=
  { off := 0x4, lo := 7, w := 1, acc := .ro, rst := 0 }

/-- R496: LOOP_CORE_STAT.MIGRATING [8] RO. 1 during a migration -/
def LOOP_CORE_STAT_MIGRATING : Fld :=
  { off := 0x4, lo := 8, w := 1, acc := .ro, rst := 0 }

/-- R496: LOOP_CORE_STAT.SLOTS [19:16] RO. Slots not IDLE -/
def LOOP_CORE_STAT_SLOTS : Fld :=
  { off := 0x4, lo := 16, w := 4, acc := .ro, rst := 0 }

/-- R496: LOOP_CORE_MEM.CODE_USED [10:0] RO. Program memory in use, instructions -/
def LOOP_CORE_MEM_CODE_USED : Fld :=
  { off := 0x8, lo := 0, w := 11, acc := .ro, rst := 0 }

/-- R496: LOOP_CORE_MEM.DATA_USED [25:16] RO. Data memory in use, words -/
def LOOP_CORE_MEM_DATA_USED : Fld :=
  { off := 0x8, lo := 16, w := 10, acc := .ro, rst := 0 }

/-- R496: LOOP_CORE_LOAD.ADMITTED [15:0] RO. Core time admitted (R461), M instructions/s, rounded up -/
def LOOP_CORE_LOAD_ADMITTED : Fld :=
  { off := 0xC, lo := 0, w := 16, acc := .ro, rst := 0 }

/-- R496: LOOP_CORE_LOAD.PEAK [31:16] RO. Highest measured rate over any 1 s since CNT_CLR, M instructions/s -/
def LOOP_CORE_LOAD_PEAK : Fld :=
  { off := 0xC, lo := 16, w := 16, acc := .ro, rst := 0 }

/-- R496: LOOP_CORE_CHK_CNT.COUNT [31:0] RO. Core check failures -/
def LOOP_CORE_CHK_CNT_COUNT : Fld :=
  { off := 0x10, lo := 0, w := 32, acc := .ro, rst := 0 }

/-- Every field of the loop core registers (R496). -/
def coreBlk : List Fld :=
  [LOOP_CORE_CTRL_RESET,
   LOOP_CORE_CTRL_MIGRATE,
   LOOP_CORE_STAT_PHYS,
   LOOP_CORE_STAT_RETIRED,
   LOOP_CORE_STAT_MIGRATING,
   LOOP_CORE_STAT_SLOTS,
   LOOP_CORE_MEM_CODE_USED,
   LOOP_CORE_MEM_DATA_USED,
   LOOP_CORE_LOAD_ADMITTED,
   LOOP_CORE_LOAD_PEAK,
   LOOP_CORE_CHK_CNT_COUNT]

/-- R497: LOOP_SLOT_CTRL.START [0] WO. 1: start (R459) -/
def LOOP_SLOT_CTRL_START : Fld :=
  { off := 0x0, lo := 0, w := 1, acc := .wo, rst := 0 }

/-- R497: LOOP_SLOT_CTRL.STOP [1] WO. 1: stop (R477) -/
def LOOP_SLOT_CTRL_STOP : Fld :=
  { off := 0x0, lo := 1, w := 1, acc := .wo, rst := 0 }

/-- R497: LOOP_SLOT_CTRL.RESUME [2] WO. 1: resume (R476) -/
def LOOP_SLOT_CTRL_RESUME : Fld :=
  { off := 0x0, lo := 2, w := 1, acc := .wo, rst := 0 }

/-- R497: LOOP_SLOT_CTRL.RELOAD [3] WO. With RESUME: reload the window -/
def LOOP_SLOT_CTRL_RELOAD : Fld :=
  { off := 0x0, lo := 3, w := 1, acc := .wo, rst := 0 }

/-- R497: LOOP_SLOT_CTRL.SAFE [4] WO. 1: enter HOLDING, cause 0x2 -/
def LOOP_SLOT_CTRL_SAFE : Fld :=
  { off := 0x0, lo := 4, w := 1, acc := .wo, rst := 0 }

/-- R497: LOOP_SLOT_CTRL.FREE [5] WO. 1: free the image (STOPPED to IDLE) -/
def LOOP_SLOT_CTRL_FREE : Fld :=
  { off := 0x0, lo := 5, w := 1, acc := .wo, rst := 0 }

/-- R497: LOOP_SLOT_CFG.CHANNEL [7:0] RWF. Logical channel of this die; 0xFF none -/
def LOOP_SLOT_CFG_CHANNEL : Fld :=
  { off := 0x4, lo := 0, w := 8, acc := .rwf, rst := 255 }

/-- R497: LOOP_SLOT_CFG.ROLE [10:8] RWF. 0b000 GENERAL, 0b001 LAMP, 0b010 COLOUR, 0b011 WHEEL, 0b100 MIRROR; 0b101–0b111 refused at START, code 0x2 -/
def LOOP_SLOT_CFG_ROLE : Fld :=
  { off := 0x4, lo := 8, w := 3, acc := .rwf, rst := 0 }

/-- R497: LOOP_SLOT_CFG.TRC_EN [11] RW. 1: write eddy records (R485) -/
def LOOP_SLOT_CFG_TRC_EN : Fld :=
  { off := 0x4, lo := 11, w := 1, acc := .rw, rst := 0 }

/-- R497: LOOP_SLOT_CFG.OVR_N [15:12] RW. Consecutive skips to fault (R469); 0x0 acts as 0x1 -/
def LOOP_SLOT_CFG_OVR_N : Fld :=
  { off := 0x4, lo := 12, w := 4, acc := .rw, rst := 3 }

/-- R497: LOOP_SLOT_PERIOD.P [31:0] RWF. Sample period, ticks (R460) -/
def LOOP_SLOT_PERIOD_P : Fld :=
  { off := 0x8, lo := 0, w := 32, acc := .rwf, rst := 200000 }

/-- R497: LOOP_SLOT_PHASE.PHI [31:0] RWF. Sample phase, ticks -/
def LOOP_SLOT_PHASE_PHI : Fld :=
  { off := 0xC, lo := 0, w := 32, acc := .rwf, rst := 0 }

/-- R497: LOOP_SLOT_PARENT.PARENT [8:0] RWF. Die slot index of the parent -/
def LOOP_SLOT_PARENT_PARENT : Fld :=
  { off := 0x10, lo := 0, w := 9, acc := .rwf, rst := 0 }

/-- R497: LOOP_SLOT_PARENT.DIV_M1 [23:16] RWF. M − 1 -/
def LOOP_SLOT_PARENT_DIV_M1 : Fld :=
  { off := 0x10, lo := 16, w := 8, acc := .rwf, rst := 15 }

/-- R497: LOOP_SLOT_PARENT.PEN [31] RWF. 1: derive ticks from the parent -/
def LOOP_SLOT_PARENT_PEN : Fld :=
  { off := 0x10, lo := 31, w := 1, acc := .rwf, rst := 0 }

/-- R497: LOOP_SLOT_HOLD.HOLD [15:0] RW. Hold time, ms (50) -/
def LOOP_SLOT_HOLD_HOLD : Fld :=
  { off := 0x14, lo := 0, w := 16, acc := .rw, rst := 50 }

/-- R497: LOOP_SLOT_HOLD.RAMP [31:16] RW. Ramp time, ms (200); 0 steps to the safe values -/
def LOOP_SLOT_HOLD_RAMP : Fld :=
  { off := 0x14, lo := 16, w := 16, acc := .rw, rst := 200 }

/-- R497: LOOP_SLOT_BUDGET.BUDGET [15:0] RWF. Instructions per sample (R461) -/
def LOOP_SLOT_BUDGET_BUDGET : Fld :=
  { off := 0x18, lo := 0, w := 16, acc := .rwf, rst := 64 }

/-- R497: LOOP_SLOT_STATUS.STATE [2:0] RO. 0b000 IDLE, 0b001 STOPPED, 0b010 RUNNING, 0b011 HOLDING, 0b100 RAMPING, 0b101 SAFE; others never reported -/
def LOOP_SLOT_STATUS_STATE : Fld :=
  { off := 0x1C, lo := 0, w := 3, acc := .ro, rst := 0 }

/-- R497: LOOP_SLOT_STATUS.NOLINK [3] RO. As in R470 -/
def LOOP_SLOT_STATUS_NOLINK : Fld :=
  { off := 0x1C, lo := 3, w := 1, acc := .ro, rst := 0 }

/-- R497: LOOP_SLOT_STATUS.OVER_BUDGET [4] RO. As in R462 -/
def LOOP_SLOT_STATUS_OVER_BUDGET : Fld :=
  { off := 0x1C, lo := 4, w := 1, acc := .ro, rst := 0 }

/-- R497: LOOP_SLOT_STATUS.FAULT [15:8] RO. Loop fault code (R334) -/
def LOOP_SLOT_STATUS_FAULT : Fld :=
  { off := 0x1C, lo := 8, w := 8, acc := .ro, rst := 0 }

/-- R497: LOOP_SLOT_STATUS.HOLD_CAUSE [19:16] RO. As in R473 -/
def LOOP_SLOT_STATUS_HOLD_CAUSE : Fld :=
  { off := 0x1C, lo := 16, w := 4, acc := .ro, rst := 0 }

/-- R497: LOOP_SLOT_STATUS.START_REJECT [23:20] RO. As in R459; 0x0 none -/
def LOOP_SLOT_STATUS_START_REJECT : Fld :=
  { off := 0x1C, lo := 20, w := 4, acc := .ro, rst := 0 }

/-- R497: LOOP_SLOT_STATUS.SKIP_RUN [27:24] RO. Consecutive skips -/
def LOOP_SLOT_STATUS_SKIP_RUN : Fld :=
  { off := 0x1C, lo := 24, w := 4, acc := .ro, rst := 0 }

/-- R497: LOOP_SLOT_STATUS.WRITE_REJECTED [28] W1C. As in R456, R476 and R494 -/
def LOOP_SLOT_STATUS_WRITE_REJECTED : Fld :=
  { off := 0x1C, lo := 28, w := 1, acc := .w1c, rst := 0 }

/-- R497: LOOP_SLOT_IMG.CODE_BASE [9:0] RO. First instruction of the slot's code -/
def LOOP_SLOT_IMG_CODE_BASE : Fld :=
  { off := 0x20, lo := 0, w := 10, acc := .ro, rst := 0 }

/-- R497: LOOP_SLOT_IMG.COUNT [20:10] RO. Instructions -/
def LOOP_SLOT_IMG_COUNT : Fld :=
  { off := 0x20, lo := 10, w := 11, acc := .ro, rst := 0 }

/-- R497: LOOP_SLOT_WIN.DBASE [8:0] RO. First word of the window -/
def LOOP_SLOT_WIN_DBASE : Fld :=
  { off := 0x24, lo := 0, w := 9, acc := .ro, rst := 0 }

/-- R497: LOOP_SLOT_WIN.DSIZE [25:16] RO. Window size, words -/
def LOOP_SLOT_WIN_DSIZE : Fld :=
  { off := 0x24, lo := 16, w := 10, acc := .ro, rst := 0 }

/-- R497: LOOP_SLOT_LAT.LAST [15:0] RO. Tick to WAITS, 16 ns units, saturating (R472) -/
def LOOP_SLOT_LAT_LAST : Fld :=
  { off := 0x28, lo := 0, w := 16, acc := .ro, rst := 0 }

/-- R497: LOOP_SLOT_LAT.MAX [31:16] RO. Largest LAST since CNT_CLR -/
def LOOP_SLOT_LAT_MAX : Fld :=
  { off := 0x28, lo := 16, w := 16, acc := .ro, rst := 0 }

/-- R497: LOOP_SLOT_INSN.LAST [15:0] RO. Instructions in the last computed sample, saturating -/
def LOOP_SLOT_INSN_LAST : Fld :=
  { off := 0x2C, lo := 0, w := 16, acc := .ro, rst := 0 }

/-- R497: LOOP_SLOT_INSN.MAX [31:16] RO. Largest LAST since CNT_CLR -/
def LOOP_SLOT_INSN_MAX : Fld :=
  { off := 0x2C, lo := 16, w := 16, acc := .ro, rst := 0 }

/-- R497: LOOP_SLOT_SKIP_CNT.COUNT [31:0] RO. Skipped samples -/
def LOOP_SLOT_SKIP_CNT_COUNT : Fld :=
  { off := 0x30, lo := 0, w := 32, acc := .ro, rst := 0 }

/-- R497: LOOP_SLOT_MISS_CNT.COUNT [31:0] RO. Missing samples -/
def LOOP_SLOT_MISS_CNT_COUNT : Fld :=
  { off := 0x34, lo := 0, w := 32, acc := .ro, rst := 0 }

/-- R497: LOOP_SLOT_SAMPLE_CNT.COUNT [31:0] RO. Computed samples -/
def LOOP_SLOT_SAMPLE_CNT_COUNT : Fld :=
  { off := 0x38, lo := 0, w := 32, acc := .ro, rst := 0 }

/-- Every field of the loop slot registers (R497). -/
def slotBlk : List Fld :=
  [LOOP_SLOT_CTRL_START,
   LOOP_SLOT_CTRL_STOP,
   LOOP_SLOT_CTRL_RESUME,
   LOOP_SLOT_CTRL_RELOAD,
   LOOP_SLOT_CTRL_SAFE,
   LOOP_SLOT_CTRL_FREE,
   LOOP_SLOT_CFG_CHANNEL,
   LOOP_SLOT_CFG_ROLE,
   LOOP_SLOT_CFG_TRC_EN,
   LOOP_SLOT_CFG_OVR_N,
   LOOP_SLOT_PERIOD_P,
   LOOP_SLOT_PHASE_PHI,
   LOOP_SLOT_PARENT_PARENT,
   LOOP_SLOT_PARENT_DIV_M1,
   LOOP_SLOT_PARENT_PEN,
   LOOP_SLOT_HOLD_HOLD,
   LOOP_SLOT_HOLD_RAMP,
   LOOP_SLOT_BUDGET_BUDGET,
   LOOP_SLOT_STATUS_STATE,
   LOOP_SLOT_STATUS_NOLINK,
   LOOP_SLOT_STATUS_OVER_BUDGET,
   LOOP_SLOT_STATUS_FAULT,
   LOOP_SLOT_STATUS_HOLD_CAUSE,
   LOOP_SLOT_STATUS_START_REJECT,
   LOOP_SLOT_STATUS_SKIP_RUN,
   LOOP_SLOT_STATUS_WRITE_REJECTED,
   LOOP_SLOT_IMG_CODE_BASE,
   LOOP_SLOT_IMG_COUNT,
   LOOP_SLOT_WIN_DBASE,
   LOOP_SLOT_WIN_DSIZE,
   LOOP_SLOT_LAT_LAST,
   LOOP_SLOT_LAT_MAX,
   LOOP_SLOT_INSN_LAST,
   LOOP_SLOT_INSN_MAX,
   LOOP_SLOT_SKIP_CNT_COUNT,
   LOOP_SLOT_MISS_CNT_COUNT,
   LOOP_SLOT_SAMPLE_CNT_COUNT]

/-- R498: LOOP_EDDY_CTRL.ARM [0] WO. 1: empty the buffer and enter ARMED -/
def LOOP_EDDY_CTRL_ARM : Fld :=
  { off := 0x0, lo := 0, w := 1, acc := .wo, rst := 0 }

/-- R498: LOOP_EDDY_CTRL.TRIGGER [1] WO. 1: manual trigger -/
def LOOP_EDDY_CTRL_TRIGGER : Fld :=
  { off := 0x0, lo := 1, w := 1, acc := .wo, rst := 0 }

/-- R498: LOOP_EDDY_CTRL.DISARM [2] WO. 1: enter IDLE -/
def LOOP_EDDY_CTRL_DISARM : Fld :=
  { off := 0x0, lo := 2, w := 1, acc := .wo, rst := 0 }

/-- R498: LOOP_EDDY_CTRL.AUTO [3] RW. 1: re-arm after archiving -/
def LOOP_EDDY_CTRL_AUTO : Fld :=
  { off := 0x0, lo := 3, w := 1, acc := .rw, rst := 0 }

/-- R498: LOOP_EDDY_CTRL.ARCH_EN [4] RW. 1: archive frozen buffers (R487) -/
def LOOP_EDDY_CTRL_ARCH_EN : Fld :=
  { off := 0x0, lo := 4, w := 1, acc := .rw, rst := 0 }

/-- R498: LOOP_EDDY_CFG.PRE [15:0] RWF. Records kept before the trigger -/
def LOOP_EDDY_CFG_PRE : Fld :=
  { off := 0x4, lo := 0, w := 16, acc := .rwf, rst := 256 }

/-- R498: LOOP_EDDY_CFG.POST [31:16] RWF. Records after the trigger -/
def LOOP_EDDY_CFG_POST : Fld :=
  { off := 0x4, lo := 16, w := 16, acc := .rwf, rst := 256 }

/-- R498: LOOP_EDDY_TRIG.FAULT [0] RWF. Trigger on a record with FLAGS[1] -/
def LOOP_EDDY_TRIG_FAULT : Fld :=
  { off := 0x8, lo := 0, w := 1, acc := .rwf, rst := 1 }

/-- R498: LOOP_EDDY_TRIG.SKIP [1] RWF. Trigger on a record with FLAGS[0] -/
def LOOP_EDDY_TRIG_SKIP : Fld :=
  { off := 0x8, lo := 1, w := 1, acc := .rwf, rst := 0 }

/-- R498: LOOP_EDDY_TRIG.THRESH [2] RWF. Trigger on the threshold -/
def LOOP_EDDY_TRIG_THRESH : Fld :=
  { off := 0x8, lo := 2, w := 1, acc := .rwf, rst := 0 }

/-- R498: LOOP_EDDY_TRIG.MIGRATE [3] RWF. Trigger on the first record after a migration of a traced slot -/
def LOOP_EDDY_TRIG_MIGRATE : Fld :=
  { off := 0x8, lo := 3, w := 1, acc := .rwf, rst := 1 }

/-- R498: LOOP_EDDY_THR.THR_SLOT [10:0] RWF. Slot number -/
def LOOP_EDDY_THR_THR_SLOT : Fld :=
  { off := 0xC, lo := 0, w := 11, acc := .rwf, rst := 0 }

/-- R498: LOOP_EDDY_THR.NODE [15:12] RWF. Node 0–15 -/
def LOOP_EDDY_THR_NODE : Fld :=
  { off := 0xC, lo := 12, w := 4, acc := .rwf, rst := 0 }

/-- R498: LOOP_EDDY_THR.RISING [16] RWF. 1: fire on a value crossing upward past THR_VAL; 0: downward -/
def LOOP_EDDY_THR_RISING : Fld :=
  { off := 0xC, lo := 16, w := 1, acc := .rwf, rst := 1 }

/-- R498: LOOP_EDDY_THR_VAL.VALUE [31:0] RWF. Threshold, binary32 -/
def LOOP_EDDY_THR_VAL_VALUE : Fld :=
  { off := 0x10, lo := 0, w := 32, acc := .rwf, rst := 0 }

/-- R498: LOOP_EDDY_STATUS.STATE [1:0] RO. 0b00 IDLE, 0b01 ARMED, 0b10 CAPTURING, 0b11 FROZEN -/
def LOOP_EDDY_STATUS_STATE : Fld :=
  { off := 0x14, lo := 0, w := 2, acc := .ro, rst := 0 }

/-- R498: LOOP_EDDY_STATUS.CAUSE [5:2] RO. 0x1 fault, 0x2 skip, 0x3 threshold, 0x4 migration, 0x5 manual; 0x0 none -/
def LOOP_EDDY_STATUS_CAUSE : Fld :=
  { off := 0x14, lo := 2, w := 4, acc := .ro, rst := 0 }

/-- R498: LOOP_EDDY_STATUS.RECORDS [27:16] RO. Records held, saturating -/
def LOOP_EDDY_STATUS_RECORDS : Fld :=
  { off := 0x14, lo := 16, w := 12, acc := .ro, rst := 0 }

/-- R498: LOOP_EDDY_STATUS.WRITE_REJECTED [28] W1C. Set by a rejected RWF write -/
def LOOP_EDDY_STATUS_WRITE_REJECTED : Fld :=
  { off := 0x14, lo := 28, w := 1, acc := .w1c, rst := 0 }

/-- R498: LOOP_EDDY_TRIG_T_LO.HT [31:0] RO. TICK of the trigger record, [31:0]; latches LOOP_EDDY_TRIG_T_HI as in R16 -/
def LOOP_EDDY_TRIG_T_LO_HT : Fld :=
  { off := 0x18, lo := 0, w := 32, acc := .ro, rst := 0 }

/-- R498: LOOP_EDDY_TRIG_T_HI.HT [31:0] RO. [63:32] -/
def LOOP_EDDY_TRIG_T_HI_HT : Fld :=
  { off := 0x1C, lo := 0, w := 32, acc := .ro, rst := 0 }

/-- R498: LOOP_EDDY_ARCH_BASE_LO.BASE [31:16] RW. Archive base [31:16] -/
def LOOP_EDDY_ARCH_BASE_LO_BASE : Fld :=
  { off := 0x20, lo := 16, w := 16, acc := .rw, rst := 0 }

/-- R498: LOOP_EDDY_ARCH_BASE_HI.BASE [12:0] RW. [44:32] -/
def LOOP_EDDY_ARCH_BASE_HI_BASE : Fld :=
  { off := 0x24, lo := 0, w := 13, acc := .rw, rst := 0 }

/-- R498: LOOP_EDDY_ARCH_CFG.ARCH_N [7:0] RW. Archive areas; 0x00 acts as 0x01 -/
def LOOP_EDDY_ARCH_CFG_ARCH_N : Fld :=
  { off := 0x28, lo := 0, w := 8, acc := .rw, rst := 1 }

/-- R498: LOOP_EDDY_ARCH_CNT.COUNT [31:0] RO. Archives written -/
def LOOP_EDDY_ARCH_CNT_COUNT : Fld :=
  { off := 0x2C, lo := 0, w := 32, acc := .ro, rst := 0 }

/-- Every field of the eddy buffer registers (R498). -/
def eddyBlk : List Fld :=
  [LOOP_EDDY_CTRL_ARM,
   LOOP_EDDY_CTRL_TRIGGER,
   LOOP_EDDY_CTRL_DISARM,
   LOOP_EDDY_CTRL_AUTO,
   LOOP_EDDY_CTRL_ARCH_EN,
   LOOP_EDDY_CFG_PRE,
   LOOP_EDDY_CFG_POST,
   LOOP_EDDY_TRIG_FAULT,
   LOOP_EDDY_TRIG_SKIP,
   LOOP_EDDY_TRIG_THRESH,
   LOOP_EDDY_TRIG_MIGRATE,
   LOOP_EDDY_THR_THR_SLOT,
   LOOP_EDDY_THR_NODE,
   LOOP_EDDY_THR_RISING,
   LOOP_EDDY_THR_VAL_VALUE,
   LOOP_EDDY_STATUS_STATE,
   LOOP_EDDY_STATUS_CAUSE,
   LOOP_EDDY_STATUS_RECORDS,
   LOOP_EDDY_STATUS_WRITE_REJECTED,
   LOOP_EDDY_TRIG_T_LO_HT,
   LOOP_EDDY_TRIG_T_HI_HT,
   LOOP_EDDY_ARCH_BASE_LO_BASE,
   LOOP_EDDY_ARCH_BASE_HI_BASE,
   LOOP_EDDY_ARCH_CFG_ARCH_N,
   LOOP_EDDY_ARCH_CNT_COUNT]

/-- R767: HUB_OXB_CTRL.SUBST [0] WO. 1: request a substitution of PORT (R755) -/
def HUB_OXB_CTRL_SUBST : Fld :=
  { off := 0x0, lo := 0, w := 1, acc := .wo, rst := 0 }

/-- R767: HUB_OXB_CTRL.CNT_CLR [1] WO. 1: clear the counters of this block -/
def HUB_OXB_CTRL_CNT_CLR : Fld :=
  { off := 0x0, lo := 1, w := 1, acc := .wo, rst := 0 }

/-- R767: HUB_OXB_CTRL.PORT [13:8] WO. Port k, 0–47 -/
def HUB_OXB_CTRL_PORT : Fld :=
  { off := 0x0, lo := 8, w := 6, acc := .wo, rst := 0 }

/-- R767: HUB_OXB_CFG.SOFT_THR [7:0] RW. Soft failures per 1 s; 0x00 acts as 0x01 -/
def HUB_OXB_CFG_SOFT_THR : Fld :=
  { off := 0x4, lo := 0, w := 8, acc := .rw, rst := 16 }

/-- R767: HUB_OXB_CFG.ATTEMPTS [11:8] RW. Shadow attempts; 0x0 acts as 0x1 -/
def HUB_OXB_CFG_ATTEMPTS : Fld :=
  { off := 0x4, lo := 8, w := 4, acc := .rw, rst := 3 }

/-- R767: HUB_OXB_CFG.WINDOW [23:16] RW. Frames for success (R757); below 0x02 acts as 0x02 -/
def HUB_OXB_CFG_WINDOW : Fld :=
  { off := 0x4, lo := 16, w := 8, acc := .rw, rst := 16 }

/-- R767: HUB_OXB_STATUS.BUSY [0] RO. 1 while a substitution runs -/
def HUB_OXB_STATUS_BUSY : Fld :=
  { off := 0x8, lo := 0, w := 1, acc := .ro, rst := 0 }

/-- R767: HUB_OXB_STATUS.WRITE_REJECTED [1] W1C. As in R755 -/
def HUB_OXB_STATUS_WRITE_REJECTED : Fld :=
  { off := 0x8, lo := 1, w := 1, acc := .w1c, rst := 0 }

/-- R767: HUB_OXB_STATUS.PHASE [3:2] RO. 0b00 idle, 0b01 loading, 0b10 shadow, 0b11 switching -/
def HUB_OXB_STATUS_PHASE : Fld :=
  { off := 0x8, lo := 2, w := 2, acc := .ro, rst := 0 }

/-- R767: HUB_OXB_STATUS.ATTEMPT [7:4] RO. Current attempt -/
def HUB_OXB_STATUS_ATTEMPT : Fld :=
  { off := 0x8, lo := 4, w := 4, acc := .ro, rst := 0 }

/-- R767: HUB_OXB_STATUS.PORT [13:8] RO. Port being substituted -/
def HUB_OXB_STATUS_PORT : Fld :=
  { off := 0x8, lo := 8, w := 6, acc := .ro, rst := 0 }

/-- R767: HUB_OXB_STATUS.SPARE [21:16] RO. Spare pipeline in use -/
def HUB_OXB_STATUS_SPARE : Fld :=
  { off := 0x8, lo := 16, w := 6, acc := .ro, rst := 0 }

/-- R767: HUB_OXB_SUBST_CNT.COUNT [31:0] RO. Completed substitutions -/
def HUB_OXB_SUBST_CNT_COUNT : Fld :=
  { off := 0xC, lo := 0, w := 32, acc := .ro, rst := 0 }

/-- R767: HUB_OXB_FAIL_CNT.COUNT [31:0] RO. Substitutions ended by event 0x100E -/
def HUB_OXB_FAIL_CNT_COUNT : Fld :=
  { off := 0x10, lo := 0, w := 32, acc := .ro, rst := 0 }

/-- R767: HUB_OXB_PIPE.PORT [5:0] RO. Bound port, p = 0–51; 0x3F none -/
def HUB_OXB_PIPE_PORT : Fld :=
  { off := 0x100, lo := 0, w := 6, acc := .ro, rst := 63, stride := 4, bstep := 0, n := 52, rsts := [0, 1, 2, 3, 4, 5, 6, 7, 8, 9, 10, 11, 12, 13, 14, 15, 16, 17, 18, 19, 20, 21, 22, 23, 24, 25, 26, 27, 28, 29, 30, 31, 32, 33, 34, 35, 36, 37, 38, 39, 40, 41, 42, 43, 44, 45, 46, 47, 63, 63, 63, 63] }

/-- R767: HUB_OXB_PIPE.STATE [7:6] RO. 0b00 free, 0b01 bound, 0b10 shadow, 0b11 retired -/
def HUB_OXB_PIPE_STATE : Fld :=
  { off := 0x100, lo := 6, w := 2, acc := .ro, rst := 0, stride := 4, bstep := 0, n := 52, rsts := [1, 1, 1, 1, 1, 1, 1, 1, 1, 1, 1, 1, 1, 1, 1, 1, 1, 1, 1, 1, 1, 1, 1, 1, 1, 1, 1, 1, 1, 1, 1, 1, 1, 1, 1, 1, 1, 1, 1, 1, 1, 1, 1, 1, 1, 1, 1, 1, 0, 0, 0, 0] }

/-- R767: HUB_OXB_PIPE.SOFT [15:8] RO. Soft failures in the last 1 s, saturating -/
def HUB_OXB_PIPE_SOFT : Fld :=
  { off := 0x100, lo := 8, w := 8, acc := .ro, rst := 0, stride := 4, bstep := 0, n := 52 }

/-- R767: HUB_OXB_PIPE.HARD [16] RO. 1 after a hard failure -/
def HUB_OXB_PIPE_HARD : Fld :=
  { off := 0x100, lo := 16, w := 1, acc := .ro, rst := 0, stride := 4, bstep := 0, n := 52 }

/-- Every field of the spares/Oxbow block (R767). -/
def oxbBlk : List Fld :=
  [HUB_OXB_CTRL_SUBST,
   HUB_OXB_CTRL_CNT_CLR,
   HUB_OXB_CTRL_PORT,
   HUB_OXB_CFG_SOFT_THR,
   HUB_OXB_CFG_ATTEMPTS,
   HUB_OXB_CFG_WINDOW,
   HUB_OXB_STATUS_BUSY,
   HUB_OXB_STATUS_WRITE_REJECTED,
   HUB_OXB_STATUS_PHASE,
   HUB_OXB_STATUS_ATTEMPT,
   HUB_OXB_STATUS_PORT,
   HUB_OXB_STATUS_SPARE,
   HUB_OXB_SUBST_CNT_COUNT,
   HUB_OXB_FAIL_CNT_COUNT,
   HUB_OXB_PIPE_PORT,
   HUB_OXB_PIPE_STATE,
   HUB_OXB_PIPE_SOFT,
   HUB_OXB_PIPE_HARD]

end Sys2Proof.Machine.R
end

