-- ==== Sys2Proof/Machine/RegsHost.lean ====
section
/-!
DEFINITION. The register fields of these blocks, one constant per field, as the register tables of spec/ list them:
`ringBlk`: the registers of one ring pair (R685).
`aptBlk`: the aperture base registers (R685).
`tenantBlk`: the tenant control block (R687).
-/

namespace Sys2Proof.Machine.R
open Sys2Proof

/-- R685: SLUICE_SQ_BASE_LO.BASE [31:6] RWF. Submission ring base [31:6] -/
def SLUICE_SQ_BASE_LO_BASE : Fld :=
  { off := 0x0, lo := 6, w := 26, acc := .rwf, rst := 0 }

/-- R685: SLUICE_SQ_BASE_HI.BASE [12:0] RWF. [44:32] -/
def SLUICE_SQ_BASE_HI_BASE : Fld :=
  { off := 0x4, lo := 0, w := 13, acc := .rwf, rst := 0 }

/-- R685: SLUICE_CQ_BASE_LO.BASE [31:5] RWF. Completion ring base [31:5] -/
def SLUICE_CQ_BASE_LO_BASE : Fld :=
  { off := 0x8, lo := 5, w := 27, acc := .rwf, rst := 0 }

/-- R685: SLUICE_CQ_BASE_HI.BASE [12:0] RWF. [44:32] -/
def SLUICE_CQ_BASE_HI_BASE : Fld :=
  { off := 0xC, lo := 0, w := 13, acc := .rwf, rst := 0 }

/-- R685: SLUICE_RING_CFG.EN [0] RW. 1: enable (R644) -/
def SLUICE_RING_CFG_EN : Fld :=
  { off := 0x10, lo := 0, w := 1, acc := .rw, rst := 0 }

/-- R685: SLUICE_RING_CFG.SQ_LOG [4:1] RWF. 2^SQ_LOG entries; outside 4–16 acts as the nearer bound -/
def SLUICE_RING_CFG_SQ_LOG : Fld :=
  { off := 0x10, lo := 1, w := 4, acc := .rwf, rst := 6 }

/-- R685: SLUICE_RING_CFG.CQ_LOG [8:5] RWF. As SQ_LOG, for the completion ring -/
def SLUICE_RING_CFG_CQ_LOG : Fld :=
  { off := 0x10, lo := 5, w := 4, acc := .rwf, rst := 6 }

/-- R685: SLUICE_RING_CFG.VEC [19:9] RWF. MSI-X vector; values above the function's last vector act as the last -/
def SLUICE_RING_CFG_VEC : Fld :=
  { off := 0x10, lo := 9, w := 11, acc := .rwf, rst := 0 }

/-- R685: SLUICE_CQ_IRQ.THR [7:0] RW. Completions per signal (R648); 0x00 acts as 0x01 -/
def SLUICE_CQ_IRQ_THR : Fld :=
  { off := 0x14, lo := 0, w := 8, acc := .rw, rst := 1 }

/-- R685: SLUICE_CQ_IRQ.TIME [23:8] RW. Delay, µs; 0 none -/
def SLUICE_CQ_IRQ_TIME : Fld :=
  { off := 0x14, lo := 8, w := 16, acc := .rw, rst := 0 }

/-- R685: SLUICE_SQ_TAIL.TAIL [15:0] RW. Doorbell; a value at or above the ring size is rejected -/
def SLUICE_SQ_TAIL_TAIL : Fld :=
  { off := 0x18, lo := 0, w := 16, acc := .rw, rst := 0 }

/-- R685: SLUICE_SQ_HEAD.HEAD [15:0] RO. Next entry to take -/
def SLUICE_SQ_HEAD_HEAD : Fld :=
  { off := 0x1C, lo := 0, w := 16, acc := .ro, rst := 0 }

/-- R685: SLUICE_CQ_HEAD.HEAD [15:0] RW. Next completion the host will read -/
def SLUICE_CQ_HEAD_HEAD : Fld :=
  { off := 0x20, lo := 0, w := 16, acc := .rw, rst := 0 }

/-- R685: SLUICE_CQ_TAIL.TAIL [15:0] RO. Next completion to write -/
def SLUICE_CQ_TAIL_TAIL : Fld :=
  { off := 0x24, lo := 0, w := 16, acc := .ro, rst := 0 }

/-- R685: SLUICE_CQ_TAIL.PHASE [16] RO. Phase of the next completion -/
def SLUICE_CQ_TAIL_PHASE : Fld :=
  { off := 0x24, lo := 16, w := 1, acc := .ro, rst := 1 }

/-- R685: SLUICE_RING_STATUS.RUN [0] RO. 1 while enabled -/
def SLUICE_RING_STATUS_RUN : Fld :=
  { off := 0x28, lo := 0, w := 1, acc := .ro, rst := 0 }

/-- R685: SLUICE_RING_STATUS.BASE_ERR [1] RO. As in R644 and R647 -/
def SLUICE_RING_STATUS_BASE_ERR : Fld :=
  { off := 0x28, lo := 1, w := 1, acc := .ro, rst := 0 }

/-- R685: SLUICE_RING_STATUS.CQ_FULL [2] RO. As in R646 -/
def SLUICE_RING_STATUS_CQ_FULL : Fld :=
  { off := 0x28, lo := 2, w := 1, acc := .ro, rst := 0 }

/-- R685: SLUICE_RING_STATUS.FENCE_WAIT [3] RO. As in R656 -/
def SLUICE_RING_STATUS_FENCE_WAIT : Fld :=
  { off := 0x28, lo := 3, w := 1, acc := .ro, rst := 0 }

/-- R685: SLUICE_RING_STATUS.WRITE_REJECTED [4] W1C. Set by a rejected write -/
def SLUICE_RING_STATUS_WRITE_REJECTED : Fld :=
  { off := 0x28, lo := 4, w := 1, acc := .w1c, rst := 0 }

/-- R685: SLUICE_RING_STATUS.OUT [31:16] RO. Commands taken and not completed -/
def SLUICE_RING_STATUS_OUT : Fld :=
  { off := 0x28, lo := 16, w := 16, acc := .ro, rst := 0 }

/-- Every field of the registers of one ring pair (R685). -/
def ringBlk : List Fld :=
  [SLUICE_SQ_BASE_LO_BASE,
   SLUICE_SQ_BASE_HI_BASE,
   SLUICE_CQ_BASE_LO_BASE,
   SLUICE_CQ_BASE_HI_BASE,
   SLUICE_RING_CFG_EN,
   SLUICE_RING_CFG_SQ_LOG,
   SLUICE_RING_CFG_CQ_LOG,
   SLUICE_RING_CFG_VEC,
   SLUICE_CQ_IRQ_THR,
   SLUICE_CQ_IRQ_TIME,
   SLUICE_SQ_TAIL_TAIL,
   SLUICE_SQ_HEAD_HEAD,
   SLUICE_CQ_HEAD_HEAD,
   SLUICE_CQ_TAIL_TAIL,
   SLUICE_CQ_TAIL_PHASE,
   SLUICE_RING_STATUS_RUN,
   SLUICE_RING_STATUS_BASE_ERR,
   SLUICE_RING_STATUS_CQ_FULL,
   SLUICE_RING_STATUS_FENCE_WAIT,
   SLUICE_RING_STATUS_WRITE_REJECTED,
   SLUICE_RING_STATUS_OUT]

/-- R685: SLUICE_APT_LO.APT [31:16] RW. Aperture base [31:16] (R638) -/
def SLUICE_APT_LO_APT : Fld :=
  { off := 0x0, lo := 16, w := 16, acc := .rw, rst := 0 }

/-- R685: SLUICE_APT_HI.APT [12:0] RW. [44:32] -/
def SLUICE_APT_HI_APT : Fld :=
  { off := 0x4, lo := 0, w := 13, acc := .rw, rst := 0 }

/-- Every field of the aperture base registers (R685). -/
def aptBlk : List Fld :=
  [SLUICE_APT_LO_APT,
   SLUICE_APT_HI_APT]

/-- R687: SLUICE_TCTRL.CNT_CLR [0] WO. 1: clear the counters of this block -/
def SLUICE_TCTRL_CNT_CLR : Fld :=
  { off := 0x0, lo := 0, w := 1, acc := .wo, rst := 0 }

/-- R687: SLUICE_TQUOTA.MAX_OUT [15:0] RW. Commands outstanding (R653); 0 acts as 1 -/
def SLUICE_TQUOTA_MAX_OUT : Fld :=
  { off := 0x4, lo := 0, w := 16, acc := .rw, rst := 256 }

/-- R687: SLUICE_TSTATUS.OUT [15:0] RO. Commands taken and not completed -/
def SLUICE_TSTATUS_OUT : Fld :=
  { off := 0x8, lo := 0, w := 16, acc := .ro, rst := 0 }

/-- R687: SLUICE_TSTATUS.GRANTS [19:16] RO. Valid grants, saturating at 15 -/
def SLUICE_TSTATUS_GRANTS : Fld :=
  { off := 0x8, lo := 16, w := 4, acc := .ro, rst := 0 }

/-- R687: SLUICE_TCNT.COUNT [31:0] RO. Completions written with code c, c = 0–5 -/
def SLUICE_TCNT_COUNT : Fld :=
  { off := 0x10, lo := 0, w := 32, acc := .ro, rst := 0, stride := 4, bstep := 0, n := 6 }

/-- R687: SLUICE_TAPT_FAULT_CNT.COUNT [31:0] RO. Aperture faults (R639) -/
def SLUICE_TAPT_FAULT_CNT_COUNT : Fld :=
  { off := 0x28, lo := 0, w := 32, acc := .ro, rst := 0 }

/-- R687: SLUICE_TGRANT0.CHANNEL [7:0] RO. Channel of grant g, g = 0–15 -/
def SLUICE_TGRANT0_CHANNEL : Fld :=
  { off := 0x100, lo := 0, w := 8, acc := .ro, rst := 255, stride := 16, bstep := 0, n := 16 }

/-- R687: SLUICE_TGRANT0.LAYERS [15:8] RO. Layer mask -/
def SLUICE_TGRANT0_LAYERS : Fld :=
  { off := 0x100, lo := 8, w := 8, acc := .ro, rst := 0, stride := 16, bstep := 0, n := 16 }

/-- R687: SLUICE_TGRANT0.SEQ [16] RO. Sequencer ownership -/
def SLUICE_TGRANT0_SEQ : Fld :=
  { off := 0x100, lo := 16, w := 1, acc := .ro, rst := 0, stride := 16, bstep := 0, n := 16 }

/-- R687: SLUICE_TGRANT0.CLASS [18:17] RO. As in R669 -/
def SLUICE_TGRANT0_CLASS : Fld :=
  { off := 0x100, lo := 17, w := 2, acc := .ro, rst := 0, stride := 16, bstep := 0, n := 16 }

/-- R687: SLUICE_TGRANT0.VALID [31] RO. 1: grant present -/
def SLUICE_TGRANT0_VALID : Fld :=
  { off := 0x100, lo := 31, w := 1, acc := .ro, rst := 0, stride := 16, bstep := 0, n := 16 }

/-- R687: SLUICE_TGRANT1.DRAM [31:0] RO. DRAM figure, MB/s -/
def SLUICE_TGRANT1_DRAM : Fld :=
  { off := 0x104, lo := 0, w := 32, acc := .ro, rst := 0, stride := 16, bstep := 0, n := 16 }

/-- R687: SLUICE_TGRANT2.SLOTS [15:0] RO. Slots per frame -/
def SLUICE_TGRANT2_SLOTS : Fld :=
  { off := 0x108, lo := 0, w := 16, acc := .ro, rst := 0, stride := 16, bstep := 0, n := 16 }

/-- R687: SLUICE_TGRANT2.WEIGHT [31:16] RO. ELASTIC weight; 0 acts as 1 -/
def SLUICE_TGRANT2_WEIGHT : Fld :=
  { off := 0x108, lo := 16, w := 16, acc := .ro, rst := 0, stride := 16, bstep := 0, n := 16 }

/-- R687: SLUICE_TGRANT3.LINK [19:0] RO. Link figure, MB/s -/
def SLUICE_TGRANT3_LINK : Fld :=
  { off := 0x10C, lo := 0, w := 20, acc := .ro, rst := 0, stride := 16, bstep := 0, n := 16 }

/-- R687: SLUICE_TGRANT3.SQUEEZED [24] RO. As in R673 -/
def SLUICE_TGRANT3_SQUEEZED : Fld :=
  { off := 0x10C, lo := 24, w := 1, acc := .ro, rst := 0, stride := 16, bstep := 0, n := 16 }

/-- R687: SLUICE_TSEG0.BASE [28:0] RW. First 64 KiB unit, device address [44:16], e = 0–255 -/
def SLUICE_TSEG0_BASE : Fld :=
  { off := 0x800, lo := 0, w := 29, acc := .rw, rst := 0, stride := 8, bstep := 0, n := 256 }

/-- R687: SLUICE_TSEG0.R [29] RW. Read right -/
def SLUICE_TSEG0_R : Fld :=
  { off := 0x800, lo := 29, w := 1, acc := .rw, rst := 0, stride := 8, bstep := 0, n := 256 }

/-- R687: SLUICE_TSEG0.W [30] RW. Write right -/
def SLUICE_TSEG0_W : Fld :=
  { off := 0x800, lo := 30, w := 1, acc := .rw, rst := 0, stride := 8, bstep := 0, n := 256 }

/-- R687: SLUICE_TSEG0.V [31] RW. Entry valid (R641) -/
def SLUICE_TSEG0_V : Fld :=
  { off := 0x800, lo := 31, w := 1, acc := .rw, rst := 0, stride := 8, bstep := 0, n := 256 }

/-- R687: SLUICE_TSEG1.LIMIT [28:0] RW. Last 64 KiB unit -/
def SLUICE_TSEG1_LIMIT : Fld :=
  { off := 0x804, lo := 0, w := 29, acc := .rw, rst := 0, stride := 8, bstep := 0, n := 256 }

/-- Every field of the tenant control block (R687). -/
def tenantBlk : List Fld :=
  [SLUICE_TCTRL_CNT_CLR,
   SLUICE_TQUOTA_MAX_OUT,
   SLUICE_TSTATUS_OUT,
   SLUICE_TSTATUS_GRANTS,
   SLUICE_TCNT_COUNT,
   SLUICE_TAPT_FAULT_CNT_COUNT,
   SLUICE_TGRANT0_CHANNEL,
   SLUICE_TGRANT0_LAYERS,
   SLUICE_TGRANT0_SEQ,
   SLUICE_TGRANT0_CLASS,
   SLUICE_TGRANT0_VALID,
   SLUICE_TGRANT1_DRAM,
   SLUICE_TGRANT2_SLOTS,
   SLUICE_TGRANT2_WEIGHT,
   SLUICE_TGRANT3_LINK,
   SLUICE_TGRANT3_SQUEEZED,
   SLUICE_TSEG0_BASE,
   SLUICE_TSEG0_R,
   SLUICE_TSEG0_W,
   SLUICE_TSEG0_V,
   SLUICE_TSEG1_LIMIT]

end Sys2Proof.Machine.R
end

