-- ==== Sys2Proof/Machine/RegsHub.lean ====
section
/-!
DEFINITION. The register fields of these blocks, one constant per field, as the register tables of spec/ list them:
`hubBlk`: the ID and mode block at 0x0000_0000 (R799, R800).
`timeBlk`: the Time block at 0x0001_0000 (R151).
`healthBlk`: the Health block at 0x0002_0000 (R766).
`lockBlk`: the registers of one lock (R728).
`lockUnitBlk`: the lock unit global registers at 0x0003_1000 (R729).
`fabricBlk`: the fabric registers at 0x0003_8000 (R726).
`sluiceBlk`: the Sluice block control at 0x0004_0000 (R689).
`sluiceDieBlk`: the Sluice die registers (R689).
`chResBlk`: the Sluice channel reservations (R689).
`evRingBlk`: the registers of one event ring (R686).
`mgtBlk`: the management mirror block at 0x0006_0000 (R795).
`hkBlk`: the housekeeping block at 0x0007_0000 (R765).
`cfgBlk`: the configuration store block at 0x0008_0000 (R796).
`holdBlk`: the hold block at 0x0009_0000 (R103).
-/

namespace Sys2Proof.Machine.R
open Sys2Proof

/-- R46: HUB_MODE.MODE [2:0] RO. Current device mode; encoding below -/
def HUB_MODE_MODE : Fld :=
  { off := 0x10, lo := 0, w := 3, acc := .ro, rst := 0 }

/-- R46: HUB_MODE.READY [3] RO. 1 when start-up has completed and mode requests are accepted -/
def HUB_MODE_READY : Fld :=
  { off := 0x10, lo := 3, w := 1, acc := .ro, rst := 0 }

/-- R46: HUB_MODE.REQ_PENDING [4] RO. 1 while an accepted request is being carried out -/
def HUB_MODE_REQ_PENDING : Fld :=
  { off := 0x10, lo := 4, w := 1, acc := .ro, rst := 0 }

/-- R46: HUB_MODE.TARGET [7:5] RO. Mode named by the last accepted request -/
def HUB_MODE_TARGET : Fld :=
  { off := 0x10, lo := 5, w := 3, acc := .ro, rst := 0 }

/-- R46: HUB_MODE.CAUSE [15:8] RO. Cause code of the last mode change, as in the event table of this chapter -/
def HUB_MODE_CAUSE : Fld :=
  { off := 0x10, lo := 8, w := 8, acc := .ro, rst := 10 }

/-- R49: HUB_DEGRADE.REPLACE [0] RO. 1 while the replace request is raised; causes listed in Heat, calibration and wear -/
def HUB_DEGRADE_REPLACE : Fld :=
  { off := 0x18, lo := 0, w := 1, acc := .ro, rst := 0 }

/-- R49: HUB_DEGRADE.CONFIG_DIVERGED [1] RO. 1 when no configuration copy could be chosen and factory defaults are in use -/
def HUB_DEGRADE_CONFIG_DIVERGED : Fld :=
  { off := 0x18, lo := 1, w := 1, acc := .ro, rst := 0 }

/-- R49: HUB_DEGRADE.DIE_OFFLINE [2] RO. 1 while any Reach die is held in reset or isolated after a fault -/
def HUB_DEGRADE_DIE_OFFLINE : Fld :=
  { off := 0x18, lo := 2, w := 1, acc := .ro, rst := 0 }

/-- R49: HUB_DEGRADE.CONTAINED [3] RO. 1 while a unit other than a channel or a Reach die is isolated after a fault -/
def HUB_DEGRADE_CONTAINED : Fld :=
  { off := 0x18, lo := 3, w := 1, acc := .ro, rst := 0 }

/-- R50: HUB_TRIP.THERMAL [0] RO. 1 when a die sensor caused the trip -/
def HUB_TRIP_THERMAL : Fld :=
  { off := 0x1C, lo := 0, w := 1, acc := .ro, rst := 0 }

/-- R50: HUB_TRIP.LOCKSTEP [1] RO. 1 when the two halves of the safety supervisor disagreed -/
def HUB_TRIP_LOCKSTEP : Fld :=
  { off := 0x1C, lo := 1, w := 1, acc := .ro, rst := 0 }

/-- R50: HUB_TRIP.RILL_READBACK [2] RO. 1 when a rill pin read back low for 1 µs while SAFE-DARK was driven -/
def HUB_TRIP_RILL_READBACK : Fld :=
  { off := 0x1C, lo := 2, w := 1, acc := .ro, rst := 0 }

/-- R50: HUB_TRIP.PREV_THERMAL [8] W1C. 1 when a power cycle cleared a trip with THERMAL set -/
def HUB_TRIP_PREV_THERMAL : Fld :=
  { off := 0x1C, lo := 8, w := 1, acc := .w1c, rst := 0 }

/-- R50: HUB_TRIP.PREV_LOCKSTEP [9] W1C. As PREV_THERMAL, for LOCKSTEP -/
def HUB_TRIP_PREV_LOCKSTEP : Fld :=
  { off := 0x1C, lo := 9, w := 1, acc := .w1c, rst := 0 }

/-- R50: HUB_TRIP.PREV_RILL_READBACK [10] W1C. As PREV_THERMAL, for RILL_READBACK -/
def HUB_TRIP_PREV_RILL_READBACK : Fld :=
  { off := 0x1C, lo := 10, w := 1, acc := .w1c, rst := 0 }

/-- R800: HUB_ID.PART [15:0] RO. Part number -/
def HUB_ID_PART : Fld :=
  { off := 0x0, lo := 0, w := 16, acc := .ro, rst := 37266 }

/-- R800: HUB_ID.FAMILY [23:16] RO. Brixia family code -/
def HUB_ID_FAMILY : Fld :=
  { off := 0x0, lo := 16, w := 8, acc := .ro, rst := 1 }

/-- R800: HUB_REV.MINOR [7:0] RO. Minor silicon revision -/
def HUB_REV_MINOR : Fld :=
  { off := 0x4, lo := 0, w := 8, acc := .ro, rst := Config.revMinor }

/-- R800: HUB_REV.MAJOR [15:8] RO. Major silicon revision -/
def HUB_REV_MAJOR : Fld :=
  { off := 0x4, lo := 8, w := 8, acc := .ro, rst := Config.revMajor }

/-- R800: HUB_SERIAL_LO.SERIAL [31:0] RO. Device serial number [31:0]; latches HUB_SERIAL_HI as in R16 -/
def HUB_SERIAL_LO_SERIAL : Fld :=
  { off := 0x8, lo := 0, w := 32, acc := .ro, rst := (Config.serial.toNat % 4294967296) }

/-- R800: HUB_SERIAL_HI.SERIAL [31:0] RO. Device serial number [63:32] -/
def HUB_SERIAL_HI_SERIAL : Fld :=
  { off := 0xC, lo := 0, w := 32, acc := .ro, rst := (Config.serial.toNat / 4294967296) }

/-- R48: HUB_MODE_REQ.REQ [2:0] WO. Requested mode -/
def HUB_MODE_REQ_REQ : Fld :=
  { off := 0x14, lo := 0, w := 3, acc := .wo, rst := 0 }

/-- R51: HUB_SVC_CEIL.CEIL [15:0] RW. Service ceiling -/
def HUB_SVC_CEIL_CEIL : Fld :=
  { off := 0x20, lo := 0, w := 16, acc := .rw, rst := 3277 }

/-- Every field of the ID and mode block at 0x0000_0000 (R799, R800). -/
def hubBlk : List Fld :=
  [HUB_MODE_MODE,
   HUB_MODE_READY,
   HUB_MODE_REQ_PENDING,
   HUB_MODE_TARGET,
   HUB_MODE_CAUSE,
   HUB_DEGRADE_REPLACE,
   HUB_DEGRADE_CONFIG_DIVERGED,
   HUB_DEGRADE_DIE_OFFLINE,
   HUB_DEGRADE_CONTAINED,
   HUB_TRIP_THERMAL,
   HUB_TRIP_LOCKSTEP,
   HUB_TRIP_RILL_READBACK,
   HUB_TRIP_PREV_THERMAL,
   HUB_TRIP_PREV_LOCKSTEP,
   HUB_TRIP_PREV_RILL_READBACK,
   HUB_ID_PART,
   HUB_ID_FAMILY,
   HUB_REV_MINOR,
   HUB_REV_MAJOR,
   HUB_SERIAL_LO_SERIAL,
   HUB_SERIAL_HI_SERIAL,
   HUB_MODE_REQ_REQ,
   HUB_SVC_CEIL_CEIL]

/-- R151: TIME_NOW_LO.NOW [31:0] RO. Current HT [31:0]; latches TIME_NOW_HI as in R16 -/
def TIME_NOW_LO_NOW : Fld :=
  { off := 0x0, lo := 0, w := 32, acc := .ro, rst := 0 }

/-- R151: TIME_NOW_HI.NOW [31:0] RO. Current HT [63:32] -/
def TIME_NOW_HI_NOW : Fld :=
  { off := 0x4, lo := 0, w := 32, acc := .ro, rst := 0 }

/-- R151: TIME_CTRL.ROLE [1:0] RWF. 0b00 FOLLOWER, 0b01 MASTER; 0b10 and 0b11 rejected as a running-block write; loaded from the configuration … -/
def TIME_CTRL_ROLE : Fld :=
  { off := 0x8, lo := 0, w := 2, acc := .rwf, rst := 0 }

/-- R151: TIME_CTRL.PRIMARY [2] RWF. 0 input A, 1 input B -/
def TIME_CTRL_PRIMARY : Fld :=
  { off := 0x8, lo := 2, w := 1, acc := .rwf, rst := 0 }

/-- R151: TIME_CTRL.REVERT [3] RW. 1 enables reason 5 of R131 -/
def TIME_CTRL_REVERT : Fld :=
  { off := 0x8, lo := 3, w := 1, acc := .rw, rst := 0 }

/-- R151: TIME_CTRL.STEP_NOW [4] WO. 1: apply a pending step (R137) -/
def TIME_CTRL_STEP_NOW : Fld :=
  { off := 0x8, lo := 4, w := 1, acc := .wo, rst := 0 }

/-- R151: TIME_CTRL.SET [5] WO. 1: load TIME_SET (R128) -/
def TIME_CTRL_SET : Fld :=
  { off := 0x8, lo := 5, w := 1, acc := .wo, rst := 0 }

/-- R151: TIME_CTRL.SWITCH [6] WO. 1: follow the other input (R131) -/
def TIME_CTRL_SWITCH : Fld :=
  { off := 0x8, lo := 6, w := 1, acc := .wo, rst := 0 }

/-- R151: TIME_CTRL.OUT_EN [7] RW. 1 enables TIME messages on the output -/
def TIME_CTRL_OUT_EN : Fld :=
  { off := 0x8, lo := 7, w := 1, acc := .rw, rst := 1 }

/-- R151: TIME_CTRL.SLEW [11:8] RW. Slew limit (SLEW + 1) ppm -/
def TIME_CTRL_SLEW : Fld :=
  { off := 0x8, lo := 8, w := 4, acc := .rw, rst := 0 }

/-- R151: TIME_CTRL.STEP_CONFIRM [15:12] RW. Messages to confirm a step; 0x0 acts as 0x1 -/
def TIME_CTRL_STEP_CONFIRM : Fld :=
  { off := 0x8, lo := 12, w := 4, acc := .rw, rst := 4 }

/-- R151: TIME_CTRL.CNT_CLR [16] WO. 1: clear TIME_ERRCNT -/
def TIME_CTRL_CNT_CLR : Fld :=
  { off := 0x8, lo := 16, w := 1, acc := .wo, rst := 0 }

/-- R151: TIME_STATUS.STATE [2:0] RO. 0b000 ACQUIRING, 0b001 MASTER, 0b010 LOCKED, 0b011 HOLDOVER, 0b100 EXPIRED; other codes never reported -/
def TIME_STATUS_STATE : Fld :=
  { off := 0xC, lo := 0, w := 3, acc := .ro, rst := 0 }

/-- R151: TIME_STATUS.VALID [3] RO. 1 while HT is valid: STATE is MASTER with REF_OK 1, LOCKED, or HOLDOVER -/
def TIME_STATUS_VALID : Fld :=
  { off := 0xC, lo := 3, w := 1, acc := .ro, rst := 0 }

/-- R151: TIME_STATUS.FOLLOWING [4] RO. 0 input A, 1 input B -/
def TIME_STATUS_FOLLOWING : Fld :=
  { off := 0xC, lo := 4, w := 1, acc := .ro, rst := 0 }

/-- R151: TIME_STATUS.A_VALID [5] RO. Input A valid (R129) -/
def TIME_STATUS_A_VALID : Fld :=
  { off := 0xC, lo := 5, w := 1, acc := .ro, rst := 0 }

/-- R151: TIME_STATUS.B_VALID [6] RO. Input B valid -/
def TIME_STATUS_B_VALID : Fld :=
  { off := 0xC, lo := 6, w := 1, acc := .ro, rst := 0 }

/-- R151: TIME_STATUS.STEP_PENDING [7] RO. As in R136 -/
def TIME_STATUS_STEP_PENDING : Fld :=
  { off := 0xC, lo := 7, w := 1, acc := .ro, rst := 0 }

/-- R151: TIME_STATUS.SRC_HOLDOVER [8] RO. Followed messages carry HOLDOVER -/
def TIME_STATUS_SRC_HOLDOVER : Fld :=
  { off := 0xC, lo := 8, w := 1, acc := .ro, rst := 0 }

/-- R151: TIME_STATUS.AB_DIVERGED [9] RO. As in R139 -/
def TIME_STATUS_AB_DIVERGED : Fld :=
  { off := 0xC, lo := 9, w := 1, acc := .ro, rst := 0 }

/-- R151: TIME_STATUS.REF_OK [10] RO. REF156_P/N present and within ±100 ppm -/
def TIME_STATUS_REF_OK : Fld :=
  { off := 0xC, lo := 10, w := 1, acc := .ro, rst := 0 }

/-- R151: TIME_STATUS.IN_USE [11] RO. Timebase in use -/
def TIME_STATUS_IN_USE : Fld :=
  { off := 0xC, lo := 11, w := 1, acc := .ro, rst := 0 }

/-- R151: TIME_STATUS.WRITE_REJECTED [12] W1C. Set by a rejected RWF write -/
def TIME_STATUS_WRITE_REJECTED : Fld :=
  { off := 0xC, lo := 12, w := 1, acc := .w1c, rst := 0 }

/-- R151: TIME_SET_LO.SET [31:0] RW. HT to load, [31:0] -/
def TIME_SET_LO_SET : Fld :=
  { off := 0x10, lo := 0, w := 32, acc := .rw, rst := 0 }

/-- R151: TIME_SET_HI.SET [31:0] RW. HT to load, [63:32] -/
def TIME_SET_HI_SET : Fld :=
  { off := 0x14, lo := 0, w := 32, acc := .rw, rst := 0 }

/-- R151: TIME_OFFSET.O [31:0] RO. Offset of the followed input, signed, 1/16 tick, saturating -/
def TIME_OFFSET_O : Fld :=
  { off := 0x18, lo := 0, w := 32, acc := .ro, rst := 0 }

/-- R151: TIME_AB_DIFF.DIFF [31:0] RO. Offset A − offset B, signed, 1/16 tick; 0x8000_0000 unless both inputs are valid -/
def TIME_AB_DIFF_DIFF : Fld :=
  { off := 0x1C, lo := 0, w := 32, acc := .ro, rst := 2147483648 }

/-- R151: TIME_BOUND.STEP [15:0] RW. Step bound in ticks (1 µs); values below 0x0010 act as 0x0010 -/
def TIME_BOUND_STEP : Fld :=
  { off := 0x20, lo := 0, w := 16, acc := .rw, rst := 4000 }

/-- R151: TIME_BOUND.HOLD_MAX [31:16] RW. Holdover validity bound, 1 ns units (1 µs) -/
def TIME_BOUND_HOLD_MAX : Fld :=
  { off := 0x20, lo := 16, w := 16, acc := .rw, rst := 1000 }

/-- R151: TIME_AB_WARN.WARN [15:0] RW. A/B warning bound in ticks (10 ns) -/
def TIME_AB_WARN_WARN : Fld :=
  { off := 0x24, lo := 0, w := 16, acc := .rw, rst := 40 }

/-- R151: TIME_ASYM_A.ASYM [15:0] RW. Input A downstream minus upstream delay, signed, ps -/
def TIME_ASYM_A_ASYM : Fld :=
  { off := 0x28, lo := 0, w := 16, acc := .rw, rst := 0 }

/-- R151: TIME_ASYM_B.ASYM [15:0] RW. As TIME_ASYM_A, for input B -/
def TIME_ASYM_B_ASYM : Fld :=
  { off := 0x2C, lo := 0, w := 16, acc := .rw, rst := 0 }

/-- R151: TIME_DELAY_A.D [23:0] RO. Median d of input A, 1/16 tick; 0xFF_FFFF when not measured -/
def TIME_DELAY_A_D : Fld :=
  { off := 0x30, lo := 0, w := 24, acc := .ro, rst := 16777215 }

/-- R151: TIME_DELAY_B.D [23:0] RO. As TIME_DELAY_A, for input B -/
def TIME_DELAY_B_D : Fld :=
  { off := 0x34, lo := 0, w := 24, acc := .ro, rst := 16777215 }

/-- R151: TIME_HOLD.ERR [15:0] RO. Own estimated error, ns, saturating: 0 in MASTER; the filtered \|o\| in LOCKED; ERR(t) of R141 in … -/
def TIME_HOLD_ERR : Fld :=
  { off := 0x38, lo := 0, w := 16, acc := .ro, rst := 65535 }

/-- R151: TIME_HOLD.ELAPSED [31:16] RO. Time in holdover, 100 ms units, saturating -/
def TIME_HOLD_ELAPSED : Fld :=
  { off := 0x38, lo := 16, w := 16, acc := .ro, rst := 0 }

/-- R151: TIME_SRC.HOP [5:0] RO. Own hop count; 0x3F when not valid -/
def TIME_SRC_HOP : Fld :=
  { off := 0x3C, lo := 0, w := 6, acc := .ro, rst := 63 }

/-- R151: TIME_SRC.FLAGS [15:8] RO. FLAGS of the last followed message -/
def TIME_SRC_FLAGS : Fld :=
  { off := 0x3C, lo := 8, w := 8, acc := .ro, rst := 0 }

/-- R151: TIME_SRC_ID.ID [31:0] RO. SRC_ID of the followed source; TIME_ID as master -/
def TIME_SRC_ID_ID : Fld :=
  { off := 0x40, lo := 0, w := 32, acc := .ro, rst := 0 }

/-- R151: TIME_ID.ID [31:0] RWF. Identity sent as master and used for loop detection -/
def TIME_ID_ID : Fld :=
  { off := 0x44, lo := 0, w := 32, acc := .rwf, rst := (Config.serial.toNat % 4294967296) }

/-- R151: TIME_ERRCNT.CRC [7:0] RO. CRC failures, saturating at 0xFF -/
def TIME_ERRCNT_CRC : Fld :=
  { off := 0x48, lo := 0, w := 8, acc := .ro, rst := 0 }

/-- R151: TIME_ERRCNT.DISCARD [15:8] RO. Other discards (R120), including own-identity and HOP rejections -/
def TIME_ERRCNT_DISCARD : Fld :=
  { off := 0x48, lo := 8, w := 8, acc := .ro, rst := 0 }

/-- R151: TIME_ERRCNT.OUTLIER [23:16] RO. Step suspects -/
def TIME_ERRCNT_OUTLIER : Fld :=
  { off := 0x48, lo := 16, w := 8, acc := .ro, rst := 0 }

/-- R151: TIME_ERRCNT.SWITCHES [31:24] RO. Input switches -/
def TIME_ERRCNT_SWITCHES : Fld :=
  { off := 0x48, lo := 24, w := 8, acc := .ro, rst := 0 }

/-- Part 0 of `timeBlk`. -/
def timeBlk0 : List Fld :=
  [TIME_NOW_LO_NOW,
   TIME_NOW_HI_NOW,
   TIME_CTRL_ROLE,
   TIME_CTRL_PRIMARY,
   TIME_CTRL_REVERT,
   TIME_CTRL_STEP_NOW,
   TIME_CTRL_SET,
   TIME_CTRL_SWITCH,
   TIME_CTRL_OUT_EN,
   TIME_CTRL_SLEW,
   TIME_CTRL_STEP_CONFIRM,
   TIME_CTRL_CNT_CLR,
   TIME_STATUS_STATE,
   TIME_STATUS_VALID,
   TIME_STATUS_FOLLOWING,
   TIME_STATUS_A_VALID,
   TIME_STATUS_B_VALID,
   TIME_STATUS_STEP_PENDING,
   TIME_STATUS_SRC_HOLDOVER,
   TIME_STATUS_AB_DIVERGED,
   TIME_STATUS_REF_OK,
   TIME_STATUS_IN_USE,
   TIME_STATUS_WRITE_REJECTED,
   TIME_SET_LO_SET,
   TIME_SET_HI_SET,
   TIME_OFFSET_O,
   TIME_AB_DIFF_DIFF,
   TIME_BOUND_STEP,
   TIME_BOUND_HOLD_MAX,
   TIME_AB_WARN_WARN,
   TIME_ASYM_A_ASYM,
   TIME_ASYM_B_ASYM,
   TIME_DELAY_A_D,
   TIME_DELAY_B_D,
   TIME_HOLD_ERR,
   TIME_HOLD_ELAPSED,
   TIME_SRC_HOP,
   TIME_SRC_FLAGS,
   TIME_SRC_ID_ID,
   TIME_ID_ID]

/-- Part 1 of `timeBlk`. -/
def timeBlk1 : List Fld :=
  [TIME_ERRCNT_CRC,
   TIME_ERRCNT_DISCARD,
   TIME_ERRCNT_OUTLIER,
   TIME_ERRCNT_SWITCHES]

/-- Every field of the Time block at 0x0001_0000 (R151). -/
def timeBlk : List Fld :=
  timeBlk0 ++ timeBlk1

/-- R766: HUB_REPLACE.PIPE [0] RO. A Reach die has no free pipeline -/
def HUB_REPLACE_PIPE : Fld :=
  { off := 0x0, lo := 0, w := 1, acc := .ro, rst := 0 }

/-- R766: HUB_REPLACE.LOOP [1] RO. A spare loop core is in use -/
def HUB_REPLACE_LOOP : Fld :=
  { off := 0x0, lo := 1, w := 1, acc := .ro, rst := 0 }

/-- R766: HUB_REPLACE.RANK [2] RO. A DDR5 spare rank has been used -/
def HUB_REPLACE_RANK : Fld :=
  { off := 0x0, lo := 2, w := 1, acc := .ro, rst := 0 }

/-- R766: HUB_REPLACE.UCIE [3] RO. R697 holds -/
def HUB_REPLACE_UCIE : Fld :=
  { off := 0x0, lo := 3, w := 1, acc := .ro, rst := 0 }

/-- R766: HUB_REPLACE.CONFIG [4] RO. A record has fewer than 2 valid copies -/
def HUB_REPLACE_CONFIG : Fld :=
  { off := 0x0, lo := 4, w := 1, acc := .ro, rst := 0 }

/-- R766: HUB_REPLACE.HOLD [5] RO. HOLD_STATUS.CAP_LOW -/
def HUB_REPLACE_HOLD : Fld :=
  { off := 0x0, lo := 5, w := 1, acc := .ro, rst := 0 }

/-- R766: HUB_REPLACE.PIPE_DIES [19:16] RO. Bit d: die d has no free pipeline -/
def HUB_REPLACE_PIPE_DIES : Fld :=
  { off := 0x0, lo := 16, w := 4, acc := .ro, rst := 0 }

/-- R766: HUB_REPLACE.LOOP_DIES [23:20] RO. Bit d: die d has a spare core in use -/
def HUB_REPLACE_LOOP_DIES : Fld :=
  { off := 0x0, lo := 20, w := 4, acc := .ro, rst := 0 }

/-- R766: HUB_SPARE_SUM.PIPES_FREE [5:0] RO. Free pipelines of Reach die d -/
def HUB_SPARE_SUM_PIPES_FREE : Fld :=
  { off := 0x10, lo := 0, w := 6, acc := .ro, rst := 4, stride := 4, bstep := 0, n := 4 }

/-- R766: HUB_SPARE_SUM.CORES_FREE [8:6] RO. Free physical cores 64–67 -/
def HUB_SPARE_SUM_CORES_FREE : Fld :=
  { off := 0x10, lo := 6, w := 3, acc := .ro, rst := 4, stride := 4, bstep := 0, n := 4 }

/-- R766: HUB_SPARE_SUM.RANKS_FREE [12:9] RO. DDR5 channels with an unused spare rank -/
def HUB_SPARE_SUM_RANKS_FREE : Fld :=
  { off := 0x10, lo := 9, w := 4, acc := .ro, rst := 0, stride := 4, bstep := 0, n := 4 }

/-- R766: HUB_SPARE_SUM.UCIE_MIN [15:13] RO. Fewest redundant lanes left in any direction -/
def HUB_SPARE_SUM_UCIE_MIN : Fld :=
  { off := 0x10, lo := 13, w := 3, acc := .ro, rst := 4, stride := 4, bstep := 0, n := 4 }

/-- R766: HUB_SPREC.GEN [15:0] RO. Generation of the spare record in use -/
def HUB_SPREC_GEN : Fld :=
  { off := 0x20, lo := 0, w := 16, acc := .ro, rst := 0 }

/-- R766: HUB_SPREC.PENDING [16] RO. 1 while a change awaits writing (R753) -/
def HUB_SPREC_PENDING : Fld :=
  { off := 0x20, lo := 16, w := 1, acc := .ro, rst := 0 }

/-- Every field of the Health block at 0x0002_0000 (R766). -/
def healthBlk : List Fld :=
  [HUB_REPLACE_PIPE,
   HUB_REPLACE_LOOP,
   HUB_REPLACE_RANK,
   HUB_REPLACE_UCIE,
   HUB_REPLACE_CONFIG,
   HUB_REPLACE_HOLD,
   HUB_REPLACE_PIPE_DIES,
   HUB_REPLACE_LOOP_DIES,
   HUB_SPARE_SUM_PIPES_FREE,
   HUB_SPARE_SUM_CORES_FREE,
   HUB_SPARE_SUM_RANKS_FREE,
   HUB_SPARE_SUM_UCIE_MIN,
   HUB_SPREC_GEN,
   HUB_SPREC_PENDING]

/-- R728: LOCK_CMD.ACQUIRE [0] WO. 1: acquire (R719) -/
def LOCK_CMD_ACQUIRE : Fld :=
  { off := 0x0, lo := 0, w := 1, acc := .wo, rst := 0 }

/-- R728: LOCK_CMD.RELEASE [1] WO. 1: release -/
def LOCK_CMD_RELEASE : Fld :=
  { off := 0x0, lo := 1, w := 1, acc := .wo, rst := 0 }

/-- R728: LOCK_CMD.CLEAR_BROKEN [2] WO. 1: clear BROKEN -/
def LOCK_CMD_CLEAR_BROKEN : Fld :=
  { off := 0x0, lo := 2, w := 1, acc := .wo, rst := 0 }

/-- R728: LOCK_STAT.OWNER [15:0] RO. Owner's agent identity; 0xFFFF free -/
def LOCK_STAT_OWNER : Fld :=
  { off := 0x4, lo := 0, w := 16, acc := .ro, rst := 65535 }

/-- R728: LOCK_STAT.MINE [16] RO. 1 when the reading agent is the owner -/
def LOCK_STAT_MINE : Fld :=
  { off := 0x4, lo := 16, w := 1, acc := .ro, rst := 0 }

/-- R728: LOCK_STAT.BROKEN [17] RO. As in R721 and R722 -/
def LOCK_STAT_BROKEN : Fld :=
  { off := 0x4, lo := 17, w := 1, acc := .ro, rst := 0 }

/-- R728: LOCK_STAT.CAUSE [19:18] RO. Cause of the last break; 0b00 none -/
def LOCK_STAT_CAUSE : Fld :=
  { off := 0x4, lo := 18, w := 2, acc := .ro, rst := 0 }

/-- R728: LOCK_STAT.WRITE_REJECTED [20] W1C. As in R719 -/
def LOCK_STAT_WRITE_REJECTED : Fld :=
  { off := 0x4, lo := 20, w := 1, acc := .w1c, rst := 0 }

/-- R728: LOCK_LEASE.MS [15:0] RW. Lease, ms; 0 none (R724) -/
def LOCK_LEASE_MS : Fld :=
  { off := 0x8, lo := 0, w := 16, acc := .rw, rst := 0 }

/-- R728: LOCK_PREV.OWNER [15:0] RO. Owner at the last break; 0xFFFF none -/
def LOCK_PREV_OWNER : Fld :=
  { off := 0xC, lo := 0, w := 16, acc := .ro, rst := 65535 }

/-- Every field of the registers of one lock (R728). -/
def lockBlk : List Fld :=
  [LOCK_CMD_ACQUIRE,
   LOCK_CMD_RELEASE,
   LOCK_CMD_CLEAR_BROKEN,
   LOCK_STAT_OWNER,
   LOCK_STAT_MINE,
   LOCK_STAT_BROKEN,
   LOCK_STAT_CAUSE,
   LOCK_STAT_WRITE_REJECTED,
   LOCK_LEASE_MS,
   LOCK_PREV_OWNER]

/-- R729: LOCK_CTRL.CNT_CLR [0] WO. 1: clear LOCK_BROKEN_CNT -/
def LOCK_CTRL_CNT_CLR : Fld :=
  { off := 0x0, lo := 0, w := 1, acc := .wo, rst := 0 }

/-- R729: LOCK_CTRL.INDEX [15:8] WO. Lock named by FORCE -/
def LOCK_CTRL_INDEX : Fld :=
  { off := 0x0, lo := 8, w := 8, acc := .wo, rst := 0 }

/-- R729: LOCK_CTRL.FORCE [16] WO. 1: break lock INDEX with cause 0b11; no effect on a free lock -/
def LOCK_CTRL_FORCE : Fld :=
  { off := 0x0, lo := 16, w := 1, acc := .wo, rst := 0 }

/-- R729: LOCK_BROKEN_CNT.COUNT [31:0] RO. Breaks -/
def LOCK_BROKEN_CNT_COUNT : Fld :=
  { off := 0x4, lo := 0, w := 32, acc := .ro, rst := 0 }

/-- R729: LOCK_HELD.COUNT [8:0] RO. Locks owned -/
def LOCK_HELD_COUNT : Fld :=
  { off := 0x8, lo := 0, w := 9, acc := .ro, rst := 0 }

/-- Every field of the lock unit global registers at 0x0003_1000 (R729). -/
def lockUnitBlk : List Fld :=
  [LOCK_CTRL_CNT_CLR,
   LOCK_CTRL_INDEX,
   LOCK_CTRL_FORCE,
   LOCK_BROKEN_CNT_COUNT,
   LOCK_HELD_COUNT]

/-- R726: HUB_FAB_CTRL.CNT_CLR [0] WO. 1: clear the counters of this table -/
def HUB_FAB_CTRL_CNT_CLR : Fld :=
  { off := 0x0, lo := 0, w := 1, acc := .wo, rst := 0 }

/-- R726: HUB_EPOCH_IDX.CLASS [3:0] RW. Unit class (R710) -/
def HUB_EPOCH_IDX_CLASS : Fld :=
  { off := 0x4, lo := 0, w := 4, acc := .rw, rst := 0 }

/-- R726: HUB_EPOCH_IDX.INDEX [24:16] RW. Unit index -/
def HUB_EPOCH_IDX_INDEX : Fld :=
  { off := 0x4, lo := 16, w := 9, acc := .rw, rst := 0 }

/-- R726: HUB_EPOCH_DATA.EPOCH [15:0] RO. Epoch of the selected unit -/
def HUB_EPOCH_DATA_EPOCH : Fld :=
  { off := 0x8, lo := 0, w := 16, acc := .ro, rst := 0 }

/-- R726: HUB_EPOCH_DATA.VALID [16] RO. 1 when CLASS and INDEX name a unit; EPOCH reads 0 otherwise -/
def HUB_EPOCH_DATA_VALID : Fld :=
  { off := 0x8, lo := 16, w := 1, acc := .ro, rst := 0 }

/-- R726: HUB_FAB_STALE_CNT.COUNT [31:0] RO. Replies discarded (R713) -/
def HUB_FAB_STALE_CNT_COUNT : Fld :=
  { off := 0xC, lo := 0, w := 32, acc := .ro, rst := 0 }

/-- R726: HUB_FAB_UNITRESET_CNT.COUNT [31:0] RO. UNIT_RESET completions issued -/
def HUB_FAB_UNITRESET_CNT_COUNT : Fld :=
  { off := 0x10, lo := 0, w := 32, acc := .ro, rst := 0 }

/-- R726: HUB_CDC_OVR_HUB.PCIE [0] W1C. Overrun flag (R705) of the PCIe crossing -/
def HUB_CDC_OVR_HUB_PCIE : Fld :=
  { off := 0x14, lo := 0, w := 1, acc := .w1c, rst := 0 }

/-- R726: HUB_CDC_OVR_HUB.MGT [1] W1C. Management port -/
def HUB_CDC_OVR_HUB_MGT : Fld :=
  { off := 0x14, lo := 1, w := 1, acc := .w1c, rst := 0 }

/-- R726: HUB_CDC_OVR_HUB.HW [4:2] W1C. Headwater input A, input B, output -/
def HUB_CDC_OVR_HUB_HW : Fld :=
  { off := 0x14, lo := 2, w := 3, acc := .w1c, rst := 0 }

/-- R726: HUB_CDC_OVR_HUB.HK [5] W1C. Housekeeping ADC -/
def HUB_CDC_OVR_HUB_HK : Fld :=
  { off := 0x14, lo := 5, w := 1, acc := .w1c, rst := 0 }

/-- R726: HUB_CDC_OVR_HUB.XSPI [6] W1C. xSPI -/
def HUB_CDC_OVR_HUB_XSPI : Fld :=
  { off := 0x14, lo := 6, w := 1, acc := .w1c, rst := 0 }

/-- R726: HUB_CDC_OVR_HUB.AVS [7] W1C. AVSBus -/
def HUB_CDC_OVR_HUB_AVS : Fld :=
  { off := 0x14, lo := 7, w := 1, acc := .w1c, rst := 0 }

/-- R726: HUB_CDC_OVR_HUB.UCIE [15:8] W1C. Bit 2d + k: Confluence side of module k of Reach die d -/
def HUB_CDC_OVR_HUB_UCIE : Fld :=
  { off := 0x14, lo := 8, w := 8, acc := .w1c, rst := 0 }

/-- R726: HUB_CDC_RESYNC_FAIL_CNT.COUNT [31:0] RO. Failed resynchronisations (R708), all crossings -/
def HUB_CDC_RESYNC_FAIL_CNT_COUNT : Fld :=
  { off := 0x18, lo := 0, w := 32, acc := .ro, rst := 0 }

/-- Every field of the fabric registers at 0x0003_8000 (R726). -/
def fabricBlk : List Fld :=
  [HUB_FAB_CTRL_CNT_CLR,
   HUB_EPOCH_IDX_CLASS,
   HUB_EPOCH_IDX_INDEX,
   HUB_EPOCH_DATA_EPOCH,
   HUB_EPOCH_DATA_VALID,
   HUB_FAB_STALE_CNT_COUNT,
   HUB_FAB_UNITRESET_CNT_COUNT,
   HUB_CDC_OVR_HUB_PCIE,
   HUB_CDC_OVR_HUB_MGT,
   HUB_CDC_OVR_HUB_HW,
   HUB_CDC_OVR_HUB_HK,
   HUB_CDC_OVR_HUB_XSPI,
   HUB_CDC_OVR_HUB_AVS,
   HUB_CDC_OVR_HUB_UCIE,
   HUB_CDC_RESYNC_FAIL_CNT_COUNT]

/-- R689: SLUICE_CTRL.DEFER_MAX [7:0] RW. Frame boundaries before a deferred increase is refused -/
def SLUICE_CTRL_DEFER_MAX : Fld :=
  { off := 0x0, lo := 0, w := 8, acc := .rw, rst := 60 }

/-- Every field of the Sluice block control at 0x0004_0000 (R689). -/
def sluiceBlk : List Fld :=
  [SLUICE_CTRL_DEFER_MAX]

/-- R689: SLUICE_DIE_CAP.RES_PCT [7:0] RW. RESERVED capacity, % (75); above 75 acts as 75 -/
def SLUICE_DIE_CAP_RES_PCT : Fld :=
  { off := 0x0, lo := 0, w := 8, acc := .rw, rst := 75 }

/-- R689: SLUICE_DIE_CAP.SCHED_PCT [15:8] RW. Capacity of all classes, % (90); below RES_PCT acts as RES_PCT, above 100 as 100 -/
def SLUICE_DIE_CAP_SCHED_PCT : Fld :=
  { off := 0x0, lo := 8, w := 8, acc := .rw, rst := 90 }

/-- R689: SLUICE_DIE_CAP.LINK_PCT [23:16] RW. Link capacity, %; above 100 acts as 100 -/
def SLUICE_DIE_CAP_LINK_PCT : Fld :=
  { off := 0x0, lo := 16, w := 8, acc := .rw, rst := 90 }

/-- R689: SLUICE_DIE_PEAK.MBPS [19:0] RO. Peak of the channels in service at their trained rate, MB/s -/
def SLUICE_DIE_PEAK_MBPS : Fld :=
  { off := 0x4, lo := 0, w := 20, acc := .ro, rst := 0 }

/-- R689: SLUICE_DIE_RES.MBPS [19:0] RO. RESERVED total -/
def SLUICE_DIE_RES_MBPS : Fld :=
  { off := 0x8, lo := 0, w := 20, acc := .ro, rst := 0 }

/-- R689: SLUICE_DIE_ELASTIC.MBPS [19:0] RO. Admitted ELASTIC total -/
def SLUICE_DIE_ELASTIC_MBPS : Fld :=
  { off := 0xC, lo := 0, w := 20, acc := .ro, rst := 0 }

/-- R689: SLUICE_DIE_IDLE.MBPS [19:0] RO. Idle capacity (R674) -/
def SLUICE_DIE_IDLE_MBPS : Fld :=
  { off := 0x10, lo := 0, w := 20, acc := .ro, rst := 0 }

/-- R689: SLUICE_DIE_LINK_IN.MBPS [19:0] RO. Admitted inbound link demand -/
def SLUICE_DIE_LINK_IN_MBPS : Fld :=
  { off := 0x14, lo := 0, w := 20, acc := .ro, rst := 0 }

/-- R689: SLUICE_DIE_LINK_OUT.MBPS [19:0] RO. Admitted outbound link demand -/
def SLUICE_DIE_LINK_OUT_MBPS : Fld :=
  { off := 0x18, lo := 0, w := 20, acc := .ro, rst := 0 }

/-- R689: SLUICE_DIE_POOL_CAP.UNITS [23:0] RW. Pool capacity, 64 KiB units (4 GiB) -/
def SLUICE_DIE_POOL_CAP_UNITS : Fld :=
  { off := 0x1C, lo := 0, w := 24, acc := .rw, rst := 65536 }

/-- R689: SLUICE_DIE_POOL_USED.UNITS [23:0] RO. Admitted pool total -/
def SLUICE_DIE_POOL_USED_UNITS : Fld :=
  { off := 0x20, lo := 0, w := 24, acc := .ro, rst := 0 }

/-- R689: SLUICE_DIE_SLOT_CAP.KITEMS [23:0] RW. Launch slots, thousands of items/s (4 000) -/
def SLUICE_DIE_SLOT_CAP_KITEMS : Fld :=
  { off := 0x24, lo := 0, w := 24, acc := .rw, rst := 4000 }

/-- R689: SLUICE_DIE_SLOT_USED.KITEMS [23:0] RO. Admitted slots, rounded up -/
def SLUICE_DIE_SLOT_USED_KITEMS : Fld :=
  { off := 0x28, lo := 0, w := 24, acc := .ro, rst := 0 }

/-- R689: SLUICE_DIE_CORE_CEIL.MIPS [7:0] RW. Loop-core ceiling, M instructions/s (250); above 250 acts as 250 -/
def SLUICE_DIE_CORE_CEIL_MIPS : Fld :=
  { off := 0x2C, lo := 0, w := 8, acc := .rw, rst := 250 }

/-- R689: SLUICE_DIE_STATUS.OVER [0] RO. As in R676 -/
def SLUICE_DIE_STATUS_OVER : Fld :=
  { off := 0x30, lo := 0, w := 1, acc := .ro, rst := 0 }

/-- Every field of the Sluice die registers (R689). -/
def sluiceDieBlk : List Fld :=
  [SLUICE_DIE_CAP_RES_PCT,
   SLUICE_DIE_CAP_SCHED_PCT,
   SLUICE_DIE_CAP_LINK_PCT,
   SLUICE_DIE_PEAK_MBPS,
   SLUICE_DIE_RES_MBPS,
   SLUICE_DIE_ELASTIC_MBPS,
   SLUICE_DIE_IDLE_MBPS,
   SLUICE_DIE_LINK_IN_MBPS,
   SLUICE_DIE_LINK_OUT_MBPS,
   SLUICE_DIE_POOL_CAP_UNITS,
   SLUICE_DIE_POOL_USED_UNITS,
   SLUICE_DIE_SLOT_CAP_KITEMS,
   SLUICE_DIE_SLOT_USED_KITEMS,
   SLUICE_DIE_CORE_CEIL_MIPS,
   SLUICE_DIE_STATUS_OVER]

/-- R689: SLUICE_CHRES_DRAM.MBPS [31:0] RO. Channel reservation, DRAM MB/s -/
def SLUICE_CHRES_DRAM_MBPS : Fld :=
  { off := 0x0, lo := 0, w := 32, acc := .ro, rst := 0 }

/-- R689: SLUICE_CHRES_POOL.UNITS [23:0] RO. Channel reservation, pool in 64 KiB units -/
def SLUICE_CHRES_POOL_UNITS : Fld :=
  { off := 0x4, lo := 0, w := 24, acc := .ro, rst := 0 }

/-- R689: SLUICE_CHRES_PORT.MBITS [31:0] RO. Channel reservation, port Mb/s -/
def SLUICE_CHRES_PORT_MBITS : Fld :=
  { off := 0x8, lo := 0, w := 32, acc := .ro, rst := 0 }

/-- R689: SLUICE_CHRES_SLOTS.SLOTS [15:0] RO. Channel reservation, slots -/
def SLUICE_CHRES_SLOTS_SLOTS : Fld :=
  { off := 0xC, lo := 0, w := 16, acc := .ro, rst := 0 }

/-- Every field of the Sluice channel reservations (R689). -/
def chResBlk : List Fld :=
  [SLUICE_CHRES_DRAM_MBPS,
   SLUICE_CHRES_POOL_UNITS,
   SLUICE_CHRES_PORT_MBITS,
   SLUICE_CHRES_SLOTS_SLOTS]

/-- R686: SLUICE_EV_BASE_LO.BASE [31:4] RWF. Event ring base [31:4] -/
def SLUICE_EV_BASE_LO_BASE : Fld :=
  { off := 0x0, lo := 4, w := 28, acc := .rwf, rst := 0 }

/-- R686: SLUICE_EV_BASE_HI.BASE [12:0] RWF. [44:32] -/
def SLUICE_EV_BASE_HI_BASE : Fld :=
  { off := 0x4, lo := 0, w := 13, acc := .rwf, rst := 0 }

/-- R686: SLUICE_EV_CFG.EN [0] RW. 1: enabled; indices set to 0 and DROP cleared at each enable -/
def SLUICE_EV_CFG_EN : Fld :=
  { off := 0x8, lo := 0, w := 1, acc := .rw, rst := 0 }

/-- R686: SLUICE_EV_CFG.LOG [4:1] RWF. 2^LOG records; outside 6–16 acts as the nearer bound -/
def SLUICE_EV_CFG_LOG : Fld :=
  { off := 0x8, lo := 1, w := 4, acc := .rwf, rst := 8 }

/-- R686: SLUICE_EV_CFG.VEC [15:5] RWF. MSI-X vector, as SLUICE_RING_CFG.VEC -/
def SLUICE_EV_CFG_VEC : Fld :=
  { off := 0x8, lo := 5, w := 11, acc := .rwf, rst := 0 }

/-- R686: SLUICE_EV_CFG.THR [23:16] RW. Records per signal; 0x00 acts as 0x01 -/
def SLUICE_EV_CFG_THR : Fld :=
  { off := 0x8, lo := 16, w := 8, acc := .rw, rst := 1 }

/-- R686: SLUICE_EV_WR.WR [15:0] RO. Next record to write -/
def SLUICE_EV_WR_WR : Fld :=
  { off := 0xC, lo := 0, w := 16, acc := .ro, rst := 0 }

/-- R686: SLUICE_EV_RD.RD [15:0] RW. Next record the host will read -/
def SLUICE_EV_RD_RD : Fld :=
  { off := 0x10, lo := 0, w := 16, acc := .rw, rst := 0 }

/-- R686: SLUICE_EV_DROP.COUNT [31:0] RO. Events dropped (R679) -/
def SLUICE_EV_DROP_COUNT : Fld :=
  { off := 0x14, lo := 0, w := 32, acc := .ro, rst := 0 }

/-- Every field of the registers of one event ring (R686). -/
def evRingBlk : List Fld :=
  [SLUICE_EV_BASE_LO_BASE,
   SLUICE_EV_BASE_HI_BASE,
   SLUICE_EV_CFG_EN,
   SLUICE_EV_CFG_LOG,
   SLUICE_EV_CFG_VEC,
   SLUICE_EV_CFG_THR,
   SLUICE_EV_WR_WR,
   SLUICE_EV_RD_RD,
   SLUICE_EV_DROP_COUNT]

/-- R795: MGT_STATUS.EID_SET [0] RO. 1: an EID is assigned -/
def MGT_STATUS_EID_SET : Fld :=
  { off := 0x0, lo := 0, w := 1, acc := .ro, rst := 0 }

/-- R795: MGT_STATUS.I3C [1] RO. 1: I3C in use; 0: SMBus -/
def MGT_STATUS_I3C : Fld :=
  { off := 0x0, lo := 1, w := 1, acc := .ro, rst := 0 }

/-- R795: MGT_STATUS.OVR_MODE [2] RO. As in R793 -/
def MGT_STATUS_OVR_MODE : Fld :=
  { off := 0x0, lo := 2, w := 1, acc := .ro, rst := 0 }

/-- R795: MGT_STATUS.OVR_CH [3] RO. As in R793 -/
def MGT_STATUS_OVR_CH : Fld :=
  { off := 0x0, lo := 3, w := 1, acc := .ro, rst := 0 }

/-- R795: MGT_STATUS.OVR_CEIL [4] RO. As in R793 -/
def MGT_STATUS_OVR_CEIL : Fld :=
  { off := 0x0, lo := 4, w := 1, acc := .ro, rst := 0 }

/-- R795: MGT_STATUS.ALERT [5] RO. As in R770 -/
def MGT_STATUS_ALERT : Fld :=
  { off := 0x0, lo := 5, w := 1, acc := .ro, rst := 0 }

/-- R795: MGT_STATUS.EID [15:8] RO. Endpoint ID -/
def MGT_STATUS_EID : Fld :=
  { off := 0x0, lo := 8, w := 8, acc := .ro, rst := 0 }

/-- R795: MGT_STATUS.MGT_MODE [18:16] RO. Management standing request, encoded as in R47; 0b111 none -/
def MGT_STATUS_MGT_MODE : Fld :=
  { off := 0x0, lo := 16, w := 3, acc := .ro, rst := 7 }

/-- R795: MGT_STATUS.PF0_MODE [21:19] RO. PF0's standing request; 0b111 none -/
def MGT_STATUS_PF0_MODE : Fld :=
  { off := 0x0, lo := 19, w := 3, acc := .ro, rst := 7 }

/-- R795: MGT_SNAP.EPOCH [31:0] RO. Snapshot epoch (R794) -/
def MGT_SNAP_EPOCH : Fld :=
  { off := 0x4, lo := 0, w := 32, acc := .ro, rst := 0 }

/-- R795: MGT_SVC_CEIL.PF0 [15:0] RO. Data-path value -/
def MGT_SVC_CEIL_PF0 : Fld :=
  { off := 0x8, lo := 0, w := 16, acc := .ro, rst := 3277 }

/-- R795: MGT_SVC_CEIL.MGT [31:16] RO. Management value -/
def MGT_SVC_CEIL_MGT : Fld :=
  { off := 0x8, lo := 16, w := 16, acc := .ro, rst := 65535 }

/-- R795: MGT_HOLD.HOLD [31:0] RO. Bit j: channel 32i + j held, i = 0–5 -/
def MGT_HOLD_HOLD : Fld :=
  { off := 0x10, lo := 0, w := 32, acc := .ro, rst := 0, stride := 4, bstep := 0, n := 6 }

/-- R795: MGT_LAMP_IDX.CHANNEL [7:0] RW. Channel 0–191; above 191, MGT_LAMP_DATA reads 0 -/
def MGT_LAMP_IDX_CHANNEL : Fld :=
  { off := 0x30, lo := 0, w := 8, acc := .rw, rst := 0 }

/-- R795: MGT_LAMP_IDX.STR [10:8] RW. String 0–5; 0b110 and 0b111 likewise -/
def MGT_LAMP_IDX_STR : Fld :=
  { off := 0x30, lo := 8, w := 3, acc := .rw, rst := 0 }

/-- R795: MGT_LAMP_DATA.PF0 [15:0] RO. Data-path LAMP_SCEIL value -/
def MGT_LAMP_DATA_PF0 : Fld :=
  { off := 0x34, lo := 0, w := 16, acc := .ro, rst := 65535 }

/-- R795: MGT_LAMP_DATA.MGT [31:16] RO. Management value -/
def MGT_LAMP_DATA_MGT : Fld :=
  { off := 0x34, lo := 16, w := 16, acc := .ro, rst := 65535 }

/-- R795: MGT_CTRL.CNT_CLR [0] WO. 1: clear the counters of this table -/
def MGT_CTRL_CNT_CLR : Fld :=
  { off := 0x38, lo := 0, w := 1, acc := .wo, rst := 0 }

/-- R795: MGT_MSG_CNT.COUNT [31:0] RO. Mazente requests answered -/
def MGT_MSG_CNT_COUNT : Fld :=
  { off := 0x3C, lo := 0, w := 32, acc := .ro, rst := 0 }

/-- R795: MGT_ERR_CNT.COUNT [31:0] RO. Responses with a code other than SUCCESS -/
def MGT_ERR_CNT_COUNT : Fld :=
  { off := 0x40, lo := 0, w := 32, acc := .ro, rst := 0 }

/-- Every field of the management mirror block at 0x0006_0000 (R795). -/
def mgtBlk : List Fld :=
  [MGT_STATUS_EID_SET,
   MGT_STATUS_I3C,
   MGT_STATUS_OVR_MODE,
   MGT_STATUS_OVR_CH,
   MGT_STATUS_OVR_CEIL,
   MGT_STATUS_ALERT,
   MGT_STATUS_EID,
   MGT_STATUS_MGT_MODE,
   MGT_STATUS_PF0_MODE,
   MGT_SNAP_EPOCH,
   MGT_SVC_CEIL_PF0,
   MGT_SVC_CEIL_MGT,
   MGT_HOLD_HOLD,
   MGT_LAMP_IDX_CHANNEL,
   MGT_LAMP_IDX_STR,
   MGT_LAMP_DATA_PF0,
   MGT_LAMP_DATA_MGT,
   MGT_CTRL_CNT_CLR,
   MGT_MSG_CNT_COUNT,
   MGT_ERR_CNT_COUNT]

/-- R765: HK_CTRL.CNT_CLR [0] WO. 1: clear HK_THERM_FAULT_CNT -/
def HK_CTRL_CNT_CLR : Fld :=
  { off := 0x0, lo := 0, w := 1, acc := .wo, rst := 0 }

/-- R765: HK_ROUND.COUNT [31:0] RO. Rounds completed; wraps -/
def HK_ROUND_COUNT : Fld :=
  { off := 0x4, lo := 0, w := 32, acc := .ro, rst := 0 }

/-- R765: HK_THERM_FAULT_CNT.COUNT [31:0] RO. Faulted thermistor conversions -/
def HK_THERM_FAULT_CNT_COUNT : Fld :=
  { off := 0x8, lo := 0, w := 32, acc := .ro, rst := 0 }

/-- R765: HK_DIE.T [15:0] RO. Die temperature (R734), signed, 1/16 °C; d = 0–3 Reach die, d = 4 Confluence -/
def HK_DIE_T : Fld :=
  { off := 0x10, lo := 0, w := 16, acc := .ro, rst := 0, stride := 4, bstep := 0, n := 5 }

/-- R765: HK_DIE.BAND [18:16] RO. Band (R742); 0b101–0b111 never reported -/
def HK_DIE_BAND : Fld :=
  { off := 0x10, lo := 16, w := 3, acc := .ro, rst := 1, stride := 4, bstep := 0, n := 5 }

/-- R765: HK_DIE.WARN [19] RO. Rise warning (R736) -/
def HK_DIE_WARN : Fld :=
  { off := 0x10, lo := 19, w := 1, acc := .ro, rst := 0, stride := 4, bstep := 0, n := 5 }

/-- R765: HK_DIE.THROTTLE [20] RO. Throttle -/
def HK_DIE_THROTTLE : Fld :=
  { off := 0x10, lo := 20, w := 1, acc := .ro, rst := 0, stride := 4, bstep := 0, n := 5 }

/-- R765: HK_DIE.EXCLUDED [25:21] RO. Sensors excluded -/
def HK_DIE_EXCLUDED : Fld :=
  { off := 0x10, lo := 21, w := 5, acc := .ro, rst := 0, stride := 4, bstep := 0, n := 5 }

/-- R765: HK_SENS_IDX.SENSOR [6:0] RW. 24d + s for sensor s of Reach die d; 96 + s for Confluence sensor s; above 103, HK_SENS_DATA reads 0 -/
def HK_SENS_IDX_SENSOR : Fld :=
  { off := 0x30, lo := 0, w := 7, acc := .rw, rst := 0 }

/-- R765: HK_SENS_DATA.T [15:0] RO. Last reading, signed, 1/16 °C -/
def HK_SENS_DATA_T : Fld :=
  { off := 0x34, lo := 0, w := 16, acc := .ro, rst := 0 }

/-- R765: HK_SENS_DATA.VALID [16] RO. Last reading valid (R733) -/
def HK_SENS_DATA_VALID : Fld :=
  { off := 0x34, lo := 16, w := 1, acc := .ro, rst := 0 }

/-- R765: HK_SENS_DATA.EXCLUDED [17] RO. Excluded -/
def HK_SENS_DATA_EXCLUDED : Fld :=
  { off := 0x34, lo := 17, w := 1, acc := .ro, rst := 0 }

/-- R765: HK_SENS_DATA.RATE [31:24] RO. r, signed °C/s, saturating; 0 for Confluence -/
def HK_SENS_DATA_RATE : Fld :=
  { off := 0x34, lo := 24, w := 8, acc := .ro, rst := 0 }

/-- R765: HK_RISE.WARN [7:0] RW. Warning rate, °C/s -/
def HK_RISE_WARN : Fld :=
  { off := 0x38, lo := 0, w := 8, acc := .rw, rst := 8 }

/-- R765: HK_RISE.THROTTLE [15:8] RW. Throttle rate, °C/s; below WARN acts as WARN -/
def HK_RISE_THROTTLE : Fld :=
  { off := 0x38, lo := 8, w := 8, acc := .rw, rst := 20 }

/-- R765: HK_THERM_CFG.NOM [15:0] RW. Nominal thermistor resistance at 25 °C, 10 Ω units (10 kΩ) -/
def HK_THERM_CFG_NOM : Fld :=
  { off := 0x3C, lo := 0, w := 16, acc := .rw, rst := 1000 }

/-- R765: HK_THERM_CFG.BETA [31:16] RW. β, K (3435) -/
def HK_THERM_CFG_BETA : Fld :=
  { off := 0x3C, lo := 16, w := 16, acc := .rw, rst := 3435 }

/-- R765: HK_THERM.T [15:0] RO. Temperature, signed, 1/16 °C, n = 0–31 -/
def HK_THERM_T : Fld :=
  { off := 0x40, lo := 0, w := 16, acc := .ro, rst := 0, stride := 4, bstep := 0, n := 32 }

/-- R765: HK_THERM.VALID [16] RO. As in R740 and R741 -/
def HK_THERM_VALID : Fld :=
  { off := 0x40, lo := 16, w := 1, acc := .ro, rst := 0, stride := 4, bstep := 0, n := 32 }

/-- R765: HK_THERM.FAULT [18:17] RO. Last conversion's fault (R740); 0b00 none -/
def HK_THERM_FAULT : Fld :=
  { off := 0x40, lo := 17, w := 2, acc := .ro, rst := 0, stride := 4, bstep := 0, n := 32 }

/-- R765: HK_RAIL.VALUE [15:0] RO. i = 0–3 Reach core; 4 Confluence core; 5–8 SerDes 0.9 V; 9–12 SerDes 1.2 V; 13–16 DDR5 VDDQ, per Reach … -/
def HK_RAIL_VALUE : Fld :=
  { off := 0xC0, lo := 0, w := 16, acc := .ro, rst := 0, stride := 4, bstep := 0, n := 20 }

/-- R765: HK_CAL_CTRL.GO [0] WO. 1: start a job (R745) -/
def HK_CAL_CTRL_GO : Fld :=
  { off := 0x200, lo := 0, w := 1, acc := .wo, rst := 0 }

/-- R765: HK_CAL_CTRL.KIND [3:1] RW. Kind -/
def HK_CAL_CTRL_KIND : Fld :=
  { off := 0x200, lo := 1, w := 3, acc := .rw, rst := 0 }

/-- R765: HK_CAL_CTRL.ALL [4] RW. 1: every target of the kind -/
def HK_CAL_CTRL_ALL : Fld :=
  { off := 0x200, lo := 4, w := 1, acc := .rw, rst := 0 }

/-- R765: HK_CAL_CTRL.TARGET [12:5] RW. Channel 0–191, or Reach die 0–3 for VERNIER -/
def HK_CAL_CTRL_TARGET : Fld :=
  { off := 0x200, lo := 5, w := 8, acc := .rw, rst := 0 }

/-- R765: HK_CAL_CTRL.DEADLINE [31:16] RW. Deadline, ms (5000); 0 acts as 1 -/
def HK_CAL_CTRL_DEADLINE : Fld :=
  { off := 0x200, lo := 16, w := 16, acc := .rw, rst := 5000 }

/-- R765: HK_CAL_STATUS.BUSY [0] RO. 1 while a job runs -/
def HK_CAL_STATUS_BUSY : Fld :=
  { off := 0x204, lo := 0, w := 1, acc := .ro, rst := 0 }

/-- R765: HK_CAL_STATUS.WRITE_REJECTED [1] W1C. As in R745 -/
def HK_CAL_STATUS_WRITE_REJECTED : Fld :=
  { off := 0x204, lo := 1, w := 1, acc := .w1c, rst := 0 }

/-- R765: HK_CAL_STATUS.KIND [6:4] RO. Kind of the last job -/
def HK_CAL_STATUS_KIND : Fld :=
  { off := 0x204, lo := 4, w := 3, acc := .ro, rst := 0 }

/-- R765: HK_CAL_STATUS.TARGETS [15:8] RO. Targets of the last job, saturating -/
def HK_CAL_STATUS_TARGETS : Fld :=
  { off := 0x204, lo := 8, w := 8, acc := .ro, rst := 0 }

/-- R765: HK_CAL_RESULT.ACCEPTED [7:0] RO. Outcomes of the last job, saturating -/
def HK_CAL_RESULT_ACCEPTED : Fld :=
  { off := 0x208, lo := 0, w := 8, acc := .ro, rst := 0 }

/-- R765: HK_CAL_RESULT.DISAGREE [15:8] RO. CAL_DISAGREE -/
def HK_CAL_RESULT_DISAGREE : Fld :=
  { off := 0x208, lo := 8, w := 8, acc := .ro, rst := 0 }

/-- R765: HK_CAL_RESULT.STARVED [23:16] RO. CAL_STARVED -/
def HK_CAL_RESULT_STARVED : Fld :=
  { off := 0x208, lo := 16, w := 8, acc := .ro, rst := 0 }

/-- R765: HK_CAL_RESULT.REFUSED [31:24] RO. Refused (R746) -/
def HK_CAL_RESULT_REFUSED : Fld :=
  { off := 0x208, lo := 24, w := 8, acc := .ro, rst := 0 }

/-- R765: HK_CAL_IDX.TARGET [7:0] RW. Target whose values HK_CAL_DATA reads -/
def HK_CAL_IDX_TARGET : Fld :=
  { off := 0x20C, lo := 0, w := 8, acc := .rw, rst := 0 }

/-- R765: HK_CAL_IDX.KIND [10:8] RW. Kind -/
def HK_CAL_IDX_KIND : Fld :=
  { off := 0x20C, lo := 8, w := 3, acc := .rw, rst := 0 }

/-- R765: HK_CAL_IDX.WORD [21:16] RW. Word; DARK: sensor; ISENSE: string, 0x4000 = 1.0; ADC: 2k gain, 2k + 1 offset; VERNIER: step, ps -/
def HK_CAL_IDX_WORD : Fld :=
  { off := 0x20C, lo := 16, w := 6, acc := .rw, rst := 0 }

/-- R765: HK_CAL_DATA.VALUE [31:0] RO. Value in use; each read advances WORD by 1 -/
def HK_CAL_DATA_VALUE : Fld :=
  { off := 0x210, lo := 0, w := 32, acc := .ro, rst := 0 }

/-- Every field of the housekeeping block at 0x0007_0000 (R765). -/
def hkBlk : List Fld :=
  [HK_CTRL_CNT_CLR,
   HK_ROUND_COUNT,
   HK_THERM_FAULT_CNT_COUNT,
   HK_DIE_T,
   HK_DIE_BAND,
   HK_DIE_WARN,
   HK_DIE_THROTTLE,
   HK_DIE_EXCLUDED,
   HK_SENS_IDX_SENSOR,
   HK_SENS_DATA_T,
   HK_SENS_DATA_VALID,
   HK_SENS_DATA_EXCLUDED,
   HK_SENS_DATA_RATE,
   HK_RISE_WARN,
   HK_RISE_THROTTLE,
   HK_THERM_CFG_NOM,
   HK_THERM_CFG_BETA,
   HK_THERM_T,
   HK_THERM_VALID,
   HK_THERM_FAULT,
   HK_RAIL_VALUE,
   HK_CAL_CTRL_GO,
   HK_CAL_CTRL_KIND,
   HK_CAL_CTRL_ALL,
   HK_CAL_CTRL_TARGET,
   HK_CAL_CTRL_DEADLINE,
   HK_CAL_STATUS_BUSY,
   HK_CAL_STATUS_WRITE_REJECTED,
   HK_CAL_STATUS_KIND,
   HK_CAL_STATUS_TARGETS,
   HK_CAL_RESULT_ACCEPTED,
   HK_CAL_RESULT_DISAGREE,
   HK_CAL_RESULT_STARVED,
   HK_CAL_RESULT_REFUSED,
   HK_CAL_IDX_TARGET,
   HK_CAL_IDX_KIND,
   HK_CAL_IDX_WORD,
   HK_CAL_DATA_VALUE]

/-- R796: CFG_CTRL.WRITE [0] WO. 1: write record TYPE (R783) -/
def CFG_CTRL_WRITE : Fld :=
  { off := 0x0, lo := 0, w := 1, acc := .wo, rst := 0 }

/-- R796: CFG_CTRL.ACTIVATE [1] WO. 1: activate (R784) -/
def CFG_CTRL_ACTIVATE : Fld :=
  { off := 0x0, lo := 1, w := 1, acc := .wo, rst := 0 }

/-- R796: CFG_CTRL.CNT_CLR [2] WO. 1: clear the counters of this table -/
def CFG_CTRL_CNT_CLR : Fld :=
  { off := 0x0, lo := 2, w := 1, acc := .wo, rst := 0 }

/-- R796: CFG_CTRL.TYPE [11:4] RW. Record type -/
def CFG_CTRL_TYPE : Fld :=
  { off := 0x0, lo := 4, w := 8, acc := .rw, rst := 2 }

/-- R796: CFG_STATUS.BUSY [0] RO. 1 while a record write runs -/
def CFG_STATUS_BUSY : Fld :=
  { off := 0x4, lo := 0, w := 1, acc := .ro, rst := 0 }

/-- R796: CFG_STATUS.WRITE_REJECTED [1] W1C. As in R784 -/
def CFG_STATUS_WRITE_REJECTED : Fld :=
  { off := 0x4, lo := 1, w := 1, acc := .w1c, rst := 0 }

/-- R796: CFG_STATUS.ACTIVATING [2] RO. As in R784 -/
def CFG_STATUS_ACTIVATING : Fld :=
  { off := 0x4, lo := 2, w := 1, acc := .ro, rst := 0 }

/-- R796: CFG_STATUS.ACT_FAILED [3] W1C. As in R785 -/
def CFG_STATUS_ACT_FAILED : Fld :=
  { off := 0x4, lo := 3, w := 1, acc := .w1c, rst := 0 }

/-- R796: CFG_STATUS.RESULT [15:8] RO. Result of PF0's last write (R783) -/
def CFG_STATUS_RESULT : Fld :=
  { off := 0x4, lo := 8, w := 8, acc := .ro, rst := 0 }

/-- R796: CFG_SRC_LO.ADDR [31:0] RW. Source device address [31:0] -/
def CFG_SRC_LO_ADDR : Fld :=
  { off := 0x8, lo := 0, w := 32, acc := .rw, rst := 0 }

/-- R796: CFG_SRC_HI.ADDR [12:0] RW. [44:32] -/
def CFG_SRC_HI_ADDR : Fld :=
  { off := 0xC, lo := 0, w := 13, acc := .rw, rst := 0 }

/-- R796: CFG_LEN.BYTES [22:0] RW. Payload length -/
def CFG_LEN_BYTES : Fld :=
  { off := 0x10, lo := 0, w := 23, acc := .rw, rst := 0 }

/-- R796: CFG_REC_GEN.GEN [31:0] RO. GEN of record k's chosen content, k = 1–4; 0 when none -/
def CFG_REC_GEN_GEN : Fld :=
  { off := 0x20, lo := 0, w := 32, acc := .ro, rst := 0, stride := 8, bstep := 0, n := 4 }

/-- R796: CFG_REC.VALID [2:0] RO. Bit c: copy c valid -/
def CFG_REC_VALID : Fld :=
  { off := 0x24, lo := 0, w := 3, acc := .ro, rst := 0, stride := 8, bstep := 0, n := 4 }

/-- R796: CFG_REC.MATCH [5:3] RO. Bit c: copy c identical to the chosen content -/
def CFG_REC_MATCH : Fld :=
  { off := 0x24, lo := 3, w := 3, acc := .ro, rst := 0, stride := 8, bstep := 0, n := 4 }

/-- R796: CFG_REC.DEFAULT [6] RO. As in R779 -/
def CFG_REC_DEFAULT : Fld :=
  { off := 0x24, lo := 6, w := 1, acc := .ro, rst := 0, stride := 8, bstep := 0, n := 4 }

/-- R796: CFG_FW.SVN [15:0] RO. SVN of the active image -/
def CFG_FW_SVN : Fld :=
  { off := 0x40, lo := 0, w := 16, acc := .ro, rst := 0 }

/-- R796: CFG_FW.SVN_MIN [31:16] RO. Lowest SVN accepted -/
def CFG_FW_SVN_MIN : Fld :=
  { off := 0x40, lo := 16, w := 16, acc := .ro, rst := Config.svnMin }

/-- R796: CFG_FW_GEN.GEN [31:0] RO. GEN of the active image's record -/
def CFG_FW_GEN_GEN : Fld :=
  { off := 0x44, lo := 0, w := 32, acc := .ro, rst := 0 }

/-- R796: CFG_WRITE_CNT.COUNT [31:0] RO. Record writes completed -/
def CFG_WRITE_CNT_COUNT : Fld :=
  { off := 0x48, lo := 0, w := 32, acc := .ro, rst := 0 }

/-- R796: CFG_COPY_FAIL_CNT.COUNT [31:0] RO. Copies left failed (R781) -/
def CFG_COPY_FAIL_CNT_COUNT : Fld :=
  { off := 0x4C, lo := 0, w := 32, acc := .ro, rst := 0 }

/-- Every field of the configuration store block at 0x0008_0000 (R796). -/
def cfgBlk : List Fld :=
  [CFG_CTRL_WRITE,
   CFG_CTRL_ACTIVATE,
   CFG_CTRL_CNT_CLR,
   CFG_CTRL_TYPE,
   CFG_STATUS_BUSY,
   CFG_STATUS_WRITE_REJECTED,
   CFG_STATUS_ACTIVATING,
   CFG_STATUS_ACT_FAILED,
   CFG_STATUS_RESULT,
   CFG_SRC_LO_ADDR,
   CFG_SRC_HI_ADDR,
   CFG_LEN_BYTES,
   CFG_REC_GEN_GEN,
   CFG_REC_VALID,
   CFG_REC_MATCH,
   CFG_REC_DEFAULT,
   CFG_FW_SVN,
   CFG_FW_SVN_MIN,
   CFG_FW_GEN_GEN,
   CFG_WRITE_CNT_COUNT,
   CFG_COPY_FAIL_CNT_COUNT]

/-- R103: HOLD_STATUS.ACTIVE [0] RO. 1 in HOLD -/
def HOLD_STATUS_ACTIVE : Fld :=
  { off := 0x0, lo := 0, w := 1, acc := .ro, rst := 0 }

/-- R103: HOLD_STATUS.HANDOVER [1] RO. 1 from t0 until step 8 of the hand-over table -/
def HOLD_STATUS_HANDOVER : Fld :=
  { off := 0x0, lo := 1, w := 1, acc := .ro, rst := 0 }

/-- R103: HOLD_STATUS.ASSURE [3:2] RO. As in R100 -/
def HOLD_STATUS_ASSURE : Fld :=
  { off := 0x0, lo := 2, w := 2, acc := .ro, rst := 0 }

/-- R103: HOLD_STATUS.UNCERTAIN [4] RO. As in R96 and R98 -/
def HOLD_STATUS_UNCERTAIN : Fld :=
  { off := 0x0, lo := 4, w := 1, acc := .ro, rst := 1 }

/-- R103: HOLD_STATUS.VHOLD_OK [5] RO. 1 while VHOLD is above the stop voltage -/
def HOLD_STATUS_VHOLD_OK : Fld :=
  { off := 0x0, lo := 5, w := 1, acc := .ro, rst := 0 }

/-- R103: HOLD_STATUS.LOG_OK [6] RO. 1 when the last hold log was committed completely -/
def HOLD_STATUS_LOG_OK : Fld :=
  { off := 0x0, lo := 6, w := 1, acc := .ro, rst := 0 }

/-- R103: HOLD_STATUS.CAP_LOW [7] RO. As in R102 -/
def HOLD_STATUS_CAP_LOW : Fld :=
  { off := 0x0, lo := 7, w := 1, acc := .ro, rst := 0 }

/-- R103: HOLD_STATUS.ENTRIES [15:8] RO. Hand-overs started at a t0 since the hold island last started (R843), including those that enter no HOLD … -/
def HOLD_STATUS_ENTRIES : Fld :=
  { off := 0x0, lo := 8, w := 8, acc := .ro, rst := 0 }

/-- R103: HOLD_GAUGE.CHARGE [23:0] RO. Counted charge above the stop voltage, 1 mC units -/
def HOLD_GAUGE_CHARGE : Fld :=
  { off := 0x4, lo := 0, w := 24, acc := .ro, rst := 0 }

/-- R103: HOLD_CAPACITY.CAP [23:0] RW. Charge from full to the stop voltage, 1 mC units; 0 means not known; 0 from each start of the hold island, … -/
def HOLD_CAPACITY_CAP : Fld :=
  { off := 0x8, lo := 0, w := 24, acc := .rw, rst := 0 }

/-- R103: HOLD_REQ.CHARGE [23:0] RW. Charge needed for full assurance, 1 mC units -/
def HOLD_REQ_CHARGE : Fld :=
  { off := 0xC, lo := 0, w := 24, acc := .rw, rst := 0 }

/-- R103: HOLD_CAP_MIN.CHARGE [23:0] RW. Capacity below which CAP_LOW is set, 1 mC units -/
def HOLD_CAP_MIN_CHARGE : Fld :=
  { off := 0x10, lo := 0, w := 24, acc := .rw, rst := 0 }

/-- R103: HOLD_VTHR.VFULL [7:0] RW. Full-charge voltage, 2.00 V + VFULL × 10 mV -/
def HOLD_VTHR_VFULL : Fld :=
  { off := 0x14, lo := 0, w := 8, acc := .rw, rst := 230 }

/-- R103: HOLD_VTHR.VSTOP [15:8] RW. Stop voltage, 2.00 V + VSTOP × 10 mV; values below 0x4B act as 0x4B -/
def HOLD_VTHR_VSTOP : Fld :=
  { off := 0x14, lo := 8, w := 8, acc := .rw, rst := 75 }

/-- R103: HOLD_VTHR.TAPER [23:16] RW. Full-charge current limit, TAPER × 5 mA -/
def HOLD_VTHR_TAPER : Fld :=
  { off := 0x14, lo := 16, w := 8, acc := .rw, rst := 10 }

/-- R103: HOLD_VHOLD.MV [12:0] RO. VHOLD at the last round, 1 mV units -/
def HOLD_VHOLD_MV : Fld :=
  { off := 0x18, lo := 0, w := 13, acc := .ro, rst := 0 }

/-- R103: HOLD_DRAW.ISLAND [11:0] RO. Hold island's own draw in HOLD, mW (R95) -/
def HOLD_DRAW_ISLAND : Fld :=
  { off := 0x1C, lo := 0, w := 12, acc := .ro, rst := Config.islandDraw }

/-- R103: HOLD_DRAW.EXTRA [27:16] RW. Draw in HOLD of board loads powered from VHOLD, mW (R95) -/
def HOLD_DRAW_EXTRA : Fld :=
  { off := 0x1C, lo := 16, w := 12, acc := .rw, rst := 0 }

/-- Every field of the hold block at 0x0009_0000 (R103). -/
def holdBlk : List Fld :=
  [HOLD_STATUS_ACTIVE,
   HOLD_STATUS_HANDOVER,
   HOLD_STATUS_ASSURE,
   HOLD_STATUS_UNCERTAIN,
   HOLD_STATUS_VHOLD_OK,
   HOLD_STATUS_LOG_OK,
   HOLD_STATUS_CAP_LOW,
   HOLD_STATUS_ENTRIES,
   HOLD_GAUGE_CHARGE,
   HOLD_CAPACITY_CAP,
   HOLD_REQ_CHARGE,
   HOLD_CAP_MIN_CHARGE,
   HOLD_VTHR_VFULL,
   HOLD_VTHR_VSTOP,
   HOLD_VTHR_TAPER,
   HOLD_VHOLD_MV,
   HOLD_DRAW_ISLAND,
   HOLD_DRAW_EXTRA]

end Sys2Proof.Machine.R
end

