-- ==== Sys2Proof/WellFormed.lean ====
section
/-!
DEFINITION. Well-formed commands: the operands describe something that can exist. Most operands are bounded by their
types; the checks here are those that a type does not make. `Machine.guarded` stops a command that fails its check.
-/

namespace Sys2Proof

/-- A code that MODE_REQ_UNREQUESTABLE names: not DORMANT, SERVICE or SHOW (spec/02_modes_power_hold.md R47). -/
def modeReqOk (m : Nat) : Bool := 3 ≤ m

/-- The wait of a delay response in ticks, its MARK rounded up to a character boundary within 100 µs
(spec/03_headwater_time.md R124). -/
def delayWaitOk (wait : Nat) : Bool := wait + 16 ≤ 400000

/-- Size of a function's BAR2 (spec/16_host_tenants_sluice.md R637). -/
def bar2Size (t : Nat) : Nat := if t = 0 then 2 ^ 36 else 2 ^ 30

/-- A BAR2 write lies in the BAR and is one write TLP of at most MPS 512 bytes (R635, R637). -/
def aptWriteOk (t ofs len : Nat) : Bool := ofs + len ≤ bar2Size t && len ≤ 512

/-- A BAR2 read lies in the BAR (R637). -/
def aptReadOk (t ofs len : Nat) : Bool := ofs + len ≤ bar2Size t

/-- The reserved CMD codes (spec/19_management_trust.md R772). -/
def reservedCmd (cmd : Nat) : Bool := cmd == 0 || 0x0A ≤ cmd

/-- The command's operands describe something that can exist. -/
def Instr.wellFormed : Instr → Bool
  | .registerWrite _ _ _ => true
  | .powerGood _ _ => true
  | .perstAssert => true
  | .perstDeassert _ => true
  | .startupComplete => true
  | .startupStepTimeout _ => true
  | .modeReqDormant _ => true
  | .modeReqService _ => true
  | .modeReqShow _ => true
  | .modeReqUnrequestable _ m => modeReqOk m
  | .dormantEntered => true
  | .mainOkFall _ => true
  | .railUnderVoltage _ _ => true
  | .holdLogCommitted _ => true
  | .mainOkRise => true
  | .holdExit _ _ => true
  | .vholdStop => true
  | .holdGaugeRound _ => true
  | .gaugeFullCharge => true
  | .holdCapacityWrite _ => true
  | .lockstepDisagree => true
  | .tripLatchClear => true
  | .vddioLoss => true
  | .vddioReturn _ => true
  | .railOutOfRange _ => true
  | .chArm _ _ => true
  | .chDisarm _ => true
  | .chStop _ => true
  | .chClear _ => true
  | .chReset _ => true
  | .channelRunning _ => true
  | .drainComplete _ => true
  | .drainTimeout _ => true
  | .timeSet => true
  | .timeSetLoad => true
  | .timeStepNow => true
  | .timeSwitch => true
  | .timeCntClr => true
  | .timeMessageSend => true
  | .delayReqSend _ => true
  | .delayReqReceived _ wait _ => delayWaitOk wait
  | .delayRespReceived _ _ _ => true
  | .delayRespTimeout _ => true
  | .timeMessageReceived _ _ _ => true
  | .hwLinkLost _ => true
  | .hwInputTimeout _ => true
  | .srcHoldoverSwitch => true
  | .timeRevert => true
  | .stepPendingApply => true
  | .holdoverExpired => true
  | .refLost => true
  | .refRestored => true
  | .launchClockUnlock _ => true
  | .fetchReadDone _ _ _ _ => true
  | .lineDeadline _ _ _ _ => true
  | .frameComposed _ _ => true
  | .flipInstant _ => true
  | .formatDarkEnd _ => true
  | .rangeDarkEnd _ => true
  | .preempt _ => true
  | .compCntClr _ => true
  | .compLutDataAccess _ _ => true
  | .compBrightWrite _ _ _ => true
  | .wbFrameDone _ => true
  | .poolSlotFreed _ _ => true
  | .readyTimeNoSlot _ => true
  | .planeCntClr _ => true
  | .vNop _ => true
  | .vHalt _ => true
  | .vLdi _ => true
  | .vMov _ => true
  | .vAdd _ => true
  | .vSub _ => true
  | .vAnd _ => true
  | .vOr _ => true
  | .vXor _ => true
  | .vShl _ => true
  | .vShr _ => true
  | .vCmp _ => true
  | .vBr _ => true
  | .vBrc _ => true
  | .vCall _ => true
  | .vRet _ => true
  | .vLd _ => true
  | .vSt _ => true
  | .vSig _ => true
  | .vPlane _ => true
  | .vLine _ => true
  | .vReset _ => true
  | .vLamp _ => true
  | .vSample _ => true
  | .vAt _ => true
  | .vAdvt _ => true
  | .vWaitt _ => true
  | .waittResume _ => true
  | .vWaitix _ => true
  | .waitixResume _ => true
  | .waitixTimeout _ => true
  | .vSwapf _ => true
  | .vFrame _ => true
  | .vGap _ => true
  | .gapStartUndecided _ => true
  | .vCeil _ => true
  | .vDarkrel _ => true
  | .vLeveeCommit _ => true
  | .vLeveePreempt _ => true
  | .vLeveeDeactivate _ => true
  | .vWave _ => true
  | .vRill _ => true
  | .vFadd _ => true
  | .vFsub _ => true
  | .vFmul _ => true
  | .vFma _ => true
  | .vFmin _ => true
  | .vFmax _ => true
  | .vFclp _ => true
  | .vFabs _ => true
  | .vFneg _ => true
  | .vFcvt _ => true
  | .vFlut _ => true
  | .vIn _ => true
  | .vOut _ => true
  | .vWaits _ => true
  | .vChk _ => true
  | .vTrc _ => true
  | .seqWatchdog _ => true
  | .emitWindowOpen _ => true
  | .seqQueueResume _ => true
  | .seqSwapRequest _ => true
  | .seqCntClr _ => true
  | .seqXcntClr _ => true
  | .decisionInstant _ => true
  | .stagingStart _ => true
  | .stagingComplete _ => true
  | .stageNotInTime _ _ => true
  | .poolReadPoison _ _ => true
  | .tokenLeadMiss _ => true
  | .release _ _ => true
  | .planeIntervalEnd _ => true
  | .syncSend _ => true
  | .withdrawalComplete _ => true
  | .avsPeriod _ _ => true
  | .weirCntClr _ => true
  | .stringClear _ _ => true
  | .lampCntClr _ => true
  | .lampCurveDataAccess _ _ => true
  | .lampSceilWrite _ _ _ _ => true
  | .svcCeilWrite _ _ => true
  | .fadeDone _ _ => true
  | .derateSourceRestore _ _ => true
  | .rillFrameStart _ => true
  | .rillAckTimeout _ _ => true
  | .rillReadbackDiff _ => true
  | .rillReadbackTrip _ => true
  | .bypassDarkFrame _ _ => true
  | .slotStart _ => true
  | .slotStop _ => true
  | .slotResume _ _ => true
  | .slotSafe _ => true
  | .slotFree _ => true
  | .slotHoldExpired _ => true
  | .slotRampExpired _ => true
  | .loopSampleTick _ => true
  | .loopRecordComplete _ => true
  | .loopOverrunLimit _ => true
  | .loopBindDataAccess _ _ _ => true
  | .loopSpDataWrite _ _ _ => true
  | .loopClCntClr _ _ => true
  | .loopCoreReset _ _ => true
  | .loopCoreMigrate _ _ => true
  | .coreCheckFailure _ _ _ _ => true
  | .loopMigrationDone _ _ => true
  | .eddyArm _ _ => true
  | .eddyTrigger _ _ => true
  | .eddyDisarm _ _ => true
  | .eddyFrozen _ _ => true
  | .eddyArchived _ _ => true
  | .wheelRun _ => true
  | .wheelStop _ => true
  | .scanStart _ => true
  | .scanStop _ => true
  | .moveCntClr _ => true
  | .wheelStopped _ => true
  | .wheelSpeedTimeout _ => true
  | .wheelLockLost _ => true
  | .wheelInterlockDwell _ => true
  | .wheelInterlockRelease _ => true
  | .wheelIndexLost _ => true
  | .sweepStep _ => true
  | .scanLocked _ => true
  | .scanAmpStale _ => true
  | .scanRundownDone _ => true
  | .scanStopped _ => true
  | .portEnable _ => true
  | .portDisable _ => true
  | .ephyRetrain _ => true
  | .txSleepEnter _ => true
  | .txSleepExit _ => true
  | .loopbackMode _ _ => true
  | .loopbackGo _ _ => true
  | .ephyCntClr _ => true
  | .ephyTxeqWrite _ _ _ => true
  | .detectTest _ _ => true
  | .trainingSetReceived _ _ _ _ _ _ => true
  | .rateTimeout _ => true
  | .lockStateEnd _ _ => true
  | .polarityDone _ => true
  | .alignmentMarkerReceived _ _ _ _ _ _ _ => true
  | .trainingTimeout _ => true
  | .identTimeout _ => true
  | .alignmentMarkerSend _ => true
  | .laneLost _ _ _ _ => true
  | .widthAckTimeout _ => true
  | .portLossTimeout _ => true
  | .laneQualified _ _ => true
  | .fomUpdate _ _ => true
  | .laneMarginal _ _ => true
  | .rxIdleEnter _ => true
  | .rxWake _ => true
  | .wakeTimeout _ => true
  | .cfgResp _ _ _ _ _ => true
  | .cfgTimeout _ _ => true
  | .telemPacket _ _ _ => true
  | .statusRecord _ _ _ _ _ _ _ => true
  | .lampTempRecord _ _ => true
  | .tickRecord _ _ _ _ => true
  | .sampleRecord _ _ _ _ _ => true
  | .indexRecord _ _ _ _ => true
  | .driverRecord _ _ _ _ _ _ => true
  | .linkqRecord _ _ => true
  | .faultRecord _ _ => true
  | .telemStale _ => true
  | .parkAck _ _ _ => true
  | .parkResend _ => true
  | .parkTimeout _ => true
  | .retrainReq _ _ _ _ => true
  | .widthReq _ _ _ _ => true
  | .widthAck _ _ _ => true
  | .retrainAck _ _ _ => true
  | .passThroughRequest _ => true
  | .eprotCntClr _ => true
  | .dramRead _ _ _ _ _ _ _ _ => true
  | .dramWrite _ _ _ _ _ _ => true
  | .dramPartialWrite _ _ _ _ _ _ => true
  | .requestAged _ => true
  | .refreshDue _ _ _ => true
  | .retrainPauseDue _ _ _ _ => true
  | .retrainPauseEnd _ _ _ => true
  | .pauseForced _ _ _ => true
  | .selfRefreshEntry _ _ _ => true
  | .ddrAlert _ _ _ _ _ => true
  | .fullRetrainDone _ _ _ => true
  | .ddrThermalRead _ _ _ => true
  | .initBlockDone _ => true
  | .scrubPassEnd _ _ => true
  | .bucketLeak _ => true
  | .ddrMigrate _ _ _ => true
  | .rankMigrationEnd _ _ => true
  | .ddrCntClr _ _ => true
  | .ddrDieCntClr _ => true
  | .ddrDieWqWrite _ _ _ => true
  | .apertureWrite t ofs bytes => aptWriteOk t ofs bytes.length
  | .apertureRead t ofs len => aptReadOk t ofs len
  | .apertureBaseWrite _ _ => true
  | .segmentWrite _ _ _ _ => true
  | .ringEnable _ _ => true
  | .ringDisable _ _ => true
  | .sqDoorbell _ _ _ => true
  | .ringRightsLost _ _ => true
  | .cqHeadWrite _ _ _ => true
  | .cqIrqTimer _ _ => true
  | .ringNop _ _ => true
  | .surfReg _ _ => true
  | .surfDereg _ _ => true
  | .layerUpdate _ _ => true
  | .commit _ _ => true
  | .fenceWait _ _ => true
  | .fenceWaitPoll _ _ => true
  | .fenceWaitDeadline _ _ => true
  | .progLoad _ _ => true
  | .progLoadLoop _ _ => true
  | .bankSwap _ _ => true
  | .clipPlay _ _ => true
  | .clipStop _ _ => true
  | .statusRead _ _ => true
  | .grant _ _ => true
  | .revoke _ _ => true
  | .preemptCmd _ _ => true
  | .sluiceRateInterval _ _ => true
  | .sluiceCapWrite _ _ => true
  | .sluiceTcntClr _ => true
  | .eventRingEnable _ => true
  | .eventRingRead _ _ => true
  | .flrVf _ => true
  | .pf0LinkReset _ => true
  | .d2dCrcError _ _ _ _ => true
  | .d2dRetrain _ _ => true
  | .d2dRetrainCmd _ _ => true
  | .d2dRetrainDone _ _ _ _ _ => true
  | .d2dModuleRetry _ _ => true
  | .d2dCntClr _ => true
  | .fabCntClr => true
  | .cdcResync _ _ => true
  | .cdcResyncRetry _ _ => true
  | .lockAcquire _ _ => true
  | .lockRelease _ _ => true
  | .lockClearBroken _ _ => true
  | .lockForce _ _ => true
  | .lockCntClr => true
  | .lockLeaseExpired _ => true
  | .hkSlotEnd _ _ _ => true
  | .sensorExcluded _ => true
  | .thermRestored _ => true
  | .hkCntClr => true
  | .calGo _ => true
  | .calRunDone _ _ => true
  | .calDeadline => true
  | .vernierApply _ => true
  | .hkCalDataRead => true
  | .pipeSoftFailure _ _ => true
  | .pipeHardFailure _ _ => true
  | .oxbowRequest _ _ => true
  | .oxbCntClr _ => true
  | .oxbowLoaded _ => true
  | .oxbowFrameCompare _ _ _ _ => true
  | .oxbowSwitch _ => true
  | .oxbowSwitched _ => true
  | .deviceRecordWrite _ => true
  | .recordCopyDone _ => true
  | .recordRewrite _ _ _ => true
  | .cfgRecordWrite _ => true
  | .cfgActivate => true
  | .cfgCntClr => true
  | .fwImageStart => true
  | .fwSelfTestDone _ => true
  | .fwSelfTestTimeout => true
  | .regRead _ _ _ => true
  | .regWrite _ _ _ _ => true
  | .status _ => true
  | .logRead _ _ _ => true
  | .recRead _ _ _ _ _ => true
  | .recWrite _ _ _ _ _ => true
  | .fwActivate _ => true
  | .releaseMgt _ _ _ _ => true
  | .resetEndpoint _ => true
  | .mgtInvalidCmd _ cmd => reservedCmd cmd
  | .pldmRequest _ => true
  | .spdmRequest _ _ => true
  | .i3cRstact => true
  | .i3cDynamicAddress => true
  | .setEndpointId _ => true
  | .mgtCntClr => true
  | .dieReset _ => true
  | .dieRelease _ => true
  | .dieLeaveReset _ => true
  | .dieReady _ => true
  | .dieReadyTimeout _ => true
  | .registerPairRead _ _ => true
  | .hwCharacterLock _ => true
  | .derateTelemetryStale _ _ => true
  | .holdIslandStart _ => true
  | .vfEnable => true

end Sys2Proof
end

