-- ==== Sys2Proof/Machine/Ops.lean ====
section
/-!
DEFINITION. The named operations over the state: sparse tables, registers, memory, events, and the frame `run` into
which every command's effect is put.
-/

namespace Sys2Proof.Machine
open Sys2Proof

/-! ### Sparse tables -/

/-- The value under key `k`, `d` when the table lists none. -/
def tget {α : Type} (d : α) (k : Nat) : Tbl α → α
  | [] => d
  | (k', v) :: t => if k' = k then v else tget d k t

/-- The table without key `k`. -/
def terase {α : Type} (k : Nat) : Tbl α → Tbl α
  | [] => []
  | (k', v) :: t => if k' = k then terase k t else (k', v) :: terase k t

/-- The table with `(k, v)` put before the first larger key. -/
def tins {α : Type} (k : Nat) (v : α) : Tbl α → Tbl α
  | [] => [(k, v)]
  | (k', v') :: t => if k < k' then (k, v) :: (k', v') :: t else (k', v') :: tins k v t

/-- The table with `v` under key `k`; the default removes the entry. -/
def tset {α : Type} [DecidableEq α] (d : α) (k : Nat) (v : α) (t : Tbl α) : Tbl α :=
  if v = d then terase k t else tins k v (terase k t)

/-- The keys rise strictly and no value is the default. -/
def twf {α : Type} [DecidableEq α] (d : α) : Tbl α → Bool
  | [] => true
  | [(_, v)] => v != d
  | (k, v) :: (k', v') :: t => k < k' && v != d && twf d ((k', v') :: t)

/-! ### Blocks of registers (R801 to R806) -/

/-- A duration of one nanosecond, microsecond or millisecond in ticks of 250 ps (R7). -/
abbrev ns : Nat := 4
abbrev us : Nat := 4000
abbrev ms : Nat := 4000000

/-- The CHANNEL of an event that is tied to no channel (R19). -/
abbrev noCh : Nat := 0xFFFF

abbrev hubB : Nat := 0x0
abbrev timeB : Nat := 0x10000
abbrev healthB : Nat := 0x20000
abbrev lockB (n : Nat) : Nat := 0x30000 + 0x10 * n
abbrev lockUnitB : Nat := 0x31000
abbrev fabB : Nat := 0x38000
abbrev sluiceB : Nat := 0x40000
abbrev slDieB (d : Nat) : Nat := 0x40100 + 0x40 * d
abbrev chResB (n : Nat) : Nat := 0x41000 + 0x10 * n
abbrev mgtB : Nat := 0x60000
abbrev hkB : Nat := 0x70000
abbrev cfgB : Nat := 0x80000
abbrev holdB : Nat := 0x90000
abbrev chB (n : Nat) : Nat := 0x1000000 + 0x4000 * n
abbrev fetchB (n k : Nat) : Nat := chB n + 0x400 + 0x20 * k
abbrev compB (n k : Nat) : Nat := chB n + 0x800 + 0x40 * k
abbrev strB (n s : Nat) : Nat := chB n + 0x1860 + 0x20 * s
abbrev bypB (n i : Nat) : Nat := chB n + 0x1920 + 8 * i
abbrev dieB (d : Nat) : Nat := 0x2000000 + 0x100000 * d
abbrev d2dB (d : Nat) : Nat := dieB d + 0x200
abbrev ddrB (d m : Nat) : Nat := dieB d + 0x10000 + 0x2000 * m
abbrev ddrDieB (d : Nat) : Nat := dieB d + 0x20000
abbrev ephyB (n : Nat) : Nat := dieB (n / 48) + 0x30000 + 0x400 * (n % 48)
abbrev laneB (n l : Nat) : Nat := ephyB n + 0x40 + 0x10 * l
abbrev clB (d cl : Nat) : Nat := dieB d + 0x40000 + 0x1000 * cl
abbrev coreB (d c : Nat) : Nat := clB d (c / 4) + 0x100 + 0x40 * (c % 4)
abbrev slotB (d c s : Nat) : Nat := clB d (c / 4) + 0x800 + 0x40 * (8 * (c % 4) + s)
abbrev oxbB (d : Nat) : Nat := dieB d + 0x60000
abbrev eddyB (d cl : Nat) : Nat := dieB d + 0x70000 + 0x40 * cl
/-- Base of VF `t`'s BAR0 in the model's register space; it is no address of PF0 BAR0. -/
abbrev vfB (t : Nat) : Nat := 0x10000000 + 0x100000 * t
abbrev evRingB (t : Nat) : Nat := if t = 0 then 0x50000 else vfB t + 0x30000
abbrev ringB (t r : Nat) : Nat := if t = 0 then 0x3000000 + 0x40 * r else vfB t + 0x40 * r
abbrev aptB (t : Nat) : Nat := if t = 0 then 0x3000400 else vfB t + 0x100
abbrev tenB (t : Nat) : Nat := 0x3000000 + 0x1000 * t

/-! ### Registers -/

/-- The current value of instance `i` of field `f` of the block at `b`. -/
def rd (s : State) (b : Nat) (f : Fld) (i : Nat := 0) : Nat := tget (f.reset i) (f.key b i) s.regs

/-- One-bit field as a truth value. -/
def rdB (s : State) (b : Nat) (f : Fld) (i : Nat := 0) : Bool := rd s b f i == 1

/-- Set a field, keeping its width. -/
def wr (b : Nat) (f : Fld) (v : Nat) (s : State) (i : Nat := 0) : State :=
  { s with regs := tset (f.reset i) (f.key b i) (v % 2 ^ f.w) s.regs }

/-- Set a one-bit field. -/
def wrB (b : Nat) (f : Fld) (v : Bool) (s : State) (i : Nat := 0) : State := wr b f (b2n v) s i

/-- Add to a counter that stays at its largest value. -/
def bump (b : Nat) (f : Fld) (s : State) (k : Nat := 1) (i : Nat := 0) : State :=
  wr b f (satU f.w (rd s b f i + k)) s i

/-- The value in effect of a shadowed field (R11). -/
def ef (s : State) (b : Nat) (f : Fld) (i : Nat := 0) : Nat := tget (f.reset i) (f.key b i) s.eff

/-- Put a value into effect for a shadowed field. -/
def setEf (b : Nat) (f : Fld) (v : Nat) (s : State) (i : Nat := 0) : State :=
  { s with eff := tset (f.reset i) (f.key b i) (v % 2 ^ f.w) s.eff }

/-- Both words of a register pair. -/
def rdPair (s : State) (b : Nat) (lo hi : Fld) (i : Nat := 0) : Nat :=
  rd s b lo i * 2 ^ lo.lo + rd s b hi i * 2 ^ 32

/-- Return every field of a list to its reset value. -/
def resetFlds (b : Nat) (fs : List Fld) (s : State) : State :=
  fs.foldl (fun s f => (List.range f.n).foldl (fun s i => wr b f (f.reset i) s i) s) s

/-- Return everything stored for keys in `lo ≤ address < hi` to reset, but for the fields of `keep` in block `kb`. -/
def resetRange (lo hi : Nat) (s : State) : State :=
  { s with
    regs := s.regs.filter (fun e => !(lo * 32 ≤ e.1 && e.1 < hi * 32))
    eff := s.eff.filter (fun e => !(lo * 32 ≤ e.1 && e.1 < hi * 32)) }

/-- The Ehriz port whose transmitter sends an output. -/
def Out.port : Out → Option Nat
  | .park n _ | .cancel n _ _ | .sync n _ _ | .stageData n _ _ _ _ _ | .chunk n _ _ _ _ | .launchPacket n _
  | .launchSet n _ _ | .cfgRequest n _ _ _ _ | .linkSet n _ _ _ _ | .marker n _ _ _ | .idlePair n | .idle n
  | .train n _ _ _ => some n
  | _ => none

/-- What a transmitter sends on its way into or out of electrical idle. -/
def Out.atIdle : Out → Bool
  | .idle _ | .train _ _ _ _ => true
  | _ => false

/-- The lanes of port `n`: in use are those of LANES that are good; being trained, in IDENT and UP, the excluded ones, and
before that all four. -/
def laneView (s : State) (n : Nat) : LaneView :=
  let rev := rdB s (ephyB n) R.EPHY_STATUS_REVERSED
  let mask := rd s (ephyB n) R.EPHY_STATUS_LANES &&& rd s (ephyB n) R.EPHY_STATUS_GOOD
  let phys := fun l => if rev then 3 - l else l
  let up := rd s (ephyB n) R.EPHY_STATUS_WIDTH != 0
  { use := (bitList 4 mask).map (fun l => (phys l, l))
    training := ([0, 1, 2, 3].filter (fun l => !up || rdB s (laneB n l) R.EPHY_LSTAT_EXCLUDED)).map (fun l => (l, phys l))
    next := (tget {} n s.ports).nextChar }

/-- A crossing carries traffic: it does not wait for a resynchronisation (R708). Location 0 is the Confluence die, 1 + d
Reach die d; the crossings are numbered as R726 and R727 number them. -/
def crossUp (s : State) (loc i : Nat) : Bool := (tget ({} : Cross) (64 * loc + i) s.crosses).since == 0

/-- Something leaves the block, with what a port's lanes carry for it. A transmitter held in electrical idle sends nothing
(R43, R82, R551), nor does one whose crossing waits for its resynchronisation (R708). -/
def emitOut (o : Out) (s : State) : State :=
  { s with out := match o.port with
    | none => s.out ++ [o]
    | some n =>
      if !s.hub.portsOn || !crossUp s (1 + n / 48) (16 + n % 48) || (rdB s (ephyB n) R.EPHY_STATUS_TX_IDLE && !o.atIdle) then s.out
      else
        match laneChars (laneView s n) o with
        | [] => s.out ++ [o]
        | l => s.out ++ [o, .lanes n l] }

/-- Apply an effect when a condition holds. -/
def when_ (c : Bool) (f : State → State) (s : State) : State := if c then f s else s

/-- Apply an effect for each element of a list, first to last. -/
def each {α : Type} (l : List α) (f : α → State → State) (s : State) : State := l.foldl (fun s a => f a s) s

/-- The channels, dies, and so on, of the package. -/
def channels : List Nat := List.range 192
def dies : List Nat := List.range 4
def channelsOf (d : Nat) : List Nat := (List.range 48).map (48 * d + ·)

/-- A fresh value that the specification does not state, below `2 ^ w`. -/
def draw (w : Nat) (s : State) : Nat × State :=
  (Config.freeValue s.free % 2 ^ w, { s with free := s.free + 1 })

/-! ### Modes and channel states -/

/-- The device modes (R5, R47). -/
inductive Mode where
  | dormant | service | show_ | degraded | hold | tripped
deriving DecidableEq, Repr

/-- Encoding of R47. -/
def Mode.code : Mode → Nat
  | .dormant => 0 | .service => 1 | .show_ => 2 | .degraded => 3 | .hold => 4 | .tripped => 5

/-- Decoding of R47; the codes above TRIPPED are never held. -/
def Mode.ofCode : Nat → Mode
  | 0 => .dormant | 1 => .service | 2 => .show_ | 3 => .degraded | 4 => .hold | _ => .tripped

def State.mode (s : State) : Mode := Mode.ofCode (rd s hubB R.HUB_MODE_MODE)

/-- The channel states (R6, R71). -/
inductive ChState where
  | off | armed | running | draining | faulted
deriving DecidableEq, Repr

def ChState.code : ChState → Nat
  | .off => 0 | .armed => 1 | .running => 2 | .draining => 3 | .faulted => 4

def ChState.ofCode : Nat → ChState
  | 0 => .off | 1 => .armed | 2 => .running | 3 => .draining | _ => .faulted

def State.chState (s : State) (n : Nat) : ChState := ChState.ofCode (rd s (chB n) R.CH_STATUS_STATE)

/-! ### Memory (chapter 15) -/

/-- The die of a device address and its die offset (R598). -/
def dieOf (a : Nat) : Nat := a / 2 ^ 43 % 4
def dieOfs (a : Nat) : Nat := a % 2 ^ 43

/-- A device address lies in installed DRAM (R598). -/
def installed (s : State) (a : Nat) : Bool :=
  a < 2 ^ 45 && rdB s (ddrDieB (dieOf a)) R.DDR_DIE_STATUS_MEM_OK
    && dieOfs a < rd s (ddrDieB (dieOf a)) R.DDR_DIE_CAP_GIB * 2 ^ 30

/-- Parity of the bits of `x` below bit 64. -/
def parity (x : Nat) : Nat := ((List.range 64).filter (bitOf x)).length % 2

/-- Mask M_i of a die (R600). -/
def cmask (s : State) (d i : Nat) : Nat :=
  rd s (ddrDieB d) R.DDR_DIE_CMASK_LO_MASK i + rd s (ddrDieB d) R.DDR_DIE_CMASK_HI_MASK i * 2 ^ 32

/-- Bit c_i of an address. -/
def cbit (s : State) (a i : Nat) : Nat := parity (dieOfs a &&& cmask s (dieOf a) i)

/-- DDR5 channel number of an address: c_3 c_2 c_1 (R600). -/
def chanOf (s : State) (a : Nat) : Nat := cbit s a 1 + 2 * cbit s a 2 + 4 * cbit s a 3

/-- The channel of an address has failed (R625). -/
def chanFailed (s : State) (a : Nat) : Bool := rd s (ddrB (dieOf a) (chanOf s a)) R.DDR_STATUS_STATE == 5

/-- A granule that an access reaches: it lies in installed DRAM, on a channel that has not failed. -/
def reachable (s : State) (g : Nat) : Bool := installed s (64 * g) && !chanFailed s (64 * g)

/-- The granules of 64 bytes that `len` bytes from `a` touch, as granule numbers. -/
def granules (a len : Nat) : List Nat :=
  if len = 0 then [] else (List.range ((a + len - 1) / 64 + 1 - a / 64)).map (a / 64 + ·)

/-- Every byte from `a` on lies in installed DRAM. -/
def installedAll (s : State) (a len : Nat) : Bool := (granules a len).all (fun g => installed s (64 * g))

/-- A byte of the memory before the present step's writes. -/
def memByte (m : List Host.Cell) (a : Nat) : Byte := tget 0 a m

/-- The newest queued write to byte `a`, if any. -/
def queuedByte (a : Nat) : List MemWrite → Option Byte
  | [] => none
  | w :: t =>
    match queuedByte a t with
    | some b => some b
    | none => if w.addr ≤ a && a < w.addr + w.bytes.length then w.bytes[a - w.addr]? else none

/-- A byte of memory as the block sees it within a step. -/
def loadByte (s : State) (a : Nat) : Byte := (queuedByte a s.memq).getD (memByte s.mem a)

def loadBytes (s : State) (a len : Nat) : List Byte := (List.range len).map (fun i => loadByte s (a + i))

/-- A little-endian value of `len` bytes. -/
def loadN (s : State) (a len : Nat) : Nat := leVal (loadBytes s a len)

/-- Granule `g` reads as poison: it lies outside installed DRAM (R599), its channel has failed (R625) or it carries the
marker (R620). -/
def poisoned (s : State) (g : Nat) : Bool := !reachable s g || tget 0 g s.poison == 1

def poisonedAny (s : State) (a len : Nat) : Bool := (granules a len).any (poisoned s)

/-- Queue a write of bytes. Granules outside installed DRAM are dropped (R599), as are those of a failed channel (R625);
a granule written whole loses the poison marker (R620). -/
def store (a : Nat) (bs : List Byte) (s : State) : State :=
  { s with
    memq := s.memq ++ (granules a bs.length).filterMap (fun g =>
      let lo := max a (64 * g); let hi := min (a + bs.length) (64 * g + 64)
      if reachable s g then some { addr := lo, bytes := (bs.drop (lo - a)).take (hi - lo) } else none)
    poison := (granules a bs.length).foldl (fun p g =>
      if a ≤ 64 * g && 64 * g + 64 ≤ a + bs.length && reachable s g then tset 0 g 0 p else p) s.poison }

/-- Write bytes into the memory list. -/
def memWrite (a : Nat) : List Byte → List Host.Cell → List Host.Cell
  | [], m => m
  | b :: t, m => memWrite (a + 1) t (tset 0 a b m)

/-- The memory list is in its canonical form. -/
def Memory.wf (m : List Host.Cell) : Bool := twf 0 m

/-! ### Segment tables (R641) -/

/-- Entry `e` of tenant `t` covers the 64 KiB unit `u` with the right. -/
def segEntry (s : State) (t e : Nat) (write : Bool) (u : Nat) : Bool :=
  rdB s (tenB t) R.SLUICE_TSEG0_V e
    && rd s (tenB t) R.SLUICE_TSEG0_BASE e ≤ u && u ≤ rd s (tenB t) R.SLUICE_TSEG1_LIMIT e
    && (if write then rdB s (tenB t) R.SLUICE_TSEG0_W e else rdB s (tenB t) R.SLUICE_TSEG0_R e)

/-- Function `t` has the right on every byte of `len` bytes from `a`; PF0 needs none (R162, R641). -/
def segOk (s : State) (t : Nat) (write : Bool) (a len : Nat) : Bool :=
  t == 0 || len == 0 ||
    (List.range ((a + len - 1) / 65536 + 1 - a / 65536)).all (fun i =>
      (List.range 256).any (fun e => segEntry s t e write (a / 65536 + i)))

/-! ### Events (R19, R20, R678 to R680) -/

/-- Owner of the channel's sequencer (R663). -/
def seqOwner (s : State) (n : Nat) : Nat := (tget ({} : SeqSt) n s.seqs).owner

/-- Tenants with a grant on the channel. -/
def tenantsOn (s : State) (n : Nat) : List Nat :=
  ((s.grants.filter (fun g => g.channel == n && g.tenant != 0)).map (·.tenant)).dedup

/-- Holder of a layer of a channel: the tenant whose grant names it, else PF0 (R661). -/
def layerHolder (s : State) (n k : Nat) : Nat :=
  match s.grants.find? (fun g => g.channel == n && g.tenant != 0 && bitOf g.layers k && k < 8) with
  | some g => g.tenant
  | none => 0

/-- The VF rings that receive an event (R678). -/
def vfRoutes (s : State) (code ch arg : Nat) : List Nat :=
  let l :=
    if code = 0x0110 || code = 0x0111 || code = 0x0301 || code = 0x0305 || code = 0x0404 || code = 0x0405
        || code = 0x0409 then tenantsOn s ch
    else if code = 0x0304 then if layerHolder s ch (arg % 16) = 0 then [] else tenantsOn s ch
    else if code = 0x0302 || code = 0x0303 || code = 0x0402 || code = 0x0403 then [layerHolder s ch (arg % 16)]
    else if code = 0x0401 then [arg / 65536]
    else if code / 256 = 5 || code / 256 = 6 || (code / 256 = 7 && code != 0x0707 && code != 0x0708)
        || code = 0x0803 || code = 0x0804 || code = 0x0A01 || code = 0x0A02 || code = 0x0A05 || code = 0x0A06
        || code = 0x0B05 || code = 0x0C01 then if ch < 192 then [seqOwner s ch] else []
    else if code = 0x0E03 || code = 0x0E04 || code = 0x0E05 || code = 0x0E06 || code = 0x0E08 then [arg % 512]
    else []
  l.filter (fun t => 1 ≤ t && t ≤ 256)

/-- Raise an event with a stamp of its own. In HOLD the event is written to the hold log (R89). -/
def raiseAt (stamp code ch arg : Nat) (s : State) : State :=
  let e : Event := { stamp, code, channel := ch, arg := arg % 2 ^ 32 }
  if s.mode = .hold then { s with hub := { s.hub with holdLog := s.hub.holdLog ++ [e] } }
  else { s with evq := s.evq ++ [{ dest := 0 :: vfRoutes s code ch arg, ev := e }] }

/-- Raise an event at the current HT. -/
def raise (code ch arg : Nat) (s : State) : State := raiseAt s.ht code ch arg s

/-- Raise an event for given rings besides the routing table (an event that names a function). -/
def raiseTo (dest : List Nat) (code ch arg : Nat) (s : State) : State :=
  { s with evq := s.evq ++ [{ dest, ev := { stamp := s.ht, code, channel := ch, arg := arg % 2 ^ 32 } }] }

/-- One second in device ticks. -/
abbrev second : Nat := 4000000000

def rateOf (s : State) (key : Nat) : Rate := tget {} key s.rates
def setRate (key : Nat) (r : Rate) (s : State) : State := { s with rates := tset {} key r s.rates }

/-- Raise the event of the occurrences that wait under a key, if its period has passed since the last one. -/
def rateFlush (key : Nat) (s : State) : State :=
  let r := rateOf s key
  if r.n = 0 || (r.last != 0 && s.tick + 1 < r.last + (if r.per = 0 then second else r.per)) then s
  else
    let e := if r.w = 0 then r.arg else r.arg + satU r.w r.n * 2 ^ r.lo
    raiseAt r.stamp r.code r.ch e (setRate key { last := s.tick + 1, per := r.per } s)

/-- An occurrence whose event is raised at most once in a period, 0 for one second: the count since the last event goes
to bits `lo` up of the argument, `w` of them. -/
def raiseRate (key code ch arg lo w : Nat) (s : State) (per : Nat := 0) : State :=
  let r := rateOf s key
  let r := if r.n = 0 then { r with stamp := s.ht, code, ch, arg, lo, w, per } else r
  rateFlush key (setRate key { r with n := r.n + 1 } s)

/-- Put an event after every event whose code is not larger. -/
def qins (q : Queued) : List Queued → List Queued
  | [] => [q]
  | p :: t => if q.ev.code < p.ev.code then q :: p :: t else p :: qins q t

/-- Events of one instant in ascending code order (R20), those of one code in the order raised. -/
def qsort (l : List Queued) : List Queued := l.foldl (fun acc q => qins q acc) []

/-- The 16-byte record of an event (R19). -/
def Event.record (e : Event) : List Byte :=
  leBytes 8 e.stamp ++ leBytes 2 e.code ++ leBytes 2 e.channel ++ leBytes 4 e.arg

def evRing (s : State) (t : Nat) : EvRing := tget {} t s.evr
def setEvRing (t : Nat) (r : EvRing) (s : State) : State := { s with evr := tset {} t r s.evr }

/-- The last MSI-X vector of a function (R635). -/
def lastVec (t : Nat) : Nat := if t = 0 then 2047 else 15

/-- Number of records of an event ring (R686). -/
def evSize (s : State) (t : Nat) : Nat := 2 ^ max 6 (min 16 (rd s (evRingB t) R.SLUICE_EV_CFG_LOG))

/-- Base address of an event ring. -/
def evBase (s : State) (t : Nat) : Nat :=
  rdPair s (evRingB t) R.SLUICE_EV_BASE_LO_BASE R.SLUICE_EV_BASE_HI_BASE

/-- Function `t`'s event ring can take a record: enabled, not full, its rights and its memory in place (R679, R680). -/
def evFits (s : State) (t : Nat) : Bool :=
  let r := evRing s t
  let a := evBase s t + 16 * r.wr
  rdB s (evRingB t) R.SLUICE_EV_CFG_EN && (r.wr + 1) % evSize s t != r.rd && segOk s t true a 16
    && installedAll s a 16

/-- Write one record and signal the vector when THR records are unsignalled (R679, R680). -/
def evWrite (e : Event) (t : Nat) (s : State) : State :=
  let r := evRing s t
  let thr := max 1 (rd s (evRingB t) R.SLUICE_EV_CFG_THR)
  let wr' := (r.wr + 1) % evSize s t
  let s := store (evBase s t + 16 * r.wr) e.record s
  if r.unsig + 1 ≥ thr then
    emitOut (.msix t (min (lastVec t) (rd s (evRingB t) R.SLUICE_EV_CFG_VEC)))
      (setEvRing t { r with wr := wr', unsig := 0 } s)
  else setEvRing t { r with wr := wr', unsig := r.unsig + 1 } s

/-- Write event 0x0E02 for the events dropped since the last one, where there is space (R679). -/
def evOverflow (t : Nat) (s : State) : State :=
  let r := evRing s t
  if r.lost = 0 || !evFits s t then s
  else evWrite { stamp := s.ht, code := 0x0E02, channel := noCh, arg := r.lost } t (setEvRing t { r with lost := 0 } s)

/-- Write one record into a ring, or drop the event when the ring is not enabled, full, or has lost its rights. -/
def deliverTo (e : Event) (t : Nat) (s : State) : State :=
  let s := evOverflow t s
  if evFits s t then evWrite e t s
  else
    let r := evRing s t
    setEvRing t { r with drop := satU 32 (r.drop + 1), lost := satU 32 (r.lost + 1) } s

/-- Deliver every queued event. -/
def deliver (s : State) : State :=
  let q := qsort s.evq
  q.foldl (fun s q => q.dest.foldl (fun s t => deliverTo q.ev t s) s) { s with evq := [] }

/-- The DRAM of the dies in a mask has lost its contents. -/
def memDrop (lost : Nat) (m : List Host.Cell) : List Host.Cell := m.filter (fun c => !bitOf lost (dieOf c.1))

/-- Memory that was lost is empty, and the queued memory writes are made. -/
def commitMem (s : State) : State :=
  { s with
    mem := s.memq.foldl (fun m w => memWrite w.addr w.bytes m) (memDrop s.memLost s.mem)
    memq := [], evq := [], memLost := 0 }

/-- The status pins as the mode, HUB_DEGRADE.REPLACE and the hold island's power give them (R44, R45, R826), and
MGT_ALERT_N while a management event is unread, released on I3C (R770). -/
def pinsOf (s : State) : Pins :=
  let alert := s.hub.up && rdB s mgtB R.MGT_STATUS_ALERT && !rdB s mgtB R.MGT_STATUS_I3C
  if s.hub.island then
    { tripN := s.mode == .tripped, rplN := rdB s hubB R.HUB_DEGRADE_REPLACE
      alertN := s.mode == .degraded || s.mode == .hold || s.mode == .tripped, mgtAlertN := alert }
  else { mgtAlertN := alert }

/-- The end of a step: deliver the events, write memory, and let the status pins follow. -/
def finish (s : State) : State :=
  let s := commitMem (deliver s)
  { s with pins := pinsOf s }

/-- The state in which a command's effect starts: the outputs of the step before are gone. -/
def begun (s : State) : State := { s with out := [], mgt := { s.mgt with snapped := false } }

/-- The state after a command with effect `f`: the effect ran, the queue and the memory list are the machine's own to
write, and the step is finished. -/
def done (f : State → State) (s : State) : State :=
  finish { f (begun s) with pending := s.pending, mem := s.mem }

/-- The frame of every command. -/
def run (f : State → State) (s : State) : Host.Outcome State Fault Refusal := .next (done f s)

/-- As `run`, for a command whose operands must describe something that can exist. -/
def guarded (ok : Bool) (f : State → State) (s : State) : Host.Outcome State Fault Refusal :=
  if ok then run f s else .fault .illFormed

end Sys2Proof.Machine
end

