-- ==== Sys2Proof/Machine/Head.lean ====
section
/-!
DEFINITION. What the other units ask of a port's head, link and picture: the declared capabilities
(spec/14_ehriz_protocol_heads.md R577), the kind of the channel (R33), the width of the link and the drivers of a
string (R409).
-/

namespace Sys2Proof.Machine
open Sys2Proof

/-- Head register `4 i` as read at the last identification. -/
def hcap (s : State) (n i : Nat) : Nat := rd s (chB n) R.EPROT_HCAP_VALUE i

/-- The channel kinds (R33). -/
inductive Kind where
  | mirror | scan | matrix
deriving DecidableEq, Repr

def chKind (s : State) (n : Nat) : Kind :=
  match rd s (chB n) R.CH_KIND_KIND with
  | 0 => .mirror | 1 => .scan | _ => .matrix

/-- An address of channel `n`'s plane pool or uniformity map: it lies in the DRAM region of the channel's own Reach die
whatever the base register holds (R26). -/
def ownDie (n a : Nat) : Nat := n / 48 * 2 ^ 43 + a % 2 ^ 43

/-- The port is one of the P-class ports (R32). -/
def pclass (n : Nat) : Bool := n % 48 < 8

def headEdge (s : State) (n : Nat) : Bool := bitOf (hcap s n 6) 2
def headWheel (s : State) (n : Nat) : Bool := bitOf (hcap s n 6) 3
def headScanM (s : State) (n : Nat) : Bool := bitOf (hcap s n 6) 4
/-- String count S (R408). -/
def headStrings (s : State) (n : Nat) : Nat := bits (hcap s n 6) 8 3
def headSensors (s : State) (n : Nat) : Nat := bits (hcap s n 6) 12 4 + 1
def headBuffers (s : State) (n : Nat) : Nat := bits (hcap s n 8) 0 8
def headTokens (s : State) (n : Nat) : Nat := bits (hcap s n 8) 8 8
def headBlocks (s : State) (n : Nat) : Nat := bits (hcap s n 8) 16 5
def headWaves (s : State) (n : Nat) : Nat := bits (hcap s n 8) 24 4 + 1
/-- Declared times in ticks: buffer-ready, block load, minimum plane, settle, full-scale slew, token lead, cancel. -/
def headTbr (s : State) (n : Nat) : Nat := hcap s n 9
def headTblock (s : State) (n : Nat) : Nat := hcap s n 10
def headTmin (s : State) (n : Nat) : Nat := hcap s n 11
def headTs (s : State) (n : Nat) : Nat := hcap s n 12
def headTfs (s : State) (n : Nat) : Nat := hcap s n 13
def headTtoken (s : State) (n : Nat) : Nat := hcap s n 14
def headLc (s : State) (n : Nat) : Nat := hcap s n 16
/-- Fixed latency of an EDGE head in 25 ps units. -/
def headLe (s : State) (n : Nat) : Nat := if headEdge s n then hcap s n 15 else 0

/-- A head is identified on the port. -/
def identified (s : State) (n : Nat) : Bool := rdB s (chB n) R.EPROT_STATUS_IDENTIFIED

/-- The port is UP (R535). -/
def portUp (s : State) (n : Nat) : Bool := rd s (ephyB n) R.EPHY_STATUS_STATE == 9

/-- The link is trained at some width (R65): IDENT or UP with a lane in use. -/
def linkTrained (s : State) (n : Nat) : Bool := rd s (ephyB n) R.EPHY_STATUS_WIDTH != 0

/-- A direction of the port sleeps (R551, R553). -/
def asleep (s : State) (n : Nat) : Bool :=
  rdB s (ephyB n) R.EPHY_STATUS_TX_IDLE || rdB s (ephyB n) R.EPHY_STATUS_RX_IDLE

/-- A narrowing of the port is under way: its packet stream is stopped (R544). -/
def narrowing (s : State) (n : Nat) : Bool := (tget {} n s.ports).wreq.any (fun r => !r.widen)

/-- The packet stream of the port runs: not in electrical idle, before the marker that ends it, or in a narrowing
(R544, R551, R552). -/
def packetsOn (s : State) (n : Nat) : Bool :=
  linkTrained s n && !rdB s (ephyB n) R.EPHY_STATUS_TX_IDLE && (tget {} n s.ports).txWake.isNone && !narrowing s n

/-- Lane rate in Mbaud of a rate code (R525: 3.125, 6.25, 12.5 and 25 Gbaud). -/
def rateMbaud (code : Nat) : Nat := 3125 * 2 ^ code

/-- Character period in 25 ps units: 10 bits at the lane rate. -/
def charPeriod (s : State) (n : Nat) : Nat := 128 / 2 ^ rd s (ephyB n) R.EPHY_STATUS_RATE

/-- Pin instant of a launch time in 25 ps units (R107, R114). -/
def pin25 (s : State) (n t : Nat) : Nat := 10 * t - headLe s n

/-- The pin instant of launch time `t` has passed at HT `h`. -/
def pinPassed (s : State) (n t h : Nat) : Bool := pin25 s n t ≤ 10 * h

/-- Output width and height, blocks and slice count of the format in effect (R240, R241, R246). -/
def outW (s : State) (n : Nat) : Nat := ef s (chB n) R.PLANE_GEOM_W_M1 + 1
def outH (s : State) (n : Nat) : Nat := ef s (chB n) R.PLANE_GEOM_H_M1 + 1
def outBlocks (s : State) (n : Nat) : Nat :=
  if chKind s n = .mirror then ef s (chB n) R.PLANE_CFG_BLOCKS_M1 + 1 else 1
def sliceN (s : State) (n : Nat) : Nat := ef s (chB n) R.PLANE_CFG_COUNT_M1 + 1
def slicePri (s : State) (n i : Nat) : Nat := ef s (chB n) R.PLANE_SLICE_PRI i
def sliceBit (s : State) (n i : Nat) : Nat := ef s (chB n) R.PLANE_SLICE_BIT i
/-- Reset phase φ in effect, and the phase spread (B − 1) φ (R267). -/
def phase (s : State) (n : Nat) : Nat := if chKind s n = .mirror then ef s (chB n) R.PLANE_RESET_PHASE else 0
def spread (s : State) (n : Nat) : Nat := (outBlocks s n - 1) * phase s n

/-- HT is valid (R53): master, locked follower, or holdover within its bound. -/
def htValid (s : State) : Bool := rdB s timeB R.TIME_STATUS_VALID

/-- Drivers of the rill chain. -/
def rillLen (s : State) (n : Nat) : Nat := rd s (chB n) R.LAMP_RILL_CFG_LEN_M1 + 1

/-- String that driver `i` serves (R409). -/
def drvString (s : State) (n i : Nat) : Nat :=
  if i < 8 then rd s (chB n) R.LAMP_DRVMAP_LO_STR i else rd s (chB n) R.LAMP_DRVMAP_HI_STR (i - 8)

def driversOf (s : State) (n str : Nat) : List Nat :=
  (List.range (rillLen s n)).filter (fun i => drvString s n i == str)

/-- The strings of a port that exist (R408). -/
def strings (s : State) (n : Nat) : List Nat := List.range (min 6 (headStrings s n))

/-! ### Agent identities (R4) -/

/-- The identity of the sequencer of pipeline `d.p`, and of loop core `d.c`. -/
def seqIdentity (d p : Nat) : Nat := 0x1000 + 0x100 * d + p
def coreIdentity (d c : Nat) : Nat := 0x2000 + 0x100 * d + c

/-- An identity that the table of R4 assigns; every other value is reserved. -/
def isIdentity (a : Nat) : Bool :=
  a ≤ 0x100 || a == 0x200 || (0x400 ≤ a && a ≤ 0x4FF)
    || (0x1000 ≤ a && a < 0x1400 && a % 0x100 < 52) || (0x2000 ≤ a && a < 0x2400 && a % 0x100 < 68)

/-- What is left of a waiting request of an agent that is reset: of a write the granules that were delivered whole, of a
read nothing (R631). -/
def wholePart (r : DramReq) : Option DramReq :=
  let a := (r.addr + 63) / 64 * 64
  let n := (r.addr + r.len) / 64 * 64 - a
  if !r.write || n = 0 then none
  else some { r with addr := a, len := n, bytes := (r.bytes.drop (a - r.addr)).take n, errs := [] }

/-- The agents with the identities `p` are reset: their reads in flight are discarded, and of their writes only whole
granules are committed (R631). -/
def requesterReset (p : Nat → Bool) (s : State) : State :=
  { s with dreqs := s.dreqs.filterMap (fun r => if p r.src then wholePart r else some r) }

/-- The Reach die of an agent, a sequencer or loop core; none for the Confluence's (R4). -/
def agentDie (a : Nat) : Option Nat := if a < 0x1000 then none else some (a / 0x100 % 0x10)

/-! ### Units held in tables -/

def State.weir (s : State) (n : Nat) : WeirSt := tget {} n s.weirs
def setWeir (n : Nat) (w : WeirSt) (s : State) : State := { s with weirs := tset {} n w s.weirs }
def modWeir (n : Nat) (f : WeirSt → WeirSt) (s : State) : State := setWeir n (f (s.weir n)) s
def State.seq (s : State) (n : Nat) : SeqSt := tget {} n s.seqs
def setSeq (n : Nat) (q : SeqSt) (s : State) : State := { s with seqs := tset {} n q s.seqs }
def modSeq (n : Nat) (f : SeqSt → SeqSt) (s : State) : State := setSeq n (f (s.seq n)) s
def State.lamp (s : State) (n : Nat) : LampSt := tget {} n s.lamps
def setLamp (n : Nat) (l : LampSt) (s : State) : State := { s with lamps := tset {} n l s.lamps }
def modLamp (n : Nat) (f : LampSt → LampSt) (s : State) : State := setLamp n (f (s.lamp n)) s
def State.str (s : State) (n k : Nat) : StrSt := tget {} (8 * n + k) s.strs
def setStr (n k : Nat) (x : StrSt) (s : State) : State := { s with strs := tset {} (8 * n + k) x s.strs }
def modStr (n k : Nat) (f : StrSt → StrSt) (s : State) : State := setStr n k (f (s.str n k)) s
def State.drv (s : State) (n i : Nat) : DrvSt := tget {} (16 * n + i) s.drvs
def setDrv (n i : Nat) (x : DrvSt) (s : State) : State := { s with drvs := tset {} (16 * n + i) x s.drvs }
def modDrv (n i : Nat) (f : DrvSt → DrvSt) (s : State) : State := setDrv n i (f (s.drv n i)) s
def State.port (s : State) (n : Nat) : PortSt := tget {} n s.ports
def setPort (n : Nat) (x : PortSt) (s : State) : State := { s with ports := tset {} n x s.ports }
def modPort (n : Nat) (f : PortSt → PortSt) (s : State) : State := setPort n (f (s.port n)) s
def State.frmsOf (s : State) (n : Nat) : List Frm := tget [] n s.frms
def setFrms (n : Nat) (l : List Frm) (s : State) : State := { s with frms := tset [] n l s.frms }
def State.fmtsOf (s : State) (n : Nat) : List Fmt := tget [] n s.fmts
def setFmts (n : Nat) (l : List Fmt) (s : State) : State := { s with fmts := tset [] n l s.fmts }

def State.chst (s : State) (n : Nat) : ChSt := tget {} n s.chs
def setCh (n : Nat) (x : ChSt) (s : State) : State := { s with chs := tset {} n x s.chs }
def modCh (n : Nat) (f : ChSt → ChSt) (s : State) : State := setCh n (f (s.chst n)) s

/-- The frame of a number, if it is still held. -/
def frameOf (s : State) (n fno : Nat) : Option Frm := (s.frmsOf n).find? (·.fno == fno)

def modFrm (n fno : Nat) (f : Frm → Frm) (s : State) : State :=
  setFrms n ((s.frmsOf n).map (fun r => if r.fno = fno then f r else r)) s

/-! ### Event crossings (R705) -/

/-- Crossing `i` of Reach die `d` merged occurrences because its queue was full: the sticky flag, and event 0x0F03 when it
changes. -/
def dieOverrun (d i merged : Nat) (s : State) : State :=
  if merged = 0 then s
  else
    let f := if i < 32 then R.HUB_CDC_OVR_LO_OVR else R.HUB_CDC_OVR_HI_OVR
    let v := rd s (d2dB d) f
    if bitOf v (i % 32) then s
    else raise 0x0F03 noCh (1 + d + 256 * i + 65536 * satU 16 merged) (wr (d2dB d) f (setBit v (i % 32) true) s)

/-- MGT_SNAP advances, wrapping (R794). -/
def bumpSnap (s : State) : State :=
  if s.mgt.snapped then s
  else { wr mgtB R.MGT_SNAP_EPOCH (rd s mgtB R.MGT_SNAP_EPOCH + 1) s with mgt := { s.mgt with snapped := true } }

/-- A management event (R770, R797): it is unread until the board management controller next reads STATUS. -/
def mgtEvent (code arg : Nat) (s : State) : State :=
  let s := raise code noCh arg (wrB mgtB R.MGT_STATUS_ALERT true s)
  when_ (rdB s mgtB R.MGT_STATUS_I3C) (emitOut .inBand) s

end Sys2Proof.Machine
end

