-- ==== Sys2Proof/Machine/Rings.lean ====
section
/-!
DEFINITION. The completion side of the rings (spec/16_host_tenants_sluice.md R646 to R652): what any unit does to
complete a ring command.
-/

namespace Sys2Proof.Machine
open Sys2Proof

/-- Completion codes (R652). -/
abbrev cDone : Nat := 0
abbrev cDeferred : Nat := 1
abbrev cCapacity : Nat := 2
abbrev cQuota : Nat := 3
abbrev cRights : Nat := 4
abbrev cUnitReset : Nat := 5

def ringSt (s : State) (t r : Nat) : RingSt := tget {} (16 * t + r) s.rings
def modRing (t r : Nat) (f : RingSt → RingSt) (s : State) : State :=
  { s with rings := tset {} (16 * t + r) (f (ringSt s t r)) s.rings }

/-- Entries of the submission and the completion ring (R685). -/
def sqSize (s : State) (t r : Nat) : Nat := 2 ^ max 4 (min 16 (rd s (ringB t r) R.SLUICE_RING_CFG_SQ_LOG))
def cqSize (s : State) (t r : Nat) : Nat := 2 ^ max 4 (min 16 (rd s (ringB t r) R.SLUICE_RING_CFG_CQ_LOG))
def sqBase (s : State) (t r : Nat) : Nat := rdPair s (ringB t r) R.SLUICE_SQ_BASE_LO_BASE R.SLUICE_SQ_BASE_HI_BASE
def cqBase (s : State) (t r : Nat) : Nat := rdPair s (ringB t r) R.SLUICE_CQ_BASE_LO_BASE R.SLUICE_CQ_BASE_HI_BASE

/-- The ring is enabled. -/
def ringOn (s : State) (t r : Nat) : Bool := rdB s (ringB t r) R.SLUICE_RING_STATUS_RUN

/-- The completion ring is full: one slot is always free, so that equal indices mean empty. -/
def cqFull (s : State) (t r : Nat) : Bool :=
  (rd s (ringB t r) R.SLUICE_CQ_TAIL_TAIL + 1) % cqSize s t r == rd s (ringB t r) R.SLUICE_CQ_HEAD_HEAD

/-- The ring stops: its rights have gone (`why` 2) or its base was rejected (`why` 1) (R644, R647). -/
def stopRing (t r why : Nat) (s : State) : State :=
  let b := ringB t r
  let s := wrB b R.SLUICE_RING_CFG_EN false (wrB b R.SLUICE_RING_STATUS_RUN false s)
  raise 0x0E01 noCh (t + 512 * r + 65536 * why) (wrB b R.SLUICE_RING_STATUS_BASE_ERR true s)

/-- Signal the completion vector (R648). -/
def signalCq (t r : Nat) (s : State) : State :=
  emitOut (.msix t (min (lastVec t) (rd s (ringB t r) R.SLUICE_RING_CFG_VEC)))
    (modRing t r (fun x => { x with unsig := 0 }) s)

/-- Write the oldest held completion, if the ring can take it (R646). -/
def writeCq (t r : Nat) (s : State) : State :=
  match (ringSt s t r).held with
  | [] => s
  | e :: rest =>
    if !ringOn s t r then s
    else
      let b := ringB t r
      let tail := rd s b R.SLUICE_CQ_TAIL_TAIL
      let a := cqBase s t r + 32 * tail
      if !segOk s t true a 32 then stopRing t r 2 s
      else if cqFull s t r then wrB b R.SLUICE_RING_STATUS_CQ_FULL true s
      else
        let ph := rd s b R.SLUICE_CQ_TAIL_PHASE
        let tail' := (tail + 1) % cqSize s t r
        let s := store a (e ++ [BitVec.ofNat 8 r, BitVec.ofNat 8 ph]) s
        let s := when_ (t != 0) (fun s => bump (tenB t) R.SLUICE_TCNT_COUNT s 1 ((e.getD 3 0).toNat)) s
        let s := wr b R.SLUICE_CQ_TAIL_TAIL tail' (modRing t r (fun x => { x with held := rest }) s)
        let s := when_ (tail' = 0) (wr b R.SLUICE_CQ_TAIL_PHASE (1 - ph)) s
        let x := ringSt s t r
        let s := modRing t r (fun x => { x with
          unsig := x.unsig + 1, unsigAt := if x.unsig = 0 then s.tick else x.unsigAt }) s
        let thr := max 1 (rd s b R.SLUICE_CQ_IRQ_THR)
        let s := when_ (x.unsig + 1 ≥ thr) (signalCq t r) s
        wrB b R.SLUICE_RING_STATUS_CQ_FULL (cqFull s t r) s

/-- Write every held completion the ring can take. -/
def flushCq (t r : Nat) (s : State) : State := each (ringSt s t r).held (fun _ => writeCq t r) s

/-- The 30 bytes of a completion entry before RING and PHASE (R651). -/
def cqEntry (tag op code detail ht frames : Nat) : List Byte :=
  leBytes 2 tag ++ leBytes 1 op ++ leBytes 1 code ++ leBytes 4 detail ++ leBytes 8 ht ++ leBytes 4 frames
    ++ leBytes 10 0

/-- SLUICE_RING_STATUS.OUT of a ring, from the commands taken and not completed. -/
def refreshOut (t r : Nat) (s : State) : State :=
  wr (ringB t r) R.SLUICE_RING_STATUS_OUT (satU 16 (s.cmds.filter (fun c => c.fn == t && c.ring == r)).length) s

/-- Put a completion in its ring's order. -/
def pushCq (t r : Nat) (e : List Byte) (s : State) : State :=
  flushCq t r (modRing t r (fun x => { x with held := x.held ++ [e] }) s)

/-- Complete a command. -/
def completeAt (id code detail ht frames : Nat) (s : State) : State :=
  match s.cmds.find? (·.id == id) with
  | none => s
  | some c =>
    let s := refreshOut c.fn c.ring { s with cmds := s.cmds.filter (·.id != id) }
    pushCq c.fn c.ring (cqEntry c.tag c.op code detail ht frames) s

/-- Complete a command that is not frame-timed: HT is that of completion (R651). -/
def complete (id code detail : Nat) (s : State) : State := completeAt id code detail s.ht 0 s

/-- Complete a command if there is one. -/
def complete? (id : Option Nat) (code detail : Nat) (s : State) : State :=
  match id with
  | some i => complete i code detail s
  | none => s

end Sys2Proof.Machine
end

