-- ==== Sys2Proof/Machine/Surf.lean ====
section
/-!
DEFINITION. Surfaces and fetch (spec/04_surfaces_fetch.md): pixel formats, compressed tiles, the surface tables, and the
pixels of one layer on one output line, scaled where the layer has a scaler (spec/05_layers_levee.md R193 to R202).
-/

namespace Sys2Proof.Machine
open Sys2Proof

/-! ### Formats (R154 to R156) -/

/-- The format code is one of the table of R154. -/
def fmtValid (f : Nat) : Bool := f ≤ 4 || f = 8 || f = 9

/-- A compressed format. -/
def fmtTiled (f : Nat) : Bool := 8 ≤ f

/-- Bytes per pixel; before compression for a compressed format. -/
def fmtBytes (f : Nat) : Nat := if f ≤ 1 then 2 else if f = 2 then 3 else 4

/-- Lowest bit and width of A, R, G and B; width 0 where the format has no alpha (R155). -/
def fmtFields (f : Nat) : List (Nat × Nat) :=
  match f with
  | 0 => [(0, 0), (11, 5), (5, 6), (0, 5)]
  | 1 => [(15, 1), (10, 5), (5, 5), (0, 5)]
  | 2 => [(0, 0), (16, 8), (8, 8), (0, 8)]
  | 3 => [(24, 8), (16, 8), (8, 8), (0, 8)]
  | 8 => [(24, 8), (16, 8), (8, 8), (0, 8)]
  | _ => [(30, 2), (20, 10), (10, 10), (0, 10)]

/-- The top 16 bits of a component's bit pattern written out until 16 bits are filled (R156). -/
def expand (w v : Nat) : Nat :=
  let k := ceilDiv 16 w
  (List.range k).foldl (fun a _ => a * 2 ^ w + v) 0 / 2 ^ (k * w - 16)

/-- One component of a stored pixel, expanded; alpha is full where the format has none. -/
def component (v : Nat) (f : Nat × Nat) : Nat := if f.2 = 0 then 0xFFFF else expand f.2 (bits v f.1 f.2)

/-- A stored pixel as four 16-bit components (R155, R156). -/
def unpack (fmt : Nat) (ignA : Bool) (v : Nat) : Px :=
  match (fmtFields fmt).map (component v) with
  | [a, r, g, b] => { a := if ignA then 0xFFFF else a, r, g, b }
  | _ => {}

/-! ### Surface tables (R157 to R159) -/

/-- Entry `h` of function `fn`'s surface table. -/
def surf (s : State) (fn h : Nat) : Surf := tget {} (1024 * fn + h) s.surfs

/-- The entry holds no surface. -/
def Surf.empty (x : Surf) : Bool := x.w == 0

/-- Tile columns and rows of a compressed surface. -/
def Surf.tw (x : Surf) : Nat := ceilDiv x.w 8
def Surf.th (x : Surf) : Nat := ceilDiv x.h 8

/-- The regions a surface occupies: address and length (R159). -/
def Surf.regions (x : Surf) : List (Nat × Nat) :=
  if fmtTiled x.fmt then [(x.base, 32 * x.gran), (x.hdr, 4 * x.tw * x.th)] else [(x.base, x.h * x.stride)]

/-! ### Compressed tiles (R163 to R169) -/

/-- Component widths of a compressed format, A R G B. -/
def tileWidths (fmt : Nat) : List Nat := if fmt = 8 then [8, 8, 8, 8] else [2, 10, 10, 10]

/-- The components of a 32-bit pixel, A first, of the given widths. -/
def splitPx (ws : List Nat) (v : Nat) : List Nat :=
  (ws.foldl (fun (acc : List Nat × Nat) w => (acc.1 ++ [bits v (acc.2 - w) w], acc.2 - w)) ([], 32)).1

def joinPx (ws cs : List Nat) : Nat := (ws.zip cs).foldl (fun a p => a * 2 ^ p.1 + p.2 % 2 ^ p.1) 0

/-- One delta step: each component of the predictor plus a signed delta of its width (R168). -/
def deltaStep (pv : Nat) (nw : List (Nat × Nat)) (pos : Nat) (pred : List Nat) : List Nat × Nat :=
  (nw.zip pred).foldl (fun (acc : List Nat × Nat) p =>
    let d : Int := if p.1.2 = 0 then 0 else sext p.1.2 (bits pv acc.2 p.1.2)
    (acc.1 ++ [toTwos p.1.1 ((p.2 : Int) + d)], acc.2 + p.1.2)) ([], pos)

/-- The 64 pixels of a DELTA payload, newest first, from the payload's value as one little-endian number (R168). -/
def deltaPixels (pv : Nat) (nw : List (Nat × Nat)) (p0 : List Nat) : Nat → List (List Nat) × Nat
  | 0 => ([p0], 64)
  | i + 1 =>
    let r := deltaPixels pv nw p0 i
    let pred := if (i + 1) % 8 ≠ 0 then r.1.getD 0 [] else r.1.getD 7 []
    let d := deltaStep pv nw r.2 pred
    (d.1 :: r.1, d.2)

/-- Granules a DELTA payload of delta-width sum `sum` occupies (R167). -/
def deltaGranules (sum : Nat) : Nat := ceilDiv (8 + ceilDiv (63 * sum) 8) 32

/-- The decode error of a tile from its header entry and, for DELTA, its width word (R169); 0 for none. -/
def tileError (fmt gran hdr widths : Nat) : Nat :=
  let mode := bits hdr 0 2
  let gc := bits hdr 2 3
  let ws := (List.range 4).map (fun i => bits widths (4 * i) 4)
  let sum := ws.foldl (· + ·) 0
  if mode = 3 then 1
  else if (mode = 0 && gc ≠ 7) || (mode = 1 && gc ≠ 0) || (mode = 2 && gc + 1 ≠ deltaGranules sum) then 2
  else if gran < bits hdr 5 27 + gc + 1 then 3
  else if mode = 2 && ((tileWidths fmt).zip ws).any (fun p => p.1 < p.2) then 4
  else 0

/-- Pixel `i` of a tile from its header entry and payload bytes (R165). -/
def tilePixel (fmt hdr : Nat) (payload : List Byte) (i : Nat) : Nat :=
  match bits hdr 0 2 with
  | 0 => leVal ((payload.drop (4 * i)).take 4)
  | 1 => leVal (payload.take 4)
  | _ =>
    let ns := tileWidths fmt
    let ws := (List.range 4).map (fun c => bits (leVal ((payload.drop 4).take 2)) (4 * c) 4)
    joinPx ns ((deltaPixels (leVal payload) (ns.zip ws) (splitPx ns (leVal (payload.take 4))) i).1.headD [])

/-! ### Reading a surface (R173, R174, R179 to R181) -/

/-- Read one unit of a surface on behalf of function `fn`: tile `u` of a compressed surface, burst `u` of a packed one;
none when no segment gives the right. The widths of a DELTA tile are read before its place is judged, so that the lowest
cause is recorded (R169). -/
def fetchUnit (s : State) (fn : Nat) (sf : Surf) (u : Nat) : Option Fetched :=
  if fmtTiled sf.fmt then
    let ha := sf.hdr + 4 * u
    if !segOk s fn false ha 4 then none
    else if poisonedAny s ha 4 then some .poison
    else
      let hdr := loadN s ha 4
      let pa := sf.base + 32 * bits hdr 5 27
      let len := 32 * (bits hdr 2 3 + 1)
      let delta := bits hdr 0 2 == 2
      if !delta && tileError sf.fmt sf.gran hdr 0 != 0 then some (.decode (tileError sf.fmt sf.gran hdr 0))
      else if sf.gran < bits hdr 5 27 + bits hdr 2 3 + 1 then
        some (.decode (if segOk s fn false pa 8 && !poisonedAny s pa 8 then
          tileError sf.fmt sf.gran hdr (loadN s (pa + 4) 2) else 3))
      else if !segOk s fn false pa len then none
      else if poisonedAny s pa len then some .poison
      else
        let pl := loadBytes s pa len
        let e := tileError sf.fmt sf.gran hdr (leVal ((pl.drop 4).take 2))
        some (if e != 0 then .decode e else .tile hdr pl)
  else if !segOk s fn false (64 * u) 64 then none
  else some (if poisoned s u then .poison else .burst (loadBytes s (64 * u) 64))

/-- The units that `count` pixels of row `y` from column `x` lie in. -/
def unitsOfRow (sf : Surf) (y x count : Nat) : List Nat :=
  if count = 0 then []
  else if fmtTiled sf.fmt then
    (List.range ((x + count - 1) / 8 - x / 8 + 1)).map (fun i => y / 8 * sf.tw + x / 8 + i)
  else granules (sf.base + y * sf.stride + x * fmtBytes sf.fmt) (count * fmtBytes sf.fmt)

/-! ### One layer on one line (R192 to R197, R202) -/

/-- A field of the state that governs a frame. -/
def gv (c : Comp) (b : Nat) (f : Fld) (i : Nat := 0) : Nat := tget (f.reset i) (f.key b i) c.gov

/-- Background colour, opaque (R156, R190). -/
def background (c : Comp) (n : Nat) : Px :=
  { a := 0xFFFF, r := expand 10 (gv c (chB n) R.COMP_BG_R), g := expand 10 (gv c (chB n) R.COMP_BG_G)
    b := expand 10 (gv c (chB n) R.COMP_BG_B) }

/-- Premultiply (R202). -/
def premultiply (p : Px) : Px :=
  let m := fun x => (x * p.a + 32767) / 65535
  { p with r := m p.r, g := m p.g, b := m p.b }

/-- Source rectangle clipped to the surface: left, top, width, height (R178). -/
def clipRect (sf : Surf) (x y w h : Nat) : Nat × Nat × Nat × Nat :=
  (x, y, min (x + w) sf.w - min x sf.w, min (y + h) sf.h - min y sf.h)

/-- The layer takes part in the frame (R191, R226). -/
def takesPart (c : Comp) (n k : Nat) : Bool := gv c (fetchB n k) R.FETCH_SURF_EN == 1 && (k != 8 || c.levee)

/-- The function whose table a layer of the frame is fetched through (R157). -/
def layerFn (c : Comp) (k : Nat) : Nat := if k = 8 then 0 else tget 0 k c.own

/-- The layer's surface, or an empty one. -/
def layerSurf (s : State) (c : Comp) (n k : Nat) : Surf := surf s (layerFn c k) (gv c (fetchB n k) R.FETCH_SURF_HANDLE)

/-- Scaler coefficients: the default set unless others are loaded (R199, R201). -/
def coefH (c : Comp) (sc p t : Nat) : Int :=
  match tget [] sc c.coef with
  | [] => if t = 3 then 4096 else 0
  | l => l.getD (8 * p + t) 0
def coefV (c : Comp) (sc p t : Nat) : Int :=
  match tget [] sc c.coef with
  | [] => if t = 2 then 4096 else 0
  | l => l.getD (512 + 6 * p + t) 0

/-- Round a filter sum and clamp it to 16 bits (R197). -/
def tapRound (x : Int) : Nat := (max 0 (min 65535 ((x + 2048) / 4096))).toNat

/-- Position of output index `u` at step `st`: tap base and phase (R195). -/
def tapAt (st u : Nat) : Int × Nat :=
  let x : Int := (st * u + st / 2 : Nat) - 32768
  (x / 65536, (x / 1024 % 64).toNat)

/-- An index held inside `0 … w - 1` (R196). -/
def nearest (w : Nat) (i : Int) : Nat := min (w - 1) i.toNat

/-- Sum of weighted premultiplied pixels. -/
def filterPx (l : List (Int × Px)) : Px :=
  let f := fun (g : Px → Nat) => tapRound (l.foldl (fun a p => a + p.1 * (g p.2 : Int)) 0)
  { a := f (·.a), r := f (·.r), g := f (·.g), b := f (·.b) }

/-- A layer of a frame as fetch sees it: its surface and the function that reads it, its clipped source rectangle (left,
top, width, height) and whether clipping took anything, its scaler (4 for none), and its output size and place. -/
structure LayerGeo where
  fn : Nat
  sf : Surf
  rect : Nat × Nat × Nat × Nat
  clipped : Bool
  sc : Nat
  dw : Nat
  dh : Nat
  px : Int
  py : Int
deriving DecidableEq, Repr

def layerGeo (s : State) (c : Comp) (n k : Nat) : LayerGeo :=
  let fb := fetchB n k
  let cb := compB n k
  let sf := layerSurf s c n k
  let sw := gv c fb R.FETCH_SRC_SIZE_W_M1 + 1
  let sh := gv c fb R.FETCH_SRC_SIZE_H_M1 + 1
  let rect := clipRect sf (gv c fb R.FETCH_SRC_POS_X) (gv c fb R.FETCH_SRC_POS_Y) sw sh
  let sc := if k = 8 then 4 else gv c cb R.COMP_LSCALER_SCALER
  { fn := layerFn c k, sf, rect, clipped := rect.2.2.1 != sw || rect.2.2.2 != sh, sc
    dw := if sc < 4 then gv c cb R.COMP_LDST_SIZE_W_M1 + 1 else sw
    dh := if sc < 4 then gv c cb R.COMP_LDST_SIZE_H_M1 + 1 else sh
    px := sext 16 (gv c cb R.COMP_LDST_POS_X), py := sext 16 (gv c cb R.COMP_LDST_POS_Y) }

/-- Row of the layer's output on output line `y`, when the layer has pixels there. -/
def LayerGeo.row (g : LayerGeo) (y : Nat) : Option Nat :=
  let v : Int := y - g.py
  if v < 0 || (g.dh : Int) ≤ v || g.rect.2.2.1 = 0 || g.rect.2.2.2 = 0 then none else some v.toNat

/-- Source rows that output line `y` is made of: the six of the vertical filter, or the one. -/
def LayerGeo.rows (g : LayerGeo) (c : Comp) (n k y : Nat) : List Nat :=
  match g.row y with
  | none => []
  | some v =>
    if g.sc < 4 then
      let yt := tapAt (gv c (compB n k) R.COMP_LSTEP_Y_STEP) v
      ((List.range 6).map (fun t => g.rect.2.1 + nearest g.rect.2.2.2 (yt.1 - 2 + ((t : Nat) : Int)))).dedup
    else if v < g.rect.2.2.2 then [g.rect.2.1 + v] else []

/-- Source columns, from the rectangle's left, that output columns before `lim` of `w` are made of; a whole line takes
them all. -/
def LayerGeo.cols (g : LayerGeo) (c : Comp) (n k w lim : Nat) : Nat :=
  if w ≤ lim then g.rect.2.2.1
  else
    let u : Int := lim - g.px
    if u ≤ 0 then 0
    else if g.sc < 4 then
      let xt := tapAt (gv c (compB n k) R.COMP_LSTEP_X_STEP) (min g.dw u.toNat - 1)
      nearest g.rect.2.2.1 (xt.1 + 4) + 1
    else min g.rect.2.2.1 u.toNat

/-- The units that output line `y` of a layer is made of, up to output column `lim` of `w` (R174). -/
def lineUnits (s : State) (c : Comp) (n k w y lim : Nat) : List Nat :=
  let g := layerGeo s c n k
  ((g.rows c n k y).flatMap (fun r => unitsOfRow g.sf r g.rect.1 (g.cols c n k w lim))).dedup

/-- What the read of a layer's unit gave, once it has been read. -/
def Comp.unit (c : Comp) (k u : Nat) : Option Fetched := (c.units.find? (·.1 == (k, u))).map (·.2)

/-- A source pixel of a layer, premultiplied, from the units read: background in a damaged one (R180, R181, R202). -/
def sourcePixel (c : Comp) (k : Nat) (sf : Surf) (bg : Px) (x y : Nat) : Px :=
  if fmtTiled sf.fmt then
    match c.unit k (y / 8 * sf.tw + x / 8) with
    | some (.tile hdr pl) => premultiply (unpack sf.fmt sf.ignA (tilePixel sf.fmt hdr pl (y % 8 * 8 + x % 8)))
    | some _ => bg
    | none => {}
  else
    let n := fmtBytes sf.fmt
    let a := sf.base + y * sf.stride + x * n
    let us := (granules a n).map (c.unit k)
    if us.any (· == none) then {}
    else if us.any (· == some .poison) then bg
    else
      let bs := us.flatMap (fun u => match u with
        | some (.burst b) => b
        | _ => [])
      premultiply (unpack sf.fmt sf.ignA (leVal ((bs.drop (a % 64)).take n)))

/-- The pixel at output index `u`, row `v` of a scaled layer (R195). -/
def scaledPixel (c : Comp) (n k : Nat) (g : LayerGeo) (bg : Px) (v u : Nat) : Px :=
  let xt := tapAt (gv c (compB n k) R.COMP_LSTEP_X_STEP) u
  let yt := tapAt (gv c (compB n k) R.COMP_LSTEP_Y_STEP) v
  let cols := (List.range 8).map (fun t => g.rect.1 + nearest g.rect.2.2.1 (xt.1 - 3 + ((t : Nat) : Int)))
  let p := filterPx ((List.range 6).map (fun t =>
    let row := g.rect.2.1 + nearest g.rect.2.2.2 (yt.1 - 2 + ((t : Nat) : Int))
    (coefV c g.sc yt.2 t,
      filterPx (((List.range 8).map (coefH c g.sc xt.2)).zip (cols.map (fun x => sourcePixel c k g.sf bg x row))))))
  { p with r := min p.r p.a, g := min p.g p.a, b := min p.b p.a }

/-- The columns before `lim` of output line `y` of layer `k`, from the units read. -/
def layerLine (s : State) (c : Comp) (n k w y lim : Nat) : List Px :=
  let g := layerGeo s c n k
  let bg := background c n
  (List.range (min w lim)).map (fun col =>
    let u : Int := ((col : Nat) : Int) - g.px
    match g.row y with
    | none => {}
    | some v =>
      if u < 0 || (g.dw : Int) ≤ u then {}
      else if g.sc < 4 then scaledPixel c n k g bg v u.toNat
      else if g.rect.2.2.1 ≤ u.toNat || g.rect.2.2.2 ≤ v then {}
      else sourcePixel c k g.sf bg (g.rect.1 + u.toNat) (g.rect.2.1 + v))

/-! ### Blending (R203 to R205) -/

/-- A layer pixel onto the composite, with global alpha `ga` and mode. -/
def blendPx (ga mode : Nat) (d p : Px) : Px :=
  let g := fun x => (x * ga + 32767) / 65535
  let a := g p.a
  let f := fun (sp dp : Nat) =>
    if mode = 1 then min 65535 (g sp + dp) else g sp + (dp * (65535 - a) + 32767) / 65535
  { a := 0xFFFF, r := f p.r d.r, g := f p.g d.g, b := f p.b d.b }

/-- One layer over a line of the composite; the pixels of `l` beyond its end are transparent. -/
def blendLine (c : Comp) (n k : Nat) (line l : List Px) : List Px :=
  let ga := gv c (compB n k) R.COMP_LBLEND_GA
  let mode := if k = 8 then 0 else gv c (compB n k) R.COMP_LBLEND_MODE
  line.zipIdx.map (fun p => match l[p.2]? with
    | some q => blendPx ga mode p.1 q
    | none => p.1)

/-! ### The colour stage (R217 to R222) -/

/-- The primaries of a composite pixel through the matrix (R217). -/
def matrixPx (c : Comp) (n : Nat) (p : Px) : Nat × Nat × Nat :=
  let m := fun (f : Fld) => sext 16 (gv c (chB n) f)
  let row := fun (a b d : Fld) =>
    (max 0 (min 65535 ((m a * p.r + m b * p.g + m d * p.b + 2048) / 4096))).toNat
  (row R.COMP_MAT0_M00 R.COMP_MAT0_M01 R.COMP_MAT1_M02, row R.COMP_MAT1_M10 R.COMP_MAT2_M11 R.COMP_MAT2_M12,
   row R.COMP_MAT3_M20 R.COMP_MAT3_M21 R.COMP_MAT4_M22)

/-- A transfer LUT entry (R219). -/
def lutKey (n bank pri e : Nat) : Nat := ((2 * n + bank) * 3 + pri) * 1025 + e
def lutDef (e : Nat) : Nat := min (64 * e) 65535
def lutAt (s : State) (n bank pri e : Nat) : Nat := tget (lutDef e) (lutKey n bank pri e) s.luts

/-- The transfer LUT on an input (R218). -/
def lutOut (s : State) (n bank pri x : Nat) : Nat :=
  let i := x / 64
  let e0 : Int := lutAt s n bank pri i
  (e0 + ((lutAt s n bank pri (i + 1) - e0) * (x % 64 : Nat) + 32) / 64).toNat

/-- Uniformity gain (R220). -/
def gainOut (p g : Nat) : Nat := min 65535 ((p * g + 256) / 512)

/-- Address of a uniformity map entry (R220). -/
def mapAddr (c : Comp) (n x y : Nat) : Nat :=
  ownDie n (gv c (chB n) R.COMP_UMAP_BASE_LO_BASE c.band + 2 ^ 32 * gv c (chB n) R.COMP_UMAP_BASE_HI_BASE c.band
    + y * gv c (chB n) R.COMP_UMAP_CFG_STRIDE * 256 + 4 * x)

/-- Whether the map gives the gain of a pixel: 0, or the cause of unity gain (R222): 1 late, 2 poison, 3 not enabled.
`mx` is the first pixel whose map data is late. -/
def mapCause (s : State) (c : Comp) (n mx x y : Nat) : Nat :=
  if !bitOf (gv c (chB n) R.COMP_UMAP_CFG_BAND_EN) c.band then 3
  else if mx ≤ x then 1
  else if poisoned s (mapAddr c n x y / 64) then 2
  else 0

/-- The colour stage on one composite pixel (R217 to R220). -/
def colourPx (s : State) (c : Comp) (n mx y : Nat) (x : Nat) (p : Px) : Nat × Nat × Nat :=
  let bank := gv c (chB n) R.COMP_CTRL_LUT_BANK
  let m := matrixPx c n p
  let l := (lutOut s n bank 0 m.1, lutOut s n bank 1 m.2.1, lutOut s n bank 2 m.2.2)
  if gv c (chB n) R.COMP_CTRL_UMAP_EN = 0 || mapCause s c n mx x y != 0 then l
  else
    let e := loadN s (mapAddr c n x y) 4
    (gainOut l.1 (bits e 0 10), gainOut l.2.1 (bits e 10 10), gainOut l.2.2 (bits e 20 10))

/-- The bursts of a line that get unity gain for a counted cause, with the cause: one pixel per burst decides. -/
def mapMisses (s : State) (c : Comp) (n mx w y : Nat) : List Nat :=
  if gv c (chB n) R.COMP_CTRL_UMAP_EN = 0 then []
  else ((List.range (ceilDiv w 16)).map (fun b =>
    let causes := ((List.range 16).filter (fun i => 16 * b + i < w)).map (fun i => mapCause s c n mx (16 * b + i) y)
    (causes.find? (· != 0)).getD 0)).filter (· != 0)

/-! ### Dither (R243 to R245) -/

/-- Threshold θ of a pixel (R243, R244). -/
def threshold (c : Comp) (n f x y : Nat) : Nat :=
  if gv c (chB n) R.PLANE_CFG_DITHER = 0 then 32768
  else
    let m := gv c (chB n) R.PLANE_DMAT_LO_M + 2 ^ 32 * gv c (chB n) R.PLANE_DMAT_HI_M
    4096 * ((bits m (4 * (4 * (y % 4) + x % 4)) 4 + gv c (chB n) R.PLANE_CFG_TSTEP * f) % 16) + 2048

/-- Code of a primary (R243). -/
def ditherCode (depth theta p : Nat) : Nat := (p * (2 ^ depth - 1) + theta) / 65536

/-- The codes of the three primaries of a line, one list per primary. -/
def lineCodes (c : Comp) (n f depth y : Nat) (l : List (Nat × Nat × Nat)) : List (List Nat) :=
  let code := fun (g : Nat × Nat × Nat → Nat) =>
    l.zipIdx.map (fun p => ditherCode depth (threshold c n f p.2 y) (g p.1))
  [code (·.1), code (·.2.1), code (·.2.2)]

/-! ### Slicing (R247 to R249) -/

/-- A plane row: bit `BIT` of each pixel's code, pixel `x` at bit `x mod 8` of byte `x div 8`, padded to its pitch. -/
def planeRow (w bit : Nat) (codes : List Nat) : List Byte :=
  leBytes (ceilDiv w 512 * 64) (bitMask ((List.range w).filter (fun x => bitOf (codes.getD x 0) bit)))

/-- A line record: 12-bit samples of the three primaries, reversed on odd rows of a bidirectional scan (R245, R249). -/
def lineRecord (w depth y : Nat) (bidir : Bool) (codes : List (List Nat)) : List Byte :=
  codes.flatMap (fun cs =>
    let l := if bidir && y % 2 = 1 then cs.reverse else cs
    leBytes (ceilDiv (12 * w) 512 * 64) ((l.map (· * 2 ^ (12 - depth))).foldr (fun v a => v + 4096 * a) 0))

/-- Write-back bytes of a line of primaries (R223). -/
def writeBackRow (fmt : Nat) (l : List (Nat × Nat × Nat)) : List Byte :=
  let c := fun (p w : Nat) => (p * (2 ^ w - 1) + 32767) / 65535
  l.flatMap (fun p => leBytes 4 (match fmtFields fmt with
    | [(al, aw), (rl, rw), (gl, gw), (bl, bw)] =>
      (2 ^ aw - 1) * 2 ^ al + c p.1 rw * 2 ^ rl + c p.2.1 gw * 2 ^ gl + c p.2.2 bw * 2 ^ bl
    | _ => 0))

end Sys2Proof.Machine
end

