-- ==== Sys2Proof/Machine/Cal.lean ====
section
/-!
DEFINITION. Calibration jobs as other units see them (spec/18_heat_calibration_wear.md R749 to R751): outcomes, the end of
a job, and what ends or restarts a target. The commands are in Calib.lean.
-/

namespace Sys2Proof.Machine
open Sys2Proof

/-- Record type `k` of the device's own has changed and waits to be written (R782). -/
def recDirty (k : Nat) (s : State) : State :=
  if tget 0 k s.cfg.dirty = 0 then { s with cfg := { s.cfg with dirty := tset 0 k (s.tick + 1) s.cfg.dirty } } else s

/-- Kind of the last job. -/
def calKind (s : State) : Nat := rd s hkB R.HK_CAL_STATUS_KIND

/-- The outcomes of a target. -/
inductive CalOut where
  | accepted | disagree | starved | refused
deriving DecidableEq, Repr

def CalOut.code : CalOut → Nat
  | .accepted => 0 | .disagree => 1 | .starved => 2 | .refused => 3

def CalOut.fld : CalOut → Fld
  | .accepted => R.HK_CAL_RESULT_ACCEPTED | .disagree => R.HK_CAL_RESULT_DISAGREE
  | .starved => R.HK_CAL_RESULT_STARVED | .refused => R.HK_CAL_RESULT_REFUSED

/-- HK_CAL_RESULT. -/
def calResult (s : State) : Nat :=
  rd s hkB R.HK_CAL_RESULT_ACCEPTED + 2 ^ 8 * rd s hkB R.HK_CAL_RESULT_DISAGREE
    + 2 ^ 16 * rd s hkB R.HK_CAL_RESULT_STARVED + 2 ^ 24 * rd s hkB R.HK_CAL_RESULT_REFUSED

/-- The job ends with the last outcome (R751). -/
def calEnd (s : State) : State :=
  if s.cal.targets == [] && rdB s hkB R.HK_CAL_STATUS_BUSY then
    raise 0x100A noCh (calResult s) (wrB hkB R.HK_CAL_STATUS_BUSY false s)
  else s

/-- A target has its outcome: counted, with event 0x1009 (R746, R749). -/
def calOutcome (t : Nat) (o : CalOut) (s : State) : State :=
  let k := calKind s
  let s := { s with cal := { s.cal with targets := s.cal.targets.filter (·.target != t) } }
  calEnd (raise 0x1009 (if k = 4 || k = 6 then noCh else t) (k + 16 * o.code + (if k = 6 then 64 * (t % 4) else 0))
    (bump hkB o.fld s))

/-- Targets that satisfy `p` end as CAL_STARVED. -/
def calStarve (p : Nat → Bool) (s : State) : State :=
  each ((s.cal.targets.map (·.target)).filter p) (fun t => calOutcome t .starved) s

/-- A channel leaves RUNNING (R750). -/
def calLeft (n : Nat) (s : State) : State :=
  if calKind s = 4 || calKind s = 6 then s else calStarve (· == n) s

/-- A string's range changes: the channel's ISENSE or CURVE runs begin again (R750). -/
def calRestart (n : Nat) (s : State) : State :=
  if calKind s = 2 || calKind s = 3 then
    { s with cal := { s.cal with targets := s.cal.targets.map (fun t =>
      if t.target = n then { t with run1 := none, since := s.ht, seen := [] } else t) } }
  else s

end Sys2Proof.Machine
end

