-- ==== Sys2Proof/Machine/Fp.lean ====
section
/-!
DEFINITION. Binary32 arithmetic of the loop profile (spec/07_vilti_isa.md R314 to R318): every result rounded to
nearest, ties to even; subnormal operands and results count as zero of the same sign. Numbers are held as their 32
bits; a finite value is worked out exactly as `m * 2 ^ e` and rounded once.
-/

namespace Sys2Proof.Machine
open Sys2Proof

def fSign (x : Nat) : Bool := bitOf x 31
def fExp (x : Nat) : Nat := bits x 23 8
def fFrac (x : Nat) : Nat := bits x 0 23
def fNaN (x : Nat) : Bool := fExp x == 255 && fFrac x != 0
def fInf (x : Nat) : Bool := fExp x == 255 && fFrac x == 0
/-- A zero, or a subnormal operand, which counts as one (R314). -/
def fZero (x : Nat) : Bool := fExp x == 0

/-- Sign bit of a number. -/
def signBit (b : Bool) : Nat := if b then 2 ^ 31 else 0

/-- An infinity, and a zero, of a sign. -/
def fInfOf (neg : Bool) : Nat := signBit neg + 0x7F800000
def fZeroOf (neg : Bool) : Nat := signBit neg

/-- A finite number as `m * 2 ^ (e - 149)`: its integer `m`, with sign, and `e`. -/
def fMant (x : Nat) : Int :=
  if fZero x then 0 else (if fSign x then -1 else 1) * ((2 ^ 23 + fFrac x : Nat) : Int)
def fScale (x : Nat) : Nat := if fZero x then 0 else fExp x - 1

/-- `m` divided by `2 ^ k`, to the nearest integer, ties to even. -/
def rne (m k : Nat) : Nat :=
  let q := m / 2 ^ k
  let r := m % 2 ^ k
  if k = 0 then m else if 2 * r > 2 ^ k || (2 * r == 2 ^ k && q % 2 == 1) then q + 1 else q

/-- Round `m * 2 ^ (e - 298)` to binary32 with the sign `neg`; `m` is its magnitude. -/
def fRoundMag (neg : Bool) (m e : Nat) : Nat :=
  if m = 0 then fZeroOf neg
  else
    -- the quantum is 2 ^ (q - 298): 24 significant bits, at least 2 ^ -149
    let q := max (e + (m.log2 + 1) - 24) 149
    let n := if e ≤ q then rne m (q - e) else m * 2 ^ (e - q)
    let n' := if n = 2 ^ 24 then 2 ^ 23 else n
    let q' := if n = 2 ^ 24 then q + 1 else q
    if n' < 2 ^ 23 then fZeroOf neg
    else
      let ex := q' - 149 + 1
      if 255 ≤ ex then fInfOf neg else signBit neg + ex * 2 ^ 23 + (n' - 2 ^ 23)

/-- Round the value `m * 2 ^ (e - 298)`; an exact zero takes the sign `zneg`. -/
def fRound (m : Int) (e : Nat) (zneg : Bool) : Nat :=
  if m = 0 then fZeroOf zneg else fRoundMag (m < 0) m.natAbs e

/-- Exact sum of `a * 2 ^ (ea - 298)` and `b * 2 ^ (eb - 298)`. -/
def dySum (a : Int) (ea : Nat) (b : Int) (eb : Nat) : Int × Nat :=
  let e := min ea eb
  (a * 2 ^ (ea - e) + b * 2 ^ (eb - e), e)

/-- Sum with exact operand values; none is a NaN result (R315). -/
def fAdd (x y : Nat) : Option Nat :=
  if fNaN x || fNaN y then none
  else if fInf x then (if fInf y && fSign x != fSign y then none else some x)
  else if fInf y then some y
  else
    let r := dySum (fMant x) (fScale x + 149) (fMant y) (fScale y + 149)
    some (fRound r.1 r.2 (fSign x && fSign y))

def fNeg (x : Nat) : Nat := if fSign x then x - 2 ^ 31 else x + 2 ^ 31
def fAbs (x : Nat) : Nat := if fSign x then x - 2 ^ 31 else x

def fSub (x y : Nat) : Option Nat := if fNaN y then none else fAdd x (fNeg y)

def fMul (x y : Nat) : Option Nat :=
  let neg := fSign x != fSign y
  if fNaN x || fNaN y then none
  else if fInf x || fInf y then (if fZero x || fZero y then none else some (fInfOf neg))
  else some (fRound (fMant x * fMant y) (fScale x + fScale y) neg)

/-- `x * y + z` rounded once. -/
def fFma (x y z : Nat) : Option Nat :=
  let neg := fSign x != fSign y
  if fNaN x || fNaN y || fNaN z then none
  else if fInf x || fInf y then
    if fZero x || fZero y || (fInf z && fSign z != neg) then none else some (fInfOf neg)
  else if fInf z then some z
  else
    let r := dySum (fMant x * fMant y) (fScale x + fScale y) (fMant z) (fScale z + 149)
    some (fRound r.1 r.2 (neg && fSign z))

/-- Order of two numbers that are no NaN: an integer that orders as the values do; +0 and −0 are equal. -/
def fOrd (x : Nat) : Int :=
  let y : Nat := if fZero x then 0 else x % 2 ^ 31
  if fSign x then -(y : Int) else y

def fLt (x y : Nat) : Bool := fOrd x < fOrd y
def fEq (x y : Nat) : Bool := fOrd x == fOrd y
def fLe (x y : Nat) : Bool := fOrd x ≤ fOrd y

/-- A subnormal counts as zero of its sign (R314). -/
def fFlush (x : Nat) : Nat := if fZero x then fZeroOf (fSign x) else x

/-- Lesser and greater; of +0 and −0 the lesser is −0 (R316). -/
def fMin (x y : Nat) : Nat :=
  if fZero x && fZero y then fZeroOf (fSign x || fSign y) else if fLt y x then fFlush y else fFlush x
def fMax (x y : Nat) : Nat :=
  if fZero x && fZero y then fZeroOf (fSign x && fSign y) else if fLt x y then fFlush y else fFlush x

/-- The integer of a finite number: to nearest even, or toward zero. -/
def fToInt (x : Nat) (nearest : Bool) : Int :=
  let m := (fMant x).natAbs
  let e := fScale x
  let v := if 149 ≤ e then m * 2 ^ (e - 149) else if nearest then rne m (149 - e) else m / 2 ^ (149 - e)
  if fSign x then -(v : Int) else v

/-- Limit an integer to a range. -/
def clampI (lo hi x : Int) : Int := max lo (min hi x)

/-- The integer of a number limited to a range, infinities to its ends (R317). -/
def fToRange (x : Nat) (nearest : Bool) (lo hi : Int) : Int :=
  if fInf x then (if fSign x then lo else hi) else clampI lo hi (fToInt x nearest)

/-- Binary32 of an integer. -/
def fOfInt (x : Int) : Nat := fRound x 298 false

/-- Binary32 of `x / 2 ^ k`, `k` at most 298. -/
def fOfFix (x : Int) (k : Nat) : Nat := fRound x (298 - k) false

/-- Binary32 of a fraction of naturals, nearest; ties and inexact quotients are decided on 64 further bits and a sticky
bit. -/
def fOfRat (a b : Nat) : Nat :=
  if b = 0 then fInfOf false
  else fRoundMag false (2 * (a * 2 ^ 100 / b) + b2n (a * 2 ^ 100 % b != 0)) (298 - 101)

/-- A finite number times `mul * 2 ^ k`, to the nearest integer: the `round` of R471. Halves go away from zero. -/
def fScaled (x mul k : Nat) : Int :=
  let m := (fMant x).natAbs * mul
  let e := fScale x + k
  let v := if 149 ≤ e then m * 2 ^ (e - 149) else (2 * m + 2 ^ (149 - e)) / 2 ^ (149 - e + 1)
  if fSign x then -(v : Int) else v

/-- As `fScaled`, limited to a range; an infinity goes to its end. -/
def fFix (x mul k : Nat) (lo hi : Int) : Int :=
  if fInf x then (if fSign x then lo else hi) else clampI lo hi (fScaled x mul k)

/-- Binary32 of a signed fraction. -/
def fOfRatI (a : Int) (b : Nat) : Nat := if a < 0 then fNeg (fOfRat a.natAbs b) else fOfRat a.natAbs b

end Sys2Proof.Machine
end

