-- ==== Sys2Proof/Machine/Feed.lean ====
section
/-!
DEFINITION. The inputs of the loop slots (spec/11_loop_engines.md R454, R465, R466, R495): where a slot's registers
and bindings lie, and how a measurement reaches the slots that are bound to it.
-/

namespace Sys2Proof.Machine
open Sys2Proof

/-! ### Slots (R454, R455) -/

def State.slot (s : State) (k : Nat) : SlotSt := tget {} k s.slots
def setSlot (k : Nat) (x : SlotSt) (s : State) : State := { s with slots := tset {} k x s.slots }
def modSlot (k : Nat) (f : SlotSt → SlotSt) (s : State) : State := setSlot k (f (s.slot k)) s

/-- Die, logical core and index of slot number `k`, and its register block. -/
def slotDie (k : Nat) : Nat := k / 512
def slotCore (k : Nat) : Nat := k % 512 / 8
def slB (k : Nat) : Nat := slotB (slotDie k) (slotCore k) (k % 8)

/-- The slot states (R455). -/
inductive SlotState where
  | idle | stopped | running | holding | ramping | safe
deriving DecidableEq, Repr

def SlotState.code : SlotState → Nat
  | .idle => 0 | .stopped => 1 | .running => 2 | .holding => 3 | .ramping => 4 | .safe => 5

def SlotState.ofCode : Nat → SlotState
  | 0 => .idle | 1 => .stopped | 2 => .running | 3 => .holding | 4 => .ramping | _ => .safe

def State.slotState (s : State) (k : Nat) : SlotState := SlotState.ofCode (rd s (slB k) R.LOOP_SLOT_STATUS_STATE)

/-- The slot runs: RUNNING, HOLDING, RAMPING or SAFE. -/
def slotActive (s : State) (k : Nat) : Bool := 2 ≤ rd s (slB k) R.LOOP_SLOT_STATUS_STATE

def slotChannel (s : State) (k : Nat) : Nat := rd s (slB k) R.LOOP_SLOT_CFG_CHANNEL
def slotRole (s : State) (k : Nat) : Nat := rd s (slB k) R.LOOP_SLOT_CFG_ROLE

/-- The slots that are not IDLE and are bound to a channel. -/
def slotsOf (s : State) (n : Nat) : List Nat :=
  (s.slots.filter (fun e => slotChannel s e.1 == n && s.slotState e.1 != .idle)).map (·.1)

/-- The channel has a colour loop (R264). -/
def hasColour (s : State) (n : Nat) : Bool := (slotsOf s n).any (fun k => slotRole s k == 2)

/-! ### Bindings (R495) -/

def bindWord (s : State) (k w : Nat) : Nat := tget 0 (48 * k + w) s.binds
def inSrc (s : State) (k i : Nat) : Nat := bits (bindWord s k i) 0 8
def inArg (s : State) (k i : Nat) : Nat := bits (bindWord s k i) 8 16
def outDst (s : State) (k i : Nat) : Nat := bits (bindWord s k (16 + i)) 0 8
def outArg (s : State) (k i : Nat) : Nat := bits (bindWord s k (16 + i)) 8 16
def outN (s : State) (k i : Nat) : Nat := bits (bindWord s k (16 + i)) 24 4
def outSafe (s : State) (k i : Nat) : Nat := bindWord s k (32 + i)

/-- The bits of ARG that a source takes (R466): string, sensor, set-point, or string, level and sensor. -/
def srcArg (src arg : Nat) : Nat :=
  if src = 1 || src = 2 || src = 5 || src = 6 then arg % 8
  else if src = 4 then arg % 16
  else if src = 0xE then arg % 4
  else if src = 0x10 then bits arg 0 3 + 16 * bits arg 4 2 + 256 * bits arg 8 4
  else 0

/-- A source the head reports at every tick (R466). -/
def headTickSrc (src : Nat) : Bool := src == 3 || src == 4 || src == 7 || 0xB ≤ src && src ≤ 0xD

/-! ### Calibration values in use (R745, R765) -/

/-- Default of a calibration value (R765): a current-sense gain and a converter gain of 1.0, a vernier step of 250 ps;
no dark offset, no converter offset. -/
def calDef (kind w : Nat) : Nat :=
  if kind = 2 || (kind = 4 && w % 2 = 0) then 0x4000 else if kind = 6 then 250 * w else 0

def calKey (kind target w : Nat) : Nat := (256 * kind + target) * 64 + w
def calAt (s : State) (kind target w : Nat) : Nat := tget (calDef kind w) (calKey kind target w) s.cals

/-- A light-sensor reading less the sensor's dark offset. -/
def lightValue (s : State) (n i v : Nat) : Int := (v : Int) - calAt s 1 n i

/-- Give input `i` of a slot a new value. -/
def setInput (k i v : Nat) (s : State) : State :=
  modSlot k (fun x => { x with vals := tset 0 i v x.vals, news := setBit x.news i true }) s

/-- A measurement of source `src` with argument `arg` on channel `n` reaches every input bound to it. -/
def feedInput (n src arg v : Nat) (s : State) : State :=
  each (slotsOf s n) (fun k s =>
    each ((List.range 16).filter (fun i => inSrc s k i == src && srcArg src (inArg s k i) == arg))
      (fun i => setInput k i v) s) s

end Sys2Proof.Machine
end

