-- ==== Sys2Proof/Machine/Num.lean ====
section
/-!
DEFINITION. Base-2 logarithms and powers in fixed point, for the rules that give a value only as a real number
(spec/10_lamps_rill.md R421; spec/18_heat_calibration_wear.md R739).
-/

namespace Sys2Proof.Machine
open Sys2Proof

/-- The fraction bits of log2 of `m / 2 ^ 60`, m from 2 ^ 60 up to 2 ^ 61: `k` further bits of `acc`. -/
def log2Bits : Nat → Nat → Nat → Nat
  | 0, _, acc => acc
  | k + 1, m, acc =>
    let q := m * m / 2 ^ 60
    if 2 ^ 61 ≤ q then log2Bits k (q / 2) (2 * acc + 1) else log2Bits k q (2 * acc)

/-- log2 of `x`, at least 1, in 2 ^ -50, rounded down. -/
def lg2 (x : Nat) : Nat :=
  let e := x.log2
  e * 2 ^ 50 + log2Bits 50 (if 60 ≤ e then x / 2 ^ (e - 60) else x * 2 ^ (60 - e)) 0

/-- The greatest number below `2 ^ k` added to `acc` whose log2 is at most `t`, bit by bit. -/
def pow2Bits (t : Nat) : Nat → Nat → Nat
  | 0, acc => acc
  | k + 1, acc => pow2Bits t k (if lg2 (acc + 2 ^ k) ≤ t then acc + 2 ^ k else acc)

/-- The greatest number below `2 ^ k` whose log2 is at most `t`; 0 when there is none. -/
def pow2Floor (k t : Nat) : Nat := pow2Bits t k 0

/-- An integer next to the real number `2 ^ (t / 2 ^ 50)`: that number when it is an integer, else one of its two
neighbours, as `up` chooses. -/
def pow2Near (t : Nat) (up : Bool) : Nat :=
  let k := pow2Floor 17 t
  if 1 ≤ k && lg2 k = t then k else if up then k + 1 else k

end Sys2Proof.Machine
end

