-- ==== Sys2Proof/Machine/Lamps.lean ====
section
/-!
DEFINITION. Lamps and the rill (spec/10_lamps_rill.md): limits, cuts, fade engines, derating, the rill frame, its
commands and tags, SAFE-DARK, and the conversion of a program amplitude to a current code.
-/

namespace Sys2Proof.Machine
open Sys2Proof

/-! ### Fade engines (R420 to R422) -/

/-- log2 of the value of a LOG fade from `a` to `b` with `e` of `d` ticks gone, in 2 ^ -50 (R421). -/
def logFadeLg (a b e d : Nat) : Nat := (lg2 (max a 16) * (d - e) + lg2 (max b 16) * e) / d

/-- A value's root of order γ, as a fraction in 2 ^ -60; `g` is 8γ (R421). -/
def gammaRoot (v g : Nat) : Nat :=
  if v = 0 then 0 else pow2Floor 61 (60 * 2 ^ 50 - (lg2 65535 - lg2 v) * 8 / g)

/-- log2 of the value of a GAMMA fade, in 2 ^ -50; none when the value is below 1 (R421). -/
def gammaFadeLg (a b e d g : Nat) : Option Nat :=
  let w := (gammaRoot a g * (d - e) + gammaRoot b g * e) / d
  if w = 0 then none
  else
    let down := (60 * 2 ^ 50 - lg2 w) * g / 8
    if lg2 65535 < down then none else some (lg2 65535 - down)

/-- The value of a fade at HT `t` (R421): exact at its ends, and between them the real number of the curve but for its
rounding, which the specification does not state. -/
def Fade.value (f : Fade) (t : Nat) : Nat :=
  let e := t - f.t0
  if !f.active || f.dur ≤ e then f.v1
  else
    let a := if f.curve == 1 then max f.v0 16 else f.v0
    let b := if f.curve == 1 then max f.v1 16 else f.v1
    let up := Config.fadeValue f.curve f.gamma f.v0 f.v1 e f.dur % 2 == 1
    let x :=
      if f.curve == 1 then pow2Near (logFadeLg f.v0 f.v1 e f.dur) up
      else if f.gamma == 0 then
        let num := a * (f.dur - e) + b * e
        num / f.dur + (if num % f.dur = 0 then 0 else b2n up)
      else match gammaFadeLg f.v0 f.v1 e f.dur (8 + f.gamma) with
        | some l => pow2Near l up
        | none => b2n up
    max (min a b) (min (max a b) x)

/-- Start a fade at HT `t` from the value there (R420, R422). -/
def Fade.start (f : Fade) (t target dur curve gamma : Nat) : Fade :=
  { v0 := f.value t, v1 := target, t0 := t, dur := dur * ms, curve, gamma, active := true }

/-- HUB_SVC_CEIL.CEIL: the lesser of the data-path and the management value (R789). -/
def svcCeil (s : State) : Nat := min (rd s mgtB R.MGT_SVC_CEIL_PF0) (rd s mgtB R.MGT_SVC_CEIL_MGT)

/-- The ceiling that the mode asks for (R54). -/
def modeCeil (s : State) : Nat := if s.mode = .service then svcCeil s else 0xFFFF

/-- The brightness engine with a fade to `target` started at `t`. -/
def bFade (s : State) (n t target : Nat) (f : Fade) : Fade :=
  f.start t target (rd s (chB n) R.LAMP_FADE_B_DUR) (rd s (chB n) R.LAMP_FADE_B_CURVE) (rd s (chB n) R.LAMP_FADE_B_GAMMA)

/-- The ceiling engine with a fade to `target` started at `t`. -/
def cFade (s : State) (n t target : Nat) (f : Fade) : Fade :=
  f.start t target (rd s (chB n) R.LAMP_FADE_C_DUR) (rd s (chB n) R.LAMP_FADE_C_CURVE) (rd s (chB n) R.LAMP_FADE_C_GAMMA)

/-- A fade engine at a value, with no fade. -/
def Fade.at_ (f : Fade) (v : Nat) : Fade := { f with v0 := v, v1 := v, active := false }

/-- Master brightness B at HT `t`, with the changes that frame boundaries up to `t` bring (R111, R228, R420). -/
def fadeB (s : State) (n t : Nat) : Nat :=
  ((((s.chst n).bright.filter (·.1 ≤ t)).foldl (fun f b => if b.2.2 then f.at_ b.2.1 else bFade s n b.1 b.2.1 f)
    (s.lamp n).fadeB)).value t

/-- The mode ceiling C_mode at HT `t`, with a change that waits for the next frame boundary (R54, R420). -/
def fadeC (s : State) (n t : Nat) : Nat :=
  let w := s.weir n
  let f := match w.q.find? (·.kind == .mark) with
    | some m => if w.ceilDue && s.chState n == ChState.running && decide (m.t ≤ t) then cFade s n m.t (modeCeil s) (s.lamp n).fadeC
        else (s.lamp n).fadeC
    | none => (s.lamp n).fadeC
  f.value t

/-- Start the brightness fade toward `target` at frame boundary `t`. -/
def startFadeB (n t target : Nat) (s : State) : State :=
  modLamp n (fun l => { l with fadeB := bFade s n t target l.fadeB }) s

/-- Start the ceiling fade toward `target` at frame boundary `t` (R54). -/
def startFadeC (n t target : Nat) (s : State) : State :=
  modLamp n (fun l => { l with fadeC := cFade s n t target l.fadeC }) s

/-- Set B at once, without a fade (R228). -/
def stepFadeB (n v : Nat) (s : State) : State := modLamp n (fun l => { l with fadeB := l.fadeB.at_ v }) s

/-! ### Limits (R411, R412) -/

/-- A field that takes effect at frame boundaries, as it stands for items that launch at `t` (R111). -/
def efAt (s : State) (n b : Nat) (f : Fld) (t : Nat) (i : Nat := 0) : Nat :=
  match ((s.chst n).defer.filter (fun d => d.2.1 == f.key b i && d.1 ≤ t)).getLast? with
  | some d => d.2.2.getD (f.reset i)
  | none => ef s b f i

/-- C_reg of a string for items that launch at `t`: the lesser of the value in effect and the management value (R411,
R789). -/
def cReg (s : State) (n k t : Nat) : Nat :=
  min (efAt s n (strB n k) R.LAMP_SCEIL_CEIL t) (tget 0xFFFF (strB n k) s.mgtCeil)

/-- C_prog for items that launch at `t`: the last CEIL whose TC is at or before `t` (R310). -/
def cProg (s : State) (n k t : Nat) : Nat :=
  match ((s.seq n).ceils.filter (fun c => c.2.1 == k && c.1 ≤ t)).getLast? with
  | some c => c.2.2
  | none => 0xFFFF

/-- D_s (R423, R428): with no temperature source, SAFE or what it last was, whichever is less. -/
def dFactor (s : State) (n k : Nat) : Nat :=
  if rd s (strB n k) R.LAMP_STEMP_SRC = 2 then
    let safe := rd s (chB n) R.LAMP_DERATE1_SAFE
    if (s.str n k).formed then min (s.str n k).dLast safe else safe
  else rd s (strB n k) R.LAMP_SSTAT_D

/-- The string is cut (R416). -/
def isCut (s : State) (n k : Nat) : Bool := (s.str n k).cuts != 0

/-- L_s for items that launch at `t` (R411). -/
def limitAt (s : State) (n k t : Nat) : Nat :=
  min (min (cReg s n k t) (cProg s n k t)) (min (min (fadeC s n t) (dFactor s n k)) (if isCut s n k then 0 else 0xFFFF))

/-- L_s now; 0 for a string that does not exist (R408). -/
def limitNow (s : State) (n k : Nat) : Nat := if k < headStrings s n then limitAt s n k s.ht else 0

/-- L_send: the greatest of L_s and every limit that governs an item whose interval has not ended (R412). -/
def limitSend (s : State) (n k : Nat) : Nat :=
  let sent := ((s.weir n).q.filter (fun i => (i.kind == .plane || i.kind == .lamp) && i.str == k && i.sent.isSome)).map (·.lim)
  (((s.str n k).govern.filter (fun g => s.ht < g.2)).map (·.1) ++ sent).foldl max (limitNow s n k)

/-- Curve entry e[j] of a string in a current range; min(2048 j, 0xFFFF) from reset (R450). -/
def curveKey (n k rg j : Nat) : Nat := ((n * 6 + k) * 2 + rg) * 33 + j
def curveDef (j : Nat) : Nat := min (2048 * j) 0xFFFF
def curveAt (s : State) (n k rg j : Nat) : Nat := tget (curveDef j) (curveKey n k rg j) s.curves

/-- Current range of a string: the range every driver acknowledged (R444). -/
def strRange (s : State) (n k : Nat) : Nat := rd s (strB n k) R.LAMP_SSTAT_HIGH

/-- c(x): the greatest curve entry up to the segment that holds x (R412). -/
def curveCeil (s : State) (n k x : Nat) : Nat :=
  ((List.range (min 32 (ceilDiv x 2048) + 1)).map (curveAt s n k (strRange s n k))).foldl max 0

/-- The ceiling of a string's shares: c(L_send), and 0x0000 while the string is cut (R412, R417). -/
def rillCeil (s : State) (n k : Nat) : Nat := if isCut s n k then 0 else curveCeil s n k (limitSend s n k)

/-- L_latched at HT `t` (R412). -/
def latchedAt (s : State) (n k t : Nat) : Nat :=
  let l := s.lamp n
  if l.frameEnd ≤ t then
    match l.inFrame.find? (·.1 == k) with
    | some p => p.2
    | none => (s.str n k).latched
  else (s.str n k).latched

/-- Take the limits of a latched frame as L_latched. -/
def settleRill (n : Nat) (s : State) : State :=
  let l := s.lamp n
  if l.inFrame != [] && l.frameEnd ≤ s.ht then
    modLamp n (fun l => { l with inFrame := [] })
      (each l.inFrame (fun p => modStr n p.1 (fun x => { x with latched := p.2 })) s)
  else s

/-! ### From program amplitude to current (R413 to R415) -/

/-- The common factor K of a string for an item that launches at `t` (R413). -/
def factorK (s : State) (n k t : Nat) : Nat :=
  min (limitAt s n k t)
    (min (latchedAt s n k t) (fadeB s n t * rd s (strB n k) R.LAMP_SGAIN_GAIN / 2 ^ 14))

/-- Corrected amplitude A′ (R414). -/
def corrected (amp corr : Nat) : Nat := min 0xFFFF (amp * corr / 2 ^ 14)

/-- Driven amplitude A (R414). -/
def driven (a k : Nat) : Nat := (a * k + 32767) / 65535

/-- The current of a driven amplitude along the string's curve, with X taken as 1 (R415). -/
def curveCurrent (s : State) (n k a : Nat) : Nat :=
  let rg := strRange s n k
  let i := a / 2048
  let e0 : Int := curveAt s n k rg i
  let e1 : Int := curveAt s n k rg (i + 1)
  (e0 + ((e1 - e0) * (a % 2048 : Nat) + 1024) / 2048).toNat

/-- The unclamped current of a driven amplitude (R415). -/
def rawCurrent (s : State) (n k a : Nat) : Nat := curveCurrent s n k a * rd s (strB n k) R.LAMP_SGAIN_TRIM / 2 ^ 14

/-- Current code I of a driven amplitude at HT `t` (R415). -/
def currentCode (s : State) (n k a t : Nat) : Nat :=
  min (curveCeil s n k (latchedAt s n k t)) (rawCurrent s n k a)

/-! ### The rill frame (R436 to R440) -/

/-- The 48-bit share of a driver (R438). -/
def share (ceil mask cmd tag : Nat) : Nat :=
  let w := ceil * 2 ^ 24 + mask * 2 ^ 12 + cmd * 2 ^ 8 + tag
  w * 256 + crc8 [w / 2 ^ 32 % 256, w / 2 ^ 24 % 256, w / 2 ^ 16 % 256, w / 2 ^ 8 % 256, w % 256]

/-- Duration of a rill frame: LEN × 3.84 µs + 1.0 µs (R437). -/
def rillTicks (s : State) (n : Nat) : Nat := rillLen s n * 15360 + us

/-- Frame start interval with its bounds (R437). -/
def rillPeriod (s : State) (n : Nat) : Nat :=
  let lo := ceilDiv (rillLen s n * 384 + 200) 100
  max lo (min 1000 (rd s (chB n) R.LAMP_RILL_CFG_PERIOD)) * us

/-- The rill is in SAFE-DARK. -/
def inSafeDark (s : State) (n : Nat) : Bool := rdB s (chB n) R.CH_STATUS_SAFE_DARK

/-- The string has an item above amplitude zero launching before `t`. -/
def litBefore (s : State) (n k t : Nat) : Bool :=
  (s.weir n).q.any (fun i => (i.kind == .plane || i.kind == .lamp) && i.str == k && i.amp != 0 && i.t < t)

/-- A bypass command may be sent in a frame that latches at `latch` (R433, R434): no plane interval of the string is
open then, no LAMP lights it, and its next lit item is 20 µs + T_S away; or the string runs dark for it in the whole frame
in which it latches. -/
def bypassFits (s : State) (n k latch : Nat) : Bool :=
  let w := s.weir n
  let open_ := match w.openPlane with
    | some p => p.1 == k && latch < w.planeEnd
    | none => false
  let inFrame := match w.q.find? (·.kind == .mark) with
    | some m => decide (latch < m.t)
    | none => true
  ((s.str n k).bypDark == some w.curFno && inFrame)
    || (!open_ && tget 0 k w.lampCur ≤ 1 && !litBefore s n k (latch + 20 * us + headTs s n))

/-- The command that driver `i`'s share carries in a frame that starts at `t` and latches at `latch`, if any. -/
def dueCmd (s : State) (n i t latch : Nat) : Option RillCmd :=
  match (s.drv n i).cmds with
  | c :: _ =>
    if c.cmd = 5 && c.first = none && !bypassFits s n (drvString s n i) latch then none
    else if c.prog && t < c.tc then none
    else some c
  | [] => none

/-- LAMP_STATUS.CMD_PENDING. -/
def refreshPending (n : Nat) (s : State) : State :=
  wrB (chB n) R.LAMP_STATUS_CMD_PENDING
    ((List.range (rillLen s n)).any (fun i => (s.drv n i).cmds.any (·.first.isSome))) s

/-- Send one rill frame that starts at `t` (R437, R438): every driver's share carries its string's ceiling, its bypass
mask on a P-class port (R36, R432) and its command. -/
def sendRill (n t : Nat) (s : State) : State :=
  let s := settleRill n s
  let latch := t + rillTicks s n
  let drs := List.range (rillLen s n)
  let mask := fun i => if pclass n then (s.drv n i).mask else 0
  let ceil := fun i =>
    let k := drvString s n i
    if k < headStrings s n then rillCeil s n k else 0
  let shares := drs.map (fun i =>
    match dueCmd s n i t latch with
    | some c => share (ceil i) (mask i) c.cmd c.tag
    | none => share (ceil i) (mask i) 0 (s.drv n i).lastTag)
  let sent := (strings s n).map (fun k => (k, limitSend s n k))
  let s := each (strings s n) (fun k s =>
    wr (strB n k) R.LAMP_SLIMIT_RILL_CEIL (rillCeil s n k)
      (modStr n k (fun x => { x with govern := x.govern.filter (fun g => s.ht < g.2) }) s)) s
  let s := each drs (fun i s =>
    match dueCmd s n i t latch, (s.drv n i).cmds with
    | some c, _ :: rest =>
      if c.first = none then
        setDrv n i { s.drv n i with cmds := { c with first := some t, stale := c.tag == (s.drv n i).tag } :: rest,
                                    lastTag := c.tag } s
      else s
    | none, c :: _ =>
      if c.cmd = 5 && (s.str n (drvString s n i)).bypSince = none then
        modStr n (drvString s n i) (fun x => { x with bypSince := some t }) s
      else s
    | _, _ => s) s
  let l := s.lamp n
  let s := setLamp n { l with inFrame := sent, frameEnd := latch, nextFrame := t + rillPeriod s n, first := false } s
  let s := when_ l.first (modWeir n (fun w => { w with litFrom := latch + 100 * us })) s
  refreshPending n (bump (chB n) R.LAMP_RILL_FRAME_CNT_COUNT (emitOut (.rillFrame n shares) s))

/-- The drift check of the frame in progress leaves out the primary of the plane whose interval is open (R419). -/
def spoilOpen (n : Nat) (s : State) : State :=
  let w := s.weir n
  match w.openPlane, (tget [] w.curFno w.drift).getLast? with
  | some _, some r =>
    modWeir n (fun w => { w with driftSkip := tset 0 w.curFno (setBit (tget 0 w.curFno w.driftSkip) r.pri true) w.driftSkip }) s
  | _, _ => s

/-- Abort the frame in progress, if any, and start a new one at the end of the low (R417, R439); before the first frame
after SAFE-DARK the low of R436 is kept. -/
def abortRill (n : Nat) (s : State) : State :=
  let l := s.lamp n
  if inSafeDark s n || (l.first && s.ht < l.nextFrame) then s
  else
    if s.ht < l.frameEnd && l.inFrame != [] then
      let s := setLamp n { l with inFrame := [] } s
      sendRill n (s.ht + 200 * ns + us)
        (spoilOpen n (bump (chB n) R.LAMP_RILL_ABORT_CNT_COUNT (emitOut (.rillAbort n) s)))
    else sendRill n s.ht s

/-! ### Cuts (R416 to R418) -/

/-- A cause of the cut table starts (R417). -/
def cutStart (n k cause : Nat) (s : State) : State :=
  if bitOf (s.str n k).cuts cause then s
  else
    let fresh := !isCut s n k
    let s := modStr n k (fun x => { x with cuts := setBit x.cuts cause true }) s
    let s := when_ (fresh && (s.weir n).openPlane.any (·.1 == k)) (spoilOpen n) s
    let s := when_ fresh (fun s => modWeir n (fun w => { w with q := w.q.map (fun i => if i.str = k then { i with lim := 0 } else i) })
      (modStr n k (fun x => { x with govern := [] }) s)) s
    let s := wr (strB n k) R.LAMP_SSTAT_CAUSE cause (wrB (strB n k) R.LAMP_SSTAT_CUT true s)
    let s := wr (chB n) R.LAMP_STATUS_CUT (setBit (rd s (chB n) R.LAMP_STATUS_CUT) k true) s
    let s := bump (chB n) R.LAMP_CUT_CNT_COUNT s
    let s := raise 0x0803 n (k + cause * 16) s
    when_ fresh (abortRill n) s

/-- A cause ends; with the last, the cut ends (R418). -/
def cutEnd (n k cause : Nat) (s : State) : State :=
  if !bitOf (s.str n k).cuts cause then s
  else
    let s := modStr n k (fun x => { x with cuts := setBit x.cuts cause false }) s
    if isCut s n k then s
    else
      let s := modStr n k (fun x => { x with zeroNext := true }) s
      let s := wr (strB n k) R.LAMP_SSTAT_CAUSE cause (wrB (strB n k) R.LAMP_SSTAT_CUT false s)
      let s := wr (chB n) R.LAMP_STATUS_CUT (setBit (rd s (chB n) R.LAMP_STATUS_CUT) k false) s
      raise 0x0804 n (k + cause * 16) s

/-- Strings below S that no driver serves are cut with cause 0x7, and only those (R410, R416). -/
def refreshServed (n : Nat) (s : State) : State :=
  each (strings s n) (fun k s => if driversOf s n k = [] then cutStart n k 7 s else cutEnd n k 7 s) s

/-! ### SAFE-DARK (R446) -/

/-- The mode, the channel state or the program dark hold requires SAFE-DARK (R43, R62, R446), the Weir of a hand-over releases nothing
(R82), or the port's die is held in reset or isolated (R76, R696). -/
def needSafeDark (s : State) (n : Nat) : Bool :=
  (match s.mode with
    | .service => false | .show_ => false | .degraded => false | _ => true)
  || (match s.chState n with
    | .running => false | .draining => false | _ => true)
  || (s.lamp n).hold || s.hub.noRelease
  || rdB s (dieB (n / 48)) R.HUB_DIE_STATUS_IN_RESET || rdB s (dieB (n / 48)) R.HUB_DIE_STATUS_ISOLATED

/-- Start or end SAFE-DARK as its conditions ask (R446). L_latched is 0 from every start (R412). -/
def refreshSafeDark (n : Nat) (s : State) : State :=
  let need := needSafeDark s n
  if need && !inSafeDark s n then
    let s := wrB (chB n) R.CH_STATUS_SAFE_DARK true s
    let s := modLamp n (fun l => { l with inFrame := [], frameEnd := min l.frameEnd s.ht }) s
    let s := each (List.range 6) (fun k => modStr n k (fun x => { x with latched := 0 })) s
    emitOut (.safeDark n 1) s
  else if !need && inSafeDark s n then
    let s := wrB (chB n) R.CH_STATUS_SAFE_DARK false s
    emitOut (.safeDark n 0) (modLamp n (fun l => { l with nextFrame := s.ht + us, first := true }) s)
  else s

/-! ### Commands and bypass (R432 to R444) -/

/-- A tag that differs from the last tag the driver reported (R442). -/
def ownTag (n i : Nat) (s : State) : Nat × State :=
  let d := draw 8 s
  (if d.1 = (s.drv n i).tag then (d.1 + 1) % 256 else d.1, d.2)

/-- Queue one of the device's own commands for a driver. -/
def queueOwn (n i cmd : Nat) (pos spare : Nat) (s : State) : State :=
  let t := ownTag n i s
  modDrv n i (fun d => { d with cmds := d.cmds ++ [{ cmd, tag := t.1, pos, spare }] }) t.2

/-- Queue a program command; a later one replaces the one that waits (R440). -/
def queueProg (n i cmd tag tc : Nat) (s : State) : State :=
  modDrv n i (fun d =>
    { d with cmds := d.cmds.filter (fun c => !(c.prog && c.first = none)) ++ [{ cmd, tag, prog := true, tc }] }) s

/-- Spares neither failed nor brought in (R452). -/
def sparesLeft (s : State) (n i : Nat) : Nat :=
  ((bitList 12 (rd s (bypB n i) R.LAMP_BYP_CFG_SPARE)).filter (fun p =>
    !bitOf (s.drv n i).failed p && !bitOf (s.drv n i).brought p)).length

/-- The registers that show a driver's bypass state (R452). -/
def showBypass (n i : Nat) (s : State) : State :=
  let d := s.drv n i
  wr (bypB n i) R.LAMP_BYP_STAT_FAILED d.failed (wr (bypB n i) R.LAMP_BYP_STAT_MASK d.mask s)

/-- The bypass masks at ARM: SPARE less BROUGHT, with FAILED (R432). -/
def armBypass (n : Nat) (s : State) : State :=
  if !pclass n then s
  else each (List.range 16) (fun i s =>
    let spare := rd s (bypB n i) R.LAMP_BYP_CFG_SPARE
    showBypass n i (modDrv n i (fun d =>
      { d with mask := bitMask ((List.range 12).filter (fun p =>
          (bitOf spare p && !bitOf d.brought p) || bitOf d.failed p)) }) s)) s

/-- A driver reports position `p` failed (R433 to R435). -/
def bypassPosition (n i p : Nat) (s : State) : State :=
  let d := s.drv n i
  if !pclass n || bitOf d.failed p then s
  else
    let spare := rd s (bypB n i) R.LAMP_BYP_CFG_SPARE
    let failed := setBit d.failed p true
    let cand := (bitList 12 spare).filter (fun q => !bitOf failed q && !bitOf d.brought q)
    let mask := setBit d.mask p true
    let s := bump (chB n) R.LAMP_BYP_CNT_COUNT s
    match cand with
    | q :: _ =>
      let s := setDrv n i { d with failed, brought := setBit d.brought q true, mask := setBit mask q false } s
      showBypass n i (queueOwn n i 5 p q s)
    | [] =>
      let s := setDrv n i { d with failed, mask } s
      let s := wrB (strB n (drvString s n i)) R.LAMP_SSTAT_SPARES_OUT true s
      raise 0x0806 n i (showBypass n i (queueOwn n i 5 p 15 s))

/-- Every driver of the string is present and has acknowledged its last command (R416, cause 0x3). -/
def driversFine (s : State) (n k : Nat) : Bool :=
  (driversOf s n k).all (fun i => (s.drv n i).present && (s.drv n i).cmds.all (fun c => c.first = none))

/-- Range commands to every driver of a string, with the range asked for (R444, R445). -/
def sendRange (n k : Nat) (high : Bool) (s : State) : State :=
  each (driversOf s n k) (fun i => queueOwn n i (if high then 2 else 1) 0 15) s

/-- A range change is complete for a string when every driver acknowledged its range command: LAMP_SSTAT.HIGH and
SEQ_RANGE_STAT.HIGH_EFF take the range (R444). -/
def rangeAcked (n k : Nat) (s : State) : State :=
  if (driversOf s n k).all (fun i => (s.drv n i).cmds.all (fun c => c.cmd != 1 && c.cmd != 2)) then
    let h := bitOf (ef s (chB n) R.SEQ_RANGE_HIGH) k
    wr (chB n) R.SEQ_RANGE_STAT_HIGH_EFF (setBit (rd s (chB n) R.SEQ_RANGE_STAT_HIGH_EFF) k h)
      (wrB (strB n k) R.LAMP_SSTAT_HIGH h s)
  else s

/-- A driver acknowledged the command it was sent (R440, R433 step 4). -/
def driverAck (n i : Nat) (s : State) : State :=
  match (s.drv n i).cmds with
  | c :: rest =>
    let s := setDrv n i { s.drv n i with cmds := rest } s
    let k := drvString s n i
    if c.cmd = 5 then
      raise 0x0805 n (i + c.pos * 16 + c.spare * 256 + (s.drv n i).mask * 65536)
        (modStr n k (fun x => { x with bypSince := none, bypDark := none }) s)
    else if c.cmd = 1 || c.cmd = 2 then
      rangeAcked n k (modStr n k (fun x => { x with rangeWait := setBit x.rangeWait i false }) s)
    else s
  | [] => s

/-! ### Derating (R423 to R428) -/

/-- The thermistor that stands in for a channel's telemetry is enabled, valid and at most 50 ms old (R423). -/
def thermOk (s : State) (n : Nat) : Bool :=
  let i := rd s (chB n) R.LAMP_DERATE2_THERM
  rdB s (chB n) R.LAMP_DERATE2_TEN && rdB s hkB R.HK_THERM_VALID i
    && tget 0 i s.thermAt != 0 && s.tick + 1 - tget 0 i s.thermAt ≤ 50 * ms

/-- Thermistor temperature in 1/16 °C. -/
def thermT (s : State) (n : Nat) : Int := sext 16 (rd s hkB R.HK_THERM_T (rd s (chB n) R.LAMP_DERATE2_THERM))

/-- A telemetry sample passes the plausibility check (R424). -/
def telPlausible (s : State) (n k : Nat) (t : Int) : Bool :=
  -640 ≤ t && t ≤ 2400
    && (match (s.str n k).prevTel with
        | some p => p - 320 ≤ t && t ≤ p + 320
        | none => true)
    && !(thermOk s n && t < thermT s n - 16 * (rd s (chB n) R.LAMP_DERATE2_PLAUS : Int))

/-- The last telemetry sample is at most STALE ms old and plausible (R423). -/
def telFresh (s : State) (n k : Nat) : Bool :=
  let x := s.str n k
  x.prevTel.isSome && x.telOk && s.tick - x.telAt ≤ max 1 (rd s (chB n) R.LAMP_DERATE2_STALE) * ms

/-- Every sample over the last 100 ms has been fresh and plausible (R425). -/
def telQualifies (s : State) (n k : Nat) : Bool := telFresh s n k && 100 * ms ≤ s.tick - (s.str n k).telSince

/-- The source of T_s (R423, R425, R426). -/
def tempSource (s : State) (n k : Nat) : Nat :=
  let cur := rd s (strB n k) R.LAMP_STEMP_SRC
  if (cur == 0 && telFresh s n k) || telQualifies s n k then 0 else if thermOk s n then 1 else 2

/-- The derating target D* of a temperature, and whether it is held at 0 (R427). -/
def derateTarget (s : State) (n : Nat) (held : Bool) (t : Int) : Nat × Bool :=
  let knee := 16 * sext 8 (rd s (chB n) R.LAMP_DERATE0_KNEE)
  let cut := 16 * sext 8 (rd s (chB n) R.LAMP_DERATE0_CUT)
  let hyst : Int := 16 * (rd s (chB n) R.LAMP_DERATE0_HYST : Nat)
  if t ≥ cut || (held && !(t ≤ cut - hyst)) then (0, true)
  else if t ≤ knee then (0xFFFF, false)
  else
    let d : Int := 65535 - 65535 * (rd s (chB n) R.LAMP_DERATE0_SLOPE : Nat) * (t - knee) / 160000
    ((max (rd s (chB n) R.LAMP_DERATE1_FLOOR : Int) d).toNat, false)

/-- D_s takes a new value: the registers, the cut of cause 0x4 and, unless `quiet`, the events of R428. -/
def setD (n k d : Nat) (quiet : Bool) (s : State) : State :=
  let old := rd s (strB n k) R.LAMP_SSTAT_D
  let s := wr (strB n k) R.LAMP_SSTAT_D d s
  let s := wr (chB n) R.LAMP_STATUS_DERATING (setBit (rd s (chB n) R.LAMP_STATUS_DERATING) k (d < 0xFFFF)) s
  let s := if d = 0 then cutStart n k 4 s else cutEnd n k 4 s
  if quiet then s
  else if old = 0xFFFF && d < 0xFFFF then raise 0x0808 n (k + rd s (strB n k) R.LAMP_STEMP_T * 65536) s
  else if old < 0xFFFF && d = 0xFFFF then raise 0x0809 n k s
  else s

/-- Take the source of T_s anew and let D_s follow it (R423, R425, R428). -/
def derateUpdate (n k : Nat) (s : State) : State :=
  let old := rd s (strB n k) R.LAMP_STEMP_SRC
  let src := tempSource s n k
  let s := if src = old then s else
    let s := wr (strB n k) R.LAMP_STEMP_SRC src s
    let s := wr (chB n) R.LAMP_STATUS_FALLBACK (setBit (rd s (chB n) R.LAMP_STATUS_FALLBACK) k (src != 0)) s
    let s := when_ (old = 0) (bump (chB n) R.LAMP_FALLBACK_CNT_COUNT) s
    raise 0x0807 n (k + src * 16) s
  let x := s.str n k
  if src = 2 then
    let safe := rd s (chB n) R.LAMP_DERATE1_SAFE
    if x.formed then setD n k (min x.dLast safe) false s else setD n k safe true s
  else
    let t : Int := if src = 0 then x.prevTel.getD 0
      else thermT s n + 16 * sext 8 (rd s (chB n) R.LAMP_DERATE2_THERM_OFS)
    let s := feedInput n 5 k (fOfFix t 4) (wr (strB n k) R.LAMP_STEMP_T (satTwos 16 t) s)
    let tgt := derateTarget s n x.dZero t
    let cur := rd s (strB n k) R.LAMP_SSTAT_D
    let dms := (s.tick - x.dAt) / ms
    let rise := max 1 (rd s (chB n) R.LAMP_DERATE3_RISE) * 65535 * dms / 100000
    let d := if !x.formed || tgt.1 ≤ cur then tgt.1 else min tgt.1 (cur + rise)
    let s := modStr n k (fun x => { x with
      formed := true, dLast := d, dZero := tgt.2, dAt := if dms = 0 && x.formed then x.dAt else s.tick }) s
    setD n k d (!x.formed) s

/-- A lamp-temperature sample arrives for a string (R423, R424). -/
def lampTemp (n k : Nat) (t : Int) (s : State) : State :=
  let ok := telPlausible s n k t
  let wasFresh := telFresh s n k
  let s := modStr n k (fun x => { x with
    prevTel := some t, telAt := s.tick, telOk := ok,
    telSince := if wasFresh && ok then x.telSince else s.tick }) s
  derateUpdate n k s

/-! ### Open and short strings (R430, R431) -/

/-- A returned voltage-and-current sample of a string with commanded current `ic`. -/
def lampSample (n k v i ic : Nat) (s : State) : State :=
  if ic < rd s (chB n) R.LAMP_DET_CFG_IMIN then s
  else
    let s := wr (strB n k) R.LAMP_SSAMPLE_I i (wr (strB n k) R.LAMP_SSAMPLE_V v s)
    let x := s.str n k
    let need := max 1 (rd s (chB n) R.LAMP_DET_CFG_CONFIRM)
    if 4 * i < ic && rd s (strB n k) R.LAMP_SVWIN_VOPEN ≤ v then
      let s := setStr n k { x with opens := x.opens + 1, shorts := 0 } s
      if x.opens + 1 = need then
        let s := wrB (strB n k) R.LAMP_SSTAT_OPEN true s
        let s := raise 0x0801 n (k + i * 65536) (bump (chB n) R.LAMP_OPEN_CNT_COUNT s)
        let applied := pclass n && (driversOf s n k).any (fun j => (s.drv n j).cmds.any (·.cmd == 5))
        when_ (rdB s (chB n) R.LAMP_DET_CFG_ACT && !applied) (cutStart n k 1) s
      else s
    else if v < rd s (strB n k) R.LAMP_SVWIN_VLOW && ic ≤ 2 * i then
      let s := setStr n k { x with shorts := x.shorts + 1, opens := 0 } s
      if x.shorts + 1 = need then
        let s := wrB (strB n k) R.LAMP_SSTAT_SHORT true s
        cutStart n k 2 (raise 0x0802 n (k + v * 65536) (bump (chB n) R.LAMP_SHORT_CNT_COUNT s))
      else s
    else setStr n k { x with opens := 0, shorts := 0 } s

/-! ### Commands of this chapter -/

/-- LAMP_CTRL.STR_CLR for one string (R416). -/
def stringClear (n k : Nat) (s : State) : State :=
  let fine := driversFine s n k
  let s := modStr n k (fun x => { x with opens := 0, shorts := 0 }) s
  let s := wrB (strB n k) R.LAMP_SSTAT_SHORT false (wrB (strB n k) R.LAMP_SSTAT_OPEN false s)
  let s := when_ fine (cutEnd n k 3) (cutEnd n k 2 (cutEnd n k 1 s))
  each (driversOf s n k) (fun i => queueOwn n i 6 0 15) s

/-- STRING_CLEAR: a write of LAMP_CTRL.STR_CLR ends the latched cuts of the strings in the mask whose cause is absent
and sends CLEAR_FAULT to their drivers (R416, R418). -/
def execStringClear (n : Fin 192) (mask : Nat) (s : State) : Host.Outcome State Fault Refusal :=
  run (each ((strings s n).filter (bitOf mask)) (stringClear n)) s

/-- The counters of the lamp table (R450). -/
def lampCounters : List Fld :=
  [R.LAMP_OPEN_CNT_COUNT, R.LAMP_SHORT_CNT_COUNT, R.LAMP_CUT_CNT_COUNT, R.LAMP_BYP_CNT_COUNT,
   R.LAMP_FALLBACK_CNT_COUNT, R.LAMP_RILL_FRAME_CNT_COUNT, R.LAMP_RILL_ABORT_CNT_COUNT, R.LAMP_READBACK_CNT_COUNT]

/-- LAMP_CNT_CLR (R450). -/
def execLampCntClr (n : Fin 192) (s : State) : Host.Outcome State Fault Refusal :=
  run (resetFlds (chB n) lampCounters) s

/-- A channel block runs in every state except OFF (R74, R405, R450). -/
def chRuns (s : State) (n : Nat) : Bool := rd s (chB n) R.CH_STATUS_STATE != 0

/-- LAMP_CURVE_DATA_ACCESS: a read of an entry (`w = none`) or a write of it; the index advances at each access that
names an entry, a write is rejected while the channel runs (R12, R450, R845). -/
def lampCurveAccess (n : Nat) (w : Option Nat) (s : State) : State :=
  let j := rd s (chB n) R.LAMP_CURVE_IDX_ENTRY
  let k := rd s (chB n) R.LAMP_CURVE_IDX_STR
  let rg := rd s (chB n) R.LAMP_CURVE_IDX_RANGE
  if 32 < j || 5 < k then
    match w with
    | none => emitOut (.readData 0 (leBytes 4 0)) s
    | some _ => s
  else
    let s := match w with
      | none => emitOut (.readData 0 (leBytes 4 (curveAt s n k rg j))) s
      | some v =>
        if chRuns s n && v % 65536 != curveAt s n k rg j then wrB (chB n) R.CH_STATUS_WRITE_REJECTED true s
        else { s with curves := tset (curveDef j) (curveKey n k rg j) (v % 65536) s.curves }
    let s := wr (chB n) R.LAMP_CURVE_IDX_ENTRY (if j = 32 then 0 else j + 1) s
    if j = 32 then wr (chB n) R.LAMP_CURVE_IDX_STR (k + 1) s else s

/-- LAMP_CURVE_DATA_ACCESS (R845). -/
def execLampCurveDataAccess (n : Fin 192) (w : Option Nat) (s : State) : Host.Outcome State Fault Refusal :=
  run (lampCurveAccess n w) s

/-- MGT_STATUS.OVR_CEIL: a management ceiling is below its data-path value (R793). -/
def ovrCeil (s : State) : Bool :=
  rd s mgtB R.MGT_SVC_CEIL_MGT < rd s mgtB R.MGT_SVC_CEIL_PF0
    || s.mgtCeil.any (fun e => e.2 < tget 0xFFFF (R.LAMP_SCEIL_CEIL.key e.1 0) s.regs)

/-- Take the three flags of R793 anew and raise event 0x1107 at a change. -/
def refreshOvr (s : State) : State :=
  let m := rd s mgtB R.MGT_STATUS_MGT_MODE
  let p := rd s mgtB R.MGT_STATUS_PF0_MODE
  let om := m != p && m != 7 && p != 7
  let oh := (List.range 6).any (fun i => rd s mgtB R.MGT_HOLD_HOLD i != 0)
  let oc := ovrCeil s
  let old := rd s mgtB R.MGT_STATUS_OVR_MODE + 2 * rd s mgtB R.MGT_STATUS_OVR_CH + 4 * rd s mgtB R.MGT_STATUS_OVR_CEIL
  let new := b2n om + 2 * b2n oh + 4 * b2n oc
  let s := wrB mgtB R.MGT_STATUS_OVR_CEIL oc (wrB mgtB R.MGT_STATUS_OVR_CH oh (wrB mgtB R.MGT_STATUS_OVR_MODE om s))
  when_ (new != old) (mgtEvent 0x1107 new) s

/-- LAMP_SCEIL_WRITE: a write of one path's value (R789). PF0's value waits for its commit (R411), the management value
takes effect at once; a string at or above S ignores the write (R408). -/
def lampSceilWrite (mgmt : Bool) (n k v : Nat) (s : State) : State :=
  if headStrings s n ≤ k then s
  else
    let before := cReg s n k s.ht
    let s := if mgmt then { s with mgtCeil := tset 0xFFFF (strB n k) (v % 65536) s.mgtCeil }
      else modCh n (fun x => { x with pend := tset 0 (R.LAMP_SCEIL_CEIL.key (strB n k) 0) 1 x.pend })
        (wr (strB n k) R.LAMP_SCEIL_CEIL v s)
    refreshOvr (when_ (cReg s n k s.ht != before) bumpSnap s)

/-- LAMP_SCEIL_WRITE (R789). -/
def execLampSceilWrite (mgmt : Bool) (n : Fin 192) (k : Fin 6) (v : Nat) (s : State) :
    Host.Outcome State Fault Refusal :=
  run (lampSceilWrite mgmt n k v) s

/-- SVC_CEIL_WRITE: a write of one path's HUB_SVC_CEIL.CEIL; the lesser governs, and RUNNING channels in SERVICE follow
it at their next frame boundary through the fade engine (R54, R789). -/
def svcCeilWrite (mgmt : Bool) (v : Nat) (s : State) : State :=
  let before := svcCeil s
  let s := wr mgtB (if mgmt then R.MGT_SVC_CEIL_MGT else R.MGT_SVC_CEIL_PF0) v s
  let s := wr hubB R.HUB_SVC_CEIL_CEIL (svcCeil s) s
  let s := when_ (svcCeil s != before) (fun s =>
    let s := when_ (s.mode = .service) (each channels (fun n s =>
      if s.chState n = .running then modWeir n (fun w => { w with ceilDue := true }) s else s)) s
    bumpSnap s) s
  refreshOvr s

/-- SVC_CEIL_WRITE (R789). -/
def execSvcCeilWrite (mgmt : Bool) (v : Nat) (s : State) : Host.Outcome State Fault Refusal :=
  run (svcCeilWrite mgmt v) s

/-- FADE_DONE: an engine's fade has reached p = 1 (R422). -/
def fadeDone (n : Nat) (ceiling : Bool) (s : State) : State :=
  let l := s.lamp n
  let f := if ceiling then l.fadeC else l.fadeB
  if f.active && f.t0 + f.dur ≤ s.ht then
    let f' := { f with active := false }
    raise 0x080E n (b2n ceiling + f.v1 * 65536)
      (setLamp n (if ceiling then { l with fadeC := f' } else { l with fadeB := f' }) s)
  else s

/-- FADE_DONE (R422). -/
def execFadeDone (n : Fin 192) (ceiling : Bool) (s : State) : Host.Outcome State Fault Refusal :=
  run (fadeDone n ceiling) s

/-- DERATE_SOURCE_RESTORE: after 100 ms of fresh and plausible samples the string returns to telemetry (R425). -/
def derateRestore (n k : Nat) (s : State) : State :=
  if rd s (strB n k) R.LAMP_STEMP_SRC != 0 && telQualifies s n k then derateUpdate n k s else s

/-- DERATE_SOURCE_RESTORE (R425). -/
def execDerateSourceRestore (n : Fin 192) (k : Fin 6) (s : State) : Host.Outcome State Fault Refusal :=
  run (derateRestore n k) s

/-- DERATE_TELEMETRY_STALE: the last sample is older than STALE ms; the source falls back (R423). -/
def derateStale (n k : Nat) (s : State) : State :=
  if rd s (strB n k) R.LAMP_STEMP_SRC = 0 && !telFresh s n k then derateUpdate n k s else s

/-- DERATE_TELEMETRY_STALE (R423). -/
def execDerateTelemetryStale (n : Fin 192) (k : Fin 6) (s : State) : Host.Outcome State Fault Refusal :=
  run (derateStale n k) s

/-- The program dark hold starts (R447). -/
def holdStart (n : Nat) (s : State) : State :=
  let s := modLamp n (fun l => { l with hold := true }) s
  let s := each (strings s n) (fun k => cutStart n k 6) s
  refreshSafeDark n (raise 0x080B n 1 (wrB (chB n) R.LAMP_STATUS_DARK_HOLD true s))

/-- The program dark hold ends (R447): no item lights before 100 µs after the first frame that follows. -/
def holdEnd (n : Nat) (s : State) : State :=
  let s := modLamp n (fun l => { l with hold := false, first := true }) s
  let s := modWeir n (fun w => { w with litFrom := 2 ^ 63 }) s
  let s := each (strings s n) (fun k => cutEnd n k 6) s
  refreshSafeDark n (raise 0x080B n 0 (wrB (chB n) R.LAMP_STATUS_DARK_HOLD false s))

/-- A FORCE_DARK or a DARKREL takes effect: one that changes nothing has no effect (R447). -/
def holdTake (n : Nat) (start : Bool) (s : State) : State :=
  if start = (s.lamp n).hold then s else if start then holdStart n s else holdEnd n s

/-- RILL_FRAME_START: at the frame start the dark holds and releases that are due take effect in their order (R447), and
while the rill is not in SAFE-DARK a frame is sent (R437). Without VDDIO every rill has stopped (R819). -/
def rillFrameStart (n : Nat) (s : State) : State :=
  let l := s.lamp n
  if s.ht < l.nextFrame || (inSafeDark s n && !l.hold) || s.hub.badRails.contains 17 then s
  else
    let due := l.holdReqs.filter (·.2 ≤ s.ht)
    let s := each due (fun r s => holdTake n r.1 s)
      (modLamp n (fun l => { l with holdReqs := l.holdReqs.filter (s.ht < ·.2) }) s)
    if (s.lamp n).hold then modLamp n (fun l => { l with nextFrame := s.ht + rillPeriod s n }) s
    else if s.ht < (s.lamp n).nextFrame || inSafeDark s n then s
    else sendRill n s.ht s

/-- RILL_FRAME_START (R437). -/
def execRillFrameStart (n : Fin 192) (s : State) : Host.Outcome State Fault Refusal :=
  run (rillFrameStart n) s

/-- RILL_ACK_TIMEOUT: a command is not acknowledged within ACK ms of its first frame: event 0x080A; one of the device's
own cuts the string with cause 0x3, a program command is dropped (R442, R443). -/
def rillAckTimeout (n i : Nat) (s : State) : State :=
  match (s.drv n i).cmds with
  | c :: rest =>
    match c.first with
    | some t =>
      if !c.late && t + max 1 (rd s (chB n) R.LAMP_RILL_CFG_ACK) * ms ≤ s.ht then
        let s := raise 0x080A n (i + c.cmd * 16 + c.tag * 256 + b2n c.prog * 65536) s
        if c.prog then refreshPending n (modDrv n i (fun d => { d with cmds := rest }) s)
        else cutStart n (drvString s n i) 3 (modDrv n i (fun d => { d with cmds := { c with late := true } :: rest }) s)
      else s
    | none => s
  | [] => s

/-- RILL_ACK_TIMEOUT (R443). -/
def execRillAckTimeout (n : Fin 192) (i : Fin 16) (s : State) : Host.Outcome State Fault Refusal :=
  run (rillAckTimeout n i) s

/-- RILL_READBACK_DIFF: a pad differed from the level driven (R448). -/
def rillReadbackDiff (n : Nat) (s : State) : State :=
  let l := s.lamp n
  let s := wrB (chB n) R.LAMP_STATUS_READBACK_ERR true (bump (chB n) R.LAMP_READBACK_CNT_COUNT s)
  if l.rbFrom ≤ s.ht then
    raise 0x080C n (satU 32 (l.rbDiffs + 1))
      (setLamp n { l with rbDiffs := 0, rbFrom := s.ht + rillPeriod s n } s)
  else setLamp n { l with rbDiffs := satU 32 (l.rbDiffs + 1) } s

/-- RILL_READBACK_DIFF (R448). -/
def execRillReadbackDiff (n : Fin 192) (s : State) : Host.Outcome State Fault Refusal :=
  run (rillReadbackDiff n) s

/-- BYPASS_DARK_FRAME: no suitable frame for a bypass command in 100 ms; the string runs dark for the next whole frame,
and the command is sent inside it (R434). -/
def bypassDarkFrame (n k : Nat) (s : State) : State :=
  match (s.str n k).bypSince with
  | some t =>
    if t + 100 * ms ≤ s.ht && (s.str n k).bypDark.all (· < (s.weir n).curFno) then
      modStr n k (fun x => { x with bypDark := some ((s.weir n).curFno + 1) }) s
    else s
  | none => s

/-- BYPASS_DARK_FRAME (R434). -/
def execBypassDarkFrame (n : Fin 192) (k : Fin 6) (s : State) : Host.Outcome State Fault Refusal :=
  run (bypassDarkFrame n k) s

end Sys2Proof.Machine
end

