-- ==== Sys2Proof/Machine/Pipes.lean ====
section
/-!
DEFINITION. The pipelines of a Reach die and the substitution that runs on it (spec/18_heat_calibration_wear.md R753 to
R761), as the sequencers, the composition and the channel states need them; the commands are in Oxbow.lean.
-/

namespace Sys2Proof.Machine
open Sys2Proof

/-! ### Bindings (R1, R753) -/

/-- The pipeline bound to a channel; 52 and above is none. -/
def pipeOf (s : State) (n : Nat) : Nat :=
  match tget 0 n s.pipeRec with
  | 0 => n % 48
  | p + 1 => p

/-- The channel that pipeline `p` of die `d` is bound to. -/
def pipeChannel (s : State) (d p : Nat) : Option Nat := (channelsOf d).find? (fun n => pipeOf s n == p)

def isDead (s : State) (d p : Nat) : Bool := tget 0 (52 * d + p) s.pipeDead == 1

/-- The free pipelines of a die: bound to no channel and not retired, ascending. -/
def freePipes (s : State) (d : Nat) : List Nat :=
  (List.range 52).filter (fun p => !isDead s d p && (pipeChannel s d p).isNone)

def bindPipe (n p : Nat) (s : State) : State :=
  { s with pipeRec := tset 0 n (if p = n % 48 then 0 else p + 1) s.pipeRec }

def State.ox (s : State) (d : Nat) : OxSt := tget {} d s.oxs
def setOx (d : Nat) (x : OxSt) (s : State) : State := { s with oxs := tset {} d x s.oxs }
def State.pipe (s : State) (d p : Nat) : PipeSt := tget {} (52 * d + p) s.pipes
def modPipe (d p : Nat) (f : PipeSt → PipeSt) (s : State) : State :=
  { s with pipes := tset {} (52 * d + p) (f (s.pipe d p)) s.pipes }
def State.pipeCh (s : State) (n : Nat) : PipeCh := tget {} n s.pipeChs
def setPipeCh (n : Nat) (x : PipeCh) (s : State) : State := { s with pipeChs := tset {} n x s.pipeChs }

/-- A substitution of die `d` uses the pipeline as its spare. -/
def isSpare (s : State) (d p : Nat) : Bool :=
  (s.ox d).port.isSome && !(s.ox d).switched && !(s.ox d).clear && (s.ox d).spare == p

/-- HUB_OXB_PIPE.STATE. -/
def pipeState (s : State) (d p : Nat) : Nat :=
  if isDead s d p then 3 else if (pipeChannel s d p).isSome then 1 else if isSpare s d p then 2 else 0

/-- Soft failures of a pipeline in the last second. -/
def softCount (s : State) (d p : Nat) : Nat := ((s.pipe d p).soft.filter (fun t => s.tick < t + second)).length

/-! ### Substitutions (R755, R756, R758) -/

/-- HUB_OXB_STATUS follows the substitution. -/
def showOx (d : Nat) (s : State) : State :=
  let x := s.ox d
  let b := oxbB d
  wrB b R.HUB_OXB_STATUS_BUSY x.port.isSome (wr b R.HUB_OXB_STATUS_PHASE x.phase (wr b R.HUB_OXB_STATUS_ATTEMPT x.attempt
    (wr b R.HUB_OXB_STATUS_PORT (x.port.getD 0) (wr b R.HUB_OXB_STATUS_SPARE x.spare s))))

def modOx (d : Nat) (f : OxSt → OxSt) (s : State) : State := showOx d (setOx d (f (s.ox d)) s)

/-- The lowest-numbered free pipeline; after a failed attempt on `p`, the next one. -/
def nextSpare (s : State) (d : Nat) (after : Option Nat) : Option Nat :=
  let l := freePipes s d
  match after with
  | none => l.head?
  | some p => (l.find? (p < ·)).or l.head?

/-- A substitution ends without a switch: event 0x100E, `why` 1 when there was no free pipeline. -/
def oxFailed (d k why : Nat) (s : State) : State :=
  raise 0x100E (48 * d + k) why (bump (oxbB d) R.HUB_OXB_FAIL_CNT_COUNT s)

/-- A spare is taken and loading begins. -/
def oxTake (d k trig attempt p : Nat) (s : State) : State :=
  let n := 48 * d + k
  raise 0x100B n (pipeOf s n + 256 * p + 2 ^ 14 * trig + 2 ^ 16 * d)
    (modOx d (fun x => { waits := x.waits, port := some k, trigger := trig, old := pipeOf s n, spare := p, attempt, phase := 1 }) s)

/-- A load of CH_CTRL.CLEAR begins (R73): the pipeline is bound already. -/
def oxLoadClear (d k : Nat) (s : State) : State :=
  let n := 48 * d + k
  let p := pipeOf s n
  raise 0x100B n ((s.ox d).old + 256 * p + 2 ^ 14 * 2 + 2 ^ 16 * d)
    (modOx d (fun x => { waits := x.waits, port := some k, trigger := 2, clear := true, old := x.old, spare := p, attempt := 1, phase := 1 }) s)

/-- A soft or request substitution begins while none runs on the die. -/
def oxStart (d k trig : Nat) (s : State) : State :=
  match nextSpare s d none with
  | some p => oxTake d k trig 1 p s
  | none => oxFailed d k 1 s

/-- What waits begins while no substitution runs: an abandoned one only when a free pipeline exists. -/
def oxNext (d : Nat) (s : State) : State :=
  each (s.ox d).waits (fun e s =>
    if (s.ox d).port.isSome || e.2 == 3 || (8 ≤ e.2 && freePipes s d == []) then s
    else
      let s := setOx d { s.ox d with waits := (s.ox d).waits.erase e } s
      if e.2 = 4 then oxLoadClear d e.1 s else oxStart d e.1 (e.2 % 8) s) s

/-- The substitution of a die is over. -/
def oxEnd (d : Nat) (s : State) : State := oxNext d (modOx d (fun x => { waits := x.waits }) s)

/-- A channel enters OFF or FAULTED, or is reset, before F_s: its substitution is abandoned (R761). -/
def oxAbandon (n : Nat) (s : State) : State :=
  let d := n / 48
  let s := setOx d { s.ox d with waits := (s.ox d).waits.filter (fun e => e.1 != n % 48 || e.2 == 4) } s
  let s := setPipeCh n {} s
  if (s.ox d).port == some (n % 48) && !(s.ox d).switched && !(s.ox d).clear then oxEnd d s else s

/-- The mark of boundary `t` has been emitted: it is F_a of a loaded shadow, or F_s of one that has succeeded (R757,
R758). -/
def oxMark (n t : Nat) (s : State) : State :=
  let d := n / 48
  let x := s.ox d
  if x.port != some (n % 48) || x.phase < 2 || x.trigger = 3 then s
  else if !x.shadow then modOx d (fun x => { x with shadow := true }) s
  else if !x.success then modOx d (fun x => { x with frames := x.frames + 1 }) s
  else if x.fs.isNone && s.ht + max 0x3E8 (rd s (chB n) R.COMP_FLIP_LEAD) * us < t then
    modOx d (fun x => { x with fs := some (t, rd s (chB n) R.SEQ_FRAME_CNT_COUNT) }) s
  else s

/-- A frame of a channel flips: after the load of a hard substitution it is F_s (R759). -/
def oxFlip (n t fno : Nat) (s : State) : State :=
  let d := n / 48
  let x := s.ox d
  if x.port == some (n % 48) && x.trigger == 3 && x.phase == 3 && x.fs.isNone then
    let behind := (s.chst n).nextFno - 1 - fno
    modOx d (fun x => { x with fs := some (t, (rd s (chB n) R.SEQ_FRAME_CNT_COUNT + 2 ^ 32 - behind) % 2 ^ 32) }) s
  else s

/-! ### A pipeline that has stopped (R759) -/

/-- A frame that the stopped pipeline was composing, or should compose, is not written. -/
def loseFrame (n fno : Nat) (s : State) : State :=
  modFrm n fno (fun f => { f with
    dropped := true, waitLines := 0, comp := { f.comp with held := [], got := [], ended := true, wb := none } }) s

def loseFrames (n : Nat) (s : State) : State :=
  each (((s.frmsOf n).filter (fun f => f.flipped && f.complete.isNone && !f.dropped)).map (·.fno)) (loseFrame n) s

end Sys2Proof.Machine
end

