-- ==== Sys2Proof/Machine/Link.lean ====
section
/-!
DEFINITION. What the device sends on a port outside plane data (spec/14_ehriz_protocol_heads.md): PARK, CANCEL and
head-register requests, and the poison events of a head's configuration.
-/

namespace Sys2Proof.Machine
open Sys2Proof

/-- A band owner's band after a reading of temperature `t` in 1/16 °C, with lower bounds `lo` of bands 1 to 4 in °C
(R742). -/
def moveBand (lo : List Int) (b : Nat) (t : Int) : Nat :=
  let up := ((List.range 5).filter (fun k => 1 ≤ k && 16 * lo.getD (k - 1) 0 ≤ t)).foldl max 0
  let down := ((List.range 5).filter (fun k => k = 0 || 16 * lo.getD (k - 1) 0 - 48 ≤ t)).foldl max 0
  max up (min b down)

/-! ### PARK (R585) -/

/-- Send a PARK with a new sequence number on a port whose link is trained; it is resent until acknowledged. -/
def sendPark (n : Nat) (s : State) : State :=
  if !linkTrained s n then s
  else
    let d := draw 8 s
    emitOut (.park n d.1)
      (modPort n (fun p => { p with
        parkSeq := d.1, parkWait := true, parkDone := false, parkFirst := s.tick, parkLast := s.tick, tokens := [] }) d.2)

/-! ### CANCEL (R397, R402) -/

/-- Send a CANCEL, or leave it for when the link next trains; answers the CANCEL instant. -/
def sendCancel (n cause tc : Nat) (s : State) : Option Nat × State :=
  if linkTrained s n then (some s.ht, emitOut (.cancel n cause tc) s)
  else (none, modPort n (fun p => { p with cancels := p.cancels ++ [(cause, tc)] })
    (wrB (chB n) R.WEIR_WD_INFO_PENDING true s))

/-! ### Head registers (R572, R573) -/

/-- A tag that no request of the port carries. -/
def freshTag (p : PortSt) (t : Nat) : Nat :=
  match (List.range 20).find? (fun i => !((p.cfg ++ p.cfgKept).any (·.tag == (t + i) % 256))) with
  | some i => (t + i) % 256
  | none => t

/-- Send a packet; the packet stream goes on after its characters (R523). -/
def sendPacket (n : Nat) (o : Out) (s : State) : State :=
  let len := packetLength (((packetBody o).getD []).length)
  modPort n (fun p => { p with nextChar := (p.nextChar + len) % 4 }) (emitOut o s)

/-- Send a request, or keep it until one of the 8 places is free. A request whose turn comes while the packet stream
stands still goes out when it runs again. -/
def sendCfg (n : Nat) (write : Bool) (addr : Nat) (words : List Nat) (count : Nat) (pass : Bool) (s : State) : State :=
  let p := s.port n
  if 8 ≤ p.cfg.length then
    modPort n (fun p => { p with cfgWait := p.cfgWait ++ [{ tag := 0, write, addr, words, count, pass }] }) s
  else
    let d := draw 8 s
    let tag := freshTag p d.1
    when_ (packetsOn s n) (sendPacket n (.cfgRequest n (b2n write) tag addr (if write then words else [count])))
      (modPort n (fun p => { p with cfg := p.cfg ++ [{ tag, write, addr, words, count, pass, sent := s.tick }] }) d.2)

/-- Write one head register. -/
def writeHead (n addr v : Nat) (s : State) : State := sendCfg n true addr [v] 1 false s

/-- A place came free: send the oldest waiting request. -/
def pumpCfg (n : Nat) (s : State) : State :=
  match (s.port n).cfgWait with
  | r :: rest =>
    if (s.port n).cfg.length < 8 then
      sendCfg n r.write r.addr r.words r.count r.pass (modPort n (fun p => { p with cfgWait := rest }) s)
    else s
  | [] => s

/-- An actuator value of a loop (R471, R573): kept, in place of an unsent earlier one, and written to the head while it
is identified. -/
def writeActuator (n addr v : Nat) (s : State) : State :=
  let s := modPort n (fun p => { p with
    act := tset 0 addr v p.act
    cfgWait := p.cfgWait.filter (fun r => !(r.write && !r.pass && r.addr == addr)) }) s
  when_ (identified s n || (s.port n).ident == .writing || (s.port n).ident == .parking) (writeHead n addr v) s

/-- The plane format that register values give (R252). -/
def fmtBy (get : Fld → Nat → Nat) : Fmt :=
  let count := get R.PLANE_CFG_COUNT_M1 0 + 1
  { w := get R.PLANE_GEOM_W_M1 0 + 1, h := get R.PLANE_GEOM_H_M1 0 + 1, blocks := get R.PLANE_CFG_BLOCKS_M1 0 + 1
    depth := get R.PLANE_CFG_DEPTH 0, count, bidir := get R.PLANE_CFG_BIDIR 0 == 1
    base := get R.PLANE_POOL_BASE_LO_BASE 0 * 65536 + get R.PLANE_POOL_BASE_HI_BASE 0 * 2 ^ 32
    frames := get R.PLANE_POOL_CFG_FRAMES 0
    slices := (List.range count).map (fun i => (get R.PLANE_SLICE_PRI i, get R.PLANE_SLICE_BIT i)) }

/-- The plane format that the registers in effect give. -/
def effFmt (s : State) (n : Nat) : Fmt := fmtBy (fun f i => ef s (chB n) f i)

/-- The plane format of a frame. -/
def fmtOf (s : State) (n : Nat) (f : Frm) : Fmt := ((s.fmtsOf n).find? (·.id == f.fmt)).getD {}

/-- The format of the frame whose boundary passed last, or while no frame has passed that in effect. -/
def launchFmt (s : State) (n : Nat) : Fmt :=
  match frameOf s n (s.weir n).curFno with
  | some f => if f.flipped && (s.weir n).curAny then fmtOf s n f else effFmt s n
  | none => effFmt s n

/-- HCFG_FORMAT, HCFG_SIZE and HCFG_PHASE of a plane format (R578). -/
def formatWords (s : State) (n : Nat) (m : Fmt) : List (Nat × Nat) :=
  [(0x100, rd s (chB n) R.CH_KIND_KIND + 4 * (if chKind s n = .mirror then m.blocks - 1 else 0) + 64 * b2n m.bidir
      + 256 * (if chKind s n = .matrix then m.count - 1 else 0)),
   (0x104, m.w - 1 + 65536 * (m.h - 1)),
   (0x108, phase s n)]

/-- Write the format registers to the head (R270, R578). -/
def writeFormat (n : Nat) (m : Fmt) (s : State) : State :=
  if identified s n then each (formatWords s n m) (fun w => writeHead n w.1 w.2) s else s

end Sys2Proof.Machine
end

