-- ==== Sys2Proof/Machine/Weir.lean ====
section
/-!
DEFINITION. The Weir (spec/09_weir_launch.md): the launch queue, staging into the head, the resolution of items that
cannot be shown as programmed, LAUNCH packets, release at the pins, withdrawals and the adaptive voltage loop.
-/

namespace Sys2Proof.Machine
open Sys2Proof

/-! ### Frames in the plane pool (R248 to R255) -/

/-- Pitch of a plane row, and bytes of a line record (R248, R249). -/
def rowPitch (w : Nat) : Nat := ceilDiv w 512 * 64
def lineBytes (w : Nat) : Nat := 3 * (ceilDiv (12 * w) 512 * 64)

def up64k (x : Nat) : Nat := ceilDiv x 65536 * 65536

/-- Bytes of a plane and of a frame slot (R251). -/
def planeBytes (f : Fmt) : Nat := f.h * rowPitch f.w
def slotBytes (k : Kind) (f : Fmt) : Nat :=
  if k = .scan then up64k (f.h * lineBytes f.w) else f.count * up64k (planeBytes f)

/-- Address and length of a plane or line record in frame slot `g mod FRAMES` (R251). -/
def poolItem (k : Kind) (f : Fmt) (g i : Nat) : Nat × Nat :=
  let slot := f.base + g % max 1 f.frames * slotBytes k f
  if k = .scan then (slot + i * lineBytes f.w, lineBytes f.w) else (slot + i * up64k (planeBytes f), planeBytes f)

/-- The previous frame of the same plane format, when it was written completely (R255). -/
def prevFrame (s : State) (n fno : Nat) : Option Frm :=
  match frameOf s n fno with
  | none => none
  | some f =>
    if f.g = 0 then none
    else (s.frmsOf n).find? (fun p => p.fno < fno && p.flipped && p.g + 1 == f.g && p.fmt == f.fmt && p.complete.isSome)

/-- HT at which the last byte of an item's data was written to the pool, if it is complete there. -/
def itemData (s : State) (n : Nat) (it : Item) : Option Nat :=
  match frameOf s n it.fno with
  | none => none
  | some f => if it.kind = .line then f.lineT[it.idx]? else f.complete

/-- The primary of a plane (R246). -/
def itemPri (s : State) (n : Nat) (it : Item) : Nat :=
  match frameOf s n it.fno with
  | some f => if f.flipped then ((fmtOf s n f).slices.getD it.idx (0, 0)).1 else slicePri s n it.idx
  | none => slicePri s n it.idx

def itemBit (s : State) (n : Nat) (it : Item) : Nat :=
  match frameOf s n it.fno with
  | some f => if f.flipped then ((fmtOf s n f).slices.getD it.idx (0, 0)).2 else sliceBit s n it.idx
  | none => sliceBit s n it.idx

def Item.isPic (it : Item) : Bool := it.kind == .plane || it.kind == .line
def Item.isLit (it : Item) : Bool := it.kind == .plane || it.kind == .lamp

/-- Change the first item of the queue that satisfies `p`. -/
def modFirst (p : Item → Bool) (f : Item → Item) : List Item → List Item
  | [] => []
  | a :: t => if p a then f a :: t else a :: modFirst p f t

def modQ (n : Nat) (f : List Item → List Item) (s : State) : State := modWeir n (fun w => { w with q := f w.q }) s

/-! ### Counting over a frame (R407) -/

/-- Count one occurrence in a frame's table. -/
def countIn (fno arg ht : Nat) (t : Tbl FrameCount) : Tbl FrameCount :=
  let c := tget {} fno t
  tset {} fno (if c.n = 0 then { n := 1, stamp := ht, arg } else { c with n := c.n + 1 }) t

/-- Leave the frame's drift check out for a primary (R266, R419). -/
def skipDrift (n fno pri : Nat) (s : State) : State :=
  modWeir n (fun w => { w with driftSkip := tset 0 fno (setBit (tget 0 fno w.driftSkip) pri true) w.driftSkip }) s

def countLate (n : Nat) (it : Item) (dark : Bool) (s : State) : State :=
  let s := bump (chB n) R.WEIR_LATE_CNT_COUNT s
  let s := when_ dark (bump (chB n) R.WEIR_LATE_DARK_CNT_COUNT) s
  modWeir n (fun w => { w with late := countIn it.fno (it.idx % 4096 + 4096 * b2n dark) s.ht w.late }) s

def countMiss (n : Nat) (it : Item) (cause : Nat) (s : State) : State :=
  let s := bump (chB n) R.WEIR_MISS_CNT_COUNT s
  let s := when_ (it.kind = .plane) (skipDrift n it.fno (itemPri s n it)) s
  modWeir n (fun w => { w with miss := countIn it.fno (it.idx % 4096 + 4096 * cause) s.ht w.miss }) s

/-- Kind code of an item: of event 0x0703, and of the token for the first five (R407, R567). -/
def Item.code (it : Item) : Nat :=
  match it.kind with
  | .plane => 1 | .line => 2 | .reset => 3 | .lamp => 4 | .swap => 5 | .priv => 6 | .mark => 0

def countExpired (n : Nat) (it : Item) (s : State) : State :=
  let s := bump (chB n) R.WEIR_EXPIRED_CNT_COUNT s
  modWeir n (fun w => { w with expired := countIn it.fno it.code s.ht w.expired }) s

/-- Raise the once-per-frame events of a frame whose last item has passed its pin instant, and take the status bits
of the last completed frame (R405, R407), unless that has been done. -/
def closeItems (n fno : Nat) (s : State) : State :=
  if fno < (s.weir n).closed then s else
  let w := s.weir n
  let ev := fun (code : Nat) (t : Tbl FrameCount) (s : State) =>
    let c := tget {} fno t
    when_ (c.n != 0) (raiseAt c.stamp code n (c.arg % 65536 + satU 16 c.n * 65536)) s
  let s := ev 0x0706 w.down (ev 0x0705 w.edgeLate (ev 0x0703 w.expired (ev 0x0702 w.miss (ev 0x0701 w.late s))))
  let s := wrB (chB n) R.WEIR_STATUS_LATE ((tget {} fno w.late).n != 0) s
  let s := wrB (chB n) R.WEIR_STATUS_MISS ((tget {} fno w.miss).n != 0) s
  let s := wrB (chB n) R.WEIR_STATUS_EXPIRED ((tget {} fno w.expired).n != 0) s
  modWeir n (fun w => { w with
    closed := fno + 1
    late := terase fno w.late, miss := terase fno w.miss, expired := terase fno w.expired
    edgeLate := terase fno w.edgeLate, down := terase fno w.down }) s

/-- The frame's items have all left the queue, and its successor's mark is known. -/
def itemsPast (s : State) (n fno : Nat) : Bool :=
  (s.weir n).q.any (fun i => i.kind == .mark && fno < i.fno) && !(s.weir n).q.any (fun i => i.kind != .mark && i.fno == fno)

/-- A frame ends: its items' events, unless they have been raised, and the port errors of the frame. -/
def closeFrame (n fno : Nat) (s : State) : State :=
  let s := closeItems n fno s
  let p := s.port n
  let s := match p.headErr with
    | some (c, t, l, at_) => raiseAt at_ 0x0C04 n (satU 8 c + 256 * satU 8 t + 65536 * satU 8 l) s
    | none => s
  let s := match p.rxErr with
    | some (c, at_) => raiseAt at_ 0x0C0B n (satU 16 c) s
    | none => s
  modPort n (fun p => { p with headErr := none, rxErr := none }) s

/-! ### The staging lead (R375) -/

/-- Usable payload in Mb/s (R521). -/
def usable (s : State) (n : Nat) : Nat :=
  77 * rateMbaud (rd s (ephyB n) R.EPHY_STATUS_RATE) * rd s (ephyB n) R.EPHY_STATUS_WIDTH / 100

/-- Bits that staging one item of a format carries. -/
def leadBits (k : Kind) (m : Fmt) : Nat :=
  match k with
  | .mirror => m.w * m.h
  | .matrix => m.count * m.w * m.h
  | .scan => 3 * (ceilDiv (12 * m.w) 512 * 512)

/-- The staging lead in effect. -/
def lead (s : State) (n : Nat) : Nat := rd s (chB n) R.WEIR_LEAD_LEAD

/-- Take the lead anew at a frame boundary, for the format of the frame that begins there (R111); it keeps its value while
no lane is up. -/
def takeLead (n : Nat) (s : State) : State :=
  if !linkTrained s n then s
  else
    wr (chB n) R.WEIR_LEAD_LEAD
      (satU 32 (ceilDiv (leadBits (chKind s n) (launchFmt s n) * 4000) (usable s n) + headTbr s n))
      (wr (chB n) R.WEIR_LINK_PAYLOAD (usable s n)
        (wr (chB n) R.WEIR_LINK_WIDTH (rd s (ephyB n) R.EPHY_STATUS_WIDTH) s))

/-- The frame boundary `bnd` is one at which the ARMED channel may reach RUNNING (R63). -/
def runDue (s : State) (n bnd : Nat) : Bool :=
  rdB s (chB n) R.CH_STATUS_COMMITTED && rdPair s (chB n) R.CH_START_LO_HT R.CH_START_HI_HT ≤ bnd
    && (s.weir n).commitAt ≤ bnd

/-- Items of a frame may be staged and sent in the present channel state (R62, R67). -/
def mayStage (s : State) (n bnd : Nat) : Bool :=
  match s.chState n with
  | .running => true
  | .draining => true
  | .armed => runDue s n bnd
  | _ => false

/-- An item is held back by a withdrawal that is not complete (R397). -/
def withheld (w : WeirSt) (t : Nat) : Bool := w.wds.any (fun d => d.tc ≤ t)

/-- Launch time that governs an item's data: on MATRIX that of the frame's SWAPF. -/
def dataTime (s : State) (n : Nat) (it : Item) : Nat :=
  if chKind s n = .matrix then ((frameOf s n it.fno).bind (·.swapT)).getD it.t else it.t

/-! ### Decision instants (R387, R391, R392) -/

/-- Record an item's slack: the least of its frame and of the die's period. -/
def recordSlack (n fno : Nat) (x : Int) (s : State) : State :=
  modWeir n (fun w =>
    let old := tget 0 fno w.slackOf
    let v := (x + 2 ^ 62).toNat
    { w with
      slackOf := tset 0 fno (if old = 0 then v else min old v) w.slackOf
      slackPeriod := some (match w.slackPeriod with
        | some p => min p x
        | none => x) }) s

/-- A plane of a MATRIX frame without a SWAPF has no staging of its own: it shows the buffer in use (R351). -/
def noSwap (s : State) (n : Nat) (it : Item) : Bool :=
  chKind s n == .matrix && ((frameOf s n it.fno).bind (·.swapT)).isNone

/-- Decide one plane or line: its slack, and what is shown when its data is late. The dark plane needs no data and is
never late. -/
def decideItem (n : Nat) (it : Item) (s : State) : Item × State :=
  if noSwap s n it then ({ it with decided := true, show_ := if it.dark then .dark else .own }, s)
  else
    match itemData s n it, it.dark with
    | some t, _ =>
      ({ it with decided := true, show_ := if it.dark then .dark else .own },
        recordSlack n it.fno ((dataTime s n it : Int) - lead s n - t) s)
    | none, true => ({ it with decided := true, show_ := .dark }, recordSlack n it.fno (-1) s)
    | none, false =>
      let prev := rdB s (chB n) R.WEIR_CFG_PREV_EN && (prevFrame s n it.fno).isSome
      let s := recordSlack n it.fno (-1) s
      let s := countLate n it (!prev) s
      let s := when_ (it.kind = .plane) (skipDrift n it.fno (itemPri s n it)) s
      ({ it with decided := true, show_ := if prev then .prev else .dark }, s)

/-- The frame's planes and lines are all decided and its last mark is followed by another (R392). -/
def frameDecided (s : State) (n fno : Nat) : Bool :=
  (s.weir n).q.any (fun i => i.kind == .mark && fno < i.fno)
    && !(s.weir n).q.any (fun i => i.isPic && i.fno == fno && !i.decided)

/-- Write the frame's slack registers. -/
def slackOut (n fno : Nat) (s : State) : State :=
  let v := tget 0 fno (s.weir n).slackOf
  let x : Int := (v : Int) - 2 ^ 62
  let r := if v = 0 then 0x7FFFFFFF else satTwos 32 x
  let s := wr (chB n) R.WEIR_SLACK_FRAME_SLACK r s
  when_ (sext 32 r < sext 32 (rd s (chB n) R.WEIR_SLACK_LOW_SLACK)) (wr (chB n) R.WEIR_SLACK_LOW_SLACK r) s

/-- The mark of frame `fno` is taken: the frame before it is known whole, and its slack is written when every plane and
line of it has passed its decision instant (R392). -/
def markTaken (n fno : Nat) (s : State) : State :=
  when_ (fno != 0 && frameDecided s n (fno - 1)) (slackOut n (fno - 1)) s

/-- An item whose decision instant has come: not yet decided, its data time within the lead. -/
def decisionDue (s : State) (n : Nat) (it : Item) : Bool :=
  it.isPic && !it.decided && mayStage s n it.frame && dataTime s n it ≤ s.ht + lead s n

/-- DECISION_INSTANT: the first item whose decision instant has come (R387, R389, R391, R392). -/
def decisionInstant (n : Nat) (s : State) : State :=
  match (s.weir n).q.find? (decisionDue s n) with
  | none => s
  | some it =>
    let d := decideItem n it s
    let s := modQ n (modFirst (fun i => decisionDue s n i) (fun _ => d.1)) d.2
    when_ (frameDecided s n it.fno) (slackOut n it.fno) s

/-- DECISION_INSTANT (R387). -/
def execDecisionInstant (n : Fin 192) (s : State) : Host.Outcome State Fault Refusal := run (decisionInstant n) s

/-! ### Currents (R261, R263, R413 to R415, R568) -/

/-- Dark planes that end a dark interval (R273). -/
def darkNeed (s : State) (n : Nat) : Nat := max 2 (rd s (chB n) R.PLANE_DARK_N)

/-- A frame of a dark interval that starts at frame `first` and of which `gone` planes have been launched is dark: the
first frame, and every later one until enough planes have been launched dark before it; a SCAN channel's interval is one
frame (R270, R359). -/
def darkRule (s : State) (n first gone fno : Nat) : Bool :=
  fno ≤ first || (chKind s n != .scan
    && gone + ((s.weir n).q.filter (fun i => i.kind == .plane && first ≤ i.fno && i.fno < fno)).length < darkNeed s n)

/-- The latest of the frames `due` that is at or before `fno`. -/
def latestDue (due : List Nat) (fno : Nat) : Option Nat := ((due.filter (· ≤ fno)).foldl (fun a d => some (max d (a.getD 0))) none)

/-- Frame `fno` is launched dark for a change of plane format (R270). -/
def inFmtDark (s : State) (n fno : Nat) : Bool :=
  let x := s.chst n
  match latestDue x.fmtDue fno, x.darkFrom with
  | some d, _ => darkRule s n d 0 fno
  | none, some f => f ≤ fno && darkRule s n x.darkFirst x.darkN fno
  | none, none => false

/-- Every driver of the strings whose range changes has acknowledged (R444). -/
def rangesAcked (s : State) (n : Nat) : Bool :=
  (bitList 6 (s.chst n).rangeMask).all (fun k =>
    (driversOf s n k).all (fun i => (s.drv n i).cmds.all (fun c => c.cmd != 1 && c.cmd != 2)))

/-- Frame `fno` is launched dark for a change of range (R359, R444). -/
def inRangeDark (s : State) (n fno : Nat) : Bool :=
  let x := s.chst n
  match latestDue (x.rangeDue.map (·.1)) fno, x.rangeFrom with
  | some d, _ => darkRule s n d 0 fno
  | none, some f => f ≤ fno && (!rangesAcked s n || darkRule s n x.rangeFirst x.rangeN fno)
  | none, none => false

/-- The item is launched at amplitude zero on the device's own authority (R568). -/
def ownZero (s : State) (n : Nat) (it : Item) : Bool :=
  let x := s.str n it.str
  it.t < (s.weir n).litFrom || isCut s n it.str || x.zeroNext
    || ((it.kind == .plane || chKind s n == .scan) && inFmtDark s n it.fno)
    || inRangeDark s n it.fno
    || x.bypDark == some it.fno || x.rangeWait != 0 || rdB s (chB n) R.EPROT_STATUS_FMT_REJECTED

/-- CORR and λ (in 2^-26) of level `j` of a primary in a frame: those in effect when the primary's common factor was
taken, or now while it has not been (R263, R264, R471). -/
def corrOf (s : State) (n fno pri j : Nat) : Nat × Nat :=
  let i := min 3 j
  match (tget [] (fno * 4 + pri) (s.weir n).corrs)[i]? with
  | some p => p
  | none => (if i = 0 then 0x4000 else rd s (chB n) R.PLANE_LVL_CORR (4 * pri + i),
      if hasColour s n then tget (2 ^ 26) (4 * pri + i) (s.weir n).lambda else 2 ^ 26)

/-- Level correction of a plane: level 0 has none (R262, R263). -/
def levelCorr (s : State) (n : Nat) (it : Item) : Nat :=
  let pri := itemPri s n it
  match (tget [] (it.fno * 4 + pri) (s.weir n).levels).findIdx? (· == it.amp) with
  | some (j + 1) => (corrOf s n it.fno pri (j + 1)).1
  | _ => 0x4000

/-- The first plane of a plane's primary in its frame that has still to launch. -/
def firstOfPri (s : State) (n : Nat) (it : Item) : Item :=
  ((s.weir n).q.find? (fun i => i.kind == .plane && i.fno == it.fno && itemPri s n i == itemPri s n it)).getD it

/-- The factor an item's amplitude takes: that of its primary in its frame, which is the factor at the launch of the
primary's first plane in the frame (R261), or a LAMP's own. -/
def itemFactor (s : State) (n : Nat) (it : Item) : Nat :=
  if it.kind = .plane then
    match tget 0 (it.fno * 4 + itemPri s n it) (s.weir n).factor with
    | 0 => let p := firstOfPri s n it; factorK s n p.str p.t
    | v + 1 => v
  else factorK s n it.str it.t

/-- Take the common factor of a plane's primary for its frame, with the level corrections that go with it; a string whose
cut has ended takes its amplitudes again with it (R261, R413, R418). -/
def takeFactor (n : Nat) (it : Item) (s : State) : State :=
  if it.kind = .lamp then modStr n it.str (fun x => { x with zeroNext := false }) s
  else if it.kind = .plane then
    let key := it.fno * 4 + itemPri s n it
    if tget 0 key (s.weir n).factor != 0 then s
    else
      let k := itemFactor s n it
      let cs := (List.range 4).map (corrOf s n it.fno (itemPri s n it))
      let p := firstOfPri s n it
      modWeir n (fun w => { w with
        factor := tset 0 key (k + 1) w.factor, facLim := tset 0 key (limitAt s n p.str p.t) w.facLim, corrs := tset [] key cs w.corrs })
        (modStr n it.str (fun x => { x with zeroNext := false }) s)
  else s

/-- Driven amplitude of a plane or LAMP. -/
def itemDriven (s : State) (n : Nat) (it : Item) : Nat :=
  driven (if it.kind = .plane then corrected it.amp (levelCorr s n it) else it.amp) (itemFactor s n it)

/-- Current code of an item: 0 for kinds that set none and where `ownZero` holds. -/
def itemCurrent (s : State) (n : Nat) (it : Item) : Nat :=
  if !it.isLit || ownZero s n it then 0
  else currentCode s n it.str (itemDriven s n it) it.t

/-- A MATRIX plane that was emitted before its frame's SWAPF: it shows the buffer in use, whatever is staged (R351). -/
def beforeSwap (s : State) (n : Nat) (it : Item) : Bool :=
  it.kind == .plane && chKind s n == .matrix && (match (frameOf s n it.fno).bind (·.swapT) with
    | none => true
    | some t => it.t < t || ((s.weir n).q.dropWhile (fun i => i != it)).any (fun i => i.kind == .swap && i.fno == it.fno))

/-- How far a plane's data has come into the head; of a MATRIX plane its matrix frame tells, which is staged whole
whatever the frame launches (R250). -/
def stageOf (s : State) (n : Nat) (it : Item) : Stage :=
  if beforeSwap s n it then .done
  else if it.kind = .plane && chKind s n = .matrix then
    match frameOf s n it.fno with
    | some f => if f.mFail || f.mBad.contains it.idx then .stopped else if it.idx < f.mDone then .done else .none
    | none => .none
  else it.stage

/-- The item's token carries DARK (R387, R568). A plane of a matrix frame whose swap is withheld shows the previous frame,
and one given up for poison is dark. -/
def itemDark (s : State) (n : Nat) (it : Item) : Bool :=
  (it.isLit && ownZero s n it) || (it.isPic && (it.dark || it.show_ == .dark || (it.stage == .stopped && it.darkFrom == 0)
    || (it.kind == .plane && chKind s n == .matrix && !beforeSwap s n it && (match frameOf s n it.fno with
        | some f => f.mBad.contains it.idx
        | none => false))))

/-- Head buffer of an item: of a MATRIX plane its index in the matrix frame (R566). -/
def bufOf (s : State) (n : Nat) (it : Item) : Nat :=
  if it.kind = .plane && chKind s n = .matrix then it.idx else it.buf.getD 0

/-- The next PLANE, LAMP or GAP after `it` in the queue, when it is a PLANE or LAMP of the same string (R343). -/
def successor (it : Item) (q : List Item) : Option Item :=
  if it.gapNext then none
  else
    match ((q.dropWhile (fun i => i != it)).drop 1).find? Item.isLit with
    | some i => if i.str = it.str then some i else none
    | none => none

/-- Reset blocks and reset phase that govern a plane (R111, R241, R267). -/
def blocksOf (s : State) (n : Nat) (it : Item) : Nat :=
  match frameOf s n it.fno with
  | some f => if f.flipped then (fmtOf s n f).blocks else outBlocks s n
  | none => outBlocks s n
def phaseOf (s : State) (n : Nat) (it : Item) : Nat :=
  if chKind s n != .mirror then 0
  else match frameOf s n it.fno with
    | some f => if f.flipped then f.phase else phase s n
    | none => phase s n

/-- End of a plane's last block (R343). -/
def planeEndOf (s : State) (n : Nat) (it : Item) : Nat :=
  it.t + 4 * it.dur + (blocksOf s n it - 1) * phaseOf s n it

/-! ### LAUNCH packets (R381, R567 to R571) -/

/-- Waveform table of a token (R570). -/
def waveOf (s : State) (n t : Nat) : Nat :=
  let auto := min (bits (hcap s n 8) 24 4) (rd s (chB n) R.EPROT_WAVE_MAP_WAVE (s.port n).band)
  match ((s.weir n).waves.filter (·.1 ≤ t)).getLast? with
  | some (_, c) => if c = 16 then auto else c
  | none => auto

/-- Launch time that an item's token carries: a LAMP inside a plane interval waits for the interval's end (R343, R345,
R569). -/
def tokenTime (s : State) (n : Nat) (it : Item) : Nat :=
  if it.kind != .lamp || chKind s n = .scan then it.t
  else
    let w := s.weir n
    let ends := ((w.q.filter (fun p => p.kind == .plane && p.t ≤ it.t)).map (planeEndOf s n))
      ++ (if w.openPlane.isSome then [w.planeEnd] else [])
    ends.foldl max it.t

/-- The 28 bytes of a LAUNCH packet (R567). -/
def tokenBytes (s : State) (n tok stag : Nat) (it : Item) : List Byte :=
  let dark := itemDark s n it
  let succ := if it.kind = .plane then successor it (s.weir n).q else none
  let ncur := match succ with
    | some i => itemCurrent s n i
    | none => 0
  let sof := match it.smp with
    | some r => r
    | none => {}
  let wave := if it.kind = .plane || it.kind = .reset then waveOf s n it.t else 0
  let buf := if it.isPic && !dark then bufOf s n it else 0
  leBytes 1 3 ++ leBytes 1 tok
    ++ leBytes 1 (it.code + 16 * b2n dark + 32 * b2n it.smp.isSome + 64 * b2n succ.isSome)
    ++ leBytes 1 (it.str + 16 * wave) ++ beBytes 8 (tokenTime s n it) ++ leBytes 1 buf ++ leBytes 1 sof.kind
    ++ beBytes 2 (itemCurrent s n it) ++ beBytes 3 (if it.kind = .plane then it.dur else 0) ++ leBytes 1 stag
    ++ beBytes 3 sof.ofs ++ leBytes 1 0
    ++ beBytes 2 (if it.kind = .reset then it.idx else if it.kind = .line then it.idx % 4096 else 0) ++ beBytes 2 ncur

/-- Tokens outstanding at the head: their launch time has not passed. -/
def outstanding (s : State) (n : Nat) : List (Nat × Nat × Nat) := (s.port n).tokens.filter (fun t => s.ht < t.2.1)

/-- The next token number that no outstanding token carries (R567). -/
def freshToken (s : State) (n : Nat) : Nat :=
  let used := (outstanding s n).map (·.1)
  let base := (s.weir n).nextTok
  match (List.range 129).find? (fun i => !used.contains ((base + i) % 256)) with
  | some i => (base + i) % 256
  | none => base

/-- Every plane of the matrix frame is in the head, so that its SWAP may be sent (R250, R571). -/
def swapReady (s : State) (n fno : Nat) : Bool :=
  match frameOf s n fno with
  | some f => f.flipped && (fmtOf s n f).count ≤ f.mDone && f.mBad == [] && !f.mFail
  | none => false

/-- The item's LAUNCH packet may be sent now (R67, R381, R397, R571). -/
def sendable (s : State) (n : Nat) (it : Item) : Bool :=
  let w := s.weir n
  it.sent.isNone && !it.missed && mayStage s n it.frame && !withheld w it.t
    && (match it.kind with
        | .plane => it.dark || stageOf s n it == .done || stageOf s n it == .stopped
        | .line => it.stage == .done || it.stage == .stopped
        | .swap => swapReady s n it.fno
        | .reset => true
        | .lamp => true
        | _ => false)
    && !((w.q.takeWhile (fun i => i != it)).any (fun i =>
        i.t == it.t && i.sent.isNone && !i.missed && i.kind != .mark && i.kind != .priv))

/-- Driven amplitude and current of a LINE's string at the LINE: of the last LAMP queued before it, or launched
(R302). -/
def lineLamp (s : State) (n : Nat) (it : Item) : Nat × Nat :=
  let w := s.weir n
  match ((w.q.takeWhile (fun i => i != it)).filter (fun i => i.kind == .lamp && i.str == it.str && !i.missed)).getLast? with
  | some l => (itemDriven s n l, itemCurrent s n l)
  | none => (tget 0 it.str w.lampDrv, tget 0 it.str w.strCur)

/-- What a sample attached to an item is judged by (R430, R466): the commanded current, the current of R415 with X taken
as 1, the driven amplitude and, of a plane, its amplitude level. -/
def sampleFacts (s : State) (n : Nat) (it : Item) : Nat × Nat × Nat × Option Nat :=
  let dark := ownZero s n it
  let lit := if it.kind = .line then lineLamp s n it else (itemDriven s n it, itemCurrent s n it)
  let a := if dark then 0 else lit.1
  let cur := if dark then 0 else lit.2
  let req := if dark then 0
    else min (curveCeil s n it.str (latchedAt s n it.str it.t)) (curveCurrent s n it.str a)
  let level := if it.kind != .plane then none
    else (tget [] (it.fno * 4 + itemPri s n it) (s.weir n).levels).findIdx? (· == it.amp)
  (cur, req, a, level)

/-- Keep the bytes of a LAUNCH packet that has been sent. -/
def keepToken (n tok : Nat) (bs : List Byte) (s : State) : State :=
  modPort n (fun p => { p with tokBytes := tset [] tok bs p.tokBytes }) s

/-- The limit that governs an item from the sending of its LAUNCH packet on: that under which its factor was taken; none
where it launches at amplitude zero (R412). -/
def governLimit (s : State) (n : Nat) (it : Item) : Nat :=
  if !it.isLit || ownZero s n it then 0
  else if it.kind = .plane then tget 0 (it.fno * 4 + itemPri s n it) (s.weir n).facLim
  else limitAt s n it.str it.t

/-- Send one LAUNCH packet. -/
def sendToken (n : Nat) (it : Item) (s : State) : State :=
  let tok := freshToken s n
  let s := takeFactor n it s
  let d := if it.smp.isSome then draw 8 s else (0, s)
  let bs := tokenBytes s n tok d.1 it
  let s := keepToken n tok bs (sendPacket n (.launchPacket n bs) d.2)
  let fs := sampleFacts s n it
  let s := modPort n (fun p => { p with
    tokens := outstanding s n ++ [(tok, tokenTime s n it, s.ht)]
    samples := match it.smp with
      | some r => p.samples ++ [{ stag := d.1, str := it.str, kind := r.kind, cur := fs.1, t := it.t, fno := it.fno,
                                  req := fs.2.1, a := fs.2.2.1, level := fs.2.2.2 }]
      | none => p.samples }) s
  let s := modWeir n (fun w => { w with nextTok := (tok + 1) % 256 }) s
  let lim := governLimit s n it
  modQ n (modFirst (fun i => i == it) (fun i => { i with sent := some (tok, s.ht), lim })) s

/-- Send the LAUNCH packets that are ready, in queue order, while the head's token queue has room (R381). -/
def sendTokens (n : Nat) (s : State) : State :=
  each (s.weir n).q (fun it s =>
    if portUp s n && packetsOn s n && (outstanding s n).length < headTokens s n && sendable s n it then sendToken n it s else s) s

/-- Send the LAMP token by which a string continues past the end of a plane whose token went before its successor was
emitted, and the plane's own successor is now known (R569). -/
def contToken (n t str cur : Nat) (s : State) : State :=
  if !(portUp s n && packetsOn s n) || headTokens s n ≤ (outstanding s n).length then s
  else
    let tok := freshToken s n
    let bs := leBytes 1 3 ++ leBytes 1 tok ++ leBytes 1 4 ++ leBytes 1 str ++ beBytes 8 t ++ leBytes 2 0 ++ beBytes 2 cur
      ++ leBytes 12 0
    let s := keepToken n tok bs (sendPacket n (.launchPacket n bs) s)
    modWeir n (fun w => { w with nextTok := (tok + 1) % 256 })
      (modPort n (fun p => { p with tokens := outstanding s n ++ [(tok, t, s.ht)] }) s)

/-! ### Taking items (R370 to R372, R429) -/

/-- The launch queue is full (R371). -/
def queueFull (s : State) (n : Nat) : Bool := 4096 ≤ (s.weir n).q.length

/-- The Weir takes the item too late to launch it (R372). -/
def expiredAt (s : State) (n : Nat) (it : Item) : Bool :=
  it.kind != .mark && (pin25 s n it.t < 10 * (s.ht + 8000) || (!headEdge s n && it.t < s.ht + headTtoken s n))

/-- Attach the automatic sample request of R429: to the first lit item of a string in a frame that carries no program
request of its own (DEDUCED, log 106). -/
def autoSample (n : Nat) (it : Item) (s : State) : Item × State :=
  if it.smp.isSome || !rdB s (chB n) R.LAMP_DET_CFG_AUTO then (it, s)
  else
    let due := fun k => (s.str n k).autoFrame != it.fno + 1
    if it.kind = .plane && it.amp != 0 && due it.str then
      ({ it with smp := some { kind := 0, ofs := it.dur / 2, auto := true } },
        modStr n it.str (fun x => { x with autoFrame := it.fno + 1 }) s)
    else if it.kind = .line then
      match (strings s n).find? (fun k => due k && (s.str n k).lastAmp != 0) with
      | some k => ({ it with str := k, smp := some { kind := 0, ofs := 1000, auto := true } },
          modStr n k (fun x => { x with autoFrame := it.fno + 1 }) s)
      | none => (it, s)
    else (it, s)

/-- Add an entry to the launch queue. -/
def enqueue (n : Nat) (it : Item) (s : State) : State :=
  let s := modQ n (· ++ [it]) s
  let used := (s.weir n).q.length
  when_ (rd s (chB n) R.WEIR_QUEUE_PEAK < used) (wr (chB n) R.WEIR_QUEUE_PEAK used) s

/-- The Weir takes an item from the sequencer. -/
def takeItem (n : Nat) (it : Item) (s : State) : State :=
  if expiredAt s n it then countExpired n it s
  else
    let s := when_ it.isLit (modStr n it.str (fun x => { x with lastAmp := it.amp })) s
    let a := autoSample n it s
    let s := enqueue n a.1 a.2
    let w := s.weir n
    -- the successor of a plane whose token has gone (R569)
    let before := (w.q.dropLast.filter Item.isLit).getLast?
    let s := if !a.1.isLit then s
      else match before, w.openPlane with
        | some p, _ =>
          if p.kind = .plane && p.sent.isSome && !p.gapNext && p.str = it.str && a.1.t != planeEndOf s n p then
            contToken n (planeEndOf s n p) it.str (itemCurrent s n a.1) s
          else s
        | none, some (k, _) =>
          if k = it.str && !w.openGap && s.ht < w.planeEnd && a.1.t != w.planeEnd then
            contToken n w.planeEnd k (itemCurrent s n a.1) s
          else s
        | none, none => s
    sendTokens n s

/-- A GAP is the next emitted item of the last plane (R343). -/
def noteGap (n : Nat) (s : State) : State :=
  let w := s.weir n
  match (w.q.filter Item.isLit).getLast? with
  | some p => modQ n (modFirst (fun i => i == p) (fun i => { i with gapNext := true })) s
  | none => modWeir n (fun w => { w with openGap := true }) s

/-! ### Staging (R377 to R381) -/

/-- Head buffers in use now (R379): one whose launch is still due, or was withdrawn by a withdrawal that is not complete
(R398), or whose last interval has not ended. -/
def heldBufs (s : State) (n : Nat) : List BufHold :=
  let w := s.weir n
  w.bufs.filter (fun b => s.ht < b.until_
    || (b.until_ = 0 && (w.wds != [] || w.q.any (fun i => i.buf == some b.buf && i.fno == b.fno && i.idx == b.idx))))

/-- The lowest free head buffer, if any. -/
def freeBuf (s : State) (n : Nat) : Option Nat :=
  (List.range (headBuffers s n)).find? (fun b => !(heldBufs s n).any (·.buf == b))

/-- WEIR_STATUS.BUF_FREE: head buffers free, saturating at 7. -/
def bufFree (s : State) (n : Nat) : Nat := min 7 (headBuffers s n - (heldBufs s n).length)

/-- The first plane or line not yet staged or abandoned (R377). -/
def stageNext (s : State) (n : Nat) : Option Item :=
  (s.weir n).q.find? (fun i => i.isPic && (i.stage == .none || i.stage == .active) && !i.missed)

/-- A head buffer that holds the same slice from an earlier launch of the frame (R380). -/
def reusable (s : State) (n : Nat) (it : Item) : Option Nat :=
  if it.kind != .plane then none
  else ((heldBufs s n).find? (fun b => b.fno == it.fno && b.idx == it.idx)).map (·.buf)

/-- The pool data an item is staged from, once it is complete or a substitute has been chosen. -/
def stageSource (s : State) (n : Nat) (it : Item) : Option (Nat × Nat) :=
  let own := (frameOf s n it.fno).map (fun f => poolItem (chKind s n) (fmtOf s n f) f.g it.idx)
  match it.show_ with
  | .own => if (itemData s n it).isSome then own else none
  | .prev => (prevFrame s n it.fno).map (fun f => poolItem (chKind s n) (fmtOf s n f) f.g it.idx)
  | .dark => some (0, 0)

def setStage (n : Nat) (it : Item) (f : Item → Item) (s : State) : State := modQ n (modFirst (fun i => i == it) f) s

/-- Rows of a block of a plane: first and how many (R241); of a line record, one. -/
def blockRows (h blocks k : Nat) : Nat × Nat := (k * h / blocks, (k + 1) * h / blocks - k * h / blocks)

/-- An item's data in chunks of 512 bytes in ascending order, each in a packet of its own (R566). -/
def sendChunks (n buf stage addr len : Nat) (line : Bool) (s : State) : State :=
  let count := ceilDiv len 512
  each (List.range count) (fun k s =>
    let m := min 512 (len - 512 * k)
    modPort n (fun p => { p with nextChar := (p.nextChar + packetLength (8 + m)) % 4 })
      (emitOut (.chunk n (s.port n).nextChar (chunkHeader line buf stage k count m) (addr + 512 * k) m) s)) s

/-- Send an item's data for head buffer `buf`: a plane's blocks in ascending order (R241, R377, R566). -/
def sendData (n buf stage addr len pitch h blocks : Nat) (line : Bool) (s : State) : State :=
  let s :=
    if line then emitOut (.stageData n buf stage 0 addr len) s
    else each (List.range blocks) (fun k s =>
      let r := blockRows h blocks k
      emitOut (.stageData n buf stage k (addr + r.1 * pitch) (r.2 * pitch)) s) s
  sendChunks n buf stage addr len line s

/-! ### Matrix frames (R250, R377, R378) -/

/-- The matrix frame to be staged: that of the first SWAPF that has not launched. -/
def matrixFrame (s : State) (n : Nat) : Option Frm :=
  ((s.weir n).q.find? (·.kind == .swap)).bind (fun i => frameOf s n i.fno)

/-- What is staged as plane `i` of a matrix frame: what has been decided for its first launch, and without one the frame's
data once complete, or from the frame's decision instant on its substitute. -/
def matrixShow (s : State) (n : Nat) (f : Frm) (i : Nat) : Option Show :=
  match (s.weir n).q.find? (fun it => it.kind == .plane && it.fno == f.fno && it.idx == i && it.decided && !it.dark) with
  | some it => some it.show_
  | none =>
    if f.complete.isSome then some .own
    else if (f.swapT.getD 0) ≤ s.ht + lead s n then
      some (if rdB s (chB n) R.WEIR_CFG_PREV_EN && (prevFrame s n f.fno).isSome then .prev else .dark)
    else none

/-- Staging of the next plane of the matrix frame begins. -/
def matrixStage (n : Nat) (s : State) : State :=
  match matrixFrame s n with
  | none => s
  | some f =>
    let m := fmtOf s n f
    if !f.flipped || f.mActive || f.mFail || m.count ≤ f.mDone || !(portUp s n && packetsOn s n) || !mayStage s n f.bnd
      || withheld (s.weir n) (f.swapT.getD 0) then s
    else
      let go := fun (g : Frm) (s : State) =>
        let a := poolItem .matrix (fmtOf s n g) g.g f.mDone
        let d := draw 16 s
        modFrm n f.fno (fun f => { f with mActive := true })
          (sendData n f.mDone d.1 a.1 a.2 (rowPitch m.w) m.h 1 false d.2)
      match matrixShow s n f f.mDone with
      | none => s
      | some .own => if f.complete.isSome then go f s else s
      | some .prev => match prevFrame s n f.fno with
        | some g => go g s
        | none => s
      | some .dark => sendTokens n (modFrm n f.fno (fun f => { f with mDone := f.mDone + 1 }) s)

/-- The plane being staged is in the head by the swap's launch time less T_br. -/
def matrixStaged (n : Nat) (s : State) : State :=
  match matrixFrame s n with
  | none => s
  | some f =>
    if f.mActive && s.ht + headTbr s n ≤ f.swapT.getD 0 then
      sendTokens n (modFrm n f.fno (fun f => { f with mActive := false, mDone := f.mDone + 1 }) s)
    else s

/-- The swap of a matrix frame is withheld. -/
def withholdSwap (n fno : Nat) (s : State) : State :=
  modQ n (·.map (fun i => if i.kind = .swap && i.fno = fno then { i with missed := true } else i))
    (modFrm n fno (fun f => { f with mFail := true, mActive := false }) s)

/-- The swap's launch time less T_br has passed without every plane in the head: each plane not in time is counted, and the
swap is withheld (R387). -/
def matrixMiss (n : Nat) (s : State) : State :=
  match matrixFrame s n with
  | none => s
  | some f =>
    let m := fmtOf s n f
    if !f.flipped || f.mFail || (m.count ≤ f.mDone && f.mBad == []) || s.ht + headTbr s n ≤ f.swapT.getD 0
      || !mayStage s n f.bnd then s
    else
      let s := each ((List.range m.count).filter (fun i => f.mDone ≤ i)) (fun i s =>
        countMiss n { kind := .plane, t := f.swapT.getD 0, frame := f.bnd, fno := f.fno, idx := i } 4 s) s
      sendTokens n (withholdSwap n f.fno s)

/-- A pool read for the plane being staged returned poison: the plane is given up and dark (R387). -/
def matrixPoison (n : Nat) (s : State) : State :=
  match matrixFrame s n with
  | none => s
  | some f =>
    if !f.mActive then s
    else
      let s := countMiss n { kind := .plane, t := f.swapT.getD 0, frame := f.bnd, fno := f.fno, idx := f.mDone } 3 s
      sendTokens n (modFrm n f.fno (fun f => { f with mActive := false, mBad := f.mBad ++ [f.mDone], mDone := f.mDone + 1 }) s)

/-! ### Planes and lines (R377 to R381, R387) -/

/-- STAGING_START: the Weir begins to stage the next plane or line when its data, a buffer and the earlier items allow;
a dark item needs no data, and a slice still held is used again (R377, R379, R380). -/
def stagingStart (n : Nat) (s : State) : State :=
  if chKind s n = .matrix then matrixStage n s
  else match stageNext s n with
  | none => s
  | some it =>
    if it.stage != .none || !(portUp s n && packetsOn s n) || !mayStage s n it.frame || withheld (s.weir n) it.t then s
    else if it.dark || it.show_ == .dark then
      sendTokens n (setStage n it (fun i => { i with stage := .done }) s)
    else
      match stageSource s n it with
      | none => s
      | some (a, len) =>
        match reusable s n it with
        | some b => sendTokens n (setStage n it (fun i => { i with stage := .done, buf := some b }) s)
        | none =>
          match freeBuf s n with
          | none => s
          | some b =>
            let d := draw 16 s
            let m := ((frameOf s n it.fno).map (fmtOf s n)).getD {}
            let s := sendData n b d.1 a len (rowPitch m.w) m.h (max 1 (blocksOf s n it)) (it.kind == .line) d.2
            let s := modWeir n (fun w => { w with
              bufs := { buf := b, fno := it.fno, idx := it.idx, until_ := 0 }
                :: (heldBufs s n).filter (fun h => h.buf != b) }) s
            setStage n it (fun i => { i with stage := .active, buf := some b }) s

/-- STAGING_START (R377). -/
def execStagingStart (n : Fin 192) (s : State) : Host.Outcome State Fault Refusal := run (stagingStart n) s

/-- Deadline of block `k` of an item's data in the head (R378). -/
def stageDeadline (s : State) (n : Nat) (it : Item) (k : Nat) : Nat :=
  dataTime s n it + (if it.kind = .plane then k * phaseOf s n it else 0) - headTbr s n

/-- STAGING_COMPLETE: the item is in the head in time, and its LAUNCH packet is sent (R378, R381). -/
def stagingComplete (n : Nat) (s : State) : State :=
  if chKind s n = .matrix then matrixStaged n s
  else match (s.weir n).q.find? (fun i => i.stage == .active) with
  | none => s
  | some it =>
    if s.ht ≤ stageDeadline s n it (blocksOf s n it - 1) then
      sendTokens n (setStage n it (fun i => { i with stage := .done }) s)
    else s

/-- STAGING_COMPLETE (R381). -/
def execStagingComplete (n : Fin 192) (s : State) : Host.Outcome State Fault Refusal := run (stagingComplete n) s

/-- Staging stops: blocks from `k` on are shown dark (R387). -/
def stopStage (n : Nat) (it : Item) (k cause : Nat) (s : State) : State :=
  let k := if chKind s n = .mirror && it.show_ != .dark then k else 0
  let s := countMiss n it cause s
  sendTokens n (setStage n it (fun i => { i with stage := .stopped, darkFrom := k }) s)

/-- STAGE_NOT_IN_TIME: the next item is not in the head by the deadline of its block `k`; on MATRIX a plane of the
frame whose swap is due is not in time, and the swap is withheld (R378, R387). -/
def stageNotInTime (n k : Nat) (s : State) : State :=
  if chKind s n = .matrix then matrixMiss n s
  else match stageNext s n with
  | none => s
  | some it =>
    if !mayStage s n it.frame || it.dark || s.ht ≤ stageDeadline s n it k || blocksOf s n it ≤ k then s
    else
      let late := it.decided && it.show_ != .own
      -- a late plane whose substitute is not in time is launched dark (R389)
      let it' := if late then { it with show_ := .dark } else it
      stopStage n it' k 1 (when_ late (setStage n it (fun _ => it')) s)

/-- STAGE_NOT_IN_TIME (R378, R387). -/
def execStageNotInTime (n : Fin 192) (k : Fin 16) (s : State) : Host.Outcome State Fault Refusal :=
  run (stageNotInTime n k) s

/-- POOL_READ_POISON: a pool read for the item being staged returned poison; `k` blocks were staged completely before
it (R387). -/
def poolReadPoison (n k : Nat) (s : State) : State :=
  if chKind s n = .matrix then matrixPoison n s
  else match (s.weir n).q.find? (fun i => i.stage == .active) with
  | none => s
  | some it => stopStage n it k 3 s

/-- POOL_READ_POISON (R387). -/
def execPoolReadPoison (n : Fin 192) (k : Fin 16) (s : State) : Host.Outcome State Fault Refusal :=
  run (poolReadPoison n k) s

/-- The item has a token and its LAUNCH packet is not at the head by launch time less token lead. -/
def tokenMissed (s : State) (n : Nat) (it : Item) : Bool :=
  it.sent.isNone && !it.missed && mayStage s n it.frame && it.kind != .mark && it.kind != .priv
    && it.t < s.ht + headTtoken s n + 1 && !(it.kind == .swap && !swapReady s n it.fno)

/-- TOKEN_LEAD_MISS (R387). -/
def tokenLeadMiss (n : Nat) (s : State) : State :=
  match (s.weir n).q.find? (tokenMissed s n) with
  | none => s
  | some it => setStage n it (fun i => { i with missed := true }) (countMiss n it 2 s)

/-- TOKEN_LEAD_MISS (R387). -/
def execTokenLeadMiss (n : Fin 192) (s : State) : Host.Outcome State Fault Refusal := run (tokenLeadMiss n) s

/-! ### The frame boundary -/

/-- The drift of a bit as a fraction: numerator and denominator (R264); 0 where the top bit has no weight. -/
structure Drift where
  pri : Nat
  bit : Nat
  num : Int
  den : Nat
deriving DecidableEq, Repr

/-- The drift exceeds `tol` × 2^-16 in size (R265). -/
def Drift.exceeds (d : Drift) (tol : Nat) : Bool := tol * d.den < 65536 * d.num.natAbs

/-- The drift in 2^-16 units, rounded down. -/
def Drift.units (d : Drift) : Int := if d.den = 0 then 0 else d.num * 65536 / d.den

/-- Effective weight of a bit, scaled (R264). -/
def effWeight (s : State) (n fno pri bit : Nat) : Nat :=
  let w := s.weir n
  ((tget [] fno w.drift).filter (fun r => r.pri == pri && r.bit == bit)).foldl (fun a r =>
    let j := ((tget [] (fno * 4 + pri) w.levels).findIdx? (· == r.amp)).getD 0
    let p := corrOf s n fno pri j
    a + r.dur * r.amp * p.2 * p.1) 0

/-- A level that carries the bit has its correction at an end, or a corrected amplitude at full scale (R265). -/
def atEnd (s : State) (n fno pri bit : Nat) : Option Nat :=
  let w := s.weir n
  let lv := tget [] (fno * 4 + pri) w.levels
  ((tget [] fno w.drift).filter (fun r => r.pri == pri && r.bit == bit)).findSome? (fun r =>
    let j := (lv.findIdx? (· == r.amp)).getD 0
    let corr := (corrOf s n fno pri j).1
    if corr = 0x2000 || corr = 0x8000 || corrected r.amp corr = 0xFFFF then some j else none)

/-- The drifts of a frame's bits: weights `a` of the bit and `t` of the top bit, `k` bits below it, give
δ = (a 2^k − t) ÷ t (R264, R266). -/
def drifts (s : State) (n fno : Nat) : List Drift :=
  let w := s.weir n
  let rec_ := tget [] fno w.drift
  (List.range 3).flatMap (fun pri =>
    if bitOf (tget 0 fno w.driftSkip) pri then []
    else
      let bs := (List.range 16).filter (fun b => rec_.any (fun r => r.pri == pri && r.bit == b))
      match bs.getLast? with
      | none => []
      | some top =>
        let t := effWeight s n fno pri top
        bs.map (fun b =>
          if t = 0 then { pri, bit := b, num := 0, den := 0 }
          else { pri, bit := b, num := ((effWeight s n fno pri b * 2 ^ (top - b) : Nat) : Int) - t, den := t }))

/-- The drift check at the end of a frame (R265). -/
def driftCheck (n fno : Nat) (s : State) : State :=
  if chKind s n = .scan then s
  else
    let ds := drifts s n fno
    if ds = [] then s
    else
      let tol := rd s (chB n) R.PLANE_WTOL_TOL
      let exc := ds.filter (·.exceeds tol)
      let worst := ds.foldl (fun a d => if a.num.natAbs * d.den < d.num.natAbs * a.den then d else a)
        (ds.headD { pri := 0, bit := 0, num := 0, den := 0 })
      let bad := exc.filter (fun d => (atEnd s n fno d.pri d.bit).isSome)
      let s := wrB (chB n) R.PLANE_STATUS_DRIFT (exc != []) s
      let s := wrB (chB n) R.PLANE_STATUS_DRIFT_UNCORR (bad != []) s
      let s := when_ (exc != []) (fun s => wr (chB n) R.PLANE_DRIFT_PRI worst.pri (wr (chB n) R.PLANE_DRIFT_BIT worst.bit
        (wr (chB n) R.PLANE_DRIFT_DELTA (satTwos 16 worst.units) s))) s
      let was := (s.weir n).driftBad
      let s := modWeir n (fun w => { w with driftBad := bad != [] }) s
      match bad with
      | [] => s
      | d :: _ =>
        let s := bump (chB n) R.PLANE_DRIFT_CNT_COUNT s
        when_ (!was) (raise 0x0502 n
          (d.pri + 4 * d.bit + 64 * (atEnd s n fno d.pri d.bit).getD 0 + 65536 * satTwos 16 d.units)) s

/-- PLANE_LVL of the last frame (R273). -/
def showLevels (n fno : Nat) (s : State) : State :=
  if chKind s n = .scan then s
  else each (List.range 12) (fun i s =>
    wr (chB n) R.PLANE_LVL_AMP ((tget [] (fno * 4 + i / 4) (s.weir n).levels).getD (i % 4) 0) s i) s

/-- Forget what was kept of frames before `fno`. -/
def forget (fno : Nat) (w : WeirSt) : WeirSt :=
  { w with
    factor := w.factor.filter (fun e => fno * 4 ≤ e.1), facLim := w.facLim.filter (fun e => fno * 4 ≤ e.1)
    corrs := w.corrs.filter (fun e => fno * 4 ≤ e.1), levels := w.levels.filter (fun e => fno * 4 ≤ e.1)
    drift := w.drift.filter (fun e => fno ≤ e.1), driftSkip := w.driftSkip.filter (fun e => fno ≤ e.1)
    slackOf := w.slackOf.filter (fun e => fno ≤ e.1) }

/-- A change of format or range that takes effect with frame `fno` starts a dark interval at its boundary, or starts the
count of an open one anew: the head is written the frame's format (R270, R272), the drivers their ranges (R360, R444). -/
def darkBegin (n fno bnd : Nat) (s : State) : State :=
  let x := s.chst n
  let fmt := x.fmtDue.contains fno
  let mask := tget 0 fno x.rangeDue
  let s := modCh n (fun x => { x with
    fmtDue := x.fmtDue.filter (fno < ·), rangeDue := x.rangeDue.filter (fun e => fno < e.1) }) s
  let s := when_ fmt (fun s =>
    let s := when_ (x.darkFrom == none) (fun s => raise 0x0504 n bnd (wrB (chB n) R.PLANE_STATUS_FMT_DARK true s)) s
    let s := modCh n (fun x => { x with
      darkFrom := some (x.darkFrom.getD fno), darkFirst := fno, darkN := 0, darkOk := false }) s
    writeFormat n (((frameOf s n fno).map (fmtOf s n)).getD (effFmt s n)) s) s
  when_ (mask != 0) (fun s =>
    let s := when_ (x.rangeFrom == none) (fun s =>
      raise 0x060D n mask (wrB (chB n) R.SEQ_RANGE_STAT_RANGE_DARK true s)) s
    let s := calRestart n (modCh n (fun x => { x with
      rangeFrom := some (x.rangeFrom.getD fno), rangeFirst := fno, rangeN := 0, rangeOk := false
      rangeMask := x.rangeMask ||| mask }) s)
    each (bitList 6 mask) (fun k s => sendRange n k (bitOf (ef s (chB n) R.SEQ_RANGE_HIGH) k) s) s) s

/-- The dark planes of the frames before this boundary suffice for the open intervals; a SCAN channel's interval is one
whole frame (R270, R359). -/
def darkEnough (n fno : Nat) (s : State) : State :=
  let need := darkNeed s n
  let scan := chKind s n == .scan
  modCh n (fun x => { x with
    darkOk := x.darkFrom.isSome && x.darkFirst < fno && (scan || need ≤ x.darkN)
    rangeOk := x.rangeFrom.isSome && x.rangeFirst < fno && (scan || need ≤ x.rangeN) }) s

/-- Shadowed values that take effect at a frame boundary do so (R111, R227, R228). -/
def applyDeferred (n bnd : Nat) (s : State) : State :=
  let x := s.chst n
  let s := modCh n (fun x => { x with
    defer := x.defer.filter (fun d => bnd < d.1), bright := x.bright.filter (fun b => bnd < b.1) }) s
  let s := each (x.defer.filter (fun d => d.1 ≤ bnd)) (fun d s =>
    { s with eff := match d.2.2 with
        | some v => tins d.2.1 v (terase d.2.1 s.eff)
        | none => terase d.2.1 s.eff }) s
  each (x.bright.filter (fun b => b.1 ≤ bnd)) (fun b s =>
    wr (chB n) R.COMP_BRIGHT_EFF b.2.1 (if b.2.2 then stepFadeB n b.2.1 s else startFadeB n bnd b.2.1 s)) s

/-- The frame that has ended is closed: its events, its drift check and its levels. -/
def endFrame (n fno : Nat) (s : State) : State := showLevels n fno (driftCheck n fno (closeFrame n fno s))

/-- Items a channel may emit in a frame: the slots of the grant that holds the sequencer, of the channel reservation when
none does, and without either no limit (R668). -/
def slotLimit (s : State) (n : Nat) : Option Nat :=
  match s.grants.find? (fun g => g.channel == n && g.seq && g.tenant != 0) with
  | some g => some g.slots
  | none => (s.grants.find? (fun g => g.channel == n && g.tenant == 0)).map (·.slots)

/-- A frame boundary passes: frame `fno` begins at `bnd` and the frame before it ends. -/
def passBoundary (n fno bnd : Nat) (s : State) : State :=
  let s := if !(s.weir n).curAny then s else endFrame n (s.weir n).curFno s
  let s := darkBegin n fno bnd (darkEnough n fno (applyDeferred n bnd s))
  let s := modWeir n (fun w => forget fno { w with curF := bnd, curFno := fno, curAny := true }) s
  let s := takeLead n s
  let s := wr (chB n) R.SEQ_SLOTS_LIMIT ((slotLimit s n).getD 0xFFFF) s
  let s := wr (chB n) R.WEIR_TRIM_TRIM_EFF (rd s (chB n) R.WEIR_TRIM_TRIM) s
  let s := { s with
    curves := (tget [] n s.curveDue).foldl (fun c e => tset (curveDef (e.1 % 33)) e.1 e.2 c) s.curves
    curveDue := terase n s.curveDue }
  let s := when_ ((s.weir n).ceilDue && s.chState n = .running) (fun s =>
    startFadeC n bnd (modeCeil s) s) s
  modWeir n (fun w => { w with ceilDue := false }) s

/-! ### Release (R114, R385, R387, R390) -/

/-- Limit `lim` governs the item that string `k` shows, until `end_`; a LAMP's ends with it (R412). -/
def governs (n k lim end_ : Nat) (s : State) : State :=
  modStr n k (fun x => { x with govern := (lim, end_) :: x.govern.filter (fun g => g.2 < 2 ^ 63 && s.ht < g.2) }) s

/-- A plane opens its interval: its string takes its current, which ends the string's LAMP, and every other string is dark
(R259, R343, R345). -/
def openInterval (n cur : Nat) (it : Item) (s : State) : State :=
  let e := planeEndOf s n it
  let s := modWeir n (fun w => { w with
    planeEnd := e, openPlane := some (it.str, it.amp), openGap := it.gapNext, strCur := tset 0 it.str cur []
    lampCur := terase it.str w.lampCur, lampDrv := terase it.str w.lampDrv }) s
  governs n it.str it.lim e s

/-- A LAMP acts: its string takes its current, at the end of the open plane interval when one is open on a MIRROR or MATRIX
channel (R302, R343, R345). -/
def lampActs (n cur : Nat) (it : Item) (s : State) : State :=
  let w := s.weir n
  let wait := chKind s n != .scan && w.openPlane.isSome && it.t < w.planeEnd
  let s := modWeir n (fun w => { w with
    lampCur := tset 0 it.str (cur + 1) w.lampCur, lampDrv := tset 0 it.str (itemDriven s n it) w.lampDrv
    strCur := if wait then w.strCur else tset 0 it.str cur w.strCur }) s
  modStr n it.str (fun x => { x with
    govern := (it.lim, 2 ^ 63) :: (if wait then x.govern.map (fun g => (g.1, min g.2 w.planeEnd)) else []) }) s

/-- A head buffer's hold ends with the last launch that uses it; a line buffer's with the next LINE (R379). -/
def holdBuf (n : Nat) (it : Item) (s : State) : State :=
  match it.buf with
  | none => s
  | some b =>
    let line := it.kind = .line
    let again := (s.weir n).q.any (fun i => i.buf == some b && i.fno == it.fno && i != it && !i.launched)
    let e := if line then 2 ^ 63 else if again then 0 else planeEndOf s n it
    modWeir n (fun w => { w with bufs := w.bufs.map (fun h =>
      if h.buf = b then { h with until_ := e }
      else if line && h.until_ = 2 ^ 63 then { h with until_ := it.t } else h) }) s

/-- A plane launches: what the drift check and the samples need of it. -/
def notePlane (n cur : Nat) (it : Item) (s : State) : State :=
  if it.kind != .plane then s
  else
    let pri := itemPri s n it
    let r : DriftRec := { pri, bit := itemBit s n it, dur := it.dur, amp := it.amp }
    let s := modCh n (fun x => { x with
      darkN := if inFmtDark s n it.fno && x.darkFirst ≤ it.fno then x.darkN + 1 else x.darkN
      rangeN := if inRangeDark s n it.fno && x.rangeFirst ≤ it.fno then x.rangeN + 1 else x.rangeN }) s
    -- a descriptor with DARK launches the dark plane and adds to no bit (R296, R346)
    let s := when_ (!(it.dark && it.arg = 0))
      (modWeir n (fun w => { w with drift := tset [] it.fno (tget [] it.fno w.drift ++ [r]) w.drift })) s
    let clamped := cur < rawCurrent s n it.str (itemDriven s n it)
    when_ (isCut s n it.str || (s.str n it.str).zeroNext || clamped || it.arg != 0) (skipDrift n it.fno pri) s

/-- The number that bytes spell, most significant first. -/
def beVal (l : List Byte) : Nat := leVal l.reverse

/-- CUR, DARK and NCUR that a token carries (R567). -/
def tokenCur (bs : List Byte) : Nat := beVal ((bs.drop 14).take 2)
def tokenDark (bs : List Byte) : Bool := bitOf ((bs.getD 2 0).toNat) 4
def tokenNcur (bs : List Byte) : Nat := beVal ((bs.drop 26).take 2)

/-- The pin instant of launch time `t` with the port's delay trim, in 25 ps units (R114, R386). -/
def pinTrim (s : State) (n t : Nat) : Nat := pin25 s n t + rd s (chB n) R.WEIR_TRIM_TRIM_EFF

/-- One item acts at its pin instant; answers the token that an EDGE port's ordered set names. -/
def launchItem (n : Nat) (it : Item) (s : State) : Option Nat × State :=
  if withheld (s.weir n) it.t && !(match it.sent with
      | some _ => (s.weir n).wds.any (fun d => d.tc ≤ it.t && (match d.tw with
          | some tw => it.t < tw + headLc s n
          | none => false))
      | none => false) then
    (none, if it.missed || it.kind = .priv then s else countMiss n it 2 s)
  else if !portUp s n then
    (none, modWeir n (fun w => { w with down := countIn it.fno 0 s.ht w.down }) (bump (chB n) R.WEIR_DOWN_CNT_COUNT s))
  else if it.kind = .priv then (none, s)
  else if it.missed then (none, s)
  else
    match it.sent with
    | none => (none, if it.kind = .swap then s else countMiss n it 2 s)
    | some (tok, _) =>
      let wd := withheld (s.weir n) it.t
      let s := when_ wd (modWeir n (fun w => { w with
        wds := modFirstW (fun d => d.tc ≤ it.t) (fun d => { d with leaked := d.leaked + 1 }) w.wds })) s
      let s := takeFactor n it s
      let bs := tget [] tok (s.port n).tokBytes
      let cur := tokenCur bs
      let s := notePlane n (itemCurrent s n it) it s
      let fs := sampleFacts s n it
      let s := modPort n (fun p => { p with
        samples := p.samples.map (fun x => if x.t = it.t && x.str = it.str then
          { x with cur := if it.kind = .line then fs.1 else cur, req := fs.2.1, a := fs.2.2.1, level := fs.2.2.2 } else x) }) s
      let s := emitOut (.release n tok it.t it.code (b2n (tokenDark bs)) cur (tokenNcur bs) (pinTrim s n it.t)) s
      let s := if it.kind = .plane then openInterval n cur it s
        else if it.kind = .lamp then lampActs n cur it s
        else s
      let s := holdBuf n it s
      let s := when_ (headEdge s n) (modWeir n (fun w => { w with ahead := it.t :: w.ahead.filter (s.ht < ·) })) s
      (some tok, s)
where
  /-- Change the first withdrawal that satisfies `p`. -/
  modFirstW (p : Withdrawal → Bool) (f : Withdrawal → Withdrawal) : List Withdrawal → List Withdrawal
    | [] => []
    | a :: t => if p a then f a :: t else a :: modFirstW p f t

/-- Residual of an ordered set for pin instant `p` (25 ps units, trim included) with character boundaries at
`ph + i * c` (R384), starting no earlier than `from_` (R385): the boundary, R before clamping. -/
def residual (p ph c from_ : Nat) : Nat × Int :=
  let d := (p + c - ph % c) % c
  let near := if 2 * d ≤ c then p - d else p + c - d
  let b := if near < from_ then from_ + (ph % c + c - from_ % c) % c else near
  (b, (p : Int) - b)

/-- Send the launch ordered sets of an EDGE port for the tokens of one pin instant (R385, R564). -/
def launchSets (n ph fno : Nat) (p : Nat) (toks : List Nat) (fuel : Nat) (s : State) : State :=
  match fuel, toks with
  | 0, _ => s
  | _, [] => s
  | f + 1, _ =>
    let now := toks.take 16
    let c := charPeriod s n
    let r := residual p ph c (s.weir n).setEnd
    let late := r.2 < -128
    let res : Int := if late then -128 else r.2
    let s := emitOut (.launchSet n res now) s
    let e := r.1 + (5 + now.length) * c
    let s := modPort n (fun p => { p with setAt := (r.1, e) }) (modWeir n (fun w => { w with setEnd := e }) s)
    let s := when_ late (fun s =>
      let s := bump (chB n) R.WEIR_EDGE_LATE_CNT_COUNT s now.length
      each now (fun _ => modWeir n (fun w => { w with
        edgeLate := countIn fno (satU 16 (-128 - r.2).toNat) s.ht w.edgeLate })) s) s
    launchSets n ph fno p (toks.drop 16) f s

/-- Take one entry of the queue's front group and act on it. -/
def releaseEntry (n : Nat) (acc : List Nat × State) (it : Item) : List Nat × State :=
  let s := modQ n (fun q => q.drop 1) acc.2
  if it.kind = .mark then (acc.1, passBoundary n it.fno it.t s)
  else
    let r := launchItem n it s
    (acc.1 ++ r.1.toList, r.2)

/-- RELEASE: the entries of the queue's earliest launch time reach their pin instant; `ph` is the phase of the port's
character boundaries in 25 ps units (R114, R384, R385, R387, R390). While the channel is ARMED only frame marks pass:
an item of a frame at which the channel does not reach RUNNING is discarded (R373). -/
def release (n ph : Nat) (s : State) : State :=
  match (s.weir n).q with
  | [] => s
  | it :: _ =>
    if s.hub.noRelease || !pinPassed s n it.t s.ht then s
    else
      match s.chState n with
      | .armed =>
        if it.kind = .mark then
          -- the boundary at which the channel reaches RUNNING is CHANNEL_RUNNING's
          if runDue s n it.t then s else passBoundary n it.fno it.t (modQ n (fun q => q.drop 1) s)
        else if runDue s n it.frame then s
        else modQ n (fun q => q.dropWhile (fun i => i.kind != .mark && i.t = it.t)) s
      | .off => s
      | .faulted => s
      | _ =>
        let group := (s.weir n).q.takeWhile (·.t == it.t)
        let r := group.foldl (releaseEntry n) ([], s)
        let s := when_ (headEdge s n && r.1 != []) (fun s =>
          launchSets n ph it.fno (pinTrim s n it.t) r.1 r.1.length s) r.2
        let s := each ((group.filter (fun i => i.kind != .mark)).map (·.fno)).dedup
          (fun fno s => when_ (itemsPast s n fno) (closeItems n fno) s) s
        sendTokens n s

/-- RELEASE (R114). -/
def execRelease (n : Fin 192) (ph : Fin 128) (s : State) : Host.Outcome State Fault Refusal := run (release n ph) s

/-- PLANE_INTERVAL_END: at the end of the last block the string goes on to the next item's amplitude or turns off, and
every other string shines as its last LAMP told it (R302, R343, R345, R379). -/
def planeIntervalEnd (n : Nat) (s : State) : State :=
  let w := s.weir n
  match w.openPlane with
  | none => s
  | some (k, _) =>
    if s.ht < w.planeEnd then s
    else
      let next := if w.openGap then none else (w.q.find? Item.isLit).filter (·.str == k)
      let own := match tget 0 k w.lampCur, next with
        | c + 1, _ => c
        | 0, some i => itemCurrent s n i
        | 0, none => 0
      modWeir n (fun w => { w with
        openPlane := none, openGap := false
        strCur := w.lampCur.foldl (fun t l => tset 0 l.1 (l.2 - 1) t) (tset 0 k own [])
        bufs := w.bufs.filter (fun b => b.until_ = 0 || s.ht < b.until_) }) s

/-- PLANE_INTERVAL_END (R343). -/
def execPlaneIntervalEnd (n : Fin 192) (s : State) : Host.Outcome State Fault Refusal := run (planeIntervalEnd n) s

/-- SYNC_SEND: the first character boundary at or after a multiple of 250 µs falls into this tick, and a SYNC leaves there
on an UP port; `ph` is the phase of the port's character boundaries in 25 ps units (R563). -/
def syncSend (n ph : Nat) (s : State) : State :=
  let c := charPeriod s n
  let from_ := s.ht / 1000000 * 10000000
  let b := from_ + (ph % c + c - from_ % c) % c
  if portUp s n && !rdB s (ephyB n) R.EPHY_STATUS_TX_IDLE && !narrowing s n && b / 10 = s.ht then
    modPort n (fun p => { p with setAt := (b, b + 12 * c) })
      (emitOut (.sync n (b * 16 / 10) (b + rd s (chB n) R.WEIR_TRIM_TRIM_EFF)) s)
  else s

/-- SYNC_SEND (R563). -/
def execSyncSend (n : PortPhase) (s : State) : Host.Outcome State Fault Refusal := run (syncSend n.n n.ph) s

/-! ### Withdrawals (R396 to R403) -/

/-- Drop the queue entries at or after `tc` and forget their staging. -/
def dropFrom (n tc : Nat) (s : State) : State := modQ n (·.filter (fun i => i.t < tc)) s

/-- Take a withdrawal. -/
def withdraw (n cause tc : Nat) (restage : Bool) (cmd : Option Nat) (s : State) : State :=
  let c := sendCancel n cause tc s
  let s := c.2
  let w := s.weir n
  let gone := w.q.filter (fun i => tc ≤ i.t && i.sent.isSome && !i.leaked)
  -- an item is counted in the first withdrawal whose threshold it meets (R401)
  let first := fun (i : Item) => w.wds.find? (fun e => e.tc ≤ i.t)
  let cands := if restage then [] else (gone.filter (fun i => (first i).isNone)).map (·.t)
  let earlier := fun (e : Withdrawal) =>
    if restage then e else { e with cands := e.cands ++ (gone.filter (fun i => first i == some e)).map (·.t) }
  let ahead := w.ahead.filter (fun t => tc ≤ t && s.ht < t)
  let d : Withdrawal := { cause, restage, tc, td := s.ht, tw := c.1, cmd, cands
                          leaked := if headEdge s n then ahead.length else 0 }
  let s := setWeir n { w with
    wds := w.wds.map earlier ++ [d], ahead := w.ahead.filter (fun t => t < tc)
    q := if restage then w.q.map (fun i =>
        if tc ≤ i.t && i.stage == .active then { i with stage := .none, buf := none } else i)
      else w.q.filter (fun i => i.t < tc) } s
  let s := wrB (chB n) R.WEIR_STATUS_WD_ACTIVE true s
  wr (chB n) R.WEIR_WD_T_LO_HT (tc % 2 ^ 32) (wr (chB n) R.WEIR_WD_T_HI_HT (tc / 2 ^ 32) s)

/-- When a withdrawal completes (R400), in 25 ps units; absent while its CANCEL has not been sent. -/
def wdDue (s : State) (n : Nat) (d : Withdrawal) : Option Nat :=
  if headEdge s n then some (10 * d.td + headLe s n) else d.tw.map (fun t => 10 * (t + headLc s n))

/-- Frame numbers whose boundary lies at or after `tc`. -/
def framesFrom (s : State) (n tc : Nat) : List Nat := ((s.frmsOf n).filter (fun f => tc ≤ f.bnd)).map (·.fno)

/-- Restage a RESTAGE withdrawal's items: those not leaked are unstaged and unsent, and those whose decision instant
fell at or before t_d are decided again (R398). -/
def restageItems (n : Nat) (d : Withdrawal) (s : State) : State :=
  let lim := match d.tw with
    | some t => t + headLc s n
    | none => 0
  let q := (s.weir n).q
  let fs := framesFrom s n d.tc
  -- no plane of these frames has launched: their factors are taken again with the new tokens
  let s := modWeir n (fun w => { w with
    factor := w.factor.filter (fun e => !fs.contains (e.1 / 4)), facLim := w.facLim.filter (fun e => !fs.contains (e.1 / 4))
    corrs := w.corrs.filter (fun e => !fs.contains (e.1 / 4))
    bufs := w.bufs.filter (fun b =>
      b.until_ != 0 || w.q.any (fun i => i.buf == some b.buf && (i.t < d.tc || (i.sent.isSome && i.t < lim)))) }) s
  let s := each fs (fun fno => modFrm n fno (fun f => { f with mDone := 0, mActive := false, mBad := [], mFail := false })) s
  each q (fun it s =>
    if it.t < d.tc || it.kind = .mark || it.kind = .priv then s
    else if !headEdge s n && it.sent.isSome && it.t < lim then
      modQ n (modFirst (fun i => i == it) (fun i => { i with leaked := true })) s
    else
      let again := it.decided && dataTime s n it ≤ d.td + lead s n
      let it' := { it with sent := none, stage := .none, buf := none, missed := false, darkFrom := 0 }
      let r := if again && it.isPic then decideItem n { it' with decided := false } s
        else (it', s)
      modQ n (modFirst (fun i => i == it) (fun _ => r.1)) r.2) s

/-- Complete a withdrawal with its leaked count (R400). -/
def finishWd (n : Nat) (d : Withdrawal) (leaked : Nat) (s : State) : State :=
  let s := modWeir n (fun w => { w with wds := w.wds.filter (fun x => x != d) }) s
  let s := bump (chB n) R.WEIR_LEAK_CNT_COUNT (bump (chB n) R.WEIR_WD_CNT_COUNT s) leaked
  let s := wr (chB n) R.WEIR_WD_INFO_CAUSE d.cause (wrB (chB n) R.WEIR_WD_INFO_KIND d.restage s)
  let s := wr (chB n) R.WEIR_WD_INFO_LEAKED (satU 16 leaked) s
  let s := wr (chB n) R.WEIR_WD_T_LO_HT (d.tc % 2 ^ 32) (wr (chB n) R.WEIR_WD_T_HI_HT (d.tc / 2 ^ 32) s)
  let tw := d.tw.getD 0
  let s := wr (chB n) R.WEIR_WD_PIN_LO_HT (tw % 2 ^ 32) (wr (chB n) R.WEIR_WD_PIN_HI_HT (tw / 2 ^ 32) s)
  let s := wrB (chB n) R.WEIR_STATUS_WD_ACTIVE ((s.weir n).wds != []) s
  let s := raise 0x0704 n (d.cause + 8 * b2n d.restage + 65536 * satU 16 leaked) s
  match d.cmd with
  | some id => completeAt id cDone leaked d.tc 0 s
  | none => s

/-- Leaked items of a withdrawal that completes at HT `upTo` (R399). -/
def leakedOf (s : State) (n : Nat) (d : Withdrawal) (upTo : Nat) : Nat :=
  if headEdge s n then d.leaked
  else match d.tw with
    | none => 0
    | some tw =>
      let lim := min upTo (tw + headLc s n)
      d.leaked + (d.cands.filter (· < lim)).length
        + (if d.restage then ((s.weir n).q.filter (fun i =>
            d.tc ≤ i.t && i.sent.isSome && !i.leaked && i.t < lim)).length else 0)

/-- WITHDRAWAL_COMPLETE: the oldest withdrawal whose time has come completes (R398 to R401). -/
def withdrawalComplete (n : Nat) (s : State) : State :=
  match (s.weir n).wds.find? (fun d => match wdDue s n d with
    | some t => t ≤ 10 * s.ht
    | none => false) with
  | none => s
  | some d =>
    let leaked := leakedOf s n d (2 ^ 64)
    let s := if d.restage then restageItems n d s
      else modWeir n (fun w => { w with bufs := w.bufs.filter (fun b =>
        b.until_ != 0 || w.q.any (fun i => i.buf == some b.buf)) }) s
    sendTokens n (finishWd n d leaked s)

/-- WITHDRAWAL_COMPLETE (R400). -/
def execWithdrawalComplete (n : Fin 192) (s : State) : Host.Outcome State Fault Refusal :=
  run (withdrawalComplete n) s

/-- A hand-over reaches its step 2: every withdrawal completes at once with the items leaked so far (R403). -/
def abandonWds (n : Nat) (s : State) : State :=
  each (s.weir n).wds (fun d s => finishWd n d (if d.tw.isNone then 0 else leakedOf s n d (s.ht + 1)) s) s

/-- The CANCELs that waited for the link are its first transmission (R402). -/
def sendPending (n : Nat) (s : State) : State :=
  let p := s.port n
  if p.cancels = [] then s
  else
    let s := each p.cancels (fun c s => emitOut (.cancel n c.1 c.2) s) s
    let s := modPort n (fun p => { p with cancels := [] }) s
    let s := modWeir n (fun w => { w with
      wds := w.wds.map (fun d => if d.tw = none then { d with tw := some s.ht } else d) }) s
    wrB (chB n) R.WEIR_WD_INFO_PENDING false s

/-! ### The adaptive voltage loop (R393 to R395, R814, R815) -/

def State.die (s : State) (d : Nat) : DieSt := tget {} d s.dst
def modDie (d : Nat) (f : DieSt → DieSt) (s : State) : State := { s with dst := tset {} d (f (s.die d)) s.dst }

/-- WEIR_AVS_LIMIT with its bounds: VMIN and VMAX in mV (R406). -/
def avsLimits (s : State) (d : Nat) : Nat × Nat :=
  let hi := max 620 (min 880 (rd s (dieB d) R.WEIR_AVS_LIMIT_VMAX))
  let lo := max 620 (min 880 (rd s (dieB d) R.WEIR_AVS_LIMIT_VMIN))
  (min lo hi, hi)

/-- The smallest slack of the period among the die's RUNNING channels, and its port. -/
def periodSlack (s : State) (d : Nat) : Option (Int × Nat) :=
  (List.range 48).foldl (fun a k =>
    if s.chState (48 * d + k) != .running then a
    else match (s.weir (48 * d + k)).slackPeriod, a with
      | none, a => a
      | some x, none => some (x, k)
      | some x, some (y, j) => if x < y then some (x, k) else some (y, j)) none

/-- Command a voltage: up to four writes, of which `fails` have no valid response (R815). -/
def avsCommand (d mv fails : Nat) (s : State) : State :=
  let s := each (List.range (min 4 (fails + 1))) (fun _ => emitOut (.avs d mv)) s
  if 4 ≤ fails || s.hub.badRails.contains 17 then s else wr (dieB d) R.WEIR_AVS_STATUS_VOUT mv s

/-- AVS_PERIOD: the loop's period ends on die `d`; `fails` counts the AVSBus transactions without a valid response. In
throttle the supply is never raised (R737). -/
def avsPeriod (d fails : Nat) (s : State) : State :=
  let b := dieB d
  let lim := avsLimits s d
  let best := periodSlack s d
  let m : Int := 4000 * (rd s b R.WEIR_AVS_MARGIN_MARGIN (rd s b R.WEIR_AVS_STATUS_BAND) : Nat)
  let step := max 1 (rd s b R.WEIR_AVS_CTRL_STEP)
  let vout := rd s b R.WEIR_AVS_STATUS_VOUT
  let short : Bool := match best with
    | some (x, _) => x < m
    | none => false
  let long : Bool := match best with
    | some (x, _) => 2 * m ≤ x
    | none => true
  let s := wr b R.WEIR_AVS_SLACK_SLACK (match best with
    | some (x, _) => satTwos 32 x
    | none => 0x7FFFFFFF) s
  let s := wr b R.WEIR_AVS_STATUS_LIMIT_PORT (match best with
    | some (_, k) => k
    | none => 0xFF) s
  let x := s.die d
  let down := if long then x.avsDown + 1 else 0
  let lower := down ≥ max 1 (rd s b R.WEIR_AVS_CTRL_DOWN_N)
  let s := modDie d (fun x => { x with avsDown := if lower then 0 else down }) s
  let v := if short then (if vout < lim.2 then min lim.2 (vout + step) else vout)
    else if lower then (if lim.1 < vout then max lim.1 (vout - step) else vout)
    else vout
  let v := if rdB s hkB R.HK_DIE_THROTTLE d then min vout v else v
  let s := if rdB s b R.WEIR_AVS_CTRL_EN && v != vout then avsCommand d v fails s else s
  let atMax := vout == lim.2
  let v' := rd s b R.WEIR_AVS_STATUS_VOUT
  let s := wrB b R.WEIR_AVS_STATUS_AT_MAX (v' == lim.2) (wrB b R.WEIR_AVS_STATUS_AT_MIN (v' == lim.1) s)
  let need := max 1 (rd s b R.WEIR_AVS_CTRL_SHORT_N)
  let s := modDie d (fun x => { x with
    avsShort := if short && atMax then min need (x.avsShort + 1) else 0
    avsLong := if best.isSome && !short then min need (x.avsLong + 1) else 0 }) s
  let s := when_ (short && atMax) (bump b R.WEIR_AVS_SHORT_CNT_COUNT) s
  let s := when_ ((s.die d).avsShort ≥ need) (fun s =>
    if rdB s b R.WEIR_AVS_STATUS_SHORT_AT_MAX then s
    else
      let us_ := match best with
        | some (x, _) => satTwos 16 (x / 4000)
        | none => 0
      raise 0x0707 (match best with
        | some (_, k) => 48 * d + k
        | none => noCh) (d + 256 * rd s b R.WEIR_AVS_STATUS_BAND + 65536 * us_)
        (wrB b R.WEIR_AVS_STATUS_SHORT_AT_MAX true s)) s
  let s := when_ (rdB s b R.WEIR_AVS_STATUS_SHORT_AT_MAX && (s.die d).avsLong ≥ need) (fun s =>
    raise 0x0708 noCh (d + 65536 * v') (wrB b R.WEIR_AVS_STATUS_SHORT_AT_MAX false s)) s
  each (channelsOf d) (fun n => modWeir n (fun w => { w with slackPeriod := none })) s

/-- AVS_PERIOD (R393 to R395, R815). -/
def execAvsPeriod (d : Fin 4) (fails : Fin 5) (s : State) : Host.Outcome State Fault Refusal :=
  run (avsPeriod d fails) s

/-- The counters of the Weir table (R405). -/
def weirCounters : List Fld :=
  [R.WEIR_LATE_CNT_COUNT, R.WEIR_LATE_DARK_CNT_COUNT, R.WEIR_MISS_CNT_COUNT, R.WEIR_EXPIRED_CNT_COUNT,
   R.WEIR_EDGE_LATE_CNT_COUNT, R.WEIR_DOWN_CNT_COUNT, R.WEIR_WD_CNT_COUNT, R.WEIR_LEAK_CNT_COUNT]

/-- WEIR_CNT_CLR: the counters and WEIR_SLACK_LOW clear; PEAK counts anew from the entries in use (R405). -/
def weirCntClr (n : Nat) (s : State) : State :=
  wr (chB n) R.WEIR_QUEUE_PEAK (s.weir n).q.length
    (resetFlds (chB n) (R.WEIR_SLACK_LOW_SLACK :: weirCounters) s)

/-- WEIR_CNT_CLR (R405). -/
def execWeirCntClr (n : Fin 192) (s : State) : Host.Outcome State Fault Refusal := run (weirCntClr n) s

end Sys2Proof.Machine
end

