-- ==== Sys2Proof/Machine/Demand.lean ====
section
/-!
DEFINITION. What the Sluice counts (spec/16_host_tenants_sluice.md R666 to R676): the demand of grants and channel
reservations, the capacities of a die and the totals admitted against them, and the squeeze of ELASTIC holders.
-/

namespace Sys2Proof.Machine
open Sys2Proof

/-! ### The state after a flip (R208, R216) -/

/-- A field of the state that would be in effect if the pending fields that satisfy `flip` flipped. -/
def aft (s : State) (flip : Nat → Bool) (b : Nat) (f : Fld) (i : Nat := 0) : Nat :=
  if flip (f.key b i) then rd s b f i else ef s b f i

/-- No pending field flips: the state in effect. -/
def noFlip : Nat → Bool := fun _ => false

/-- The layer whose fetch or composition registers hold a field, if any. -/
def layerOfKey (n key : Nat) : Option Nat :=
  let a := key / 32
  if fetchB n 0 ≤ a && a < fetchB n 0 + 9 * 0x20 then some ((a - fetchB n 0) / 0x20)
  else if compB n 0 ≤ a && a < compB n 0 + 9 * 0x40 then some ((a - compB n 0) / 0x40)
  else none

/-- The channel composes in fence mode (R212). -/
def fenceMode (s : State) (n : Nat) : Bool := rdB s (chB n) R.COMP_CTRL_MODE

/-- A tenant layer whose fence is armed (R212). -/
def fenceArmed (s : State) (n k : Nat) : Bool := tget 0 k (s.chst n).fences != 0

/-- The fields that a commit by `fn` flips: those it has pending, but in fence mode none of a tenant layer that has a
fence armed (R208). -/
def commitFlips (s : State) (n fn : Nat) (key : Nat) : Bool :=
  tget 0 key (s.chst n).pend == fn + 1
    && !(fenceMode s n && (match layerOfKey n key with
        | some k => k < 8 && fenceArmed s n k
        | none => false))

/-- The fields of layer `k` that `fn` has pending. -/
def layerFlips (s : State) (n fn k : Nat) (key : Nat) : Bool :=
  tget 0 key (s.chst n).pend == fn + 1 && layerOfKey n key == some k

/-- The layer takes part after the flip (R191, R226). -/
def partAfter (s : State) (flip : Nat → Bool) (n k : Nat) : Bool :=
  aft s flip (fetchB n k) R.FETCH_SURF_EN == 1 && (k != 8 || aft s flip (chB n) R.COMP_LEVEE_CTRL_ACTIVE == 1)

/-- The function whose table layer `k` is fetched through (R157). -/
def tableFn (s : State) (n k : Nat) : Nat := if k = 8 then 0 else layerHolder s n k

/-! ### Output geometry after a flip -/

def wAfter (s : State) (flip : Nat → Bool) (n : Nat) : Nat := aft s flip (chB n) R.PLANE_GEOM_W_M1 + 1
def hAfter (s : State) (flip : Nat → Bool) (n : Nat) : Nat := aft s flip (chB n) R.PLANE_GEOM_H_M1 + 1

/-- The plane format after a flip (R252). -/
def fmtAfter (s : State) (flip : Nat → Bool) (n : Nat) : Fmt := fmtBy (fun f i => aft s flip (chB n) f i)

/-- Bytes of the pool of a format (R251). -/
def poolBytes (k : Kind) (f : Fmt) : Nat := f.frames * slotBytes k f

/-! ### Fetch-buffer use (R176) -/

/-- Bytes of the fetch buffer a layer uses. -/
def bufUse (s : State) (flip : Nat → Bool) (n k : Nat) : Nat :=
  if aft s flip (fetchB n k) R.FETCH_SURF_EN = 0 then 0
  else
    let w := aft s flip (fetchB n k) R.FETCH_SRC_SIZE_W_M1 + 1
    let f := (surf s (tableFn s n k) (aft s flip (fetchB n k) R.FETCH_SURF_HANDLE)).fmt
    if fmtTiled f then ceilDiv w 8 * 8 * 4 * 16 else w * fmtBytes f * 8

def bufTotal (s : State) (flip : Nat → Bool) (n : Nat) : Nat :=
  (List.range 9).foldl (fun a k => a + bufUse s flip n k) 0

/-- Bytes of the fetch buffer of a pipeline (R176). -/
abbrev fetchBuffer : Nat := 3145728

/-! ### Demand (R667) -/

/-- SEQ_FPERIOD.PERIOD; 0 acts as the reset value. -/
def fperiod (s : State) (n : Nat) : Nat :=
  let p := rd s (chB n) R.SEQ_FPERIOD_PERIOD
  if p = 0 then 0x03F940AB else p

/-- Sixteenths of a byte per frame, as MB/s rounded up. -/
def rateMB (s : State) (n x16 : Nat) : Nat := ceilDiv (x16 * 4000) (16 * fperiod s n)

/-- Sixteenths of a byte that one frame of a layer reads from a surface: the clipped rectangle. -/
def surfBytes16 (s : State) (flip : Nat → Bool) (n k : Nat) (x : Surf) : Nat :=
  let b := fetchB n k
  let r := clipRect x (aft s flip b R.FETCH_SRC_POS_X) (aft s flip b R.FETCH_SRC_POS_Y)
    (aft s flip b R.FETCH_SRC_SIZE_W_M1 + 1) (aft s flip b R.FETCH_SRC_SIZE_H_M1 + 1)
  r.2.2.1 * r.2.2.2 * (if fmtTiled x.fmt then 65 else 16 * fmtBytes x.fmt)

/-- The surface a layer is counted with: that of its handle, or the largest of its clip. -/
def countedSurf (s : State) (flip : Nat → Bool) (n k : Nat) : Surf :=
  let fn := tableFn s n k
  match (s.chst n).clips.find? (fun c => c.layer == k) with
  | none => surf s fn (aft s flip (fetchB n k) R.FETCH_SURF_HANDLE)
  | some c => c.table.foldl (fun a h =>
      let x := surf s fn h
      if surfBytes16 s flip n k a < surfBytes16 s flip n k x then x else a) {}

/-- DRAM demand of layers, by the die of their surfaces: sixteenths of a byte per frame. -/
def layerDemand (s : State) (flip : Nat → Bool) (n : Nat) (ks : List Nat) (d : Nat) : Nat :=
  ks.foldl (fun a k =>
    if !partAfter s flip n k then a
    else
      let x := countedSurf s flip n k
      if x.empty || dieOf x.base != d then a else a + surfBytes16 s flip n k x) 0

/-- The layers a grant answers for: those of its mask, or for a channel reservation PF0's. -/
def grantLayers (s : State) (g : Grant) : List Nat :=
  if g.tenant = 0 then (List.range 9).filter (fun k => k == 8 || layerHolder s g.channel k == 0)
  else bitList 8 g.layers

/-- Bits of a plane frame or of a frame's line records that a channel reservation counts for its port (R667). -/
def portBits (k : Kind) (f : Fmt) : Nat :=
  if k = .scan then 3 * (8 * lineBytes f.w) * f.h else f.count * f.w * f.h

/-- Plane bytes of a frame. -/
def frameBytes (k : Kind) (f : Fmt) : Nat := if k = .scan then f.h * lineBytes f.w else f.count * planeBytes f

/-- DRAM demand of a grant in MB/s. -/
def dramDemand (s : State) (flip : Nat → Bool) (g : Grant) : Nat :=
  let n := g.channel
  let ls := dies.foldl (fun a d => a + layerDemand s flip n (grantLayers s g) d) 0
  if g.tenant != 0 then rateMB s n ls
  else
    let f := fmtAfter s flip n
    let px := 16 * 4 * f.w * f.h
    rateMB s n (ls + (if aft s flip (chB n) R.COMP_CTRL_UMAP_EN = 1 then px else 0)
      + 2 * 16 * frameBytes (chKind s n) f + (if aft s flip (chB n) R.COMP_CTRL_WB_EN = 1 then px else 0))

/-- Link demand of a grant in MB/s, by the die of the surfaces; nothing on the channel's own die. -/
def linkDemand (s : State) (flip : Nat → Bool) (g : Grant) : List Nat :=
  dies.map (fun d =>
    if d = g.channel / 48 then 0 else rateMB s g.channel (layerDemand s flip g.channel (grantLayers s g) d))

def sumN (l : List Nat) : Nat := l.foldl (· + ·) 0

/-- Port demand of a channel reservation in Mb/s. -/
def portDemand (s : State) (flip : Nat → Bool) (n : Nat) : Nat :=
  ceilDiv (portBits (chKind s n) (fmtAfter s flip n) * 4000) (fperiod s n)

/-- Pool of the format after a flip, in 64 KiB units. -/
def poolUnits (s : State) (flip : Nat → Bool) (n : Nat) : Nat := poolBytes (chKind s n) (fmtAfter s flip n) / 65536

/-! ### Capacities of a die (R666, R689) -/

def resPct (s : State) (d : Nat) : Nat := min 75 (rd s (slDieB d) R.SLUICE_DIE_CAP_RES_PCT)
def schedPct (s : State) (d : Nat) : Nat := max (resPct s d) (min 100 (rd s (slDieB d) R.SLUICE_DIE_CAP_SCHED_PCT))
def resCap (s : State) (d : Nat) : Nat := rd s (slDieB d) R.SLUICE_DIE_PEAK_MBPS * resPct s d / 100
def allCap (s : State) (d : Nat) : Nat := rd s (slDieB d) R.SLUICE_DIE_PEAK_MBPS * schedPct s d / 100
/-- Modules of a die's link that are UP or being repaired; each carries 256 000 MB/s in each direction (R695). -/
def modulesUp (s : State) (d : Nat) : Nat :=
  b2n (2 ≤ rd s (d2dB d) R.HUB_D2D_STATUS_MOD0) + b2n (2 ≤ rd s (d2dB d) R.HUB_D2D_STATUS_MOD1)

def linkCap (s : State) (d : Nat) : Nat :=
  min 100 (rd s (slDieB d) R.SLUICE_DIE_CAP_LINK_PCT) * (256000 * modulesUp s d) / 100

/-- The grants of a die's channels. -/
def grantsOn (s : State) (d : Nat) : List Grant := s.grants.filter (fun g => g.channel / 48 == d)

/-- A grant counts as RESERVED: its class, or a channel reservation (R669). -/
def isReserved (g : Grant) : Bool := g.tenant == 0 || g.cls == 0

def resTotal (s : State) (d : Nat) : Nat := sumN (((grantsOn s d).filter isReserved).map (·.dram))
def elasticTotal (s : State) (d : Nat) : Nat :=
  sumN (((grantsOn s d).filter (fun g => !isReserved g && g.cls == 1)).map (·.used))
def elasticCap (s : State) (d : Nat) : Nat := allCap s d - resTotal s d
def linkIn (s : State) (d : Nat) : Nat := sumN ((grantsOn s d).map (fun g => sumN g.usedLink))
def linkOut (s : State) (d : Nat) : Nat := sumN (s.grants.map (fun g => g.usedLink.getD d 0))
def poolTotal (s : State) (d : Nat) : Nat := sumN (((grantsOn s d).filter (·.tenant == 0)).map (·.pool))

/-- The grant sets its channel's SEQ_SLOTS.LIMIT (R668). -/
def setsSlots (s : State) (g : Grant) : Bool :=
  (g.tenant != 0 && g.seq)
    || (g.tenant == 0 && !s.grants.any (fun h => h.channel == g.channel && h.tenant != 0 && h.seq))

/-- Launch slots of a die in thousands of items/s, rounded up. -/
def slotTotal (s : State) (d : Nat) : Nat :=
  sumN (((grantsOn s d).filter (setsSlots s)).map (fun g => ceilDiv (g.slots * 4000000) (fperiod s g.channel)))

/-! ### The squeeze (R673) -/

/-- Weighted shares of a capacity: a holder whose demand is within its share keeps its demand, and the excess goes to
the rest. Each holder is a demand and a weight. -/
def shares (cap : Nat) (l : List (Nat × Nat)) : Nat → List Nat
  | 0 => l.map (·.1)
  | fuel + 1 =>
    let ws := sumN (l.map (·.2))
    let sh := fun (w : Nat) => cap * w / max 1 ws
    if l.all (fun p => p.1 ≤ sh p.2) then l.map (·.1)
    else if l.all (fun p => sh p.2 < p.1) then l.map (fun p => sh p.2)
    else
      -- those within their share are fixed, the rest share what they leave
      let fixed := sumN ((l.filter (fun p => p.1 ≤ sh p.2)).map (·.1))
      let rest := l.filter (fun p => sh p.2 < p.1)
      let r := shares (cap - fixed) rest fuel
      (l.foldl (fun (acc : List Nat × List Nat) p =>
        if p.1 ≤ sh p.2 then (acc.1 ++ [p.1], acc.2)
        else (acc.1 ++ acc.2.take 1, acc.2.drop 1)) ([], r)).1

/-- An ELASTIC grant. -/
def isElastic (g : Grant) : Bool := g.tenant != 0 && g.cls == 1

/-- Squeeze or release the ELASTIC holders of a die, with an event at the start and end of each squeeze. -/
def refreshSqueeze (d : Nat) (s : State) : State :=
  let excess := elasticCap s d < elasticTotal s d
  let hs := (grantsOn s d).filter isElastic
  let sh := shares (elasticCap s d) (hs.map (fun g => (g.used, max 1 g.weight))) hs.length
  each (hs.zip sh) (fun p s =>
    let g := p.1
    let sq := excess && p.2 < g.used
    let s := { s with grants := s.grants.map (fun h =>
      if h.tenant = g.tenant && h.g = g.g then { h with squeezed := sq, rate := if sq then p.2 else 0 } else h) }
    when_ (sq != g.squeezed)
      (raise 0x0E05 g.channel (g.tenant + 512 * g.g + 8192 * b2n sq + 65536 * satU 16 (if sq then p.2 / 16 else g.used / 16)))
      s) s

/-- Take a die's totals anew. -/
def refreshDie (d : Nat) (s : State) : State :=
  let b := slDieB d
  let s := refreshSqueeze d s
  let s := wr b R.SLUICE_DIE_RES_MBPS (satU 20 (resTotal s d)) (wr b R.SLUICE_DIE_ELASTIC_MBPS (satU 20 (elasticTotal s d)) s)
  let s := wr b R.SLUICE_DIE_LINK_IN_MBPS (satU 20 (linkIn s d)) (wr b R.SLUICE_DIE_LINK_OUT_MBPS (satU 20 (linkOut s d)) s)
  let s := wr b R.SLUICE_DIE_POOL_USED_UNITS (satU 24 (poolTotal s d))
    (wr b R.SLUICE_DIE_SLOT_USED_KITEMS (satU 24 (slotTotal s d)) s)
  wrB b R.SLUICE_DIE_STATUS_OVER (resCap s d < resTotal s d) s

/-- SLUICE_DIE_PEAK: 8 bytes a transfer for each channel in service at its trained rate (R676). -/
def refreshPeak (d : Nat) (s : State) : State :=
  let p := if rdB s (ddrDieB d) R.DDR_DIE_STATUS_MEM_OK then
      sumN (((List.range 8).filter (fun m => rd s (ddrB d m) R.DDR_STATUS_STATE != 5)).map (fun m =>
        8 * rd s (ddrB d m) R.DDR_RATE_MTS))
    else 0
  wr (slDieB d) R.SLUICE_DIE_PEAK_MBPS (satU 20 p) s

/-- The capacity of a die has fallen: it is taken anew, with event 0x0E07 (R676). -/
def capacityFell (d : Nat) (s : State) : State :=
  let s := each dies refreshDie (refreshPeak d s)
  raise 0x0E07 noCh (d + 4 * rd s (slDieB d) R.SLUICE_DIE_STATUS_OVER + 65536 * satU 16 (resCap s d / 1000)) s

/-- A flip has changed what a channel's layers ask for: the grants on it hold their demand in effect (R671, R672). -/
def refreshDemand (n : Nat) (s : State) : State :=
  if !s.grants.any (·.channel == n) then s
  else
    let s := { s with grants := s.grants.map (fun g =>
      if g.channel = n then
        let l := linkDemand s noFlip g
        { g with used := dramDemand s noFlip g, usedLink := if sumN l = 0 then [] else l }
      else g) }
    each dies refreshDie s

end Sys2Proof.Machine
end

