-- ==== Sys2Proof/Machine/Levee.lean ====
section
/-!
DEFINITION. Pending fields, flips, commits, fences, clips and pre-emption (spec/05_layers_levee.md, with the format
checks of spec/06_pixels_to_planes.md and the admission of spec/16_host_tenants_sluice.md).
-/

namespace Sys2Proof.Machine
open Sys2Proof

/-! ### Pending fields (R207, R208) -/

/-- COMP_LFLIP_STAT.PENDING and ARMED of a layer (R237). -/
def showLayer (n k : Nat) (s : State) : State :=
  let p := (s.chst n).pend.any (fun e => layerOfKey n e.1 == some k)
  wrB (compB n k) R.COMP_LFLIP_STAT_ARMED (fenceArmed s n k) (wrB (compB n k) R.COMP_LFLIP_STAT_PENDING p s)

/-- Function `fn` writes a shadowed field of channel `n`. -/
def pendField (n fn b : Nat) (f : Fld) (v : Nat) (i : Nat := 0) (s : State) : State :=
  let key := f.key b i
  let s := modCh n (fun x => { x with pend := tset 0 key (fn + 1) x.pend }) (wr b f v s i)
  match layerOfKey n key with
  | some k => showLayer n k s
  | none => s

/-- The value of a field that was flipped last: by a pre-emption not yet in effect, or in effect. -/
def flippedVal (s : State) (n key : Nat) : Option Nat :=
  match ((s.chst n).pre.flatMap (·.vals)).reverse.find? (·.1 == key) with
  | some v => v.2
  | none => (s.eff.find? (·.1 == key)).map (·.2)

/-- Discard the pending fields, with the coefficients pending beside them, that satisfy `p`; a field reads its value in
effect again. -/
def dropPending (n : Nat) (p : Nat → Nat → Bool) (s : State) : State :=
  let gone := (s.chst n).pend.filter (fun e => p e.1 (e.2 - 1))
  let s := { s with regs := gone.foldl (fun t e =>
    match flippedVal s n e.1 with
    | some v => tins e.1 v (terase e.1 t)
    | none => terase e.1 t) s.regs }
  let s := modCh n (fun x => { x with
    pend := x.pend.filter (fun e => !(p e.1 (e.2 - 1)))
    coefPend := x.coefPend.filter (fun c => !p (R.COMP_LSCALER_SCALER.key (compB n c.layer) 0) c.fn) }) s
  each (List.range 9) (fun k => showLayer n k) s

/-! ### A flip -/

/-- Fields whose value takes effect at the frame boundary itself: the current ranges and the string ceilings, which
govern launches (R111, R359, R411). -/
def launchSide (n key : Nat) : Bool :=
  let a := key / 32
  a == chB n + 0x1060 || (List.range 6).any (fun k => key == R.LAMP_SCEIL_CEIL.key (strB n k) 0)

/-- The plane format in effect, numbered (R252). -/
def curFmt (s : State) (n : Nat) : Fmt := ((s.fmtsOf n).getLast?).getD (effFmt s n)

/-- Two formats are one plane format (R252). -/
def sameFmt (a b : Fmt) : Bool := decide ({ a with id := b.id, next := b.next } = b)

/-- The registers that show the format and layer state in effect (R188, R273). -/
def showEffect (n : Nat) (s : State) : State :=
  let s := wr (chB n) R.PLANE_POOL_SIZE_SIZE (satU 24 (poolUnits s noFlip n)) s
  wr (chB n) R.FETCH_BUF_USED_BYTES (satU 22 (bufTotal s noFlip n)) s

/-- Put a value into a table of fields; none is the reset value. -/
def putVal (t : Tbl Nat) (e : Nat × Option Nat) : Tbl Nat :=
  match e.2 with
  | some v => tins e.1 v (terase e.1 t)
  | none => terase e.1 t

/-- Put field values into effect: `bnd` the frame boundary that they govern first, `live` whether the channel has frames
to govern. What a pre-emption still holds of the fields is older. -/
def putEffect (n : Nat) (vals : List (Nat × Option Nat)) (bnd : Nat) (live : Bool) (s : State) : State :=
  let later := vals.filter (fun e => live && launchSide n e.1)
  let keys := vals.map (·.1)
  let s := modCh n (fun x => { x with
    pre := x.pre.map (fun p => { p with vals := p.vals.filter (fun e => !keys.contains e.1) })
    defer := x.defer.filter (fun d => !(bnd ≤ d.1 && keys.contains d.2.1)) ++ later.map (fun e => (bnd, e.1, e.2)) }) s
  { s with eff := (vals.filter (fun e => !(live && launchSide n e.1))).foldl putVal s.eff }

/-- Scalers after the flips of an instant: one that serves another layer than before, or none, takes the default set, and
coefficients that flipped with their layer take effect (R200, R201). -/
def settleScalers (n : Nat) (s : State) : State :=
  let s := each (List.range 4) (fun sc s =>
    let now := (List.range 8).find? (fun k => ef s (compB n k) R.COMP_LSCALER_SCALER == sc)
    let x := s.chst n
    let s := match now with
      | some k => if tget 0 sc x.served = k + 1 then s
          else modCh n (fun x => { x with served := tset 0 sc (k + 1) x.served, coef := terase sc x.coef }) s
      | none => modCh n (fun x => { x with served := terase sc x.served, coef := terase sc x.coef }) s
    each (x.coefDue.filter (fun c => c.sc == sc && now == some c.layer)) (fun c =>
      modCh n (fun x => { x with coef := tset [] sc c.l x.coef })) s) s
  modCh n (fun x => { x with coefDue := [] }) s

/-- Flip field values and coefficients for the frame at boundary `bnd` of a channel that has frames, or at once for one
that has none. -/
def flipVals (n : Nat) (vals : List (Nat × Option Nat)) (coefs : List CoefReq) (bnd : Nat) (live : Bool) (s : State) :
    State :=
  let layers := (List.range 9).filter (fun k => vals.any (fun e => layerOfKey n e.1 == some k))
  let handles := layers.map (fun k => (k, ef s (fetchB n k) R.FETCH_SURF_HANDLE))
  let s := putEffect n vals bnd live s
  let at_ := if live then bnd else s.ht
  let s := each layers (fun k s =>
    let b := compB n k
    showLayer n k (wr b R.COMP_LFLIP_LO_HT (at_ % 2 ^ 32) (wr b R.COMP_LFLIP_HI_HT (at_ / 2 ^ 32)
      (wr b R.COMP_LFLIP_STAT_LATE_RUN 0 (wrB b R.COMP_LFLIP_STAT_LATE false s))))) s
  let s := modCh n (fun x => { x with coefDue := x.coefDue ++ coefs }) s
  -- a change of HANDLE ends the layer's clip (R659)
  let s := each handles (fun h s =>
    if ef s (fetchB n h.1) R.FETCH_SURF_HANDLE = h.2 then s
    else modCh n (fun x => { x with clips := x.clips.filter (fun c => c.layer != h.1 || c.f0.isNone) }) s) s
  when_ (vals.any (fun e => (List.range 6).any (fun i => e.1 == R.LAMP_SCEIL_CEIL.key (strB n i) 0))) bumpSnap s

/-- What holds once the flips of an instant are done: the scalers, the registers that show the state in effect, and the
demand of the grants. -/
def flipsDone (n : Nat) (s : State) : State := refreshDemand n (showEffect n (settleScalers n s))

/-- A plane format has taken effect on a channel that has no frames: it is written to the head at once (R252, R270). -/
def formatAtOnce (n : Nat) (old : Fmt) (s : State) : State :=
  let m := effFmt s n
  if sameFmt m old then s
  else writeFormat n m (setFmts n ((if s.fmtsOf n = [] then [old] else s.fmtsOf n) ++ [{ m with id := old.id + 1, next := 0 }]) s)

/-- Take the pending fields that satisfy `flip`, with their values, and the coefficients that satisfy `cf`, out of the
shadow. -/
def takePending (n : Nat) (flip : Nat → Bool) (cf : CoefReq → Bool) (s : State) :
    List (Nat × Option Nat) × List CoefReq × State :=
  let x := s.chst n
  let keys := (x.pend.filter (fun e => flip e.1)).map (·.1)
  let vals := keys.map (fun key => (key, (s.regs.find? (·.1 == key)).map (·.2)))
  (vals, x.coefPend.filter cf, modCh n (fun x => { x with
    pend := x.pend.filter (fun e => !flip e.1), coefPend := x.coefPend.filter (fun c => !cf c) }) s)

/-- Flip the pending fields that satisfy `flip` and the coefficients that satisfy `cf`, for the frame at boundary `bnd` of
a channel that has frames, or at once, with what follows, for one that has none. -/
def applyFlip (n : Nat) (flip : Nat → Bool) (cf : CoefReq → Bool) (bnd : Nat) (live : Bool) (s : State) : State :=
  let old := curFmt s n
  let wasAlt := ef s (chB n) R.COMP_CTRL_WB_ALT
  let t := takePending n flip cf s
  if t.1 = [] && t.2.1 = [] then s
  else
    let s := flipVals n t.1 t.2.1 bnd live t.2.2
    if live then s
    else
      let s := when_ (wasAlt = 0) (modCh n (fun x => { x with wbAlt := 0 })) s
      flipsDone n (formatAtOnce n old s)

/-- COMP_CSEQ advances (R234). -/
def bumpCseq (n : Nat) (s : State) : State :=
  wr (chB n) R.COMP_CSEQ_SEQ (rd s (chB n) R.COMP_CSEQ_SEQ + 1) s

/-! ### Checks (R160, R198, R200, R204, R216, R258) -/

/-- `len` bytes from `a` lie in installed DRAM of one die (R598). -/
def inDram (s : State) (a len : Nat) : Bool :=
  len == 0 || (dieOf a == dieOf (a + len - 1) && installed s a && installed s (a + len - 1))

/-- They lie, besides, in the DRAM region of die `d` (R26). -/
def inDieDram (s : State) (d a len : Nat) : Bool := inDram s a len && (len == 0 || dieOf a == d)

def ifBad (c : Bool) (r : Nat) : List Nat := if c then [r] else []

/-- The address of layer `k`'s fence after a flip. -/
def fenceAddr (s : State) (flip : Nat → Bool) (n k : Nat) : Nat :=
  aft s flip (compB n k) R.COMP_LFENCE_A_LO_ADDR * 8 + aft s flip (compB n k) R.COMP_LFENCE_A_HI_ADDR * 2 ^ 32

/-- A fence address that a flip by `fn` brings fails reason 7: outside the function's segments with read right, or outside
installed DRAM for PF0. -/
def fenceBad (s : State) (n fn : Nat) (flip : Nat → Bool) (k : Nat) : Bool :=
  let b := compB n k
  let ad := fenceAddr s flip n k
  aft s flip b R.COMP_LFENCE_A_LO_FEN == 1
    && (flip (R.COMP_LFENCE_A_LO_FEN.key b 0) || flip (R.COMP_LFENCE_A_LO_ADDR.key b 0) || flip (R.COMP_LFENCE_A_HI_ADDR.key b 0))
    && !(if fn = 0 then inDram s ad 8 else segOk s fn false ad 8)

/-- The checks of R216 on the state after a flip by `fn`; the failing reasons. -/
def stackReasons (s : State) (n fn : Nat) (flip : Nat → Bool) : List Nat :=
  let a := aft s flip
  let sc := fun k => a (compB n k) R.COMP_LSCALER_SCALER
  let w := wAfter s flip n
  let h := hAfter s flip n
  let wbBad := fun (hd : Nat) =>
    let x := surf s 0 hd
    x.empty || (x.fmt != 3 && x.fmt != 4) || x.w < w || x.h < h
  ifBad ((List.range 9).any (fun k => partAfter s flip n k
      && (surf s (tableFn s n k) (a (fetchB n k) R.FETCH_SURF_HANDLE)).empty)) 1
  ++ ifBad ((List.range 9).any (fun k => 2 ≤ a (compB n k) R.COMP_LBLEND_MODE)
      || a (compB n 8) R.COMP_LBLEND_MODE == 1 || (List.range 8).any (fun k => 5 ≤ sc k)) 3
  ++ ifBad ((List.range 8).any (fun k => sc k < 4 && (List.range k).any (fun j => sc j == sc k))) 4
  ++ ifBad ((List.range 8).any (fun k => sc k < 4
      && (a (compB n k) R.COMP_LSTEP_X_STEP < 0x1000 || 0x40000 < a (compB n k) R.COMP_LSTEP_X_STEP
        || a (compB n k) R.COMP_LSTEP_Y_STEP < 0x1000 || 0x20000 < a (compB n k) R.COMP_LSTEP_Y_STEP))) 5
  ++ ifBad ((List.range 9).any (fenceBad s n fn flip)) 7
  ++ ifBad (a (chB n) R.COMP_CTRL_WB_EN == 1
      && (wbBad (a (chB n) R.COMP_WB_SURF_HANDLE0)
        || (a (chB n) R.COMP_CTRL_WB_ALT == 1 && wbBad (a (chB n) R.COMP_WB_SURF_HANDLE1)))) 8
  ++ ifBad ((bitList 5 (a (chB n) R.COMP_UMAP_CFG_BAND_EN)).any (fun b =>
      !inDieDram s (n / 48) (aft s flip (chB n) R.COMP_UMAP_BASE_LO_BASE b + 2 ^ 32 * aft s flip (chB n) R.COMP_UMAP_BASE_HI_BASE b)
        ((h - 1) * (a (chB n) R.COMP_UMAP_CFG_STRIDE * 256) + 4 * w))) 9
  ++ ifBad (fetchBuffer < bufTotal s flip n) 0xB

/-- Width and height limits of a kind (R31). -/
def kindLimits : Kind → Nat × Nat
  | .mirror => (4096, 2400)
  | .scan => (3840, 2400)
  | .matrix => (1024, 512)

/-- The pools of another channel, in effect and pending: base and length (R258, reason 0x10). -/
def poolsOf (s : State) (m : Nat) : List (Nat × Nat) :=
  let eff_ := (fmtAfter s noFlip m).base
  let p := fmtAfter s (fun _ => true) m
  (if rd s (chB m) R.PLANE_POOL_SIZE_SIZE = 0 then [] else [(eff_, rd s (chB m) R.PLANE_POOL_SIZE_SIZE * 65536)])
  ++ (if ((s.chst m).pend.map (·.1) ++ (s.chst m).pre.flatMap (fun p => p.vals.map (·.1))).any
        (fun e => chB m + 0xC00 ≤ e / 32 && e / 32 < chB m + 0xD50) then
      [(p.base, poolBytes (chKind s m) p)] else [])

/-- The checks of R258 on the state after a flip; the failing reasons. -/
def formatReasons (s : State) (n : Nat) (flip : Nat → Bool) : List Nat :=
  let a := aft s flip (chB n)
  let f := fmtAfter s flip n
  let k := chKind s n
  let lim := kindLimits k
  let m := a R.PLANE_DMAT_LO_M + 2 ^ 32 * a R.PLANE_DMAT_HI_M
  let dm := (List.range 16).map (fun i => bits m (4 * i) 4)
  let pb := poolBytes k f
  let pace := a R.PLANE_PACE_PACE
  let lead := max 0x3E8 (rd s (chB n) R.COMP_FLIP_LEAD) * 4000
  ifBad (f.depth == 0 || 12 < f.depth || 2 ≤ a R.PLANE_CFG_DITHER || f.slices.any (fun e => e.1 == 3)) 0xC
  ++ ifBad (lim.1 < f.w || lim.2 < f.h || (k != .mirror && f.blocks != 1) || (k != .scan && f.bidir)) 0xD
  ++ ifBad (k != .scan && (f.slices.any (fun e => f.depth ≤ e.2)
      || f.slices.zipIdx.any (fun e => (f.slices.take e.2).contains e.1))) 0xE
  ++ ifBad (!(List.range 16).all (fun i => dm.contains i)) 0xF
  ++ ifBad (f.frames < 2 || 8 < f.frames || f.base % 65536 != 0 || !inDieDram s (n / 48) f.base pb
      || channels.any (fun c => c != n && (poolsOf s c).any (fun p => p.1 < f.base + pb && f.base < p.1 + p.2))) 0x10
  ++ ifBad (pace == 0 || (k != .scan && lead < f.h * pace)) 0x11
  ++ (match s.grants.find? (fun g => g.tenant == 0 && g.channel == n) with
      | some g => ifBad (g.pool < pb / 65536) 0x12
      | none => [])

/-- Completion code of a reason of R216, R258 and R677. -/
def reasonCode (r : Nat) : Nat :=
  if r = 0xB || r = 0x12 || (0xA0 ≤ r && r ≤ 0xA4) || r = 0xA6 || r = 0xA7 then cCapacity
  else if r = 0xA5 then cQuota
  else cRights

/-! ### The Sluice's part in a flip (R671 to R674) -/

/-- The grants whose demand a flip by `fn` on the channel may change. -/
def grantsFor (s : State) (n fn : Nat) : List Grant := s.grants.filter (fun g => g.channel == n && g.tenant == fn)

/-- The Sluice's checks at the take of a command that flips (R671; the links, R666). -/
def sluiceReasons (s : State) (n fn : Nat) (flip : Nat → Bool) : List Nat :=
  let gs := grantsFor s n fn
  let ln := gs.map (fun g => (g, linkDemand s flip g))
  let tooMuch := ln.any (fun p =>
    let dr := dramDemand s flip p.1
    (p.1.dram < dr && p.1.used < dr)
      || (fn != 0 && p.1.link < sumN p.2 && sumN p.1.usedLink < sumN p.2)
      || (fn == 0 && p.1.port < portDemand s flip n))
  let extraIn := sumN (ln.map (fun p => sumN p.2)) - sumN (ln.map (fun p => sumN p.1.usedLink))
  let d := n / 48
  let inBad := 0 < extraIn && linkCap s d < linkIn s d + extraIn
  let outBad := dies.any (fun e =>
    let more := sumN (ln.map (fun p => p.2.getD e 0)) - sumN (ln.map (fun p => p.1.usedLink.getD e 0))
    0 < more && linkCap s e < linkOut s e + more)
  ifBad (inBad || outBad) 0xA1 ++ ifBad tooMuch 0xA5

/-- What the Sluice answers at a flip instant. -/
inductive Admit where
  /-- The flip may take place. -/
  | ok
  /-- It waits for the next flip instant (R672). -/
  | hold
  /-- It is refused with a reason. -/
  | refuse (r : Nat)
deriving DecidableEq, Repr

/-- Admission of the increases of ELASTIC and SCAVENGE demand that a flip by `fn` brings (R672, R674); a die in throttle
admits no SCAVENGE demand (R737). -/
def admitFlip (s : State) (n fn : Nat) (flip : Nat → Bool) : Admit :=
  let d := n / 48
  let up := (grantsFor s n fn).filter (fun g => g.tenant != 0 && g.used < dramDemand s flip g)
  let el := up.filter (·.cls == 1)
  let more := sumN (el.map (fun g => dramDemand s flip g - g.used))
  if up.any (fun g => g.cls == 2
      && (rdB s hkB R.HK_DIE_THROTTLE d || rd s (slDieB d) R.SLUICE_DIE_IDLE_MBPS < dramDemand s flip g)) then .refuse 0xA7
  else if el != [] && elasticCap s d < elasticTotal s d + more then .hold
  else .ok

/-! ### Taking a commit or a layer update (R209 to R216) -/

/-- The lowest of the failing reasons, 0 when none fails. -/
def lowest (l : List Nat) : Nat := leastD 0 l

/-- The channel has frames that a flip can govern. -/
def isLive (s : State) (n : Nat) : Bool :=
  match s.chState n with
  | .off => false
  | .faulted => false
  | _ => true

/-- The Levee fields (R313): layer 8's fetch and composition registers and COMP_LEVEE_*. -/
def leveeKey (n key : Nat) : Bool :=
  layerOfKey n key == some 8 || (chB n + 0xA9C ≤ key / 32 && key / 32 < chB n + 0xAB0)

/-- The fields a commit request flips. -/
def reqFlips (s : State) (n : Nat) (c : CommitReq) (key : Nat) : Bool :=
  commitFlips s n c.fn key && (!c.levee || leveeKey n key)

/-- The coefficients a commit request flips: those of its function, but in fence mode none of a layer whose fence is armed
(R200, R208). -/
def reqCoefs (s : State) (n : Nat) (c : CommitReq) (q : CoefReq) : Bool :=
  q.fn == c.fn && !c.levee && !(fenceMode s n && fenceArmed s n q.layer)

/-- The coefficients that a flip of layer `k`'s fields by `fn` takes along. -/
def layerCoefs (fn k : Nat) (q : CoefReq) : Bool := q.fn == fn && q.layer == k

/-- BUF_REFUSED and event 0x0305 for a refusal of reason 0x0B (R177, R189): raised when the frame's last line is composed,
or at once on a channel that has no frames. -/
def noteRefusal (n use r : Nat) (s : State) : State :=
  if r != 0xB then s
  else
    let s := wrB (chB n) R.FETCH_STATUS_BUF_REFUSED true s
    if isLive s n then modCh n (fun x => { x with refused := some (x.refused.getD (s.ht, use)) }) s
    else raise 0x0305 n (satU 32 use) s

/-- Event 0x0305 of a refusal that waits (R189). -/
def flushRefused (n : Nat) (s : State) : State :=
  match (s.chst n).refused with
  | some r => raiseAt r.1 0x0305 n (satU 32 r.2) (modCh n (fun x => { x with refused := none }) s)
  | none => s

/-- The lowest reason for which a flip by `fn` of every field of a commit is refused, 0 for none (R216, R258, R671). -/
def commitReason (s : State) (n fn : Nat) (flip : Nat → Bool) : Nat :=
  lowest (stackReasons s n fn flip ++ formatReasons s n flip ++ sluiceReasons s n fn flip)

/-- The lowest reason for which a flip by `fn` of one layer's fields is refused (R216, R671). -/
def layerReason (s : State) (n fn k : Nat) : Nat :=
  lowest (stackReasons s n fn (layerFlips s n fn k) ++ sluiceReasons s n fn (layerFlips s n fn k))

/-- A command is refused for reason `r`. -/
def refuse (n : Nat) (flip : Nat → Bool) (cmd : Option Nat) (r : Nat) (s : State) : State :=
  complete? cmd (reasonCode r) r (noteRefusal n (bufTotal s flip n) r s)

/-- A commit takes effect on a channel that has no frames. -/
def commitNow (n : Nat) (c : CommitReq) (s : State) : State :=
  complete? c.cmd cDone 0 (bumpCseq n (applyFlip n (reqFlips s n c) (reqCoefs s n c) s.ht false s))

/-- A commit is taken (R209, R211, R216, R671): refused for a reason, kept for its flip instant, or on a channel that has
no frames in effect at once, where only a SCAVENGE increase can still be refused (R674). -/
def takeCommit (n : Nat) (c : CommitReq) (s : State) : State :=
  let flip := reqFlips s n c
  let r := commitReason s n c.fn flip
  if r != 0 then refuse n flip c.cmd r s
  else if isLive s n then modCh n (fun x => { x with commits := x.commits ++ [c] }) s
  else
    match admitFlip s n c.fn flip with
    | .refuse r => complete? c.cmd (reasonCode r) r s
    | _ => commitNow n c s

/-- A layer's twelve words, in the order of R650. -/
def updateFields (n k : Nat) : List (List (Nat × Fld)) :=
  let f := fetchB n k
  let c := compB n k
  [[(f, R.FETCH_SURF_HANDLE), (f, R.FETCH_SURF_EN)], [(f, R.FETCH_SRC_POS_X), (f, R.FETCH_SRC_POS_Y)],
   [(f, R.FETCH_SRC_SIZE_W_M1), (f, R.FETCH_SRC_SIZE_H_M1)], [(c, R.COMP_LDST_POS_X), (c, R.COMP_LDST_POS_Y)],
   [(c, R.COMP_LDST_SIZE_W_M1), (c, R.COMP_LDST_SIZE_H_M1)], [(c, R.COMP_LSTEP_X_STEP)], [(c, R.COMP_LSTEP_Y_STEP)],
   [(c, R.COMP_LBLEND_GA), (c, R.COMP_LBLEND_MODE)], [(c, R.COMP_LFENCE_A_LO_FEN), (c, R.COMP_LFENCE_A_LO_ADDR)],
   [(c, R.COMP_LFENCE_A_HI_ADDR)], [(c, R.COMP_LFENCE_T_LO_TARGET)], [(c, R.COMP_LFENCE_T_HI_TARGET)]]

/-- The fields of layer 8 that do not exist there (R237). -/
def absentField (k i : Nat) : Bool := k == 8 && (i == 4 || i == 5 || i == 6)

/-- A reserved bit of a layer update is not 0. -/
def updateReserved (n k : Nat) (ws : List Nat) : Bool :=
  ((updateFields n k).zip ws).any (fun p =>
    p.2 != p.1.foldl (fun a f => a + bits p.2 f.2.lo f.2.w * 2 ^ f.2.lo) 0)

/-- Coefficients of a block of 1792 bytes: 512 horizontal and 384 vertical (R199). -/
def coefBlock (s : State) (a : Nat) : List Int :=
  (List.range 896).map (fun i => sext 16 (loadN s (a + 2 * i) 2))

/-- The block passes R200. -/
def coefFine (l : List Int) : Bool :=
  let sum := fun (i c : Nat) => ((l.drop i).take c).foldl (· + ·) 0
  l.all (fun c => -8192 ≤ c && c ≤ 8191) && (List.range 64).all (fun p => sum (8 * p) 8 == 4096 && sum (512 + 6 * p) 6 == 4096)

/-- Function `fn` writes layer `k`'s twelve words as pending values (R650). -/
def pendLayer (n fn k : Nat) (ws : List Nat) (s : State) : State :=
  each ((updateFields n k).zip ws).zipIdx (fun p s =>
    if absentField k p.2 then s
    else each p.1.1 (fun f s => pendField n fn f.1 f.2 (bits p.1.2 f.2.lo f.2.w) 0 s) s) s

/-- Complete every update of layer `k`, with one code, reason and count (R215). -/
def finishUpdatesWith (n k at_ code detail late : Nat) (s : State) : State :=
  let us := (s.chst n).updates.filter (·.layer == k)
  let s := modCh n (fun x => { x with updates := x.updates.filter (·.layer != k) }) s
  each us (fun u s => match u.cmd with
    | some id => completeAt id code detail at_ late s
    | none => s) s

def finishUpdates (n k at_ code late : Nat) (s : State) : State := finishUpdatesWith n k at_ code 0 late s

/-- A layer's update takes effect on a channel that has no frames. -/
def updateNow (n fn k : Nat) (s : State) : State :=
  finishUpdates n k s.ht cDone 0 (bumpCseq n (applyFlip n (layerFlips s n fn k) (layerCoefs fn k) s.ht false s))

/-- A LAYER_UPDATE of function `fn` for layer `k` is taken; `coef` is the coefficient block's address, `cmd` its ring
command (R206, R212, R216, R650). A command for a layer the function may not write fails reason 2, or reason 1 where the
state it asks for would fail that. In fence mode a later update of the layer governs the earlier ones (R215). -/
def takeUpdate (n fn k : Nat) (ws : List Nat) (coef : Option Nat) (cmd : Option Nat) (s : State) : State :=
  if 9 ≤ k then complete? cmd cRights 2 s
  else if fn != 0 && (k == 8 || layerHolder s n k != fn) then
    let t := pendLayer n fn k ws s
    complete? cmd cRights (if (stackReasons t n fn (layerFlips t n fn k)).contains 1 then 1 else 2) s
  else
    let rsv := updateReserved n k ws
    let s := pendLayer n fn k ws s
    let sc := rd s (compB n k) R.COMP_LSCALER_SCALER
    let coefOk := match coef with
      | none => true
      | some a => a % 64 == 0 && (if fn = 0 then inDram s a 1792 else segOk s fn false a 1792)
          && !poisonedAny s a 1792 && coefFine (coefBlock s a)
    let fm := fenceMode s n
    let flip := if fm then layerFlips s n fn k else commitFlips s n fn
    let r := lowest (stackReasons s n fn flip ++ ifBad rsv 3 ++ ifBad (!coefOk) 6
      ++ (if fm then sluiceReasons s n fn flip else []))
    if r != 0 then refuse n flip cmd r s
    else
      let s := match coef with
        | some a => if k < 8 && sc < 4 then
            let q : CoefReq := { sc, layer := k, fn, l := coefBlock s a }
            let other := fun (c : CoefReq) => !(c.sc == sc && c.layer == k && c.fn == fn)
            modCh n (fun x => { x with coefPend := x.coefPend.filter other ++ [q] }) s
          else s
        | none => s
      if !fm then complete? cmd cDone 0 s
      else
        let arm := rdB s (compB n k) R.COMP_LFENCE_A_LO_FEN
        let s := showLayer n k (modCh n (fun x => { x with
          fences := tset 0 k (if arm then fn + 1 else 0) x.fences
          updates := x.updates.map (fun u => if u.layer = k then { u with free := !arm } else u)
            ++ [{ fn, layer := k, cmd, free := !arm }] }) s)
        if isLive s n || arm then s else updateNow n fn k s

/-! ### A flip instant (R207 to R215, R658, R664) -/

/-- The first frame whose flip instant has come and that has not been flipped (R207). -/
def flipDue (s : State) (n : Nat) : Option Frm :=
  match (s.frmsOf n).find? (fun f => !f.flipped) with
  | some f => if f.bnd ≤ s.ht + max 0x3E8 (rd s (chB n) R.COMP_FLIP_LEAD) * 4000 then some f else none
  | none => none

/-- Frame boundaries at or after a target and before `bnd` that the sequencer has emitted since ARM (R209). -/
def passedBy (s : State) (n target bnd : Nat) : Nat :=
  if target = 0 then 0 else satU 32 (((s.chst n).bounds.filter (fun b => target ≤ b && b < bnd)).length)

/-- A commit has taken effect on an ARMED or RUNNING channel (R63, R211). -/
def noteCommitted (n : Nat) (s : State) : State :=
  match s.chState n with
  | .armed =>
    if rdB s (chB n) R.CH_STATUS_COMMITTED then s
    else modWeir n (fun w => { w with commitAt := s.ht }) (wrB (chB n) R.CH_STATUS_COMMITTED true s)
  | .running => wrB (chB n) R.CH_STATUS_COMMITTED true s
  | _ => s

/-- Raise an event of a frame at most once: `key` names the event among the frame's (R189, R239). -/
def sayOnce (n fno key : Nat) (say : State → State) (s : State) : State :=
  match frameOf s n fno with
  | some f => if f.said.contains key then s else say (modFrm n fno (fun f => { f with said := key :: f.said }) s)
  | none => say s

/-- A commit completes at the flip of the frame at boundary `bnd`; one with target 0 is always DONE (R209, R239). -/
def finishCommit (n bnd fno : Nat) (c : CommitReq) (s : State) : State :=
  let k := passedBy s n c.target bnd
  let deferred := c.target != 0 && (k != 0 || c.held != 0)
  let s := when_ deferred
    (sayOnce n fno 0x401 (raise 0x0401 n (satU 8 (max k c.held) + 65536 * c.fn))) s
  match c.cmd with
  | some id => completeAt id (if deferred then cDeferred else cDone) 0 bnd k s
  | none => s

/-- A holder's admitted ELASTIC demand per weight, as a fraction (R672). -/
def elasticKey (s : State) (n fn : Nat) : Nat × Nat :=
  match (grantsFor s n fn).find? isElastic with
  | some g => (g.used, max 1 g.weight)
  | none => (0, 1)

/-- Insert a commit by ascending admitted ELASTIC demand per weight; those of equal keys keep their order. -/
def insCommit (s : State) (n : Nat) (c : CommitReq) : List CommitReq → List CommitReq
  | [] => [c]
  | d :: t =>
    let a := elasticKey s n c.fn
    let b := elasticKey s n d.fn
    if a.1 * b.2 < b.1 * a.2 then c :: d :: t else d :: insCommit s n c t

/-- One due commit at a flip instant, checked again against the state after its flip: it takes effect, waits, or is
refused. `acc` holds whether anything has flipped. -/
def flipCommit (n bnd fno : Nat) (acc : Bool × State) (c : CommitReq) : Bool × State :=
  let s := acc.2
  let flip := reqFlips s n c
  let r := commitReason s n c.fn flip
  if r != 0 then (acc.1, refuse n flip c.cmd r s)
  else match admitFlip s n c.fn flip with
  | .ok => (true, finishCommit n bnd fno c (noteCommitted n (applyFlip n flip (reqCoefs s n c) bnd true s)))
  | .hold =>
    if rd s sluiceB R.SLUICE_CTRL_DEFER_MAX ≤ c.held then (acc.1, complete? c.cmd cCapacity 0xA6 s)
    else (acc.1, modCh n (fun x => { x with commits := x.commits ++ [{ c with held := c.held + 1 }] }) s)
  | .refuse r => (acc.1, complete? c.cmd (reasonCode r) r s)

/-- What a fence read gives (R213, R214): reached, not reached, or a fault with its cause. -/
def fenceRead (s : State) (n k fn : Nat) : Bool × Nat :=
  let b := compB n k
  let a := rd s b R.COMP_LFENCE_A_LO_ADDR * 8 + rd s b R.COMP_LFENCE_A_HI_ADDR * 2 ^ 32
  let t := rd s b R.COMP_LFENCE_T_LO_TARGET + rd s b R.COMP_LFENCE_T_HI_TARGET * 2 ^ 32
  if !segOk s fn false a 8 then (false, 1)
  else if poisonedAny s a 8 then (false, 2)
  else (t ≤ loadN s a 8, 0)

/-- The latest update of layer `k`, which governs the layer's flip (R215). -/
def lastUpdate (s : State) (n k : Nat) : UpdateReq := (((s.chst n).updates.filter (·.layer == k)).getLast?).getD {}

/-- Change every update of layer `k`. -/
def modUpdates (n k : Nat) (f : UpdateReq → UpdateReq) (s : State) : State :=
  modCh n (fun x => { x with updates := x.updates.map (fun u => if u.layer = k then f u else u) }) s

/-- The layer's fence is disarmed. -/
def disarmFence (n k : Nat) (s : State) : State :=
  showLayer n k (modCh n (fun x => { x with fences := terase k x.fences }) s)

/-- The fields that `fn` has pending for layer `k` come to their flip by a layer update: checked again against the state
after it, they flip and the layer's updates complete, or wait for the Sluice, or are refused; the fields then stay
pending (R212 to R216, R672). -/
def flipLayer (n bnd k fn : Nat) (acc : Bool × State) : Bool × State :=
  let s := acc.2
  let flip := layerFlips s n fn k
  let u := lastUpdate s n k
  let stop := fun (r : Nat) =>
    (acc.1, finishUpdatesWith n k bnd (reasonCode r) r 0 (disarmFence n k (noteRefusal n (bufTotal s flip n) r s)))
  let r := layerReason s n fn k
  if r != 0 then stop r
  else match admitFlip s n fn flip with
  | .ok =>
    let s := disarmFence n k (applyFlip n flip (layerCoefs fn k) bnd true s)
    let s := wr (compB n k) R.COMP_LFLIP_STAT_LATE_RUN 0 (wrB (compB n k) R.COMP_LFLIP_STAT_LATE false s)
    (true, finishUpdates n k bnd (if u.late + u.held = 0 then cDone else cDeferred) (u.late + u.held) s)
  | .hold =>
    if rd s sluiceB R.SLUICE_CTRL_DEFER_MAX ≤ u.held then stop 0xA6
    else (acc.1, modUpdates n k (fun u => { u with held := u.held + 1 }) s)
  | .refuse r => stop r

/-- The fence of layer `k` at a flip instant: read once; the layer flips when it is reached, and is late otherwise (R213,
R214, R239). -/
def flipFence (n bnd fno : Nat) (acc : Bool × State) (k : Nat) : Bool × State :=
  let s := acc.2
  let b := compB n k
  match tget 0 k (s.chst n).fences with
  | 0 => acc
  | fn + 1 =>
    let r := fenceRead s n k fn
    let s := wrB b R.COMP_LFLIP_STAT_FENCE_FAULT (r.2 != 0) s
    let s := when_ (r.2 != 0) (sayOnce n fno (0x40300 + 16 * r.2 + k) (raise 0x0403 n (k + 16 * r.2))) s
    if r.1 then flipLayer n bnd k fn (acc.1, s)
    else
      let s := bump b R.COMP_LLATE_CNT_COUNT (wrB b R.COMP_LFLIP_STAT_LATE true s)
      let s := wr b R.COMP_LFLIP_STAT_LATE_RUN (satU 8 (rd s b R.COMP_LFLIP_STAT_LATE_RUN + 1)) s
      let s := sayOnce n fno (0x40200 + k) (raise 0x0402 n (k + 256 * rd s b R.COMP_LFLIP_STAT_LATE_RUN)) s
      (acc.1, modUpdates n k (fun u => { u with late := u.late + 1 }) s)

/-- A fence-mode update without a fence flips at the next flip instant, as a commit of its own (R211, R212). -/
def flipFree (n bnd : Nat) (acc : Bool × State) (k : Nat) : Bool × State :=
  let u := lastUpdate acc.2 n k
  if (acc.2.chst n).updates.any (fun u => u.layer == k && u.free) then
    let r := flipLayer n bnd k u.fn (false, acc.2)
    (acc.1 || r.1, if r.1 then noteCommitted n r.2 else r.2)
  else acc

/-- Layers that a REVOKE, a replaced GRANT or an FLR takes away leave at the flip instant, and the reservations of
revoked grants are released (R664, R681). -/
def flipLeave (n bnd : Nat) (s : State) : State :=
  let x := s.chst n
  let s := each (bitList 8 x.leave) (fun k s =>
    let s := modCh n (fun x => { x with coef := x.coef.filter (fun e => tget 0 e.1 x.served != k + 1) }) s
    setEf (fetchB n k) R.FETCH_SURF_EN 0 (wr (fetchB n k) R.FETCH_SURF_EN 0 s)) s
  let s := modCh n (fun x => { x with leave := 0, revokes := [], released := [] }) s
  let s := { s with grants := s.grants.filter (fun g => !(g.channel == n && x.released.contains (g.tenant, g.g))) }
  let s := each x.revokes (fun id => completeAt id cDone 0 bnd 0) s
  if x.leave = 0 && x.released = [] then s else each dies refreshDie (refreshDemand n (showEffect n s))

/-- One clip at a flip instant (R658, R659). -/
def flipClip (n bnd fno : Nat) (c : Clip) (s : State) : State :=
  let setH := fun (h : Nat) (s : State) => setEf (fetchB n c.layer) R.FETCH_SURF_HANDLE h s
  let drop := fun (s : State) => modCh n (fun x => { x with clips := x.clips.filter (fun d => d != c) }) s
  let stopped : Bool := match c.stop with
    | some t => decide (t ≤ bnd)
    | none => false
  if stopped then
    let k := passedBy s n (c.stop.getD 0) bnd
    let s := match c.stopCmd with
      | some id => completeAt id (if k = 0 then cDone else cDeferred) 0 bnd k s
      | none => s
    -- a clip stopped before its first frame has shown nothing
    drop (complete? c.cmd cDone 0 s)
  else
    match c.f0 with
    | none =>
      if bnd < c.start || admitFlip s n c.fn noFlip = .hold then s
      else
        let k := passedBy s n c.start bnd
        let s := match c.cmd with
          | some id => completeAt id (if k = 0 then cDone else cDeferred) 0 bnd k s
          | none => s
        let s := modCh n (fun x => { x with
          clips := (x.clips.filter (fun d => !(d.layer == c.layer && d.f0.isSome))).map
            (fun d => if d = c then { d with f0 := some fno, cmd := none } else d) }) s
        refreshDemand n (setH (c.table.getD 0 0) s)
    | some f0 =>
      let i := fno - f0
      let cnt := max 1 c.table.length
      if c.loops != 0 && c.loops * cnt * c.frames ≤ i then refreshDemand n (drop s)
      else setH (c.table.getD (i / max 1 c.frames % cnt) 0) s

/-- The state that governs a frame at boundary `bnd`, taken at its flip instant: what is in effect, with what takes effect
at its boundary; a pre-emption that holds for later frames is not counted (R172, R201, R207, R221, R226, R232). -/
def snapshot (s : State) (n bnd : Nat) : Comp :=
  let x := s.chst n
  let lo := chB n * 32
  let gov := (x.defer.filter (fun d => d.1 ≤ bnd)).foldl (fun t d => putVal t d.2)
    (s.eff.filter (fun e => lo ≤ e.1 && e.1 < lo + 0x4000 * 32))
  { gov, coef := x.coef, cseq := (rd s (chB n) R.COMP_CSEQ_SEQ + 2 ^ 32 - x.pre.length) % 2 ^ 32
    levee := partAfter s noFlip n 8, band := (s.port n).band
    own := ((List.range 8).filter (fun k => layerHolder s n k != 0)).map (fun k => (k, layerHolder s n k)) }

/-- Frame boundaries between RUNNING and a frame (R244). -/
def ditherIndex (s : State) (n : Nat) (f : Frm) : Nat :=
  match s.chState n with
  | .armed => ((s.frmsOf n).filter (fun p => p.fno < f.fno && (s.chst n).armFno ≤ p.fno && runDue s n p.bnd)).length % 16
  | _ => (f.fno - (s.chst n).runFno) % 16

/-- The frame before `fno` in the channel's present run, once it has its state. -/
def frameBefore (s : State) (n fno : Nat) : Option Frm := (s.frmsOf n).find? (fun p => p.fno + 1 == fno && p.flipped && (s.chst n).armFno ≤ p.fno)

/-- The frame takes its number within its plane format; a format other than the frame before's takes effect with it
(R252, R270). -/
def numberFrame (n fno : Nat) (c : Comp) (s : State) : State :=
  let m := fmtBy (fun f i => gv c (chB n) f i)
  let cur := curFmt s n
  if sameFmt m cur then
    modFrm n fno (fun f => { f with fmt := cur.id, g := cur.next })
      (setFmts n ((s.fmtsOf n).dropLast ++ [{ cur with next := cur.next + 1 }]) s)
  else
    modFrm n fno (fun f => { f with fmt := cur.id + 1, g := 0 })
      (modCh n (fun x => { x with fmtDue := x.fmtDue ++ [fno] })
        (setFmts n (s.fmtsOf n ++ [{ m with id := cur.id + 1, next := 1 }]) s))

/-- The strings whose range changes with the frame (R359). -/
def rangeFrame (n fno : Nat) (c : Comp) (s : State) : State :=
  let old := match frameBefore s n fno with
    | some p => gv p.comp (chB n) R.SEQ_RANGE_HIGH
    | none => ef s (chB n) R.SEQ_RANGE_HIGH
  let mask := gv c (chB n) R.SEQ_RANGE_HIGH ^^^ old
  when_ (mask != 0) (modCh n (fun x => { x with rangeDue := tset 0 fno mask x.rangeDue })) s

/-- Brightness of a frame: EFF with the Levee's floor, the step to the floor where the Levee begins to take part below it,
and the fade that starts at the boundary (R227, R228, R420). -/
def brightFrame (n fno bnd : Nat) (c : Comp) (s : State) : State :=
  let level := gv c (chB n) R.COMP_BRIGHT_LEVEL
  let floor := gv c (chB n) R.COMP_LEVEE_CTRL_FLOOR
  let was := match (s.chst n).bright.getLast? with
    | some b => b.2.1
    | none => rd s (chB n) R.COMP_BRIGHT_EFF
  let before := match frameBefore s n fno with
    | some p => p.comp.levee
    | none => false
  let target := if c.levee then max level floor else level
  let step := c.levee && !before && was < floor
  modCh n (fun x => { x with
    bright := x.bright ++ (if step then [(bnd, floor, true)] else [])
      ++ (if target != (if step then floor else was) then [(bnd, target, false)] else []) }) s

/-- The frame's write-back handle, in the alternation that starts at the first frame after WB_ALT is set (R224). -/
def writeBackOf (s : State) (n : Nat) (c : Comp) : Comp :=
  let alt := gv c (chB n) R.COMP_CTRL_WB_ALT == 1
  let i := if alt then (s.chst n).wbAlt % 2 else 0
  { c with
    wbIdx := i
    wb := if gv c (chB n) R.COMP_CTRL_WB_EN = 0 then none
      else some (if i = 1 then gv c (chB n) R.COMP_WB_SURF_HANDLE1 else gv c (chB n) R.COMP_WB_SURF_HANDLE0) }

/-- Composition of a frame begins under the state `comp`, which a flip instant or a pre-emption gives. -/
def beginFrame (n fno : Nat) (comp : Comp) (s : State) : State :=
  match frameOf s n fno with
  | none => s
  | some f =>
    let c := writeBackOf s n comp
    let s := brightFrame n fno f.bnd c (rangeFrame n fno c (numberFrame n fno c s))
    let ph := if chKind s n = .mirror then gv c (chB n) R.PLANE_RESET_PHASE else 0
    let s := modCh n (fun x => { x with wbAlt := if c.wb.isSome then (c.wbIdx + 1) % 2 else c.wbIdx }) s
    let s := modFrm n fno (fun f => { f with
      flipped := true, lines := 0, written := 0, complete := none, dropped := false
      waitLines := 0, waited := false, lineT := [], phase := ph, comp := c
      mDone := 0, mActive := false, mBad := [], mFail := false, dither := ditherIndex s n f }) s
    when_ (s.pipeCh n).down (loseFrame n fno) s

/-- Items of frame `fno` have gone or will never come (R253). -/
def itemsGone (s : State) (n fno : Nat) : Bool :=
  (fno < (s.chst n).armFno || fno + 1 < (s.chst n).nextFno || !isLive s n)
    && !(s.weir n).q.any (fun i => i.fno == fno && i.kind != .mark)

/-- Forget frames that nothing can use any more, and the formats no frame has. -/
def pruneFrames (n : Nat) (s : State) : State :=
  let l := s.frmsOf n
  let keep := fun (f : Frm) => !f.flipped || (f.comp.ended && f.comp.wb.isSome) || !f.comp.ended
    || !(itemsGone s n f.fno && itemsGone s n (f.fno + 1) && l.any (fun p => f.fno + 2 ≤ p.fno && p.flipped))
  let l' := l.filter keep
  setFmts n ((s.fmtsOf n).filter (fun m => m.id == (curFmt s n).id || l'.any (fun f => f.flipped && f.fmt == m.id)))
    (setFrms n l' s)

/-- Items of a frame whose flip instant has passed while the ARMED channel is not due to run at it are discarded
(R373). -/
def discardEarly (n : Nat) (f : Frm) (s : State) : State :=
  if s.chState n = .armed && !runDue s n f.bnd then
    modQ n (·.filter (fun i => i.kind == .mark || i.fno != f.fno)) s
  else s

/-- A commit may flip at boundary `bnd`: in DRAINING not at or after the stop time (R211). -/
def flipsAt (s : State) (n bnd : Nat) : Bool :=
  match s.chState n, (s.seq n).stopT with
  | .draining, some t => bnd < t
  | _, _ => true

/-- What pre-emptions have flipped for a frame at or before boundary `bnd` comes into effect (R232). -/
def flipPre (n bnd : Nat) (live : Bool) (s : State) : State :=
  let due := (s.chst n).pre.filter (fun p => p.h ≤ bnd)
  let s := modCh n (fun x => { x with pre := x.pre.filter (fun p => bnd < p.h) }) s
  each due (fun p s => flipVals n p.vals p.coefs bnd live s) s

/-- FLIP_INSTANT: everything that takes effect at a frame's flip instant, and the start of its composition. -/
def flipInstant (n : Nat) (s : State) : State :=
  match flipDue s n with
  | none => s
  | some f =>
    if !isLive s n || !flipsAt s n f.bnd then s
    else
      let s := flipPre n f.bnd true s
      let x := s.chst n
      let due := (x.commits.filter (fun c => c.target ≤ f.bnd)).foldl (fun l c => insCommit s n c l) []
      let s := modCh n (fun x => { x with commits := x.commits.filter (fun c => f.bnd < c.target) }) s
      let r := due.foldl (flipCommit n f.bnd f.fno) (false, s)
      let r := (List.range 9).foldl (flipFence n f.bnd f.fno) r
      let r := (List.range 9).foldl (flipFree n f.bnd) r
      let s := flipLeave n f.bnd r.2
      let s := each (s.chst n).clips (fun c => flipClip n f.bnd f.fno c) s
      let s := flipsDone n (when_ r.1 (bumpCseq n) s)
      let s := discardEarly n f s
      oxFlip n f.bnd f.fno (pruneFrames n (beginFrame n f.fno (snapshot s n f.bnd) s))

/-- FLIP_INSTANT (R207). -/
def execFlipInstant (n : Fin 192) (s : State) : Host.Outcome State Fault Refusal := run (flipInstant n) s

/-! ### Pre-emption (R232, R272, R361) -/

/-- Fields that PF0 has pending on the channel. -/
def pf0Flips (s : State) (n : Nat) (key : Nat) : Bool := tget 0 key (s.chst n).pend == 1

/-- The state that governs a frame under which a pre-emption flips `vals` and `coefs`: a scaler that comes to another layer
takes the default set (R201, R232). -/
def preemptComp (n : Nat) (vals : List (Nat × Option Nat)) (coefs : List CoefReq) (c : Comp) : Comp :=
  let gov := vals.foldl putVal c.gov
  let d : Comp := { gov, cseq := (c.cseq + 1) % 2 ^ 32, band := c.band, own := c.own }
  let serves := fun (c : Comp) (sc : Nat) => (List.range 8).find? (fun k => gv c (compB n k) R.COMP_LSCALER_SCALER == sc)
  let kept := c.coef.filter (fun e => serves c e.1 == serves d e.1)
  { d with
    levee := gv d (fetchB n 8) R.FETCH_SURF_EN == 1 && gv d (chB n) R.COMP_LEVEE_CTRL_ACTIVE == 1
    coef := (coefs.filter (fun q => serves d q.sc == some q.layer)).foldl (fun t q => tset [] q.sc q.l t) kept }

/-- The formats as they stood before frame `f`: those of the frames before it, numbered on from them. -/
def fmtsBefore (s : State) (n : Nat) (f : Frm) : List Fmt :=
  let p := frameBefore s n f.fno
  let id := (p.map (·.fmt)).getD f.fmt
  let next := match p with
    | some p => p.g + 1
    | none => f.g
  ((s.fmtsOf n).filter (fun m => m.id ≤ id)).map (fun m => if m.id = id then { m with next } else m)

/-- Composition of the frames from F_p on that have begun is abandoned and begins anew, each under the state that governed
it with the pre-emption's fields (R232, R252, R272). -/
def preemptRedo (n fp : Nat) (vals : List (Nat × Option Nat)) (coefs : List CoefReq) (s : State) : State :=
  match (s.frmsOf n).filter (fun f => fp ≤ f.bnd && f.flipped) with
  | [] => s
  | f0 :: rest =>
    let s := setFmts n (fmtsBefore s n f0) s
    let s := modCh n (fun x => { x with
      wbAlt := f0.comp.wbIdx, bright := x.bright.filter (fun b => b.1 < fp), fmtDue := x.fmtDue.filter (· < f0.fno)
      rangeDue := x.rangeDue.filter (fun e => e.1 < f0.fno), mem := x.mem.filter (fun e => e.1 < f0.fno) }) s
    each (f0 :: rest) (fun f s => beginFrame n f.fno (preemptComp n vals coefs f.comp) s) s

/-- F_p is known: event 0x0408, and the items from it on are withdrawn; the ring commands complete. -/
def preemptAt (n fp : Nat) (cmds : List Nat) (s : State) : State :=
  let s := raise 0x0408 n (fp % 2 ^ 32) s
  match cmds with
  | [] => withdraw n 1 fp true none s
  | c :: rest =>
    let s := withdraw n 1 fp true (some c) s
    each rest (fun c => completeAt c cDone 0 fp 0) s

/-- A pre-emption by PF0 (R232): its pending fields flip for F_p and every later frame. Where frames before F_p have still
to take their state, or F_p is not yet emitted, the fields are kept until F_p's own flip instant; otherwise they are in
effect at once and composition from F_p on begins anew. Like a commit it is checked, and refused whole (R216). -/
def preempt (n : Nat) (cmd : Option Nat) (s : State) : State :=
  if s.chState n != .running then takeCommit n { fn := 0, target := 0, cmd } s
  else
    let r := commitReason s n 0 (pf0Flips s n)
    if r != 0 then refuse n (pf0Flips s n) cmd r s
    else
      let h := s.ht + rd s (chB n) R.COMP_FLIP_PREEMPT_LEAD * us
      let target := (s.frmsOf n).find? (fun f => h ≤ f.bnd)
      let t := takePending n (pf0Flips s n) (fun q => q.fn == 0) s
      let s := each (List.range 9) (showLayer n) (bumpCseq n t.2.2)
      let wait := target.isNone || (s.frmsOf n).any (fun f => !f.flipped && f.bnd < h)
      let s := if wait then modCh n (fun x => { x with pre := x.pre ++ [{ h, vals := t.1, coefs := t.2.1 }] }) s
        else match target with
          | some f => preemptRedo n f.bnd t.1 t.2.1 (flipsDone n (flipVals n t.1 t.2.1 f.bnd true s))
          | none => s
      match target with
      | some f => preemptAt n f.bnd cmd.toList s
      | none => modCh n (fun x => { x with preempt := some (match x.preempt with
          | some p => (p.1, p.2 ++ cmd.toList)
          | none => (h, cmd.toList)) }) s

/-- PREEMPT (R232). -/
def execPreempt (n : Fin 192) (s : State) : Host.Outcome State Fault Refusal := run (preempt n none) s

/-- The sequencer emits a frame mark that a waiting pre-emption takes as F_p. -/
def preemptMark (n bnd : Nat) (s : State) : State :=
  match (s.chst n).preempt with
  | some (h, cmds) => if h ≤ bnd then preemptAt n bnd cmds (modCh n (fun x => { x with preempt := none }) s) else s
  | none => s

/-! ### The end of a channel's frames (R211) -/

/-- The channel reaches OFF or FAULTED: the commits that waited take effect at once, and nothing remains of frames not
composed (R63, R211). -/
def flushCommits (n : Nat) (s : State) : State :=
  let x := s.chst n
  let s := modCh n (fun x => { x with
    commits := [], preempt := none, bounds := [], defer := [], bright := [], fmtDue := [], rangeDue := [], darkFrom := none, rangeFrom := none
    darkOk := false, rangeOk := false, rangeMask := 0 }) s
  -- what waited for a boundary takes effect
  let s := { s with eff := x.defer.foldl (fun t d => putVal t d.2) s.eff }
  let old := curFmt s n
  let s := flipPre n (2 ^ 64) false s
  let s := when_ (x.pre != []) (fun s => flipsDone n (formatAtOnce n old s)) s
  let s := each x.commits (commitNow n) s
  let s := each ((List.range 9).filter (fun k => x.updates.any (fun u => u.free && u.layer == k))) (fun k s =>
    updateNow n (lastUpdate s n k).fn k s) s
  let s := match x.preempt with
    | some p => each p.2 (fun id => complete id cDone 0) s
    | none => s
  let s := flipLeave n s.ht s
  let s := wrB (chB n) R.PLANE_STATUS_FMT_DARK false (wrB (chB n) R.SEQ_RANGE_STAT_RANGE_DARK false s)
  setFrms n ((s.frmsOf n).filter (fun f => f.flipped && f.complete.isSome)) s

/-! ### Dark intervals' end (R270, R359 to R361, R444) -/

/-- The open intervals that began together end together (R361). -/
def fmtMayEnd (s : State) (n : Nat) : Bool :=
  let x := s.chst n
  x.darkOk && (x.rangeFrom == none || x.rangeFirst != x.darkFirst || (x.rangeOk && rangesAcked s n))
def rangeMayEnd (s : State) (n : Nat) : Bool :=
  let x := s.chst n
  x.rangeOk && rangesAcked s n && (x.darkFrom == none || x.rangeFirst != x.darkFirst || x.darkOk)

/-- FORMAT_DARK_END: at the frame boundary after enough dark planes the picture returns. -/
def formatDarkEnd (n : Nat) (s : State) : State :=
  if !fmtMayEnd s n then s
  else
    let s := raise 0x0505 n (satU 6 (s.chst n).darkN) (wrB (chB n) R.PLANE_STATUS_FMT_DARK false s)
    modCh n (fun x => { x with darkFrom := none, darkOk := false }) s

/-- FORMAT_DARK_END (R270). -/
def execFormatDarkEnd (n : Fin 192) (s : State) : Host.Outcome State Fault Refusal := run (formatDarkEnd n) s

/-- RANGE_DARK_END: the range dark interval ends after its dark planes and every acknowledgement. -/
def rangeDarkEnd (n : Nat) (s : State) : State :=
  if !rangeMayEnd s n then s
  else
    let c := if chKind s n = .scan then 0 else satU 6 (s.chst n).rangeN
    let s := raise 0x060E n c (wrB (chB n) R.SEQ_RANGE_STAT_RANGE_DARK false s)
    modCh n (fun x => { x with rangeFrom := none, rangeOk := false, rangeMask := 0 }) s

/-- RANGE_DARK_END (R444). -/
def execRangeDarkEnd (n : Fin 192) (s : State) : Host.Outcome State Fault Refusal := run (rangeDarkEnd n) s

/-! ### Registers with a step of their own -/

/-- The counters of R238 and every COMP_LLATE_CNT. -/
def compCounters : List Fld :=
  [R.COMP_WB_INC_CNT_COUNT, R.COMP_LEVEE_MISS_CNT_COUNT, R.COMP_UMAP_FALLBACK_CNT_COUNT, R.COMP_FROZEN_CNT_COUNT]

/-- COMP_CNT_CLR. -/
def compCntClr (n : Nat) (s : State) : State :=
  each (List.range 9) (fun k => resetFlds (compB n k) [R.COMP_LLATE_CNT_COUNT]) (resetFlds (chB n) compCounters s)

/-- COMP_CNT_CLR (R238). -/
def execCompCntClr (n : Fin 192) (s : State) : Host.Outcome State Fault Refusal := run (compCntClr n) s

/-- The counters of R273. -/
def planeCounters : List Fld := [R.PLANE_VIOL_CNT_COUNT, R.PLANE_DRIFT_CNT_COUNT, R.PLANE_POOLWAIT_CNT_COUNT]

/-- PLANE_CNT_CLR (R273). -/
def execPlaneCntClr (n : Fin 192) (s : State) : Host.Outcome State Fault Refusal :=
  run (resetFlds (chB n) planeCounters) s

/-- An access to COMP_LUT_DATA: `w` is the value written, none for a read; a write to a bank in effect or pending
leaves the table and is rejected; every access to an entry advances the index (R219, R238, R845). -/
def lutAccess (n : Nat) (w : Option Nat) (s : State) : State :=
  let b := chB n
  let e := rd s b R.COMP_LUT_IDX_ENTRY
  let p := rd s b R.COMP_LUT_IDX_PRI
  let bank := rd s b R.COMP_LUT_IDX_BANK
  if 1024 < e || p = 3 then
    match w with
    | some _ => s
    | none => emitOut (.readData 0 (leBytes 4 0)) s
  else
    let s := match w with
      | none => emitOut (.readData 0 (leBytes 4 (lutAt s n bank p e))) s
      | some v =>
        if ef s b R.COMP_CTRL_LUT_BANK = bank || rd s b R.COMP_CTRL_LUT_BANK = bank then
          wrB b R.CH_STATUS_WRITE_REJECTED true s
        else { s with luts := tset (lutDef e) (lutKey n bank p e) (v % 65536) s.luts }
    if e = 1024 then wr b R.COMP_LUT_IDX_ENTRY 0 (wr b R.COMP_LUT_IDX_PRI (p + 1) s)
    else wr b R.COMP_LUT_IDX_ENTRY (e + 1) s

/-- COMP_LUT_DATA_ACCESS (R845). -/
def execCompLutDataAccess (n : Fin 192) (w : Option Nat) (s : State) : Host.Outcome State Fault Refusal :=
  run (lutAccess n w) s

/-- The Levee is active, in effect or pending (R229, R231). -/
def leveeActive (s : State) (n : Nat) : Bool :=
  ef s (chB n) R.COMP_LEVEE_CTRL_ACTIVE == 1 || rd s (chB n) R.COMP_LEVEE_CTRL_ACTIVE == 1

/-- A write of COMP_BRIGHT.LEVEL by PF0 or, through its channel view, by the sequencer's owner (R206, R229). -/
def brightWrite (fn n v : Nat) (s : State) : State :=
  if fn != 0 && seqOwner s n != fn then s
  else
    let s := pendField n fn (chB n) R.COMP_BRIGHT_LEVEL v 0 s
    let floor := rd s (chB n) R.COMP_LEVEE_CTRL_FLOOR
    let w := s.weir n
    -- the event comes once in a frame (R239)
    let said := w.curAny && (s.chst n).clampAt = w.curFno + 1
    when_ (leveeActive s n && v % 65536 < floor) (fun s =>
      when_ (!said) (raise 0x0409 n (v % 65536 + 65536 * floor))
        (modCh n (fun x => { x with clampAt := w.curFno + 1 }) (wrB (chB n) R.COMP_STATUS_BRIGHT_CLAMPED true s))) s

/-- COMP_BRIGHT_WRITE (R229). -/
def execCompBrightWrite (fn : Fin 257) (n : Fin 192) (v : Nat) (s : State) : Host.Outcome State Fault Refusal :=
  run (brightWrite fn n v) s

end Sys2Proof.Machine
end

