-- ==== Sys2Proof/Machine/SeqCore.lean ====
section
/-!
DEFINITION. The sequencer of a channel around its instructions: program banks, entries and swaps
(spec/07_vilti_isa.md R277, R325 to R330; spec/08_sequence_programs.md R354 to R357), the emission of items, frame
marks and gaps (R278, R279, R338 to R353), and its stop (R363).
-/

namespace Sys2Proof.Machine
open Sys2Proof

/-! ### Program memory and descriptors (R275, R297) -/

/-- Active bank. -/
def seqBank (s : State) (n : Nat) : Nat := rd s (chB n) R.SEQ_STATUS_BANK

/-- Instruction `i` of a bank. -/
def progAt (s : State) (n b i : Nat) : Nat := tget 0 ((2 * n + b) * 4096 + i) s.prog

/-- 32-bit word `w` of a bank's descriptor half. -/
def descrWord (s : State) (n b w : Nat) : Nat := tget 0 ((2 * n + b) * 4096 + w) s.descr

def setDescrWord (n b w v : Nat) (s : State) : State :=
  { s with descr := tset 0 ((2 * n + b) * 4096 + w) (v % 2 ^ 32) s.descr }

/-- The 64 bits of descriptor `d` (R296). -/
def descrAt (s : State) (n b d : Nat) : Nat := descrWord s n b (2 * d) + 2 ^ 32 * descrWord s n b (2 * d + 1)

def bankCount (s : State) (n b : Nat) : Nat := rd s (chB n) R.SEQ_BSIZE_COUNT b

def verified (s : State) (n b : Nat) : Bool :=
  if b = 0 then rdB s (chB n) R.SEQ_STATUS_VERIFIED0 else rdB s (chB n) R.SEQ_STATUS_VERIFIED1

def setVerified (n b : Nat) (v : Bool) (s : State) : State :=
  if b = 0 then wrB (chB n) R.SEQ_STATUS_VERIFIED0 v s else wrB (chB n) R.SEQ_STATUS_VERIFIED1 v s

/-- The image a bank holds, with its descriptors as they stand (R367). -/
def bankImage (s : State) (n b : Nat) : Image :=
  let c := bankCount s n b
  let dc := rd s (chB n) R.SEQ_BSIZE_DCOUNT b
  { count := c, entry := rd s (chB n) R.SEQ_BENTRY_ENTRY b, x2 := rd s (chB n) R.SEQ_BFALL_ENTRY_X2 b
    x1 := rd s (chB n) R.SEQ_BFALL_ENTRY_X1 b, dcount := dc, crc := rd s (chB n) R.SEQ_BCRC_CRC b
    words := (List.range c).map (progAt s n b), body := (List.range dc).map (descrAt s n b) }

/-- The head and the format that the static checks use (R366). -/
def headInfo (s : State) (n : Nat) : Option HeadInfo :=
  if identified s n then
    some { strings := headStrings s n, tmin := headTmin s n, ts := headTs s n, tfs := headTfs s n }
  else none
def fmtInfo (s : State) (n : Nat) : FmtInfo :=
  { h := outH s n, blocks := outBlocks s n, phi := phase s n
    pris := if chKind s n = .scan then [] else (List.range (sliceN s n)).map (slicePri s n) }

/-! ### Entries (R354 to R357) -/

/-- Width that an entry was declared for. -/
def entryWidth (code : Nat) : Nat := if code = 0 then 4 else if code = 1 then 2 else 1

/-- The entry for the width in effect: its code and its index. -/
def entryFor (s : State) (n b : Nat) : Nat × Nat :=
  let e := rd s (chB n) R.SEQ_BENTRY_ENTRY b
  let x2 := rd s (chB n) R.SEQ_BFALL_ENTRY_X2 b
  let x1 := rd s (chB n) R.SEQ_BFALL_ENTRY_X1 b
  let two := if x2 = 0xFFFF then (0, e) else (1, x2)
  match (s.port n).lastW with
  | 1 => if x1 = 0xFFFF then two else (2, x1)
  | 2 => two
  | _ => (0, e)

/-- SEQ_WIDTH.WIDER_ENTRY. -/
def showWider (n : Nat) (s : State) : State :=
  let w := (s.port n).lastW
  wrB (chB n) R.SEQ_WIDTH_WIDER_ENTRY (w != 0 && w < entryWidth (rd s (chB n) R.SEQ_WIDTH_ENTRY)) s

/-- The sequencer starts or restarts at the entry for the width, in the state of R277 with the given TC. -/
def enterBank (n tc : Nat) (s : State) : State :=
  let e := entryFor s n (seqBank s n)
  let s := wrB (chB n) R.SEQ_STATUS_HALTED false (wrB (chB n) R.SEQ_STATUS_WAITING false s)
  let s := wrB (chB n) R.SEQ_WIDTH_SWITCH_PENDING false (wr (chB n) R.SEQ_WIDTH_ENTRY e.1 s)
  showWider n (modSeq n (fun q => { q with
    run := .ready, pc := e.2, S := [], tc, dx := 0, z := false, n := false, c := false, t := false, stack := []
    insns := 0, reqs := [], held := none }) s)

/-- The channel is ARMED, RUNNING or DRAINING: its sequencer runs. -/
def seqLive (s : State) (n : Nat) : Bool := isLive s n

/-- The port's width changes (R355): the registers that show it, and a pending switch of the sequencer. -/
def setWidth (n w : Nat) (s : State) : State :=
  let s := wr (chB n) R.SEQ_WIDTH_WIDTH w (wr (ephyB n) R.EPHY_STATUS_WIDTH w s)
  if w = 0 || w = (s.port n).lastW then s
  else
    let s := showWider n (modPort n (fun p => { p with lastW := w }) s)
    when_ (seqLive s n && (s.seq n).run != .halted) (wrB (chB n) R.SEQ_WIDTH_SWITCH_PENDING true) s

/-! ### Swaps (R327 to R329) -/

/-- A pending swap takes effect: the other bank becomes active; `deferred` frame boundaries were missed. -/
def swapEffect (n : Nat) (deferred : Nat) (bnd : Option Nat) (s : State) : State :=
  let b := 1 - seqBank s n
  let cmd := (s.seq n).swap.bind (·.cmd)
  let s := modSeq n (fun q => { q with swap := none, marks := [] }) s
  let s := wr (chB n) R.SEQ_STATUS_BANK b (wrB (chB n) R.SEQ_STATUS_SWAP_PENDING false s)
  let s := raise 0x0604 n (b + 256 * satU 8 deferred) (wrB (chB n) R.SEQ_STATUS_HALTED false s)
  match cmd with
  | some id => completeAt id (if deferred = 0 then cDone else cDeferred) 0 (bnd.getD s.ht) deferred s
  | none => s

/-- A pending swap takes effect at once when the channel enters OFF or FAULTED (R329). -/
def swapAtOnce (n : Nat) (s : State) : State :=
  if (s.seq n).swap.isSome then swapEffect n 0 none s else s

/-! ### The frame of a program (R342, R348, R351) -/

/-- The run-ahead window in ticks (R110, R341). -/
def window (s : State) (n : Nat) : Nat :=
  min (max 1 (min 8 (rd s (chB n) R.SEQ_RUNAHEAD_FRAMES)) * fperiod s n) 4000000000

/-- A frame of the program ends at its next frame mark. -/
def frameEnd (n : Nat) (s : State) : State :=
  let q := s.seq n
  let s := wr (chB n) R.SEQ_SLOTS_USED (satU 16 q.counted) s
  let s := when_ (q.sampleDrop.n != 0)
    (raiseAt q.sampleDrop.stamp 0x060A n (q.sampleDrop.arg % 8 + 256 * satU 8 q.sampleDrop.n)) s
  let s := when_ (chKind s n = .matrix && q.swaps = 0)
    (fun s => raise 0x060F n 0 (bump (chB n) R.SEQ_SWAPERR_CNT_COUNT s)) s
  s

/-- A frame mark is emitted at `t` (R307, R338). -/
def emitMark (n t : Nat) (s : State) : State :=
  let s := if (s.seq n).lastF.isSome then frameEnd n s else s
  let fno := (s.chst n).nextFno
  let s := modSeq n (fun q => { q with
    lastF := some t, marks := q.marks ++ [t], counted := 0, overLimit := false, samples := 0, sampleDrop := {}
    violRaised := 0, swaps := 0, offGrid := 0 }) s
  let s := modCh n (fun x => { x with nextFno := fno + 1, bounds := x.bounds ++ [t] }) s
  let s := setFrms n (s.frmsOf n ++ [{ fno, bnd := t }]) s
  let s := wr (chB n) R.SEQ_FRAME_LO_HT (t % 2 ^ 32) (wr (chB n) R.SEQ_FRAME_HI_HT (t / 2 ^ 32) s)
  let s := bump (chB n) R.SEQ_FRAME_CNT_COUNT s
  preemptMark n t (markTaken n fno (takeItem n { kind := .mark, t, frame := t, fno } (oxMark n t s)))

/-- At a FRAME instruction's mark, a pending swap and a pending width switch take effect, in one restart
(R328, R355, R356). -/
def frameRestart (n f : Nat) (s : State) : State :=
  let q := s.seq n
  let doSwap : Bool := match q.swap with
    | some w => w.target ≤ f
    | none => false
  let sw := rdB s (chB n) R.SEQ_WIDTH_SWITCH_PENDING
  if !doSwap && !sw then s
  else
    let missed := match q.swap with
      | some w => if w.target = 0 then 0 else ((q.marks.dropLast).filter (w.target ≤ ·)).length
      | none => 0
    let s := when_ doSwap (swapEffect n missed (some f)) s
    let s := enterBank n f s
    when_ sw (fun s =>
      raise 0x0608 n ((s.port n).lastW + 8 * rd s (chB n) R.SEQ_WIDTH_ENTRY
          + 32 * rd s (chB n) R.SEQ_WIDTH_WIDER_ENTRY)
        (bump (chB n) R.SEQ_SWITCH_CNT_COUNT s)) s

/-! ### Gaps (R352, R353) -/

/-- A gap is dropped: counted, with event 0x060B. -/
def dropGap (n : Nat) (g : Gap) (s : State) : State :=
  raise 0x060B n (g.t % 2 ^ 32) (bump (chB n) R.SEQ_GAP_DROP_CNT_COUNT s)

/-- An item or mark with launch time `t` has been emitted: gaps that end at or before it are decided. -/
def decideGaps (n t : Nat) (s : State) : State :=
  let due := (s.seq n).gaps.filter (fun g => !g.offered && g.e ≤ t)
  let s := modSeq n (fun q => { q with
    gaps := (q.gaps.filter (fun g => (g.offered && s.ht < g.e) || (!g.offered && (t < g.e || g.ok)))).map
      (fun g => if !g.offered && g.e ≤ t then { g with offered := true } else g) }) s
  each (due.filter (fun g => !g.ok)) (dropGap n) s

/-- An emitted item stands against the undecided gaps that it falls into: one with a launch time inside, or a plane
whose interval, counted to its last block, overlaps. -/
def spoilGaps (n : Nat) (it : Item) (s : State) : State :=
  let bad := it.kind == .line || it.kind == .swap || (it.kind == .lamp && it.amp != 0)
  if it.kind = .plane then
    let e := planeEndOf s n it
    modSeq n (fun q => { q with
      planeEnd := max q.planeEnd e
      gaps := q.gaps.map (fun g => if it.t < g.e && g.t < e then { g with ok := false } else g) }) s
  else if bad then
    modSeq n (fun q => { q with
      lastBad := some it.t
      gaps := q.gaps.map (fun g => if g.t ≤ it.t && it.t < g.e then { g with ok := false } else g) }) s
  else s

/-- GAP_START_UNDECIDED: a gap still undecided at its start is dropped (R353). -/
def gapStart (n : Nat) (s : State) : State :=
  match (s.seq n).gaps.find? (fun g => !g.offered && g.t ≤ s.ht) with
  | none => s
  | some g => dropGap n g (modSeq n (fun q => { q with gaps := q.gaps.filter (fun x => x != g) }) s)

/-- GAP_START_UNDECIDED (R353). -/
def execGapStartUndecided (n : Fin 192) (s : State) : Host.Outcome State Fault Refusal := run (gapStart n) s

/-! ### Timing of planes on a string (R268, R269, R344) -/

/-- The earliest start that R268 allows a plane of amplitude `amp` after an earlier one of the same string, whose block 0
ends at `e`: `before` its amplitude, 0 when the string has turned off since (R344). -/
def sameString (s : State) (n e before amp : Nat) : Nat :=
  if before = amp then e else e + spread s n + settle (headTs s n) (headTfs s n) before amp

/-- The amplitude that string `str` comes from: that of its last plane, 0 when it has turned off (R344). -/
def cameFrom (s : State) (n str : Nat) : Nat :=
  let q := s.seq n
  match q.prevs.find? (·.1 == str) with
  | none => 0
  | some (_, e, amp, off) =>
    let last : Bool := match q.prevPlane with
      | some (_, _, p, _) => p == str
      | none => false
    if off != 0 || (last && !q.prevNext && e + spread s n ≤ s.ht) then 0 else amp

/-- The lowest failing cause of R269 for a plane of duration `dur` ns at `t`, and the ticks by which it falls short. A
plane of a DARK descriptor has no amplitude level. -/
def planeCause (s : State) (n str t amp dur pri : Nat) (dark : Bool) : Nat × Nat :=
  let q := s.seq n
  let fno := (s.chst n).nextFno - 1
  let lv := tget [] (fno * 4 + pri) (s.weir n).levels
  let fifth := !dark && amp != 0 && !lv.contains amp && 4 ≤ lv.length
  let tmin := headTmin s n
  let own := match q.prevs.find? (·.1 == str) with
    | some (_, e, _, _) => sameString s n e (cameFrom s n str) amp
    | none => 0
  let other := match q.prevPlane with
    | some (_, e, p, _) => if p = str then 0 else e + spread s n + settle (headTs s n) (headTfs s n) 0 amp
    | none => 0
  let end_ := match q.prevPlane with
    | some (_, e, _, _) => e
    | none => 0
  let need := max own other
  if t < end_ then (1, end_ - t) else if t < need then (2, need - t)
  else if 4 * dur < tmin then (3, tmin - 4 * dur) else if fifth then (4, 0) else (0, 0)

/-- Set whether string `k` has turned off since its last plane. -/
def setOff (k off : Nat) (l : Tbl (Nat × Nat × Nat)) : Tbl (Nat × Nat × Nat) :=
  l.map (fun e => if e.1 = k then (e.1, e.2.1, e.2.2.1, off) else e)

/-- What the emission of an item on string `str` (none for a GAP) means for the strings: the last plane's string turns off
when this is the first item after it and not its own, and a LAMP brings its string back (R343, R344). -/
def notePrev (n : Nat) (str : Option Nat) (s : State) : State :=
  modSeq n (fun q =>
    let gone := match q.prevPlane with
      | some (_, _, p, _) => if !q.prevNext && str != some p then setOff p 1 q.prevs else q.prevs
      | none => q.prevs
    { q with
      prevs := match str with
        | some k => setOff k 0 gone
        | none => gone
      prevNext := true }) s

/-- A plane's timing is checked and its string and levels noted; a failing plane becomes the dark plane, at the program's
amplitude, or for cause 4 at the string's previous one. -/
def checkPlane (n : Nat) (it : Item) (s : State) : Item × State :=
  let pri := itemPri s n it
  let c := planeCause s n it.str it.t it.amp it.dur pri it.dark
  let amp := if c.1 = 4 then cameFrom s n it.str else it.amp
  let s := notePrev n (some it.str) s
  let s := modSeq n (fun q => { q with
    prevs := tset (0, 0, 2) it.str (it.t + 4 * it.dur, amp, 0) q.prevs
    prevPlane := some (it.t, it.t + 4 * it.dur, it.str, amp), prevNext := false }) s
  let s := when_ (!it.dark && c.1 != 4 && it.amp != 0) (modWeir n (fun w =>
    let key := it.fno * 4 + pri
    let l := tget [] key w.levels
    if l.contains it.amp then w
    else { w with levels := tset [] key (l.filter (it.amp < ·) ++ it.amp :: l.filter (· < it.amp)) w.levels })) s
  if c.1 = 0 then (it, s)
  else
    let s := bump (chB n) R.PLANE_VIOL_CNT_COUNT s
    let s := if bitOf (s.seq n).violRaised c.1 then s
      else raise 0x0503 n (c.1 + 16 * (it.idx % 64) + 65536 * satU 16 (c.2 / 4))
        (modSeq n (fun q => { q with violRaised := setBit q.violRaised c.1 true }) s)
    ({ it with dark := true, amp, arg := c.1 }, s)

/-! ### Sample requests (R303, R348) -/

/-- Attach the pending request of the item's string to it; a LINE takes that of the lowest-numbered string. -/
def attachSample (n : Nat) (it : Item) (s : State) : Item × State :=
  let q := s.seq n
  let req := if it.kind = .line then
      (List.range 8).findSome? (fun k => q.reqs.find? (·.1 == k))
    else q.reqs.find? (·.1 == it.str)
  match req with
  | none => (it, s)
  | some (k, kind, ofs) =>
    let s := modSeq n (fun q => { q with reqs := q.reqs.filter (·.1 != k) }) s
    if 32 ≤ q.samples then
      let s := bump (chB n) R.SEQ_SAMPLE_DROP_CNT_COUNT s
      (it, modSeq n (fun q => { q with sampleDrop :=
        if q.sampleDrop.n = 0 then { n := 1, stamp := s.ht, arg := k }
        else { q.sampleDrop with n := q.sampleDrop.n + 1 } }) s)
    else
      let ofs := if it.kind = .plane && it.dur ≤ ofs then it.dur - 1 else ofs
      ({ it with smp := some { kind, ofs }, str := if it.kind = .line then k else it.str },
        modSeq n (fun q => { q with samples := q.samples + 1 }) s)

/-! ### The scan grid (R350) -/

/-- Distance of HT `t` from the nearest sweep start of the grid, in 1/256 tick; none with no grid. With BIDIR only
sweeps of the row's parity count. -/
def gridDistance (s : State) (n t row : Nat) : Option Nat :=
  let m := tget ({} : MoveSt) n s.moves
  if !rdB s (chB n) R.MOVE_STATUS_GRID || m.gridP = 0 then none
  else
    let bidir := ef s (chB n) R.PLANE_CFG_BIDIR == 1
    let p := if bidir then 2 * m.gridP else m.gridP
    let ph := if bidir then m.gridPh + row % 2 * m.gridP else m.gridPh
    let d := (256 * t + p - ph % p) % p
    some (min d (p - d))

/-- A LINE is off the grid: it is launched dark, counted, and reported once in the frame. -/
def checkLine (n : Nat) (it : Item) (s : State) : Item × State :=
  let d := gridDistance s n it.t it.idx
  let off : Bool := match d with
    | some x => 256 * rd s (chB n) R.SEQ_SCAN_TOL_TOL < x
    | none => true
  if !off then (it, s)
  else
    let s := bump (chB n) R.SEQ_OFFGRID_CNT_COUNT s
    let s := if (s.seq n).offGrid != 0 then s
      else raise 0x0609 n (it.idx % 4096 + 65536 * (match d with
        | some x => satU 16 (x / 1024)
        | none => 0xFFFF)) s
    ({ it with dark := true }, modSeq n (fun q => { q with offGrid := q.offGrid + 1 }) s)

/-! ### Privileged operations at emission (R310 to R313) -/

/-- CEIL takes its string's ceiling for items at or after `tc`. -/
def addCeil (n k v tc : Nat) (s : State) : State :=
  modSeq n (fun q =>
    let own := q.ceils.filter (·.2.1 == k)
    let past := (own.filter (·.1 ≤ s.ht)).getLast?
    { q with ceils := q.ceils.filter (·.2.1 != k) ++ past.toList ++ own.filter (s.ht < ·.1) ++ [(tc, k, v)] }) s

/-- What a privileged instruction `w` does when it passes to the Weir at `tc`; `v` is its value operand. -/
def privEffect (n w v tc : Nat) (s : State) : State :=
  let op := opcode w
  if op = 0x28 then addCeil n (iStr w) v tc s
  else if op = 0x29 then modLamp n (fun l => { l with holdReqs := l.holdReqs ++ [(false, tc)] }) s
  else if op = 0x2A then
    if bits w 0 2 = 0 then takeCommit n { fn := 0, target := tc, levee := true } s
    else if bits w 0 2 = 1 then preempt n none s
    else takeCommit n { fn := 0, target := tc, levee := true } (pendField n 0 (chB n) R.COMP_LEVEE_CTRL_ACTIVE 0 0 s)
  else if op = 0x2B then
    modWeir n (fun x => { x with waves := x.waves ++ [(tc, if bitOf w 4 then 16 else bits w 0 4)] }) s
  else if op = 0x2C then
    if bits w 16 4 = 3 then modLamp n (fun l => { l with holdReqs := l.holdReqs ++ [(true, tc)] }) s
    else queueProg n (bits w 20 4) (bits w 16 4) (bits w 0 8) tc s
  else s

/-! ### Emission (R278, R279, R342, R363, R371) -/

/-- The sequencer's stop time is known: items from it on are withdrawn (R64, R363). -/
def stopFix (n t : Nat) (s : State) : State :=
  withdraw n 2 t false none (modSeq n (fun q => { q with stopT := some t, stopReq := none }) s)

/-- The sequencer stops without emitting (R363). -/
def seqHalt (n : Nat) (s : State) : State :=
  wrB (chB n) R.SEQ_STATUS_WAITING false (modSeq n (fun q => { q with run := .stopped, held := none }) s)

/-- The interval of a plane whose descriptor has DARK set is offered to calibration as a gap (R346). -/
def offerDark (n : Nat) (it : Item) (s : State) : State :=
  when_ (it.kind = .plane && it.dark && it.arg = 0)
    (modSeq n (fun q => { q with gaps := q.gaps ++ [{ t := it.t, e := planeEndOf s n it, offered := true, plane := some (it.str, it.amp) }] })) s

/-- A counted item passes: R342's limit, then the Weir. -/
def emitCounted (n : Nat) (e : Emit) (s : State) : State :=
  let q := s.seq n
  let it := e.item
  let it := { it with frame := q.lastF.getD 0, fno := (s.chst n).nextFno - 1 }
  let lim := rd s (chB n) R.SEQ_SLOTS_LIMIT
  let second := it.kind == .swap && q.swaps != 0
  let s := when_ (it.kind = .swap) (modSeq n (fun q => { q with swaps := q.swaps + 1 })) s
  if second then
    if q.swaps = 1 then raise 0x060F n 1 (bump (chB n) R.SEQ_SWAPERR_CNT_COUNT s) else s
  else if (slotLimit s n).isSome && (q.overLimit || lim ≤ q.counted) then
    let s := bump (chB n) R.SEQ_SLOT_DROP_CNT_COUNT s
    let s := if q.overLimit then s else raise 0x060C n lim s
    modSeq n (fun q => { q with overLimit := true }) s
  else
    let s := modSeq n (fun q => { q with counted := q.counted + 1 }) s
    let s := when_ (it.kind = .swap) (modFrm n it.fno (fun f => { f with swapT := some it.t })) s
    let r := if it.kind = .plane || it.kind = .line || it.kind = .lamp then attachSample n it s else (it, s)
    let r := if it.kind = .plane then
        checkPlane n r.1 r.2
      else if it.kind = .line then checkLine n r.1 r.2
      else r
    let s := spoilGaps n r.1 r.2
    let s := when_ (it.kind = .lamp) (notePrev n (some it.str)) s
    -- an expired item is not launched; a LEVEE PREEMPT acts at execution (R313, R372)
    let acts := !expiredAt s n it || (opcode it.arg == 0x2A && bits it.arg 0 2 == 1)
    let s := offerDark n r.1 (takeItem n r.1 s)
    if it.kind = .priv && acts then privEffect n it.arg it.amp it.t s else s

/-- The item of an emission leaves the sequencer. -/
def emitNow (n : Nat) (e : Emit) (s : State) : State :=
  let it := e.item
  let s := wrB (chB n) R.SEQ_STATUS_WAITING false (modSeq n (fun q => { q with
    run := .ready, held := none, insns := 0, lastT := it.t, pc := e.pc, tc := e.tc, dx := e.dx }) s)
  let s := decideGaps n it.t s
  match e.gap with
  | some g =>
    let s := notePrev n none (noteGap n s)
    modSeq n (fun q => { q with gaps := q.gaps ++
      [{ t := it.t, e := g, ok := q.planeEnd ≤ it.t && q.lastBad != some it.t }] }) s
  | none =>
    if it.kind = .mark then
      let s := emitMark n it.t s
      if e.op = 0x22 then frameRestart n it.t s else s
    else emitCounted n e s

/-- An emission is made: the state at a frame mark is kept for a hard substitution, and while the spare's first items are
discarded only its sequencer moves on (R759). -/
def doEmit (n : Nat) (e : Emit) (s : State) : State :=
  let p := s.pipeCh n
  if p.skip != 0 then
    let q := s.seq n
    let t := emitNow n e s
    setPipeCh n { p with skip := p.skip - 1 }
      (modSeq n (fun x => { x with gaps := q.gaps, ceils := q.ceils }) { s with seqs := t.seqs })
  else
    let s := emitNow n e s
    if e.gap.isNone && e.item.kind == .mark then setPipeCh n { s.pipeCh n with copy := s.seq n, since := 0 } s
    else setPipeCh n { s.pipeCh n with since := (s.pipeCh n).since + 1 } s

/-- An emission waits for its window and for the queue, unless the sequencer stops at it. -/
def tryEmit (n : Nat) (e : Emit) (s : State) : State :=
  let t := e.item.t
  let s := match (s.seq n).stopReq with
    | some r => if e.item.kind = .mark && r ≤ t && s.chState n = .draining then stopFix n t s else s
    | none => s
  let stop : Bool := match s.chState n, (s.seq n).stopT with
    | .draining, some x => decide (x ≤ t)
    | _, _ => false
  if stop then seqHalt n s
  else if s.ht + window s n < t then
    wrB (chB n) R.SEQ_STATUS_WAITING true (modSeq n (fun q => { q with run := .window, held := some e }) s)
  else if e.gap.isNone && queueFull s n then
    wrB (chB n) R.SEQ_STATUS_WAITING true (modSeq n (fun q => { q with run := .full, held := some e }) s)
  else doEmit n e s

/-- EMIT_WINDOW_OPEN: the launch time of the waiting emission has come within the window (R278). -/
def emitWindowOpen (n : Nat) (s : State) : State :=
  match (s.seq n).run, (s.seq n).held with
  | .window, some e => tryEmit n e s
  | _, _ => s

/-- EMIT_WINDOW_OPEN (R278). -/
def execEmitWindowOpen (n : Fin 192) (s : State) : Host.Outcome State Fault Refusal := run (emitWindowOpen n) s

/-- SEQ_QUEUE_RESUME: a launch-queue entry is free and the waiting emission passes (R371). -/
def seqQueueResume (n : Nat) (s : State) : State :=
  match (s.seq n).run, (s.seq n).held with
  | .full, some e => tryEmit n e s
  | _, _ => s

/-- SEQ_QUEUE_RESUME (R371). -/
def execSeqQueueResume (n : Fin 192) (s : State) : Host.Outcome State Fault Refusal := run (seqQueueResume n) s

/-! ### Start at ARM (R277, R338) and at a swap of a halted sequencer (R329) -/

/-- The frame mark that a start emits at its TC before the entry instruction. -/
def startMark (n tc : Nat) (s : State) : State :=
  tryEmit n { item := { kind := .mark, t := tc }, pc := (s.seq n).pc, tc } s

/-- The channel is armed: its sequencer starts. -/
def seqStart (n : Nat) (s : State) : State :=
  let tc := max (rdPair s (chB n) R.CH_START_LO_HT R.CH_START_HI_HT) s.ht
  let q := s.seq n
  let s := setSeq n { owner := q.owner, swap := q.swap } s
  let s := modCh n (fun x => { x with bounds := [], armFno := x.nextFno, runFno := x.nextFno }) s
  startMark n tc (enterBank n tc s)

/-- A swap is requested by function `fn` with a target (R327 to R329). -/
def requestSwap (n fn target : Nat) (cmd : Option Nat) (s : State) : State :=
  let q := s.seq n
  let r := if !verified s n (1 - seqBank s n) then 1 else if q.swap.isSome then 2
    else if fn != 0 && leveeActive s n then 0xA else 0
  if r != 0 then
    let s := raise 0x0605 n r (wrB (chB n) R.SEQ_STATUS_SWAP_REJECTED true s)
    complete? cmd (if r = 2 then cCapacity else cRights) r s
  else
    let s := modSeq n (fun q => { q with swap := some { target, cmd } }) s
    if !seqLive s n then swapEffect n 0 none s
    else if q.run = .halted then
      let tc := max q.tc s.ht
      let s := enterBank n tc (swapEffect n 0 none s)
      if q.lastF = some tc then s else startMark n tc s
    else wrB (chB n) R.SEQ_STATUS_SWAP_PENDING true s

/-- SEQ_SWAP_REQUEST: a write of SEQ_CTRL.SWAP with target SEQ_SWAP_T (R327). -/
def execSeqSwapRequest (n : Fin 192) (s : State) : Host.Outcome State Fault Refusal :=
  run (fun s => requestSwap n 0 (rdPair s (chB n) R.SEQ_SWAP_T_LO_T R.SEQ_SWAP_T_HI_T) none s) s

/-! ### Counters -/

/-- SEQ_CNT_CLR (R335). -/
def execSeqCntClr (n : Fin 192) (s : State) : Host.Outcome State Fault Refusal :=
  run (resetFlds (chB n) [R.SEQ_FAULT_CNT_COUNT]) s

/-- The counters of R368. -/
def seqCounters : List Fld :=
  [R.SEQ_FRAME_CNT_COUNT, R.SEQ_SWITCH_CNT_COUNT, R.SEQ_SLOT_DROP_CNT_COUNT, R.SEQ_SAMPLE_DROP_CNT_COUNT,
   R.SEQ_GAP_DROP_CNT_COUNT, R.SEQ_OFFGRID_CNT_COUNT, R.SEQ_SWAPERR_CNT_COUNT]

/-- SEQ_XCNT_CLR (R368). -/
def execSeqXcntClr (n : Fin 192) (s : State) : Host.Outcome State Fault Refusal :=
  run (resetFlds (chB n) seqCounters) s

/-! ### The checks at ARM (R367) -/

/-- The static checks of the active bank repeated at ARM; a failure makes the bank unverified. -/
def armRecheck (n : Nat) (s : State) : State :=
  let b := seqBank s n
  if !verified s n b then s
  else
    let r := lowest (staticReasons (headInfo s n) (fmtInfo s n) (bankImage s n b))
    if r = 0 then s
    else raise 0x0607 n r (wr (chB n) R.SEQ_LOADCHK_REASON r (setVerified n b false s))

end Sys2Proof.Machine
end

