-- ==== Sys2Proof/Machine/Chan.lean ====
section
/-!
DEFINITION. Channel states (spec/02_modes_power_hold.md R62 to R73; spec/09_weir_launch.md R404): the changes of state
that other units bring about, the commands of CH_CTRL but CLEAR and RESET, and the end of DRAINING. With them the
sequencer's fault (spec/07_vilti_isa.md R331), which faults its channel.
-/

namespace Sys2Proof.Machine
open Sys2Proof

/-- The channel takes a state: CH_STATUS.STATE, event 0x0110 and the rill (R62, R104, R446). -/
def setChState (n : Nat) (x : ChState) (s : State) : State :=
  let old := rd s (chB n) R.CH_STATUS_STATE
  let s := bumpSnap (wr (chB n) R.CH_STATUS_STATE x.code s)
  let cause := if x = .faulted then rd s (chB n) R.CH_STATUS_FAULT else 0
  let s := refreshSafeDark n (raise 0x0110 n (x.code + 256 * old + 65536 * cause) s)
  when_ (old == ChState.running.code) (calLeft n) s

/-- What is left of a channel's run when it has come to OFF or FAULTED (R62, R211, R329, R585): the sequencer stopped,
the launch queue empty, waiting commits and a pending swap in effect, and, where `park`, the head sent PARK. -/
def idleChannel (n : Nat) (park : Bool) (s : State) : State :=
  let s := modSeq n (fun q => { q with run := .stopped, held := none, stopT := none, stopReq := none, gaps := [] }) s
  let s := swapAtOnce n (wrB (chB n) R.SEQ_STATUS_WAITING false s)
  let s := modWeir n (fun w => { w with
    q := [], bufs := [], openPlane := none, openGap := false, lampCur := [], lampDrv := [], strCur := [], curAny := false
    parkSent := false, ceilDue := false }) s
  let s := each (List.range 6) (fun k => modStr n k (fun x => { x with rangeWait := 0, govern := [] })) s
  let s := flushRefused n (oxAbandon n (flushCommits n s))
  when_ park (sendPark n) s

/-- The frame in progress ends with the channel (R407). -/
def endLast (n : Nat) (s : State) : State :=
  if (s.weir n).curAny then endFrame n (s.weir n).curFno s else s

def closeLast (n : Nat) (s : State) : State :=
  if (s.weir n).curAny then closeFrame n (s.weir n).curFno s else s

/-- A channel comes to OFF. -/
def toOff (n : Nat) (park : Bool) (s : State) : State := idleChannel n park (setChState n .off s)

/-- A fault cause of R72 arises: from ARMED, RUNNING or DRAINING the channel enters FAULTED, its items withdrawn; the
entry to TRIPPED reaches a FAULTED channel too (R53, R63, R396). -/
def chFault (n cause : Nat) (s : State) : State :=
  let go := fun (s : State) =>
    setChState n .faulted (wr (chB n) R.CH_STATUS_FAULT cause s)
  match s.chState n with
  | .off => s
  | .faulted => if cause = 6 then go s else s
  | _ =>
    let s := withdraw n 3 s.ht false none (closeLast n s)
    idleChannel n true (go s)

/-- A fault of the sequencer (R331, R332). -/
def seqFault (n code : Nat) (s : State) : State :=
  let q := s.seq n
  let b := chB n
  let bank := seqBank s n
  let s := wr b R.SEQ_STATUS_FAULT code s
  let s := wr b R.SEQ_FAULT_INFO_PC q.pc (wr b R.SEQ_FAULT_INFO_BANK bank s)
  let s := wr b R.SEQ_FAULT_INSN_WORD (progAt s n bank q.pc) s
  let s := wr b R.SEQ_FAULT_TC_LO_TC (q.tc % 2 ^ 32) (wr b R.SEQ_FAULT_TC_HI_TC (q.tc / 2 ^ 32) s)
  let s := raise 0x0601 n (code + 256 * (q.pc % 4096) + 2 ^ 20 * bank) (bump b R.SEQ_FAULT_CNT_COUNT s)
  chFault n 3 (modSeq n (fun q => { q with run := .stopped }) s)

/-! ### ARM (R65, R367, R676, R791) -/

def cmdIgnored (n : Nat) (s : State) : State := wrB (chB n) R.CH_STATUS_CMD_IGNORED true s

/-- The channel is held by the management agent (R791). -/
def isHeld (s : State) (n : Nat) : Bool := bitOf (rd s mgtB R.MGT_HOLD_HOLD (n / 32)) (n % 32)

/-- Condition 1 of R65. -/
def armMode (s : State) : Bool :=
  (match s.mode with
    | .service => true | .show_ => true | .degraded => true | _ => false)
  && !(rdB s hubB R.HUB_MODE_REQ_PENDING && rd s hubB R.HUB_MODE_TARGET == 0)

/-- Condition 2 of R65: R34 does not keep the channel in OFF. -/
def armKind (s : State) (n : Nat) : Bool :=
  rd s (chB n) R.CH_KIND_HEAD_KIND != 3 && !rdB s (chB n) R.CH_KIND_KIND_MISMATCH

/-- Condition 6 of R65: while the die's OVER is 1, the RESERVED total of grants on channels that run, with those of this
channel, stays within the RESERVED capacity (R676). -/
def armAdmitted (s : State) (n : Nat) : Bool :=
  let d := n / 48
  !rdB s (slDieB d) R.SLUICE_DIE_STATUS_OVER
    || sumN (((grantsOn s d).filter (fun g => isReserved g && (g.channel == n || isLive s g.channel))).map (·.dram))
        ≤ resCap s d

/-- The first unmet condition of R65, 0 when every one holds. -/
def armReason (s : State) (n : Nat) : Nat :=
  if !armMode s then 1
  else if !armKind s n then 2
  else if !verified s n (seqBank s n) then 3
  else if !(linkTrained s n && rdB s (dieB (n / 48)) R.HUB_DIE_STATUS_READY) then 4
  else if !htValid s then 5
  else if !armAdmitted s n then 6
  else 0

/-- The channel is armed. -/
def armChannel (n : Nat) (s : State) : State :=
  let s := wrB (chB n) R.CH_STATUS_COMMITTED false (setChState n .armed s)
  let s := modWeir n (fun w => { w with
    commitAt := 0, litFrom := 2 ^ 63, curAny := false, parkSent := false, late := [], miss := [], expired := [],
    edgeLate := [], down := [], factor := [], facLim := [], corrs := [], levels := [], drift := [], driftSkip := [], slackOf := [],
    driftBad := false, slack := none, ceilDue := false }) s
  let s := modCh n (fun x => { x with mem := [], clampAt := 0 }) s
  let s := if s.fmtsOf n = [] then setFmts n [effFmt s n] s else s
  seqStart n (armBypass n s)

/-- CH_ARM: `mgmt` for an ARM written by the management agent, which clears a hold (R63, R65, R70, R791). -/
def chArm (mgmt : Bool) (n : Nat) (s : State) : State :=
  if s.chState n != .off || (isHeld s n && !mgmt) then cmdIgnored n s
  else
    let s := if isHeld s n then
        refreshOvr (bumpSnap (wr mgtB R.MGT_HOLD_HOLD (setBit (rd s mgtB R.MGT_HOLD_HOLD (n / 32)) (n % 32) false) s (n / 32)))
      else s
    let s := if armMode s && armKind s n then armRecheck n s else s
    let r := armReason s n
    if r != 0 then raise 0x0111 n r (wr (chB n) R.CH_STATUS_ARM_REJECT r s)
    else armChannel n s

/-- CH_ARM (R65). -/
def execChArm (mgmt : Bool) (n : Fin 192) (s : State) : Host.Outcome State Fault Refusal := run (chArm mgmt n) s

/-! ### DISARM and STOP (R63, R64, R70) -/

def disarm (n : Nat) (s : State) : State := toOff n true s

/-- CH_DISARM: an ARMED channel returns to OFF. -/
def chDisarm (n : Nat) (s : State) : State :=
  if s.chState n = .armed then disarm n s else cmdIgnored n s

/-- CH_DISARM (R63). -/
def execChDisarm (n : Fin 192) (s : State) : Host.Outcome State Fault Refusal := run (chDisarm n) s

/-- A RUNNING channel drains: its stop time is the frame boundary at or after `r`, or the next one when `r` is past. -/
def drain (n r : Nat) (s : State) : State :=
  let r := max r (s.ht + 1)
  let s := setChState n .draining s
  let waiting := ((s.seq n).held.filter (fun e => e.item.kind == .mark)).map (·.item.t)
  match ((s.chst n).bounds ++ waiting.toList).find? (r ≤ ·) with
  | some t =>
    let s := stopFix n t s
    match (s.seq n).held with
    | some e => if t ≤ e.item.t then seqHalt n s else s
    | none => s
  | none => modSeq n (fun q => { q with stopReq := some r }) s

/-- CH_STOP: a RUNNING channel drains at CH_STOP. -/
def chStop (n : Nat) (s : State) : State :=
  if s.chState n = .running then drain n (rdPair s (chB n) R.CH_STOP_LO_HT R.CH_STOP_HI_HT) s else cmdIgnored n s

/-- CH_STOP (R64). -/
def execChStop (n : Fin 192) (s : State) : Host.Outcome State Fault Refusal := run (chStop n) s

/-! ### RUNNING (R54, R63, R66, R445) -/

/-- CHANNEL_RUNNING: the ARMED channel's frame boundary at or after CH_START that follows a completed commit comes. -/
def channelRunning (n : Nat) (s : State) : State :=
  match s.chState n, (s.weir n).q.find? (·.kind == .mark) with
  | .armed, some m =>
    if !(runDue s n m.t && pinPassed s n m.t s.ht) || s.hub.noRelease then s
    else
      let s := modQ n (·.dropWhile (fun i => i.kind != .mark)) s
      let s := modWeir n (fun w => { w with runFrame := m.t, litFrom := 2 ^ 63 }) s
      let s := modCh n (fun x => { x with runFno := m.fno }) s
      let c := modeCeil s
      let s := modLamp n (fun l => { l with fadeC := { l.fadeC with v0 := c, v1 := c, active := false } }) s
      let s := each (strings s n) (fun k s => modStr n k (fun x => { x with rangeWait := bitMask (driversOf s n k) }) s) s
      let s := each (List.range (rillLen s n)) (fun i s =>
        queueOwn n i (if bitOf (ef s (chB n) R.SEQ_RANGE_HIGH) (drvString s n i) then 2 else 1) 0 15 s) s
      setChState n .running s
  | _, _ => s

/-- CHANNEL_RUNNING (R63). -/
def execChannelRunning (n : Fin 192) (s : State) : Host.Outcome State Fault Refusal := run (channelRunning n) s

/-! ### The end of DRAINING (R63, R404) -/

/-- Every item before the stop time has launched and its last interval has ended. -/
def drained (s : State) (n : Nat) : Bool :=
  let w := s.weir n
  (w.q.all (fun i => i.kind == .mark)) && w.openPlane.isNone
    && (match (s.seq n).stopT with
        | some t => t ≤ s.ht || (s.seq n).run == .stopped
        | none => false)

/-- DRAIN_COMPLETE: PARK is sent once every item has launched; its acknowledgement brings the channel to OFF. -/
def drainComplete (n : Nat) (s : State) : State :=
  if s.chState n != .draining || !drained s n || (s.weir n).parkSent then s
  else sendPark n (modWeir n (fun w => { w with parkSent := true }) s)

/-- The acknowledgement of DRAINING's PARK (R63). -/
def drainAcked (n : Nat) (s : State) : State :=
  if s.chState n = .draining && (s.weir n).parkSent && (s.port n).parkDone then toOff n false (endLast n s) else s

/-- DRAIN_COMPLETE (R404). -/
def execDrainComplete (n : Fin 192) (s : State) : Host.Outcome State Fault Refusal :=
  run (fun s => drainAcked n (if linkTrained s n then drainComplete n s else s)) s

/-- DRAIN_TIMEOUT: 10 ms after the stop time without acknowledgement (R63). -/
def drainTimeout (n : Nat) (s : State) : State :=
  match s.chState n, (s.seq n).stopT with
  | .draining, some t => if t + 10 * ms ≤ s.ht then toOff n true (endLast n s) else s
  | _, _ => s

/-- DRAIN_TIMEOUT (R63). -/
def execDrainTimeout (n : Fin 192) (s : State) : Host.Outcome State Fault Refusal := run (drainTimeout n) s

end Sys2Proof.Machine
end

