-- ==== Sys2Proof/Machine/Slots.lean ====
section
/-!
DEFINITION. What lies under the loop engines (spec/11_loop_engines.md): the logical cores and the memories of their
slots (R454, R458), the core time of a slot (R461), the head schedules of a channel (spec/14_ehriz_protocol_heads.md
R575), and the conversion of an actuator's value (R471).
-/

namespace Sys2Proof.Machine
open Sys2Proof

/-! ### Cores (R454) -/

/-- The logical core of a slot, as `64 d + c`. -/
def coreOf (k : Nat) : Nat := k / 8

def State.core (s : State) (c : Nat) : CoreSt := tget {} c s.cores
def setCore (c : Nat) (x : CoreSt) (s : State) : State := { s with cores := tset {} c x s.cores }
def modCore (c : Nat) (f : CoreSt → CoreSt) (s : State) : State := setCore c (f (s.core c)) s

/-- The register block of logical core `64 d + c`. -/
def crB (c : Nat) : Nat := coreB (c / 64) (c % 64)

/-- The physical core that serves a logical core, if any. -/
def servedBy (s : State) (c : Nat) : Option Nat :=
  match tget 0 c s.serve with
  | 0 => some (c % 64)
  | p + 1 => if p + 1 = 128 then none else some p

/-- The logical core of die `d` that physical core `p` serves, as `64 d + c`. -/
def logicalOf (s : State) (d p : Nat) : Option Nat :=
  ((List.range 64).map (64 * d + ·)).find? (fun c => servedBy s c == some p)

/-- Physical core `p` of die `d` is retired. -/
def isRetired (s : State) (d p : Nat) : Bool := tget 0 (68 * d + p) s.retired == 1

/-- A spare serves a logical core, or a migration copies to it. -/
def spareUsed (s : State) (d p : Nat) : Bool :=
  (logicalOf s d p).isSome || s.cores.any (fun e => e.1 / 64 == d && e.2.migTo.any (·.1 == p))

/-- The lowest-numbered free spare of a die (R491). -/
def freeSpare (s : State) (d : Nat) : Option Nat :=
  [64, 65, 66, 67].find? (fun p => !isRetired s d p && !spareUsed s d p)

/-- The slots of a logical core. -/
def slotsOfCore (c : Nat) : List Nat := (List.range 8).map (8 * c + ·)

/-! ### Program and data memory (R458) -/

def winSize (s : State) (k : Nat) : Nat := rd s (slB k) R.LOOP_SLOT_WIN_DSIZE
def winKey (s : State) (k w : Nat) : Nat := 512 * coreOf k + rd s (slB k) R.LOOP_SLOT_WIN_DBASE + w
/-- Word `w` of the slot's data window. -/
def winWord (s : State) (k w : Nat) : Nat := tget 0 (winKey s k w) s.ldata
def setWinWord (k w v : Nat) (s : State) : State :=
  { s with ldata := tset 0 (winKey s k w) (v % 2 ^ 32) s.ldata }

/-- Write the image's initial data words, and 0 beyond them (R458). -/
def loadWindow (k : Nat) (s : State) : State :=
  each (List.range (winSize s k)) (fun w s => setWinWord k w ((s.slot k).init.getD w 0) s) s

/-- Instruction `i` of the slot's code. -/
def loopWord (s : State) (k i : Nat) : Nat :=
  tget 0 (1024 * coreOf k + rd s (slB k) R.LOOP_SLOT_IMG_CODE_BASE + i) s.lprog

/-! ### Core time (R461) -/

/-- Sum of core times in instructions/s, as a fraction, over (BUDGET, P) pairs. -/
def coreTime (l : List (Nat × Nat)) : Nat × Nat :=
  l.foldl (fun a x => (a.1 * x.2 + x.1 * 4000000000 * a.2, a.2 * x.2)) (0, 1)

/-- Budget and period of the active slots of a logical core. -/
def activeTimes (s : State) (c : Nat) : List (Nat × Nat) :=
  ((slotsOfCore c).filter (slotActive s)).map (fun k => (rd s (slB k) R.LOOP_SLOT_BUDGET_BUDGET, max 1 (s.slot k).per))

/-- The registers that show a core's use (R496). -/
def refreshCore (c : Nat) (s : State) : State :=
  let used := (slotsOfCore c).filter (fun k => s.slotState k != .idle)
  let t := coreTime (activeTimes s c)
  let s := wr (crB c) R.LOOP_CORE_STAT_SLOTS used.length s
  let s := wr (crB c) R.LOOP_CORE_MEM_CODE_USED ((used.map (fun k => rd s (slB k) R.LOOP_SLOT_IMG_COUNT)).foldl (· + ·) 0) s
  let s := wr (crB c) R.LOOP_CORE_MEM_DATA_USED ((used.map (winSize s)).foldl (· + ·) 0) s
  wr (crB c) R.LOOP_CORE_LOAD_ADMITTED (satU 16 (ceilDiv t.1 (1000000 * t.2))) s

/-! ### Head schedules (R575) -/

/-- MASK bits that an input needs (R578). -/
def needBit (src arg : Nat) : Option Nat :=
  match src with
  | 3 => some 16
  | 4 => some (arg % 16)
  | 7 => some 17
  | 0xB => some 18
  | 0xC => some 19
  | 0xD => some 20
  | _ => none

/-- The tick measurements a slot needs, as a MASK. -/
def needMask (s : State) (k : Nat) : Nat :=
  bitMask ((List.range 16).filterMap (fun i => needBit (inSrc s k i) (inArg s k i))).dedup

/-- Period and phase with their MASK for a list of slots, one entry a pair. -/
def wanted (s : State) (l : List Nat) : List (Nat × Nat × Nat) :=
  l.foldl (fun acc k =>
    let x := s.slot k
    let m := needMask s k
    if m = 0 then acc
    else if acc.any (fun e => e.1 == x.per && e.2.1 == x.phi) then
      acc.map (fun e => if e.1 = x.per ∧ e.2.1 = x.phi then (e.1, e.2.1, e.2.2 ||| m) else e)
    else acc ++ [(x.per, x.phi, m)]) []

/-- Put a pair into the first unused of the eight places. -/
def putSched (e : Nat × Nat × Nat) : List (Nat × Nat × Nat) → List (Nat × Nat × Nat)
  | [] => []
  | x :: t => if x.1 = 0 then e :: t else x :: putSched e t

/-- The schedules the channel's active slots need; a pair keeps its place. -/
def newScheds (s : State) (n : Nat) : List (Nat × Nat × Nat) :=
  let want := wanted s ((slotsOf s n).filter (slotActive s))
  let old := ((s.port n).scheds ++ List.replicate 8 (0, 0, 0)).take 8
  let kept := old.map (fun o => (want.find? (fun e => e.1 == o.1 && e.2.1 == o.2.1)).getD (0, 0, 0))
  (want.filter (fun e => !(kept.any (fun o => o.1 == e.1 && o.2.1 == e.2.1)))).foldl (fun l e => putSched e l) kept

/-- Schedule of a slot, if it has one. -/
def schedOf (s : State) (n k : Nat) : Option Nat :=
  (s.port n).scheds.findIdx? (fun e => e.1 == (s.slot k).per && e.2.1 == (s.slot k).phi && e.1 != 0)

/-- Take the schedules anew and write those that changed to an identified head; a slot that is left without one raises
event 0x0C09. -/
def refreshScheds (n : Nat) (fresh : Option Nat) (s : State) : State :=
  if 192 ≤ n then s
  else
    let old := ((s.port n).scheds ++ List.replicate 8 (0, 0, 0)).take 8
    let new := newScheds s n
    let s := modPort n (fun p => { p with scheds := new }) s
    let s := wr (chB n) R.EPROT_STATUS_SCHED (bitMask ((List.range 8).filter (fun j => (new.getD j (0, 0, 0)).1 != 0))) s
    let s := each (List.range 8) (fun j s =>
      let e := new.getD j (0, 0, 0)
      if e = old.getD j (0, 0, 0) || !identified s n then s
      else writeHead n (0x148 + 16 * j) e.2.2 (writeHead n (0x144 + 16 * j) e.2.1 (writeHead n (0x140 + 16 * j) e.1 s))) s
    match fresh with
    | some k => if needMask s k != 0 && (schedOf s n k).isNone then raise 0x0C09 n k s else s
    | none => s

/-! ### Conversion of an actuator's value (R471) -/

/-- The converted value of `v` for a destination: registers and head registers in their own units, the level factor in
2^-26, the sweep grid in 1/256 tick; a period below its least value is 0. -/
def convert (dst v : Nat) : Int :=
  match dst with
  | 1 => fFix v 1 14 0x3000 0x5000
  | 2 => fFix v 1 14 0 0x8000
  | 3 => fFix v 1 26 (2 ^ 23) (2 ^ 28)
  | 4 => fFix v 32767 0 (-32767) 32767
  | 5 => if fLt v (fOfInt 1000000) then 0 else fFix v 1 0 0 (2 ^ 32 - 1)
  | 6 => fFix v 1 0 (-(2 ^ 62)) (2 ^ 62)
  | 7 => fFix v 65535 0 0 65535
  | 8 => fFix v 1 4 16000 960000
  | 9 => if fLt v (fOfInt 40000) then 0 else fFix v 1 8 0 (2 ^ 40 - 1)
  | 10 => fFix v 1 8 0 (2 ^ 40 - 1)
  | _ => v

/-- CORR of a level factor in 2^-26 (R471). -/
def corrFor (lam : Nat) : Nat := max 0x2000 (min 0x8000 ((2 ^ 41 + lam) / (2 * max 1 lam)))

end Sys2Proof.Machine
end

