-- ==== Sys2Proof/Machine/Motion.lean ====
section
/-!
DEFINITION. Wheels and scan mirrors (spec/12_wheels_scan_mirrors.md): their states, speed and amplitude profiles, the
index prediction and the sweep grid, and the interlocks, as every unit that touches them sees them.
-/

namespace Sys2Proof.Machine
open Sys2Proof

def State.move (s : State) (n : Nat) : MoveSt := tget {} n s.moves
def setMove (n : Nat) (x : MoveSt) (s : State) : State := { s with moves := tset {} n x s.moves }
def modMove (n : Nat) (f : MoveSt → MoveSt) (s : State) : State := setMove n (f (s.move n)) s

/-! ### States (R502, R510) -/

/-- Wheel states, as MOVE_STATUS.WSTATE codes them. -/
inductive WState where
  | off | unknown | stopped | ramp | locked | rundown | coast
deriving DecidableEq, Repr

def WState.code : WState → Nat
  | .off => 0 | .unknown => 1 | .stopped => 2 | .ramp => 3 | .locked => 4 | .rundown => 5 | .coast => 6
def WState.ofCode : Nat → WState
  | 0 => .off | 1 => .unknown | 2 => .stopped | 3 => .ramp | 4 => .locked | 5 => .rundown | _ => .coast

/-- Scan-mirror states, as MOVE_STATUS.SSTATE codes them. -/
inductive SState where
  | off | unknown | stopped | sweep | locking | locked | rundown
deriving DecidableEq, Repr

def SState.code : SState → Nat
  | .off => 0 | .unknown => 1 | .stopped => 2 | .sweep => 3 | .locking => 4 | .locked => 5 | .rundown => 6
def SState.ofCode : Nat → SState
  | 0 => .off | 1 => .unknown | 2 => .stopped | 3 => .sweep | 4 => .locking | 5 => .locked | _ => .rundown

def State.wst (s : State) (n : Nat) : WState := WState.ofCode (rd s (chB n) R.MOVE_STATUS_WSTATE)
def State.sst (s : State) (n : Nat) : SState := SState.ofCode (rd s (chB n) R.MOVE_STATUS_SSTATE)

/-- The slot number of the channel's wheel slot and of its scan slot (R501). -/
def wheelSlot (s : State) (n : Nat) : Nat := 512 * (n / 48) + rd s (chB n) R.MOVE_WHEEL_CFG_SLOT
def scanSlot (s : State) (n : Nat) : Nat := 512 * (n / 48) + rd s (chB n) R.MOVE_SCAN_CFG_SLOT

/-! ### Profiles (R503, R510) -/

/-- The value of a profile at HT `t`. -/
def Profile.value (p : Profile) (t : Nat) : Nat :=
  let e := t - p.at_
  if p.v0 ≤ p.target then min p.target (p.v0 + p.up * e) else max p.target (p.v0 - p.down * e)

/-- 1 while it rises, -1 while it falls, 0 while it holds. -/
def Profile.dir (p : Profile) (t : Nat) : Int :=
  let v := p.value t
  if v < p.target then 1 else if p.target < v then -1 else 0

/-- From its value at `t`, or from `v0`, toward a target. -/
def Profile.toward (p : Profile) (t target : Nat) (v0 : Option Nat) (up down : Nat) : Profile :=
  { v0 := v0.getD (p.value t), at_ := t, target, up, down }

/-- It holds its value at `t`. -/
def Profile.freeze (p : Profile) (t : Nat) : Profile := { v0 := p.value t, at_ := t, target := p.value t }

/-- One unit of 1/256 rev/s in a wheel profile, and 1.0 in an amplitude profile. -/
abbrev wUnit : Nat := 4000000000
abbrev aOne : Nat := 65536 * 400000000000
abbrev aUnit : Nat := 400000000000

/-- Acceleration or deceleration in force, rev/s² (R518). -/
def wAcc (s : State) (n : Nat) : Nat := max 1 (min 400 (rd s (chB n) R.MOVE_WHEEL_RAMP_ACC))
def wDec (s : State) (n : Nat) : Nat := max 1 (min 400 (rd s (chB n) R.MOVE_WHEEL_RAMP_DEC))
/-- Amplitude ramp in force, %/s. -/
def sRate (s : State) (n : Nat) : Nat := max 1 (rd s (chB n) R.MOVE_SCAN_LIM_ARATE)

/-- ω_c runs toward `target` (1/256 rev/s) from `v0` or from where it is. -/
def wheelToward (n target : Nat) (v0 : Option Nat) (s : State) : State :=
  modMove n (fun m => { m with
    wTarget := target, wheel := m.wheel.toward s.ht (target * wUnit) v0 (256 * wAcc s n) (256 * wDec s n) }) s

/-- The commanded amplitude runs toward `target` from `v0` or from where it is. -/
def scanToward (n target : Nat) (v0 : Option Nat) (s : State) : State :=
  modMove n (fun m => { m with
    scan := m.scan.toward s.ht target v0 (65536 * sRate s n) (65536 * sRate s n) }) s

/-- MOVE_WHEEL_RAMP or MOVE_SCAN_LIM.ARATE has been written: the profiles go on from where they are at the new rates. -/
def reanchor (n : Nat) (s : State) : State :=
  let m := s.move n
  scanToward n m.scan.target none (modMove n (fun m => { m with
    wheel := m.wheel.toward s.ht m.wheel.target none (256 * wAcc s n) (256 * wDec s n) }) s)

/-- ω_c in 1/256 rev/s (MOVE_WSPEED.CMD). -/
def wheelCmd (s : State) (n : Nat) : Nat := (s.move n).wheel.value s.ht / wUnit

/-- Inputs 0x09 and 0x0A of a slot at sample tick `t` (R466): of the wheel where the channel has one, else of the
mirror. -/
def cmdInput (s : State) (n t : Nat) : Nat :=
  if s.wst n != .off then fOfRat ((s.move n).wheel.value t) (256 * wUnit) else fOfRat ((s.move n).scan.value t) aOne
def rateInput (s : State) (n t : Nat) : Nat :=
  if s.wst n != .off then
    match (s.move n).wheel.dir t with
    | 1 => fOfInt (wAcc s n)
    | 0 => 0
    | _ => fOfInt (-(wDec s n : Int))
  else fOfRatI ((s.move n).scan.dir t * sRate s n) 100

/-! ### Lock conditions and the wheel interlock (R504, R506, R507) -/

/-- |ε| is within PHTOL; no index error is not. -/
def phaseWithin (s : State) (n : Nat) : Bool :=
  let m := s.move n
  m.epsDen != 0 && m.epsNum.natAbs * 65536 ≤ rd s (chB n) R.MOVE_WHEEL_LIM_PHTOL * m.epsDen

def hasPred (s : State) (n : Nat) : Bool := rdB s (chB n) R.MOVE_STATUS_PRED

/-- The lock conditions of R504. -/
def lockConds (s : State) (n : Nat) : Bool :=
  let m := s.move n
  m.wheel.value s.ht == m.wTarget * wUnit
    && ((rd s (chB n) R.MOVE_WSPEED_MEAS : Int) - m.wTarget).natAbs * 100 ≤ m.wTarget
    && hasPred s n && phaseWithin s n

/-- MOVE_WHEEL_ILK.DWELL in ticks. -/
def wDwell (s : State) (n : Nat) : Nat := max 1 (rd s (chB n) R.MOVE_WHEEL_ILK_DWELL) * ms

/-- The conditions of R506 that hold. -/
def wheelConds (s : State) (n : Nat) : List Nat :=
  let m := s.move n
  let st := s.wst n
  if st = .off then []
  else
    (if st = .locked then [] else [1]) ++ (if m.speedGood + wDwell s n < s.ht then [2] else [])
      ++ (if hasPred s n then [] else [3])
      ++ (match m.phaseSince with
          | some t => if t + wDwell s n < s.ht then [4] else []
          | none => [])

/-- Cut every string of the channel with cause 0x5, or end that cause. -/
def cutMotion (n : Nat) (on : Bool) (s : State) : State :=
  each (strings s n) (fun k => if on then cutStart n k 5 else cutEnd n k 5) s

/-- Judge the lock conditions and the wheel interlock anew (R502, R507). -/
def wheelEval (n : Nat) (s : State) : State :=
  let s := modMove n (fun m => { m with
    lockFail := if s.wst n = .locked && !lockConds s n then some (m.lockFail.getD s.ht) else none }) s
  let cs := wheelConds s n
  if !rdB s (chB n) R.MOVE_STATUS_W_ILK then
    match cs with
    | [] => s
    | c :: _ =>
      let s := modMove n (fun m => { m with wClear := none, wLast := c }) s
      let s := bump (chB n) R.MOVE_WILK_CNT_COUNT (wrB (chB n) R.MOVE_STATUS_W_ILK true s)
      cutMotion n true (raise 0x0A02 n (1 + 16 * c) s)
  else
    modMove n (fun m => { m with
      wClear := if cs = [] then some (m.wClear.getD s.ht) else none, wLast := cs.headD m.wLast }) s

/-- WHEEL_INTERLOCK_RELEASE's effect: no condition for RELEASE ms ends the interlock. -/
def wheelRelease (n : Nat) (s : State) : State :=
  let s := wheelEval n s
  match (s.move n).wClear with
  | some t =>
    if rdB s (chB n) R.MOVE_STATUS_W_ILK && t + rd s (chB n) R.MOVE_WHEEL_ILK_RELEASE * ms ≤ s.ht then
      cutMotion n false (raise 0x0A02 n (16 * (s.move n).wLast) (wrB (chB n) R.MOVE_STATUS_W_ILK false s))
    else s
  | none => s

/-- The wheel takes a state (R502): event 0x0A01. Outside RAMP, LOCKED and RUNDOWN its profile holds. -/
def setWst (n : Nat) (x : WState) (s : State) : State :=
  let old := s.wst n
  if old = x then s
  else
    let s := raise 0x0A01 n (x.code + 256 * old.code) (wr (chB n) R.MOVE_STATUS_WSTATE x.code s)
    let driven := x == .ramp || x == .locked || x == .rundown
    let s := modMove n (fun m => { m with
      wAt := s.ht, lockRun := 0, lockFail := none, wheel := if driven then m.wheel else m.wheel.freeze s.ht }) s
    wheelEval n s

/-! ### Index prediction (R508, R509) -/

/-- The prediction is withdrawn. -/
def withdrawPred (n : Nat) (s : State) : State :=
  let s := modMove n (fun m => { m with predP := none, predI := none }) s
  wheelEval n (wr (chB n) R.MOVE_WPERIOD_PERIOD 0 (wrB (chB n) R.MOVE_STATUS_PRED false s))

/-- Show the prediction when both of its parts have been written. -/
def showPred (n : Nat) (s : State) : State :=
  match (s.move n).predP, (s.move n).predI with
  | some p, some i =>
    let fresh := !hasPred s n
    let s := wr (chB n) R.MOVE_WIDX_LO_HT (i % 2 ^ 32) (wr (chB n) R.MOVE_WIDX_HI_HT (i / 2 ^ 32) s)
    let s := wr (chB n) R.MOVE_WPERIOD_PERIOD p (wrB (chB n) R.MOVE_STATUS_PRED true s)
    wheelEval n (when_ fresh (modMove n (fun m => { m with idxAt := i })) s)
  | _, _ => s

/-- Destination 0x05: the index period; below 1 000 000 ticks it withdraws the prediction (R471). -/
def predPeriod (n : Nat) (v : Int) (s : State) : State :=
  if (s.move n).predWait then s
  else if v < 1000000 then withdrawPred n s
  else showPred n (modMove n (fun m => { m with predP := some v.toNat }) s)

/-- Destination 0x06: ticks from the sample tick to the next predicted index of segment 0. -/
def predPhase (n ref : Nat) (v : Int) (s : State) : State :=
  let s := modMove n (fun m => { m with predPh := v }) s
  if (s.move n).predWait then s
  else showPred n (modMove n (fun m => { m with predI := some ((ref : Int) + v).toNat }) s)

/-- I_0 and Π of the prediction in effect. -/
def prediction (s : State) (n : Nat) : Option (Nat × Nat) :=
  if hasPred s n then
    match (s.move n).predI, (s.move n).predP with
    | some i, some p => some (i, p)
    | _, _ => none
  else none

/-- An index of segment 0 was measured at `t16` sixteenths of a tick (R466 source 0x08, R508). -/
def indexMeasured (n t16 : Nat) (s : State) : State :=
  match prediction s n with
  | none => modMove n (fun m => { m with predWait := false }) s
  | some (i, p) =>
    let d : Int := (t16 : Int) - 16 * i
    let q : Int := (2 * d + 16 * p) / (32 * p)
    let e : Int := d - 16 * p * q
    let s := modMove n (fun m => { m with
      predWait := false, epsNum := e, epsDen := 16 * p, idxAt := ((i : Int) + q * p).toNat }) s
    let inexact : Bool := decide (e * 65536 % (16 * p : Int) ≠ 0)
    let r := if inexact then draw 1 s else (0, s)
    let s := wr (chB n) R.MOVE_WERR_ERR (satTwos 32 (e * 65536 / (16 * p : Int) + r.1)) r.2
    let s := modMove n (fun m => { m with
      phaseSince := if phaseWithin s n then none else some (m.phaseSince.getD s.ht) }) s
    wheelEval n (feedInput n 8 0 (fOfRatI e (16 * p)) s)

/-! ### Speed samples (R502, R506) -/

/-- A valid speed sample in 1/256 rev/s. -/
def speedSample (n v : Nat) (s : State) : State :=
  let s := wr (chB n) R.MOVE_WSPEED_MEAS v s
  let stop : Bool := v ≤ rd s (chB n) R.MOVE_WHEEL_LIM_STOP
  let low : Bool := v * 65536 < rd s (chB n) R.MOVE_WHEEL_ILK_THRESH * (s.move n).wTarget
  let s := modMove n (fun m => { m with
    speedAt := some s.ht, stopSince := if stop then some (m.stopSince.getD s.ht) else none
    speedGood := if low then m.speedGood else s.ht }) s
  let s := when_ (s.wst n = .unknown && !stop) (setWst n .coast) s
  wheelEval n s

/-! ### Scan mirrors (R510 to R516) -/

/-- The conditions of R515 that hold. -/
def scanConds (s : State) (n : Nat) : List Nat :=
  let m := s.move n
  let st := s.sst n
  if st = .off then []
  else
    (if st = .locking || st = .locked then [] else [1])
      ++ (if rd s (chB n) R.MOVE_SCAN_MEAS_AMP < rd s (chB n) R.MOVE_SCAN_ILK_AMIN then [2] else [])
      ++ (if rd s (chB n) R.MOVE_SCAN_LIM_PHTOL < (sext 32 (rd s (chB n) R.MOVE_SCAN_PHERR_ERR)).natAbs then [3] else [])
      ++ (if rdB s (chB n) R.MOVE_STATUS_GRID then [] else [4])
      ++ (match m.ampAt with
          | some t => if t + ms ≤ s.ht then [5] else []
          | none => [5])

/-- The raw change of the mirror's state with the commanded amplitude of R511. -/
def moveSst (n : Nat) (x : SState) (s : State) : State :=
  let old := s.sst n
  let m := s.move n
  let meas := if m.ampAt.isSome then min aOne (rd s (chB n) R.MOVE_SCAN_MEAS_AMP * aUnit) else 0
  let s := raise 0x0A05 n (x.code + 256 * old.code) (wr (chB n) R.MOVE_STATUS_SSTATE x.code s)
  match x with
  | .locking => scanToward n aOne (if old = .locked then none else some meas) s
  | .rundown =>
    let v0 := if old = .sweep || old = .unknown then some meas else none
    scanToward n 0 v0 (modMove n (fun m => { m with runDone := false }) s)
  | .locked => s
  | _ => modMove n (fun m => { m with scan := m.scan.freeze s.ht }) s

/-- Judge the scan interlock anew (R510, R515, R516): a LOCKED mirror with a condition returns to LOCKING. -/
def scanEval (n : Nat) (s : State) : State :=
  let cs := scanConds s n
  let s := when_ (s.sst n = .locked && cs != []) (moveSst n .locking) s
  let s := modMove n (fun m => { m with
    sClear := if cs = [] then some (m.sClear.getD s.ht) else none, sLast := cs.headD m.sLast }) s
  match cs with
  | [] => s
  | c :: _ =>
    if rdB s (chB n) R.MOVE_STATUS_S_ILK then s
    else
      let s := bump (chB n) R.MOVE_SILK_CNT_COUNT (wrB (chB n) R.MOVE_STATUS_S_ILK true s)
      cutMotion n true (raise 0x0A06 n (1 + 16 * c) s)

/-- The mirror takes a state. -/
def setSst (n : Nat) (x : SState) (s : State) : State :=
  if s.sst n = x then s else scanEval n (moveSst n x s)

/-- SCAN_LOCKED's effect: no condition for RELEASE ms locks the mirror and ends the interlock. -/
def scanRelease (n : Nat) (s : State) : State :=
  let s := scanEval n s
  match (s.move n).sClear with
  | some t =>
    if t + rd s (chB n) R.MOVE_SCAN_ILK_RELEASE * ms ≤ s.ht then
      let s := when_ (s.sst n = .locking) (moveSst n .locked) s
      when_ (rdB s (chB n) R.MOVE_STATUS_S_ILK) (fun s =>
        cutMotion n false (raise 0x0A06 n (16 * (s.move n).sLast) (wrB (chB n) R.MOVE_STATUS_S_ILK false s))) s
    else s
  | none => s

/-- An amplitude is at most 1 % of target (R510). -/
def smallAmp (v : Nat) : Bool := v * 100 ≤ 65536

/-- An amplitude sample, in 2^-16 of target. -/
def ampSample (n v : Nat) (s : State) : State :=
  let s := wr (chB n) R.MOVE_SCAN_MEAS_AMP v s
  let s := modMove n (fun m => { m with
    ampAt := some s.ht, smallSince := if smallAmp v then some (m.smallSince.getD s.ht) else none }) s
  let s := when_ (s.sst n = .unknown && !smallAmp v) (setSst n .rundown) s
  scanEval n s

/-- A phase error sample, in ns. -/
def phaseSample (n : Nat) (v : Int) (s : State) : State :=
  scanEval n (wr (chB n) R.MOVE_SCAN_PHERR_ERR (satTwos 32 v) s)

/-! ### The sweep grid (R350, R471, R578) -/

/-- Destination 0x09: the grid period in 1/256 tick; below 40 000 ticks it withdraws the grid. -/
def gridPeriod (n : Nat) (v : Int) (s : State) : State :=
  let p : Nat := if v < 40000 * 256 then 0 else v.toNat
  let s := wrB (chB n) R.MOVE_STATUS_GRID (p != 0) (modMove n (fun m => { m with gridP := p }) s)
  scanEval n (writeActuator n 0x11C ((p + 128) / 256 % 2 ^ 32) s)

/-- Destination 0x0A: the grid phase in 1/256 tick, 0 to period - 1 tick. -/
def gridPhase (n : Nat) (v : Int) (s : State) : State :=
  let p := min v.toNat ((s.move n).gridP - 256)
  writeActuator n 0x120 ((p + 128) / 256 % 2 ^ 32) (modMove n (fun m => { m with gridPh := p }) s)

/-! ### What other units do to a moving part -/

/-- The slot that serves a part has left RUNNING (R502, R510). -/
def slotLeft (k : Nat) (s : State) : State :=
  let n := slotChannel s k
  if 192 ≤ n then s
  else
    let s := if wheelSlot s n = k && (s.wst n = .ramp || s.wst n = .locked || s.wst n = .rundown) then setWst n .coast s
      else s
    if scanSlot s n = k && (s.sst n = .sweep || s.sst n = .locking || s.sst n = .locked) then setSst n .rundown s else s

/-- The channel is reset. -/
def motionChReset (n : Nat) (s : State) : State :=
  let s := if s.wst n = .ramp || s.wst n = .locked || s.wst n = .rundown then setWst n .coast s else s
  if s.sst n = .sweep || s.sst n = .locking || s.sst n = .locked then setSst n .rundown s else s

/-- The device enters HOLD or TRIPPED. -/
def motionHold (n : Nat) (s : State) : State :=
  let s := if s.wst n = .off then s else setWst n .coast s
  if s.sst n = .off then s else setSst n .rundown s

/-- A power-on or device reset, a return from hold, a reset of the channel's Reach die: what was known of the motion is
gone. -/
def motionUnknown (n : Nat) (s : State) : State :=
  let s := modMove n (fun m => { m with speedAt := none, stopSince := none, ampAt := none, smallSince := none }) s
  let s := if s.wst n = .off then s else setWst n .unknown s
  if s.sst n = .off then s else setSst n .unknown s

/-- A head has been identified: the parts it declares are UNKNOWN, the others OFF (R500, R502, R510). -/
def motionIdentified (n : Nat) (s : State) : State :=
  let s := wrB (chB n) R.MOVE_SCAN_CFG_TYPE (bitOf (hcap s n 6) 5) s
  let s := modMove n (fun m => { m with speedAt := none, stopSince := none, ampAt := none, smallSince := none }) s
  let s := wheelEval n (setWst n (if headWheel s n then .unknown else .off) s)
  let s := scanEval n (setSst n (if headScanM s n && chKind s n = .scan then .unknown else .off) s)
  when_ (rdB s (chB n) R.MOVE_STATUS_W_ILK || rdB s (chB n) R.MOVE_STATUS_S_ILK) (cutMotion n true) s

end Sys2Proof.Machine
end

