-- ==== Sys2Proof/Machine/Ports.lean ====
section
/-!
DEFINITION. The states of a port (spec/13_ehriz_lanes.md R535 to R549), its lanes and widths, and identification
(spec/14_ehriz_protocol_heads.md R580 to R582): what the lane and the protocol commands share.
-/

namespace Sys2Proof.Machine
open Sys2Proof

/-- The states of a port (R535). -/
inductive PState where
  | disabled | detect | rate | lock | polarity | order | deskew | width | ident | up | retrain | loopback
deriving DecidableEq, Repr

def PState.code : PState → Nat
  | .disabled => 0 | .detect => 1 | .rate => 2 | .lock => 3 | .polarity => 4 | .order => 5 | .deskew => 6
  | .width => 7 | .ident => 8 | .up => 9 | .retrain => 10 | .loopback => 11

def PState.ofCode : Nat → PState
  | 0 => .disabled | 1 => .detect | 2 => .rate | 3 => .lock | 4 => .polarity | 5 => .order | 6 => .deskew
  | 7 => .width | 8 => .ident | 9 => .up | 10 => .retrain | _ => .loopback

def State.pst (s : State) (n : Nat) : PState := PState.ofCode (rd s (ephyB n) R.EPHY_STATUS_STATE)

/-- The lanes of a port carry packets: IDENT or UP. -/
def carries (s : State) (n : Nat) : Bool := s.pst n = .ident || s.pst n = .up

/-! ### Lanes -/

def laneNums : List Nat := [0, 1, 2, 3]
def lanesLocked (s : State) (n : Nat) : List Nat := laneNums.filter (fun l => rdB s (laneB n l) R.EPHY_LSTAT_LOCK)
/-- Physical lanes locked and not excluded. -/
def lanesLeft (s : State) (n : Nat) : List Nat :=
  (lanesLocked s n).filter (fun l => !rdB s (laneB n l) R.EPHY_LSTAT_EXCLUDED)
def logicalLane (s : State) (n l : Nat) : Nat := rd s (laneB n l) R.EPHY_LSTAT_LOGICAL
/-- Logical lanes in use, and good. -/
def laneUsed (s : State) (n lg : Nat) : Bool := bitOf (rd s (ephyB n) R.EPHY_STATUS_LANES) lg
def isGood (s : State) (n lg : Nat) : Bool := bitOf (rd s (ephyB n) R.EPHY_STATUS_GOOD) lg
/-- The physical lane of a logical one. -/
def physLane (s : State) (n lg : Nat) : Nat := if rdB s (ephyB n) R.EPHY_STATUS_REVERSED then 3 - lg else lg

/-- Width and logical lanes that good lanes allow (R542); width 0 when there is none. -/
def chooseWidth (widths good : Nat) : Nat × Nat :=
  let w := if widths = 0 then 1 else widths
  if bitOf w 2 && good == 15 then (4, 15)
  else if bitOf w 1 && bits good 0 2 == 3 then (2, 3)
  else if bitOf w 1 && bits good 2 2 == 3 then (2, 12)
  else if bitOf w 0 then
    match laneNums.find? (bitOf good) with
    | some l => (1, 2 ^ l)
    | none => (0, 0)
  else (0, 0)

def widthNow (s : State) (n : Nat) : Nat × Nat :=
  chooseWidth (rd s (ephyB n) R.EPHY_CFG_WIDTHS) (rd s (ephyB n) R.EPHY_STATUS_GOOD)

/-- Ticks of a marker period of 4096 characters (R528). -/
def markerPeriod (s : State) (n : Nat) : Nat := ceilDiv (4096 * charPeriod s n) 10

/-! ### Changes of state -/

/-- CH_KIND.KIND_MISMATCH from KIND and HEAD_KIND (R32). -/
def showMismatch (n : Nat) (s : State) : State :=
  let h := rd s (chB n) R.CH_KIND_HEAD_KIND
  wrB (chB n) R.CH_KIND_KIND_MISMATCH (h != 3 && h != rd s (chB n) R.CH_KIND_KIND) s

/-- No head is identified (R32, R593). -/
def headGone (n : Nat) (s : State) : State :=
  showMismatch n (wr (chB n) R.CH_KIND_HEAD_KIND 3 (wrB (chB n) R.EPROT_STATUS_IDENTIFIED false s))

/-- Start training sets of a TYPE on physical lanes (R530): rates, good lanes and proposed width, the lane numbers
received, flags, figures of merit, and a count of sets that no rule ties to anything else. -/
def sendTraining (n type width : Nat) (lanes : List Nat) (s : State) : State :=
  let b := ephyB n
  let st := fun l f => rdB s (laneB n l) f
  let used := [0, 1, 2, 3].filter (fun l => !st l R.EPHY_LSTAT_EXCLUDED)
  let good := bitMask ((used.filter (fun l => st l R.EPHY_LSTAT_LOCK)).map (fun l => if rdB s b R.EPHY_STATUS_REVERSED then 3 - l else l))
  let map := ([0, 1, 2, 3].map (fun l => (tget 0 l (s.port n).laneRx - 1) * 4 ^ l)).foldl (· + ·) 0
  let flags := b2n (used != [] && used.all (fun l => st l R.EPHY_LSTAT_LOCK))
    + 2 * b2n (used != [] && used.all (fun l => st l R.EPHY_LSTAT_DESKEWED))
    + 4 * b2n ([0, 1, 2, 3].any (fun l => st l R.EPHY_LSTAT_INVERTED))
  let foms := [0, 1, 2, 3].map (fun l => rd s (laneB n l) R.EPHY_LSTAT_FOM)
  let d := draw 16 s
  let good := if width = 0 then good else rd s b R.EPHY_STATUS_GOOD
  emitOut (.train n type lanes ([15, good + 16 * width, map, flags] ++ foms ++ beChars 2 d.1)) d.2

/-- The port takes a state; outside IDENT and UP it has width 0 and no head is identified. -/
def toPst (n : Nat) (x : PState) (s : State) : State :=
  let was := s.pst n
  let s := modPort n (fun p => { p with stAt := s.tick }) (wr (ephyB n) R.EPHY_STATUS_STATE x.code s)
  if x = .ident || x = .up then s
  else
    let s := headGone n s
    let s := modPort n (fun p => { p with
      wreq := none, rreq := none, headRetrain := none, wakeAt := none, ident := .no, idRegs := [], back := [],
      fomLow := [], fomHigh := [], headSet := none, txWake := none, markNom := none, nextChar := 0
      cfgKept := p.cfgKept ++ p.cfg.filter (fun r => was = .up || r.pass)
      cfg := [], cfgWait := p.cfgWait.filter (·.pass) }) s
    let s := wr (ephyB n) R.EPHY_STATUS_GOOD 0 (wr (ephyB n) R.EPHY_STATUS_LANES 0 s)
    setWidth n 0 (wrB (ephyB n) R.EPHY_STATUS_WIDEN_PENDING false s)

/-- The receive lanes hold nothing: no lock, no exclusion, no mapping. -/
def clearLanes (n : Nat) (s : State) : State :=
  let s := modPort n (fun p => { p with tsCount := [], laneRx := [], tsInv := 0, markers := [] }) s
  let s := each laneNums (fun l => resetFlds (laneB n l)
    [R.EPHY_LSTAT_LOCK, R.EPHY_LSTAT_INVERTED, R.EPHY_LSTAT_LOGICAL, R.EPHY_LSTAT_EXCLUDED, R.EPHY_LSTAT_MARGINAL,
     R.EPHY_LSTAT_DESKEWED, R.EPHY_LSTAT_SKEW]) s
  wrB (ephyB n) R.EPHY_STATUS_REVERSED false s

def setIdle (n : Nat) (tx rx : Bool) (s : State) : State :=
  wrB (ephyB n) R.EPHY_STATUS_TX_IDLE (tx || !s.hub.portsOn) (wrB (ephyB n) R.EPHY_STATUS_RX_IDLE rx s)

/-- To DETECT: the transmitter idles between tests (R536, R551). -/
def enterDetect (n : Nat) (s : State) : State :=
  setIdle n true true (clearLanes n (toPst n .detect s))

/-- To RATE at a trial rate (R537). -/
def enterRate (n r : Nat) (s : State) : State :=
  sendTraining n 1 0 laneNums (setIdle n false false (clearLanes n (wr (ephyB n) R.EPHY_STATUS_RATE r (toPst n .rate s))))

/-- To LOCK, at the rate in use (R538). -/
def enterLock (n : Nat) (s : State) : State :=
  sendTraining n 1 0 laneNums (setIdle n false false (clearLanes n (toPst n .lock s)))

/-- A training attempt fails for good: DETECT, counted (R535). -/
def trainFailed (n : Nat) (s : State) : State :=
  let code := rd s (ephyB n) R.EPHY_STATUS_STATE
  let rate := rd s (ephyB n) R.EPHY_STATUS_RATE
  enterDetect n (raise 0x0B03 n (code + 16 * rate) (bump (ephyB n) R.EPHY_TRAIN_FAIL_CNT_COUNT s))

/-- A trial at one rate fails: the next lower rate, or DETECT at 3.125 Gbaud (R535). -/
def trainStep (n : Nat) (s : State) : State :=
  let r := rd s (ephyB n) R.EPHY_STATUS_RATE
  if r = 0 then trainFailed n s else enterRate n (r - 1) s

/-- To RETRAIN, and at once to LOCK (R535). -/
def enterRetrain (n cause : Nat) (s : State) : State :=
  enterLock n (raise 0x0B02 n cause (bump (ephyB n) R.EPHY_DOWN_CNT_COUNT (toPst n .retrain s)))

/-- Every lane in use is lost (R549). In IDENT the table of R535 has no way but the limit of 50 ms. -/
def allLost (n : Nat) (s : State) : State :=
  if s.pst n = .up then modPort n (fun p => { p with lossAt := some s.tick }) (enterRetrain n 1 s) else s

/-! ### Width changes (R544 to R548, R590, R591) -/

/-- Ask the head for a width. -/
def sendWidthReq (n w lanes : Nat) (widen : Bool) (s : State) : State :=
  let d := draw 8 s
  emitOut (.linkSet n 3 w lanes d.1)
    (modPort n (fun p => { p with
      wreq := some { seq := d.1, width := w, lanes, widen, sentAt := s.tick, lossAt := s.ht } }) d.2)

/-- A wider width has become possible (R547). -/
def widenCheck (n : Nat) (s : State) : State :=
  let c := widthNow s n
  if s.pst n = .up && rd s (ephyB n) R.EPHY_STATUS_WIDTH < c.1 && (s.port n).wreq.isNone then
    sendWidthReq n c.1 c.2 true
      (modPort n (fun p => { p with widenAt := s.ht }) (wrB (ephyB n) R.EPHY_STATUS_WIDEN_PENDING true s))
  else s

/-- A head's RETRAIN_REQ that waited for the port's own request is acted on (R589). -/
def serveHeadRetrain (n : Nat) (s : State) : State :=
  match (s.port n).headRetrain with
  | some (m, q) =>
    let s := modPort n (fun p => { p with headRetrain := none }) s
    if s.pst n = .up then enterRetrain n 3 (emitOut (.linkSet n 2 0 m q) s) else s
  | none => s

/-- Send again every unanswered CFG request, and a CANCEL or PARK that is not complete (R591). -/
def resendRequests (n : Nat) (s : State) : State :=
  let s := modPort n (fun p => { p with cfg := p.cfg ++ p.cfgKept, cfgKept := [] }) s
  let p := s.port n
  let s := each p.cfg (fun r => sendPacket n (.cfgRequest n (b2n r.write) r.tag r.addr (if r.write then r.words else [r.count]))) s
  let s := modPort n (fun p => { p with cfg := p.cfg.map (fun r => { r with sent := s.tick }) }) s
  let s := each ((s.weir n).wds.filter (·.tw.isSome)) (fun d => emitOut (.cancel n d.cause d.tc)) s
  when_ p.parkWait (emitOut (.park n p.parkSeq)) s

/-- Send again the LAUNCH packets still outstanding that were sent in the 16 µs before a loss (R591). -/
def resendTokens (n loss : Nat) (s : State) : State :=
  each ((outstanding s n).filter (fun t => loss ≤ t.2.2 + 16 * us && t.2.2 ≤ loss))
    (fun t => sendPacket n (.launchPacket n (tget [] t.1 (s.port n).tokBytes))) s

/-- The item being staged starts again (R545). -/
def restage (n : Nat) (s : State) : State :=
  modQ n (·.map (fun i => if i.stage = .active then { i with stage := .none, buf := none } else i)) s

/-- The port takes the width of its request (R544, R547). -/
def switchWidth (n : Nat) (r : WidthReq) (s : State) : State :=
  let b := ephyB n
  let old := rd s b R.EPHY_STATUS_WIDTH
  let s := modPort n (fun p => { p with wreq := none }) s
  let s := setWidth n r.width (wr b R.EPHY_STATUS_LANES r.lanes s)
  let s := when_ r.widen (wrB b R.EPHY_STATUS_WIDEN_PENDING false) s
  let s := bump b (if r.widen then R.EPHY_WIDEN_CNT_COUNT else R.EPHY_NARROW_CNT_COUNT) s
  let s := raise 0x0B05 n (r.width + 8 * r.lanes + 128 * b2n r.widen + 256 * old) s
  let s := resendRequests n (resendTokens n r.lossAt (restage n s))
  widenCheck n (serveHeadRetrain n (sendTokens n s))

/-- Physical lanes are lost with a cause of R543. Of those in use, or in the set of a pending request, the loss is
counted; a lane in use leaves the port narrower or without lanes. -/
def lanesLost (n : Nat) (ls : List Nat) (cause : Nat) (s : State) : State :=
  let b := ephyB n
  let want := fun lg => (s.port n).wreq.any (fun r => bitOf r.lanes lg)
  let ls := ls.filter (fun l => isGood s n (logicalLane s n l))
  if !carries s n || ls = [] then s
  else
    let hit := ls.filter (fun l => laneUsed s n (logicalLane s n l) || want (logicalLane s n l))
    let s := each ls (fun l s =>
      let s := wr b R.EPHY_STATUS_GOOD (setBit (rd s b R.EPHY_STATUS_GOOD) (logicalLane s n l) false) s
      let s := wrB (laneB n l) R.EPHY_LSTAT_LOCK false (wrB (laneB n l) R.EPHY_LSTAT_EXCLUDED true s)
      let s := wrB (laneB n l) R.EPHY_LSTAT_DESKEWED false s
      modPort n (fun p => { p with back := terase l p.back, tsCount := terase l p.tsCount }) s) s
    let s := wrB b R.EPHY_STATUS_WIDEN_PENDING false s
    -- the packet stream stops, and a lost lane trains in the background (R544, R546)
    let s := emitOut (.idlePair n) s
    let s := sendTraining n 1 0 ls s
    let s := each hit (fun l s =>
      raise 0x0B04 n (l + 16 * cause) (bump (laneB n l) R.EPHY_LLOSS_COUNT s)) s
    let alive := laneNums.any (fun lg => laneUsed s n lg && isGood s n lg)
    if !alive then allLost n s
    else
      let c := widthNow s n
      if c.1 = 0 then allLost n s
      else if (s.port n).wreq.isSome || hit != [] then
        if c == (rd s b R.EPHY_STATUS_WIDTH, rd s b R.EPHY_STATUS_LANES) then
          serveHeadRetrain n (modPort n (fun p => { p with wreq := none }) s)
        else if rd s b R.EPHY_STATUS_WIDTH < c.1 then widenCheck n (modPort n (fun p => { p with wreq := none }) s)
        else sendWidthReq n c.1 c.2 false s
      else s

/-! ### Identification (R580 to R582) -/

/-- Reads of the head's 32 registers, after any CANCEL that waited for the link (R402, R580). -/
def identStart (n : Nat) (s : State) : State :=
  let s := sendPending n s
  let s := modPort n (fun p => { p with ident := .reading, idRegs := [] }) s
  sendCfg n false 0x40 [] 16 false (sendCfg n false 0x000 [] 16 false s)

/-- Greatest width and height less 1 of a kind (R31). -/
def geomMax : Nat → Nat × Nat
  | 0 => (4095, 2399) | 1 => (3839, 2399) | _ => (1023, 511)

/-- The first failing reason of R581 for registers read at identification, 0 for none. -/
def identReason (c : List Nat) : Nat :=
  let r := fun i => c.getD i 0
  let kind := bits (r 6) 0 2
  let edge := bitOf (r 6) 2
  let str := bits (r 6) 8 3
  let buf := bits (r 8) 0 8
  let tok := bits (r 8) 8 8
  let blk := bits (r 8) 16 5
  if r 0 != 0x45485A31 then 1
  else if bits (r 1) 0 8 != 1 then 2
  else if kind = 3 || str = 0 || 6 < str || buf < 4 || tok < 16 || 128 < tok || blk = 0 || (kind != 0 && 1 < blk)
      || (bitOf (r 6) 4 && kind != 1) || (bitOf (r 6) 3 && kind == 1)
      || (geomMax kind).1 < bits (r 7) 0 13 || (geomMax kind).2 < bits (r 7) 16 13 then 3
  else if r 9 = 0 || 4000000 < r 9 || 400000 < r 14 || 40000 < r 16 || (edge && 16000000 < r 15)
      || (!edge && r 15 != 0) || bits (r 17) 0 8 = 0 || 25 < bits (r 17) 0 8 then 4
  else 0

/-- The head is not identified (R581). -/
def rejectHead (n reason : Nat) (s : State) : State :=
  if (s.port n).ident = .rejected then s
  else raise 0x0C02 n reason (wr (chB n) R.EPROT_STATUS_REJECT reason (modPort n (fun p => { p with ident := .rejected }) s))

/-- Every configuration register of R578 with the value that step 4 writes. -/
def identWrites (s : State) (n : Nat) : List (Nat × Nat) :=
  let p := s.port n
  formatWords s n (launchFmt s n) ++ [(0x10C, rd s (chB n) R.EPROT_CFG_DRIVE_HOLD)]
    ++ [0x110, 0x114, 0x118, 0x11C, 0x120].map (fun a => (a, tget 0 a p.act))
    ++ (List.range 8).flatMap (fun j =>
      let e := p.scheds.getD j (0, 0, 0)
      [(0x140 + 16 * j, e.1), (0x144 + 16 * j, e.2.1), (0x148 + 16 * j, e.2.2)])

/-- The head's registers have been read: they are checked and copied, and the configuration is written (R580 steps 2 to
4). -/
def identRead (n : Nat) (s : State) : State :=
  let c := (s.port n).idRegs
  let r := identReason c
  if r != 0 then rejectHead n r s
  else
    let s := each (List.range 32) (fun i s => wr (chB n) R.EPROT_HCAP_VALUE (c.getD i 0) s i) s
    let s := wr (chB n) R.CH_KIND_HEAD_KIND (bits (c.getD 6 0) 0 2) s
    let s := wrB (chB n) R.WEIR_STATUS_HEAD_MODE (bitOf (c.getD 6 0) 2) s
    let s := showMismatch n s
    let s := modPort n (fun p => { p with ident := .writing }) s
    each (identWrites s n) (fun w => writeHead n w.1 w.2) s

/-- Own requests that have not been answered. -/
def ownCfg (s : State) (n : Nat) : Bool :=
  (s.port n).cfg.any (fun r => !r.pass) || (s.port n).cfgWait.any (fun r => !r.pass)

/-- Step 5: every write has been answered. -/
def identPark (n : Nat) (s : State) : State :=
  if (s.port n).ident = .writing && !ownCfg s n then sendPark n (modPort n (fun p => { p with ident := .parking }) s) else s

/-- The Weir takes every queued item as unstaged, and sends their data and tokens again (R587). -/
def restageAll (n : Nat) (s : State) : State :=
  match s.chState n with
  | .off => s
  | .faulted => s
  | _ =>
    let s := modPort n (fun p => { p with tokens := [], samples := [] }) s
    let s := modWeir n (fun w => { w with bufs := [] }) s
    let s := modQ n (·.map (fun i =>
      if i.launched then i else { i with stage := .none, buf := none, sent := none, darkFrom := 0 })) s
    sendTokens n s

/-- The head is identified and the port enters UP (R580, R582, R587, R591); a head of another kind faults a channel that
runs (R35). -/
def headIdentified (n : Nat) (s : State) : State :=
  let p := s.port n
  let c := p.idRegs
  -- serial, product and capabilities, against the previous identification
  let differs := p.prevId != [] && p.prevId.drop 3 != c.drop 3
  let k := c.getD 6 0
  let b := ephyB n
  let s := toPst n .up s
  let s := modPort n (fun p => { p with ident := .yes, prevId := c, lossAt := none }) s
  let s := wrB (chB n) R.EPROT_STATUS_IDENTIFIED true s
  let s := bump b R.EPHY_TRAIN_CNT_COUNT (bump (chB n) R.EPROT_IDENT_CNT_COUNT s)
  let s := raise 0x0B01 n (rd s b R.EPHY_STATUS_RATE + 4 * rd s b R.EPHY_STATUS_WIDTH
    + 32 * rd s b R.EPHY_STATUS_LANES + 512 * rd s b R.EPHY_STATUS_REVERSED) s
  let s := raise 0x0C01 n (bits k 0 3 + 8 * bits k 8 3 + 256 * bits (c.getD 8 0) 0 8 + 65536 * b2n differs) s
  let s := motionIdentified n s
  let s := when_ (rdB s (chB n) R.CH_KIND_KIND_MISMATCH) (chFault n 1) s
  let out := laneNums.filter (fun l => rdB s (laneB n l) R.EPHY_LSTAT_EXCLUDED)
  let s := when_ (out != []) (sendTraining n 1 0 out) s
  widenCheck n (restageAll n (resendRequests n s))

/-- The width is agreed (R542): IDENT, or a training failure where no lane is good or no width allowed. -/
def agreeWidth (n farGood : Nat) (s : State) : State :=
  let b := ephyB n
  let good := bitMask ((lanesLeft s n).filterMap (fun l =>
    if bitOf farGood (logicalLane s n l) then some (logicalLane s n l) else none))
  let c := chooseWidth (rd s b R.EPHY_CFG_WIDTHS) good
  if c.1 = 0 then trainStep n s
  else
    let s := wr b R.EPHY_STATUS_LANES c.2 (wr b R.EPHY_STATUS_GOOD good (toPst n .ident s))
    let s := sendTraining n 2 c.1 laneNums s
    identStart n (emitOut (.idlePair n) (setWidth n c.1 s))

/-! ### The transmitter of a device that is going dark (R43, R82) -/

/-- Every transmitter in electrical idle. -/
def portIdle (n : Nat) (s : State) : State :=
  emitOut (.idle n) (wrB (ephyB n) R.EPHY_STATUS_TX_IDLE true s)

/-! ### Transmit equalisation (R532) -/

/-- The coefficients PRE and POST in force: they move by 1/64 a µs toward the register of the band in use. -/
def eqNow (s : State) (n : Nat) : Nat × Nat :=
  let band := rd s (dieB (n / 48)) R.WEIR_AVS_STATUS_BAND
  let to_ := (rd s (ephyB n) R.EPHY_TXEQ_PRE band, rd s (ephyB n) R.EPHY_TXEQ_POST band)
  match (s.port n).eq with
  | none => to_
  | some (a, b) =>
    let k := (s.tick - (s.port n).eqAt) / us
    let go := fun (x y : Nat) => if x ≤ y then min y (x + k) else max y (x - k)
    (go a to_.1, go b to_.2)

/-- Hold the coefficients in force as the start of a move. -/
def eqAnchor (n : Nat) (s : State) : State :=
  modPort n (fun p => { p with eq := some (eqNow s n), eqAt := s.tick }) s

end Sys2Proof.Machine
end

