-- ==== Sys2Proof/Machine/Lanes.lean ====
section
/-!
DEFINITION. The commands of the Ehriz lanes (spec/13_ehriz_lanes.md R520 to R558).
-/

namespace Sys2Proof.Machine
open Sys2Proof

/-! ### EPHY_CTRL -/

/-- A write that would change an RWF field of the port while its channel runs is rejected (R12, R556). -/
def ephyLocked (s : State) (n : Nat) : Bool := chRuns s n

def ephyReject (n : Nat) (s : State) : State := wrB (ephyB n) R.EPHY_STATUS_WRITE_REJECTED true s

/-- PORT_ENABLE: a disabled port enters DETECT. -/
def portEnable (n : Nat) (s : State) : State :=
  if rdB s (ephyB n) R.EPHY_CTRL_EN then s
  else if ephyLocked s n then ephyReject n s
  else enterDetect n (wrB (ephyB n) R.EPHY_CTRL_EN true s)

/-- PORT_ENABLE (R535). -/
def execPortEnable (n : Fin 192) (s : State) : Host.Outcome State Fault Refusal := run (portEnable n) s

/-- PORT_DISABLE: from every state; the transmitter sends the electrical-idle set and idles (R535, R551). -/
def portDisable (n : Nat) (s : State) : State :=
  if !rdB s (ephyB n) R.EPHY_CTRL_EN then s
  else if ephyLocked s n then ephyReject n s
  else
    let quiet := rdB s (ephyB n) R.EPHY_STATUS_TX_IDLE
    let s := when_ (!quiet) (emitOut (.idle n)) (wrB (ephyB n) R.EPHY_CTRL_EN false s)
    setIdle n true true (clearLanes n (toPst n .disabled s))

/-- PORT_DISABLE (R535). -/
def execPortDisable (n : Fin 192) (s : State) : Host.Outcome State Fault Refusal := run (portDisable n) s

/-- EPHY_RETRAIN: EPHY_CTRL.RETRAIN on a port that is UP; the head is asked with a RETRAIN_REQ (R535, R562, R589). -/
def ephyRetrain (n : Nat) (s : State) : State :=
  if s.pst n != .up then s
  else
    let d := draw 8 s
    let s := enterRetrain n 2 (emitOut (.linkSet n 1 0 0 d.1) d.2)
    modPort n (fun p => { p with rreq := some d.1 }) s

/-- EPHY_RETRAIN (R535). -/
def execEphyRetrain (n : Fin 192) (s : State) : Host.Outcome State Fault Refusal := run (ephyRetrain n) s

/-- TX_SLEEP_ENTER: rejected while the channel is not OFF (R551). -/
def txSleepEnter (n : Nat) (s : State) : State :=
  if s.chState n != .off then ephyReject n s
  else if rdB s (ephyB n) R.EPHY_CTRL_TX_SLEEP then s
  else
    let quiet := rdB s (ephyB n) R.EPHY_STATUS_TX_IDLE
    let s := when_ (!quiet) (emitOut (.idle n)) (wrB (ephyB n) R.EPHY_CTRL_TX_SLEEP true s)
    raise 0x0B09 n 1 (wrB (ephyB n) R.EPHY_STATUS_TX_IDLE true s)

/-- TX_SLEEP_ENTER (R551). -/
def execTxSleepEnter (n : Fin 192) (s : State) : Host.Outcome State Fault Refusal := run (txSleepEnter n) s

/-- The state in which the transmitter is at work. -/
def txActive (s : State) (n : Nat) : Bool := s.pst n != .disabled && s.pst n != .detect

/-- TX_SLEEP_EXIT: idle pairs for 10 µs; the packet stream goes on after the next marker; 100 µs for the receiver
(R552). -/
def txSleepExit (n : Nat) (s : State) : State :=
  if !rdB s (ephyB n) R.EPHY_CTRL_TX_SLEEP then s
  else
    let s := wrB (ephyB n) R.EPHY_STATUS_TX_IDLE (!txActive s n || !s.hub.portsOn) (wrB (ephyB n) R.EPHY_CTRL_TX_SLEEP false s)
    let s := when_ (s.pst n = .up) (modPort n (fun p => { p with wakeAt := some s.tick })) s
    let s := when_ (carries s n) (fun s => emitOut (.idlePair n) (modPort n (fun p => { p with txWake := some s.tick }) s)) s
    raise 0x0B09 n 0 s

/-- TX_SLEEP_EXIT (R552). -/
def execTxSleepExit (n : Fin 192) (s : State) : Host.Outcome State Fault Refusal := run (txSleepExit n) s

/-- A non-zero LB_MODE is not accepted (R555). -/
def lbRefused (s : State) (n m : Nat) : Bool :=
  let st := s.pst n
  4 ≤ m || s.chState n != .off || !(s.mode = .dormant || s.mode = .service) || st == .disabled || st == .loopback
    || (m == 3 && st != .up)

/-- LOOPBACK_MODE: a write of LB_MODE (R535, R554, R555). -/
def loopbackMode (n m : Nat) (s : State) : State :=
  let b := ephyB n
  let st := s.pst n
  if m = 0 then
    if st != .loopback then s
    else
      let s := raise 0x0B08 n (rd s b R.EPHY_CTRL_LB_MODE + 65536 * (rd s b R.EPHY_LB_ERR_COUNT % 65536)) s
      enterDetect n (wr b R.EPHY_CTRL_LB_MODE 0 s)
  else if lbRefused s n m then ephyReject n s
  else
    let s := when_ (m = 3) (sendTraining n 3 0 laneNums) (wr b R.EPHY_CTRL_LB_MODE m s)
    let s := toPst n .loopback s
    if m = 3 then setIdle n false false s else emitOut (.idle n) (setIdle n true false s)

/-- LOOPBACK_MODE (R555). -/
def execLoopbackMode (n : Fin 192) (m : Fin 8) (s : State) : Host.Outcome State Fault Refusal := run (loopbackMode n m) s

/-- LOOPBACK_GO: the generator starts; `errs` bytes come back wrong (R554, R555). -/
def loopbackGo (n errs : Nat) (s : State) : State :=
  if s.pst n != .loopback then s else bump (ephyB n) R.EPHY_LB_ERR_COUNT (emitOut (.train n 4 laneNums []) s) errs

/-- LOOPBACK_GO (R554). -/
def execLoopbackGo (n : Fin 192) (errs : Nat) (s : State) : Host.Outcome State Fault Refusal := run (loopbackGo n errs) s

/-- EPHY_CNT_CLR clears the counters of the block (R556). -/
def ephyCntClr (n : Nat) (s : State) : State :=
  let s := resetFlds (ephyB n) [R.EPHY_LB_ERR_COUNT, R.EPHY_TRAIN_CNT_COUNT, R.EPHY_TRAIN_FAIL_CNT_COUNT,
    R.EPHY_NARROW_CNT_COUNT, R.EPHY_WIDEN_CNT_COUNT, R.EPHY_DOWN_CNT_COUNT] s
  each laneNums (fun l => resetFlds (laneB n l) [R.EPHY_LERR_CV, R.EPHY_LERR_DISP, R.EPHY_LLOSS_COUNT]) s

/-- EPHY_CNT_CLR (R556). -/
def execEphyCntClr (n : Fin 192) (s : State) : Host.Outcome State Fault Refusal := run (ephyCntClr n) s

/-- EPHY_TXEQ_WRITE: a write of the register of band `b` (R532, R557). -/
def ephyTxeqWrite (n b v : Nat) (s : State) : State :=
  let pre := bits v 0 5
  let post := bits v 8 5
  if 16 < pre || 24 < post || 32 < pre + post then ephyReject n s
  else
    let s := when_ (rd s (dieB (n / 48)) R.WEIR_AVS_STATUS_BAND = b) (eqAnchor n) s
    wr (ephyB n) R.EPHY_TXEQ_PRE pre
      (wr (ephyB n) R.EPHY_TXEQ_POST post (wr (ephyB n) R.EPHY_TXEQ_SWING (bits v 16 4) s b) b) b

/-- EPHY_TXEQ_WRITE (R557). -/
def execEphyTxeqWrite (n : Fin 192) (b : Fin 5) (v : Nat) (s : State) : Host.Outcome State Fault Refusal :=
  run (ephyTxeqWrite n b v) s

/-! ### Bring-up -/

/-- DETECT_TEST: a test of the lanes finds a head present or not (R535, R536). Tests are made from step 10 of start-up
on (R79), and by no port that a hand-over or a trip keeps in electrical idle (R43). -/
def detectTest (n : Nat) (present : Bool) (s : State) : State :=
  if s.pst n != .detect || !present || rdB s (dieB (n / 48)) R.HUB_DIE_STATUS_IN_RESET || !s.hub.portsOn
      || rdB s (ephyB n) R.EPHY_CTRL_TX_SLEEP then s
  else enterRate n (rd s (ephyB n) R.EPHY_CFG_MAX_RATE) s

/-- DETECT_TEST (R536). -/
def execDetectTest (n : Fin 192) (present : Bool) (s : State) : Host.Outcome State Fault Refusal :=
  run (detectTest n present) s

/-- A training set passes its CRC-8 over characters 1 to 13 (R530): TYPE to SEQ and CRC. -/
def tsValid (ts : List Nat) : Bool := ts.length == 13 && crc8 (0xB5 :: ts.take 12) == ts.getD 12 0

/-- The head's figures of merit, by the lane of ours that each of its lanes receives (R533). -/
def farFoms (n : Nat) (ts : List Nat) (s : State) : State :=
  each laneNums (fun m => wr (laneB n (bits (ts.getD 4 0) (2 * m) 2)) R.EPHY_LFAR_FOM (ts.getD (6 + m) 0)) s

/-- Count a lane's invalid characters (R527). -/
def laneErrors (n l cv disp : Nat) (s : State) : State :=
  bump (laneB n l) R.EPHY_LERR_DISP (bump (laneB n l) R.EPHY_LERR_CV s cv) disp

/-- The lane order is resolved once every locked lane's LANE field has been read (R540). -/
def resolveOrder (n : Nat) (s : State) : State :=
  let rx := (s.port n).laneRx
  let locked := lanesLocked s n
  if !(locked.all (fun l => tget 0 l rx != 0)) then s
  else
    let got := fun l => tget 0 l rx - 1
    let same := locked.filter (fun l => got l == l)
    let flip := locked.filter (fun l => got l == 3 - l)
    let rev := same.length < flip.length
    let fits := if rev then flip else same
    let s := wrB (ephyB n) R.EPHY_STATUS_REVERSED rev s
    let s := each laneNums (fun l => wr (laneB n l) R.EPHY_LSTAT_LOGICAL (if rev then 3 - l else l)) s
    let s := each (locked.filter (fun l => !fits.contains l)) (fun l => wrB (laneB n l) R.EPHY_LSTAT_EXCLUDED true) s
    toPst n .deskew s

/-- A lost or excluded lane that retrains in the background: after 16 valid sets it has lock and polarity (R546). -/
def backgroundSet (n l : Nat) (inv : Bool) (s : State) : State :=
  let k := tget 0 l (s.port n).tsCount + 1
  let s := modPort n (fun p => { p with tsCount := tset 0 l (min 16 k) p.tsCount }) s
  if k = 16 then wrB (laneB n l) R.EPHY_LSTAT_INVERTED inv (wrB (laneB n l) R.EPHY_LSTAT_LOCK true s) else s

/-- TRAINING_SET_RECEIVED: on physical lane `l`, with its POL characters as D10.2 when `inv`; characters 2 to 14; the
invalid characters counted with it. -/
def trainingSet (n l : Nat) (inv : Bool) (cv disp : Nat) (ts : List Nat) (s : State) : State :=
  let s := laneErrors n l cv disp s
  if !tsValid ts then s
  else
    let s := farFoms n ts s
    match s.pst n with
    | .rate =>
      if bitOf (ts.getD 2 0) (rd s (ephyB n) R.EPHY_STATUS_RATE) then enterLock n s else s
    | .polarity =>
      modPort n (fun p => { p with
        tsCount := tset 0 l (min 16 (tget 0 l p.tsCount + 1)) p.tsCount, tsInv := setBit p.tsInv l inv }) s
    | .order =>
      if rdB s (laneB n l) R.EPHY_LSTAT_LOCK then
        resolveOrder n (modPort n (fun p => { p with laneRx := tset 0 l (ts.getD 1 0 % 4 + 1) p.laneRx }) s)
      else s
    | .width => if ts.getD 0 0 = 2 then agreeWidth n (ts.getD 3 0 % 16) s else s
    | .up => if rdB s (laneB n l) R.EPHY_LSTAT_EXCLUDED then backgroundSet n l inv s else s
    | _ => s

/-- TRAINING_SET_RECEIVED (R537 to R542, R546). -/
def execTrainingSetReceived (n : Fin 192) (l : Fin 4) (inv : Bool) (cv disp : Nat) (ts : List Nat) (s : State) :
    Host.Outcome State Fault Refusal :=
  run (trainingSet n l inv cv disp ts) s

/-- RATE_TIMEOUT: 500 µs at a trial rate (R535). -/
def rateTimeout (n : Nat) (s : State) : State :=
  if s.pst n = .rate && (s.port n).stAt + 500 * us ≤ s.tick then trainStep n s else s

/-- RATE_TIMEOUT (R535). -/
def execRateTimeout (n : Fin 192) (s : State) : Host.Outcome State Fault Refusal := run (rateTimeout n) s

/-- LOCK_STATE_END: the lanes of `mask` have character lock; with all four, or after 1 ms with at least one, the others
are excluded (R535, R538). -/
def lockStateEnd (n mask : Nat) (s : State) : State :=
  if s.pst n != .lock || mask = 0 || !(mask == 15 || decide ((s.port n).stAt + ms ≤ s.tick)) then s
  else
    toPst n .polarity (each laneNums (fun l s =>
      if bitOf mask l then wrB (laneB n l) R.EPHY_LSTAT_LOCK true s
      else wrB (laneB n l) R.EPHY_LSTAT_EXCLUDED true s) s)

/-- LOCK_STATE_END (R538). -/
def execLockStateEnd (n : Fin 192) (mask : Fin 16) (s : State) : Host.Outcome State Fault Refusal :=
  run (lockStateEnd n mask) s

/-- POLARITY_DONE: 16 valid training sets on each locked lane; inverted lanes are corrected (R539). -/
def polarityDone (n : Nat) (s : State) : State :=
  let p := s.port n
  if s.pst n != .polarity || !((lanesLocked s n).all (fun l => 16 ≤ tget 0 l p.tsCount)) then s
  else
    toPst n .order (each (lanesLocked s n) (fun l => wrB (laneB n l) R.EPHY_LSTAT_INVERTED (bitOf p.tsInv l)) s)

/-- POLARITY_DONE (R539). -/
def execPolarityDone (n : Fin 192) (s : State) : Host.Outcome State Fault Refusal := run (polarityDone n) s

/-- Markers of equal SEQ have come on every remaining lane: the lanes are deskewed (R541). -/
def deskew (n : Nat) (s : State) : State :=
  let left := lanesLeft s n
  let mk := fun l => tget (0, 0) l (s.port n).markers
  match left with
  | [] => s
  | l0 :: _ =>
    if !(left.all (fun l => (mk l).2 != 0 && (mk l).1 == (mk l0).1)) then s
    else
      let first := left.foldl (fun a l => min a (mk l).2) (mk l0).2
      let s := each left (fun l s =>
        let k := (mk l).2 - first
        let s := wr (laneB n l) R.EPHY_LSTAT_SKEW (satU 6 k) s
        if 40 < k then wrB (laneB n l) R.EPHY_LSTAT_EXCLUDED true s else wrB (laneB n l) R.EPHY_LSTAT_DESKEWED true s) s
      sendTraining n 2 0 laneNums (toPst n .width s)

/-- ALIGNMENT_MARKER_RECEIVED: on physical lane `l` at character position `pos` with SEQ and STAT; the invalid
characters counted before it (R527, R528, R541, R543, R546, R552). -/
def markerReceived (n l pos seq stat cv disp : Nat) (s : State) : State :=
  let s := laneErrors n l cv disp s
  let lb := laneB n l
  match s.pst n with
  | .deskew => deskew n (modPort n (fun p => { p with markers := tset (0, 0) l (seq, pos + 1) p.markers }) s)
  | .up =>
    let p := s.port n
    if rdB s lb R.EPHY_LSTAT_EXCLUDED then
      -- a retraining lane with lock aligns to the marker grid
      if rdB s lb R.EPHY_LSTAT_LOCK && !rdB s lb R.EPHY_LSTAT_DESKEWED && 16 ≤ tget 0 l p.tsCount then
        let high := rd s (ephyB n) R.EPHY_CFG_FOM_MIN ≤ rd s lb R.EPHY_LSTAT_FOM
        modPort n (fun p => { p with back := if high then tset 0 l (s.tick + 1) p.back else p.back })
          (wrB lb R.EPHY_LSTAT_DESKEWED true s)
      else s
    else
      let s := when_ p.wakeAt.isSome (wrB lb R.EPHY_LSTAT_LOCK true ∘ wrB lb R.EPHY_LSTAT_DESKEWED true) s
      -- the head reports the matching lanes lost
      let lost := laneNums.filter (fun k => laneUsed s n (logicalLane s n k) && isGood s n (logicalLane s n k)
        && !bitOf stat (logicalLane s n k))
      lanesLost n lost 4 s
  | _ => s

/-- ALIGNMENT_MARKER_RECEIVED (R541). -/
def execAlignmentMarkerReceived (n : Fin 192) (l : Fin 4) (pos : Nat) (seq : Fin 256) (stat : Fin 32) (cv disp : Nat)
    (s : State) : Host.Outcome State Fault Refusal :=
  run (markerReceived n l pos seq stat cv disp) s

/-- TRAINING_TIMEOUT: a failure from LOCK to WIDTH. The limits of LOCK, DESKEW and WIDTH are those of R535; the
specification states none for POLARITY and ORDER. -/
def trainingTimeout (n : Nat) (s : State) : State :=
  let e := s.tick - (s.port n).stAt
  let due : Bool := match s.pst n with
    | .lock => ms ≤ e
    | .polarity => true
    | .order => true
    | .deskew => 4 * markerPeriod s n ≤ e
    | .width => ms ≤ e
    | _ => false
  if due then trainStep n s else s

/-- TRAINING_TIMEOUT (R535). -/
def execTrainingTimeout (n : Fin 192) (s : State) : Host.Outcome State Fault Refusal := run (trainingTimeout n) s

/-- IDENT_TIMEOUT: no identification within 50 ms (R535). -/
def identTimeout (n : Nat) (s : State) : State :=
  if s.pst n = .ident && (s.port n).stAt + 50 * ms ≤ s.tick then trainFailed n s else s

/-- IDENT_TIMEOUT (R535). -/
def execIdentTimeout (n : Fin 192) (s : State) : Host.Outcome State Fault Refusal := run (identTimeout n) s

/-! ### Running -/

/-- A width switch may happen at a marker sent now (R547, R590). -/
def switchDue (s : State) (n : Nat) : Option WidthReq :=
  match (s.port n).wreq with
  | some r =>
    let st := s.chState n
    let bnd := (s.weir n).curAny && (s.port n).widenAt < (s.weir n).curF
    if r.acked && (!r.widen || st = .off || st = .faulted || bnd) then some r else none
  | none => none

/-- A marker may be sent now, `late` characters after its nominal place: it waits, up to 16 characters, for the end of a
SYNC or LAUNCH set that it would overlap, and for nothing else; and its nominal place is 4096 characters or more after the
previous one's (R528, R529). Places are taken to a tick. -/
def markerFits (s : State) (n late : Nat) : Bool :=
  let p := s.port n
  let c := charPeriod s n
  let at_ := 10 * s.ht
  let meets := at_ < p.setAt.2 + late * c && p.setAt.1 < at_ + 4 * c - late * c
  (if late = 0 then !meets else meets && p.setAt.2 ≤ at_)
    && (match p.markNom with
        | some x => x + 4096 * c ≤ 10 * s.tick + 10
        | none => true)
    && (match p.txWake with
        | some t => t + 10 * us ≤ s.tick
        | none => true)

/-- WIDEN_READY of the STAT field: a lane has become good that is not in use (R546). -/
def widenReady (s : State) (n : Nat) : Bool :=
  laneNums.any (fun l => isGood s n l && !laneUsed s n l)

/-- ALIGNMENT_MARKER_SEND: markers on every lane in use or being trained, with the new width at a switch; after a sleep
the packet stream goes on (R528, R529, R544, R547, R552, R590). -/
def markerSend (n late : Nat) (s : State) : State :=
  let st := s.pst n
  if st = .disabled || st = .detect || rdB s (ephyB n) R.EPHY_STATUS_TX_IDLE || !markerFits s n late then s
  else
    let woke := (s.port n).txWake.isSome
    let s := modPort n (fun p => { p with
      markSeq := (p.markSeq + 1) % 256, markNom := some (10 * s.tick - late * charPeriod s n), txWake := none }) s
    let due := if carries s n then switchDue s n else none
    let w := match due with
      | some r => r.width
      | none => rd s (ephyB n) R.EPHY_STATUS_WIDTH
    let stat := rd s (ephyB n) R.EPHY_STATUS_GOOD + 16 * b2n (widenReady s n)
    let s := emitOut (.marker n w (s.port n).markSeq stat) s
    match due with
    | some r => switchWidth n r s
    | none => if woke then sendTokens n (resendRequests n s) else s

/-- ALIGNMENT_MARKER_SEND (R528). -/
def execAlignmentMarkerSend (n : PortLate) (s : State) : Host.Outcome State Fault Refusal := run (markerSend n.n n.late) s

/-- LANE_LOST: physical lane `l` is decided lost for cause 1 to 4 of R543; `merged` losses were merged into the
occurrence at a full crossing (R705). -/
def laneLost (n l cause merged : Nat) (s : State) : State :=
  let s := dieOverrun (n / 48) (16 + n % 48) merged s
  let s := bump (laneB n l) R.EPHY_LLOSS_COUNT s merged
  lanesLost n [l] cause s

/-- LANE_LOST (R543). -/
def execLaneLost (n : Fin 192) (l : Fin 4) (cause : Fin 4) (merged : Nat) (s : State) :
    Host.Outcome State Fault Refusal :=
  run (laneLost n l (cause + 1) merged) s

/-- WIDTH_ACK_TIMEOUT: the request goes once more after 2 µs; after 10 µs every lane in use is lost (R590). -/
def widthAckTimeout (n : Nat) (s : State) : State :=
  match (s.port n).wreq with
  | some r =>
    if r.acked then s
    else if r.sentAt + 10 * us ≤ s.tick then allLost n (modPort n (fun p => { p with wreq := none }) s)
    else if r.sentAt + 2 * us ≤ s.tick && !r.resent then
      emitOut (.linkSet n 3 r.width r.lanes r.seq) (modPort n (fun p => { p with wreq := some { r with resent := true } }) s)
    else s
  | none => s

/-- WIDTH_ACK_TIMEOUT (R590). -/
def execWidthAckTimeout (n : Fin 192) (s : State) : Host.Outcome State Fault Refusal := run (widthAckTimeout n) s

/-- PORT_LOSS_TIMEOUT: the port is not UP again within LOSS_MS (R549). -/
def portLossTimeout (n : Nat) (s : State) : State :=
  match (s.port n).lossAt with
  | some t =>
    let lim := max 1 (rd s (ephyB n) R.EPHY_CFG_LOSS_MS)
    if t + lim * ms ≤ s.tick then
      chFault n 4 (raise 0x0B07 n lim (modPort n (fun p => { p with lossAt := none }) s))
    else s
  | none => s

/-- PORT_LOSS_TIMEOUT (R549). -/
def execPortLossTimeout (n : Fin 192) (s : State) : Host.Outcome State Fault Refusal := run (portLossTimeout n) s

/-- LANE_QUALIFIED: a retrained lane has held its FOM for WIDEN_HOLD ms (R546, R547). -/
def laneQualified (n l : Nat) (s : State) : State :=
  let t := tget 0 l (s.port n).back
  let hold := max 1 (rd s (ephyB n) R.EPHY_CFG_WIDEN_HOLD)
  if s.pst n != .up || t = 0 || s.tick + 1 < t + hold * ms then s
  else
    let s := modPort n (fun p => { p with back := terase l p.back }) s
    let s := wrB (laneB n l) R.EPHY_LSTAT_EXCLUDED false s
    widenCheck n (wr (ephyB n) R.EPHY_STATUS_GOOD (setBit (rd s (ephyB n) R.EPHY_STATUS_GOOD) (logicalLane s n l) true) s)

/-- LANE_QUALIFIED (R546). -/
def execLaneQualified (n : Fin 192) (l : Fin 4) (s : State) : Host.Outcome State Fault Refusal :=
  run (laneQualified n l) s

/-- The lane's equaliser adapts its five taps, to values of its own, while the lane has character lock and the taps are
not held (R531). -/
def dfeAdapt (n l : Nat) (s : State) : State :=
  if rdB s (laneB n l) R.EPHY_LSTAT_LOCK && !rdB s (ephyB n) R.EPHY_CTRL_DFE_HOLD then
    let r := (List.range 5).foldl (fun (a : List Nat × State) _ => let d := draw 8 a.2; (a.1 ++ [d.1], d.2)) ([], s)
    modPort n (fun p => { p with dfe := tset [] l r.1 p.dfe }) r.2
  else s

/-- One lane's update of its figure of merit (R533, R534, R546). -/
def laneFom (n l v : Nat) (s : State) : State :=
  let v := if rdB s (laneB n l) R.EPHY_LSTAT_LOCK then v % 256 else 0
  let s := wr (laneB n l) R.EPHY_LSTAT_FOM v s
  let low : Bool := v < rd s (ephyB n) R.EPHY_CFG_FOM_MIN
  let since := fun (t : Tbl Nat) => if tget 0 l t = 0 then tset 0 l (s.tick + 1) t else t
  let deskewed := rdB s (laneB n l) R.EPHY_LSTAT_DESKEWED
  let excluded := rdB s (laneB n l) R.EPHY_LSTAT_EXCLUDED
  let s := modPort n (fun p => { p with
    fomLow := if low then since p.fomLow else terase l p.fomLow
    fomHigh := if low then terase l p.fomHigh else since p.fomHigh
    back := if excluded && deskewed && !low then since p.back else terase l p.back }) s
  let s := dfeAdapt n l s
  let h := tget 0 l (s.port n).fomHigh
  when_ (h != 0 && decide (h + 100 * ms ≤ s.tick + 1)) (wrB (laneB n l) R.EPHY_LSTAT_MARGINAL false) s

/-- FOM_UPDATE: the eye monitors' results, by physical lane (R533). -/
def fomUpdate (n : Nat) (foms : List Nat) (s : State) : State :=
  each laneNums (fun l => laneFom n l (foms.getD l 0)) s

/-- FOM_UPDATE (R533). -/
def execFomUpdate (n : Fin 192) (foms : List Nat) (s : State) : Host.Outcome State Fault Refusal :=
  run (fomUpdate n foms) s

/-- LANE_MARGINAL: a lane in use has been below FOM_MIN at every update over 100 ms (R534). -/
def laneMarginal (n l : Nat) (s : State) : State :=
  let t := tget 0 l (s.port n).fomLow
  if !carries s n || !laneUsed s n (logicalLane s n l) || t = 0 || s.tick + 1 < t + 100 * ms
      || rdB s (laneB n l) R.EPHY_LSTAT_MARGINAL then s
  else
    raise 0x0B06 n (l + 256 * rd s (laneB n l) R.EPHY_LSTAT_FOM) (wrB (laneB n l) R.EPHY_LSTAT_MARGINAL true s)

/-- LANE_MARGINAL (R534). -/
def execLaneMarginal (n : Fin 192) (l : Fin 4) (s : State) : Host.Outcome State Fault Refusal :=
  run (laneMarginal n l) s

/-! ### Sleep of the receiver -/

/-- RX_IDLE_ENTER: the head's electrical-idle set; on a channel that runs it is a loss of every lane (R553). -/
def rxIdleEnter (n : Nat) (s : State) : State :=
  if !carries s n || rdB s (ephyB n) R.EPHY_STATUS_RX_IDLE then s
  else
    let s := raise 0x0B09 n 3 (wrB (ephyB n) R.EPHY_STATUS_RX_IDLE true s)
    let s := each laneNums (fun l => wrB (laneB n l) R.EPHY_LSTAT_LOCK false
      ∘ wrB (laneB n l) R.EPHY_LSTAT_DESKEWED false) s
    match s.chState n with
    | .off => s
    | .faulted => s
    | _ => allLost n s

/-- RX_IDLE_ENTER (R553). -/
def execRxIdleEnter (n : Fin 192) (s : State) : Host.Outcome State Fault Refusal := run (rxIdleEnter n) s

/-- RX_WAKE: a lane in use leaves electrical idle (R553). -/
def rxWake (n : Nat) (s : State) : State :=
  if !carries s n || !rdB s (ephyB n) R.EPHY_STATUS_RX_IDLE then s
  else
    raise 0x0B09 n 2 (modPort n (fun p => { p with wakeAt := some s.tick }) (wrB (ephyB n) R.EPHY_STATUS_RX_IDLE false s))

/-- RX_WAKE (R553). -/
def execRxWake (n : Fin 192) (s : State) : Host.Outcome State Fault Refusal := run (rxWake n) s

/-- WAKE_TIMEOUT: 100 µs after a wake without lock and deskew on the lanes in use (R552, R553). -/
def wakeTimeout (n : Nat) (s : State) : State :=
  match (s.port n).wakeAt with
  | some t =>
    if s.tick < t + 100 * us then s
    else
      let ok := laneNums.all (fun l => !laneUsed s n (logicalLane s n l)
        || (rdB s (laneB n l) R.EPHY_LSTAT_LOCK && rdB s (laneB n l) R.EPHY_LSTAT_DESKEWED))
      let s := modPort n (fun p => { p with wakeAt := none }) s
      if ok || s.pst n != .up then s else enterRetrain n 4 s
  | none => s

/-- WAKE_TIMEOUT (R552). -/
def execWakeTimeout (n : Fin 192) (s : State) : Host.Outcome State Fault Refusal := run (wakeTimeout n) s

end Sys2Proof.Machine
end

