-- ==== Sys2Proof/Machine/Epoch.lean ====
section
/-!
DEFINITION. Epochs and broken locks (spec/17_inside_the_package.md R710, R712, R721), which every unit that is reset
needs.
-/

namespace Sys2Proof.Machine
open Sys2Proof

def lockOwner (s : State) (n : Nat) : Nat := rd s (lockB n) R.LOCK_STAT_OWNER

/-- The lock becomes free. -/
def freeLock (n : Nat) (s : State) : State :=
  { wr (lockB n) R.LOCK_STAT_OWNER 0xFFFF s with lockAt := terase n s.lockAt }

/-- An owned lock breaks (R721). -/
def breakLock (n cause : Nat) (s : State) : State :=
  let o := lockOwner s n
  if o = 0xFFFF then s
  else
    let b := lockB n
    let s := wrB b R.LOCK_STAT_BROKEN true (wr b R.LOCK_STAT_CAUSE cause (wr b R.LOCK_PREV_OWNER o (freeLock n s)))
    raise 0x0F09 noCh (n + 256 * cause + 65536 * o) (bump lockUnitB R.LOCK_BROKEN_CNT_COUNT s)

/-- The owned locks that satisfy `p`, by owner, break with cause 0b01. -/
def breakOwned (p : Nat → Bool) (s : State) : State :=
  each ((s.lockAt.map (·.1)).filter (fun n => p (lockOwner s n))) (fun n => breakLock n 1) s

/-- The epoch of a unit: class and index (R710). -/
def epoch (s : State) (cls i : Nat) : Nat := tget 0 (512 * cls + i) s.epochs

/-- A trigger of a unit: its epoch, `count` UNIT_RESET completions, event 0x0F01 but for functions, and the locks the
unit owns (R710, R712, R721, R730). -/
def trigger (cls idx count : Nat) (s : State) : State :=
  let s := { s with epochs := tset 0 (512 * cls + idx) ((epoch s cls idx + 1) % 65536) s.epochs }
  let s := if count = 0 then s
    else emitOut (.unitReset cls idx count) (bump fabB R.HUB_FAB_UNITRESET_CNT_COUNT s count)
  let s := if cls = 5 then s else raise 0x0F01 noCh (cls + 16 * idx + 65536 * satU 16 count) s
  if cls = 0 then breakOwned (· == 0x400 + idx) s
  else if cls = 5 && idx = 0 then breakOwned (· == 0) s
  else s

end Sys2Proof.Machine
end

