-- ==== Sys2Proof/Machine/Health.lean ====
section
/-!
DEFINITION. Changes of the device mode, of HUB_DEGRADE and of HUB_REPLACE (spec/02_modes_power_hold.md R45, R49, R53,
R54; spec/18_heat_calibration_wear.md R763), which many units bring about.
-/

namespace Sys2Proof.Machine
open Sys2Proof

/-- The lamp ceiling of RUNNING channels moves at their next frame boundary (R54). -/
def ceilAll (s : State) : State :=
  each channels (fun n s =>
    if s.chState n = .running then modWeir n (fun w => { w with ceilDue := true }) s else s) s

/-- The mode changes: HUB_MODE, event 0x0101, the ceilings of R54 and the rills (R104, R446). -/
def setMode (m : Mode) (cause : Nat) (s : State) : State :=
  let old := s.mode
  let s := wr hubB R.HUB_MODE_MODE m.code (wr hubB R.HUB_MODE_CAUSE cause s)
  let s := bumpSnap (raise 0x0101 noCh (m.code + 256 * old.code + 65536 * cause) s)
  let show_ := fun (x : Mode) => x == .show_ || x == .degraded
  let s := when_ (m == .hold || m == .tripped) (calStarve (fun _ => true)) s
  let s := when_ ((old == .service && show_ m) || (m == .service && show_ old)) ceilAll s
  each channels refreshSafeDark s

/-- The value of HUB_DEGRADE. -/
def degrade (s : State) : Nat :=
  rd s hubB R.HUB_DEGRADE_REPLACE + 2 * rd s hubB R.HUB_DEGRADE_CONFIG_DIVERGED
    + 4 * rd s hubB R.HUB_DEGRADE_DIE_OFFLINE + 8 * rd s hubB R.HUB_DEGRADE_CONTAINED

/-- A bit of HUB_DEGRADE takes a value: event 0x0103, and SHOW and DEGRADED follow it (R53). -/
def setDegrade (f : Fld) (v : Bool) (s : State) : State :=
  if rdB s hubB f == v then s
  else
    let s := wrB hubB f v s
    let s := bumpSnap (raise 0x0103 noCh (degrade s) s)
    if s.mode = .show_ && v then setMode .degraded 3 s
    else if s.mode = .degraded && degrade s = 0 && rd s hubB R.HUB_MODE_TARGET = 2 then setMode .show_ 4 s
    else s

/-- The cause bits of HUB_REPLACE, in order. -/
def replaceBits : List Fld :=
  [R.HUB_REPLACE_PIPE, R.HUB_REPLACE_LOOP, R.HUB_REPLACE_RANK, R.HUB_REPLACE_UCIE, R.HUB_REPLACE_CONFIG,
   R.HUB_REPLACE_HOLD]

/-- HUB_REPLACE[15:0]. -/
def replaceVal (s : State) : Nat :=
  (replaceBits.zipIdx).foldl (fun a p => a + rd s healthB p.1 * 2 ^ p.2) 0

/-- HUB_REPLACE changes as `g` says: event 0x1010 at a change, and HUB_DEGRADE.REPLACE follows (R763). -/
def changeReplace (g : State → State) (s : State) : State :=
  let whole := fun (x : State) =>
    (replaceVal x, rd x healthB R.HUB_REPLACE_PIPE_DIES, rd x healthB R.HUB_REPLACE_LOOP_DIES)
  let t := g s
  if whole t = whole s then t
  else
    let up : Bool := decide (replaceVal t ≠ replaceVal s) && (List.range 6).any (fun i => bitOf (replaceVal t) i && !bitOf (replaceVal s) i)
    let dies : Bool := decide ((whole s).2.1 < (whole t).2.1) || decide ((whole s).2.2 < (whole t).2.2)
    setDegrade R.HUB_DEGRADE_REPLACE (replaceVal t != 0)
      (bumpSnap (raise 0x1010 noCh (replaceVal t + 65536 * b2n (up || dies)) t))

/-- A cause bit of HUB_REPLACE takes a value. -/
def setReplace (f : Fld) (v : Bool) (s : State) : State := changeReplace (wrB healthB f v) s

/-- A cause that a Reach die has: its bit of the mask field is set, and with it the cause bit (R766). -/
def setReplaceDie (f m : Fld) (d : Nat) (s : State) : State :=
  changeReplace (fun s => wr healthB m (setBit (rd s healthB m) d true) (wrB healthB f true s)) s

/-- The spare record has changed and waits to be written (R753, R766). -/
def spareChanged (s : State) : State := recDirty 4 (wrB healthB R.HUB_SPREC_PENDING true s)

end Sys2Proof.Machine
end

