-- ==== Sys2Proof/Machine/Ddr.lean ====
section
/-!
DEFINITION. The memory controllers (spec/15_memory.md): where an address lies, the requests a channel takes, its errors
and the poison marker, its refreshes, pauses and self-refresh, and the migration to a spare rank.
-/

namespace Sys2Proof.Machine
open Sys2Proof

def State.ddr (s : State) (d m : Nat) : DdrSt := tget {} (8 * d + m) s.ddrs
def modDdr (d m : Nat) (f : DdrSt → DdrSt) (s : State) : State :=
  { s with ddrs := tset {} (8 * d + m) (f (s.ddr d m)) s.ddrs }

/-- DDR_STATUS.STATE of a channel (R632): 2 UP, 3 SELF_REFRESH, 4 RETRAINING, 5 FAILED. -/
def ddrState (s : State) (d m : Nat) : Nat := rd s (ddrB d m) R.DDR_STATUS_STATE
def setDdrState (d m v : Nat) (s : State) : State := wr (ddrB d m) R.DDR_STATUS_STATE v s

/-! ### The address map (R600, R602) -/

/-- Where a granule lies: die, channel, subchannel, bank (group in the low three bits), row and physical rank. -/
structure Loc where
  d : Nat
  m : Nat
  sub : Nat
  bank : Nat
  row : Nat
  rank : Nat
deriving DecidableEq, Repr

/-- A number without bit `p`, the gap closed downward. -/
def dropBit (x p : Nat) : Nat := x / 2 ^ (p + 1) * 2 ^ p + x % 2 ^ p

/-- A number without the bits of `ps`. -/
def dropBits (x : Nat) (ps : List Nat) : Nat :=
  (((List.range 64).reverse).filter (fun p => ps.contains p)).foldl dropBit x

/-- Fold bits p_0 to p_3, and q_0 to q_4. -/
def cfolds (s : State) (d : Nat) : List Nat :=
  [rd s (ddrDieB d) R.DDR_DIE_CFOLD_P0, rd s (ddrDieB d) R.DDR_DIE_CFOLD_P1,
   rd s (ddrDieB d) R.DDR_DIE_CFOLD_P2, rd s (ddrDieB d) R.DDR_DIE_CFOLD_P3]
def bfolds (s : State) (d : Nat) : List Nat := (List.range 5).map (fun j => bits (rd s (ddrDieB d) R.DDR_DIE_BFOLD_Q) (6 * j) 6)

/-- Mask N_j. -/
def bmask (s : State) (d j : Nat) : Nat :=
  rd s (ddrDieB d) R.DDR_DIE_BMASK_LO_MASK j + rd s (ddrDieB d) R.DDR_DIE_BMASK_HI_MASK j * 2 ^ 32

/-- Physical ranks in the order of the logical ranks (R602). -/
def physRanks (s : State) (d m : Nat) : List Nat :=
  if (s.ddr d m).ranks = [] then bitList 4 (rd s (ddrB d m) R.DDR_STATUS_IN_SERVICE) else (s.ddr d m).ranks

/-- The location of a device address. -/
def locate (s : State) (a : Nat) : Loc :=
  let d := dieOf a
  let m := chanOf s a
  let S := dropBits (dieOfs a) (cfolds s d)
  let bank := (List.range 5).foldl (fun x j => x + parity (S &&& bmask s d j) * 2 ^ j) 0
  let x := dropBits S (bfolds s d) / 2 ^ rd s (ddrB d m) R.DDR_GEOM_PAGE_BITS
  let rows := rd s (ddrB d m) R.DDR_GEOM_ROW_BITS
  { d, m, sub := cbit s a 0, bank, row := x % 2 ^ rows, rank := (physRanks s d m).getD (x / 2 ^ rows) 0 }

/-- Key of a bank of a channel, and of a row of it. -/
def Loc.bankKey (l : Loc) : Nat := (2 * l.rank + l.sub) * 32 + l.bank
def Loc.rowKey (l : Loc) : Nat := l.bankKey * 2 ^ 24 + l.row % 2 ^ 24

/-- ARG[4:0] of a memory event (R634). -/
def chanArg (d m : Nat) : Nat := m + 8 * d

/-! ### Migration and thresholds (R626 to R629) -/

/-- HUB_SPARE_SUM.RANKS_FREE of a die (R766). -/
def refreshRanksFree (d : Nat) (s : State) : State :=
  wr healthB R.HUB_SPARE_SUM_RANKS_FREE
    ((List.range 8).filter (fun m => rdB s (ddrB d m) R.DDR_STATUS_SPARE_AVAIL)).length s d

/-- A migration of rank `r` to the channel's spare starts: event 0x0D06, `asked` for one that MIGRATE started. -/
def startMigration (d m r : Nat) (asked : Bool) (s : State) : State :=
  let b := ddrB d m
  let sp := rd s b R.DDR_STATUS_SPARE
  let s := wr b R.DDR_MIG_FROM r (wr b R.DDR_MIG_TO sp (wr b R.DDR_MIG_PROGRESS 0 s))
  raise 0x0D06 noCh (chanArg d m + 32 * r + 128 * sp + 512 * b2n asked) (wrB b R.DDR_STATUS_MIGRATING true s)

/-- An unused spare rank exists and no migration runs. -/
def spareReady (s : State) (d m : Nat) : Bool :=
  rdB s (ddrB d m) R.DDR_STATUS_SPARE_AVAIL && !rdB s (ddrB d m) R.DDR_STATUS_MIGRATING

/-- The spare is used up. -/
def spareSpent (d m : Nat) (s : State) : State :=
  refreshRanksFree d (wrB (ddrB d m) R.DDR_STATUS_SPARE_AVAIL false (wrB (ddrB d m) R.DDR_STATUS_SPARE_USED true s))

/-- The spare rank crosses its threshold during the migration, which is abandoned (R629). -/
def abandonMigration (d m : Nat) (s : State) : State :=
  let b := ddrB d m
  let from_ := rd s b R.DDR_MIG_FROM
  let s := spareSpent d m (wrB b R.DDR_STATUS_MIGRATING false s)
  spareChanged (wrB b R.DDR_RANK_OVER true
    (raise 0x0D07 noCh (chanArg d m + 32 * from_ + 128 * rd s b R.DDR_MIG_TO + 512) s) from_)

/-- Rank `r` crosses its threshold (R626, R629). -/
def rankThreshold (d m r : Nat) (s : State) : State :=
  let b := ddrB d m
  if rdB s b R.DDR_STATUS_MIGRATING && r == rd s b R.DDR_MIG_TO then abandonMigration d m s
  else if spareReady s d m && bitOf (rd s b R.DDR_STATUS_IN_SERVICE) r then startMigration d m r false s
  else raise 0x0D08 noCh (chanArg d m + 32 * r) (wrB b R.DDR_RANK_OVER true s r)

/-- The threshold of the buckets. -/
def ceThr (s : State) (d : Nat) : Nat := max 1 (rd s (ddrDieB d) R.DDR_DIE_RAS0_CE_THR)

/-- A rank's bucket takes a value; the rank crosses when the bucket comes to stand at the threshold. -/
def setBucket (d m r v : Nat) (s : State) : State :=
  let hit : Bool := ceThr s d ≤ v
  let was := bitOf (s.ddr d m).above r
  let s := wr (ddrB d m) R.DDR_RANK_BUCKET v s r
  when_ (hit && !was) (rankThreshold d m r)
    (modDdr d m (fun x => { x with above := setBit x.above r hit }) s)

/-! ### Errors (R619, R620, R630) -/

/-- The physical rank an access to a location reached: `spare` for the copy of a migrated granule (R628). -/
def errRank (s : State) (l : Loc) (spare : Bool) : Nat :=
  let b := ddrB l.d l.m
  if spare && rdB s b R.DDR_STATUS_MIGRATING && l.rank == rd s b R.DDR_MIG_FROM then rd s b R.DDR_MIG_TO else l.rank

/-- DDR_ERR_ADDR and DDR_ERR_INFO. -/
def recordErr (l : Loc) (a r type dev : Nat) (s : State) : State :=
  let b := ddrB l.d l.m
  let s := wr b R.DDR_ERR_ADDR_LO_ADDR (a % 2 ^ 32) (wr b R.DDR_ERR_ADDR_HI_ADDR (a / 2 ^ 32) s)
  wr b R.DDR_ERR_INFO_TYPE type (wr b R.DDR_ERR_INFO_RANK r (wr b R.DDR_ERR_INFO_SUBCH l.sub
    (wr b R.DDR_ERR_INFO_DEVICE dev s)))

/-- The row has had ROW_THR correctable errors since start-up: it is recorded for repair (R630). -/
def recordRow (l : Loc) (r : Nat) (s : State) : State :=
  let key := { l with rank := r }.rowKey
  if s.spareRows.contains (8 * l.d + l.m, key) then s
  else
    let s := spareChanged { s with spareRows := s.spareRows ++ [(8 * l.d + l.m, key)] }
    raise 0x0D0F noCh (chanArg l.d l.m + 32 * r + 128 * l.sub + 256 * (l.row % 2 ^ 24))
      (bump (ddrB l.d l.m) R.DDR_RANK_ROWS s 1 r)

/-- A correctable error (R619, R626, R630). -/
def correctable (a : Nat) (l : Loc) (r dev : Nat) (s : State) : State :=
  let b := ddrB l.d l.m
  let s := recordErr l a r 1 dev (bump b R.DDR_CE_CNT_COUNT s)
  let s := raiseRate (0x0D01 * 1024 + 8 * l.d + l.m) 0x0D01 noCh
    (chanArg l.d l.m + 32 * r + 128 * l.sub + 256 * dev) 12 20 s
  let key := { l with rank := r }.rowKey
  let c := tget 0 key (s.ddr l.d l.m).rows + 1
  let s := modDdr l.d l.m (fun x => { x with rows := tset 0 key c x.rows }) s
  let s := when_ (c == max 1 (rd s (ddrDieB l.d) R.DDR_DIE_RAS1_ROW_THR)) (recordRow l r) s
  setBucket l.d l.m r (satU 16 (rd s b R.DDR_RANK_BUCKET r + 1)) s

/-- A rank's first uncorrectable error that is not on a poisoned burst crosses the threshold (R626). -/
def firstUe (d m r : Nat) (s : State) : State :=
  if bitOf (s.ddr d m).ue r then s
  else rankThreshold d m r (modDdr d m (fun x => { x with ue := setBit x.ue r true }) s)

/-- The burst takes the poison marker (R620). -/
def markPoison (g : Nat) (s : State) : State := { s with poison := tset 0 g 1 s.poison }

/-- An uncorrectable error: the burst is rewritten with the poison marker (R619). -/
def uncorrectable (g : Nat) (l : Loc) (r : Nat) (s : State) : State :=
  let s := recordErr l (64 * g) r 2 15 (bump (ddrB l.d l.m) R.DDR_UE_CNT_COUNT (markPoison g s))
  firstUe l.d l.m r (raise 0x0D02 noCh (chanArg l.d l.m + 32 * r + 128 * l.sub) s)

/-- A partial write to a bad or poisoned burst (R621). -/
def poisonWritten (g : Nat) (l : Loc) (r : Nat) (old : Bool) (s : State) : State :=
  raise 0x0D03 noCh (chanArg l.d l.m + 32 * r + 128 * b2n old)
    (recordErr l (64 * g) r 3 15 (bump (ddrB l.d l.m) R.DDR_POISON_WR_CNT_COUNT s))

/-! ### Initialisation (R618) -/

/-- Blocks of 1 MiB of a die. -/
def dieBlocks (s : State) (d : Nat) : Nat := rd s (ddrDieB d) R.DDR_DIE_CAP_GIB * 1024

/-- INIT_PROGRESS, and INIT_DONE with event 0x0D0C when every block is done. -/
def initCheck (d : Nat) (s : State) : State :=
  let x := s.die d
  let n := x.initNext + (x.initOut.filter (x.initNext ≤ ·)).length
  let s := wr (ddrDieB d) R.DDR_DIE_STATUS_INIT_PROGRESS (satU 8 (256 * n / max 1 (dieBlocks s d))) s
  if dieBlocks s d ≤ x.initNext && !rdB s (ddrDieB d) R.DDR_DIE_STATUS_INIT_DONE then
    raise 0x0D0C noCh (8 * d) (wrB (ddrDieB d) R.DDR_DIE_STATUS_INIT_DONE true
      (modDie d (fun x => { x with initOut := [] }) s))
  else s

/-- The number of the next block that is not initialised, from `k` on. -/
def initSkip (out : List Nat) : Nat → Nat → Nat
  | 0, k => k
  | f + 1, k => if out.contains k then initSkip out f (k + 1) else k

/-- A request to a block not yet initialised: that block is initialised first. -/
def initFor (g : Nat) (s : State) : State :=
  let d := dieOf (64 * g)
  let k := dieOfs (64 * g) / 2 ^ 20
  let x := s.die d
  if rdB s (ddrDieB d) R.DDR_DIE_STATUS_INIT_DONE || k < x.initNext || x.initOut.contains k then s
  else
    let out := x.initOut ++ [k]
    initCheck d (modDie d (fun x => { x with initNext := initSkip out out.length x.initNext, initOut := out }) s)

/-! ### The write queue (R604 to R607) -/

def refreshWq (d m : Nat) (s : State) : State :=
  let b := ddrB d m
  let n := (s.ddr d m).wq.length
  let s := wr b R.DDR_WQ_USED n (wr b R.DDR_WQ_PEAK (max n (rd s b R.DDR_WQ_PEAK)) s)
  if n ≤ rd s (ddrDieB d) R.DDR_DIE_WQ_LOW then wrB b R.DDR_WQ_BATCH false s
  else when_ (rd s (ddrDieB d) R.DDR_DIE_WQ_HIGH ≤ n) (wrB b R.DDR_WQ_BATCH true) s

/-- A write of granule `g` is queued, in place of an entry of that granule; with 64 entries queued the batch issues its
oldest write first, so that none is dropped for want of space (R605). -/
def queueWrite (g : Nat) (l : Loc) (s : State) : State :=
  let q := (s.ddr l.d l.m).wq
  if q.contains g then s
  else
    let q := if 64 ≤ q.length then q.drop 1 else q
    refreshWq l.d l.m (modDdr l.d l.m (fun x => { x with wq := q ++ [g] }) s)

/-- A queued write is issued. -/
def issueWrite (g d m : Nat) (s : State) : State :=
  refreshWq d m (modDdr d m (fun x => { x with wq := x.wq.erase g }) s)

/-- Issue every queued write of a channel. -/
def issueAll (d m : Nat) (s : State) : State := refreshWq d m (modDdr d m (fun x => { x with wq := [] }) s)

/-- The channel takes requests: neither retraining nor in a pause, its crossing carrying traffic (R612, R625, R708). -/
def chanReady (s : State) (d m : Nat) : Bool :=
  ddrState s d m != 4 && (s.ddr d m).pause.isNone && crossUp s (1 + d) m

/-- A request leaves self-refresh (R614). -/
def wake (d m : Nat) (s : State) : State :=
  when_ (ddrState s d m == 3) (setDdrState d m 2) (modDdr d m (fun x => { x with lastReq := s.tick }) s)

/-- The page hint in force: KEEP or CLOSE, with DDR_DIE_PAGE.OVR (R603). -/
def keepPage (s : State) (d level : Nat) (hint : Bool) : Bool :=
  match bits (rd s (ddrDieB d) R.DDR_DIE_PAGE_OVR) (2 * level) 2 with
  | 1 => false | 2 => true | _ => hint

/-- The page of a location after a request. -/
def touchPage (l : Loc) (keep : Bool) (s : State) : State :=
  modDdr l.d l.m (fun x => { x with
    pages := if keep then tset (0, 0) l.bankKey (l.row, s.tick + 1) x.pages else terase l.bankKey x.pages }) s

/-- What every access to a granule begins with. -/
def access (g : Nat) (l : Loc) (r : DramReq) (s : State) : State :=
  touchPage l (keepPage s l.d r.level r.keep) (initFor g (wake l.d l.m s))

/-- The error a read of granule `i` of the request meets. -/
def errOf (r : DramReq) (i : Nat) : Option (Bool × Nat × Bool) := (r.errs.find? (·.1 == i)).map (·.2)

/-- Read one granule of a request (R606, R619, R620). -/
def readGranule (r : DramReq) (i g : Nat) (s : State) : State :=
  if !reachable s g then s
  else
    let l := locate s (64 * g)
    let b := ddrB l.d l.m
    let s := if (s.ddr l.d l.m).wq.contains g then issueWrite g l.d l.m (bump b R.DDR_RAW_WAIT_CNT_COUNT s) else s
    let s := access g l r s
    if tget 0 g s.poison = 1 then bump b R.DDR_POISON_RD_CNT_COUNT s
    else
      match errOf r i with
      | none => s
      | some (true, _, sp) => uncorrectable g l (errRank s l sp) s
      | some (false, dev, sp) => correctable (64 * g) l (errRank s l sp) dev s

/-- Write one granule of a request: whole, or in part by a read-modify-write (R607, R621). -/
def writeGranule (r : DramReq) (i g : Nat) (s : State) : State :=
  if !reachable s g then s
  else
    let l := locate s (64 * g)
    let s := access g l r s
    if (r.addr ≤ 64 * g && 64 * g + 64 ≤ r.addr + r.len) || (s.ddr l.d l.m).wq.contains g then queueWrite g l s
    else
      let s := queueWrite g l s
      if tget 0 g s.poison = 1 then poisonWritten g l l.rank true s
      else
        match errOf r i with
        | none => s
        | some (true, _, sp) =>
          let k := errRank s l sp
          poisonWritten g l k false (uncorrectable g l k s)
        | some (false, dev, sp) => correctable (64 * g) l (errRank s l sp) dev s

/-- A request with a granule outside installed DRAM is counted once (R599). -/
def outOfRange (gs : List Nat) (s : State) : State :=
  match gs.find? (fun g => !installed s (64 * g)) with
  | none => s
  | some g =>
    let d := dieOf (64 * g)
    raiseRate (0x0D11 * 1024 + d) 0x0D11 noCh (8 * d) 5 27 (bump (ddrDieB d) R.DDR_DIE_OOR_CNT_COUNT s)

/-- The granules of a request, numbered from 0. -/
def DramReq.grans (r : DramReq) : List (Nat × Nat) := ((granules r.addr r.len).zipIdx).map (fun p => (p.2, p.1))

/-- A reply that carries an older epoch is discarded (R713); class 4 is a DDR5 channel. -/
def staleReply (cls idx : Nat) (s : State) : State :=
  raiseRate (0x0F02 * 8192 + 512 * cls + idx) 0x0F02 noCh (cls + 16 * idx) 16 16
    (bump fabB R.HUB_FAB_STALE_CNT_COUNT s)

/-- A BAR2 read of function `t` is answered; one that meets poison with EP and every byte 0xFF, and event 0x0E08
(R640). -/
def apertureAnswer (t a len : Nat) (bad : Bool) (s : State) : State :=
  if bad then
    emitOut (.apertureData t (List.replicate len 0xFF) true) (raise 0x0E08 noCh (t + 65536) s)
  else emitOut (.apertureData t (loadBytes s a len) false) s

/-- An aperture access without its right: counted, with event 0x0E03 at most once per ms (R639). -/
def aptFault (t : Nat) (write : Bool) (s : State) : State :=
  raiseRate (0x0E03 * 1024 + t) 0x0E03 noCh (t + 512 * b2n write) 16 16
    (bump (tenB t) R.SLUICE_TAPT_FAULT_CNT_COUNT s) ms

/-- The function of an aperture access that lacks the right to it as it reaches memory (R639). -/
def aptBarred (s : State) (r : DramReq) : Option Nat := r.fn.filter (fun t => !segOk s t r.write r.addr r.len)

/-- An aperture access without its right: a write is dropped, a read answers every byte 0xFF (R639). -/
def aptRefuse (t : Nat) (r : DramReq) (s : State) : State :=
  let s := aptFault t r.write s
  if r.write then s else emitOut (.apertureData t (List.replicate r.len 0xFF) false) s

/-- Carry out a request on memory. -/
def doAccess (r : DramReq) (s : State) : State :=
  let s := outOfRange (r.grans.map (·.2)) s
  let a := r.addr
  let s := bump (ddrB (dieOf a) (chanOf s a)) R.DDR_DRFM_CNT_COUNT s r.drfm
  if r.write then store r.addr r.bytes (each r.grans (fun p => writeGranule r p.1 p.2) s)
  else
    let bad := poisonedAny s a r.len
    let s := each r.grans (fun p => readGranule r p.1 p.2) s
    let bad := bad || poisonedAny s a r.len
    if r.stale then staleReply 4 (8 * dieOf a + chanOf s a) s
    else
      match r.fn with
      | none => emitOut (.dramData a (loadBytes s a r.len) bad) s
      | some t => apertureAnswer t a r.len bad s

/-- Carry out a request; one through an aperture only with its right. -/
def doRequest (r : DramReq) (s : State) : State :=
  match aptBarred s r with
  | some t => aptRefuse t r s
  | none => doAccess r s

/-- A granule of a request can be served now. -/
def granReady (s : State) (r : DramReq) (g : Nat) : Bool :=
  !reachable s g ||
    (let d := dieOf (64 * g); let m := chanOf s (64 * g)
     chanReady s d m
      && (!r.write || (s.ddr d m).wq.length + 1 ≤ 64 || (s.ddr d m).wq.contains g))

/-- The request can be served now: its channels take requests, and a write finds space in the queues (R605). -/
def reqReady (s : State) (r : DramReq) : Bool := (aptBarred s r).isSome || r.grans.all (fun p => granReady s r p.2)

/-- Ticks for which a request holds a switch output of 512 GB/s, 128 bytes a tick: a write for its data, a read, which
carries none, for one (R698; DESIGN CHOICE for the sizes of messages, log 107). -/
def swTicks (r : DramReq) : Nat := if r.write then max 1 (ceilDiv r.len 128) else 1

/-- The request can go on: it is past the switch, or its switch output is free. -/
def swPass (s : State) (r : DramReq) : Bool := !r.sw || tget 0 (dieOf r.addr) s.swBusy ≤ s.tick

/-- The request passes the switch. -/
def passSwitch (r : DramReq) (s : State) : State :=
  if r.sw then { s with swBusy := tset 0 (dieOf r.addr) (s.tick + swTicks r) s.swBusy } else s

/-- A waiting request goes on as far as it can: past the switch, and into its channels. -/
def serveReq (r : DramReq) (s : State) : State :=
  if !swPass s r then s
  else
    let s := passSwitch r s
    let q := { r with sw := false }
    if reqReady s q then doRequest q { s with dreqs := s.dreqs.erase r }
    else { s with dreqs := s.dreqs.replace r q }

/-- Serve the waiting requests that can be served, at the switch outputs and at the channels: higher levels first and
within a level in order of arrival (R698, R700). -/
def serveDram (s : State) : State :=
  each (List.range 8) (fun k s => each (s.dreqs.filter (·.level == k)) serveReq s) s

/-- A request arrives: it is served, or waits. One of another die, or of the Confluence, passes the switch (R698). -/
def dramRequest (r : DramReq) (s : State) : State :=
  let r := { r with sw := agentDie r.src != some (dieOf r.addr) }
  serveReq r { s with dreqs := s.dreqs ++ [r] }

/-- The blocking of a P0 read: the longest is kept, and one above 2.6 µs counted with event 0x0F08 (R703). -/
def p0Blocked (d m ns_ : Nat) (s : State) : State :=
  let b := d2dB d
  let v := satU 16 ns_
  let s := if rd s b R.HUB_FAB_P0_MAX_NS < v then wr b R.HUB_FAB_P0_MAX_NS v (wr b R.HUB_FAB_P0_MAX_CHAN m s) else s
  when_ (2600 < ns_)
    (fun s => raiseRate (0x0F08 * 1024 + d) 0x0F08 noCh (d + 4 * m + 65536 * satU 16 (ns_ / 10)) 0 0
      (bump b R.HUB_FAB_P0_OVER_CNT_COUNT s)) s

/-- A request to DRAM of an agent with identity `src`; a reserved identity is no agent's, and nothing comes from it
(R4). -/
def agentRequest (src : Nat) (f : State → State) (s : State) : State := if isIdentity src then f s else s

/-- DRAM_READ (R608): `blocked` is the time from arrival to issue in ns, `errs` the errors its granules meet, `drfm` the
neighbour refreshes its activates drew, `stale` that the reply carries an older epoch. -/
def execDramRead (a : Fin 35184372088832) (len : Fin 65537) (asker : Asker) (keep : Bool) (blocked : Nat)
    (errs : List (Nat × Bool × Fin 10 × Bool)) (drfm : Nat) (stale : Bool) (s : State) :
    Host.Outcome State Fault Refusal :=
  run (agentRequest asker.src fun s =>
    let r : DramReq := { addr := a, len, level := asker.level, since := s.tick, keep, drfm, stale, src := asker.src
                         errs := errs.map (fun e => (e.1, e.2.1, e.2.2.1.val, e.2.2.2)) }
    when_ (asker.level.val == 0 && reqReady s r) (p0Blocked (dieOf a) (chanOf s a) blocked) (dramRequest r s)) s

/-- DRAM_WRITE (R605). -/
def execDramWrite (a : Fin 35184372088832) (bytes : List Byte) (asker : Asker) (keep : Bool)
    (errs : List (Nat × Bool × Fin 10 × Bool)) (drfm : Nat) (s : State) : Host.Outcome State Fault Refusal :=
  run (agentRequest asker.src fun s => dramRequest
    { write := true, addr := a, len := bytes.length, bytes, level := asker.level, since := s.tick, keep, drfm, src := asker.src
      errs := errs.map (fun e => (e.1, e.2.1, e.2.2.1.val, e.2.2.2)) } s) s

/-- The bytes of a partial write stay within one granule. -/
def withinGranule (a : Nat) (bs : List Byte) : List Byte := bs.take (64 - a % 64)

/-- DRAM_PARTIAL_WRITE (R607): a write of part of one granule. -/
def execDramPartialWrite (a : Fin 35184372088832) (bytes : List Byte) (asker : Asker) (keep : Bool)
    (err : Option (Bool × Fin 10 × Bool)) (drfm : Nat) (s : State) : Host.Outcome State Fault Refusal :=
  run (agentRequest asker.src fun s =>
    let bs := withinGranule a bytes
    dramRequest
      { write := true, addr := a, len := bs.length, bytes := bs, level := asker.level, since := s.tick, keep, drfm, src := asker.src
        errs := (err.map (fun e => (0, e.1, e.2.1.val, e.2.2))).toList } s) s

/-- A request of P5 to P7 that has waited 1 ms is served from then on as P4, after those waiting (R700). -/
def requestAged (i : Nat) (s : State) : State :=
  match s.dreqs[i]? with
  | some r =>
    if 5 ≤ r.level && r.since + ms ≤ s.tick then { s with dreqs := s.dreqs.eraseIdx i ++ [{ r with level := 4 }] } else s
  | none => s

/-- REQUEST_AGED (R700): the request waiting in place `i`. -/
def execRequestAged (i : Nat) (s : State) : Host.Outcome State Fault Refusal := run (requestAged i) s

/-! ### Refresh and pauses (R609 to R613) -/

/-- The refresh interval of a channel in ticks: TREFI ns, halved in band 4 (R610, R633). -/
def trefi (s : State) (d m : Nat) : Nat :=
  let t := max 1000 (min 3900 (rd s (ddrDieB d) R.DDR_DIE_REF_TREFI))
  ns * t / (if rd s (ddrB d m) R.DDR_STATUS_BAND = 4 then 2 else 1)

/-- A refresh of rank `r` is issued: its pages close. -/
def issueRefresh (d m r : Nat) (s : State) : State :=
  modDdr d m (fun x => { x with pages := x.pages.filter (fun p => p.1 / 64 != r) }) s

/-- A rank's refresh falls due: it is issued, or held for the end of the channel's pause. The next is due one interval
later. -/
def refreshDue (d m r : Nat) (s : State) : State :=
  let x := s.ddr d m
  if ddrState s d m != 2 || s.tick < tget 0 r x.refAt then s
  else
    let s := modDdr d m (fun x => { x with refAt := tset 0 r (s.tick + trefi s d m) x.refAt }) s
    if x.pause.isSome then modDdr d m (fun x => { x with held := x.held ++ [r] }) s else issueRefresh d m r s

/-- REFRESH_DUE (R610). -/
def execRefreshDue (d : Fin 4) (m : Fin 8) (r : Fin 4) (s : State) : Host.Outcome State Fault Refusal :=
  run (refreshDue d m r) s

/-- The retraining period of a rank in ticks (R633). -/
def trainPeriod (s : State) (d : Nat) : Nat := ms * max 64 (rd s (ddrDieB d) R.DDR_DIE_TRAIN_PERIOD)

/-- A retraining pause of rank `r` starts. -/
def startPause (d m r : Nat) (s : State) : State :=
  bump (ddrB d m) R.DDR_PAUSE_CNT_COUNT (modDdr d m (fun x => { x with
    pause := some r, waits := x.waits.filter (·.1 != r)
    trainAt := tset 0 r (s.tick + trainPeriod s d) x.trainAt }) s)

/-- A pause falls due, or its condition is tested again: it starts when no other runs and every running channel of the
die has AHEAD µs staged or stages nothing, and waits otherwise. -/
def pauseDue (d m r : Nat) (ahead : Bool) (s : State) : State :=
  let x := s.ddr d m
  if ddrState s d m != 2 || x.pause == some r then s
  else if !(x.waits.any (·.1 == r)) && s.tick < tget 0 r x.trainAt then s
  else if ahead && x.pause.isNone then startPause d m r s
  else if x.waits.any (·.1 == r) then s
  else modDdr d m (fun x => { x with waits := x.waits ++ [(r, s.tick)] }) s

/-- RETRAIN_PAUSE_DUE (R612): `ahead` is the condition on the staging stores. -/
def execRetrainPauseDue (d : Fin 4) (m : Fin 8) (r : Fin 4) (ahead : Bool) (s : State) :
    Host.Outcome State Fault Refusal := run (pauseDue d m r ahead) s

/-- The channel enters RETRAINING (R625): `fromPause` for a pause that found its rank beyond correction. -/
def fullRetrain (d m : Nat) (fromPause : Bool) (s : State) : State :=
  raise 0x0D05 noCh (chanArg d m + 32 * b2n fromPause) (bump (ddrB d m) R.DDR_HARD_RETRAIN_CNT_COUNT
    (setDdrState d m 4 (modDdr d m (fun x => { x with alerts := 0 }) s)))

/-- A pause ends: the refreshes held are issued in due order, and the requests that waited are served. -/
def pauseEnd (d m : Nat) (bad : Bool) (s : State) : State :=
  let x := s.ddr d m
  if x.pause.isNone then s
  else
    let s := modDdr d m (fun x => { x with pause := none, held := [] }) s
    let s := each x.held (issueRefresh d m) s
    serveDram (when_ bad (fullRetrain d m true) s)

/-- RETRAIN_PAUSE_END (R612): `bad` when the rank was found beyond correction. -/
def execRetrainPauseEnd (d : Fin 4) (m : Fin 8) (bad : Bool) (s : State) : Host.Outcome State Fault Refusal :=
  run (pauseEnd d m bad) s

/-- A pause that has waited OVERDUE ms starts whatever the staging stores hold (R613). -/
def pauseForced (d m r : Nat) (s : State) : State :=
  let x := s.ddr d m
  match x.waits.find? (·.1 == r) with
  | some w =>
    if x.pause.isNone && ddrState s d m == 2 && w.2 + ms * max 1 (rd s (ddrDieB d) R.DDR_DIE_TRAIN_OVERDUE) ≤ s.tick then
      raise 0x0D09 noCh (chanArg d m + 32 * r)
        (bump (ddrB d m) R.DDR_PAUSE_FORCED_CNT_COUNT (startPause d m r s))
    else s
  | none => s

/-- PAUSE_FORCED (R613). -/
def execPauseForced (d : Fin 4) (m : Fin 8) (r : Fin 4) (s : State) : Host.Outcome State Fault Refusal :=
  run (pauseForced d m r) s

/-! ### Self-refresh (R614, R615) -/

/-- A channel issues its queued writes and enters self-refresh. -/
def enterSelfRefresh (d m : Nat) (s : State) : State :=
  bump (ddrB d m) R.DDR_SR_CNT_COUNT (setDdrState d m 3 (issueAll d m s))

/-- The conditions of R614: `scrub` says whether a patrol scrub runs on the channel. -/
def idleEnough (s : State) (d m : Nat) (scrub : Bool) : Bool :=
  let t := rd s (ddrDieB d) R.DDR_DIE_SR_IDLE
  ddrState s d m == 2 && t != 0 && (s.ddr d m).lastReq + us * t ≤ s.tick && (s.ddr d m).pause.isNone
    && (channelsOf d).all (fun n => s.chState n == .off || s.chState n == .faulted)
    && rdB s (ddrDieB d) R.DDR_DIE_STATUS_INIT_DONE && !rdB s (ddrB d m) R.DDR_STATUS_MIGRATING && !scrub

/-- SELF_REFRESH_ENTRY (R614). -/
def execSelfRefreshEntry (d : Fin 4) (m : Fin 8) (scrub : Bool) (s : State) : Host.Outcome State Fault Refusal :=
  run (fun s => if idleEnough s d m scrub then enterSelfRefresh d m s else s) s

/-- At t0 of a hand-over and at a die reset, the channels of a die that run enter self-refresh (R615). -/
def handoverSelfRefresh (d : Nat) (s : State) : State :=
  each (List.range 8) (fun m s =>
    let s := modDdr d m (fun x => { x with pause := none, held := [], waits := [] }) s
    if ddrState s d m == 2 || ddrState s d m == 4 then enterSelfRefresh d m s else s) s

/-! ### Command errors (R624, R625) -/

/-- ALERT_n: `replayed` commands replayed, `again` when the replay meets a further alert, `merged` occurrences merged in
the event crossing (R705). -/
def ddrAlert (d m replayed : Nat) (again : Bool) (merged : Nat) (s : State) : State :=
  if ddrState s d m = 0 || ddrState s d m = 5 then s
  else
    let s := dieOverrun d m merged s
    let s := bump (ddrB d m) R.DDR_ALERT_CNT_COUNT s (1 + merged)
    let s := raise 0x0D04 noCh (chanArg d m + 256 * replayed) s
    let k := if again then (s.ddr d m).alerts + 1 else 0
    let s := modDdr d m (fun x => { x with alerts := k }) s
    when_ (max 1 (rd s (ddrDieB d) R.DDR_DIE_RAS1_REPLAY_MAX) ≤ k && ddrState s d m != 4) (fullRetrain d m false) s

/-- DDR_ALERT (R624). -/
def execDdrAlert (d : Fin 4) (m : Fin 8) (replayed : Fin 256) (again : Bool) (merged : Nat) (s : State) :
    Host.Outcome State Fault Refusal := run (ddrAlert d m replayed again merged) s

/-- Requests that wait for DDR5 channel `m` of die `d` complete UNIT_RESET: a read as one of poison, a host read as one
outside installed DRAM, a write dropped (R714); answers how many. -/
def abortDram (d m : Nat) (s : State) : Nat × State :=
  let mine := fun (q : DramReq) => dieOf q.addr == d && chanOf s q.addr == m
  let gone := s.dreqs.filter mine
  let s := { s with dreqs := s.dreqs.filter (fun q => !mine q) }
  (gone.length, each gone (fun q s =>
    if q.write then s
    else match q.fn with
      | some t => apertureAnswer t q.addr q.len true s
      | none => emitOut (.dramData q.addr (List.replicate q.len 0xFF) true) s) s)

/-- A trigger of every DDR5 channel of a die. -/
def triggerDdr (d : Nat) (s : State) : State :=
  each (List.range 8) (fun m s => let r := abortDram d m s; trigger 4 (8 * d + m) r.1 r.2) s

/-- A full retrain ends; the channel is UP again, or has FAILED, which powers it down and triggers it (R625, R676, R710,
R824). -/
def fullRetrainDone (d m : Nat) (ok : Bool) (s : State) : State :=
  if ddrState s d m != 4 then s
  else if ok then serveDram (setDdrState d m 2 s)
  else
    let s := setDdrState d m 5 (modDdr d m (fun x => { x with wq := [], waits := [] }) s)
    let s := raise 0x0D0E noCh (chanArg d m) (setDegrade R.HUB_DEGRADE_CONTAINED true (refreshWq d m s))
    let r := abortDram d m (capacityFell d s)
    serveDram (trigger 4 (8 * d + m) r.1 r.2)

/-- FULL_RETRAIN_DONE (R625). -/
def execFullRetrainDone (d : Fin 4) (m : Fin 8) (ok : Bool) (s : State) : Host.Outcome State Fault Refusal :=
  run (fullRetrainDone d m ok) s

/-! ### Temperature (R609, R742) -/

/-- Lower bounds of bands 1 to 4. -/
def bandBounds : List Int := [0, 45, 70, 85]

/-- The channel takes a band: event 0x0D0A at a change. -/
def setDdrBand (d m v : Nat) (s : State) : State :=
  if rd s (ddrB d m) R.DDR_STATUS_BAND = v then s
  else raise 0x0D0A noCh (chanArg d m + 32 * v) (wr (ddrB d m) R.DDR_STATUS_BAND v s)

/-- A module's thermal sensors are read: `t` is the hottest in 1/16 °C, none when the read fails. -/
def thermalRead (d m : Nat) (t : Option Int) (s : State) : State :=
  match t with
  | some t => setDdrBand d m (moveBand bandBounds (rd s (ddrB d m) R.DDR_STATUS_BAND) t)
      (wrB (ddrB d m) R.DDR_STATUS_THERM_FAIL false s)
  | none => setDdrBand d m 4 (raise 0x0D0B noCh (chanArg d m) (wrB (ddrB d m) R.DDR_STATUS_THERM_FAIL true s))

/-- DDR_THERMAL_READ (R609). -/
def execDdrThermalRead (d : Fin 4) (m : Fin 8) (t : Option Int) (s : State) : Host.Outcome State Fault Refusal :=
  run (thermalRead d m t) s

/-! ### Initialisation, scrub and buckets -/

/-- The next block in ascending order has been initialised (R618). -/
def initBlock (d : Nat) (s : State) : State :=
  if rdB s (ddrDieB d) R.DDR_DIE_STATUS_INIT_DONE || !rdB s (ddrDieB d) R.DDR_DIE_STATUS_MEM_OK then s
  else initCheck d (modDie d (fun x => { x with
    initNext := initSkip x.initOut x.initOut.length (x.initNext + 1) }) s)

/-- INIT_BLOCK_DONE (R618). -/
def execInitBlockDone (d : Fin 4) (s : State) : Host.Outcome State Fault Refusal := run (initBlock d) s

/-- Patrol scrub runs on a channel: it is enabled, the channel is up and the die is not in throttle (R623, R737). -/
def scrubs (s : State) (d m : Nat) : Bool :=
  rd s (ddrDieB d) R.DDR_DIE_RAS1_SCRUB_H != 0 && ddrState s d m == 2 && !rdB s hkB R.HK_DIE_THROTTLE d

/-- SCRUB_PASS_END (R623). -/
def execScrubPassEnd (d : Fin 4) (m : Fin 8) (s : State) : Host.Outcome State Fault Refusal :=
  run (fun s => if scrubs s d m then bump (ddrB d m) R.DDR_SCRUB_PASS_CNT_COUNT s else s) s

/-- Every LEAK s each non-zero bucket of a die falls by 1 (R626). -/
def bucketLeak (d : Nat) (s : State) : State :=
  if s.tick < (s.die d).leakAt + second * max 1 (rd s (ddrDieB d) R.DDR_DIE_RAS0_LEAK) then s
  else
    let s := modDie d (fun x => { x with leakAt := s.tick }) s
    each (List.range 8) (fun m s => each (List.range 4) (fun r s =>
      setBucket d m r (rd s (ddrB d m) R.DDR_RANK_BUCKET r - 1) s) s) s

/-- BUCKET_LEAK (R626). -/
def execBucketLeak (d : Fin 4) (s : State) : Host.Outcome State Fault Refusal := run (bucketLeak d) s

/-! ### Migration by command, and its end (R627, R628) -/

/-- DDR_CTRL.MIGRATE of rank `r`. -/
def ddrMigrate (d m r : Nat) (s : State) : State :=
  if !spareReady s d m || !bitOf (rd s (ddrB d m) R.DDR_STATUS_IN_SERVICE) r then
    wrB (ddrB d m) R.DDR_STATUS_WRITE_REJECTED true s
  else startMigration d m r true s

/-- DDR_MIGRATE (R627). -/
def execDdrMigrate (d : Fin 4) (m : Fin 8) (r : Fin 4) (s : State) : Host.Outcome State Fault Refusal :=
  run (ddrMigrate d m r) s

/-- The last granule is copied: the logical rank is mapped to the spare. -/
def migrationEnd (d m : Nat) (s : State) : State :=
  let b := ddrB d m
  if !rdB s b R.DDR_STATUS_MIGRATING then s
  else
    let from_ := rd s b R.DDR_MIG_FROM
    let to_ := rd s b R.DDR_MIG_TO
    let ranks := (physRanks s d m).map (fun r => if r = from_ then to_ else r)
    let s := modDdr d m (fun x => { x with ranks }) s
    let s := wrB b R.DDR_RANK_OUT true (wrB b R.DDR_STATUS_MIGRATING false s) from_
    let s := wr b R.DDR_STATUS_IN_SERVICE
      (setBit (setBit (rd s b R.DDR_STATUS_IN_SERVICE) from_ false) to_ true) s
    let s := raise 0x0D07 noCh (chanArg d m + 32 * from_ + 128 * to_) (spareSpent d m s)
    spareChanged (setReplace R.HUB_REPLACE_RANK true s)

/-- RANK_MIGRATION_END (R628). -/
def execRankMigrationEnd (d : Fin 4) (m : Fin 8) (s : State) : Host.Outcome State Fault Refusal :=
  run (migrationEnd d m) s

/-! ### Counters and the write-queue thresholds -/

/-- The counters of a channel block (R632). -/
def ddrCounters : List Fld :=
  [R.DDR_CE_CNT_COUNT, R.DDR_UE_CNT_COUNT, R.DDR_POISON_RD_CNT_COUNT, R.DDR_POISON_WR_CNT_COUNT, R.DDR_ALERT_CNT_COUNT,
   R.DDR_HARD_RETRAIN_CNT_COUNT, R.DDR_DRFM_CNT_COUNT, R.DDR_PAUSE_CNT_COUNT, R.DDR_PAUSE_FORCED_CNT_COUNT,
   R.DDR_SR_CNT_COUNT, R.DDR_RAW_WAIT_CNT_COUNT, R.DDR_SCRUB_PASS_CNT_COUNT]

/-- CNT_CLR of a channel block: its counters, and PEAK starts anew from USED. -/
def ddrCntClr (d m : Nat) (s : State) : State :=
  let s := resetFlds (ddrB d m) ddrCounters s
  wr (ddrB d m) R.DDR_WQ_PEAK (rd s (ddrB d m) R.DDR_WQ_USED) s

/-- DDR_CNT_CLR (R632). -/
def execDdrCntClr (d : Fin 4) (m : Fin 8) (s : State) : Host.Outcome State Fault Refusal := run (ddrCntClr d m) s

def ddrDieCntClr (d : Nat) (s : State) : State := resetFlds (ddrDieB d) [R.DDR_DIE_OOR_CNT_COUNT] s

/-- DDR_DIE_CNT_CLR (R633). -/
def execDdrDieCntClr (d : Fin 4) (s : State) : Host.Outcome State Fault Refusal := run (ddrDieCntClr d) s

/-- A write of DDR_DIE_WQ: rejected with LOW at or above HIGH (R604). -/
def ddrWqWrite (d high low : Nat) (s : State) : State :=
  if high ≤ low then wrB (ddrDieB d) R.DDR_DIE_STATUS_WRITE_REJECTED true s
  else
    let s := wr (ddrDieB d) R.DDR_DIE_WQ_HIGH high (wr (ddrDieB d) R.DDR_DIE_WQ_LOW low s)
    each (List.range 8) (refreshWq d) s

/-- DDR_DIE_WQ_WRITE (R604). -/
def execDdrDieWqWrite (d : Fin 4) (high low : Fin 64) (s : State) : Host.Outcome State Fault Refusal :=
  run (ddrWqWrite d high low) s

/-! ### What a tick does -/

/-- Reads wait on the channel. -/
def readsWait (s : State) (d m : Nat) : Bool :=
  s.dreqs.any (fun r => !r.write && r.grans.any (fun p => dieOf (64 * p.2) == d && chanOf s (64 * p.2) == m))

/-- A channel with queued writes issues one, in a batch or while it holds no read (R604). -/
def drainWq (d m : Nat) (s : State) : State :=
  match (s.ddr d m).wq with
  | [] => s
  | g :: _ =>
    if chanReady s d m && (rdB s (ddrB d m) R.DDR_WQ_BATCH || !readsWait s d m) then issueWrite g d m s else s

/-- Pages that have had no hit for IDLE ns close (R603). -/
def closePages (d : Nat) (m : Nat) (s : State) : State :=
  let t := ns * rd s (ddrDieB d) R.DDR_DIE_PAGE_IDLE
  if (s.ddr d m).pages.all (fun p => s.tick < p.2.2 + t) then s
  else modDdr d m (fun x => { x with pages := x.pages.filter (fun p => s.tick < p.2.2 + t) }) s

/-- The memory's share of a tick. -/
def ddrTick (s : State) : State :=
  let s := each s.ddrs (fun p s => closePages (p.1 / 8) (p.1 % 8) (drainWq (p.1 / 8) (p.1 % 8) s)) s
  if s.dreqs = [] then s else serveDram s

end Sys2Proof.Machine
end

