-- ==== Sys2Proof/Machine/Time.lean ====
section
/-!
DEFINITION. Headwater time (spec/03_headwater_time.md): the passing of a tick, messages in and out, the follower's
servo, source switches, steps, holdover, and the commands of the time block.
-/

namespace Sys2Proof.Machine
open Sys2Proof

/-- The timebase is in use (R128): a channel is ARMED, RUNNING or DRAINING. -/
def inUse (s : State) : Bool := channels.any (fun n => 1 ≤ rd s (chB n) R.CH_STATUS_STATE
  && rd s (chB n) R.CH_STATUS_STATE ≤ 3)

def isMaster (s : State) : Bool := rd s timeB R.TIME_CTRL_ROLE == 1
def timeState (s : State) : Nat := rd s timeB R.TIME_STATUS_STATE
/-- TIME_BOUND.STEP with its lower bound, in ticks (R151). -/
def stepBound (s : State) : Nat := max 16 (rd s timeB R.TIME_BOUND_STEP)

def modTime (f : TimeSt → TimeSt) (s : State) : State := { s with time := f s.time }
def hwIn (s : State) (b : Bool) : HwIn := if b then s.time.inB else s.time.inA
def modIn (b : Bool) (f : HwIn → HwIn) (s : State) : State :=
  modTime (fun t => if b then { t with inB := f t.inB } else { t with inA := f t.inA }) s
def validFld (b : Bool) : Fld := if b then R.TIME_STATUS_B_VALID else R.TIME_STATUS_A_VALID
def inValid (s : State) (b : Bool) : Bool := rdB s timeB (validFld b)
def followsB (s : State) : Bool := rdB s timeB R.TIME_STATUS_FOLLOWING

/-! ### The passing of a tick -/

/-- Ticks between two steps of the servo at its rate limit of (SLEW + 1) ppm (R133). -/
def slewEvery (s : State) : Nat := ceilDiv 1000000 (rd s timeB R.TIME_CTRL_SLEW + 1)

/-- HT advances by `k` ticks. It never wraps (R106): at 2^64 - 1, which a count that is never loaded at or above 2^63 does
not reach in 73 years, it stays (DESIGN CHOICE, log 99). -/
def advanceHt (k : Nat) (s : State) : State := { s with ht := min (s.ht + k) (2 ^ 64 - 1) }

/-- The Headwater lanes are in electrical idle in HOLD (R146). -/
def hwIdle (s : State) : Bool := s.mode = .hold

/-- The links that send an idle pair from this instant: a pair lasts 32 ticks, and none starts while a message is sent
(R116 to R118). -/
def idlePairs (s : State) : List Nat :=
  if hwIdle s || !s.hub.up || s.ht % 32 != 0 then []
  else [0, 1, 2].filter (fun k =>
    let b := tget (0, 0) k s.time.busy
    s.ht < b.1 || b.2 ≤ s.ht)

/-- A tick of the device with no command: HT advances by one tick (R7); while the servo has an offset to take out it
may, at most (SLEW + 1) times in a million ticks, advance by two or by none. When it does is unstated, so it is a
free value. Between messages the Headwater transmitters send idle pairs. -/
def tickPass (s : State) : State :=
  let s := { s with tick := s.tick + 1, out := [] }
  let s := if s.time.slew ≠ 0 && s.tick % slewEvery s = 0 then
      let d := draw 1 s
      let s := d.2
      if d.1 = 0 then advanceHt 1 s
      else if 0 < s.time.slew then modTime (fun t => { t with slew := t.slew - 1 }) (advanceHt 2 s)
      else modTime (fun t => { t with slew := t.slew + 1 }) s
    else advanceHt 1 s
  each (idlePairs s) (fun k => emitOut (.headwaterIdle k)) s

/-! ### Validity and states -/

/-- STATE and with it VALID (R151); event 0x0205 at every change of VALID to 0 (R153). -/
def setTimeState (st : Nat) (s : State) : State :=
  let v := (st == 1 && rdB s timeB R.TIME_STATUS_REF_OK) || st == 2 || st == 3
  let old := htValid s
  let s := wrB timeB R.TIME_STATUS_VALID v (wr timeB R.TIME_STATUS_STATE st s)
  let s := if v then s else wr timeB R.TIME_SRC_HOP 0x3F s
  when_ (old && !v) (raise 0x0205 noCh st) s

/-- A signed count of 1/16 ticks in whole ticks, as the 32-bit argument of an event. -/
def ticksArg (o : Int) : Nat := satTwos 32 (o / 16)

/-- Enter holdover (R140): the last rate is kept and steering stops. -/
def enterHoldover (s : State) : State :=
  if timeState s = 3 then s
  else
    let s := modTime (fun t => { t with e0 := t.filt, holdAt := s.tick, slew := 0, good := 0 }) s
    raise 0x0204 noCh 0 (setTimeState 3 s)

/-- An input's offsets after a step of HT by `-k` ticks. -/
def HwIn.stepped (k : Int) (i : HwIn) : HwIn := { i with ofs := i.ofs - 16 * k, raw := i.raw.map (· - 16 * k) }

/-- Step HT by `-o` (R134, R136, R137); the event carries the stamp before the step. A fraction of a tick is left to
the servo. A value at or above 2^63 is never loaded (R106): such a step is not made. -/
def stepHt (o : Int) (s : State) : State :=
  let k := o / 16
  let v := (max 0 ((s.ht : Int) - k)).toNat
  if 2 ^ 63 ≤ v then modTime (fun t => { t with slew := 0, good := 0, suspects := [], stepOfs := 0 }) s
  else
    let s := raise 0x0208 noCh (satTwos 32 (-k)) s
    modTime (fun t => { t with
      slew := 0, good := 0, suspects := [], stepOfs := 0, inA := t.inA.stepped k, inB := t.inB.stepped k })
      { s with ht := v }

/-- The registers that show the followed source (R148, R151). -/
def showSource (s : State) : State :=
  let i := hwIn s (followsB s)
  let s := wr timeB R.TIME_SRC_ID_ID i.src (wr timeB R.TIME_SRC_FLAGS i.flags s)
  let s := wrB timeB R.TIME_STATUS_SRC_HOLDOVER (bitOf i.flags 0) s
  let s := wr timeB R.TIME_OFFSET_O (satTwos 32 i.ofs) s
  if htValid s then wr timeB R.TIME_SRC_HOP (i.hop + 1) s else s

/-- Follow the other input (R131). -/
def switchSource (reason : Nat) (s : State) : State :=
  let b := !followsB s
  let s := wrB timeB R.TIME_STATUS_FOLLOWING b s
  let s := modTime (fun t => { t with good := 0, suspects := [], following := true }) s
  let cnt := rd s timeB R.TIME_ERRCNT_SWITCHES
  let s := wr timeB R.TIME_ERRCNT_SWITCHES (satU 8 (cnt + 1)) s
  raise 0x0202 noCh (b2n b + reason * 256) (showSource s)

/-- An input ceases to be valid (R129, R131, R133, R140). -/
def loseInput (b : Bool) (reason : Nat) (s : State) : State :=
  if !inValid s b then s
  else
    let s := wr timeB R.TIME_AB_DIFF_DIFF 0x80000000 (wrB timeB (validFld b) false s)
    let s := raise 0x0203 noCh (b2n b + reason * 256) s
    if !s.time.following || followsB s != b then s
    else if inValid s (!b) then switchSource 1 s
    else
      let s := modTime (fun t => { t with slew := 0, good := 0, suspects := [] }) s
      if timeState s = 2 || (timeState s = 0 && s.time.locked) then enterHoldover s
      else if timeState s = 0 then modTime (fun t => { t with following := false }) s
      else s

/-- A step that no switch answers (R136, R144). -/
def takeStep (o : Int) (s : State) : State :=
  if !inUse s then stepHt o s
  else
    let s := modTime (fun t => { t with stepOfs := o, suspects := [], slew := 0 }) s
    if rdB s timeB R.TIME_STATUS_STEP_PENDING then s
    else
      let s := raise 0x0207 noCh (satTwos 32 (-(o / 16))) (wrB timeB R.TIME_STATUS_STEP_PENDING true s)
      if timeState s = 4 then s else enterHoldover s

/-- The filtered |o| in ns after a message with offset `o` (R141, TIME_HOLD.ERR). The filter is not stated: its output is
a free value between its last output and |o| (DESIGN CHOICE, log 100). -/
def filterOfs (o : Int) (s : State) : State :=
  let x := ceilDiv o.natAbs 64
  let lo := min s.time.filt x
  let d := draw 16 s
  modTime (fun t => { t with filt := lo + d.1 % (max s.time.filt x - lo + 1) }) d.2

/-- Steer toward the followed source (R133): the offset is left to the servo, LOCKED after 16 messages within 1 ns. -/
def steer (o : Int) (s : State) : State :=
  let good := if o.natAbs ≤ 64 then min 16 (s.time.good + 1) else 0
  let s := modTime (fun t => { t with slew := -(o / 16), good, suspects := [] }) (filterOfs o s)
  if good = 16 && timeState s != 2 then
    raise 0x0201 noCh (2 + b2n (followsB s) * 8)
      (showSource (modTime (fun t => { t with locked := true }) (setTimeState 2 s)))
  else s

/-- Consecutive step suspects confirm a step when their offsets lie within 1 µs of one another (R135). -/
def stepConfirmed (s : State) : Bool :=
  let k := max 1 (rd s timeB R.TIME_CTRL_STEP_CONFIRM)
  let l := s.time.suspects.take k
  l.length == k && l.all (fun a => l.all (fun b => (a - b).natAbs ≤ 16 * us))

/-- A confirmed step: a switch when the other input is within the bound (R131 reason 2), else R136. -/
def confirmStep (o : Int) (s : State) : State :=
  let other := !followsB s
  if inValid s other && (hwIn s other).ofs.natAbs ≤ 16 * stepBound s then switchSource 2 s
  else takeStep o s

/-- A step suspect (R135): the message is not steered by; confirmed suspects are a step. The first message of an input
that has become valid again in holdover is confirmed by itself (R143). -/
def suspect (o : Int) (first : Bool) (s : State) : State :=
  let cnt := rd s timeB R.TIME_ERRCNT_OUTLIER
  let s := wr timeB R.TIME_ERRCNT_OUTLIER (satU 8 (cnt + 1)) (raise 0x0206 noCh (ticksArg o) s)
  let s := modTime (fun t => { t with suspects := (o :: t.suspects).take 16, good := 0 }) s
  if first then takeStep o s else if stepConfirmed s then confirmStep o s else s

/-- A message of a followed source while the follower is EXPIRED (R144). -/
def acquireFromExpired (o : Int) (big : Bool) (s : State) : State :=
  let acq := fun (s : State) => modTime (fun t => { t with good := 0, following := true }) (setTimeState 0 s)
  if rdB s timeB R.TIME_STATUS_STEP_PENDING then s
  else if !big then steer o (acq s)
  else if !inUse s then acq (stepHt o s)
  else takeStep o s

/-- A valid message of the followed source with offset `o`. At acquisition an offset beyond STEP that R134 does not step,
because the timebase is in use or a message has been acted on before, is slewed out whole (DESIGN CHOICE, log 101). -/
def followMessage (o : Int) (s : State) : State :=
  let big : Bool := 16 * stepBound s < o.natAbs
  let first := s.time.fresh
  let s := modTime (fun t => { t with fresh := false }) s
  match timeState s with
  | 0 => if big && first && !inUse s then stepHt o s else steer o s
  | 2 => if big then suspect o false s else steer o s
  | 3 =>
    if big then suspect o first s
    else if rdB s timeB R.TIME_STATUS_STEP_PENDING then modTime (fun t => { t with suspects := [] }) s
    else steer o s
  | 4 => acquireFromExpired o big s
  | _ => s

/-- A/B difference while both inputs are valid (R139); `msg`: a message has arrived. -/
def abUpdate (msg : Bool) (s : State) : State :=
  if !(inValid s false && inValid s true) then wr timeB R.TIME_AB_DIFF_DIFF 0x80000000 s
  else
    let d := (hwIn s false).ofs - (hwIn s true).ofs
    let s := wr timeB R.TIME_AB_DIFF_DIFF (satTwos 32 d) s
    if 16 * rd s timeB R.TIME_AB_WARN_WARN < d.natAbs then
      let s := modTime (fun t => { t with abGood := 0 }) s
      if rdB s timeB R.TIME_STATUS_AB_DIVERGED then s
      else raise 0x0209 noCh (ticksArg d) (wrB timeB R.TIME_STATUS_AB_DIVERGED true s)
    else
      let s := when_ msg (modTime (fun t => { t with abGood := min 16 (t.abGood + 1) })) s
      when_ (s.time.abGood = 16) (wrB timeB R.TIME_STATUS_AB_DIVERGED false) s

/-- Median of the values of d of an input, in 1/32 tick (R125); the mean of the two middle values of an even count. -/
def medianD (l : List Nat) : Nat :=
  let m := l.mergeSort
  (m.getD ((m.length - 1) / 2) 0 + m.getD (m.length / 2) 0) / 2

/-- d_down of an input, in 1/16 tick (R125): ASYM is in ps, 250 ps to the tick. -/
def downDelay (s : State) (b : Bool) : Int :=
  let asym := sext 16 (rd s timeB (if b then R.TIME_ASYM_B_ASYM else R.TIME_ASYM_A_ASYM))
  (medianD (hwIn s b).delays / 2 : Nat) + asym * 4 / 125

/-- Follow input `b` anew: at acquisition, or where no valid input was followed. In holdover and in EXPIRED this is no
switch of R131, whose reasons it meets none of: it raises no event 0x0202 and is not counted (DESIGN CHOICE, log 102). -/
def takeUp (b : Bool) (s : State) : State :=
  modTime (fun t => { t with following := true, suspects := [], good := 0, fresh := true, takenAt := s.tick + 1 })
    (wrB timeB R.TIME_STATUS_FOLLOWING b s)

/-- Input `b` keeps what it follows: another input is followed that is valid, unless both became valid at this instant and
`b` is PRIMARY (R130). -/
def followsOther (b : Bool) (s : State) : Bool :=
  s.time.following && followsB s != b && inValid s (followsB s)
    && !(s.time.takenAt == s.tick + 1 && rdB s timeB R.TIME_CTRL_PRIMARY == b)

/-- Take the validity of an input anew after a message, a measurement or character lock (R129); the first that is valid is
followed, PRIMARY before the other (R130). -/
def gainInput (b : Bool) (s : State) : State :=
  let i := hwIn s b
  let ok := i.lock && i.fit && i.seen != 0 && s.tick + 1 - i.seen ≤ 3 * ms && i.delays != []
  if !ok || inValid s b then s
  else
    let s := wrB timeB (validFld b) true (modIn b (fun i => { i with validAt := s.tick }) s)
    if followsOther b s then s else takeUp b s

/-! ### Messages (R119 to R126) -/

/-- A special character is 256 plus its byte; an invalid character is 512 or more. -/
abbrev k281 : Nat := 0x13C
abbrev k297 : Nat := 0x1FD

/-- Character `i` of a message, and the big-endian value of characters `i` to `i + n - 1`. -/
def msgAt (m : List Nat) (i : Nat) : Nat := m.getD i 0
def msgBe (m : List Nat) (i n : Nat) : Nat := ((m.drop i).take n).foldl (fun a c => a * 256 + c) 0

/-- Why a message is discarded (R120): 0 not, 1 bad CRC, 2 any other cause. A message with a missing MARK or END or an
invalid character counts as such whatever its CRC (DESIGN CHOICE, log 32). -/
def msgBad (m : List Nat) : Nat :=
  if m.length != 33 || msgAt m 0 != k281 || msgAt m 32 != k297 || ((m.drop 1).take 31).any (fun c => 256 ≤ c) then 2
  else if crc32 ((m.drop 1).take 27) != msgBe m 28 4 then 1
  else if msgAt m 1 = 0 || 4 ≤ msgAt m 1 then 2 else 0

/-- The crossing of a Headwater link carries traffic: 0 input A, 1 input B, 2 the output (R708, R726). -/
def hwCross (s : State) (link : Nat) : Bool := crossUp s 0 (2 + link)

/-- Count a discarded message. -/
def countBad (k : Nat) (s : State) : State :=
  let f := if k = 1 then R.TIME_ERRCNT_CRC else R.TIME_ERRCNT_DISCARD
  let c := rd s timeB f
  wr timeB f (satU 8 (c + 1)) s

/-- TIME_MESSAGE_RECEIVED: a TIME message on an input, its MARK at current HT plus `frac`/16 tick. -/
def timeMessage (b : Bool) (frac : Nat) (m : List Nat) (s : State) : State :=
  if isMaster s || hwIdle s || !(hwIn s b).lock || !hwCross s (b2n b) then s
  else if msgBad m != 0 then countBad (msgBad m) s
  else if msgAt m 1 != 1 then s
  else
    let hop := msgAt m 3 % 64
    let src := msgBe m 24 4
    let own := src = rd s timeB R.TIME_ID_ID
    if own || 62 < hop then
      loseInput b (if own then 3 else 4) (countBad 2 (modIn b (fun i => { i with seen := s.tick + 1, fit := false }) s))
    else
      let flags := msgAt m 4
      let raw : Int := (s.ht * 16 + frac : Nat) - (16 * msgBe m 7 8 : Nat)
      let o := raw - downDelay s b
      let s := modIn b (fun i => { i with
        seen := s.tick + 1, fit := true, hop, src, flags, err := msgBe m 5 2, raw := some raw
        ofs := if i.delays = [] then i.ofs else o
        holdAt := if bitOf flags 0 then (if i.holdAt = 0 then s.tick + 1 else i.holdAt) else 0 }) s
      let s := gainInput b s
      if !inValid s b then s
      else
        let s := if followsB s = b then
            let s := followMessage o s
            if followsB s = b then showSource s else s
          else s
        abUpdate true s

/-- TIME_MESSAGE_RECEIVED (R120, R126, R129 to R136, R143, R144). -/
def execTimeMessageReceived (b : Bool) (frac : Fin 16) (m : List Nat) (s : State) :
    Host.Outcome State Fault Refusal :=
  run (timeMessage b frac m) s

/-- The own estimated error in ns, saturating at 16 bits (R141, TIME_HOLD). -/
def ownErr (s : State) : Nat :=
  let t := s.tick - s.time.holdAt
  match timeState s with
  | 1 => 0
  | 2 => satU 16 s.time.filt
  | 3 => satU 16 (s.time.e0 + (t * (2 * 10 ^ 14) + 165 * t * t) / (16 * 10 ^ 23))
  | 4 => if isMaster s then 0xFFFF
         else satU 16 (s.time.e0 + (t * (2 * 10 ^ 14) + 165 * t * t) / (16 * 10 ^ 23))
  | _ => 0xFFFF

/-- What a message says of its sender: hop count, flags, estimated error and the master of its chain (R119, R148). -/
structure Sender where
  hop : Nat
  flags : Nat
  err : Nat
  src : Nat
deriving DecidableEq, Repr

/-- This device as a sender: a master is at hop 0 and names itself, a follower is one hop below the message it follows;
without a valid HT the hop count is that of TIME_SRC. -/
def sender (s : State) : Sender :=
  let i := hwIn s (followsB s)
  { hop := if isMaster s then 0 else if htValid s then i.hop + 1 else rd s timeB R.TIME_SRC_HOP
    flags := b2n (timeState s = 3) + 2 * rd s timeB R.TIME_STATUS_STEP_PENDING
    err := satU 16 ((if isMaster s then 0 else i.err) + 4 * ownErr s)
    src := if isMaster s then rd s timeB R.TIME_ID_ID else i.src }

/-- The bytes of `v`, most significant first. -/
def beNats (n v : Nat) : List Nat := ((List.range n).map (fun i => v / 256 ^ i % 256)).reverse

/-- The 33 characters of a message (R119). -/
def hwMessage (kind seq : Nat) (x : Sender) (ta frac tb : Nat) : List Nat :=
  let body := [kind, seq, x.hop % 64, x.flags] ++ beNats 2 x.err ++ beNats 8 ta ++ [frac % 16] ++ beNats 8 tb ++ beNats 4 x.src
  [k281] ++ body ++ beNats 4 (crc32 body) ++ [k297]

/-- Transmit a message on a link, its MARK leaving the ball at HT `t`; 33 characters of 16 ticks (R116). -/
def hwSend (link t : Nat) (chars : List Nat) (s : State) : State :=
  if !hwCross s link then s else emitOut (.headwater link t chars) (modTime (fun x => { x with busy := tset (0, 0) link (t, t + 33 * 16) x.busy }) s)

/-- Send a TIME message with T_A `t` on the output (R121, R127, R148). -/
def sendTime (t : Nat) (s : State) : State :=
  if !htValid s || !rdB s timeB R.TIME_CTRL_OUT_EN || hwIdle s then s
  else
    let seq := s.time.seqNo
    hwSend 2 t (hwMessage 1 seq (sender s) t 0 0)
      (modTime (fun x => { x with seqNo := (seq + 1) % 256, sentAt := s.tick + 1 }) s)

/-- The message of this millisecond has not been sent: HT may pass its instant within a tick of the servo. -/
def timeDue (s : State) : Bool := s.ht % ms < 2 && s.time.sentAt + 1 < s.tick + 1

/-- TIME_MESSAGE_SEND: at an HT that is a multiple of 1 ms (R121). -/
def execTimeMessageSend (s : State) : Host.Outcome State Fault Refusal :=
  run (fun s => if timeDue s then sendTime (s.ht / ms * ms) s else s) s

/-- DELAY_REQ_SEND: at 0.5 ms past each millisecond, on an input with character lock (R123). HT may pass that instant
within a tick of the servo. -/
def delayReqSend (b : Bool) (s : State) : State :=
  let i := hwIn s b
  let t := s.ht / ms * ms + 2000000
  if isMaster s || hwIdle s || !i.lock || s.ht < t || t + 2 ≤ s.ht || i.req.any (fun r => r.2 == t) then s
  else
    hwSend (b2n b) t (hwMessage 2 i.seqNo (sender s) 0 0 0)
      (modIn b (fun i => { i with req := some (i.seqNo, t), seqNo := (i.seqNo + 1) % 256 }) s)

/-- DELAY_REQ_SEND (R123). -/
def execDelayReqSend (b : Bool) (s : State) : Host.Outcome State Fault Refusal := run (delayReqSend b) s

/-- The character boundary at which a response leaves that follows after `wait` ticks (R117). -/
def responseAt (s : State) (wait : Nat) : Nat :=
  let t := (s.ht + wait) / 16 * 16
  if t < s.ht then t + 16 else t

/-- DELAY_REQ_RECEIVED: t2 is current HT plus `frac`/16 tick; the response's MARK leaves about `wait` ticks later, on a
character boundary (R117, R124, R149). -/
def delayReqReceived (frac wait : Nat) (m : List Nat) (s : State) : State :=
  if hwIdle s || !s.time.outLock || !hwCross s 2 then s
  else if msgBad m != 0 then countBad (msgBad m) s
  else if msgAt m 1 != 2 then s
  else
    let t3 := responseAt s wait
    hwSend 2 t3 (hwMessage 3 (msgAt m 2) (sender s) s.ht frac t3) s

/-- DELAY_REQ_RECEIVED (R124): the response leaves within 100 µs. -/
def execDelayReqReceived (frac : Fin 16) (wait : Nat) (m : List Nat) (s : State) :
    Host.Outcome State Fault Refusal :=
  guarded (delayWaitOk wait) (delayReqReceived frac wait m) s

/-- DELAY_RESP_RECEIVED: t4 is current HT plus `frac`/16 tick (R125). A negative d counts as 0, and the last 8 values are
kept over a loss of lock, a change of role and a step of HT within a measurement (DESIGN CHOICE, log 103). -/
def delayRespReceived (b : Bool) (frac : Nat) (m : List Nat) (s : State) : State :=
  if isMaster s || hwIdle s || !(hwIn s b).lock || !hwCross s (b2n b) then s
  else if msgBad m != 0 then countBad (msgBad m) s
  else if msgAt m 1 != 3 then s
  else
    match (hwIn s b).req with
    | some (seq, t1) =>
      if msgAt m 2 != seq || t1 + 200 * us ≤ s.ht then s
      else
        let t4 : Int := (16 * s.ht + frac : Nat)
        let t2 : Int := (16 * msgBe m 7 8 + msgAt m 15 % 16 : Nat)
        let t3 : Int := (16 * msgBe m 16 8 : Nat)
        let d := ((t4 - 16 * t1) - (t3 - t2)).toNat
        let first : Bool := (hwIn s b).delays == []
        let s := modIn b (fun i => { i with req := none, delays := (d :: i.delays).take 8 }) s
        let s := when_ first (modIn b (fun i => { i with ofs := ((hwIn s b).raw.map (· - downDelay s b)).getD 0 })) s
        let s := wr timeB (if b then R.TIME_DELAY_B_D else R.TIME_DELAY_A_D)
          (satU 24 (medianD (hwIn s b).delays / 2)) s
        abUpdate false (gainInput b s)
    | none => s

/-- DELAY_RESP_RECEIVED (R125). -/
def execDelayRespReceived (b : Bool) (frac : Fin 16) (m : List Nat) (s : State) :
    Host.Outcome State Fault Refusal :=
  run (delayRespReceived b frac m) s

/-- DELAY_RESP_TIMEOUT: 200 µs after t1 the measurement is discarded (R124). -/
def delayRespTimeout (b : Bool) (s : State) : State :=
  match (hwIn s b).req with
  | some (_, t1) => if t1 + 200 * us ≤ s.ht then modIn b (fun i => { i with req := none }) s else s
  | none => s

/-- DELAY_RESP_TIMEOUT (R124). -/
def execDelayRespTimeout (b : Bool) (s : State) : Host.Outcome State Fault Refusal := run (delayRespTimeout b) s

/-- HW_LINK_LOST: 1 µs without a valid comma on input A (0), input B (1) or the output (2) (R118). -/
def hwLinkLost (k : Nat) (s : State) : State :=
  if k = 2 then modTime (fun t => { t with outLock := false }) s
  else loseInput (k == 1) 1 (modIn (k == 1) (fun i => { i with lock := false }) s)

/-- HW_LINK_LOST (R118, R129). -/
def execHwLinkLost (k : Fin 3) (s : State) : Host.Outcome State Fault Refusal := run (hwLinkLost k) s

/-- HW_CHARACTER_LOCK: an input whose last message is recent is valid again at once (R118, R129). -/
def hwCharacterLock (k : Nat) (s : State) : State :=
  if hwIdle s then s
  else if k = 2 then modTime (fun t => { t with outLock := true }) s
  else abUpdate false (gainInput (k == 1) (modIn (k == 1) (fun i => { i with lock := true }) s))

/-- HW_CHARACTER_LOCK (R118). -/
def execHwCharacterLock (k : Fin 3) (s : State) : Host.Outcome State Fault Refusal := run (hwCharacterLock k) s

/-- HW_INPUT_TIMEOUT: 3 ms without a TIME message (R129). -/
def hwInputTimeout (b : Bool) (s : State) : State :=
  let i := hwIn s b
  if i.seen = 0 || 3 * ms < s.tick + 1 - i.seen then loseInput b 2 s else s

/-- HW_INPUT_TIMEOUT (R129, R131, R140). -/
def execHwInputTimeout (b : Bool) (s : State) : Host.Outcome State Fault Refusal := run (hwInputTimeout b) s

/-- SRC_HOLDOVER_SWITCH: HOLDOVER on the followed input for 1 s and not on the other (R131 reason 3). -/
def srcHoldoverSwitch (s : State) : State :=
  let i := hwIn s (followsB s)
  let o := hwIn s (!followsB s)
  if !isMaster s && s.time.following && inValid s (!followsB s) && i.holdAt != 0
      && 1000 * ms ≤ s.tick + 1 - i.holdAt && !bitOf o.flags 0 then switchSource 3 s else s

/-- SRC_HOLDOVER_SWITCH (R131). -/
def execSrcHoldoverSwitch (s : State) : Host.Outcome State Fault Refusal := run srcHoldoverSwitch s

/-- TIME_REVERT: PRIMARY valid for 10 s is followed again (R131 reason 5). -/
def timeRevert (s : State) : State :=
  let p := rdB s timeB R.TIME_CTRL_PRIMARY
  if !isMaster s && rdB s timeB R.TIME_CTRL_REVERT && s.time.following && followsB s != p && inValid s p
      && 10000 * ms ≤ s.tick - (hwIn s p).validAt then switchSource 5 s else s

/-- TIME_REVERT (R131). -/
def execTimeRevert (s : State) : Host.Outcome State Fault Refusal := run timeRevert s

/-! ### Commands of the time block -/

/-- A rejected command of the time block (R128, R132, R138). -/
def timeRejected (reason cmd : Nat) (s : State) : State := raise 0x020B noCh (reason + cmd * 256) s

/-- Why a SET is rejected, 0 when it is not (R128). -/
def setReject (v : Nat) (s : State) : Nat :=
  if inUse s then 1 else if !isMaster s then 2 else if 2 ^ 63 ≤ v then 3 else 0

/-- TIME_SET: latch TIME_SET for the next multiple of 1 ms (R128). -/
def timeSet (s : State) : State :=
  let v := rdPair s timeB R.TIME_SET_LO_SET R.TIME_SET_HI_SET
  if setReject v s != 0 then timeRejected (setReject v s) 1 s
  else modTime (fun t => { t with setReq := some (v, (s.ht / ms + 1) * ms) }) s

/-- TIME_SET (R128). -/
def execTimeSet (s : State) : Host.Outcome State Fault Refusal := run timeSet s

/-- TIME_SET_LOAD: the latched value becomes HT and is the T_A of the TIME message of that instant (R128). The load is
taken as a step: event 0x020A carries the HT before it as its STAMP (DESIGN CHOICE, log 104). -/
def timeSetLoad (s : State) : State :=
  match s.time.setReq with
  | some (v, t) =>
    if s.ht < t then s
    else
      let s := modTime (fun x => { x with setReq := none }) s
      if setReject v s != 0 then timeRejected (setReject v s) 1 s
      else sendTime v { raise 0x020A noCh v s with ht := v }
  | none => s

/-- TIME_SET_LOAD (R128). -/
def execTimeSetLoad (s : State) : Host.Outcome State Fault Refusal := run timeSetLoad s

/-- Apply the pending step (R137); a follower in EXPIRED then acquires (R144). -/
def applyStep (s : State) : State :=
  let s := stepHt s.time.stepOfs (wrB timeB R.TIME_STATUS_STEP_PENDING false s)
  if timeState s = 4 then setTimeState 0 s else s

/-- TIME_STEP_NOW (R137, R138). -/
def timeStepNow (s : State) : State :=
  if inUse s then timeRejected 1 2 s
  else if !rdB s timeB R.TIME_STATUS_STEP_PENDING then timeRejected 4 2 s
  else applyStep s

/-- TIME_STEP_NOW (R137). -/
def execTimeStepNow (s : State) : Host.Outcome State Fault Refusal := run timeStepNow s

/-- STEP_PENDING_APPLY: the timebase is no longer in use (R137). -/
def stepPendingApply (s : State) : State :=
  if rdB s timeB R.TIME_STATUS_STEP_PENDING && !inUse s then applyStep s else s

/-- STEP_PENDING_APPLY (R137). -/
def execStepPendingApply (s : State) : Host.Outcome State Fault Refusal := run stepPendingApply s

/-- TIME_SWITCH (R131 reason 4, R132). -/
def timeSwitch (s : State) : State :=
  if inValid s (!followsB s) then switchSource 4 s else timeRejected 5 3 s

/-- TIME_SWITCH (R131). -/
def execTimeSwitch (s : State) : Host.Outcome State Fault Refusal := run timeSwitch s

/-- The fields of TIME_ERRCNT. -/
def timeCounters : List Fld :=
  [R.TIME_ERRCNT_CRC, R.TIME_ERRCNT_DISCARD, R.TIME_ERRCNT_OUTLIER, R.TIME_ERRCNT_SWITCHES]

/-- TIME_CNT_CLR (R151). -/
def execTimeCntClr (s : State) : Host.Outcome State Fault Refusal := run (resetFlds timeB timeCounters) s

/-! ### Holdover, reference and role -/

/-- HOLDOVER_EXPIRED: ERR exceeds HOLD_MAX (R141). -/
def holdoverExpired (s : State) : State :=
  let t := s.tick - s.time.holdAt
  if timeState s = 3
      && (rd s timeB R.TIME_BOUND_HOLD_MAX - s.time.e0) * (16 * 10 ^ 23) < t * (2 * 10 ^ 14) + 165 * t * t
        + (s.time.e0 - rd s timeB R.TIME_BOUND_HOLD_MAX) * (16 * 10 ^ 23)
  then setTimeState 4 s else s

/-- HOLDOVER_EXPIRED (R141). -/
def execHoldoverExpired (s : State) : Host.Outcome State Fault Refusal := run holdoverExpired s

/-- In HOLD without REF156_P/N: HT counts on the internal oscillator and is EXPIRED (R146). A follower's error goes on
from its last filtered offset. -/
def refGone (s : State) : State :=
  let s := when_ (timeState s != 3 && timeState s != 4) (modTime (fun t => { t with e0 := t.filt, holdAt := s.tick })) s
  setTimeState 4 (raise 0x020D noCh 1 s)

/-- REF_LOST: REF156_P/N leaves its bound. A master outside HOLD, and any device in HOLD, keeps counting on the internal
oscillator and HT is no longer valid (R146, R839). -/
def refLost (s : State) : State :=
  if !rdB s timeB R.TIME_STATUS_REF_OK then s
  else
    let s := wrB timeB R.TIME_STATUS_REF_OK false s
    if s.mode = .hold then refGone s
    else if isMaster s then setTimeState 4 (raise 0x020D noCh 0 s)
    else s

/-- REF_LOST (R839). -/
def execRefLost (s : State) : Host.Outcome State Fault Refusal := run refLost s

/-- A master with a reference takes the role (R79 step 8, R127). -/
def takeMaster (s : State) : State :=
  if !isMaster s || !rdB s timeB R.TIME_STATUS_REF_OK || timeState s = 1 then s
  else
    let s := setTimeState 1 s
    let s := wr timeB R.TIME_SRC_ID_ID (rd s timeB R.TIME_ID_ID) (wr timeB R.TIME_SRC_HOP 0 s)
    raise 0x0201 noCh (1 + 8 * rd s timeB R.TIME_STATUS_FOLLOWING) s

/-- REF_RESTORED: REF156_P/N is back, and REF_OK 1; given again once REF_OK has been 1 for 1 s, a master in EXPIRED
returns to MASTER (R144, R839). -/
def refRestored (s : State) : State :=
  if !rdB s timeB R.TIME_STATUS_REF_OK then
    modTime (fun t => { t with refAt := s.tick }) (wrB timeB R.TIME_STATUS_REF_OK true s)
  else if timeState s = 4 && s.mode != .hold && s.time.refAt + second ≤ s.tick then takeMaster s
  else s

/-- REF_RESTORED (R144). -/
def execRefRestored (s : State) : Host.Outcome State Fault Refusal := run refRestored s

/-- TIME_CTRL.ROLE has changed while the timebase was not in use: a master ignores its inputs, a follower acquires. A SET
that waits is judged at its load instant (R128). -/
def roleChanged (s : State) : State :=
  let s := wrB timeB R.TIME_STATUS_A_VALID false (wrB timeB R.TIME_STATUS_B_VALID false s)
  let s := modTime (fun t => { t with
    following := false, locked := false, good := 0, suspects := [], slew := 0 }) s
  let s := wr timeB R.TIME_AB_DIFF_DIFF 0x80000000 s
  if isMaster s then (if rdB s timeB R.TIME_STATUS_REF_OK then takeMaster s else setTimeState 4 s)
  else setTimeState 0 s

/-- HT enters holdover at a hand-over (R82 step 3, R146): every Headwater lane goes idle, so that no input has character
lock any more (event 0x0203), and without REF156_P/N HT is EXPIRED. -/
def timeHold (s : State) : State :=
  let s := modTime (fun t => { t with
    inA := { t.inA with lock := false }, inB := { t.inB with lock := false }, outLock := false }) s
  let s := each [false, true] (fun b s =>
    if inValid s b then raise 0x0203 noCh (b2n b + 256) (wrB timeB (validFld b) false s) else s) s
  let s := wr timeB R.TIME_AB_DIFF_DIFF 0x80000000 s
  if !rdB s timeB R.TIME_STATUS_REF_OK then refGone s
  else if timeState s = 1 || timeState s = 2 || (timeState s = 0 && s.time.locked) then enterHoldover s
  else s

/-- Step 8 of the start-up after a hold: a master whose HT ran in holdover takes the role again (R79, R92). -/
def masterAgain (s : State) : State := if timeState s = 3 then takeMaster s else s

end Sys2Proof.Machine
end

