-- ==== Sys2Proof/Machine/Trip.lean ====
section
/-!
DEFINITION. Entry to TRIPPED and to HOLD (spec/02_modes_power_hold.md R43, R53, R57 to R60, R82, R842).
-/

namespace Sys2Proof.Machine
open Sys2Proof

/-- The trip causes of HUB_TRIP[2:0]: thermal, lockstep, rill read-back. -/
inductive TripCause where
  | thermal | lockstep | rill
deriving DecidableEq, Repr

def TripCause.bit : TripCause → Nat
  | .thermal => 0 | .lockstep => 1 | .rill => 2

/-- Cause code of event 0x0101 (R104). -/
def TripCause.code : TripCause → Nat
  | .thermal => 0x08 | .lockstep => 0x09 | .rill => 0x0B

def TripCause.fld : TripCause → Fld
  | .thermal => R.HUB_TRIP_THERMAL | .lockstep => R.HUB_TRIP_LOCKSTEP | .rill => R.HUB_TRIP_RILL_READBACK

/-- HUB_TRIP[2:0]. -/
def tripBits (s : State) : Nat :=
  rd s hubB R.HUB_TRIP_THERMAL + 2 * rd s hubB R.HUB_TRIP_LOCKSTEP + 4 * rd s hubB R.HUB_TRIP_RILL_READBACK

/-- A pending request is abandoned (R57). -/
def dropRequest (s : State) : State := wrB hubB R.HUB_MODE_REQ_PENDING false s

/-- PARK once on every port with a trained link, then electrical idle on every port, which stays so until bring-up
starts again (R43, R82). -/
def portsDark (s : State) : State :=
  let s := each channels (fun n s =>
    let p := sendPark n s
    portIdle n (modPort n (fun p => { p with parkWait := false }) p)) s
  { s with hub := { s.hub with portsOn := false } }

/-- Confluence units whose domain is powered down on entry to TRIPPED, and to HOLD: a trigger of each (R710, R824). -/
def offInTripped : List Nat := [0x0, 0x8, 0x9, 0xC, 0xD]
def offInHold : List Nat := [0x0, 0x1, 0x2, 0x6, 0x8, 0x9, 0xC, 0xD]

/-- A trip cause arises (R53, R59, R60, R842). -/
def trip (c : TripCause) (s : State) : State :=
  if !s.hub.up then s
  else
    let s := { s with hub := { s.hub with tripLatch := setBit s.hub.tripLatch c.bit true } }
    let s := wrB hubB c.fld true s
    let s := raise 0x0104 noCh (tripBits s) s
    if s.mode = .tripped then s
    else
      let held : Bool := s.mode == .hold
      let s := setMode .tripped c.code (wrB holdB R.HOLD_STATUS_ACTIVE false (dropRequest s))
      let s := if held then s else each offInTripped (fun i => trigger 0 i 0) s
      let s := each channels (fun n => chFault n 6) s
      portsDark (each channels motionHold s)

/-- Steps 2 and 4 to 6 of a hand-over: nothing is released any more, withdrawals end, PARK and electrical idle on every
port, memory in self-refresh (R82, R403, R615); the rills follow the mode. -/
def handoverDark (s : State) : State :=
  let s := { s with hub := { s.hub with noRelease := true } }
  let s := each channels refreshSafeDark (portsDark (each channels abandonWds s))
  each dies handoverSelfRefresh s

/-- Step 3: the mode becomes HOLD, every channel OFF, HT in holdover (R57, R63, R82). -/
def enterHold (cause rail : Nat) (s : State) : State :=
  let s := setMode .hold cause (dropRequest { s with hub := { s.hub with drawn := 0, holdLog := [] } })
  let s := wrB holdB R.HOLD_STATUS_ACTIVE true (raise 0x0106 noCh (cause - 4 + 256 * rail) s)
  let s := each channels (fun n s => if s.chState n = .off then s else toOff n false s) s
  let s := each channels motionHold (timeHold s)
  each dies triggerDdr (each offInHold (fun i => trigger 0 i 0) s)

end Sys2Proof.Machine
end

