-- ==== Sys2Proof/Machine/Gauge.lean ====
section
/-!
DEFINITION. The hold-store gauge (spec/02_modes_power_hold.md R91, R95 to R103): the charge counted, full charge, the
learned capacity, and the status bits that follow them.
-/

namespace Sys2Proof.Machine
open Sys2Proof

/-- The stop voltage, the full-charge voltage in mV, and the taper in mA (R103). -/
def vStop (s : State) : Nat := 2000 + 10 * max 0x4B (rd s holdB R.HOLD_VTHR_VSTOP)
def vFull (s : State) : Nat := 2000 + 10 * rd s holdB R.HOLD_VTHR_VFULL
def taper (s : State) : Nat := 5 * rd s holdB R.HOLD_VTHR_TAPER

def capacity (s : State) : Nat := rd s holdB R.HOLD_CAPACITY_CAP

/-- Cases 0 and 2 of R98. -/
def gaugeEmpty (s : State) : Bool := rd s holdB R.HOLD_GAUGE_CHARGE == 0 && rdB s holdB R.HOLD_STATUS_VHOLD_OK
def capUnknown (s : State) : Bool := capacity s == 0

/-- HOLD_STATUS.ASSURE (R100). -/
def assurance (s : State) : Nat :=
  if !rdB s holdB R.HOLD_STATUS_VHOLD_OK then 0
  else if !rdB s holdB R.HOLD_STATUS_UNCERTAIN && rd s holdB R.HOLD_REQ_CHARGE ≤ rd s holdB R.HOLD_GAUGE_CHARGE then 2
  else 1

/-- A case of R98 arises. -/
def uncertain (case : Nat) (s : State) : State := raise 0x010B noCh case (wrB holdB R.HOLD_STATUS_UNCERTAIN true s)

/-- HOLD_GAUGE.CHARGE shows the charge counted, kept within 0 and CAP (R95). -/
def setCharge (q : Int) (s : State) : State :=
  let c := (max 0 (min q (1000 * capacity s))).toNat
  wr holdB R.HOLD_GAUGE_CHARGE (c / 1000) { s with hub := { s.hub with charge := c } }

/-- What follows a change of the gauge, its capacity or its thresholds (R98, R100 to R102): `empty` and `unknown` say
which cases held before. -/
def gaugeFollow (empty unknown : Bool) (s : State) : State :=
  let s := when_ (gaugeEmpty s && !empty) (uncertain 0) s
  let s := when_ (capUnknown s && !unknown) (uncertain 2) s
  let s := when_ (gaugeEmpty s || capUnknown s) (wrB holdB R.HOLD_STATUS_UNCERTAIN true) s
  let low : Bool := capacity s != 0 && capacity s < rd s holdB R.HOLD_CAP_MIN_CHARGE
  let s := if rdB s holdB R.HOLD_STATUS_CAP_LOW == low then s
    else setReplace R.HUB_REPLACE_HOLD low (wrB holdB R.HOLD_STATUS_CAP_LOW low s)
  if assurance s = rd s holdB R.HOLD_STATUS_ASSURE then s
  else raise 0x010D noCh (assurance s) (wr holdB R.HOLD_STATUS_ASSURE (assurance s) s)

/-- Apply a change to the gauge and let its status follow. -/
def gauge (f : State → State) (s : State) : State :=
  if !s.hub.island then s else gaugeFollow (gaugeEmpty s) (capUnknown s) (f s)

/-- VHOLD has been measured. -/
def setVhold (mv : Nat) (s : State) : State :=
  wrB holdB R.HOLD_STATUS_VHOLD_OK (decide (vStop s < mv)) (wr holdB R.HOLD_VHOLD_MV (satU 13 mv) s)

/-- The hold island is without power: VHOLD is not above the stop voltage and VDDIO (rail 17) is out of its range. -/
def islandDead (s : State) : Bool := !rdB s holdB R.HOLD_STATUS_VHOLD_OK && s.hub.badRails.contains 17

/-- The device loses its power for good: what happens next is a power-on reset. -/
def powerLost (s : State) : State := { s with hub := { s.hub with up := false, starting := false, portsOn := false } }

/-- The hold island powers down (R91, R843): HT holdover ends, and what the island held is gone. -/
def islandDown (s : State) : State :=
  let s := if timeState s = 3 then setTimeState 4 s else s
  powerLost { s with hub := { s.hub with island := false, holdLog := [], replay := [] } }

/-- The hold island runs while VHOLD or VDDIO supplies it (R843). -/
def islandCheck (s : State) : State := if s.hub.island && islandDead s then islandDown s else s

/-- HOLD_VTHR has been written: the last measured VHOLD is judged by the new stop voltage. -/
def vthrWritten (s : State) : State :=
  islandCheck (gauge (fun s =>
    let mv := rd s holdB R.HOLD_VHOLD_MV
    if mv = 0 then s else wrB holdB R.HOLD_STATUS_VHOLD_OK (decide (vStop s < mv)) s) s)

/-- A housekeeping round outside HOLD: VHOLD in mV and the store current in mA (R95 to R97). -/
def gaugeRound (mv : Nat) (ma : Int) (s : State) : State :=
  islandCheck <| gauge (fun s =>
    let s := setCharge (s.hub.charge + 16 * ma) (setVhold mv s)
    let t : Int := taper s
    let full : Bool := vFull s ≤ mv && -t < ma && ma < t
    { s with hub := { s.hub with
      fullRounds := if !full then 0 else if s.hub.fullRounds < 8 then s.hub.fullRounds + 1 else s.hub.fullRounds
      fromFull := s.hub.fromFull && !(ma < -t) } }) s

/-- GAUGE_FULL_CHARGE: the conditions have held for 8 consecutive rounds. -/
def fullCharge (s : State) : State :=
  if s.hub.fullRounds != 8 then s
  else gauge (fun s =>
    let s := setCharge (1000 * capacity s) { s with hub := { s.hub with fullRounds := 9, fromFull := true } }
    raise 0x010C noCh (capacity s) (wrB holdB R.HOLD_STATUS_UNCERTAIN false s)) s

/-- GAUGE_FULL_CHARGE (R96). -/
def execGaugeFullCharge (s : State) : Host.Outcome State Fault Refusal := run fullCharge s

/-- The charge drawn in one round of HOLD in µC, at VHOLD `mv` (R95). -/
def roundDraw (mv : Nat) (s : State) : Nat :=
  (Config.islandDraw % 4096 + rd s holdB R.HOLD_DRAW_EXTRA) * 16000 / mv

/-- HOLD_GAUGE_ROUND: the island has converted VHOLD and subtracts the round's draw. -/
def holdRound (mv : Nat) (s : State) : State :=
  if s.mode != .hold then s
  else gauge (fun s =>
    let s := setVhold mv s
    let d := roundDraw (rd s holdB R.HOLD_VHOLD_MV) s
    setCharge (s.hub.charge - (d : Int)) { s with hub := { s.hub with drawn := s.hub.drawn + d } }) s

/-- HOLD_GAUGE_ROUND (R95). -/
def execHoldGaugeRound (mv : Fin 8192) (s : State) : Host.Outcome State Fault Refusal := run (holdRound mv) s

/-- A value of HOLD_CAPACITY.CAP is written by PF0 or the management agent: it goes to the calibration record (R97). -/
def holdCapWrite (v : Nat) (s : State) : State :=
  let s := gauge (fun s => setCharge s.hub.charge (wr holdB R.HOLD_CAPACITY_CAP v s)) s
  recDirty 3 { s with hub := { s.hub with capWrite := some (v % 2 ^ 24) } }

/-- HOLD_CAPACITY_WRITE (R97). -/
def execHoldCapacityWrite (v : Fin 16777216) (s : State) : Host.Outcome State Fault Refusal := run (holdCapWrite v) s

/-- The hold island starts with no retained state (R97, R98, R843): every register of the hold block at its reset
value, the gauge uncertain. -/
def islandStart (vholdOk : Bool) (s : State) : State :=
  let s := resetFlds holdB R.holdBlk s
  let s := { s with
    ht := 0
    hub := { s.hub with
      island := true, islandLost := true, fullRounds := 0, fromFull := false, drawn := 0, charge := 0
      holdLog := [], replay := [] } }
  gaugeFollow false false (wrB holdB R.HOLD_STATUS_VHOLD_OK vholdOk (uncertain 1 s))

end Sys2Proof.Machine
end

