-- ==== Sys2Proof/Machine/Oxbow.lean ====
section
/-!
DEFINITION. Oxbow substitutions (spec/18_heat_calibration_wear.md R753 to R761, R766, R767): pipeline failures, requests,
loads, the comparison of a shadow, and the switch.
-/

namespace Sys2Proof.Machine
open Sys2Proof

/-- A die without a free pipeline raises the replace request (R763, R766). -/
def refreshPipe (d : Nat) (s : State) : State :=
  if freePipes s d = [] then setReplaceDie R.HUB_REPLACE_PIPE R.HUB_REPLACE_PIPE_DIES d s else s

def retirePipe (d p : Nat) (s : State) : State :=
  raise 0x100F noCh (p + 64 * d) { s with pipeDead := tset 0 (52 * d + p) 1 s.pipeDead }

/-- The channel has a sequencer that runs or may run. -/
def chLive (s : State) (n : Nat) : Bool :=
  match s.chState n with
  | .armed => true | .running => true | .draining => true | _ => false

/-- A hard substitution begins; without a spare the channel is FAULTED (R756). -/
def oxHard (d k : Nat) (spare : Option Nat) (s : State) : State :=
  match spare with
  | some p => oxTake d k 3 1 p s
  | none => chFault (48 * d + k) 7 (oxFailed d k 1 s)

/-- What waits for the die begins: a hard failure first. -/
def oxServe (d : Nat) (s : State) : State :=
  if (s.ox d).port.isSome then s
  else
    match (s.ox d).waits.find? (·.2 == 3) with
    | some e =>
      oxHard d e.1 (nextSpare s d none) (setOx d { s.ox d with waits := (s.ox d).waits.erase e } s)
    | none => oxNext d s

/-! ### Failures (R755, R759) -/

/-- A soft failure is counted; at the threshold within 1 s a substitution begins, or waits. -/
def softFailure (d p : Nat) (s : State) : State :=
  if isDead s d p then s
  else
    let s := modPipe d p (fun x => {
      soft := s.tick :: x.soft.filter (fun t => s.tick < t + second), lastFail := s.tick + 1 }) s
    match pipeChannel s d p with
    | none => s
    | some n =>
      let k := n % 48
      if softCount s d p < max 1 (rd s (oxbB d) R.HUB_OXB_CFG_SOFT_THR) then s
      else match (s.ox d).port with
        | none => oxStart d k 1 s
        | some j =>
          if j = k || (s.ox d).waits.any (·.1 == k) then s
          else setOx d { s.ox d with waits := (s.ox d).waits ++ [(k, 1)] } s

/-- PIPE_SOFT_FAILURE (R755). -/
def execPipeSoftFailure (d : Fin 4) (p : Fin 52) (s : State) : Host.Outcome State Fault Refusal :=
  run (softFailure d p) s

/-- An attempt has failed: the next one, or the end (R758). -/
def attemptFailed (d : Nat) (s : State) : State :=
  let x := s.ox d
  let k := x.port.getD 0
  if max 1 (rd s (oxbB d) R.HUB_OXB_CFG_ATTEMPTS) ≤ x.attempt then oxServe d (oxEnd d (oxFailed d k 0 s))
  else
    match nextSpare s d (some x.spare) with
    | some p => oxTake d k x.trigger (x.attempt + 1) p s
    | none => oxServe d (oxEnd d (oxFailed d k 1 s))

/-- A hard failure: the pipeline stops, and its channel's substitution takes the spare of a shadowed one (R755, R759). -/
def hardFailure (d p : Nat) (s : State) : State :=
  if isDead s d p then s
  else
    let s := modPipe d p (fun x => { x with lastFail := s.tick + 1 }) s
    let s := wrB (oxbB d) R.HUB_OXB_PIPE_HARD true s p
    let x := s.ox d
    match pipeChannel s d p with
    | none =>
      if isSpare s d p && x.trigger != 3 then attemptFailed d s
      else if x.port.isSome && x.switched && x.old = p then loseFrames (48 * d + x.port.getD 0) s
      else s
    | some n =>
      let k := n % 48
      let s := when_ (chLive s n) (fun s =>
        loseFrames n (setPipeCh n { s.pipeCh n with down := true, skip := 0 }
          (wrB (chB n) R.SEQ_STATUS_WAITING false (modSeq n (fun q => { q with run := .stopped, held := none }) s)))) s
      match x.port with
      | none => oxHard d k (nextSpare s d none) s
      | some j =>
        if x.trigger = 3 || x.switched then
          if j = k && !x.switched then s
          else setOx d { x with waits := x.waits.filter (fun e => e.1 != k || e.2 == 4) ++ [(k, 3)] } s
        else
          let again := if x.clear then [(j, 4)] else if j = k then [] else [(j, 8 + x.trigger)]
          let spare := if x.clear then nextSpare s d none else some x.spare
          oxHard d k spare (modOx d (fun _ => { waits := x.waits ++ again }) s)

/-- PIPE_HARD_FAILURE (R759). -/
def execPipeHardFailure (d : Fin 4) (p : Fin 52) (s : State) : Host.Outcome State Fault Refusal :=
  run (hardFailure d p) s

/-! ### Requests and counters (R755, R767) -/

/-- HUB_OXB_CTRL.SUBST for port `k`. -/
def oxRequest (d k : Nat) (s : State) : State :=
  if (s.ox d).port.isSome || 48 ≤ k || s.chState (48 * d + k) = .off then
    wrB (oxbB d) R.HUB_OXB_STATUS_WRITE_REJECTED true s
  else oxStart d k 2 s

/-- OXBOW_REQUEST (R755). -/
def execOxbowRequest (d : Fin 4) (k : Fin 64) (s : State) : Host.Outcome State Fault Refusal := run (oxRequest d k) s

/-- The counters of R767. -/
def oxbCounters : List Fld := [R.HUB_OXB_SUBST_CNT_COUNT, R.HUB_OXB_FAIL_CNT_COUNT]

/-- OXB_CNT_CLR (R767). -/
def execOxbCntClr (d : Fin 4) (s : State) : Host.Outcome State Fault Refusal := run (resetFlds (oxbB d) oxbCounters) s

/-! ### The switch (R758 to R760) -/

/-- The switch is complete: counted, and the old pipeline is freed or retired. -/
def oxDone (d : Nat) (s : State) : State :=
  let x := s.ox d
  let n := 48 * d + x.port.getD 0
  let fs := match x.fs with
    | some f => f.2
    | none => rd s (chB n) R.SEQ_FRAME_CNT_COUNT
  let s := raise 0x100C n (x.old + 256 * x.spare + 2 ^ 14 * x.trigger + 65536 * (fs % 65536))
    (bump (oxbB d) R.HUB_OXB_SUBST_CNT_COUNT s)
  let o := s.pipe d x.old
  let clean : Bool := (o.lastFail = 0 || o.lastFail + second ≤ s.tick + 1) && !rdB s (oxbB d) R.HUB_OXB_PIPE_HARD x.old
  let s := if x.trigger = 2 && clean then s else retirePipe d x.old s
  oxServe d (oxEnd d (refreshPipe d (spareChanged s)))

/-- The sequencer of the spare starts from the state at the last mark, and the binding changes (R759). -/
def hardLoaded (d : Nat) (s : State) : State :=
  let x := s.ox d
  let n := 48 * d + x.port.getD 0
  let p := s.pipeCh n
  let q := s.seq n
  let s := bindPipe n x.spare s
  let s := if chLive s n then
      modSeq n (fun _ => { p.copy with
        owner := q.owner, swap := q.swap, stopT := q.stopT, stopReq := q.stopReq, ceils := q.ceils, gaps := q.gaps
        marks := q.marks })
        (setPipeCh n { p with down := false, skip := p.since, since := p.since } s)
    else setPipeCh n {} s
  let s := modOx d (fun x => { x with phase := 3, switched := true }) s
  if chLive s n then s else oxDone d s

/-- The load for a CLEAR is complete: the channel enters OFF (R73). -/
def clearLoaded (d : Nat) (s : State) : State :=
  let x := s.ox d
  let n := 48 * d + x.port.getD 0
  let s := if s.chState n = .faulted then toOff n false s else s
  let s := raise 0x100C n (x.old + 256 * x.spare + 2 ^ 14 * 2 + 65536 * (rd s (chB n) R.SEQ_FRAME_CNT_COUNT % 65536)) s
  oxServe d (oxEnd d s)

/-- OXBOW_LOADED: the spare has been loaded (R756, R757, R759). -/
def oxLoaded (d : Nat) (s : State) : State :=
  let x := s.ox d
  if x.port.isNone || x.phase != 1 then s
  else if x.clear then clearLoaded d s
  else if x.trigger = 3 then hardLoaded d s
  else modOx d (fun x => { x with phase := 2 }) s

/-- OXBOW_LOADED (R756). -/
def execOxbowLoaded (d : Fin 4) (s : State) : Host.Outcome State Fault Refusal := run (oxLoaded d) s

/-- OXBOW_FRAME_COMPARE: whether the composite, plane and item signatures of a frame match (R757, R758). -/
def oxCompare (d : Nat) (comp plane item : Bool) (s : State) : State :=
  let x := s.ox d
  if x.port.isNone || x.phase < 2 || x.trigger = 3 || !x.shadow || x.switched || x.fs.isSome then s
  else if !(comp && plane && item) then
    attemptFailed d (raise 0x100D (48 * d + x.port.getD 0)
      (x.attempt + 16 * b2n (!comp) + 32 * b2n (!plane) + 64 * b2n (!item)) s)
  else
    let good := x.good + 1
    let win := max 2 (rd s (oxbB d) R.HUB_OXB_CFG_WINDOW)
    if x.success then s
    else if good < 2 then modOx d (fun x => { x with good }) s
    else if x.frames ≤ win then modOx d (fun x => { x with good, success := true, phase := 3 }) s
    else attemptFailed d s

/-- OXBOW_FRAME_COMPARE (R757). -/
def execOxbowFrameCompare (d : Fin 4) (comp plane item : Bool) (s : State) : Host.Outcome State Fault Refusal :=
  run (oxCompare d comp plane item) s

/-- OXBOW_SWITCH: the mark of F_s has been emitted, and the Weir takes every later item from the spare. -/
def oxSwitch (d : Nat) (s : State) : State :=
  let x := s.ox d
  match x.port with
  | some k =>
    if x.fs.isSome && !x.switched && x.trigger != 3 then
      modOx d (fun x => { x with switched := true }) (bindPipe (48 * d + k) x.spare s)
    else s
  | none => s

/-- OXBOW_SWITCH (R758). -/
def execOxbowSwitch (d : Fin 4) (s : State) : Host.Outcome State Fault Refusal := run (oxSwitch d) s

/-- OXBOW_SWITCHED: the flip instant of F_s has come, or the channel no longer runs. -/
def oxSwitched (d : Nat) (s : State) : State :=
  let x := s.ox d
  match x.port with
  | some k =>
    let n := 48 * d + k
    let due : Bool := match x.fs with
      | some f => f.1 ≤ s.ht + max 0x3E8 (rd s (chB n) R.COMP_FLIP_LEAD) * us
      | none => false
    if x.switched && (due || !chLive s n) then oxDone d s else s
  | none => s

/-- OXBOW_SWITCHED (R760). -/
def execOxbowSwitched (d : Fin 4) (s : State) : Host.Outcome State Fault Refusal := run (oxSwitched d) s

end Sys2Proof.Machine
end

