-- ==== Sys2Proof/Machine/Eproto.lean ====
section
/-!
DEFINITION. The commands of the Ehriz protocol (spec/14_ehriz_protocol_heads.md): answers and records of a head, its
requests, PARK, and the pass-through registers.
-/

namespace Sys2Proof.Machine
open Sys2Proof

/-- A discarded packet or set (R559, R565); `k` of them. -/
def rxError (n k : Nat) (s : State) : State :=
  if k = 0 then s
  else
    let s := bump (chB n) R.EPROT_RX_ERR_CNT_COUNT s k
    modPort n (fun p => { p with rxErr := some (match p.rxErr with
      | some (c, t) => (c + k, t)
      | none => (k, s.ht)) }) s

/-- What arrives from the head: nothing while the port carries no packets, a counted discard where it is not valid. -/
def fromHead (n : Nat) (ok : Bool) (f : State → State) (s : State) : State :=
  if !carries s n then s else if ok then f s else rxError n 1 s

/-! ### Head registers (R572, R573, R579 to R581, R846) -/

/-- A pass-through request ends (R593). -/
def passDone (n status : Nat) (words : List Nat) (s : State) : State :=
  let b := chB n
  let s := wrB b R.EPROT_PASS_STAT_BUSY false (wrB b R.EPROT_PASS_STAT_DONE true (wr b R.EPROT_PASS_STAT_STATUS status s))
  each (List.range (min 16 words.length)) (fun i s => wr b R.EPROT_PASS_DATA_DATA (words.getD i 0) s i) s

/-- The answer to a write of a format register outside identification, and the end of such a group (R579). -/
def formatAnswer (n addr status : Nat) (s : State) : State :=
  if addr != 0x100 && addr != 0x104 && addr != 0x108 then s
  else if status != 0 then
    raise 0x0C0A n (status + 256 * addr)
      (wrB (chB n) R.EPROT_STATUS_FMT_REJECTED true (modPort n (fun p => { p with fmtBad := true }) s))
  else
    let s := when_ (addr = 0x100) (modPort n (fun p => { p with fmtBad := false })) s
    when_ (addr = 0x108 && !(s.port n).fmtBad) (wrB (chB n) R.EPROT_STATUS_FMT_REJECTED false) s

/-- One of the device's own requests has been answered. -/
def ownDone (n : Nat) (r : CfgReq) (status : Nat) (words : List Nat) (s : State) : State :=
  match (s.port n).ident with
  | .reading =>
    if r.write then s
    else if status != 0 then rejectHead n 5 s
    else
      let w := (words ++ List.replicate 16 0).take 16
      let s := modPort n (fun p => { p with idRegs := if r.addr = 0 then w ++ p.idRegs else p.idRegs ++ w }) s
      if (s.port n).idRegs.length = 32 then identRead n s else s
  | .writing =>
    if !r.write then s
    else if status != 0 then rejectHead n 6 (formatAnswer n r.addr status s)
    else identPark n (formatAnswer n r.addr 0 s)
  | .yes => if r.write then formatAnswer n r.addr status s else s
  | _ => s

/-- CFG_RESP: tag, status, and the words a read returns; a COUNT below the request's names the words done (R572, R846). -/
def cfgResp (n tag status : Nat) (words : List Nat) (s : State) : State :=
  match (s.port n).cfg.find? (·.tag == tag) with
  | none => s
  | some r =>
    let s := modPort n (fun p => { p with cfg := p.cfg.filter (·.tag != tag) }) s
    let s := when_ (r.pass || status != 0) (raise 0x0C08 n (status + 256 * b2n r.pass)) s
    let s := pumpCfg n s
    if r.pass then passDone n status words s else ownDone n r status words s

/-- CFG_RESP (R846). -/
def execCfgResp (n : Fin 192) (ok : Bool) (tag status : Fin 256) (words : List Nat) (s : State) :
    Host.Outcome State Fault Refusal :=
  run (fromHead n (ok && status.val ≤ 3) (cfgResp n tag status words)) s

/-- CFG_TIMEOUT: a request unanswered for 100 µs is sent again once, then counted (R573, R581). -/
def cfgTimeout (n tag : Nat) (s : State) : State :=
  match (s.port n).cfg.find? (·.tag == tag) with
  | none => s
  | some r =>
    if !packetsOn s n || s.tick < r.sent + 100 * us then s
    else if !r.resent then
      sendPacket n (.cfgRequest n (b2n r.write) r.tag r.addr (if r.write then r.words else [r.count]))
        (modPort n (fun p => { p with cfg := p.cfg.map (fun q =>
          if q.tag = tag then { q with resent := true, sent := s.tick } else q) }) s)
    else
      let s := modPort n (fun p => { p with cfg := p.cfg.filter (·.tag != tag) }) s
      let s := raise 0x0C08 n (0xFF + 256 * b2n r.pass) (bump (chB n) R.EPROT_CFG_TO_CNT_COUNT s)
      let s := when_ r.pass (passDone n 0xFF []) (pumpCfg n s)
      when_ ((s.port n).ident = .reading || (s.port n).ident = .writing) (rejectHead n 5) s

/-- CFG_TIMEOUT (R573). -/
def execCfgTimeout (n : Fin 192) (tag : Fin 256) (s : State) : Host.Outcome State Fault Refusal :=
  run (cfgTimeout n tag) s

/-- PASS_THROUGH_REQUEST: EPROT_PASS_CTRL.GO (R593). -/
def passThrough (n : Nat) (s : State) : State :=
  let b := chB n
  let write := rdB s b R.EPROT_PASS_CTRL_WRITE
  let addr := rd s b R.EPROT_PASS_CTRL_ADDR
  let k := rd s b R.EPROT_PASS_CTRL_COUNT_M1 + 1
  if rdB s b R.EPROT_PASS_STAT_BUSY then s
  else if write && addr < 0x8000 then wrB b R.EPROT_STATUS_WRITE_REJECTED true s
  else
    sendCfg n write addr (if write then (List.range k).map (fun i => rd s b R.EPROT_PASS_DATA_DATA i) else []) k true
      (wrB b R.EPROT_PASS_STAT_BUSY true s)

/-- PASS_THROUGH_REQUEST (R593). -/
def execPassThroughRequest (n : Fin 192) (s : State) : Host.Outcome State Fault Refusal := run (passThrough n) s

/-- The counters of R593. -/
def eprotCounters : List Fld :=
  [R.EPROT_RX_ERR_CNT_COUNT, R.EPROT_HEAD_ERR_CNT_COUNT, R.EPROT_IDENT_CNT_COUNT, R.EPROT_PARK_TO_CNT_COUNT,
   R.EPROT_STALE_CNT_COUNT, R.EPROT_CFG_TO_CNT_COUNT]

/-- EPROT_CNT_CLR (R593). -/
def execEprotCntClr (n : Fin 192) (s : State) : Host.Outcome State Fault Refusal :=
  run (resetFlds (chB n) eprotCounters) s

/-! ### Telemetry (R574, R576) -/

/-- TELEM_PACKET: a packet is taken, its records following as commands of their own, or discarded; `bad` of its records
have a reserved type (R559, R565, R574). -/
def execTelemPacket (n : Fin 192) (ok : Bool) (bad : Nat) (s : State) : Host.Outcome State Fault Refusal :=
  run (fromHead n ok (rxError n bad)) s

/-- EPROT_TEL_AGE.AGE: age of the last STATUS record in 100 µs. -/
def telAge (s : State) (n : Nat) : Nat :=
  match (s.port n).telAt with
  | 0 => 0xFFFF
  | t + 1 => min 0xFFFF ((s.tick - t) / (100 * us))

/-- Lower bounds of bands 1 to 4 in °C (R742). -/
def bandLow : List Int := [0, 45, 70, 85]

/-- STATUS_RECORD: flags, array temperature in 1/16 °C, supply in 10 mV, error counts (R574, R576, R742, R744). -/
def statusRecord (n flags temp supply chunks tokens launches : Nat) (s : State) : State :=
  let b := chB n
  let s := when_ (rdB s b R.EPROT_STATUS_TEL_STALE) (fun s =>
    raise 0x0C03 n (65536 * telAge s n) (wrB b R.EPROT_STATUS_TEL_STALE false s)) s
  let s := wrB b R.EPROT_STATUS_PARKED (bitOf flags 0) (wrB b R.EPROT_STATUS_HT_LOCK (bitOf flags 1)
    (wrB b R.EPROT_STATUS_HEAD_FAULT (bitOf flags 2) s))
  let errs := chunks + tokens + launches
  let s := bump b R.EPROT_HEAD_ERR_CNT_COUNT s errs
  let t := sext 16 temp
  let old := (s.port n).band
  let new := moveBand bandLow old t
  let s := modPort n (fun p => { p with
    telAt := s.tick + 1, arrayT := t, supply, band := new
    headErr := if errs = 0 then p.headErr else some (match p.headErr with
      | some (c, k, l, a) => (c + chunks, k + tokens, l + launches, a)
      | none => (chunks, tokens, launches, s.ht)) }) s
  when_ (new != old) (raise 0x1002 n (new + 16 * old)) s

/-- STATUS_RECORD (R574). -/
def execStatusRecord (n : Fin 192) (flags : Fin 8) (temp supply : Fin 65536) (chunks tokens launches : Fin 256)
    (s : State) : Host.Outcome State Fault Refusal :=
  run (fromHead n true (statusRecord n flags temp supply chunks tokens launches)) s

/-- LAMP_TEMP_RECORD: the lamp temperatures of strings 0 to S − 1 in 1/16 °C (R423, R574). -/
def lampTempRecord (n : Nat) (temps : List Nat) (s : State) : State :=
  each ((strings s n).filter (· < temps.length)) (fun k => lampTemp n k (sext 16 (temps.getD k 0 % 65536))) s

/-- LAMP_TEMP_RECORD (R423). -/
def execLampTempRecord (n : Fin 192) (temps : List Nat) (s : State) : Host.Outcome State Fault Refusal :=
  run (fromHead n true (lampTempRecord n temps)) s

/-- The value of MASK bit `bit` as the binary32 input it is (R466): sensors 0 to 15, supply, wheel speed, scan amplitude,
phase error and frequency. -/
def tickValue (s : State) (n bit v : Nat) : Nat :=
  if bit < 16 then fOfRatI (lightValue s n bit v) 65535
  else match bit with
    | 16 => fOfRat v 100
    | 17 => fOfFix v 8
    | 18 => fOfFix v 16
    | 19 => fOfInt (sext 32 v)
    | _ => fOfFix v 4

/-- A tick measurement reaches the inputs of a slot whose open sample it belongs to (R464, R466). -/
def tickInput (k bit v : Nat) (s : State) : State :=
  each ((List.range 16).filter (fun i => needBit (inSrc s k i) (inArg s k i) == some bit)) (fun i s =>
    modSlot k (fun x => { x with have_ := setBit x.have_ i true }) (setInput k i (tickValue s (slotChannel s k) bit v) s)) s

/-- TICK_RECORD: sample tick, schedule, and one value per set bit of its MASK (R574, R575). -/
def tickRecord (n tick j : Nat) (vals : List Nat) (s : State) : State :=
  let e := (s.port n).scheds.getD j (0, 0, 0)
  let bs := bitList 21 e.2.2
  if e.1 = 0 || vals.length != bs.length then s
  else
    let ks := (slotsOf s n).filter (fun k =>
      slotActive s k && schedOf s n k == some j && (s.slot k).open_ && (s.slot k).tick == some tick)
    let s := each (bs.zip vals) (fun p s =>
      let s := each ks (fun k => tickInput k p.1 p.2) s
      match p.1 with
      | 17 => speedSample n (p.2 % 65536) s
      | 18 => ampSample n (p.2 % 65536) s
      | 19 => phaseSample n (sext 32 p.2) s
      | _ => s) s
    s

/-- TICK_RECORD (R574). -/
def execTickRecord (n : Fin 192) (tick : Nat) (j : Fin 8) (vals : List Nat) (s : State) :
    Host.Outcome State Fault Refusal :=
  run (fromHead n true (tickRecord n tick j vals)) s

/-- The light per unit driven amplitude of a lit plane's level, for each sensor (R466 source 0x10). -/
def etaInputs (n : Nat) (o : SampleOut) (sensors : List Nat) (s : State) : State :=
  match o.level with
  | some j =>
    if o.a = 0 || o.cur = 0 || 3 < j then s
    else each (List.range sensors.length) (fun i =>
      feedInput n 0x10 (o.str + 16 * j + 256 * i) (fOfRatI (lightValue s n i (sensors.getD i 0)) o.a)) s
  | none => s

/-- SAMPLE_RECORD: tag, string voltage in 10 mV, current as a fraction of full scale, sensors. A record that has not come
by the end of the frame after its item's has no effect (R430, R466, R574). -/
def sampleRecord (n stag v i : Nat) (sensors : List Nat) (s : State) : State :=
  match (s.port n).samples.find? (·.stag == stag) with
  | none => s
  | some o =>
    let s := modPort n (fun p => { p with samples := p.samples.filter (fun x => x.stag != stag) }) s
    if o.fno + 1 < (s.weir n).curFno then s
    else
      let s := if o.kind = 1 then s
        else
          let s := if o.cur = 0 then s
            else
              let s := feedInput n 1 o.str (fOfRat (i * calAt s 2 n o.str) (65535 * 0x4000)) s
              let s := feedInput n 2 o.str (fOfRat v 100) s
              feedInput n 6 o.str (fOfRat o.req 65535) s
          lampSample n o.str v i o.cur s
      if o.kind = 0 then s else etaInputs n o sensors s

/-- SAMPLE_RECORD (R430). -/
def execSampleRecord (n : Fin 192) (stag : Fin 256) (v i : Fin 65536) (sensors : List Nat) (s : State) :
    Host.Outcome State Fault Refusal :=
  run (fromHead n true (sampleRecord n stag v i sensors)) s

/-- INDEX_RECORD: HT of an index of segment 0 with its fraction in 1/16 tick; `merged` were merged at a full crossing
(R508, R574, R705). -/
def indexRecord (n ht frac merged : Nat) (s : State) : State :=
  indexMeasured n (16 * ht + frac) (dieOverrun (n / 48) (16 + n % 48) merged s)

/-- INDEX_RECORD (R508). -/
def execIndexRecord (n : Fin 192) (ht : Nat) (frac : Fin 16) (merged : Nat) (s : State) :
    Host.Outcome State Fault Refusal :=
  run (fromHead n true (indexRecord n ht frac merged)) s

/-- DRIVER_RECORD: driver, presence, range, self-test result, last executed tag and position faults (R410, R433, R440,
R444, R574). -/
def driverRecord (n i : Nat) (present high : Bool) (tag faults : Nat) (s : State) : State :=
  let s := modDrv n i (fun d => { d with present, high, tag }) s
  let k := drvString s n i
  let served := i < rillLen s n && k < headStrings s n
  let s := when_ (!present && served) (cutStart n k 3) s
  let s := match (s.drv n i).cmds with
    | c :: _ => if c.first.isSome && !c.stale && c.tag == tag then refreshPending n (driverAck n i s) else s
    | [] => s
  each (bitList 12 faults) (fun p => bypassPosition n i p) s

/-- DRIVER_RECORD (R433). -/
def execDriverRecord (n : Fin 192) (i : Fin 16) (present high : Bool) (tag : Fin 256) (faults : Fin 4096) (s : State) :
    Host.Outcome State Fault Refusal :=
  run (fromHead n true (driverRecord n i present high tag faults)) s

/-- LINKQ_RECORD: the FOM of the head's receive logical lanes (R533, R574). -/
def linkqRecord (n : Nat) (foms : List Nat) (s : State) : State :=
  each laneNums (fun l => wr (laneB n l) R.EPHY_LFAR_FOM (foms.getD (logicalLane s n l) 0)) s

/-- LINKQ_RECORD (R574). -/
def execLinkqRecord (n : Fin 192) (foms : List Nat) (s : State) : Host.Outcome State Fault Refusal :=
  run (fromHead n true (linkqRecord n foms)) s

/-- FAULT_RECORD: a head fault code (R574, R594). -/
def execFaultRecord (n : Fin 192) (code : Fin 65536) (s : State) : Host.Outcome State Fault Refusal :=
  run (fromHead n (code.val != 0) (raise 0x0C07 n code)) s

/-- TELEM_STALE: no STATUS record for STALE ms, counted while the port is UP from its entry at the earliest (R576). -/
def telemStale (n : Nat) (s : State) : State :=
  let p := s.port n
  let up := if s.pst n = .up then p.stAt + 1 else 0
  let since := max p.telAt up
  if rdB s (chB n) R.EPROT_STATUS_TEL_STALE || since = 0
      || s.tick + 1 < since + max 1 (rd s (chB n) R.EPROT_CFG_STALE) * ms then s
  else
    raise 0x0C03 n (1 + 65536 * telAge s n) (bump (chB n) R.EPROT_STALE_CNT_COUNT (wrB (chB n) R.EPROT_STATUS_TEL_STALE true s))

/-- TELEM_STALE (R576). -/
def execTelemStale (n : Fin 192) (s : State) : Host.Outcome State Fault Refusal := run (telemStale n) s

/-! ### PARK (R580, R585) -/

/-- PARK_ACK: the acknowledgement of the last PARK; it completes identification and ends DRAINING (R63, R580, R585). -/
def parkAck (n seq : Nat) (s : State) : State :=
  let p := s.port n
  if !p.parkWait || p.parkSeq != seq then s
  else
    let s := modPort n (fun p => { p with parkWait := false, parkDone := true }) s
    let s := when_ (s.pst n = .ident && p.ident = .parking) (headIdentified n) s
    drainAcked n s

/-- PARK_ACK (R580). -/
def execParkAck (n : Fin 192) (ok : Bool) (seq : Fin 256) (s : State) : Host.Outcome State Fault Refusal :=
  run (fromHead n ok (parkAck n seq)) s

/-- PARK_RESEND: every 100 µs until it is acknowledged (R585). -/
def parkResend (n : Nat) (s : State) : State :=
  let p := s.port n
  if p.parkWait && linkTrained s n && decide (p.parkLast + 100 * us ≤ s.tick) && decide (s.tick < p.parkFirst + 10 * ms) then
    emitOut (.park n p.parkSeq) (modPort n (fun p => { p with parkLast := s.tick }) s)
  else s

/-- PARK_RESEND (R585). -/
def execParkResend (n : Fin 192) (s : State) : Host.Outcome State Fault Refusal := run (parkResend n) s

/-- PARK_TIMEOUT: 10 ms after the first sending (R585). -/
def parkTimeout (n : Nat) (s : State) : State :=
  let p := s.port n
  if p.parkWait && decide (p.parkFirst + 10 * ms ≤ s.tick) then
    raise 0x0C05 n p.parkSeq
      (bump (chB n) R.EPROT_PARK_TO_CNT_COUNT (modPort n (fun p => { p with parkWait := false }) s))
  else s

/-- PARK_TIMEOUT (R585). -/
def execParkTimeout (n : Fin 192) (s : State) : Host.Outcome State Fault Refusal := run (parkTimeout n) s

/-! ### Requests from the head (R588 to R590) -/

/-- The port's own request is unacknowledged, so that it wins over one of the head (R589). -/
def ownRequest (s : State) (n : Nat) : Bool :=
  (s.port n).rreq.isSome || (s.port n).wreq.any (fun r => !r.acked)

/-- RETRAIN_REQ: acknowledged and acted on, or kept until the port's own request has completed (R588, R589). -/
def retrainReq (n mask seq : Nat) (s : State) : State :=
  if (s.port n).headSet = some (1, mask, seq) then s else
  let s := modPort n (fun p => { p with headSet := some (1, mask, seq) }) s
  let own := ownRequest s n
  let s := raise 0x0C06 n (1 + 16 * b2n own + 256 * mask) s
  if own then modPort n (fun p => { p with headRetrain := some (mask, seq) }) s
  else if s.pst n = .up then enterRetrain n 3 (emitOut (.linkSet n 2 0 mask seq) s)
  else s

/-- RETRAIN_REQ (R588). -/
def execRetrainReq (n : Fin 192) (ok : Bool) (mask : Fin 16) (seq : Fin 256) (s : State) :
    Host.Outcome State Fault Refusal :=
  run (fromHead n ok (retrainReq n mask seq)) s

/-- WIDTH_REQ: every lane in use that the mask leaves out is lost; no acknowledgement (R588, R589). -/
def widthReq (n mask seq : Nat) (s : State) : State :=
  if (s.port n).headSet = some (3, mask, seq) then s else
  let s := modPort n (fun p => { p with headSet := some (3, mask, seq) }) s
  let s := raise 0x0C06 n (3 + 16 * b2n (ownRequest s n) + 256 * mask) s
  let lost := laneNums.filter (fun l => !bitOf mask (logicalLane s n l)
    && (laneUsed s n (logicalLane s n l) || (s.port n).wreq.any (fun r => bitOf r.lanes (logicalLane s n l))))
  lanesLost n lost 4 s

/-- WIDTH_REQ (R588). -/
def execWidthReq (n : Fin 192) (ok : Bool) (mask : Fin 16) (seq : Fin 256) (s : State) :
    Host.Outcome State Fault Refusal :=
  run (fromHead n ok (widthReq n mask seq)) s

/-- WIDTH_ACK: of the current request it arms the switch; of another it is ignored (R590). -/
def widthAck (n seq : Nat) (s : State) : State :=
  modPort n (fun p => { p with wreq := p.wreq.map (fun r => if r.seq = seq then { r with acked := true } else r) }) s

/-- WIDTH_ACK (R590). -/
def execWidthAck (n : Fin 192) (ok : Bool) (seq : Fin 256) (s : State) : Host.Outcome State Fault Refusal :=
  run (fromHead n ok (widthAck n seq)) s

/-- RETRAIN_ACK: completes the port's own retrain request (R589). -/
def retrainAck (n seq : Nat) (s : State) : State :=
  if (s.port n).rreq = some seq then serveHeadRetrain n (modPort n (fun p => { p with rreq := none }) s) else s

/-- RETRAIN_ACK (R589); a set may come while the port trains again. -/
def execRetrainAck (n : Fin 192) (ok : Bool) (seq : Fin 256) (s : State) : Host.Outcome State Fault Refusal :=
  run (if ok then retrainAck n seq else rxError n 1) s

end Sys2Proof.Machine
end

