-- ==== Sys2Proof/Machine/Loops.lean ====
section
/-!
DEFINITION. Loop engines around their instructions (spec/11_loop_engines.md): start, stop, safe hold and resume of a
slot, its samples and set-points, its actuators, the eddy buffers, and migration to spare cores.
-/

namespace Sys2Proof.Machine
open Sys2Proof

/-- CHANNEL of a slot's events (R499). -/
def evCh (s : State) (k : Nat) : Nat := if slotChannel s k < 192 then slotChannel s k else noCh

def setSlotState (k : Nat) (x : SlotState) (s : State) : State :=
  refreshCore (coreOf k) (wr (slB k) R.LOOP_SLOT_STATUS_STATE x.code s)

def rejectSlot (k : Nat) (s : State) : State := wrB (slB k) R.LOOP_SLOT_STATUS_WRITE_REJECTED true s

/-! ### Actuators (R471, R474) -/

/-- Actuator `i` of a slot takes a converted value; `ref` is the sample tick it belongs to. -/
def applyAct (k i : Nat) (v : Int) (ref : Nat) (s : State) : State :=
  let n := slotChannel s k
  let a := outArg s k i
  match outDst s k i with
  | 1 => wr (strB n (a % 8)) R.LAMP_SGAIN_TRIM v.toNat s
  | 2 => wr (strB n (a % 8)) R.LAMP_SGAIN_GAIN v.toNat s
  | 3 =>
    let j := 4 * (a % 4) + bits a 2 2
    wr (chB n) R.PLANE_LVL_CORR (corrFor v.toNat)
      (modWeir n (fun w => { w with lambda := tset (2 ^ 26) j v.toNat w.lambda }) s) j
  | 4 => writeActuator n 0x110 (toTwos 16 v) s
  | 5 => predPeriod n v s
  | 6 => predPhase n ref v s
  | 7 => writeActuator n 0x114 v.toNat s
  | 8 => writeActuator n 0x118 v.toNat s
  | 9 => gridPeriod n v s
  | 10 => gridPhase n v s
  | 11 =>
    let t := 512 * slotDie k + a % 512
    { modSlot t (fun x => { x with spWrites := x.spWrites ++ [{ n := outN s k i % 4, v := v.toNat, out := some ref }] }) s
      with spReg := tset 0 (4 * t + outN s k i % 4) v.toNat s.spReg }
  | _ => s

/-- Present value of an actuator, converted. -/
def actNow (s : State) (k i : Nat) : Int :=
  let n := slotChannel s k
  let a := outArg s k i
  let reg := fun (addr : Nat) => tget 0 addr (s.port n).act
  match outDst s k i with
  | 1 => rd s (strB n (a % 8)) R.LAMP_SGAIN_TRIM
  | 2 => rd s (strB n (a % 8)) R.LAMP_SGAIN_GAIN
  | 3 => (tget (2 ^ 26) (4 * (a % 4) + bits a 2 2) (s.weir n).lambda : Nat)
  | 4 => sext 16 (reg 0x110)
  | 5 => ((s.move n).predP.getD 0 : Nat)
  | 6 => (s.move n).predPh
  | 7 => (reg 0x114 : Nat)
  | 8 => (reg 0x118 : Nat)
  | 9 => ((s.move n).gridP : Nat)
  | 10 => ((s.move n).gridPh : Nat)
  | _ => 0

/-- Actuators that safe values and ramps move (R474). -/
def rampActs (s : State) (k : Nat) : List Nat :=
  (List.range 16).filter (fun i => 1 ≤ outDst s k i && outDst s k i ≤ 10)

def safeValue (s : State) (k i : Nat) : Int := convert (outDst s k i) (outSafe s k i)

/-- Every actuator of the slot takes its safe value. -/
def toSafe (k : Nat) (s : State) : State :=
  each (rampActs s k) (fun i s => applyAct k i (safeValue s k i) s.ht s) s

/-- A tick of a RAMPING slot: each actuator on the straight line between its value at entry and its safe value (R474).
Between two integers the value is unstated. -/
def rampTick (k t : Nat) (s : State) : State :=
  let x := s.slot k
  let dur := rd s (slB k) R.LOOP_SLOT_HOLD_RAMP * ms
  each (rampActs s k) (fun i s =>
    let a := tget 0 i x.rampFrom
    let b := safeValue s k i
    let e := min dur (t - x.holdAt)
    if dur = 0 then applyAct k i b t s
    else
      let num := (b - a) * (e : Int)
      let r := if num % (dur : Int) = 0 then (0, s) else draw 1 s
      applyAct k i (a + num / (dur : Int) + r.1) t r.2) s

/-! ### The eddy buffers (R485 to R487) -/

def eddyKey (d cl : Nat) : Nat := 17 * d + cl
def State.eddy (s : State) (e : Nat) : EddySt := tget {} e s.eddys
def modEddy (e : Nat) (f : EddySt → EddySt) (s : State) : State := { s with eddys := tset {} e (f (s.eddy e)) s.eddys }
def edB (e : Nat) : Nat := eddyB (e / 17) (e % 17)
def eddyState (s : State) (e : Nat) : Nat := rd s (edB e) R.LOOP_EDDY_STATUS_STATE

/-- Bytes of a record. -/
def EddyRec.size (r : EddyRec) : Nat := 16 + ceilDiv (4 * r.nodes.length) 16 * 16

/-- The record as it lies in the buffer. -/
def EddyRec.bytes (r : EddyRec) : List Byte :=
  leBytes 8 r.tick ++ leBytes 2 r.slot ++ leBytes 2 (bitMask (r.nodes.map (·.1))) ++ leBytes 2 r.lat ++ leBytes 2 r.flags
    ++ r.nodes.flatMap (fun p => leBytes 4 p.2) ++ List.replicate (r.size - 16 - 4 * r.nodes.length) 0

def recsSize (l : List EddyRec) : Nat := (l.map EddyRec.size).foldl (· + ·) 0

/-- Drop the oldest records until the rest fits the buffer of 64 KiB. -/
def fitRecs : List EddyRec → List EddyRec
  | [] => []
  | r :: t => if recsSize (r :: t) ≤ 65536 then r :: t else fitRecs t

/-- A trigger with cause `c` on record `r`: the capture begins (R486). -/
def beginCapture (e c : Nat) (r : EddyRec) (s : State) : State :=
  let s := wr (edB e) R.LOOP_EDDY_STATUS_STATE 2 (wr (edB e) R.LOOP_EDDY_STATUS_CAUSE c s)
  let s := wr (edB e) R.LOOP_EDDY_TRIG_T_LO_HT (r.tick % 2 ^ 32) (wr (edB e) R.LOOP_EDDY_TRIG_T_HI_HT (r.tick / 2 ^ 32) s)
  modEddy e (fun x => { x with left := rd s (edB e) R.LOOP_EDDY_CFG_POST, manual := false }) s

/-- The threshold crossing of a record, and the value of the node after it (R487). -/
def crosses (s : State) (e : Nat) (r : EddyRec) : Bool :=
  let v := rd s (edB e) R.LOOP_EDDY_THR_VAL_VALUE
  match (s.eddy e).thr, r.nodes.find? (·.1 == rd s (edB e) R.LOOP_EDDY_THR_NODE) with
  | some p, some (_, x) =>
    if rdB s (edB e) R.LOOP_EDDY_THR_RISING then fLe p v && fLt v x else fLe v p && fLt x v
  | _, _ => false

/-- The lowest cause of a trigger that a record meets, 0 for none. -/
def triggerOf (s : State) (e : Nat) (r : EddyRec) (mig : Bool) : Nat :=
  let on := fun (f : Fld) => rdB s (edB e) f
  if bitOf r.flags 1 && on R.LOOP_EDDY_TRIG_FAULT then 1
  else if bitOf r.flags 0 && on R.LOOP_EDDY_TRIG_SKIP then 2
  else if r.slot = rd s (edB e) R.LOOP_EDDY_THR_THR_SLOT && on R.LOOP_EDDY_TRIG_THRESH && crosses s e r then 3
  else if mig && on R.LOOP_EDDY_TRIG_MIGRATE then 4
  else if (s.eddy e).manual then 5
  else 0

/-- A record comes to a buffer (R486). -/
def eddyRecord (e : Nat) (r : EddyRec) (mig : Bool) (s : State) : State :=
  let st := eddyState s e
  let c := if st = 1 then triggerOf s e r mig else 0
  let r := if c = 0 then r else { r with flags := setBit r.flags 2 true }
  let s := when_ (st = 1 || (st = 2 && (s.eddy e).left != 0)) (fun s =>
    let s := modEddy e (fun x => { x with recs := fitRecs (x.recs ++ [r]), left := if st = 2 then x.left - 1 else x.left }) s
    wr (edB e) R.LOOP_EDDY_STATUS_RECORDS (satU 12 (s.eddy e).recs.length) s) s
  let s := when_ (c != 0) (beginCapture e c r) s
  if r.slot = rd s (edB e) R.LOOP_EDDY_THR_THR_SLOT then
    match r.nodes.find? (·.1 == rd s (edB e) R.LOOP_EDDY_THR_NODE) with
    | some p => modEddy e (fun x => { x with thr := some p.2 }) s
    | none => s
  else s

/-- The eddy buffer of the physical core that serves a slot. -/
def eddyOf (s : State) (k : Nat) : Option Nat := (servedBy s (coreOf k)).map (fun p => eddyKey (slotDie k) (p / 4))

/-- Insert a node in ascending order. -/
def nodeIns (p : Nat × Nat) : List (Nat × Nat) → List (Nat × Nat)
  | [] => [p]
  | q :: t => if p.1 < q.1 then p :: q :: t else if p.1 = q.1 then p :: t else q :: nodeIns p t

/-- Instructions of the last second, with the sample that has just ended. -/
def coreLoad (k insns : Nat) (s : State) : State :=
  let c := coreOf k
  let l := (s.core c).load.filter (fun e => s.ht < e.1 + 4000000000) ++ [(s.ht, insns)]
  let rate := ceilDiv ((l.map (·.2)).foldl (· + ·) 0) 1000000
  let s := modCore c (fun x => { x with load := l }) s
  wr (crB c) R.LOOP_CORE_LOAD_PEAK (max (rd s (crB c) R.LOOP_CORE_LOAD_PEAK) (satU 16 rate)) s

/-- A sample ends at WAITS, or is abandoned: its share of the core's rate, and its eddy record, where the slot traces
(R485, R496). -/
def endSample (k : Nat) (abandoned : Bool) (s : State) : State :=
  let x := s.slot k
  let s := modSlot k (fun x => { x with firstRec := false }) (coreLoad k x.insns s)
  let r : EddyRec :=
    { tick := x.cTick, slot := k, nodes := x.traces, lat := satU 16 ((s.ht - x.cTick) / 64)
      flags := b2n x.skipped + 2 * b2n abandoned + 8 * b2n x.firstRec }
  match eddyOf s k with
  | some e =>
    if rdB s (slB k) R.LOOP_SLOT_CFG_TRC_EN then
      eddyRecord e r x.migrated (modSlot k (fun x => { x with skipped := false, migrated := false }) s)
    else s
  | none => s

/-! ### Samples (R464 to R470) -/

/-- The slot's port has no trained link or no identified head (R470). -/
def noLink (s : State) (k : Nat) : Bool :=
  let n := slotChannel s k
  n < 192 && !(linkTrained s n && identified s n && !asleep s n)

/-- A sample is skipped (R467, R469). -/
def skipSample (k : Nat) (missing : Bool) (s : State) : State :=
  let b := slB k
  let s := bump b R.LOOP_SLOT_SKIP_CNT_COUNT s
  let s := when_ missing (bump b R.LOOP_SLOT_MISS_CNT_COUNT) s
  let s := bump b R.LOOP_SLOT_STATUS_SKIP_RUN s
  let x := s.slot k
  let s := setSlot k { x with skipped := true, computed := false } s
  when_ x.computed (raise 0x0905 (evCh s k)
    (k + 2048 * b2n missing + 65536 * (rd s b R.LOOP_SLOT_SKIP_CNT_COUNT % 65536))) s

/-- The slot's computation begins: registers and flags at zero (R280, R281, R468). -/
def beginSample (k : Nat) (s : State) : State :=
  let x := s.slot k
  let s := setSlot k { x with
    phase := .computing, pc := if x.first then x.entry else x.resume, stack := [], insns := 0, traces := []
    dt := if x.first then x.per else x.cTick - x.lastTick.getD x.cTick } s
  modCore (coreOf k) (fun c => { c with I := [], F := [], z := false, n := false, c := false, cur := some k }) s

/-- The core is free: the next slot that waits begins. -/
def nextOnCore (c : Nat) (s : State) : State :=
  match (s.core c).queue with
  | k :: rest => beginSample k (modCore c (fun x => { x with queue := rest }) s)
  | [] => s

/-- The slot's computation, running or waiting, ends. -/
def leaveCore (k : Nat) (s : State) : State :=
  let c := coreOf k
  let was := (s.core c).cur == some k
  let s := modSlot k (fun x => { x with phase := .waiting }) s
  let s := modCore c (fun x => { x with queue := x.queue.filter (· != k), cur := if was then none else x.cur }) s
  when_ (was && (s.core c).migTo.isNone) (nextOnCore c) s

/-- The slot's set-points take the writes that are in effect for the sample of tick `t`: an OUT before PF0's (R478,
R479). -/
def takeSetPoints (k t : Nat) (s : State) : State :=
  let ws := (s.slot k).spWrites
  let due := fun (w : SpWrite) => match w.out with
    | some r => decide (r < t)
    | none => true
  let outs := ws.filter (fun w => w.out.isSome && due w)
  let own := ws.filter (fun w => w.out.isNone)
  let s := modSlot k (fun x => { x with spWrites := ws.filter (fun w => !due w) }) s
  (outs ++ own).foldl (fun s w => { s with sps := tset 0 (4 * k + w.n) w.v s.sps }) s

/-- Latch every input for the sample (R465, R466). -/
def latchInputs (k : Nat) (s : State) : State :=
  let x := s.slot k
  let sp := fun (j : Nat) => tget 0 (4 * k + j) s.sps
  let news := (List.range 15).foldl (fun m i =>
    if inSrc s k i = 0xE then setBit m i (sp (inArg s k i % 4) != tget 0 (inArg s k i % 4) x.spSeen) else m)
    ((x.news ||| x.latNews) % 2 ^ 15)
  let isNew := fun (i : Nat) => inSrc s k i == 0xF || (i < 15 && bitOf news i)
  let fresh := bitMask ((List.range 15).filter isNew)
  let val := fun (i : Nat) =>
    match inSrc s k i with
    | 0 => 0
    | 0xE => sp (inArg s k i % 4)
    | 0xF => fOfInt fresh
    | _ => tget 0 i x.vals
  let l := (List.range 16).foldl (fun t i => tset 0 i (val i) t) []
  let seen := (List.range 4).foldl (fun t j => tset 0 j (sp j) t) []
  setSlot k { x with latched := l, news := 0, latNews := news, latSps := seen } s

/-- Inputs the head reports at every tick, of a slot. -/
def tickInputs (s : State) (k : Nat) : List Nat := (List.range 16).filter (fun i => headTickSrc (inSrc s k i))

/-- The record of the slot's tick is complete (R464). -/
def recordComplete (s : State) (k : Nat) : Bool :=
  (s.slot k).open_ && (tickInputs s k).all (bitOf (s.slot k).have_)

/-- The wheel slot's lock conditions at a sample of it (R502). -/
def wheelSampled (k : Nat) (s : State) : State :=
  let n := slotChannel s k
  if 192 ≤ n || wheelSlot s n != k || s.wst n != .ramp then s
  else if !lockConds s n then modMove n (fun m => { m with lockRun := 0 }) s
  else
    let s := modMove n (fun m => { m with lockRun := m.lockRun + 1 }) s
    if 16 ≤ (s.move n).lockRun then setWst n .locked s else s

/-- LOOP_RECORD_COMPLETE: the inputs are latched and the computation starts, waits for the core, or is held for a
migration; while an earlier sample is still computed the sample is an overrun (R465, R467, R490). -/
def recordDone (k : Nat) (s : State) : State :=
  if s.slotState k != .running || !recordComplete s k || noLink s k then s
  else
    let x := s.slot k
    let t := x.tick.getD 0
    let c := s.core (coreOf k)
    let s := takeSetPoints k t (modSlot k (fun x => { x with open_ := false }) s)
    if x.phase != .waiting then skipSample k false s
    else
      let s := wheelSampled k (latchInputs k (modSlot k (fun x => { x with cTick := t }) s))
      if c.migTo.isSome || (servedBy s (coreOf k)).isNone then modSlot k (fun x => { x with phase := .held }) s
      else if c.cur.isSome then
        modCore (coreOf k) (fun y => { y with queue := y.queue ++ [k] }) (modSlot k (fun x => { x with phase := .queued }) s)
      else beginSample k s

/-- LOOP_RECORD_COMPLETE (R465). -/
def execLoopRecordComplete (k : Fin 2048) (s : State) : Host.Outcome State Fault Refusal := run (recordDone k) s

/-- The last sample tick at or before HT `t` (R112). -/
def tickAt (per phi t : Nat) : Option Nat := if per = 0 || t < phi then none else some (t - (t - phi) % per)

/-- LOOP_SAMPLE_TICK: a sample tick passes. In RUNNING, a record of the tick before that has not completed is a missing
sample, and the record of this tick opens with the inputs the device supplies itself; in RAMPING the actuators move
(R464, R467, R470, R474). -/
def sampleTick (k : Nat) (s : State) : State :=
  let x := s.slot k
  let n := slotChannel s k
  match tickAt x.per x.phi s.ht with
  | none => s
  | some t =>
    if x.tick = some t then s
    else
      match s.slotState k with
      | .running =>
        let missing := x.open_ || x.phase == .held
        let s := modSlot k (fun x => { x with
          tick := some t, open_ := true, have_ := 0, phase := if x.phase = .held then .waiting else x.phase }) s
        let s := when_ (missing && !noLink s k) (skipSample k true) s
        each (List.range 16) (fun i s =>
          if inSrc s k i = 9 then setInput k i (cmdInput s n t) s
          else if inSrc s k i = 0xA then setInput k i (rateInput s n t) s
          else s) s
      | .ramping => rampTick k t (modSlot k (fun x => { x with tick := some t }) s)
      | .idle => s
      | .stopped => s
      | .holding => modSlot k (fun x => { x with tick := some t }) s
      | .safe => modSlot k (fun x => { x with tick := some t }) s

/-- LOOP_SAMPLE_TICK (R464). -/
def execLoopSampleTick (k : Fin 2048) (s : State) : Host.Outcome State Fault Refusal := run (sampleTick k) s

/-! ### Safe hold (R473 to R475) -/

/-- A RUNNING slot enters HOLDING: a computation in progress is abandoned, a LAMP slot faults its channel, and a moving
part loses its loop. -/
def slotHold (k cause : Nat) (s : State) : State :=
  if s.slotState k != .running then s
  else
    let computing := (s.slot k).phase == .computing
    let s := when_ computing (endSample k true) s
    let s := setSlotState k .holding (wr (slB k) R.LOOP_SLOT_STATUS_HOLD_CAUSE cause s)
    let s := leaveCore k (modSlot k (fun x => { x with holdAt := s.ht, open_ := false }) s)
    let s := raise 0x0902 (evCh s k) (k + 65536 * cause) s
    let s := slotLeft k s
    if slotRole s k = 1 && slotChannel s k < 192 then chFault (slotChannel s k) 5 s else s

/-- A loop fault (R333, R334). -/
def loopFault (k code : Nat) (s : State) : State :=
  let s := wr (slB k) R.LOOP_SLOT_STATUS_FAULT code s
  slotHold k 1 (raise 0x0901 (evCh s k) (k + 65536 * code) s)

/-- SLOT_SAFE: LOOP_SLOT_CTRL.SAFE moves a RUNNING slot to HOLDING (R455, R456, R473). -/
def slotSafe (k : Nat) (s : State) : State :=
  if s.slotState k = .running then slotHold k 2 s else rejectSlot k s

/-- SLOT_SAFE (R473). -/
def execSlotSafe (k : Fin 2048) (s : State) : Host.Outcome State Fault Refusal := run (slotSafe k) s

/-- SLOT_HOLD_EXPIRED: HOLD ms after HOLDING began the slot enters RAMPING (R455, R474). -/
def holdExpired (k : Nat) (s : State) : State :=
  if s.slotState k = .holding && (s.slot k).holdAt + rd s (slB k) R.LOOP_SLOT_HOLD_HOLD * ms ≤ s.ht then
    setSlotState k .ramping (modSlot k (fun x => { x with
      holdAt := s.ht, rampFrom := (rampActs s k).foldl (fun t i => tset 0 i (actNow s k i) t) [] }) s)
  else s

/-- SLOT_HOLD_EXPIRED (R455). -/
def execSlotHoldExpired (k : Fin 2048) (s : State) : Host.Outcome State Fault Refusal := run (holdExpired k) s

/-- SLOT_RAMP_EXPIRED: RAMP ms after RAMPING began every actuator is at its safe value: event 0x0903 (R455, R475). -/
def rampExpired (k : Nat) (s : State) : State :=
  if s.slotState k = .ramping && (s.slot k).holdAt + rd s (slB k) R.LOOP_SLOT_HOLD_RAMP * ms ≤ s.ht then
    raise 0x0903 (evCh s k) k (toSafe k (setSlotState k .safe s))
  else s

/-- SLOT_RAMP_EXPIRED (R455). -/
def execSlotRampExpired (k : Fin 2048) (s : State) : Host.Outcome State Fault Refusal := run (rampExpired k) s

/-- LOOP_OVERRUN_LIMIT: SKIP_RUN has reached OVR_N (R469). -/
def overrunLimit (k : Nat) (s : State) : State :=
  let lim := max 1 (rd s (slB k) R.LOOP_SLOT_CFG_OVR_N)
  if s.slotState k = .running && lim ≤ rd s (slB k) R.LOOP_SLOT_STATUS_SKIP_RUN then loopFault k 9 s else s

/-- LOOP_OVERRUN_LIMIT (R469). -/
def execLoopOverrunLimit (k : Fin 2048) (s : State) : Host.Outcome State Fault Refusal := run (overrunLimit k) s

/-! ### Start (R459 to R461) -/

/-- A source, and a destination, is defined with its argument in range; bits 31 to 24, and 31 to 28, are 0. -/
def inputOk (w : Nat) : Bool :=
  let src := bits w 0 8
  let a := bits w 8 16
  bits w 24 8 == 0 && src ≤ 0x10
    && (if src = 1 || src = 2 || src = 5 || src = 6 then a < 6
        else if src = 4 then a < 16
        else if src = 0xE then a < 4
        else if src = 0x10 then bits a 0 3 < 6 && !bitOf a 3 && bits a 6 2 == 0 && bits a 12 4 == 0
        else true)

def outputOk (w : Nat) : Bool :=
  let dst := bits w 0 8
  let a := bits w 8 16
  bits w 28 4 == 0 && dst ≤ 0xB
    && (if dst = 1 || dst = 2 then a < 6
        else if dst = 3 then a < 16 && a % 4 < 3 && bits a 2 2 != 0
        else if dst = 0xB then a < 512 && bits w 24 4 < 4
        else true)

/-- A source, and a destination, that needs a channel. -/
def srcNeeds (src : Nat) : Bool := (1 ≤ src && src ≤ 0xD) || src == 0x10
def dstNeeds (dst : Nat) : Bool := 1 ≤ dst && dst ≤ 0xA

/-- Check 0x2 of R459. -/
def bindOk (s : State) (k : Nat) : Bool :=
  let n := slotChannel s k
  let idx := List.range 16
  idx.all (fun i => inputOk (bindWord s k i)) && idx.all (fun i => outputOk (bindWord s k (16 + i)))
    && (n == 0xFF || (n < 192 && n / 48 == slotDie k)) && slotRole s k ≤ 4
    && (n != 0xFF || (idx.all (fun i => !srcNeeds (inSrc s k i)) && idx.all (fun i => !dstNeeds (outDst s k i))))

/-- What an actuator acts on: destination, channel or target slot, argument; none for destination 0. -/
def actTarget (s : State) (k i : Nat) : Option (Nat × Nat × Nat) :=
  let d := outDst s k i
  let a := outArg s k i
  if d = 0 then none
  else if d = 0xB then some (d, 512 * slotDie k + a % 512, outN s k i)
  else some (d, slotChannel s k, if d ≤ 3 then a else 0)

def actTargets (s : State) (k : Nat) : List (Nat × Nat × Nat) := (List.range 16).filterMap (actTarget s k)

/-- Check 0x3: no other active slot names an actuator of this one. -/
def actsFree (s : State) (k : Nat) : Bool :=
  let mine := actTargets s k
  s.slots.all (fun e => e.1 == k || !slotActive s e.1 || (actTargets s e.1).all (fun a => !mine.contains a))

/-- The parent's slot number, with PEN. -/
def parentOf (s : State) (k : Nat) : Option Nat :=
  if rdB s (slB k) R.LOOP_SLOT_PARENT_PEN then some (512 * slotDie k + rd s (slB k) R.LOOP_SLOT_PARENT_PARENT) else none

/-- P and φ that START would fix (R460). -/
def startPeriod (s : State) (k : Nat) : Nat × Nat :=
  match parentOf s k with
  | some p => ((rd s (slB k) R.LOOP_SLOT_PARENT_DIV_M1 + 1) * (s.slot p).per, (s.slot p).phi)
  | none => (rd s (slB k) R.LOOP_SLOT_PERIOD_P, rd s (slB k) R.LOOP_SLOT_PHASE_PHI)

/-- Check 0x4. -/
def timingOk (s : State) (k : Nat) : Bool :=
  let p := startPeriod s k
  (match parentOf s k with
    | some q => q != k && s.slotState q == .running
    | none => true)
  && 40000 ≤ p.1 && p.1 ≤ 400000000 && p.2 < p.1 && rd s (slB k) R.LOOP_SLOT_BUDGET_BUDGET != 0

/-- Check 0x5: the core time fits (R461). -/
def timeFits (s : State) (k : Nat) : Bool :=
  let c := coreOf k
  let l := ((slotsOfCore c).filter (fun j => j != k && slotActive s j)).map
    (fun j => (rd s (slB j) R.LOOP_SLOT_BUDGET_BUDGET, max 1 (s.slot j).per))
  let t := coreTime (l ++ [(rd s (slB k) R.LOOP_SLOT_BUDGET_BUDGET, max 1 (startPeriod s k).1)])
  t.1 ≤ min 250 (rd s (slDieB (slotDie k)) R.SLUICE_DIE_CORE_CEIL_MIPS) * 1000000 * t.2

/-- The first failing check of R459, 0 for none. -/
def startReject (s : State) (k : Nat) : Nat :=
  if s.slotState k = .idle then 1
  else if !bindOk s k then 2
  else if !actsFree s k then 3
  else if !timingOk s k then 4
  else if !timeFits s k then 5
  else if (servedBy s (coreOf k)).isNone then 6
  else 0

/-- The slot begins at its image's entry with the next record (R280). -/
def enterSlot (k : Nat) (s : State) : State :=
  let s := wr (slB k) R.LOOP_SLOT_STATUS_FAULT 0 (wr (slB k) R.LOOP_SLOT_STATUS_HOLD_CAUSE 0
    (wr (slB k) R.LOOP_SLOT_STATUS_SKIP_RUN 0 s))
  let s := modSlot k (fun x => { x with
    first := true, firstRec := true, stack := [], tick := tickAt x.per x.phi s.ht, open_ := false, phase := .waiting
    lastTick := none }) s
  setSlotState k .running s

/-- START (R455, R459); answers whether the slot started. -/
def slotStart (k : Nat) (s : State) : Bool × State :=
  let st := s.slotState k
  if st != .stopped && st != .idle then (false, rejectSlot k s)
  else
    let r := startReject s k
    if r != 0 then
      let s := when_ (st = .idle) (rejectSlot k) s
      (false, raise 0x0906 (evCh s k) (k + 65536 * r) (wr (slB k) R.LOOP_SLOT_STATUS_START_REJECT r s))
    else
      let p := startPeriod s k
      let s := modSlot k (fun x => { x with per := p.1, phi := p.2 }) s
      (true, refreshScheds (slotChannel s k) (some k) (enterSlot k s))

/-- SLOT_START (R459). -/
def execSlotStart (k : Fin 2048) (s : State) : Host.Outcome State Fault Refusal := run (fun s => (slotStart k s).2) s

/-! ### Stop, resume, free (R455, R456, R476, R477) -/

/-- The slot stops, its actuators at their current values. -/
def stopSlot (k : Nat) (s : State) : State :=
  let was := s.slotState k == .running
  let s := setSlotState k .stopped (leaveCore k (modSlot k (fun x => { x with open_ := false }) s))
  refreshScheds (slotChannel s k) none (when_ was (slotLeft k) s)

/-- SLOT_STOP. -/
def slotStop (k : Nat) (s : State) : State := if slotActive s k then stopSlot k s else rejectSlot k s

/-- SLOT_STOP (R477). -/
def execSlotStop (k : Fin 2048) (s : State) : Host.Outcome State Fault Refusal := run (slotStop k) s

/-- The hold cause is absent (R476). -/
def causeAbsent (s : State) (k : Nat) : Bool :=
  let c := rd s (slB k) R.LOOP_SLOT_STATUS_HOLD_CAUSE
  if c = 3 then (servedBy s (coreOf k)).isSome && (s.core (coreOf k)).migTo.isNone
  else if c = 4 then (servedBy s (coreOf k)).isSome
  else true

/-- SLOT_RESUME: a held slot resumes at its entry point; RELOAD rewrites its window (R476). -/
def slotResume (k : Nat) (reload : Bool) (s : State) : State :=
  let st := s.slotState k
  if (st == .holding || st == .ramping || st == .safe) && causeAbsent s k then
    let s := when_ reload (loadWindow k) s
    raise 0x0904 (evCh s k) (k + 2048 * b2n reload) (enterSlot k s)
  else rejectSlot k s

/-- SLOT_RESUME (R476). -/
def execSlotResume (k : Fin 2048) (reload : Bool) (s : State) : Host.Outcome State Fault Refusal :=
  run (slotResume k reload) s

/-- The slot's image is gone and its runs are free (R458). -/
def freeSlot (k : Nat) (s : State) : State :=
  let b := slB k
  let s := (s.slot k).spWrites.foldl (fun s w => { s with sps := tset 0 (4 * k + w.n) w.v s.sps }) s
  let s := wr b R.LOOP_SLOT_IMG_CODE_BASE 0 (wr b R.LOOP_SLOT_IMG_COUNT 0 s)
  let s := wr b R.LOOP_SLOT_WIN_DBASE 0 (wr b R.LOOP_SLOT_WIN_DSIZE 0 s)
  setSlotState k .idle (setSlot k {} s)

/-- SLOT_FREE. -/
def slotFreed (k : Nat) (s : State) : State :=
  if s.slotState k = .stopped then
    let n := slotChannel s k
    refreshScheds n none (freeSlot k s)
  else rejectSlot k s

/-- SLOT_FREE (R455). -/
def execSlotFree (k : Fin 2048) (s : State) : Host.Outcome State Fault Refusal := run (slotFreed k) s

/-- A reset of the slot's channel (R455, R477): safe values at once, and STOPPED. -/
def slotChReset (k : Nat) (s : State) : State :=
  let s := toSafe k s
  if slotActive s k then stopSlot k s else s

/-! ### WAITS (R280, R472, R485, R462) -/

/-- The spare record takes a change of the loop cores: HUB_SPARE_SUM, HUB_REPLACE and the record's pending write (R492,
R763, R766). -/
def spareCores (d : Nat) (s : State) : State :=
  let l := [64, 65, 66, 67]
  let free := l.filter (fun p => !isRetired s d p && !spareUsed s d p)
  let s := spareChanged (wr healthB R.HUB_SPARE_SUM_CORES_FREE free.length s d)
  when_ (l.any (spareUsed s d)) (setReplaceDie R.HUB_REPLACE_LOOP R.HUB_REPLACE_LOOP_DIES d) s

/-- Start a migration of a logical core to the lowest free spare (R489, R491); none when no spare is free. -/
def migrate (c : Nat) (byPf0 : Bool) (s : State) : Option State :=
  (freeSpare s (c / 64)).map (fun p =>
    spareCores (c / 64) (wrB (crB c) R.LOOP_CORE_STAT_MIGRATING true
      (modCore c (fun x => { x with migTo := some (p, byPf0), migReq := false, queue := [] }) s)))

/-- The records that wait for the core wait for the migration (R490). -/
def holdQueue (c : Nat) (s : State) : State :=
  each (s.core c).queue (fun k => modSlot k (fun x => { x with phase := .held })) s

/-- A migration PF0 asked for starts when no slot of the core is computing (R489). -/
def startMigReq (c : Nat) (s : State) : State :=
  let x := s.core c
  if x.migReq && x.cur.isNone && x.migTo.isNone then
    (migrate c true (holdQueue c s)).getD (modCore c (fun x => { x with migReq := false }) s)
  else s

/-- The sample in computation reaches WAITS at instruction `pc`. -/
def sampleDone (k : Nat) (s : State) : State :=
  let x := s.slot k
  let b := slB k
  let lat := satU 16 ((s.ht - x.cTick) / 64)
  let ins := satU 16 x.insns
  let s := wr b R.LOOP_SLOT_LAT_LAST lat (wr b R.LOOP_SLOT_LAT_MAX (max lat (rd s b R.LOOP_SLOT_LAT_MAX)) s)
  let s := wr b R.LOOP_SLOT_INSN_LAST ins (wr b R.LOOP_SLOT_INSN_MAX (max ins (rd s b R.LOOP_SLOT_INSN_MAX)) s)
  let s := wr b R.LOOP_SLOT_STATUS_SKIP_RUN 0 (bump b R.LOOP_SLOT_SAMPLE_CNT_COUNT s)
  let long : Bool := rd s b R.LOOP_SLOT_BUDGET_BUDGET < x.insns
  let s := when_ (long && !rdB s b R.LOOP_SLOT_STATUS_OVER_BUDGET) (raise 0x090E (evCh s k) (k + 65536 * ins)) s
  let s := endSample k false (wrB b R.LOOP_SLOT_STATUS_OVER_BUDGET long s)
  let s := modSlot k (fun y => { y with
    resume := y.pc + 1, first := false, lastTick := some y.cTick, computed := true, latNews := 0, spSeen := y.latSps
    check := (List.range (winSize s k)).map (winWord s k) }) s
  let c := coreOf k
  if (s.core c).migReq then
    startMigReq c (modCore c (fun x => { x with cur := none }) (modSlot k (fun x => { x with phase := .waiting }) s))
  else leaveCore k s

/-! ### Bindings, set-points and counters of a cluster (R494, R495, R845) -/

/-- Slot number of slot `i` of cluster `cl` of die `d`. -/
def clusterSlot (d cl i : Nat) : Nat := 512 * d + 32 * cl + i

/-- Input `i` of a slot has had no value. -/
def forgetInput (k i : Nat) (s : State) : State :=
  modSlot k (fun x => { x with vals := tset 0 i 0 x.vals, news := setBit x.news i false, latNews := setBit x.latNews i false }) s

/-- LOOP_BIND_DATA_ACCESS: a read (`none`) or a write of the binding word selected; each access advances WORD. In cluster
16 the register reads 0 and ignores writes. -/
def bindAccess (d cl : Nat) (w : Option Nat) (s0 : State) : State :=
  let s := s0
  let b := clB d cl
  let i := rd s b R.LOOP_BIND_IDX_WORD
  let k := clusterSlot d cl (rd s b R.LOOP_BIND_IDX_SLOT)
  if cl = 16 || 47 < i then
    match w with
    | none => emitOut (.readData 0 (leBytes 4 0)) s
    | some _ => s
  else
    let s := match w with
      | none => emitOut (.readData 0 (leBytes 4 (bindWord s k i))) s
      | some v =>
        if slotActive s k && v % 2 ^ 32 != bindWord s k i then rejectSlot k s
        else
          let s := { s with binds := tset 0 (48 * k + i) (v % 2 ^ 32) s.binds }
          -- another source has given the input no value yet (R465)
          when_ (i < 16 && v % 2 ^ 32 != bindWord s0 k i) (forgetInput k i) s
    wr b R.LOOP_BIND_IDX_WORD (i + 1) s

/-- LOOP_BIND_DATA_ACCESS (R845). -/
def execLoopBindDataAccess (d : Fin 4) (cl : Fin 17) (w : Option Nat) (s : State) : Host.Outcome State Fault Refusal :=
  run (bindAccess d cl w) s

/-- PF0, or the device for it, writes a set-point: it takes effect for the first sample whose record completes after
(R478). -/
def writeSetPoint (k j v : Nat) (s : State) : State :=
  let v := v % 2 ^ 32
  let s := { s with spReg := tset 0 (4 * k + j) v s.spReg }
  if s.slotState k = .idle then { s with sps := tset 0 (4 * k + j) v s.sps }
  else modSlot k (fun x => { x with spWrites := x.spWrites ++ [{ n := j, v }] }) s

/-- LOOP_SP_DATA_WRITE: the set-point selected by LOOP_SP_IDX is written. -/
def spDataWrite (d cl v : Nat) (s : State) : State :=
  if cl = 16 then s
  else writeSetPoint (clusterSlot d cl (rd s (clB d cl) R.LOOP_SP_IDX_SLOT)) (rd s (clB d cl) R.LOOP_SP_IDX_N) v s

/-- LOOP_SP_DATA_WRITE (R478). -/
def execLoopSpDataWrite (d : Fin 4) (cl : Fin 17) (v : Nat) (s : State) : Host.Outcome State Fault Refusal :=
  run (spDataWrite d cl v) s

/-- LOOP_CL_CNT_CLR: the counters of the cluster's cores and slots, and the largest values since it (R494, R497). -/
def clusterClear (d cl : Nat) (s : State) : State :=
  let s := each (List.range 4) (fun i => resetFlds (coreB d (4 * cl + i)) [R.LOOP_CORE_CHK_CNT_COUNT, R.LOOP_CORE_LOAD_PEAK]) s
  if cl = 16 then s
  else each (List.range 32) (fun i => resetFlds (slB (clusterSlot d cl i))
    [R.LOOP_SLOT_LAT_MAX, R.LOOP_SLOT_INSN_MAX, R.LOOP_SLOT_SKIP_CNT_COUNT, R.LOOP_SLOT_MISS_CNT_COUNT,
     R.LOOP_SLOT_SAMPLE_CNT_COUNT]) s

/-- LOOP_CL_CNT_CLR (R494). -/
def execLoopClCntClr (d : Fin 4) (cl : Fin 17) (s : State) : Host.Outcome State Fault Refusal := run (clusterClear d cl) s

/-! ### Migration (R488 to R493) -/

/-- Abandon the computation in progress on a core: a skipped sample (R488), and its queue waits. -/
def abandonCore (c : Nat) (s : State) : State :=
  let s := match (s.core c).cur with
    | some k => modSlot k (fun x => { x with phase := .waiting }) (skipSample k false (endSample k true s))
    | none => s
  modCore c (fun x => { x with cur := none }) (holdQueue c s)

/-- LOOP_CORE_MIGRATE: ignored with no spare free or a migration under way (R489, R496). -/
def coreMigrate (c : Nat) (s : State) : State :=
  let x := s.core c
  if (freeSpare s (c / 64)).isNone || x.migTo.isSome || x.migReq || (servedBy s c).isNone then s
  else startMigReq c (modCore c (fun x => { x with migReq := true }) s)

/-- LOOP_CORE_MIGRATE (R489): logical core `c` of die `d`. -/
def execLoopCoreMigrate (d : Fin 4) (c : Fin 64) (s : State) : Host.Outcome State Fault Refusal :=
  run (coreMigrate (64 * d + c)) s

/-- No spare is free: the core's RUNNING slots are held and it is served by none (R491). -/
def noSpare (c : Nat) (s : State) : State :=
  let s := { s with serve := tset 0 c 128 s.serve }
  let s := each (slotsOfCore c) (fun k => slotHold k 4) s
  let s := modCore c (fun x => { x with cur := none, queue := [], migTo := none, migReq := false }) s
  let s := wrB (crB c) R.LOOP_CORE_STAT_MIGRATING false (wrB (crB c) R.LOOP_CORE_STAT_RETIRED true s)
  raise 0x090A noCh (c % 64 + 64 * (c / 64)) (setDegrade R.HUB_DEGRADE_CONTAINED true s)

/-- The records held for a migration are computed, in slot order (R490). -/
def computeHeld (c : Nat) (s : State) : State :=
  let held := (slotsOfCore c).filter (fun k => (s.slot k).phase == .held && s.slotState k == .running)
  nextOnCore c (each held (fun k s =>
    modCore c (fun y => { y with queue := y.queue ++ [k] }) (modSlot k (fun x => { x with phase := .queued }) s)) s)

/-- The spare that a migration copies to has failed: another is taken; with none free the core that serves the logical
core goes on where it is sound, and the slots are held where it is not (R491). -/
def spareFailed (c : Nat) (byPf0 : Bool) (s : State) : State :=
  let s := modCore c (fun x => { x with migTo := none }) s
  match migrate c byPf0 s with
  | some s => s
  | none =>
    if (servedBy s c).any (fun p => !isRetired s (c / 64) p) then
      computeHeld c (wrB (crB c) R.LOOP_CORE_STAT_MIGRATING false s)
    else noSpare c s

/-- CORE_CHECK_FAILURE: a check failure of physical core `p` of die `d` (R488, R491): reason 1 residue or duplicate, 2
program memory, 3 data memory parity. `met` says that an executing instruction met the parity error (R295). -/
def coreCheck (d p reason : Nat) (met : Bool) (s : State) : State :=
  if isRetired s d p then s
  else
    let s := match logicalOf s d p with
      | some c =>
        match (s.core c).cur with
        | some k => if met && reason = 2 then loopFault k 1 (modCore c (fun x => { x with queue := [] }) (holdQueue c s)) else s
        | none => s
      | none => s
    let lc := logicalOf s d p
    let s := match lc with
      | some c => abandonCore c s
      | none => s
    let s := { s with retired := tset 0 (68 * d + p) 1 s.retired }
    let s := raise 0x0909 noCh (p + 256 * d + 65536 * reason) s
    let s := when_ (64 ≤ p) (fun s => wrB (coreB d p) R.LOOP_CORE_STAT_RETIRED true (bump (coreB d p) R.LOOP_CORE_CHK_CNT_COUNT s)) s
    let s := each (s.cores.filter (fun e => e.1 / 64 == d && e.2.migTo.any (·.1 == p))) (fun e s =>
      spareFailed e.1 (e.2.migTo.any (·.2)) s) s
    let s := match lc with
      | some c =>
        let s := bump (crB c) R.LOOP_CORE_CHK_CNT_COUNT s
        (migrate c false (modCore c (fun x => { x with migTo := none }) s)).getD (noSpare c s)
      | none => s
    spareCores d s

/-- CORE_CHECK_FAILURE (R488). -/
def execCoreCheckFailure (d : Fin 4) (p : Fin 68) (reason : Fin 3) (met : Bool) (s : State) :
    Host.Outcome State Fault Refusal := run (coreCheck d p (reason + 1) met) s

/-- A migration copy ends: the spare serves the logical core, every slot from its last WAITS, and held records are
computed (R489, R490). -/
def migrationDone (c : Nat) (s : State) : State :=
  match (s.core c).migTo with
  | none => s
  | some (p, byPf0) =>
    let old := (servedBy s c).getD 0x7F
    let s := { s with serve := tset 0 c (p + 1) s.serve }
    let s := wrB (crB c) R.LOOP_CORE_STAT_MIGRATING false (modCore c (fun x => { x with migTo := none }) s)
    let s := each ((slotsOfCore c).filter (fun k => s.slotState k != .idle)) (fun k s =>
      let ck := (s.slot k).check
      let s := if ck.length = winSize s k then
          each (List.range ck.length) (fun w => setWinWord k w (ck.getD w 0)) s
        else s
      modSlot k (fun x => { x with migrated := true }) s) s
    let s := raise 0x0908 noCh (c % 64 + 64 * (c / 64) + 256 * old + 32768 * b2n byPf0 + 65536 * p) s
    computeHeld c (spareCores (c / 64) s)

/-- LOOP_MIGRATION_DONE (R489). -/
def execLoopMigrationDone (d : Fin 4) (c : Fin 64) (s : State) : Host.Outcome State Fault Refusal :=
  run (migrationDone (64 * d + c)) s

/-- A loop core reset (R493): the RUNNING slots are held, the logical core migrates where a spare is free, and the
physical core that served it is reset, its memories kept. -/
def coreReset (c : Nat) (s : State) : State :=
  let s := each (slotsOfCore c) (fun k => slotHold k 3) s
  let s := modCore c (fun x => { x with I := [], F := [], z := false, n := false, c := false, cur := none, queue := [], migReq := false }) s
  let s := match servedBy s c with
    | some p => requesterReset (· == coreIdentity (c / 64) p) s
    | none => s
  if (s.core c).migTo.isSome || (servedBy s c).isNone then s else (migrate c false s).getD s

/-! ### Eddy commands (R486, R487, R498) -/

def eddyEmpty (e : Nat) (s : State) : State :=
  wr (edB e) R.LOOP_EDDY_STATUS_RECORDS 0 (modEddy e (fun _ => {}) s)

/-- EDDY_ARM: the buffer is emptied and ARMED. -/
def eddyArm (e : Nat) (s : State) : State :=
  wr (edB e) R.LOOP_EDDY_STATUS_STATE 1 (wr (edB e) R.LOOP_EDDY_STATUS_CAUSE 0 (eddyEmpty e s))

/-- EDDY_ARM (R486). -/
def execEddyArm (d : Fin 4) (cl : Fin 17) (s : State) : Host.Outcome State Fault Refusal := run (eddyArm (eddyKey d cl)) s

/-- EDDY_TRIGGER: in ARMED the newest record held becomes the trigger record, the next one where none is held; in other
states the trigger is ignored. -/
def eddyTrigger (e : Nat) (s : State) : State :=
  if eddyState s e != 1 then s
  else
    match (s.eddy e).recs.getLast? with
    | none => modEddy e (fun x => { x with manual := true }) s
    | some r =>
      let r' := { r with flags := setBit r.flags 2 true }
      beginCapture e 5 r' (modEddy e (fun x => { x with recs := x.recs.dropLast ++ [r'] }) s)

/-- EDDY_TRIGGER (R486). -/
def execEddyTrigger (d : Fin 4) (cl : Fin 17) (s : State) : Host.Outcome State Fault Refusal :=
  run (eddyTrigger (eddyKey d cl)) s

/-- The buffer is IDLE. -/
def eddyDisarm (e : Nat) (s : State) : State := wr (edB e) R.LOOP_EDDY_STATUS_STATE 0 s

/-- EDDY_DISARM (R498). -/
def execEddyDisarm (d : Fin 4) (cl : Fin 17) (s : State) : Host.Outcome State Fault Refusal :=
  run (eddyDisarm (eddyKey d cl)) s

/-- EDDY_FROZEN: POST records after the trigger the buffer freezes: event 0x090B (R486). -/
def eddyFrozen (e : Nat) (s : State) : State :=
  if eddyState s e = 2 && (s.eddy e).left = 0 then
    let n := (s.eddy e).recs.length
    raise 0x090B noCh (e % 17 + 32 * (e / 17) + 256 * rd s (edB e) R.LOOP_EDDY_STATUS_CAUSE + 65536 * satU 16 n)
      (wr (edB e) R.LOOP_EDDY_STATUS_STATE 3 s)
  else s

/-- EDDY_FROZEN (R486). -/
def execEddyFrozen (d : Fin 4) (cl : Fin 17) (s : State) : Host.Outcome State Fault Refusal :=
  run (eddyFrozen (eddyKey d cl)) s

/-- EDDY_ARCHIVED: the copy of a frozen buffer completes (R487). An archive that does not lie in the die's own DRAM is
not written, and copies wait while the die is in throttle (R737). -/
def eddyArchived (e : Nat) (s : State) : State :=
  let b := edB e
  if eddyState s e != 3 || (s.eddy e).archived || !rdB s b R.LOOP_EDDY_CTRL_ARCH_EN || rdB s hkB R.HK_DIE_THROTTLE (e / 17) then s
  else
    let s := modEddy e (fun x => { x with archived := true }) s
    let i := rd s b R.LOOP_EDDY_ARCH_CNT_COUNT
    let n := max 1 (rd s b R.LOOP_EDDY_ARCH_CFG_ARCH_N)
    let a := rdPair s b R.LOOP_EDDY_ARCH_BASE_LO_BASE R.LOOP_EDDY_ARCH_BASE_HI_BASE + i % n * 65536
    let arg := fun (c : Nat) (bad : Bool) => e % 17 + 32 * (e / 17) + 65536 * (c % 2 ^ 15) + 2 ^ 31 * b2n bad
    if dieOf a != e / 17 || !installedAll s a 65536 then raise 0x090C noCh (arg i true) s
    else
      let bs := (s.eddy e).recs.flatMap EddyRec.bytes
      let s := store a (bs ++ List.replicate (65536 - bs.length) 0) s
      let s := raise 0x090C noCh (arg (i + 1) false) (bump b R.LOOP_EDDY_ARCH_CNT_COUNT s)
      if rdB s b R.LOOP_EDDY_CTRL_AUTO then eddyArm e s else s

/-- EDDY_ARCHIVED (R487). -/
def execEddyArchived (d : Fin 4) (cl : Fin 17) (s : State) : Host.Outcome State Fault Refusal :=
  run (eddyArchived (eddyKey d cl)) s

end Sys2Proof.Machine
end

