-- ==== Sys2Proof/Machine/RegRead.lean ====
section
/-!
DEFINITION. Reading a register (spec/00_scope.md R8 to R17; spec/20_register_map.md R798 to R806): which block an
address lies in, the fields of a word, and the fields whose value is not stored but follows from the state.
-/

namespace Sys2Proof.Machine
open Sys2Proof

/-- The blocks of registers. -/
inductive RegBlock where
  | hub | time | health | lockUnit | fab | sluice | mgt | hk | cfg | hold
  | lock (n : Nat) | slDie (d : Nat) | chRes (n : Nat) | evRing (t : Nat)
  | ch (n : Nat) | fetchL (n k : Nat) | compL (n k : Nat) | lampStr (n k : Nat) | lampByp (n i : Nat)
  | die (d : Nat) | d2d (d : Nat) | ddr (d m : Nat) | ddrDie (d : Nat) | ephy (n : Nat) | lane (n l : Nat)
  | cluster (d cl : Nat) | core (d c : Nat) | slot (k : Nat) | oxb (d : Nat) | eddy (d cl : Nat)
  | ring (t r : Nat) | apt (t : Nat) | tenant (t : Nat)
deriving DecidableEq, Repr

/-- Base address of a block. -/
def RegBlock.base : RegBlock → Nat
  | .hub => hubB | .time => timeB | .health => healthB | .lockUnit => lockUnitB | .fab => fabB | .sluice => sluiceB
  | .mgt => mgtB | .hk => hkB | .cfg => cfgB | .hold => holdB
  | .lock n => lockB n | .slDie d => slDieB d | .chRes n => chResB n | .evRing t => evRingB t
  | .ch n => chB n | .fetchL n k => fetchB n k | .compL n k => compB n k | .lampStr n k => strB n k
  | .lampByp n i => bypB n i
  | .die d => dieB d | .d2d d => d2dB d | .ddr d m => ddrB d m | .ddrDie d => ddrDieB d | .ephy n => ephyB n
  | .lane n l => laneB n l | .cluster d cl => clB d cl | .core d c => coreB d c | .slot k => slB k
  | .oxb d => oxbB d | .eddy d cl => eddyB d cl
  | .ring t r => ringB t r | .apt t => aptB t | .tenant t => tenB t

/-- The fields of a block. -/
def RegBlock.fields : RegBlock → List Fld
  | .hub => R.hubBlk | .time => R.timeBlk | .health => R.healthBlk | .lockUnit => R.lockUnitBlk | .fab => R.fabricBlk
  | .sluice => R.sluiceBlk | .mgt => R.mgtBlk | .hk => R.hkBlk | .cfg => R.cfgBlk | .hold => R.holdBlk
  | .lock _ => R.lockBlk | .slDie _ => R.sluiceDieBlk | .chRes _ => R.chResBlk | .evRing _ => R.evRingBlk
  | .ch _ => R.chBlk | .fetchL _ _ => R.fetchLayerBlk | .compL _ _ => R.compLayerBlk | .lampStr _ _ => R.lampStrBlk
  | .lampByp _ _ => R.lampBypBlk
  | .die _ => R.dieBlk | .d2d _ => R.d2dBlk | .ddr _ _ => R.ddrBlk | .ddrDie _ => R.ddrDieBlk | .ephy _ => R.ephyBlk
  | .lane _ _ => R.ephyLaneBlk | .cluster _ _ => R.clusterBlk | .core _ _ => R.coreBlk | .slot _ => R.slotBlk
  | .oxb _ => R.oxbBlk | .eddy _ _ => R.eddyBlk
  | .ring _ _ => R.ringBlk | .apt _ => R.aptBlk | .tenant _ => R.tenantBlk

/-- The block within a channel block (R801). -/
def chBlockAt (n o : Nat) : RegBlock :=
  if 0x400 ≤ o && o < 0x520 then .fetchL n ((o - 0x400) / 0x20)
  else if 0x800 ≤ o && o < 0xA40 then .compL n ((o - 0x800) / 0x40)
  else if 0x1860 ≤ o && o < 0x1920 then .lampStr n ((o - 0x1860) / 0x20)
  else if 0x1920 ≤ o && o < 0x19A0 then .lampByp n ((o - 0x1920) / 8)
  else .ch n

/-- The block within a loop cluster (R494 to R497); cluster 16 has no slots. -/
def clusterBlockAt (d cl o : Nat) : RegBlock :=
  if 0x100 ≤ o && o < 0x200 then .core d (4 * cl + (o - 0x100) / 0x40)
  else if 0x800 ≤ o && cl < 16 then .slot (512 * d + 32 * cl + (o - 0x800) / 0x40)
  else .cluster d cl

/-- The block within a Reach die block (R802), none for reserved offsets. -/
def dieBlockAt (d o : Nat) : Option RegBlock :=
  if o < 0x200 then some (.die d)
  else if o < 0x300 then some (.d2d d)
  else if 0x10000 ≤ o && o < 0x20000 then some (.ddr d ((o - 0x10000) / 0x2000))
  else if 0x20000 ≤ o && o < 0x30000 then some (.ddrDie d)
  else if 0x30000 ≤ o && o < 0x3C000 then
    let k := (o - 0x30000) / 0x400
    let q := o % 0x400
    some (if 0x40 ≤ q && q < 0x80 then .lane (48 * d + k) ((q - 0x40) / 0x10) else .ephy (48 * d + k))
  else if 0x40000 ≤ o && o < 0x51000 then some (clusterBlockAt d ((o - 0x40000) / 0x1000) (o % 0x1000))
  else if 0x60000 ≤ o && o < 0x70000 then some (.oxb d)
  else if 0x70000 ≤ o && o < 0x70440 then some (.eddy d ((o - 0x70000) / 0x40))
  else none

/-- The block within the hub global region (R799). -/
def hubBlockAt (a : Nat) : Option RegBlock :=
  let o := a % 0x10000
  match a / 0x10000 with
  | 0 => some .hub
  | 1 => some .time
  | 2 => some .health
  | 3 => if o < 0x1000 then some (.lock (o / 0x10)) else if o < 0x2000 then some .lockUnit
         else if 0x8000 ≤ o then some .fab else none
  | 4 => if 0x100 ≤ o && o < 0x200 then some (.slDie ((o - 0x100) / 0x40))
         else if 0x1000 ≤ o && o < 0x1C00 then some (.chRes ((o - 0x1000) / 0x10))
         else if o < 0x100 then some .sluice else none
  | 5 => some (.evRing 0)
  | 6 => some .mgt
  | 7 => some .hk
  | 8 => some .cfg
  | 9 => some .hold
  | _ => none

/-- The block at an offset of PF0 BAR0 (R798); none for the program windows and what is reserved. -/
def blockAt (a : Nat) : Option RegBlock :=
  if a < 0x1000000 then hubBlockAt a
  else if a < 0x1300000 then some (chBlockAt ((a - 0x1000000) / 0x4000) (a % 0x4000))
  else if 0x2000000 ≤ a && a < 0x2400000 then dieBlockAt ((a - 0x2000000) / 0x100000) (a % 0x100000)
  else if 0x3000000 ≤ a && a < 0x3000400 then some (.ring 0 (a % 0x400 / 0x40))
  else if 0x3000400 ≤ a && a < 0x3000408 then some (.apt 0)
  else if 0x3001000 ≤ a && a < 0x3101000 then some (.tenant ((a - 0x3000000) / 0x1000))
  else none

/-- The instances of a field that lie in the register at offset `o` of its block. -/
def Fld.insts (f : Fld) (o : Nat) : List Nat :=
  if f.stride = 0 then (if f.off = o then List.range f.n else [])
  else if f.off ≤ o && (o - f.off) % f.stride == 0 && (o - f.off) / f.stride < f.n then [(o - f.off) / f.stride] else []

/-- The fields of the register at offset `o` of a block, with their instances. -/
def RegBlock.at_ (b : RegBlock) (o : Nat) : List (Fld × Nat) := b.fields.flatMap (fun f => (f.insts o).map (fun i => (f, i)))

/-- Two fields of one block are the same. -/
def Fld.is (f g : Fld) : Bool := f.off == g.off && f.lo == g.lo

/-! ### Values that follow from the state -/

/-- The first of the fields that `f` is. -/
def pick (f : Fld) (d : Nat) (l : List (Fld × (Unit → Nat))) : Nat :=
  match l.find? (fun p => f.is p.1) with
  | some p => p.2 ()
  | none => d

/-- The channel reservation of a channel (tenant 0's grant). -/
def chReservation (s : State) (n : Nat) : Grant := (s.grants.find? (fun g => g.tenant == 0 && g.channel == n)).getD {}

/-- Grant `g` of tenant `t`. -/
def grantAt (s : State) (t g : Nat) : Option Grant := s.grants.find? (fun x => x.tenant == t && x.g == g)

/-- CLASS and INDEX name a unit (R710). -/
def isUnit (cls i : Nat) : Bool :=
  match cls with
  | 0 => i ≤ 0xE
  | 1 => i < 4
  | 2 => i < 192
  | 3 => i < 256
  | 4 => i < 32
  | 5 => i ≤ 256
  | 6 => i < 8
  | _ => false

def sens (s : State) (i : Nat) : Sens := tget {} i s.hk.sens

/-- The rate of rise of a sensor over 8 rounds in 1/16 °C per 0.128 s (R736), when it has one. -/
def riseOf (x : Sens) : Option Int :=
  match x.hist.head?, x.hist[8]? with
  | some (some a), some (some b) => some (a - b)
  | _, _ => none

/-- RATE in °C/s: `r / 16 / 0.128`, rounded down, saturating. -/
def rateField (r : Option Int) : Nat :=
  match r with
  | some x => satTwos 8 (x * 1000 / 2048)
  | none => 0

/-- Values of a target that HK_CAL_DATA reads, 0 where the index names none (R765). -/
def calWords (s : State) (kind target : Nat) : Nat :=
  match kind with
  | 1 => if target < 192 then headSensors s target else 0
  | 2 => if target < 192 then min 6 (headStrings s target) else 0
  | 4 => if target = 0 then 8 else 0
  | 6 => if target < 4 then 4 else 0
  | _ => 0

/-- HK_CAL_DATA.VALUE. -/
def calData (s : State) : Nat :=
  let k := rd s hkB R.HK_CAL_IDX_KIND
  let t := rd s hkB R.HK_CAL_IDX_TARGET
  let w := rd s hkB R.HK_CAL_IDX_WORD
  if w < calWords s k t then calAt s k t w else 0

/-- String block named by MGT_LAMP_IDX. -/
def mgtLampB (s : State) : Option Nat :=
  let n := rd s mgtB R.MGT_LAMP_IDX_CHANNEL
  let k := rd s mgtB R.MGT_LAMP_IDX_STR
  if n < 192 && k < 6 then some (strB n k) else none

/-- Commands of a function taken and not completed. -/
def outCmds (s : State) (t : Nat) : Nat := (s.cmds.filter (·.fn == t)).length

/-- A field that layer 8 has not, or a bypass field of a port that is not P-class: it reads 0 and ignores writes (R237,
R452). -/
def RegBlock.absent (b : RegBlock) (f : Fld) : Bool :=
  match b with
  | .compL _ k => k == 8 && [R.COMP_LDST_SIZE_W_M1, R.COMP_LDST_SIZE_H_M1, R.COMP_LSTEP_X_STEP, R.COMP_LSTEP_Y_STEP,
      R.COMP_LSCALER_SCALER].any (fun g => f.is g)
  | .lampByp n _ => !pclass n
  | _ => false

/-- A planes field that reads 0 on a SCAN channel: the slice list, the levels and the status fields (R273). -/
def scanZero (s : State) (b : RegBlock) (f : Fld) : Bool :=
  match b with
  | .ch n => chKind s n == .scan && [R.PLANE_SLICE_PRI, R.PLANE_SLICE_BIT, R.PLANE_LVL_AMP, R.PLANE_LVL_CORR,
      R.PLANE_STATUS_FMT_DARK, R.PLANE_STATUS_POOL_WAIT, R.PLANE_STATUS_DRIFT, R.PLANE_STATUS_DRIFT_UNCORR,
      R.PLANE_DRIFT_PRI, R.PLANE_DRIFT_BIT, R.PLANE_DRIFT_DELTA].any (fun g => f.is g)
  | _ => false

/-- The value of a field as agent `fn` reads it. -/
def live (fn : Nat) (s : State) (blk : RegBlock) (f : Fld) (i : Nat) : Nat :=
  let b := blk.base
  let v := rd s b f i
  if f.acc = .wo || blk.absent f || scanZero s blk f then 0
  else match blk with
  | .hub => pick f v
      [(R.HUB_REV_MINOR, fun _ => Config.revMinor), (R.HUB_REV_MAJOR, fun _ => Config.revMajor),
       (R.HUB_SERIAL_LO_SERIAL, fun _ => Config.serial.toNat % 2 ^ 32),
       (R.HUB_SERIAL_HI_SERIAL, fun _ => Config.serial.toNat / 2 ^ 32)]
  | .time => pick f v
      [(R.TIME_NOW_LO_NOW, fun _ => s.ht % 2 ^ 32), (R.TIME_NOW_HI_NOW, fun _ => s.ht / 2 ^ 32 % 2 ^ 32),
       (R.TIME_STATUS_IN_USE, fun _ => b2n (inUse s)), (R.TIME_HOLD_ERR, fun _ => satU 16 (ownErr s)),
       (R.TIME_HOLD_ELAPSED, fun _ => if timeState s = 3 || (timeState s = 4 && !isMaster s) then
          satU 16 ((s.tick - s.time.holdAt) / (100 * ms)) else 0),
       (R.TIME_SRC_ID_ID, fun _ => if isMaster s then rd s b R.TIME_ID_ID else v)]
  | .lock _ => pick f v [(R.LOCK_STAT_MINE, fun _ => b2n (rd s b R.LOCK_STAT_OWNER == fn))]
  | .lockUnit => pick f v [(R.LOCK_HELD_COUNT, fun _ => s.lockAt.length)]
  | .fab =>
    let c := rd s b R.HUB_EPOCH_IDX_CLASS
    let x := rd s b R.HUB_EPOCH_IDX_INDEX
    pick f v
      [(R.HUB_EPOCH_DATA_EPOCH, fun _ => if isUnit c x then epoch s c x else 0),
       (R.HUB_EPOCH_DATA_VALID, fun _ => b2n (isUnit c x))]
  | .chRes n =>
    let g := chReservation s n
    pick f v
      [(R.SLUICE_CHRES_DRAM_MBPS, fun _ => g.dram), (R.SLUICE_CHRES_POOL_UNITS, fun _ => g.pool),
       (R.SLUICE_CHRES_PORT_MBITS, fun _ => g.port), (R.SLUICE_CHRES_SLOTS_SLOTS, fun _ => g.slots)]
  | .evRing t => pick f v
      [(R.SLUICE_EV_WR_WR, fun _ => (evRing s t).wr), (R.SLUICE_EV_RD_RD, fun _ => (evRing s t).rd),
       (R.SLUICE_EV_DROP_COUNT, fun _ => (evRing s t).drop)]
  | .mgt =>
    let l := mgtLampB s
    pick f v
      [(R.MGT_LAMP_DATA_PF0, fun _ => match l with
          | some a => rd s a R.LAMP_SCEIL_CEIL
          | none => 0),
       (R.MGT_LAMP_DATA_MGT, fun _ => match l with
          | some a => tget 0xFFFF a s.mgtCeil
          | none => 0)]
  | .hk =>
    let k := rd s b R.HK_SENS_IDX_SENSOR
    let x := sens s k
    pick f v
      [(R.HK_SENS_DATA_T, fun _ => if k < 104 then toTwos 16 x.t else 0),
       (R.HK_SENS_DATA_VALID, fun _ => if k < 104 then b2n x.valid else 0),
       (R.HK_SENS_DATA_EXCLUDED, fun _ => if k < 104 then b2n x.excl else 0),
       (R.HK_SENS_DATA_RATE, fun _ => if k < 96 then rateField (riseOf x) else 0),
       (R.HK_CAL_DATA_VALUE, fun _ => calData s)]
  | .cfg => pick f v [(R.CFG_FW_SVN_MIN, fun _ => Config.svnMin)]
  | .hold => pick f v [(R.HOLD_DRAW_ISLAND, fun _ => Config.islandDraw)]
  | .ch n => pick f v
      [(R.CH_KIND_PCLASS, fun _ => b2n (pclass n)), (R.CH_STATUS_PARKED, fun _ => rd s b R.EPROT_STATUS_PARKED),
       (R.COMP_LUT_DATA_VALUE, fun _ =>
          if rd s b R.COMP_LUT_IDX_ENTRY ≤ 1024 && rd s b R.COMP_LUT_IDX_PRI < 3 then
            lutAt s n (rd s b R.COMP_LUT_IDX_BANK) (rd s b R.COMP_LUT_IDX_PRI) (rd s b R.COMP_LUT_IDX_ENTRY) else 0),
       (R.SEQ_STATUS_TENANT_OWNED, fun _ => b2n ((s.seq n).owner != 0)),
       (R.SEQ_TC_LO_TC, fun _ => (s.seq n).tc % 2 ^ 32), (R.SEQ_TC_HI_TC, fun _ => (s.seq n).tc / 2 ^ 32 % 2 ^ 32),
       (R.WEIR_STATUS_LINK_UP, fun _ => b2n (linkTrained s n)), (R.WEIR_STATUS_QUEUE_FULL, fun _ => b2n (queueFull s n)),
       (R.WEIR_STATUS_BUF_FREE, fun _ => bufFree s n), (R.WEIR_QUEUE_USED, fun _ => (s.weir n).q.length),
       (R.LAMP_FADE_STAT_B, fun _ => fadeB s n s.ht), (R.LAMP_FADE_STAT_C_MODE, fun _ => fadeC s n s.ht),
       (R.LAMP_CURVE_DATA_VALUE, fun _ =>
          if rd s b R.LAMP_CURVE_IDX_ENTRY ≤ 32 && rd s b R.LAMP_CURVE_IDX_STR < 6 then
            curveAt s n (rd s b R.LAMP_CURVE_IDX_STR) (rd s b R.LAMP_CURVE_IDX_RANGE) (rd s b R.LAMP_CURVE_IDX_ENTRY)
          else 0),
       (R.MOVE_WSPEED_CMD, fun _ => wheelCmd s n), (R.EPROT_TEL_AGE_AGE, fun _ => telAge s n)]
  | .lampStr n k => pick f v
      [(R.LAMP_SCEIL_CEIL, fun _ => min v (tget 0xFFFF b s.mgtCeil)), (R.LAMP_SCEIL_PROG, fun _ => cProg s n k s.ht),
       (R.LAMP_SLIMIT_L, fun _ => limitNow s n k), (R.LAMP_SLIMIT_RILL_CEIL, fun _ => if k < headStrings s n then v else 0),
       (R.LAMP_SSTAT_D, fun _ => dFactor s n k)]
  | .lampByp n i => pick f v [(R.LAMP_BYP_STAT_SPARES_LEFT, fun _ => sparesLeft s n i)]
  | .cluster d cl =>
    let w := rd s b R.LOOP_BIND_IDX_WORD
    let k := fun (x : Nat) => 512 * d + 32 * cl + x
    pick f v
      [(R.LOOP_BIND_DATA_DATA, fun _ =>
          if cl = 16 || 47 < w then 0 else bindWord s (k (rd s b R.LOOP_BIND_IDX_SLOT)) w),
       (R.LOOP_SP_DATA_VALUE, fun _ =>
          if cl = 16 then 0 else tget 0 (4 * k (rd s b R.LOOP_SP_IDX_SLOT) + rd s b R.LOOP_SP_IDX_N) s.spReg)]
  | .core d c => pick f v
      [(R.LOOP_CORE_STAT_PHYS, fun _ =>
          (if c < 64 then servedBy s (64 * d + c) else (logicalOf s d c).map (· % 64)).getD 0x7F)]
  | .slot k => pick f v [(R.LOOP_SLOT_STATUS_NOLINK, fun _ => b2n (noLink s k))]
  | .health => pick f v [(R.HUB_SPARE_SUM_PIPES_FREE, fun _ => (freePipes s i).length)]
  | .oxb d => pick f v
      [(R.HUB_OXB_PIPE_PORT, fun _ => match pipeChannel s d i with
          | some n => n % 48
          | none => 0x3F),
       (R.HUB_OXB_PIPE_STATE, fun _ => pipeState s d i), (R.HUB_OXB_PIPE_SOFT, fun _ => satU 8 (softCount s d i))]
  | .ddr d m => pick f v
      [(R.DDR_MIG_PROGRESS, fun _ =>
          if rdB s (ddrB d m) R.DDR_STATUS_MIGRATING then Config.freeValue s.free % 256 else v)]
  | .tenant t =>
    let g := (grantAt s t i).getD { channel := 0xFF }
    pick f v
      [(R.SLUICE_TSTATUS_OUT, fun _ => satU 16 (outCmds s t)),
       (R.SLUICE_TSTATUS_GRANTS, fun _ => satU 4 (s.grants.filter (·.tenant == t)).length),
       (R.SLUICE_TGRANT0_CHANNEL, fun _ => g.channel), (R.SLUICE_TGRANT0_LAYERS, fun _ => g.layers),
       (R.SLUICE_TGRANT0_SEQ, fun _ => b2n g.seq), (R.SLUICE_TGRANT0_CLASS, fun _ => g.cls),
       (R.SLUICE_TGRANT0_VALID, fun _ => b2n (grantAt s t i).isSome), (R.SLUICE_TGRANT1_DRAM, fun _ => g.dram),
       (R.SLUICE_TGRANT2_SLOTS, fun _ => g.slots), (R.SLUICE_TGRANT2_WEIGHT, fun _ => g.weight),
       (R.SLUICE_TGRANT3_LINK, fun _ => g.link), (R.SLUICE_TGRANT3_SQUEEZED, fun _ => b2n g.squeezed)]
  | _ => v

/-! ### Words -/

/-- A word put together from its fields. -/
def wordOf (l : List (Nat × Nat × Nat)) : Nat := l.foldl (fun a p => a + p.2.2 % 2 ^ p.2.1 * 2 ^ p.1) 0

/-- The register at offset `o` of a block as agent `fn` reads it. -/
def readBlk (fn : Nat) (s : State) (b : RegBlock) (o : Nat) : Nat :=
  wordOf ((b.at_ o).map (fun p => (p.1.loAt p.2, p.1.w, live fn s b p.1 p.2)))

/-- The reset value of a field of a block; CH_KIND.PCLASS is the port's own (R32). -/
def RegBlock.resetOf (b : RegBlock) (f : Fld) (i : Nat) : Nat :=
  match b with
  | .ch n => pick f (f.reset i) [(R.CH_KIND_PCLASS, fun _ => b2n (pclass n))]
  | _ => f.reset i

/-- The register's reset value, as a unit held in reset answers (R715). -/
def resetBlk (b : RegBlock) (o : Nat) : Nat :=
  wordOf (((b.at_ o).filter (fun p => p.1.acc != .wo)).map (fun p => (p.1.loAt p.2, p.1.w, b.resetOf p.1 p.2)))

/-- The Reach die whose reset silences a block: its own block but for the die and die-link registers, and the channel
blocks of its channels (R805). -/
def RegBlock.dieOf : RegBlock → Option Nat
  | .ch n => some (n / 48) | .fetchL n _ => some (n / 48) | .compL n _ => some (n / 48) | .lampStr n _ => some (n / 48)
  | .lampByp n _ => some (n / 48)
  | .ddr d _ => some d | .ddrDie d => some d | .ephy n => some (n / 48) | .lane n _ => some (n / 48)
  | .cluster d _ => some d | .core d _ => some d | .slot k => some (k / 512) | .oxb d => some d | .eddy d _ => some d
  | _ => none

def inReset (s : State) (d : Nat) : Bool := rdB s (dieB d) R.HUB_DIE_STATUS_IN_RESET

/-- The block's unit is held in reset. -/
def RegBlock.silent (s : State) (b : RegBlock) : Bool :=
  match b.dieOf with
  | some d => inReset s d
  | none => false

/-- The sequencer program windows (R297, R326, R798). -/
def winBase : Nat := 0x4000000

/-- The channel and offset of an address of a program window. -/
def windowAt (a : Nat) : Option (Nat × Nat) :=
  if winBase ≤ a && a < 0x4C00000 then some ((a - winBase) / 0x10000, a % 0x10000) else none

/-- A word of a program window: banks 0 and 1, then their descriptor halves. -/
def readWindow (s : State) (n o : Nat) : Nat :=
  if inReset s (n / 48) then 0
  else
    let b := o / 0x4000
    let w := o % 0x4000 / 4
    if b < 2 then progAt s n b w else descrWord s n (b - 2) w

/-- The offset within its block of an address of PF0 BAR0; the word is aligned. -/
def ofsIn (b : RegBlock) (a : Nat) : Nat := a - b.base

/-- The word at an offset of PF0 BAR0 as agent `fn` reads it, without what a read brings about (R17). -/
def regWord (fn : Nat) (s : State) (a : Nat) : Nat :=
  let a := a / 4 * 4
  match windowAt a with
  | some (n, o) => readWindow s n o
  | none =>
    match blockAt a with
    | some b => if b.silent s then resetBlk b (ofsIn b a) else readBlk fn s b (ofsIn b a)
    | none => 0

/-! ### Register pairs (R16) -/

/-- A field of the lower word of each register pair of a block: the registers whose names end in _LO, each with its _HI
at the next offset. -/
def pairLows (b : RegBlock) : List Fld :=
  match b with
  | .hub => [R.HUB_SERIAL_LO_SERIAL]
  | .time => [R.TIME_NOW_LO_NOW, R.TIME_SET_LO_SET]
  | .cfg => [R.CFG_SRC_LO_ADDR]
  | .evRing _ => [R.SLUICE_EV_BASE_LO_BASE]
  | .ring _ _ => [R.SLUICE_SQ_BASE_LO_BASE, R.SLUICE_CQ_BASE_LO_BASE]
  | .apt _ => [R.SLUICE_APT_LO_APT]
  | .ch _ =>
    [R.FETCH_UFRAME_LO_HT, R.COMP_UMAP_BASE_LO_BASE, R.COMP_WB_REC_LO_ADDR, R.COMP_WB_SEQ_LO_SEQ, R.PLANE_DMAT_LO_M,
     R.PLANE_POOL_BASE_LO_BASE, R.SEQ_FAULT_TC_LO_TC, R.SEQ_TC_LO_TC, R.SEQ_SWAP_T_LO_T, R.SEQ_FRAME_LO_HT,
     R.WEIR_WD_T_LO_HT, R.WEIR_WD_PIN_LO_HT, R.LAMP_DRVMAP_LO_STR, R.MOVE_WIDX_LO_HT, R.CH_START_LO_HT,
     R.CH_STOP_LO_HT]
  | .compL _ _ => [R.COMP_LFENCE_A_LO_ADDR, R.COMP_LFENCE_T_LO_TARGET, R.COMP_LFLIP_LO_HT]
  | .d2d _ => [R.HUB_CDC_OVR_LO_OVR]
  | .ddr _ _ => [R.DDR_ERR_ADDR_LO_ADDR]
  | .ddrDie _ => [R.DDR_DIE_CMASK_LO_MASK, R.DDR_DIE_BMASK_LO_MASK]
  | .eddy _ _ => [R.LOOP_EDDY_TRIG_T_LO_HT, R.LOOP_EDDY_ARCH_BASE_LO_BASE]
  | _ => []

/-- The register at an address of the model's register space is the lower word of a pair. -/
def isPairLow (b : RegBlock) (o : Nat) : Bool := (pairLows b).any (fun f => f.insts o != [])

/-- A function reads the lower word of a pair: the upper word is latched for its next read of that word. -/
def latchUpper (fn a v : Nat) (s : State) : State :=
  { s with latch := (fn, a, v) :: s.latch.filter (fun e => !(e.1 == fn && e.2.1 == a)) }

/-- The word a function reads at address `a`, where `w` is the live one: a latched upper word is returned once. -/
def takeLatch (fn a w : Nat) (s : State) : Nat × State :=
  match s.latch.find? (fun e => e.1 == fn && e.2.1 == a) with
  | some e => (e.2.2, { s with latch := s.latch.filter (fun e => !(e.1 == fn && e.2.1 == a)) })
  | none => (w, s)

/-- A read of PF0 BAR0 at `a` by agent `fn`, with what it latches; what an index register advances is the caller's. -/
def readWord (fn a : Nat) (s : State) : Nat × State :=
  let a := a / 4 * 4
  let r := takeLatch fn a (regWord fn s a) s
  match blockAt a with
  | some b => if isPairLow b (ofsIn b a) then (r.1, latchUpper fn (a + 4) (regWord fn s (a + 4)) r.2) else r
  | none => r

/-! ### Channel views (R665) -/

/-- The words of a view of channel `n`: offset of the first, who may read them (0 any grant, 1 the holder of layer `k`, 2
the sequencer owner), `k`, and the registers' addresses. -/
def viewMap (n : Nat) : List (Nat × Nat × Nat × List Nat) :=
  let b := chB n
  let c := fun (o k : Nat) => (List.range k).map (fun i => b + o + 4 * i)
  [(0x000, 0, 0, c 0x4 2 ++ [timeB, timeB + 4]),
   (0x040, 0, 0, c 0x604 8),
   (0x0C0, 0, 0, [b + R.COMP_STATUS_FROZEN.off, b + R.COMP_BRIGHT_LEVEL.off]),
   (0x200, 2, 0, [b + R.PLANE_STATUS_FMT_DARK.off, b + R.PLANE_VIOL_CNT_COUNT.off, b + R.PLANE_DRIFT_CNT_COUNT.off,
      b + R.PLANE_POOLWAIT_CNT_COUNT.off, b + R.PLANE_DRIFT_PRI.off] ++ c R.PLANE_LVL_AMP.off 12),
   (0x300, 2, 0, c 0x1004 7 ++ [b + R.SEQ_WIDTH_WIDTH.off, b + R.SEQ_RANGE_STAT_HIGH_EFF.off, b + R.SEQ_SLOTS_LIMIT.off,
      b + R.SEQ_FRAME_LO_HT.off, b + R.SEQ_FRAME_HI_HT.off] ++ c 0x107C 8),
   (0x400, 2, 0, [b + R.WEIR_STATUS_HEAD_MODE.off, b + R.WEIR_LINK_PAYLOAD.off, b + R.WEIR_LEAD_LEAD.off,
      b + R.WEIR_SLACK_FRAME_SLACK.off, b + R.WEIR_SLACK_LOW_SLACK.off, b + R.WEIR_WD_INFO_CAUSE.off] ++ c 0x1424 8),
   (0x500, 2, 0, [b + R.LAMP_STATUS_CUT.off, b + R.LAMP_FADE_STAT_B.off] ++ (List.range 6).flatMap (fun k =>
      [strB n k + R.LAMP_SLIMIT_L.off, strB n k + R.LAMP_STEMP_T.off, strB n k + R.LAMP_SSTAT_D.off])),
   (0x600, 2, 0, [b + R.MOVE_STATUS_WSTATE.off, b + R.MOVE_WSPEED_CMD.off, b + R.MOVE_SCAN_MEAS_AMP.off]),
   (0x700, 2, 0, [ephyB n + R.EPHY_STATUS_STATE.off, b + R.EPROT_STATUS_PARKED.off] ++ c R.EPROT_HCAP_VALUE.off 32)]
  ++ (List.range 8).map (fun k => (0x080 + 4 * k, 1, k, [fetchB n k + R.FETCH_LSTAT_HANDLE_EFF.off]))
  ++ (List.range 8).map (fun k => (0x100 + 0x10 * k, 1, k,
      [compB n k + R.COMP_LFLIP_STAT_LATE.off, compB n k + R.COMP_LLATE_CNT_COUNT.off,
       compB n k + R.COMP_LFLIP_LO_HT.off, compB n k + R.COMP_LFLIP_HI_HT.off]))

/-- The register behind the word at offset `o` of tenant `t`'s view `g`, when the tenant may read it. -/
def viewAddr (s : State) (t g o : Nat) : Option Nat :=
  match grantAt s t g with
  | none => none
  | some x =>
    match (viewMap x.channel).find? (fun e => e.1 ≤ o && o < e.1 + 4 * e.2.2.2.length) with
    | none => none
    | some (o0, who, k, l) =>
      let ok : Bool := who == 0 || (who == 1 && bitOf x.layers k) || (who == 2 && seqOwner s x.channel == t)
      if ok then l[(o - o0) / 4]? else none

/-- The word at offset `o` of tenant `t`'s view `g`. -/
def viewWord (s : State) (t g o : Nat) : Nat :=
  match viewAddr s t g o with
  | some a => regWord t s a
  | none => 0

/-! ### A VF's BAR0 (R688, R806) -/

/-- The address in the model's register space of a register that VF `t` reads at offset `o` of its BAR0 outside its
views: its own rings, aperture and event ring, and the copies of its own Sluice state and of the die registers. -/
def vfAddr (t o : Nat) : Option Nat :=
  if o < 0x100 then some (ringB t (o / 0x40) + o % 0x40)
  else if o < 0x108 then some (aptB t + (o - 0x100))
  else if 0x30000 ≤ o && o < 0x30018 then some (evRingB t + (o - 0x30000))
  else if 0x30100 ≤ o && o < 0x30200 then some (tenB t + 0x100 + (o - 0x30100))
  else if o = 0x30200 then some (tenB t + 0x8)
  else if o = 0x30204 then some (tenB t + 0x4)
  else if 0x30208 ≤ o && o < 0x30220 then some (tenB t + 0x10 + (o - 0x30208))
  else if 0x30300 ≤ o && o < 0x30400 && o % 0x40 ≤ 0x30 then some (slDieB ((o - 0x30300) / 0x40) + o % 0x40)
  else none

/-- The block of such a register. -/
def vfBlock (t o : Nat) : Option RegBlock :=
  if o < 0x100 then some (.ring t (o / 0x40))
  else if o < 0x108 then some (.apt t)
  else if 0x30000 ≤ o && o < 0x30018 then some (.evRing t)
  else if 0x30100 ≤ o && o < 0x30220 then some (.tenant t)
  else if 0x30300 ≤ o && o < 0x30400 then some (.slDie ((o - 0x30300) / 0x40))
  else none

/-- The live word at offset `o` of VF `t`'s BAR0. -/
def vfWord (s : State) (t o : Nat) : Nat :=
  let o := o / 4 * 4
  if 0x10000 ≤ o && o < 0x20000 then viewWord s t ((o - 0x10000) / 0x1000) (o % 0x1000)
  else
    match vfBlock t o, vfAddr t o with
    | some b, some a => readBlk t s b (ofsIn b a)
    | _, _ => 0

/-- The word at offset `o` of VF `t`'s BAR0 is the lower word of a register pair. -/
def vfPairLow (s : State) (t o : Nat) : Bool :=
  if 0x10000 ≤ o && o < 0x20000 then
    match viewAddr s t ((o - 0x10000) / 0x1000) (o % 0x1000) with
    | some a =>
      match blockAt a with
      | some b => isPairLow b (ofsIn b a)
      | none => false
    | none => false
  else
    match vfBlock t o, vfAddr t o with
    | some b, some a => isPairLow b (ofsIn b a)
    | _, _ => false

/-- A read of VF `t`'s BAR0 at offset `o`, with what it latches. -/
def vfReadWord (t o : Nat) (s : State) : Nat × State :=
  let o := o / 4 * 4
  let a := vfB t + o
  let r := takeLatch t a (vfWord s t o) s
  if vfPairLow s t o then (r.1, latchUpper t (a + 4) (vfWord s t (o + 4)) r.2) else r

end Sys2Proof.Machine
end

