-- ==== Sys2Proof/Machine/Fabric.lean ====
section
/-!
DEFINITION. Inside the package (spec/17_inside_the_package.md): hardware locks (R719 to R725, R728, R729), epochs and
UNIT_RESET (R709 to R714), resynchronisation of crossings (R708), and the die-link modules up to their retraining
(R691 to R694, R726, R727).
-/

namespace Sys2Proof.Machine
open Sys2Proof

/-! ### Locks -/

/-- Agents with access to locks: PF0, the board management controller and the Confluence units (R709, R719). -/
def lockAgent (a : Nat) : Bool := a == 0 || a == 0x200 || (0x400 ≤ a && a ≤ 0x40E)

/-- The lease of a lock runs out (R721, R724). -/
def leaseOut (n : Nat) (s : State) : State :=
  let x := tget (0, 0) n s.lockAt
  if x.2 != 0 && x.1 + x.2 * ms ≤ s.tick + 1 then breakLock n 2 s else s

/-- The lock is free, or was acquired at this very instant by an agent of a higher identity than `a` (R719, R720). -/
def lockOpen (s : State) (a n : Nat) : Bool :=
  lockOwner s n == 0xFFFF || (a < lockOwner s n && (tget (0, 0) n s.lockAt).1 == s.tick + 1)

/-- Agent `a` makes itself the owner of a free lock; a break by the lease at the same instant comes first (R723). -/
def lockAcquire (a n : Nat) (s : State) : State :=
  let s := leaseOut n s
  if !lockAgent a || !lockOpen s a n then s
  else { wr (lockB n) R.LOCK_STAT_OWNER a s with lockAt := tset (0, 0) n (s.tick + 1, rd s (lockB n) R.LOCK_LEASE_MS) s.lockAt }

/-- LOCK_ACQUIRE (R719). -/
def execLockAcquire (a : Fin 65536) (n : Fin 256) (s : State) : Host.Outcome State Fault Refusal :=
  run (lockAcquire a n) s

/-- A RELEASE or CLEAR_BROKEN by an agent that is not the owner; `bit` is its bit of the event. -/
def lockReject (a n bit : Nat) (s : State) : State :=
  raise 0x0F0A noCh (n + 2 ^ bit + 65536 * a) (wrB (lockB n) R.LOCK_STAT_WRITE_REJECTED true s)

def lockRelease (a n : Nat) (s : State) : State :=
  let s := leaseOut n s
  if !lockAgent a then s else if lockOwner s n = a then freeLock n s else lockReject a n 8 s

/-- LOCK_RELEASE (R719). -/
def execLockRelease (a : Fin 65536) (n : Fin 256) (s : State) : Host.Outcome State Fault Refusal :=
  run (lockRelease a n) s

def lockClear (a n : Nat) (s : State) : State :=
  let s := leaseOut n s
  if !lockAgent a then s
  else if lockOwner s n = a then wrB (lockB n) R.LOCK_STAT_BROKEN false s else lockReject a n 9 s

/-- LOCK_CLEAR_BROKEN (R722). -/
def execLockClearBroken (a : Fin 65536) (n : Fin 256) (s : State) : Host.Outcome State Fault Refusal :=
  run (lockClear a n) s

/-- LOCK_FORCE (R721): written by PF0 or the board management controller. -/
def execLockForce (a : Fin 65536) (n : Fin 256) (s : State) : Host.Outcome State Fault Refusal :=
  run (when_ (a.val == 0 || a.val == 0x200) (breakLock n 3)) s

/-- The counters of R729. -/
def lockCounters : List Fld := [R.LOCK_BROKEN_CNT_COUNT]

/-- LOCK_CNT_CLR (R729). -/
def execLockCntClr (s : State) : Host.Outcome State Fault Refusal := run (resetFlds lockUnitB lockCounters) s

/-- LOCK_LEASE_EXPIRED (R721). -/
def execLockLeaseExpired (n : Fin 256) (s : State) : Host.Outcome State Fault Refusal := run (leaseOut n) s

/-! ### Counters (R726) -/

/-- The counters of R726. -/
def fabCounters : List Fld :=
  [R.HUB_FAB_STALE_CNT_COUNT, R.HUB_FAB_UNITRESET_CNT_COUNT, R.HUB_CDC_RESYNC_FAIL_CNT_COUNT]

/-- FAB_CNT_CLR (R726). -/
def execFabCntClr (s : State) : Host.Outcome State Fault Refusal := run (resetFlds fabB fabCounters) s

/-! ### Crossings (R708) -/

/-- The crossings of a location: 0 the Confluence die, 1 + d Reach die d (R726, R727). -/
def crossings (loc : Nat) : List Nat :=
  if loc = 0 then List.range 16 else List.range 11 ++ (List.range 48).map (16 + ·)

/-- One side of every crossing of a location has left reset: each waits for its answer. -/
def startResync (loc : Nat) (s : State) : State :=
  { s with crosses := (crossings loc).foldl (fun t i =>
      let k := 64 * loc + i
      tins k ({ since := s.tick + 1 } : Cross) (terase k t)) s.crosses }

/-- The other side answers: both restart from pointer 0. -/
def resync (loc i : Nat) (s : State) : State :=
  let s := { s with crosses := terase (64 * loc + i) s.crosses }
  if s.dreqs = [] then s else serveDram s

/-- CDC_RESYNC (R708). -/
def execCdcResync (loc : Fin 5) (i : Fin 64) (s : State) : Host.Outcome State Fault Refusal := run (resync loc i) s

/-- The answer has not come within 2 µs: retried, and counted once. -/
def resyncRetry (loc i : Nat) (s : State) : State :=
  let x := tget ({} : Cross) (64 * loc + i) s.crosses
  if x.since = 0 || s.tick + 1 < x.since + 2 * us || x.failed then s
  else
    raise 0x0F04 noCh (loc + 256 * i) (bump fabB R.HUB_CDC_RESYNC_FAIL_CNT_COUNT
      { s with crosses := tset {} (64 * loc + i) { x with failed := true } s.crosses })

/-- CDC_RESYNC_RETRY (R708). -/
def execCdcResyncRetry (loc : Fin 5) (i : Fin 64) (s : State) : Host.Outcome State Fault Refusal :=
  run (resyncRetry loc i) s

/-! ### Die-link modules (R693, R694, R727) -/

def State.d2d (s : State) (d k : Nat) : D2dSt := tget {} (2 * d + k) s.d2ds
def modD2d (d k : Nat) (f : D2dSt → D2dSt) (s : State) : State :=
  { s with d2ds := tset {} (2 * d + k) (f (s.d2d d k)) s.d2ds }

/-- State of a module: 0 DOWN, 1 TRAINING, 2 UP, 3 REPAIRING. -/
def modFld (k : Nat) : Fld := if k = 0 then R.HUB_D2D_STATUS_MOD0 else R.HUB_D2D_STATUS_MOD1
def modState (s : State) (d k : Nat) : Nat := rd s (d2dB d) (modFld k)
def setMod (d k v : Nat) (s : State) : State := wr (d2dB d) (modFld k) v s

/-- A CRC error of a lane, in direction 0 die to Confluence or 1 back: the adapter retries, and it is counted. -/
def d2dError (d k dir lane : Nat) (s : State) : State :=
  if modState s d k < 2 then s
  else
    let key := 2 * lane + dir
    let s := bump (d2dB d) (if k = 0 then R.HUB_D2D_CRC_CNT0_COUNT else R.HUB_D2D_CRC_CNT1_COUNT) s
    modD2d d k (fun x => { x with
      errs := tset [] key (s.tick :: (tget [] key x.errs).filter (fun t => s.tick < t + ms)) x.errs }) s

/-- D2D_CRC_ERROR (R693). -/
def execD2dCrcError (d : Fin 4) (k : Fin 2) (dir : Fin 2) (lane : Fin 68) (s : State) : Host.Outcome State Fault Refusal :=
  run (d2dError d k dir lane) s

/-- A retrain with repair begins; the module's traffic moves to the other (R694). -/
def startRepair (d k : Nat) (s : State) : State :=
  if modState s d k = 2 then setMod d k 3 (modD2d d k (fun x => { x with errs := [] }) s) else s

/-- A lane's CRC errors exceed 16 in 1 ms. -/
def d2dRetrain (d k : Nat) (s : State) : State :=
  if (s.d2d d k).errs.any (fun e => 16 < (e.2.filter (fun t => s.tick < t + ms)).length) then startRepair d k s else s

/-- D2D_RETRAIN (R694). -/
def execD2dRetrain (d : Fin 4) (k : Fin 2) (s : State) : Host.Outcome State Fault Refusal := run (d2dRetrain d k) s

/-- D2D_RETRAIN_CMD (R694, R727). -/
def execD2dRetrainCmd (d : Fin 4) (k : Fin 2) (s : State) : Host.Outcome State Fault Refusal := run (startRepair d k) s

/-- The counters of R727, and HUB_FAB_P0_MAX. -/
def d2dCounters : List Fld :=
  [R.HUB_D2D_CRC_CNT0_COUNT, R.HUB_D2D_CRC_CNT1_COUNT, R.HUB_D2D_REPAIR_CNT_COUNT, R.HUB_D2D_DOWN_CNT_COUNT,
   R.HUB_FAB_P0_OVER_CNT_COUNT, R.HUB_FAB_P0_MAX_NS, R.HUB_FAB_P0_MAX_CHAN]

/-- D2D_CNT_CLR (R727). -/
def execD2dCntClr (d : Fin 4) (s : State) : Host.Outcome State Fault Refusal := run (resetFlds (d2dB d) d2dCounters) s

/-- Redundant lanes left of a module in a direction: 0 die to Confluence, 1 back. -/
def spareFld (k dir : Nat) : Fld :=
  match k, dir with
  | 0, 0 => R.HUB_D2D_STATUS_MOD0_TX_SPARES
  | 0, _ => R.HUB_D2D_STATUS_MOD0_RX_SPARES
  | _, 0 => R.HUB_D2D_STATUS_MOD1_TX_SPARES
  | _, _ => R.HUB_D2D_STATUS_MOD1_RX_SPARES

/-- UCIe repair capacity of a die is exhausted (R697). -/
def d2dExhausted (s : State) (d : Nat) : Bool :=
  [0, 1].any (fun k => modState s d k == 0 || [0, 1].any (fun dir => rd s (d2dB d) (spareFld k dir) == 0))

/-- EXHAUSTED of each die, and the UCIE bit of HUB_REPLACE, follow R697 and R764. -/
def refreshUcie (s : State) : State :=
  let s := each dies (fun d s =>
    let l := [0, 1].flatMap (fun k => [0, 1].map (fun dir => rd s (d2dB d) (spareFld k dir)))
    wr healthB R.HUB_SPARE_SUM_UCIE_MIN (leastD 4 l)
      (wrB (d2dB d) R.HUB_D2D_STATUS_EXHAUSTED (d2dExhausted s d) s) d) s
  setReplace R.HUB_REPLACE_UCIE (dies.any (d2dExhausted s)) s

end Sys2Proof.Machine
end

