-- ==== Sys2Proof/Machine/RingCmd.lean ====
section
/-!
DEFINITION. Apertures, rings and the commands that every function issues (spec/16_host_tenants_sluice.md R637 to R661,
with the loaders of spec/07_vilti_isa.md R323, spec/08_sequence_programs.md R366 and spec/11_loop_engines.md R457).
-/

namespace Sys2Proof.Machine
open Sys2Proof

/-- The function is there: PF0 always, a VF while VF Enable is set (R682). -/
def fnUp (s : State) (t : Nat) : Bool := t == 0 || s.hub.vf

/-- Every byte of a range lies in installed DRAM: the last one of it on each die does. -/
def spanInstalled (s : State) (a len : Nat) : Bool :=
  len == 0 || (List.range ((a + len - 1) / 2 ^ 43 + 1 - a / 2 ^ 43)).all (fun i =>
    installed s (min (a + len - 1) ((a / 2 ^ 43 + i + 1) * 2 ^ 43 - 1)))

/-! ### Apertures (R638 to R640) -/

/-- APT of a function, as the last write of SLUICE_APT_HI left it. -/
def aptOf (s : State) (t : Nat) : Nat :=
  ef s (aptB t) R.SLUICE_APT_LO_APT * 65536 + ef s (aptB t) R.SLUICE_APT_HI_APT * 2 ^ 32

/-- A BAR2 write TLP: checked when it reaches memory, and applied or dropped as a whole. -/
def aptWrite (t ofs : Nat) (bytes : List Byte) (s : State) : State :=
  if !fnUp s t then s
  else
    dramRequest { write := true, addr := aptOf s t + ofs, len := bytes.length, bytes, level := 4, since := s.tick
                  fn := some t, src := t } s

/-- APERTURE_WRITE (R638, R639). -/
def execApertureWrite (t : Fin 257) (ofs : Nat) (bytes : List Byte) (s : State) : Host.Outcome State Fault Refusal :=
  guarded (aptWriteOk t ofs bytes.length) (aptWrite t ofs bytes) s

/-- A BAR2 read: data, every byte 0xFF without the right, or EP for poison. -/
def aptRead (t ofs len : Nat) (s : State) : State :=
  if !fnUp s t then s
  else dramRequest { addr := aptOf s t + ofs, len, level := 4, since := s.tick, fn := some t, src := t } s

/-- APERTURE_READ (R639, R640). -/
def execApertureRead (t : Fin 257) (ofs : Nat) (len : Fin 4097) (s : State) : Host.Outcome State Fault Refusal :=
  guarded (aptReadOk t ofs len) (aptRead t ofs len) s

/-- A write of SLUICE_APT_HI: both halves apply to every later access. -/
def aptBaseWrite (t v : Nat) (s : State) : State :=
  if !fnUp s t then s
  else
    let s := wr (aptB t) R.SLUICE_APT_HI_APT v s
    setEf (aptB t) R.SLUICE_APT_HI_APT (rd s (aptB t) R.SLUICE_APT_HI_APT)
      (setEf (aptB t) R.SLUICE_APT_LO_APT (rd s (aptB t) R.SLUICE_APT_LO_APT) s)

/-- APERTURE_BASE_WRITE (R638). -/
def execApertureBaseWrite (t : Fin 257) (v : Nat) (s : State) : Host.Outcome State Fault Refusal := run (aptBaseWrite t v) s

/-! ### Segment tables (R641 to R643) -/

/-- A word of segment entry `e` of tenant `t` is written; PF0 has no table. -/
def segWrite (t e : Nat) (hi : Bool) (v : Nat) (s : State) : State :=
  let b := tenB t
  if t = 0 then s
  else if hi then wr b R.SLUICE_TSEG1_LIMIT v s e
  else
    wr b R.SLUICE_TSEG0_BASE v (wrB b R.SLUICE_TSEG0_R (bitOf v 29) (wrB b R.SLUICE_TSEG0_W (bitOf v 30)
      (wrB b R.SLUICE_TSEG0_V (bitOf v 31) s e) e) e) e

/-- SEGMENT_WRITE (R642). -/
def execSegmentWrite (t : Fin 257) (e : Fin 256) (hi : Bool) (v : Nat) (s : State) : Host.Outcome State Fault Refusal :=
  run (segWrite t e hi v) s

/-! ### Enabling and moving a ring pair (R644 to R648) -/

/-- A function's rings: 16 of PF0, 4 of a VF. -/
def ringExists (s : State) (t r : Nat) : Bool := fnUp s t && (t == 0 || r < 4)

/-- Both rings of a pair pass the checks of R644. -/
def ringFits (s : State) (t r : Nat) : Bool :=
  let q := sqBase s t r
  let c := cqBase s t r
  let ql := 64 * sqSize s t r
  let cl := 32 * cqSize s t r
  segOk s t false q ql && segOk s t true q ql && segOk s t false c cl && segOk s t true c cl
    && spanInstalled s q ql && spanInstalled s c cl

/-- EN is written 1. -/
def ringEnable (t r : Nat) (s : State) : State :=
  let b := ringB t r
  if !ringExists s t r || ringOn s t r then s
  else if !ringFits s t r then stopRing t r 1 s
  else
    let s := wrB b R.SLUICE_RING_CFG_EN true (wrB b R.SLUICE_RING_STATUS_RUN true s)
    let s := wrB b R.SLUICE_RING_STATUS_BASE_ERR false (wrB b R.SLUICE_RING_STATUS_CQ_FULL false s)
    let s := wr b R.SLUICE_SQ_TAIL_TAIL 0 (wr b R.SLUICE_SQ_HEAD_HEAD 0 s)
    let s := wr b R.SLUICE_CQ_TAIL_TAIL 0 (wr b R.SLUICE_CQ_HEAD_HEAD 0 (wr b R.SLUICE_CQ_TAIL_PHASE 1 s))
    flushCq t r (modRing t r (fun x => { x with unsig := 0 }) s)

/-- RING_ENABLE (R644). -/
def execRingEnable (t : Fin 257) (r : Fin 16) (s : State) : Host.Outcome State Fault Refusal := run (ringEnable t r) s

/-- EN is written 0: taking stops at once. -/
def ringDisable (t r : Nat) (s : State) : State :=
  if !ringExists s t r then s
  else wrB (ringB t r) R.SLUICE_RING_CFG_EN false (wrB (ringB t r) R.SLUICE_RING_STATUS_RUN false s)

/-- RING_DISABLE (R647). -/
def execRingDisable (t : Fin 257) (r : Fin 16) (s : State) : Host.Outcome State Fault Refusal := run (ringDisable t r) s

/-- The doorbell is written; a value at or above the ring size is rejected. -/
def doorbell (t r v : Nat) (s : State) : State :=
  if !ringExists s t r then s
  else if sqSize s t r ≤ v then wrB (ringB t r) R.SLUICE_RING_STATUS_WRITE_REJECTED true s
  else wr (ringB t r) R.SLUICE_SQ_TAIL_TAIL v s

/-- SQ_DOORBELL (R645). -/
def execSqDoorbell (t : Fin 257) (r : Fin 16) (v : Nat) (s : State) : Host.Outcome State Fault Refusal :=
  run (doorbell t r v) s

def sqHead (s : State) (t r : Nat) : Nat := rd s (ringB t r) R.SLUICE_SQ_HEAD_HEAD
def sqAddr (s : State) (t r : Nat) : Nat := sqBase s t r + 64 * sqHead s t r
def sqWaits (s : State) (t r : Nat) : Bool := sqHead s t r != rd s (ringB t r) R.SLUICE_SQ_TAIL_TAIL

/-- The next access of a ring finds that its rights have gone. -/
def ringRightsLost (t r : Nat) (s : State) : State :=
  let lost := (sqWaits s t r && !segOk s t false (sqAddr s t r) 64)
    || ((ringSt s t r).held != [] && !segOk s t true (cqBase s t r + 32 * rd s (ringB t r) R.SLUICE_CQ_TAIL_TAIL) 32)
  if ringOn s t r && lost then stopRing t r 2 s else s

/-- RING_RIGHTS_LOST (R647). -/
def execRingRightsLost (t : Fin 257) (r : Fin 16) (s : State) : Host.Outcome State Fault Refusal :=
  run (ringRightsLost t r) s

/-- SLUICE_CQ_HEAD is written: held completions pass. -/
def cqHeadWrite (t r v : Nat) (s : State) : State :=
  if !ringExists s t r then s
  else
    let s := wr (ringB t r) R.SLUICE_CQ_HEAD_HEAD v s
    flushCq t r (wrB (ringB t r) R.SLUICE_RING_STATUS_CQ_FULL (ringOn s t r && cqFull s t r) s)

/-- CQ_HEAD_WRITE (R646). -/
def execCqHeadWrite (t : Fin 257) (r : Fin 16) (v : Nat) (s : State) : Host.Outcome State Fault Refusal :=
  run (cqHeadWrite t r v) s

/-- TIME µs have passed since the first unsignalled completion. -/
def cqTimer (t r : Nat) (s : State) : State :=
  let x := ringSt s t r
  let time := rd s (ringB t r) R.SLUICE_CQ_IRQ_TIME
  if time != 0 && x.unsig != 0 && x.unsigAt + time * us ≤ s.tick then signalCq t r s else s

/-- CQ_IRQ_TIMER (R648). -/
def execCqIrqTimer (t : Fin 257) (r : Fin 16) (s : State) : Host.Outcome State Fault Refusal := run (cqTimer t r) s

/-! ### Taking a command (R645, R649, R653) -/

/-- The opcodes of R649. -/
def opKnown (op : Nat) : Bool := op ≤ 0xA || (0x40 ≤ op && op ≤ 0x42)

/-- The opcode names a channel; of PROG_LOAD only without LOOP, and of REVOKE only a channel reservation's. -/
def namesChannel (e : List Byte) : Bool :=
  let op := field e 0 1
  op == 3 || op == 4 || (op == 6 && !bitOf (field e 1 1) 0) || op == 7 || op == 8 || op == 9 || op == 0x40
    || (op == 0x41 && field e 8 2 == 0) || op == 0x42

/-- A reserved header bit is not 0: FLAGS but COEF and LOOP, SUB where the opcode has none, byte 7. -/
def headerReserved (e : List Byte) : Bool :=
  let op := field e 0 1
  let flags := field e 1 1
  let sub := op == 3 || op == 8 || op == 9 || op == 0xA
  (if op = 3 || op = 6 then 1 < flags else flags != 0) || (!sub && field e 6 1 != 0) || field e 7 1 != 0

/-- The function holds a grant on the channel that has not been revoked. -/
def holdsGrant (s : State) (t n : Nat) : Bool :=
  s.grants.any (fun g => g.tenant == t && g.channel == n && !(s.chst n).released.contains (t, g.g))

/-- The lowest failing reason of R653 for a readable entry, 0 for none; `out` commands are outstanding. -/
def headerReason (s : State) (t : Nat) (e : List Byte) (out : Nat) : Nat :=
  let op := field e 0 1
  let n := field e 4 2
  if !opKnown op || headerReserved e then 0x80
  else if t != 0 && 0x40 ≤ op then 0x81
  else if namesChannel e && (191 < n || (t != 0 && !holdsGrant s t n)) then 0x82
  else if op = 7 && seqOwner s n != t then 0x83
  else if t != 0 && max 1 (rd s (tenB t) R.SLUICE_TQUOTA_MAX_OUT) ≤ out then 0x85
  else 0

/-- A ring can have its next command taken: enabled, one waits, the completion ring has space, no FENCE_WAIT stops it,
the function's earlier writes have reached memory (R700), and the device is not in HOLD. -/
def canTake (s : State) (t r : Nat) : Bool :=
  ringExists s t r && !s.dreqs.any (fun q => q.write && q.src == t) && ringOn s t r && sqWaits s t r && !cqFull s t r && (ringSt s t r).held == []
    && !rdB s (ringB t r) R.SLUICE_RING_STATUS_FENCE_WAIT && s.mode != .hold

/-- The device takes the next command of ring `r` of function `t`, if it is one of this row: `mine` judges a readable
entry, and `junk` whether the row also takes poisoned entries and reserved opcodes. `act` carries it out. -/
def takeNext (t r : Nat) (junk : Bool) (mine : List Byte → Bool) (act : Cmd → List Byte → State → State) (s : State) :
    State :=
  if !canTake s t r then s
  else if !segOk s t false (sqAddr s t r) 64 then stopRing t r 2 s
  else
    let e := loadBytes s (sqAddr s t r) 64
    let bad := poisonedAny s (sqAddr s t r) 64
    let takes := if bad then junk else mine e || (junk && !opKnown (field e 0 1))
    if !takes then s
    else
      let out := outCmds s t
      let id := s.cmds.foldl (fun a c => max a (c.id + 1)) s.nextCmd
      let c : Cmd := {
        id, fn := t, ring := r, tag := if bad then 0xFFFF else field e 2 2
        op := if bad then 0xFF else field e 0 1, ch := if bad then 0xFFFF else field e 4 2
        sub := if bad then 0 else field e 6 1 }
      let s := wr (ringB t r) R.SLUICE_SQ_HEAD_HEAD ((sqHead s t r + 1) % sqSize s t r) s
      let s := refreshOut t r { s with cmds := s.cmds ++ [c], nextCmd := id + 1 }
      let q := if bad then 0x84 else headerReason s t e out
      if q != 0 then complete c.id (if q = 0x85 then cQuota else cRights) q s else act c e s

/-- The opcode of an entry is `op`. -/
def isRingOp (op : Nat) (e : List Byte) : Bool := field e 0 1 == op

/-- Change the record of a command taken. -/
def modCmd (id : Nat) (f : Cmd → Cmd) (s : State) : State :=
  { s with cmds := s.cmds.map (fun c => if c.id = id then f c else c) }

/-- RING_NOP: the NOP command completes; so do entries that are poisoned or carry a reserved opcode, refused. -/
def execRingNop (t : Fin 257) (r : Fin 16) (s : State) : Host.Outcome State Fault Refusal :=
  run (takeNext t r true (isRingOp 0) (fun c _ s => complete c.id cDone 0 s)) s

/-! ### Surfaces (R157 to R162) -/

/-- A handle of function `fn` is bound to a layer, in effect or pending, or named by a clip of one (R160, R660). -/
def handleBound (s : State) (fn h : Nat) : Bool :=
  channels.any (fun n => (List.range 9).any (fun k =>
    let b := fetchB n k
    tableFn s n k == fn &&
      ((ef s b R.FETCH_SURF_EN == 1 && ef s b R.FETCH_SURF_HANDLE == h)
        || (rd s b R.FETCH_SURF_EN == 1 && rd s b R.FETCH_SURF_HANDLE == h)
        || (s.chst n).clips.any (fun c => c.layer == k && c.table.contains h))))

/-- The surface of a descriptor of 32 bytes (R159). -/
def parseSurf (d : List Byte) : Surf :=
  { base := field d 0 8, hdr := field d 8 8, w := field d 16 2 % 2 ^ 14 + 1, h := field d 18 2 % 2 ^ 14 + 1
    stride := 256 * field d 20 2, fmt := field d 22 1 % 16, ignA := bitOf (field d 22 1) 4, gran := field d 24 4 }

/-- The failing checks of R160 for handle `h` of function `t`. -/
def surfReasons (s : State) (t h : Nat) (d : List Byte) : List Nat :=
  let x := parseSurf d
  let tiled := fmtTiled x.fmt
  ifBad (!fmtValid x.fmt) 1
  ++ ifBad (x.base % 256 != 0 || x.hdr % 64 != 0 || 2 ^ 45 ≤ x.base || 2 ^ 45 ≤ x.hdr) 2
  ++ ifBad (!tiled && (x.stride < x.w * fmtBytes x.fmt || x.hdr != 0 || x.gran != 0)) 3
  ++ ifBad (tiled && (x.stride != 0 || x.gran == 0 || 2 ^ 27 < x.gran)) 4
  ++ ifBad (2 ^ 14 ≤ field d 16 2 || 2 ^ 14 ≤ field d 18 2 || 32 ≤ field d 22 1 || field d 23 1 != 0
      || field d 28 4 != 0) 5
  ++ ifBad (t != 0 && x.regions.any (fun p => !segOk s t false p.1 p.2)) 6
  ++ ifBad (x.regions.any (fun p => !spanInstalled s p.1 p.2)) 7
  ++ ifBad (handleBound s t h) 8
  ++ ifBad (0x3FF < h) 9

/-- SURF_REG (R158, R160). -/
def surfReg (c : Cmd) (e : List Byte) (s : State) : State :=
  let h := field e 8 2
  let d := (e.drop 16).take 32
  let r := lowest (surfReasons s c.fn h d)
  if r != 0 then complete c.id (if r = 9 then cQuota else cRights) r s
  else
    let key := 1024 * c.fn + h
    complete c.id cDone 0 { s with surfs := tset {} key (parseSurf d) s.surfs, flrs := s.flrs.filter (· != key) }

/-- SURF_REG (R160). -/
def execSurfReg (t : Fin 257) (r : Fin 16) (s : State) : Host.Outcome State Fault Refusal :=
  run (takeNext t r false (isRingOp 1) surfReg) s

/-- SURF_DEREG (R161). -/
def surfDereg (c : Cmd) (e : List Byte) (s : State) : State :=
  let h := field e 8 2
  if 0x3FF < h then complete c.id cQuota 9 s
  else if handleBound s c.fn h then complete c.id cRights 8 s
  else complete c.id cDone 0 { s with surfs := terase (1024 * c.fn + h) s.surfs }

/-- SURF_DEREG (R161). -/
def execSurfDereg (t : Fin 257) (r : Fin 16) (s : State) : Host.Outcome State Fault Refusal :=
  run (takeNext t r false (isRingOp 2) surfDereg) s

/-! ### Layers and commits (R650, R654) -/

/-- LAYER_UPDATE (R650). -/
def execLayerUpdate (t : Fin 257) (r : Fin 16) (s : State) : Host.Outcome State Fault Refusal :=
  run (takeNext t r false (isRingOp 3) (fun c e s =>
    takeUpdate c.ch c.fn c.sub (fields e 8 4 12) (if bitOf (field e 1 1) 0 then some (field e 56 8) else none)
      (some c.id) s)) s

/-- COMMIT (R209, R654). -/
def execCommit (t : Fin 257) (r : Fin 16) (s : State) : Host.Outcome State Fault Refusal :=
  run (takeNext t r false (isRingOp 4) (fun c e s =>
    let target := field e 8 8
    takeCommit c.ch { fn := c.fn, target, cmd := some c.id } (modCmd c.id (fun x => { x with target }) s))) s

/-- PREEMPT_CMD (R232, R654). -/
def execPreemptCmd (t : Fin 257) (r : Fin 16) (s : State) : Host.Outcome State Fault Refusal :=
  run (takeNext t r false (isRingOp 0x42) (fun c _ s => preempt c.ch (some c.id) s)) s

/-! ### FENCE_WAIT (R656) -/

def setFenceWait (t r : Nat) (v : Bool) (s : State) : State := wrB (ringB t r) R.SLUICE_RING_STATUS_FENCE_WAIT v s

/-- FENCE_WAIT is taken: it stops its ring. -/
def fenceWait (c : Cmd) (e : List Byte) (s : State) : State :=
  let a := field e 8 8
  if a % 8 != 0 || !segOk s c.fn false a 8 then complete c.id cRights 0x95 s
  else setFenceWait c.fn c.ring true (modCmd c.id (fun x => { x with args := [a, field e 16 8, field e 24 8] }) s)

/-- FENCE_WAIT (R656). -/
def execFenceWait (t : Fin 257) (r : Fin 16) (s : State) : Host.Outcome State Fault Refusal :=
  run (takeNext t r false (isRingOp 5) fenceWait) s

/-- The FENCE_WAIT that a ring waits on: its command, address, target and deadline. -/
def waitOf (s : State) (t r : Nat) : Option (Cmd × Nat × Nat × Nat) :=
  match s.cmds.find? (fun c => c.fn == t && c.ring == r && c.op == 5) with
  | some c =>
    match c.args with
    | [a, v, dl] => some (c, a, v, dl)
    | _ => none
  | none => none

def endWait (t r id code detail : Nat) (s : State) : State := complete id code detail (setFenceWait t r false s)

/-- The address is read. -/
def fencePoll (t r : Nat) (s : State) : State :=
  match waitOf s t r with
  | none => s
  | some (c, a, v, _) =>
    if !segOk s t false a 8 || poisonedAny s a 8 then endWait t r c.id cRights 0x95 s
    else if v ≤ loadN s a 8 then endWait t r c.id cDone 0 s
    else s

/-- FENCE_WAIT_POLL (R656). -/
def execFenceWaitPoll (t : Fin 257) (r : Fin 16) (s : State) : Host.Outcome State Fault Refusal := run (fencePoll t r) s

/-- The deadline passes. -/
def fenceDeadline (t r : Nat) (s : State) : State :=
  match waitOf s t r with
  | none => s
  | some (c, _, _, dl) => if dl != 0 && dl ≤ s.ht then endWait t r c.id cCapacity 0x97 s else s

/-- FENCE_WAIT_DEADLINE (R656). -/
def execFenceWaitDeadline (t : Fin 257) (r : Fin 16) (s : State) : Host.Outcome State Fault Refusal :=
  run (fenceDeadline t r) s

/-! ### PROG_LOAD (R322 to R326, R366) -/

/-- Longest image: a header, 4096 instructions and 2048 descriptors. A longer one fails reason 0x01 by its length. -/
abbrev maxImage : Nat := 32800

/-- The bytes of an image as far as the loader reads them. -/
def imageBytes (s : State) (a len : Nat) : List Byte := loadBytes s a (min len (maxImage + 1))

/-- The failing reasons of a sequence image; with poison only reason 0x02, else 0x03 (R323, R366). -/
def seqReasons (s : State) (fn n a len : Nat) : List Nat :=
  let two := ifBad (seqOwner s n != fn || !segOk s fn false a len) 2
  if len != 0 && poisonedAny s a len then two ++ [3]
  else
    let l := imageBytes s a len
    two ++ ifBad (fn != 0 && leveeActive s n) 0xA ++ ifBad (s.seq n).swap.isSome 0xB
      ++ (if headerBad false l || len != l.length then [1]
        else
          let m := parseImage false l
          contentReasons false (fn != 0) (rd s (chB n) R.CH_KIND_KIND) l m
            ++ staticReasons (headInfo s n) (fmtInfo s n) m)

/-- A sequence image passes into the inactive bank: event 0x0606 (R337). -/
def placeImage (fn n : Nat) (m : Image) (s : State) : State :=
  let b := 1 - seqBank s n
  let s := { s with prog := m.words.zipIdx.foldl (fun p w => tset 0 ((2 * n + b) * 4096 + w.2) w.1 p) s.prog }
  let s := each m.body.zipIdx (fun d s =>
    setDescrWord n b (2 * d.2 + 1) (d.1 / 2 ^ 32) (setDescrWord n b (2 * d.2) d.1 s)) s
  let c := chB n
  let s := wr c R.SEQ_BSIZE_COUNT m.count (wr c R.SEQ_BSIZE_DCOUNT m.dcount s b) b
  let s := wr c R.SEQ_BENTRY_ENTRY m.entry (wr c R.SEQ_BFALL_ENTRY_X2 m.x2 (wr c R.SEQ_BFALL_ENTRY_X1 m.x1 s b) b) b
  let s := wr c R.SEQ_BCRC_CRC m.crc s b
  let s := setVerified n b true (wr c (if b = 0 then R.SEQ_BLOADER_LOADER0 else R.SEQ_BLOADER_LOADER1) fn s)
  raise 0x0606 n (fn + 65536 * b) s

/-- A PROG_LOAD of a sequence image. -/
def progLoad (c : Cmd) (e : List Byte) (s : State) : State :=
  let n := c.ch
  let a := field e 8 8
  let len := field e 16 4
  let r := lowest (seqReasons s c.fn n a len)
  if r = 2 || r = 0xA || r = 0xB then complete c.id (if r = 0xB then cCapacity else cRights) r s
  else if r != 0 then complete c.id cRights r (setVerified n (1 - seqBank s n) false s)
  else complete c.id cDone 0 (placeImage c.fn n (parseImage false (imageBytes s a len)) s)

/-- PROG_LOAD (R323). -/
def execProgLoad (t : Fin 257) (r : Fin 16) (s : State) : Host.Outcome State Fault Refusal :=
  run (takeNext t r false (fun e => isRingOp 6 e && !bitOf (field e 1 1) 0) progLoad) s

/-! ### PROG_LOAD with LOOP (R457, R458, R480) -/

/-- Initial data words of the standard images, binary32 (R481 to R484). -/
def stdWords (i : Nat) : List Nat :=
  match i with
  | 1 => [0x3E4CCCCD, 0x43C80000, 0x3F800000, 0x42400000, 0x3E800000, 0x3A83126F, 0x3D4CCCCD, 0x3CCCCCCD, 0,
      0x3F800000, 0x3F800000, 0]
  | 2 => [0x3D4CCCCD, 0x3DCCCCCD, 0x3DCCCCCD, 0x40000000, 0x3C23D70A] ++ List.replicate 3 0
      ++ List.replicate 12 0x3F800000 ++ [0]
  | 3 => [0x39D1B717, 0x3C23D70A, 0x3D4CCCCD, 0x40000000, 0x3F800000, 0x3F000000, 0x3B03126F, 0x40A00000, 0x44160000,
      0x3D4CCCCD, 0x3DCCCCCD, 0x3E800000, 0x3BA3D70A] ++ Config.stdState 3
  | _ => [0x3C23D70A, 0x3E99999A, 0x41A00000, 0x3CA3D70A, 0x42480000, 0x3DA3D70A, 0x3E4CCCCD, 0x3B03126F]
      ++ Config.stdState 4

/-- Standard image `i`. -/
def stdImage (i : Nat) : Image :=
  let w := Config.stdCode i
  let d := stdWords i
  { count := w.length, entry := Config.stdEntry i, dcount := d.length, words := w, body := d }

/-- Runs that the other slots of slot `k`'s core occupy: first and length. -/
def codeRuns (s : State) (k : Nat) : List (Nat × Nat) :=
  ((slotsOfCore (coreOf k)).filter (fun j => j != k && s.slotState j != .idle)).map (fun j =>
    (rd s (slB j) R.LOOP_SLOT_IMG_CODE_BASE, rd s (slB j) R.LOOP_SLOT_IMG_COUNT))
def dataRuns (s : State) (k : Nat) : List (Nat × Nat) :=
  ((slotsOfCore (coreOf k)).filter (fun j => j != k && s.slotState j != .idle)).map (fun j =>
    (rd s (slB j) R.LOOP_SLOT_WIN_DBASE, winSize s j))

/-- Lowest free run of `len` in a memory of `size`: it starts at 0 or where an occupied run ends. -/
def freeRun (size len : Nat) (l : List (Nat × Nat)) : Option Nat :=
  let free := fun (a : Nat) => a + len ≤ size && l.all (fun p => a + len ≤ p.1 || p.1 + p.2 ≤ a)
  match ((0 :: l.map (fun p => p.1 + p.2)).filter free) with
  | [] => none
  | x :: t => some (leastD x (x :: t))

/-- Data window of an image: the greater of DCOUNT and the size asked for, in multiples of 8 words. -/
def windowSize (m : Image) (size : Nat) : Nat := ceilDiv (max m.dcount size) 8 * 8

/-- The failing checks of R457 for image `m` in slot `k`. -/
def slotReasons (s : State) (k size : Nat) (m : Image) : List Nat :=
  if 2048 ≤ k || (servedBy s (coreOf k)).isNone then [0x20]
  else
    ifBad (s.slotState k != .idle && s.slotState k != .stopped) 0x21
    ++ ifBad (freeRun 1024 m.count (codeRuns s k)).isNone 0x22
    ++ ifBad (freeRun 512 (windowSize m size) (dataRuns s k)).isNone 0x23

/-- The image passes into slot `k`, which becomes STOPPED. -/
def placeLoop (k size : Nat) (m : Image) (s : State) : State :=
  let b := slB k
  let code := (freeRun 1024 m.count (codeRuns s k)).getD 0
  let data := (freeRun 512 (windowSize m size) (dataRuns s k)).getD 0
  let s := wr b R.LOOP_SLOT_IMG_CODE_BASE code (wr b R.LOOP_SLOT_IMG_COUNT m.count s)
  let s := wr b R.LOOP_SLOT_WIN_DBASE data (wr b R.LOOP_SLOT_WIN_DSIZE (windowSize m size) s)
  let s := setSlot k { init := m.body, entry := m.entry, pc := m.entry, spWrites := (s.slot k).spWrites } s
  let s := { s with lprog := m.words.zipIdx.foldl (fun p w => tset 0 (1024 * coreOf k + code + w.2) w.1 p) s.lprog }
  setSlotState k .stopped (loadWindow k s)

/-- A PROG_LOAD of a loop image from memory or of a standard image. -/
def loopLoad (c : Cmd) (e : List Byte) (s : State) : State :=
  let a := field e 8 8
  let len := field e 16 4
  let k := field e 20 2
  let size := field e 22 2
  let std := field e 24 1
  let two := ifBad (c.fn != 0) 2
  let poison := std = 0 && len != 0 && poisonedAny s a len
  let l := if std = 0 then imageBytes s a len else []
  let bad := if std = 0 then headerBad true l || len != l.length else 4 < std
  let m := if std = 0 then parseImage true l else stdImage std
  let r := lowest (
    if poison then two ++ ifBad (!segOk s c.fn false a len) 2 ++ [3]
    else if bad then [1]
    else two ++ (if std = 0 then ifBad (!segOk s c.fn false a len) 2 ++ contentReasons true (c.fn != 0) 0 l m else [])
      ++ slotReasons s k size m)
  if r != 0 then complete c.id (if r = 0x22 || r = 0x23 then cCapacity else cRights) r s
  else complete c.id cDone 0 (placeLoop k size m s)

/-- PROG_LOAD_LOOP (R457, R458). -/
def execProgLoadLoop (t : Fin 257) (r : Fin 16) (s : State) : Host.Outcome State Fault Refusal :=
  run (takeNext t r false (fun e => isRingOp 6 e && bitOf (field e 1 1) 0) loopLoad) s

/-- BANK_SWAP (R655). -/
def execBankSwap (t : Fin 257) (r : Fin 16) (s : State) : Host.Outcome State Fault Refusal :=
  run (takeNext t r false (isRingOp 7) (fun c e s => requestSwap c.ch c.fn (field e 8 8) (some c.id) s)) s

/-! ### Clips (R658 to R660) -/

/-- The layer is the function's under R206. -/
def ownsLayer (s : State) (fn n k : Nat) : Bool := if fn = 0 then k ≤ 8 else k < 8 && layerHolder s n k == fn

/-- CLIP_PLAY: the table is copied and the clip waits for F0. -/
def clipPlay (c : Cmd) (e : List Byte) (s : State) : State :=
  let n := c.ch
  let a := field e 8 8
  let cnt := field e 16 2
  let fpe := field e 18 1
  let start := field e 24 8
  let tbl := fields (loadBytes s a (4 * min cnt 4096)) 0 4 (min cnt 4096)
  let bad95 := !segOk s c.fn false a (4 * cnt) || poisonedAny s a (4 * cnt)
  let r :=
    if cnt = 0 || 4096 < cnt || fpe = 0 then 0x92
    else if !ownsLayer s c.fn n c.sub then 0x93
    else if !bad95 && tbl.any (fun h => 1024 ≤ h || (surf s (tableFn s n c.sub) h).empty) then 0x94
    else if bad95 then 0x95
    else 0
  if r != 0 then complete c.id cRights r s
  else
    let clip : Clip := { layer := c.sub, fn := c.fn, table := tbl, frames := fpe, loops := field e 20 4, start, cmd := some c.id }
    let after := modCh n (fun x => { x with clips := [clip] }) s
    let q := lowest (sluiceReasons after n c.fn noFlip)
    if q != 0 then complete c.id (reasonCode q) q s
    else modCh n (fun x => { x with clips := x.clips ++ [clip] }) (modCmd c.id (fun x => { x with target := start }) s)

/-- CLIP_PLAY (R658). -/
def execClipPlay (t : Fin 257) (r : Fin 16) (s : State) : Host.Outcome State Fault Refusal :=
  run (takeNext t r false (isRingOp 8) clipPlay) s

/-- CLIP_STOP: the clip ends at the first frame boundary at or after the stop HT. -/
def clipStop (c : Cmd) (e : List Byte) (s : State) : State :=
  let n := c.ch
  let t := field e 8 8
  if !ownsLayer s c.fn n c.sub then complete c.id cRights 0x93 s
  else if !(s.chst n).clips.any (·.layer == c.sub) then complete c.id cDone 0 s
  else
    modCh n (fun x => { x with clips := x.clips.map (fun d =>
      if d.layer = c.sub then { d with stop := some t, stopCmd := some c.id } else d) })
      (modCmd c.id (fun x => { x with target := t }) s)

/-- CLIP_STOP (R659). -/
def execClipStop (t : Fin 257) (r : Fin 16) (s : State) : Host.Outcome State Fault Refusal :=
  run (takeNext t r false (isRingOp 9) clipStop) s

/-! ### STATUS_READ (R657) -/

/-- STATUS_READ: a copy of the view of grant SUB. -/
def statusRead (c : Cmd) (e : List Byte) (s : State) : State :=
  let a := field e 8 8
  if a % 4096 != 0 || !segOk s c.fn true a 4096 then complete c.id cRights 0x95 s
  else if c.fn = 0 || (grantAt s c.fn c.sub).isNone then complete c.id cRights 0x96 s
  else
    complete c.id cDone 0
      (store a ((List.range 1024).flatMap (fun i => leBytes 4 (viewWord s c.fn c.sub (4 * i)))) s)

/-- STATUS_READ (R657). -/
def execStatusRead (t : Fin 257) (r : Fin 16) (s : State) : Host.Outcome State Fault Refusal :=
  run (takeNext t r false (isRingOp 0xA) statusRead) s

end Sys2Proof.Machine
end

