-- ==== Sys2Proof/Machine/Sluice.lean ====
section
/-!
DEFINITION. Grants and admission, capacities, event rings and the resets of the host port
(spec/16_host_tenants_sluice.md R661 to R684).
-/

namespace Sys2Proof.Machine
open Sys2Proof

/-! ### Commands that end before they take effect (R664, R681, R684) -/

/-- Take commands away from what waits on channel `n`: commits, updates, clips not begun, and a pending swap's
completion. -/
def dropWaiting (n : Nat) (p : Nat → Bool) (s : State) : State :=
  let gone := fun (c : Option Nat) => match c with
    | some i => p i
    | none => false
  let s := modCh n (fun x => { x with
    commits := x.commits.filter (fun c => !gone c.cmd)
    updates := x.updates.filter (fun u => !gone u.cmd)
    clips := (x.clips.filter (fun c => !(c.f0.isNone && gone c.cmd))).map (fun c =>
      if gone c.stopCmd then { c with stop := none, stopCmd := none } else c) }) s
  modSeq n (fun q => { q with swap := q.swap.map (fun w => if gone w.cmd then { w with cmd := none } else w) }) s

/-- Complete every outstanding command on channel `n` that satisfies `p`, with one code and reason. -/
def abortCommands (n : Nat) (p : Cmd → Bool) (code detail : Nat) (s : State) : State :=
  let l := (s.cmds.filter (fun c => c.ch == n && p c)).map (·.id)
  each l (fun id => complete id code detail) (dropWaiting n l.contains s)

/-- Commands of a unit that is reset complete UNIT_RESET (R684). -/
def unitResetCmds (n : Nat) (s : State) : State := abortCommands n (fun _ => true) cUnitReset 0 s

/-! ### Layers and sequencers that change hands (R364, R365, R663, R664) -/

/-- Ownership of a channel's sequencer passes. -/
def setOwner (n t : Nat) (s : State) : State := modSeq n (fun q => { q with owner := t }) s

/-- Layers of `mask` on channel `n` are taken from tenant `t`: its pending fields of them are discarded, their clips
stop, their fences are disarmed, and from the next flip instant they take no part. -/
def takeLayers (n t mask : Nat) (s : State) : State :=
  let out := fun (k : Nat) => k < 8 && bitOf mask k
  let s := dropPending n (fun key fn => fn == t && (match layerOfKey n key with
    | some k => out k
    | none => false)) s
  let s := modCh n (fun x => { x with
    clips := x.clips.filter (fun c => !out c.layer), fences := x.fences.filter (fun e => !out e.1)
    leave := x.leave ||| mask }) s
  each (bitList 8 mask) (fun k => showLayer n k) s

/-! ### GRANT (R661, R662, R667, R670, R677) -/

/-- The grant that a GRANT entry asks for. -/
def askedGrant (e : List Byte) : Grant :=
  { tenant := field e 8 2, g := field e 10 1, channel := field e 4 2, layers := field e 11 1
    seq := bitOf (field e 12 1) 0, cls := bits (field e 12 1) 1 2, dram := field e 16 4, link := field e 20 4
    slots := field e 24 2, weight := field e 26 2, pool := field e 28 4, port := field e 32 4 }

/-- The grant it replaces: of the same tenant and index; of tenant 0, the reservation of the channel. -/
def replaced (s : State) (x : Grant) : Option Grant :=
  s.grants.find? (fun g => g.tenant == x.tenant && (if x.tenant = 0 then g.channel == x.channel else g.g == x.g))

/-- Check 0x90. -/
def grantBad (x : Grant) : Bool :=
  256 < x.tenant || 15 < x.g || x.cls == 3
    || (if x.tenant = 0 then x.layers != 0 || x.seq || x.cls != 0 || x.weight != 0 || x.g != 0
        else x.pool != 0 || x.port != 0)

/-- Check 0x91: a layer, or the sequencer, is held by another grant on the channel. -/
def grantClash (s : State) (x : Grant) : Bool :=
  s.grants.any (fun g => g.channel == x.channel && g.tenant != 0 && !(g.tenant == x.tenant && g.g == x.g)
    && ((g.layers &&& x.layers) != 0 || (g.seq && x.seq)))

/-- U of a port at EPHY_CFG.MAX_RATE and the widest width in WIDTHS (R521, R666). -/
def portMax (s : State) (n : Nat) : Nat :=
  let w := rd s (ephyB n) R.EPHY_CFG_WIDTHS
  77 * rateMbaud (min 2 (rd s (ephyB n) R.EPHY_CFG_MAX_RATE)) * (if bitOf w 2 then 4 else if bitOf w 1 then 2 else 1) / 100

/-- The state with grant `x` in place of the one it replaces. -/
def withGrant (x : Grant) (s : State) : State :=
  let old := replaced s x
  { s with grants := (match old with
      | some o => s.grants.filter (fun g => !(g.tenant == o.tenant && g.g == o.g && g.channel == o.channel))
      | none => s.grants) ++ [x] }

/-- A replacing GRANT asks for less than the demand in effect. -/
def belowDemand (s : State) (x : Grant) : Bool :=
  match replaced s x with
  | none => false
  | some o => o.channel == x.channel
      && (x.dram < o.used || (x.tenant != 0 && x.link < sumN o.usedLink)
        || (x.tenant == 0 && (x.port < portDemand s noFlip x.channel || x.pool < rd s (chB x.channel) R.PLANE_POOL_SIZE_SIZE)))

/-- The failing checks of the Sluice for a GRANT. -/
def grantReasons (s : State) (x : Grant) : List Nat :=
  let d := x.channel / 48
  let t := withGrant x s
  ifBad (isReserved x && resCap s d < resTotal t d) 0xA0
  ++ ifBad (x.tenant == 0 && portMax s x.channel < x.port) 0xA2
  ++ ifBad (x.tenant == 0 && rd s (slDieB d) R.SLUICE_DIE_POOL_CAP_UNITS < poolTotal t d) 0xA3
  ++ ifBad (setsSlots t x && rd s (slDieB d) R.SLUICE_DIE_SLOT_CAP_KITEMS < slotTotal t d) 0xA4
  ++ ifBad (belowDemand s x) 0xA5

/-- A grant has been admitted: rights and reservation at once; layers it drops leave (R662 to R664). -/
def admitGrant (x : Grant) (s : State) : State :=
  let old := replaced s x
  let n := x.channel
  let s := withGrant { x with used := (old.map (·.used)).getD 0, usedLink := (old.map (·.usedLink)).getD [] } s
  let s := modCh n (fun c => { c with released := c.released.filter (· != (x.tenant, x.g)) }) s
  let s := match old with
    | some o =>
      if o.tenant = 0 then s
      else
        let gone := if o.channel = n then o.layers - (o.layers &&& x.layers) else o.layers
        let s := if gone = 0 then s
          else abortCommands o.channel (fun c => c.fn == x.tenant) cRights 0x82 (takeLayers o.channel x.tenant gone s)
        let s := modCh o.channel (fun c => { c with released := c.released.filter (· != (x.tenant, x.g)) }) s
        let s := when_ (o.seq && !(x.seq && o.channel == n) && seqOwner s o.channel == x.tenant) (setOwner o.channel 0) s
        if isLive s o.channel then s else flipLeave o.channel s.ht s
    | none => s
  let s := when_ x.seq (setOwner n x.tenant) s
  let s := raise 0x0E04 n (x.tenant + 512 * x.g + 8192 + 16384 * x.cls) s
  each dies refreshDie (refreshDemand n s)

/-- GRANT is taken. -/
def grant (c : Cmd) (e : List Byte) (s : State) : State :=
  let x := askedGrant e
  let r := if grantBad x then 0x90 else if grantClash s x then 0x91 else lowest (grantReasons s x)
  if r != 0 then complete c.id (if 0xA0 ≤ r then reasonCode r else cRights) r s
  else complete c.id cDone 0 (admitGrant x s)

/-- GRANT (R662). -/
def execGrant (t : Fin 257) (r : Fin 16) (s : State) : Host.Outcome State Fault Refusal :=
  run (takeNext t r false (isRingOp 0x40) grant) s

/-! ### REVOKE (R664) -/

/-- REVOKE is taken: the grant's layers and its reservation leave at the channel's next flip instant, at once where no
flip comes. -/
def revoke (c : Cmd) (e : List Byte) (s : State) : State :=
  let t := field e 8 2
  let i := field e 10 1
  let g := s.grants.find? (fun g => g.tenant == t && (if t = 0 then g.channel == c.ch else g.g == i)
    && !(s.chst g.channel).released.contains (t, g.g))
  if 256 < t || 15 < i || (t = 0 && i != 0) then complete c.id cRights 0x90 s
  else
    match g with
    | none => complete c.id cRights 0x96 s
    | some g =>
      let n := g.channel
      let s := if g.layers = 0 then s else takeLayers n t g.layers s
      let s := when_ (t != 0) (abortCommands n (fun x => x.fn == t && x.id != c.id) cRights 0x82) s
      let s := when_ (g.seq && seqOwner s n == t) (setOwner n 0) s
      let s := raise 0x0E04 n (t + 512 * g.g + 16384 * g.cls) s
      let s := { s with grants := s.grants.map (fun h =>
        if h.tenant = t && h.g = g.g && h.channel = n then { h with layers := 0, seq := false } else h) }
      let s := modCh n (fun x => { x with released := x.released ++ [(t, g.g)], revokes := x.revokes ++ [c.id] }) s
      if isLive s n then s else flipLeave n s.ht s

/-- REVOKE (R664). -/
def execRevoke (t : Fin 257) (r : Fin 16) (s : State) : Host.Outcome State Fault Refusal :=
  run (takeNext t r false (isRingOp 0x41) revoke) s

/-! ### Intervals and capacities (R674 to R676) -/

/-- An interval of 1 ms ends on die `d` with `mb` MB/s of measured traffic: the rate limits restart, and idle capacity
is taken anew over the last 16 intervals. -/
def rateInterval (d mb : Nat) (s : State) : State :=
  let s := modDie d (fun x => { x with traffic := (mb :: x.traffic).take 16 }) s
  wr (slDieB d) R.SLUICE_DIE_IDLE_MBPS (satU 20 (allCap s d - sumN (s.die d).traffic / 16)) s

/-- SLUICE_RATE_INTERVAL (R675). -/
def execSluiceRateInterval (d : Fin 4) (mb : Nat) (s : State) : Host.Outcome State Fault Refusal :=
  run (rateInterval d mb) s

/-- A write of SLUICE_DIE_CAP. -/
def capWrite (d v : Nat) (s : State) : State :=
  let b := slDieB d
  let t := wr b R.SLUICE_DIE_CAP_RES_PCT (bits v 0 8) (wr b R.SLUICE_DIE_CAP_SCHED_PCT (bits v 8 8)
    (wr b R.SLUICE_DIE_CAP_LINK_PCT (bits v 16 8) s))
  if resCap t d < resCap s d || allCap t d < allCap s d || linkCap t d < linkCap s d then capacityFell d t
  else refreshDie d t

/-- SLUICE_CAP_WRITE (R676). -/
def execSluiceCapWrite (d : Fin 4) (v : Nat) (s : State) : Host.Outcome State Fault Refusal := run (capWrite d v) s

/-- The counters of a tenant control block. -/
def tenantCounters : List Fld := [R.SLUICE_TCNT_COUNT, R.SLUICE_TAPT_FAULT_CNT_COUNT]

/-- SLUICE_TCNT_CLR (R687). -/
def execSluiceTcntClr (t : Fin 257) (s : State) : Host.Outcome State Fault Refusal :=
  run (when_ (t.val != 0) (resetFlds (tenB t) tenantCounters)) s

/-! ### Event rings (R679, R680, R682, R686) -/

/-- EN of an event ring is written 1. -/
def evEnable (t : Nat) (s : State) : State :=
  let b := evRingB t
  let len := 16 * evSize s t
  if !fnUp s t || rdB s b R.SLUICE_EV_CFG_EN then s
  else if !(segOk s t true (evBase s t) len && spanInstalled s (evBase s t) len) then s
  else
    let s := setEvRing t {} (wrB b R.SLUICE_EV_CFG_EN true s)
    if t != 0 then s
    else
      -- the hold log, and what waited for the ring, come first, with their own stamps
      let l := s.hub.replay ++ s.hub.afterEnable
      each l (fun e => deliverTo e 0) { s with hub := { s.hub with replay := [], afterEnable := [] } }

/-- EVENT_RING_ENABLE (R686). -/
def execEventRingEnable (t : Fin 257) (s : State) : Host.Outcome State Fault Refusal := run (evEnable t) s

/-- SLUICE_EV_RD is written; an overflow record follows drops. -/
def evRead (t v : Nat) (s : State) : State :=
  if !fnUp s t then s else evOverflow t (setEvRing t { evRing s t with rd := v % 65536 } s)

/-- EVENT_RING_READ (R679). -/
def execEventRingRead (t : Fin 257) (v : Nat) (s : State) : Host.Outcome State Fault Refusal := run (evRead t v) s

/-! ### Function resets (R681, R682) -/

/-- The rings, the event ring and the aperture of a function return to reset. -/
def resetFn (t : Nat) (s : State) : State :=
  let s := each (List.range (if t = 0 then 16 else 4)) (fun r s => resetFlds (ringB t r) R.ringBlk (modRing t r (fun _ => {}) s)) s
  let s := resetFlds (aptB t) R.aptBlk (setEvRing t {} (resetFlds (evRingB t) R.evRingBlk s))
  let s := setEf (aptB t) R.SLUICE_APT_LO_APT 0 (setEf (aptB t) R.SLUICE_APT_HI_APT 0 s)
  requesterReset (· == t) { s with latch := s.latch.filter (fun e => e.1 != t) }

/-- Every command of a function not completed is discarded with no completion, and its pending fields with them. -/
def discardFn (t : Nat) (s : State) : State :=
  let l := (s.cmds.filter (·.fn == t)).map (·.id)
  let s := { s with cmds := s.cmds.filter (·.fn != t) }
  each channels (fun n s =>
    let x := s.chst n
    let s := if x.pend = [] then s else dropPending n (fun _ fn => fn == t) s
    let s := if x.fences.any (fun e => e.2 == t + 1) then
        each (List.range 9) (showLayer n)
          (modCh n (fun x => { x with fences := x.fences.filter (fun e => e.2 != t + 1) }) s)
      else s
    if l = [] then s else dropWaiting n l.contains s) s

/-- The surfaces of a function that frames in composition use. -/
def surfsUsed (s : State) (t : Nat) : List Nat :=
  channels.flatMap (fun n => (s.frmsOf n).flatMap (fun f =>
    if f.flipped && !f.comp.ended then
      (f.comp.own.filter (·.2 == t)).map (fun e => 1024 * t + gv f.comp (fetchB n e.1) R.FETCH_SURF_HANDLE)
    else []))

/-- Surfaces of a reset function are emptied once no frame in composition uses them. -/
def flrSweep (s : State) : State :=
  if s.flrs = [] then s
  else
    let free := s.flrs.filter (fun k => !(surfsUsed s (k / 1024)).contains k)
    { s with surfs := s.surfs.filter (fun e => !free.contains e.1), flrs := s.flrs.filter (fun k => !free.contains k) }

/-- An FLR of VF `t` (R681). -/
def flrVf (t : Nat) (s : State) : State :=
  let s := discardFn t s
  let gs := s.grants.filter (·.tenant == t)
  let s := each gs (fun g s =>
    let n := g.channel
    let s := if g.layers = 0 then s else takeLayers n t g.layers s
    let s := when_ (seqOwner s n == t) (setOwner n 0) s
    if isLive s n then s else flipLeave n s.ht s) s
  let s := flrSweep { s with flrs := s.flrs ++ ((s.surfs.filter (fun e => e.1 / 1024 == t)).map (·.1)) }
  trigger 5 t 0 (raise 0x0E06 noCh t (resetFn t s))

/-- FLR_VF (R681): VF `t`, 1 to 256. -/
def execFlrVf (t : Fin 257) (s : State) : Host.Outcome State Fault Refusal :=
  run (when_ (t.val != 0 && s.hub.vf) (flrVf t)) s

/-- A PCIe link-down (1), hot reset (2) or FLR of PF0 (3): every VF as in R681, and PF0's own host side; event 0x0E09
waits for PF0's event ring (R682). -/
def linkReset (kind : Nat) (s : State) : State :=
  let s := each ((List.range 256).map (· + 1)) flrVf s
  let s := if kind = 3 then s else { s with ide := [] }
  let s := trigger 5 0 0 (resetFn 0 (discardFn 0 { s with hub := { s.hub with vf := false } }))
  { s with hub := { s.hub with afterEnable := s.hub.afterEnable ++ [{ stamp := s.ht, code := 0x0E09, channel := noCh, arg := kind }] } }

/-- PF0_LINK_RESET (R682). -/
def execPf0LinkReset (kind : Fin 3) (s : State) : Host.Outcome State Fault Refusal := run (linkReset (kind.val + 1)) s

end Sys2Proof.Machine
end

