-- ==== Sys2Proof/Machine/Resets.lean ====
section
/-!
DEFINITION. Channel resets and the CLEAR of a fault (spec/02_modes_power_hold.md R70, R72, R73, R76; R631), Reach die resets
and isolation (R76, R77, R115; spec/17_inside_the_package.md R691 to R696; spec/20_register_map.md R803, R804, R844), and
loop core resets (R493).
-/

namespace Sys2Proof.Machine
open Sys2Proof

/-- The write-one-to-clear flags of a block return to reset (R844). -/
def resetFlags (b : Nat) (l : List Fld) (s : State) : State := resetFlds b (l.filter (·.acc == .w1c)) s

/-! ### Channel reset (R76, R330, R477, R710) -/

/-- The channel's sequencer, Weir, pipeline state and loops are reset. `wd`: the items staged in the head are cancelled,
which a head whose port is reset with its die does by itself. -/
def chReset (wd : Bool) (n : Nat) (s : State) : State :=
  let count := (s.cmds.filter (·.ch == n)).length
  let s := requesterReset (· == seqIdentity (n / 48) (pipeOf s n)) (unitResetCmds n s)
  let s := if wd && chLive s n then withdraw n 4 s.ht false none (closeLast n s) else s
  let s := modSeq n (fun q => { q with swap := none, marks := [] }) (wrB (chB n) R.SEQ_STATUS_SWAP_PENDING false s)
  let s := modCh n (fun x => { x with preempt := none, fences := [], updates := [] }) s
  let s := each (List.range 9) (showLayer n) s
  let s := if s.chState n = .off then idleChannel n true s else toOff n true s
  let s := wr (chB n) R.CH_STATUS_FAULT 0 (wr (chB n) R.SEQ_STATUS_FAULT 0 s)
  let s := wrB (chB n) R.SEQ_STATUS_HALTED false (wrB (chB n) R.SEQ_WIDTH_SWITCH_PENDING false s)
  let s := setSeq n { owner := (s.seq n).owner } s
  let s := setWeir n { wds := (s.weir n).wds, nextTok := (s.weir n).nextTok } s
  let s := setFrms n [] (setFmts n [] s)
  let s := modCh n (fun x => { x with mem := [], missSaid := false, clampAt := 0 }) s
  let s := each (slotsOf s n) slotChReset s
  trigger 2 n count (motionChReset n s)

/-- CH_RESET (R76): no effect while the channel's Reach die is held in reset (R715). -/
def chResetCmd (n : Nat) (s : State) : State :=
  if rdB s (dieB (n / 48)) R.HUB_DIE_STATUS_IN_RESET then s else chReset true n s

/-- CH_RESET (R76). -/
def execChReset (n : Fin 192) (s : State) : Host.Outcome State Fault Refusal := run (chResetCmd n) s

/-! ### CLEAR (R73) -/

/-- A slot of the channel with ROLE LAMP is in safe hold. -/
def lampHeld (s : State) (n : Nat) : Bool :=
  (slotsOf s n).any (fun k => rd s (slB k) R.LOOP_SLOT_CFG_ROLE == 1
    && (s.slotState k == .holding || s.slotState k == .ramping || s.slotState k == .safe))

/-- The channel is bound to the lowest-numbered free pipeline, and the one that failed is retired; its load begins, or
waits for the substitution that runs. -/
def clearPipe (n : Nat) (s : State) : State :=
  let d := n / 48
  match nextSpare s d none with
  | none => cmdIgnored n s
  | some p =>
    let old := pipeOf s n
    let s := refreshPipe d (spareChanged (retirePipe d old (bindPipe n p s)))
    if (s.ox d).port.isSome then setOx d { s.ox d with waits := (s.ox d).waits ++ [(n % 48, 4)] } s
    else oxLoadClear d (n % 48) (setOx d { s.ox d with old } s)

/-- A load of an earlier CLEAR has not ended. -/
def clearing (s : State) (n : Nat) : Bool :=
  let x := s.ox (n / 48)
  (x.clear && x.port == some (n % 48)) || x.waits.contains (n % 48, 4)

/-- CH_CTRL.CLEAR. -/
def chClear (n : Nat) (s : State) : State :=
  if s.chState n != .faulted then cmdIgnored n s
  else
    match rd s (chB n) R.CH_STATUS_FAULT with
    | 1 => toOff n false s
    | 2 => toOff n false s
    | 3 => toOff n false s
    | 4 => if portUp s n then toOff n false s else cmdIgnored n s
    | 5 => if lampHeld s n then cmdIgnored n s else toOff n false s
    | 7 => if clearing s n then cmdIgnored n s else clearPipe n s
    | _ => cmdIgnored n s

/-- CH_CLEAR (R73). -/
def execChClear (n : Fin 192) (s : State) : Host.Outcome State Fault Refusal := run (chClear n) s

/-! ### A Reach die is held in reset (R76, R77, R330, R455, R535, R615, R710, R844) -/

/-- DIE_OFFLINE is 1 while a die is held, isolated, or not yet accepting ARM (R49, R77). -/
def refreshOffline (s : State) : State :=
  setDegrade R.HUB_DEGRADE_DIE_OFFLINE (dies.any (fun d =>
    rdB s (dieB d) R.HUB_DIE_STATUS_IN_RESET || rdB s (dieB d) R.HUB_DIE_STATUS_ISOLATED || (s.die d).leftAt != 0)) s

/-- The two banks of a channel are unverified and bank 0 is active (R330). -/
def banksReset (n : Nat) (s : State) : State :=
  setVerified n 0 false (setVerified n 1 false (wr (chB n) R.SEQ_STATUS_BANK 0 s))

/-- A port is reset: DETECT, or DISABLED while EN is 0 (R535); what the head said last and the last width stay known. -/
def portReset (n : Nat) (s : State) : State :=
  let b := ephyB n
  let s := enterDetect n s
  let s := modPort n (fun p => { prevId := p.prevId, lastW := p.lastW, stAt := p.stAt }) s
  let s := resetFlds (chB n) ([R.EPROT_STATUS_IDENTIFIED, R.EPROT_STATUS_REJECT, R.EPROT_STATUS_SCHED]) s
  let s := wrB b R.EPHY_STATUS_RX_IDLE true (resetFlags b R.ephyBlk s)
  if rdB s b R.EPHY_CTRL_EN then s else wr b R.EPHY_STATUS_STATE PState.disabled.code s

/-- The channel of a die that is reset, with its port. -/
def dieChannel (n : Nat) (s : State) : State :=
  let s := motionUnknown n (banksReset n (portReset n (chReset false n s)))
  resetFlags (chB n) R.chBlk s

/-- A loop slot comes to IDLE (R455). -/
def slotReset (k : Nat) (s : State) : State :=
  let b := slB k
  let s := resetFlds b (R.slotBlk.filter (fun f => f.acc == .w1c || f.off == R.LOOP_SLOT_STATUS_SKIP_RUN.off)) s
  freeSlot k s

/-- The loop cores of a die, their slots and eddy buffers. -/
def dieLoops (d : Nat) (s : State) : State :=
  let s := each ((List.range 512).map (512 * d + ·)) (fun k s => if s.slotState k = .idle then s else slotReset k s) s
  let s := each ((List.range 64).map (64 * d + ·)) (fun c s =>
    trigger 3 c 0 (refreshCore c (modCore c (fun x => { migTo := none, load := x.load }) s))) s
  each ((List.range 17).map (eddyKey d)) (fun e s =>
    wr (edB e) R.LOOP_EDDY_STATUS_STATE 0 (resetFlags (edB e) R.eddyBlk (eddyEmpty e s))) s

/-- The substitution of a die ends, and what waited for it. -/
def dieOxbow (d : Nat) (s : State) : State :=
  let s := modOx d (fun _ => {}) s
  each (channelsOf d) (fun n => setPipeCh n {}) s

/-- Reach die `d` is held in reset; `iso`: by an isolation (R81, R115, R696). -/
def holdDie (d : Nat) (iso : Bool) (s : State) : State :=
  let b := dieB d
  let s := wrB b R.HUB_DIE_STATUS_IN_RESET true (wrB b R.HUB_DIE_STATUS_ISOLATED iso s)
  let s := wrB b R.HUB_DIE_STATUS_READY false (wrB b R.HUB_DIE_STATUS_CLK_LOCK false s)
  let s := modDie d (fun x => { x with leftAt := 0, traffic := [], avsDown := 0, avsShort := 0, avsLong := 0 }) s
  let s := requesterReset (agentDie · == some d) (trigger 1 d 0 (handoverSelfRefresh d s))
  let s := dieLoops d (each (channelsOf d) dieChannel (dieOxbow d s))
  let s := triggerDdr d (resetFlags (ddrDieB d) R.ddrDieBlk s)
  refreshOffline (each (channelsOf d) refreshSafeDark s)

/-- HUB_DIE_CTRL.RESET is written 1 (R804). -/
def dieReset (d : Nat) (s : State) : State :=
  if rdB s (dieB d) R.HUB_DIE_CTRL_RESET then s else holdDie d false (wrB (dieB d) R.HUB_DIE_CTRL_RESET true s)

/-- DIE_RESET (R804). -/
def execDieReset (d : Fin 4) (s : State) : Host.Outcome State Fault Refusal := run (dieReset d) s

/-! ### A Reach die leaves reset (R77, R708, R804) -/

/-- HUB_DIE_CTRL.RESET is written 0. -/
def dieRelease (d : Nat) (s : State) : State := wrB (dieB d) R.HUB_DIE_CTRL_RESET false s

/-- DIE_RELEASE (R804). -/
def execDieRelease (d : Fin 4) (s : State) : Host.Outcome State Fault Refusal := run (dieRelease d) s

/-- The conditions of R804 hold: the die leaves reset and its memory retrains. -/
def dieLeave (d : Nat) (s : State) : State :=
  let b := dieB d
  if rdB s b R.HUB_DIE_CTRL_RESET || rdB s b R.HUB_DIE_STATUS_ISOLATED || !rdB s b R.HUB_DIE_STATUS_IN_RESET
      || !([0, 1].any (fun k => modState s d k == 2)) then s
  else
    let s := wrB b R.HUB_DIE_STATUS_IN_RESET false (wrB b R.HUB_DIE_STATUS_CLK_LOCK true s)
    let s := modDie d (fun x => { x with leftAt := s.tick + 1 }) s
    let s := each (List.range 8) (fun m s => if ddrState s d m = 3 then setDdrState d m 1 s else s) s
    refreshOffline (each (channelsOf d) refreshSafeDark (startResync (1 + d) s))

/-- DIE_LEAVE_RESET (R804). -/
def execDieLeaveReset (d : Fin 4) (s : State) : Host.Outcome State Fault Refusal := run (dieLeave d) s

/-- The die's memory has retrained and it accepts ARM. -/
def dieAccepts (d : Nat) (s : State) : State :=
  let s := each (List.range 8) (fun m s => if ddrState s d m = 1 then setDdrState d m 2 s else s) s
  refreshDie d (refreshOffline (wrB (dieB d) R.HUB_DIE_STATUS_READY true (modDie d (fun x => { x with leftAt := 0 }) s)))

/-- DIE_READY (R77). -/
def execDieReady (d : Fin 4) (s : State) : Host.Outcome State Fault Refusal :=
  run (fun s => if (s.die d).leftAt = 0 then s else dieAccepts d s) s

/-- The die is not ready 800 ms after it left reset: it is isolated. -/
def dieLate (d : Nat) (s : State) : State :=
  let x := (s.die d).leftAt
  if x = 0 || s.tick + 1 < x + 800 * ms then s else holdDie d true s

/-- DIE_READY_TIMEOUT (R77). -/
def execDieReadyTimeout (d : Fin 4) (s : State) : Host.Outcome State Fault Refusal := run (dieLate d) s

/-- The launch-clock loop of a die loses lock. -/
def clockUnlock (d : Nat) (s : State) : State :=
  if !rdB s (dieB d) R.HUB_DIE_STATUS_CLK_LOCK then s else holdDie d true (raise 0x020C noCh d s)

/-- LAUNCH_CLOCK_UNLOCK (R115). -/
def execLaunchClockUnlock (d : Fin 4) (s : State) : Host.Outcome State Fault Refusal := run (clockUnlock d) s

/-! ### The end of a module's retrain (R692, R694 to R697) -/

/-- One lane of a module has been repaired, in direction 0 die to Confluence or 1 back. -/
def laneRepaired (d k dir : Nat) (s : State) : State :=
  let left := rd s (d2dB d) (spareFld k dir) - 1
  let s := wr (d2dB d) (spareFld k dir) left (bump (d2dB d) R.HUB_D2D_REPAIR_CNT_COUNT s)
  let s := modD2d d k (fun x => if dir = 0 then { x with tx := x.tx + 1 } else { x with rx := x.rx + 1 }) s
  spareChanged (raise 0x0F05 noCh (d + 4 * k + 8 * dir + 16 * left) s)

/-- A module becomes DOWN: the die runs on the other, or is held when there is none. -/
def moduleDown (d k : Nat) (s : State) : State :=
  let s := modD2d d k (fun x => { x with downAt := s.tick + 1 }) (setMod d k 0 s)
  let both : Bool := modState s d (1 - k) == 0
  let s := raise 0x0F06 noCh (d + 4 * k + 8 * b2n both) (bump (d2dB d) R.HUB_D2D_DOWN_CNT_COUNT s)
  let s := capacityFell d (trigger 6 (2 * d + k) 0 s)
  if both && !rdB s (dieB d) R.HUB_DIE_STATUS_IN_RESET then holdDie d true s else s

/-- A retrain of a module ends: `tx` and `rx` lanes were repaired in each direction. -/
def moduleTrained (d k : Nat) (ok : Bool) (tx rx : Nat) (s : State) : State :=
  let ok : Bool := ok && tx ≤ rd s (d2dB d) (spareFld k 0) && rx ≤ rd s (d2dB d) (spareFld k 1)
  let repair := fun (s : State) =>
    each (List.range rx) (fun _ => laneRepaired d k 1) (each (List.range tx) (fun _ => laneRepaired d k 0) s)
  match modState s d k with
  | 3 => refreshUcie (if ok then setMod d k 2 (repair s) else moduleDown d k s)
  | 1 =>
    refreshUcie (if ok then
        refreshDie d (raise 0x0F07 noCh (d + 4 * k) (modD2d d k (fun x => { x with downAt := 0 }) (setMod d k 2 (repair s))))
      else modD2d d k (fun x => { x with downAt := s.tick + 1 }) (setMod d k 0 s))
  | _ => s

/-- D2D_RETRAIN_DONE (R694). -/
def execD2dRetrainDone (d : Fin 4) (k : Fin 2) (ok : Bool) (tx rx : Fin 5) (s : State) : Host.Outcome State Fault Refusal :=
  run (moduleTrained d k ok tx rx) s

/-- A module that is DOWN is retried every second. -/
def moduleRetry (d k : Nat) (s : State) : State :=
  let x := (s.d2d d k).downAt
  if modState s d k != 0 || x = 0 || s.tick + 1 < x + second then s else setMod d k 1 s

/-- D2D_MODULE_RETRY (R695). -/
def execD2dModuleRetry (d : Fin 4) (k : Fin 2) (s : State) : Host.Outcome State Fault Refusal := run (moduleRetry d k) s

/-! ### Loop core reset (R493) -/

/-- LOOP_CORE_RESET: LOOP_CORE_CTRL.RESET of logical core `c` of die `d`. -/
def loopCoreReset (d c : Nat) (s : State) : State := trigger 3 (64 * d + c) 0 (coreReset (64 * d + c) s)

/-- LOOP_CORE_RESET (R493). -/
def execLoopCoreReset (d : Fin 4) (c : Fin 64) (s : State) : Host.Outcome State Fault Refusal := run (loopCoreReset d c) s

end Sys2Proof.Machine
end

