-- ==== Sys2Proof/Machine/Calib.lean ====
section
/-!
DEFINITION. Calibration jobs (spec/18_heat_calibration_wear.md R745 to R752, R765): HK_CAL_CTRL.GO, the runs of a target
and their outcome, the deadline, and the vernier results.
-/

namespace Sys2Proof.Machine
open Sys2Proof

/-! ### GO (R745, R746) -/

/-- The targets of a kind that ALL names. -/
def calAll (k : Nat) : List Nat := if k = 4 then [0] else if k = 6 then dies else channels

/-- The condition of R746; a TARGET that names none of the kind's targets does not meet it. -/
def calReady (s : State) (k t : Nat) : Bool :=
  (calAll k).contains t &&
    (if k = 5 then portUp s t
    else if k = 4 || k = 6 then s.mode != .hold && s.mode != .tripped
    else s.chState t == .running && (s.mode == .service || s.mode == .show_ || s.mode == .degraded))

/-- A word with GO = 1 is written to HK_CAL_CTRL. -/
def calGo (v : Nat) (s : State) : State :=
  let k := bits v 1 3
  if rdB s hkB R.HK_CAL_STATUS_BUSY || k = 0 || k = 7 then wrB hkB R.HK_CAL_STATUS_WRITE_REJECTED true s
  else
    let s := wr hkB R.HK_CAL_CTRL_KIND k (wr hkB R.HK_CAL_CTRL_ALL (bits v 4 1)
      (wr hkB R.HK_CAL_CTRL_TARGET (bits v 5 8) (wr hkB R.HK_CAL_CTRL_DEADLINE (bits v 16 16) s)))
    let ts := if bitOf v 4 then calAll k else if k = 4 then [0] else [bits v 5 8]
    let s := resetFlds hkB [R.HK_CAL_RESULT_ACCEPTED, R.HK_CAL_RESULT_DISAGREE, R.HK_CAL_RESULT_STARVED,
      R.HK_CAL_RESULT_REFUSED] s
    let s := wr hkB R.HK_CAL_STATUS_KIND k (wr hkB R.HK_CAL_STATUS_TARGETS (satU 8 ts.length)
      (wrB hkB R.HK_CAL_STATUS_BUSY true s))
    let s := { s with cal := { s.cal with
      targets := ts.map (fun t => ({ target := t, since := s.ht } : CalTarget)), deadline := s.tick + max 1 (bits v 16 16) * ms } }
    each (ts.filter (fun t => !calReady s k t)) (fun t => calOutcome t .refused) s

/-- CAL_GO (R745). -/
def execCalGo (v : Fin 4294967296) (s : State) : Host.Outcome State Fault Refusal := run (calGo v) s

/-! ### Places for the steps of a run (R747, R748)

Which steps the device runs in which place, and how long each lights, the rules leave to it; the model keeps which steps
of a run have had a place that R747 and R748 allow (DESIGN CHOICE, log 108). -/

/-- The points of a string that a run measures: current codes of ISENSE, amplitudes of CURVE (R745). -/
def calPoints (k : Nat) : List Nat :=
  if k = 2 then [0x4000, 0xC000] else if k = 3 then (List.range 33).map (fun j => min 0xFFFF (2048 * j)) else []

/-- A place that a step lighting string `i` at amplitude `a` fits into: in a gap after the settle interval from dark and
before the one back, in a DARK plane of the string at its own amplitude; the sample comes 20 µs after the first lit
instant (R747, R748). -/
def stepFits (s : State) (n since : Nat) (g : Gap) (i a : Nat) : Bool :=
  match g.plane with
  | some p => p == (i, a) && max g.t since + 20 * us ≤ g.e
  | none =>
    let ts := settle (headTs s n) (headTfs s n) 0 a
    max (g.t + ts) since + 20 * us + ts ≤ g.e

/-- A place that a dark step fits into: a gap, or a DARK plane at amplitude 0 (R745, R748). -/
def darkStepFits (since : Nat) (g : Gap) : Bool :=
  (match g.plane with
    | some p => p.2 == 0
    | none => true) && max g.t since + 20 * us ≤ g.e

/-- The steps of a run that a place admits: none of a cut string, none above the string's limit (R417, R507, R747,
R748). -/
def stepsIn (s : State) (k n since : Nat) (g : Gap) : List Nat :=
  if k = 1 then if darkStepFits since g then [0] else []
  else (strings s n).flatMap (fun i =>
    if isCut s n i then []
    else ((calPoints k).zipIdx.filter (fun p =>
      stepFits s n since g i p.1 && (k != 3 || p.1 ≤ rd s (strB n i) R.LAMP_SLIMIT_L))).map (fun p => 64 * i + p.2))

/-- Every string of the channel is off. -/
def stringsOff (s : State) (n : Nat) : Bool := (s.weir n).strCur.all (·.2 == 0)

/-- The places of channel `n` that have ended count for the target's run. -/
def calPlace (k : Nat) (x : CalTarget) (s : State) : State :=
  let n := x.target
  let gs := (s.seq n).gaps.filter (fun g => g.offered && g.e ≤ s.ht)
  let offAt := if !stringsOff s n then 0 else if x.offAt = 0 then s.ht + 1 else x.offAt
  let quiet := if k = 1 && offAt != 0 && max (offAt - 1) x.since + 20 * us ≤ s.ht then [0] else []
  let seen := (x.seen ++ gs.flatMap (stepsIn s k n x.since) ++ quiet).dedup
  let y := { x with seen, offAt }
  if y = x then s
  else { s with cal := { s.cal with targets := s.cal.targets.map (fun z => if z.target = n then y else z) } }

/-- Gaps and DARK planes that have ended are the places of the job's steps. -/
def calPlaces (s : State) : State :=
  let k := calKind s
  if k = 1 || k = 2 || k = 3 then each s.cal.targets (calPlace k) s else s

/-- Every step of a run has had its place: each value but those of CURVE points above the limit, which are not measured
(R748). -/
def calStepsDone (s : State) (k : Nat) (x : CalTarget) (vals : List (Option Nat)) : Bool :=
  if k = 1 then x.seen.contains 0
  else if k = 2 then (strings s x.target).all (fun i => x.seen.contains (64 * i) && x.seen.contains (64 * i + 1))
  else if k = 3 then
    (strings s x.target).all (fun i => (List.range 33).all (fun j =>
      if (vals.getD (33 * i + j) none).isSome then x.seen.contains (64 * i + j)
      else !x.seen.contains (64 * i + j) && rd s (strB x.target i) R.LAMP_SLIMIT_L < min 0xFFFF (2048 * j)))
  else true

/-! ### Runs and outcomes (R747 to R750) -/

/-- How many values a run of a target measures. -/
def calSize (s : State) (k t : Nat) : Nat :=
  if k = 3 then 33 * (strings s t).length else if k = 5 then 1 else calWords s k t

/-- Two values agree (R745): value `w` of a target, `a` of run 1 and `b` of run 2. -/
def calAgree (k w a b : Nat) : Bool :=
  let d := ((a : Int) - b).natAbs
  match k with
  | 1 => d ≤ 131
  | 2 => d * 1000 ≤ 5 * a
  | 3 => d ≤ 655
  | 4 => if w % 2 = 0 then d * 10000 ≤ 5 * a else d ≤ 8
  | 5 => d ≤ 25
  | _ => d ≤ 10

/-- The mean, rounded to nearest. -/
def mean2 (a b : Nat) : Nat := (a + b + 1) / 2

/-- A string's new curve from the points measured, all below the limit: continued above the highest with the slope of
the two highest (R748); a string with fewer than two measured points keeps its curve. -/
def newCurve (pts : List (Option Nat)) : Option (List Nat) :=
  let m := ((List.range 33).filter (fun j => (pts.getD j none).isSome)).foldl max 0
  match pts.getD m none, if m = 0 then none else pts.getD (m - 1) none with
  | some a, some b =>
    some ((List.range 33).map (fun j =>
      if j ≤ m then (pts.getD j none).getD 0
      else (max 0 (min 0xFFFF ((a : Int) + ((j : Int) - m) * ((a : Int) - b)))).toNat))
  | _, _ => none

/-- An accepted result: the values in use and the calibration record take it (R745, R749, R752). -/
def calApply (t : Nat) (vals : List (Option Nat)) (s : State) : State :=
  let k := calKind s
  let v := vals.map (·.getD 0)
  let put := fun (c : Tbl Nat) => (v.zipIdx).foldl (fun c p => tset (calDef k p.2) (calKey k t p.2) p.1 c) c
  let s := recDirty 3 s
  match k with
  | 3 =>
    let l := (strings s t).flatMap (fun i =>
      match newCurve ((vals.drop (33 * i)).take 33) with
      | some c => (c.zipIdx).map (fun p => (curveKey t i (strRange s t i) p.2, p.1))
      | none => [])
    let s := { s with curveDue := tset [] t (tget [] t s.curveDue ++ l) s.curveDue }
    { s with calRec := { s.calRec with curves := l.foldl (fun c e => tset (curveDef (e.1 % 33)) e.1 e.2 c) s.calRec.curves } }
  | 4 =>
    { s with cal := { s.cal with adc := some v }, calRec := { s.calRec with cals := put s.calRec.cals } }
  | 5 =>
    let x := satU 8 ((v.headD 0 + 12) / 25)
    wr (chB t) R.WEIR_TRIM_TRIM x { s with calRec := { s.calRec with trims := tset 0 t x s.calRec.trims } }
  | 6 =>
    modDie t (fun x => { x with vernier := some v }) { s with calRec := { s.calRec with cals := put s.calRec.cals } }
  | _ => { s with cals := put s.cals, calRec := { s.calRec with cals := put s.calRec.cals } }

/-- A run of a target is complete with its values, none for a point that was not measured; a target whose deadline has
passed is starved. -/
def calRun (t : Nat) (vals : List (Option Nat)) (s : State) : State :=
  let k := calKind s
  match s.cal.targets.find? (·.target == t) with
  | none => s
  | some x =>
    if vals.length != calSize s k t || (k != 3 && vals.any (·.isNone)) || !calStepsDone s k x vals then s
    else if s.cal.deadline ≤ s.tick then calOutcome t .starved s
    else
      match x.run1 with
      | none =>
        let l := s.cal.targets.map (fun y => if y.target = t then { y with run1 := some vals, since := s.ht, seen := [] } else y)
        { s with cal := { s.cal with targets := l } }
      | some r =>
        let both := (r.zip vals).map (fun p => match p with
          | (some a, some b) => some (a, b)
          | _ => none)
        let good := (both.zipIdx).all (fun p => match p.1 with
          | some (a, b) => calAgree k p.2 a b
          | none => true)
        if good then calOutcome t .accepted (calApply t (both.map (·.map (fun p => mean2 p.1 p.2))) s)
        else calOutcome t .disagree s

/-- CAL_RUN_DONE (R749). -/
def execCalRunDone (t : Fin 192) (vals : List (Option (Fin 65536))) (s : State) : Host.Outcome State Fault Refusal :=
  run (calRun t (vals.map (·.map (·.val)))) s

/-- CAL_DEADLINE: at the job's deadline every target without an outcome is starved. -/
def calDeadline (s : State) : State :=
  if rdB s hkB R.HK_CAL_STATUS_BUSY && s.cal.deadline ≤ s.tick then calStarve (fun _ => true) s else s

/-- CAL_DEADLINE (R749). -/
def execCalDeadline (s : State) : Host.Outcome State Fault Refusal := run calDeadline s

/-! ### Vernier results (R752) -/

/-- No step changes by more than 50 ps. -/
def vernierSmall (s : State) (d : Nat) (v : List Nat) : Bool :=
  (v.zipIdx).all (fun p => ((p.1 : Int) - calAt s 6 d p.2).natAbs ≤ 50)

/-- No channel of the die is ARMED, RUNNING or DRAINING. -/
def dieIdle (s : State) (d : Nat) : Bool :=
  (channelsOf d).all (fun n => s.chState n == .off || s.chState n == .faulted)

/-- VERNIER_APPLY: a small change at a multiple of 4 000 000, which HT may pass within a tick of the servo; a larger one
while the die is idle. -/
def vernierApply (d : Nat) (s : State) : State :=
  match (s.die d).vernier with
  | none => s
  | some v =>
    if (if vernierSmall s d v then s.ht % ms < 2 else dieIdle s d) then
      let s := { s with cals := (v.zipIdx).foldl (fun c p => tset (calDef 6 p.2) (calKey 6 d p.2) p.1 c) s.cals }
      modDie d (fun x => { x with vernier := none }) s
    else s

/-- VERNIER_APPLY (R752). -/
def execVernierApply (d : Fin 4) (s : State) : Host.Outcome State Fault Refusal := run (vernierApply d) s

/-! ### Reading (R765, R845) -/

/-- Agent `fn` reads HK_CAL_DATA: a read whose index names a value advances it. -/
def calDataRead (fn : Nat) (s : State) : State :=
  let t := emitOut (.readData fn (leBytes 4 (calData s))) s
  if rd s hkB R.HK_CAL_IDX_WORD < calWords s (rd s hkB R.HK_CAL_IDX_KIND) (rd s hkB R.HK_CAL_IDX_TARGET) then
    wr hkB R.HK_CAL_IDX_WORD (rd s hkB R.HK_CAL_IDX_WORD + 1) t
  else t

/-- HK_CAL_DATA_READ (R845). -/
def execHkCalDataRead (s : State) : Host.Outcome State Fault Refusal := run (calDataRead 0) s

/-- The counters of R765. -/
def hkCounters : List Fld := [R.HK_THERM_FAULT_CNT_COUNT]

/-- HK_CNT_CLR (R765). -/
def execHkCntClr (s : State) : Host.Outcome State Fault Refusal := run (resetFlds hkB hkCounters) s

end Sys2Proof.Machine
end

