-- ==== Sys2Proof/Machine/Store.lean ====
section
/-!
DEFINITION. The configuration store and firmware activation (spec/19_management_trust.md R776 to R785, R796): record
copies, the choice between them, record writes and rewrites, and the hub firmware engine.
-/

namespace Sys2Proof.Machine
open Sys2Proof

/-! ### Record copies (R776, R777) -/

/-- The longest payload of a record type, 0 for a type that does not exist (R776). -/
def recMax : Nat → Nat
  | 1 => 2 ^ 22 | 2 => 2 ^ 16 | 3 => 2 ^ 20 | 4 => 2 ^ 16 | _ => 0

def byteNats (l : List Byte) : List Nat := l.map (·.toNat)
def natBytes (l : List Nat) : List Byte := l.map (BitVec.ofNat 8)

/-- Header bytes 0 to 63 of a copy. -/
def recHead (k gen : Nat) (p : List Byte) : List Byte :=
  leBytes 4 0x43525842 ++ leBytes 1 k ++ leBytes 1 1 ++ leBytes 2 0 ++ leBytes 4 gen ++ leBytes 4 p.length
    ++ leBytes 4 (crc32 (byteNats p)) ++ List.replicate 44 0

/-- A copy as the device writes it: header with its signature, payload. -/
def recCopy (k gen : Nat) (p : List Byte) : List Byte :=
  let h := recHead k gen p
  h ++ ((natBytes (Config.recordSig (byteNats (h ++ p)))) ++ List.replicate 96 0).take 96 ++ p

/-- GEN and payload of a valid copy (R777). -/
def readCopy (k : Nat) (c : List Byte) : Option (Nat × List Byte) :=
  let gen := leVal ((c.drop 8).take 4)
  let len := leVal ((c.drop 12).take 4)
  let p := (c.drop 160).take len
  if 160 + len ≤ c.length && len ≤ recMax k && c.take (160 + len) == recCopy k gen p then some (gen, p) else none

def recTypes : List Nat := [1, 2, 3, 4]
def recIdx (k c : Nat) : Nat := 3 * (k - 1) + c
def copyAt (s : State) (k c : Nat) : List Byte := tget [] (recIdx k c) s.cfg.copies
def setCopy (k c : Nat) (l : List Byte) (s : State) : State :=
  { s with cfg := { s.cfg with copies := tset [] (recIdx k c) l s.cfg.copies } }
def validCopy (s : State) (k c : Nat) : Option (Nat × List Byte) := readCopy k (copyAt s k c)

/-- The chosen content of a record, none when no copy was chosen. -/
def chosenRec (s : State) (k : Nat) : Option (Nat × List Byte) :=
  match tget (0, []) k s.cfg.chosen with
  | (0, []) => none
  | x => some x

/-- The highest GEN among the valid copies. -/
def topGen (s : State) (k : Nat) : Nat := (([0, 1, 2].filterMap (validCopy s k)).map (·.1)).foldl max 0

/-- The choice of R778. -/
def chooseCopy (s : State) (k : Nat) : Option (Nat × List Byte) :=
  match ([0, 1, 2].filterMap (validCopy s k)).filter (·.1 == topGen s k) with
  | [a] => some a
  | [a, b] => if a = b then some a else none
  | [a, b, c] => if a = b || a = c then some a else if b = c then some b else none
  | _ => none

/-- A copy is valid and identical to the chosen content. -/
def copyMatches (s : State) (k c : Nat) : Bool :=
  match chosenRec s k with
  | some x => validCopy s k c == some x
  | none => false

/-- CFG_REC and CFG_REC_GEN, HUB_DEGRADE.CONFIG_DIVERGED and HUB_REPLACE.CONFIG follow the copies (R779, R780). -/
def refreshRecs (s : State) : State :=
  let s := each recTypes (fun k s =>
    let i := k - 1
    let s := wr cfgB R.CFG_REC_VALID (bitMask ([0, 1, 2].filter (fun c => (validCopy s k c).isSome))) s i
    let s := wr cfgB R.CFG_REC_MATCH (bitMask ([0, 1, 2].filter (copyMatches s k))) s i
    let s := wrB cfgB R.CFG_REC_DEFAULT (chosenRec s k).isNone s i
    wr cfgB R.CFG_REC_GEN_GEN (((chosenRec s k).map (·.1)).getD 0) s i) s
  let few := fun k => (chosenRec s k).isNone || decide (([0, 1, 2].filter (copyMatches s k)).length < 2)
  let s := setReplace R.HUB_REPLACE_CONFIG (recTypes.any few) s
  let s := setDegrade R.HUB_DEGRADE_CONFIG_DIVERGED (recTypes.any (fun k => (chosenRec s k).isNone)) s
  wr healthB R.HUB_SPREC_GEN (((chosenRec s 4).map (·.1)).getD 0 % 65536) s

/-! ### The device's own records (R753, R776) -/

/-- A table as numbers, its length first, and what follows it. -/
def flatTbl (t : Tbl Nat) : List Nat := t.length :: t.flatMap (fun e => [e.1, e.2])
def takeTbl (l : List Nat) : Tbl Nat × List Nat :=
  let n := l.headD 0
  (((List.range n).map (fun i => (l.getD (1 + 2 * i) 0, l.getD (2 + 2 * i) 0))).foldl (fun t e => tset 0 e.1 e.2 t) [],
    l.drop (1 + 2 * n))

/-- What the calibration record is to hold. -/
def calContent (s : State) : List Nat :=
  (s.hub.capWrite.getD s.hub.capRecord) :: (flatTbl s.calRec.trims ++ flatTbl s.calRec.curves ++ flatTbl s.calRec.cals)

/-- The lane repairs of the modules, by `4 d + 2 k + dir`; the DDR5 channels whose spare rank is used, by `8 d + m`. -/
def repairTbl (s : State) : Tbl Nat :=
  (List.range 16).foldl (fun t i =>
    let x := tget ({} : D2dSt) (i / 2) s.d2ds
    tset 0 i (if i % 2 = 0 then x.tx else x.rx) t) []

def spareUsedTbl (s : State) : Tbl Nat :=
  (List.range 32).foldl (fun t i => tset 0 i (rd s (ddrB (i / 8) (i % 8)) R.DDR_STATUS_SPARE_USED) t) []

/-- What the spare record is to hold. -/
def spareContent (s : State) : List Nat :=
  flatTbl s.pipeRec ++ flatTbl s.pipeDead ++ flatTbl s.serve ++ flatTbl s.retired ++ flatTbl (repairTbl s)
    ++ flatTbl (spareUsedTbl s) ++ flatTbl s.spareRows

/-- The payload the device writes for a record of its own. -/
def devPayload (s : State) (k : Nat) : List Byte :=
  natBytes (Config.devPayload k (if k = 3 then calContent s else spareContent s))

/-! ### Record writes (R781 to R783) -/

/-- The next waiting write starts: a new one takes its GEN. -/
def startWrite (s : State) : State :=
  if s.cfg.write.isSome || s.mode = .hold || rdB s cfgB R.CFG_STATUS_ACTIVATING then s
  else
    match s.cfg.queue with
    | [] => s
    | w :: rest =>
      let w := if w.gen = 0 then { w with gen := topGen s w.k + 1 } else w
      wrB cfgB R.CFG_STATUS_BUSY true { s with cfg := { s.cfg with write := some w, queue := rest } }

/-- A write is accepted behind those accepted before it (R782). At one instant the order is that of the queue of commands
(DESIGN CHOICE, log 109). -/
def acceptWrite (w : RecWrite) (s : State) : State :=
  startWrite { s with cfg := { s.cfg with queue := s.cfg.queue ++ [w] } }

/-- A change of a record of the device's own is written (R753, R782). -/
def deviceWrite (k : Nat) (s : State) : State :=
  if tget 0 k s.cfg.dirty = 0 then s
  else acceptWrite { k, payload := devPayload s k } { s with cfg := { s.cfg with dirty := terase k s.cfg.dirty } }

/-- DEVICE_RECORD_WRITE (R782): the calibration record or the spare record. -/
def execDeviceRecordWrite (cal : Bool) (s : State) : Host.Outcome State Fault Refusal :=
  run (deviceWrite (if cal then 3 else 4)) s

/-- A management response (R772, R795). -/
def respond (cmd tag code : Nat) (payload : List Byte) (s : State) : State :=
  let s := bump mgtB R.MGT_MSG_CNT_COUNT s
  emitOut (.mgtResponse cmd tag code payload) (when_ (code != 0) (bump mgtB R.MGT_ERR_CNT_COUNT) s)

/-- The staging buffer is free again. -/
def clearStaging (s : State) : State :=
  { s with mgt := { s.mgt with recTag := none, staging := [], stagingLen := 0 } }

/-! ### Firmware activation (R784, R785) -/

/-- The chosen firmware: the record's, else the boot ROM's. -/
def chosenFw (s : State) : FwImage :=
  match chosenRec s 1 with
  | some (g, p) => { svn := Config.fwSvn (byteNats p) % 65536, gen := g, payload := p }
  | none => { svn := Config.romSvn % 65536 }

/-- CFG_FW and CFG_FW_GEN show the active image. -/
def showFw (s : State) : State :=
  wr cfgB R.CFG_FW_SVN s.fw.active.svn (wr cfgB R.CFG_FW_GEN_GEN s.fw.active.gen s)

/-- The chosen image is loaded and verified; it starts at the next HT that is a multiple of 4 000 000. -/
def loadImage (s : State) : State :=
  wrB cfgB R.CFG_STATUS_ACTIVATING true { s with fw := { s.fw with
    next := some (chosenFw s), waiting := false, startAt := some ((s.ht / 4000000 + 1) * 4000000) } }

/-- An activation is refused (R784). -/
def fwRefused (s : State) : Bool :=
  s.mode == .hold || s.mode == .tripped || rdB s cfgB R.CFG_STATUS_ACTIVATING || s.fw.waiting || chosenFw s == s.fw.active

/-- An activation that is accepted waits for a record write that runs. -/
def activate (s : State) : State :=
  if s.cfg.write.isSome then { s with fw := { s.fw with waiting := true } } else loadImage s

/-- CFG_CTRL.ACTIVATE. -/
def cfgActivate (s : State) : State :=
  if fwRefused s then wrB cfgB R.CFG_STATUS_WRITE_REJECTED true s else activate s

/-- CFG_ACTIVATE (R784). -/
def execCfgActivate (s : State) : Host.Outcome State Fault Refusal := run cfgActivate s

/-- The new image has started and its self-test has no result. -/
def inSelfTest (s : State) : Bool := rdB s cfgB R.CFG_STATUS_ACTIVATING && s.fw.next.isNone

/-- FW_IMAGE_START: the loaded image starts. -/
def fwStart (s : State) : State :=
  match s.fw.next, s.fw.startAt with
  | some i, some t =>
    if s.ht < t then s
    else
      let s := { s with fw := { s.fw with active := i, prev := s.fw.active, next := none, startAt := some s.ht } }
      calStarve (fun _ => true) (trigger 0 0xE 0 (showFw s))
  | _, _ => s

/-- FW_IMAGE_START (R784). -/
def execFwImageStart (s : State) : Host.Outcome State Fault Refusal := run fwStart s

/-- The activation is over; writes that waited proceed. -/
def fwEnd (s : State) : State :=
  startWrite (wrB cfgB R.CFG_STATUS_ACTIVATING false { s with fw := { s.fw with startAt := none, next := none } })

/-- The engine returns to the previous image (R785). -/
def fwFail (timeout : Bool) (s : State) : State :=
  let s := showFw { s with fw := { s.fw with active := s.fw.prev } }
  fwEnd (mgtEvent 0x1106 (b2n timeout) (wrB cfgB R.CFG_STATUS_ACT_FAILED true s))

/-- FW_SELF_TEST_DONE. -/
def fwTested (ok : Bool) (s : State) : State :=
  if !inSelfTest s then s
  else if ok then fwEnd (mgtEvent 0x1105 (s.fw.active.svn + 65536 * (s.fw.active.gen % 65536)) s)
  else fwFail false s

/-- FW_SELF_TEST_DONE (R785). -/
def execFwSelfTestDone (ok : Bool) (s : State) : Host.Outcome State Fault Refusal := run (fwTested ok) s

/-- FW_SELF_TEST_TIMEOUT: 50 ms after the start. -/
def fwTimeout (s : State) : State :=
  match s.fw.startAt with
  | some t => if inSelfTest s && t + 50 * ms ≤ s.ht then fwFail true s else s
  | none => s

/-- FW_SELF_TEST_TIMEOUT (R785). -/
def execFwSelfTestTimeout (s : State) : Host.Outcome State Fault Refusal := run fwTimeout s

/-! ### The progress of a write (R780, R781) -/

/-- The last copy of a write is done: its content is the chosen one. -/
def writeDone (w : RecWrite) (s : State) : State :=
  let s := { s with cfg := { s.cfg with write := none, chosen := tset (0, []) w.k (w.gen, w.payload) s.cfg.chosen } }
  let s := bump cfgB R.CFG_WRITE_CNT_COUNT (wrB cfgB R.CFG_STATUS_BUSY false s)
  let s := refreshRecs (mgtEvent 0x1104 (w.k + 256 * w.same + 65536 * (w.gen % 65536)) s)
  let s := if w.k = 3 then
      { s with hub := { s.hub with capRecord := s.hub.capWrite.getD s.hub.capRecord, capWrite := none } } else s
  let s := when_ (w.k == 4 && tget 0 4 s.cfg.dirty == 0) (wrB healthB R.HUB_SPREC_PENDING false) s
  let s := if w.src = 1 then wr cfgB R.CFG_STATUS_RESULT 0 s else s
  let s := match w.src, s.mgt.recTag with
    | 2, some tag => clearStaging (respond 6 tag 0 (leBytes 1 0) s)
    | _, _ => s
  if s.fw.waiting then loadImage s else startWrite s

/-- The write goes on with its next copy; in HOLD it waits for the return (R782). -/
def nextCopy (w : RecWrite) (s : State) : State :=
  if w.copy = 2 then writeDone w s
  else
    let w := { w with copy := w.copy + 1, again := false }
    if s.mode = .hold then
      wrB cfgB R.CFG_STATUS_BUSY false { s with cfg := { s.cfg with write := none, queue := w :: s.cfg.queue } }
    else { s with cfg := { s.cfg with write := some w } }

/-- RECORD_COPY_DONE: the copy being written has been programmed and read back. -/
def copyDone (ok : Bool) (s : State) : State :=
  match s.cfg.write with
  | none => s
  | some w =>
    if ok then
      nextCopy { w with same := setBit w.same w.copy true } (setCopy w.k w.copy (recCopy w.k w.gen w.payload) s)
    else if !w.again then { s with cfg := { s.cfg with write := some { w with again := true } } }
    else
      let s := bump cfgB R.CFG_COPY_FAIL_CNT_COUNT (setCopy w.k w.copy [] s)
      nextCopy w (mgtEvent 0x1103 (w.k + 256 * w.copy + 1024) s)

/-- RECORD_COPY_DONE (R781). -/
def execRecordCopyDone (ok : Bool) (s : State) : Host.Outcome State Fault Refusal := run (copyDone ok) s

/-- RECORD_REWRITE: after start-up a copy that is not identical to the chosen content is rewritten with it. -/
def recRewrite (k c : Nat) (ok : Bool) (s : State) : State :=
  match chosenRec s k with
  | none => s
  | some (g, p) =>
    if !rdB s hubB R.HUB_MODE_READY || s.mode = .hold || s.cfg.write.isSome || copyMatches s k c then s
    else
      let s := setCopy k c (if ok then recCopy k g p else []) s
      refreshRecs (mgtEvent 0x1103 (k + 256 * c + 1024 * b2n (!ok)) s)

/-- RECORD_REWRITE (R780). -/
def execRecordRewrite (k : Fin 4) (c : Fin 3) (ok : Bool) (s : State) : Host.Outcome State Fault Refusal :=
  run (recRewrite (k + 1) c ok) s

/-! ### Writes from outside (R783) -/

/-- The result of the checks of R783 on a write by PF0 (`src` 1) or the board management controller (2); `data` is none
where the source cannot be read. -/
def writeResult (s : State) (k src len : Nat) (data : Option (List Byte)) : Nat :=
  if k != 1 && k != 2 then 1
  else if len = 0 || recMax k < len then 2
  else
    match data with
    | none => 5
    | some p =>
      if k = 1 && !Config.fwSigOk (byteNats p) then 3
      else if k = 1 && Config.fwSvn (byteNats p) % 65536 < Config.svnMin % 65536 then 4
      else if s.cfg.queue.any (·.src == src) then 6
      else 0

/-- CFG_CTRL.WRITE of record type `k`. -/
def cfgWrite (k : Nat) (s : State) : State :=
  let s := wr cfgB R.CFG_CTRL_TYPE k s
  let a := rdPair s cfgB R.CFG_SRC_LO_ADDR R.CFG_SRC_HI_ADDR
  let len := rd s cfgB R.CFG_LEN_BYTES
  let data := if installedAll s a len && !poisonedAny s a len then some (loadBytes s a len) else none
  let r := writeResult s k 1 len data
  if r != 0 then wr cfgB R.CFG_STATUS_RESULT r s
  else acceptWrite { k, payload := data.getD [], src := 1 } s

/-- CFG_RECORD_WRITE (R783). -/
def execCfgRecordWrite (k : Fin 256) (s : State) : Host.Outcome State Fault Refusal := run (cfgWrite k) s

/-- The counters of R796. -/
def cfgCounters : List Fld := [R.CFG_WRITE_CNT_COUNT, R.CFG_COPY_FAIL_CNT_COUNT]

/-- CFG_CNT_CLR (R796). -/
def execCfgCntClr (s : State) : Host.Outcome State Fault Refusal := run (resetFlds cfgB cfgCounters) s

end Sys2Proof.Machine
end

