-- ==== Sys2Proof/Machine/Startup.lean ====
section
/-!
DEFINITION. What a start-up does in steps 6 to 10 (spec/02_modes_power_hold.md R79, R81, R97; spec/15_memory.md R596 to
R602, R617, R618, R630; spec/17_inside_the_package.md R692; spec/18_heat_calibration_wear.md R753, R754, R763;
spec/19_management_trust.md R778, R779): the records are chosen and applied, SRAM, die links and memory are taken into
service. The power-on, device and return-from-hold resets are in Modes.lean.
-/

namespace Sys2Proof.Machine
open Sys2Proof

/-! ### Step 6: records (R778, R779) -/

/-- The copies of every record are chosen. -/
def chooseRecords (x : StartIn) (s : State) : State :=
  let s := each x.copies (fun e s => { s with cfg := { s.cfg with
    copies := tset [] e.1 (e.2.map (fun b => BitVec.ofNat 8 b.val)) s.cfg.copies } }) s
  let s := { s with cfg := { s.cfg with chosen := recTypes.foldl (fun t k =>
    tset (0, []) k ((chooseCopy s k).getD (0, [])) t) s.cfg.chosen } }
  each recTypes (fun k s =>
    if (chosenRec s k).isSome then s
    else mgtEvent 0x1102 (k + 256 * rd s cfgB R.CFG_REC_VALID (k - 1)) s) (refreshRecs s)

/-- FIRMWARE: the chosen image is active. -/
def applyFirmware (s : State) : State := showFw { s with fw := { active := chosenFw s } }

/-- The calibration values in use, and WEIR_TRIM, are those of the record. -/
def applyCal (s : State) : State :=
  let s := { s with curves := s.calRec.curves, cals := s.calRec.cals }
  each s.calRec.trims (fun e => wr (chB e.1) R.WEIR_TRIM_TRIM e.2) s

/-- CALIBRATION: what the device wrote last itself it holds already; another content is read from the payload. A learned
capacity goes to the record first, and CAP is loaded after a start of the hold island (R97). -/
def applyCalibration (old : Option (Nat × List Byte)) (s : State) : State :=
  let s := match chosenRec s 3 with
    | none => { s with calRec := {}, hub := { s.hub with capRecord := 0 } }
    | some (g, p) =>
      if old = some (g, p) then s
      else
        let l := Config.devContent 3 (byteNats p)
        let a := takeTbl l.tail
        let b := takeTbl a.2
        { s with calRec := { trims := a.1, curves := b.1, cals := (takeTbl b.2).1 }
                 hub := { s.hub with capRecord := l.headD 0 % 2 ^ 24 } }
  let s := match s.hub.learned with
    | some v => recDirty 3 { s with hub := { s.hub with capRecord := v, capWrite := some v, learned := none } }
    | none => s
  let s := if s.hub.islandLost then
      gauge (fun s => setCharge s.hub.charge (wr holdB R.HOLD_CAPACITY_CAP s.hub.capRecord
        { s with hub := { s.hub with islandLost := false } })) s
    else s
  applyCal s

/-- The rows of a flattened list: channel, row key. -/
def takeRows (l : List Nat) : List (Nat × Nat) :=
  (List.range (l.headD 0)).map (fun i => (l.getD (1 + 2 * i) 0, l.getD (2 + 2 * i) 0))

/-- SPARE: retired pipelines and cores, bindings, lane repairs, used spare ranks, rows to repair (R753). -/
def applySpare (old : Option (Nat × List Byte)) (s : State) : State :=
  match chosenRec s 4 with
  | none => { s with pipeRec := [], pipeDead := [], serve := [], retired := [], d2ds := [], spareRows := [], ddrs := [] }
  | some (g, p) =>
    if old = some (g, p) then s
    else
      let a := takeTbl (Config.devContent 4 (byteNats p))
      let b := takeTbl a.2
      let c := takeTbl b.2
      let d := takeTbl c.2
      let e := takeTbl d.2
      let f := takeTbl e.2
      let s := { s with pipeRec := a.1, pipeDead := b.1, serve := c.1, retired := d.1, spareRows := takeRows f.2 }
      let s := each (List.range 8) (fun i => modD2d (i / 2) (i % 2) (fun x => { x with
        tx := tget 0 (2 * i) e.1, rx := tget 0 (2 * i + 1) e.1 })) s
      each (List.range 32) (fun i => wrB (ddrB (i / 8) (i % 8)) R.DDR_STATUS_SPARE_USED (tget 0 i f.1 == 1)) s

/-- R1 and R454: a pipeline or a loop core that is not retired serves its own channel or logical core again. A binding
that the record keeps stays even where it names a pipeline that is another channel's own and not retired; both channels
are then bound to it, a case the rules leave open (DESIGN CHOICE, log 105). -/
def ownBindings (s : State) : State :=
  { s with
    pipeRec := s.pipeRec.filter (fun e => isDead s (e.1 / 48) (e.1 % 48))
    serve := s.serve.filter (fun e => isRetired s (e.1 / 64) (e.1 % 64)) }

/-- CONFIG: the management address and, after a power-on reset, the role of the timebase unit (R79 step 8, R776). -/
def applyConfig (s : State) : State :=
  let p := (chosenRec s 2).map (fun x => byteNats x.2)
  let s := { s with mgt := { s.mgt with addr := match p with
    | some p => Config.configAddr p % 128
    | none => 0x4C } }
  if !s.hub.cold then masterAgain s
  else
    let s := match p with
      | some p => wr timeB R.TIME_CTRL_ROLE (Config.configRole p % 2) (wr timeB R.TIME_CTRL_PRIMARY (Config.configPrimary p) s)
      | none => s
    roleChanged { s with hub := { s.hub with cold := false } }

/-! ### Step 6: SRAM (R754) -/

def sramFailed (f : SramFail) (s : State) : State :=
  match f with
  | .pipe d p =>
    if isDead s d p then s
    else
      let n := pipeChannel s d p
      let s := retirePipe d p s
      let s := match n, (freePipes s d).head? with
        | some n, some q => bindPipe n q s
        | _, _ => s
      refreshPipe d (spareChanged s)
  | .core d p =>
    if isRetired s d p then s
    else
      let c := logicalOf s d p
      let s := { s with retired := tset 0 (68 * d.val + p) 1 s.retired }
      let s := match c with
        | some c =>
          match freeSpare s d with
          | some q => { s with serve := tset 0 c (q + 1) s.serve }
          | none => noSpare c { s with serve := tset 0 c 128 s.serve }
        | none => s
      spareCores d s
  | .die d => holdDie d true s
  | .other => setDegrade R.HUB_DEGRADE_CONTAINED true s

/-! ### Step 7: die links (R692) -/

/-- A module trains, with `tx` and `rx` lanes found bad besides those recorded. -/
def startModule (d k : Nat) (x : Bool × Nat × Nat) (s : State) : State :=
  let r := s.d2d d k
  let tx := r.tx + x.2.1
  let rx := r.rx + x.2.2
  let ok : Bool := x.1 && decide (tx ≤ 4) && decide (rx ≤ 4)
  let s := if ok then
      modD2d d k (fun y => { y with tx, rx, downAt := 0, errs := [] }) (when_ (x.2.1 + x.2.2 != 0) spareChanged s)
    else modD2d d k (fun y => { y with downAt := s.tick + 1, errs := [] }) s
  let s := wr (d2dB d) (spareFld k 0) (4 - min 4 tx) (wr (d2dB d) (spareFld k 1) (4 - min 4 rx) s)
  setMod d k (if ok then 2 else 0) s

def startLinks (x : StartIn) (s : State) : State :=
  let s := each (List.range 8) (fun i =>
    let m := x.mods.getD i (false, 0, 0)
    startModule (i / 2) (i % 2) (m.1, m.2.1.val, m.2.2.val)) s
  refreshUcie (each dies (fun d s =>
    if [0, 1].all (fun k => modState s d k == 0) then holdDie d true s else s) s)

/-! ### Step 9: memory (R596 to R602, R617, R618, R630) -/

/-- A mapping as the configuration record gives it, and whether R601 holds for it with the modules' page size. -/
def mapValid (l : List Nat) (page : Nat) : Bool :=
  let m := fun i => l.getD i 0
  let p := fun i => l.getD (4 + i) 0
  let nn := fun j => l.getD (8 + j) 0
  let q := fun j => l.getD (13 + j) 0
  let four := List.range 4
  let five := List.range 5
  l.length == 18
    && four.all (fun i => 6 ≤ p i && p i ≤ 20 && four.all (fun j => bitOf (m i) (p j) == (i == j)))
    && five.all (fun i => page ≤ q i && q i ≤ 38 && five.all (fun j => bitOf (nn i) (q j) == (i == j)))

/-- The die's mapping registers: the record's mapping, or the reset values. -/
def loadMap (d page : Nat) (s : State) : State :=
  let b := ddrDieB d
  let g := (chosenRec s 2).bind (fun x => Config.configMap (byteNats x.2) d)
  match g with
  | some l =>
    if mapValid l page then
      let s := each (List.range 4) (fun i s =>
        wr b R.DDR_DIE_CMASK_LO_MASK (l.getD i 0 % 2 ^ 32) (wr b R.DDR_DIE_CMASK_HI_MASK (l.getD i 0 / 2 ^ 32) s i) i) s
      let s := wr b R.DDR_DIE_CFOLD_P0 (l.getD 4 0) (wr b R.DDR_DIE_CFOLD_P1 (l.getD 5 0)
        (wr b R.DDR_DIE_CFOLD_P2 (l.getD 6 0) (wr b R.DDR_DIE_CFOLD_P3 (l.getD 7 0) s)))
      let s := each (List.range 5) (fun j s =>
        wr b R.DDR_DIE_BMASK_LO_MASK (l.getD (8 + j) 0 % 2 ^ 32) (wr b R.DDR_DIE_BMASK_HI_MASK (l.getD (8 + j) 0 / 2 ^ 32) s j) j) s
      wr b R.DDR_DIE_BFOLD_Q ((List.range 5).foldl (fun a j => a + l.getD (13 + j) 0 % 64 * 2 ^ (6 * j)) 0) s
    else raise 0x0D0D noCh (8 * d) (wrB b R.DDR_DIE_STATUS_MAP_DEFAULT true s)
  | none => raise 0x0D0D noCh (8 * d) (wrB b R.DDR_DIE_STATUS_MAP_DEFAULT true s)

/-- One channel of a die trains: its module's organisation, its ranks in service and its spare. -/
def startChannel (d m : Nat) (x : Dimm) (rate : Nat) (s : State) : State :=
  let b := ddrB d m
  if !x.trains then setDdrState d m 0 s
  else
    let s := wr b R.DDR_GEOM_RANKS x.ranks (wrB b R.DDR_GEOM_MRDIMM x.mrdimm (wr b R.DDR_GEOM_RANK_GIB x.rankGib s))
    let s := wr b R.DDR_GEOM_ROW_BITS x.rowBits (wr b R.DDR_GEOM_PAGE_BITS x.pageBits (wr b R.DDR_RATE_MTS rate s))
    let sp := (chosenRec s 2).bind (fun y => Config.configSpare (byteNats y.2) d m)
    let used := rdB s b R.DDR_STATUS_SPARE_USED
    let all := 2 ^ x.ranks.val - 1
    let s := match sp with
      | some r =>
        let inService := if used && (s.ddr d m).ranks != [] then bitMask (s.ddr d m).ranks else setBit all (r % 4) false
        wr b R.DDR_STATUS_SPARE r (wrB b R.DDR_STATUS_SPARE_AVAIL (!used) (wr b R.DDR_STATUS_IN_SERVICE inService s))
      | none => wr b R.DDR_STATUS_IN_SERVICE all s
    let rows := fun r => (s.spareRows.filter (fun e => e.1 == 8 * d + m && e.2 / 2 ^ 30 == r)).length
    let s := each (List.range 4) (fun r s => wr b R.DDR_RANK_ROWS (satU 8 (rows r)) s r) s
    setDdrState d m 2 s

/-- The memory of a die: in service only when all eight channels train with one organisation; else the die is isolated
(R597). Initialisation goes on where it stood (R618). -/
def startMemory (d : Nat) (x : StartIn) (s : State) : State :=
  let l := (List.range 8).map (fun m => x.dimms.getD (8 * d + m) {})
  let b := ddrDieB d
  let rate := leastD 0 (rd s b R.DDR_DIE_CFG_MAX_RATE :: l.map (·.rate.val))
  let s := each l.zipIdx (fun e => startChannel d e.2 e.1 rate) s
  let a := l.headD {}
  let same := l.all (fun y => y.trains && y.ranks == a.ranks && y.density == a.density && y.pageBits == a.pageBits)
  if !same || a.ranks.val = 0 then
    refreshOffline (holdDie d true (wrB b R.DDR_DIE_STATUS_ORG_MISMATCH true s))
  else
    let usable := leastD 0 ((List.range 8).map (fun m => ((List.range 4).filter
      (bitOf (rd s (ddrB d m) R.DDR_STATUS_IN_SERVICE))).length * (l.getD m {}).rankGib.val))
    let s := loadMap d a.pageBits (wr b R.DDR_DIE_CAP_GIB (8 * usable) (wrB b R.DDR_DIE_STATUS_MEM_OK true s))
    let n := (s.die d).initNext
    let s := if dieBlocks s d ≤ n then
        wr b R.DDR_DIE_STATUS_INIT_PROGRESS 255 (wrB b R.DDR_DIE_STATUS_INIT_DONE true s)
      else wr b R.DDR_DIE_STATUS_INIT_PROGRESS (satU 8 (256 * n / max 1 (dieBlocks s d))) s
    refreshDie d (refreshRanksFree d s)

/-- A recorded row takes its repair: event 0x0D10, and the record drops it (R630). -/
def repairRow (e : Nat × Nat) (s : State) : State :=
  let bank := e.2 / 2 ^ 24
  let sub := bank / 32 % 2
  let r := bank / 64
  let s := spareChanged { s with spareRows := s.spareRows.erase e }
  let s := wr (ddrB (e.1 / 8) (e.1 % 8)) R.DDR_RANK_ROWS (rd s (ddrB (e.1 / 8) (e.1 % 8)) R.DDR_RANK_ROWS r - 1) s r
  raise 0x0D10 noCh (chanArg (e.1 / 8) (e.1 % 8) + 32 * r + 128 * sub + 256 * (e.2 % 2 ^ 24)) s

/-! ### Causes taken anew (R763, R764, R766) -/

/-- HUB_REPLACE and HUB_SPARE_SUM after a reset. -/
def refreshHealth (s : State) : State :=
  let s := each dies (fun d s =>
    let s := refreshRanksFree d s
    let l := [64, 65, 66, 67]
    let s := wr healthB R.HUB_SPARE_SUM_CORES_FREE (l.filter (fun p => !isRetired s d p && !spareUsed s d p)).length s d
    let s := each (l.filter (isRetired s d)) (fun p => wrB (coreB d p) R.LOOP_CORE_STAT_RETIRED true) s
    let s := each (((List.range 64).map (64 * d + ·)).filter (fun c => (servedBy s c).isNone))
      (fun c => wrB (crB c) R.LOOP_CORE_STAT_RETIRED true) s
    let s := when_ (l.any (spareUsed s d)) (setReplaceDie R.HUB_REPLACE_LOOP R.HUB_REPLACE_LOOP_DIES d) s
    refreshPipe d s) s
  let used := (List.range 32).any (fun i => rdB s (ddrB (i / 8) (i % 8)) R.DDR_STATUS_SPARE_USED)
  let s := setReplace R.HUB_REPLACE_RANK used s
  setReplace R.HUB_REPLACE_HOLD (rdB s holdB R.HOLD_STATUS_CAP_LOW) s

/-! ### Steps 6 to 10 -/

/-- t1 has come: the start-up runs, and finds what `x` says. -/
def startUp (x : StartIn) (s : State) : State :=
  let s := { s with hub := { s.hub with starting := true, t1 := s.tick } }
  let old3 := chosenRec s 3
  let old4 := chosenRec s 4
  let s := when_ s.hub.cold (wrB timeB R.TIME_STATUS_REF_OK x.ref) s
  let s := applyConfig (applyFirmware (chooseRecords x s))
  let s := ownBindings (applySpare old4 (applyCalibration old3 s))
  let s := each x.sram sramFailed s
  let s := each dies (fun d s =>
    if rdB s (dieB d) R.HUB_DIE_STATUS_ISOLATED then s else wrB (dieB d) R.HUB_DIE_STATUS_CLK_LOCK true s) s
  let s := startLinks x s
  let rows := x.hppr.filterMap (fun i => s.spareRows[i]?)
  let s := each dies (fun d s =>
    if rdB s (dieB d) R.HUB_DIE_STATUS_IN_RESET then s else startMemory d x s) s
  let s := each rows repairRow s
  let s := each dies (fun d s =>
    if rdB s (dieB d) R.HUB_DIE_STATUS_IN_RESET then s else wrB (dieB d) R.HUB_DIE_STATUS_READY true s) s
  let s := { s with hub := { s.hub with portsOn := s.mode != .tripped } }
  refreshHealth (refreshOffline (each (List.range 5) startResync s))

end Sys2Proof.Machine
end

