-- ==== Sys2Proof/Machine/Modes.lean ====
section
/-!
DEFINITION. Device modes (spec/02_modes_power_hold.md R43 to R61, R840 to R842), the power-on, device and return-from-hold
resets (R76, R78), start-up (R79, R81), the hand-over to HOLD and the exit from it (R82 to R94, R97, R843), the rails that
leave their range (spec/21_pins_package_electrical.md R818, R819), and VF Enable.
-/

namespace Sys2Proof.Machine
open Sys2Proof

/-! ### What a reset keeps (R76, R725, R792, R97) -/

/-- A register key that a reset leaves alone: the hold block and the channels' SEQ_FAULT registers (R332); and, but for a power-on reset, the time block, the locks,
the management values and HUB_TRIP. -/
def keptKey (pon : Bool) (k : Nat) : Bool :=
  let a := k / 32
  (holdB ≤ a && a < holdB + 0x10000)
    || (chB 0 ≤ a && a < chB 192 && R.SEQ_FAULT_INFO_PC.off ≤ a % 0x4000 && a % 0x4000 ≤ R.SEQ_FAULT_TC_HI_TC.off)
    || !pon && ((timeB ≤ a && a < timeB + 0x10000) || (lockB 0 ≤ a && a < lockUnitB)
        || (mgtB ≤ a && a < mgtB + R.MGT_CTRL_CNT_CLR.off) || a == hubB + R.HUB_TRIP_THERMAL.off)

/-- The spare ranks in use are a part of the spare record (R753). -/
def keepSpares (old s : State) : State :=
  each (List.range 32) (fun i =>
    wr (ddrB (i / 8) (i % 8)) R.DDR_STATUS_SPARE_USED (rd old (ddrB (i / 8) (i % 8)) R.DDR_STATUS_SPARE_USED)) s

/-- Moving parts that are not OFF are UNKNOWN, and with them the interlocks start anew (R94, R502, R506, R510, R515). -/
def keepMotion (old s : State) : State :=
  each channels (fun n s =>
    let s := if old.wst n = .off then s
      else wheelEval n (setWst n .unknown (wr (chB n) R.MOVE_STATUS_WSTATE (old.wst n).code s))
    if old.sst n = .off then s
    else scanEval n (setSst n .unknown (wr (chB n) R.MOVE_STATUS_SSTATE (old.sst n).code s))) s

/-- What of the hub's own state goes on through a reset. The run of full-charge rounds is the hold island's and goes on
too (DESIGN CHOICE, log 96). -/
def keptHub (pon : Bool) (h : HubSt) : HubSt :=
  { h with starting := false, cold := pon, returning := false, afterEnable := [], noRelease := false, reqMgmt := false
           vf := false, portsOn := false }

/-- Record types of the device's own that wait to be written, or whose write a reset interrupts: they wait again
(R97, R782). -/
def keptDirty (s : State) : Tbl Nat :=
  (s.cfg.queue ++ s.cfg.write.toList).foldl (fun t w => if w.src = 0 then tset 0 w.k (s.tick + 1) t else t) s.cfg.dirty

/-- The state after a reset, before its start-up: power-on (`pon`), device or return from hold. -/
def baseReset (pon : Bool) (s : State) : State :=
  let t : State := { pending := s.pending, out := s.out, free := s.free, evq := s.evq, memq := s.memq, tick := s.tick, ht := s.ht
                     memLost := if pon then 15 else s.memLost }
  let t := { t with
    regs := s.regs.filter (fun e => keptKey pon e.1), eff := s.eff.filter (fun e => keptKey pon e.1)
    hub := keptHub pon s.hub
    pipeRec := s.pipeRec, pipeDead := s.pipeDead, serve := s.serve, retired := s.retired, spareRows := s.spareRows
    calRec := s.calRec, cfg := { copies := s.cfg.copies, chosen := s.cfg.chosen, dirty := keptDirty s }
    mgt := { addr := s.mgt.addr, snapped := s.mgt.snapped }
    d2ds := s.d2ds.map (fun e => (e.1, { tx := e.2.tx, rx := e.2.rx }))
    ddrs := s.ddrs.map (fun e => (e.1, { ranks := e.2.ranks })) }
  let t := if pon then t else { t with
    time := s.time, mem := s.mem, poison := s.poison, mgtCeil := s.mgtCeil, epochs := s.epochs
    drvs := s.drvs.map (fun e => (e.1, { failed := e.2.failed, brought := e.2.brought }))
    ports := s.ports.map (fun e => (e.1, { prevId := e.2.prevId }))
    dst := s.dst.map (fun e => (e.1, { initNext := e.2.initNext, initOut := e.2.initOut })) }
  keepMotion s (keepSpares s t)

/-! ### Device reset and return from hold (R76, R78, R710) -/

/-- Confluence units that a device reset triggers: all but the Headwater timebase unit and the hold island. -/
def offInReset : List Nat := (List.range 15).filter (fun i => i != 2 && i != 5)

/-- The triggers of a reset of every Reach die. -/
def triggerDies (s : State) : State :=
  each dies (fun d s =>
    let s := trigger 1 d 0 s
    let s := each (channelsOf d) (fun n s => trigger 2 n (s.cmds.filter (·.ch == n)).length s) s
    triggerDdr d (each (List.range 64) (fun c => trigger 3 (64 * d + c) 0) s)) s

/-- Every channel is OFF. -/
def allOff (s : State) : State := each channels (fun n s => if s.chState n = .off then s else setChState n .off s) s

/-- The reset of everything but the hold island, the timebase and the trip latch. -/
def resetCore (s : State) : State :=
  let s := baseReset false (breakOwned (fun _ => true) (triggerDies (allOff s)))
  let s := wr mgtB R.MGT_STATUS_PF0_MODE 7 (wr mgtB R.MGT_SVC_CEIL_PF0 R.MGT_SVC_CEIL_PF0.rst s)
  refreshOvr (wr hubB R.HUB_SVC_CEIL_CEIL (svcCeil s) s)

/-- A device reset: PARK, electrical idle and SAFE-DARK as at entry to HOLD; DORMANT, or TRIPPED with the latch set. -/
def deviceReset (s : State) : State :=
  let old := s.mode
  let m : Mode := if s.hub.tripLatch = 0 then .dormant else .tripped
  let s := each offInReset (fun i => trigger 0 i 0) (handoverDark s)
  let s := wr hubB R.HUB_MODE_MODE old.code (resetCore s)
  if old = m then wr hubB R.HUB_MODE_CAUSE 0x0A s else setMode m 0x0A s

/-- The reset that ends HOLD; the mode stays HOLD until start-up is complete (R53, R92). -/
def holdReset (s : State) : State :=
  let cause := rd s hubB R.HUB_MODE_CAUSE
  let s := wr hubB R.HUB_MODE_CAUSE cause (wr hubB R.HUB_MODE_MODE Mode.hold.code (resetCore s))
  { s with hub := { s.hub with returning := true } }

/-! ### Power-good and PERST# (R61, R76, R79, R814) -/

/-- The causes that a cleared latch held go to the PREV bits; the latch shows in HUB_TRIP[2:0]. -/
def showTrip (s : State) : State :=
  let c := s.hub.tripCleared
  let l := s.hub.tripLatch
  let s := wrB hubB R.HUB_TRIP_PREV_THERMAL (bitOf c 0) (wrB hubB R.HUB_TRIP_PREV_LOCKSTEP (bitOf c 1)
    (wrB hubB R.HUB_TRIP_PREV_RILL_READBACK (bitOf c 2) s))
  let s := wrB hubB R.HUB_TRIP_THERMAL (bitOf l 0) (wrB hubB R.HUB_TRIP_LOCKSTEP (bitOf l 1)
    (wrB hubB R.HUB_TRIP_RILL_READBACK (bitOf l 2) s))
  { s with hub := { s.hub with tripCleared := 0 } }

/-- POWER_GOOD: a power-on reset, SAFE-DARK on every rill, 0.750 V on every AVSBus interface; the start-up begins where
PERST# is not asserted. HUB_MODE resets to DORMANT with cause 0x0A; only a power-on reset into TRIPPED is taken as a
change of the mode, from DORMANT, and raises event 0x0101 (DESIGN CHOICE, log 97). -/
def powerGood (vhold : Bool) (x : StartIn) (s : State) : State :=
  if s.hub.up then s
  else
    let s := { s with hub := { s.hub with mainOk := true, mainAt := s.tick, stableAt := s.tick, badRails := [] } }
    let s := baseReset true s
    let s := if s.hub.island then s else islandStart vhold s
    let s := showTrip { s with hub := { s.hub with up := true } }
    let s := each channels (fun n => emitOut (.safeDark n 1)) s
    let s := each (List.range 5) (fun i => emitOut (.avs i 750)) s
    let s := if s.hub.tripLatch = 0 then s else setMode .tripped 0x0A s
    let s := mgtEvent 0x1101 0 s
    if s.hub.perst then s else startUp x s

/-- POWER_GOOD (R76, R79). -/
def execPowerGood (vhold : Bool) (x : StartIn) (s : State) : Host.Outcome State Fault Refusal := run (powerGood vhold x) s

/-- PERST# is asserted: a device reset, but in HOLD (R92). Between the exit from hold and READY, which R92 leaves open,
it repeats the return-from-hold reset and the mode stays HOLD (DESIGN CHOICE, log 98). -/
def perstAssert (s : State) : State :=
  let s := { s with hub := { s.hub with perst := true } }
  if !s.hub.up || (s.mode = .hold && !s.hub.returning) then s
  else if s.mode = .hold then holdReset s
  else deviceReset s

/-- PERST_ASSERT (R76). -/
def execPerstAssert (s : State) : Host.Outcome State Fault Refusal := run perstAssert s

/-- PERST# is deasserted: t1 of a start-up that waits for it. -/
def perstDeassert (x : StartIn) (s : State) : State :=
  let s := { s with hub := { s.hub with perst := false } }
  if !s.hub.up || rdB s hubB R.HUB_MODE_READY || s.hub.starting || (s.mode = .hold && !s.hub.returning) then s
  else startUp x s

/-- PERST_DEASSERT (R79). -/
def execPerstDeassert (x : StartIn) (s : State) : Host.Outcome State Fault Refusal := run (perstDeassert x) s

/-- The hold log goes to PF0's event ring, once it is enabled (R89). -/
def replayLog (s : State) : State :=
  if !rdB s (evRingB 0) R.SLUICE_EV_CFG_EN then s
  else each s.hub.replay (fun e => deliverTo e 0) { s with hub := { s.hub with replay := [] } }

/-- STARTUP_COMPLETE: READY; after a hold the device is DORMANT, and the hold log waits for PF0's event ring. -/
def startupComplete (s : State) : State :=
  if !s.hub.starting then s
  else
    let s := wrB hubB R.HUB_MODE_READY true { s with hub := { s.hub with starting := false } }
    let s := if s.mode = .hold then
        let s := wrB holdB R.HOLD_STATUS_ACTIVE false (setMode .dormant 7 s)
        replayLog { s with hub := { s.hub with
          returning := false, replay := s.hub.replay ++ s.hub.holdLog, holdLog := [] } }
      else s
    startWrite s

/-- STARTUP_COMPLETE (R79, R92). -/
def execStartupComplete (s : State) : Host.Outcome State Fault Refusal := run startupComplete s

/-- A step of the start-up has not completed within its time (R81). -/
def stepTimeout (u : StartUnit) (s : State) : State :=
  if !s.hub.starting then s
  else match u with
    | .records => setDegrade R.HUB_DEGRADE_CONFIG_DIVERGED true s
    | .die d => holdDie d true s
    | .other => setDegrade R.HUB_DEGRADE_CONTAINED true s

/-- STARTUP_STEP_TIMEOUT (R81). -/
def execStartupStepTimeout (u : StartUnit) (s : State) : Host.Outcome State Fault Refusal := run (stepTimeout u) s

/-! ### Mode requests (R47, R53 to R57, R789, R790, R841) -/

def standing (s : State) (mgmt : Bool) : Nat :=
  if mgmt then rd s mgtB R.MGT_STATUS_MGT_MODE else rd s mgtB R.MGT_STATUS_PF0_MODE

/-- The effective mode target: the more restrictive of the standing requests, 7 for none (R789). -/
def effTarget (s : State) : Nat := min (standing s true) (standing s false)

def setStanding (mgmt : Bool) (m : Nat) (s : State) : State :=
  let before := effTarget s
  let s := wr mgtB (if mgmt then R.MGT_STATUS_MGT_MODE else R.MGT_STATUS_PF0_MODE) m s
  refreshOvr (when_ (effTarget s != before) bumpSnap s)

/-- The request is less restrictive than the other path's standing one. -/
def overridden (s : State) (mgmt : Bool) (m : Nat) : Bool := m ≤ 2 && standing s (!mgmt) < m

/-- The reason of event 0x0102 that applies first, 0 when the request is accepted (R841). SHOW needs a valid HT only where
the mode would change (R53). -/
def reqReason (s : State) (mgmt : Bool) (m : Nat) : Nat :=
  if s.mode = .tripped then 5
  else if !rdB s hubB R.HUB_MODE_READY then 2
  else if 2 < m || overridden s mgmt m then 4
  else if rdB s hubB R.HUB_MODE_REQ_PENDING then 1
  else if m = 2 && (s.mode = .dormant || s.mode = .service) && !htValid s then 3
  else 0

/-- Carry out an accepted request. -/
def carryOut (mgmt : Bool) (m : Nat) (s : State) : State :=
  let cause := if mgmt then 2 else 1
  match m with
  | 0 =>
    if s.mode = .dormant then s
    else
      let s := wrB hubB R.HUB_MODE_REQ_PENDING true { s with hub := { s.hub with reqMgmt := mgmt } }
      each channels (fun n s =>
        match s.chState n with
        | .armed => disarm n s
        | .running => drain n (s.ht + 1) s
        | _ => s) s
  | 1 => if s.mode = .service then s else setMode .service cause s
  | _ =>
    if s.mode = .dormant || s.mode = .service then setMode (if degrade s = 0 then .show_ else .degraded) cause s else s

/-- A write of HUB_MODE_REQ by PF0, or by the management agent. In HOLD none reaches it until the exit (R90). -/
def modeReq (mgmt : Bool) (m : Nat) (s : State) : State :=
  if s.mode = .hold && !s.hub.returning then s
  else
    let r := reqReason s mgmt m
    if r != 0 then
      let s := raise 0x0102 noCh (m + 256 * r) s
      if r = 4 && overridden s mgmt m && !rdB s mgtB R.MGT_STATUS_OVR_MODE then
        mgtEvent 0x1107 (1 + 2 * rd s mgtB R.MGT_STATUS_OVR_CH + 4 * rd s mgtB R.MGT_STATUS_OVR_CEIL)
          (wrB mgtB R.MGT_STATUS_OVR_MODE true s)
      else s
    else carryOut mgmt m (setStanding mgmt m (wr hubB R.HUB_MODE_TARGET m s))

/-- MODE_REQ_DORMANT (R55). -/
def execModeReqDormant (mgmt : Bool) (s : State) : Host.Outcome State Fault Refusal := run (modeReq mgmt 0) s

/-- MODE_REQ_SERVICE (R53, R54). -/
def execModeReqService (mgmt : Bool) (s : State) : Host.Outcome State Fault Refusal := run (modeReq mgmt 1) s

/-- MODE_REQ_SHOW (R53). -/
def execModeReqShow (mgmt : Bool) (s : State) : Host.Outcome State Fault Refusal := run (modeReq mgmt 2) s

/-- MODE_REQ_UNREQUESTABLE (R47): a code from 3 up. -/
def execModeReqUnrequestable (mgmt : Bool) (m : Fin 8) (s : State) : Host.Outcome State Fault Refusal :=
  guarded (modeReqOk m) (modeReq mgmt m) s

/-- DORMANT_ENTERED: no channel is left ARMED, RUNNING or DRAINING. -/
def dormantEntered (s : State) : State :=
  if !rdB s hubB R.HUB_MODE_REQ_PENDING || inUse s then s
  else setMode .dormant (if s.hub.reqMgmt then 2 else 1) (dropRequest s)

/-- DORMANT_ENTERED (R55). -/
def execDormantEntered (s : State) : Host.Outcome State Fault Refusal := run dormantEntered s

/-! ### The hand-over (R82 to R88, R818, R840) -/

/-- A hand-over starts: `cause` as in event 0x0101, `rail` as in 0x0106. Below the stop voltage the mode does not change
(R88). -/
def handOver (cause rail : Nat) (vhold : Bool) (s : State) : State :=
  let s := { s with hub := { s.hub with t0 := s.tick, starting := false, returning := false } }
  let s := wr holdB R.HOLD_STATUS_ENTRIES (satU 8 (rd s holdB R.HOLD_STATUS_ENTRIES + 1)) s
  let s := wrB holdB R.HOLD_STATUS_HANDOVER true (wrB holdB R.HOLD_STATUS_LOG_OK false s)
  if vhold then handoverDark (if s.mode = .hold then s else enterHold cause rail s)
  else
    let s := gauge (wrB holdB R.HOLD_STATUS_VHOLD_OK false) s
    islandCheck (powerLost (wrB holdB R.HOLD_STATUS_HANDOVER false (handoverDark s)))

/-- Rail `r` is outside its range. -/
def railBad (r : Nat) (s : State) : State :=
  { s with hub := { s.hub with
    badRails := if s.hub.badRails.contains r then s.hub.badRails else s.hub.badRails ++ [r], stableAt := s.tick } }

/-- MAIN_OK has fallen, or a core rail is below its threshold: in TRIPPED nothing starts, in HOLD the 500 ms restart. -/
def supplyFell (cause rail : Nat) (vhold : Bool) (s : State) : State :=
  let s := { s with hub := { s.hub with stableAt := s.tick } }
  if !s.hub.up || s.mode = .tripped || (s.mode = .hold && !s.hub.returning) then s else handOver cause rail vhold s

/-- MAIN_OK falls. -/
def mainOkFall (vhold : Bool) (s : State) : State :=
  supplyFell 5 0xFF vhold { s with hub := { s.hub with mainOk := false, mainAt := s.tick } }

/-- MAIN_OK_FALL (R82). -/
def execMainOkFall (vhold : Bool) (s : State) : Host.Outcome State Fault Refusal := run (mainOkFall vhold) s

/-- The comparator of core rail `r` reports. -/
def railUnder (r : Nat) (vhold : Bool) (s : State) : State :=
  let s := railBad r s
  if s.mode = .tripped then powerLost s else supplyFell 6 r vhold s

/-- RAIL_UNDER_VOLTAGE (R818). -/
def execRailUnderVoltage (r : Fin 5) (vhold : Bool) (s : State) : Host.Outcome State Fault Refusal :=
  run (railUnder r vhold) s

/-- Confluence units that power down once the hold log is committed (R824). -/
def offAfterLog : List Nat := [0xA, 0xB, 0xE]

/-- Step 8: `k` records of the hold log have been committed. -/
def logCommitted (k : Nat) (s : State) : State :=
  if !rdB s holdB R.HOLD_STATUS_HANDOVER then s
  else
    let n := min k s.hub.holdLog.length
    let all : Bool := n == s.hub.holdLog.length
    let s := { s with hub := { s.hub with committed := s.hub.holdLog.take n } }
    let s := wrB holdB R.HOLD_STATUS_LOG_OK all (wrB holdB R.HOLD_STATUS_HANDOVER false s)
    let s := raise 0x0109 noCh (n % 65536 + 65536 * b2n (!all)) s
    if s.mode = .hold then each offAfterLog (fun i => trigger 0 i 0) s else s

/-- HOLD_LOG_COMMITTED (R82 step 8). -/
def execHoldLogCommitted (k : Nat) (s : State) : Host.Outcome State Fault Refusal := run (logCommitted k) s

/-! ### HOLD and its end (R86, R87, R91, R92, R97, R617, R843) -/

/-- MAIN_OK returns. -/
def mainOkRise (s : State) : State :=
  let s := { s with hub := { s.hub with mainOk := true, mainAt := s.tick, stableAt := s.tick } }
  if s.hub.up && s.mode = .hold then raise 0x0107 noCh (satU 32 ((s.tick - s.hub.t0) / us)) s else s

/-- MAIN_OK_RISE (R87). -/
def execMainOkRise (s : State) : Host.Outcome State Fault Refusal := run mainOkRise s

/-- The DRAM of a die lost its contents: it is initialised as after power-on (R617). -/
def contentLost (d : Nat) (s : State) : State :=
  let s := { s with mem := memDrop (2 ^ d) s.mem, memLost := setBit s.memLost d true, poison := s.poison.filter (fun e => dieOf (64 * e.1) != d) }
  let s := modDie d (fun x => { x with initNext := 0, initOut := [] }) s
  each (List.range 8) (fun m => wrB (ddrB d m) R.DDR_STATUS_CONTENT_LOST true) s

/-- The tick since which every supply has been in range: where rails 0 to 16 have left theirs, `back` is the tick at
which the last of them returned. -/
def inRangeSince (s : State) (back : Option Nat) : Option Nat :=
  if s.hub.badRails.isEmpty then some s.hub.stableAt
  else match back with
    | some t => if s.hub.stableAt < t && !s.hub.badRails.contains 17 then some t else none
    | none => none

/-- The conditions of R86 and R87 hold. -/
def mayExit (back : Option Nat) (s : State) : Bool :=
  s.hub.up && s.mode == .hold && !s.hub.returning && s.hub.mainOk
    && (inRangeSince s back).any (fun t => t + 500 * ms ≤ s.tick) && s.hub.t0 + 200 * ms ≤ s.tick

/-- HOLD_EXIT: `lost` are the dies whose VDDQ left its range during HOLD, `back` says when the rails that were out of
range returned. -/
def holdExit (x : StartIn) (lost : List Nat) (back : Option Nat) (s : State) : State :=
  if !mayExit back s then s
  else
    let s := { s with hub := { s.hub with badRails := [] } }
    let s := raise 0x0108 noCh (satU 32 ((s.tick - s.hub.t0) / ms)) s
    let s := each lost contentLost (holdReset s)
    if s.hub.perst then s else startUp x s

/-- HOLD_EXIT (R87, R92). -/
def execHoldExit (x : StartIn) (h : HoldEnd) (s : State) : Host.Outcome State Fault Refusal :=
  run (holdExit x (h.lost.map (·.val)) h.back) s

/-- VHOLD has fallen to the stop voltage in HOLD. -/
def vholdStop (s : State) : State :=
  if s.mode != .hold || !s.hub.island then s
  else
    let s := gauge (fun s =>
      let s := wrB holdB R.HOLD_STATUS_VHOLD_OK false s
      if s.hub.fromFull then
        setCharge s.hub.charge (wr holdB R.HOLD_CAPACITY_CAP (satU 24 (s.hub.drawn / 1000))
          { s with hub := { s.hub with learned := some (satU 24 (s.hub.drawn / 1000)) } })
      else s) s
    let s := raise 0x010E noCh (rd s holdB R.HOLD_VHOLD_MV) s
    islandCheck { s with hub := { s.hub with committed := s.hub.holdLog } }

/-- VHOLD_STOP (R91, R97). -/
def execVholdStop (s : State) : Host.Outcome State Fault Refusal := run vholdStop s

/-- HOLD_ISLAND_START: the island is powered again with no retained state. -/
def execHoldIslandStart (vhold : Bool) (s : State) : Host.Outcome State Fault Refusal :=
  run (fun s => if s.hub.island then s else islandStart vhold s) s

/-! ### Trips (R59, R60, R842) -/

/-- LOCKSTEP_DISAGREE (R53). -/
def execLockstepDisagree (s : State) : Host.Outcome State Fault Refusal := run (trip .lockstep) s

/-- RILL_READBACK_TRIP (R448): the rill of port `n` read back low while SAFE-DARK was driven. -/
def execRillReadbackTrip (n : Fin 192) (s : State) : Host.Outcome State Fault Refusal :=
  run (fun s => if rdB s (chB n) R.CH_STATUS_SAFE_DARK then trip .rill s else s) s

/-- TRIP_LATCH_CLEAR: MAIN_OK has been low for 100 ms; from TRIPPED the next power-good is a power-on reset. -/
def latchClear (s : State) : State :=
  if s.hub.mainOk || s.tick < s.hub.mainAt + 100 * ms then s
  else
    let s := { s with hub := { s.hub with tripCleared := s.hub.tripCleared ||| s.hub.tripLatch, tripLatch := 0 } }
    if s.mode = .tripped then powerLost s else s

/-- TRIP_LATCH_CLEAR (R60). -/
def execTripLatchClear (s : State) : Host.Outcome State Fault Refusal := run latchClear s

/-! ### Rails 5 to 17 (R819, R843) -/

/-- VDDIO leaves its range. -/
def vddioLoss (s : State) : State :=
  let s := railBad 17 s
  if !rdB s holdB R.HOLD_STATUS_VHOLD_OK then islandDown s
  else if s.mode = .tripped then powerLost s
  else s

/-- VDDIO_LOSS (R819). -/
def execVddioLoss (s : State) : Host.Outcome State Fault Refusal := run vddioLoss s

/-- VDDIO returns: the hold island starts where it was down; a device that runs performs a device reset. -/
def vddioReturn (x : StartIn) (s : State) : State :=
  if !s.hub.badRails.contains 17 then s
  else
    let s := { s with hub := { s.hub with badRails := s.hub.badRails.erase 17, stableAt := s.tick } }
    let s := if s.hub.island then s else islandStart false s
    if !s.hub.up || s.mode = .hold || s.mode = .tripped then s
    else
      let s := deviceReset s
      if s.hub.perst then s else startUp x s

/-- VDDIO_RETURN (R819). -/
def execVddioReturn (x : StartIn) (s : State) : Host.Outcome State Fault Refusal := run (vddioReturn x) s

/-- A SerDes rail of die `d`: its lanes lose lock, its UCIe modules retrain; die 0's also supply PCIe and Headwater. -/
def serdesLost (d : Nat) (s : State) : State :=
  let s := each (channelsOf d) (fun n => lanesLost n laneNums 1) s
  let s := refreshUcie (each [0, 1] (startRepair d) s)
  if d = 0 then each [0, 1, 2] hwLinkLost (linkReset 1 s) else s

/-- Rail `r` of rails 5 to 16 leaves its range. -/
def railOut (r : Nat) (s : State) : State :=
  let s := railBad r s
  if !s.hub.up || s.mode = .hold then s
  else if s.mode = .tripped then powerLost s
  else if r < 13 then serdesLost ((r - 5) % 4) s
  else each (List.range 8) (fun m s => if ddrState s (r - 13) m = 2 then fullRetrain (r - 13) m false s else s) s

/-- RAIL_OUT_OF_RANGE (R819): rail `r + 5`. -/
def execRailOutOfRange (r : Fin 12) (s : State) : Host.Outcome State Fault Refusal := run (railOut (r + 5)) s

/-! ### VF Enable (R682) -/

/-- VF_ENABLE: software sets VF Enable in PF0's SR-IOV capability. -/
def execVfEnable (s : State) : Host.Outcome State Fault Refusal :=
  run (fun s => { s with hub := { s.hub with vf := true } }) s

end Sys2Proof.Machine
end

