-- ==== Sys2Proof/Machine/Wheels.lean ====
section
/-!
DEFINITION. The commands of the moving parts (spec/12_wheels_scan_mirrors.md): running and stopping a wheel, starting
and stopping a scan mirror, the sweep, and what time alone brings about.
-/

namespace Sys2Proof.Machine
open Sys2Proof

/-- A moving-part command is rejected (R505). -/
def moveReject (n cmd reason : Nat) (s : State) : State :=
  raise 0x0A04 n (cmd + 16 * reason) (wr (chB n) R.MOVE_STATUS_REJECT reason s)

/-- The channel's wheel slot is RUNNING with ROLE WHEEL for this channel. -/
def wheelServed (s : State) (n : Nat) : Bool :=
  let k := wheelSlot s n
  s.slotState k == .running && slotRole s k == 3 && slotChannel s k == n

/-- The first failing check of R505, 0 for none. -/
def wheelReason (s : State) (n : Nat) (stop : Bool) : Nat :=
  let st := s.wst n
  if st = .off then 1
  else if !wheelServed s n then 2
  else if st = .unknown then 3
  else if stop && (st = .stopped || st = .rundown) then 4
  else 0

/-- Where ω_c starts: its own value in RAMP, LOCKED and RUNDOWN, the last measured speed in STOPPED and COAST (R503). -/
def wheelFrom (s : State) (n : Nat) : Option Nat :=
  if s.wst n = .stopped || s.wst n = .coast then some (rd s (chB n) R.MOVE_WSPEED_MEAS * wUnit) else none

/-- WHEEL_RUN: the target is latched and the profile runs (R502, R503). -/
def wheelRun (n : Nat) (s : State) : State :=
  let r := wheelReason s n false
  if r != 0 then moveReject n 1 r s
  else
    let tgt := min 0xF000 (rd s (chB n) R.MOVE_WHEEL_TGT_SPEED)
    let st := s.wst n
    let s := modMove n (fun m => { m with lockRun := 0 }) (wheelToward n tgt (wheelFrom s n) s)
    if tgt != 0 then wheelEval n (setWst n .ramp s)
    else if st = .ramp || st = .locked || st = .coast then setWst n .rundown s
    else wheelEval n s

/-- WHEEL_RUN (R503). -/
def execWheelRun (n : Fin 192) (s : State) : Host.Outcome State Fault Refusal := run (wheelRun n) s

/-- WHEEL_STOP: ω_c runs down to 0 under control. -/
def wheelStop (n : Nat) (s : State) : State :=
  let r := wheelReason s n true
  if r != 0 then moveReject n 2 r s else setWst n .rundown (wheelToward n 0 (wheelFrom s n) s)

/-- WHEEL_STOP (R503). -/
def execWheelStop (n : Fin 192) (s : State) : Host.Outcome State Fault Refusal := run (wheelStop n) s

/-- The automatic START of the scan slot (R513); a rejected one moves the mirror to RUNDOWN. -/
def scanAutoStart (n f : Nat) (s : State) : State :=
  let k := scanSlot s n
  let s := when_ (rdB s (chB n) R.MOVE_SCAN_CFG_AUTO_SP) (writeSetPoint k 0 (fOfInt f)) s
  let r := slotStart k s
  if r.1 then setSst n .locking r.2 else setSst n .rundown (moveReject n 5 2 r.2)

/-- Sweep frequency bounds in force (R518). -/
def sweepLo (s : State) (n : Nat) : Nat := max 8000 (min 48000 (rd s (chB n) R.MOVE_SCAN_SWEEP_F_LO))
def sweepHi (s : State) (n : Nat) : Nat := max 8000 (min 48000 (rd s (chB n) R.MOVE_SCAN_SWEEP_F_HI))

/-- The sweep drives frequency `f` for a dwell. -/
def sweepAt (n f : Nat) (s : State) : State :=
  writeActuator n 0x118 (16 * f) (modMove n (fun m => { m with sweepF := f, sweepAt := s.ht }) s)

/-- The first failing check of a scan command (R514). -/
def scanStartReason (s : State) (n : Nat) : Nat :=
  let k := scanSlot s n
  if s.sst n = .off then 1
  else if !(s.slotState k == .stopped && slotRole s k == 4 && slotChannel s k == n) then 2
  else if s.sst n = .unknown then 3
  else if s.sst n != .stopped then 4
  else 0

/-- SCAN_START: a resonant mirror sweeps, a galvanometer starts its slot (R510, R512, R513). -/
def scanStart (n : Nat) (s : State) : State :=
  let r := scanStartReason s n
  if r != 0 then moveReject n 3 r s
  else if rdB s (chB n) R.MOVE_SCAN_CFG_TYPE then scanAutoStart n (max 1000 (rd s (chB n) R.MOVE_SCAN_SWEEP_F_LO)) s
  else
    let s := modMove n (fun m => { m with sweep := [] }) (setSst n .sweep s)
    sweepAt n (sweepLo s n) (writeActuator n 0x114 (rd s (chB n) R.MOVE_SCAN_STEP_SAMP) s)

/-- SCAN_START (R514). -/
def execScanStart (n : Fin 192) (s : State) : Host.Outcome State Fault Refusal := run (scanStart n) s

/-- SCAN_STOP: accepted in SWEEP, LOCKING and LOCKED. -/
def scanStop (n : Nat) (s : State) : State :=
  match s.sst n with
  | .off => moveReject n 4 1 s
  | .unknown => moveReject n 4 3 s
  | .sweep => setSst n .rundown s
  | .locking => setSst n .rundown s
  | .locked => setSst n .rundown s
  | .stopped => moveReject n 4 4 s
  | .rundown => moveReject n 4 4 s

/-- SCAN_STOP (R514). -/
def execScanStop (n : Fin 192) (s : State) : Host.Outcome State Fault Refusal := run (scanStop n) s

/-- The counters of R518. -/
def moveCounters : List Fld :=
  [R.MOVE_WILK_CNT_COUNT, R.MOVE_IDXLOST_CNT_COUNT, R.MOVE_SILK_CNT_COUNT, R.MOVE_SWEEPFAIL_CNT_COUNT]

/-- MOVE_CNT_CLR (R518). -/
def execMoveCntClr (n : Fin 192) (s : State) : Host.Outcome State Fault Refusal :=
  run (resetFlds (chB n) moveCounters) s

/-- A sample has come within the last `t` ticks. -/
def recent (s : State) (at_ : Option Nat) (t : Nat) : Bool :=
  match at_ with
  | some x => s.ht ≤ x + t
  | none => false

/-- At least `t` ticks have passed since an instant. -/
def since (s : State) (at_ : Option Nat) (t : Nat) : Bool :=
  match at_ with
  | some x => x + t ≤ s.ht
  | none => false

/-- WHEEL_STOPPED: every speed sample over 100 ms at or below STOP; in RUNDOWN with the profile at 0 (R502). -/
def wheelStopped (n : Nat) (s : State) : State :=
  let m := s.move n
  let still := since s m.stopSince (100 * ms) && recent s m.speedAt (100 * ms)
  match s.wst n with
  | .unknown => if still then setWst n .stopped s else s
  | .coast => if still then setWst n .stopped s else s
  | .rundown => if still && m.wheel.value s.ht = 0 then setWst n .stopped s else s
  | _ => s

/-- WHEEL_STOPPED (R502). -/
def execWheelStopped (n : Fin 192) (s : State) : Host.Outcome State Fault Refusal := run (wheelStopped n) s

/-- WHEEL_SPEED_TIMEOUT: no valid speed sample for 100 ms in STOPPED or COAST. -/
def wheelSpeedTimeout (n : Nat) (s : State) : State :=
  let m := s.move n
  if (s.wst n = .stopped || s.wst n = .coast) && since s (some (m.speedAt.getD m.wAt)) (100 * ms) then
    setWst n .unknown (modMove n (fun m => { m with stopSince := none }) s)
  else s

/-- WHEEL_SPEED_TIMEOUT (R502). -/
def execWheelSpeedTimeout (n : Fin 192) (s : State) : Host.Outcome State Fault Refusal := run (wheelSpeedTimeout n) s

/-- WHEEL_LOCK_LOST: a lock condition has failed for longer than DWELL (R502). -/
def wheelLockLost (n : Nat) (s : State) : State :=
  let s := wheelEval n s
  match (s.move n).lockFail with
  | some t => if s.wst n = .locked && t + wDwell s n < s.ht then setWst n .ramp s else s
  | none => s

/-- WHEEL_LOCK_LOST (R502). -/
def execWheelLockLost (n : Fin 192) (s : State) : Host.Outcome State Fault Refusal := run (wheelLockLost n) s

/-- WHEEL_INTERLOCK_DWELL: a speed or phase condition has held for longer than DWELL (R506, R507). -/
def execWheelInterlockDwell (n : Fin 192) (s : State) : Host.Outcome State Fault Refusal := run (wheelEval n) s

/-- WHEEL_INTERLOCK_RELEASE (R507). -/
def execWheelInterlockRelease (n : Fin 192) (s : State) : Host.Outcome State Fault Refusal := run (wheelRelease n) s

/-- WHEEL_INDEX_LOST: no index for IDX_TO periods after the last predicted one withdraws the prediction (R509). -/
def wheelIndexLost (n : Nat) (s : State) : State :=
  match prediction s n with
  | none => s
  | some (_, p) =>
    let k := max 1 (rd s (chB n) R.MOVE_WHEEL_CFG_IDX_TO)
    if (s.move n).idxAt + k * p ≤ s.ht then
      let s := modMove n (fun m => { m with predWait := true }) s
      withdrawPred n (raise 0x0A03 n k (bump (chB n) R.MOVE_IDXLOST_CNT_COUNT s))
    else s

/-- WHEEL_INDEX_LOST (R509). -/
def execWheelIndexLost (n : Fin 192) (s : State) : Host.Outcome State Fault Refusal := run (wheelIndexLost n) s

/-- The resonance of a finished sweep, if it succeeded (R512). -/
def resonance (l : List (Nat × Nat)) : Option Nat :=
  let top := l.foldl (fun (a : Nat × Nat) x => if a.2 < x.2 then x else a) (0, 0)
  let lo := l.headD (0, 0)
  let hi := l.getLastD (0, 0)
  if top.2 != 0 && top.1 != lo.1 && top.1 != hi.1 && 2 * lo.2 ≤ top.2 && 2 * hi.2 ≤ top.2 then some top.1 else none

/-- SWEEP_STEP: at the end of a dwell the amplitude is recorded and the frequency stepped; after the last step the sweep
succeeds or fails (R512, R513). -/
def sweepStep (n : Nat) (s : State) : State :=
  let m := s.move n
  let dwell := max 1 (rd s (chB n) R.MOVE_SCAN_STEP_DWELL) * ms
  if s.sst n != .sweep || s.ht < m.sweepAt + dwell then s
  else
    let s := modMove n (fun m => { m with sweep := m.sweep ++ [(m.sweepF, rd s (chB n) R.MOVE_SCAN_MEAS_AMP)] }) s
    let f := m.sweepF + max 1 (rd s (chB n) R.MOVE_SCAN_STEP_STEP)
    if f ≤ sweepHi s n then sweepAt n f s
    else
      match resonance (s.move n).sweep with
      | some f => scanAutoStart n f (raise 0x0A07 n f (wr (chB n) R.MOVE_SCAN_MEAS_FRES f s))
      | none =>
        let s := wr (chB n) R.MOVE_SCAN_MEAS_FRES 0 (bump (chB n) R.MOVE_SWEEPFAIL_CNT_COUNT s)
        setSst n .rundown (raise 0x0A07 n 65536 s)

/-- SWEEP_STEP (R512). -/
def execSweepStep (n : Fin 192) (s : State) : Host.Outcome State Fault Refusal := run (sweepStep n) s

/-- SCAN_LOCKED (R510, R516). -/
def execScanLocked (n : Fin 192) (s : State) : Host.Outcome State Fault Refusal := run (scanRelease n) s

/-- SCAN_AMP_STALE: no amplitude sample for 1 ms (R515). -/
def execScanAmpStale (n : Fin 192) (s : State) : Host.Outcome State Fault Refusal := run (scanEval n) s

/-- SCAN_RUNDOWN_DONE: the commanded amplitude has reached 0; the slot stops and the drive is 0 (R510). -/
def scanRundownDone (n : Nat) (s : State) : State :=
  let m := s.move n
  if s.sst n != .rundown || m.runDone || m.scan.value s.ht != 0 then s
  else
    let k := scanSlot s n
    let s := modMove n (fun m => { m with runDone := true }) s
    let s := if slotActive s k && slotChannel s k = n then stopSlot k s else s
    writeActuator n 0x114 0 s

/-- SCAN_RUNDOWN_DONE (R510). -/
def execScanRundownDone (n : Fin 192) (s : State) : Host.Outcome State Fault Refusal := run (scanRundownDone n) s

/-- SCAN_STOPPED: every amplitude sample over 10 ms at or below 1 % (R510). -/
def scanStopped (n : Nat) (s : State) : State :=
  let m := s.move n
  if (s.sst n = .unknown || s.sst n = .rundown) && since s m.smallSince (10 * ms) && recent s m.ampAt (10 * ms) then
    setSst n .stopped s
  else s

/-- SCAN_STOPPED (R510). -/
def execScanStopped (n : Fin 192) (s : State) : Host.Outcome State Fault Refusal := run (scanStopped n) s

end Sys2Proof.Machine
end

