-- ==== Sys2Proof/Machine/Bus.lean ====
section
/-!
DEFINITION. Register accesses (spec/00_scope.md R8 to R17, R845; spec/20_register_map.md R798 to R806): a write by PF0, by
the management agent or by a VF does to each field what its access code gives, is rejected where it would change an RWF
field of a running block (R12), and then does what the register's own rule gives; a read latches the upper word of a pair
(R16) and advances the index of a data register (R845).
-/

namespace Sys2Proof.Machine
open Sys2Proof

/-! ### Fields of a written word -/

/-- What a word gives instance `i` of a field. -/
def Fld.of (f : Fld) (i v : Nat) : Nat := bits v (f.loAt i) f.w

/-- The word sets a one-bit field that stands alone. -/
def Fld.hit (f : Fld) (v : Nat) : Bool := bitOf v f.lo

/-- The channel of a block of channel registers. -/
def RegBlock.chan : RegBlock → Option Nat
  | .ch n => some n | .fetchL n _ => some n | .compL n _ => some n | .lampStr n _ => some n | .lampByp n _ => some n
  | _ => none

/-- The moving parts of a channel run (R518). -/
def moveRuns (s : State) (n : Nat) : Bool :=
  (match s.wst n with
    | .ramp => true | .locked => true | .rundown => true | _ => false)
  || (match s.sst n with
    | .sweep => true | .locking => true | .locked => true | .rundown => true | _ => false)

/-- The field is one of the moving-parts block. -/
def Fld.moves (f : Fld) : Bool := 0x1C00 ≤ f.off && f.off < 0x2000

/-- The block that owns an RWF field runs. -/
def ownerRuns (s : State) (b : RegBlock) (f : Fld) : Bool :=
  match b with
  | .ch n => if f.moves then moveRuns s n else chRuns s n
  | .lampStr n _ => chRuns s n
  | .lampByp n _ => chRuns s n
  | .ephy n => chRuns s n
  | .slot k => slotActive s k
  | .eddy d cl => eddyState s (eddyKey d cl) != 0
  | .time => inUse s
  | .ring t r => rdB s (ringB t r) R.SLUICE_RING_CFG_EN
  | .evRing t => rdB s (evRingB t) R.SLUICE_EV_CFG_EN
  | _ => false

/-- A code that a field rejects whatever runs: KIND 0b11 (R32), ROLE 0b10 and 0b11 (R151), a string above 5 (R450). -/
def badCode (b : RegBlock) (f : Fld) (x : Nat) : Bool :=
  match b with
  | .ch _ => (f.is R.CH_KIND_KIND && x == 3) || ((f.is R.LAMP_DRVMAP_LO_STR || f.is R.LAMP_DRVMAP_HI_STR) && 6 ≤ x)
  | .time => f.is R.TIME_CTRL_ROLE && 2 ≤ x
  | _ => false

/-- A word is rejected for instance `p.2` of field `p.1`. -/
def fldRejects (s : State) (b : RegBlock) (v : Nat) (p : Fld × Nat) : Bool :=
  let x := p.1.of p.2 v
  p.1.acc == .rwf && (badCode b p.1 x || (x != rd s b.base p.1 p.2 && ownerRuns s b p.1))

/-- WRITE_REJECTED of the block that owns an RWF field. -/
def rejectFld (b : RegBlock) (f : Fld) (s : State) : State :=
  match b with
  | .ch n => wrB (chB n) (if f.moves then R.MOVE_STATUS_WRITE_REJECTED else R.CH_STATUS_WRITE_REJECTED) true s
  | .lampStr n _ => wrB (chB n) R.CH_STATUS_WRITE_REJECTED true s
  | .lampByp n _ => wrB (chB n) R.CH_STATUS_WRITE_REJECTED true s
  | .ephy n => wrB (ephyB n) R.EPHY_STATUS_WRITE_REJECTED true s
  | .slot k => rejectSlot k s
  | .eddy d cl => wrB (eddyB d cl) R.LOOP_EDDY_STATUS_WRITE_REJECTED true s
  | .time => wrB timeB R.TIME_STATUS_WRITE_REJECTED true s
  | .ring t r => wrB (ringB t r) R.SLUICE_RING_STATUS_WRITE_REJECTED true s
  | _ => s

/-- A written word does to a field what its access code gives (R11). -/
def writeFld (b : RegBlock) (v : Nat) (p : Fld × Nat) (s : State) : State :=
  let x := p.1.of p.2 v
  if b.absent p.1 then s
  else match p.1.acc with
  | .rw => wr b.base p.1 x s p.2
  | .rwf => wr b.base p.1 x s p.2
  | .rwl => wr b.base p.1 x s p.2
  | .rws =>
    match b.chan with
    | some n => pendField n 0 b.base p.1 x p.2 s
    | none => s
  | .w1c => let y := rd s b.base p.1 p.2; wr b.base p.1 (y - (y &&& x)) s p.2
  | .ro => s
  | .wo => s

/-- Every field of a register. -/
def writeFlds (b : RegBlock) (o v : Nat) (s : State) : State := each (b.at_ o) (writeFld b v) s

/-! ### Registers whose write is a command of its own -/

/-- A STOP or DISARM by the management agent holds the channel (R789). -/
def holdChannel (n : Nat) (s : State) : State :=
  if isHeld s n then s
  else refreshOvr (bumpSnap (wr mgtB R.MGT_HOLD_HOLD (setBit (rd s mgtB R.MGT_HOLD_HOLD (n / 32)) (n % 32) true) s (n / 32)))

/-- CH_CTRL: of several bits the first in the order RESET, DISARM, STOP, CLEAR, ARM acts (R63, R69). -/
def chCtrl (mgmt : Bool) (n v : Nat) (s : State) : State :=
  if R.CH_CTRL_RESET.hit v then chResetCmd n s
  else if R.CH_CTRL_DISARM.hit v then chDisarm n (when_ mgmt (holdChannel n) s)
  else if R.CH_CTRL_STOP.hit v then chStop n (when_ mgmt (holdChannel n) s)
  else if R.CH_CTRL_CLEAR.hit v then chClear n s
  else if R.CH_CTRL_ARM.hit v then chArm mgmt n s
  else s

/-- LOCK_CMD: CLEAR_BROKEN, then RELEASE, then ACQUIRE (R719). -/
def lockCmd (ag n v : Nat) (s : State) : State :=
  when_ (R.LOCK_CMD_ACQUIRE.hit v) (lockAcquire ag n)
    (when_ (R.LOCK_CMD_RELEASE.hit v) (lockRelease ag n) (when_ (R.LOCK_CMD_CLEAR_BROKEN.hit v) (lockClear ag n) s))

/-- LOOP_SLOT_CTRL: its command bits act from the lowest to the highest, each in the state the one before left. -/
def slotCtrl (k v : Nat) (s : State) : State :=
  let s := when_ (R.LOOP_SLOT_CTRL_START.hit v) (fun s => (slotStart k s).2) s
  let s := when_ (R.LOOP_SLOT_CTRL_STOP.hit v) (slotStop k) s
  let s := when_ (R.LOOP_SLOT_CTRL_RESUME.hit v) (slotResume k (R.LOOP_SLOT_CTRL_RELOAD.hit v)) s
  let s := when_ (R.LOOP_SLOT_CTRL_SAFE.hit v) (slotSafe k) s
  when_ (R.LOOP_SLOT_CTRL_FREE.hit v) (slotFreed k) s

/-- EPHY_CTRL: a word with a change of EN, a TX_SLEEP or an LB_MODE that is not accepted is rejected whole (R12, R551,
R555). The bytes that a loopback run returns in error are the line's own, a free value. -/
def ephyCtrl (n v : Nat) (s : State) : State :=
  let b := ephyB n
  let en := R.EPHY_CTRL_EN.hit v
  let sleep := R.EPHY_CTRL_TX_SLEEP.hit v
  let m := R.EPHY_CTRL_LB_MODE.of 0 v
  let newLb : Bool := m != rd s b R.EPHY_CTRL_LB_MODE
  if (en != rdB s b R.EPHY_CTRL_EN && chRuns s n) || (sleep && s.chState n != .off) || (newLb && m != 0 && lbRefused s n m)
  then ephyReject n s
  else
    let s := wrB b R.EPHY_CTRL_DFE_HOLD (R.EPHY_CTRL_DFE_HOLD.hit v) s
    let s := if en then portEnable n s else portDisable n s
    let s := if sleep then txSleepEnter n s else txSleepExit n s
    let s := when_ newLb (loopbackMode n m) s
    let s := when_ (R.EPHY_CTRL_RETRAIN.hit v) (ephyRetrain n) s
    let s := when_ (R.EPHY_CTRL_LB_GO.hit v) (fun s => let d := draw 32 s; loopbackGo n d.1 d.2) s
    when_ (R.EPHY_CTRL_CNT_CLR.hit v) (ephyCntClr n) s

/-- The write of a register that is a command in itself, by the agent `ag`; none for every other register. -/
def ownWrite (ag : Nat) (b : RegBlock) (o v : Nat) (s : State) : Option State :=
  let mgmt : Bool := ag != 0
  match b with
  | .hub =>
    if o = R.HUB_MODE_REQ_REQ.off then some (modeReq mgmt (R.HUB_MODE_REQ_REQ.of 0 v) s)
    else if o = R.HUB_SVC_CEIL_CEIL.off then some (svcCeilWrite mgmt (R.HUB_SVC_CEIL_CEIL.of 0 v) s)
    else none
  | .lock n => if o = R.LOCK_CMD_ACQUIRE.off then some (lockCmd ag n v s) else none
  | .slDie d => if o = R.SLUICE_DIE_CAP_RES_PCT.off then some (capWrite d v s) else none
  | .hold => if o = R.HOLD_CAPACITY_CAP.off then some (holdCapWrite (R.HOLD_CAPACITY_CAP.of 0 v) s) else none
  | .hk => if o = R.HK_CAL_CTRL_GO.off && R.HK_CAL_CTRL_GO.hit v then some (calGo v s) else none
  | .evRing t => if o = R.SLUICE_EV_RD_RD.off then some (evRead t v s) else none
  | .ch n =>
    if o = R.CH_CTRL_ARM.off then some (chCtrl mgmt n v s)
    else if o = R.COMP_LUT_DATA_VALUE.off then some (lutAccess n (some (R.COMP_LUT_DATA_VALUE.of 0 v)) s)
    else if o = R.COMP_BRIGHT_LEVEL.off then some (brightWrite 0 n (R.COMP_BRIGHT_LEVEL.of 0 v) s)
    else if o = R.LAMP_CURVE_DATA_VALUE.off then some (lampCurveAccess n (some (R.LAMP_CURVE_DATA_VALUE.of 0 v)) s)
    else if o = R.WEIR_TRIM_TRIM.off then some (wr (chB n) R.WEIR_TRIM_TRIM v s)
    else none
  | .lampStr n k => if o = R.LAMP_SCEIL_CEIL.off then some (lampSceilWrite mgmt n k (R.LAMP_SCEIL_CEIL.of 0 v) s) else none
  | .die d =>
    if o = R.HUB_DIE_CTRL_RESET.off then some (if R.HUB_DIE_CTRL_RESET.hit v then dieReset d s else dieRelease d s)
    else none
  | .ddrDie d =>
    if o = R.DDR_DIE_WQ_HIGH.off then some (ddrWqWrite d (R.DDR_DIE_WQ_HIGH.of 0 v) (R.DDR_DIE_WQ_LOW.of 0 v) s) else none
  | .ephy n =>
    if o = R.EPHY_CTRL_EN.off then some (ephyCtrl n v s)
    else if R.EPHY_TXEQ_PRE.off ≤ o && o < R.EPHY_TXEQ_PRE.off + 20 then
      some (ephyTxeqWrite n ((o - R.EPHY_TXEQ_PRE.off) / 4) v s)
    else none
  | .cluster d cl =>
    if o = R.LOOP_BIND_DATA_DATA.off then some (bindAccess d cl (some v) s)
    else if o = R.LOOP_SP_DATA_VALUE.off then some (spDataWrite d cl v s)
    else if cl = 16 && (o = R.LOOP_BIND_IDX_SLOT.off || o = R.LOOP_SP_IDX_SLOT.off) then some s
    else none
  | .slot k => if o = R.LOOP_SLOT_CTRL_START.off then some (slotCtrl k v s) else none
  | .ring t r =>
    if o = R.SLUICE_SQ_TAIL_TAIL.off then some (doorbell t r (R.SLUICE_SQ_TAIL_TAIL.of 0 v) s)
    else if o = R.SLUICE_CQ_HEAD_HEAD.off then some (cqHeadWrite t r (R.SLUICE_CQ_HEAD_HEAD.of 0 v) s)
    else none
  | .apt t => if o = R.SLUICE_APT_HI_APT.off then some (aptBaseWrite t v s) else none
  | .tenant t =>
    if R.SLUICE_TSEG0_BASE.off ≤ o then
      some (segWrite t ((o - R.SLUICE_TSEG0_BASE.off) / 8) ((o - R.SLUICE_TSEG0_BASE.off) % 8 == 4) v s)
    else none
  | _ => none

/-! ### What a write does besides its fields -/

/-- TIME_CTRL: a change of role, then its command bits (R128, R131, R137, R151). `s0` is the state before the write. -/
def timeCtrl (s0 : State) (v : Nat) (s : State) : State :=
  let s := when_ (rd s timeB R.TIME_CTRL_ROLE != rd s0 timeB R.TIME_CTRL_ROLE) roleChanged s
  let s := when_ (R.TIME_CTRL_SET.hit v) timeSet s
  let s := when_ (R.TIME_CTRL_STEP_NOW.hit v) timeStepNow s
  let s := when_ (R.TIME_CTRL_SWITCH.hit v) timeSwitch s
  when_ (R.TIME_CTRL_CNT_CLR.hit v) (resetFlds timeB timeCounters) s

/-- KIND has changed: the mismatch with the head, and the scan mirror the channel has (R32, R500). -/
def kindChanged (n : Nat) (s : State) : State :=
  let s := showMismatch n s
  if !headScanM s n || rd s (chB n) R.CH_KIND_HEAD_KIND = 3 then s
  else if chKind s n != .scan then setSst n .off s
  else if s.sst n = .off then setSst n .unknown s
  else s

/-- Counters at 0x0608 to 0x0618, and FETCH_UFRAME (R188). -/
def fetchCounters : List Fld :=
  [R.FETCH_UNDERRUN_LINES_COUNT, R.FETCH_UNDERRUN_FRAMES_COUNT, R.FETCH_POISON_CNT_COUNT, R.FETCH_DECODE_CNT_COUNT,
   R.FETCH_RIGHTS_CNT_COUNT, R.FETCH_UFRAME_LO_HT, R.FETCH_UFRAME_HI_HT]

/-- MOVE_CTRL: a stop comes before a start of the same part (R503, R514). -/
def moveCtrl (n v : Nat) (s : State) : State :=
  let s := if R.MOVE_CTRL_WHEEL_STOP.hit v then wheelStop n s
    else when_ (R.MOVE_CTRL_WHEEL_RUN.hit v) (wheelRun n) s
  let s := if R.MOVE_CTRL_SCAN_STOP.hit v then scanStop n s
    else when_ (R.MOVE_CTRL_SCAN_START.hit v) (scanStart n) s
  when_ (R.MOVE_CTRL_CNT_CLR.hit v) (resetFlds (chB n) moveCounters) s

/-- Registers of a channel block. -/
def chHook (s0 : State) (n o v : Nat) (s : State) : State :=
  let b := chB n
  if o = R.CH_KIND_KIND.off then kindChanged n s
  else if o = R.FETCH_CTRL_CNT_CLR.off then when_ (R.FETCH_CTRL_CNT_CLR.hit v) (resetFlds b fetchCounters) s
  else if o = R.COMP_CTRL_PREEMPT.off then
    when_ (R.COMP_CTRL_CNT_CLR.hit v) (compCntClr n) (when_ (R.COMP_CTRL_PREEMPT.hit v) (preempt n none) s)
  else if o = R.PLANE_CTRL_CNT_CLR.off then when_ (R.PLANE_CTRL_CNT_CLR.hit v) (resetFlds b planeCounters) s
  else if o = R.SEQ_CTRL_SWAP.off then
    let s := when_ (R.SEQ_CTRL_SWAP.hit v)
      (fun s => requestSwap n 0 (rdPair s b R.SEQ_SWAP_T_LO_T R.SEQ_SWAP_T_HI_T) none s) s
    when_ (R.SEQ_CTRL_CNT_CLR.hit v) (resetFlds b [R.SEQ_FAULT_CNT_COUNT]) s
  else if o = R.SEQ_XCTRL_CNT_CLR.off then when_ (R.SEQ_XCTRL_CNT_CLR.hit v) (resetFlds b seqCounters) s
  else if o = R.WEIR_CTRL_CNT_CLR.off then when_ (R.WEIR_CTRL_CNT_CLR.hit v) (weirCntClr n) s
  else if o = R.LAMP_CTRL_CNT_CLR.off then
    let s := when_ (R.LAMP_CTRL_CNT_CLR.hit v) (resetFlds b lampCounters) s
    each ((strings s n).filter (bitOf (R.LAMP_CTRL_STR_CLR.of 0 v))) (stringClear n) s
  else if o = R.LAMP_RILL_CFG_LEN_M1.off || o = R.LAMP_DRVMAP_LO_STR.off || o = R.LAMP_DRVMAP_HI_STR.off then
    refreshServed n s
  else if o = R.LAMP_DERATE1_FLOOR.off || o = R.LAMP_DERATE2_THERM.off then each (strings s n) (derateUpdate n) s
  else if o = R.MOVE_CTRL_WHEEL_RUN.off then moveCtrl n v s
  else if o = R.MOVE_WHEEL_RAMP_ACC.off || o = R.MOVE_SCAN_LIM_PHTOL.off then reanchor n s
  else if o = R.EPROT_CTRL_CNT_CLR.off then when_ (R.EPROT_CTRL_CNT_CLR.hit v) (resetFlds b eprotCounters) s
  else if o = R.EPROT_CFG_STALE.off then
    let x := rd s b R.EPROT_CFG_DRIVE_HOLD
    when_ (rdB s b R.EPROT_STATUS_IDENTIFIED && x != rd s0 b R.EPROT_CFG_DRIVE_HOLD) (writeHead n 0x10C x) s
  else if o = R.EPROT_PASS_CTRL_GO.off then when_ (R.EPROT_PASS_CTRL_GO.hit v) (passThrough n) s
  else s

/-- EN of an event ring. -/
def evCfg (s0 : State) (t v : Nat) (s : State) : State :=
  let b := evRingB t
  let was := rdB s0 b R.SLUICE_EV_CFG_EN
  if R.SLUICE_EV_CFG_EN.hit v && !was then evEnable t (wrB b R.SLUICE_EV_CFG_EN false s) else s

/-- EN of a ring pair. -/
def ringCfg (s0 : State) (t r v : Nat) (s : State) : State :=
  let b := ringB t r
  let was := rdB s0 b R.SLUICE_RING_CFG_EN
  if R.SLUICE_RING_CFG_EN.hit v then (if was then s else ringEnable t r (wrB b R.SLUICE_RING_CFG_EN false s))
  else when_ was (ringDisable t r) s

/-- What a write of the register at `o` does once its fields have taken the word; `s0` is the state before. -/
def writeHook (s0 : State) (b : RegBlock) (o v : Nat) (s : State) : State :=
  match b with
  | .time => if o = R.TIME_CTRL_ROLE.off then timeCtrl s0 v s else s
  | .lockUnit =>
    if o = R.LOCK_CTRL_CNT_CLR.off then
      when_ (R.LOCK_CTRL_FORCE.hit v) (breakLock (R.LOCK_CTRL_INDEX.of 0 v) 3)
        (when_ (R.LOCK_CTRL_CNT_CLR.hit v) (resetFlds lockUnitB lockCounters) s)
    else s
  | .fab => when_ (o == R.HUB_FAB_CTRL_CNT_CLR.off && R.HUB_FAB_CTRL_CNT_CLR.hit v) (resetFlds fabB fabCounters) s
  | .mgt =>
    when_ (o == R.MGT_CTRL_CNT_CLR.off && R.MGT_CTRL_CNT_CLR.hit v)
      (resetFlds mgtB [R.MGT_MSG_CNT_COUNT, R.MGT_ERR_CNT_COUNT]) s
  | .hk => when_ (o == R.HK_CTRL_CNT_CLR.off && R.HK_CTRL_CNT_CLR.hit v) (resetFlds hkB hkCounters) s
  | .cfg =>
    if o = R.CFG_CTRL_WRITE.off then
      let s := when_ (R.CFG_CTRL_WRITE.hit v) (fun s => cfgWrite (rd s cfgB R.CFG_CTRL_TYPE) s) s
      let s := when_ (R.CFG_CTRL_ACTIVATE.hit v) cfgActivate s
      when_ (R.CFG_CTRL_CNT_CLR.hit v) (resetFlds cfgB cfgCounters) s
    else s
  | .hold => if o = R.HOLD_VTHR_VFULL.off then vthrWritten s else gauge id s
  | .ch n => chHook s0 n o v s
  | .d2d d =>
    if o = R.HUB_D2D_CTRL_CNT_CLR.off then
      let s := when_ (R.HUB_D2D_CTRL_CNT_CLR.hit v) (resetFlds (d2dB d) d2dCounters) s
      when_ (R.HUB_D2D_CTRL_RETRAIN1.hit v) (startRepair d 1) (when_ (R.HUB_D2D_CTRL_RETRAIN0.hit v) (startRepair d 0) s)
    else s
  | .ddr d m =>
    if o = R.DDR_CTRL_CNT_CLR.off then
      when_ (R.DDR_CTRL_MIGRATE.hit v) (ddrMigrate d m (R.DDR_CTRL_MIG_RANK.of 0 v))
        (when_ (R.DDR_CTRL_CNT_CLR.hit v) (ddrCntClr d m) s)
    else s
  | .ddrDie d => when_ (o == R.DDR_DIE_CTRL_CNT_CLR.off && R.DDR_DIE_CTRL_CNT_CLR.hit v) (ddrDieCntClr d) s
  | .cluster d cl => when_ (o == R.LOOP_CL_CTRL_CNT_CLR.off && R.LOOP_CL_CTRL_CNT_CLR.hit v) (clusterClear d cl) s
  | .core d c =>
    if o = R.LOOP_CORE_CTRL_RESET.off && c < 64 then
      if R.LOOP_CORE_CTRL_RESET.hit v then loopCoreReset d c s
      else when_ (R.LOOP_CORE_CTRL_MIGRATE.hit v) (coreMigrate (64 * d + c)) s
    else s
  | .oxb d =>
    if o = R.HUB_OXB_CTRL_SUBST.off then
      when_ (R.HUB_OXB_CTRL_CNT_CLR.hit v) (resetFlds (oxbB d) oxbCounters)
        (when_ (R.HUB_OXB_CTRL_SUBST.hit v) (oxRequest d (R.HUB_OXB_CTRL_PORT.of 0 v)) s)
    else s
  | .eddy d cl =>
    if o = R.LOOP_EDDY_CTRL_ARM.off then
      let e := eddyKey d cl
      when_ (R.LOOP_EDDY_CTRL_DISARM.hit v) (eddyDisarm e)
        (when_ (R.LOOP_EDDY_CTRL_TRIGGER.hit v) (eddyTrigger e) (when_ (R.LOOP_EDDY_CTRL_ARM.hit v) (eddyArm e) s))
    else s
  | .slot k =>
    when_ (o == R.LOOP_SLOT_CFG_CHANNEL.off && slotChannel s k != slotChannel s0 k)
      (fun s => each (List.range 16) (forgetInput k) s) s
  | .ring t r => if o = R.SLUICE_RING_CFG_EN.off then ringCfg s0 t r v s else s
  | .evRing t => if o = R.SLUICE_EV_CFG_EN.off then evCfg s0 t v s else s
  | .tenant t => when_ (o == R.SLUICE_TCTRL_CNT_CLR.off && R.SLUICE_TCTRL_CNT_CLR.hit v) (resetFlds (tenB t) tenantCounters) s
  | _ => s

/-- A word written to the register at offset `o` of a block. -/
def writeBlk (ag : Nat) (b : RegBlock) (o v : Nat) (s : State) : State :=
  match ownWrite ag b o v s with
  | some t => t
  | none =>
    match (b.at_ o).find? (fldRejects s b v) with
    | some p => rejectFld b p.1 s
    | none => writeHook s b o v (writeFlds b o v s)

/-! ### PF0, the management agent and the VFs -/

/-- A word written to a program window: the banks are not written here, the descriptor halves are (R297, R326). -/
def writeWindow (n o v : Nat) (s : State) : State :=
  if inReset s (n / 48) then s
  else if o < 0x8000 then wrB (chB n) R.SEQ_STATUS_WRITE_REJECTED true s
  else setDescrWord n ((o - 0x8000) / 0x4000) (o % 0x4000 / 4) v s

/-- A word written by agent `ag` at an offset of PF0 BAR0. A write that is not one of a whole register has no effect
(R14), nor has one to a unit held in reset (R715, R805) or to what is reserved (R17). -/
def writeWord (ag a v : Nat) (s : State) : State :=
  if a % 4 != 0 then s
  else match windowAt a with
    | some (n, o) => writeWindow n o v s
    | none =>
      match blockAt a with
      | some b => if b.silent s then s else writeBlk ag b (ofsIn b a) v s
      | none => s

/-- The host port is powered down (R90, R824). -/
def hostOff (s : State) : Bool := (s.mode == .hold && !s.hub.returning) || s.mode == .tripped

/-- A word written by VF `t` in its own BAR0: its rings, aperture and event ring, and COMP_BRIGHT in a view (R665, R688). -/
def vfWrite (t o v : Nat) (s : State) : State :=
  if o % 4 != 0 || !fnUp s t then s
  else if 0x10000 ≤ o && o < 0x20000 then
    match grantAt s t ((o - 0x10000) / 0x1000) with
    | some g => if o % 0x1000 = 0xC4 then brightWrite t g.channel (R.COMP_BRIGHT_LEVEL.of 0 v) s else s
    | none => s
  else
    match vfBlock t o, vfAddr t o with
    | some (.ring t r), some a => writeBlk 0 (.ring t r) (ofsIn (.ring t r) a) v s
    | some (.apt t), some a => writeBlk 0 (.apt t) (ofsIn (.apt t) a) v s
    | some (.evRing t), some a => writeBlk 0 (.evRing t) (ofsIn (.evRing t) a) v s
    | _, _ => s

/-- A 32-bit register write by function `fn`. -/
def regWrite (fn a v : Nat) (s : State) : State :=
  if hostOff s then s else if fn = 0 then writeWord 0 a v s else vfWrite fn a v s

/-- The 32-bit words of a write's data, in ascending address order (R15). What is fewer than 32 bits makes none (R14). -/
def accessWords (data : List Byte) : List (Nat × Nat) :=
  (List.range (data.length / 4)).map (fun i => (4 * i, leVal ((data.drop (4 * i)).take 4)))

/-- A write of any width: its 32-bit accesses one after the other. -/
def busWrite (fn a : Nat) (data : List Byte) (s : State) : State :=
  each (accessWords data) (fun w => regWrite fn (a + w.1) w.2) s

/-- REGISTER_WRITE (R11, R14, R15). -/
def execRegisterWrite (fn : Fin 257) (a : Nat) (data : List Byte) (s : State) : Host.Outcome State Fault Refusal :=
  run (busWrite fn a data) s

/-! ### Reads -/

/-- What a read of a data register does besides answering: its index advances. -/
def readEffect (b : RegBlock) (o : Nat) : Option (State → State) :=
  match b with
  | .ch n =>
    if o = R.COMP_LUT_DATA_VALUE.off then some (lutAccess n none)
    else if o = R.LAMP_CURVE_DATA_VALUE.off then some (lampCurveAccess n none)
    else none
  | .cluster d cl => if o = R.LOOP_BIND_DATA_DATA.off then some (bindAccess d cl none) else none
  | .hk => if o = R.HK_CAL_DATA_VALUE.off then some (calDataRead 0) else none
  | _ => none

/-- A read of PF0 BAR0 by agent `ag`: the word, and what the read brings about. -/
def readReg (ag a : Nat) (s : State) : Nat × State :=
  let r := readWord ag a s
  match blockAt (a / 4 * 4) with
  | some b =>
    if b.silent s then r
    else
      match readEffect b (ofsIn b (a / 4 * 4)) with
      | some f => (r.1, { f r.2 with out := s.out })
      | none => r
  | none => r

/-- A 32-bit register read by function `fn`. -/
def regRead (fn a : Nat) (s : State) : Nat × State := if fn = 0 then readReg 0 a s else vfReadWord fn a s

/-- A read of `len` bytes at `a`: one access of each word it touches, in ascending order (R15); the answer is the
addressed bytes (R14). -/
def busRead (fn a len : Nat) (s : State) : State :=
  if hostOff s || !fnUp s fn || len = 0 then s
  else
    let r := (List.range ((a % 4 + len + 3) / 4)).foldl (fun (x : List Byte × State) i =>
      let y := regRead fn (a / 4 * 4 + 4 * i) x.2
      (x.1 ++ leBytes 4 y.1, y.2)) ([], s)
    emitOut (.readData fn ((r.1.drop (a % 4)).take len)) r.2

/-- REGISTER_PAIR_READ (R14 to R16). -/
def execRegisterPairRead (fn : Fin 257) (at_ : BusSpan) (s : State) : Host.Outcome State Fault Refusal :=
  run (busRead fn at_.addr at_.len) s

/-! ### The management agent (R774) -/

/-- WRITE_REJECTED of the registers of a block. -/
def rejFlags (s : State) (b : RegBlock) : List (Nat × Fld) :=
  match b with
  | .time => [(timeB, R.TIME_STATUS_WRITE_REJECTED)]
  | .lock n => [(lockB n, R.LOCK_STAT_WRITE_REJECTED)]
  | .hk => [(hkB, R.HK_CAL_STATUS_WRITE_REJECTED)]
  | .ch n => [(chB n, R.CH_STATUS_WRITE_REJECTED), (chB n, R.MOVE_STATUS_WRITE_REJECTED),
      (chB n, R.EPROT_STATUS_WRITE_REJECTED)]
  | .lampStr n _ => [(chB n, R.CH_STATUS_WRITE_REJECTED)]
  | .lampByp n _ => [(chB n, R.CH_STATUS_WRITE_REJECTED)]
  | .ephy n => [(ephyB n, R.EPHY_STATUS_WRITE_REJECTED)]
  | .ddr d m => [(ddrB d m, R.DDR_STATUS_WRITE_REJECTED)]
  | .ddrDie d => [(ddrDieB d, R.DDR_DIE_STATUS_WRITE_REJECTED)]
  | .cluster d cl => [(slB (clusterSlot d cl (rd s (clB d cl) R.LOOP_BIND_IDX_SLOT)), R.LOOP_SLOT_STATUS_WRITE_REJECTED)]
  | .slot k => [(slB k, R.LOOP_SLOT_STATUS_WRITE_REJECTED)]
  | .eddy d cl => [(eddyB d cl, R.LOOP_EDDY_STATUS_WRITE_REJECTED)]
  | .oxb d => [(oxbB d, R.HUB_OXB_STATUS_WRITE_REJECTED)]
  | _ => []

/-- WRITE_REJECTED of the register at an offset of PF0 BAR0. -/
def rejFlagsAt (s : State) (a : Nat) : List (Nat × Fld) :=
  match windowAt a with
  | some (n, _) => [(chB n, R.SEQ_STATUS_WRITE_REJECTED)]
  | none =>
    match blockAt a with
    | some b => rejFlags s b
    | none => []

/-- The word would be rejected by its register: with the flags clear, the write sets one. -/
def wordRejected (ag a v : Nat) (s : State) : Bool :=
  let l := rejFlagsAt s a
  let t := writeWord ag a v (each l (fun e => wrB e.1 e.2 false) s)
  l.any (fun e => rdB t e.1 e.2)

/-- The regions that a REG_WRITE does not reach (R774). -/
def mgmtExcluded (a : Nat) : Bool :=
  (0x40000 ≤ a && a < 0x70000) || (0x80000 ≤ a && a < 0x90000) || (0x3000000 ≤ a && a < 0x3001000)
    || (0x3001000 ≤ a && a < 0x3101000 && !(R.SLUICE_TSEG0_BASE.off ≤ a % 0x1000))

end Sys2Proof.Machine
end

