-- ==== Sys2Proof/Machine/Compose.lean ====
section
/-!
DEFINITION. The composition of frames as events (spec/04_surfaces_fetch.md R172 to R189; spec/05_layers_levee.md R217
to R236; spec/06_pixels_to_planes.md R243 to R257): what a delivered fetch read, a line deadline and the end of a frame
do, the slots of the plane pool and write-back.
-/

namespace Sys2Proof.Machine
open Sys2Proof

/-- The frame being composed: the oldest one flipped and not ended. -/
def composing (s : State) (n : Nat) : Option Frm := (s.frmsOf n).find? (fun f => f.flipped && !f.comp.ended)

/-- Output width and height of a frame. -/
def frmW (f : Frm) (n : Nat) : Nat := gv f.comp (chB n) R.PLANE_GEOM_W_M1 + 1
def frmH (f : Frm) (n : Nat) : Nat := gv f.comp (chB n) R.PLANE_GEOM_H_M1 + 1

def modComp (n fno : Nat) (g : Comp → Comp) (s : State) : State := modFrm n fno (fun f => { f with comp := g f.comp }) s

/-! ### What a line needs -/

/-- The layer has pixels on output line `y`: it takes part, its output covers the line, and no rights fault has made it
transparent from an earlier line or this one on (R179, R191, R192). -/
def needsLayer (c : Comp) (n k y : Nat) : Bool :=
  let py : Int := sext 16 (gv c (compB n k) R.COMP_LDST_POS_Y)
  let scaled := k < 8 && gv c (compB n k) R.COMP_LSCALER_SCALER < 4
  let h := if scaled then gv c (compB n k) R.COMP_LDST_SIZE_H_M1 + 1 else gv c (fetchB n k) R.FETCH_SRC_SIZE_H_M1 + 1
  let r := tget {} k c.rights
  takesPart c n k && (r.n == 0 || y < r.arg) && py ≤ (y : Int) && (y : Int) < py + (h : Int)

/-- Data of layer `k` for line `y`, once delivered. -/
def gotLine (c : Comp) (k y : Nat) : Option (List Px) := (c.got.find? (·.1 == 16 * y + k)).map (·.2)

/-- Every layer of the line has delivered. -/
def lineReady (c : Comp) (n y : Nat) : Bool :=
  (List.range 9).all (fun k => !needsLayer c n k y || (gotLine c k y).isSome)

/-! ### Reading and delivering (R173 to R175, R179 to R181) -/

/-- Read one unit of layer `k` for line `y` unless it has been read in the frame; a read without right makes the layer
transparent from the line on, and counts the frame (R179). -/
def readUnit (n fno k y u : Nat) (s : State) : State :=
  match frameOf s n fno with
  | none => s
  | some f =>
    let c := f.comp
    if !needsLayer c n k y || (c.unit k u).isSome then s
    else
      match fetchUnit s (layerFn c k) (layerSurf s c n k) u with
      | some g => modComp n fno (fun c => { c with units := c.units ++ [((k, u), g)] }) s
      | none => bump (chB n) R.FETCH_RIGHTS_CNT_COUNT
          (modComp n fno (fun c => { c with rights := tset {} k { n := 1, stamp := s.ht, arg := y } c.rights }) s)

/-- Issue the reads of layer `k` for line `y`, up to output column `lim`. -/
def issueLine (n fno k y lim : Nat) (s : State) : State :=
  match frameOf s n fno with
  | none => s
  | some f =>
    if !needsLayer f.comp n k y then s
    else each (lineUnits s f.comp n k (frmW f n) y lim) (readUnit n fno k y) s

/-- Issue the Levee's reads for the lines up to `y` ahead of a tenant layer's for line `y` (R175). -/
def issueLevee (n fno from_ y : Nat) (s : State) : State :=
  each (List.range (y + 1 - from_)) (fun i s => issueLine n fno 8 (from_ + i) (2 ^ 16) s) s

/-- Add `m` occurrences to a layer's count of a frame. -/
def addCount (k m arg ht : Nat) (t : Tbl FrameCount) : Tbl FrameCount :=
  let o := tget {} k t
  if m = 0 then t else tset {} k (if o.n = 0 then { n := m, stamp := ht, arg } else { o with n := o.n + m }) t

/-- Count the replaced bursts and tiles among delivered units of a layer, each once in the frame (R180, R181). -/
def countDamage (n fno k : Nat) (us : List Nat) (s : State) : State :=
  match frameOf s n fno with
  | none => s
  | some f =>
    let c := f.comp
    let new_ := us.filter (fun u => !c.seen.contains (k, u))
    let ps := new_.filter (fun u => c.unit k u == some .poison)
    let ds := new_.filterMap (fun u => match c.unit k u with
      | some (.decode e) => some (u, e)
      | _ => none)
    let s := bump (chB n) R.FETCH_POISON_CNT_COUNT s ps.length
    let s := bump (chB n) R.FETCH_DECODE_CNT_COUNT s ds.length
    modComp n fno (fun c => { c with
      seen := c.seen ++ ps.map (fun u => (k, u)) ++ ds.map (fun x => (k, x.1))
      poison := addCount k ps.length 0 s.ht c.poison
      decode := addCount k ds.length ((ds.headD (0, 0)).2) s.ht c.decode }) s

/-- Data of a layer for a line is delivered, up to output column `lim`. -/
def deliverLayer (n fno k y lim : Nat) (s : State) : State :=
  let s := issueLine n fno k y lim s
  match frameOf s n fno with
  | none => s
  | some f =>
    if !needsLayer f.comp n k y then s
    else
      let s := countDamage n fno k (lineUnits s f.comp n k (frmW f n) y lim) s
      modComp n fno (fun c => { c with got := c.got ++ [(16 * y + k, layerLine s f.comp n k (frmW f n) y lim)] }) s

/-! ### The plane pool (R251 to R254) -/

/-- First byte and length of a frame's slot. -/
def slotOf (s : State) (n : Nat) (f : Frm) : Nat × Nat :=
  let m := fmtOf s n f
  let z := slotBytes (chKind s n) m
  (ownDie n (m.base + f.g % max 1 m.frames * z), z)

/-- The frame's slot is free (R253). -/
def slotFree (s : State) (n : Nat) (f : Frm) : Bool :=
  let a := slotOf s n f
  ((s.frmsOf n).filter (fun p => p.fno < f.fno && p.flipped && !p.dropped)).all (fun p =>
    let b := slotOf s n p
    !(a.1 < b.1 + b.2 && b.1 < a.1 + a.2)
      || (itemsGone s n p.fno
          && (p.fmt != f.fmt || ((s.frmsOf n).filter (fun q => q.flipped && q.fmt == p.fmt && q.g == p.g + 1)).all
            (fun q => itemsGone s n q.fno))))

/-- Write one line of a frame into its slot: its row of every plane, or its line record (R247 to R251). -/
def writeLine (n : Nat) (f : Frm) (y : Nat) (l : List (Nat × Nat × Nat)) (s : State) : State :=
  let m := fmtOf s n f
  let k := chKind s n
  let codes := lineCodes f.comp n f.dither m.depth y l
  let s := if k = .scan then store (poolItem k m f.g y).1 (lineRecord m.w m.depth y m.bidir codes) s
    else each m.slices.zipIdx (fun p s =>
      store ((poolItem k m f.g p.2).1 + y * rowPitch m.w) (planeRow m.w p.1.2 (codes.getD p.1.1 [])) s) s
  modFrm n f.fno (fun f => { f with
    written := f.written + 1, lineT := f.lineT ++ [s.ht]
    complete := if f.written + 1 = m.h then some s.ht else f.complete }) s

/-- A composed line passes to the slice stage: written, kept while the slot is not free, or dropped with its frame. -/
def sliceLine (n : Nat) (f : Frm) (y : Nat) (l : List (Nat × Nat × Nat)) (s : State) : State :=
  if f.dropped then s
  else if f.comp.held = [] && slotFree s n f then writeLine n f y l s
  else modFrm n f.fno (fun f => { f with waited := true, comp := { f.comp with held := f.comp.held ++ [l] } }) s

/-! ### Signatures (R233) -/

/-- Bytes of a composite pixel in a signature. -/
def sigBytes (p : Px) : List Nat := [p.r % 256, p.r / 256, p.g % 256, p.g / 256, p.b % 256, p.b / 256]

/-- The pixels of line `y` inside a window with corner and size given by four fields. -/
def windowPart (c : Comp) (n y : Nat) (fx fy fw fh : Fld) (line : List Px) : List Px :=
  let g := fun (f : Fld) => gv c (chB n) f
  if y < g fy || g fy + g fh < y then [] else (line.drop (g fx)).take (g fw + 1)

/-- Take a line into the frame's signatures. -/
def signLine (c : Comp) (n y : Nat) (line : List Px) : Comp :=
  let pf := if gv c (chB n) R.COMP_CTRL_FRZ_EN = 0 then []
    else if gv c (chB n) R.COMP_CTRL_FRZ_WIN = 0 then line
    else windowPart c n y R.COMP_FRZ_WPOS_X R.COMP_FRZ_WPOS_Y R.COMP_FRZ_WSIZE_W_M1 R.COMP_FRZ_WSIZE_H_M1 line
  let pl := if !c.levee then []
    else windowPart c n y R.COMP_LEVEE_WPOS_X R.COMP_LEVEE_WPOS_Y R.COMP_LEVEE_WSIZE_W_M1 R.COMP_LEVEE_WSIZE_H_M1 line
  let crc := fun (r : Nat) (l : List Px) => l.foldl (fun r p => (sigBytes p).foldl crc32Byte r) r
  { c with sigF := crc c.sigF pf, sigL := crc c.sigL pl, lenF := c.lenF + 6 * pf.length, lenL := c.lenL + 6 * pl.length }

/-- A finished signature; that of an empty window is 0. -/
def sigOf (r len : Nat) : Nat := if len = 0 then 0 else r ^^^ 0xFFFFFFFF

/-! ### One line -/

/-- The composite of line `y` (R190, R203 to R205): complete up to column `x`, background from there on with the Levee
over it where its data has arrived (R182). -/
def compositeLine (c : Comp) (n w y x : Nat) : List Px :=
  let bg := List.replicate w (background c n)
  let ks := (List.range 9).filter (fun k => needsLayer c n k y)
  let full := ks.foldl (fun l k => blendLine c n k l ((gotLine c k y).getD [])) bg
  let fill := match gotLine c 8 y with
    | some l => if needsLayer c n 8 y then blendLine c n 8 bg l else bg
    | none => bg
  full.take x ++ fill.drop x

/-- Compose line `y` of a frame: `x` the first pixel not complete, `mx` the first whose map data is late, `wbFit` that
its write-back data could be written (R27, R182, R217 to R224). -/
def composeLine (n fno y x mx : Nat) (wbFit : Bool) (s : State) : State :=
  match frameOf s n fno with
  | none => s
  | some f =>
    let w := frmW f n
    let line := compositeLine f.comp n w y x
    let prims := line.zipIdx.map (fun p => colourPx s f.comp n mx y p.2 p.1)
    let miss := mapMisses s f.comp n mx w y
    let s := bump (chB n) R.COMP_UMAP_FALLBACK_CNT_COUNT s miss.length
    let s := match f.comp.wb with
      | some h =>
        let sf := surf s 0 h
        if wbFit then store (sf.base + y * sf.stride) (writeBackRow sf.fmt prims) s
        else modComp n fno (fun c => { c with wbDrop := c.wbDrop + 1 }) s
      | none => s
    let s := modFrm n fno (fun f => { f with
      lines := y + 1
      comp := { signLine f.comp n y line with
        got := f.comp.got.filter (fun g => 16 * (y + 1) ≤ g.1)
        mapMiss := miss.foldl (fun t cause => countIn cause 0 s.ht t) f.comp.mapMiss } }) s
    sliceLine n ((frameOf s n fno).getD f) y prims s

/-- Compose the lines before line `upTo` whose data is complete, while the slice stage does not wait for a slot. -/
def advance (n fno upTo : Nat) (wbFit : Bool) : Nat → State → State
  | 0, s => s
  | fuel + 1, s =>
    match frameOf s n fno with
    | none => s
    | some f =>
      if f.lines < upTo && lineReady f.comp n f.lines && (f.dropped || (f.comp.held == [] && slotFree s n f)) then
        advance n fno upTo wbFit fuel (composeLine n fno f.lines (frmW f n) (frmW f n) wbFit s)
      else s

/-- Every line before `y` that the layer has pixels on, from the next to be composed, has been delivered: a layer's lines
come in output order (R174). -/
def linesBefore (f : Frm) (n k y : Nat) : Bool :=
  (List.range (y - f.lines)).all (fun i => !needsLayer f.comp n k (f.lines + i) || (gotLine f.comp k (f.lines + i)).isSome)

/-- FETCH_READ_DONE: the data of layer `k` for output line `y` is in the fetch buffer. Data of a line that was filled at
its deadline is discarded (R184). The Levee's reads go before a tenant layer's (R175). The last line is composed by
FRAME_COMPOSED. -/
def fetchReadDone (n k y : Nat) (wbFit : Bool) (s : State) : State :=
  match composing s n with
  | none => s
  | some f =>
    if y < f.lines || frmH f n ≤ y || !needsLayer f.comp n k y || (gotLine f.comp k y).isSome || !linesBefore f n k y then s
    else
      let s := if k = 8 then s else issueLevee n f.fno f.lines y s
      advance n f.fno (frmH f n - 1) wbFit (frmH f n) (deliverLayer n f.fno k y (frmW f n) s)

/-- FETCH_READ_DONE (R180). -/
def execFetchReadDone (n : Fin 192) (k : Fin 9) (y : Nat) (wbFit : Bool) (s : State) :
    Host.Outcome State Fault Refusal :=
  run (fetchReadDone n k y wbFit) s

/-- Line deadline of row `y` (R256, R257). -/
def lineDeadline (s : State) (n : Nat) (f : Frm) (y : Nat) : Nat :=
  let pace := gv f.comp (chB n) R.PLANE_PACE_PACE
  let rdy := f.bnd - lead s n
  if chKind s n = .scan then rdy + y * pace else rdy - (frmH f n - 1 - y) * pace

/-- A line has not been composed whole at its deadline (R183). -/
def countUnder (n fno y : Nat) (waiting : Bool) (s : State) : State :=
  bump (chB n) R.FETCH_UNDERRUN_LINES_COUNT (modFrm n fno (fun f => { f with
    waitLines := if waiting then f.waitLines + 1 else f.waitLines
    waited := f.waited || waiting
    comp := { f.comp with under :=
      if f.comp.under.n = 0 then { n := 1, stamp := s.ht, arg := y } else { f.comp.under with n := f.comp.under.n + 1 } } }) s)

/-- LINE_DEADLINE: the next line's deadline comes. Pixels from `at_.x` on are not composed: the line is an underrun line
unless that is its whole width; the Levee's data has come up to column `at_.levee`, and map data from `mx` on is late
(R182, R183, R185, R222). Pixels that were composed had their data, the Levee's first (R175). While the slice stage waits
for a slot nothing of the line has been composed (R254). -/
def lineDeadlinePass (n : Nat) (at_ : LineEnd) (mx : Nat) (wbFit : Bool) (s : State) : State :=
  match composing s n with
  | none => s
  | some f =>
    let y := f.lines
    let w := frmW f n
    if frmH f n ≤ y || s.ht < lineDeadline s n f y then s
    else
      let waiting := !f.dropped && !(f.comp.held == [] && slotFree s n f)
      let x := if waiting then 0 else min at_.x w
      let s := each [8, 0, 1, 2, 3, 4, 5, 6, 7] (fun k s =>
        let lim := if k = 8 then max x (min at_.levee w) else x
        let due : Bool := match frameOf s n f.fno with
          | some g => needsLayer g.comp n k y && (gotLine g.comp k y).isNone && lim != 0
          | none => false
        when_ due (deliverLayer n f.fno k y lim) s) s
      composeLine n f.fno y x mx wbFit (when_ (x < w) (countUnder n f.fno y waiting) s)

/-- LINE_DEADLINE (R182). -/
def execLineDeadline (n : Fin 192) (x : LineEnd) (mx : Nat) (wbFit : Bool) (s : State) :
    Host.Outcome State Fault Refusal :=
  run (lineDeadlinePass n x mx wbFit) s

/-! ### The end of a frame -/

/-- An event of a complete frame, raised once with the stamp of its first occurrence (R189, R239). -/
def endEvent (n fno code arg key : Nat) (x : FrameCount) (s : State) : State :=
  when_ (x.n != 0) (sayOnce n fno (256 * code + key) (raiseAt x.stamp code n arg)) s

/-- Fetch events, status and counters of a complete frame (R178, R183, R186, R188, R189). -/
def fetchEnd (n : Nat) (f : Frm) (s : State) : State :=
  let c := f.comp
  let s := when_ (c.under.n != 0) (fun s =>
    let s := wr (chB n) R.FETCH_UFRAME_LO_HT (f.bnd % 2 ^ 32) (wr (chB n) R.FETCH_UFRAME_HI_HT (f.bnd / 2 ^ 32) s)
    endEvent n f.fno 0x0301 (satU 16 c.under.n + 65536 * (c.under.arg % 16384)) 0 c.under
      (bump (chB n) R.FETCH_UNDERRUN_FRAMES_COUNT s)) s
  let s := each (List.range 9) (fun k s =>
    let p := tget {} k c.poison
    let d := tget {} k c.decode
    let r := tget {} k c.rights
    let s := endEvent n f.fno 0x0302 (k + 256 * satU 24 p.n) k p s
    let s := endEvent n f.fno 0x0303 (k + 16 * (d.arg % 16) + 256 * satU 24 d.n) k d s
    let s := endEvent n f.fno 0x0304 (k + 65536 * (r.arg % 16384)) k r s
    let b := fetchB n k
    let s := wr b R.FETCH_LSTAT_HANDLE_EFF (gv c b R.FETCH_SURF_HANDLE) (wr b R.FETCH_LSTAT_EN_EFF (gv c b R.FETCH_SURF_EN) s)
    let s := wrB b R.FETCH_LSTAT_CLIPPED (takesPart c n k && (layerGeo s c n k).clipped)
      (wrB b R.FETCH_LSTAT_POISON (p.n != 0) s)
    wrB b R.FETCH_LSTAT_DECODE (d.n != 0) (wrB b R.FETCH_LSTAT_RIGHTS (r.n != 0) s)) s
  let s := wrB (chB n) R.FETCH_STATUS_UNDERRUN (c.under.n != 0) (wrB (chB n) R.FETCH_STATUS_POISON (c.poison != []) s)
  let s := wrB (chB n) R.FETCH_STATUS_DECODE (c.decode != []) (wrB (chB n) R.FETCH_STATUS_RIGHTS (c.rights != []) s)
  flushRefused n s

/-- Uniformity fall-backs of the frame, one event for each cause (R222, R239). -/
def mapEnd (n : Nat) (f : Frm) (s : State) : State :=
  each f.comp.mapMiss (fun e =>
    endEvent n f.fno 0x040B (f.comp.band + 16 * e.1 + 256 * satU 24 e.2.n) e.1 e.2) s

/-- What the window checks kept of the frame before, in the channel's present run (R234, R236). -/
def memBefore (s : State) (n fno : Nat) : FrameMem := if fno = 0 then {} else tget {} (fno - 1) (s.chst n).mem

/-- Keep what the window checks need of a frame; those of frames long gone are forgotten. -/
def keepMem (n fno : Nat) (g : FrameMem → FrameMem) (s : State) : State :=
  modCh n (fun x => { x with mem := tset {} fno (g (tget {} fno x.mem)) (x.mem.filter (fun e => fno ≤ e.1 + 64)) }) s

/-- Freeze detection (R234, R235): U follows the frame before. -/
def freezeEnd (n : Nat) (f : Frm) (s : State) : State :=
  let c := f.comp
  let before := memBefore s n f.fno
  if gv c (chB n) R.COMP_CTRL_FRZ_EN = 0 then keepMem n f.fno (fun m => { m with sig := none, u := before.u }) s
  else
    let sig := sigOf c.sigF c.lenF
    let s := wr (chB n) R.COMP_FRAME_SIG_SIG sig s
    let u := match before.sig with
      | none => before.u
      | some (ps, pc) => if sig != ps then 0 else if c.cseq != pc then before.u + 1 else before.u
    let s := keepMem n f.fno (fun m => { m with sig := some (sig, c.cseq), u }) s
    let lim := max 2 (rd s (chB n) R.COMP_FRZ_CFG_N)
    let frozen := rdB s (chB n) R.COMP_STATUS_FROZEN
    if lim ≤ u && !frozen then
      sayOnce n f.fno 0x40400 (raise 0x0404 n lim)
        (bump (chB n) R.COMP_FROZEN_CNT_COUNT (wrB (chB n) R.COMP_STATUS_FROZEN true s))
    else if u = 0 && frozen then sayOnce n f.fno 0x40500 (raise 0x0405 n 0) (wrB (chB n) R.COMP_STATUS_FROZEN false s)
    else s

/-- The Levee check (R236). Event 0x0406 comes at the first mismatch after a match, whatever frames lie between. -/
def leveeEnd (n : Nat) (f : Frm) (s : State) : State :=
  let c := f.comp
  if !c.levee then keepMem n f.fno (fun m => { m with miss := 0 }) s
  else
    let sig := sigOf c.sigL c.lenL
    let bad := sig != gv c (chB n) R.COMP_LEVEE_SIG_EXP_SIG
    let s := wr (chB n) R.COMP_LEVEE_SIG_SIG sig (wrB (chB n) R.COMP_STATUS_LEVEE_MISMATCH bad s)
    let miss := if bad then (memBefore s n f.fno).miss + 1 else 0
    let s := keepMem n f.fno (fun m => { m with miss }) s
    let said := (s.chst n).missSaid
    let s := modCh n (fun x => { x with missSaid := bad }) s
    if !bad then s
    else
      let s := bump (chB n) R.COMP_LEVEE_MISS_CNT_COUNT s
      let s := when_ (!said) (sayOnce n f.fno 0x40600 (raise 0x0406 n sig)) s
      if rdB s (chB n) R.COMP_LEVEE_CTRL_FORCE_DARK && max 1 (rd s (chB n) R.COMP_LEVEE_CTRL_MISS_N) ≤ miss then
        chFault n 2 (raise 0x0407 n (satU 4 miss) s)
      else s

/-- The frame's composition has ended. -/
def endComposition (n fno : Nat) (s : State) : State :=
  match frameOf s n fno with
  | none => s
  | some f =>
    let s := modComp n fno (fun c => { c with ended := true, got := [], seen := [], units := [] }) s
    let s := freezeEnd n f (mapEnd n f (fetchEnd n f s))
    let s := wrB (chB n) R.COMP_STATUS_LEVEE_EFF f.comp.levee (wr (chB n) R.COMP_STATUS_BAND_EFF f.comp.band s)
    let s := wr (chB n) R.COMP_STATUS_LUT_BANK_EFF (gv f.comp (chB n) R.COMP_CTRL_LUT_BANK) s
    let s := when_ (!f.waited && !f.dropped) (wrB (chB n) R.PLANE_STATUS_POOL_WAIT false) s
    pruneFrames n (leveeEnd n f s)

/-- FRAME_COMPOSED: the last line of the frame is composed, with every line still to come whose data is complete. -/
def frameComposed (n : Nat) (wbFit : Bool) (s : State) : State :=
  match composing s n with
  | none => s
  | some f =>
    let s := advance n f.fno (frmH f n) wbFit (frmH f n) s
    match frameOf s n f.fno with
    | some g => if frmH g n ≤ g.lines then endComposition n g.fno s else s
    | none => s

/-- FRAME_COMPOSED (R189). -/
def execFrameComposed (n : Fin 192) (wbFit : Bool) (s : State) : Host.Outcome State Fault Refusal :=
  run (frameComposed n wbFit) s

/-! ### Waiting for a slot (R253, R254) -/

/-- PLANE_STATUS.POOL_WAIT, its count and event 0x0501. -/
def poolWait (n lines : Nat) (dropped : Bool) (s : State) : State :=
  raise 0x0501 n (satU 16 lines + 65536 * b2n dropped)
    (bump (chB n) R.PLANE_POOLWAIT_CNT_COUNT (wrB (chB n) R.PLANE_STATUS_POOL_WAIT true s))

/-- POOL_SLOT_FREED: the slot of the oldest frame that waits is free; the lines kept for it are written and composition
goes on. -/
def poolSlotFreed (n : Nat) (wbFit : Bool) (s : State) : State :=
  match (s.frmsOf n).find? (fun f => f.flipped && !f.dropped && f.complete.isNone) with
  | none => s
  | some f =>
    if !slotFree s n f then s
    else
      let held := f.comp.held
      let s := each held.zipIdx (fun p s => writeLine n f (f.written + p.2) p.1 s) s
      let s := modFrm n f.fno (fun f => { f with waitLines := 0, comp := { f.comp with held := [] } }) s
      let s := when_ (held != [] || f.waitLines != 0) (poolWait n f.waitLines false) s
      if f.comp.ended then s else advance n f.fno (frmH f n - 1) wbFit (frmH f n) s

/-- POOL_SLOT_FREED (R253). -/
def execPoolSlotFreed (n : Fin 192) (wbFit : Bool) (s : State) : Host.Outcome State Fault Refusal :=
  run (poolSlotFreed n wbFit) s

/-- READY_TIME_NO_SLOT: at the frame's ready time its slot is not free: nothing of it is written. -/
def readyTimeNoSlot (n : Nat) (s : State) : State :=
  match (s.frmsOf n).find? (fun f => f.flipped && !f.dropped && f.complete.isNone) with
  | none => s
  | some f =>
    if slotFree s n f || s.ht + lead s n < f.bnd || f.written != 0 then s
    else
      let s := modFrm n f.fno (fun f => { f with
        dropped := true, waitLines := 0, comp := { f.comp with held := [] } }) s
      poolWait n f.waitLines true s

/-- READY_TIME_NO_SLOT (R254). -/
def execReadyTimeNoSlot (n : Fin 192) (s : State) : Host.Outcome State Fault Refusal := run (readyTimeNoSlot n) s

/-! ### Write-back (R225) -/

/-- The 32-byte write-back record. -/
def wbRecord (seq bnd handle flags : Nat) : List Byte :=
  leBytes 8 seq ++ leBytes 8 bnd ++ leBytes 2 handle ++ leBytes 2 flags ++ leBytes 12 0

/-- WB_FRAME_DONE: the last byte of a write-back frame has been written, or the frame is incomplete. -/
def wbFrameDone (n : Nat) (s : State) : State :=
  match (s.frmsOf n).find? (fun f => f.flipped && f.comp.ended && f.comp.wb.isSome) with
  | none => s
  | some f =>
    let c := f.comp
    let under := c.under.n != 0
    let s := modComp n f.fno (fun c => { c with wb := none }) s
    let s := wrB (chB n) R.COMP_STATUS_WB_INCOMPLETE (c.wbDrop != 0) (wrB (chB n) R.COMP_STATUS_WB_UNDERRUN under s)
    let s := if c.wbDrop != 0 then
        sayOnce n f.fno 0x40A00 (raise 0x040A n (satU 32 c.wbDrop)) (bump (chB n) R.COMP_WB_INC_CNT_COUNT s)
      else
        let seq := rdPair s (chB n) R.COMP_WB_SEQ_LO_SEQ R.COMP_WB_SEQ_HI_SEQ + 1
        let s := wr (chB n) R.COMP_WB_SEQ_LO_SEQ (seq % 2 ^ 32) (wr (chB n) R.COMP_WB_SEQ_HI_SEQ (seq / 2 ^ 32) s)
        when_ (gv c (chB n) R.COMP_WB_REC_LO_EN = 1)
          (store (gv c (chB n) R.COMP_WB_REC_LO_ADDR * 32 + gv c (chB n) R.COMP_WB_REC_HI_ADDR * 2 ^ 32)
            (wbRecord seq f.bnd (c.wb.getD 0)
              (b2n under + 2 * b2n (c.poison != [] || c.decode != []) + 4 * b2n (c.mapMiss != [])))) s
    pruneFrames n s

/-- WB_FRAME_DONE (R225). -/
def execWbFrameDone (n : Fin 192) (s : State) : Host.Outcome State Fault Refusal := run (wbFrameDone n) s

end Sys2Proof.Machine
end

