-- ==== Sys2Proof/Machine/Hk.lean ====
section
/-!
DEFINITION. The housekeeping round (spec/18_heat_calibration_wear.md R731 to R744): die sensors and their bands, rates of
rise, thermistors and rails.
-/

namespace Sys2Proof.Machine
open Sys2Proof

def modHk (f : HkSt → HkSt) (s : State) : State := { s with hk := f s.hk }
def setSens (i : Nat) (x : Sens) (s : State) : State := modHk (fun h => { h with sens := tset {} i x h.sens }) s

/-- Sensors of die `d` by HK_SENS_IDX; die 4 is the Confluence die. -/
def sensOf (d : Nat) : List Nat := if d < 4 then (List.range 24).map (24 * d + ·) else (List.range 8).map (96 + ·)

/-- The converter that reads a sensor (R731). -/
def convOf (i : Nat) : Nat := if i < 96 then i / 24 else (i - 96) / 2

/-! ### Die sensors (R733 to R736) -/

/-- A sensor's reading of the round is judged once the self-check of its converter is known; `ok` is a mask. -/
def judgeSensor (ok i : Nat) (s : State) : State :=
  let x := sens s i
  let valid : Bool := bitOf ok (convOf i) && -640 ≤ x.t && x.t ≤ 2400
  let hot : Bool := valid && 2000 ≤ x.t
  let s := setSens i { x with
    valid, hot, bad := if valid then 0 else min 8 (x.bad + 1)
    hist := ((if valid then some x.t else none) :: x.hist).take 9 } s
  when_ (hot && !x.hot) (raise 0x1003 noCh (i + 65536 * toTwos 16 x.t)) s

/-- A sensor has read 125 °C or more in this round and the one before, in the state before this round's judgement. -/
def hotTwice (s t : State) : Bool := (List.range 104).any (fun i => (sens s i).hot && (sens t i).hot)

/-- A die's band changes: what a Reach die's band selects follows, with event 0x1001 (R742 to R744). -/
def setDieBand (d b : Nat) (s : State) : State :=
  let old := rd s hkB R.HK_DIE_BAND d
  if old = b then s
  else
    let s := if d < 4 then each (channelsOf d) eqAnchor s else s
    let s := wr hkB R.HK_DIE_BAND b s d
    if d < 4 then raise 0x1001 noCh (d + 16 * b + 256 * old) (wr (dieB d) R.WEIR_AVS_STATUS_BAND b s) else s

/-- A die's temperature and band of the round (R734, R742). -/
def judgeDie (d : Nat) (s : State) : State :=
  let l := (sensOf d).map (sens s)
  let n := (l.filter (·.excl)).length
  let good := (l.filter (fun x => x.valid && !x.excl)).map (·.t)
  match good with
  | [] => setDieBand d 4 (setDegrade R.HUB_DEGRADE_CONTAINED true s)
  | a :: rest =>
    let t := rest.foldl max a
    let s := wr hkB R.HK_DIE_T (toTwos 16 t) s d
    if (if d < 4 then 12 else 4) < n then setDieBand d 4 (setDegrade R.HUB_DEGRADE_CONTAINED true s)
    else setDieBand d (moveBand bandBounds (rd s hkB R.HK_DIE_BAND d) t) s

/-- The rates of rise of a Reach die in this round (R736). -/
def risesOf (s : State) (d : Nat) : List Int := (sensOf d).filterMap (fun i => riseOf (sens s i))

/-- A rate in 1/16 °C per 0.128 s exceeds `lim` °C/s. -/
def exceeds (r : Int) (lim : Nat) : Bool := (lim : Int) * 2048 < r * 1000

/-- Rise warning and throttle of a Reach die start and end. -/
def judgeRise (d : Nat) (s : State) : State :=
  let rs := risesOf s d
  let warn := rd s hkB R.HK_RISE_WARN
  let thr := max warn (rd s hkB R.HK_RISE_THROTTLE)
  let calm := if rs.any (fun r => exceeds r warn) then 0 else min 8 (tget 0 d s.hk.calm + 1)
  let s := modHk (fun h => { h with calm := tset 0 d calm h.calm }) s
  let top := match rs with
    | [] => 0
    | a :: rest => satTwos 16 ((rest.foldl max a) * 1000 / 2048)
  let turn := fun (f : Fld) (code lim : Nat) (s : State) =>
    if !rdB s hkB f d && rs.any (fun r => exceeds r lim) then
      raise code noCh (1 + 2 * d + 65536 * top) (wrB hkB f true s d)
    else if rdB s hkB f d && calm = 8 then raise code noCh (2 * d + 65536 * top) (wrB hkB f false s d)
    else s
  turn R.HK_DIE_THROTTLE 0x1005 thr (turn R.HK_DIE_WARN 0x1004 warn s)

/-- The end of a round: its die sensors are judged. -/
def roundEnd (ok : Nat) (s : State) : State :=
  let t := each (List.range 104) (judgeSensor ok) s
  let twice := hotTwice s t
  let t := when_ (twice && !s.hk.hot2) (trip .thermal) (modHk (fun h => { h with hot2 := twice }) t)
  let t := each dies judgeRise (each (List.range 5) judgeDie t)
  let t := match t.cal.adc with
    | some v => { t with
        cals := (v.zipIdx).foldl (fun c p => tset (calDef 4 p.2) (calKey 4 0 p.2) p.1 c) t.cals
        cal := { t.cal with adc := none } }
    | none => t
  wr hkB R.HK_ROUND_COUNT (rd t hkB R.HK_ROUND_COUNT + 1) t

/-- SENSOR_EXCLUDED: a sensor invalid in 8 consecutive rounds is excluded until the next power-on reset. -/
def excludeSensor (i : Nat) (s : State) : State :=
  let x := sens s i
  if x.excl || x.bad < 8 then s
  else
    let s := setSens i { x with excl := true } s
    let d := if i < 96 then i / 24 else 4
    raise 0x1006 noCh i (wr hkB R.HK_DIE_EXCLUDED ((sensOf d).filter (fun j => (sens s j).excl)).length s d)

/-- SENSOR_EXCLUDED (R733). -/
def execSensorExcluded (i : Fin 104) (s : State) : Host.Outcome State Fault Refusal := run (excludeSensor i) s

/-! ### Thermistors (R739 to R741) -/

/-- ln of a positive ratio, in 2 ^ -60. -/
def lnRatio (num den : Nat) : Int :=
  let x := num * 2 ^ 60 / den
  let e := x.log2
  let m : Nat := if 60 ≤ e then x / 2 ^ (e - 60) else x * 2 ^ (60 - e)
  let l : Int := ((e : Int) - 60) * 1125899906842624 + (log2Bits 50 m 0 : Nat)
  l * 799144290325165979 / 1125899906842624

/-- The temperature of a thermistor in 1/16 °C, rounded down, from r = (V2 − V1) ÷ 20 µA (R739); none where the formula
gives none. -/
def thermTemp (nom beta : Nat) (dv : Nat) : Option Int :=
  if nom = 0 || beta = 0 then none
  else
    let inv : Int := ((2 ^ 100 * 100 / 29815 : Nat) : Int) + lnRatio dv (200 * nom) * 1099511627776 / beta
    if inv ≤ 0 then some 32767 else some ((((160 * 2 ^ 100 : Nat) : Int) / inv - 43704) / 10)

/-- Every string whose channel takes its temperature from thermistor `n` updates its derating. -/
def thermFollow (n : Nat) (s : State) : State :=
  each (channels.filter (fun c => rd s (chB c) R.LAMP_DERATE2_THERM == n)) (fun c s =>
    each (strings s c) (fun k => derateUpdate c k) s) s

/-- A wire break of a valid thermistor: every channel that enables it reports it lost (R426). -/
def thermLost (n code : Nat) (s : State) : State :=
  each (channels.filter (fun c => code == 1 && rdB s hkB R.HK_THERM_VALID n
      && rdB s (chB c) R.LAMP_DERATE2_TEN && rd s (chB c) R.LAMP_DERATE2_THERM == n))
    (fun c => raise 0x080D c n) s

/-- A faulted conversion (R740). -/
def thermFault (n code : Nat) (s : State) : State :=
  let s := thermLost n code s
  let s := wrB hkB R.HK_THERM_VALID false (wr hkB R.HK_THERM_FAULT code s n) n
  let s := modHk (fun h => { h with thermGood := tset 0 n 1 h.thermGood }) (bump hkB R.HK_THERM_FAULT_CNT_COUNT s)
  raise 0x1007 noCh (n + 256 * code) s

/-- The two conversions of thermistor `n`, in µV. -/
def thermistor (n : Nat) (v1 v2 : Int) (s : State) : State :=
  let dv := v2 - v1
  if 1500000 ≤ v2 || 5 * dv < 100 * (v1 - dv).natAbs then thermFollow n (thermFault n 1 s)
  else if dv < 1000 then thermFollow n (thermFault n 2 s)
  else
    let r := match thermTemp (rd s hkB R.HK_THERM_CFG_NOM) (rd s hkB R.HK_THERM_CFG_BETA) dv.toNat with
      | some t => let d := draw 1 s; (t + d.1, d.2)
      | none => let d := draw 16 s; (sext 16 d.1, d.2)
    let s := r.2
    if r.1 < -640 || 2400 < r.1 then thermFollow n (thermFault n 3 s)
    else
      let s := wr hkB R.HK_THERM_T (toTwos 16 r.1) (wr hkB R.HK_THERM_FAULT 0 s n) n
      let s := { s with thermAt := tset 0 n (s.tick + 1) s.thermAt }
      let g := tget 0 n s.hk.thermGood
      let s := if g = 0 then wrB hkB R.HK_THERM_VALID true s n
        else modHk (fun h => { h with thermGood := tset 0 n (min 9 (g + 1)) h.thermGood }) s
      thermFollow n s

/-- THERM_RESTORED: 8 conversions without a fault. -/
def thermRestored (n : Nat) (s : State) : State :=
  if tget 0 n s.hk.thermGood < 9 then s
  else
    let s := modHk (fun h => { h with thermGood := terase n h.thermGood }) (wrB hkB R.HK_THERM_VALID true s n)
    thermFollow n (raise 0x1008 noCh n s)

/-- THERM_RESTORED (R741). -/
def execThermRestored (n : Fin 32) (s : State) : Host.Outcome State Fault Refusal := run (thermRestored n) s

/-! ### The slots (R731) -/

/-- Element `k` of a conversion's results. -/
def conv (v : Int × Int × Int × Int) (k : Nat) : Int :=
  match k with
  | 0 => v.1 | 1 => v.2.1 | 2 => v.2.2.1 | _ => v.2.2.2

/-- HOLD_ISNS, converter 3 of slot 38: readings beyond −3.6 A to +3.6 A are clamped (R831). -/
def clampIsns (v : Int × Int × Int × Int) : Int × Int × Int × Int :=
  (v.1, v.2.1, v.2.2.1, max (-3600) (min 3600 v.2.2.2))

/-- HK_SLOT_END: the results of the four converters, and the second conversions of thermistors, take effect; with the last
slot the mask of converters whose self-check passed. Readings are in 1/16 °C, µV, mV and mA. -/
def hkSlot (a b : Int × Int × Int × Int) (ok : Nat) (s : State) : State :=
  if !s.hub.up || s.mode = .hold then s
  else
    let i := s.hk.slot
    let ks := List.range 4
    let s :=
      if i < 24 then each ks (fun k s => setSens (24 * k + i) { sens s (24 * k + i) with t := conv a k } s) s
      else if i < 32 then each ks (fun k => thermistor (8 * k + i - 24) (conv a k) (conv b k)) s
      else if i < 34 then each ks (fun k s =>
        let j := 96 + 2 * k + (i - 32)
        setSens j { sens s j with t := conv a k } s) s
      else if i < 39 then
        let a := if i = 38 then clampIsns a else a
        let s := each ks (fun k s => wr hkB R.HK_RAIL_VALUE (toTwos 16 (conv a k)) s (4 * (i - 34) + k)) s
        if i = 38 then gaugeRound (conv a 2).toNat (conv a 3) s else s
      else if i = 63 then roundEnd ok s
      else s
    modHk (fun h => { h with slot := (i + 1) % 64 }) s

/-- HK_SLOT_END (R731). -/
def execHkSlotEnd (a b : Int × Int × Int × Int) (ok : Fin 16) (s : State) : Host.Outcome State Fault Refusal :=
  run (hkSlot a b ok) s

end Sys2Proof.Machine
end

