-- ==== Sys2Proof/Machine/Mgmt.lean ====
section
/-!
DEFINITION. The management port (spec/19_management_trust.md R769 to R774, R786 to R792): the Mazente messages and their
completion codes, the endpoint and its resets, and the PLDM and SPDM requests.
-/

namespace Sys2Proof.Machine
open Sys2Proof

/-! ### Whether and how a request is answered (R773) -/

/-- Completion codes. -/
abbrev mInvalid : Nat := 1
abbrev mRights : Nat := 2
abbrev mBusy : Nat := 3
abbrev mNotReady : Nat := 4
abbrev mRejected : Nat := 5

/-- Agent identity of the board management controller (R774). -/
abbrev bmc : Nat := 0x200

/-- The management port is powered and its I/O rail in range. -/
def mgtAlive (s : State) : Bool := s.hub.up && !s.hub.badRails.contains 17

/-- The completion code with which a request is turned away before it is looked at, 0 for none; `held` says that the
request is answered in HOLD and before READY. -/
def turnedAway (s : State) (held : Bool) : Nat :=
  if !held && (s.mode = .hold || !rdB s hubB R.HUB_MODE_READY) then mNotReady
  else if inSelfTest s then mBusy
  else 0

/-- A Mazente request: not answered by a port without power, turned away, INVALID where a field is outside its range, or
carried out. -/
def request (cmd tag : Nat) (held valid : Bool) (f : State → State) (s : State) : State :=
  if !mgtAlive s then s
  else
    let c := turnedAway s held
    if c != 0 then respond cmd tag c [] s
    else if !valid then respond cmd tag mInvalid [] s
    else f s

/-- Words as payload bytes. -/
def wordBytes (l : List Nat) : List Byte := l.flatMap (leBytes 4)

/-- MGT_SNAP. -/
def snap (s : State) : Nat := rd s mgtB R.MGT_SNAP_EPOCH

/-- Offset and count of a register request (R772). -/
def regSpan (a count : Nat) : Bool := 1 ≤ count && count ≤ 16 && a % 4 == 0 && a + 4 * count ≤ 0x8000000

/-- Read `count` words in ascending order. -/
def readRegs (a count : Nat) (s : State) : List Nat × State :=
  (List.range count).foldl (fun x i => let r := readReg bmc (a + 4 * i) x.2; (x.1 ++ [r.1], r.2)) ([], s)

/-- REG_READ: the words and MGT_SNAP of one instant. -/
def regReadReq (tag a count : Nat) (s : State) : State :=
  request 1 tag false (regSpan a count)
    (fun s => let r := readRegs a count s; respond 1 tag 0 (wordBytes (snap s :: r.1)) r.2) s

/-- REG_READ (R774). -/
def execRegRead (tag : Fin 256) (a : Fin 4294967296) (count : Fin 256) (s : State) : Host.Outcome State Fault Refusal :=
  run (regReadReq tag a count) s

/-- Write words in ascending order, up to the first that its register rejects; each word is a change of its own for
MGT_SNAP (R794). -/
def writeRegs : Nat → List Nat → State → Bool × State
  | _, [], s => (true, s)
  | a, v :: l, s =>
    let s := { s with mgt := { s.mgt with snapped := false } }
    if wordRejected bmc a v s then (false, writeWord bmc a v s) else writeRegs (a + 4) l (writeWord bmc a v s)

/-- REG_WRITE as agent identity 0x0200. -/
def regWriteReq (tag a count : Nat) (ws : List Nat) (s : State) : State :=
  request 2 tag false (regSpan a count && ws.length == count)
    (fun s =>
      if (List.range count).any (fun i => mgmtExcluded (a + 4 * i)) then respond 2 tag mRights [] s
      else
        let r := writeRegs a ws s
        if r.1 then respond 2 tag 0 (wordBytes [snap r.2]) r.2 else respond 2 tag mRejected [] r.2) s

/-- REG_WRITE (R774). -/
def execRegWrite (tag : Fin 256) (a : Fin 4294967296) (count : Fin 256) (ws : List (Fin 4294967296)) (s : State) :
    Host.Outcome State Fault Refusal := run (regWriteReq tag a count (ws.map (·.val))) s

/-- STATUS: five words; a management event is then read (R770). -/
def statusReq (tag : Nat) (s : State) : State :=
  request 3 tag true true
    (fun s =>
      let ws := [mgtB + R.MGT_STATUS_EID.off, mgtB + R.MGT_SNAP_EPOCH.off, hubB + R.HUB_MODE_MODE.off,
        holdB + R.HOLD_STATUS_ACTIVE.off, hubB + R.HUB_DEGRADE_CONTAINED.off].map (regWord bmc s)
      respond 3 tag 0 (wordBytes ws) (wrB mgtB R.MGT_STATUS_ALERT false s)) s

/-- STATUS (R772). -/
def execStatus (tag : Fin 256) (s : State) : Host.Outcome State Fault Refusal := run (statusReq tag) s

/-- The hold log's records as numbers: the events, and a learned capacity (R97). -/
def logNats (l : List Event) (learned : Option Nat) : List Nat :=
  l.flatMap (fun e => [e.stamp, e.code, e.channel, e.arg]) ++ learned.toList

/-- The hold log that LOG_READ shows: the one being written in HOLD, else the last one committed. -/
def shownLog (s : State) : List Event := if s.mode = .hold then s.hub.holdLog else s.hub.committed

/-- LOG_READ: bytes of the hold log, an area of 1 MiB (R776). -/
def logReadReq (tag ofs len : Nat) (s : State) : State :=
  request 4 tag true (len ≤ 192 && ofs + len ≤ 0x100000)
    (fun s => respond 4 tag 0 ((List.range len).map (fun i => BitVec.ofNat 8 (Config.logByte (logNats (shownLog s) s.hub.learned) (ofs + i)))) s) s

/-- LOG_READ (R772). -/
def execLogRead (tag : Fin 256) (ofs : Fin 4294967296) (len : Fin 65536) (s : State) : Host.Outcome State Fault Refusal :=
  run (logReadReq tag ofs len) s

/-- REC_READ: bytes of a copy's area of the flash; an area is 0x0050_0000 bytes (R776). -/
def recReadReq (tag k c ofs len : Nat) (s : State) : State :=
  request 5 tag false (1 ≤ k && k ≤ 4 && c < 3 && len ≤ 192 && ofs + len ≤ 0x500000)
    (fun s => respond 5 tag 0 ((List.range len).map (fun i => (copyAt s k c).getD (ofs + i) 0xFF#8)) s) s

/-- REC_READ (R772). -/
def execRecRead (tag k c : Fin 256) (ofs : Fin 4294967296) (len : Fin 65536) (s : State) :
    Host.Outcome State Fault Refusal := run (recReadReq tag k c ofs len) s

/-- The staging buffer is in use: a write of the board management controller waits or runs. -/
def stagingBusy (s : State) : Bool :=
  s.mgt.recTag.isSome || s.cfg.queue.any (·.src == 2) || s.cfg.write.any (·.src == 2)

/-- The bytes staged so far. -/
def staged (s : State) : List Byte := (List.range s.mgt.stagingLen).map (fun i => BitVec.ofNat 8 (tget 0 i s.mgt.staging))

/-- Put data into the staging buffer. -/
def stage (ofs : Nat) (data : List Nat) (s : State) : State :=
  { s with mgt := { s.mgt with
    staging := data.zipIdx.foldl (fun t p => tset 0 (ofs + p.2) (p.1 % 256) t) s.mgt.staging
    stagingLen := max s.mgt.stagingLen (ofs + data.length) } }

/-- LAST: the checks of R783, and the write. -/
def lastChunk (tag k : Nat) (s : State) : State :=
  let p := staged s
  let r := writeResult s k 2 p.length (some p)
  if r != 0 then respond 6 tag 0 (leBytes 1 r) (clearStaging s)
  else acceptWrite { k, payload := p, src := 2 } { s with mgt := { s.mgt with recTag := some tag } }

/-- REC_WRITE: a chunk goes to the 4 MiB staging buffer. -/
def recWriteReq (tag k : Nat) (last : Bool) (ofs : Nat) (data : List Nat) (s : State) : State :=
  request 6 tag false (data.length ≤ 192 && ofs + data.length ≤ 0x400000)
    (fun s =>
      if stagingBusy s then respond 6 tag mBusy [] s
      else
        let s := stage ofs data s
        if last then lastChunk tag k s else respond 6 tag 0 [] s) s

/-- REC_WRITE (R783). -/
def execRecWrite (tag k : Fin 256) (last : Bool) (ofs : Fin 4294967296) (data : List (Fin 256)) (s : State) :
    Host.Outcome State Fault Refusal := run (recWriteReq tag k last ofs (data.map (·.val))) s

/-- FW_ACTIVATE (R784). -/
def fwActivateReq (tag : Nat) (s : State) : State :=
  request 7 tag false true
    (fun s => if fwRefused s then respond 7 tag mRejected [] s else respond 7 tag 0 [] (activate s)) s

/-- FW_ACTIVATE (R784). -/
def execFwActivate (tag : Fin 256) (s : State) : Host.Outcome State Fault Refusal := run (fwActivateReq tag) s

/-! ### RELEASE (R792) -/

/-- Every channel hold is cleared. -/
def releaseHolds (s : State) : State :=
  let any := (List.range 6).any (fun i => rd s mgtB R.MGT_HOLD_HOLD i != 0)
  refreshOvr (when_ any bumpSnap (resetFlds mgtB [R.MGT_HOLD_HOLD] s))

/-- Every management ceiling is 0xFFFF. -/
def releaseCeils (s : State) : State :=
  let s := svcCeilWrite true 0xFFFF s
  let t := { s with mgtCeil := [] }
  let moved := s.mgtCeil.any (fun e => e.2 < tget 0xFFFF (R.LAMP_SCEIL_CEIL.key e.1 0) s.regs)
  refreshOvr (when_ moved bumpSnap t)

/-- RELEASE sets the named management values to none. -/
def releaseReq (tag : Nat) (mode holds ceils : Bool) (s : State) : State :=
  request 8 tag false true
    (fun s =>
      let s := when_ mode (setStanding true 7) s
      respond 8 tag 0 [] (when_ ceils releaseCeils (when_ holds releaseHolds s))) s

/-- RELEASE_MGT (R792). -/
def execReleaseMgt (tag : Fin 256) (mode holds ceils : Bool) (s : State) : Host.Outcome State Fault Refusal :=
  run (releaseReq tag mode holds ceils) s

/-! ### The endpoint (R770, R771) -/

/-- A management endpoint reset: 1 RSTACT, 2 a change of the EID, 3 RESET_ENDPOINT. Requests not answered are discarded,
the board management controller's locks break. -/
def endpointReset (cause : Nat) (s : State) : State :=
  mgtEvent 0x1101 cause (breakOwned (· == bmc) (clearStaging s))

/-- RESET_ENDPOINT: answered, then reset. -/
def resetReq (tag : Nat) (s : State) : State :=
  request 9 tag false true (fun s => endpointReset 3 (respond 9 tag 0 [] s)) s

/-- RESET_ENDPOINT (R771). -/
def execResetEndpoint (tag : Fin 256) (s : State) : Host.Outcome State Fault Refusal := run (resetReq tag) s

/-- MGT_INVALID_CMD (R773). -/
def execMgtInvalidCmd (tag cmd : Fin 256) (s : State) : Host.Outcome State Fault Refusal :=
  guarded (reservedCmd cmd) (request cmd tag false false id) s

/-- I3C_RSTACT: the port is an SMBus target again (R770). -/
def rstact (s : State) : State :=
  if !mgtAlive s then s else endpointReset 1 (wrB mgtB R.MGT_STATUS_I3C false s)

/-- I3C_RSTACT (R771). -/
def execI3cRstact (s : State) : Host.Outcome State Fault Refusal := run rstact s

/-- I3C_DYNAMIC_ADDRESS: from here on an I3C target only. -/
def dynamicAddress (s : State) : State := if !mgtAlive s then s else wrB mgtB R.MGT_STATUS_I3C true s

/-- I3C_DYNAMIC_ADDRESS (R770). -/
def execI3cDynamicAddress (s : State) : Host.Outcome State Fault Refusal := run dynamicAddress s

/-- SET_ENDPOINT_ID: the bus owner assigns an EID; one that changes it resets the endpoint. -/
def setEid (eid : Nat) (s : State) : State :=
  if !mgtAlive s then s
  else
    let changed : Bool := !rdB s mgtB R.MGT_STATUS_EID_SET || rd s mgtB R.MGT_STATUS_EID != eid
    when_ changed (endpointReset 2) (wrB mgtB R.MGT_STATUS_EID_SET true (wr mgtB R.MGT_STATUS_EID eid s))

/-- SET_ENDPOINT_ID (R771). -/
def execSetEndpointId (eid : Fin 256) (s : State) : Host.Outcome State Fault Refusal := run (setEid eid) s

/-- The counters of R795. -/
def mgtCounters : List Fld := [R.MGT_MSG_CNT_COUNT, R.MGT_ERR_CNT_COUNT]

/-- MGT_CNT_CLR (R795). -/
def execMgtCntClr (s : State) : Host.Outcome State Fault Refusal := run (resetFlds mgtB mgtCounters) s

/-! ### PLDM (R769, R773) -/

/-- An answer in PLDM: completion code and value. -/
def pldmAnswer (code : Nat) (l : List Nat) (s : State) : State := emitOut (.mgtOther 1 code l) s

/-- A PLDM request: type 0, a numeric sensor, a state sensor, or another type, which is not supported. -/
def pldm (r : PldmReq) (s : State) : State :=
  if !mgtAlive s then s
  else if turnedAway s false != 0 then pldmAnswer 4 [] s
  else match r with
    | .base => pldmAnswer 0 [] s
    | .dieTemp i => pldmAnswer 0 [rd s hkB R.HK_DIE_T i] s
    | .headTemp n => pldmAnswer 0 [toTwos 16 (s.port n).arrayT] s
    | .thermistor i => pldmAnswer 0 [rd s hkB R.HK_THERM_T i] s
    | .rail i => pldmAnswer 0 [rd s hkB R.HK_RAIL_VALUE i] s
    | .mode => pldmAnswer 0 [s.mode.code] s
    | .channel n => pldmAnswer 0 [(s.chState n).code] s
    | .other => pldmAnswer 0x20 [] s

/-- PLDM_REQUEST (R769). -/
def execPldmRequest (r : PldmReq) (s : State) : Host.Outcome State Fault Refusal := run (pldm r) s

/-! ### SPDM and IDE_KM (R786 to R788) -/

/-- An answer in SPDM: 0 or the error code, and the data. -/
def spdmAnswer (code : Nat) (l : List Nat) (s : State) : State := emitOut (.mgtOther 2 code l) s

/-- Certificate chains: slot 0 the device's, slot 1 the alias chain of the active image; the others are empty. -/
def certChain (s : State) (slot : Nat) : Option (List Nat) :=
  match slot with
  | 0 => some (Config.certificate 0)
  | 1 => some (Config.measurement 0x101 (byteNats s.fw.active.payload))
  | _ => none

/-- SVN and GEN of the active image, 4 bytes each. -/
def imageVersion (s : State) : List Nat := byteNats (leBytes 4 s.fw.active.svn ++ leBytes 4 s.fw.active.gen)

/-- The chosen CONFIG record, header bytes 0 to 63 and payload. -/
def configContent (s : State) : List Nat :=
  match chosenRec s 2 with
  | some (g, p) => byteNats (recHead 2 g p ++ p)
  | none => []

/-- The security state: debug lock and JTAG lock, a byte each, and SVN_MIN (DEDUCED from the 4 bytes of R787, log 110). -/
def securityState : List Nat :=
  [Config.debugLock % 256, Config.jtagLock % 256] ++ byteNats (leBytes 2 Config.svnMin)

/-- Measurement blocks (R787). -/
def measure (s : State) (i : Nat) : Option (List Nat) :=
  match i with
  | 1 => some (Config.measurement 1 [])
  | 2 => some (Config.measurement 2 (byteNats s.fw.active.payload))
  | 3 => some (imageVersion s)
  | 4 => some (Config.measurement 4 (configContent s))
  | 5 => some (securityState)
  | 6 => some (Config.measurement 6 ((List.range 4).flatMap (fun k => Config.stdCode (k + 1))))
  | 0xFD => some (Config.measurement 0xFD ([1, 2, 4, 6].flatMap (fun k =>
      Config.measurement k (if k = 2 then byteNats s.fw.active.payload else if k = 4 then configContent s else []))
        ++ imageVersion s ++ securityState))
  | _ => none

/-- State of the SPDM session on a mailbox: 0 none, 1 handshake, 2 open. -/
def sessionAt (s : State) (mbox : Nat) : Nat := tget 0 mbox s.spdm
def setSession (mbox v : Nat) (s : State) : State := { s with spdm := tset 0 mbox v s.spdm }

/-- SPDM error codes of the answers. -/
abbrev spdmInvalid : Nat := 1
abbrev spdmBusy : Nat := 3
abbrev spdmUnsupported : Nat := 7

/-- An answer from data, or InvalidRequest where there is none. -/
def spdmData (o : Option (List Nat)) (s : State) : State :=
  match o with
  | some l => spdmAnswer 0 l s
  | none => spdmAnswer spdmInvalid [] s

/-- A session step: from state `a` to state `b` of the mailbox's session. -/
def spdmStep (mbox a b : Nat) (s : State) : State :=
  if sessionAt s mbox = a then spdmAnswer 0 [] (setSession mbox b s) else spdmAnswer spdmInvalid [] s

/-- A step of IDE_KM for a stream: only in a session on PF0's mailbox (R788). -/
def ideStep (mbox stream b : Nat) (ok : Bool) (s : State) : State :=
  if mbox = 0 && sessionAt s 0 = 2 && ok then spdmAnswer 0 [] { s with ide := tset 0 stream b s.ide }
  else spdmAnswer spdmInvalid [] s

/-- What a responder answers. `mbox` is the function whose mailbox is used, 257 for the management port; a VF's mailbox
has no sessions (R786). -/
def spdmServe (mbox : Nat) (r : SpdmReq) (s : State) : State :=
  let vf : Bool := 1 ≤ mbox && mbox ≤ 256
  match r with
  | .version => spdmAnswer 0 [] s
  | .capabilities => spdmAnswer 0 [] s
  | .algorithms => spdmAnswer 0 [] s
  | .digests => spdmAnswer 0 (Config.certificate 0x100) s
  | .certificate slot => spdmData (certChain s slot) s
  | .challenge slot => spdmData ((certChain s slot).map (fun _ => [])) s
  | .measurements i => spdmData (measure s i) s
  | .keyExchange => if vf then spdmAnswer spdmUnsupported [] s else spdmAnswer 0 [] (setSession mbox 1 s)
  | .finish => if vf then spdmAnswer spdmUnsupported [] s else spdmStep mbox 1 2 s
  | .heartbeat => if vf then spdmAnswer spdmUnsupported [] s else spdmStep mbox 2 2 s
  | .endSession => if vf then spdmAnswer spdmUnsupported [] s else spdmStep mbox 2 0 s
  | .ideKeyProg st => if vf then spdmAnswer spdmUnsupported [] s else ideStep mbox st 1 true s
  | .ideKeyGo st => if vf then spdmAnswer spdmUnsupported [] s else ideStep mbox st 2 (1 ≤ tget 0 st.val s.ide) s
  | .other => spdmAnswer spdmUnsupported [] s

/-- An SPDM request: on the management port it can be turned away with Busy; a mailbox needs its function. -/
def spdm (mbox : Nat) (r : SpdmReq) (s : State) : State :=
  if mbox = 257 then
    if !mgtAlive s then s else if turnedAway s false != 0 then spdmAnswer spdmBusy [] s else spdmServe mbox r s
  else if !s.hub.up || hostOff s || !fnUp s mbox then s
  else spdmServe mbox r s

/-- SPDM_REQUEST (R786). -/
def execSpdmRequest (mbox : Fin 258) (r : SpdmReq) (s : State) : Host.Outcome State Fault Refusal :=
  run (spdm mbox r) s

end Sys2Proof.Machine
end

