-- ==== Sys2Proof/Machine/Flags.lean ====
section
/-!
DEFINITION. The Vilti flags (spec/07_vilti_isa.md R289, R290): what CMP sets and what BRC tests.
-/

namespace Sys2Proof.Machine
open Sys2Proof

/-- Z, N and C. -/
structure VFlags where
  z : Bool := false
  n : Bool := false
  c : Bool := false
deriving DecidableEq, Repr

/-- CMP with FP = 0: Z when equal, N when less as signed, C when less as unsigned values. -/
def cmpInt (a b : Nat) : VFlags := { z := a == b, n := sext 32 a < sext 32 b, c := a < b }

/-- CMP with FP = 1: Z when equal, N and C when less; +0 and −0 compare equal. -/
def cmpFp (a b : Nat) : VFlags := { z := fEq a b, n := fLt a b, c := fLt a b }

/-- BRC's condition (R290); `t` is the flag T of the sequence profile. -/
def condHolds (cond : Nat) (f : VFlags) (t : Bool) : Bool :=
  match cond with
  | 0 => f.z
  | 1 => !f.z
  | 2 => f.n
  | 3 => !f.n
  | 4 => f.c
  | 5 => !f.c
  | 6 => f.z || f.n
  | 7 => !f.z && !f.n
  | 8 => t
  | 9 => !t
  | _ => false

end Sys2Proof.Machine
end

