-- ==== Sys2Proof/Machine/ViltiSeq.lean ====
section
/-!
DEFINITION. The sequence profile of Vilti (spec/07_vilti_isa.md R275 to R313, R331, R332): how a sequencer executes one
instruction, and the instructions that only a sequencer has.
-/

namespace Sys2Proof.Machine
open Sys2Proof

/-- A fault code that a condition gives. -/
def faultIf (c : Bool) (code : Nat) : List Nat := if c then [code] else []

/-- S register `r`. -/
def SeqSt.reg (q : SeqSt) (r : Nat) : Nat := tget 0 r q.S

def SeqSt.setReg (q : SeqSt) (r v : Nat) : SeqSt :=
  if r = 18 then { q with dx := v % 4096 } else { q with S := tset 0 r (v % 2 ^ 32) q.S }

/-- PC + 1, one instruction more since the last item. -/
def SeqSt.next (q : SeqSt) : SeqSt := { q with pc := q.pc + 1, insns := q.insns + 1 }

/-- PC + 1 after WAITT or WAITIX, which restart the count of R332. -/
def SeqSt.resume (q : SeqSt) : SeqSt := { q with run := .ready, pc := q.pc + 1, insns := 0 }

/-- The watchdog limit in instructions. -/
def watchdog (s : State) (n : Nat) : Nat := max 1 (rd s (chB n) R.SEQ_WDOG_LIMIT) * 1024

/-- The sequencer executes the instruction at PC when it is the one that `is` recognises (R278, R331): `f` gives, for
its word, the fault codes it meets and its effect. -/
def seqExec (n : Nat) (is : Nat → Bool) (f : Nat → List Nat × (State → State)) (s : State) : State :=
  let q := s.seq n
  if q.run != .ready then s
  else if bankCount s n (seqBank s n) ≤ q.pc then seqFault n 1 s
  else
    let w := progAt s n (seqBank s n) q.pc
    if !is w then s
    else
      let r := f w
      match lowest (r.1 ++ faultIf (watchdog s n ≤ q.insns) 9) with
      | 0 => r.2 s
      | c => seqFault n c s

/-- The read of the instruction at PC met a parity error: the sequencer faults whatever the word (R295). -/
def seqParityError (n : Nat) (s : State) : State := if (s.seq n).run != .ready then s else seqFault n 1 s

def isOp (op : Nat) : Nat → Bool := fun w => opcode w == op

/-- An effect on the sequencer's own registers. -/
def seqSet (n : Nat) (f : SeqSt → SeqSt) : State → State := modSeq n (fun q => f q.next)

/-! ### Instructions both profiles have -/

/-- op2 (R286). -/
def seqOp2 (q : SeqSt) (w : Nat) : Nat := if iI w then toTwos 32 (sext 15 (iImm15 w)) else q.reg (iRB w)

/-- ADD to SHR on 32-bit values (R286). -/
def alu (op a b : Nat) : Nat :=
  let sh := b % 64
  (if op = 0x04 then a + b
   else if op = 0x05 then a + 2 ^ 32 - b
   else if op = 0x06 then a &&& b
   else if op = 0x07 then a ||| b
   else if op = 0x08 then a ^^^ b
   else if op = 0x09 then a * 2 ^ sh
   else a / 2 ^ sh) % 2 ^ 32

/-- LDI's result over the old value (R287). -/
def ldi (w old : Nat) : Nat :=
  if bits w 16 2 = 0 then toTwos 32 (sext 16 (iImm w))
  else if bits w 16 2 = 1 then iImm w
  else iImm w * 65536 + old % 65536

/-- MOV's source (R283). -/
def seqSource (s : State) (n r : Nat) : Nat :=
  let q := s.seq n
  if r = 16 then q.tc % 2 ^ 32
  else if r = 17 then q.tc / 2 ^ 32
  else if r = 18 then q.dx
  else if r = 19 then (s.port n).lastW
  else if r = 20 then (s.port n).band
  else q.reg r

def seqAlu (n op : Nat) (s : State) : State :=
  seqExec n (isOp op) (fun w => ([], seqSet n (fun q => q.setReg (iRD w) (alu op (q.reg (iRA w)) (seqOp2 q w))))) s

/-- The byte address of LD and ST (R291). -/
def memAddr (base w : Nat) : Int := (if iRA w = 31 then 0 else (base : Int)) + sext 15 (iImm15 w)

/-- An access outside `size` bytes, or not to a whole word (fault 0x04). -/
def badAccess (a : Int) (size : Nat) : Bool := a < 0 || (size : Int) ≤ a || a % 4 != 0

def seqLd (n : Nat) (s : State) : State :=
  seqExec n (isOp 0x10) (fun w =>
    let a := memAddr ((s.seq n).reg (iRA w)) w
    (faultIf (badAccess a 0x4000) 4, fun s =>
      seqSet n (fun q => q.setReg (iRD w) (descrWord s n (seqBank s n) (a.toNat / 4))) s)) s

def seqSt (n : Nat) (s : State) : State :=
  seqExec n (isOp 0x11) (fun w =>
    let a := memAddr ((s.seq n).reg (iRA w)) w
    (faultIf (badAccess a 0x4000) 4, fun s =>
      seqSet n id (setDescrWord n (seqBank s n) (a.toNat / 4) ((s.seq n).reg (iRD w)) s))) s

/-- HALT (R293). -/
def seqHalted (n : Nat) (s : State) : State :=
  seqExec n (isOp 0x01) (fun _ => ([], fun s =>
    let s := raise 0x0602 n ((s.seq n).pc % 4096 + 4096 * seqBank s n) (wrB (chB n) R.SEQ_STATUS_HALTED true s)
    modSeq n (fun q => { q with run := .halted, insns := q.insns + 1 }) s)) s

def seqSig (n : Nat) (s : State) : State :=
  seqExec n (isOp 0x12) (fun w => ([], fun s =>
    seqSet n id (raise 0x0603 n (iImm w + 65536 * ((s.seq n).pc % 4096) + 2 ^ 28 * seqBank s n) s))) s

def seqBrc (n : Nat) (s : State) : State :=
  seqExec n (isOp 0x0D) (fun w => ([], modSeq n (fun q =>
    if condHolds (iCond w) { z := q.z, n := q.n, c := q.c } q.t then { q.next with pc := iTarget w } else q.next))) s

def seqCall (n : Nat) (s : State) : State :=
  seqExec n (isOp 0x0E) (fun w => ([], modSeq n (fun q =>
    { q.next with pc := iTarget w, stack := (q.pc + 1) :: q.stack }))) s

def seqRet (n : Nat) (s : State) : State :=
  seqExec n (isOp 0x0F) (fun _ => (faultIf (s.seq n).stack.isEmpty 3, modSeq n (fun q =>
    { q.next with pc := q.stack.headD 0, stack := q.stack.tail }))) s

/-! ### Items (R278, R279, R298 to R303, R307 to R312) -/

/-- Fault codes of an item at TC: order (R279). -/
def orderFaults (q : SeqSt) : List Nat := faultIf (q.tc < q.lastT) 6

/-- Emit an item at TC; PC + 1, TC and DX after it. -/
def emitItem (n op : Nat) (it : Item) (tc dx : Nat) (gap : Option Nat) (s : State) : State :=
  let q := s.seq n
  tryEmit n { item := { it with t := q.tc }, gap, op, pc := q.pc + 1, tc, dx } s

/-- The channel's kind does not support the opcode (fault 0x08). -/
def kindFault (s : State) (n op : Nat) : List Nat := faultIf (!kindAllows (rd s (chB n) R.CH_KIND_KIND) op) 8

/-- STR is not below the head's declared strings (fault 0x0B). -/
def strFault (s : State) (n str : Nat) : List Nat := faultIf (headStrings s n ≤ str) 0xB

/-- A value operand: S(RA)[w-1:0] with REG, else the field. -/
def regOr (q : SeqSt) (w : Nat) (reg : Bool) (width field : Nat) : Nat :=
  if reg then q.reg (iRA w) % 2 ^ width else field

/-- PLANE (R298, R299). -/
def seqPlane (n : Nat) (s : State) : State :=
  seqExec n (isOp 0x18) (fun w =>
    let q := s.seq n
    let src := bits w 24 2
    let idx := if src = 0 then bits w 0 11 else if src = 1 then q.reg (iRA w) else q.dx
    let d := descrAt s n (seqBank s n) idx
    let tc := if bitOf w 23 then q.tc + 4 * dDur d else q.tc
    let bad := 2048 ≤ idx
    (kindFault s n 0x18 ++ orderFaults q
        ++ faultIf (bad || dReserved d || sliceN s n ≤ dSlice d || headStrings s n ≤ dStr d) 5
        ++ faultIf (!bad && 2 ^ 63 ≤ tc) 0xA,
      emitItem n 0x18 { kind := .plane, idx := dSlice d, str := dStr d, amp := dAmp d, dur := dDur d, dark := dDark d }
        tc (if src = 2 then (q.dx + 1) % 4096 else q.dx) none)) s

/-- VILTI PLANE (R298). -/
def execVPlane (n : Fin 192) (s : State) : Host.Outcome State Fault Refusal := run (seqPlane n) s

/-- An item that leaves TC and DX as they are. -/
def emitPlain (n op : Nat) (it : Item) (s : State) : State := emitItem n op it (s.seq n).tc (s.seq n).dx none s

/-- LINE (R300). -/
def seqLine (n : Nat) (s : State) : State :=
  seqExec n (isOp 0x19) (fun w =>
    let q := s.seq n
    let row := regOr q w (iReg24 w) 12 (bits w 0 12)
    (kindFault s n 0x19 ++ orderFaults q ++ faultIf (outH s n ≤ row) 0xB,
      emitPlain n 0x19 { kind := .line, idx := row })) s

/-- VILTI LINE (R300). -/
def execVLine (n : Fin 192) (s : State) : Host.Outcome State Fault Refusal := run (seqLine n) s

/-- RESET (R301). -/
def seqReset (n : Nat) (s : State) : State :=
  seqExec n (isOp 0x1A) (fun w =>
    let q := s.seq n
    let mask := regOr q w (iReg24 w) 16 (iImm w)
    (kindFault s n 0x1A ++ orderFaults q ++ faultIf (mask / 2 ^ outBlocks s n != 0) 0xB,
      emitPlain n 0x1A { kind := .reset, idx := mask })) s

/-- VILTI RESET (R301). -/
def execVReset (n : Fin 192) (s : State) : Host.Outcome State Fault Refusal := run (seqReset n) s

/-- LAMP (R302). -/
def seqLamp (n : Nat) (s : State) : State :=
  seqExec n (isOp 0x1B) (fun w =>
    let q := s.seq n
    (orderFaults q ++ strFault s n (iStr w),
      emitPlain n 0x1B { kind := .lamp, str := iStr w, amp := regOr q w (iReg w) 16 (iImm w) })) s

/-- VILTI LAMP (R302). -/
def execVLamp (n : Fin 192) (s : State) : Host.Outcome State Fault Refusal := run (seqLamp n) s

/-- SAMPLE (R303). -/
def seqSample (n : Nat) (s : State) : State :=
  seqExec n (isOp 0x1C) (fun w =>
    (strFault s n (iStr w), seqSet n (fun q => { q with
      reqs := q.reqs.filter (·.1 != iStr w) ++ [(iStr w, bits w 20 2, iImm w)] }))) s

/-- VILTI SAMPLE (R303). -/
def execVSample (n : Fin 192) (s : State) : Host.Outcome State Fault Refusal := run (seqSample n) s

/-- AT (R304). -/
def seqAt (n : Nat) (s : State) : State :=
  seqExec n (isOp 0x1D) (fun w =>
    let q := s.seq n
    let tc := q.reg (iRA w + 1) * 2 ^ 32 + q.reg (iRA w)
    (faultIf (2 ^ 63 ≤ tc) 0xA, seqSet n (fun q => { q with tc }))) s

/-- VILTI AT (R304). -/
def execVAt (n : Fin 192) (s : State) : Host.Outcome State Fault Refusal := run (seqAt n) s

/-- ADVT (R304). -/
def seqAdvt (n : Nat) (s : State) : State :=
  seqExec n (isOp 0x1E) (fun w =>
    let q := s.seq n
    let tc := q.tc + regOr q w (iReg w) 32 (iImm w) * unitTicks (iUnit w)
    (faultIf (2 ^ 63 ≤ tc) 0xA, seqSet n (fun q => { q with tc }))) s

/-- VILTI ADVT (R304). -/
def execVAdvt (n : Fin 192) (s : State) : Host.Outcome State Fault Refusal := run (seqAdvt n) s

/-! ### Waits (R305, R306) -/

def setWaiting (n : Nat) (v : Bool) (s : State) : State := wrB (chB n) R.SEQ_STATUS_WAITING v s

/-- WAITT (R305). -/
def seqWaitt (n : Nat) (s : State) : State :=
  seqExec n (isOp 0x1F) (fun _ => ([], fun s =>
    if (s.seq n).tc ≤ s.ht then modSeq n SeqSt.resume s
    else setWaiting n true (modSeq n (fun q => { q with run := .waitT }) s))) s

/-- VILTI WAITT (R305). -/
def execVWaitt (n : Fin 192) (s : State) : Host.Outcome State Fault Refusal := run (seqWaitt n) s

/-- WAITT_RESUME: current HT has reached TC. -/
def waittResume (n : Nat) (s : State) : State :=
  if (s.seq n).run = .waitT && (s.seq n).tc ≤ s.ht then setWaiting n false (modSeq n SeqSt.resume s) else s

/-- WAITT_RESUME (R305). -/
def execWaittResume (n : Fin 192) (s : State) : Host.Outcome State Fault Refusal := run (waittResume n) s

/-- The first predicted index of segment `seg` at or after `tc` (R508). -/
def nextIndex (s : State) (n seg tc : Nat) : Option Nat :=
  (prediction s n).map (fun p =>
    let k := seg % (rd s (chB n) R.MOVE_WHEEL_CFG_SEGS_M1 + 1)
    let start := if k = 0 then 0 else rd s (chB n) R.MOVE_WSEG_START (k - 1)
    let base := p.1 + start * p.2 / 65536
    if p.2 = 0 then base
    else if base ≤ tc then base + ceilDiv (tc - base) p.2 * p.2 else base - (base - tc) / p.2 * p.2)

/-- The channel has a wheel loop: the slot MOVE_WHEEL_CFG names is not IDLE, with ROLE WHEEL and this channel. -/
def wheelLoop (s : State) (n : Nat) : Bool :=
  let k := wheelSlot s n
  s.slotState k != .idle && slotRole s k == 3 && slotChannel s k == n

/-- WAITIX takes a predicted index. -/
def takeIndex (n t : Nat) (s : State) : State := modSeq n (fun q => { q.resume with tc := t, t := false }) s

/-- WAITIX (R306). -/
def seqWaitix (n : Nat) (s : State) : State :=
  seqExec n (isOp 0x20) (fun w =>
    let seg := bits w 16 4
    let nx := nextIndex s n seg (s.seq n).tc
    (faultIf (!wheelLoop s n) 8 ++ faultIf (nx.any (2 ^ 63 ≤ ·)) 0xA, fun s =>
      match nx with
      | some t => takeIndex n t s
      | none => setWaiting n true (modSeq n (fun q => { q with run := .waitIx seg (s.ht + max 1 (iImm w) * us) }) s))) s

/-- VILTI WAITIX (R306). -/
def execVWaitix (n : Fin 192) (s : State) : Host.Outcome State Fault Refusal := run (seqWaitix n) s

/-- WAITIX_RESUME: a prediction has appeared. -/
def waitixResume (n : Nat) (s : State) : State :=
  match (s.seq n).run with
  | .waitIx seg _ =>
    match nextIndex s n seg (s.seq n).tc with
    | some t => if 2 ^ 63 ≤ t then seqFault n 0xA s else setWaiting n false (takeIndex n t s)
    | none => s
  | _ => s

/-- WAITIX_RESUME (R306). -/
def execWaitixResume (n : Fin 192) (s : State) : Host.Outcome State Fault Refusal := run (waitixResume n) s

/-- WAITIX_TIMEOUT: TIMEOUT µs have passed without a prediction. -/
def waitixTimeout (n : Nat) (s : State) : State :=
  match (s.seq n).run with
  | .waitIx _ dl =>
    if dl ≤ s.ht && (prediction s n).isNone then
      setWaiting n false (modSeq n (fun q => { q.resume with t := true }) s)
    else s
  | _ => s

/-- WAITIX_TIMEOUT (R306). -/
def execWaitixTimeout (n : Fin 192) (s : State) : Host.Outcome State Fault Refusal := run (waitixTimeout n) s

/-! ### Swaps, marks and gaps (R307) -/

/-- SWAPF. -/
def seqSwapf (n : Nat) (s : State) : State :=
  seqExec n (isOp 0x21) (fun _ =>
    (kindFault s n 0x21 ++ orderFaults (s.seq n), emitPlain n 0x21 { kind := .swap })) s

/-- VILTI SWAPF (R307). -/
def execVSwapf (n : Fin 192) (s : State) : Host.Outcome State Fault Refusal := run (seqSwapf n) s

/-- FRAME. -/
def seqFrame (n : Nat) (s : State) : State :=
  seqExec n (isOp 0x22) (fun _ =>
    let q := s.seq n
    (orderFaults q ++ faultIf (q.lastF.any (q.tc ≤ ·)) 7, emitPlain n 0x22 { kind := .mark })) s

/-- VILTI FRAME (R307). -/
def execVFrame (n : Fin 192) (s : State) : Host.Outcome State Fault Refusal := run (seqFrame n) s

/-- GAP. -/
def seqGap (n : Nat) (s : State) : State :=
  seqExec n (isOp 0x23) (fun w =>
    let q := s.seq n
    (orderFaults q, emitItem n 0x23 { kind := .priv } q.tc q.dx (some (q.tc + iImm w * unitTicks (iUnit w))))) s

/-- VILTI GAP (R307). -/
def execVGap (n : Fin 192) (s : State) : Host.Outcome State Fault Refusal := run (seqGap n) s

/-! ### Privileged operations (R309 to R313) -/

/-- A privileged instruction: fault 0x02 while a tenant owns the sequencer; else an item that carries the word and its
value operand. -/
def seqPriv (n op : Nat) (is : Nat → Bool) (faults : Nat → List Nat) (v : Nat → Nat) (s : State) : State :=
  seqExec n is (fun w =>
    (faultIf (seqOwner s n != 0) 2 ++ orderFaults (s.seq n) ++ faults w,
      emitPlain n op { kind := .priv, arg := w, amp := v w })) s

/-- CEIL. -/
def seqCeil (n : Nat) (s : State) : State :=
  seqPriv n 0x28 (isOp 0x28) (fun w => strFault s n (iStr w))
    (fun w => regOr (s.seq n) w (iReg w) 16 (iImm w)) s

/-- VILTI CEIL (R310). -/
def execVCeil (n : Fin 192) (s : State) : Host.Outcome State Fault Refusal :=
  run (seqCeil n) s

/-- DARKREL. -/
def seqDarkrel (n : Nat) : State → State := seqPriv n 0x29 (isOp 0x29) (fun _ => []) (fun _ => 0)

/-- VILTI DARKREL (R311). -/
def execVDarkrel (n : Fin 192) (s : State) : Host.Outcome State Fault Refusal :=
  run (seqDarkrel n) s

/-- A LEVEE word with operation `o`. -/
def isLevee (o w : Nat) : Bool := opcode w == 0x2A && bits w 0 2 == o

/-- LEVEE with operation `o`. -/
def seqLevee (n o : Nat) : State → State := seqPriv n 0x2A (isLevee o) (fun _ => []) (fun _ => 0)

/-- VILTI LEVEE COMMIT (R313). -/
def execVLeveeCommit (n : Fin 192) (s : State) : Host.Outcome State Fault Refusal :=
  run (seqLevee n 0) s

/-- VILTI LEVEE PREEMPT (R313). -/
def execVLeveePreempt (n : Fin 192) (s : State) : Host.Outcome State Fault Refusal :=
  run (seqLevee n 1) s

/-- VILTI LEVEE DEACTIVATE (R313). -/
def execVLeveeDeactivate (n : Fin 192) (s : State) : Host.Outcome State Fault Refusal :=
  run (seqLevee n 2) s

/-- WAVE. -/
def seqWave (n : Nat) (s : State) : State :=
  seqPriv n 0x2B (isOp 0x2B) (fun w => kindFault s n 0x2B ++ faultIf (headWaves s n ≤ bits w 0 4) 0xB)
    (fun _ => 0) s

/-- VILTI WAVE (R312). -/
def execVWave (n : Fin 192) (s : State) : Host.Outcome State Fault Refusal :=
  run (seqWave n) s

/-- Commands a program may send (R311, R441). -/
def rillAllowed (cmd : Nat) : Bool := cmd == 0 || cmd == 3 || cmd == 4 || cmd == 6 || cmd == 7

/-- RILL. -/
def seqRill (n : Nat) (s : State) : State :=
  seqPriv n 0x2C (isOp 0x2C)
    (fun w => faultIf (!rillAllowed (bits w 16 4) || rillLen s n ≤ bits w 20 4) 0xB) (fun _ => 0) s

/-- VILTI RILL (R311). -/
def execVRill (n : Fin 192) (s : State) : Host.Outcome State Fault Refusal :=
  run (seqRill n) s

end Sys2Proof.Machine
end

