-- ==== Sys2Proof/Machine/ViltiLoop.lean ====
section
/-!
DEFINITION. The loop profile of Vilti (spec/07_vilti_isa.md R275, R280, R281, R314 to R321, R333, R334): how a loop core
executes one instruction of the slot it computes, and the instructions that only a loop core has.
-/

namespace Sys2Proof.Machine
open Sys2Proof

def CoreSt.i (c : CoreSt) (r : Nat) : Nat := tget 0 r c.I
def CoreSt.f (c : CoreSt) (r : Nat) : Nat := tget 0 r c.F
def CoreSt.setI (c : CoreSt) (r v : Nat) : CoreSt := { c with I := tset 0 r (v % 2 ^ 32) c.I }
def CoreSt.setF (c : CoreSt) (r v : Nat) : CoreSt := { c with F := tset 0 r (v % 2 ^ 32) c.F }
/-- A register of the FP bank or the integer bank. -/
def CoreSt.bank (c : CoreSt) (fp : Bool) (r : Nat) : Nat := if fp then c.f r else c.i r
def CoreSt.setBank (c : CoreSt) (fp : Bool) (r v : Nat) : CoreSt := if fp then c.setF r v else c.setI r v

/-- PC + 1, one instruction more in the sample. -/
def slotNext (k : Nat) (s : State) : State := modSlot k (fun x => { x with pc := x.pc + 1, insns := x.insns + 1 }) s
def slotJump (k pc : Nat) (s : State) : State := modSlot k (fun x => { x with pc, insns := x.insns + 1 }) s

/-- The core executes the instruction at the PC of the slot it computes, when it has opcode `op` (R333): `f` gives its
fault codes and its effect. -/
def loopExec (k op : Nat) (f : Nat → List Nat × (State → State)) (s : State) : State :=
  let x := s.slot k
  if s.slotState k != .running || x.phase != .computing || (s.core (coreOf k)).cur != some k then s
  else if rd s (slB k) R.LOOP_SLOT_IMG_COUNT ≤ x.pc then loopFault k 1 s
  else
    let w := loopWord s k x.pc
    if opcode w != op then s
    else
      let r := f w
      match lowest r.1 with
      | 0 => r.2 s
      | c => loopFault k c s

/-- An effect on the core's registers. -/
def coreSet (k : Nat) (f : CoreSt → CoreSt) (s : State) : State := slotNext k (modCore (coreOf k) f s)

/-! ### Instructions both profiles have -/

def loopOp2 (c : CoreSt) (w : Nat) : Nat := if iI w then toTwos 32 (sext 15 (iImm15 w)) else c.i (iRB w)

def loopAlu (k op : Nat) (s : State) : State :=
  loopExec k op (fun w => ([], coreSet k (fun c => c.setI (iRD w) (alu op (c.i (iRA w)) (loopOp2 c w))))) s

def loopLdi (k : Nat) (s : State) : State :=
  loopExec k 0x02 (fun w => ([], coreSet k (fun c =>
    c.setBank (bitOf w 20) (iRD w) (ldi w (c.bank (bitOf w 20) (iRD w)))))) s

/-- MOV's source (R283): SLOT, SAMPLE and DT besides the registers. -/
def loopSource (s : State) (k w : Nat) : Nat :=
  let x := s.slot k
  let r := iRA w
  if bitOf w 14 then (s.core (coreOf k)).f r
  else if r = 16 then k % 8
  else if r = 17 then (x.cTick - x.phi) / max 1 x.per % 2 ^ 32
  else if r = 18 then x.dt % 2 ^ 32
  else (s.core (coreOf k)).i r

def loopMov (k : Nat) (s : State) : State :=
  loopExec k 0x03 (fun w => ([], fun s => coreSet k (fun c => c.setBank (bitOf w 15) (iRD w) (loopSource s k w)) s)) s

def loopCmp (k : Nat) (s : State) : State :=
  loopExec k 0x0B (fun w =>
    let c := s.core (coreOf k)
    let set := fun (f : VFlags) => coreSet k (fun c => { c with z := f.z, n := f.n, c := f.c })
    if bitOf w 21 then
      let a := c.f (iRA w)
      let b := c.f (iRB w)
      (faultIf (fNaN a || fNaN b) 2, set (cmpFp a b))
    else ([], set (cmpInt (c.i (iRA w)) (loopOp2 c w)))) s

def loopBr (k : Nat) (s : State) : State := loopExec k 0x0C (fun w => ([], slotJump k (iTarget w))) s

def loopBrc (k : Nat) (s : State) : State :=
  loopExec k 0x0D (fun w =>
    let c := s.core (coreOf k)
    ([], if condHolds (iCond w) { z := c.z, n := c.n, c := c.c } false then slotJump k (iTarget w) else slotNext k)) s

def loopCall (k : Nat) (s : State) : State :=
  loopExec k 0x0E (fun w => ([], fun s =>
    slotJump k (iTarget w) (modSlot k (fun x => { x with stack := (x.pc + 1) :: x.stack }) s))) s

def loopRet (k : Nat) (s : State) : State :=
  loopExec k 0x0F (fun _ => (faultIf (s.slot k).stack.isEmpty 3, fun s =>
    let x := s.slot k
    slotJump k (x.stack.headD 0) (setSlot k { x with stack := x.stack.tail } s))) s

def loopLd (k : Nat) (s : State) : State :=
  loopExec k 0x10 (fun w =>
    let a := memAddr ((s.core (coreOf k)).i (iRA w)) w
    (faultIf (badAccess a (4 * winSize s k)) 4, fun s =>
      coreSet k (fun c => c.setBank (iI w) (iRD w) (winWord s k (a.toNat / 4))) s)) s

def loopSt (k : Nat) (s : State) : State :=
  loopExec k 0x11 (fun w =>
    let c := s.core (coreOf k)
    let a := memAddr (c.i (iRA w)) w
    (faultIf (badAccess a (4 * winSize s k)) 4, fun s =>
      slotNext k (setWinWord k (a.toNat / 4) (c.bank (iI w) (iRD w)) s))) s

def loopSig (k : Nat) (s : State) : State :=
  loopExec k 0x12 (fun w => ([], fun s => slotNext k (raise 0x0907 (evCh s k) (iImm w + 65536 * k) s))) s

def loopNop (k : Nat) (s : State) : State := loopExec k 0x00 (fun _ => ([], slotNext k)) s
def loopHalt (k : Nat) (s : State) : State := loopExec k 0x01 (fun _ => ([8], id)) s

/-! ### Floating-point operations (R314 to R318) -/

/-- An FP operation on FA, FB, FC: none is a NaN result (fault 0x02). `guard` gives further fault codes. -/
def fpOp (k op : Nat) (g : Nat → Nat → Nat → Option Nat) (guard : Nat → Nat → Nat → List Nat) (s : State) : State :=
  loopExec k op (fun w =>
    let c := s.core (coreOf k)
    let a := c.f (iRA w)
    let b := c.f (iFB w)
    let d := c.f (iFC w)
    let r := g a b d
    (faultIf r.isNone 2 ++ guard a b d, coreSet k (fun c => c.setF (iRD w) (r.getD 0)))) s

def noGuard : Nat → Nat → Nat → List Nat := fun _ _ _ => []

/-- VILTI FADD (R314). -/
def execVFadd (k : Fin 2048) (s : State) : Host.Outcome State Fault Refusal :=
  run (fpOp k 0x30 (fun a b _ => fAdd a b) noGuard) s

/-- VILTI FSUB (R314). -/
def execVFsub (k : Fin 2048) (s : State) : Host.Outcome State Fault Refusal :=
  run (fpOp k 0x31 (fun a b _ => fSub a b) noGuard) s

/-- VILTI FMUL (R314). -/
def execVFmul (k : Fin 2048) (s : State) : Host.Outcome State Fault Refusal :=
  run (fpOp k 0x32 (fun a b _ => fMul a b) noGuard) s

/-- VILTI FMA (R314). -/
def execVFma (k : Fin 2048) (s : State) : Host.Outcome State Fault Refusal :=
  run (fpOp k 0x33 fFma noGuard) s

/-- Neither operand is a NaN. -/
def noNaN (a b : Nat) (r : Nat) : Option Nat := if fNaN a || fNaN b then none else some r

/-- VILTI FMIN (R316). -/
def execVFmin (k : Fin 2048) (s : State) : Host.Outcome State Fault Refusal :=
  run (fpOp k 0x34 (fun a b _ => noNaN a b (fMin a b)) noGuard) s

/-- VILTI FMAX (R316). -/
def execVFmax (k : Fin 2048) (s : State) : Host.Outcome State Fault Refusal :=
  run (fpOp k 0x35 (fun a b _ => noNaN a b (fMax a b)) noGuard) s

/-- VILTI FCLP (R316): FB greater than FC faults with 0x07. -/
def execVFclp (k : Fin 2048) (s : State) : Host.Outcome State Fault Refusal :=
  run (fpOp k 0x36 (fun a b c => if fNaN c then none else noNaN a b (fMin (fMax a b) c))
    (fun _ b c => faultIf (!fNaN b && !fNaN c && fLt c b) 7)) s

/-- VILTI FABS (R285, R315). -/
def execVFabs (k : Fin 2048) (s : State) : Host.Outcome State Fault Refusal :=
  run (fpOp k 0x37 (fun a _ _ => noNaN a 0 (fAbs (fFlush a))) noGuard) s

/-- VILTI FNEG (R285, R315). -/
def execVFneg (k : Fin 2048) (s : State) : Host.Outcome State Fault Refusal :=
  run (fpOp k 0x38 (fun a _ _ => noNaN a 0 (fNeg (fFlush a))) noGuard) s

/-- FCVT (R317). -/
def loopFcvt (k : Nat) (s : State) : State :=
  loopExec k 0x39 (fun w =>
    let c := s.core (coreOf k)
    let m := bits w 13 3
    let fa := c.f (iRA w)
    if m = 0 then ([], coreSet k (fun c => c.setF (iRD w) (fOfInt (sext 32 (c.i (iRA w))))))
    else if m = 1 then ([], coreSet k (fun c => c.setF (iRD w) (fOfInt (c.i (iRA w)))))
    else
      let v : Int := if m = 4 then fToRange fa true 0 (2 ^ 32 - 1) else fToRange fa (m = 2) (-(2 ^ 31)) (2 ^ 31 - 1)
      (faultIf (fNaN fa) 2, coreSet k (fun c => c.setI (iRD w) (toTwos 32 v)))) s

/-- VILTI FCVT (R317). -/
def execVFcvt (k : Fin 2048) (s : State) : Host.Outcome State Fault Refusal := run (loopFcvt k) s

/-- FLUT's fault codes and result (R315, R318, R333): a NaN of FA, of the header or, where the table serves, of a value. -/
def flut (s : State) (k base fa : Nat) : List Nat × Nat :=
  let size := winSize s k
  if size ≤ base + 2 then (faultIf (fNaN fa) 2 ++ [4], 0)
  else
    let n := winWord s k (base + 2)
    let wrong : Bool := n < 2 || 64 < n
    let beyond : Bool := size ≤ base + n + 2
    let r := do
      let d ← fSub fa (winWord s k base)
      let u ← fMul d (winWord s k (base + 1))
      if wrong || beyond then pure 0
      else
        let u := fMin (fMax u 0) (fOfInt (n - 1 : Nat))
        let i := min (fToInt u false).toNat (n - 2)
        let f ← fSub u (fOfInt i)
        let y0 := winWord s k (base + 3 + i)
        let dy ← fSub (winWord s k (base + 4 + i)) y0
        let p ← fMul f dy
        fAdd y0 p
    (faultIf r.isNone 2 ++ faultIf beyond 4 ++ faultIf wrong 7, r.getD 0)

/-- FLUT. -/
def loopFlut (k : Nat) (s : State) : State :=
  loopExec k 0x3A (fun w =>
    let r := flut s k (bits w 0 9) ((s.core (coreOf k)).f (iRA w))
    (r.1, coreSet k (fun c => c.setF (iRD w) r.2))) s

/-- VILTI FLUT (R318). -/
def execVFlut (k : Fin 2048) (s : State) : Host.Outcome State Fault Refusal := run (loopFlut k) s

/-! ### Records, actuators and traces (R319 to R321) -/

/-- IN. -/
def loopIn (k : Nat) (s : State) : State :=
  loopExec k 0x3B (fun w => ([], fun s =>
    coreSet k (fun c => c.setF (iRD w) (tget 0 (bits w 0 4) (s.slot k).latched)) s)) s

/-- VILTI IN (R319). -/
def execVIn (k : Fin 2048) (s : State) : Host.Outcome State Fault Refusal := run (loopIn k) s

/-- OUT. -/
def loopOut (k : Nat) (s : State) : State :=
  loopExec k 0x3C (fun w =>
    let v := (s.core (coreOf k)).f (iRA w)
    let i := bits w 0 4
    (faultIf (fNaN v) 2, fun s => slotNext k (applyAct k i (convert (outDst s k i) v) (s.slot k).cTick s))) s

/-- VILTI OUT (R471). -/
def execVOut (k : Fin 2048) (s : State) : Host.Outcome State Fault Refusal := run (loopOut k) s

/-- WAITS (R280, R321). -/
def loopWaits (k : Nat) (s : State) : State :=
  loopExec k 0x3D (fun _ => (faultIf (!(s.slot k).stack.isEmpty) 5, fun s =>
    sampleDone k (modSlot k (fun x => { x with insns := x.insns + 1 }) s))) s

/-- VILTI WAITS (R280). -/
def execVWaits (k : Fin 2048) (s : State) : Host.Outcome State Fault Refusal := run (loopWaits k) s

/-- CHK (R320). -/
def loopChk (k : Nat) (s : State) : State :=
  loopExec k 0x3E (fun w =>
    let c := s.core (coreOf k)
    let b := c.f (iFC w)
    match fSub (c.f (iRA w)) (c.f (iFB w)) with
    | none => ([2], id)
    | some d => (faultIf (fNaN b) 2 ++ faultIf (!fNaN b && !fLe (fAbs d) b) 6, slotNext k)) s

/-- VILTI CHK (R320). -/
def execVChk (k : Fin 2048) (s : State) : Host.Outcome State Fault Refusal := run (loopChk k) s

/-- TRC. -/
def loopTrc (k : Nat) (s : State) : State :=
  loopExec k 0x3F (fun w =>
    let v := (s.core (coreOf k)).f (iRA w)
    (faultIf (fNaN v) 2, fun s =>
      slotNext k (modSlot k (fun x => { x with traces := nodeIns (bits w 0 4, v) x.traces }) s))) s

/-- VILTI TRC (R319). -/
def execVTrc (k : Fin 2048) (s : State) : Host.Outcome State Fault Refusal := run (loopTrc k) s

end Sys2Proof.Machine
end

