-- ==== Sys2Proof/Machine/Vilti.lean ====
section
/-!
DEFINITION. The Vilti instructions that both profiles have (spec/07_vilti_isa.md R285 to R295): each executes on the
sequencer of a channel or on the loop slot that its core computes.
-/

namespace Sys2Proof.Machine
open Sys2Proof

def seqNop (n : Nat) : State → State :=
  seqExec n (isOp 0x00) (fun _ => ([], seqSet n id))

/-- VILTI NOP (R285). -/
def execVNop (e : Engine) (s : State) : Host.Outcome State Fault Refusal :=
  match e with
  | .seq n => run (seqNop n) s
  | .slot k => run (loopNop k) s
  | .seqParity n => run (seqParityError n) s

/-- VILTI HALT (R293, R334). -/
def execVHalt (e : Engine) (s : State) : Host.Outcome State Fault Refusal :=
  match e with
  | .seq n => run (seqHalted n) s
  | .slot k => run (loopHalt k) s
  | .seqParity n => run (seqParityError n) s

def seqLdi (n : Nat) : State → State :=
  seqExec n (isOp 0x02) (fun w =>
    ([], seqSet n (fun q => q.setReg (iRD w) (ldi w (q.reg (iRD w))))))

/-- VILTI LDI (R287). -/
def execVLdi (e : Engine) (s : State) : Host.Outcome State Fault Refusal :=
  match e with
  | .seq n => run (seqLdi n) s
  | .slot k => run (loopLdi k) s
  | .seqParity n => run (seqParityError n) s

def seqMov (n : Nat) : State → State :=
  seqExec n (isOp 0x03) (fun w =>
    ([], fun s => seqSet n (fun q => q.setReg (iRD w) (seqSource s n (iRA w))) s))

/-- VILTI MOV (R288). -/
def execVMov (e : Engine) (s : State) : Host.Outcome State Fault Refusal :=
  match e with
  | .seq n => run (seqMov n) s
  | .slot k => run (loopMov k) s
  | .seqParity n => run (seqParityError n) s

/-- VILTI ADD (R286). -/
def execVAdd (e : Engine) (s : State) : Host.Outcome State Fault Refusal :=
  match e with
  | .seq n => run (seqAlu n 0x04) s
  | .slot k => run (loopAlu k 0x04) s
  | .seqParity n => run (seqParityError n) s

/-- VILTI SUB (R286). -/
def execVSub (e : Engine) (s : State) : Host.Outcome State Fault Refusal :=
  match e with
  | .seq n => run (seqAlu n 0x05) s
  | .slot k => run (loopAlu k 0x05) s
  | .seqParity n => run (seqParityError n) s

/-- VILTI AND (R286). -/
def execVAnd (e : Engine) (s : State) : Host.Outcome State Fault Refusal :=
  match e with
  | .seq n => run (seqAlu n 0x06) s
  | .slot k => run (loopAlu k 0x06) s
  | .seqParity n => run (seqParityError n) s

/-- VILTI OR (R286). -/
def execVOr (e : Engine) (s : State) : Host.Outcome State Fault Refusal :=
  match e with
  | .seq n => run (seqAlu n 0x07) s
  | .slot k => run (loopAlu k 0x07) s
  | .seqParity n => run (seqParityError n) s

/-- VILTI XOR (R286). -/
def execVXor (e : Engine) (s : State) : Host.Outcome State Fault Refusal :=
  match e with
  | .seq n => run (seqAlu n 0x08) s
  | .slot k => run (loopAlu k 0x08) s
  | .seqParity n => run (seqParityError n) s

/-- VILTI SHL (R286). -/
def execVShl (e : Engine) (s : State) : Host.Outcome State Fault Refusal :=
  match e with
  | .seq n => run (seqAlu n 0x09) s
  | .slot k => run (loopAlu k 0x09) s
  | .seqParity n => run (seqParityError n) s

/-- VILTI SHR (R286). -/
def execVShr (e : Engine) (s : State) : Host.Outcome State Fault Refusal :=
  match e with
  | .seq n => run (seqAlu n 0x0A) s
  | .slot k => run (loopAlu k 0x0A) s
  | .seqParity n => run (seqParityError n) s

def seqCmp (n : Nat) : State → State :=
  seqExec n (isOp 0x0B) (fun w => ([], seqSet n (fun q =>
    let f := cmpInt (q.reg (iRA w)) (seqOp2 q w)
    { q with z := f.z, n := f.n, c := f.c })))

/-- VILTI CMP (R289). -/
def execVCmp (e : Engine) (s : State) : Host.Outcome State Fault Refusal :=
  match e with
  | .seq n => run (seqCmp n) s
  | .slot k => run (loopCmp k) s
  | .seqParity n => run (seqParityError n) s

def seqBr (n : Nat) : State → State :=
  seqExec n (isOp 0x0C) (fun w => ([], modSeq n (fun q => { q.next with pc := iTarget w })))

/-- VILTI BR (R285). -/
def execVBr (e : Engine) (s : State) : Host.Outcome State Fault Refusal :=
  match e with
  | .seq n => run (seqBr n) s
  | .slot k => run (loopBr k) s
  | .seqParity n => run (seqParityError n) s

/-- VILTI BRC (R290). -/
def execVBrc (e : Engine) (s : State) : Host.Outcome State Fault Refusal :=
  match e with
  | .seq n => run (seqBrc n) s
  | .slot k => run (loopBrc k) s
  | .seqParity n => run (seqParityError n) s

/-- VILTI CALL (R292). -/
def execVCall (e : Engine) (s : State) : Host.Outcome State Fault Refusal :=
  match e with
  | .seq n => run (seqCall n) s
  | .slot k => run (loopCall k) s
  | .seqParity n => run (seqParityError n) s

/-- VILTI RET (R292). -/
def execVRet (e : Engine) (s : State) : Host.Outcome State Fault Refusal :=
  match e with
  | .seq n => run (seqRet n) s
  | .slot k => run (loopRet k) s
  | .seqParity n => run (seqParityError n) s

/-- VILTI LD (R291). -/
def execVLd (e : Engine) (s : State) : Host.Outcome State Fault Refusal :=
  match e with
  | .seq n => run (seqLd n) s
  | .slot k => run (loopLd k) s
  | .seqParity n => run (seqParityError n) s

/-- VILTI ST (R291). -/
def execVSt (e : Engine) (s : State) : Host.Outcome State Fault Refusal :=
  match e with
  | .seq n => run (seqSt n) s
  | .slot k => run (loopSt k) s
  | .seqParity n => run (seqParityError n) s

/-- VILTI SIG (R294). -/
def execVSig (e : Engine) (s : State) : Host.Outcome State Fault Refusal :=
  match e with
  | .seq n => run (seqSig n) s
  | .slot k => run (loopSig k) s
  | .seqParity n => run (seqParityError n) s

/-! ### The watchdog (R331, R332) -/

/-- Every instruction of the sequence profile; the one at PC is executed by the one that recognises its word. -/
def seqInstructions (n : Nat) : List (State → State) :=
  [seqNop n, seqHalted n, seqLdi n, seqMov n, seqCmp n, seqBr n, seqBrc n, seqCall n, seqRet n, seqLd n, seqSt n, seqSig n,
   seqPlane n, seqLine n, seqReset n, seqLamp n, seqSample n, seqAt n, seqAdvt n, seqWaitt n, seqWaitix n, seqSwapf n,
   seqFrame n, seqGap n, seqCeil n, seqDarkrel n, seqLevee n 0, seqLevee n 1, seqLevee n 2, seqWave n, seqRill n]
  ++ (List.range 7).map (fun i => seqAlu n (4 + i))

/-- SEQ_WATCHDOG: the instruction that would exceed the limit is met, and faults with the lowest code of those that it
meets, 0x09 among them. -/
def seqWatchdog (n : Nat) (s : State) : State :=
  if (s.seq n).run = .ready && watchdog s n ≤ (s.seq n).insns then each (seqInstructions n) (fun f s => f s) s else s

/-- SEQ_WATCHDOG (R331, R332). -/
def execSeqWatchdog (n : Fin 192) (s : State) : Host.Outcome State Fault Refusal := run (seqWatchdog n) s

end Sys2Proof.Machine
end

