-- ==== Sys2Proof/Machine/Dispatch.lean ====
section
/-!
DEFINITION. One arm per command: its effect on everything but the queue.
-/

namespace Sys2Proof.Machine
open Sys2Proof

def exec (i : Instr) (s : State) : Host.Outcome State Fault Refusal :=
  match i with
  -- Register access
  | .registerWrite fn a data => Sys2Proof.Machine.execRegisterWrite fn a data s
  -- Modes, start-up and hold-up
  | .powerGood vhold x => Sys2Proof.Machine.execPowerGood vhold x s
  | .perstAssert => Sys2Proof.Machine.execPerstAssert s
  | .perstDeassert x => Sys2Proof.Machine.execPerstDeassert x s
  | .startupComplete => Sys2Proof.Machine.execStartupComplete s
  | .startupStepTimeout u => Sys2Proof.Machine.execStartupStepTimeout u s
  | .modeReqDormant mgmt => Sys2Proof.Machine.execModeReqDormant mgmt s
  | .modeReqService mgmt => Sys2Proof.Machine.execModeReqService mgmt s
  | .modeReqShow mgmt => Sys2Proof.Machine.execModeReqShow mgmt s
  | .modeReqUnrequestable mgmt m => Sys2Proof.Machine.execModeReqUnrequestable mgmt m s
  | .dormantEntered => Sys2Proof.Machine.execDormantEntered s
  | .mainOkFall vhold => Sys2Proof.Machine.execMainOkFall vhold s
  | .railUnderVoltage r vhold => Sys2Proof.Machine.execRailUnderVoltage r vhold s
  | .holdLogCommitted k => Sys2Proof.Machine.execHoldLogCommitted k s
  | .mainOkRise => Sys2Proof.Machine.execMainOkRise s
  | .holdExit x h => Sys2Proof.Machine.execHoldExit x h s
  | .vholdStop => Sys2Proof.Machine.execVholdStop s
  | .holdGaugeRound mv => Sys2Proof.Machine.execHoldGaugeRound mv s
  | .gaugeFullCharge => Sys2Proof.Machine.execGaugeFullCharge s
  | .holdCapacityWrite v => Sys2Proof.Machine.execHoldCapacityWrite v s
  | .lockstepDisagree => Sys2Proof.Machine.execLockstepDisagree s
  | .tripLatchClear => Sys2Proof.Machine.execTripLatchClear s
  | .vddioLoss => Sys2Proof.Machine.execVddioLoss s
  | .vddioReturn x => Sys2Proof.Machine.execVddioReturn x s
  | .railOutOfRange r => Sys2Proof.Machine.execRailOutOfRange r s
  -- Channel states
  | .chArm mgmt n => Sys2Proof.Machine.execChArm mgmt n s
  | .chDisarm n => Sys2Proof.Machine.execChDisarm n s
  | .chStop n => Sys2Proof.Machine.execChStop n s
  | .chClear n => Sys2Proof.Machine.execChClear n s
  | .chReset n => Sys2Proof.Machine.execChReset n s
  | .channelRunning n => Sys2Proof.Machine.execChannelRunning n s
  | .drainComplete n => Sys2Proof.Machine.execDrainComplete n s
  | .drainTimeout n => Sys2Proof.Machine.execDrainTimeout n s
  -- Headwater time
  | .timeSet => Sys2Proof.Machine.execTimeSet s
  | .timeSetLoad => Sys2Proof.Machine.execTimeSetLoad s
  | .timeStepNow => Sys2Proof.Machine.execTimeStepNow s
  | .timeSwitch => Sys2Proof.Machine.execTimeSwitch s
  | .timeCntClr => Sys2Proof.Machine.execTimeCntClr s
  | .timeMessageSend => Sys2Proof.Machine.execTimeMessageSend s
  | .delayReqSend b => Sys2Proof.Machine.execDelayReqSend b s
  | .delayReqReceived frac wait m => Sys2Proof.Machine.execDelayReqReceived frac wait m s
  | .delayRespReceived b frac m => Sys2Proof.Machine.execDelayRespReceived b frac m s
  | .delayRespTimeout b => Sys2Proof.Machine.execDelayRespTimeout b s
  | .timeMessageReceived b frac m => Sys2Proof.Machine.execTimeMessageReceived b frac m s
  | .hwLinkLost k => Sys2Proof.Machine.execHwLinkLost k s
  | .hwInputTimeout b => Sys2Proof.Machine.execHwInputTimeout b s
  | .srcHoldoverSwitch => Sys2Proof.Machine.execSrcHoldoverSwitch s
  | .timeRevert => Sys2Proof.Machine.execTimeRevert s
  | .stepPendingApply => Sys2Proof.Machine.execStepPendingApply s
  | .holdoverExpired => Sys2Proof.Machine.execHoldoverExpired s
  | .refLost => Sys2Proof.Machine.execRefLost s
  | .refRestored => Sys2Proof.Machine.execRefRestored s
  | .launchClockUnlock d => Sys2Proof.Machine.execLaunchClockUnlock d s
  -- Fetch, composition, planes and the pool
  | .fetchReadDone n k y wbFit => Sys2Proof.Machine.execFetchReadDone n k y wbFit s
  | .lineDeadline n x mx wbFit => Sys2Proof.Machine.execLineDeadline n x mx wbFit s
  | .frameComposed n wbFit => Sys2Proof.Machine.execFrameComposed n wbFit s
  | .flipInstant n => Sys2Proof.Machine.execFlipInstant n s
  | .formatDarkEnd n => Sys2Proof.Machine.execFormatDarkEnd n s
  | .rangeDarkEnd n => Sys2Proof.Machine.execRangeDarkEnd n s
  | .preempt n => Sys2Proof.Machine.execPreempt n s
  | .compCntClr n => Sys2Proof.Machine.execCompCntClr n s
  | .compLutDataAccess n w => Sys2Proof.Machine.execCompLutDataAccess n w s
  | .compBrightWrite fn n v => Sys2Proof.Machine.execCompBrightWrite fn n v s
  | .wbFrameDone n => Sys2Proof.Machine.execWbFrameDone n s
  | .poolSlotFreed n wbFit => Sys2Proof.Machine.execPoolSlotFreed n wbFit s
  | .readyTimeNoSlot n => Sys2Proof.Machine.execReadyTimeNoSlot n s
  | .planeCntClr n => Sys2Proof.Machine.execPlaneCntClr n s
  -- The Vilti instruction set and its sequencer
  | .vNop e => Sys2Proof.Machine.execVNop e s
  | .vHalt e => Sys2Proof.Machine.execVHalt e s
  | .vLdi e => Sys2Proof.Machine.execVLdi e s
  | .vMov e => Sys2Proof.Machine.execVMov e s
  | .vAdd e => Sys2Proof.Machine.execVAdd e s
  | .vSub e => Sys2Proof.Machine.execVSub e s
  | .vAnd e => Sys2Proof.Machine.execVAnd e s
  | .vOr e => Sys2Proof.Machine.execVOr e s
  | .vXor e => Sys2Proof.Machine.execVXor e s
  | .vShl e => Sys2Proof.Machine.execVShl e s
  | .vShr e => Sys2Proof.Machine.execVShr e s
  | .vCmp e => Sys2Proof.Machine.execVCmp e s
  | .vBr e => Sys2Proof.Machine.execVBr e s
  | .vBrc e => Sys2Proof.Machine.execVBrc e s
  | .vCall e => Sys2Proof.Machine.execVCall e s
  | .vRet e => Sys2Proof.Machine.execVRet e s
  | .vLd e => Sys2Proof.Machine.execVLd e s
  | .vSt e => Sys2Proof.Machine.execVSt e s
  | .vSig e => Sys2Proof.Machine.execVSig e s
  | .vPlane n => Sys2Proof.Machine.execVPlane n s
  | .vLine n => Sys2Proof.Machine.execVLine n s
  | .vReset n => Sys2Proof.Machine.execVReset n s
  | .vLamp n => Sys2Proof.Machine.execVLamp n s
  | .vSample n => Sys2Proof.Machine.execVSample n s
  | .vAt n => Sys2Proof.Machine.execVAt n s
  | .vAdvt n => Sys2Proof.Machine.execVAdvt n s
  | .vWaitt n => Sys2Proof.Machine.execVWaitt n s
  | .waittResume n => Sys2Proof.Machine.execWaittResume n s
  | .vWaitix n => Sys2Proof.Machine.execVWaitix n s
  | .waitixResume n => Sys2Proof.Machine.execWaitixResume n s
  | .waitixTimeout n => Sys2Proof.Machine.execWaitixTimeout n s
  | .vSwapf n => Sys2Proof.Machine.execVSwapf n s
  | .vFrame n => Sys2Proof.Machine.execVFrame n s
  | .vGap n => Sys2Proof.Machine.execVGap n s
  | .gapStartUndecided n => Sys2Proof.Machine.execGapStartUndecided n s
  | .vCeil n => Sys2Proof.Machine.execVCeil n s
  | .vDarkrel n => Sys2Proof.Machine.execVDarkrel n s
  | .vLeveeCommit n => Sys2Proof.Machine.execVLeveeCommit n s
  | .vLeveePreempt n => Sys2Proof.Machine.execVLeveePreempt n s
  | .vLeveeDeactivate n => Sys2Proof.Machine.execVLeveeDeactivate n s
  | .vWave n => Sys2Proof.Machine.execVWave n s
  | .vRill n => Sys2Proof.Machine.execVRill n s
  | .vFadd k => Sys2Proof.Machine.execVFadd k s
  | .vFsub k => Sys2Proof.Machine.execVFsub k s
  | .vFmul k => Sys2Proof.Machine.execVFmul k s
  | .vFma k => Sys2Proof.Machine.execVFma k s
  | .vFmin k => Sys2Proof.Machine.execVFmin k s
  | .vFmax k => Sys2Proof.Machine.execVFmax k s
  | .vFclp k => Sys2Proof.Machine.execVFclp k s
  | .vFabs k => Sys2Proof.Machine.execVFabs k s
  | .vFneg k => Sys2Proof.Machine.execVFneg k s
  | .vFcvt k => Sys2Proof.Machine.execVFcvt k s
  | .vFlut k => Sys2Proof.Machine.execVFlut k s
  | .vIn k => Sys2Proof.Machine.execVIn k s
  | .vOut k => Sys2Proof.Machine.execVOut k s
  | .vWaits k => Sys2Proof.Machine.execVWaits k s
  | .vChk k => Sys2Proof.Machine.execVChk k s
  | .vTrc k => Sys2Proof.Machine.execVTrc k s
  | .seqWatchdog n => Sys2Proof.Machine.execSeqWatchdog n s
  | .emitWindowOpen n => Sys2Proof.Machine.execEmitWindowOpen n s
  | .seqQueueResume n => Sys2Proof.Machine.execSeqQueueResume n s
  -- Sequencer control
  | .seqSwapRequest n => Sys2Proof.Machine.execSeqSwapRequest n s
  | .seqCntClr n => Sys2Proof.Machine.execSeqCntClr n s
  | .seqXcntClr n => Sys2Proof.Machine.execSeqXcntClr n s
  -- The Weir
  | .decisionInstant n => Sys2Proof.Machine.execDecisionInstant n s
  | .stagingStart n => Sys2Proof.Machine.execStagingStart n s
  | .stagingComplete n => Sys2Proof.Machine.execStagingComplete n s
  | .stageNotInTime n k => Sys2Proof.Machine.execStageNotInTime n k s
  | .poolReadPoison n k => Sys2Proof.Machine.execPoolReadPoison n k s
  | .tokenLeadMiss n => Sys2Proof.Machine.execTokenLeadMiss n s
  | .release n ph => Sys2Proof.Machine.execRelease n ph s
  | .planeIntervalEnd n => Sys2Proof.Machine.execPlaneIntervalEnd n s
  | .syncSend n => Sys2Proof.Machine.execSyncSend n s
  | .withdrawalComplete n => Sys2Proof.Machine.execWithdrawalComplete n s
  | .avsPeriod d fails => Sys2Proof.Machine.execAvsPeriod d fails s
  | .weirCntClr n => Sys2Proof.Machine.execWeirCntClr n s
  -- Lamps and the rill
  | .stringClear n mask => Sys2Proof.Machine.execStringClear n mask s
  | .lampCntClr n => Sys2Proof.Machine.execLampCntClr n s
  | .lampCurveDataAccess n w => Sys2Proof.Machine.execLampCurveDataAccess n w s
  | .lampSceilWrite mgmt n k v => Sys2Proof.Machine.execLampSceilWrite mgmt n k v s
  | .svcCeilWrite mgmt v => Sys2Proof.Machine.execSvcCeilWrite mgmt v s
  | .fadeDone n ceiling => Sys2Proof.Machine.execFadeDone n ceiling s
  | .derateSourceRestore n k => Sys2Proof.Machine.execDerateSourceRestore n k s
  | .rillFrameStart n => Sys2Proof.Machine.execRillFrameStart n s
  | .rillAckTimeout n idx => Sys2Proof.Machine.execRillAckTimeout n idx s
  | .rillReadbackDiff n => Sys2Proof.Machine.execRillReadbackDiff n s
  | .rillReadbackTrip n => Sys2Proof.Machine.execRillReadbackTrip n s
  | .bypassDarkFrame n k => Sys2Proof.Machine.execBypassDarkFrame n k s
  -- Loop engines
  | .slotStart k => Sys2Proof.Machine.execSlotStart k s
  | .slotStop k => Sys2Proof.Machine.execSlotStop k s
  | .slotResume k reload => Sys2Proof.Machine.execSlotResume k reload s
  | .slotSafe k => Sys2Proof.Machine.execSlotSafe k s
  | .slotFree k => Sys2Proof.Machine.execSlotFree k s
  | .slotHoldExpired k => Sys2Proof.Machine.execSlotHoldExpired k s
  | .slotRampExpired k => Sys2Proof.Machine.execSlotRampExpired k s
  | .loopSampleTick k => Sys2Proof.Machine.execLoopSampleTick k s
  | .loopRecordComplete k => Sys2Proof.Machine.execLoopRecordComplete k s
  | .loopOverrunLimit k => Sys2Proof.Machine.execLoopOverrunLimit k s
  | .loopBindDataAccess d cl w => Sys2Proof.Machine.execLoopBindDataAccess d cl w s
  | .loopSpDataWrite d cl v => Sys2Proof.Machine.execLoopSpDataWrite d cl v s
  | .loopClCntClr d cl => Sys2Proof.Machine.execLoopClCntClr d cl s
  | .loopCoreReset d c => Sys2Proof.Machine.execLoopCoreReset d c s
  | .loopCoreMigrate d c => Sys2Proof.Machine.execLoopCoreMigrate d c s
  | .coreCheckFailure d p reason met => Sys2Proof.Machine.execCoreCheckFailure d p reason met s
  | .loopMigrationDone d c => Sys2Proof.Machine.execLoopMigrationDone d c s
  | .eddyArm d cl => Sys2Proof.Machine.execEddyArm d cl s
  | .eddyTrigger d cl => Sys2Proof.Machine.execEddyTrigger d cl s
  | .eddyDisarm d cl => Sys2Proof.Machine.execEddyDisarm d cl s
  | .eddyFrozen d cl => Sys2Proof.Machine.execEddyFrozen d cl s
  | .eddyArchived d cl => Sys2Proof.Machine.execEddyArchived d cl s
  -- Wheels and scan mirrors
  | .wheelRun n => Sys2Proof.Machine.execWheelRun n s
  | .wheelStop n => Sys2Proof.Machine.execWheelStop n s
  | .scanStart n => Sys2Proof.Machine.execScanStart n s
  | .scanStop n => Sys2Proof.Machine.execScanStop n s
  | .moveCntClr n => Sys2Proof.Machine.execMoveCntClr n s
  | .wheelStopped n => Sys2Proof.Machine.execWheelStopped n s
  | .wheelSpeedTimeout n => Sys2Proof.Machine.execWheelSpeedTimeout n s
  | .wheelLockLost n => Sys2Proof.Machine.execWheelLockLost n s
  | .wheelInterlockDwell n => Sys2Proof.Machine.execWheelInterlockDwell n s
  | .wheelInterlockRelease n => Sys2Proof.Machine.execWheelInterlockRelease n s
  | .wheelIndexLost n => Sys2Proof.Machine.execWheelIndexLost n s
  | .sweepStep n => Sys2Proof.Machine.execSweepStep n s
  | .scanLocked n => Sys2Proof.Machine.execScanLocked n s
  | .scanAmpStale n => Sys2Proof.Machine.execScanAmpStale n s
  | .scanRundownDone n => Sys2Proof.Machine.execScanRundownDone n s
  | .scanStopped n => Sys2Proof.Machine.execScanStopped n s
  -- Ehriz lanes
  | .portEnable n => Sys2Proof.Machine.execPortEnable n s
  | .portDisable n => Sys2Proof.Machine.execPortDisable n s
  | .ephyRetrain n => Sys2Proof.Machine.execEphyRetrain n s
  | .txSleepEnter n => Sys2Proof.Machine.execTxSleepEnter n s
  | .txSleepExit n => Sys2Proof.Machine.execTxSleepExit n s
  | .loopbackMode n m => Sys2Proof.Machine.execLoopbackMode n m s
  | .loopbackGo n errs => Sys2Proof.Machine.execLoopbackGo n errs s
  | .ephyCntClr n => Sys2Proof.Machine.execEphyCntClr n s
  | .ephyTxeqWrite n b v => Sys2Proof.Machine.execEphyTxeqWrite n b v s
  | .detectTest n present => Sys2Proof.Machine.execDetectTest n present s
  | .trainingSetReceived n l inv cv disp ts => Sys2Proof.Machine.execTrainingSetReceived n l inv cv disp ts s
  | .rateTimeout n => Sys2Proof.Machine.execRateTimeout n s
  | .lockStateEnd n mask => Sys2Proof.Machine.execLockStateEnd n mask s
  | .polarityDone n => Sys2Proof.Machine.execPolarityDone n s
  | .alignmentMarkerReceived n l pos seq stat cv disp => Sys2Proof.Machine.execAlignmentMarkerReceived n l pos seq stat cv disp s
  | .trainingTimeout n => Sys2Proof.Machine.execTrainingTimeout n s
  | .identTimeout n => Sys2Proof.Machine.execIdentTimeout n s
  | .alignmentMarkerSend n => Sys2Proof.Machine.execAlignmentMarkerSend n s
  | .laneLost n l cause merged => Sys2Proof.Machine.execLaneLost n l cause merged s
  | .widthAckTimeout n => Sys2Proof.Machine.execWidthAckTimeout n s
  | .portLossTimeout n => Sys2Proof.Machine.execPortLossTimeout n s
  | .laneQualified n l => Sys2Proof.Machine.execLaneQualified n l s
  | .fomUpdate n foms => Sys2Proof.Machine.execFomUpdate n foms s
  | .laneMarginal n l => Sys2Proof.Machine.execLaneMarginal n l s
  | .rxIdleEnter n => Sys2Proof.Machine.execRxIdleEnter n s
  | .rxWake n => Sys2Proof.Machine.execRxWake n s
  | .wakeTimeout n => Sys2Proof.Machine.execWakeTimeout n s
  -- Ehriz protocol
  | .cfgResp n ok tag status words => Sys2Proof.Machine.execCfgResp n ok tag status words s
  | .cfgTimeout n tag => Sys2Proof.Machine.execCfgTimeout n tag s
  | .telemPacket n ok bad => Sys2Proof.Machine.execTelemPacket n ok bad s
  | .statusRecord n flags temp supply chunks tokens launches => Sys2Proof.Machine.execStatusRecord n flags temp supply chunks tokens launches s
  | .lampTempRecord n temps => Sys2Proof.Machine.execLampTempRecord n temps s
  | .tickRecord n tick j vals => Sys2Proof.Machine.execTickRecord n tick j vals s
  | .sampleRecord n stag v idx sensors => Sys2Proof.Machine.execSampleRecord n stag v idx sensors s
  | .indexRecord n ht frac merged => Sys2Proof.Machine.execIndexRecord n ht frac merged s
  | .driverRecord n idx present high tag faults => Sys2Proof.Machine.execDriverRecord n idx present high tag faults s
  | .linkqRecord n foms => Sys2Proof.Machine.execLinkqRecord n foms s
  | .faultRecord n code => Sys2Proof.Machine.execFaultRecord n code s
  | .telemStale n => Sys2Proof.Machine.execTelemStale n s
  | .parkAck n ok seq => Sys2Proof.Machine.execParkAck n ok seq s
  | .parkResend n => Sys2Proof.Machine.execParkResend n s
  | .parkTimeout n => Sys2Proof.Machine.execParkTimeout n s
  | .retrainReq n ok mask seq => Sys2Proof.Machine.execRetrainReq n ok mask seq s
  | .widthReq n ok mask seq => Sys2Proof.Machine.execWidthReq n ok mask seq s
  | .widthAck n ok seq => Sys2Proof.Machine.execWidthAck n ok seq s
  | .retrainAck n ok seq => Sys2Proof.Machine.execRetrainAck n ok seq s
  | .passThroughRequest n => Sys2Proof.Machine.execPassThroughRequest n s
  | .eprotCntClr n => Sys2Proof.Machine.execEprotCntClr n s
  -- Memory
  | .dramRead a len asker keep blocked errs drfm stale => Sys2Proof.Machine.execDramRead a len asker keep blocked errs drfm stale s
  | .dramWrite a bytes asker keep errs drfm => Sys2Proof.Machine.execDramWrite a bytes asker keep errs drfm s
  | .dramPartialWrite a bytes asker keep err drfm => Sys2Proof.Machine.execDramPartialWrite a bytes asker keep err drfm s
  | .requestAged idx => Sys2Proof.Machine.execRequestAged idx s
  | .refreshDue d m r => Sys2Proof.Machine.execRefreshDue d m r s
  | .retrainPauseDue d m r ahead => Sys2Proof.Machine.execRetrainPauseDue d m r ahead s
  | .retrainPauseEnd d m bad => Sys2Proof.Machine.execRetrainPauseEnd d m bad s
  | .pauseForced d m r => Sys2Proof.Machine.execPauseForced d m r s
  | .selfRefreshEntry d m scrub => Sys2Proof.Machine.execSelfRefreshEntry d m scrub s
  | .ddrAlert d m replayed again merged => Sys2Proof.Machine.execDdrAlert d m replayed again merged s
  | .fullRetrainDone d m ok => Sys2Proof.Machine.execFullRetrainDone d m ok s
  | .ddrThermalRead d m t => Sys2Proof.Machine.execDdrThermalRead d m t s
  | .initBlockDone d => Sys2Proof.Machine.execInitBlockDone d s
  | .scrubPassEnd d m => Sys2Proof.Machine.execScrubPassEnd d m s
  | .bucketLeak d => Sys2Proof.Machine.execBucketLeak d s
  | .ddrMigrate d m r => Sys2Proof.Machine.execDdrMigrate d m r s
  | .rankMigrationEnd d m => Sys2Proof.Machine.execRankMigrationEnd d m s
  | .ddrCntClr d m => Sys2Proof.Machine.execDdrCntClr d m s
  | .ddrDieCntClr d => Sys2Proof.Machine.execDdrDieCntClr d s
  | .ddrDieWqWrite d high low => Sys2Proof.Machine.execDdrDieWqWrite d high low s
  -- Host port, tenants and the Sluice
  | .apertureWrite t ofs bytes => Sys2Proof.Machine.execApertureWrite t ofs bytes s
  | .apertureRead t ofs len => Sys2Proof.Machine.execApertureRead t ofs len s
  | .apertureBaseWrite t v => Sys2Proof.Machine.execApertureBaseWrite t v s
  | .segmentWrite t e hi v => Sys2Proof.Machine.execSegmentWrite t e hi v s
  | .ringEnable t r => Sys2Proof.Machine.execRingEnable t r s
  | .ringDisable t r => Sys2Proof.Machine.execRingDisable t r s
  | .sqDoorbell t r v => Sys2Proof.Machine.execSqDoorbell t r v s
  | .ringRightsLost t r => Sys2Proof.Machine.execRingRightsLost t r s
  | .cqHeadWrite t r v => Sys2Proof.Machine.execCqHeadWrite t r v s
  | .cqIrqTimer t r => Sys2Proof.Machine.execCqIrqTimer t r s
  | .ringNop t r => Sys2Proof.Machine.execRingNop t r s
  | .surfReg t r => Sys2Proof.Machine.execSurfReg t r s
  | .surfDereg t r => Sys2Proof.Machine.execSurfDereg t r s
  | .layerUpdate t r => Sys2Proof.Machine.execLayerUpdate t r s
  | .commit t r => Sys2Proof.Machine.execCommit t r s
  | .fenceWait t r => Sys2Proof.Machine.execFenceWait t r s
  | .fenceWaitPoll t r => Sys2Proof.Machine.execFenceWaitPoll t r s
  | .fenceWaitDeadline t r => Sys2Proof.Machine.execFenceWaitDeadline t r s
  | .progLoad t r => Sys2Proof.Machine.execProgLoad t r s
  | .progLoadLoop t r => Sys2Proof.Machine.execProgLoadLoop t r s
  | .bankSwap t r => Sys2Proof.Machine.execBankSwap t r s
  | .clipPlay t r => Sys2Proof.Machine.execClipPlay t r s
  | .clipStop t r => Sys2Proof.Machine.execClipStop t r s
  | .statusRead t r => Sys2Proof.Machine.execStatusRead t r s
  | .grant t r => Sys2Proof.Machine.execGrant t r s
  | .revoke t r => Sys2Proof.Machine.execRevoke t r s
  | .preemptCmd t r => Sys2Proof.Machine.execPreemptCmd t r s
  | .sluiceRateInterval d mb => Sys2Proof.Machine.execSluiceRateInterval d mb s
  | .sluiceCapWrite d v => Sys2Proof.Machine.execSluiceCapWrite d v s
  | .sluiceTcntClr t => Sys2Proof.Machine.execSluiceTcntClr t s
  | .eventRingEnable t => Sys2Proof.Machine.execEventRingEnable t s
  | .eventRingRead t v => Sys2Proof.Machine.execEventRingRead t v s
  | .flrVf t => Sys2Proof.Machine.execFlrVf t s
  | .pf0LinkReset kind => Sys2Proof.Machine.execPf0LinkReset kind s
  -- Inside the package
  | .d2dCrcError d k dir lane => Sys2Proof.Machine.execD2dCrcError d k dir lane s
  | .d2dRetrain d k => Sys2Proof.Machine.execD2dRetrain d k s
  | .d2dRetrainCmd d k => Sys2Proof.Machine.execD2dRetrainCmd d k s
  | .d2dRetrainDone d k ok tx rx => Sys2Proof.Machine.execD2dRetrainDone d k ok tx rx s
  | .d2dModuleRetry d k => Sys2Proof.Machine.execD2dModuleRetry d k s
  | .d2dCntClr d => Sys2Proof.Machine.execD2dCntClr d s
  | .fabCntClr => Sys2Proof.Machine.execFabCntClr s
  | .cdcResync loc idx => Sys2Proof.Machine.execCdcResync loc idx s
  | .cdcResyncRetry loc idx => Sys2Proof.Machine.execCdcResyncRetry loc idx s
  | .lockAcquire a n => Sys2Proof.Machine.execLockAcquire a n s
  | .lockRelease a n => Sys2Proof.Machine.execLockRelease a n s
  | .lockClearBroken a n => Sys2Proof.Machine.execLockClearBroken a n s
  | .lockForce a n => Sys2Proof.Machine.execLockForce a n s
  | .lockCntClr => Sys2Proof.Machine.execLockCntClr s
  | .lockLeaseExpired n => Sys2Proof.Machine.execLockLeaseExpired n s
  -- Heat, calibration and wear
  | .hkSlotEnd a b ok => Sys2Proof.Machine.execHkSlotEnd a b ok s
  | .sensorExcluded idx => Sys2Proof.Machine.execSensorExcluded idx s
  | .thermRestored n => Sys2Proof.Machine.execThermRestored n s
  | .hkCntClr => Sys2Proof.Machine.execHkCntClr s
  | .calGo v => Sys2Proof.Machine.execCalGo v s
  | .calRunDone t vals => Sys2Proof.Machine.execCalRunDone t vals s
  | .calDeadline => Sys2Proof.Machine.execCalDeadline s
  | .vernierApply d => Sys2Proof.Machine.execVernierApply d s
  | .hkCalDataRead => Sys2Proof.Machine.execHkCalDataRead s
  | .pipeSoftFailure d p => Sys2Proof.Machine.execPipeSoftFailure d p s
  | .pipeHardFailure d p => Sys2Proof.Machine.execPipeHardFailure d p s
  | .oxbowRequest d k => Sys2Proof.Machine.execOxbowRequest d k s
  | .oxbCntClr d => Sys2Proof.Machine.execOxbCntClr d s
  | .oxbowLoaded d => Sys2Proof.Machine.execOxbowLoaded d s
  | .oxbowFrameCompare d comp plane item => Sys2Proof.Machine.execOxbowFrameCompare d comp plane item s
  | .oxbowSwitch d => Sys2Proof.Machine.execOxbowSwitch d s
  | .oxbowSwitched d => Sys2Proof.Machine.execOxbowSwitched d s
  -- Configuration store and firmware
  | .deviceRecordWrite cal => Sys2Proof.Machine.execDeviceRecordWrite cal s
  | .recordCopyDone ok => Sys2Proof.Machine.execRecordCopyDone ok s
  | .recordRewrite k c ok => Sys2Proof.Machine.execRecordRewrite k c ok s
  | .cfgRecordWrite k => Sys2Proof.Machine.execCfgRecordWrite k s
  | .cfgActivate => Sys2Proof.Machine.execCfgActivate s
  | .cfgCntClr => Sys2Proof.Machine.execCfgCntClr s
  | .fwImageStart => Sys2Proof.Machine.execFwImageStart s
  | .fwSelfTestDone ok => Sys2Proof.Machine.execFwSelfTestDone ok s
  | .fwSelfTestTimeout => Sys2Proof.Machine.execFwSelfTestTimeout s
  -- Management
  | .regRead tag a count => Sys2Proof.Machine.execRegRead tag a count s
  | .regWrite tag a count ws => Sys2Proof.Machine.execRegWrite tag a count ws s
  | .status tag => Sys2Proof.Machine.execStatus tag s
  | .logRead tag ofs len => Sys2Proof.Machine.execLogRead tag ofs len s
  | .recRead tag k c ofs len => Sys2Proof.Machine.execRecRead tag k c ofs len s
  | .recWrite tag k last ofs data => Sys2Proof.Machine.execRecWrite tag k last ofs data s
  | .fwActivate tag => Sys2Proof.Machine.execFwActivate tag s
  | .releaseMgt tag mode holds ceils => Sys2Proof.Machine.execReleaseMgt tag mode holds ceils s
  | .resetEndpoint tag => Sys2Proof.Machine.execResetEndpoint tag s
  | .mgtInvalidCmd tag cmd => Sys2Proof.Machine.execMgtInvalidCmd tag cmd s
  | .pldmRequest r => Sys2Proof.Machine.execPldmRequest r s
  | .spdmRequest mbox r => Sys2Proof.Machine.execSpdmRequest mbox r s
  | .i3cRstact => Sys2Proof.Machine.execI3cRstact s
  | .i3cDynamicAddress => Sys2Proof.Machine.execI3cDynamicAddress s
  | .setEndpointId eid => Sys2Proof.Machine.execSetEndpointId eid s
  | .mgtCntClr => Sys2Proof.Machine.execMgtCntClr s
  -- Reach die reset
  | .dieReset d => Sys2Proof.Machine.execDieReset d s
  | .dieRelease d => Sys2Proof.Machine.execDieRelease d s
  | .dieLeaveReset d => Sys2Proof.Machine.execDieLeaveReset d s
  | .dieReady d => Sys2Proof.Machine.execDieReady d s
  | .dieReadyTimeout d => Sys2Proof.Machine.execDieReadyTimeout d s
  -- Further occurrences
  | .registerPairRead fn at_ => Sys2Proof.Machine.execRegisterPairRead fn at_ s
  | .hwCharacterLock k => Sys2Proof.Machine.execHwCharacterLock k s
  | .derateTelemetryStale n k => Sys2Proof.Machine.execDerateTelemetryStale n k s
  | .holdIslandStart vhold => Sys2Proof.Machine.execHoldIslandStart vhold s
  | .vfEnable => Sys2Proof.Machine.execVfEnable s

end Sys2Proof.Machine
end

