-- ==== Sys2Proof/Machine/Tick.lean ====
section
/-!
DEFINITION. What a tick of 250 ps does when no command waits: HT and the device's own time advance, the memory issues a
queued write, events held back by their rate are raised once their period has passed, surfaces of a reset function are
emptied, calibration takes its places, and a substitution that waits for its die begins.
-/

namespace Sys2Proof.Machine
open Sys2Proof

/-- Events that are raised at most once in a period, and whose period has passed. -/
def flushRates (s : State) : State := each (s.rates.map (·.1)) rateFlush s

/-- At a DRAINING channel's stop time its lamp set-points go to zero; a plane that still shows keeps its string lit to
the end of its interval (R62). -/
def stopLamps (n : Nat) (s : State) : State :=
  match (s.seq n).stopT with
  | some t =>
    if s.chState n = .draining && t ≤ s.ht && (s.weir n).openPlane.isNone then
      modWeir n (fun w => { w with strCur := [], lampCur := [], lampDrv := [] }) s
    else s
  | none => s

/-- The channels whose stop time has been fixed. -/
def stopping (s : State) : List Nat := (s.seqs.filter (fun e => e.2.stopT.isSome)).map (·.1)

/-- A tick. -/
def tickEffect (s : State) : State :=
  let s := tickPass s
  each dies oxServe (flrSweep (flushRates (ddrTick (each (stopping s) stopLamps (calPlaces s)))))

/-- The step of an empty queue. -/
def idle (s : State) : Host.Outcome State Fault Refusal := run tickEffect s

end Sys2Proof.Machine
end

