-- ==== Sys2Proof/Machine/Package.lean ====
section
/-!
DEFINITION. The package (spec/21_pins_package_electrical.md): its ball groups (R808), its 516 power domains and when each
is off (R824), and what its JTAG port does (R833).
-/

namespace Sys2Proof.Machine
open Sys2Proof

/-! ### Balls (R808) -/

/-- The ball groups of the package. -/
inductive BallGroup where
  | ehriz | rill | ddr5 | pcie | headwater | reference | management | flash | housekeeping | holdUp | status
  | regulators | test | power | ground | reserved
deriving DecidableEq, Repr

/-- Balls of a group. -/
def BallGroup.balls : BallGroup → Nat
  | .ehriz => 3072 | .rill => 192 | .ddr5 => 4896 | .pcie => 67 | .headwater => 12 | .reference => 2
  | .management => 3 | .flash => 12 | .housekeeping => 32 | .holdUp => 2 | .status => 3 | .regulators => 25
  | .test => 5 | .power => 3928 | .ground => 3577 | .reserved => 48

def ballGroups : List BallGroup :=
  [.ehriz, .rill, .ddr5, .pcie, .headwater, .reference, .management, .flash, .housekeeping, .holdUp, .status,
   .regulators, .test, .power, .ground, .reserved]

/-- A ball that carries a signal. -/
def BallGroup.signal : BallGroup → Bool
  | .power => false | .ground => false | .reserved => false | _ => true

/-! ### The JTAG port (R833) -/

/-- Instructions of the JTAG port: boundary scan of IEEE 1149.1 and of IEEE 1149.6 on a group of balls, and every other
one. -/
inductive JtagInstr where
  | scan (g : BallGroup)
  | scanAc (g : BallGroup)
  | other (code : Nat)
deriving DecidableEq, Repr

/-- The port carries an instruction out. Boundary scan is always there: of IEEE 1149.1 on every signal ball, of IEEE
1149.6 on the Ehriz, Headwater and PCIe pairs. Every other instruction needs the JTAG lock of measurement 0x05 open. -/
def jtagAvailable : JtagInstr → Bool
  | .scan g => g.signal
  | .scanAc g => g == .ehriz || g == .headwater || g == .pcie
  | .other _ => Config.jtagLock % 256 == 0

/-! ### Power domains (R824) -/

/-- The power domains of the package. -/
inductive Domain where
  | pipeline (d p : Nat) | port (n : Nat) | ddr (d m : Nat) | cluster (d cl : Nat) | dieCommon (d : Nat)
  | holdIsland | safety | pcie | management | headwater | adc | store | security | lockSluice | aggregators | switch
  | engine
deriving DecidableEq, Repr

def domains : List Domain :=
  dies.flatMap (fun d => (List.range 52).map (.pipeline d)) ++ channels.map .port
    ++ dies.flatMap (fun d => (List.range 8).map (.ddr d)) ++ dies.flatMap (fun d => (List.range 17).map (.cluster d))
    ++ dies.map .dieCommon
    ++ [.holdIsland, .safety, .pcie, .management, .headwater, .adc, .store, .security, .lockSluice, .aggregators, .switch,
        .engine]

/-- Every slot of a cluster's logical cores is IDLE and none of its physical cores serves a logical core; of cluster 16,
no spare core is in use. -/
def clusterIdle (s : State) (d cl : Nat) : Bool :=
  (List.range 4).all (fun i =>
    (logicalOf s d (4 * cl + i)).isNone
      && (cl == 16 || (slotsOfCore (64 * d + 4 * cl + i)).all (fun k => s.slotState k == .idle)))

/-- A record write, or the commit of the hold log, runs. -/
def storeBusy (s : State) : Bool := s.cfg.write.isSome || rdB s holdB R.HOLD_STATUS_HANDOVER

/-- A domain is switched off. -/
def domainOff (s : State) : Domain → Bool
  | .pipeline d p => pipeState s d p == 0 || pipeState s d p == 3
  | .port n => !rdB s (ephyB n) R.EPHY_CTRL_EN
  | .ddr d m => rd s (ddrB d m) R.DDR_STATUS_STATE == 5 || (s.mode == .hold && rd s (ddrB d m) R.DDR_STATUS_STATE == 3)
  | .cluster d cl => clusterIdle s d cl
  | .dieCommon d => rdB s (dieB d) R.HUB_DIE_STATUS_IN_RESET
  | .holdIsland => false
  | .safety => !s.hub.up
  | .pcie => s.mode == .hold || s.mode == .tripped
  | .management => s.mode == .hold
  | .headwater => s.mode == .hold
  | .adc => s.mode == .hold
  | .store => s.mode == .hold && !storeBusy s
  | .security => s.mode == .hold || s.mode == .tripped
  | .lockSluice => s.mode == .hold || s.mode == .tripped
  | .aggregators => s.mode == .hold && !rdB s holdB R.HOLD_STATUS_HANDOVER
  | .switch => s.mode == .hold || s.mode == .tripped
  | .engine => s.mode == .hold && !rdB s holdB R.HOLD_STATUS_HANDOVER

end Sys2Proof.Machine
end

