-- ==== Sys2Proof/Safety.lean ====
section
/-!
DEFINITION. What a safe run is: the invariant that every step keeps, and the dark states in which the specification lets
no light out (spec/02_modes_power_hold.md R43; spec/10_lamps_rill.md R446).
-/

namespace Sys2Proof.Safety
open Sys2Proof Sys2Proof.Machine

/-- Between two steps the memory is in its canonical form, and no event and no memory write waits. -/
def Inv (s : State) : Prop := Memory.wf s.mem = true ∧ s.evq = [] ∧ s.memq = []

/-- A step answers a next state, neither a fault nor a refusal. -/
def Completes (o : Host.Outcome State Fault Refusal) : Prop := ∃ t, o = .next t

/-- Command `c` completes in state `s`, and the next state has the property `P`. -/
def Leads (c : Instr) (s : State) (P : State → Prop) : Prop := ∃ t, exec c s = .next t ∧ P t

/-- The sequencer of channel `n` is about to execute the word `w` of its active bank, within its watchdog limit
(spec/07_vilti_isa.md R278, R331, R332). -/
abbrev SeqAt (s : State) (n w : Nat) : Prop :=
  (s.seq n).run = .ready ∧ (s.seq n).pc < bankCount s n (seqBank s n)
    ∧ progAt s n (seqBank s n) (s.seq n).pc = w ∧ (s.seq n).insns < watchdog s n

/-- The core of slot `k` is about to execute the word `w` of the slot it computes (R280, R333). -/
abbrev LoopAt (s : State) (k w : Nat) : Prop :=
  s.slotState k = .running ∧ (s.slot k).phase = .computing ∧ (s.core (coreOf k)).cur = some k
    ∧ (s.slot k).pc < rd s (slB k) R.LOOP_SLOT_IMG_COUNT ∧ loopWord s k (s.slot k).pc = w

/-- An item that the sequencer emits at `t` passes: the sequencer is not to stop, `t` lies within the run-ahead window, the
launch queue has an entry free and no substitution discards the item (R278, R363, R371, R759). -/
abbrev EmitsAt (s : State) (n t : Nat) : Prop :=
  (s.seq n).stopReq = none ∧ (s.seq n).stopT = none ∧ t ≤ s.ht + window s n ∧ queueFull s n = false
    ∧ (s.pipeCh n).skip = 0

/-- As `EmitsAt`, and the item launches: it is in order, in time for its token, and within the frame's slots (R279, R342,
R372). -/
abbrev PassesAt (s : State) (n t : Nat) : Prop :=
  EmitsAt s n t ∧ (s.seq n).lastT ≤ t ∧ 10 * (s.ht + 8000) ≤ pin25 s n t
    ∧ (headEdge s n = true ∨ s.ht + headTtoken s n ≤ t)
    ∧ ((slotLimit s n).isNone = true
      ∨ ((s.seq n).overLimit = false ∧ (s.seq n).counted < rd s (chB n) R.SEQ_SLOTS_LIMIT))

/-- The sequencer of channel `n` has emitted at its TC and moved on, with TC and DX after it (R278). -/
abbrev Emitted (s u : State) (n tc dx : Nat) : Prop :=
  (u.seq n).run = .ready ∧ (u.seq n).pc = (s.seq n).pc + 1 ∧ (u.seq n).tc = tc ∧ (u.seq n).dx = dx
    ∧ (u.seq n).lastT = (s.seq n).tc ∧ (u.seq n).insns = 0

/-- What tells the entries of a launch queue apart: kind, launch time, frame and slice, row or mask. -/
abbrev queueKeys (s : State) (n : Nat) : List (ItemKind × Nat × Nat × Nat) :=
  (s.weir n).q.map (fun i => (i.kind, i.t, i.fno, i.idx))

/-- The launch queue has gained one item of the frame being emitted, at TC, and no other entry (R370). -/
abbrev Queued (s u : State) (n : Nat) (k : ItemKind) (idx : Nat) : Prop :=
  queueKeys u n = queueKeys s n ++ [(k, (s.seq n).tc, (s.chst n).nextFno - 1, idx)]

/-- The output is a rill frame of port `n` with `len` shares (R438). -/
def rillFrameOf (n len : Nat) : Out → Bool
  | .rillFrame m l => m == n && l.length == len
  | _ => false

/-- A request for `len` bytes at `a` by agent `src` goes to memory at once: every granule is sound and initialised, its
channel takes requests and has room for a write, and the switch is free for it (R598, R605, R612, R618, R620, R698). -/
abbrev MemoryFree (s : State) (a len src : Nat) : Prop :=
  s.evq = [] ∧ s.memq = [] ∧ poisonedAny s a len = false
    ∧ (∀ g ∈ granules a len, rdB s (ddrDieB (dieOf (64 * g))) R.DDR_DIE_STATUS_INIT_DONE = true
      ∧ chanReady s (dieOf (64 * g)) (chanOf s (64 * g)) = true
      ∧ (s.ddr (dieOf (64 * g)) (chanOf s (64 * g))).wq.length < 64)
    ∧ (agentDie src = some (dieOf a) ∨ tget 0 (dieOf a) s.swBusy ≤ s.tick)

/-- The device is about to take the 64-byte entry `e` from ring `r` of function `t`, no check of its header fails, and the
completion ring may be written (R645, R646, R649, R653). -/
abbrev TakesAt (s : State) (t r : Nat) (e : List Byte) : Prop :=
  canTake s t r = true ∧ segOk s t false (sqAddr s t r) 64 = true ∧ poisonedAny s (sqAddr s t r) 64 = false
    ∧ e = loadBytes s (sqAddr s t r) 64 ∧ headerReason s t e (outCmds s t) = 0
    ∧ segOk s t true (cqBase s t r + 32 * rd s (ringB t r) R.SLUICE_CQ_TAIL_TAIL) 32 = true

/-- The ring's head has moved past one command (R645). -/
abbrev TakenFrom (s u : State) (t r : Nat) : Prop :=
  rd u (ringB t r) R.SLUICE_SQ_HEAD_HEAD = (sqHead s t r + 1) % sqSize s t r

/-- The command taken is complete: its completion has its slot, and it is not outstanding (R646, R651). -/
abbrev CompletedOn (s u : State) (t r : Nat) : Prop :=
  TakenFrom s u t r ∧ u.cmds = s.cmds
    ∧ rd u (ringB t r) R.SLUICE_CQ_TAIL_TAIL = (rd s (ringB t r) R.SLUICE_CQ_TAIL_TAIL + 1) % cqSize s t r

/-- The command taken waits for its time: it is the newest outstanding command, and nothing has been completed. -/
abbrev OutstandingOn (s u : State) (t r : Nat) : Prop :=
  TakenFrom s u t r ∧ u.cmds.dropLast = s.cmds ∧ u.cmds.getLast?.map (fun c => (c.fn, c.ring)) = some (t, r)
    ∧ rd u (ringB t r) R.SLUICE_CQ_TAIL_TAIL = rd s (ringB t r) R.SLUICE_CQ_TAIL_TAIL

/-- The memory of the next completion is there, and no event and no other write is on its way (R598, R646). -/
abbrev CqClear (s : State) (t r : Nat) : Prop :=
  s.evq = [] ∧ s.memq = []
    ∧ poisonedAny s (cqBase s t r + 32 * rd s (ringB t r) R.SLUICE_CQ_TAIL_TAIL) 32 = false

/-- As `CompletedOn`, and the completion entry in memory tells the code and the reason (R651, R652). -/
abbrev CompletedWith (s u : State) (t r : Nat) (e : List Byte) (code detail : Nat) : Prop :=
  CompletedOn s u t r
    ∧ loadBytes u (cqBase s t r + 32 * rd s (ringB t r) R.SLUICE_CQ_TAIL_TAIL) 32
      = cqEntry (field e 2 2) (field e 0 1) code detail s.ht 0
        ++ [BitVec.ofNat 8 r, BitVec.ofNat 8 (rd s (ringB t r) R.SLUICE_CQ_TAIL_PHASE)]

end Sys2Proof.Safety
end

