-- ==== Sys2Proof/Certificates/Slice0/Obligations.lean ====
section
/-!
DEFINITION. The statements for the provers. `Leads c s P` says that command `c` completes in state `s` with a next state
that has `P`; `done f s` is the state after a command whose effect is `f`.
-/

open Sys2Proof Sys2Proof.Machine Sys2Proof.Safety

/-- A step carries out the command at the front of the queue on the state with the rest of the queue (spec/opcode_table.json, spec/00_scope.md). -/
def Obligations.StepRunsFrontCommand : Prop :=
  ∀ (c : Instr) (s : State), step { s with pending := c :: s.pending } = exec c s

/-- With an empty queue a step is a tick of 250 ps: device time advances by one and HT by none, one or two ticks (R7, R133, spec/00_scope.md). -/
def Obligations.EmptyQueueIsATick : Prop :=
  ∀ (s : State), s.pending = [] → ∃ t, step s = .next t ∧ t.tick = s.tick + 1 ∧ t.pending = [] ∧ (s.ht + 2 < 2 ^ 64
    → (s.time.slew = 0 → t.ht = s.ht + 1) ∧ s.ht ≤ t.ht ∧ t.ht ≤ s.ht + 2) ∧ (s.ht < 2 ^ 64 → s.ht ≤ t.ht ∧ t.ht <
    2 ^ 64)

/-- No command changes the queue, and every output, event and memory write of the step is carried out within it (spec/opcode_table.json). -/
def Obligations.ExecLeavesTheQueue : Prop :=
  ∀ (c : Instr) (s t : State), exec c s = .next t → t.pending = s.pending ∧ t.evq = [] ∧ t.memq = [] ∧ t.memLost =
    0

/-- Every step keeps the memory list in its canonical form and leaves no event and no memory write behind (R598, R618, spec/15_memory.md). -/
def Obligations.StepKeepsTheInvariant : Prop :=
  ∀ (s t : State), Inv s → step s = .next t → Inv t

/-- The reset state has the invariant that every step keeps (R598, R618). -/
def Obligations.ResetHasTheInvariant : Prop :=
  Inv State.reset

/-- A command completes exactly when its operands are well formed; otherwise it stops with the fault illFormed (spec/opcode_table.json, R47, R124, R637, R772). -/
def Obligations.CommandsStopOnlyOnIllFormedOperands : Prop :=
  ∀ (c : Instr) (s : State), (c.wellFormed = true → Completes (exec c s)) ∧ (c.wellFormed = false → exec c s =
    .fault .illFormed)

/-- After reset the device is DORMANT and not ready, every channel is OFF, every port DISABLED or not up, nothing is stored (R46, R53, R76, R79, R802). -/
def Obligations.ResetLeavesTheDeviceDarkAndDormant : Prop :=
  State.reset.mode = .dormant ∧ rd State.reset hubB R.HUB_MODE_CAUSE = 0x0A ∧ rdB State.reset hubB R.HUB_MODE_READY
    = false ∧ (∀ n : Nat, State.reset.chState n = .off ∧ rd State.reset (chB n) R.CH_STATUS_FAULT = 0 ∧
    (State.reset.weir n).q = []) ∧ (∀ (b : Nat) (f : Fld) (i : Nat), rd State.reset b f i = f.reset i) ∧
    State.reset.pending = [] ∧ State.reset.mem = []

/-- After every step TRIP_N, RPL_N and ALERT_N are driven as the mode, REPLACE and the hold island's power give them (R44, R45, R826). -/
def Obligations.StatusPinsFollowTheMode : Prop :=
  ∀ (s t : State), step s = .next t → (t.hub.island = true → (t.pins.tripN = true ↔ t.mode = .tripped) ∧
    (t.pins.rplN = true ↔ rdB t hubB R.HUB_DEGRADE_REPLACE = true) ∧ (t.pins.alertN = true ↔ t.mode = .degraded ∨
    t.mode = .hold ∨ t.mode = .tripped)) ∧ (t.hub.island = false → t.pins = {})

/-- POWER_GOOD, PERST_ASSERT and PERST_DEASSERT: the resets, and the start-up that begins at t1 (R53, R76, R79, R92, R843). -/
def Obligations.PowerGoodAndPerstReset : Prop :=
  (∀ (s : State) (v : Bool) (x : StartIn), s.hub.up = false → s.hub.perst = true → Leads (.powerGood v x) s fun t
    => t.hub.up = true ∧ t.mode = (if s.hub.tripLatch = 0 then .dormant else .tripped) ∧ rd t hubB R.HUB_MODE_CAUSE
    = 0x0A ∧ rdB t hubB R.HUB_MODE_READY = false ∧ t.hub.tripLatch = s.hub.tripLatch) ∧
  (∀ (s : State), s.hub.up = true → s.mode ≠ .hold → Leads (.perstAssert) s fun t => t.hub.perst = true ∧ t.mode =
    (if s.hub.tripLatch = 0 then .dormant else .tripped) ∧ rd t hubB R.HUB_MODE_CAUSE = 0x0A ∧ rdB t hubB
    R.HUB_MODE_READY = false ∧ t.ht = s.ht ∧ t.hub.tripLatch = s.hub.tripLatch) ∧
  (∀ (s : State) (x : StartIn), s.hub.up = true → rdB s hubB R.HUB_MODE_READY = false → s.hub.starting = false →
    s.mode ≠ .hold → Leads (.perstDeassert x) s fun t => t.hub.perst = false ∧ t.hub.starting = true ∧ t.hub.t1 =
    s.tick) ∧
  (∀ (s : State) (v : Bool), s.hub.island = false → Leads (.holdIslandStart v) s fun t => t.hub.island = true ∧ rd
    t holdB R.HOLD_CAPACITY_CAP = 0 ∧ rdB t holdB R.HOLD_STATUS_UNCERTAIN = true ∧ rdB t holdB
    R.HOLD_STATUS_VHOLD_OK = v)

/-- STARTUP_COMPLETE sets READY and ends HOLD, STARTUP_STEP_TIMEOUT marks the unit, VF_ENABLE is taken (R79, R81, R92, R682). -/
def Obligations.StartupEnds : Prop :=
  (∀ (s : State), s.hub.starting = true → s.hub.returning = decide (s.mode = .hold) → Leads (.startupComplete) s
    fun t => rdB t hubB R.HUB_MODE_READY = true ∧ t.hub.starting = false ∧ t.hub.returning = false ∧ t.mode = (if
    s.mode = .hold then .dormant else s.mode)) ∧
  (∀ (s : State), s.hub.starting = true → Leads (.startupStepTimeout .records) s fun t => rdB t hubB
    R.HUB_DEGRADE_CONFIG_DIVERGED = true) ∧
  (∀ (s : State), s.hub.starting = true → Leads (.startupStepTimeout .other) s fun t => rdB t hubB
    R.HUB_DEGRADE_CONTAINED = true) ∧
  (∀ (s : State) (d : Fin 4), s.hub.starting = true → Leads (.startupStepTimeout (.die d)) s fun t => rdB t (dieB
    d) R.HUB_DIE_STATUS_ISOLATED = true ∧ rdB t (dieB d) R.HUB_DIE_STATUS_IN_RESET = true ∧ rdB t hubB
    R.HUB_DEGRADE_DIE_OFFLINE = true) ∧
  (∀ (s : State), Leads (.vfEnable) s fun t => t.hub.vf = true ∧ t.regs = s.regs)

/-- Accepted requests: SERVICE, SHOW or DEGRADED, and DORMANT pending until no channel is in use (R47, R53, R55, R790, R841). -/
def Obligations.ModeRequestsAreCarriedOut : Prop :=
  (∀ (s : State) (m : Bool), s.mode ≠ .hold → reqReason s m 1 = 0 → Leads (.modeReqService m) s fun t => t.mode =
    .service ∧ rd t hubB R.HUB_MODE_TARGET = 1 ∧ (s.mode ≠ .service → rd t hubB R.HUB_MODE_CAUSE = if m then 2 else
    1)) ∧
  (∀ (s : State) (m : Bool), (s.mode = .dormant ∨ s.mode = .service) → reqReason s m 2 = 0 → Leads (.modeReqShow m)
    s fun t => t.mode = (if degrade s = 0 then .show_ else .degraded) ∧ rd t hubB R.HUB_MODE_TARGET = 2 ∧ rd t hubB
    R.HUB_MODE_CAUSE = if m then 2 else 1) ∧
  (∀ (s : State) (m : Bool), s.mode ≠ .hold → s.mode ≠ .dormant → reqReason s m 0 = 0 → Leads (.modeReqDormant m) s
    fun t => rdB t hubB R.HUB_MODE_REQ_PENDING = true ∧ rd t hubB R.HUB_MODE_TARGET = 0 ∧ t.mode = s.mode ∧
    t.hub.reqMgmt = m ∧ ∀ n < 192, (s.chState n = .armed → t.chState n = .off) ∧ (s.chState n = .running →
    t.chState n = .draining)) ∧
  (∀ (s : State), rdB s hubB R.HUB_MODE_REQ_PENDING = true → inUse s = false → Leads (.dormantEntered) s fun t =>
    t.mode = .dormant ∧ rdB t hubB R.HUB_MODE_REQ_PENDING = false)

/-- A rejected mode request changes nothing but raises event 0x0102 with the first reason that applies (R841). -/
def Obligations.ModeRequestsAreRejectedInOrder : Prop :=
  (∀ (s : State) (b : Bool) (m : Fin 8), 3 ≤ m.val → s.mode ≠ .hold → exec (.modeReqUnrequestable b m) s = .next
    (done (raise 0x0102 noCh (m.val + 256 * if s.mode = .tripped then 5 else if rdB s hubB R.HUB_MODE_READY = false
    then 2 else 4)) s)) ∧
  (∀ (s : State) (b : Bool), s.mode = .tripped → exec (.modeReqShow b) s = .next (done (raise 0x0102 noCh (2 + 256
    * 5)) s)) ∧
  (∀ (s : State) (b : Bool), s.mode ≠ .hold → s.mode ≠ .tripped → rdB s hubB R.HUB_MODE_READY = false → exec
    (.modeReqService b) s = .next (done (raise 0x0102 noCh (1 + 256 * 2)) s)) ∧
  (∀ (s : State) (b : Bool), s.mode ≠ .hold → s.mode ≠ .tripped → rdB s hubB R.HUB_MODE_READY = true → rdB s hubB
    R.HUB_MODE_REQ_PENDING = true → exec (.modeReqDormant b) s = .next (done (raise 0x0102 noCh (0 + 256 * 1)) s)) ∧
  (∀ (s : State) (b : Bool), (s.mode = .dormant ∨ s.mode = .service) → rdB s hubB R.HUB_MODE_READY = true →
    overridden s b 2 = false → rdB s hubB R.HUB_MODE_REQ_PENDING = false → htValid s = false → exec (.modeReqShow
    b) s = .next (done (raise 0x0102 noCh (2 + 256 * 3)) s)) ∧
  (∀ (s : State) (b : Bool) (m : Nat), s.mode ≠ .tripped → rdB s hubB R.HUB_MODE_READY = true → overridden s b m =
    true → reqReason s b m = 4)

/-- A hand-over: HOLD with every channel OFF and HT kept, or, below the stop voltage, no entry to HOLD (R53, R57, R63, R82, R88, R818). -/
def Obligations.HandOverToHold : Prop :=
  (∀ (s : State), s.hub.up = true → s.mode ≠ .hold → s.mode ≠ .tripped → Leads (.mainOkFall true) s fun t => t.mode
    = .hold ∧ rd t hubB R.HUB_MODE_CAUSE = 5 ∧ rdB t holdB R.HOLD_STATUS_ACTIVE = true ∧ rdB t holdB
    R.HOLD_STATUS_HANDOVER = true ∧ rdB t holdB R.HOLD_STATUS_LOG_OK = false ∧ rdB t hubB R.HUB_MODE_REQ_PENDING =
    false ∧ t.hub.t0 = s.tick ∧ t.hub.mainOk = false ∧ t.hub.noRelease = true ∧ ∀ n < 192, t.chState n = .off) ∧
  (∀ (s : State), s.hub.up = true → s.mode ≠ .hold → s.mode ≠ .tripped → Leads (.mainOkFall false) s fun t =>
    t.mode = s.mode ∧ t.hub.up = false ∧ t.hub.noRelease = true) ∧
  (∀ (s : State) (r : Fin 5), s.hub.up = true → s.mode ≠ .hold → s.mode ≠ .tripped → Leads (.railUnderVoltage r
    true) s fun t => t.mode = .hold ∧ rd t hubB R.HUB_MODE_CAUSE = 6 ∧ rdB t holdB R.HOLD_STATUS_ACTIVE = true ∧
    rdB t hubB R.HUB_MODE_REQ_PENDING = false ∧ t.hub.t0 = s.tick ∧ t.hub.noRelease = true ∧ ∀ n < 192, t.chState n
    = .off)

/-- The hold log is committed, MAIN_OK returns, HOLD is left after 200 ms and 500 ms, and VHOLD may reach the stop voltage (R82, R86, R87, R91, R92, R97). -/
def Obligations.HoldLogAndReturn : Prop :=
  (∀ (s : State) (k : Nat), rdB s holdB R.HOLD_STATUS_HANDOVER = true → Leads (.holdLogCommitted k) s fun t => rdB
    t holdB R.HOLD_STATUS_HANDOVER = false ∧ rdB t holdB R.HOLD_STATUS_LOG_OK = decide (s.hub.holdLog.length ≤ k) ∧
    t.hub.committed = s.hub.holdLog.take k ∧ t.mode = s.mode) ∧
  (∀ (s : State), Leads (.mainOkRise) s fun t => t.hub.mainOk = true ∧ t.hub.stableAt = s.tick ∧ t.regs = s.regs) ∧
  (∀ (s : State) (x : StartIn) (h : HoldEnd), mayExit h.back s = true → s.hub.perst = false → Leads (.holdExit x h)
    s fun t => t.hub.starting = true ∧ t.hub.returning = true ∧ t.mode = .hold ∧ rdB t hubB R.HUB_MODE_READY =
    false) ∧
  (∀ (s : State) (x : StartIn) (h : HoldEnd), (s.tick < s.hub.t0 + 200 * ms ∨ s.tick < s.hub.stableAt + 500 * ms) →
    exec (.holdExit x h) s = .next (done id s)) ∧
  (∀ (s : State), s.mode = .hold → s.hub.island = true → Leads (.vholdStop) s fun t => rdB t holdB
    R.HOLD_STATUS_VHOLD_OK = false ∧ t.mode = .hold ∧ (17 ∈ s.hub.badRails → t.hub.island = false ∧ t.hub.up =
    false))

/-- The gauge: the charge drawn in HOLD, full charge, and a written capacity (R95, R96, R97, R103). -/
def Obligations.HoldStoreGauge : Prop :=
  (∀ (s : State) (mv : Fin 8192), s.mode = .hold → s.hub.island = true → Leads (.holdGaugeRound mv) s fun t => rd t
    holdB R.HOLD_VHOLD_MV = mv ∧ t.hub.charge = (max 0 (min ((s.hub.charge : Int) - ((Config.islandDraw % 4096 + rd
    s holdB R.HOLD_DRAW_EXTRA) * 16000 / mv.val : Nat)) (1000 * (rd s holdB R.HOLD_CAPACITY_CAP : Nat)))).toNat ∧
    rd t holdB R.HOLD_GAUGE_CHARGE = t.hub.charge / 1000 % 2 ^ 24) ∧
  (∀ (s : State), s.hub.fullRounds = 8 → s.hub.island = true → 0 < rd s holdB R.HOLD_CAPACITY_CAP → (rd s holdB
    R.HOLD_CAPACITY_CAP < 2 ^ 24) → Leads (.gaugeFullCharge) s fun t => rd t holdB R.HOLD_GAUGE_CHARGE = rd s holdB
    R.HOLD_CAPACITY_CAP ∧ rdB t holdB R.HOLD_STATUS_UNCERTAIN = false) ∧
  (∀ (s : State) (v : Fin 16777216), s.hub.island = true → Leads (.holdCapacityWrite v) s fun t => rd t holdB
    R.HOLD_CAPACITY_CAP = v ∧ t.hub.capWrite = some v.val)

/-- A trip latches its cause and darkens the device; only MAIN_OK low for 100 ms clears the latch (R53, R60, R61, R448, R842). -/
def Obligations.TripsAndTheTripLatch : Prop :=
  (∀ (s : State), s.hub.up = true → Leads (.lockstepDisagree) s fun t => t.mode = .tripped ∧ rdB t hubB
    R.HUB_TRIP_LOCKSTEP = true ∧ bitOf t.hub.tripLatch 1 = true ∧ (s.mode ≠ .tripped → rd t hubB R.HUB_MODE_CAUSE =
    9 ∧ ∀ n < 192, s.chState n ≠ .off → t.chState n = .faulted ∧ rd t (chB n) R.CH_STATUS_FAULT = 6)) ∧
  (∀ (s : State) (n : Fin 192), s.hub.up = true → rdB s (chB n) R.CH_STATUS_SAFE_DARK = true → Leads
    (.rillReadbackTrip n) s fun t => t.mode = .tripped ∧ rdB t hubB R.HUB_TRIP_RILL_READBACK = true ∧ bitOf
    t.hub.tripLatch 2 = true) ∧
  (∀ (s : State), s.hub.mainOk = false → s.hub.mainAt + 100 * ms ≤ s.tick → Leads (.tripLatchClear) s fun t =>
    t.hub.tripLatch = 0 ∧ t.hub.tripCleared = s.hub.tripCleared ||| s.hub.tripLatch ∧ t.regs = s.regs ∧ (s.mode =
    .tripped → t.hub.up = false)) ∧
  (∀ (s : State), (s.hub.mainOk = true ∨ s.tick < s.hub.mainAt + 100 * ms) → exec .tripLatchClear s = .next (done
    id s))

/-- VDDIO is lost and returns, and a rail out of its range ends TRIPPED at the next power-good (R76, R819, R840, R843). -/
def Obligations.RailsFiveToSeventeen : Prop :=
  (∀ (s : State), Leads (.vddioLoss) s fun t => 17 ∈ t.hub.badRails ∧ t.hub.stableAt = s.tick ∧ (rdB s holdB
    R.HOLD_STATUS_VHOLD_OK = false → t.hub.island = false)) ∧
  (∀ (s : State) (x : StartIn), 17 ∈ s.hub.badRails → s.hub.up = true → s.mode ≠ .hold → s.mode ≠ .tripped →
    s.hub.perst = false → s.hub.tripLatch = 0 → Leads (.vddioReturn x) s fun t => t.hub.starting = true ∧ t.mode =
    .dormant ∧ rdB t hubB R.HUB_MODE_READY = false ∧ t.hub.badRails = s.hub.badRails.erase 17) ∧
  (∀ (s : State) (r : Fin 12), s.hub.up = true → s.mode = .tripped → Leads (.railOutOfRange r) s fun t => t.hub.up
    = false ∧ t.mode = .tripped ∧ t.hub.stableAt = s.tick) ∧
  (∀ (s : State) (r : Fin 12), s.hub.up = true → s.mode ≠ .tripped → s.mode ≠ .hold → 8 ≤ r.val → Leads
    (.railOutOfRange r) s fun t => t.hub.stableAt = s.tick ∧ ∀ m < 8, ddrState s (r.val - 8) m = 2 → ddrState t
    (r.val - 8) m ≠ 2) ∧
  (∀ (s : State) (r : Fin 12), s.hub.up = true → s.mode ≠ .tripped → s.mode ≠ .hold → r.val < 8 → Leads
    (.railOutOfRange r) s fun t => t.hub.stableAt = s.tick ∧ ∀ k < 2, modState s (r.val % 4) k = 2 → modState t
    (r.val % 4) k = 3)

/-- ARM, DISARM, STOP, CLEAR and RESET move a channel between its states (R63, R64, R65, R73, R76). -/
def Obligations.ChannelCommandsMoveTheChannel : Prop :=
  (∀ (s : State) (n : Fin 192) (b : Bool), s.chState n = .off → isHeld s n = false → armReason (armRecheck n (begun
    s)) n = 0 → armMode s = true → armKind s n = true → Leads (.chArm b n) s fun t => t.chState n = .armed ∧ rdB t
    (chB n) R.CH_STATUS_COMMITTED = false ∧ rd t (chB n) R.CH_STATUS_ARM_REJECT = rd s (chB n)
    R.CH_STATUS_ARM_REJECT) ∧
  (∀ (s : State) (n : Fin 192), s.chState n = .armed → Leads (.chDisarm n) s fun t => t.chState n = .off ∧ (t.weir
    n).q = [] ∧ (t.seq n).run = .stopped) ∧
  (∀ (s : State) (n : Fin 192), s.chState n = .running → Leads (.chStop n) s fun t => t.chState n = .draining) ∧
  (∀ (s : State) (n : Fin 192), s.chState n = .faulted → 1 ≤ rd s (chB n) R.CH_STATUS_FAULT → rd s (chB n)
    R.CH_STATUS_FAULT ≤ 3 → Leads (.chClear n) s fun t => t.chState n = .off ∧ rd t (chB n) R.CH_STATUS_FAULT = rd
    s (chB n) R.CH_STATUS_FAULT ∧ rd t (chB n) R.SEQ_STATUS_FAULT = rd s (chB n) R.SEQ_STATUS_FAULT) ∧
  (∀ (s : State) (n : Fin 192), (rdB s (dieB (n.val / 48)) R.HUB_DIE_STATUS_IN_RESET = false) → Leads (.chReset n)
    s fun t => t.chState n = .off ∧ rd t (chB n) R.CH_STATUS_FAULT = 0 ∧ rd t (chB n) R.SEQ_STATUS_FAULT = 0 ∧
    (t.weir n).q = [])

/-- A channel command that is not valid in the channel's state only sets CH_STATUS.CMD_IGNORED (R70). -/
def Obligations.InvalidChannelCommandsOnlySetCmdIgnored : Prop :=
  (∀ (s : State) (n : Fin 192) (b : Bool), s.chState n ≠ .off → exec (.chArm b n) s = .next (done (cmdIgnored n)
    s)) ∧
  (∀ (s : State) (n : Fin 192), s.chState n ≠ .armed → exec (.chDisarm n) s = .next (done (cmdIgnored n) s)) ∧
  (∀ (s : State) (n : Fin 192), s.chState n ≠ .running → exec (.chStop n) s = .next (done (cmdIgnored n) s)) ∧
  (∀ (s : State) (n : Fin 192), s.chState n ≠ .faulted → exec (.chClear n) s = .next (done (cmdIgnored n) s)) ∧
  (∀ (s : State) (n : Fin 192), done (cmdIgnored n) s = done (wrB (chB n) R.CH_STATUS_CMD_IGNORED true) s) ∧
  (∀ (s : State) (n : Fin 192) (b : Bool), s.chState n = .off → isHeld s n = false → armMode s = false → Leads
    (.chArm b n) s fun t => t.chState n = .off ∧ rd t (chB n) R.CH_STATUS_ARM_REJECT = 1 ∧ rdB t (chB n)
    R.CH_STATUS_CMD_IGNORED = rdB s (chB n) R.CH_STATUS_CMD_IGNORED)

/-- An ARMED channel runs at its frame boundary, and a DRAINING one comes to OFF (R63, R66, R404). -/
def Obligations.ChannelsRunAndDrain : Prop :=
  (∀ (s : State) (n : Fin 192) (m : Item), s.chState n = .armed → ((s.weir n).q.find? (fun i => i.kind == .mark) =
    some m) → runDue s n m.t = true → pinPassed s n m.t s.ht = true → s.hub.noRelease = false → Leads
    (.channelRunning n) s fun t => t.chState n = .running ∧ (t.weir n).runFrame = m.t) ∧
  (∀ (s : State) (n : Fin 192), s.chState n = .draining → drained s n = true → (s.weir n).parkSent = false →
    linkTrained s n = true → (s.port n).parkDone = false → Leads (.drainComplete n) s fun t => (t.weir n).parkSent
    = true) ∧
  (∀ (s : State) (n : Fin 192) (v : Nat), s.chState n = .draining → (s.seq n).stopT = some v → v + 10 * ms ≤ s.ht →
    Leads (.drainTimeout n) s fun t => t.chState n = .off ∧ (t.weir n).q = [])

/-- TIME_SET latches its value for the next multiple of 1 ms, where it becomes HT; it is rejected for three reasons, judged twice (R128). -/
def Obligations.TimeSetIsLatchedAndLoaded : Prop :=
  (∀ (s : State), setReject (rdPair s timeB R.TIME_SET_LO_SET R.TIME_SET_HI_SET) s = 0 → Leads (.timeSet) s fun t
    => t.time.setReq = some (rdPair s timeB R.TIME_SET_LO_SET R.TIME_SET_HI_SET, (s.ht / ms + 1) * ms) ∧ t.ht =
    s.ht ∧ t.regs = s.regs) ∧
  (∀ (s : State), setReject (rdPair s timeB R.TIME_SET_LO_SET R.TIME_SET_HI_SET) s ≠ 0 → exec .timeSet s = .next
    (done (raise 0x020B noCh (setReject (rdPair s timeB R.TIME_SET_LO_SET R.TIME_SET_HI_SET) s + 256)) s)) ∧
  (∀ (s : State) (v : Nat), setReject v s = if inUse s = true then 1 else if rd s timeB R.TIME_CTRL_ROLE ≠ 1 then 2
    else if 2 ^ 63 ≤ v then 3 else 0) ∧
  (∀ (s : State) (v u : Nat), (s.time.setReq = some (v, u)) → u ≤ s.ht → setReject v s = 0 → Leads (.timeSetLoad) s
    fun t => t.ht = v ∧ t.time.setReq = none) ∧
  (∀ (s : State) (v u : Nat), (s.time.setReq = some (v, u)) → u ≤ s.ht → setReject v s ≠ 0 → Leads (.timeSetLoad) s
    fun t => t.ht = s.ht ∧ t.time.setReq = none ∧ t.regs = s.regs)

/-- A pending step is applied by STEP_NOW or as soon as the timebase is not in use, and STEP_NOW is rejected otherwise (R137, R138). -/
def Obligations.PendingStepsAreAppliedOnlyOutOfUse : Prop :=
  (∀ (s : State), inUse s = false → ((s.ht : Int) - s.time.stepOfs / 16 < 2 ^ 63) → rdB s timeB
    R.TIME_STATUS_STEP_PENDING = true → Leads (.timeStepNow) s fun t => t.ht = (max 0 ((s.ht : Int) -
    s.time.stepOfs / 16)).toNat ∧ rdB t timeB R.TIME_STATUS_STEP_PENDING = false ∧ t.time.stepOfs = 0) ∧
  (∀ (s : State), inUse s = true → exec .timeStepNow s = .next (done (raise 0x020B noCh (1 + 2 * 256)) s)) ∧
  (∀ (s : State), inUse s = false → rdB s timeB R.TIME_STATUS_STEP_PENDING = false → exec .timeStepNow s = .next
    (done (raise 0x020B noCh (4 + 2 * 256)) s)) ∧
  (∀ (s : State), inUse s = false → ((s.ht : Int) - s.time.stepOfs / 16 < 2 ^ 63) → rdB s timeB
    R.TIME_STATUS_STEP_PENDING = true → Leads (.stepPendingApply) s fun t => t.ht = (max 0 ((s.ht : Int) -
    s.time.stepOfs / 16)).toNat ∧ rdB t timeB R.TIME_STATUS_STEP_PENDING = false ∧ (timeState s = 4 → timeState t =
    0)) ∧
  (∀ (s : State), inUse s = true → exec .stepPendingApply s = .next (done id s))

/-- The three switches of the followed input that are not a loss: on command, on HOLDOVER for 1 s, and back to PRIMARY (R131, R132, R151). -/
def Obligations.SourcesAreSwitched : Prop :=
  (∀ (s : State), (inValid s (!followsB s) = true) → Leads (.timeSwitch) s fun t => followsB t = !followsB s ∧
    t.time.following = true ∧ rd t timeB R.TIME_ERRCNT_SWITCHES = min 255 (rd s timeB R.TIME_ERRCNT_SWITCHES + 1)) ∧
  (∀ (s : State), (inValid s (!followsB s) = false) → exec .timeSwitch s = .next (done (raise 0x020B noCh (5 + 3 *
    256)) s)) ∧
  (∀ (s : State), isMaster s = false → s.time.following = true → (inValid s (!followsB s) = true) → (hwIn s
    (followsB s)).holdAt ≠ 0 → (hwIn s (followsB s)).holdAt + 1000 * ms ≤ s.tick + 1 → (bitOf (hwIn s (!followsB
    s)).flags 0 = false) → Leads (.srcHoldoverSwitch) s fun t => followsB t = !followsB s ∧ rd t timeB
    R.TIME_ERRCNT_SWITCHES = min 255 (rd s timeB R.TIME_ERRCNT_SWITCHES + 1)) ∧
  (∀ (s : State), isMaster s = false → s.time.following = true → rdB s timeB R.TIME_CTRL_REVERT = true → (followsB
    s = !rdB s timeB R.TIME_CTRL_PRIMARY) → inValid s (rdB s timeB R.TIME_CTRL_PRIMARY) = true → (hwIn s (rdB s
    timeB R.TIME_CTRL_PRIMARY)).validAt + 10000 * ms ≤ s.tick → Leads (.timeRevert) s fun t => followsB t = rdB s
    timeB R.TIME_CTRL_PRIMARY) ∧
  (∀ (s : State), Leads (.timeCntClr) s fun t => rd t timeB R.TIME_ERRCNT_CRC = 0 ∧ rd t timeB
    R.TIME_ERRCNT_DISCARD = 0 ∧ rd t timeB R.TIME_ERRCNT_OUTLIER = 0 ∧ rd t timeB R.TIME_ERRCNT_SWITCHES = 0 ∧ t.ht
    = s.ht)

/-- TIME messages at every multiple of 1 ms, delay requests half a millisecond later, and delay responses (R121, R123, R124, R127, R148). -/
def Obligations.HeadwaterMessagesAreSent : Prop :=
  (∀ (s : State), timeDue s = true → htValid s = true → rdB s timeB R.TIME_CTRL_OUT_EN = true → s.mode ≠ .hold →
    Leads (.timeMessageSend) s fun t => .headwater 2 (s.ht / ms * ms) (hwMessage 1 s.time.seqNo (sender s) (s.ht /
    ms * ms) 0 0) ∈ t.out ∧ t.time.seqNo = (s.time.seqNo + 1) % 256) ∧
  (∀ (s : State), isMaster s = true → (sender s).hop = 0 ∧ (sender s).src = rd s timeB R.TIME_ID_ID) ∧
  (∀ (s : State) (b : Bool), isMaster s = false → s.mode ≠ .hold → (hwIn s b).lock = true → s.ht % ms = 2000000 →
    ((hwIn s b).req.any (fun r => r.2 == s.ht) = false) → Leads (.delayReqSend b) s fun t => .headwater (b2n b)
    s.ht (hwMessage 2 (hwIn s b).seqNo (sender s) 0 0 0) ∈ t.out ∧ (hwIn t b).req = some ((hwIn s b).seqNo, s.ht) ∧
    (hwIn t b).seqNo = ((hwIn s b).seqNo + 1) % 256) ∧
  (∀ (s : State) (f : Fin 16) (wt : Nat) (m : List Nat), delayWaitOk wt = true → s.mode ≠ .hold → s.time.outLock =
    true → msgBad m = 0 → msgAt m 1 = 2 → Leads (.delayReqReceived f wt m) s fun t => .headwater 2 (responseAt s
    wt) (hwMessage 3 (msgAt m 2) (sender s) s.ht f.val (responseAt s wt)) ∈ t.out ∧ t.regs = s.regs) ∧
  (∀ (s : State) (b : Bool) (q u : Nat), ((hwIn s b).req = some (q, u)) → u + 200 * us ≤ s.ht → Leads
    (.delayRespTimeout b) s fun t => (hwIn t b).req = none)

/-- Messages received on a locked input: what a TIME message and a delay response leave, and what a bad message counts (R120, R125, R126, R129). -/
def Obligations.HeadwaterMessagesAreTaken : Prop :=
  (∀ (s : State) (b : Bool) (f : Fin 16) (m : List Nat), isMaster s = false → s.mode ≠ .hold → (hwIn s b).lock =
    true → msgBad m = 1 → Leads (.timeMessageReceived b f m) s fun t => rd t timeB R.TIME_ERRCNT_CRC = min 255 (rd
    s timeB R.TIME_ERRCNT_CRC + 1) ∧ t.time = s.time ∧ t.ht = s.ht) ∧
  (∀ (s : State) (b : Bool) (f : Fin 16) (m : List Nat), isMaster s = false → s.mode ≠ .hold → (hwIn s b).lock =
    true → msgBad m = 2 → Leads (.timeMessageReceived b f m) s fun t => rd t timeB R.TIME_ERRCNT_DISCARD = min 255
    (rd s timeB R.TIME_ERRCNT_DISCARD + 1) ∧ t.time = s.time ∧ t.ht = s.ht) ∧
  (∀ (s : State) (b : Bool) (f : Fin 16) (m : List Nat), isMaster s = false → s.mode ≠ .hold → (hwIn s b).lock =
    true → msgBad m = 0 → msgAt m 1 = 1 → Leads (.timeMessageReceived b f m) s fun t => (hwIn t b).seen = s.tick +
    1 ∧ (hwIn t b).hop = msgAt m 3 % 64 ∧ (hwIn t b).src = msgBe m 24 4 ∧ (hwIn t b).flags = msgAt m 4 ∧ (hwIn t
    b).fit = (decide (msgAt m 3 % 64 ≤ 62) && decide (msgBe m 24 4 ≠ rd s timeB R.TIME_ID_ID))) ∧
  (∀ (s : State) (b : Bool) (f : Fin 16) (m : List Nat) (u : Nat), isMaster s = false → s.mode ≠ .hold → (hwIn s
    b).lock = true → msgBad m = 0 → msgAt m 1 = 3 → ((hwIn s b).req = some (msgAt m 2, u)) → s.ht < u + 200 * us →
    Leads (.delayRespReceived b f m) s fun t => (hwIn t b).req = none ∧ (hwIn t b).delays = ((((16 * s.ht + f.val :
    Nat) : Int) - 16 * u - (16 * (msgBe m 16 8 : Nat) - ((16 * msgBe m 7 8 + msgAt m 15 % 16 : Nat) : Int))).toNat
    :: (hwIn s b).delays).take 8)

/-- Character lock, lost and silent inputs, expired holdover, and the reference of a master (R115, R118, R129, R140, R141, R144, R146, R839). -/
def Obligations.HeadwaterLinksAndReferences : Prop :=
  (∀ (s : State), s.mode ≠ .hold → Leads (.hwCharacterLock 2) s fun t => t.time.outLock = true) ∧
  (∀ (s : State) (k : Fin 3), s.mode ≠ .hold → k ≠ 2 → Leads (.hwCharacterLock k) s fun t => (hwIn t (k == 1)).lock
    = true) ∧
  (∀ (s : State), Leads (.hwLinkLost 2) s fun t => t.time.outLock = false ∧ t.regs = s.regs) ∧
  (∀ (s : State) (k : Fin 3), k ≠ 2 → Leads (.hwLinkLost k) s fun t => (hwIn t (k == 1)).lock = false ∧ inValid t
    (k == 1) = false) ∧
  (∀ (s : State) (b : Bool), ((hwIn s b).seen = 0 ∨ 3 * ms + (hwIn s b).seen < s.tick + 1) → Leads (.hwInputTimeout
    b) s fun t => inValid t b = false) ∧
  (∀ (s : State), timeState s = 3 → s.time.e0 ≤ rd s timeB R.TIME_BOUND_HOLD_MAX → ((rd s timeB
    R.TIME_BOUND_HOLD_MAX - s.time.e0) * (16 * 10 ^ 23) < (s.tick - s.time.holdAt) * (2 * 10 ^ 14) + 165 * (s.tick
    - s.time.holdAt) * (s.tick - s.time.holdAt)) → Leads (.holdoverExpired) s fun t => timeState t = 4 ∧ htValid t
    = false) ∧
  (∀ (s : State), isMaster s = true → rdB s timeB R.TIME_STATUS_REF_OK = true → Leads (.refLost) s fun t => rdB t
    timeB R.TIME_STATUS_REF_OK = false ∧ timeState t = 4 ∧ htValid t = false ∧ t.ht = s.ht) ∧
  (∀ (s : State), isMaster s = true → timeState s = 4 → s.mode ≠ .hold → rdB s timeB R.TIME_STATUS_REF_OK = true →
    s.time.refAt + second ≤ s.tick → Leads (.refRestored) s fun t => rdB t timeB R.TIME_STATUS_REF_OK = true ∧
    timeState t = 1 ∧ htValid t = true ∧ rd t timeB R.TIME_SRC_HOP = 0) ∧
  (∀ (s : State), rdB s timeB R.TIME_STATUS_REF_OK = false → Leads (.refRestored) s fun t => rdB t timeB
    R.TIME_STATUS_REF_OK = true ∧ t.time.refAt = s.tick ∧ timeState t = timeState s) ∧
  (∀ (s : State) (d : Fin 4), rdB s (dieB d) R.HUB_DIE_STATUS_CLK_LOCK = true → Leads (.launchClockUnlock d) s fun
    t => rdB t (dieB d) R.HUB_DIE_STATUS_ISOLATED = true ∧ rdB t (dieB d) R.HUB_DIE_STATUS_IN_RESET = true ∧ rdB t
    (dieB d) R.HUB_DIE_STATUS_CLK_LOCK = false ∧ rdB t hubB R.HUB_DEGRADE_DIE_OFFLINE = true)

/-- A register write does what the access codes give; one that would change an RWF field of a running block is rejected (R12, R14, R17). -/
def Obligations.RegisterWritesFollowTheAccessCodes : Prop :=
  (∀ (s : State) (fn : Fin 257) (a : Nat) (data : List Byte), data.length < 4 → exec (.registerWrite fn a data) s =
    .next (done id s)) ∧
  (∀ (s : State) (fn : Fin 257) (a : Nat) (v : Fin 4294967296), a % 4 ≠ 0 → exec (.registerWrite fn a (leBytes 4
    v)) s = .next (done id s)) ∧
  (∀ (s : State) (a : Nat) (v : Fin 4294967296), windowAt a = none → blockAt a = none → exec (.registerWrite 0 a
    (leBytes 4 v)) s = .next (done id s)) ∧
  (∀ (s : State) (v : Fin 4294967296), hostOff s = false → Leads (.registerWrite 0 (sluiceB +
    R.SLUICE_CTRL_DEFER_MAX.off) (leBytes 4 v)) s fun t => rd t sluiceB R.SLUICE_CTRL_DEFER_MAX = v.val % 256 ∧
    t.regs = tset 60 (R.SLUICE_CTRL_DEFER_MAX.key sluiceB 0) (v.val % 256) s.regs ∧ t.eff = s.eff) ∧
  (∀ (s : State) (n : Fin 192) (v : Fin 4294967296), hostOff s = false → (inReset s (n.val / 48) = false) → chRuns
    s n = true → v.val % 4 ≠ rd s (chB n) R.CH_KIND_KIND → Leads (.registerWrite 0 (chB n + R.CH_KIND_KIND.off)
    (leBytes 4 v)) s fun t => t.regs = (wrB (chB n) R.CH_STATUS_WRITE_REJECTED true s).regs ∧ t.eff = s.eff) ∧
  (∀ (s : State) (n : Fin 192) (v : Fin 4294967296), hostOff s = false → (inReset s (n.val / 48) = false) → Leads
    (.registerWrite 0 (chB n + R.CH_STATUS_STATE.off) (leBytes 4 v)) s fun t => rdB t (chB n)
    R.CH_STATUS_WRITE_REJECTED = (rdB s (chB n) R.CH_STATUS_WRITE_REJECTED && !bitOf v
    R.CH_STATUS_WRITE_REJECTED.lo) ∧ rd t (chB n) R.CH_STATUS_STATE = rd s (chB n) R.CH_STATUS_STATE) ∧
  (∀ (s : State) (i : Fin 4), hostOff s = false → s.latch = [] → Leads (.registerPairRead 0
    { addr := sluiceB + R.SLUICE_CTRL_DEFER_MAX.off + i.val, len := 1 }) s fun t => .readData 0 (((leBytes 4
    (regWord 0 s (sluiceB + R.SLUICE_CTRL_DEFER_MAX.off))).drop i).take 1) ∈ t.out ∧ t.regs = s.regs)

/-- A write of 8 bytes is its two 32-bit writes in ascending order; a read of 8 bytes answers its two words in that order (R15). -/
def Obligations.WideAccessesAreSplitInAscendingOrder : Prop :=
  (∀ (s : State) (fn : Fin 257) (a : Nat) (u v : Fin 4294967296), exec (.registerWrite fn a (leBytes 4 u ++ leBytes
    4 v)) s = .next (done (fun x => regWrite fn (a + 4) v (regWrite fn a u x)) s)) ∧
  (∀ (s : State) (a : Nat), hostOff s = false → a % 4 = 0 → Leads (.registerPairRead 0 { addr := a, len := 8 }) s
    fun t => t.out = [.readData 0 (leBytes 4 (regRead 0 a (begun s)).1 ++ leBytes 4 (regRead 0 (a + 4) (regRead 0 a
    (begun s)).2).1)])

/-- A read of the lower word of a pair answers it and latches the upper word, which the next read of it returns once (R16). -/
def Obligations.PairReadsLatchTheUpperWord : Prop :=
  (∀ (s : State) (i : Fin 4), hostOff s = false → Leads (.registerPairRead 0
    { addr := timeB + R.TIME_NOW_LO_NOW.off + i.val, len := 1 }) s fun t => (s.latch.find? (fun e => e.1 == 0 &&
    e.2.1 == timeB + R.TIME_NOW_LO_NOW.off) = none → .readData 0 (((leBytes 4 (s.ht % 2 ^ 32)).drop i).take 1) ∈
    t.out) ∧ t.latch.head? = some (0, timeB + R.TIME_NOW_HI_NOW.off, s.ht / 2 ^ 32 % 2 ^ 32) ∧ t.regs = s.regs) ∧
  (∀ (s : State), hostOff s = false → Leads (.registerPairRead 0 { addr := timeB + R.TIME_NOW_LO_NOW.off }) s fun t
    => (s.latch.find? (fun e => e.1 == 0 && e.2.1 == timeB + R.TIME_NOW_LO_NOW.off) = none → .readData 0 (leBytes 4
    (s.ht % 2 ^ 32)) ∈ t.out) ∧ t.latch.head? = some (0, timeB + R.TIME_NOW_HI_NOW.off, s.ht / 2 ^ 32 % 2 ^ 32) ∧
    t.regs = s.regs) ∧
  (∀ (s : State) (v : Nat), hostOff s = false → (s.latch.find? (fun e => e.1 == 0 && e.2.1 == timeB +
    R.TIME_NOW_HI_NOW.off) = some (0, timeB + R.TIME_NOW_HI_NOW.off, v)) → Leads (.registerPairRead 0
    { addr := timeB + R.TIME_NOW_HI_NOW.off }) s fun t => .readData 0 (leBytes 4 v) ∈ t.out ∧ t.latch.find? (fun e
    => e.1 == 0 && e.2.1 == timeB + R.TIME_NOW_HI_NOW.off) = none ∧ t.regs = s.regs) ∧
  (∀ (s : State), hostOff s = false → (s.latch.find? (fun e => e.1 == 0 && e.2.1 == timeB + R.TIME_NOW_HI_NOW.off)
    = none) → Leads (.registerPairRead 0 { addr := timeB + R.TIME_NOW_HI_NOW.off }) s fun t => .readData 0 (leBytes
    4 (s.ht / 2 ^ 32 % 2 ^ 32)) ∈ t.out ∧ t.latch = s.latch ∧ t.regs = s.regs)

/-- A delivered line waits for the other layers of the next line; a deadline fills the line and counts an underrun (R180, R182, R183, R184, R189, R236, R239). -/
def Obligations.LinesOfAFrameAreComposed : Prop :=
  (∀ (s : State) (n : Fin 192) (f : Machine.Frm) (k : Fin 9) (y : Nat) (b : Bool), composing s n = some f → frameOf
    s n f.fno = some f → f.lines < y → y < frmH f n → needsLayer f.comp n k y = true → gotLine f.comp k y = none →
    linesBefore f n k y = true → lineReady f.comp n f.lines = false → (∀ j < 8, layerFn f.comp j = 0) → Leads
    (.fetchReadDone n k y b) s fun t => (frameOf t n f.fno).map (fun g => (g.lines, (gotLine g.comp k y).isSome)) =
    some (f.lines, true)) ∧
  (∀ (s : State) (n : Fin 192) (f : Machine.Frm) (k : Fin 9) (y u : Nat) (b : Bool), composing s n = some f →
    frameOf s n f.fno = some f → f.lines < y → y < frmH f n → needsLayer f.comp n k y = true → gotLine f.comp k y =
    none → linesBefore f n k y = true → lineReady f.comp n f.lines = false → (∀ j < 9, j ≠ k.val → needsLayer
    f.comp n j f.lines = true → layerFn f.comp j = 0) → ((lineUnits s f.comp n k (frmW f n) y (frmW f n)).head? =
    some u) → f.comp.units = [] → fetchUnit s (layerFn f.comp k) (layerSurf s f.comp n k) u = none → Leads
    (.fetchReadDone n k y b) s fun t => (frameOf t n f.fno).map (fun g => (g.lines, needsLayer g.comp n k y)) =
    some (f.lines, false) ∧ rd t (chB n) R.FETCH_RIGHTS_CNT_COUNT = satU 32 (rd s (chB n) R.FETCH_RIGHTS_CNT_COUNT
    + 1) % 2 ^ 32) ∧
  (∀ (s : State) (n : Fin 192) (f : Machine.Frm) (x : LineEnd) (mx : Nat) (b : Bool), composing s n = some f →
    frameOf s n f.fno = some f → f.lines < frmH f n → lineDeadline s n f f.lines ≤ s.ht → Leads (.lineDeadline n x
    mx b) s fun t => (frameOf t n f.fno).map (·.lines) = some (f.lines + 1) ∧ (x.x < frmW f n → rd t (chB n)
    R.FETCH_UNDERRUN_LINES_COUNT = satU 32 (rd s (chB n) R.FETCH_UNDERRUN_LINES_COUNT + 1) % 2 ^ 32)) ∧
  (∀ (s : State) (n : Fin 192) (f : Machine.Frm) (b : Bool), composing s n = some f → frameOf s n f.fno = some f →
    frmH f n ≤ f.lines → (f.comp.levee = false ∨ rdB s (chB n) R.COMP_LEVEE_CTRL_FORCE_DARK = false) → Leads
    (.frameComposed n b) s fun t => rdB t (chB n) R.COMP_STATUS_LEVEE_EFF = f.comp.levee ∧ rd t (chB n)
    R.COMP_STATUS_BAND_EFF = f.comp.band % 2 ^ R.COMP_STATUS_BAND_EFF.w ∧ rdB t (chB n) R.COMP_STATUS_LUT_BANK_EFF
    = (gv f.comp (chB n) R.COMP_CTRL_LUT_BANK % 2 == 1) ∧ (frameOf t n f.fno).all (·.comp.ended) = true)

/-- A flip instant starts the composition of its frame, PREEMPT flips at once, and dark intervals end (R207, R211, R232, R234, R270, R444). -/
def Obligations.FlipsStartFrames : Prop :=
  (∀ (s : State) (n : Fin 192) (f : Machine.Frm), flipDue s n = some f → isLive s n = true → flipsAt s n f.bnd =
    true → (s.chst n).pre = [] → (s.chst n).commits = [] → (s.chst n).updates = [] → (s.chst n).fences = [] →
    (s.chst n).clips = [] → (s.chst n).leave = 0 → (s.chst n).released = [] → (s.pipeCh n).down = false → Leads
    (.flipInstant n) s fun t => (frameOf t n f.fno).map (fun g => (g.flipped, g.lines, g.complete)) = some (true,
    0, none) ∧ rd t (chB n) R.COMP_CSEQ_SEQ = rd s (chB n) R.COMP_CSEQ_SEQ) ∧
  (∀ (s : State) (n : Fin 192), s.chState n = .running → commitReason s n 0 (pf0Flips s n) = 0 → (s.chst n).preempt
    = none → ((s.frmsOf n).find? (fun p => decide (s.ht + rd s (chB n) R.COMP_FLIP_PREEMPT_LEAD * us ≤ p.bnd)) =
    none) → Leads (.preempt n) s fun t => rd t (chB n) R.COMP_CSEQ_SEQ = (rd s (chB n) R.COMP_CSEQ_SEQ + 1) % 2 ^
    32 ∧ (t.chst n).preempt = some (s.ht + rd s (chB n) R.COMP_FLIP_PREEMPT_LEAD * us, [])) ∧
  (∀ (s : State) (n : Fin 192), fmtMayEnd s n = true → Leads (.formatDarkEnd n) s fun t => rdB t (chB n)
    R.PLANE_STATUS_FMT_DARK = false ∧ (t.chst n).darkFrom = none ∧ (t.chst n).rangeFrom = (s.chst n).rangeFrom) ∧
  (∀ (s : State) (n : Fin 192), rangeMayEnd s n = true → Leads (.rangeDarkEnd n) s fun t => rdB t (chB n)
    R.SEQ_RANGE_STAT_RANGE_DARK = false ∧ (t.chst n).rangeFrom = none ∧ (t.chst n).darkFrom = (s.chst n).darkFrom)

/-- A frame that waited for its pool slot is counted; at its ready time without a slot it is dropped; write-back ends in order (R225, R253, R254). -/
def Obligations.PoolSlotsAndWriteBack : Prop :=
  (∀ (s : State) (n : Fin 192) (f : Machine.Frm) (b : Bool), ((s.frmsOf n).find? (fun p => p.flipped && !p.dropped
    && p.complete.isNone) = some f) → slotFree s n f = true → (f.comp.held ≠ [] ∨ f.waitLines ≠ 0) → f.comp.ended =
    true → Leads (.poolSlotFreed n b) s fun t => rdB t (chB n) R.PLANE_STATUS_POOL_WAIT = true ∧ rd t (chB n)
    R.PLANE_POOLWAIT_CNT_COUNT = satU 32 (rd s (chB n) R.PLANE_POOLWAIT_CNT_COUNT + 1) % 2 ^ 32) ∧
  (∀ (s : State) (n : Fin 192) (f : Machine.Frm), ((s.frmsOf n).find? (fun p => p.flipped && !p.dropped &&
    p.complete.isNone) = some f) → slotFree s n f = false → f.bnd ≤ s.ht + lead s n → f.written = 0 → Leads
    (.readyTimeNoSlot n) s fun t => rdB t (chB n) R.PLANE_STATUS_POOL_WAIT = true ∧ rd t (chB n)
    R.PLANE_POOLWAIT_CNT_COUNT = satU 32 (rd s (chB n) R.PLANE_POOLWAIT_CNT_COUNT + 1) % 2 ^ 32 ∧ (frameOf t n
    f.fno).all (·.dropped) = true) ∧
  (∀ (s : State) (n : Fin 192) (f : Machine.Frm), ((s.frmsOf n).find? (fun p => p.flipped && p.comp.ended &&
    p.comp.wb.isSome) = some f) → f.comp.wbDrop = 0 → Leads (.wbFrameDone n) s fun t => rdPair t (chB n)
    R.COMP_WB_SEQ_LO_SEQ R.COMP_WB_SEQ_HI_SEQ = (rdPair s (chB n) R.COMP_WB_SEQ_LO_SEQ R.COMP_WB_SEQ_HI_SEQ + 1) %
    2 ^ 64 ∧ rdB t (chB n) R.COMP_STATUS_WB_INCOMPLETE = false ∧ rdB t (chB n) R.COMP_STATUS_WB_UNDERRUN = decide
    (f.comp.under.n ≠ 0)) ∧
  (∀ (s : State) (n : Fin 192) (f : Machine.Frm), ((s.frmsOf n).find? (fun p => p.flipped && p.comp.ended &&
    p.comp.wb.isSome) = some f) → f.comp.wbDrop ≠ 0 → Leads (.wbFrameDone n) s fun t => rdPair t (chB n)
    R.COMP_WB_SEQ_LO_SEQ R.COMP_WB_SEQ_HI_SEQ = rdPair s (chB n) R.COMP_WB_SEQ_LO_SEQ R.COMP_WB_SEQ_HI_SEQ ∧ rdB t
    (chB n) R.COMP_STATUS_WB_INCOMPLETE = true ∧ rd t (chB n) R.COMP_WB_INC_CNT_COUNT = satU 32 (rd s (chB n)
    R.COMP_WB_INC_CNT_COUNT + 1) % 2 ^ 32)

/-- COMP_LUT_DATA, COMP_BRIGHT and the counter clears of composition and plane formation (R206, R219, R229, R238, R273, R845). -/
def Obligations.CompositionRegistersWithAStepOfTheirOwn : Prop :=
  (∀ (s : State) (n : Fin 192) (v : Nat), rd s (chB n) R.COMP_LUT_IDX_ENTRY ≤ 1024 → rd s (chB n)
    R.COMP_LUT_IDX_PRI ≠ 3 → ef s (chB n) R.COMP_CTRL_LUT_BANK ≠ rd s (chB n) R.COMP_LUT_IDX_BANK → rd s (chB n)
    R.COMP_CTRL_LUT_BANK ≠ rd s (chB n) R.COMP_LUT_IDX_BANK → Leads (.compLutDataAccess n (some v)) s fun t =>
    lutAt t n (rd s (chB n) R.COMP_LUT_IDX_BANK) (rd s (chB n) R.COMP_LUT_IDX_PRI) (rd s (chB n)
    R.COMP_LUT_IDX_ENTRY) = v % 65536 ∧ rd t (chB n) R.COMP_LUT_IDX_ENTRY = (if rd s (chB n) R.COMP_LUT_IDX_ENTRY =
    1024 then 0 else rd s (chB n) R.COMP_LUT_IDX_ENTRY + 1)) ∧
  (∀ (s : State) (n : Fin 192), rd s (chB n) R.COMP_LUT_IDX_ENTRY ≤ 1024 → rd s (chB n) R.COMP_LUT_IDX_PRI ≠ 3 →
    Leads (.compLutDataAccess n none) s fun t => .readData 0 (leBytes 4 (lutAt s n (rd s (chB n)
    R.COMP_LUT_IDX_BANK) (rd s (chB n) R.COMP_LUT_IDX_PRI) (rd s (chB n) R.COMP_LUT_IDX_ENTRY))) ∈ t.out ∧ t.luts =
    s.luts) ∧
  (∀ (s : State) (n : Fin 192) (v : Nat), rd s (chB n) R.COMP_LUT_IDX_ENTRY ≤ 1024 → rd s (chB n)
    R.COMP_LUT_IDX_PRI ≠ 3 → (ef s (chB n) R.COMP_CTRL_LUT_BANK = rd s (chB n) R.COMP_LUT_IDX_BANK ∨ rd s (chB n)
    R.COMP_CTRL_LUT_BANK = rd s (chB n) R.COMP_LUT_IDX_BANK) → Leads (.compLutDataAccess n (some v)) s fun t =>
    t.luts = s.luts ∧ rdB t (chB n) R.CH_STATUS_WRITE_REJECTED = true) ∧
  (∀ (s : State) (fn : Fin 257) (n : Fin 192) (v : Nat), (fn.val = 0 ∨ seqOwner s n = fn.val) → Leads
    (.compBrightWrite fn n v) s fun t => rd t (chB n) R.COMP_BRIGHT_LEVEL = v % 65536 ∧ t.eff = s.eff ∧
    (leveeActive s n = true → v % 65536 < rd s (chB n) R.COMP_LEVEE_CTRL_FLOOR → rdB t (chB n)
    R.COMP_STATUS_BRIGHT_CLAMPED = true)) ∧
  (∀ (s : State) (fn : Fin 257) (n : Fin 192) (v : Nat), fn.val ≠ 0 → seqOwner s n ≠ fn.val → exec
    (.compBrightWrite fn n v) s = .next (done id s)) ∧
  (∀ (s : State) (n : Fin 192), Leads (.compCntClr n) s fun t => rd t (chB n) R.COMP_WB_INC_CNT_COUNT = 0 ∧ rd t
    (chB n) R.COMP_LEVEE_MISS_CNT_COUNT = 0 ∧ rd t (chB n) R.COMP_UMAP_FALLBACK_CNT_COUNT = 0 ∧ rd t (chB n)
    R.COMP_FROZEN_CNT_COUNT = 0 ∧ ∀ k < 9, rd t (compB n k) R.COMP_LLATE_CNT_COUNT = 0) ∧
  (∀ (s : State) (n : Fin 192), Leads (.planeCntClr n) s fun t => rd t (chB n) R.PLANE_VIOL_CNT_COUNT = 0 ∧ rd t
    (chB n) R.PLANE_DRIFT_CNT_COUNT = 0 ∧ rd t (chB n) R.PLANE_POOLWAIT_CNT_COUNT = 0 ∧ t.ht = s.ht)

/-- Sequence profile: what NOP, LDI, MOV, ADD to SHR, CMP, BR, BRC, CALL and RET leave, and that nothing else changes (R278, R282, R285, R286, R287, R288, R289, R290, R292). -/
def Obligations.SequencerRegisterInstructions : Prop :=
  (∀ (s : State) (n : Fin 192) (w : Nat), SeqAt s n w → opcode w = 0 → Leads (.vNop (.seq n)) s fun t => t.seq n =
    (s.seq n).next ∧ t.regs = s.regs ∧ t.descr = s.descr) ∧
  (∀ (s : State) (n : Fin 192) (w : Nat), SeqAt s n w → opcode w = 2 → Leads (.vLdi (.seq n)) s fun t => t.seq n =
    (s.seq n).next.setReg (iRD w) (if bits w 16 2 = 0 then toTwos 32 (sext 16 (iImm w)) else if bits w 16 2 = 1
    then iImm w else iImm w * 65536 + ((s.seq n).reg (iRD w)) % 65536) ∧ t.regs = s.regs ∧ t.descr = s.descr) ∧
  (∀ (s : State) (n : Fin 192) (w : Nat), SeqAt s n w → opcode w = 3 → Leads (.vMov (.seq n)) s fun t => t.seq n =
    (s.seq n).next.setReg (iRD w) (if iRA w = 16 then (s.seq n).tc % 2 ^ 32 else if iRA w = 17 then (s.seq n).tc /
    2 ^ 32 else if iRA w = 18 then (s.seq n).dx else if iRA w = 19 then (s.port n).lastW else if iRA w = 20 then
    (s.port n).band else (s.seq n).reg (iRA w)) ∧ t.regs = s.regs ∧ t.descr = s.descr) ∧
  (∀ (s : State) (n : Fin 192) (w : Nat), SeqAt s n w → opcode w = 4 → Leads (.vAdd (.seq n)) s fun t => t.seq n =
    (s.seq n).next.setReg (iRD w) (((s.seq n).reg (iRA w) + seqOp2 (s.seq n) w) % 2 ^ 32) ∧ t.regs = s.regs ∧
    t.descr = s.descr) ∧
  (∀ (s : State) (n : Fin 192) (w : Nat), SeqAt s n w → opcode w = 5 → Leads (.vSub (.seq n)) s fun t => t.seq n =
    (s.seq n).next.setReg (iRD w) (((s.seq n).reg (iRA w) + 2 ^ 32 - seqOp2 (s.seq n) w) % 2 ^ 32) ∧ t.regs =
    s.regs ∧ t.descr = s.descr) ∧
  (∀ (s : State) (n : Fin 192) (w : Nat), SeqAt s n w → opcode w = 6 → Leads (.vAnd (.seq n)) s fun t => t.seq n =
    (s.seq n).next.setReg (iRD w) (((s.seq n).reg (iRA w) &&& seqOp2 (s.seq n) w) % 2 ^ 32) ∧ t.regs = s.regs ∧
    t.descr = s.descr) ∧
  (∀ (s : State) (n : Fin 192) (w : Nat), SeqAt s n w → opcode w = 7 → Leads (.vOr (.seq n)) s fun t => t.seq n =
    (s.seq n).next.setReg (iRD w) (((s.seq n).reg (iRA w) ||| seqOp2 (s.seq n) w) % 2 ^ 32) ∧ t.regs = s.regs ∧
    t.descr = s.descr) ∧
  (∀ (s : State) (n : Fin 192) (w : Nat), SeqAt s n w → opcode w = 8 → Leads (.vXor (.seq n)) s fun t => t.seq n =
    (s.seq n).next.setReg (iRD w) (((s.seq n).reg (iRA w) ^^^ seqOp2 (s.seq n) w) % 2 ^ 32) ∧ t.regs = s.regs ∧
    t.descr = s.descr) ∧
  (∀ (s : State) (n : Fin 192) (w : Nat), SeqAt s n w → opcode w = 9 → Leads (.vShl (.seq n)) s fun t => t.seq n =
    (s.seq n).next.setReg (iRD w) (((s.seq n).reg (iRA w) * 2 ^ (seqOp2 (s.seq n) w % 64)) % 2 ^ 32) ∧ t.regs =
    s.regs ∧ t.descr = s.descr) ∧
  (∀ (s : State) (n : Fin 192) (w : Nat), SeqAt s n w → opcode w = 10 → Leads (.vShr (.seq n)) s fun t => t.seq n =
    (s.seq n).next.setReg (iRD w) (((s.seq n).reg (iRA w) / 2 ^ (seqOp2 (s.seq n) w % 64)) % 2 ^ 32) ∧ t.regs =
    s.regs ∧ t.descr = s.descr) ∧
  (∀ (s : State) (n : Fin 192) (w : Nat), SeqAt s n w → opcode w = 11 → Leads (.vCmp (.seq n)) s fun t => t.seq n =
    { (s.seq n).next with z := decide ((s.seq n).reg (iRA w) = seqOp2 (s.seq n) w), n := decide (sext 32 ((s.seq n).reg (iRA w)) < sext 32 (seqOp2 (s.seq n) w)), c := decide ((s.seq n).reg (iRA w) < seqOp2 (s.seq n) w) }
    ∧ t.regs = s.regs ∧ t.descr = s.descr) ∧
  (∀ (s : State) (n : Fin 192) (w : Nat), SeqAt s n w → opcode w = 12 → Leads (.vBr (.seq n)) s fun t => t.seq n =
    { (s.seq n).next with pc := iTarget w } ∧ t.regs = s.regs ∧ t.descr = s.descr) ∧
  (∀ (s : State) (n : Fin 192) (w : Nat), SeqAt s n w → opcode w = 13 → Leads (.vBrc (.seq n)) s fun t => t.seq n =
    (if condHolds (iCond w) { z := (s.seq n).z, n := (s.seq n).n, c := (s.seq n).c } (s.seq n).t = true then
    { (s.seq n).next with pc := iTarget w } else (s.seq n).next) ∧ t.regs = s.regs ∧ t.descr = s.descr) ∧
  (∀ (s : State) (n : Fin 192) (w : Nat), SeqAt s n w → opcode w = 14 → Leads (.vCall (.seq n)) s fun t => t.seq n
    = { (s.seq n).next with pc := iTarget w, stack := ((s.seq n).pc + 1) :: (s.seq n).stack } ∧ t.regs = s.regs ∧
    t.descr = s.descr) ∧
  (∀ (s : State) (n : Fin 192) (w : Nat) (r : Nat) (l : List Nat), SeqAt s n w → opcode w = 15 → ((s.seq n).stack =
    r :: l) → Leads (.vRet (.seq n)) s fun t => t.seq n = { (s.seq n).next with pc := r, stack := l } ∧ t.regs =
    s.regs ∧ t.descr = s.descr)

/-- Loop profile: what NOP, LDI, MOV, ADD to SHR, CMP, BR, BRC, CALL and RET leave, and that nothing else changes (R280, R282, R283, R285, R286, R287, R288, R289, R290, R292, R333). -/
def Obligations.LoopRegisterInstructions : Prop :=
  (∀ (s : State) (k : Fin 2048) (w : Nat), LoopAt s k w → opcode w = 0 → Leads (.vNop (.slot k)) s fun t => t.core
    (coreOf k) = s.core (coreOf k) ∧ t.slot k =
    { s.slot k with pc := (s.slot k).pc + 1, insns := (s.slot k).insns + 1 } ∧ t.regs = s.regs ∧ t.ldata = s.ldata) ∧
  (∀ (s : State) (k : Fin 2048) (w : Nat), LoopAt s k w → opcode w = 2 → Leads (.vLdi (.slot k)) s fun t => t.core
    (coreOf k) = (s.core (coreOf k)).setBank (bitOf w 20) (iRD w) (if bits w 16 2 = 0 then toTwos 32 (sext 16 (iImm
    w)) else if bits w 16 2 = 1 then iImm w else iImm w * 65536 + ((s.core (coreOf k)).bank (bitOf w 20) (iRD w)) %
    65536) ∧ t.slot k = { s.slot k with pc := (s.slot k).pc + 1, insns := (s.slot k).insns + 1 } ∧ t.regs = s.regs
    ∧ t.ldata = s.ldata) ∧
  (∀ (s : State) (k : Fin 2048) (w : Nat), LoopAt s k w → opcode w = 3 → Leads (.vMov (.slot k)) s fun t => t.core
    (coreOf k) = (s.core (coreOf k)).setBank (bitOf w 15) (iRD w) (if bitOf w 14 = true then (s.core (coreOf k)).f
    (iRA w) else if iRA w = 16 then k.val % 8 else if iRA w = 17 then ((s.slot k).cTick - (s.slot k).phi) / max 1
    (s.slot k).per % 2 ^ 32 else if iRA w = 18 then (s.slot k).dt % 2 ^ 32 else (s.core (coreOf k)).i (iRA w)) ∧
    t.slot k = { s.slot k with pc := (s.slot k).pc + 1, insns := (s.slot k).insns + 1 } ∧ t.regs = s.regs ∧ t.ldata
    = s.ldata) ∧
  (∀ (s : State) (k : Fin 2048) (w : Nat), LoopAt s k w → opcode w = 4 → Leads (.vAdd (.slot k)) s fun t => t.core
    (coreOf k) = (s.core (coreOf k)).setI (iRD w) (((s.core (coreOf k)).i (iRA w) + loopOp2 (s.core (coreOf k)) w)
    % 2 ^ 32) ∧ t.slot k = { s.slot k with pc := (s.slot k).pc + 1, insns := (s.slot k).insns + 1 } ∧ t.regs =
    s.regs ∧ t.ldata = s.ldata) ∧
  (∀ (s : State) (k : Fin 2048) (w : Nat), LoopAt s k w → opcode w = 5 → Leads (.vSub (.slot k)) s fun t => t.core
    (coreOf k) = (s.core (coreOf k)).setI (iRD w) (((s.core (coreOf k)).i (iRA w) + 2 ^ 32 - loopOp2 (s.core
    (coreOf k)) w) % 2 ^ 32) ∧ t.slot k = { s.slot k with pc := (s.slot k).pc + 1, insns := (s.slot k).insns + 1 }
    ∧ t.regs = s.regs ∧ t.ldata = s.ldata) ∧
  (∀ (s : State) (k : Fin 2048) (w : Nat), LoopAt s k w → opcode w = 6 → Leads (.vAnd (.slot k)) s fun t => t.core
    (coreOf k) = (s.core (coreOf k)).setI (iRD w) (((s.core (coreOf k)).i (iRA w) &&& loopOp2 (s.core (coreOf k))
    w) % 2 ^ 32) ∧ t.slot k = { s.slot k with pc := (s.slot k).pc + 1, insns := (s.slot k).insns + 1 } ∧ t.regs =
    s.regs ∧ t.ldata = s.ldata) ∧
  (∀ (s : State) (k : Fin 2048) (w : Nat), LoopAt s k w → opcode w = 7 → Leads (.vOr (.slot k)) s fun t => t.core
    (coreOf k) = (s.core (coreOf k)).setI (iRD w) (((s.core (coreOf k)).i (iRA w) ||| loopOp2 (s.core (coreOf k))
    w) % 2 ^ 32) ∧ t.slot k = { s.slot k with pc := (s.slot k).pc + 1, insns := (s.slot k).insns + 1 } ∧ t.regs =
    s.regs ∧ t.ldata = s.ldata) ∧
  (∀ (s : State) (k : Fin 2048) (w : Nat), LoopAt s k w → opcode w = 8 → Leads (.vXor (.slot k)) s fun t => t.core
    (coreOf k) = (s.core (coreOf k)).setI (iRD w) (((s.core (coreOf k)).i (iRA w) ^^^ loopOp2 (s.core (coreOf k))
    w) % 2 ^ 32) ∧ t.slot k = { s.slot k with pc := (s.slot k).pc + 1, insns := (s.slot k).insns + 1 } ∧ t.regs =
    s.regs ∧ t.ldata = s.ldata) ∧
  (∀ (s : State) (k : Fin 2048) (w : Nat), LoopAt s k w → opcode w = 9 → Leads (.vShl (.slot k)) s fun t => t.core
    (coreOf k) = (s.core (coreOf k)).setI (iRD w) (((s.core (coreOf k)).i (iRA w) * 2 ^ (loopOp2 (s.core (coreOf
    k)) w % 64)) % 2 ^ 32) ∧ t.slot k = { s.slot k with pc := (s.slot k).pc + 1, insns := (s.slot k).insns + 1 } ∧
    t.regs = s.regs ∧ t.ldata = s.ldata) ∧
  (∀ (s : State) (k : Fin 2048) (w : Nat), LoopAt s k w → opcode w = 10 → Leads (.vShr (.slot k)) s fun t => t.core
    (coreOf k) = (s.core (coreOf k)).setI (iRD w) (((s.core (coreOf k)).i (iRA w) / 2 ^ (loopOp2 (s.core (coreOf
    k)) w % 64)) % 2 ^ 32) ∧ t.slot k = { s.slot k with pc := (s.slot k).pc + 1, insns := (s.slot k).insns + 1 } ∧
    t.regs = s.regs ∧ t.ldata = s.ldata) ∧
  (∀ (s : State) (k : Fin 2048) (w : Nat), LoopAt s k w → opcode w = 11 → bitOf w 21 = false → Leads (.vCmp (.slot
    k)) s fun t => t.core (coreOf k) =
    { s.core (coreOf k) with z := decide ((s.core (coreOf k)).i (iRA w) = loopOp2 (s.core (coreOf k)) w), n := decide (sext 32 ((s.core (coreOf k)).i (iRA w)) < sext 32 (loopOp2 (s.core (coreOf k)) w)), c := decide ((s.core (coreOf k)).i (iRA w) < loopOp2 (s.core (coreOf k)) w) }
    ∧ t.slot k = { s.slot k with pc := (s.slot k).pc + 1, insns := (s.slot k).insns + 1 } ∧ t.regs = s.regs ∧
    t.ldata = s.ldata) ∧
  (∀ (s : State) (k : Fin 2048) (w : Nat), LoopAt s k w → opcode w = 11 → bitOf w 21 = true → fNaN ((s.core (coreOf
    k)).f (iRA w)) = false → fNaN ((s.core (coreOf k)).f (iRB w)) = false → Leads (.vCmp (.slot k)) s fun t =>
    t.core (coreOf k) =
    { s.core (coreOf k) with z := fEq ((s.core (coreOf k)).f (iRA w)) ((s.core (coreOf k)).f (iRB w)), n := fLt ((s.core (coreOf k)).f (iRA w)) ((s.core (coreOf k)).f (iRB w)), c := fLt ((s.core (coreOf k)).f (iRA w)) ((s.core (coreOf k)).f (iRB w)) }
    ∧ t.slot k = { s.slot k with pc := (s.slot k).pc + 1, insns := (s.slot k).insns + 1 } ∧ t.regs = s.regs ∧
    t.ldata = s.ldata) ∧
  (∀ (s : State) (k : Fin 2048) (w : Nat), LoopAt s k w → opcode w = 12 → Leads (.vBr (.slot k)) s fun t => t.core
    (coreOf k) = s.core (coreOf k) ∧ t.regs = s.regs ∧ t.ldata = s.ldata ∧ t.slot k =
    { s.slot k with pc := iTarget w, insns := (s.slot k).insns + 1 }) ∧
  (∀ (s : State) (k : Fin 2048) (w : Nat), LoopAt s k w → opcode w = 13 → Leads (.vBrc (.slot k)) s fun t => t.core
    (coreOf k) = s.core (coreOf k) ∧ t.regs = s.regs ∧ t.ldata = s.ldata ∧ t.slot k =
    { s.slot k with pc := if condHolds (iCond w) { z := (s.core (coreOf k)).z, n := (s.core (coreOf k)).n, c := (s.core (coreOf k)).c } false = true then iTarget w else (s.slot k).pc + 1, insns := (s.slot k).insns + 1 }) ∧
  (∀ (s : State) (k : Fin 2048) (w : Nat), LoopAt s k w → opcode w = 14 → Leads (.vCall (.slot k)) s fun t =>
    t.core (coreOf k) = s.core (coreOf k) ∧ t.regs = s.regs ∧ t.ldata = s.ldata ∧ t.slot k =
    { s.slot k with pc := iTarget w, stack := ((s.slot k).pc + 1) :: (s.slot k).stack, insns := (s.slot k).insns + 1 }) ∧
  (∀ (s : State) (k : Fin 2048) (w : Nat) (r : Nat) (l : List Nat), LoopAt s k w → opcode w = 15 → ((s.slot
    k).stack = r :: l) → Leads (.vRet (.slot k)) s fun t => t.core (coreOf k) = s.core (coreOf k) ∧ t.regs = s.regs
    ∧ t.ldata = s.ldata ∧ t.slot k = { s.slot k with pc := r, stack := l, insns := (s.slot k).insns + 1 })

/-- LD, ST, HALT and SIG in both profiles: the word moved, the halt or fault, the event raised (R291, R293, R294, R331, R333, R334). -/
def Obligations.MemoryHaltAndSignalInstructions : Prop :=
  (∀ (s : State) (n : Fin 192) (w : Nat), SeqAt s n w → opcode w = 16 → badAccess (memAddr ((s.seq n).reg (iRA w))
    w) 0x4000 = false → Leads (.vLd (.seq n)) s fun t => t.seq n = (s.seq n).next.setReg (iRD w) (descrWord s n
    (seqBank s n) ((memAddr ((s.seq n).reg (iRA w)) w).toNat / 4)) ∧ t.regs = s.regs ∧ t.descr = s.descr) ∧
  (∀ (s : State) (n : Fin 192) (w : Nat), SeqAt s n w → opcode w = 17 → badAccess (memAddr ((s.seq n).reg (iRA w))
    w) 0x4000 = false → Leads (.vSt (.seq n)) s fun t => t.seq n = (s.seq n).next ∧ t.regs = s.regs ∧ t.descr =
    tset 0 ((2 * n + seqBank s n) * 4096 + (memAddr ((s.seq n).reg (iRA w)) w).toNat / 4) ((s.seq n).reg (iRD w) %
    2 ^ 32) s.descr) ∧
  (∀ (s : State) (k : Fin 2048) (w : Nat), LoopAt s k w → opcode w = 16 → badAccess (memAddr ((s.core (coreOf k)).i
    (iRA w)) w) (4 * winSize s k) = false → Leads (.vLd (.slot k)) s fun t => t.core (coreOf k) = (s.core (coreOf
    k)).setBank (bitOf w 15) (iRD w) (winWord s k ((memAddr ((s.core (coreOf k)).i (iRA w)) w).toNat / 4)) ∧ t.slot
    k = { s.slot k with pc := (s.slot k).pc + 1, insns := (s.slot k).insns + 1 } ∧ t.regs = s.regs ∧ t.ldata =
    s.ldata) ∧
  (∀ (s : State) (k : Fin 2048) (w : Nat), LoopAt s k w → opcode w = 17 → badAccess (memAddr ((s.core (coreOf k)).i
    (iRA w)) w) (4 * winSize s k) = false → Leads (.vSt (.slot k)) s fun t => t.core (coreOf k) = s.core (coreOf k)
    ∧ t.regs = s.regs ∧ t.slot k = { s.slot k with pc := (s.slot k).pc + 1, insns := (s.slot k).insns + 1 } ∧
    t.ldata = tset 0 (winKey s k ((memAddr ((s.core (coreOf k)).i (iRA w)) w).toNat / 4)) ((s.core (coreOf k)).bank
    (bitOf w 15) (iRD w) % 2 ^ 32) s.ldata) ∧
  (∀ (s : State) (n : Fin 192) (w : Nat), SeqAt s n w → opcode w = 1 → Leads (.vHalt (.seq n)) s fun t => (t.seq
    n).run = .halted ∧ (t.seq n).pc = (s.seq n).pc ∧ (t.seq n).S = (s.seq n).S ∧ rdB t (chB n) R.SEQ_STATUS_HALTED
    = true) ∧
  (∀ (s : State) (k : Fin 2048) (w : Nat), LoopAt s k w → opcode w = 1 → Leads (.vHalt (.slot k)) s fun t =>
    t.slotState k = .holding ∧ rd t (slB k) R.LOOP_SLOT_STATUS_FAULT = 8 ∧ rd t (slB k)
    R.LOOP_SLOT_STATUS_HOLD_CAUSE = 1) ∧
  (∀ (s : State) (n : Fin 192) (w : Nat), SeqAt s n w → opcode w = 18 → exec (.vSig (.seq n)) s = .next (done (fun
    u => modSeq n SeqSt.next (raise 0x0603 n (iImm w + 65536 * ((s.seq n).pc % 4096) + 2 ^ 28 * seqBank s n) u))
    s)) ∧
  (∀ (s : State) (k : Fin 2048) (w : Nat), LoopAt s k w → opcode w = 18 → exec (.vSig (.slot k)) s = .next (done
    (fun u => slotNext k (raise 0x0907 (evCh s k) (iImm w + 65536 * k) u)) s)) ∧
  (∀ (s : State) (n : Fin 192) (w : Nat), SeqAt s n w → opcode w = 18 → Leads (.vSig (.seq n)) s fun t => t.seq n =
    (s.seq n).next ∧ t.regs = s.regs ∧ t.descr = s.descr) ∧
  (∀ (s : State) (k : Fin 2048) (w : Nat), LoopAt s k w → opcode w = 18 → Leads (.vSig (.slot k)) s fun t => t.core
    (coreOf k) = s.core (coreOf k) ∧ t.slot k =
    { s.slot k with pc := (s.slot k).pc + 1, insns := (s.slot k).insns + 1 } ∧ t.regs = s.regs ∧ t.ldata = s.ldata) ∧
  (∀ (s : State) (n : Fin 192) (w : Nat), SeqAt s n w → opcode w = 16 → badAccess (memAddr ((s.seq n).reg (iRA w))
    w) 0x4000 = true → Leads (.vLd (.seq n)) s fun t => (t.seq n).run = .stopped ∧ rd t (chB n) R.SEQ_STATUS_FAULT
    = 4 ∧ rd t (chB n) R.SEQ_FAULT_INFO_PC = (s.seq n).pc % 2 ^ R.SEQ_FAULT_INFO_PC.w)

/-- The counter clears of the Weir, lamps, moving parts, protocol, sequencer, memory, fabric, locks, HK, Oxbow, CFG, management and tenants (R335, R368, R405, R450, R518, R593, R632, R633, R687, R726, R727, R729). -/
def Obligations.CounterClears : Prop :=
  (∀ (s : State) (n : Fin 192), Leads (.weirCntClr n) s fun t => rd t (chB n) R.WEIR_LATE_CNT_COUNT = 0 ∧ rd t (chB
    n) R.WEIR_LATE_DARK_CNT_COUNT = 0 ∧ rd t (chB n) R.WEIR_MISS_CNT_COUNT = 0 ∧ rd t (chB n)
    R.WEIR_EXPIRED_CNT_COUNT = 0 ∧ rd t (chB n) R.WEIR_EDGE_LATE_CNT_COUNT = 0 ∧ rd t (chB n) R.WEIR_DOWN_CNT_COUNT
    = 0 ∧ rd t (chB n) R.WEIR_WD_CNT_COUNT = 0 ∧ rd t (chB n) R.WEIR_LEAK_CNT_COUNT = 0 ∧ rd t (chB n)
    R.WEIR_SLACK_LOW_SLACK = 0x7FFFFFFF ∧ rd t (chB n) R.WEIR_QUEUE_PEAK = (s.weir n).q.length % 2 ^
    R.WEIR_QUEUE_PEAK.w ∧ (∀ a, a ∉ [R.WEIR_LATE_CNT_COUNT.key (chB n) 0, R.WEIR_LATE_DARK_CNT_COUNT.key (chB n) 0,
    R.WEIR_MISS_CNT_COUNT.key (chB n) 0, R.WEIR_EXPIRED_CNT_COUNT.key (chB n) 0, R.WEIR_EDGE_LATE_CNT_COUNT.key
    (chB n) 0, R.WEIR_DOWN_CNT_COUNT.key (chB n) 0, R.WEIR_WD_CNT_COUNT.key (chB n) 0, R.WEIR_LEAK_CNT_COUNT.key
    (chB n) 0, R.WEIR_SLACK_LOW_SLACK.key (chB n) 0, R.WEIR_QUEUE_PEAK.key (chB n) 0] → tget 0 a t.regs = tget 0 a
    s.regs) ∧ t.eff = s.eff ∧ t.ht = s.ht) ∧
  (∀ (s : State) (n : Fin 192), Leads (.lampCntClr n) s fun t => rd t (chB n) R.LAMP_OPEN_CNT_COUNT = 0 ∧ rd t (chB
    n) R.LAMP_SHORT_CNT_COUNT = 0 ∧ rd t (chB n) R.LAMP_CUT_CNT_COUNT = 0 ∧ rd t (chB n) R.LAMP_BYP_CNT_COUNT = 0 ∧
    rd t (chB n) R.LAMP_FALLBACK_CNT_COUNT = 0 ∧ rd t (chB n) R.LAMP_RILL_FRAME_CNT_COUNT = 0 ∧ rd t (chB n)
    R.LAMP_RILL_ABORT_CNT_COUNT = 0 ∧ rd t (chB n) R.LAMP_READBACK_CNT_COUNT = 0 ∧ (∀ a, a ∉
    [R.LAMP_OPEN_CNT_COUNT.key (chB n) 0, R.LAMP_SHORT_CNT_COUNT.key (chB n) 0, R.LAMP_CUT_CNT_COUNT.key (chB n) 0,
    R.LAMP_BYP_CNT_COUNT.key (chB n) 0, R.LAMP_FALLBACK_CNT_COUNT.key (chB n) 0, R.LAMP_RILL_FRAME_CNT_COUNT.key
    (chB n) 0, R.LAMP_RILL_ABORT_CNT_COUNT.key (chB n) 0, R.LAMP_READBACK_CNT_COUNT.key (chB n) 0] → tget 0 a
    t.regs = tget 0 a s.regs) ∧ t.eff = s.eff ∧ t.ht = s.ht) ∧
  (∀ (s : State) (n : Fin 192), Leads (.moveCntClr n) s fun t => rd t (chB n) R.MOVE_WILK_CNT_COUNT = 0 ∧ rd t (chB
    n) R.MOVE_IDXLOST_CNT_COUNT = 0 ∧ rd t (chB n) R.MOVE_SILK_CNT_COUNT = 0 ∧ rd t (chB n)
    R.MOVE_SWEEPFAIL_CNT_COUNT = 0 ∧ (∀ a, a ∉ [R.MOVE_WILK_CNT_COUNT.key (chB n) 0, R.MOVE_IDXLOST_CNT_COUNT.key
    (chB n) 0, R.MOVE_SILK_CNT_COUNT.key (chB n) 0, R.MOVE_SWEEPFAIL_CNT_COUNT.key (chB n) 0] → tget 0 a t.regs =
    tget 0 a s.regs) ∧ t.eff = s.eff ∧ t.ht = s.ht) ∧
  (∀ (s : State) (n : Fin 192), Leads (.eprotCntClr n) s fun t => rd t (chB n) R.EPROT_RX_ERR_CNT_COUNT = 0 ∧ rd t
    (chB n) R.EPROT_HEAD_ERR_CNT_COUNT = 0 ∧ rd t (chB n) R.EPROT_IDENT_CNT_COUNT = 0 ∧ rd t (chB n)
    R.EPROT_PARK_TO_CNT_COUNT = 0 ∧ rd t (chB n) R.EPROT_STALE_CNT_COUNT = 0 ∧ rd t (chB n)
    R.EPROT_CFG_TO_CNT_COUNT = 0 ∧ (∀ a, a ∉ [R.EPROT_RX_ERR_CNT_COUNT.key (chB n) 0,
    R.EPROT_HEAD_ERR_CNT_COUNT.key (chB n) 0, R.EPROT_IDENT_CNT_COUNT.key (chB n) 0, R.EPROT_PARK_TO_CNT_COUNT.key
    (chB n) 0, R.EPROT_STALE_CNT_COUNT.key (chB n) 0, R.EPROT_CFG_TO_CNT_COUNT.key (chB n) 0] → tget 0 a t.regs =
    tget 0 a s.regs) ∧ t.eff = s.eff ∧ t.ht = s.ht) ∧
  (∀ (s : State) (n : Fin 192), Leads (.seqCntClr n) s fun t => rd t (chB n) R.SEQ_FAULT_CNT_COUNT = 0 ∧ (∀ a, a ∉
    [R.SEQ_FAULT_CNT_COUNT.key (chB n) 0] → tget 0 a t.regs = tget 0 a s.regs) ∧ t.eff = s.eff ∧ t.ht = s.ht) ∧
  (∀ (s : State) (n : Fin 192), Leads (.seqXcntClr n) s fun t => rd t (chB n) R.SEQ_FRAME_CNT_COUNT = 0 ∧ rd t (chB
    n) R.SEQ_SWITCH_CNT_COUNT = 0 ∧ rd t (chB n) R.SEQ_SLOT_DROP_CNT_COUNT = 0 ∧ rd t (chB n)
    R.SEQ_SAMPLE_DROP_CNT_COUNT = 0 ∧ rd t (chB n) R.SEQ_GAP_DROP_CNT_COUNT = 0 ∧ rd t (chB n)
    R.SEQ_OFFGRID_CNT_COUNT = 0 ∧ rd t (chB n) R.SEQ_SWAPERR_CNT_COUNT = 0 ∧ (∀ a, a ∉ [R.SEQ_FRAME_CNT_COUNT.key
    (chB n) 0, R.SEQ_SWITCH_CNT_COUNT.key (chB n) 0, R.SEQ_SLOT_DROP_CNT_COUNT.key (chB n) 0,
    R.SEQ_SAMPLE_DROP_CNT_COUNT.key (chB n) 0, R.SEQ_GAP_DROP_CNT_COUNT.key (chB n) 0, R.SEQ_OFFGRID_CNT_COUNT.key
    (chB n) 0, R.SEQ_SWAPERR_CNT_COUNT.key (chB n) 0] → tget 0 a t.regs = tget 0 a s.regs) ∧ t.eff = s.eff ∧ t.ht =
    s.ht) ∧
  (∀ (s : State) (d : Fin 4) (m : Fin 8), Leads (.ddrCntClr d m) s fun t => rd t (ddrB d m) R.DDR_CE_CNT_COUNT = 0
    ∧ rd t (ddrB d m) R.DDR_UE_CNT_COUNT = 0 ∧ rd t (ddrB d m) R.DDR_POISON_RD_CNT_COUNT = 0 ∧ rd t (ddrB d m)
    R.DDR_POISON_WR_CNT_COUNT = 0 ∧ rd t (ddrB d m) R.DDR_ALERT_CNT_COUNT = 0 ∧ rd t (ddrB d m)
    R.DDR_HARD_RETRAIN_CNT_COUNT = 0 ∧ rd t (ddrB d m) R.DDR_DRFM_CNT_COUNT = 0 ∧ rd t (ddrB d m)
    R.DDR_PAUSE_CNT_COUNT = 0 ∧ rd t (ddrB d m) R.DDR_PAUSE_FORCED_CNT_COUNT = 0 ∧ rd t (ddrB d m)
    R.DDR_SR_CNT_COUNT = 0 ∧ rd t (ddrB d m) R.DDR_RAW_WAIT_CNT_COUNT = 0 ∧ rd t (ddrB d m)
    R.DDR_SCRUB_PASS_CNT_COUNT = 0 ∧ rd t (ddrB d m) R.DDR_WQ_PEAK = rd s (ddrB d m) R.DDR_WQ_USED % 2 ^
    R.DDR_WQ_PEAK.w ∧ (∀ a, a ∉ [R.DDR_CE_CNT_COUNT.key (ddrB d m) 0, R.DDR_UE_CNT_COUNT.key (ddrB d m) 0,
    R.DDR_POISON_RD_CNT_COUNT.key (ddrB d m) 0, R.DDR_POISON_WR_CNT_COUNT.key (ddrB d m) 0,
    R.DDR_ALERT_CNT_COUNT.key (ddrB d m) 0, R.DDR_HARD_RETRAIN_CNT_COUNT.key (ddrB d m) 0, R.DDR_DRFM_CNT_COUNT.key
    (ddrB d m) 0, R.DDR_PAUSE_CNT_COUNT.key (ddrB d m) 0, R.DDR_PAUSE_FORCED_CNT_COUNT.key (ddrB d m) 0,
    R.DDR_SR_CNT_COUNT.key (ddrB d m) 0, R.DDR_RAW_WAIT_CNT_COUNT.key (ddrB d m) 0, R.DDR_SCRUB_PASS_CNT_COUNT.key
    (ddrB d m) 0, R.DDR_WQ_PEAK.key (ddrB d m) 0] → tget 0 a t.regs = tget 0 a s.regs) ∧ t.eff = s.eff ∧ t.ht =
    s.ht) ∧
  (∀ (s : State) (d : Fin 4), Leads (.ddrDieCntClr d) s fun t => rd t (ddrDieB d) R.DDR_DIE_OOR_CNT_COUNT = 0 ∧ (∀
    a, a ∉ [R.DDR_DIE_OOR_CNT_COUNT.key (ddrDieB d) 0] → tget 0 a t.regs = tget 0 a s.regs) ∧ t.eff = s.eff ∧ t.ht
    = s.ht) ∧
  (∀ (s : State), Leads (.fabCntClr) s fun t => rd t (fabB) R.HUB_FAB_STALE_CNT_COUNT = 0 ∧ rd t (fabB)
    R.HUB_FAB_UNITRESET_CNT_COUNT = 0 ∧ rd t (fabB) R.HUB_CDC_RESYNC_FAIL_CNT_COUNT = 0 ∧ (∀ a, a ∉
    [R.HUB_FAB_STALE_CNT_COUNT.key (fabB) 0, R.HUB_FAB_UNITRESET_CNT_COUNT.key (fabB) 0,
    R.HUB_CDC_RESYNC_FAIL_CNT_COUNT.key (fabB) 0] → tget 0 a t.regs = tget 0 a s.regs) ∧ t.eff = s.eff ∧ t.ht =
    s.ht) ∧
  (∀ (s : State) (d : Fin 4), Leads (.d2dCntClr d) s fun t => rd t (d2dB d) R.HUB_D2D_CRC_CNT0_COUNT = 0 ∧ rd t
    (d2dB d) R.HUB_D2D_CRC_CNT1_COUNT = 0 ∧ rd t (d2dB d) R.HUB_D2D_REPAIR_CNT_COUNT = 0 ∧ rd t (d2dB d)
    R.HUB_D2D_DOWN_CNT_COUNT = 0 ∧ rd t (d2dB d) R.HUB_FAB_P0_OVER_CNT_COUNT = 0 ∧ rd t (d2dB d)
    R.HUB_FAB_P0_MAX_NS = 0 ∧ rd t (d2dB d) R.HUB_FAB_P0_MAX_CHAN = 0 ∧ (∀ a, a ∉ [R.HUB_D2D_CRC_CNT0_COUNT.key
    (d2dB d) 0, R.HUB_D2D_CRC_CNT1_COUNT.key (d2dB d) 0, R.HUB_D2D_REPAIR_CNT_COUNT.key (d2dB d) 0,
    R.HUB_D2D_DOWN_CNT_COUNT.key (d2dB d) 0, R.HUB_FAB_P0_OVER_CNT_COUNT.key (d2dB d) 0, R.HUB_FAB_P0_MAX_NS.key
    (d2dB d) 0, R.HUB_FAB_P0_MAX_CHAN.key (d2dB d) 0] → tget 0 a t.regs = tget 0 a s.regs) ∧ t.eff = s.eff ∧ t.ht =
    s.ht) ∧
  (∀ (s : State), Leads (.lockCntClr) s fun t => rd t (lockUnitB) R.LOCK_BROKEN_CNT_COUNT = 0 ∧ (∀ a, a ∉
    [R.LOCK_BROKEN_CNT_COUNT.key (lockUnitB) 0] → tget 0 a t.regs = tget 0 a s.regs) ∧ t.eff = s.eff ∧ t.ht = s.ht) ∧
  (∀ (s : State), Leads (.hkCntClr) s fun t => rd t (hkB) R.HK_THERM_FAULT_CNT_COUNT = 0 ∧ (∀ a, a ∉
    [R.HK_THERM_FAULT_CNT_COUNT.key (hkB) 0] → tget 0 a t.regs = tget 0 a s.regs) ∧ t.eff = s.eff ∧ t.ht = s.ht) ∧
  (∀ (s : State) (d : Fin 4), Leads (.oxbCntClr d) s fun t => rd t (oxbB d) R.HUB_OXB_SUBST_CNT_COUNT = 0 ∧ rd t
    (oxbB d) R.HUB_OXB_FAIL_CNT_COUNT = 0 ∧ (∀ a, a ∉ [R.HUB_OXB_SUBST_CNT_COUNT.key (oxbB d) 0,
    R.HUB_OXB_FAIL_CNT_COUNT.key (oxbB d) 0] → tget 0 a t.regs = tget 0 a s.regs) ∧ t.eff = s.eff ∧ t.ht = s.ht) ∧
  (∀ (s : State), Leads (.cfgCntClr) s fun t => rd t (cfgB) R.CFG_WRITE_CNT_COUNT = 0 ∧ rd t (cfgB)
    R.CFG_COPY_FAIL_CNT_COUNT = 0 ∧ (∀ a, a ∉ [R.CFG_WRITE_CNT_COUNT.key (cfgB) 0, R.CFG_COPY_FAIL_CNT_COUNT.key
    (cfgB) 0] → tget 0 a t.regs = tget 0 a s.regs) ∧ t.eff = s.eff ∧ t.ht = s.ht) ∧
  (∀ (s : State), Leads (.mgtCntClr) s fun t => rd t (mgtB) R.MGT_MSG_CNT_COUNT = 0 ∧ rd t (mgtB)
    R.MGT_ERR_CNT_COUNT = 0 ∧ (∀ a, a ∉ [R.MGT_MSG_CNT_COUNT.key (mgtB) 0, R.MGT_ERR_CNT_COUNT.key (mgtB) 0] → tget
    0 a t.regs = tget 0 a s.regs) ∧ t.eff = s.eff ∧ t.ht = s.ht) ∧
  (∀ (s : State) (t' : Fin 257), (t'.val ≠ 0) → Leads (.sluiceTcntClr t') s fun t => rd t (tenB t')
    R.SLUICE_TCNT_COUNT = 0 ∧ rd t (tenB t') R.SLUICE_TAPT_FAULT_CNT_COUNT = 0 ∧ (∀ a, a ∉ [R.SLUICE_TCNT_COUNT.key
    (tenB t') 0, R.SLUICE_TAPT_FAULT_CNT_COUNT.key (tenB t') 0] → tget 0 a t.regs = tget 0 a s.regs) ∧ t.eff =
    s.eff ∧ t.ht = s.ht) ∧
  (∀ (s : State) (n : Fin 192), Leads (.ephyCntClr n) s fun t => rd t (ephyB n) R.EPHY_LB_ERR_COUNT = 0 ∧ rd t
    (ephyB n) R.EPHY_TRAIN_CNT_COUNT = 0 ∧ rd t (ephyB n) R.EPHY_TRAIN_FAIL_CNT_COUNT = 0 ∧ rd t (ephyB n)
    R.EPHY_NARROW_CNT_COUNT = 0 ∧ rd t (ephyB n) R.EPHY_WIDEN_CNT_COUNT = 0 ∧ rd t (ephyB n) R.EPHY_DOWN_CNT_COUNT
    = 0 ∧ (∀ l < 4, rd t (laneB n l) R.EPHY_LERR_CV = 0 ∧ rd t (laneB n l) R.EPHY_LERR_DISP = 0 ∧ rd t (laneB n l)
    R.EPHY_LLOSS_COUNT = 0) ∧ t.ports = s.ports ∧ t.eff = s.eff ∧ t.ht = s.ht) ∧
  (∀ (s : State) (d : Fin 4) (c : Fin 17), Leads (.loopClCntClr d c) s fun t => (∀ i < 4, rd t (coreB d (4 * c +
    i)) R.LOOP_CORE_CHK_CNT_COUNT = 0 ∧ rd t (coreB d (4 * c + i)) R.LOOP_CORE_LOAD_PEAK = 0) ∧ (c.val < 16 → ∀ i <
    32, rd t (slB (clusterSlot d c i)) R.LOOP_SLOT_LAT_MAX = 0 ∧ rd t (slB (clusterSlot d c i))
    R.LOOP_SLOT_INSN_MAX = 0 ∧ rd t (slB (clusterSlot d c i)) R.LOOP_SLOT_SKIP_CNT_COUNT = 0 ∧ rd t (slB
    (clusterSlot d c i)) R.LOOP_SLOT_MISS_CNT_COUNT = 0 ∧ rd t (slB (clusterSlot d c i))
    R.LOOP_SLOT_SAMPLE_CNT_COUNT = 0) ∧ t.slots = s.slots ∧ t.cores = s.cores ∧ t.ht = s.ht)

/-- PLANE, LINE, RESET and LAMP put one item at TC into the launch queue; SAMPLE, AT, ADVT, WAITT and WAITIX as stated (R278, R298, R299, R300, R301, R302, R303, R304, R305, R306, R370). -/
def Obligations.ItemsSamplesAndTime : Prop :=
  (∀ (s : State) (n : Fin 192) (w : Nat) (i : Nat), SeqAt s n w → opcode w = 0x18 → PassesAt s n (s.seq n).tc →
    kindAllows (rd s (chB n) R.CH_KIND_KIND) 0x18 = true → i = (if bits w 24 2 = 0 then bits w 0 11 else if bits w
    24 2 = 1 then (s.seq n).reg (iRA w) else (s.seq n).dx) → i < 2048 → dReserved (descrAt s n (seqBank s n) i) =
    false → dSlice (descrAt s n (seqBank s n) i) < sliceN s n → dStr (descrAt s n (seqBank s n) i) < headStrings s
    n → ((s.seq n).tc + 4 * dDur (descrAt s n (seqBank s n) i) < 2 ^ 63) → Leads (.vPlane n) s fun t => Emitted s t
    n (if bitOf w 23 = true then (s.seq n).tc + 4 * dDur (descrAt s n (seqBank s n) i) else (s.seq n).tc) (if bits
    w 24 2 = 2 then ((s.seq n).dx + 1) % 4096 else (s.seq n).dx) ∧ Queued s t n .plane (dSlice (descrAt s n
    (seqBank s n) i)) ∧ (t.weir n).q.getLast?.map (fun x => (x.str, x.dur)) = some (dStr (descrAt s n (seqBank s n)
    i), dDur (descrAt s n (seqBank s n) i))) ∧
  (∀ (s : State) (n : Fin 192) (w : Nat) (r : Nat), SeqAt s n w → opcode w = 0x19 → PassesAt s n (s.seq n).tc →
    kindAllows (rd s (chB n) R.CH_KIND_KIND) 0x19 = true → r = (if iReg24 w = true then (s.seq n).reg (iRA w) %
    4096 else bits w 0 12) → r < outH s n → Leads (.vLine n) s fun t => Emitted s t n (s.seq n).tc (s.seq n).dx ∧
    Queued s t n .line r) ∧
  (∀ (s : State) (n : Fin 192) (w : Nat) (m : Nat), SeqAt s n w → opcode w = 0x1A → PassesAt s n (s.seq n).tc →
    kindAllows (rd s (chB n) R.CH_KIND_KIND) 0x1A = true → m = (if iReg24 w = true then (s.seq n).reg (iRA w) %
    65536 else iImm w) → (m < 2 ^ outBlocks s n) → Leads (.vReset n) s fun t => Emitted s t n (s.seq n).tc (s.seq
    n).dx ∧ Queued s t n .reset m) ∧
  (∀ (s : State) (n : Fin 192) (w : Nat) (a : Nat), SeqAt s n w → opcode w = 0x1B → PassesAt s n (s.seq n).tc →
    iStr w < headStrings s n → a = (if iReg w = true then (s.seq n).reg (iRA w) % 65536 else iImm w) → Leads
    (.vLamp n) s fun t => Emitted s t n (s.seq n).tc (s.seq n).dx ∧ Queued s t n .lamp 0 ∧ (t.weir
    n).q.getLast?.map (fun x => (x.str, x.amp)) = some (iStr w, a)) ∧
  (∀ (s : State) (n : Fin 192) (w : Nat), SeqAt s n w → opcode w = 0x1C → iStr w < headStrings s n → Leads
    (.vSample n) s fun t => t.seq n =
    { (s.seq n).next with reqs := (s.seq n).reqs.filter (fun r => r.1 != iStr w) ++ [(iStr w, bits w 20 2, iImm w)] }
    ∧ t.regs = s.regs ∧ t.descr = s.descr) ∧
  (∀ (s : State) (n : Fin 192) (w : Nat), SeqAt s n w → opcode w = 0x1D → ((s.seq n).reg (iRA w + 1) < 2 ^ 31) →
    Leads (.vAt n) s fun t => t.seq n =
    { (s.seq n).next with tc := (s.seq n).reg (iRA w + 1) * 2 ^ 32 + (s.seq n).reg (iRA w) } ∧ t.regs = s.regs ∧
    t.descr = s.descr) ∧
  (∀ (s : State) (n : Fin 192) (w : Nat) (v : Nat), SeqAt s n w → opcode w = 0x1E → (v = (if iReg w = true then
    (s.seq n).reg (iRA w) % 2 ^ 32 else iImm w) * (if iUnit w = 0 then 1 else if iUnit w = 1 then 4 else 4000)) →
    ((s.seq n).tc + v < 2 ^ 63) → Leads (.vAdvt n) s fun t => t.seq n =
    { (s.seq n).next with tc := (s.seq n).tc + v } ∧ t.regs = s.regs ∧ t.descr = s.descr) ∧
  (∀ (s : State) (n : Fin 192) (w : Nat), SeqAt s n w → opcode w = 0x1F → (s.seq n).tc ≤ s.ht → Leads (.vWaitt n) s
    fun t => t.seq n = { s.seq n with run := .ready, pc := (s.seq n).pc + 1, insns := 0 } ∧ t.regs = s.regs ∧
    t.descr = s.descr) ∧
  (∀ (s : State) (n : Fin 192) (w : Nat), SeqAt s n w → opcode w = 0x1F → s.ht < (s.seq n).tc → Leads (.vWaitt n) s
    fun t => t.seq n = { s.seq n with run := .waitT } ∧ rdB t (chB n) R.SEQ_STATUS_WAITING = true ∧ t.descr =
    s.descr) ∧
  (∀ (s : State) (n : Fin 192), (s.seq n).run = .waitT → (s.seq n).tc ≤ s.ht → Leads (.waittResume n) s fun t =>
    t.seq n = { s.seq n with run := .ready, pc := (s.seq n).pc + 1, insns := 0 } ∧ rdB t (chB n)
    R.SEQ_STATUS_WAITING = false) ∧
  (∀ (s : State) (n : Fin 192) (w : Nat) (x : Nat), SeqAt s n w → opcode w = 0x20 → wheelLoop s n = true →
    nextIndex s n (bits w 16 4) (s.seq n).tc = some x → (x < 2 ^ 63) → Leads (.vWaitix n) s fun t => t.seq n =
    { s.seq n with run := .ready, pc := (s.seq n).pc + 1, insns := 0, tc := x, t := false } ∧ t.regs = s.regs ∧
    t.descr = s.descr) ∧
  (∀ (s : State) (n : Fin 192) (w : Nat), SeqAt s n w → opcode w = 0x20 → wheelLoop s n = true → prediction s n =
    none → Leads (.vWaitix n) s fun t => t.seq n =
    { s.seq n with run := .waitIx (bits w 16 4) (s.ht + max 1 (iImm w) * 4000) } ∧ rdB t (chB n)
    R.SEQ_STATUS_WAITING = true) ∧
  (∀ (s : State) (n : Fin 192) (g d x : Nat), (s.seq n).run = .waitIx g d → nextIndex s n g (s.seq n).tc = some x →
    (x < 2 ^ 63) → Leads (.waitixResume n) s fun t => t.seq n =
    { s.seq n with run := .ready, pc := (s.seq n).pc + 1, insns := 0, tc := x, t := false } ∧ rdB t (chB n)
    R.SEQ_STATUS_WAITING = false) ∧
  (∀ (s : State) (n : Fin 192) (g d : Nat), (s.seq n).run = .waitIx g d → prediction s n = none → d ≤ s.ht → Leads
    (.waitixTimeout n) s fun t => t.seq n =
    { s.seq n with run := .ready, pc := (s.seq n).pc + 1, insns := 0, t := true } ∧ rdB t (chB n)
    R.SEQ_STATUS_WAITING = false)

/-- SWAPF, FRAME, GAP and the privileged instructions emit at TC and have their effect; an undecided gap is dropped at its start (R307, R309, R310, R311, R312, R313, R338, R342, R351, R353, R370). -/
def Obligations.MarksGapsAndPrivilegedItems : Prop :=
  (∀ (s : State) (n : Fin 192) (w : Nat), SeqAt s n w → opcode w = 0x21 → PassesAt s n (s.seq n).tc → kindAllows
    (rd s (chB n) R.CH_KIND_KIND) 0x21 = true → (s.seq n).swaps = 0 → Leads (.vSwapf n) s fun t => Emitted s t n
    (s.seq n).tc (s.seq n).dx ∧ Queued s t n .swap 0 ∧ (t.seq n).swaps = 1) ∧
  (∀ (s : State) (n : Fin 192) (w : Nat), SeqAt s n w → opcode w = 0x22 → EmitsAt s n (s.seq n).tc → (s.seq
    n).lastT ≤ (s.seq n).tc → (∀ f ∈ (s.seq n).lastF, f < (s.seq n).tc) → (s.seq n).swap = none → rdB s (chB n)
    R.SEQ_WIDTH_SWITCH_PENDING = false → (s.chst n).preempt = none → Leads (.vFrame n) s fun t => Emitted s t n
    (s.seq n).tc (s.seq n).dx ∧ queueKeys t n = queueKeys s n ++ [(.mark, (s.seq n).tc, (s.chst n).nextFno, 0)] ∧
    (t.chst n).nextFno = (s.chst n).nextFno + 1 ∧ (t.seq n).lastF = some (s.seq n).tc ∧ (t.seq n).counted = 0 ∧ rd
    t (chB n) R.SEQ_FRAME_LO_HT = (s.seq n).tc % 2 ^ 32 ∧ rd t (chB n) R.SEQ_FRAME_CNT_COUNT = satU 32 (rd s (chB
    n) R.SEQ_FRAME_CNT_COUNT + 1) % 2 ^ 32) ∧
  (∀ (s : State) (n : Fin 192) (w : Nat), SeqAt s n w → opcode w = 0x23 → EmitsAt s n (s.seq n).tc → (s.seq
    n).lastT ≤ (s.seq n).tc → Leads (.vGap n) s fun t => Emitted s t n (s.seq n).tc (s.seq n).dx ∧ queueKeys t n =
    queueKeys s n ∧ (t.seq n).gaps.getLast?.map (fun g => (g.t, g.e, g.offered)) = some ((s.seq n).tc, (s.seq n).tc
    + iImm w * (if iUnit w = 0 then 1 else if iUnit w = 1 then 4 else 4000), false)) ∧
  (∀ (s : State) (n : Fin 192) (g : Gap), (s.seq n).gaps = [g] → g.offered = false → g.t ≤ s.ht → Leads
    (.gapStartUndecided n) s fun t => (t.seq n).gaps = [] ∧ rd t (chB n) R.SEQ_GAP_DROP_CNT_COUNT = satU 32 (rd s
    (chB n) R.SEQ_GAP_DROP_CNT_COUNT + 1) % 2 ^ 32) ∧
  (∀ (s : State) (n : Fin 192) (w : Nat), SeqAt s n w → opcode w = 0x28 → seqOwner s n = 0 → PassesAt s n (s.seq
    n).tc → iStr w < headStrings s n → Leads (.vCeil n) s fun t => Emitted s t n (s.seq n).tc (s.seq n).dx ∧ Queued
    s t n .priv 0 ∧ ((s.seq n).tc, iStr w, if iReg w = true then (s.seq n).reg (iRA w) % 65536 else iImm w) ∈
    (t.seq n).ceils) ∧
  (∀ (s : State) (n : Fin 192) (w : Nat), SeqAt s n w → opcode w = 0x29 → seqOwner s n = 0 → PassesAt s n (s.seq
    n).tc → Leads (.vDarkrel n) s fun t => Emitted s t n (s.seq n).tc (s.seq n).dx ∧ Queued s t n .priv 0 ∧ (t.lamp
    n).holdReqs = (s.lamp n).holdReqs ++ [(false, (s.seq n).tc)]) ∧
  (∀ (s : State) (n : Fin 192) (w : Nat), SeqAt s n w → seqOwner s n = 0 → PassesAt s n (s.seq n).tc → isLevee 0 w
    = true → isLive s n = true → Leads (.vLeveeCommit n) s fun t => Emitted s t n (s.seq n).tc (s.seq n).dx ∧
    Queued s t n .priv 0 ∧ ((t.chst n).commits = (s.chst n).commits ++
    [{ fn := 0, target := (s.seq n).tc, levee := true }] ∨ (t.chst n).commits = (s.chst n).commits)) ∧
  (∀ (s : State) (n : Fin 192) (w : Nat), SeqAt s n w → seqOwner s n = 0 → PassesAt s n (s.seq n).tc → isLevee 1 w
    = true → isLive s n = true → s.chState n ≠ .running → Leads (.vLeveePreempt n) s fun t => Emitted s t n (s.seq
    n).tc (s.seq n).dx ∧ Queued s t n .priv 0 ∧ ((t.chst n).commits = (s.chst n).commits ++
    [{ fn := 0, target := 0, cmd := none }] ∨ (t.chst n).commits = (s.chst n).commits)) ∧
  (∀ (s : State) (n : Fin 192) (w : Nat), SeqAt s n w → seqOwner s n = 0 → PassesAt s n (s.seq n).tc → isLevee 1 w
    = true → s.chState n = .running → (s.chst n).preempt = none → ((s.frmsOf n).find? (fun p => decide (s.ht + rd s
    (chB n) R.COMP_FLIP_PREEMPT_LEAD * us ≤ p.bnd)) = none) → Leads (.vLeveePreempt n) s fun t => Emitted s t n
    (s.seq n).tc (s.seq n).dx ∧ Queued s t n .priv 0 ∧ ((t.chst n).preempt = some (s.ht + rd s (chB n)
    R.COMP_FLIP_PREEMPT_LEAD * us, []) ∨ (t.chst n).preempt = none)) ∧
  (∀ (s : State) (n : Fin 192) (w : Nat), SeqAt s n w → seqOwner s n = 0 → PassesAt s n (s.seq n).tc → isLevee 2 w
    = true → isLive s n = true → Leads (.vLeveeDeactivate n) s fun t => Emitted s t n (s.seq n).tc (s.seq n).dx ∧
    Queued s t n .priv 0 ∧ ((t.chst n).commits = (s.chst n).commits ++
    [{ fn := 0, target := (s.seq n).tc, levee := true }] ∨ (t.chst n).commits = (s.chst n).commits) ∧ rd t (chB n)
    R.COMP_LEVEE_CTRL_ACTIVE = 0) ∧
  (∀ (s : State) (n : Fin 192) (w : Nat), SeqAt s n w → opcode w = 0x2B → seqOwner s n = 0 → PassesAt s n (s.seq
    n).tc → kindAllows (rd s (chB n) R.CH_KIND_KIND) 0x2B = true → bits w 0 4 < headWaves s n → Leads (.vWave n) s
    fun t => Emitted s t n (s.seq n).tc (s.seq n).dx ∧ Queued s t n .priv 0 ∧ (t.weir n).waves = (s.weir n).waves
    ++ [((s.seq n).tc, if bitOf w 4 = true then 16 else bits w 0 4)]) ∧
  (∀ (s : State) (n : Fin 192) (w : Nat), SeqAt s n w → opcode w = 0x2C → seqOwner s n = 0 → PassesAt s n (s.seq
    n).tc → bits w 16 4 = 3 → bits w 20 4 < rillLen s n → Leads (.vRill n) s fun t => Emitted s t n (s.seq n).tc
    (s.seq n).dx ∧ Queued s t n .priv 0 ∧ (t.lamp n).holdReqs = (s.lamp n).holdReqs ++ [(true, (s.seq n).tc)]) ∧
  (∀ (s : State) (n : Fin 192) (w : Nat), SeqAt s n w → opcode w = 0x2C → seqOwner s n = 0 → PassesAt s n (s.seq
    n).tc → rillAllowed (bits w 16 4) = true → bits w 16 4 ≠ 3 → bits w 20 4 < rillLen s n → Leads (.vRill n) s fun
    t => Emitted s t n (s.seq n).tc (s.seq n).dx ∧ Queued s t n .priv 0 ∧ (t.drv n (bits w 20 4)).cmds.getLast? =
    some { cmd := bits w 16 4, tag := bits w 0 8, prog := true, tc := (s.seq n).tc })

/-- A waiting emission passes when its window opens or the queue has room; the watchdog faults; a bank swap is requested (R278, R327, R328, R329, R331, R332, R371). -/
def Obligations.SequencerWaitsWatchdogAndSwap : Prop :=
  (∀ (s : State) (n : Fin 192) (e : Emit), (s.seq n).run = .window → (s.seq n).held = some e → e.gap = none →
    e.item.kind = .reset → (s.seq n).stopReq = none → (s.seq n).stopT = none → e.item.t ≤ s.ht + window s n →
    queueFull s n = false → (s.pipeCh n).skip = 0 → expiredAt s n e.item = false → (slotLimit s n).isNone = true →
    Leads (.emitWindowOpen n) s fun t => (t.seq n).run = .ready ∧ (t.seq n).held = none ∧ (t.seq n).pc = e.pc ∧
    (t.seq n).tc = e.tc ∧ (t.seq n).lastT = e.item.t ∧ queueKeys t n = queueKeys s n ++ [(.reset, e.item.t, (s.chst
    n).nextFno - 1, e.item.idx)] ∧ rdB t (chB n) R.SEQ_STATUS_WAITING = false) ∧
  (∀ (s : State) (n : Fin 192) (e : Emit), (s.seq n).run = .full → (s.seq n).held = some e → e.gap = none →
    e.item.kind = .reset → (s.seq n).stopReq = none → (s.seq n).stopT = none → e.item.t ≤ s.ht + window s n →
    queueFull s n = false → (s.pipeCh n).skip = 0 → expiredAt s n e.item = false → (slotLimit s n).isNone = true →
    Leads (.seqQueueResume n) s fun t => (t.seq n).run = .ready ∧ (t.seq n).held = none ∧ (t.seq n).pc = e.pc ∧
    (t.seq n).tc = e.tc ∧ (t.seq n).lastT = e.item.t ∧ queueKeys t n = queueKeys s n ++ [(.reset, e.item.t, (s.chst
    n).nextFno - 1, e.item.idx)] ∧ rdB t (chB n) R.SEQ_STATUS_WAITING = false) ∧
  (∀ (s : State) (n : Fin 192), (s.seq n).run = .ready → watchdog s n ≤ (s.seq n).insns → (s.seq n).pc < bankCount
    s n (seqBank s n) → (opcode (progAt s n (seqBank s n) (s.seq n).pc) ∈ [0x00, 0x01, 0x02, 0x03, 0x04, 0x05,
    0x06, 0x07, 0x08, 0x09, 0x0A, 0x0B, 0x0C, 0x0D, 0x0E, 0x12]) → Leads (.seqWatchdog n) s fun t => (t.seq n).run
    = .stopped ∧ rd t (chB n) R.SEQ_STATUS_FAULT = 9 ∧ rd t (chB n) R.SEQ_FAULT_CNT_COUNT = satU 32 (rd s (chB n)
    R.SEQ_FAULT_CNT_COUNT + 1) % 2 ^ 32) ∧
  (∀ (s : State) (n : Fin 192), (s.seq n).run = .ready → watchdog s n ≤ (s.seq n).insns → (s.seq n).pc < bankCount
    s n (seqBank s n) → opcode (progAt s n (seqBank s n) (s.seq n).pc) = 0x0F → (s.seq n).stack = [] → Leads
    (.seqWatchdog n) s fun t => (t.seq n).run = .stopped ∧ rd t (chB n) R.SEQ_STATUS_FAULT = 3 ∧ rd t (chB n)
    R.SEQ_FAULT_CNT_COUNT = satU 32 (rd s (chB n) R.SEQ_FAULT_CNT_COUNT + 1) % 2 ^ 32) ∧
  (∀ (s : State) (n : Fin 192), (s.seq n).run = .ready → watchdog s n ≤ (s.seq n).insns → bankCount s n (seqBank s
    n) ≤ (s.seq n).pc → Leads (.seqWatchdog n) s fun t => (t.seq n).run = .stopped ∧ rd t (chB n)
    R.SEQ_STATUS_FAULT = 1 ∧ rd t (chB n) R.SEQ_FAULT_CNT_COUNT = satU 32 (rd s (chB n) R.SEQ_FAULT_CNT_COUNT + 1)
    % 2 ^ 32) ∧
  (∀ (s : State) (n : Fin 192), (verified s n (1 - seqBank s n) = false) → Leads (.seqSwapRequest n) s fun t => rdB
    t (chB n) R.SEQ_STATUS_SWAP_REJECTED = true ∧ t.seq n = s.seq n ∧ seqBank t n = seqBank s n) ∧
  (∀ (s : State) (n : Fin 192), (verified s n (1 - seqBank s n) = true) → (s.seq n).swap.isSome = true → Leads
    (.seqSwapRequest n) s fun t => rdB t (chB n) R.SEQ_STATUS_SWAP_REJECTED = true ∧ t.seq n = s.seq n ∧ seqBank t
    n = seqBank s n) ∧
  (∀ (s : State) (n : Fin 192), (verified s n (1 - seqBank s n) = true) → (s.seq n).swap = none → isLive s n =
    false → Leads (.seqSwapRequest n) s fun t => seqBank t n = 1 - seqBank s n ∧ (t.seq n).swap = none ∧ rdB t (chB
    n) R.SEQ_STATUS_SWAP_PENDING = false) ∧
  (∀ (s : State) (n : Fin 192), (verified s n (1 - seqBank s n) = true) → (s.seq n).swap = none → isLive s n = true
    → (s.seq n).run ≠ .halted → Leads (.seqSwapRequest n) s fun t => seqBank t n = seqBank s n ∧ (t.seq n).swap =
    some { target := rdPair s (chB n) R.SEQ_SWAP_T_LO_T R.SEQ_SWAP_T_HI_T, cmd := none } ∧ rdB t (chB n)
    R.SEQ_STATUS_SWAP_PENDING = true)

/-- Loop profile: what FADD to FLUT, IN, OUT, WAITS, CHK and TRC leave where they meet no fault (R280, R314, R315, R316, R317, R318, R319, R320, R321, R471). -/
def Obligations.LoopFloatingPointAndIoInstructions : Prop :=
  (∀ (s : State) (k : Fin 2048) (w : Nat) (r : Nat), LoopAt s k w → opcode w = 0x30 → fAdd ((s.core (coreOf k)).f
    (iRA w)) ((s.core (coreOf k)).f (iFB w)) = some r → Leads (.vFadd k) s fun t => t.core (coreOf k) = (s.core
    (coreOf k)).setF (iRD w) (r) ∧ t.slot k =
    { s.slot k with pc := (s.slot k).pc + 1, insns := (s.slot k).insns + 1 } ∧ t.regs = s.regs ∧ t.ldata = s.ldata) ∧
  (∀ (s : State) (k : Fin 2048) (w : Nat) (r : Nat), LoopAt s k w → opcode w = 0x31 → fSub ((s.core (coreOf k)).f
    (iRA w)) ((s.core (coreOf k)).f (iFB w)) = some r → Leads (.vFsub k) s fun t => t.core (coreOf k) = (s.core
    (coreOf k)).setF (iRD w) (r) ∧ t.slot k =
    { s.slot k with pc := (s.slot k).pc + 1, insns := (s.slot k).insns + 1 } ∧ t.regs = s.regs ∧ t.ldata = s.ldata) ∧
  (∀ (s : State) (k : Fin 2048) (w : Nat) (r : Nat), LoopAt s k w → opcode w = 0x32 → fMul ((s.core (coreOf k)).f
    (iRA w)) ((s.core (coreOf k)).f (iFB w)) = some r → Leads (.vFmul k) s fun t => t.core (coreOf k) = (s.core
    (coreOf k)).setF (iRD w) (r) ∧ t.slot k =
    { s.slot k with pc := (s.slot k).pc + 1, insns := (s.slot k).insns + 1 } ∧ t.regs = s.regs ∧ t.ldata = s.ldata) ∧
  (∀ (s : State) (k : Fin 2048) (w : Nat) (r : Nat), LoopAt s k w → opcode w = 0x33 → fFma ((s.core (coreOf k)).f
    (iRA w)) ((s.core (coreOf k)).f (iFB w)) ((s.core (coreOf k)).f (iFC w)) = some r → Leads (.vFma k) s fun t =>
    t.core (coreOf k) = (s.core (coreOf k)).setF (iRD w) (r) ∧ t.slot k =
    { s.slot k with pc := (s.slot k).pc + 1, insns := (s.slot k).insns + 1 } ∧ t.regs = s.regs ∧ t.ldata = s.ldata) ∧
  (∀ (s : State) (k : Fin 2048) (w : Nat), LoopAt s k w → opcode w = 0x34 → fNaN ((s.core (coreOf k)).f (iRA w)) =
    false → fNaN ((s.core (coreOf k)).f (iFB w)) = false → Leads (.vFmin k) s fun t => t.core (coreOf k) = (s.core
    (coreOf k)).setF (iRD w) (fMin ((s.core (coreOf k)).f (iRA w)) ((s.core (coreOf k)).f (iFB w))) ∧ t.slot k =
    { s.slot k with pc := (s.slot k).pc + 1, insns := (s.slot k).insns + 1 } ∧ t.regs = s.regs ∧ t.ldata = s.ldata) ∧
  (∀ (s : State) (k : Fin 2048) (w : Nat), LoopAt s k w → opcode w = 0x35 → fNaN ((s.core (coreOf k)).f (iRA w)) =
    false → fNaN ((s.core (coreOf k)).f (iFB w)) = false → Leads (.vFmax k) s fun t => t.core (coreOf k) = (s.core
    (coreOf k)).setF (iRD w) (fMax ((s.core (coreOf k)).f (iRA w)) ((s.core (coreOf k)).f (iFB w))) ∧ t.slot k =
    { s.slot k with pc := (s.slot k).pc + 1, insns := (s.slot k).insns + 1 } ∧ t.regs = s.regs ∧ t.ldata = s.ldata) ∧
  (∀ (s : State) (k : Fin 2048) (w : Nat), LoopAt s k w → opcode w = 0x36 → fNaN ((s.core (coreOf k)).f (iRA w)) =
    false → fNaN ((s.core (coreOf k)).f (iFB w)) = false → fNaN ((s.core (coreOf k)).f (iFC w)) = false → fLt
    ((s.core (coreOf k)).f (iFC w)) ((s.core (coreOf k)).f (iFB w)) = false → Leads (.vFclp k) s fun t => t.core
    (coreOf k) = (s.core (coreOf k)).setF (iRD w) (fMin (fMax ((s.core (coreOf k)).f (iRA w)) ((s.core (coreOf
    k)).f (iFB w))) ((s.core (coreOf k)).f (iFC w))) ∧ t.slot k =
    { s.slot k with pc := (s.slot k).pc + 1, insns := (s.slot k).insns + 1 } ∧ t.regs = s.regs ∧ t.ldata = s.ldata) ∧
  (∀ (s : State) (k : Fin 2048) (w : Nat), LoopAt s k w → opcode w = 0x37 → fNaN ((s.core (coreOf k)).f (iRA w)) =
    false → ((s.core (coreOf k)).f (iRA w) < 2 ^ 32) → Leads (.vFabs k) s fun t => t.core (coreOf k) = (s.core
    (coreOf k)).setF (iRD w) (if fExp ((s.core (coreOf k)).f (iRA w)) = 0 then 0 else ((s.core (coreOf k)).f (iRA
    w)) % 2 ^ 31) ∧ t.slot k = { s.slot k with pc := (s.slot k).pc + 1, insns := (s.slot k).insns + 1 } ∧ t.regs =
    s.regs ∧ t.ldata = s.ldata) ∧
  (∀ (s : State) (k : Fin 2048) (w : Nat), LoopAt s k w → opcode w = 0x38 → fNaN ((s.core (coreOf k)).f (iRA w)) =
    false → ((s.core (coreOf k)).f (iRA w) < 2 ^ 32) → Leads (.vFneg k) s fun t => t.core (coreOf k) = (s.core
    (coreOf k)).setF (iRD w) (if fExp ((s.core (coreOf k)).f (iRA w)) = 0 then (if fSign ((s.core (coreOf k)).f
    (iRA w)) = true then 0 else 2 ^ 31) else (((s.core (coreOf k)).f (iRA w)) + 2 ^ 31) % 2 ^ 32) ∧ t.slot k =
    { s.slot k with pc := (s.slot k).pc + 1, insns := (s.slot k).insns + 1 } ∧ t.regs = s.regs ∧ t.ldata = s.ldata) ∧
  (∀ (s : State) (k : Fin 2048) (w : Nat), LoopAt s k w → opcode w = 0x39 → bits w 13 3 = 0 → Leads (.vFcvt k) s
    fun t => t.core (coreOf k) = (s.core (coreOf k)).setF (iRD w) (fOfInt (sext 32 ((s.core (coreOf k)).i (iRA
    w)))) ∧ t.slot k = { s.slot k with pc := (s.slot k).pc + 1, insns := (s.slot k).insns + 1 } ∧ t.regs = s.regs ∧
    t.ldata = s.ldata) ∧
  (∀ (s : State) (k : Fin 2048) (w : Nat), LoopAt s k w → opcode w = 0x39 → bits w 13 3 = 1 → Leads (.vFcvt k) s
    fun t => t.core (coreOf k) = (s.core (coreOf k)).setF (iRD w) (fOfInt ((s.core (coreOf k)).i (iRA w))) ∧ t.slot
    k = { s.slot k with pc := (s.slot k).pc + 1, insns := (s.slot k).insns + 1 } ∧ t.regs = s.regs ∧ t.ldata =
    s.ldata) ∧
  (∀ (s : State) (k : Fin 2048) (w : Nat), LoopAt s k w → opcode w = 0x39 → (bits w 13 3 = 2 ∨ bits w 13 3 = 3) →
    fNaN ((s.core (coreOf k)).f (iRA w)) = false → Leads (.vFcvt k) s fun t => t.core (coreOf k) = (s.core (coreOf
    k)).setI (iRD w) (toTwos 32 (if fInf ((s.core (coreOf k)).f (iRA w)) = true then (if fSign ((s.core (coreOf
    k)).f (iRA w)) = true then -(2 ^ 31) else 2 ^ 31 - 1) else max (-(2 ^ 31)) (min (2 ^ 31 - 1) (fToInt ((s.core
    (coreOf k)).f (iRA w)) (bits w 13 3 = 2))))) ∧ t.slot k =
    { s.slot k with pc := (s.slot k).pc + 1, insns := (s.slot k).insns + 1 } ∧ t.regs = s.regs ∧ t.ldata = s.ldata) ∧
  (∀ (s : State) (k : Fin 2048) (w : Nat), LoopAt s k w → opcode w = 0x39 → bits w 13 3 = 4 → fNaN ((s.core (coreOf
    k)).f (iRA w)) = false → Leads (.vFcvt k) s fun t => t.core (coreOf k) = (s.core (coreOf k)).setI (iRD w)
    (toTwos 32 (if fInf ((s.core (coreOf k)).f (iRA w)) = true then (if fSign ((s.core (coreOf k)).f (iRA w)) =
    true then 0 else 2 ^ 32 - 1) else max 0 (min (2 ^ 32 - 1) (fToInt ((s.core (coreOf k)).f (iRA w)) true)))) ∧
    t.slot k = { s.slot k with pc := (s.slot k).pc + 1, insns := (s.slot k).insns + 1 } ∧ t.regs = s.regs ∧ t.ldata
    = s.ldata) ∧
  (∀ (s : State) (k : Fin 2048) (w : Nat) (n d u v i f e p r : Nat), LoopAt s k w → opcode w = 0x3A → bits w 0 9 +
    n + 2 < winSize s k → n = winWord s k (bits w 0 9 + 2) → 2 ≤ n → n ≤ 64 → fSub ((s.core (coreOf k)).f (iRA w))
    (winWord s k (bits w 0 9)) = some d → fMul d (winWord s k (bits w 0 9 + 1)) = some u → (v = fMin (fMax u 0)
    (fOfInt ((n - 1 : Nat) : Int))) → (i = min (fToInt v false).toNat (n - 2)) → fSub v (fOfInt i) = some f → fSub
    (winWord s k (bits w 0 9 + 4 + i)) (winWord s k (bits w 0 9 + 3 + i)) = some e → fMul f e = some p → fAdd
    (winWord s k (bits w 0 9 + 3 + i)) p = some r → Leads (.vFlut k) s fun t => t.core (coreOf k) = (s.core (coreOf
    k)).setF (iRD w) (r) ∧ t.slot k = { s.slot k with pc := (s.slot k).pc + 1, insns := (s.slot k).insns + 1 } ∧
    t.regs = s.regs ∧ t.ldata = s.ldata) ∧
  (∀ (s : State) (k : Fin 2048) (w : Nat), LoopAt s k w → opcode w = 0x3B → Leads (.vIn k) s fun t => t.core
    (coreOf k) = (s.core (coreOf k)).setF (iRD w) (tget 0 (bits w 0 4) (s.slot k).latched) ∧ t.slot k =
    { s.slot k with pc := (s.slot k).pc + 1, insns := (s.slot k).insns + 1 } ∧ t.regs = s.regs ∧ t.ldata = s.ldata) ∧
  (∀ (s : State) (k : Fin 2048) (w : Nat), LoopAt s k w → opcode w = 0x3C → fNaN ((s.core (coreOf k)).f (iRA w)) =
    false → outDst s k (bits w 0 4) = 0 → Leads (.vOut k) s fun t => t.core (coreOf k) = (s.core (coreOf k)) ∧
    t.slot k = { s.slot k with pc := (s.slot k).pc + 1, insns := (s.slot k).insns + 1 } ∧ t.regs = s.regs ∧ t.ldata
    = s.ldata) ∧
  (∀ (s : State) (k : Fin 2048) (w : Nat), LoopAt s k w → opcode w = 0x3C → fNaN ((s.core (coreOf k)).f (iRA w)) =
    false → outDst s k (bits w 0 4) = 1 → Leads (.vOut k) s fun t => rd t (strB (slotChannel s k) (outArg s k (bits
    w 0 4) % 8)) R.LAMP_SGAIN_TRIM = (convert 1 ((s.core (coreOf k)).f (iRA w))).toNat % 2 ^ R.LAMP_SGAIN_TRIM.w ∧
    (t.slot k).pc = (s.slot k).pc + 1 ∧ t.core (coreOf k) = (s.core (coreOf k))) ∧
  (∀ (s : State) (k : Fin 2048) (w : Nat), LoopAt s k w → opcode w = 0x3C → fNaN ((s.core (coreOf k)).f (iRA w)) =
    false → outDst s k (bits w 0 4) = 2 → Leads (.vOut k) s fun t => rd t (strB (slotChannel s k) (outArg s k (bits
    w 0 4) % 8)) R.LAMP_SGAIN_GAIN = (convert 2 ((s.core (coreOf k)).f (iRA w))).toNat % 2 ^ R.LAMP_SGAIN_GAIN.w ∧
    (t.slot k).pc = (s.slot k).pc + 1 ∧ t.core (coreOf k) = (s.core (coreOf k))) ∧
  (∀ (s : State) (k : Fin 2048) (w : Nat), LoopAt s k w → opcode w = 0x3D → (s.slot k).stack = [] → (s.core (coreOf
    k)).migReq = false → Leads (.vWaits k) s fun t => (t.slot k).phase = .waiting ∧ (t.slot k).resume = (s.slot
    k).pc + 1 ∧ (t.slot k).first = false ∧ (t.slot k).computed = true ∧ (t.slot k).lastTick = some (s.slot k).cTick
    ∧ rd t (slB k) R.LOOP_SLOT_STATUS_SKIP_RUN = 0 ∧ rd t (slB k) R.LOOP_SLOT_SAMPLE_CNT_COUNT = satU 32 (rd s (slB
    k) R.LOOP_SLOT_SAMPLE_CNT_COUNT + 1) % 2 ^ 32 ∧ t.slotState k = .running) ∧
  (∀ (s : State) (k : Fin 2048) (w : Nat) (d : Nat), LoopAt s k w → opcode w = 0x3E → fSub ((s.core (coreOf k)).f
    (iRA w)) ((s.core (coreOf k)).f (iFB w)) = some d → fNaN ((s.core (coreOf k)).f (iFC w)) = false → fLe (fAbs d)
    ((s.core (coreOf k)).f (iFC w)) = true → Leads (.vChk k) s fun t => t.core (coreOf k) = (s.core (coreOf k)) ∧
    t.slot k = { s.slot k with pc := (s.slot k).pc + 1, insns := (s.slot k).insns + 1 } ∧ t.regs = s.regs ∧ t.ldata
    = s.ldata) ∧
  (∀ (s : State) (k : Fin 2048) (w : Nat), LoopAt s k w → opcode w = 0x3F → fNaN ((s.core (coreOf k)).f (iRA w)) =
    false → Leads (.vTrc k) s fun t => t.slot k =
    { s.slot k with pc := (s.slot k).pc + 1, insns := (s.slot k).insns + 1, traces := nodeIns (bits w 0 4, (s.core (coreOf k)).f (iRA w)) (s.slot k).traces }
    ∧ t.core (coreOf k) = (s.core (coreOf k)) ∧ t.regs = s.regs ∧ t.ldata = s.ldata)

/-- A slot starts, stops, is held, ramps, is safe, resumes and is freed as R455 gives, and a command of the wrong state is rejected (R455, R456, R459, R460, R469, R473, R474, R475, R476, R477). -/
def Obligations.LoopSlotStates : Prop :=
  (∀ (s : State) (k : Fin 2048), s.slotState k = .stopped → startReject s k = 0 → Leads (.slotStart k) s fun t =>
    t.slotState k = .running ∧ (t.slot k).per = (startPeriod s k).1 ∧ (t.slot k).phi = (startPeriod s k).2 ∧
    (t.slot k).first = true ∧ rd t (slB k) R.LOOP_SLOT_STATUS_HOLD_CAUSE = 0 ∧ rd t (slB k)
    R.LOOP_SLOT_STATUS_SKIP_RUN = 0) ∧
  (∀ (s : State) (k : Fin 2048), s.slotState k = .stopped → startReject s k ≠ 0 → Leads (.slotStart k) s fun t =>
    t.slotState k = .stopped ∧ rd t (slB k) R.LOOP_SLOT_STATUS_START_REJECT = startReject s k % 2 ^
    R.LOOP_SLOT_STATUS_START_REJECT.w ∧ t.slots = s.slots) ∧
  (∀ (s : State) (k : Fin 2048), slotActive s k = true → Leads (.slotStart k) s fun t => rdB t (slB k)
    R.LOOP_SLOT_STATUS_WRITE_REJECTED = true ∧ t.slotState k = s.slotState k ∧ t.slots = s.slots) ∧
  (∀ (s : State) (k : Fin 2048), slotActive s k = true → Leads (.slotStop k) s fun t => t.slotState k = .stopped ∧
    (t.slot k).phase = .waiting ∧ (t.slot k).open_ = false) ∧
  (∀ (s : State) (k : Fin 2048), slotActive s k = false → Leads (.slotStop k) s fun t => rdB t (slB k)
    R.LOOP_SLOT_STATUS_WRITE_REJECTED = true ∧ t.slotState k = s.slotState k ∧ t.slots = s.slots) ∧
  (∀ (s : State) (k : Fin 2048), (s.slotState k = .holding ∨ s.slotState k = .ramping ∨ s.slotState k = .safe) →
    causeAbsent s k = true → Leads (.slotResume k false) s fun t => t.slotState k = .running ∧ rd t (slB k)
    R.LOOP_SLOT_STATUS_HOLD_CAUSE = 0 ∧ rd t (slB k) R.LOOP_SLOT_STATUS_FAULT = 0 ∧ (t.slot k).first = true ∧
    t.ldata = s.ldata) ∧
  (∀ (s : State) (k : Fin 2048), (s.slotState k = .holding ∨ s.slotState k = .ramping ∨ s.slotState k = .safe) →
    causeAbsent s k = true → Leads (.slotResume k true) s fun t => t.slotState k = .running ∧ (∀ i < winSize s k,
    winWord t k i = (s.slot k).init.getD i 0 % 2 ^ 32)) ∧
  (∀ (s : State) (k : Fin 2048) (b : Bool), (s.slotState k = .running ∨ s.slotState k = .stopped ∨ causeAbsent s k
    = false) → Leads (.slotResume k b) s fun t => rdB t (slB k) R.LOOP_SLOT_STATUS_WRITE_REJECTED = true ∧
    t.slotState k = s.slotState k ∧ t.slots = s.slots) ∧
  (∀ (s : State) (k : Fin 2048), s.slotState k = .running → Leads (.slotSafe k) s fun t => t.slotState k = .holding
    ∧ rd t (slB k) R.LOOP_SLOT_STATUS_HOLD_CAUSE = 2 ∧ (t.slot k).phase = .waiting ∧ (t.slot k).holdAt = s.ht) ∧
  (∀ (s : State) (k : Fin 2048), s.slotState k ≠ .running → Leads (.slotSafe k) s fun t => rdB t (slB k)
    R.LOOP_SLOT_STATUS_WRITE_REJECTED = true ∧ t.slotState k = s.slotState k ∧ t.slots = s.slots) ∧
  (∀ (s : State) (k : Fin 2048), s.slotState k = .stopped → Leads (.slotFree k) s fun t => t.slotState k = .idle ∧
    rd t (slB k) R.LOOP_SLOT_IMG_COUNT = 0 ∧ rd t (slB k) R.LOOP_SLOT_WIN_DSIZE = 0 ∧ t.slot k = {}) ∧
  (∀ (s : State) (k : Fin 2048), s.slotState k ≠ .stopped → Leads (.slotFree k) s fun t => rdB t (slB k)
    R.LOOP_SLOT_STATUS_WRITE_REJECTED = true ∧ t.slotState k = s.slotState k ∧ t.slots = s.slots) ∧
  (∀ (s : State) (k : Fin 2048), s.slotState k = .holding → (s.slot k).holdAt + rd s (slB k) R.LOOP_SLOT_HOLD_HOLD
    * 4000000 ≤ s.ht → Leads (.slotHoldExpired k) s fun t => t.slotState k = .ramping ∧ (t.slot k).holdAt = s.ht) ∧
  (∀ (s : State) (k : Fin 2048), s.slotState k = .ramping → (s.slot k).holdAt + rd s (slB k) R.LOOP_SLOT_HOLD_RAMP
    * 4000000 ≤ s.ht → Leads (.slotRampExpired k) s fun t => t.slotState k = .safe ∧ rd t (slB k)
    R.LOOP_SLOT_STATUS_HOLD_CAUSE = rd s (slB k) R.LOOP_SLOT_STATUS_HOLD_CAUSE) ∧
  (∀ (s : State) (k : Fin 2048), s.slotState k = .running → max 1 (rd s (slB k) R.LOOP_SLOT_CFG_OVR_N) ≤ rd s (slB
    k) R.LOOP_SLOT_STATUS_SKIP_RUN → Leads (.loopOverrunLimit k) s fun t => t.slotState k = .holding ∧ rd t (slB k)
    R.LOOP_SLOT_STATUS_HOLD_CAUSE = 1 ∧ rd t (slB k) R.LOOP_SLOT_STATUS_FAULT = 9)

/-- Sample ticks and records of a loop slot, its bindings and set-points, its core's reset, migration and check, and the eddy buffers (R464, R465, R467, R478, R486, R487, R488, R489, R490, R493, R495, R845). -/
def Obligations.LoopSamplesCoresAndEddies : Prop :=
  (∀ (s : State) (k : Fin 2048) (x : Nat), s.slotState k = .running → tickAt (s.slot k).per (s.slot k).phi s.ht =
    some x → (s.slot k).tick ≠ some x → Leads (.loopSampleTick k) s fun t => (t.slot k).tick = some x ∧ (t.slot
    k).open_ = true ∧ t.slotState k = .running) ∧
  (∀ (s : State) (k : Fin 2048), s.slotState k = .running → recordComplete s k = true → noLink s k = false →
    (s.slot k).phase = .waiting → (s.core (coreOf k)).migTo = none → (servedBy s (coreOf k)).isSome = true →
    (s.core (coreOf k)).cur = none → Leads (.loopRecordComplete k) s fun t => (t.slot k).phase = .computing ∧
    (t.slot k).open_ = false ∧ (t.slot k).cTick = (s.slot k).tick.getD 0 ∧ (t.slot k).insns = 0 ∧ (t.slot k).stack
    = [] ∧ (t.core (coreOf k)).cur = some k.val ∧ (t.core (coreOf k)).I = [] ∧ (t.core (coreOf k)).F = []) ∧
  (∀ (s : State) (k : Fin 2048), s.slotState k = .running → recordComplete s k = true → noLink s k = false →
    (s.slot k).phase ≠ .waiting → Leads (.loopRecordComplete k) s fun t => (t.slot k).phase = (s.slot k).phase ∧
    (t.slot k).open_ = false ∧ rd t (slB k) R.LOOP_SLOT_SKIP_CNT_COUNT = satU 32 (rd s (slB k)
    R.LOOP_SLOT_SKIP_CNT_COUNT + 1) % 2 ^ 32) ∧
  (∀ (s : State) (d : Fin 4) (c : Fin 17) (v : Nat), c.val < 16 → rd s (clB d c) R.LOOP_BIND_IDX_WORD ≤ 47 →
    slotActive s (clusterSlot d c (rd s (clB d c) R.LOOP_BIND_IDX_SLOT)) = false → Leads (.loopBindDataAccess d c
    (some v)) s fun t => bindWord t (clusterSlot d c (rd s (clB d c) R.LOOP_BIND_IDX_SLOT)) (rd s (clB d c)
    R.LOOP_BIND_IDX_WORD) = v % 2 ^ 32 ∧ rd t (clB d c) R.LOOP_BIND_IDX_WORD = rd s (clB d c) R.LOOP_BIND_IDX_WORD
    + 1) ∧
  (∀ (s : State) (d : Fin 4) (c : Fin 17), c.val < 16 → rd s (clB d c) R.LOOP_BIND_IDX_WORD ≤ 47 → Leads
    (.loopBindDataAccess d c none) s fun t => .readData 0 (leBytes 4 (bindWord s (clusterSlot d c (rd s (clB d c)
    R.LOOP_BIND_IDX_SLOT)) (rd s (clB d c) R.LOOP_BIND_IDX_WORD))) ∈ t.out ∧ t.binds = s.binds ∧ rd t (clB d c)
    R.LOOP_BIND_IDX_WORD = rd s (clB d c) R.LOOP_BIND_IDX_WORD + 1) ∧
  (∀ (s : State) (d : Fin 4) (c : Fin 17) (v : Nat), c.val < 16 → s.slotState (clusterSlot d c (rd s (clB d c)
    R.LOOP_SP_IDX_SLOT)) = .idle → Leads (.loopSpDataWrite d c v) s fun t => tget 0 (4 * (clusterSlot d c (rd s
    (clB d c) R.LOOP_SP_IDX_SLOT)) + rd s (clB d c) R.LOOP_SP_IDX_N) t.sps = v % 2 ^ 32 ∧ t.slots = s.slots ∧
    t.regs = s.regs) ∧
  (∀ (s : State) (d : Fin 4) (c : Fin 17) (v : Nat), c.val < 16 → s.slotState (clusterSlot d c (rd s (clB d c)
    R.LOOP_SP_IDX_SLOT)) ≠ .idle → Leads (.loopSpDataWrite d c v) s fun t => (t.slot (clusterSlot d c (rd s (clB d
    c) R.LOOP_SP_IDX_SLOT))).spWrites = (s.slot (clusterSlot d c (rd s (clB d c) R.LOOP_SP_IDX_SLOT))).spWrites ++
    [{ n := rd s (clB d c) R.LOOP_SP_IDX_N, v := v % 2 ^ 32 }] ∧ t.sps = s.sps ∧ t.regs = s.regs) ∧
  (∀ (s : State) (d : Fin 4) (c : Fin 64), Leads (.loopCoreReset d c) s fun t => (t.core (64 * d + c : Nat)).I = []
    ∧ (t.core (64 * d + c : Nat)).F = [] ∧ (t.core (64 * d + c : Nat)).cur = none ∧ ∀ i < 8, s.slotState (8 * (64 *
    d + c : Nat) + i) = .running → t.slotState (8 * (64 * d + c : Nat) + i) = .holding ∧ rd t (slB (8 * (64 * d + c
    : Nat) + i)) R.LOOP_SLOT_STATUS_HOLD_CAUSE = 3) ∧
  (∀ (s : State) (d : Fin 4) (c : Fin 64) (p : Nat), freeSpare s d = some p → ((s.core (64 * d + c : Nat)).migTo =
    none) → ((s.core (64 * d + c : Nat)).migReq = false) → ((servedBy s (64 * d + c : Nat)).isSome = true) →
    ((s.core (64 * d + c : Nat)).cur = none) → Leads (.loopCoreMigrate d c) s fun t => (t.core (64 * d + c :
    Nat)).migTo = some (p, true) ∧ rdB t (crB (64 * d + c : Nat)) R.LOOP_CORE_STAT_MIGRATING = true) ∧
  (∀ (s : State) (d : Fin 4) (c : Fin 64), (freeSpare s d).isSome = true → ((s.core (64 * d + c : Nat)).migTo =
    none) → ((s.core (64 * d + c : Nat)).migReq = false) → ((servedBy s (64 * d + c : Nat)).isSome = true) →
    ((s.core (64 * d + c : Nat)).cur ≠ none) → Leads (.loopCoreMigrate d c) s fun t => (t.core (64 * d + c :
    Nat)).migReq = true ∧ (t.core (64 * d + c : Nat)).cur = (s.core (64 * d + c : Nat)).cur) ∧
  (∀ (s : State) (d : Fin 4) (p : Fin 68) (r : Fin 3) (b : Bool), isRetired s d p = false → Leads
    (.coreCheckFailure d p r b) s fun t => isRetired t d p = true ∧ ∀ q < 68, isRetired s d q = true → isRetired t
    d q = true) ∧
  (∀ (s : State) (d : Fin 4) (c : Fin 64) (p : Nat) (b : Bool), ((s.core (64 * d + c : Nat)).migTo = some (p, b)) →
    p < 68 → Leads (.loopMigrationDone d c) s fun t => servedBy t (64 * d + c : Nat) = some p ∧ (t.core (64 * d + c
    : Nat)).migTo = none ∧ rdB t (crB (64 * d + c : Nat)) R.LOOP_CORE_STAT_MIGRATING = false) ∧
  (∀ (s : State) (d : Fin 4) (c : Fin 17), Leads (.eddyArm d c) s fun t => eddyState t (eddyKey d c) = 1 ∧ rd t
    (edB (eddyKey d c)) R.LOOP_EDDY_STATUS_RECORDS = 0 ∧ rd t (edB (eddyKey d c)) R.LOOP_EDDY_STATUS_CAUSE = 0 ∧
    t.eddy (eddyKey d c) = {}) ∧
  (∀ (s : State) (d : Fin 4) (c : Fin 17), eddyState s (eddyKey d c) = 1 → (s.eddy (eddyKey d c)).recs = [] → Leads
    (.eddyTrigger d c) s fun t => eddyState t (eddyKey d c) = 1 ∧ (t.eddy (eddyKey d c)).manual = true) ∧
  (∀ (s : State) (d : Fin 4) (c : Fin 17), eddyState s (eddyKey d c) = 1 → (s.eddy (eddyKey d c)).recs ≠ [] → Leads
    (.eddyTrigger d c) s fun t => eddyState t (eddyKey d c) = 2 ∧ rd t (edB (eddyKey d c)) R.LOOP_EDDY_STATUS_CAUSE
    = 5 ∧ (t.eddy (eddyKey d c)).left = rd s (edB (eddyKey d c)) R.LOOP_EDDY_CFG_POST ∧ (t.eddy (eddyKey d
    c)).recs.length = (s.eddy (eddyKey d c)).recs.length) ∧
  (∀ (s : State) (d : Fin 4) (c : Fin 17), eddyState s (eddyKey d c) ≠ 1 → Leads (.eddyTrigger d c) s fun t =>
    t.eddys = s.eddys ∧ t.regs = s.regs) ∧
  (∀ (s : State) (d : Fin 4) (c : Fin 17), Leads (.eddyDisarm d c) s fun t => eddyState t (eddyKey d c) = 0 ∧
    t.eddys = s.eddys) ∧
  (∀ (s : State) (d : Fin 4) (c : Fin 17), eddyState s (eddyKey d c) = 2 → (s.eddy (eddyKey d c)).left = 0 → Leads
    (.eddyFrozen d c) s fun t => eddyState t (eddyKey d c) = 3 ∧ t.eddys = s.eddys) ∧
  (∀ (s : State) (d : Fin 4) (c : Fin 17) (a : Nat), eddyState s (eddyKey d c) = 3 → (s.eddy (eddyKey d
    c)).archived = false → rdB s (edB (eddyKey d c)) R.LOOP_EDDY_CTRL_ARCH_EN = true → rdB s hkB R.HK_DIE_THROTTLE
    d = false → a = rdPair s (edB (eddyKey d c)) R.LOOP_EDDY_ARCH_BASE_LO_BASE R.LOOP_EDDY_ARCH_BASE_HI_BASE + rd s
    (edB (eddyKey d c)) R.LOOP_EDDY_ARCH_CNT_COUNT % max 1 (rd s (edB (eddyKey d c)) R.LOOP_EDDY_ARCH_CFG_ARCH_N) *
    65536 → (dieOf a ≠ d.val ∨ installedAll s a 65536 = false) → Leads (.eddyArchived d c) s fun t => (t.eddy
    (eddyKey d c)).archived = true ∧ eddyState t (eddyKey d c) = 3 ∧ t.regs = s.regs) ∧
  (∀ (s : State) (d : Fin 4) (c : Fin 17) (a : Nat), eddyState s (eddyKey d c) = 3 → (s.eddy (eddyKey d
    c)).archived = false → rdB s (edB (eddyKey d c)) R.LOOP_EDDY_CTRL_ARCH_EN = true → rdB s hkB R.HK_DIE_THROTTLE
    d = false → a = rdPair s (edB (eddyKey d c)) R.LOOP_EDDY_ARCH_BASE_LO_BASE R.LOOP_EDDY_ARCH_BASE_HI_BASE + rd s
    (edB (eddyKey d c)) R.LOOP_EDDY_ARCH_CNT_COUNT % max 1 (rd s (edB (eddyKey d c)) R.LOOP_EDDY_ARCH_CFG_ARCH_N) *
    65536 → dieOf a = d.val → installedAll s a 65536 = true → Leads (.eddyArchived d c) s fun t => eddyState t
    (eddyKey d c) = (if rdB s (edB (eddyKey d c)) R.LOOP_EDDY_CTRL_AUTO = true then 1 else 3) ∧ rd t (edB (eddyKey
    d c)) R.LOOP_EDDY_ARCH_CNT_COUNT = satU 32 (rd s (edB (eddyKey d c)) R.LOOP_EDDY_ARCH_CNT_COUNT + 1) % 2 ^ 32)

/-- Decision, staging, release, intervals, SYNC, withdrawal and the voltage period of the Weir, with what each leaves in the queue (R114, R343, R373, R377, R378, R381, R387, R389, R393, R400, R563). -/
def Obligations.LaunchQueueStagingAndRelease : Prop :=
  (∀ (s : State) (n : Fin 192) (it : Item) (x : Nat), ((s.weir n).q.find? (decisionDue s n) = some it) → chKind s n
    ≠ .matrix → it.dark = false → itemData s n it = some x → Leads (.decisionInstant n) s fun t => (t.weir n).q =
    modFirst (decisionDue s n) (fun _ => { it with decided := true, show_ := .own }) (s.weir n).q ∧ rd t (chB n)
    R.WEIR_LATE_CNT_COUNT = rd s (chB n) R.WEIR_LATE_CNT_COUNT) ∧
  (∀ (s : State) (n : Fin 192) (it : Item), ((s.weir n).q.find? (decisionDue s n) = some it) → chKind s n ≠ .matrix
    → it.dark = false → itemData s n it = none → Leads (.decisionInstant n) s fun t => (t.weir n).q = modFirst
    (decisionDue s n) (fun _ =>
    { it with decided := true, show_ := if rdB s (chB n) R.WEIR_CFG_PREV_EN = true ∧ (prevFrame s n it.fno).isSome = true then .prev else .dark })
    (s.weir n).q ∧ rd t (chB n) R.WEIR_LATE_CNT_COUNT = satU 32 (rd s (chB n) R.WEIR_LATE_CNT_COUNT + 1) % 2 ^ 32) ∧
  (∀ (s : State) (n : Fin 192) (it : Item) (a len b : Nat), chKind s n ≠ .matrix → stageNext s n = some it →
    it.stage = .none → portUp s n = true → packetsOn s n = true → mayStage s n it.frame = true → withheld (s.weir
    n) it.t = false → it.dark = false → it.show_ ≠ .dark → (stageSource s n it = some (a, len)) → reusable s n it =
    none → freeBuf s n = some b → Leads (.stagingStart n) s fun t => (t.weir n).q = modFirst (fun (i : Item) => i
    == it) (fun (i : Item) => { i with stage := .active, buf := some b }) (s.weir n).q ∧ (t.weir n).bufs.head? =
    some { buf := b, fno := it.fno, idx := it.idx, until_ := 0 }) ∧
  (∀ (s : State) (n : Fin 192) (it : Item), chKind s n ≠ .matrix → ((s.weir n).q.find? (fun (i : Item) => i.stage
    == .active) = some it) → (s.ht ≤ stageDeadline s n it (blocksOf s n it - 1)) → Leads (.stagingComplete n) s fun
    t => (t.weir n).q.map (fun (i : Item) => (i.kind, i.t, i.fno, i.idx, i.stage)) = (modFirst (fun (i : Item) => i
    == it) (fun (i : Item) => { i with stage := .done }) (s.weir n).q).map (fun (i : Item) => (i.kind, i.t, i.fno,
    i.idx, i.stage))) ∧
  (∀ (s : State) (n : Fin 192) (it : Item) (j : Fin 16), chKind s n ≠ .matrix → stageNext s n = some it → mayStage
    s n it.frame = true → it.dark = false → (it.decided = false ∨ it.show_ = .own) → stageDeadline s n it j < s.ht
    → j.val < blocksOf s n it → Leads (.stageNotInTime n j) s fun t => rd t (chB n) R.WEIR_MISS_CNT_COUNT = satU 32
    (rd s (chB n) R.WEIR_MISS_CNT_COUNT + 1) % 2 ^ 32 ∧ (t.weir n).q.map (fun (i : Item) => (i.kind, i.t, i.fno,
    i.idx, i.stage)) = (modFirst (fun (i : Item) => i == it) (fun (i : Item) => { i with stage := .stopped })
    (s.weir n).q).map (fun (i : Item) => (i.kind, i.t, i.fno, i.idx, i.stage))) ∧
  (∀ (s : State) (n : Fin 192) (it : Item) (j : Fin 16), chKind s n ≠ .matrix → stageNext s n = some it → mayStage
    s n it.frame = true → it.dark = false → it.decided = true → it.show_ ≠ .own → stageDeadline s n it j < s.ht →
    j.val < blocksOf s n it → Leads (.stageNotInTime n j) s fun t => rd t (chB n) R.WEIR_MISS_CNT_COUNT = satU 32
    (rd s (chB n) R.WEIR_MISS_CNT_COUNT + 1) % 2 ^ 32) ∧
  (∀ (s : State) (n : Fin 192) (it : Item) (j : Fin 16), chKind s n ≠ .matrix → ((s.weir n).q.find? (fun (i : Item)
    => i.stage == .active) = some it) → Leads (.poolReadPoison n j) s fun t => rd t (chB n) R.WEIR_MISS_CNT_COUNT =
    satU 32 (rd s (chB n) R.WEIR_MISS_CNT_COUNT + 1) % 2 ^ 32 ∧ (t.weir n).q.map (fun (i : Item) => (i.kind, i.t,
    i.fno, i.idx, i.stage)) = (modFirst (fun (i : Item) => i == it) (fun (i : Item) =>
    { i with stage := .stopped }) (s.weir n).q).map (fun (i : Item) => (i.kind, i.t, i.fno, i.idx, i.stage))) ∧
  (∀ (s : State) (n : Fin 192) (it : Item), ((s.weir n).q.find? (tokenMissed s n) = some it) → Leads
    (.tokenLeadMiss n) s fun t => rd t (chB n) R.WEIR_MISS_CNT_COUNT = satU 32 (rd s (chB n) R.WEIR_MISS_CNT_COUNT
    + 1) % 2 ^ 32 ∧ (t.weir n).q = modFirst (fun (i : Item) => i == it) (fun (i : Item) =>
    { i with missed := true }) (s.weir n).q) ∧
  (∀ (s : State) (n : Fin 192) (it : Item) (ph : Fin 128) (tok u : Nat) (l : List Item), ((s.weir n).q = it :: l) →
    it.kind = .plane → (it.sent = some (tok, u)) → it.missed = false → (∀ i ∈ l, i.t ≠ it.t) → (s.weir n).wds = []
    → s.hub.noRelease = false → pinPassed s n it.t s.ht = true → s.chState n = .running → portUp s n = true → Leads
    (.release n ph) s fun t => .release n tok it.t 1 (b2n (tokenDark (tget [] tok (s.port n).tokBytes))) (tokenCur
    (tget [] tok (s.port n).tokBytes)) (tokenNcur (tget [] tok (s.port n).tokBytes)) (pinTrim s n it.t) ∈ t.out ∧
    queueKeys t n = l.map (fun (i : Item) => (i.kind, i.t, i.fno, i.idx)) ∧ tget 0 it.str (t.weir n).strCur =
    tokenCur (tget [] tok (s.port n).tokBytes) ∧ (t.weir n).openPlane = some (it.str, it.amp)) ∧
  (∀ (s : State) (n : Fin 192) (it : Item) (ph : Fin 128) (l : List Item), ((s.weir n).q = it :: l) → it.kind =
    .mark → (∀ i ∈ l, i.t = it.t → i.kind ≠ .mark) → s.hub.noRelease = false → pinPassed s n it.t s.ht = true →
    s.chState n = .running → Leads (.release n ph) s fun t => (t.weir n).curFno = it.fno ∧ (t.weir n).curF = it.t ∧
    (t.weir n).curAny = true) ∧
  (∀ (s : State) (n : Fin 192) (it : Item) (ph : Fin 128) (l : List Item), ((s.weir n).q = it :: l) → it.kind ≠
    .mark → s.hub.noRelease = false → pinPassed s n it.t s.ht = true → s.chState n = .armed → runDue s n it.frame =
    false → Leads (.release n ph) s fun t => (t.weir n).q = (it :: l).dropWhile (fun (i : Item) => i.kind != .mark
    && i.t = it.t) ∧ t.ports = s.ports) ∧
  (∀ (s : State) (n : Fin 192) (j a : Nat), ((s.weir n).openPlane = some (j, a)) → (s.weir n).planeEnd ≤ s.ht →
    Leads (.planeIntervalEnd n) s fun t => (t.weir n).openPlane = none ∧ (t.weir n).q = (s.weir n).q) ∧
  (∀ (s : State) (p : PortPhase) (b : Nat), portUp s p.n = true → rdB s (ephyB p.n) R.EPHY_STATUS_TX_IDLE = false →
    narrowing s p.n = false → (b = s.ht / 1000000 * 10000000 + (p.ph.val % charPeriod s p.n + charPeriod s p.n -
    s.ht / 1000000 * 10000000 % charPeriod s p.n) % charPeriod s p.n) → (b / 10 = s.ht) → Leads (.syncSend p) s fun
    t => (t.port p.n).setAt = (b, b + 12 * charPeriod s p.n) ∧ (s.hub.portsOn = true → crossUp s (1 + p.n.val / 48)
    (16 + p.n.val % 48) = true → .sync p.n (b * 16 / 10) (b + rd s (chB p.n) R.WEIR_TRIM_TRIM_EFF) ∈ t.out)) ∧
  (∀ (s : State) (n : Fin 192) (d : Withdrawal) (x : Nat), (s.weir n).wds = [d] → d.restage = false → d.cmd = none
    → wdDue s n d = some x → x ≤ 10 * s.ht → Leads (.withdrawalComplete n) s fun t => (t.weir n).wds = [] ∧ rdB t
    (chB n) R.WEIR_STATUS_WD_ACTIVE = false ∧ rd t (chB n) R.WEIR_WD_INFO_CAUSE = d.cause % 2 ^
    R.WEIR_WD_INFO_CAUSE.w ∧ rd t (chB n) R.WEIR_WD_INFO_LEAKED = satU 16 (leakedOf s n d (2 ^ 64)) % 65536 ∧ rd t
    (chB n) R.WEIR_WD_CNT_COUNT = satU 32 (rd s (chB n) R.WEIR_WD_CNT_COUNT + 1) % 2 ^ 32) ∧
  (∀ (s : State) (d : Fin 4) (f : Fin 5), rdB s (dieB d) R.WEIR_AVS_CTRL_EN = false → Leads (.avsPeriod d f) s fun
    t => rd t (dieB d) R.WEIR_AVS_STATUS_VOUT = rd s (dieB d) R.WEIR_AVS_STATUS_VOUT ∧ rd t (dieB d)
    R.WEIR_AVS_SLACK_SLACK = ((periodSlack s d).map (fun p => satTwos 32 p.1)).getD 0x7FFFFFFF % 2 ^ 32) ∧
  (∀ (s : State) (d : Fin 4) (f : Fin 5) (x : Int) (j : Nat), rdB s (dieB d) R.WEIR_AVS_CTRL_EN = true →
    (periodSlack s d = some (x, j)) → (x < 4000 * ((rd s (dieB d) R.WEIR_AVS_MARGIN_MARGIN (rd s (dieB d)
    R.WEIR_AVS_STATUS_BAND) : Nat) : Int)) → rd s (dieB d) R.WEIR_AVS_STATUS_VOUT < (avsLimits s d).2 → rdB s hkB
    R.HK_DIE_THROTTLE d = false → f.val < 4 → s.hub.badRails.contains 17 = false → Leads (.avsPeriod d f) s fun t
    => rd t (dieB d) R.WEIR_AVS_STATUS_VOUT = min (avsLimits s d).2 (rd s (dieB d) R.WEIR_AVS_STATUS_VOUT + max 1
    (rd s (dieB d) R.WEIR_AVS_CTRL_STEP)) % 2 ^ R.WEIR_AVS_STATUS_VOUT.w)

/-- String clears, curve data, ceilings, fades, derating sources, rill frames and their acknowledgements, read-back and bypass frames (R416, R418, R422, R423, R425, R434, R437, R443, R447, R448, R789, R845). -/
def Obligations.LampCommandsAndRill : Prop :=
  (∀ (s : State) (n : Fin 192) (k : Fin 6) (m : Nat), k.val < headStrings s n → bitOf m k = true → Leads
    (.stringClear n m) s fun t => rdB t (strB n k) R.LAMP_SSTAT_OPEN = false ∧ rdB t (strB n k) R.LAMP_SSTAT_SHORT
    = false ∧ bitOf (t.str n k).cuts 1 = false ∧ bitOf (t.str n k).cuts 2 = false ∧ (t.str n k).opens = 0 ∧ (t.str
    n k).shorts = 0) ∧
  (∀ (s : State) (n : Fin 192) (v : Nat), rd s (chB n) R.LAMP_CURVE_IDX_ENTRY ≤ 32 → rd s (chB n)
    R.LAMP_CURVE_IDX_STR ≤ 5 → chRuns s n = false → Leads (.lampCurveDataAccess n (some v)) s fun t => curveAt t n
    (rd s (chB n) R.LAMP_CURVE_IDX_STR) (rd s (chB n) R.LAMP_CURVE_IDX_RANGE) (rd s (chB n) R.LAMP_CURVE_IDX_ENTRY)
    = v % 65536 ∧ rd t (chB n) R.LAMP_CURVE_IDX_ENTRY = (if rd s (chB n) R.LAMP_CURVE_IDX_ENTRY = 32 then 0 else rd
    s (chB n) R.LAMP_CURVE_IDX_ENTRY + 1)) ∧
  (∀ (s : State) (n : Fin 192) (v : Nat), rd s (chB n) R.LAMP_CURVE_IDX_ENTRY ≤ 32 → rd s (chB n)
    R.LAMP_CURVE_IDX_STR ≤ 5 → chRuns s n = true → v % 65536 ≠ curveAt s n (rd s (chB n) R.LAMP_CURVE_IDX_STR) (rd
    s (chB n) R.LAMP_CURVE_IDX_RANGE) (rd s (chB n) R.LAMP_CURVE_IDX_ENTRY) → Leads (.lampCurveDataAccess n (some
    v)) s fun t => rdB t (chB n) R.CH_STATUS_WRITE_REJECTED = true ∧ t.curves = s.curves ∧ rd t (chB n)
    R.LAMP_CURVE_IDX_ENTRY = (if rd s (chB n) R.LAMP_CURVE_IDX_ENTRY = 32 then 0 else rd s (chB n)
    R.LAMP_CURVE_IDX_ENTRY + 1)) ∧
  (∀ (s : State) (n : Fin 192), rd s (chB n) R.LAMP_CURVE_IDX_ENTRY ≤ 32 → rd s (chB n) R.LAMP_CURVE_IDX_STR ≤ 5 →
    Leads (.lampCurveDataAccess n none) s fun t => .readData 0 (leBytes 4 (curveAt s n (rd s (chB n)
    R.LAMP_CURVE_IDX_STR) (rd s (chB n) R.LAMP_CURVE_IDX_RANGE) (rd s (chB n) R.LAMP_CURVE_IDX_ENTRY))) ∈ t.out ∧
    t.curves = s.curves ∧ rd t (chB n) R.LAMP_CURVE_IDX_ENTRY = (if rd s (chB n) R.LAMP_CURVE_IDX_ENTRY = 32 then 0
    else rd s (chB n) R.LAMP_CURVE_IDX_ENTRY + 1)) ∧
  (∀ (s : State) (n : Fin 192) (k : Fin 6) (v : Nat), k.val < headStrings s n → Leads (.lampSceilWrite false n k v)
    s fun t => rd t (strB n k) R.LAMP_SCEIL_CEIL = v % 65536 ∧ t.eff = s.eff ∧ t.mgtCeil = s.mgtCeil) ∧
  (∀ (s : State) (n : Fin 192) (k : Fin 6) (v : Nat), k.val < headStrings s n → Leads (.lampSceilWrite true n k v)
    s fun t => tget 0xFFFF (strB n k) t.mgtCeil = v % 65536 ∧ t.eff = s.eff ∧ rd t (strB n k) R.LAMP_SCEIL_CEIL =
    rd s (strB n k) R.LAMP_SCEIL_CEIL) ∧
  (∀ (s : State) (v : Nat), Leads (.svcCeilWrite false v) s fun t => rd t mgtB R.MGT_SVC_CEIL_PF0 = v % 65536 ∧ rd
    t hubB R.HUB_SVC_CEIL_CEIL = min (v % 65536) (rd s mgtB R.MGT_SVC_CEIL_MGT) % 65536) ∧
  (∀ (s : State) (v : Nat), Leads (.svcCeilWrite true v) s fun t => rd t mgtB R.MGT_SVC_CEIL_MGT = v % 65536 ∧ rd t
    hubB R.HUB_SVC_CEIL_CEIL = min (rd s mgtB R.MGT_SVC_CEIL_PF0) (v % 65536) % 65536) ∧
  (∀ (s : State) (n : Fin 192), (s.lamp n).fadeB.active = true → (s.lamp n).fadeB.t0 + (s.lamp n).fadeB.dur ≤ s.ht
    → Leads (.fadeDone n false) s fun t => (t.lamp n).fadeB = { (s.lamp n).fadeB with active := false } ∧ (t.lamp
    n).fadeC = (s.lamp n).fadeC) ∧
  (∀ (s : State) (n : Fin 192), (s.lamp n).fadeC.active = true → (s.lamp n).fadeC.t0 + (s.lamp n).fadeC.dur ≤ s.ht
    → Leads (.fadeDone n true) s fun t => (t.lamp n).fadeC = { (s.lamp n).fadeC with active := false } ∧ (t.lamp
    n).fadeB = (s.lamp n).fadeB) ∧
  (∀ (s : State) (n : Fin 192) (k : Fin 6), rd s (strB n k) R.LAMP_STEMP_SRC ≠ 0 → telQualifies s n k = true →
    Leads (.derateSourceRestore n k) s fun t => rd t (strB n k) R.LAMP_STEMP_SRC = 0 ∧ rd t (strB n k)
    R.LAMP_STEMP_T = satTwos 16 ((s.str n k).prevTel.getD 0) % 65536) ∧
  (∀ (s : State) (n : Fin 192) (k : Fin 6), rd s (strB n k) R.LAMP_STEMP_SRC = 0 → telFresh s n k = false → Leads
    (.derateTelemetryStale n k) s fun t => rd t (strB n k) R.LAMP_STEMP_SRC = (if thermOk s n = true then 1 else 2)
    ∧ rd t (chB n) R.LAMP_FALLBACK_CNT_COUNT = satU 32 (rd s (chB n) R.LAMP_FALLBACK_CNT_COUNT + 1) % 2 ^ 32) ∧
  (∀ (s : State) (n : Fin 192), (s.lamp n).nextFrame ≤ s.ht → inSafeDark s n = false → s.hub.badRails.contains 17 =
    false → (s.lamp n).hold = false → (s.lamp n).holdReqs = [] → Leads (.rillFrameStart n) s fun t => rd t (chB n)
    R.LAMP_RILL_FRAME_CNT_COUNT = satU 32 (rd s (chB n) R.LAMP_RILL_FRAME_CNT_COUNT + 1) % 2 ^ 32 ∧ (t.lamp
    n).nextFrame = s.ht + rillPeriod s n ∧ t.out.any (rillFrameOf n (rillLen s n)) = true) ∧
  (∀ (s : State) (n : Fin 192) (x : Nat), (s.lamp n).nextFrame ≤ s.ht → inSafeDark s n = false →
    s.hub.badRails.contains 17 = false → (s.lamp n).hold = false → ((s.lamp n).holdReqs = [(true, x)]) → x ≤ s.ht →
    Leads (.rillFrameStart n) s fun t => (t.lamp n).hold = true ∧ rdB t (chB n) R.LAMP_STATUS_DARK_HOLD = true ∧
    inSafeDark t n = true ∧ (∀ k < headStrings s n, k < 6 → bitOf (t.str n k).cuts 6 = true)) ∧
  (∀ (s : State) (n : Fin 192) (i : Fin 16) (c : RillCmd) (l : List RillCmd) (x : Nat), ((s.drv n i).cmds = c :: l)
    → c.first = some x → c.late = false → x + max 1 (rd s (chB n) R.LAMP_RILL_CFG_ACK) * 4000000 ≤ s.ht → c.prog =
    true → Leads (.rillAckTimeout n i) s fun t => (t.drv n i).cmds = l) ∧
  (∀ (s : State) (n : Fin 192) (i : Fin 16) (c : RillCmd) (l : List RillCmd) (x : Nat), ((s.drv n i).cmds = c :: l)
    → c.first = some x → c.late = false → x + max 1 (rd s (chB n) R.LAMP_RILL_CFG_ACK) * 4000000 ≤ s.ht → c.prog =
    false → Leads (.rillAckTimeout n i) s fun t => (t.drv n i).cmds = { c with late := true } :: l ∧ bitOf (t.str n
    (drvString s n i)).cuts 3 = true) ∧
  (∀ (s : State) (n : Fin 192), Leads (.rillReadbackDiff n) s fun t => rdB t (chB n) R.LAMP_STATUS_READBACK_ERR =
    true ∧ rd t (chB n) R.LAMP_READBACK_CNT_COUNT = satU 32 (rd s (chB n) R.LAMP_READBACK_CNT_COUNT + 1) % 2 ^ 32 ∧
    t.weir n = s.weir n) ∧
  (∀ (s : State) (n : Fin 192) (k : Fin 6) (x : Nat), (s.str n k).bypSince = some x → x + 400000000 ≤ s.ht → (s.str
    n k).bypDark = none → Leads (.bypassDarkFrame n k) s fun t => (t.str n k).bypDark = some ((s.weir n).curFno +
    1) ∧ t.regs = s.regs)

/-- Wheels and scan mirrors: each command and each instant of time takes the part to the state that R502 and R510 give (R502, R503, R505, R506, R507, R509, R510, R512, R513, R514, R515, R516). -/
def Obligations.MovingParts : Prop :=
  (∀ (s : State) (n : Fin 192), wheelReason s n false = 0 → min 0xF000 (rd s (chB n) R.MOVE_WHEEL_TGT_SPEED) ≠ 0 →
    Leads (.wheelRun n) s fun t => t.wst n = .ramp ∧ (t.move n).wTarget = min 0xF000 (rd s (chB n)
    R.MOVE_WHEEL_TGT_SPEED) ∧ (t.move n).wheel.target = min 0xF000 (rd s (chB n) R.MOVE_WHEEL_TGT_SPEED) *
    4000000000) ∧
  (∀ (s : State) (n : Fin 192), wheelReason s n false = 0 → min 0xF000 (rd s (chB n) R.MOVE_WHEEL_TGT_SPEED) = 0 →
    (s.wst n = .ramp ∨ s.wst n = .locked ∨ s.wst n = .coast) → Leads (.wheelRun n) s fun t => t.wst n = .rundown ∧
    (t.move n).wheel.target = 0) ∧
  (∀ (s : State) (n : Fin 192), wheelReason s n false ≠ 0 → Leads (.wheelRun n) s fun t => rd t (chB n)
    R.MOVE_STATUS_REJECT = wheelReason s n false % 2 ^ R.MOVE_STATUS_REJECT.w ∧ t.wst n = s.wst n ∧ t.sst n = s.sst
    n ∧ t.moves = s.moves) ∧
  (∀ (s : State) (n : Fin 192), wheelReason s n true = 0 → Leads (.wheelStop n) s fun t => t.wst n = .rundown ∧
    (t.move n).wheel.target = 0 ∧ (t.move n).wTarget = 0) ∧
  (∀ (s : State) (n : Fin 192), wheelReason s n true ≠ 0 → Leads (.wheelStop n) s fun t => rd t (chB n)
    R.MOVE_STATUS_REJECT = wheelReason s n true % 2 ^ R.MOVE_STATUS_REJECT.w ∧ t.wst n = s.wst n ∧ t.sst n = s.sst
    n ∧ t.moves = s.moves) ∧
  (∀ (s : State) (n : Fin 192), scanStartReason s n = 0 → rdB s (chB n) R.MOVE_SCAN_CFG_TYPE = false → Leads
    (.scanStart n) s fun t => t.sst n = .sweep ∧ (t.move n).sweepF = max 8000 (min 48000 (rd s (chB n)
    R.MOVE_SCAN_SWEEP_F_LO)) ∧ (t.move n).sweep = [] ∧ (t.move n).sweepAt = s.ht) ∧
  (∀ (s : State) (n : Fin 192), scanStartReason s n = 0 → rdB s (chB n) R.MOVE_SCAN_CFG_TYPE = true → startReject s
    (scanSlot s n) = 0 → Leads (.scanStart n) s fun t => t.sst n = .locking ∧ t.slotState (scanSlot s n) =
    .running) ∧
  (∀ (s : State) (n : Fin 192), scanStartReason s n = 0 → rdB s (chB n) R.MOVE_SCAN_CFG_TYPE = true → startReject s
    (scanSlot s n) ≠ 0 → Leads (.scanStart n) s fun t => t.sst n = .rundown ∧ t.slotState (scanSlot s n) = .stopped
    ∧ rd t (chB n) R.MOVE_STATUS_REJECT = 2) ∧
  (∀ (s : State) (n : Fin 192), scanStartReason s n ≠ 0 → Leads (.scanStart n) s fun t => rd t (chB n)
    R.MOVE_STATUS_REJECT = scanStartReason s n % 2 ^ R.MOVE_STATUS_REJECT.w ∧ t.wst n = s.wst n ∧ t.sst n = s.sst n
    ∧ t.moves = s.moves) ∧
  (∀ (s : State) (n : Fin 192), (s.sst n = .sweep ∨ s.sst n = .locking ∨ s.sst n = .locked) → Leads (.scanStop n) s
    fun t => t.sst n = .rundown ∧ (t.move n).scan.target = 0 ∧ (t.move n).runDone = false) ∧
  (∀ (s : State) (n : Fin 192) (r : Nat), r = (if s.sst n = .off then 1 else if s.sst n = .unknown then 3 else 4) →
    s.sst n ≠ .sweep → s.sst n ≠ .locking → s.sst n ≠ .locked → Leads (.scanStop n) s fun t => rd t (chB n)
    R.MOVE_STATUS_REJECT = r % 2 ^ R.MOVE_STATUS_REJECT.w ∧ t.wst n = s.wst n ∧ t.sst n = s.sst n ∧ t.moves =
    s.moves) ∧
  (∀ (s : State) (n : Fin 192) (a b : Nat), (s.wst n = .unknown ∨ s.wst n = .coast) → (s.move n).stopSince = some a
    → a + 400000000 ≤ s.ht → (s.move n).speedAt = some b → s.ht ≤ b + 400000000 → Leads (.wheelStopped n) s fun t
    => t.wst n = .stopped) ∧
  (∀ (s : State) (n : Fin 192) (a b : Nat), s.wst n = .rundown → (s.move n).wheel.value s.ht = 0 → (s.move
    n).stopSince = some a → a + 400000000 ≤ s.ht → (s.move n).speedAt = some b → s.ht ≤ b + 400000000 → Leads
    (.wheelStopped n) s fun t => t.wst n = .stopped) ∧
  (∀ (s : State) (n : Fin 192), (s.wst n = .stopped ∨ s.wst n = .coast) → (s.move n).speedAt.getD (s.move n).wAt +
    400000000 ≤ s.ht → Leads (.wheelSpeedTimeout n) s fun t => t.wst n = .unknown ∧ (t.move n).stopSince = none) ∧
  (∀ (s : State) (n : Fin 192) (a : Nat), s.wst n = .locked → lockConds s n = false → (s.move n).lockFail = some a
    → a + max 1 (rd s (chB n) R.MOVE_WHEEL_ILK_DWELL) * 4000000 < s.ht → Leads (.wheelLockLost n) s fun t => t.wst
    n = .ramp) ∧
  (∀ (s : State) (n : Fin 192), wheelConds s n ≠ [] → rdB s (chB n) R.MOVE_STATUS_W_ILK = false → Leads
    (.wheelInterlockDwell n) s fun t => rdB t (chB n) R.MOVE_STATUS_W_ILK = true ∧ rd t (chB n)
    R.MOVE_WILK_CNT_COUNT = satU 32 (rd s (chB n) R.MOVE_WILK_CNT_COUNT + 1) % 2 ^ 32 ∧ ∀ k < headStrings s n, k <
    6 → bitOf (t.str n k).cuts 5 = true) ∧
  (∀ (s : State) (n : Fin 192) (a : Nat), wheelConds s n = [] → rdB s (chB n) R.MOVE_STATUS_W_ILK = true → (s.move
    n).wClear = some a → a + rd s (chB n) R.MOVE_WHEEL_ILK_RELEASE * 4000000 ≤ s.ht → Leads (.wheelInterlockRelease
    n) s fun t => rdB t (chB n) R.MOVE_STATUS_W_ILK = false ∧ ∀ k < headStrings s n, k < 6 → bitOf (t.str n k).cuts
    5 = false) ∧
  (∀ (s : State) (n : Fin 192) (i p : Nat), (prediction s n = some (i, p)) → (s.move n).idxAt + max 1 (rd s (chB n)
    R.MOVE_WHEEL_CFG_IDX_TO) * p ≤ s.ht → Leads (.wheelIndexLost n) s fun t => rdB t (chB n) R.MOVE_STATUS_PRED =
    false ∧ (t.move n).predP = none ∧ (t.move n).predI = none ∧ (t.move n).predWait = true ∧ rd t (chB n)
    R.MOVE_IDXLOST_CNT_COUNT = satU 32 (rd s (chB n) R.MOVE_IDXLOST_CNT_COUNT + 1) % 2 ^ 32) ∧
  (∀ (s : State) (n : Fin 192), s.sst n = .sweep → (s.move n).sweepAt + max 1 (rd s (chB n) R.MOVE_SCAN_STEP_DWELL)
    * 4000000 ≤ s.ht → (s.move n).sweepF + max 1 (rd s (chB n) R.MOVE_SCAN_STEP_STEP) ≤ sweepHi s n → Leads
    (.sweepStep n) s fun t => t.sst n = .sweep ∧ (t.move n).sweepF = (s.move n).sweepF + max 1 (rd s (chB n)
    R.MOVE_SCAN_STEP_STEP) ∧ (t.move n).sweep = ((s.move n).sweep ++ [((s.move n).sweepF, rd s (chB n)
    R.MOVE_SCAN_MEAS_AMP)]) ∧ (t.move n).sweepAt = s.ht) ∧
  (∀ (s : State) (n : Fin 192), s.sst n = .sweep → (s.move n).sweepAt + max 1 (rd s (chB n) R.MOVE_SCAN_STEP_DWELL)
    * 4000000 ≤ s.ht → sweepHi s n < (s.move n).sweepF + max 1 (rd s (chB n) R.MOVE_SCAN_STEP_STEP) → (resonance
    ((s.move n).sweep ++ [((s.move n).sweepF, rd s (chB n) R.MOVE_SCAN_MEAS_AMP)]) = none) → Leads (.sweepStep n) s
    fun t => t.sst n = .rundown ∧ rd t (chB n) R.MOVE_SCAN_MEAS_FRES = 0 ∧ rd t (chB n) R.MOVE_SWEEPFAIL_CNT_COUNT
    = satU 32 (rd s (chB n) R.MOVE_SWEEPFAIL_CNT_COUNT + 1) % 2 ^ 32) ∧
  (∀ (s : State) (n : Fin 192) (f : Nat), s.sst n = .sweep → (s.move n).sweepAt + max 1 (rd s (chB n)
    R.MOVE_SCAN_STEP_DWELL) * 4000000 ≤ s.ht → sweepHi s n < (s.move n).sweepF + max 1 (rd s (chB n)
    R.MOVE_SCAN_STEP_STEP) → (resonance ((s.move n).sweep ++ [((s.move n).sweepF, rd s (chB n)
    R.MOVE_SCAN_MEAS_AMP)]) = some f) → s.slotState (scanSlot s n) = .stopped → startReject s (scanSlot s n) = 0 →
    Leads (.sweepStep n) s fun t => t.sst n = .locking ∧ rd t (chB n) R.MOVE_SCAN_MEAS_FRES = f % 2 ^
    R.MOVE_SCAN_MEAS_FRES.w ∧ t.slotState (scanSlot s n) = .running) ∧
  (∀ (s : State) (n : Fin 192) (a : Nat), s.sst n = .locking → scanConds s n = [] → (s.move n).sClear = some a → a
    + rd s (chB n) R.MOVE_SCAN_ILK_RELEASE * 4000000 ≤ s.ht → Leads (.scanLocked n) s fun t => t.sst n = .locked ∧
    rdB t (chB n) R.MOVE_STATUS_S_ILK = false) ∧
  (∀ (s : State) (n : Fin 192) (a : Nat), s.sst n ≠ .off → (s.move n).ampAt = some a → a + 4000000 ≤ s.ht → rdB s
    (chB n) R.MOVE_STATUS_S_ILK = false → Leads (.scanAmpStale n) s fun t => rdB t (chB n) R.MOVE_STATUS_S_ILK =
    true ∧ rd t (chB n) R.MOVE_SILK_CNT_COUNT = satU 32 (rd s (chB n) R.MOVE_SILK_CNT_COUNT + 1) % 2 ^ 32 ∧ t.sst n
    = (if s.sst n = .locked then .locking else s.sst n) ∧ ∀ k < headStrings s n, k < 6 → bitOf (t.str n k).cuts 5 =
    true) ∧
  (∀ (s : State) (n : Fin 192), s.sst n = .rundown → (s.move n).runDone = false → (s.move n).scan.value s.ht = 0 →
    Leads (.scanRundownDone n) s fun t => (t.move n).runDone = true ∧ t.sst n = .rundown ∧ (slotActive s (scanSlot
    s n) = true → slotChannel s (scanSlot s n) = n.val → t.slotState (scanSlot s n) = .stopped)) ∧
  (∀ (s : State) (n : Fin 192) (a b : Nat), (s.sst n = .unknown ∨ s.sst n = .rundown) → (s.move n).smallSince =
    some a → a + 40000000 ≤ s.ht → (s.move n).ampAt = some b → s.ht ≤ b + 40000000 → Leads (.scanStopped n) s fun t
    => t.sst n = .stopped)

/-- A port is enabled, found, trained state by state, timed out, put to sleep, woken, looped back and disabled as R535 says (R79, R532, R535, R536, R537, R538, R539, R541, R551, R552, R554, R555). -/
def Obligations.PortBringUp : Prop :=
  (∀ (s : State) (n : Fin 192), rdB s (ephyB n) R.EPHY_CTRL_EN = false → rd s (chB n) R.CH_STATUS_STATE = 0 → Leads
    (.portEnable n) s fun t => rdB t (ephyB n) R.EPHY_CTRL_EN = true ∧ t.pst n = .detect ∧ rdB t (ephyB n)
    R.EPHY_STATUS_TX_IDLE = true ∧ rd t (ephyB n) R.EPHY_STATUS_WIDTH = 0) ∧
  (∀ (s : State) (n : Fin 192), rdB s (ephyB n) R.EPHY_CTRL_EN = true → rd s (chB n) R.CH_STATUS_STATE = 0 → Leads
    (.portDisable n) s fun t => rdB t (ephyB n) R.EPHY_CTRL_EN = false ∧ t.pst n = .disabled ∧ rdB t (ephyB n)
    R.EPHY_STATUS_TX_IDLE = true ∧ rd t (ephyB n) R.EPHY_STATUS_WIDTH = 0) ∧
  (∀ (s : State) (n : Fin 192), rdB s (ephyB n) R.EPHY_CTRL_EN = true → rd s (chB n) R.CH_STATUS_STATE ≠ 0 → Leads
    (.portDisable n) s fun t => rdB t (ephyB n) R.EPHY_STATUS_WRITE_REJECTED = true ∧ t.pst n = s.pst n ∧ rdB t
    (ephyB n) R.EPHY_CTRL_EN = true) ∧
  (∀ (s : State) (n : Fin 192), s.pst n = .detect → (rdB s (dieB (n / 48)) R.HUB_DIE_STATUS_IN_RESET = false) →
    s.hub.portsOn = true → rdB s (ephyB n) R.EPHY_CTRL_TX_SLEEP = false → Leads (.detectTest n true) s fun t =>
    t.pst n = .rate ∧ rd t (ephyB n) R.EPHY_STATUS_RATE = rd s (ephyB n) R.EPHY_CFG_MAX_RATE % 4 ∧ rdB t (ephyB n)
    R.EPHY_STATUS_TX_IDLE = false) ∧
  (∀ (s : State) (n : Fin 192), s.pst n ≠ .detect → Leads (.detectTest n true) s fun t => t.regs = s.regs ∧ t.ports
    = s.ports) ∧
  (∀ (s : State) (n : Fin 192) (l : Fin 4) (inv : Bool) (cv d : Nat) (ts : List Nat), s.pst n = .rate → tsValid ts
    = true → bitOf (ts.getD 2 0) (rd s (ephyB n) R.EPHY_STATUS_RATE) = true → Leads (.trainingSetReceived n l inv
    cv d ts) s fun t => t.pst n = .lock ∧ rd t (ephyB n) R.EPHY_STATUS_RATE = rd s (ephyB n) R.EPHY_STATUS_RATE) ∧
  (∀ (s : State) (n : Fin 192) (l : Fin 4) (inv : Bool) (cv d : Nat) (ts : List Nat), s.pst n = .polarity → tsValid
    ts = true → Leads (.trainingSetReceived n l inv cv d ts) s fun t => t.pst n = .polarity ∧ tget 0 l (t.port
    n).tsCount = min 16 (tget 0 l (s.port n).tsCount + 1) ∧ bitOf (t.port n).tsInv l = inv) ∧
  (∀ (s : State) (n : Fin 192) (l : Fin 4) (inv : Bool) (cv d : Nat) (ts : List Nat), tsValid ts = false → Leads
    (.trainingSetReceived n l inv cv d ts) s fun t => t.ports = s.ports ∧ t.pst n = s.pst n ∧ rd t (laneB n l)
    R.EPHY_LERR_CV = satU 16 (rd s (laneB n l) R.EPHY_LERR_CV + cv) % 2 ^ 16) ∧
  (∀ (s : State) (n : Fin 192), s.pst n = .rate → (s.port n).stAt + 500 * us ≤ s.tick → rd s (ephyB n)
    R.EPHY_STATUS_RATE ≠ 0 → Leads (.rateTimeout n) s fun t => t.pst n = .rate ∧ rd t (ephyB n) R.EPHY_STATUS_RATE
    = (rd s (ephyB n) R.EPHY_STATUS_RATE - 1) % 4) ∧
  (∀ (s : State) (n : Fin 192), s.pst n = .rate → (s.port n).stAt + 500 * us ≤ s.tick → rd s (ephyB n)
    R.EPHY_STATUS_RATE = 0 → Leads (.rateTimeout n) s fun t => t.pst n = .detect ∧ rd t (ephyB n)
    R.EPHY_TRAIN_FAIL_CNT_COUNT = satU 32 (rd s (ephyB n) R.EPHY_TRAIN_FAIL_CNT_COUNT + 1) % 2 ^ 32) ∧
  (∀ (s : State) (n : Fin 192) (m : Fin 16), s.pst n = .lock → m ≠ 0 → (m = 15 ∨ (s.port n).stAt + ms ≤ s.tick) →
    Leads (.lockStateEnd n m) s fun t => t.pst n = .polarity ∧ ∀ l < 4, (bitOf m l = true → rdB t (laneB n l)
    R.EPHY_LSTAT_LOCK = true) ∧ (bitOf m l = false → rdB t (laneB n l) R.EPHY_LSTAT_EXCLUDED = true)) ∧
  (∀ (s : State) (n : Fin 192), s.pst n = .polarity → (∀ l ∈ lanesLocked s n, 16 ≤ tget 0 l (s.port n).tsCount) →
    Leads (.polarityDone n) s fun t => t.pst n = .order ∧ ∀ l ∈ lanesLocked s n, rdB t (laneB n l)
    R.EPHY_LSTAT_INVERTED = bitOf (s.port n).tsInv l) ∧
  (∀ (s : State) (n : Fin 192) (l : Fin 4) (p : Nat) (q : Fin 256) (st : Fin 32) (cv d : Nat), s.pst n = .deskew →
    l.val ∈ lanesLeft s n → (∀ k ∈ lanesLeft s n, k ≠ l.val → (tget (0, 0) k (s.port n).markers).1 = q.val ∧ (tget
    (0, 0) k (s.port n).markers).2 ≠ 0) → Leads (.alignmentMarkerReceived n l p q st cv d) s fun t => t.pst n =
    .width) ∧
  (∀ (s : State) (n : Fin 192), (s.pst n = .lock ∨ s.pst n = .width) → (s.port n).stAt + ms ≤ s.tick → rd s (ephyB
    n) R.EPHY_STATUS_RATE ≠ 0 → Leads (.trainingTimeout n) s fun t => t.pst n = .rate ∧ rd t (ephyB n)
    R.EPHY_STATUS_RATE = (rd s (ephyB n) R.EPHY_STATUS_RATE - 1) % 4) ∧
  (∀ (s : State) (n : Fin 192), (s.pst n = .lock ∨ s.pst n = .width) → (s.port n).stAt + ms ≤ s.tick → rd s (ephyB
    n) R.EPHY_STATUS_RATE = 0 → Leads (.trainingTimeout n) s fun t => t.pst n = .detect ∧ rd t (ephyB n)
    R.EPHY_TRAIN_FAIL_CNT_COUNT = satU 32 (rd s (ephyB n) R.EPHY_TRAIN_FAIL_CNT_COUNT + 1) % 2 ^ 32) ∧
  (∀ (s : State) (n : Fin 192), s.pst n = .deskew → (s.port n).stAt + 4 * markerPeriod s n ≤ s.tick → rd s (ephyB
    n) R.EPHY_STATUS_RATE ≠ 0 → Leads (.trainingTimeout n) s fun t => t.pst n = .rate ∧ rd t (ephyB n)
    R.EPHY_STATUS_RATE = (rd s (ephyB n) R.EPHY_STATUS_RATE - 1) % 4) ∧
  (∀ (s : State) (n : Fin 192), s.pst n = .deskew → (s.port n).stAt + 4 * markerPeriod s n ≤ s.tick → rd s (ephyB
    n) R.EPHY_STATUS_RATE = 0 → Leads (.trainingTimeout n) s fun t => t.pst n = .detect ∧ rd t (ephyB n)
    R.EPHY_TRAIN_FAIL_CNT_COUNT = satU 32 (rd s (ephyB n) R.EPHY_TRAIN_FAIL_CNT_COUNT + 1) % 2 ^ 32) ∧
  (∀ (s : State) (n : Fin 192), s.pst n = .ident → (s.port n).stAt + 50 * ms ≤ s.tick → Leads (.identTimeout n) s
    fun t => t.pst n = .detect ∧ rd t (ephyB n) R.EPHY_TRAIN_FAIL_CNT_COUNT = satU 32 (rd s (ephyB n)
    R.EPHY_TRAIN_FAIL_CNT_COUNT + 1) % 2 ^ 32) ∧
  (∀ (s : State) (n : Fin 192), s.pst n = .up → Leads (.ephyRetrain n) s fun t => t.pst n = .lock ∧ (t.port
    n).rreq.isSome = true ∧ rd t (ephyB n) R.EPHY_DOWN_CNT_COUNT = satU 32 (rd s (ephyB n) R.EPHY_DOWN_CNT_COUNT +
    1) % 2 ^ 32) ∧
  (∀ (s : State) (n : Fin 192), s.chState n = .off → rdB s (ephyB n) R.EPHY_CTRL_TX_SLEEP = false → Leads
    (.txSleepEnter n) s fun t => rdB t (ephyB n) R.EPHY_CTRL_TX_SLEEP = true ∧ rdB t (ephyB n)
    R.EPHY_STATUS_TX_IDLE = true) ∧
  (∀ (s : State) (n : Fin 192), s.chState n ≠ .off → Leads (.txSleepEnter n) s fun t => rdB t (ephyB n)
    R.EPHY_STATUS_WRITE_REJECTED = true ∧ t.pst n = s.pst n) ∧
  (∀ (s : State) (n : Fin 192), rdB s (ephyB n) R.EPHY_CTRL_TX_SLEEP = true → s.pst n = .up → Leads (.txSleepExit
    n) s fun t => rdB t (ephyB n) R.EPHY_CTRL_TX_SLEEP = false ∧ rdB t (ephyB n) R.EPHY_STATUS_TX_IDLE =
    !s.hub.portsOn ∧ (t.port n).wakeAt = some s.tick ∧ (t.port n).txWake = some s.tick) ∧
  (∀ (s : State) (n : Fin 192) (m : Fin 8), m ≠ 0 → lbRefused s n m = false → Leads (.loopbackMode n m) s fun t =>
    t.pst n = .loopback ∧ rd t (ephyB n) R.EPHY_CTRL_LB_MODE = m.val) ∧
  (∀ (s : State) (n : Fin 192) (m : Fin 8), m ≠ 0 → lbRefused s n m = true → Leads (.loopbackMode n m) s fun t =>
    rdB t (ephyB n) R.EPHY_STATUS_WRITE_REJECTED = true ∧ t.pst n = s.pst n) ∧
  (∀ (s : State) (n : Fin 192), s.pst n = .loopback → Leads (.loopbackMode n 0) s fun t => t.pst n = .detect ∧ rd t
    (ephyB n) R.EPHY_CTRL_LB_MODE = 0) ∧
  (∀ (s : State) (n : Fin 192) (e : Nat), s.pst n = .loopback → Leads (.loopbackGo n e) s fun t => t.pst n =
    .loopback ∧ rd t (ephyB n) R.EPHY_LB_ERR_COUNT = satU 32 (rd s (ephyB n) R.EPHY_LB_ERR_COUNT + e) % 2 ^ 32) ∧
  (∀ (s : State) (n : Fin 192) (b : Fin 5) (v : Nat), bits v 0 5 ≤ 16 → bits v 8 5 ≤ 24 → bits v 0 5 + bits v 8 5 ≤
    32 → Leads (.ephyTxeqWrite n b v) s fun t => rd t (ephyB n) R.EPHY_TXEQ_PRE b = bits v 0 5 ∧ rd t (ephyB n)
    R.EPHY_TXEQ_POST b = bits v 8 5 ∧ rd t (ephyB n) R.EPHY_TXEQ_SWING b = bits v 16 4) ∧
  (∀ (s : State) (n : Fin 192) (b : Fin 5) (v : Nat), (16 < bits v 0 5 ∨ 24 < bits v 8 5 ∨ 32 < bits v 0 5 + bits v
    8 5) → Leads (.ephyTxeqWrite n b v) s fun t => rdB t (ephyB n) R.EPHY_STATUS_WRITE_REJECTED = true ∧ t.pst n =
    s.pst n)

/-- Lanes of a port that carries packets: markers, width switches, lost and regained lanes, figures of merit, the receiver's sleep (R528, R529, R533, R534, R543, R544, R546, R547, R549, R552, R553, R590). -/
def Obligations.PortRunning : Prop :=
  (∀ (s : State) (x : PortLate), s.pst x.n ≠ .disabled → s.pst x.n ≠ .detect → rdB s (ephyB x.n)
    R.EPHY_STATUS_TX_IDLE = false → markerFits s x.n x.late = true → switchDue s x.n = none → (s.port x.n).txWake =
    none → Leads (.alignmentMarkerSend x) s fun t => (t.port x.n).markSeq = ((s.port x.n).markSeq + 1) % 256 ∧
    (t.port x.n).markNom = some (10 * s.tick - x.late * charPeriod s x.n) ∧ t.regs = s.regs) ∧
  (∀ (s : State) (x : PortLate) (r : WidthReq), s.pst x.n = .up → rdB s (ephyB x.n) R.EPHY_STATUS_TX_IDLE = false →
    markerFits s x.n x.late = true → switchDue s x.n = some r → (s.port x.n).headRetrain = none → Leads
    (.alignmentMarkerSend x) s fun t => rd t (ephyB x.n) R.EPHY_STATUS_WIDTH = r.width % 8 ∧ rd t (ephyB x.n)
    R.EPHY_STATUS_LANES = r.lanes % 16 ∧ (r.widen = false → rd t (ephyB x.n) R.EPHY_NARROW_CNT_COUNT = satU 32 (rd
    s (ephyB x.n) R.EPHY_NARROW_CNT_COUNT + 1) % 2 ^ 32)) ∧
  (∀ (s : State) (n : Fin 192) (l c : Fin 4), carries s n = true → isGood s n (logicalLane s n l) = true → laneUsed
    s n (logicalLane s n l) = true → Leads (.laneLost n l c 0) s fun t => isGood t n (logicalLane s n l) = false ∧
    rd t (laneB n l) R.EPHY_LLOSS_COUNT = satU 32 (rd s (laneB n l) R.EPHY_LLOSS_COUNT + 1) % 2 ^ 32) ∧
  (∀ (s : State) (n : Fin 192) (l c : Fin 4), s.pst n = .up → (rd s (ephyB n) R.EPHY_STATUS_LANES = 2 ^ l.val) →
    (rd s (ephyB n) R.EPHY_STATUS_GOOD = 2 ^ l.val) → logicalLane s n l = l → Leads (.laneLost n l c 0) s fun t =>
    t.pst n = .lock ∧ (t.port n).lossAt = some s.tick ∧ rd t (ephyB n) R.EPHY_DOWN_CNT_COUNT = satU 32 (rd s (ephyB
    n) R.EPHY_DOWN_CNT_COUNT + 1) % 2 ^ 32) ∧
  (∀ (s : State) (n : Fin 192) (r : WidthReq), (s.port n).wreq = some r → r.acked = false → r.resent = false →
    r.sentAt + 2 * us ≤ s.tick → s.tick < r.sentAt + 10 * us → Leads (.widthAckTimeout n) s fun t => (t.port
    n).wreq = some { r with resent := true } ∧ t.regs = s.regs) ∧
  (∀ (s : State) (n : Fin 192) (r : WidthReq), (s.port n).wreq = some r → r.acked = false → r.sentAt + 10 * us ≤
    s.tick → s.pst n = .up → Leads (.widthAckTimeout n) s fun t => (t.port n).wreq = none ∧ t.pst n = .lock ∧
    (t.port n).lossAt = some s.tick) ∧
  (∀ (s : State) (n : Fin 192) (a : Nat), (s.port n).lossAt = some a → a + max 1 rd s (ephyB n) R.EPHY_CFG_LOSS_MS
    * ms ≤ s.tick → s.chState n ≠ .off → s.chState n ≠ .faulted → Leads (.portLossTimeout n) s fun t => t.chState n
    = .faulted ∧ rd t (chB n) R.CH_STATUS_FAULT = 4 ∧ (t.port n).lossAt = none) ∧
  (∀ (s : State) (n : Fin 192) (l : Fin 4), s.pst n = .up → logicalLane s n l < 4 → tget 0 l (s.port n).back ≠ 0 →
    tget 0 l (s.port n).back + max 1 rd s (ephyB n) R.EPHY_CFG_WIDEN_HOLD * ms ≤ s.tick + 1 → Leads (.laneQualified
    n l) s fun t => rdB t (laneB n l) R.EPHY_LSTAT_EXCLUDED = false ∧ isGood t n (logicalLane s n l) = true ∧ tget
    0 l (t.port n).back = 0) ∧
  (∀ (s : State) (n : Fin 192) (f : List Nat), Leads (.fomUpdate n f) s fun t => ∀ l < 4, rd t (laneB n l)
    R.EPHY_LSTAT_FOM = (if rdB s (laneB n l) R.EPHY_LSTAT_LOCK = true then f.getD l 0 % 256 else 0)) ∧
  (∀ (s : State) (n : Fin 192) (l : Fin 4), carries s n = true → laneUsed s n (logicalLane s n l) = true → tget 0 l
    (s.port n).fomLow ≠ 0 → tget 0 l (s.port n).fomLow + 100 * ms ≤ s.tick + 1 → Leads (.laneMarginal n l) s fun t
    => rdB t (laneB n l) R.EPHY_LSTAT_MARGINAL = true ∧ t.pst n = s.pst n) ∧
  (∀ (s : State) (n : Fin 192), carries s n = true → rdB s (ephyB n) R.EPHY_STATUS_RX_IDLE = false → (s.chState n =
    .off ∨ s.chState n = .faulted) → Leads (.rxIdleEnter n) s fun t => rdB t (ephyB n) R.EPHY_STATUS_RX_IDLE = true
    ∧ t.pst n = s.pst n ∧ ∀ l < 4, rdB t (laneB n l) R.EPHY_LSTAT_LOCK = false ∧ rdB t (laneB n l)
    R.EPHY_LSTAT_DESKEWED = false) ∧
  (∀ (s : State) (n : Fin 192), s.pst n = .up → rdB s (ephyB n) R.EPHY_STATUS_RX_IDLE = false → s.chState n ≠ .off
    → s.chState n ≠ .faulted → Leads (.rxIdleEnter n) s fun t => t.pst n = .lock ∧ (t.port n).lossAt = some s.tick
    ∧ rd t (ephyB n) R.EPHY_DOWN_CNT_COUNT = satU 32 (rd s (ephyB n) R.EPHY_DOWN_CNT_COUNT + 1) % 2 ^ 32) ∧
  (∀ (s : State) (n : Fin 192), carries s n = true → rdB s (ephyB n) R.EPHY_STATUS_RX_IDLE = true → Leads (.rxWake
    n) s fun t => rdB t (ephyB n) R.EPHY_STATUS_RX_IDLE = false ∧ (t.port n).wakeAt = some s.tick ∧ t.pst n = s.pst
    n) ∧
  (∀ (s : State) (n : Fin 192) (a l : Nat), (s.port n).wakeAt = some a → a + 100 * us ≤ s.tick → s.pst n = .up → l
    < 4 → laneUsed s n (logicalLane s n l) = true → rdB s (laneB n l) R.EPHY_LSTAT_LOCK = false → Leads
    (.wakeTimeout n) s fun t => t.pst n = .lock ∧ (t.port n).wakeAt = none ∧ rd t (ephyB n) R.EPHY_DOWN_CNT_COUNT =
    satU 32 (rd s (ephyB n) R.EPHY_DOWN_CNT_COUNT + 1) % 2 ^ 32) ∧
  (∀ (s : State) (n : Fin 192) (a : Nat), (s.port n).wakeAt = some a → a + 100 * us ≤ s.tick → (∀ l ∈ laneNums,
    laneUsed s n (logicalLane s n l) = true → rdB s (laneB n l) R.EPHY_LSTAT_LOCK = true ∧ rdB s (laneB n l)
    R.EPHY_LSTAT_DESKEWED = true) → Leads (.wakeTimeout n) s fun t => (t.port n).wakeAt = none ∧ t.regs = s.regs)

/-- What a head sends, and what becomes of the requests to it: answers, records, PARK, retrain and width requests, pass-through (R565, R572, R573, R574, R576, R580, R585, R588, R589, R590, R593, R846). -/
def Obligations.HeadMessages : Prop :=
  (∀ (s : State) (n : Fin 192) (g q : Fin 256) (ws : List Nat) (r : CfgReq), carries s n = true → q ≤ 3 → ((s.port
    n).cfg.find? (fun x => x.tag == g.val) = some r) → r.pass = true → Leads (.cfgResp n true g q ws) s fun t =>
    rdB t (chB n) R.EPROT_PASS_STAT_BUSY = false ∧ rdB t (chB n) R.EPROT_PASS_STAT_DONE = true ∧ rd t (chB n)
    R.EPROT_PASS_STAT_STATUS = q.val ∧ ∀ i < 16, i < ws.length → rd t (chB n) R.EPROT_PASS_DATA_DATA i = ws.getD i
    0 % 2 ^ 32) ∧
  (∀ (s : State) (n : Fin 192) (g q : Fin 256) (ws : List Nat) (r : CfgReq), carries s n = true → q ≤ 3 → q ≠ 0 →
    ((s.port n).cfg.find? (fun x => x.tag == g.val) = some r) → r.pass = false → r.write = false → (s.port n).ident
    = .reading → Leads (.cfgResp n true g q ws) s fun t => (t.port n).ident = .rejected ∧ rd t (chB n)
    R.EPROT_STATUS_REJECT = 5) ∧
  (∀ (s : State) (n : Fin 192) (g q : Fin 256) (ws : List Nat) (r : CfgReq), carries s n = true → q ≤ 3 → q ≠ 0 →
    ((s.port n).cfg.find? (fun x => x.tag == g.val) = some r) → r.pass = false → r.write = true → (r.addr = 0x100 ∨
    r.addr = 0x104 ∨ r.addr = 0x108) → (s.port n).ident = .yes → Leads (.cfgResp n true g q ws) s fun t => rdB t
    (chB n) R.EPROT_STATUS_FMT_REJECTED = true ∧ (t.port n).fmtBad = true) ∧
  (∀ (s : State) (n : Fin 192) (g q : Fin 256) (ws : List Nat) (r : CfgReq), carries s n = true → q ≤ 3 → ((s.port
    n).cfg.find? (fun x => x.tag == g.val) = some r) → Leads (.cfgResp n false g q ws) s fun t => rd t (chB n)
    R.EPROT_RX_ERR_CNT_COUNT = satU 32 (rd s (chB n) R.EPROT_RX_ERR_CNT_COUNT + 1) % 2 ^ 32 ∧ (t.port n).cfg =
    (s.port n).cfg) ∧
  (∀ (s : State) (n : Fin 192) (g : Fin 256) (r : CfgReq), ((s.port n).cfg.find? (fun x => x.tag == g.val) = some
    r) → packetsOn s n = true → r.sent + 100 * us ≤ s.tick → r.resent = false → Leads (.cfgTimeout n g) s fun t =>
    (t.port n).cfg = (s.port n).cfg.map (fun x => if x.tag = g.val then { x with resent := true, sent := s.tick }
    else x) ∧ t.regs = s.regs) ∧
  (∀ (s : State) (n : Fin 192) (g : Fin 256) (r : CfgReq), ((s.port n).cfg.find? (fun x => x.tag == g.val) = some
    r) → packetsOn s n = true → r.sent + 100 * us ≤ s.tick → r.resent = true → r.pass = true → Leads (.cfgTimeout n
    g) s fun t => rd t (chB n) R.EPROT_CFG_TO_CNT_COUNT = satU 32 (rd s (chB n) R.EPROT_CFG_TO_CNT_COUNT + 1) % 2 ^
    32 ∧ rdB t (chB n) R.EPROT_PASS_STAT_BUSY = false ∧ rd t (chB n) R.EPROT_PASS_STAT_STATUS = 0xFF) ∧
  (∀ (s : State) (n : Fin 192), rdB s (chB n) R.EPROT_PASS_STAT_BUSY = false → rdB s (chB n)
    R.EPROT_PASS_CTRL_WRITE = true → rd s (chB n) R.EPROT_PASS_CTRL_ADDR < 0x8000 → Leads (.passThroughRequest n) s
    fun t => rdB t (chB n) R.EPROT_STATUS_WRITE_REJECTED = true ∧ t.ports = s.ports) ∧
  (∀ (s : State) (n : Fin 192), rdB s (chB n) R.EPROT_PASS_STAT_BUSY = false → (rdB s (chB n)
    R.EPROT_PASS_CTRL_WRITE = false ∨ 0x8000 ≤ rd s (chB n) R.EPROT_PASS_CTRL_ADDR) → Leads (.passThroughRequest n)
    s fun t => rdB t (chB n) R.EPROT_PASS_STAT_BUSY = true ∧ (t.port n).cfg.length + (t.port n).cfgWait.length =
    (s.port n).cfg.length + (s.port n).cfgWait.length + 1) ∧
  (∀ (s : State) (n : Fin 192) (b : Nat), carries s n = true → Leads (.telemPacket n false b) s fun t => rd t (chB
    n) R.EPROT_RX_ERR_CNT_COUNT = satU 32 (rd s (chB n) R.EPROT_RX_ERR_CNT_COUNT + 1) % 2 ^ 32) ∧
  (∀ (s : State) (n : Fin 192) (b : Nat), carries s n = true → b ≠ 0 → Leads (.telemPacket n true b) s fun t => rd
    t (chB n) R.EPROT_RX_ERR_CNT_COUNT = satU 32 (rd s (chB n) R.EPROT_RX_ERR_CNT_COUNT + b) % 2 ^ 32) ∧
  (∀ (s : State) (n : Fin 192) (f : Fin 8) (x v : Fin 65536) (a b c : Fin 256), carries s n = true → Leads
    (.statusRecord n f x v a b c) s fun t => (rdB t (chB n) R.EPROT_STATUS_PARKED, rdB t (chB n)
    R.EPROT_STATUS_HT_LOCK, rdB t (chB n) R.EPROT_STATUS_HEAD_FAULT, rdB t (chB n) R.EPROT_STATUS_TEL_STALE) =
    (bitOf f 0, bitOf f 1, bitOf f 2, false) ∧ rd t (chB n) R.EPROT_HEAD_ERR_CNT_COUNT = satU 32 (rd s (chB n)
    R.EPROT_HEAD_ERR_CNT_COUNT + (a + b + c)) % 2 ^ 32 ∧ ((t.port n).telAt, (t.port n).arrayT, (t.port n).supply) =
    (s.tick + 1, sext 16 x, v.val)) ∧
  (∀ (s : State) (n : Fin 192) (ts : List Nat), carries s n = true → headStrings s n ≤ 6 → Leads (.lampTempRecord n
    ts) s fun t => ∀ k < 6, k < headStrings s n → k < ts.length → (t.str n k).prevTel = some (sext 16 (ts.getD k 0
    % 65536)) ∧ (t.str n k).telAt = s.tick) ∧
  (∀ (s : State) (n : Fin 192) (a : Nat) (j : Fin 8) (v p h : Nat), carries s n = true → ((s.port n).scheds.getD j
    (0, 0, 0) = (p, h, 2 ^ 17)) → p ≠ 0 → Leads (.tickRecord n a j [v]) s fun t => rd t (chB n) R.MOVE_WSPEED_MEAS
    = v % 65536 ∧ (t.move n).speedAt = some s.ht) ∧
  (∀ (s : State) (n : Fin 192) (a : Nat) (j : Fin 8) (vs : List Nat), carries s n = true → (vs.length ≠ (bitList 21
    ((s.port n).scheds.getD j (0, 0, 0)).2.2).length) → Leads (.tickRecord n a j vs) s fun t => t.regs = s.regs ∧
    t.slots = s.slots ∧ t.moves = s.moves) ∧
  (∀ (s : State) (n : Fin 192) (g : Fin 256) (v i : Fin 65536) (xs : List Nat) (o : SampleOut), carries s n = true
    → ((s.port n).samples.find? (fun x => x.stag == g.val) = some o) → (s.weir n).curFno ≤ o.fno + 1 → o.str < 6 →
    rd s (chB n) R.LAMP_DET_CFG_IMIN ≤ o.cur → Leads (.sampleRecord n g v i xs) s fun t => (rd t (strB n o.str)
    R.LAMP_SSAMPLE_V, rd t (strB n o.str) R.LAMP_SSAMPLE_I) = (v.val, i.val) ∧ (t.port n).samples = (s.port
    n).samples.filter (fun x => x.stag != g.val)) ∧
  (∀ (s : State) (n : Fin 192) (h : Nat) (f : Fin 16) (i p : Nat) (d : Int), carries s n = true → (prediction s n =
    some (i, p)) → (d = 16 * h + f - 16 * i) → Leads (.indexRecord n h f 0) s fun t => (t.move n).predWait = false
    ∧ (t.move n).epsNum = d - 16 * p * ((2 * d + 16 * p) / (32 * p)) ∧ (t.move n).epsDen = 16 * p) ∧
  (∀ (s : State) (n : Fin 192) (i : Fin 16) (a b : Bool) (g : Fin 256) (m : Fin 4096), carries s n = true → Leads
    (.driverRecord n i a b g m) s fun t => ((t.drv n i).present, (t.drv n i).high, (t.drv n i).tag) = (a, b, g.val)
    ∧ (a = false → i < rillLen s n → drvString s n i < headStrings s n → bitOf (t.str n (drvString s n i)).cuts 3 =
    true)) ∧
  (∀ (s : State) (n : Fin 192) (f : List Nat), carries s n = true → Leads (.linkqRecord n f) s fun t => ∀ l < 4, rd
    t (laneB n l) R.EPHY_LFAR_FOM = f.getD (logicalLane s n l) 0 % 256) ∧
  (∀ (s : State) (n : Fin 192) (c : Fin 65536), carries s n = true → c ≠ 0 → exec (.faultRecord n c) s = .next
    (done (raise 0x0C07 n c.val) s)) ∧
  (∀ (s : State) (n : Fin 192) (a : Nat), rdB s (chB n) R.EPROT_STATUS_TEL_STALE = false → a = max (s.port n).telAt
    (if s.pst n = .up then (s.port n).stAt + 1 else 0) → a ≠ 0 → a + max 1 rd s (chB n) R.EPROT_CFG_STALE * ms ≤
    s.tick + 1 → Leads (.telemStale n) s fun t => rdB t (chB n) R.EPROT_STATUS_TEL_STALE = true ∧ rd t (chB n)
    R.EPROT_STALE_CNT_COUNT = satU 32 (rd s (chB n) R.EPROT_STALE_CNT_COUNT + 1) % 2 ^ 32) ∧
  (∀ (s : State) (n : Fin 192) (q : Fin 256), s.pst n = .ident → (s.port n).ident = .parking → (s.port n).parkWait
    = true → (s.port n).parkSeq = q.val → Leads (.parkAck n true q) s fun t => t.pst n = .up ∧ (t.port n).ident =
    .yes ∧ rdB t (chB n) R.EPROT_STATUS_IDENTIFIED = true ∧ rd t (chB n) R.EPROT_IDENT_CNT_COUNT = satU 32 (rd s
    (chB n) R.EPROT_IDENT_CNT_COUNT + 1) % 2 ^ 32) ∧
  (∀ (s : State) (n : Fin 192) (q : Fin 256), s.pst n = .up → s.chState n = .draining → (s.weir n).parkSent = true
    → (s.port n).parkWait = true → (s.port n).parkSeq = q.val → Leads (.parkAck n true q) s fun t => t.chState n =
    .off) ∧
  (∀ (s : State) (n : Fin 192), (s.port n).parkWait = true → linkTrained s n = true → (s.port n).parkLast + 100 *
    us ≤ s.tick → s.tick < (s.port n).parkFirst + 10 * ms → Leads (.parkResend n) s fun t => (t.port n).parkLast =
    s.tick ∧ (t.port n).parkWait = true ∧ t.regs = s.regs) ∧
  (∀ (s : State) (n : Fin 192), (s.port n).parkWait = true → (s.port n).parkFirst + 10 * ms ≤ s.tick → Leads
    (.parkTimeout n) s fun t => (t.port n).parkWait = false ∧ rd t (chB n) R.EPROT_PARK_TO_CNT_COUNT = satU 32 (rd
    s (chB n) R.EPROT_PARK_TO_CNT_COUNT + 1) % 2 ^ 32) ∧
  (∀ (s : State) (n : Fin 192) (m : Fin 16) (q : Fin 256), s.pst n = .up → ((s.port n).headSet ≠ some (1, m.val,
    q.val)) → ownRequest s n = false → Leads (.retrainReq n true m q) s fun t => t.pst n = .lock ∧ rd t (ephyB n)
    R.EPHY_DOWN_CNT_COUNT = satU 32 (rd s (ephyB n) R.EPHY_DOWN_CNT_COUNT + 1) % 2 ^ 32) ∧
  (∀ (s : State) (n : Fin 192) (m : Fin 16) (q : Fin 256), s.pst n = .up → ((s.port n).headSet ≠ some (1, m.val,
    q.val)) → ownRequest s n = true → Leads (.retrainReq n true m q) s fun t => (t.port n).headRetrain = some
    (m.val, q.val) ∧ t.pst n = .up) ∧
  (∀ (s : State) (n : Fin 192) (m : Fin 16) (q : Fin 256) (l : Nat), carries s n = true → ((s.port n).headSet ≠
    some (3, m.val, q.val)) → l < 4 → isGood s n (logicalLane s n l) = true → laneUsed s n (logicalLane s n l) =
    true → bitOf m (logicalLane s n l) = false → Leads (.widthReq n true m q) s fun t => isGood t n (logicalLane s
    n l) = false) ∧
  (∀ (s : State) (n : Fin 192) (q : Fin 256) (r : WidthReq), carries s n = true → (s.port n).wreq = some r → Leads
    (.widthAck n true q) s fun t => (t.port n).wreq = some (if r.seq = q.val then { r with acked := true } else r)
    ∧ t.regs = s.regs) ∧
  (∀ (s : State) (n : Fin 192) (q : Fin 256), (s.port n).rreq = some q.val → (s.port n).headRetrain = none → Leads
    (.retrainAck n true q) s fun t => (t.port n).rreq = none ∧ t.regs = s.regs)

/-- DRAM requests and the memory controllers' events: data read and written, refresh, pauses, self-refresh, retraining, migration (R4, R602, R605, R610, R612, R614, R618, R623, R624, R626, R627, R628). -/
def Obligations.MemoryControllers : Prop :=
  (∀ (s : State) (a : Fin 35184372088832) (l : Fin 65537) (x : Asker) (k : Bool) (b f : Nat), isIdentity x.src =
    true → MemoryFree s a l x.src → Leads (.dramRead a l x k b [] f false) s fun t => Out.dramData a (loadBytes s a
    l) false ∈ t.out) ∧
  (∀ (s : State) (a : Fin 35184372088832) (l : Fin 65537) (x : Asker) (k : Bool) (b f : Nat), isIdentity x.src =
    false → Leads (.dramRead a l x k b [] f false) s fun t => t.dreqs = s.dreqs ∧ t.regs = s.regs) ∧
  (∀ (s : State) (a : Fin 35184372088832) (l : List Byte) (x : Asker) (k : Bool) (f : Nat), isIdentity x.src = true
    → MemoryFree s a l.length x.src → Leads (.dramWrite a l x k [] f) s fun t => loadBytes t a l.length = l) ∧
  (∀ (s : State) (a : Fin 35184372088832) (l : List Byte) (x : Asker) (k : Bool) (f : Nat), isIdentity x.src = true
    → agentDie x.src ≠ some (dieOf a) → s.tick < tget 0 (dieOf a) s.swBusy → Leads (.dramWrite a l x k [] f) s fun
    t => t.dreqs.map (fun r => (r.addr, r.bytes)) = s.dreqs.map (fun r => (r.addr, r.bytes)) ++ [(a.val, l)] ∧
    t.regs = s.regs) ∧
  (∀ (s : State) (a : Fin 35184372088832) (l : List Byte) (x : Asker) (k : Bool) (f : Nat), isIdentity x.src = true
    → MemoryFree s a (withinGranule a l).length x.src → Leads (.dramPartialWrite a l x k none f) s fun t =>
    loadBytes t a (withinGranule a l).length = withinGranule a l) ∧
  (∀ (s : State) (i : Nat) (r : DramReq), (s.dreqs[i]? = some r) → 5 ≤ r.level → r.since + ms ≤ s.tick → Leads
    (.requestAged i) s fun t => t.dreqs = s.dreqs.eraseIdx i ++ [{ r with level := 4 }]) ∧
  (∀ (s : State) (d : Fin 4) (m : Fin 8) (r : Fin 4), ddrState s d m = 2 → tget 0 r (s.ddr d m).refAt ≤ s.tick →
    (s.ddr d m).pause = none → Leads (.refreshDue d m r) s fun t => tget 0 r (t.ddr d m).refAt = s.tick + trefi s d
    m ∧ (t.ddr d m).pages = (s.ddr d m).pages.filter (fun p => p.1 / 64 != r.val) ∧ (t.ddr d m).held = (s.ddr d
    m).held) ∧
  (∀ (s : State) (d : Fin 4) (m : Fin 8) (r : Fin 4), ddrState s d m = 2 → tget 0 r (s.ddr d m).refAt ≤ s.tick →
    (s.ddr d m).pause ≠ none → Leads (.refreshDue d m r) s fun t => (t.ddr d m).held = (s.ddr d m).held ++ [r.val]
    ∧ (t.ddr d m).pages = (s.ddr d m).pages) ∧
  (∀ (s : State) (d : Fin 4) (m : Fin 8) (r : Fin 4), ddrState s d m = 2 → (s.ddr d m).pause = none → tget 0 r
    (s.ddr d m).trainAt ≤ s.tick → Leads (.retrainPauseDue d m r true) s fun t => (t.ddr d m).pause = some r.val ∧
    tget 0 r (t.ddr d m).trainAt = s.tick + trainPeriod s d ∧ rd t (ddrB d m) R.DDR_PAUSE_CNT_COUNT = satU 32 (rd s
    (ddrB d m) R.DDR_PAUSE_CNT_COUNT + 1) % 2 ^ 32) ∧
  (∀ (s : State) (d : Fin 4) (m : Fin 8) (r : Fin 4), ddrState s d m = 2 → (s.ddr d m).pause ≠ some r.val → tget 0
    r (s.ddr d m).trainAt ≤ s.tick → ((s.ddr d m).waits.any (fun w => w.1 == r.val) = false) → Leads
    (.retrainPauseDue d m r false) s fun t => (t.ddr d m).waits = (s.ddr d m).waits ++ [(r.val, s.tick)] ∧ (t.ddr d
    m).pause = (s.ddr d m).pause) ∧
  (∀ (s : State) (d : Fin 4) (m : Fin 8), (s.ddr d m).pause ≠ none → Leads (.retrainPauseEnd d m false) s fun t =>
    (t.ddr d m).pause = none ∧ (t.ddr d m).held = []) ∧
  (∀ (s : State) (d : Fin 4) (m : Fin 8), (s.ddr d m).pause ≠ none → Leads (.retrainPauseEnd d m true) s fun t =>
    (t.ddr d m).pause = none ∧ ddrState t d m = 4 ∧ rd t (ddrB d m) R.DDR_HARD_RETRAIN_CNT_COUNT = satU 32 (rd s
    (ddrB d m) R.DDR_HARD_RETRAIN_CNT_COUNT + 1) % 2 ^ 32) ∧
  (∀ (s : State) (d : Fin 4) (m : Fin 8) (r : Fin 4) (w : Nat × Nat), ddrState s d m = 2 → (s.ddr d m).pause = none
    → ((s.ddr d m).waits.find? (fun x => x.1 == r.val) = some w) → w.2 + ms * max 1 (rd s (ddrDieB d)
    R.DDR_DIE_TRAIN_OVERDUE) ≤ s.tick → Leads (.pauseForced d m r) s fun t => (t.ddr d m).pause = some r.val ∧ rd t
    (ddrB d m) R.DDR_PAUSE_FORCED_CNT_COUNT = satU 32 (rd s (ddrB d m) R.DDR_PAUSE_FORCED_CNT_COUNT + 1) % 2 ^ 32) ∧
  (∀ (s : State) (d : Fin 4) (m : Fin 8) (b : Bool), idleEnough s d m b = true → Leads (.selfRefreshEntry d m b) s
    fun t => ddrState t d m = 3 ∧ (t.ddr d m).wq = [] ∧ rd t (ddrB d m) R.DDR_SR_CNT_COUNT = satU 32 (rd s (ddrB d
    m) R.DDR_SR_CNT_COUNT + 1) % 2 ^ 32) ∧
  (∀ (s : State) (d : Fin 4) (m : Fin 8) (b : Bool), idleEnough s d m b = false → Leads (.selfRefreshEntry d m b) s
    fun t => t.regs = s.regs ∧ t.ddrs = s.ddrs) ∧
  (∀ (s : State) (d : Fin 4) (m : Fin 8) (k : Fin 256) (g : Nat), ddrState s d m ≠ 0 → ddrState s d m ≠ 5 → Leads
    (.ddrAlert d m k false g) s fun t => rd t (ddrB d m) R.DDR_ALERT_CNT_COUNT = satU 32 (rd s (ddrB d m)
    R.DDR_ALERT_CNT_COUNT + (1 + g)) % 2 ^ 32 ∧ ddrState t d m = ddrState s d m ∧ (t.ddr d m).alerts = 0) ∧
  (∀ (s : State) (d : Fin 4) (m : Fin 8) (k : Fin 256) (g : Nat), ddrState s d m = 2 → max 1 (rd s (ddrDieB d)
    R.DDR_DIE_RAS1_REPLAY_MAX) ≤ (s.ddr d m).alerts + 1 → Leads (.ddrAlert d m k true g) s fun t => ddrState t d m
    = 4 ∧ rd t (ddrB d m) R.DDR_HARD_RETRAIN_CNT_COUNT = satU 32 (rd s (ddrB d m) R.DDR_HARD_RETRAIN_CNT_COUNT + 1)
    % 2 ^ 32) ∧
  (∀ (s : State) (d : Fin 4) (m : Fin 8), ddrState s d m = 4 → Leads (.fullRetrainDone d m true) s fun t =>
    ddrState t d m = 2) ∧
  (∀ (s : State) (d : Fin 4) (m : Fin 8), ddrState s d m = 4 → Leads (.fullRetrainDone d m false) s fun t =>
    ddrState t d m = 5 ∧ epoch t 4 (8 * d + m) = (epoch s 4 (8 * d + m) + 1) % 65536) ∧
  (∀ (s : State) (d : Fin 4) (m : Fin 8), Leads (.ddrThermalRead d m none) s fun t => rd t (ddrB d m)
    R.DDR_STATUS_BAND = 4 ∧ rdB t (ddrB d m) R.DDR_STATUS_THERM_FAIL = true) ∧
  (∀ (s : State) (d : Fin 4) (m : Fin 8) (x : Int), rd s (ddrB d m) R.DDR_STATUS_BAND ≤ 4 → Leads (.ddrThermalRead
    d m (some x)) s fun t => rd t (ddrB d m) R.DDR_STATUS_BAND = moveBand bandBounds (rd s (ddrB d m)
    R.DDR_STATUS_BAND) x ∧ rdB t (ddrB d m) R.DDR_STATUS_THERM_FAIL = false) ∧
  (∀ (s : State) (d : Fin 4), rdB s (ddrDieB d) R.DDR_DIE_STATUS_INIT_DONE = false → rdB s (ddrDieB d)
    R.DDR_DIE_STATUS_MEM_OK = true → Leads (.initBlockDone d) s fun t => (t.die d).initNext = initSkip (s.die
    d).initOut (s.die d).initOut.length ((s.die d).initNext + 1)) ∧
  (∀ (s : State) (d : Fin 4) (m : Fin 8), scrubs s d m = true → Leads (.scrubPassEnd d m) s fun t => rd t (ddrB d
    m) R.DDR_SCRUB_PASS_CNT_COUNT = satU 32 (rd s (ddrB d m) R.DDR_SCRUB_PASS_CNT_COUNT + 1) % 2 ^ 32) ∧
  (∀ (s : State) (d : Fin 4), (s.die d).leakAt + second * max 1 (rd s (ddrDieB d) R.DDR_DIE_RAS0_LEAK) ≤ s.tick →
    Leads (.bucketLeak d) s fun t => (t.die d).leakAt = s.tick ∧ ∀ j < 8, ∀ r < 4, rd t (ddrB d j)
    R.DDR_RANK_BUCKET r = (rd s (ddrB d j) R.DDR_RANK_BUCKET r - 1) % 2 ^ 16) ∧
  (∀ (s : State) (d : Fin 4) (m : Fin 8) (r : Fin 4), spareReady s d m = true → bitOf (rd s (ddrB d m)
    R.DDR_STATUS_IN_SERVICE) r = true → Leads (.ddrMigrate d m r) s fun t => rdB t (ddrB d m)
    R.DDR_STATUS_MIGRATING = true ∧ rd t (ddrB d m) R.DDR_MIG_FROM = r.val ∧ rd t (ddrB d m) R.DDR_MIG_TO = rd s
    (ddrB d m) R.DDR_STATUS_SPARE % 4) ∧
  (∀ (s : State) (d : Fin 4) (m : Fin 8) (r : Fin 4), (spareReady s d m = false ∨ bitOf (rd s (ddrB d m)
    R.DDR_STATUS_IN_SERVICE) r = false) → Leads (.ddrMigrate d m r) s fun t => rdB t (ddrB d m)
    R.DDR_STATUS_WRITE_REJECTED = true ∧ rdB t (ddrB d m) R.DDR_STATUS_MIGRATING = rdB s (ddrB d m)
    R.DDR_STATUS_MIGRATING) ∧
  (∀ (s : State) (d : Fin 4) (m : Fin 8) (f o : Nat), rdB s (ddrB d m) R.DDR_STATUS_MIGRATING = true → f = rd s
    (ddrB d m) R.DDR_MIG_FROM → o = rd s (ddrB d m) R.DDR_MIG_TO → f < 4 → o < 4 → f ≠ o → Leads (.rankMigrationEnd
    d m) s fun t => rdB t (ddrB d m) R.DDR_STATUS_MIGRATING = false ∧ rdB t (ddrB d m) R.DDR_RANK_OUT f = true ∧
    bitOf (rd t (ddrB d m) R.DDR_STATUS_IN_SERVICE) f = false ∧ bitOf (rd t (ddrB d m) R.DDR_STATUS_IN_SERVICE) o =
    true ∧ (t.ddr d m).ranks = (physRanks s d m).map (fun r => if r = f then o else r)) ∧
  (∀ (s : State) (d : Fin 4) (h l : Fin 64), l < h → Leads (.ddrDieWqWrite d h l) s fun t => rd t (ddrDieB d)
    R.DDR_DIE_WQ_HIGH = h.val ∧ rd t (ddrDieB d) R.DDR_DIE_WQ_LOW = l.val) ∧
  (∀ (s : State) (d : Fin 4) (h l : Fin 64), h ≤ l → Leads (.ddrDieWqWrite d h l) s fun t => rdB t (ddrDieB d)
    R.DDR_DIE_STATUS_WRITE_REJECTED = true ∧ rd t (ddrDieB d) R.DDR_DIE_WQ_HIGH = rd s (ddrDieB d)
    R.DDR_DIE_WQ_HIGH)

/-- Rings are enabled, moved, stopped and signalled; apertures, segments, capacities, event rings, and the resets of functions (R638, R639, R640, R642, R644, R645, R646, R647, R648, R676, R681, R682). -/
def Obligations.RingsAndTheHostSide : Prop :=
  (∀ (s : State) (f : Fin 257) (r : Fin 16), ringExists s f r = true → ringOn s f r = false → ringFits s f r = true
    → Leads (.ringEnable f r) s fun t => (rd t (ringB f r) R.SLUICE_SQ_HEAD_HEAD, rd t (ringB f r)
    R.SLUICE_SQ_TAIL_TAIL, rd t (ringB f r) R.SLUICE_CQ_HEAD_HEAD) = (0, 0, 0)) ∧
  (∀ (s : State) (f : Fin 257) (r : Fin 16), ringExists s f r = true → ringOn s f r = false → ringFits s f r = true
    → (ringSt s f r).held = [] → Leads (.ringEnable f r) s fun t => rdB t (ringB f r) R.SLUICE_RING_CFG_EN = true ∧
    rdB t (ringB f r) R.SLUICE_RING_STATUS_RUN = true ∧ rdB t (ringB f r) R.SLUICE_RING_STATUS_BASE_ERR = false ∧
    (rd t (ringB f r) R.SLUICE_CQ_TAIL_TAIL, rd t (ringB f r) R.SLUICE_CQ_TAIL_PHASE) = (0, 1)) ∧
  (∀ (s : State) (f : Fin 257) (r : Fin 16), ringExists s f r = true → ringOn s f r = false → ringFits s f r =
    false → Leads (.ringEnable f r) s fun t => rdB t (ringB f r) R.SLUICE_RING_CFG_EN = false ∧ rdB t (ringB f r)
    R.SLUICE_RING_STATUS_RUN = false ∧ rdB t (ringB f r) R.SLUICE_RING_STATUS_BASE_ERR = true) ∧
  (∀ (s : State) (f : Fin 257) (r : Fin 16), ringExists s f r = true → Leads (.ringDisable f r) s fun t => rdB t
    (ringB f r) R.SLUICE_RING_CFG_EN = false ∧ rdB t (ringB f r) R.SLUICE_RING_STATUS_RUN = false) ∧
  (∀ (s : State) (f : Fin 257) (r : Fin 16) (v : Nat), ringExists s f r = true → v < sqSize s f r → Leads
    (.sqDoorbell f r v) s fun t => rd t (ringB f r) R.SLUICE_SQ_TAIL_TAIL = v ∧ rdB t (ringB f r)
    R.SLUICE_RING_STATUS_WRITE_REJECTED = rdB s (ringB f r) R.SLUICE_RING_STATUS_WRITE_REJECTED) ∧
  (∀ (s : State) (f : Fin 257) (r : Fin 16) (v : Nat), ringExists s f r = true → sqSize s f r ≤ v → Leads
    (.sqDoorbell f r v) s fun t => rdB t (ringB f r) R.SLUICE_RING_STATUS_WRITE_REJECTED = true ∧ rd t (ringB f r)
    R.SLUICE_SQ_TAIL_TAIL = rd s (ringB f r) R.SLUICE_SQ_TAIL_TAIL) ∧
  (∀ (s : State) (f : Fin 257) (r : Fin 16) (v : Nat), ringExists s f r = false → Leads (.sqDoorbell f r v) s fun t
    => t.regs = s.regs) ∧
  (∀ (s : State) (f : Fin 257) (r : Fin 16), ringOn s f r = true → sqWaits s f r = true → segOk s f false (sqAddr s
    f r) 64 = false → Leads (.ringRightsLost f r) s fun t => rdB t (ringB f r) R.SLUICE_RING_STATUS_RUN = false ∧
    rdB t (ringB f r) R.SLUICE_RING_STATUS_BASE_ERR = true) ∧
  (∀ (s : State) (f : Fin 257) (r : Fin 16), segOk s f false (sqAddr s f r) 64 = true → segOk s f true (cqBase s f
    r + 32 * rd s (ringB f r) R.SLUICE_CQ_TAIL_TAIL) 32 = true → Leads (.ringRightsLost f r) s fun t => t.regs =
    s.regs ∧ t.rings = s.rings) ∧
  (∀ (s : State) (f : Fin 257) (r : Fin 16) (v : Nat), ringExists s f r = true → Leads (.cqHeadWrite f r v) s fun t
    => rd t (ringB f r) R.SLUICE_CQ_HEAD_HEAD = v % 65536) ∧
  (∀ (s : State) (f : Fin 257) (r : Fin 16), rd s (ringB f r) R.SLUICE_CQ_IRQ_TIME ≠ 0 → (ringSt s f r).unsig ≠ 0 →
    (ringSt s f r).unsigAt + rd s (ringB f r) R.SLUICE_CQ_IRQ_TIME * us ≤ s.tick → Leads (.cqIrqTimer f r) s fun t
    => (ringSt t f r).unsig = 0 ∧ Out.msix f (min (lastVec f) (rd s (ringB f r) R.SLUICE_RING_CFG_VEC)) ∈ t.out) ∧
  (∀ (s : State) (f : Fin 257) (o : Nat) (l : List Byte), fnUp s f = true → aptWriteOk f o l.length = true → segOk
    s f true (aptOf s f + o) l.length = true → MemoryFree s (aptOf s f + o) l.length f → Leads (.apertureWrite f o
    l) s fun t => loadBytes t (aptOf s f + o) l.length = l) ∧
  (∀ (s : State) (f : Fin 257) (o : Nat) (l : Fin 4097), fnUp s f = true → aptReadOk f o l = true → segOk s f false
    (aptOf s f + o) l = true → MemoryFree s (aptOf s f + o) l f → Leads (.apertureRead f o l) s fun t =>
    Out.apertureData f (loadBytes s (aptOf s f + o) l) false ∈ t.out) ∧
  (∀ (s : State) (f : Fin 257) (o : Nat) (l : Fin 4097), fnUp s f = true → aptReadOk f o l = true → segOk s f false
    (aptOf s f + o) l = false → tget 0 (dieOf (aptOf s f + o)) s.swBusy ≤ s.tick → Leads (.apertureRead f o l) s
    fun t => Out.apertureData f (List.replicate l 0xFF) false ∈ t.out ∧ rd t (tenB f) R.SLUICE_TAPT_FAULT_CNT_COUNT
    = satU 32 (rd s (tenB f) R.SLUICE_TAPT_FAULT_CNT_COUNT + 1) % 2 ^ 32) ∧
  (∀ (s : State) (f : Fin 257) (v : Nat), fnUp s f = true → Leads (.apertureBaseWrite f v) s fun t => aptOf t f =
    rd s (aptB f) R.SLUICE_APT_LO_APT % 2 ^ 16 * 65536 + v % 2 ^ 13 * 2 ^ 32) ∧
  (∀ (s : State) (f : Fin 257) (e : Fin 256) (v : Nat), f ≠ 0 → Leads (.segmentWrite f e false v) s fun t => (rd t
    (tenB f) R.SLUICE_TSEG0_BASE e, rdB t (tenB f) R.SLUICE_TSEG0_R e, rdB t (tenB f) R.SLUICE_TSEG0_W e, rdB t
    (tenB f) R.SLUICE_TSEG0_V e) = (v % 2 ^ 29, bitOf v 29, bitOf v 30, bitOf v 31)) ∧
  (∀ (s : State) (f : Fin 257) (e : Fin 256) (v : Nat), f ≠ 0 → Leads (.segmentWrite f e true v) s fun t => rd t
    (tenB f) R.SLUICE_TSEG1_LIMIT e = v % 2 ^ 29 ∧ rd t (tenB f) R.SLUICE_TSEG0_BASE e = rd s (tenB f)
    R.SLUICE_TSEG0_BASE e) ∧
  (∀ (s : State) (d : Fin 4) (v : Nat), Leads (.sluiceRateInterval d v) s fun t => (t.die d).traffic = (v :: (s.die
    d).traffic).take 16 ∧ rd t (slDieB d) R.SLUICE_DIE_IDLE_MBPS = satU 20 (allCap s d - sumN ((v :: (s.die
    d).traffic).take 16) / 16) % 2 ^ 20) ∧
  (∀ (s : State) (d : Fin 4) (v : Nat), Leads (.sluiceCapWrite d v) s fun t => (rd t (slDieB d)
    R.SLUICE_DIE_CAP_RES_PCT, rd t (slDieB d) R.SLUICE_DIE_CAP_SCHED_PCT, rd t (slDieB d)
    R.SLUICE_DIE_CAP_LINK_PCT) = (bits v 0 8, bits v 8 8, bits v 16 8)) ∧
  (∀ (s : State) (f : Fin 257), f ≠ 0 → s.evq = [] → fnUp s f = true → rdB s (evRingB f) R.SLUICE_EV_CFG_EN = false
    → segOk s f true (evBase s f) (16 * evSize s f) = true → spanInstalled s (evBase s f) (16 * evSize s f) = true
    → Leads (.eventRingEnable f) s fun t => rdB t (evRingB f) R.SLUICE_EV_CFG_EN = true ∧ evRing t f = {}) ∧
  (∀ (s : State), rdB s (evRingB 0) R.SLUICE_EV_CFG_EN = false → spanInstalled s (evBase s 0) (16 * evSize s 0) =
    true → Leads (.eventRingEnable 0) s fun t => rdB t (evRingB 0) R.SLUICE_EV_CFG_EN = true ∧ t.hub.replay = [] ∧
    t.hub.afterEnable = []) ∧
  (∀ (s : State) (f : Fin 257), fnUp s f = true → rdB s (evRingB f) R.SLUICE_EV_CFG_EN = false → (segOk s f true
    (evBase s f) (16 * evSize s f) = false ∨ spanInstalled s (evBase s f) (16 * evSize s f) = false) → Leads
    (.eventRingEnable f) s fun t => t.regs = s.regs) ∧
  (∀ (s : State) (f : Fin 257) (v : Nat), fnUp s f = true → Leads (.eventRingRead f v) s fun t => (evRing t f).rd =
    v % 65536) ∧
  (∀ (s : State) (f : Fin 257), f ≠ 0 → s.hub.vf = true → Leads (.flrVf f) s fun t => (∀ c ∈ t.cmds, c.fn ≠ f) ∧
    epoch t 5 f = (epoch s 5 f + 1) % 65536 ∧ (∀ n < 192, seqOwner t n = f → ∀ g ∈ s.grants, g.tenant = f.val →
    g.channel ≠ n) ∧ ∀ r < 4, rdB t (ringB f r) R.SLUICE_RING_STATUS_RUN = false) ∧
  (∀ (s : State) (f : Fin 257), (f = 0 ∨ s.hub.vf = false) → Leads (.flrVf f) s fun t => t.regs = s.regs ∧ t.cmds =
    s.cmds ∧ t.grants = s.grants) ∧
  (∀ (s : State) (k : Fin 3), Leads (.pf0LinkReset k) s fun t => t.hub.vf = false ∧ t.cmds.all (fun c => 256 <
    c.fn) = true ∧ t.hub.afterEnable = s.hub.afterEnable ++
    [{ stamp := s.ht, code := 0x0E09, channel := noCh, arg := k + 1 }])

/-- Each ring command that is taken is carried out and completes with its code and reason, or waits for its time (R158, R160, R161, R209, R323, R327, R649, R651, R654, R656, R658, R664). -/
def Obligations.RingCommands : Prop :=
  (∀ (s : State) (f : Fin 257) (r : Fin 16) (e : List Byte), TakesAt s f r e → field e 0 1 = 0 → CqClear s f r →
    Leads (.ringNop f r) s fun t => CompletedWith s t f r e 0 0) ∧
  (∀ (s : State) (f : Fin 257) (r : Fin 16) (e : List Byte), canTake s f r = true → segOk s f false (sqAddr s f r)
    64 = true → poisonedAny s (sqAddr s f r) 64 = false → e = loadBytes s (sqAddr s f r) 64 → opKnown (field e 0 1)
    = false → segOk s f true (cqBase s f r + 32 * rd s (ringB f r) R.SLUICE_CQ_TAIL_TAIL) 32 = true → CqClear s f r
    → Leads (.ringNop f r) s fun t => CompletedWith s t f r e cRights 0x80) ∧
  (∀ (s : State) (f : Fin 257) (r : Fin 16), canTake s f r = true → segOk s f false (sqAddr s f r) 64 = false →
    Leads (.ringNop f r) s fun t => rdB t (ringB f r) R.SLUICE_RING_STATUS_RUN = false ∧ rdB t (ringB f r)
    R.SLUICE_RING_STATUS_BASE_ERR = true ∧ t.cmds = s.cmds) ∧
  (∀ (s : State) (f : Fin 257) (r : Fin 16) (e : List Byte), TakesAt s f r e → field e 0 1 ≠ 1 → Leads (.surfReg f
    r) s fun t => t.regs = s.regs ∧ t.cmds = s.cmds ∧ t.surfs = s.surfs) ∧
  (∀ (s : State) (f : Fin 257) (r : Fin 16) (e : List Byte), TakesAt s f r e → field e 0 1 = 1 → CqClear s f r →
    lowest (surfReasons s f (field e 8 2) ((e.drop 16).take 32)) = 0 → Leads (.surfReg f r) s fun t =>
    CompletedWith s t f r e 0 0 ∧ tget {} (1024 * f + field e 8 2) t.surfs = parseSurf ((e.drop 16).take 32)) ∧
  (∀ (s : State) (f : Fin 257) (r : Fin 16) (e : List Byte) (q : Nat), TakesAt s f r e → field e 0 1 = 1 → CqClear
    s f r → q = lowest (surfReasons s f (field e 8 2) ((e.drop 16).take 32)) → q ≠ 0 → Leads (.surfReg f r) s fun t
    => CompletedWith s t f r e (if q = 9 then cQuota else cRights) q ∧ t.surfs = s.surfs) ∧
  (∀ (s : State) (f : Fin 257) (r : Fin 16) (e : List Byte), TakesAt s f r e → field e 0 1 = 2 → CqClear s f r →
    field e 8 2 ≤ 0x3FF → handleBound s f (field e 8 2) = false → Leads (.surfDereg f r) s fun t => CompletedWith s
    t f r e 0 0 ∧ tget {} (1024 * f + field e 8 2) t.surfs = {}) ∧
  (∀ (s : State) (f : Fin 257) (r : Fin 16) (e : List Byte), TakesAt s f r e → field e 0 1 = 2 → CqClear s f r →
    0x3FF < field e 8 2 → Leads (.surfDereg f r) s fun t => CompletedWith s t f r e cQuota 9 ∧ t.surfs = s.surfs) ∧
  (∀ (s : State) (f : Fin 257) (r : Fin 16) (e : List Byte) (n : Nat), TakesAt s f r e → field e 0 1 = 3 → CqClear
    s f r → n = field e 4 2 → fenceMode s n = false → (f = 0 ∨ layerHolder s n (field e 6 1) = f) → (field e 6 1 <
    8 ∨ (f = 0 ∧ field e 6 1 = 8)) → bitOf (field e 1 1) 0 = false → updateReserved n (field e 6 1) (fields e 8 4
    12) = false → lowest (stackReasons (pendLayer n f (field e 6 1) (fields e 8 4 12) s) n f (commitFlips
    (pendLayer n f (field e 6 1) (fields e 8 4 12) s) n f)) = 0 → Leads (.layerUpdate f r) s fun t => CompletedWith
    s t f r e 0 0 ∧ (t.chst n).pend = ((pendLayer n f (field e 6 1) (fields e 8 4 12) s).chst n).pend ∧ rd t
    (fetchB n (field e 6 1)) R.FETCH_SRC_POS_X = rd (pendLayer n f (field e 6 1) (fields e 8 4 12) s) (fetchB n
    (field e 6 1)) R.FETCH_SRC_POS_X) ∧
  (∀ (s : State) (f : Fin 257) (r : Fin 16) (e : List Byte), TakesAt s f r e → field e 0 1 = 3 → CqClear s f r → 9
    ≤ field e 6 1 → Leads (.layerUpdate f r) s fun t => CompletedWith s t f r e cRights 2 ∧ t.chs = s.chs) ∧
  (∀ (s : State) (f : Fin 257) (r : Fin 16) (e : List Byte) (n : Nat), TakesAt s f r e → field e 0 1 = 4 → n =
    field e 4 2 → isLive s n = true → (commitReason s n f (reqFlips s n { fn := f, target := field e 8 8 }) = 0) →
    Leads (.commit f r) s fun t => OutstandingOn s t f r ∧ (t.chst n).commits.map (fun c => (c.fn, c.target,
    c.levee)) = (s.chst n).commits.map (fun c => (c.fn, c.target, c.levee)) ++ [(f.val, field e 8 8, false)]) ∧
  (∀ (s : State) (f : Fin 257) (r : Fin 16) (e : List Byte) (n : Nat), TakesAt s f r e → field e 0 1 = 4 → n =
    field e 4 2 → isLive s n = false → (commitReason s n f (reqFlips s n { fn := f, target := field e 8 8 }) = 0) →
    (admitFlip s n f (reqFlips s n { fn := f, target := field e 8 8 }) = .ok) → Leads (.commit f r) s fun t =>
    CompletedOn s t f r ∧ rd t (chB n) R.COMP_CSEQ_SEQ = (rd s (chB n) R.COMP_CSEQ_SEQ + 1) % 2 ^ 32) ∧
  (∀ (s : State) (f : Fin 257) (r : Fin 16) (e : List Byte) (n : Nat), TakesAt s f r e → field e 0 1 = 4 → n =
    field e 4 2 → (commitReason s n f (reqFlips s n { fn := f, target := field e 8 8 }) ≠ 0) → Leads (.commit f r)
    s fun t => CompletedOn s t f r ∧ (t.chst n).commits = (s.chst n).commits ∧ t.eff = s.eff) ∧
  (∀ (s : State) (f : Fin 257) (r : Fin 16) (e : List Byte) (n : Nat), TakesAt s f r e → field e 0 1 = 0x42 → n =
    field e 4 2 → s.chState n = .running → commitReason s n 0 (pf0Flips s n) = 0 → (s.chst n).preempt = none →
    s.frmsOf n = [] → Leads (.preemptCmd f r) s fun t => OutstandingOn s t f r ∧ rd t (chB n) R.COMP_CSEQ_SEQ = (rd
    s (chB n) R.COMP_CSEQ_SEQ + 1) % 2 ^ 32 ∧ (t.chst n).preempt.map (·.1) = some (s.ht + rd s (chB n)
    R.COMP_FLIP_PREEMPT_LEAD * us)) ∧
  (∀ (s : State) (f : Fin 257) (r : Fin 16) (e : List Byte), TakesAt s f r e → field e 0 1 = 5 → field e 8 8 % 8 =
    0 → segOk s f false (field e 8 8) 8 = true → Leads (.fenceWait f r) s fun t => OutstandingOn s t f r ∧ rdB t
    (ringB f r) R.SLUICE_RING_STATUS_FENCE_WAIT = true ∧ t.cmds.getLast?.map (·.args) = some [field e 8 8, field e
    16 8, field e 24 8]) ∧
  (∀ (s : State) (f : Fin 257) (r : Fin 16) (e : List Byte), TakesAt s f r e → field e 0 1 = 5 → CqClear s f r →
    field e 8 8 % 8 ≠ 0 → Leads (.fenceWait f r) s fun t => CompletedWith s t f r e cRights 0x95 ∧ rdB t (ringB f
    r) R.SLUICE_RING_STATUS_FENCE_WAIT = false) ∧
  (∀ (s : State) (f : Fin 257) (r : Fin 16) (c : Cmd) (a v d : Nat), (waitOf s f r = some (c, a, v, d)) → segOk s f
    false a 8 = true → poisonedAny s a 8 = false → v ≤ loadN s a 8 → Leads (.fenceWaitPoll f r) s fun t => rdB t
    (ringB f r) R.SLUICE_RING_STATUS_FENCE_WAIT = false ∧ t.cmds = s.cmds.filter (fun x => x.id != c.id)) ∧
  (∀ (s : State) (f : Fin 257) (r : Fin 16) (c : Cmd) (a v d : Nat), (waitOf s f r = some (c, a, v, d)) → segOk s f
    false a 8 = true → poisonedAny s a 8 = false → loadN s a 8 < v → Leads (.fenceWaitPoll f r) s fun t => t.regs =
    s.regs ∧ t.cmds = s.cmds) ∧
  (∀ (s : State) (f : Fin 257) (r : Fin 16) (c : Cmd) (a v d : Nat), (waitOf s f r = some (c, a, v, d)) → d ≠ 0 → d
    ≤ s.ht → Leads (.fenceWaitDeadline f r) s fun t => rdB t (ringB f r) R.SLUICE_RING_STATUS_FENCE_WAIT = false ∧
    t.cmds = s.cmds.filter (fun x => x.id != c.id)) ∧
  (∀ (s : State) (f : Fin 257) (r : Fin 16) (e : List Byte) (n : Nat) (b : Nat) (m : Image), TakesAt s f r e →
    field e 0 1 = 6 → n = field e 4 2 → bitOf (field e 1 1) 0 = false → (b = 1 - seqBank s n) → m = parseImage
    false (imageBytes s (field e 8 8) (field e 16 4)) → lowest (seqReasons s f n (field e 8 8) (field e 16 4)) = 0
    → Leads (.progLoad f r) s fun t => CompletedOn s t f r ∧ verified t n b = true ∧ bankCount t n b = m.count % 2
    ^ R.SEQ_BSIZE_COUNT.w ∧ ∀ i < 4096, i < m.count → progAt t n b i = m.words.getD i 0) ∧
  (∀ (s : State) (f : Fin 257) (r : Fin 16) (e : List Byte) (n : Nat) (q : Nat), TakesAt s f r e → field e 0 1 = 6
    → CqClear s f r → n = field e 4 2 → bitOf (field e 1 1) 0 = false → q = lowest (seqReasons s f n (field e 8 8)
    (field e 16 4)) → (q ∉ [0, 2, 0xA, 0xB]) → Leads (.progLoad f r) s fun t => CompletedWith s t f r e cRights q ∧
    verified t n (1 - seqBank s n) = false ∧ t.prog = s.prog) ∧
  (∀ (s : State) (f : Fin 257) (r : Fin 16) (e : List Byte) (k z : Nat) (l : List Byte) (m : Image), TakesAt s f r
    e → field e 0 1 = 6 → CqClear s f r → f = 0 → bitOf (field e 1 1) 0 = true → field e 24 1 = 0 → k = field e 20
    2 → z = field e 22 2 → l = imageBytes s (field e 8 8) (field e 16 4) → poisonedAny s (field e 8 8) (field e 16
    4) = false → headerBad true l = false → field e 16 4 = l.length → m = parseImage true l → contentReasons true
    false 0 l m ++ slotReasons s k z m = [] → Leads (.progLoadLoop f r) s fun t => CompletedWith s t f r e 0 0 ∧
    t.slotState k = .stopped ∧ rd t (slB k) R.LOOP_SLOT_IMG_COUNT = m.count % 2 ^ R.LOOP_SLOT_IMG_COUNT.w ∧ (t.slot
    k).init = m.body) ∧
  (∀ (s : State) (f : Fin 257) (r : Fin 16) (e : List Byte), TakesAt s f r e → field e 0 1 = 6 → CqClear s f r →
    bitOf (field e 1 1) 0 = true → (4 < field e 24 1 ∨ (field e 24 1 = 0 ∧ field e 16 4 = 0)) → Leads
    (.progLoadLoop f r) s fun t => CompletedWith s t f r e cRights 1 ∧ t.slots = s.slots ∧ t.lprog = s.lprog) ∧
  (∀ (s : State) (f : Fin 257) (r : Fin 16) (e : List Byte) (n : Nat), TakesAt s f r e → field e 0 1 = 7 → n =
    field e 4 2 → (verified s n (1 - seqBank s n) = true) → (s.seq n).swap = none → (f = 0 ∨ leveeActive s n =
    false) → isLive s n = true → (s.seq n).run ≠ .halted → Leads (.bankSwap f r) s fun t => OutstandingOn s t f r ∧
    (t.seq n).swap.map (·.target) = some (field e 8 8) ∧ rdB t (chB n) R.SEQ_STATUS_SWAP_PENDING = true ∧ seqBank t
    n = seqBank s n) ∧
  (∀ (s : State) (f : Fin 257) (r : Fin 16) (e : List Byte) (n : Nat), TakesAt s f r e → field e 0 1 = 7 → n =
    field e 4 2 → (verified s n (1 - seqBank s n) = true) → (s.seq n).swap = none → (f = 0 ∨ leveeActive s n =
    false) → isLive s n = false → seqBank s n ≤ 1 → Leads (.bankSwap f r) s fun t => CompletedOn s t f r ∧ seqBank
    t n = 1 - seqBank s n ∧ (t.seq n).swap = none) ∧
  (∀ (s : State) (f : Fin 257) (r : Fin 16) (e : List Byte) (n : Nat), TakesAt s f r e → field e 0 1 = 7 → n =
    field e 4 2 → (verified s n (1 - seqBank s n) = false ∨ (s.seq n).swap ≠ none) → Leads (.bankSwap f r) s fun t
    => CompletedOn s t f r ∧ rdB t (chB n) R.SEQ_STATUS_SWAP_REJECTED = true ∧ seqBank t n = seqBank s n) ∧
  (∀ (s : State) (f : Fin 257) (r : Fin 16) (e : List Byte), TakesAt s f r e → field e 0 1 = 8 → CqClear s f r →
    (field e 16 2 = 0 ∨ 4096 < field e 16 2 ∨ field e 18 1 = 0) → Leads (.clipPlay f r) s fun t => CompletedWith s
    t f r e cRights 0x92) ∧
  (∀ (s : State) (f : Fin 257) (r : Fin 16) (e : List Byte) (n : Nat) (l : List Nat) (x : Clip), TakesAt s f r e →
    field e 0 1 = 8 → n = field e 4 2 → 0 < field e 16 2 → field e 16 2 ≤ 4096 → field e 18 1 ≠ 0 → ownsLayer s f n
    (field e 6 1) = true → segOk s f false (field e 8 8) (4 * field e 16 2) = true → poisonedAny s (field e 8 8) (4
    * field e 16 2) = false → l = fields (loadBytes s (field e 8 8) (4 * field e 16 2)) 0 4 (field e 16 2) → (l.all
    (fun h => h < 1024 && !(surf s (tableFn s n (field e 6 1)) h).empty) = true) → (x =
    { layer := field e 6 1, fn := f, table := l, frames := field e 18 1, loops := field e 20 4, start := field e 24 8 })
    → (lowest (sluiceReasons (modCh n (fun y => { y with clips := [x] }) s) n f noFlip) = 0) → Leads (.clipPlay f
    r) s fun t => OutstandingOn s t f r ∧ (t.chst n).clips.map (fun y => { y with cmd := none }) = (s.chst
    n).clips.map (fun y => { y with cmd := none }) ++ [x]) ∧
  (∀ (s : State) (f : Fin 257) (r : Fin 16) (e : List Byte) (n : Nat), TakesAt s f r e → field e 0 1 = 9 → CqClear
    s f r → n = field e 4 2 → ownsLayer s f n (field e 6 1) = true → ((s.chst n).clips.any (fun x => x.layer ==
    field e 6 1) = false) → Leads (.clipStop f r) s fun t => CompletedWith s t f r e 0 0) ∧
  (∀ (s : State) (f : Fin 257) (r : Fin 16) (e : List Byte) (n : Nat), TakesAt s f r e → field e 0 1 = 9 → n =
    field e 4 2 → ownsLayer s f n (field e 6 1) = true → ((s.chst n).clips.any (fun x => x.layer == field e 6 1) =
    true) → Leads (.clipStop f r) s fun t => OutstandingOn s t f r ∧ (t.chst n).clips.map (fun x => (x.layer,
    x.stop)) = (s.chst n).clips.map (fun x => (x.layer, if x.layer = field e 6 1 then some (field e 8 8) else
    x.stop))) ∧
  (∀ (s : State) (f : Fin 257) (r : Fin 16) (e : List Byte), TakesAt s f r e → field e 0 1 = 0xA → CqClear s f r →
    field e 8 8 % 4096 = 0 → segOk s f true (field e 8 8) 4096 = true → f ≠ 0 → (grantAt s f (field e 6 1)).isSome
    = true → Leads (.statusRead f r) s fun t => CompletedWith s t f r e 0 0) ∧
  (∀ (s : State) (f : Fin 257) (r : Fin 16) (e : List Byte), TakesAt s f r e → field e 0 1 = 0xA → CqClear s f r →
    field e 8 8 % 4096 = 0 → f = 0 → Leads (.statusRead f r) s fun t => CompletedWith s t f r e cRights 0x96) ∧
  (∀ (s : State) (f : Fin 257) (r : Fin 16) (e : List Byte), TakesAt s f r e → field e 0 1 = 0x40 → CqClear s f r →
    grantBad (askedGrant e) = true → Leads (.grant f r) s fun t => CompletedWith s t f r e cRights 0x90 ∧ t.grants
    = s.grants) ∧
  (∀ (s : State) (f : Fin 257) (r : Fin 16) (e : List Byte), TakesAt s f r e → field e 0 1 = 0x40 → grantBad
    (askedGrant e) = false → grantClash s (askedGrant e) = false → lowest (grantReasons s (askedGrant e)) = 0 →
    replaced s (askedGrant e) = none → Leads (.grant f r) s fun t => CompletedOn s t f r ∧ t.grants.map (fun g =>
    (g.tenant, g.g, g.channel, g.layers)) = s.grants.map (fun g => (g.tenant, g.g, g.channel, g.layers)) ++ [(field
    e 8 2, field e 10 1, field e 4 2, field e 11 1)] ∧ (bitOf (field e 12 1) 0 = true → seqOwner t (field e 4 2) =
    field e 8 2)) ∧
  (∀ (s : State) (f : Fin 257) (r : Fin 16) (e : List Byte) (n : Nat) (g : Grant), TakesAt s f r e → field e 0 1 =
    0x41 → field e 8 2 ≠ 0 → field e 8 2 ≤ 256 → field e 10 1 ≤ 15 → (s.grants.find? (fun y => y.tenant == field e
    8 2 && y.g == field e 10 1 && !(s.chst y.channel).released.contains (field e 8 2, y.g)) = some g) → n =
    g.channel → isLive s n = true → Leads (.revoke f r) s fun t => TakenFrom s t f r ∧ (field e 8 2, g.g) ∈ (t.chst
    n).released ∧ (g.seq = true → seqOwner t n ≠ field e 8 2) ∧ ∀ h ∈ t.grants, h.tenant = g.tenant → h.g = g.g →
    h.channel = n → h.layers = 0 ∧ h.seq = false) ∧
  (∀ (s : State) (f : Fin 257) (r : Fin 16) (e : List Byte), TakesAt s f r e → field e 0 1 = 0x41 → CqClear s f r →
    field e 8 2 ≤ 256 → field e 8 2 ≠ 0 → field e 10 1 ≤ 15 → (s.grants.any (fun g => g.tenant == field e 8 2 &&
    g.g == field e 10 1) = false) → Leads (.revoke f r) s fun t => CompletedWith s t f r e cRights 0x96 ∧ t.grants
    = s.grants)

/-- Die-link modules, crossings, hardware locks and the reset of Reach dies (R77, R693, R694, R695, R696, R708, R710, R719, R720, R721, R722, R804). -/
def Obligations.ModulesLocksAndDies : Prop :=
  (∀ (s : State) (d : Fin 4) (e : Fin 2) (l : Fin 68), 2 ≤ modState s d 0 → Leads (.d2dCrcError d 0 e l) s fun t =>
    rd t (d2dB d) R.HUB_D2D_CRC_CNT0_COUNT = satU R.HUB_D2D_CRC_CNT0_COUNT.w (rd s (d2dB d)
    R.HUB_D2D_CRC_CNT0_COUNT + 1) % 2 ^ R.HUB_D2D_CRC_CNT0_COUNT.w ∧ s.tick ∈ tget [] (2 * l + e) (t.d2d d 0).errs) ∧
  (∀ (s : State) (d : Fin 4) (e : Fin 2) (l : Fin 68), 2 ≤ modState s d 1 → Leads (.d2dCrcError d 1 e l) s fun t =>
    rd t (d2dB d) R.HUB_D2D_CRC_CNT1_COUNT = satU R.HUB_D2D_CRC_CNT1_COUNT.w (rd s (d2dB d)
    R.HUB_D2D_CRC_CNT1_COUNT + 1) % 2 ^ R.HUB_D2D_CRC_CNT1_COUNT.w ∧ s.tick ∈ tget [] (2 * l + e) (t.d2d d 1).errs) ∧
  (∀ (s : State) (d : Fin 4) (k : Fin 2), modState s d k = 2 → ((s.d2d d k).errs.any (fun e => 16 < (e.2.filter
    (fun x => s.tick < x + ms)).length) = true) → Leads (.d2dRetrain d k) s fun t => modState t d k = 3 ∧ (t.d2d d
    k).errs = []) ∧
  (∀ (s : State) (d : Fin 4) (k : Fin 2), ((s.d2d d k).errs.all (fun e => (e.2.filter (fun x => s.tick < x +
    ms)).length ≤ 16) = true) → Leads (.d2dRetrain d k) s fun t => t.regs = s.regs ∧ t.d2ds = s.d2ds) ∧
  (∀ (s : State) (d : Fin 4) (k : Fin 2), modState s d k = 2 → Leads (.d2dRetrainCmd d k) s fun t => modState t d k
    = 3) ∧
  (∀ (s : State) (d : Fin 4) (k : Fin 2) (x r : Fin 5), modState s d k = 3 → rd s (d2dB d) (spareFld k 0) ≤ 4 → rd
    s (d2dB d) (spareFld k 1) ≤ 4 → x ≤ rd s (d2dB d) (spareFld k 0) → r ≤ rd s (d2dB d) (spareFld k 1) → Leads
    (.d2dRetrainDone d k true x r) s fun t => modState t d k = 2 ∧ rd t (d2dB d) (spareFld k 0) = rd s (d2dB d)
    (spareFld k 0) - x ∧ rd t (d2dB d) (spareFld k 1) = rd s (d2dB d) (spareFld k 1) - r) ∧
  (∀ (s : State) (d : Fin 4) (k : Fin 2) (x r : Fin 5), modState s d k = 3 → (modState s d (1 - k) ≠ 0) → Leads
    (.d2dRetrainDone d k false x r) s fun t => modState t d k = 0 ∧ (t.d2d d k).downAt = s.tick + 1 ∧ rd t (d2dB d)
    R.HUB_D2D_DOWN_CNT_COUNT = satU R.HUB_D2D_DOWN_CNT_COUNT.w (rd s (d2dB d) R.HUB_D2D_DOWN_CNT_COUNT + 1) % 2 ^
    R.HUB_D2D_DOWN_CNT_COUNT.w) ∧
  (∀ (s : State) (d : Fin 4) (k : Fin 2) (x r : Fin 5), modState s d k = 3 → (modState s d (1 - k) = 0) → rdB s
    (dieB d) R.HUB_DIE_STATUS_IN_RESET = false → Leads (.d2dRetrainDone d k false x r) s fun t => modState t d k =
    0 ∧ rdB t (dieB d) R.HUB_DIE_STATUS_IN_RESET = true ∧ rdB t (dieB d) R.HUB_DIE_STATUS_ISOLATED = true ∧ rdB t
    (dieB d) R.HUB_DIE_STATUS_READY = false) ∧
  (∀ (s : State) (d : Fin 4) (k : Fin 2), modState s d k = 0 → (s.d2d d k).downAt ≠ 0 → (s.d2d d k).downAt + second
    ≤ s.tick + 1 → Leads (.d2dModuleRetry d k) s fun t => modState t d k = 1) ∧
  (∀ (s : State) (l : Fin 5) (i : Fin 64), Leads (.cdcResync l i) s fun t => crossUp t l i = true) ∧
  (∀ (s : State) (l : Fin 5) (i : Fin 64) (x : Cross), (tget {} (64 * l + i) s.crosses = x) → x.since ≠ 0 → x.since
    + 2 * us ≤ s.tick + 1 → x.failed = false → Leads (.cdcResyncRetry l i) s fun t => crossUp t l i = false ∧ tget
    {} (64 * l + i) t.crosses = { x with failed := true } ∧ rd t (fabB) R.HUB_CDC_RESYNC_FAIL_CNT_COUNT = satU
    R.HUB_CDC_RESYNC_FAIL_CNT_COUNT.w (rd s (fabB) R.HUB_CDC_RESYNC_FAIL_CNT_COUNT + 1) % 2 ^
    R.HUB_CDC_RESYNC_FAIL_CNT_COUNT.w) ∧
  (∀ (s : State) (a : Fin 65536) (n : Fin 256), lockAgent a = true → lockOwner s n = 0xFFFF → Leads (.lockAcquire a
    n) s fun t => lockOwner t n = a.val ∧ tget (0, 0) n t.lockAt = (s.tick + 1, rd s (lockB n) R.LOCK_LEASE_MS)) ∧
  (∀ (s : State) (a : Fin 65536) (n : Fin 256), lockAgent a = true → ((tget (0, 0) n s.lockAt).2 = 0 ∨ s.tick + 1 <
    (tget (0, 0) n s.lockAt).1 + (tget (0, 0) n s.lockAt).2 * ms) → lockOwner s n ≠ 0xFFFF → ((tget (0, 0) n
    s.lockAt).1 ≠ s.tick + 1) → Leads (.lockAcquire a n) s fun t => lockOwner t n = lockOwner s n ∧ t.lockAt =
    s.lockAt) ∧
  (∀ (s : State) (a : Fin 65536) (n : Fin 256), lockAgent a = true → ((tget (0, 0) n s.lockAt).2 = 0 ∨ s.tick + 1 <
    (tget (0, 0) n s.lockAt).1 + (tget (0, 0) n s.lockAt).2 * ms) → a < lockOwner s n → ((tget (0, 0) n s.lockAt).1
    = s.tick + 1) → Leads (.lockAcquire a n) s fun t => lockOwner t n = a.val) ∧
  (∀ (s : State) (a : Fin 65536) (n : Fin 256), lockAgent a = false → ((tget (0, 0) n s.lockAt).2 = 0 ∨ s.tick + 1
    < (tget (0, 0) n s.lockAt).1 + (tget (0, 0) n s.lockAt).2 * ms) → Leads (.lockAcquire a n) s fun t => t.regs =
    s.regs ∧ t.lockAt = s.lockAt) ∧
  (∀ (s : State) (a : Fin 65536) (n : Fin 256), lockAgent a = true → ((tget (0, 0) n s.lockAt).2 = 0 ∨ s.tick + 1 <
    (tget (0, 0) n s.lockAt).1 + (tget (0, 0) n s.lockAt).2 * ms) → lockOwner s n = a.val → Leads (.lockRelease a
    n) s fun t => lockOwner t n = 0xFFFF ∧ rdB t (lockB n) R.LOCK_STAT_BROKEN = rdB s (lockB n) R.LOCK_STAT_BROKEN) ∧
  (∀ (s : State) (a : Fin 65536) (n : Fin 256), lockAgent a = true → ((tget (0, 0) n s.lockAt).2 = 0 ∨ s.tick + 1 <
    (tget (0, 0) n s.lockAt).1 + (tget (0, 0) n s.lockAt).2 * ms) → lockOwner s n ≠ a.val → Leads (.lockRelease a
    n) s fun t => lockOwner t n = lockOwner s n ∧ rdB t (lockB n) R.LOCK_STAT_WRITE_REJECTED = true) ∧
  (∀ (s : State) (a : Fin 65536) (n : Fin 256), lockAgent a = true → ((tget (0, 0) n s.lockAt).2 = 0 ∨ s.tick + 1 <
    (tget (0, 0) n s.lockAt).1 + (tget (0, 0) n s.lockAt).2 * ms) → lockOwner s n = a.val → Leads (.lockClearBroken
    a n) s fun t => rdB t (lockB n) R.LOCK_STAT_BROKEN = false ∧ lockOwner t n = a.val) ∧
  (∀ (s : State) (a : Fin 65536) (n : Fin 256), lockAgent a = true → ((tget (0, 0) n s.lockAt).2 = 0 ∨ s.tick + 1 <
    (tget (0, 0) n s.lockAt).1 + (tget (0, 0) n s.lockAt).2 * ms) → lockOwner s n ≠ a.val → Leads (.lockClearBroken
    a n) s fun t => rdB t (lockB n) R.LOCK_STAT_BROKEN = rdB s (lockB n) R.LOCK_STAT_BROKEN ∧ rdB t (lockB n)
    R.LOCK_STAT_WRITE_REJECTED = true) ∧
  (∀ (s : State) (a : Fin 65536) (n : Fin 256), (a = 0 ∨ a = 0x200) → lockOwner s n ≠ 0xFFFF → Leads (.lockForce a
    n) s fun t => lockOwner t n = 0xFFFF ∧ rdB t (lockB n) R.LOCK_STAT_BROKEN = true ∧ rd t (lockB n)
    R.LOCK_STAT_CAUSE = 3 ∧ rd t (lockB n) R.LOCK_PREV_OWNER = lockOwner s n % 65536 ∧ rd t (lockUnitB)
    R.LOCK_BROKEN_CNT_COUNT = satU R.LOCK_BROKEN_CNT_COUNT.w (rd s (lockUnitB) R.LOCK_BROKEN_CNT_COUNT + 1) % 2 ^
    R.LOCK_BROKEN_CNT_COUNT.w) ∧
  (∀ (s : State) (a : Fin 65536) (n : Fin 256), a ≠ 0 → a ≠ 0x200 → Leads (.lockForce a n) s fun t => t.regs =
    s.regs ∧ t.lockAt = s.lockAt) ∧
  (∀ (s : State) (n : Fin 256), lockOwner s n ≠ 0xFFFF → ((tget (0, 0) n s.lockAt).2 ≠ 0) → ((tget (0, 0) n
    s.lockAt).1 + (tget (0, 0) n s.lockAt).2 * ms ≤ s.tick + 1) → Leads (.lockLeaseExpired n) s fun t => lockOwner
    t n = 0xFFFF ∧ rdB t (lockB n) R.LOCK_STAT_BROKEN = true ∧ rd t (lockB n) R.LOCK_STAT_CAUSE = 2 ∧ rd t (lockB
    n) R.LOCK_PREV_OWNER = lockOwner s n % 65536 ∧ rd t (lockUnitB) R.LOCK_BROKEN_CNT_COUNT = satU
    R.LOCK_BROKEN_CNT_COUNT.w (rd s (lockUnitB) R.LOCK_BROKEN_CNT_COUNT + 1) % 2 ^ R.LOCK_BROKEN_CNT_COUNT.w) ∧
  (∀ (s : State) (d : Fin 4), rdB s (dieB d) R.HUB_DIE_CTRL_RESET = false → Leads (.dieReset d) s fun t => rdB t
    (dieB d) R.HUB_DIE_CTRL_RESET = true ∧ rdB t (dieB d) R.HUB_DIE_STATUS_IN_RESET = true ∧ rdB t (dieB d)
    R.HUB_DIE_STATUS_ISOLATED = false ∧ rdB t (dieB d) R.HUB_DIE_STATUS_READY = false ∧ epoch t 1 d = (epoch s 1 d
    + 1) % 65536 ∧ ∀ n < 192, n / 48 = d.val → t.chState n = .off) ∧
  (∀ (s : State) (d : Fin 4), Leads (.dieRelease d) s fun t => rdB t (dieB d) R.HUB_DIE_CTRL_RESET = false ∧ rdB t
    (dieB d) R.HUB_DIE_STATUS_IN_RESET = rdB s (dieB d) R.HUB_DIE_STATUS_IN_RESET) ∧
  (∀ (s : State) (d : Fin 4), rdB s (dieB d) R.HUB_DIE_CTRL_RESET = false → rdB s (dieB d)
    R.HUB_DIE_STATUS_ISOLATED = false → rdB s (dieB d) R.HUB_DIE_STATUS_IN_RESET = true → (modState s d 0 = 2 ∨
    modState s d 1 = 2) → Leads (.dieLeaveReset d) s fun t => rdB t (dieB d) R.HUB_DIE_STATUS_IN_RESET = false ∧
    rdB t (dieB d) R.HUB_DIE_STATUS_CLK_LOCK = true ∧ (t.die d).leftAt = s.tick + 1 ∧ crossUp t (1 + d) 0 = false) ∧
  (∀ (s : State) (d : Fin 4), (s.die d).leftAt ≠ 0 → Leads (.dieReady d) s fun t => rdB t (dieB d)
    R.HUB_DIE_STATUS_READY = true ∧ (t.die d).leftAt = 0 ∧ ∀ m < 8, ddrState s d m = 1 → ddrState t d m = 2) ∧
  (∀ (s : State) (d : Fin 4), (s.die d).leftAt ≠ 0 → (s.die d).leftAt + 800 * ms ≤ s.tick + 1 → Leads
    (.dieReadyTimeout d) s fun t => rdB t (dieB d) R.HUB_DIE_STATUS_IN_RESET = true ∧ rdB t (dieB d)
    R.HUB_DIE_STATUS_ISOLATED = true ∧ rdB t (dieB d) R.HUB_DIE_STATUS_READY = false ∧ (t.die d).leftAt = 0)

/-- The housekeeping round, calibration jobs and Oxbow substitutions (R731, R733, R740, R741, R745, R746, R749, R752, R755, R756, R758, R759). -/
def Obligations.HousekeepingCalibrationOxbow : Prop :=
  (∀ (s : State) (a b : Int × Int × Int × Int) (ok : Fin 16), s.hub.up = true → s.mode ≠ .hold → s.hk.slot < 24 →
    Leads (.hkSlotEnd a b ok) s fun t => t.hk.slot = s.hk.slot + 1 ∧ ∀ k < 4, (sens t (24 * k + s.hk.slot)).t =
    conv a k) ∧
  (∀ (s : State) (a b : Int × Int × Int × Int) (ok : Fin 16), s.hub.up = true → s.mode ≠ .hold → 24 ≤ s.hk.slot →
    s.hk.slot < 32 → Leads (.hkSlotEnd a b ok) s fun t => ∀ k < 4, 1500000 ≤ conv b k → rdB t hkB R.HK_THERM_VALID
    (8 * k + s.hk.slot - 24) = false ∧ rd t hkB R.HK_THERM_FAULT (8 * k + s.hk.slot - 24) = 1) ∧
  (∀ (s : State) (a b : Int × Int × Int × Int) (ok : Fin 16), s.hub.up = true → s.mode ≠ .hold → 34 ≤ s.hk.slot →
    s.hk.slot < 38 → Leads (.hkSlotEnd a b ok) s fun t => ∀ k < 4, rd t hkB R.HK_RAIL_VALUE (4 * (s.hk.slot - 34) +
    k) = toTwos 16 (conv a k) % 2 ^ 16) ∧
  (∀ (s : State) (a b : Int × Int × Int × Int) (ok : Fin 16), s.hub.up = true → s.mode ≠ .hold → s.hk.slot = 63 →
    (s.hk.hot2 = true ∨ ∀ i < 104, (sens s i).hot = false) → Leads (.hkSlotEnd a b ok) s fun t => t.hk.slot = 0 ∧
    rd t hkB R.HK_ROUND_COUNT = (rd s hkB R.HK_ROUND_COUNT + 1) % 2 ^ 32) ∧
  (∀ (s : State) (a b : Int × Int × Int × Int) (ok : Fin 16), (s.hub.up = false ∨ s.mode = .hold) → Leads
    (.hkSlotEnd a b ok) s fun t => t.hk = s.hk ∧ t.regs = s.regs) ∧
  (∀ (s : State) (i : Fin 104), (sens s i).excl = false → 8 ≤ (sens s i).bad → Leads (.sensorExcluded i) s fun t =>
    (sens t i).excl = true ∧ rd t hkB R.HK_DIE_EXCLUDED (if i.val < 96 then i / 24 else 4) = ((sensOf (if i.val <
    96 then i / 24 else 4)).filter (fun j => (sens t j).excl)).length % 2 ^ R.HK_DIE_EXCLUDED.w) ∧
  (∀ (s : State) (i : Fin 104), (sens s i).bad < 8 → Leads (.sensorExcluded i) s fun t => t.hk = s.hk ∧ t.regs =
    s.regs) ∧
  (∀ (s : State) (i : Fin 32), 9 ≤ tget 0 i s.hk.thermGood → Leads (.thermRestored i) s fun t => rdB t hkB
    R.HK_THERM_VALID i = true ∧ tget 0 i t.hk.thermGood = 0) ∧
  (∀ (s : State) (v : Fin 4294967296), (rdB s hkB R.HK_CAL_STATUS_BUSY = true ∨ bits v 1 3 = 0 ∨ bits v 1 3 = 7) →
    Leads (.calGo v) s fun t => rdB t hkB R.HK_CAL_STATUS_WRITE_REJECTED = true ∧ t.cal = s.cal) ∧
  (∀ (s : State) (v : Fin 4294967296), rdB s hkB R.HK_CAL_STATUS_BUSY = false → bits v 1 3 ≠ 0 → bits v 1 3 ≠ 7 →
    bits v 1 3 ≠ 4 → bitOf v 4 = false → calReady s (bits v 1 3) (bits v 5 8) = true → Leads (.calGo v) s fun t =>
    rdB t hkB R.HK_CAL_STATUS_BUSY = true ∧ rd t hkB R.HK_CAL_STATUS_KIND = bits v 1 3 ∧ rd t hkB
    R.HK_CAL_STATUS_TARGETS = 1 ∧ t.cal.targets.map (·.target) = [bits v 5 8] ∧ t.cal.deadline = s.tick + max 1
    (bits v 16 16) * ms) ∧
  (∀ (s : State) (v : Fin 4294967296), rdB s hkB R.HK_CAL_STATUS_BUSY = false → bits v 1 3 ≠ 0 → bits v 1 3 ≠ 7 →
    bitOf v 4 = true → (∀ c ∈ calAll (bits v 1 3), calReady s (bits v 1 3) c = true) → Leads (.calGo v) s fun t =>
    rdB t hkB R.HK_CAL_STATUS_BUSY = true ∧ t.cal.targets.map (·.target) = calAll (bits v 1 3) ∧ rd t hkB
    R.HK_CAL_STATUS_TARGETS = (calAll (bits v 1 3)).length) ∧
  (∀ (s : State) (v : Fin 4294967296), rdB s hkB R.HK_CAL_STATUS_BUSY = false → bits v 1 3 ≠ 0 → bits v 1 3 ≠ 7 →
    bits v 1 3 ≠ 4 → bitOf v 4 = false → calReady s (bits v 1 3) (bits v 5 8) = false → Leads (.calGo v) s fun t =>
    rdB t hkB R.HK_CAL_STATUS_BUSY = false ∧ t.cal.targets = [] ∧ (rd t hkB R.HK_CAL_RESULT_ACCEPTED, rd t hkB
    R.HK_CAL_RESULT_DISAGREE, rd t hkB R.HK_CAL_RESULT_STARVED, rd t hkB R.HK_CAL_RESULT_REFUSED) = (0, 0, 0, 1)) ∧
  (∀ (s : State) (c : Fin 192) (v : List (Option (Fin 65536))) (x : CalTarget), (s.cal.targets.find? (fun y =>
    y.target == c.val) = some x) → v.length = calSize s (calKind s) c → (calKind s = 3 ∨ v.all (·.isSome) = true) →
    (calStepsDone s (calKind s) x (v.map (·.map (·.val))) = true) → s.tick < s.cal.deadline → x.run1 = none → Leads
    (.calRunDone c v) s fun t => (t.cal.targets.find? (fun y => y.target == c.val)).map (·.run1) = some (some
    (v.map (·.map (·.val)))) ∧ t.cals = s.cals) ∧
  (∀ (s : State) (c : Fin 192) (v : List (Option (Fin 65536))) (x : CalTarget) (r : List (Option Nat)),
    (s.cal.targets.find? (fun y => y.target == c.val) = some x) → v.length = calSize s (calKind s) c → (calKind s =
    3 ∨ v.all (·.isSome) = true) → (calStepsDone s (calKind s) x (v.map (·.map (·.val))) = true) → s.tick <
    s.cal.deadline → x.run1 = some r → ((r.zip v).zipIdx.all (fun p => p.1.1.isNone || p.1.2.isNone || calAgree
    (calKind s) p.2 (p.1.1.getD 0) ((p.1.2.map (·.val)).getD 0)) = true) → Leads (.calRunDone c v) s fun t => rd t
    hkB R.HK_CAL_RESULT_ACCEPTED = satU R.HK_CAL_RESULT_ACCEPTED.w (rd s hkB R.HK_CAL_RESULT_ACCEPTED + 1) % 2 ^
    R.HK_CAL_RESULT_ACCEPTED.w ∧ t.cal.targets.all (fun y => y.target != c.val) = true) ∧
  (∀ (s : State) (c : Fin 192) (v : List (Option (Fin 65536))) (x : CalTarget) (r : List (Option Nat)),
    (s.cal.targets.find? (fun y => y.target == c.val) = some x) → v.length = calSize s (calKind s) c → (calKind s =
    3 ∨ v.all (·.isSome) = true) → (calStepsDone s (calKind s) x (v.map (·.map (·.val))) = true) → s.tick <
    s.cal.deadline → x.run1 = some r → ((r.zip v).zipIdx.all (fun p => p.1.1.isNone || p.1.2.isNone || calAgree
    (calKind s) p.2 (p.1.1.getD 0) ((p.1.2.map (·.val)).getD 0)) = false) → Leads (.calRunDone c v) s fun t => rd t
    hkB R.HK_CAL_RESULT_DISAGREE = satU R.HK_CAL_RESULT_DISAGREE.w (rd s hkB R.HK_CAL_RESULT_DISAGREE + 1) % 2 ^
    R.HK_CAL_RESULT_DISAGREE.w ∧ t.cal.targets.all (fun y => y.target != c.val) = true ∧ t.cals = s.cals ∧ t.calRec
    = s.calRec) ∧
  (∀ (s : State) (c : Fin 192) (v : List (Option (Fin 65536))) (x : CalTarget), (s.cal.targets.find? (fun y =>
    y.target == c.val) = some x) → v.length = calSize s (calKind s) c → (calKind s = 3 ∨ v.all (·.isSome) = true) →
    (calStepsDone s (calKind s) x (v.map (·.map (·.val))) = true) → s.cal.deadline ≤ s.tick → Leads (.calRunDone c
    v) s fun t => rd t hkB R.HK_CAL_RESULT_STARVED = satU R.HK_CAL_RESULT_STARVED.w (rd s hkB
    R.HK_CAL_RESULT_STARVED + 1) % 2 ^ R.HK_CAL_RESULT_STARVED.w ∧ t.cal.targets.all (fun y => y.target != c.val) =
    true) ∧
  (∀ (s : State), rdB s hkB R.HK_CAL_STATUS_BUSY = true → s.cal.deadline ≤ s.tick → s.cal.targets ≠ [] → Leads
    (.calDeadline) s fun t => t.cal.targets = [] ∧ rdB t hkB R.HK_CAL_STATUS_BUSY = false) ∧
  (∀ (s : State), s.tick < s.cal.deadline → Leads (.calDeadline) s fun t => t.cal = s.cal ∧ t.regs = s.regs) ∧
  (∀ (s : State) (d : Fin 4) (v : List Nat), (s.die d).vernier = some v → v.length = 4 → if vernierSmall s d v then
    s.ht % ms < 2 else dieIdle s d = true → Leads (.vernierApply d) s fun t => (t.die d).vernier = none ∧ ∀ i < 4,
    calAt t 6 d i = v.getD i 0) ∧
  (∀ (s : State) (d : Fin 4) (v : List Nat), (s.die d).vernier = some v → vernierSmall s d v = false → dieIdle s d
    = false → Leads (.vernierApply d) s fun t => (t.die d).vernier = some v ∧ t.cals = s.cals) ∧
  (∀ (s : State), rd s hkB R.HK_CAL_IDX_WORD < calWords s (rd s hkB R.HK_CAL_IDX_KIND) (rd s hkB
    R.HK_CAL_IDX_TARGET) → Leads (.hkCalDataRead) s fun t => Out.readData 0 (leBytes 4 (calData s)) ∈ t.out ∧ rd t
    hkB R.HK_CAL_IDX_WORD = (rd s hkB R.HK_CAL_IDX_WORD + 1) % 2 ^ R.HK_CAL_IDX_WORD.w) ∧
  (∀ (s : State) (d : Fin 4) (p : Fin 52), isDead s d p = false → Leads (.pipeSoftFailure d p) s fun t => s.tick ∈
    (t.pipe d p).soft ∧ (t.pipe d p).lastFail = s.tick + 1) ∧
  (∀ (s : State) (d : Fin 4) (p : Fin 52) (q : Fin 52), isDead s d p = false → pipeChannel s d p ≠ none → max 1 (rd
    s (oxbB d) R.HUB_OXB_CFG_SOFT_THR) ≤ softCount s d p + 1 → (s.ox d).port = none → nextSpare s d none = some
    q.val → Leads (.pipeSoftFailure d p) s fun t => (t.ox d).port = (pipeChannel s d p).map (· % 48) ∧ ((t.ox
    d).trigger, (t.ox d).old, (t.ox d).spare, (t.ox d).attempt, (t.ox d).phase) = (1, p.val, q.val, 1, 1)) ∧
  (∀ (s : State) (d : Fin 4) (p : Fin 52), isDead s d p = false → Leads (.pipeHardFailure d p) s fun t => rdB t
    (oxbB d) R.HUB_OXB_PIPE_HARD p = true) ∧
  (∀ (s : State) (d : Fin 4) (p : Fin 52) (q : Fin 52), isDead s d p = false → pipeChannel s d p ≠ none → (s.ox
    d).port = none → nextSpare s d none = some q.val → Leads (.pipeHardFailure d p) s fun t => (t.ox d).port =
    (pipeChannel s d p).map (· % 48) ∧ ((t.ox d).trigger, (t.ox d).old, (t.ox d).spare, (t.ox d).phase) = (3,
    p.val, q.val, 1)) ∧
  (∀ (s : State) (d : Fin 4) (p : Fin 52) (n : Nat), isDead s d p = false → pipeChannel s d p = some n → chLive s n
    = true → (s.ox d).port = none → nextSpare s d none = none → Leads (.pipeHardFailure d p) s fun t => t.chState n
    = .faulted ∧ rd t (chB n) R.CH_STATUS_FAULT = 7) ∧
  (∀ (s : State) (d : Fin 4) (k : Fin 64), ((s.ox d).port ≠ none ∨ 48 ≤ k.val ∨ s.chState (48 * d + k) = .off) →
    Leads (.oxbowRequest d k) s fun t => rdB t (oxbB d) R.HUB_OXB_STATUS_WRITE_REJECTED = true ∧ t.oxs = s.oxs) ∧
  (∀ (s : State) (d : Fin 4) (k : Fin 48) (q : Fin 52), (s.ox d).port = none → s.chState (48 * d + k) ≠ .off →
    nextSpare s d none = some q.val → Leads (.oxbowRequest d (k.castLE (by decide))) s fun t => ((t.ox d).port,
    (t.ox d).trigger, (t.ox d).old, (t.ox d).spare, (t.ox d).phase) = (some k.val, 2, pipeOf s (48 * d + k), q.val,
    1)) ∧
  (∀ (s : State) (d : Fin 4) (k : Fin 48), (s.ox d).port = none → s.chState (48 * d + k) ≠ .off → nextSpare s d
    none = none → Leads (.oxbowRequest d (k.castLE (by decide))) s fun t => (t.ox d).port = none ∧ rd t (oxbB d)
    R.HUB_OXB_FAIL_CNT_COUNT = satU R.HUB_OXB_FAIL_CNT_COUNT.w (rd s (oxbB d) R.HUB_OXB_FAIL_CNT_COUNT + 1) % 2 ^
    R.HUB_OXB_FAIL_CNT_COUNT.w) ∧
  (∀ (s : State) (d : Fin 4) (k : Fin 48), (s.ox d).port = some k.val → (s.ox d).phase = 1 → (s.ox d).clear = false
    → (s.ox d).trigger ≠ 3 → Leads (.oxbowLoaded d) s fun t => (t.ox d).phase = 2 ∧ (t.ox d).switched = (s.ox
    d).switched ∧ t.pipeRec = s.pipeRec) ∧
  (∀ (s : State) (d : Fin 4) (k : Fin 48), (s.ox d).port = some k.val → (s.ox d).phase = 1 → (s.ox d).clear = false
    → (s.ox d).trigger = 3 → chLive s (48 * d + k) = true → Leads (.oxbowLoaded d) s fun t => (t.ox d).phase = 3 ∧
    (t.ox d).switched = true ∧ pipeOf t (48 * d + k) = (s.ox d).spare ∧ (t.pipeCh (48 * d + k)).down = false) ∧
  (∀ (s : State) (d : Fin 4) (k : Fin 48), (s.ox d).port = some k.val → (s.ox d).phase = 1 → (s.ox d).clear = true
    → s.chState (48 * d + k) = .faulted → Leads (.oxbowLoaded d) s fun t => t.chState (48 * d + k) = .off) ∧
  (∀ (s : State) (d : Fin 4) (k : Fin 48), (s.ox d).port = some k.val → 2 ≤ (s.ox d).phase → (s.ox d).trigger ≠ 3 →
    (s.ox d).shadow = true → (s.ox d).switched = false → (s.ox d).fs = none → (s.ox d).success = false → (s.ox
    d).good = 0 → Leads (.oxbowFrameCompare d true true true) s fun t => (t.ox d).good = 1 ∧ (t.ox d).success =
    false ∧ (t.ox d).phase = (s.ox d).phase) ∧
  (∀ (s : State) (d : Fin 4) (k : Fin 48), (s.ox d).port = some k.val → 2 ≤ (s.ox d).phase → (s.ox d).trigger ≠ 3 →
    (s.ox d).shadow = true → (s.ox d).switched = false → (s.ox d).fs = none → (s.ox d).success = false → (s.ox
    d).good ≠ 0 → (s.ox d).frames ≤ max 2 (rd s (oxbB d) R.HUB_OXB_CFG_WINDOW) → Leads (.oxbowFrameCompare d true
    true true) s fun t => (t.ox d).success = true ∧ (t.ox d).phase = 3 ∧ t.pipeRec = s.pipeRec) ∧
  (∀ (s : State) (d : Fin 4) (k : Fin 48) (a b c : Bool) (q : Fin 52), (s.ox d).port = some k.val → 2 ≤ (s.ox
    d).phase → (s.ox d).trigger ≠ 3 → (s.ox d).shadow = true → (s.ox d).switched = false → (s.ox d).fs = none → ((a
    && b && c) = false) → (s.ox d).attempt < max 1 (rd s (oxbB d) R.HUB_OXB_CFG_ATTEMPTS) → nextSpare s d (some
    (s.ox d).spare) = some q.val → Leads (.oxbowFrameCompare d a b c) s fun t => ((t.ox d).port, (t.ox d).trigger,
    (t.ox d).spare, (t.ox d).attempt, (t.ox d).phase, (t.ox d).shadow) = (some k.val, (s.ox d).trigger, q.val,
    (s.ox d).attempt + 1, 1, false)) ∧
  (∀ (s : State) (d : Fin 4) (k : Fin 48) (a b c : Bool), (s.ox d).port = some k.val → 2 ≤ (s.ox d).phase → (s.ox
    d).trigger ≠ 3 → (s.ox d).shadow = true → (s.ox d).switched = false → (s.ox d).fs = none → ((a && b && c) =
    false) → max 1 (rd s (oxbB d) R.HUB_OXB_CFG_ATTEMPTS) ≤ (s.ox d).attempt → (s.ox d).waits = [] → Leads
    (.oxbowFrameCompare d a b c) s fun t => (t.ox d).port = none ∧ rd t (oxbB d) R.HUB_OXB_FAIL_CNT_COUNT = satU
    R.HUB_OXB_FAIL_CNT_COUNT.w (rd s (oxbB d) R.HUB_OXB_FAIL_CNT_COUNT + 1) % 2 ^ R.HUB_OXB_FAIL_CNT_COUNT.w) ∧
  (∀ (s : State) (d : Fin 4) (k : Fin 48), (s.ox d).port = some k.val → (s.ox d).fs ≠ none → (s.ox d).switched =
    false → (s.ox d).trigger ≠ 3 → Leads (.oxbowSwitch d) s fun t => (t.ox d).switched = true ∧ pipeOf t (48 * d +
    k) = (s.ox d).spare) ∧
  (∀ (s : State) (d : Fin 4) (k : Fin 48), (s.ox d).port = some k.val → (s.ox d).fs = none → Leads (.oxbowSwitch d)
    s fun t => t.oxs = s.oxs ∧ t.pipeRec = s.pipeRec) ∧
  (∀ (s : State) (d : Fin 4) (k : Fin 48) (f : Nat × Nat), (s.ox d).port = some k.val → (s.ox d).switched = true →
    (s.ox d).fs = some f → f.1 ≤ s.ht + max 1000 (rd s (chB (48 * d + k)) R.COMP_FLIP_LEAD) * us → (s.ox d).waits =
    [] → Leads (.oxbowSwitched d) s fun t => (t.ox d).port = none ∧ rd t (oxbB d) R.HUB_OXB_SUBST_CNT_COUNT = satU
    R.HUB_OXB_SUBST_CNT_COUNT.w (rd s (oxbB d) R.HUB_OXB_SUBST_CNT_COUNT + 1) % 2 ^ R.HUB_OXB_SUBST_CNT_COUNT.w ∧
    rdB t healthB R.HUB_SPREC_PENDING = true) ∧
  (∀ (s : State) (d : Fin 4) (k : Fin 48) (f : Nat × Nat), (s.ox d).port = some k.val → (s.ox d).fs = some f → s.ht
    + max 1000 (rd s (chB (48 * d + k)) R.COMP_FLIP_LEAD) * us < f.1 → chLive s (48 * d + k) = true → Leads
    (.oxbowSwitched d) s fun t => t.oxs = s.oxs ∧ t.regs = s.regs)

/-- Record writes, their copies, rewrites, and the activation of hub firmware (R779, R780, R781, R782, R783, R784, R785). -/
def Obligations.ConfigurationStoreAndFirmware : Prop :=
  (∀ (s : State) (cal : Bool), s.cfg.write = none → s.cfg.queue = [] → s.mode ≠ .hold → rdB s cfgB
    R.CFG_STATUS_ACTIVATING = false → tget 0 (if cal then 3 else 4) s.cfg.dirty ≠ 0 → Leads (.deviceRecordWrite
    cal) s fun t => t.cfg.write = some
    { k := (if cal then 3 else 4), gen := topGen s (if cal then 3 else 4) + 1, payload := devPayload s (if cal then 3 else 4) }
    ∧ rdB t cfgB R.CFG_STATUS_BUSY = true ∧ tget 0 (if cal then 3 else 4) t.cfg.dirty = 0) ∧
  (∀ (s : State) (cal : Bool), s.cfg.write ≠ none → tget 0 (if cal then 3 else 4) s.cfg.dirty ≠ 0 → Leads
    (.deviceRecordWrite cal) s fun t => t.cfg.write = s.cfg.write ∧ t.cfg.queue = s.cfg.queue ++
    [{ k := (if cal then 3 else 4), payload := devPayload s (if cal then 3 else 4) }]) ∧
  (∀ (s : State) (cal : Bool), tget 0 (if cal then 3 else 4) s.cfg.dirty = 0 → Leads (.deviceRecordWrite cal) s fun
    t => t.cfg = s.cfg ∧ t.regs = s.regs) ∧
  (∀ (s : State) (w : RecWrite), s.cfg.write = some w → w.copy < 2 → s.mode ≠ .hold → Leads (.recordCopyDone true)
    s fun t => copyAt t w.k w.copy = recCopy w.k w.gen w.payload ∧ t.cfg.write = some
    { w with copy := w.copy + 1, again := false, same := setBit w.same w.copy true }) ∧
  (∀ (s : State) (w : RecWrite), s.cfg.write = some w → w.copy = 2 → w.gen ≠ 0 → Leads (.recordCopyDone true) s fun
    t => copyAt t w.k 2 = recCopy w.k w.gen w.payload ∧ chosenRec t w.k = some (w.gen, w.payload) ∧ rd t cfgB
    R.CFG_WRITE_CNT_COUNT = satU R.CFG_WRITE_CNT_COUNT.w (rd s cfgB R.CFG_WRITE_CNT_COUNT + 1) % 2 ^
    R.CFG_WRITE_CNT_COUNT.w ∧ rdB t mgtB R.MGT_STATUS_ALERT = true) ∧
  (∀ (s : State) (w : RecWrite), s.cfg.write = some w → w.again = false → Leads (.recordCopyDone false) s fun t =>
    t.cfg.write = some { w with again := true } ∧ t.cfg.copies = s.cfg.copies) ∧
  (∀ (s : State) (w : RecWrite), s.cfg.write = some w → w.again = true → Leads (.recordCopyDone false) s fun t =>
    copyAt t w.k w.copy = [] ∧ rd t cfgB R.CFG_COPY_FAIL_CNT_COUNT = satU R.CFG_COPY_FAIL_CNT_COUNT.w (rd s cfgB
    R.CFG_COPY_FAIL_CNT_COUNT + 1) % 2 ^ R.CFG_COPY_FAIL_CNT_COUNT.w) ∧
  (∀ (s : State) (k : Fin 4) (c : Fin 3) (ok : Bool) (x : Nat × List Byte), chosenRec s (k + 1) = some x → rdB s
    hubB R.HUB_MODE_READY = true → s.mode ≠ .hold → s.cfg.write = none → copyMatches s (k + 1) c = false → Leads
    (.recordRewrite k c ok) s fun t => copyAt t (k + 1) c = (if ok then recCopy (k + 1) x.1 x.2 else []) ∧
    t.cfg.chosen = s.cfg.chosen ∧ rdB t mgtB R.MGT_STATUS_ALERT = true) ∧
  (∀ (s : State) (k : Fin 4) (c : Fin 3) (ok : Bool), (rdB s hubB R.HUB_MODE_READY = false ∨ s.mode = .hold ∨
    s.cfg.write ≠ none ∨ chosenRec s (k + 1) = none) → Leads (.recordRewrite k c ok) s fun t => t.cfg = s.cfg ∧
    t.regs = s.regs) ∧
  (∀ (s : State) (k : Fin 256), k.val ≠ 1 → k.val ≠ 2 → Leads (.cfgRecordWrite k) s fun t => rd t cfgB
    R.CFG_STATUS_RESULT = 1 ∧ t.cfg = s.cfg) ∧
  (∀ (s : State) (k : Fin 256), (k.val = 1 ∨ k.val = 2) → (rd s cfgB R.CFG_LEN_BYTES = 0 ∨ recMax k < rd s cfgB
    R.CFG_LEN_BYTES) → Leads (.cfgRecordWrite k) s fun t => rd t cfgB R.CFG_STATUS_RESULT = 2 ∧ t.cfg = s.cfg) ∧
  (∀ (s : State) (k : Fin 256), (k.val = 1 ∨ k.val = 2) → 1 ≤ rd s cfgB R.CFG_LEN_BYTES → rd s cfgB R.CFG_LEN_BYTES
    ≤ recMax k → (¬ (installedAll s (rdPair s cfgB R.CFG_SRC_LO_ADDR R.CFG_SRC_HI_ADDR) (rd s cfgB R.CFG_LEN_BYTES)
    = true ∧ poisonedAny s (rdPair s cfgB R.CFG_SRC_LO_ADDR R.CFG_SRC_HI_ADDR) (rd s cfgB R.CFG_LEN_BYTES) =
    false)) → Leads (.cfgRecordWrite k) s fun t => rd t cfgB R.CFG_STATUS_RESULT = 5 ∧ t.cfg = s.cfg) ∧
  (∀ (s : State) (k : Fin 256), k.val = 1 → 1 ≤ rd s cfgB R.CFG_LEN_BYTES → rd s cfgB R.CFG_LEN_BYTES ≤ recMax k →
    (installedAll s (rdPair s cfgB R.CFG_SRC_LO_ADDR R.CFG_SRC_HI_ADDR) (rd s cfgB R.CFG_LEN_BYTES) = true ∧
    poisonedAny s (rdPair s cfgB R.CFG_SRC_LO_ADDR R.CFG_SRC_HI_ADDR) (rd s cfgB R.CFG_LEN_BYTES) = false) → Leads
    (.cfgRecordWrite k) s fun t => (Config.fwSigOk (byteNats (loadBytes s (rdPair s cfgB R.CFG_SRC_LO_ADDR
    R.CFG_SRC_HI_ADDR) (rd s cfgB R.CFG_LEN_BYTES))) = false → rd t cfgB R.CFG_STATUS_RESULT = 3 ∧ t.cfg = s.cfg) ∧
    (Config.fwSigOk (byteNats (loadBytes s (rdPair s cfgB R.CFG_SRC_LO_ADDR R.CFG_SRC_HI_ADDR) (rd s cfgB
    R.CFG_LEN_BYTES))) = true → Config.fwSvn (byteNats (loadBytes s (rdPair s cfgB R.CFG_SRC_LO_ADDR
    R.CFG_SRC_HI_ADDR) (rd s cfgB R.CFG_LEN_BYTES))) % 65536 < Config.svnMin % 65536 → rd t cfgB
    R.CFG_STATUS_RESULT = 4 ∧ t.cfg = s.cfg)) ∧
  (∀ (s : State) (k : Fin 256), k.val = 2 → 1 ≤ rd s cfgB R.CFG_LEN_BYTES → rd s cfgB R.CFG_LEN_BYTES ≤ recMax k →
    (installedAll s (rdPair s cfgB R.CFG_SRC_LO_ADDR R.CFG_SRC_HI_ADDR) (rd s cfgB R.CFG_LEN_BYTES) = true ∧
    poisonedAny s (rdPair s cfgB R.CFG_SRC_LO_ADDR R.CFG_SRC_HI_ADDR) (rd s cfgB R.CFG_LEN_BYTES) = false) →
    (s.cfg.queue.any (fun w => w.src == 1) = true) → Leads (.cfgRecordWrite k) s fun t => rd t cfgB
    R.CFG_STATUS_RESULT = 6 ∧ t.cfg = s.cfg) ∧
  (∀ (s : State) (k : Fin 256), k.val = 2 → 1 ≤ rd s cfgB R.CFG_LEN_BYTES → rd s cfgB R.CFG_LEN_BYTES ≤ recMax k →
    (installedAll s (rdPair s cfgB R.CFG_SRC_LO_ADDR R.CFG_SRC_HI_ADDR) (rd s cfgB R.CFG_LEN_BYTES) = true ∧
    poisonedAny s (rdPair s cfgB R.CFG_SRC_LO_ADDR R.CFG_SRC_HI_ADDR) (rd s cfgB R.CFG_LEN_BYTES) = false) →
    s.cfg.write = none → s.cfg.queue = [] → s.mode ≠ .hold → rdB s cfgB R.CFG_STATUS_ACTIVATING = false → Leads
    (.cfgRecordWrite k) s fun t => t.cfg.write = some
    { k := 2, gen := topGen s 2 + 1, payload := loadBytes s (rdPair s cfgB R.CFG_SRC_LO_ADDR R.CFG_SRC_HI_ADDR) (rd s cfgB R.CFG_LEN_BYTES), src := 1 }
    ∧ rdB t cfgB R.CFG_STATUS_BUSY = true) ∧
  (∀ (s : State), fwRefused s = true → Leads (.cfgActivate) s fun t => rdB t cfgB R.CFG_STATUS_WRITE_REJECTED =
    true ∧ t.fw = s.fw) ∧
  (∀ (s : State), s.mode ≠ .hold → s.mode ≠ .tripped → rdB s cfgB R.CFG_STATUS_ACTIVATING = false → s.fw.waiting =
    false → ((chosenFw s).gen ≠ s.fw.active.gen ∨ (chosenFw s).payload ≠ s.fw.active.payload ∨ (chosenFw s).svn ≠
    s.fw.active.svn) → s.cfg.write = none → Leads (.cfgActivate) s fun t => rdB t cfgB R.CFG_STATUS_ACTIVATING =
    true ∧ t.fw.next = some (chosenFw s) ∧ t.fw.startAt = some ((s.ht / 4000000 + 1) * 4000000)) ∧
  (∀ (s : State), s.mode ≠ .hold → s.mode ≠ .tripped → rdB s cfgB R.CFG_STATUS_ACTIVATING = false → s.fw.waiting =
    false → ((chosenFw s).gen ≠ s.fw.active.gen ∨ (chosenFw s).payload ≠ s.fw.active.payload ∨ (chosenFw s).svn ≠
    s.fw.active.svn) → s.cfg.write ≠ none → Leads (.cfgActivate) s fun t => t.fw = { s.fw with waiting := true }) ∧
  (∀ (s : State) (i : FwImage) (x : Nat), s.fw.next = some i → s.fw.startAt = some x → x ≤ s.ht → Leads
    (.fwImageStart) s fun t => t.fw.active = i ∧ t.fw.prev = s.fw.active ∧ t.fw.next = none ∧ rd t cfgB
    R.CFG_FW_SVN = i.svn % 65536 ∧ t.cal.targets = []) ∧
  (∀ (s : State) (i : FwImage) (x : Nat), s.fw.next = some i → s.fw.startAt = some x → s.ht < x → Leads
    (.fwImageStart) s fun t => t.fw = s.fw ∧ t.regs = s.regs) ∧
  (∀ (s : State), inSelfTest s = true → Leads (.fwSelfTestDone true) s fun t => t.fw.active = s.fw.active ∧ rdB t
    cfgB R.CFG_STATUS_ACTIVATING = false ∧ rdB t mgtB R.MGT_STATUS_ALERT = true) ∧
  (∀ (s : State), inSelfTest s = true → Leads (.fwSelfTestDone false) s fun t => t.fw.active = s.fw.prev ∧ rdB t
    cfgB R.CFG_STATUS_ACTIVATING = false ∧ rdB t cfgB R.CFG_STATUS_ACT_FAILED = true ∧ rdB t mgtB
    R.MGT_STATUS_ALERT = true) ∧
  (∀ (s : State) (x : Nat), inSelfTest s = true → s.fw.startAt = some x → x + 50 * ms ≤ s.ht → Leads
    (.fwSelfTestTimeout) s fun t => t.fw.active = s.fw.prev ∧ rdB t cfgB R.CFG_STATUS_ACTIVATING = false ∧ rdB t
    cfgB R.CFG_STATUS_ACT_FAILED = true ∧ rdB t mgtB R.MGT_STATUS_ALERT = true) ∧
  (∀ (s : State) (x : Nat), s.fw.startAt = some x → s.ht < x + 50 * ms → Leads (.fwSelfTestTimeout) s fun t => t.fw
    = s.fw ∧ t.regs = s.regs)

/-- Each management request answers as its rule says, and the endpoint resets (R769, R770, R771, R772, R773, R774, R783, R784, R786, R788, R792). -/
def Obligations.TheManagementPort : Prop :=
  (∀ (s : State) (g : Fin 256) (a : Fin 4294967296) (c : Fin 256), mgtAlive s = true → turnedAway s false = 0 →
    regSpan a c = true → Leads (.regRead g a c) s fun t => Out.mgtResponse 1 g 0 (wordBytes (snap s :: (readRegs a
    c (begun s)).1)) ∈ t.out) ∧
  (∀ (s : State) (g : Fin 256) (a : Fin 4294967296) (c : Fin 256), mgtAlive s = true → turnedAway s false = 0 →
    regSpan a c = false → Leads (.regRead g a c) s fun t => Out.mgtResponse 1 g 1 ([]) ∈ t.out) ∧
  (∀ (s : State) (g : Fin 256) (a : Fin 4294967296) (c : Fin 256), mgtAlive s = true → (s.mode = .hold ∨ rdB s hubB
    R.HUB_MODE_READY = false) → Leads (.regRead g a c) s fun t => Out.mgtResponse 1 g 4 ([]) ∈ t.out) ∧
  (∀ (s : State) (g : Fin 256) (a : Fin 4294967296) (c : Fin 256), mgtAlive s = true → s.mode ≠ .hold → rdB s hubB
    R.HUB_MODE_READY = true → inSelfTest s = true → Leads (.regRead g a c) s fun t => Out.mgtResponse 1 g 3 ([]) ∈
    t.out) ∧
  (∀ (s : State) (g : Fin 256) (a : Fin 4294967296) (c : Fin 256) (l : List (Fin 4294967296)), mgtAlive s = true →
    turnedAway s false = 0 → regSpan a c = true → l.length = c → (∀ i < c.val, mgmtExcluded (a + 4 * i) = false) →
    ((writeRegs a (l.map (·.val)) (begun s)).1 = true) → Leads (.regWrite g a c l) s fun t => Out.mgtResponse 2 g 0
    (wordBytes [snap (writeRegs a (l.map (·.val)) (begun s)).2]) ∈ t.out) ∧
  (∀ (s : State) (g : Fin 256) (a : Fin 4294967296) (c : Fin 256) (l : List (Fin 4294967296)), mgtAlive s = true →
    turnedAway s false = 0 → regSpan a c = true → l.length = c → (∀ i < c.val, mgmtExcluded (a + 4 * i) = false) →
    ((writeRegs a (l.map (·.val)) (begun s)).1 = false) → Leads (.regWrite g a c l) s fun t => Out.mgtResponse 2 g
    5 ([]) ∈ t.out) ∧
  (∀ (s : State) (g : Fin 256) (a : Fin 4294967296) (c : Fin 256) (l : List (Fin 4294967296)), mgtAlive s = true →
    turnedAway s false = 0 → regSpan a c = true → l.length = c → mgmtExcluded a = true → 1 ≤ c.val → Leads
    (.regWrite g a c l) s fun t => Out.mgtResponse 2 g 2 ([]) ∈ t.out ∧ t.cfg = s.cfg ∧ t.eff = s.eff) ∧
  (∀ (s : State) (g : Fin 256), mgtAlive s = true → inSelfTest s = false → Leads (.status g) s fun t =>
    Out.mgtResponse 3 g 0 (wordBytes ([mgtB + R.MGT_STATUS_EID.off, mgtB + R.MGT_SNAP_EPOCH.off, hubB +
    R.HUB_MODE_MODE.off, holdB + R.HOLD_STATUS_ACTIVE.off, hubB + R.HUB_DEGRADE_CONTAINED.off].map (regWord bmc
    (begun s)))) ∈ t.out ∧ rdB t mgtB R.MGT_STATUS_ALERT = false) ∧
  (∀ (s : State) (g : Fin 256) (o : Fin 4294967296) (l : Fin 65536), mgtAlive s = true → inSelfTest s = false →
    l.val ≤ 192 → o.val + l ≤ 0x100000 → Leads (.logRead g o l) s fun t => Out.mgtResponse 4 g 0 ((List.range
    l).map (fun i => BitVec.ofNat 8 (Config.logByte (logNats (shownLog s) s.hub.learned) (o + i)))) ∈ t.out) ∧
  (∀ (s : State) (g : Fin 256) (k c : Fin 256) (o : Fin 4294967296) (l : Fin 65536), mgtAlive s = true → turnedAway
    s false = 0 → 1 ≤ k.val → k.val ≤ 4 → c.val < 3 → l.val ≤ 192 → o.val + l ≤ 0x500000 → Leads (.recRead g k c o
    l) s fun t => Out.mgtResponse 5 g 0 ((List.range l).map (fun i => (copyAt s k c).getD (o + i) 0xFF#8)) ∈ t.out) ∧
  (∀ (s : State) (g : Fin 256) (k c : Fin 256) (o : Fin 4294967296) (l : Fin 65536), mgtAlive s = true → turnedAway
    s false = 0 → (k.val = 0 ∨ 4 < k.val ∨ 3 ≤ c.val ∨ 192 < l.val ∨ 0x500000 < o.val + l) → Leads (.recRead g k c
    o l) s fun t => Out.mgtResponse 5 g 1 ([]) ∈ t.out) ∧
  (∀ (s : State) (g : Fin 256) (k : Fin 256) (o : Fin 4294967296) (l : List (Fin 256)), mgtAlive s = true →
    turnedAway s false = 0 → l.length ≤ 192 → o + l.length ≤ 0x400000 → stagingBusy s = false → Leads (.recWrite g
    k false o l) s fun t => Out.mgtResponse 6 g 0 ([]) ∈ t.out ∧ t.mgt.stagingLen = max s.mgt.stagingLen (o +
    l.length) ∧ ∀ i < 192, i < l.length → tget 0 (o + i) t.mgt.staging = (l.getD i 0).val) ∧
  (∀ (s : State) (g : Fin 256) (k : Fin 256) (o : Fin 4294967296) (l : List (Fin 256)), mgtAlive s = true →
    turnedAway s false = 0 → l.length ≤ 192 → o + l.length ≤ 0x400000 → stagingBusy s = true → Leads (.recWrite g k
    false o l) s fun t => Out.mgtResponse 6 g 3 ([]) ∈ t.out ∧ t.mgt.staging = s.mgt.staging) ∧
  (∀ (s : State) (g : Fin 256) (k : Fin 256) (o : Fin 4294967296) (l : List (Fin 256)), mgtAlive s = true →
    turnedAway s false = 0 → l.length ≤ 192 → o + l.length ≤ 0x400000 → stagingBusy s = false → k.val = 2 → (1 ≤
    (staged (stage o (l.map (·.val)) s)).length) → ((staged (stage o (l.map (·.val)) s)).length ≤ 65536) →
    s.cfg.write = none → s.cfg.queue = [] → s.mode ≠ .hold → rdB s cfgB R.CFG_STATUS_ACTIVATING = false → Leads
    (.recWrite g k true o l) s fun t => t.cfg.write = some
    { k := 2, gen := topGen s 2 + 1, payload := staged (stage o (l.map (·.val)) s), src := 2 } ∧ t.mgt.recTag =
    some g.val) ∧
  (∀ (s : State) (g : Fin 256) (k : Fin 256) (o : Fin 4294967296) (l : List (Fin 256)), mgtAlive s = true →
    turnedAway s false = 0 → l.length ≤ 192 → o + l.length ≤ 0x400000 → stagingBusy s = false → k.val ≠ 1 → k.val ≠
    2 → Leads (.recWrite g k true o l) s fun t => Out.mgtResponse 6 g 0 (leBytes 1 1) ∈ t.out ∧ t.mgt.stagingLen =
    0 ∧ t.cfg = s.cfg) ∧
  (∀ (s : State) (g : Fin 256), mgtAlive s = true → turnedAway s false = 0 → fwRefused s = true → Leads
    (.fwActivate g) s fun t => Out.mgtResponse 7 g 5 ([]) ∈ t.out ∧ t.fw = s.fw) ∧
  (∀ (s : State) (g : Fin 256), mgtAlive s = true → turnedAway s false = 0 → s.mode ≠ .hold → s.mode ≠ .tripped →
    rdB s cfgB R.CFG_STATUS_ACTIVATING = false → s.fw.waiting = false → ((chosenFw s).gen ≠ s.fw.active.gen ∨
    (chosenFw s).payload ≠ s.fw.active.payload ∨ (chosenFw s).svn ≠ s.fw.active.svn) → s.cfg.write = none → Leads
    (.fwActivate g) s fun t => Out.mgtResponse 7 g 0 ([]) ∈ t.out ∧ rdB t cfgB R.CFG_STATUS_ACTIVATING = true ∧
    t.fw.next = some (chosenFw s) ∧ t.fw.startAt = some ((s.ht / 4000000 + 1) * 4000000)) ∧
  (∀ (s : State) (g : Fin 256) (m h c : Bool), mgtAlive s = true → turnedAway s false = 0 → Leads (.releaseMgt g m
    h c) s fun t => Out.mgtResponse 8 g 0 ([]) ∈ t.out ∧ (m = true → rd t mgtB R.MGT_STATUS_MGT_MODE = 7) ∧ (h =
    true → ∀ i < 6, rd t mgtB R.MGT_HOLD_HOLD i = 0) ∧ (c = true → t.mgtCeil = [] ∧ rd t mgtB R.MGT_SVC_CEIL_MGT =
    0xFFFF)) ∧
  (∀ (s : State) (g : Fin 256), mgtAlive s = true → turnedAway s false = 0 → Leads (.resetEndpoint g) s fun t =>
    Out.mgtResponse 9 g 0 ([]) ∈ t.out ∧ t.mgt.recTag = none ∧ t.mgt.stagingLen = 0 ∧ rdB t mgtB R.MGT_STATUS_ALERT
    = true) ∧
  (∀ (s : State) (g : Fin 256) (c : Fin 256), mgtAlive s = true → turnedAway s false = 0 → (c.val = 0 ∨ 10 ≤ c.val)
    → Leads (.mgtInvalidCmd g c) s fun t => Out.mgtResponse c g 1 [] ∈ t.out) ∧
  (∀ (s : State) (i : Fin 5), mgtAlive s = true → turnedAway s false = 0 → Leads (.pldmRequest (.dieTemp i)) s fun
    t => Out.mgtOther 1 0 [rd s hkB R.HK_DIE_T i] ∈ t.out ∧ t.regs = s.regs) ∧
  (∀ (s : State) (n : Fin 192), mgtAlive s = true → turnedAway s false = 0 → Leads (.pldmRequest (.channel n)) s
    fun t => Out.mgtOther 1 0 [(s.chState n).code] ∈ t.out ∧ t.regs = s.regs) ∧
  (∀ (s : State) (r : PldmReq), mgtAlive s = true → turnedAway s false ≠ 0 → Leads (.pldmRequest r) s fun t =>
    Out.mgtOther 1 4 [] ∈ t.out ∧ t.regs = s.regs) ∧
  (∀ (s : State), mgtAlive s = true → turnedAway s false = 0 → Leads (.spdmRequest 257 .keyExchange) s fun t =>
    Out.mgtOther 2 0 [] ∈ t.out ∧ sessionAt t 257 = 1) ∧
  (∀ (s : State), s.hub.up = true → hostOff s = false → sessionAt s 0 = 2 → Leads (.spdmRequest 0 .endSession) s
    fun t => Out.mgtOther 2 0 [] ∈ t.out ∧ sessionAt t 0 = 0) ∧
  (∀ (s : State) (f : Fin 8), s.hub.up = true → hostOff s = false → sessionAt s 0 = 2 → 1 ≤ tget 0 f s.ide → Leads
    (.spdmRequest 0 (.ideKeyGo f)) s fun t => Out.mgtOther 2 0 [] ∈ t.out ∧ tget 0 f t.ide = 2) ∧
  (∀ (s : State), s.hub.up = true → hostOff s = false → fnUp s 256 = true → Leads (.spdmRequest 256 .keyExchange) s
    fun t => Out.mgtOther 2 7 [] ∈ t.out ∧ t.spdm = s.spdm) ∧
  (∀ (s : State), mgtAlive s = true → Leads (.i3cRstact) s fun t => rdB t mgtB R.MGT_STATUS_I3C = false ∧
    t.mgt.recTag = none ∧ rdB t mgtB R.MGT_STATUS_ALERT = true) ∧
  (∀ (s : State), mgtAlive s = true → Leads (.i3cDynamicAddress) s fun t => rdB t mgtB R.MGT_STATUS_I3C = true ∧
    t.mgt.recTag = s.mgt.recTag) ∧
  (∀ (s : State) (e : Fin 256), mgtAlive s = true → (rdB s mgtB R.MGT_STATUS_EID_SET = false ∨ rd s mgtB
    R.MGT_STATUS_EID ≠ e) → Leads (.setEndpointId e) s fun t => rd t mgtB R.MGT_STATUS_EID = e ∧ rdB t mgtB
    R.MGT_STATUS_EID_SET = true ∧ t.mgt.recTag = none ∧ rdB t mgtB R.MGT_STATUS_ALERT = true) ∧
  (∀ (s : State) (e : Fin 256), mgtAlive s = true → rdB s mgtB R.MGT_STATUS_EID_SET = true → rd s mgtB
    R.MGT_STATUS_EID = e → Leads (.setEndpointId e) s fun t => t.mgt.recTag = s.mgt.recTag ∧ rd t mgtB
    R.MGT_STATUS_EID = e)

/-- What becomes of an event: the record in memory, the vector, a full ring, the count of dropped events, tenants, and HOLD (R19, R65, R89, R678, R679, R680). -/
def Obligations.EventsAreWrittenToTheRings : Prop :=
  (∀ (s : State) (n : Fin 192), s.evq = [] → s.memq = [] → s.memLost = 0 → s.chState n = .off → isHeld s n = false
    → armMode s = false → s.mode ≠ .hold → tenantsOn s n = [] → evFits s 0 = true → (evRing s 0).lost = 0 →
    poisonedAny s (evBase s 0 + 16 * (evRing s 0).wr) 16 = false → Leads (.chArm false n) s fun t => loadBytes t
    (evBase s 0 + 16 * (evRing s 0).wr) 16 = Event.record { stamp := s.ht, code := 0x0111, channel := n, arg := 1 }
    ∧ (evRing t 0).wr = ((evRing s 0).wr + 1) % evSize s 0 ∧ rd t (chB n) R.CH_STATUS_ARM_REJECT = 1) ∧
  (∀ (s : State) (n : Fin 192), s.evq = [] → s.memq = [] → s.memLost = 0 → s.chState n = .off → isHeld s n = false
    → armMode s = false → s.mode ≠ .hold → tenantsOn s n = [] → evFits s 0 = true → (evRing s 0).lost = 0 →
    poisonedAny s (evBase s 0 + 16 * (evRing s 0).wr) 16 = false → Leads (.chArm false n) s fun t => ∀ a : Nat, (a
    < evBase s 0 + 16 * (evRing s 0).wr ∨ evBase s 0 + 16 * (evRing s 0).wr + 16 ≤ a) → loadByte t a = loadByte s
    a) ∧
  (∀ (s : State) (n : Fin 192), s.evq = [] → s.memq = [] → s.memLost = 0 → s.chState n = .off → isHeld s n = false
    → armMode s = false → s.mode ≠ .hold → tenantsOn s n = [] → evFits s 0 = true → (evRing s 0).lost = 0 → max 1
    (rd s (evRingB 0) R.SLUICE_EV_CFG_THR) ≤ (evRing s 0).unsig + 1 → Leads (.chArm false n) s fun t => Out.msix 0
    (min 2047 (rd s (evRingB 0) R.SLUICE_EV_CFG_VEC)) ∈ t.out ∧ (evRing t 0).unsig = 0) ∧
  (∀ (s : State) (n : Fin 192), s.evq = [] → s.memq = [] → s.memLost = 0 → s.chState n = .off → isHeld s n = false
    → armMode s = false → s.mode ≠ .hold → tenantsOn s n = [] → evFits s 0 = true → (evRing s 0).lost = 0 → (evRing
    s 0).unsig + 1 < max 1 (rd s (evRingB 0) R.SLUICE_EV_CFG_THR) → Leads (.chArm false n) s fun t => (evRing t
    0).unsig = (evRing s 0).unsig + 1) ∧
  (∀ (s : State) (n : Fin 192), s.evq = [] → s.memq = [] → s.memLost = 0 → s.chState n = .off → isHeld s n = false
    → armMode s = false → s.mode ≠ .hold → tenantsOn s n = [] → evFits s 0 = false → Leads (.chArm false n) s fun t
    => (evRing t 0).drop = satU 32 ((evRing s 0).drop + 1) ∧ (evRing t 0).lost = satU 32 ((evRing s 0).lost + 1) ∧
    (evRing t 0).wr = (evRing s 0).wr ∧ t.mem = s.mem) ∧
  (∀ (s : State) (n : Fin 192), s.evq = [] → s.memq = [] → s.memLost = 0 → s.chState n = .off → isHeld s n = false
    → armMode s = false → s.mode ≠ .hold → tenantsOn s n = [] → evFits s 0 = true → (evRing s 0).lost ≠ 0 →
    poisonedAny s (evBase s 0 + 16 * (evRing s 0).wr) 16 = false → Leads (.chArm false n) s fun t => loadBytes t
    (evBase s 0 + 16 * (evRing s 0).wr) 16 = Event.record
    { stamp := s.ht, code := 0x0E02, channel := 0xFFFF, arg := (evRing s 0).lost }) ∧
  (∀ (s : State) (n : Fin 192) (v : Fin 257), s.evq = [] → s.memq = [] → s.memLost = 0 → s.chState n = .off →
    isHeld s n = false → armMode s = false → s.mode ≠ .hold → 1 ≤ v.val → tenantsOn s n = [v.val] → evFits s 0 =
    false → evFits s v = true → (evRing s v).lost = 0 → poisonedAny s (evBase s v + 16 * (evRing s v).wr) 16 =
    false → Leads (.chArm false n) s fun t => loadBytes t (evBase s v + 16 * (evRing s v).wr) 16 = Event.record
    { stamp := s.ht, code := 0x0111, channel := n, arg := 1 } ∧ (evRing t v).wr = ((evRing s v).wr + 1) % evSize s
    v) ∧
  (∀ (s : State) (n : Fin 192), s.mode = .hold → s.chState n = .off → isHeld s n = false → Leads (.chArm false n) s
    fun t => t.hub.holdLog = s.hub.holdLog ++ [{ stamp := s.ht, code := 0x0111, channel := n, arg := 1 }])

/-- A write to memory changes only the bytes it stores; a read changes none (R605, R607, R639, R640). -/
def Obligations.AccessesChangeOnlyTheBytesTheyStore : Prop :=
  (∀ (s : State) (a : Fin 35184372088832) (l : List Byte) (x : Asker) (k : Bool) (f : Nat), s.memLost = 0 →
    isIdentity x.src = true → MemoryFree s a l.length x.src → Leads (.dramWrite a l x k [] f) s fun t => ∀ b : Nat,
    (b < a ∨ a + l.length ≤ b) → loadByte t b = loadByte s b) ∧
  (∀ (s : State) (a : Fin 35184372088832) (l : List Byte) (x : Asker) (k : Bool) (f : Nat), s.memLost = 0 →
    isIdentity x.src = true → MemoryFree s a (withinGranule a l).length x.src → Leads (.dramPartialWrite a l x k
    none f) s fun t => ∀ b : Nat, (b < a ∨ a + (withinGranule a l).length ≤ b) → loadByte t b = loadByte s b) ∧
  (∀ (s : State) (a : Fin 35184372088832) (l : Fin 65537) (x : Asker) (k : Bool) (f : Nat), s.memLost = 0 →
    isIdentity x.src = true → MemoryFree s a l x.src → Leads (.dramRead a l x k 0 [] f false) s fun t => ∀ b : Nat,
    loadByte t b = loadByte s b) ∧
  (∀ (s : State) (f : Fin 257) (o : Nat) (l : List Byte), s.memLost = 0 → fnUp s f = true → aptWriteOk f o l.length
    = true → segOk s f true (aptOf s f + o) l.length = true → MemoryFree s (aptOf s f + o) l.length f → Leads
    (.apertureWrite f o l) s fun t => ∀ b : Nat, (b < (aptOf s f + o) ∨ (aptOf s f + o) + l.length ≤ b) → loadByte
    t b = loadByte s b) ∧
  (∀ (s : State) (f : Fin 257) (o : Nat) (l : Fin 4097), s.memLost = 0 → fnUp s f = true → aptReadOk f o l = true →
    segOk s f false (aptOf s f + o) l = true → MemoryFree s (aptOf s f + o) l f → Leads (.apertureRead f o l) s fun
    t => ∀ b : Nat, loadByte t b = loadByte s b) ∧
  (∀ (s : State) (f : Fin 257) (o : Nat) (l : List Byte), s.memLost = 0 → s.evq = [] → s.memq = [] → fnUp s f =
    false → aptWriteOk f o l.length = true → Leads (.apertureWrite f o l) s fun t => ∀ b : Nat, loadByte t b =
    loadByte s b)
end

