-- ==== Sys2Proof/Laws/State.lean ====
section
/-!
SUPPORT. One lemma per field and update: what an update of the state leaves of each field.
-/

namespace Sys2Proof.Machine
open Sys2Proof

/-! ### `wr` -/

@[simp] theorem wr_pending (b : Nat) (f : Fld) (v : Nat) (s : State) (i : Nat) : (wr b f v s i).pending = s.pending := rfl
@[simp] theorem wr_out (b : Nat) (f : Fld) (v : Nat) (s : State) (i : Nat) : (wr b f v s i).out = s.out := rfl
@[simp] theorem wr_free (b : Nat) (f : Fld) (v : Nat) (s : State) (i : Nat) : (wr b f v s i).free = s.free := rfl
@[simp] theorem wr_evq (b : Nat) (f : Fld) (v : Nat) (s : State) (i : Nat) : (wr b f v s i).evq = s.evq := rfl
@[simp] theorem wr_memq (b : Nat) (f : Fld) (v : Nat) (s : State) (i : Nat) : (wr b f v s i).memq = s.memq := rfl
@[simp] theorem wr_tick (b : Nat) (f : Fld) (v : Nat) (s : State) (i : Nat) : (wr b f v s i).tick = s.tick := rfl
@[simp] theorem wr_ht (b : Nat) (f : Fld) (v : Nat) (s : State) (i : Nat) : (wr b f v s i).ht = s.ht := rfl
@[simp] theorem wr_eff (b : Nat) (f : Fld) (v : Nat) (s : State) (i : Nat) : (wr b f v s i).eff = s.eff := rfl
@[simp] theorem wr_latch (b : Nat) (f : Fld) (v : Nat) (s : State) (i : Nat) : (wr b f v s i).latch = s.latch := rfl
@[simp] theorem wr_mem (b : Nat) (f : Fld) (v : Nat) (s : State) (i : Nat) : (wr b f v s i).mem = s.mem := rfl
@[simp] theorem wr_memLost (b : Nat) (f : Fld) (v : Nat) (s : State) (i : Nat) : (wr b f v s i).memLost = s.memLost := rfl
@[simp] theorem wr_poison (b : Nat) (f : Fld) (v : Nat) (s : State) (i : Nat) : (wr b f v s i).poison = s.poison := rfl
@[simp] theorem wr_hub (b : Nat) (f : Fld) (v : Nat) (s : State) (i : Nat) : (wr b f v s i).hub = s.hub := rfl
@[simp] theorem wr_pins (b : Nat) (f : Fld) (v : Nat) (s : State) (i : Nat) : (wr b f v s i).pins = s.pins := rfl
@[simp] theorem wr_evr (b : Nat) (f : Fld) (v : Nat) (s : State) (i : Nat) : (wr b f v s i).evr = s.evr := rfl
@[simp] theorem wr_grants (b : Nat) (f : Fld) (v : Nat) (s : State) (i : Nat) : (wr b f v s i).grants = s.grants := rfl
@[simp] theorem wr_mgtCeil (b : Nat) (f : Fld) (v : Nat) (s : State) (i : Nat) : (wr b f v s i).mgtCeil = s.mgtCeil := rfl
@[simp] theorem wr_weirs (b : Nat) (f : Fld) (v : Nat) (s : State) (i : Nat) : (wr b f v s i).weirs = s.weirs := rfl
@[simp] theorem wr_seqs (b : Nat) (f : Fld) (v : Nat) (s : State) (i : Nat) : (wr b f v s i).seqs = s.seqs := rfl
@[simp] theorem wr_lamps (b : Nat) (f : Fld) (v : Nat) (s : State) (i : Nat) : (wr b f v s i).lamps = s.lamps := rfl
@[simp] theorem wr_strs (b : Nat) (f : Fld) (v : Nat) (s : State) (i : Nat) : (wr b f v s i).strs = s.strs := rfl
@[simp] theorem wr_drvs (b : Nat) (f : Fld) (v : Nat) (s : State) (i : Nat) : (wr b f v s i).drvs = s.drvs := rfl
@[simp] theorem wr_ports (b : Nat) (f : Fld) (v : Nat) (s : State) (i : Nat) : (wr b f v s i).ports = s.ports := rfl
@[simp] theorem wr_curves (b : Nat) (f : Fld) (v : Nat) (s : State) (i : Nat) : (wr b f v s i).curves = s.curves := rfl
@[simp] theorem wr_prog (b : Nat) (f : Fld) (v : Nat) (s : State) (i : Nat) : (wr b f v s i).prog = s.prog := rfl
@[simp] theorem wr_descr (b : Nat) (f : Fld) (v : Nat) (s : State) (i : Nat) : (wr b f v s i).descr = s.descr := rfl
@[simp] theorem wr_moves (b : Nat) (f : Fld) (v : Nat) (s : State) (i : Nat) : (wr b f v s i).moves = s.moves := rfl
@[simp] theorem wr_slots (b : Nat) (f : Fld) (v : Nat) (s : State) (i : Nat) : (wr b f v s i).slots = s.slots := rfl
@[simp] theorem wr_cores (b : Nat) (f : Fld) (v : Nat) (s : State) (i : Nat) : (wr b f v s i).cores = s.cores := rfl
@[simp] theorem wr_eddys (b : Nat) (f : Fld) (v : Nat) (s : State) (i : Nat) : (wr b f v s i).eddys = s.eddys := rfl
@[simp] theorem wr_lprog (b : Nat) (f : Fld) (v : Nat) (s : State) (i : Nat) : (wr b f v s i).lprog = s.lprog := rfl
@[simp] theorem wr_ldata (b : Nat) (f : Fld) (v : Nat) (s : State) (i : Nat) : (wr b f v s i).ldata = s.ldata := rfl
@[simp] theorem wr_binds (b : Nat) (f : Fld) (v : Nat) (s : State) (i : Nat) : (wr b f v s i).binds = s.binds := rfl
@[simp] theorem wr_sps (b : Nat) (f : Fld) (v : Nat) (s : State) (i : Nat) : (wr b f v s i).sps = s.sps := rfl
@[simp] theorem wr_spReg (b : Nat) (f : Fld) (v : Nat) (s : State) (i : Nat) : (wr b f v s i).spReg = s.spReg := rfl
@[simp] theorem wr_serve (b : Nat) (f : Fld) (v : Nat) (s : State) (i : Nat) : (wr b f v s i).serve = s.serve := rfl
@[simp] theorem wr_retired (b : Nat) (f : Fld) (v : Nat) (s : State) (i : Nat) : (wr b f v s i).retired = s.retired := rfl
@[simp] theorem wr_thermAt (b : Nat) (f : Fld) (v : Nat) (s : State) (i : Nat) : (wr b f v s i).thermAt = s.thermAt := rfl
@[simp] theorem wr_frms (b : Nat) (f : Fld) (v : Nat) (s : State) (i : Nat) : (wr b f v s i).frms = s.frms := rfl
@[simp] theorem wr_fmts (b : Nat) (f : Fld) (v : Nat) (s : State) (i : Nat) : (wr b f v s i).fmts = s.fmts := rfl
@[simp] theorem wr_time (b : Nat) (f : Fld) (v : Nat) (s : State) (i : Nat) : (wr b f v s i).time = s.time := rfl
@[simp] theorem wr_dst (b : Nat) (f : Fld) (v : Nat) (s : State) (i : Nat) : (wr b f v s i).dst = s.dst := rfl
@[simp] theorem wr_ddrs (b : Nat) (f : Fld) (v : Nat) (s : State) (i : Nat) : (wr b f v s i).ddrs = s.ddrs := rfl
@[simp] theorem wr_dreqs (b : Nat) (f : Fld) (v : Nat) (s : State) (i : Nat) : (wr b f v s i).dreqs = s.dreqs := rfl
@[simp] theorem wr_swBusy (b : Nat) (f : Fld) (v : Nat) (s : State) (i : Nat) : (wr b f v s i).swBusy = s.swBusy := rfl
@[simp] theorem wr_spareRows (b : Nat) (f : Fld) (v : Nat) (s : State) (i : Nat) : (wr b f v s i).spareRows = s.spareRows := rfl
@[simp] theorem wr_rates (b : Nat) (f : Fld) (v : Nat) (s : State) (i : Nat) : (wr b f v s i).rates = s.rates := rfl
@[simp] theorem wr_surfs (b : Nat) (f : Fld) (v : Nat) (s : State) (i : Nat) : (wr b f v s i).surfs = s.surfs := rfl
@[simp] theorem wr_flrs (b : Nat) (f : Fld) (v : Nat) (s : State) (i : Nat) : (wr b f v s i).flrs = s.flrs := rfl
@[simp] theorem wr_chs (b : Nat) (f : Fld) (v : Nat) (s : State) (i : Nat) : (wr b f v s i).chs = s.chs := rfl
@[simp] theorem wr_luts (b : Nat) (f : Fld) (v : Nat) (s : State) (i : Nat) : (wr b f v s i).luts = s.luts := rfl
@[simp] theorem wr_cmds (b : Nat) (f : Fld) (v : Nat) (s : State) (i : Nat) : (wr b f v s i).cmds = s.cmds := rfl
@[simp] theorem wr_nextCmd (b : Nat) (f : Fld) (v : Nat) (s : State) (i : Nat) : (wr b f v s i).nextCmd = s.nextCmd := rfl
@[simp] theorem wr_rings (b : Nat) (f : Fld) (v : Nat) (s : State) (i : Nat) : (wr b f v s i).rings = s.rings := rfl
@[simp] theorem wr_epochs (b : Nat) (f : Fld) (v : Nat) (s : State) (i : Nat) : (wr b f v s i).epochs = s.epochs := rfl
@[simp] theorem wr_crosses (b : Nat) (f : Fld) (v : Nat) (s : State) (i : Nat) : (wr b f v s i).crosses = s.crosses := rfl
@[simp] theorem wr_d2ds (b : Nat) (f : Fld) (v : Nat) (s : State) (i : Nat) : (wr b f v s i).d2ds = s.d2ds := rfl
@[simp] theorem wr_lockAt (b : Nat) (f : Fld) (v : Nat) (s : State) (i : Nat) : (wr b f v s i).lockAt = s.lockAt := rfl
@[simp] theorem wr_hk (b : Nat) (f : Fld) (v : Nat) (s : State) (i : Nat) : (wr b f v s i).hk = s.hk := rfl
@[simp] theorem wr_cal (b : Nat) (f : Fld) (v : Nat) (s : State) (i : Nat) : (wr b f v s i).cal = s.cal := rfl
@[simp] theorem wr_cals (b : Nat) (f : Fld) (v : Nat) (s : State) (i : Nat) : (wr b f v s i).cals = s.cals := rfl
@[simp] theorem wr_calRec (b : Nat) (f : Fld) (v : Nat) (s : State) (i : Nat) : (wr b f v s i).calRec = s.calRec := rfl
@[simp] theorem wr_curveDue (b : Nat) (f : Fld) (v : Nat) (s : State) (i : Nat) : (wr b f v s i).curveDue = s.curveDue := rfl
@[simp] theorem wr_oxs (b : Nat) (f : Fld) (v : Nat) (s : State) (i : Nat) : (wr b f v s i).oxs = s.oxs := rfl
@[simp] theorem wr_pipes (b : Nat) (f : Fld) (v : Nat) (s : State) (i : Nat) : (wr b f v s i).pipes = s.pipes := rfl
@[simp] theorem wr_pipeChs (b : Nat) (f : Fld) (v : Nat) (s : State) (i : Nat) : (wr b f v s i).pipeChs = s.pipeChs := rfl
@[simp] theorem wr_pipeRec (b : Nat) (f : Fld) (v : Nat) (s : State) (i : Nat) : (wr b f v s i).pipeRec = s.pipeRec := rfl
@[simp] theorem wr_pipeDead (b : Nat) (f : Fld) (v : Nat) (s : State) (i : Nat) : (wr b f v s i).pipeDead = s.pipeDead := rfl
@[simp] theorem wr_cfg (b : Nat) (f : Fld) (v : Nat) (s : State) (i : Nat) : (wr b f v s i).cfg = s.cfg := rfl
@[simp] theorem wr_fw (b : Nat) (f : Fld) (v : Nat) (s : State) (i : Nat) : (wr b f v s i).fw = s.fw := rfl
@[simp] theorem wr_mgt (b : Nat) (f : Fld) (v : Nat) (s : State) (i : Nat) : (wr b f v s i).mgt = s.mgt := rfl
@[simp] theorem wr_ide (b : Nat) (f : Fld) (v : Nat) (s : State) (i : Nat) : (wr b f v s i).ide = s.ide := rfl
@[simp] theorem wr_spdm (b : Nat) (f : Fld) (v : Nat) (s : State) (i : Nat) : (wr b f v s i).spdm = s.spdm := rfl

/-! ### `setEf` -/

@[simp] theorem setEf_pending (b : Nat) (f : Fld) (v : Nat) (s : State) (i : Nat) : (setEf b f v s i).pending = s.pending := rfl
@[simp] theorem setEf_out (b : Nat) (f : Fld) (v : Nat) (s : State) (i : Nat) : (setEf b f v s i).out = s.out := rfl
@[simp] theorem setEf_free (b : Nat) (f : Fld) (v : Nat) (s : State) (i : Nat) : (setEf b f v s i).free = s.free := rfl
@[simp] theorem setEf_evq (b : Nat) (f : Fld) (v : Nat) (s : State) (i : Nat) : (setEf b f v s i).evq = s.evq := rfl
@[simp] theorem setEf_memq (b : Nat) (f : Fld) (v : Nat) (s : State) (i : Nat) : (setEf b f v s i).memq = s.memq := rfl
@[simp] theorem setEf_tick (b : Nat) (f : Fld) (v : Nat) (s : State) (i : Nat) : (setEf b f v s i).tick = s.tick := rfl
@[simp] theorem setEf_ht (b : Nat) (f : Fld) (v : Nat) (s : State) (i : Nat) : (setEf b f v s i).ht = s.ht := rfl
@[simp] theorem setEf_regs (b : Nat) (f : Fld) (v : Nat) (s : State) (i : Nat) : (setEf b f v s i).regs = s.regs := rfl
@[simp] theorem setEf_latch (b : Nat) (f : Fld) (v : Nat) (s : State) (i : Nat) : (setEf b f v s i).latch = s.latch := rfl
@[simp] theorem setEf_mem (b : Nat) (f : Fld) (v : Nat) (s : State) (i : Nat) : (setEf b f v s i).mem = s.mem := rfl
@[simp] theorem setEf_memLost (b : Nat) (f : Fld) (v : Nat) (s : State) (i : Nat) : (setEf b f v s i).memLost = s.memLost := rfl
@[simp] theorem setEf_poison (b : Nat) (f : Fld) (v : Nat) (s : State) (i : Nat) : (setEf b f v s i).poison = s.poison := rfl
@[simp] theorem setEf_hub (b : Nat) (f : Fld) (v : Nat) (s : State) (i : Nat) : (setEf b f v s i).hub = s.hub := rfl
@[simp] theorem setEf_pins (b : Nat) (f : Fld) (v : Nat) (s : State) (i : Nat) : (setEf b f v s i).pins = s.pins := rfl
@[simp] theorem setEf_evr (b : Nat) (f : Fld) (v : Nat) (s : State) (i : Nat) : (setEf b f v s i).evr = s.evr := rfl
@[simp] theorem setEf_grants (b : Nat) (f : Fld) (v : Nat) (s : State) (i : Nat) : (setEf b f v s i).grants = s.grants := rfl
@[simp] theorem setEf_mgtCeil (b : Nat) (f : Fld) (v : Nat) (s : State) (i : Nat) : (setEf b f v s i).mgtCeil = s.mgtCeil := rfl
@[simp] theorem setEf_weirs (b : Nat) (f : Fld) (v : Nat) (s : State) (i : Nat) : (setEf b f v s i).weirs = s.weirs := rfl
@[simp] theorem setEf_seqs (b : Nat) (f : Fld) (v : Nat) (s : State) (i : Nat) : (setEf b f v s i).seqs = s.seqs := rfl
@[simp] theorem setEf_lamps (b : Nat) (f : Fld) (v : Nat) (s : State) (i : Nat) : (setEf b f v s i).lamps = s.lamps := rfl
@[simp] theorem setEf_strs (b : Nat) (f : Fld) (v : Nat) (s : State) (i : Nat) : (setEf b f v s i).strs = s.strs := rfl
@[simp] theorem setEf_drvs (b : Nat) (f : Fld) (v : Nat) (s : State) (i : Nat) : (setEf b f v s i).drvs = s.drvs := rfl
@[simp] theorem setEf_ports (b : Nat) (f : Fld) (v : Nat) (s : State) (i : Nat) : (setEf b f v s i).ports = s.ports := rfl
@[simp] theorem setEf_curves (b : Nat) (f : Fld) (v : Nat) (s : State) (i : Nat) : (setEf b f v s i).curves = s.curves := rfl
@[simp] theorem setEf_prog (b : Nat) (f : Fld) (v : Nat) (s : State) (i : Nat) : (setEf b f v s i).prog = s.prog := rfl
@[simp] theorem setEf_descr (b : Nat) (f : Fld) (v : Nat) (s : State) (i : Nat) : (setEf b f v s i).descr = s.descr := rfl
@[simp] theorem setEf_moves (b : Nat) (f : Fld) (v : Nat) (s : State) (i : Nat) : (setEf b f v s i).moves = s.moves := rfl
@[simp] theorem setEf_slots (b : Nat) (f : Fld) (v : Nat) (s : State) (i : Nat) : (setEf b f v s i).slots = s.slots := rfl
@[simp] theorem setEf_cores (b : Nat) (f : Fld) (v : Nat) (s : State) (i : Nat) : (setEf b f v s i).cores = s.cores := rfl
@[simp] theorem setEf_eddys (b : Nat) (f : Fld) (v : Nat) (s : State) (i : Nat) : (setEf b f v s i).eddys = s.eddys := rfl
@[simp] theorem setEf_lprog (b : Nat) (f : Fld) (v : Nat) (s : State) (i : Nat) : (setEf b f v s i).lprog = s.lprog := rfl
@[simp] theorem setEf_ldata (b : Nat) (f : Fld) (v : Nat) (s : State) (i : Nat) : (setEf b f v s i).ldata = s.ldata := rfl
@[simp] theorem setEf_binds (b : Nat) (f : Fld) (v : Nat) (s : State) (i : Nat) : (setEf b f v s i).binds = s.binds := rfl
@[simp] theorem setEf_sps (b : Nat) (f : Fld) (v : Nat) (s : State) (i : Nat) : (setEf b f v s i).sps = s.sps := rfl
@[simp] theorem setEf_spReg (b : Nat) (f : Fld) (v : Nat) (s : State) (i : Nat) : (setEf b f v s i).spReg = s.spReg := rfl
@[simp] theorem setEf_serve (b : Nat) (f : Fld) (v : Nat) (s : State) (i : Nat) : (setEf b f v s i).serve = s.serve := rfl
@[simp] theorem setEf_retired (b : Nat) (f : Fld) (v : Nat) (s : State) (i : Nat) : (setEf b f v s i).retired = s.retired := rfl
@[simp] theorem setEf_thermAt (b : Nat) (f : Fld) (v : Nat) (s : State) (i : Nat) : (setEf b f v s i).thermAt = s.thermAt := rfl
@[simp] theorem setEf_frms (b : Nat) (f : Fld) (v : Nat) (s : State) (i : Nat) : (setEf b f v s i).frms = s.frms := rfl
@[simp] theorem setEf_fmts (b : Nat) (f : Fld) (v : Nat) (s : State) (i : Nat) : (setEf b f v s i).fmts = s.fmts := rfl
@[simp] theorem setEf_time (b : Nat) (f : Fld) (v : Nat) (s : State) (i : Nat) : (setEf b f v s i).time = s.time := rfl
@[simp] theorem setEf_dst (b : Nat) (f : Fld) (v : Nat) (s : State) (i : Nat) : (setEf b f v s i).dst = s.dst := rfl
@[simp] theorem setEf_ddrs (b : Nat) (f : Fld) (v : Nat) (s : State) (i : Nat) : (setEf b f v s i).ddrs = s.ddrs := rfl
@[simp] theorem setEf_dreqs (b : Nat) (f : Fld) (v : Nat) (s : State) (i : Nat) : (setEf b f v s i).dreqs = s.dreqs := rfl
@[simp] theorem setEf_swBusy (b : Nat) (f : Fld) (v : Nat) (s : State) (i : Nat) : (setEf b f v s i).swBusy = s.swBusy := rfl
@[simp] theorem setEf_spareRows (b : Nat) (f : Fld) (v : Nat) (s : State) (i : Nat) : (setEf b f v s i).spareRows = s.spareRows := rfl
@[simp] theorem setEf_rates (b : Nat) (f : Fld) (v : Nat) (s : State) (i : Nat) : (setEf b f v s i).rates = s.rates := rfl
@[simp] theorem setEf_surfs (b : Nat) (f : Fld) (v : Nat) (s : State) (i : Nat) : (setEf b f v s i).surfs = s.surfs := rfl
@[simp] theorem setEf_flrs (b : Nat) (f : Fld) (v : Nat) (s : State) (i : Nat) : (setEf b f v s i).flrs = s.flrs := rfl
@[simp] theorem setEf_chs (b : Nat) (f : Fld) (v : Nat) (s : State) (i : Nat) : (setEf b f v s i).chs = s.chs := rfl
@[simp] theorem setEf_luts (b : Nat) (f : Fld) (v : Nat) (s : State) (i : Nat) : (setEf b f v s i).luts = s.luts := rfl
@[simp] theorem setEf_cmds (b : Nat) (f : Fld) (v : Nat) (s : State) (i : Nat) : (setEf b f v s i).cmds = s.cmds := rfl
@[simp] theorem setEf_nextCmd (b : Nat) (f : Fld) (v : Nat) (s : State) (i : Nat) : (setEf b f v s i).nextCmd = s.nextCmd := rfl
@[simp] theorem setEf_rings (b : Nat) (f : Fld) (v : Nat) (s : State) (i : Nat) : (setEf b f v s i).rings = s.rings := rfl
@[simp] theorem setEf_epochs (b : Nat) (f : Fld) (v : Nat) (s : State) (i : Nat) : (setEf b f v s i).epochs = s.epochs := rfl
@[simp] theorem setEf_crosses (b : Nat) (f : Fld) (v : Nat) (s : State) (i : Nat) : (setEf b f v s i).crosses = s.crosses := rfl
@[simp] theorem setEf_d2ds (b : Nat) (f : Fld) (v : Nat) (s : State) (i : Nat) : (setEf b f v s i).d2ds = s.d2ds := rfl
@[simp] theorem setEf_lockAt (b : Nat) (f : Fld) (v : Nat) (s : State) (i : Nat) : (setEf b f v s i).lockAt = s.lockAt := rfl
@[simp] theorem setEf_hk (b : Nat) (f : Fld) (v : Nat) (s : State) (i : Nat) : (setEf b f v s i).hk = s.hk := rfl
@[simp] theorem setEf_cal (b : Nat) (f : Fld) (v : Nat) (s : State) (i : Nat) : (setEf b f v s i).cal = s.cal := rfl
@[simp] theorem setEf_cals (b : Nat) (f : Fld) (v : Nat) (s : State) (i : Nat) : (setEf b f v s i).cals = s.cals := rfl
@[simp] theorem setEf_calRec (b : Nat) (f : Fld) (v : Nat) (s : State) (i : Nat) : (setEf b f v s i).calRec = s.calRec := rfl
@[simp] theorem setEf_curveDue (b : Nat) (f : Fld) (v : Nat) (s : State) (i : Nat) : (setEf b f v s i).curveDue = s.curveDue := rfl
@[simp] theorem setEf_oxs (b : Nat) (f : Fld) (v : Nat) (s : State) (i : Nat) : (setEf b f v s i).oxs = s.oxs := rfl
@[simp] theorem setEf_pipes (b : Nat) (f : Fld) (v : Nat) (s : State) (i : Nat) : (setEf b f v s i).pipes = s.pipes := rfl
@[simp] theorem setEf_pipeChs (b : Nat) (f : Fld) (v : Nat) (s : State) (i : Nat) : (setEf b f v s i).pipeChs = s.pipeChs := rfl
@[simp] theorem setEf_pipeRec (b : Nat) (f : Fld) (v : Nat) (s : State) (i : Nat) : (setEf b f v s i).pipeRec = s.pipeRec := rfl
@[simp] theorem setEf_pipeDead (b : Nat) (f : Fld) (v : Nat) (s : State) (i : Nat) : (setEf b f v s i).pipeDead = s.pipeDead := rfl
@[simp] theorem setEf_cfg (b : Nat) (f : Fld) (v : Nat) (s : State) (i : Nat) : (setEf b f v s i).cfg = s.cfg := rfl
@[simp] theorem setEf_fw (b : Nat) (f : Fld) (v : Nat) (s : State) (i : Nat) : (setEf b f v s i).fw = s.fw := rfl
@[simp] theorem setEf_mgt (b : Nat) (f : Fld) (v : Nat) (s : State) (i : Nat) : (setEf b f v s i).mgt = s.mgt := rfl
@[simp] theorem setEf_ide (b : Nat) (f : Fld) (v : Nat) (s : State) (i : Nat) : (setEf b f v s i).ide = s.ide := rfl
@[simp] theorem setEf_spdm (b : Nat) (f : Fld) (v : Nat) (s : State) (i : Nat) : (setEf b f v s i).spdm = s.spdm := rfl

/-! ### `emitOut` -/

@[simp] theorem emitOut_pending (o : Out) (s : State) : (emitOut o s).pending = s.pending := rfl
@[simp] theorem emitOut_free (o : Out) (s : State) : (emitOut o s).free = s.free := rfl
@[simp] theorem emitOut_evq (o : Out) (s : State) : (emitOut o s).evq = s.evq := rfl
@[simp] theorem emitOut_memq (o : Out) (s : State) : (emitOut o s).memq = s.memq := rfl
@[simp] theorem emitOut_tick (o : Out) (s : State) : (emitOut o s).tick = s.tick := rfl
@[simp] theorem emitOut_ht (o : Out) (s : State) : (emitOut o s).ht = s.ht := rfl
@[simp] theorem emitOut_regs (o : Out) (s : State) : (emitOut o s).regs = s.regs := rfl
@[simp] theorem emitOut_eff (o : Out) (s : State) : (emitOut o s).eff = s.eff := rfl
@[simp] theorem emitOut_latch (o : Out) (s : State) : (emitOut o s).latch = s.latch := rfl
@[simp] theorem emitOut_mem (o : Out) (s : State) : (emitOut o s).mem = s.mem := rfl
@[simp] theorem emitOut_memLost (o : Out) (s : State) : (emitOut o s).memLost = s.memLost := rfl
@[simp] theorem emitOut_poison (o : Out) (s : State) : (emitOut o s).poison = s.poison := rfl
@[simp] theorem emitOut_hub (o : Out) (s : State) : (emitOut o s).hub = s.hub := rfl
@[simp] theorem emitOut_pins (o : Out) (s : State) : (emitOut o s).pins = s.pins := rfl
@[simp] theorem emitOut_evr (o : Out) (s : State) : (emitOut o s).evr = s.evr := rfl
@[simp] theorem emitOut_grants (o : Out) (s : State) : (emitOut o s).grants = s.grants := rfl
@[simp] theorem emitOut_mgtCeil (o : Out) (s : State) : (emitOut o s).mgtCeil = s.mgtCeil := rfl
@[simp] theorem emitOut_weirs (o : Out) (s : State) : (emitOut o s).weirs = s.weirs := rfl
@[simp] theorem emitOut_seqs (o : Out) (s : State) : (emitOut o s).seqs = s.seqs := rfl
@[simp] theorem emitOut_lamps (o : Out) (s : State) : (emitOut o s).lamps = s.lamps := rfl
@[simp] theorem emitOut_strs (o : Out) (s : State) : (emitOut o s).strs = s.strs := rfl
@[simp] theorem emitOut_drvs (o : Out) (s : State) : (emitOut o s).drvs = s.drvs := rfl
@[simp] theorem emitOut_ports (o : Out) (s : State) : (emitOut o s).ports = s.ports := rfl
@[simp] theorem emitOut_curves (o : Out) (s : State) : (emitOut o s).curves = s.curves := rfl
@[simp] theorem emitOut_prog (o : Out) (s : State) : (emitOut o s).prog = s.prog := rfl
@[simp] theorem emitOut_descr (o : Out) (s : State) : (emitOut o s).descr = s.descr := rfl
@[simp] theorem emitOut_moves (o : Out) (s : State) : (emitOut o s).moves = s.moves := rfl
@[simp] theorem emitOut_slots (o : Out) (s : State) : (emitOut o s).slots = s.slots := rfl
@[simp] theorem emitOut_cores (o : Out) (s : State) : (emitOut o s).cores = s.cores := rfl
@[simp] theorem emitOut_eddys (o : Out) (s : State) : (emitOut o s).eddys = s.eddys := rfl
@[simp] theorem emitOut_lprog (o : Out) (s : State) : (emitOut o s).lprog = s.lprog := rfl
@[simp] theorem emitOut_ldata (o : Out) (s : State) : (emitOut o s).ldata = s.ldata := rfl
@[simp] theorem emitOut_binds (o : Out) (s : State) : (emitOut o s).binds = s.binds := rfl
@[simp] theorem emitOut_sps (o : Out) (s : State) : (emitOut o s).sps = s.sps := rfl
@[simp] theorem emitOut_spReg (o : Out) (s : State) : (emitOut o s).spReg = s.spReg := rfl
@[simp] theorem emitOut_serve (o : Out) (s : State) : (emitOut o s).serve = s.serve := rfl
@[simp] theorem emitOut_retired (o : Out) (s : State) : (emitOut o s).retired = s.retired := rfl
@[simp] theorem emitOut_thermAt (o : Out) (s : State) : (emitOut o s).thermAt = s.thermAt := rfl
@[simp] theorem emitOut_frms (o : Out) (s : State) : (emitOut o s).frms = s.frms := rfl
@[simp] theorem emitOut_fmts (o : Out) (s : State) : (emitOut o s).fmts = s.fmts := rfl
@[simp] theorem emitOut_time (o : Out) (s : State) : (emitOut o s).time = s.time := rfl
@[simp] theorem emitOut_dst (o : Out) (s : State) : (emitOut o s).dst = s.dst := rfl
@[simp] theorem emitOut_ddrs (o : Out) (s : State) : (emitOut o s).ddrs = s.ddrs := rfl
@[simp] theorem emitOut_dreqs (o : Out) (s : State) : (emitOut o s).dreqs = s.dreqs := rfl
@[simp] theorem emitOut_swBusy (o : Out) (s : State) : (emitOut o s).swBusy = s.swBusy := rfl
@[simp] theorem emitOut_spareRows (o : Out) (s : State) : (emitOut o s).spareRows = s.spareRows := rfl
@[simp] theorem emitOut_rates (o : Out) (s : State) : (emitOut o s).rates = s.rates := rfl
@[simp] theorem emitOut_surfs (o : Out) (s : State) : (emitOut o s).surfs = s.surfs := rfl
@[simp] theorem emitOut_flrs (o : Out) (s : State) : (emitOut o s).flrs = s.flrs := rfl
@[simp] theorem emitOut_chs (o : Out) (s : State) : (emitOut o s).chs = s.chs := rfl
@[simp] theorem emitOut_luts (o : Out) (s : State) : (emitOut o s).luts = s.luts := rfl
@[simp] theorem emitOut_cmds (o : Out) (s : State) : (emitOut o s).cmds = s.cmds := rfl
@[simp] theorem emitOut_nextCmd (o : Out) (s : State) : (emitOut o s).nextCmd = s.nextCmd := rfl
@[simp] theorem emitOut_rings (o : Out) (s : State) : (emitOut o s).rings = s.rings := rfl
@[simp] theorem emitOut_epochs (o : Out) (s : State) : (emitOut o s).epochs = s.epochs := rfl
@[simp] theorem emitOut_crosses (o : Out) (s : State) : (emitOut o s).crosses = s.crosses := rfl
@[simp] theorem emitOut_d2ds (o : Out) (s : State) : (emitOut o s).d2ds = s.d2ds := rfl
@[simp] theorem emitOut_lockAt (o : Out) (s : State) : (emitOut o s).lockAt = s.lockAt := rfl
@[simp] theorem emitOut_hk (o : Out) (s : State) : (emitOut o s).hk = s.hk := rfl
@[simp] theorem emitOut_cal (o : Out) (s : State) : (emitOut o s).cal = s.cal := rfl
@[simp] theorem emitOut_cals (o : Out) (s : State) : (emitOut o s).cals = s.cals := rfl
@[simp] theorem emitOut_calRec (o : Out) (s : State) : (emitOut o s).calRec = s.calRec := rfl
@[simp] theorem emitOut_curveDue (o : Out) (s : State) : (emitOut o s).curveDue = s.curveDue := rfl
@[simp] theorem emitOut_oxs (o : Out) (s : State) : (emitOut o s).oxs = s.oxs := rfl
@[simp] theorem emitOut_pipes (o : Out) (s : State) : (emitOut o s).pipes = s.pipes := rfl
@[simp] theorem emitOut_pipeChs (o : Out) (s : State) : (emitOut o s).pipeChs = s.pipeChs := rfl
@[simp] theorem emitOut_pipeRec (o : Out) (s : State) : (emitOut o s).pipeRec = s.pipeRec := rfl
@[simp] theorem emitOut_pipeDead (o : Out) (s : State) : (emitOut o s).pipeDead = s.pipeDead := rfl
@[simp] theorem emitOut_cfg (o : Out) (s : State) : (emitOut o s).cfg = s.cfg := rfl
@[simp] theorem emitOut_fw (o : Out) (s : State) : (emitOut o s).fw = s.fw := rfl
@[simp] theorem emitOut_mgt (o : Out) (s : State) : (emitOut o s).mgt = s.mgt := rfl
@[simp] theorem emitOut_ide (o : Out) (s : State) : (emitOut o s).ide = s.ide := rfl
@[simp] theorem emitOut_spdm (o : Out) (s : State) : (emitOut o s).spdm = s.spdm := rfl

/-! ### `store` -/

@[simp] theorem store_pending (a : Nat) (bs : List Byte) (s : State) : (store a bs s).pending = s.pending := rfl
@[simp] theorem store_out (a : Nat) (bs : List Byte) (s : State) : (store a bs s).out = s.out := rfl
@[simp] theorem store_free (a : Nat) (bs : List Byte) (s : State) : (store a bs s).free = s.free := rfl
@[simp] theorem store_evq (a : Nat) (bs : List Byte) (s : State) : (store a bs s).evq = s.evq := rfl
@[simp] theorem store_tick (a : Nat) (bs : List Byte) (s : State) : (store a bs s).tick = s.tick := rfl
@[simp] theorem store_ht (a : Nat) (bs : List Byte) (s : State) : (store a bs s).ht = s.ht := rfl
@[simp] theorem store_regs (a : Nat) (bs : List Byte) (s : State) : (store a bs s).regs = s.regs := rfl
@[simp] theorem store_eff (a : Nat) (bs : List Byte) (s : State) : (store a bs s).eff = s.eff := rfl
@[simp] theorem store_latch (a : Nat) (bs : List Byte) (s : State) : (store a bs s).latch = s.latch := rfl
@[simp] theorem store_mem (a : Nat) (bs : List Byte) (s : State) : (store a bs s).mem = s.mem := rfl
@[simp] theorem store_memLost (a : Nat) (bs : List Byte) (s : State) : (store a bs s).memLost = s.memLost := rfl
@[simp] theorem store_hub (a : Nat) (bs : List Byte) (s : State) : (store a bs s).hub = s.hub := rfl
@[simp] theorem store_pins (a : Nat) (bs : List Byte) (s : State) : (store a bs s).pins = s.pins := rfl
@[simp] theorem store_evr (a : Nat) (bs : List Byte) (s : State) : (store a bs s).evr = s.evr := rfl
@[simp] theorem store_grants (a : Nat) (bs : List Byte) (s : State) : (store a bs s).grants = s.grants := rfl
@[simp] theorem store_mgtCeil (a : Nat) (bs : List Byte) (s : State) : (store a bs s).mgtCeil = s.mgtCeil := rfl
@[simp] theorem store_weirs (a : Nat) (bs : List Byte) (s : State) : (store a bs s).weirs = s.weirs := rfl
@[simp] theorem store_seqs (a : Nat) (bs : List Byte) (s : State) : (store a bs s).seqs = s.seqs := rfl
@[simp] theorem store_lamps (a : Nat) (bs : List Byte) (s : State) : (store a bs s).lamps = s.lamps := rfl
@[simp] theorem store_strs (a : Nat) (bs : List Byte) (s : State) : (store a bs s).strs = s.strs := rfl
@[simp] theorem store_drvs (a : Nat) (bs : List Byte) (s : State) : (store a bs s).drvs = s.drvs := rfl
@[simp] theorem store_ports (a : Nat) (bs : List Byte) (s : State) : (store a bs s).ports = s.ports := rfl
@[simp] theorem store_curves (a : Nat) (bs : List Byte) (s : State) : (store a bs s).curves = s.curves := rfl
@[simp] theorem store_prog (a : Nat) (bs : List Byte) (s : State) : (store a bs s).prog = s.prog := rfl
@[simp] theorem store_descr (a : Nat) (bs : List Byte) (s : State) : (store a bs s).descr = s.descr := rfl
@[simp] theorem store_moves (a : Nat) (bs : List Byte) (s : State) : (store a bs s).moves = s.moves := rfl
@[simp] theorem store_slots (a : Nat) (bs : List Byte) (s : State) : (store a bs s).slots = s.slots := rfl
@[simp] theorem store_cores (a : Nat) (bs : List Byte) (s : State) : (store a bs s).cores = s.cores := rfl
@[simp] theorem store_eddys (a : Nat) (bs : List Byte) (s : State) : (store a bs s).eddys = s.eddys := rfl
@[simp] theorem store_lprog (a : Nat) (bs : List Byte) (s : State) : (store a bs s).lprog = s.lprog := rfl
@[simp] theorem store_ldata (a : Nat) (bs : List Byte) (s : State) : (store a bs s).ldata = s.ldata := rfl
@[simp] theorem store_binds (a : Nat) (bs : List Byte) (s : State) : (store a bs s).binds = s.binds := rfl
@[simp] theorem store_sps (a : Nat) (bs : List Byte) (s : State) : (store a bs s).sps = s.sps := rfl
@[simp] theorem store_spReg (a : Nat) (bs : List Byte) (s : State) : (store a bs s).spReg = s.spReg := rfl
@[simp] theorem store_serve (a : Nat) (bs : List Byte) (s : State) : (store a bs s).serve = s.serve := rfl
@[simp] theorem store_retired (a : Nat) (bs : List Byte) (s : State) : (store a bs s).retired = s.retired := rfl
@[simp] theorem store_thermAt (a : Nat) (bs : List Byte) (s : State) : (store a bs s).thermAt = s.thermAt := rfl
@[simp] theorem store_frms (a : Nat) (bs : List Byte) (s : State) : (store a bs s).frms = s.frms := rfl
@[simp] theorem store_fmts (a : Nat) (bs : List Byte) (s : State) : (store a bs s).fmts = s.fmts := rfl
@[simp] theorem store_time (a : Nat) (bs : List Byte) (s : State) : (store a bs s).time = s.time := rfl
@[simp] theorem store_dst (a : Nat) (bs : List Byte) (s : State) : (store a bs s).dst = s.dst := rfl
@[simp] theorem store_ddrs (a : Nat) (bs : List Byte) (s : State) : (store a bs s).ddrs = s.ddrs := rfl
@[simp] theorem store_dreqs (a : Nat) (bs : List Byte) (s : State) : (store a bs s).dreqs = s.dreqs := rfl
@[simp] theorem store_swBusy (a : Nat) (bs : List Byte) (s : State) : (store a bs s).swBusy = s.swBusy := rfl
@[simp] theorem store_spareRows (a : Nat) (bs : List Byte) (s : State) : (store a bs s).spareRows = s.spareRows := rfl
@[simp] theorem store_rates (a : Nat) (bs : List Byte) (s : State) : (store a bs s).rates = s.rates := rfl
@[simp] theorem store_surfs (a : Nat) (bs : List Byte) (s : State) : (store a bs s).surfs = s.surfs := rfl
@[simp] theorem store_flrs (a : Nat) (bs : List Byte) (s : State) : (store a bs s).flrs = s.flrs := rfl
@[simp] theorem store_chs (a : Nat) (bs : List Byte) (s : State) : (store a bs s).chs = s.chs := rfl
@[simp] theorem store_luts (a : Nat) (bs : List Byte) (s : State) : (store a bs s).luts = s.luts := rfl
@[simp] theorem store_cmds (a : Nat) (bs : List Byte) (s : State) : (store a bs s).cmds = s.cmds := rfl
@[simp] theorem store_nextCmd (a : Nat) (bs : List Byte) (s : State) : (store a bs s).nextCmd = s.nextCmd := rfl
@[simp] theorem store_rings (a : Nat) (bs : List Byte) (s : State) : (store a bs s).rings = s.rings := rfl
@[simp] theorem store_epochs (a : Nat) (bs : List Byte) (s : State) : (store a bs s).epochs = s.epochs := rfl
@[simp] theorem store_crosses (a : Nat) (bs : List Byte) (s : State) : (store a bs s).crosses = s.crosses := rfl
@[simp] theorem store_d2ds (a : Nat) (bs : List Byte) (s : State) : (store a bs s).d2ds = s.d2ds := rfl
@[simp] theorem store_lockAt (a : Nat) (bs : List Byte) (s : State) : (store a bs s).lockAt = s.lockAt := rfl
@[simp] theorem store_hk (a : Nat) (bs : List Byte) (s : State) : (store a bs s).hk = s.hk := rfl
@[simp] theorem store_cal (a : Nat) (bs : List Byte) (s : State) : (store a bs s).cal = s.cal := rfl
@[simp] theorem store_cals (a : Nat) (bs : List Byte) (s : State) : (store a bs s).cals = s.cals := rfl
@[simp] theorem store_calRec (a : Nat) (bs : List Byte) (s : State) : (store a bs s).calRec = s.calRec := rfl
@[simp] theorem store_curveDue (a : Nat) (bs : List Byte) (s : State) : (store a bs s).curveDue = s.curveDue := rfl
@[simp] theorem store_oxs (a : Nat) (bs : List Byte) (s : State) : (store a bs s).oxs = s.oxs := rfl
@[simp] theorem store_pipes (a : Nat) (bs : List Byte) (s : State) : (store a bs s).pipes = s.pipes := rfl
@[simp] theorem store_pipeChs (a : Nat) (bs : List Byte) (s : State) : (store a bs s).pipeChs = s.pipeChs := rfl
@[simp] theorem store_pipeRec (a : Nat) (bs : List Byte) (s : State) : (store a bs s).pipeRec = s.pipeRec := rfl
@[simp] theorem store_pipeDead (a : Nat) (bs : List Byte) (s : State) : (store a bs s).pipeDead = s.pipeDead := rfl
@[simp] theorem store_cfg (a : Nat) (bs : List Byte) (s : State) : (store a bs s).cfg = s.cfg := rfl
@[simp] theorem store_fw (a : Nat) (bs : List Byte) (s : State) : (store a bs s).fw = s.fw := rfl
@[simp] theorem store_mgt (a : Nat) (bs : List Byte) (s : State) : (store a bs s).mgt = s.mgt := rfl
@[simp] theorem store_ide (a : Nat) (bs : List Byte) (s : State) : (store a bs s).ide = s.ide := rfl
@[simp] theorem store_spdm (a : Nat) (bs : List Byte) (s : State) : (store a bs s).spdm = s.spdm := rfl

/-! ### `setRate` -/

@[simp] theorem setRate_pending (k : Nat) (r : Rate) (s : State) : (setRate k r s).pending = s.pending := rfl
@[simp] theorem setRate_out (k : Nat) (r : Rate) (s : State) : (setRate k r s).out = s.out := rfl
@[simp] theorem setRate_free (k : Nat) (r : Rate) (s : State) : (setRate k r s).free = s.free := rfl
@[simp] theorem setRate_evq (k : Nat) (r : Rate) (s : State) : (setRate k r s).evq = s.evq := rfl
@[simp] theorem setRate_memq (k : Nat) (r : Rate) (s : State) : (setRate k r s).memq = s.memq := rfl
@[simp] theorem setRate_tick (k : Nat) (r : Rate) (s : State) : (setRate k r s).tick = s.tick := rfl
@[simp] theorem setRate_ht (k : Nat) (r : Rate) (s : State) : (setRate k r s).ht = s.ht := rfl
@[simp] theorem setRate_regs (k : Nat) (r : Rate) (s : State) : (setRate k r s).regs = s.regs := rfl
@[simp] theorem setRate_eff (k : Nat) (r : Rate) (s : State) : (setRate k r s).eff = s.eff := rfl
@[simp] theorem setRate_latch (k : Nat) (r : Rate) (s : State) : (setRate k r s).latch = s.latch := rfl
@[simp] theorem setRate_mem (k : Nat) (r : Rate) (s : State) : (setRate k r s).mem = s.mem := rfl
@[simp] theorem setRate_memLost (k : Nat) (r : Rate) (s : State) : (setRate k r s).memLost = s.memLost := rfl
@[simp] theorem setRate_poison (k : Nat) (r : Rate) (s : State) : (setRate k r s).poison = s.poison := rfl
@[simp] theorem setRate_hub (k : Nat) (r : Rate) (s : State) : (setRate k r s).hub = s.hub := rfl
@[simp] theorem setRate_pins (k : Nat) (r : Rate) (s : State) : (setRate k r s).pins = s.pins := rfl
@[simp] theorem setRate_evr (k : Nat) (r : Rate) (s : State) : (setRate k r s).evr = s.evr := rfl
@[simp] theorem setRate_grants (k : Nat) (r : Rate) (s : State) : (setRate k r s).grants = s.grants := rfl
@[simp] theorem setRate_mgtCeil (k : Nat) (r : Rate) (s : State) : (setRate k r s).mgtCeil = s.mgtCeil := rfl
@[simp] theorem setRate_weirs (k : Nat) (r : Rate) (s : State) : (setRate k r s).weirs = s.weirs := rfl
@[simp] theorem setRate_seqs (k : Nat) (r : Rate) (s : State) : (setRate k r s).seqs = s.seqs := rfl
@[simp] theorem setRate_lamps (k : Nat) (r : Rate) (s : State) : (setRate k r s).lamps = s.lamps := rfl
@[simp] theorem setRate_strs (k : Nat) (r : Rate) (s : State) : (setRate k r s).strs = s.strs := rfl
@[simp] theorem setRate_drvs (k : Nat) (r : Rate) (s : State) : (setRate k r s).drvs = s.drvs := rfl
@[simp] theorem setRate_ports (k : Nat) (r : Rate) (s : State) : (setRate k r s).ports = s.ports := rfl
@[simp] theorem setRate_curves (k : Nat) (r : Rate) (s : State) : (setRate k r s).curves = s.curves := rfl
@[simp] theorem setRate_prog (k : Nat) (r : Rate) (s : State) : (setRate k r s).prog = s.prog := rfl
@[simp] theorem setRate_descr (k : Nat) (r : Rate) (s : State) : (setRate k r s).descr = s.descr := rfl
@[simp] theorem setRate_moves (k : Nat) (r : Rate) (s : State) : (setRate k r s).moves = s.moves := rfl
@[simp] theorem setRate_slots (k : Nat) (r : Rate) (s : State) : (setRate k r s).slots = s.slots := rfl
@[simp] theorem setRate_cores (k : Nat) (r : Rate) (s : State) : (setRate k r s).cores = s.cores := rfl
@[simp] theorem setRate_eddys (k : Nat) (r : Rate) (s : State) : (setRate k r s).eddys = s.eddys := rfl
@[simp] theorem setRate_lprog (k : Nat) (r : Rate) (s : State) : (setRate k r s).lprog = s.lprog := rfl
@[simp] theorem setRate_ldata (k : Nat) (r : Rate) (s : State) : (setRate k r s).ldata = s.ldata := rfl
@[simp] theorem setRate_binds (k : Nat) (r : Rate) (s : State) : (setRate k r s).binds = s.binds := rfl
@[simp] theorem setRate_sps (k : Nat) (r : Rate) (s : State) : (setRate k r s).sps = s.sps := rfl
@[simp] theorem setRate_spReg (k : Nat) (r : Rate) (s : State) : (setRate k r s).spReg = s.spReg := rfl
@[simp] theorem setRate_serve (k : Nat) (r : Rate) (s : State) : (setRate k r s).serve = s.serve := rfl
@[simp] theorem setRate_retired (k : Nat) (r : Rate) (s : State) : (setRate k r s).retired = s.retired := rfl
@[simp] theorem setRate_thermAt (k : Nat) (r : Rate) (s : State) : (setRate k r s).thermAt = s.thermAt := rfl
@[simp] theorem setRate_frms (k : Nat) (r : Rate) (s : State) : (setRate k r s).frms = s.frms := rfl
@[simp] theorem setRate_fmts (k : Nat) (r : Rate) (s : State) : (setRate k r s).fmts = s.fmts := rfl
@[simp] theorem setRate_time (k : Nat) (r : Rate) (s : State) : (setRate k r s).time = s.time := rfl
@[simp] theorem setRate_dst (k : Nat) (r : Rate) (s : State) : (setRate k r s).dst = s.dst := rfl
@[simp] theorem setRate_ddrs (k : Nat) (r : Rate) (s : State) : (setRate k r s).ddrs = s.ddrs := rfl
@[simp] theorem setRate_dreqs (k : Nat) (r : Rate) (s : State) : (setRate k r s).dreqs = s.dreqs := rfl
@[simp] theorem setRate_swBusy (k : Nat) (r : Rate) (s : State) : (setRate k r s).swBusy = s.swBusy := rfl
@[simp] theorem setRate_spareRows (k : Nat) (r : Rate) (s : State) : (setRate k r s).spareRows = s.spareRows := rfl
@[simp] theorem setRate_surfs (k : Nat) (r : Rate) (s : State) : (setRate k r s).surfs = s.surfs := rfl
@[simp] theorem setRate_flrs (k : Nat) (r : Rate) (s : State) : (setRate k r s).flrs = s.flrs := rfl
@[simp] theorem setRate_chs (k : Nat) (r : Rate) (s : State) : (setRate k r s).chs = s.chs := rfl
@[simp] theorem setRate_luts (k : Nat) (r : Rate) (s : State) : (setRate k r s).luts = s.luts := rfl
@[simp] theorem setRate_cmds (k : Nat) (r : Rate) (s : State) : (setRate k r s).cmds = s.cmds := rfl
@[simp] theorem setRate_nextCmd (k : Nat) (r : Rate) (s : State) : (setRate k r s).nextCmd = s.nextCmd := rfl
@[simp] theorem setRate_rings (k : Nat) (r : Rate) (s : State) : (setRate k r s).rings = s.rings := rfl
@[simp] theorem setRate_epochs (k : Nat) (r : Rate) (s : State) : (setRate k r s).epochs = s.epochs := rfl
@[simp] theorem setRate_crosses (k : Nat) (r : Rate) (s : State) : (setRate k r s).crosses = s.crosses := rfl
@[simp] theorem setRate_d2ds (k : Nat) (r : Rate) (s : State) : (setRate k r s).d2ds = s.d2ds := rfl
@[simp] theorem setRate_lockAt (k : Nat) (r : Rate) (s : State) : (setRate k r s).lockAt = s.lockAt := rfl
@[simp] theorem setRate_hk (k : Nat) (r : Rate) (s : State) : (setRate k r s).hk = s.hk := rfl
@[simp] theorem setRate_cal (k : Nat) (r : Rate) (s : State) : (setRate k r s).cal = s.cal := rfl
@[simp] theorem setRate_cals (k : Nat) (r : Rate) (s : State) : (setRate k r s).cals = s.cals := rfl
@[simp] theorem setRate_calRec (k : Nat) (r : Rate) (s : State) : (setRate k r s).calRec = s.calRec := rfl
@[simp] theorem setRate_curveDue (k : Nat) (r : Rate) (s : State) : (setRate k r s).curveDue = s.curveDue := rfl
@[simp] theorem setRate_oxs (k : Nat) (r : Rate) (s : State) : (setRate k r s).oxs = s.oxs := rfl
@[simp] theorem setRate_pipes (k : Nat) (r : Rate) (s : State) : (setRate k r s).pipes = s.pipes := rfl
@[simp] theorem setRate_pipeChs (k : Nat) (r : Rate) (s : State) : (setRate k r s).pipeChs = s.pipeChs := rfl
@[simp] theorem setRate_pipeRec (k : Nat) (r : Rate) (s : State) : (setRate k r s).pipeRec = s.pipeRec := rfl
@[simp] theorem setRate_pipeDead (k : Nat) (r : Rate) (s : State) : (setRate k r s).pipeDead = s.pipeDead := rfl
@[simp] theorem setRate_cfg (k : Nat) (r : Rate) (s : State) : (setRate k r s).cfg = s.cfg := rfl
@[simp] theorem setRate_fw (k : Nat) (r : Rate) (s : State) : (setRate k r s).fw = s.fw := rfl
@[simp] theorem setRate_mgt (k : Nat) (r : Rate) (s : State) : (setRate k r s).mgt = s.mgt := rfl
@[simp] theorem setRate_ide (k : Nat) (r : Rate) (s : State) : (setRate k r s).ide = s.ide := rfl
@[simp] theorem setRate_spdm (k : Nat) (r : Rate) (s : State) : (setRate k r s).spdm = s.spdm := rfl

/-! ### `setEvRing` -/

@[simp] theorem setEvRing_pending (t : Nat) (r : EvRing) (s : State) : (setEvRing t r s).pending = s.pending := rfl
@[simp] theorem setEvRing_out (t : Nat) (r : EvRing) (s : State) : (setEvRing t r s).out = s.out := rfl
@[simp] theorem setEvRing_free (t : Nat) (r : EvRing) (s : State) : (setEvRing t r s).free = s.free := rfl
@[simp] theorem setEvRing_evq (t : Nat) (r : EvRing) (s : State) : (setEvRing t r s).evq = s.evq := rfl
@[simp] theorem setEvRing_memq (t : Nat) (r : EvRing) (s : State) : (setEvRing t r s).memq = s.memq := rfl
@[simp] theorem setEvRing_tick (t : Nat) (r : EvRing) (s : State) : (setEvRing t r s).tick = s.tick := rfl
@[simp] theorem setEvRing_ht (t : Nat) (r : EvRing) (s : State) : (setEvRing t r s).ht = s.ht := rfl
@[simp] theorem setEvRing_regs (t : Nat) (r : EvRing) (s : State) : (setEvRing t r s).regs = s.regs := rfl
@[simp] theorem setEvRing_eff (t : Nat) (r : EvRing) (s : State) : (setEvRing t r s).eff = s.eff := rfl
@[simp] theorem setEvRing_latch (t : Nat) (r : EvRing) (s : State) : (setEvRing t r s).latch = s.latch := rfl
@[simp] theorem setEvRing_mem (t : Nat) (r : EvRing) (s : State) : (setEvRing t r s).mem = s.mem := rfl
@[simp] theorem setEvRing_memLost (t : Nat) (r : EvRing) (s : State) : (setEvRing t r s).memLost = s.memLost := rfl
@[simp] theorem setEvRing_poison (t : Nat) (r : EvRing) (s : State) : (setEvRing t r s).poison = s.poison := rfl
@[simp] theorem setEvRing_hub (t : Nat) (r : EvRing) (s : State) : (setEvRing t r s).hub = s.hub := rfl
@[simp] theorem setEvRing_pins (t : Nat) (r : EvRing) (s : State) : (setEvRing t r s).pins = s.pins := rfl
@[simp] theorem setEvRing_grants (t : Nat) (r : EvRing) (s : State) : (setEvRing t r s).grants = s.grants := rfl
@[simp] theorem setEvRing_mgtCeil (t : Nat) (r : EvRing) (s : State) : (setEvRing t r s).mgtCeil = s.mgtCeil := rfl
@[simp] theorem setEvRing_weirs (t : Nat) (r : EvRing) (s : State) : (setEvRing t r s).weirs = s.weirs := rfl
@[simp] theorem setEvRing_seqs (t : Nat) (r : EvRing) (s : State) : (setEvRing t r s).seqs = s.seqs := rfl
@[simp] theorem setEvRing_lamps (t : Nat) (r : EvRing) (s : State) : (setEvRing t r s).lamps = s.lamps := rfl
@[simp] theorem setEvRing_strs (t : Nat) (r : EvRing) (s : State) : (setEvRing t r s).strs = s.strs := rfl
@[simp] theorem setEvRing_drvs (t : Nat) (r : EvRing) (s : State) : (setEvRing t r s).drvs = s.drvs := rfl
@[simp] theorem setEvRing_ports (t : Nat) (r : EvRing) (s : State) : (setEvRing t r s).ports = s.ports := rfl
@[simp] theorem setEvRing_curves (t : Nat) (r : EvRing) (s : State) : (setEvRing t r s).curves = s.curves := rfl
@[simp] theorem setEvRing_prog (t : Nat) (r : EvRing) (s : State) : (setEvRing t r s).prog = s.prog := rfl
@[simp] theorem setEvRing_descr (t : Nat) (r : EvRing) (s : State) : (setEvRing t r s).descr = s.descr := rfl
@[simp] theorem setEvRing_moves (t : Nat) (r : EvRing) (s : State) : (setEvRing t r s).moves = s.moves := rfl
@[simp] theorem setEvRing_slots (t : Nat) (r : EvRing) (s : State) : (setEvRing t r s).slots = s.slots := rfl
@[simp] theorem setEvRing_cores (t : Nat) (r : EvRing) (s : State) : (setEvRing t r s).cores = s.cores := rfl
@[simp] theorem setEvRing_eddys (t : Nat) (r : EvRing) (s : State) : (setEvRing t r s).eddys = s.eddys := rfl
@[simp] theorem setEvRing_lprog (t : Nat) (r : EvRing) (s : State) : (setEvRing t r s).lprog = s.lprog := rfl
@[simp] theorem setEvRing_ldata (t : Nat) (r : EvRing) (s : State) : (setEvRing t r s).ldata = s.ldata := rfl
@[simp] theorem setEvRing_binds (t : Nat) (r : EvRing) (s : State) : (setEvRing t r s).binds = s.binds := rfl
@[simp] theorem setEvRing_sps (t : Nat) (r : EvRing) (s : State) : (setEvRing t r s).sps = s.sps := rfl
@[simp] theorem setEvRing_spReg (t : Nat) (r : EvRing) (s : State) : (setEvRing t r s).spReg = s.spReg := rfl
@[simp] theorem setEvRing_serve (t : Nat) (r : EvRing) (s : State) : (setEvRing t r s).serve = s.serve := rfl
@[simp] theorem setEvRing_retired (t : Nat) (r : EvRing) (s : State) : (setEvRing t r s).retired = s.retired := rfl
@[simp] theorem setEvRing_thermAt (t : Nat) (r : EvRing) (s : State) : (setEvRing t r s).thermAt = s.thermAt := rfl
@[simp] theorem setEvRing_frms (t : Nat) (r : EvRing) (s : State) : (setEvRing t r s).frms = s.frms := rfl
@[simp] theorem setEvRing_fmts (t : Nat) (r : EvRing) (s : State) : (setEvRing t r s).fmts = s.fmts := rfl
@[simp] theorem setEvRing_time (t : Nat) (r : EvRing) (s : State) : (setEvRing t r s).time = s.time := rfl
@[simp] theorem setEvRing_dst (t : Nat) (r : EvRing) (s : State) : (setEvRing t r s).dst = s.dst := rfl
@[simp] theorem setEvRing_ddrs (t : Nat) (r : EvRing) (s : State) : (setEvRing t r s).ddrs = s.ddrs := rfl
@[simp] theorem setEvRing_dreqs (t : Nat) (r : EvRing) (s : State) : (setEvRing t r s).dreqs = s.dreqs := rfl
@[simp] theorem setEvRing_swBusy (t : Nat) (r : EvRing) (s : State) : (setEvRing t r s).swBusy = s.swBusy := rfl
@[simp] theorem setEvRing_spareRows (t : Nat) (r : EvRing) (s : State) : (setEvRing t r s).spareRows = s.spareRows := rfl
@[simp] theorem setEvRing_rates (t : Nat) (r : EvRing) (s : State) : (setEvRing t r s).rates = s.rates := rfl
@[simp] theorem setEvRing_surfs (t : Nat) (r : EvRing) (s : State) : (setEvRing t r s).surfs = s.surfs := rfl
@[simp] theorem setEvRing_flrs (t : Nat) (r : EvRing) (s : State) : (setEvRing t r s).flrs = s.flrs := rfl
@[simp] theorem setEvRing_chs (t : Nat) (r : EvRing) (s : State) : (setEvRing t r s).chs = s.chs := rfl
@[simp] theorem setEvRing_luts (t : Nat) (r : EvRing) (s : State) : (setEvRing t r s).luts = s.luts := rfl
@[simp] theorem setEvRing_cmds (t : Nat) (r : EvRing) (s : State) : (setEvRing t r s).cmds = s.cmds := rfl
@[simp] theorem setEvRing_nextCmd (t : Nat) (r : EvRing) (s : State) : (setEvRing t r s).nextCmd = s.nextCmd := rfl
@[simp] theorem setEvRing_rings (t : Nat) (r : EvRing) (s : State) : (setEvRing t r s).rings = s.rings := rfl
@[simp] theorem setEvRing_epochs (t : Nat) (r : EvRing) (s : State) : (setEvRing t r s).epochs = s.epochs := rfl
@[simp] theorem setEvRing_crosses (t : Nat) (r : EvRing) (s : State) : (setEvRing t r s).crosses = s.crosses := rfl
@[simp] theorem setEvRing_d2ds (t : Nat) (r : EvRing) (s : State) : (setEvRing t r s).d2ds = s.d2ds := rfl
@[simp] theorem setEvRing_lockAt (t : Nat) (r : EvRing) (s : State) : (setEvRing t r s).lockAt = s.lockAt := rfl
@[simp] theorem setEvRing_hk (t : Nat) (r : EvRing) (s : State) : (setEvRing t r s).hk = s.hk := rfl
@[simp] theorem setEvRing_cal (t : Nat) (r : EvRing) (s : State) : (setEvRing t r s).cal = s.cal := rfl
@[simp] theorem setEvRing_cals (t : Nat) (r : EvRing) (s : State) : (setEvRing t r s).cals = s.cals := rfl
@[simp] theorem setEvRing_calRec (t : Nat) (r : EvRing) (s : State) : (setEvRing t r s).calRec = s.calRec := rfl
@[simp] theorem setEvRing_curveDue (t : Nat) (r : EvRing) (s : State) : (setEvRing t r s).curveDue = s.curveDue := rfl
@[simp] theorem setEvRing_oxs (t : Nat) (r : EvRing) (s : State) : (setEvRing t r s).oxs = s.oxs := rfl
@[simp] theorem setEvRing_pipes (t : Nat) (r : EvRing) (s : State) : (setEvRing t r s).pipes = s.pipes := rfl
@[simp] theorem setEvRing_pipeChs (t : Nat) (r : EvRing) (s : State) : (setEvRing t r s).pipeChs = s.pipeChs := rfl
@[simp] theorem setEvRing_pipeRec (t : Nat) (r : EvRing) (s : State) : (setEvRing t r s).pipeRec = s.pipeRec := rfl
@[simp] theorem setEvRing_pipeDead (t : Nat) (r : EvRing) (s : State) : (setEvRing t r s).pipeDead = s.pipeDead := rfl
@[simp] theorem setEvRing_cfg (t : Nat) (r : EvRing) (s : State) : (setEvRing t r s).cfg = s.cfg := rfl
@[simp] theorem setEvRing_fw (t : Nat) (r : EvRing) (s : State) : (setEvRing t r s).fw = s.fw := rfl
@[simp] theorem setEvRing_mgt (t : Nat) (r : EvRing) (s : State) : (setEvRing t r s).mgt = s.mgt := rfl
@[simp] theorem setEvRing_ide (t : Nat) (r : EvRing) (s : State) : (setEvRing t r s).ide = s.ide := rfl
@[simp] theorem setEvRing_spdm (t : Nat) (r : EvRing) (s : State) : (setEvRing t r s).spdm = s.spdm := rfl

/-! ### `raiseTo` -/

@[simp] theorem raiseTo_pending (dest : List Nat) (code ch arg : Nat) (s : State) : (raiseTo dest code ch arg s).pending = s.pending := rfl
@[simp] theorem raiseTo_out (dest : List Nat) (code ch arg : Nat) (s : State) : (raiseTo dest code ch arg s).out = s.out := rfl
@[simp] theorem raiseTo_free (dest : List Nat) (code ch arg : Nat) (s : State) : (raiseTo dest code ch arg s).free = s.free := rfl
@[simp] theorem raiseTo_memq (dest : List Nat) (code ch arg : Nat) (s : State) : (raiseTo dest code ch arg s).memq = s.memq := rfl
@[simp] theorem raiseTo_tick (dest : List Nat) (code ch arg : Nat) (s : State) : (raiseTo dest code ch arg s).tick = s.tick := rfl
@[simp] theorem raiseTo_ht (dest : List Nat) (code ch arg : Nat) (s : State) : (raiseTo dest code ch arg s).ht = s.ht := rfl
@[simp] theorem raiseTo_regs (dest : List Nat) (code ch arg : Nat) (s : State) : (raiseTo dest code ch arg s).regs = s.regs := rfl
@[simp] theorem raiseTo_eff (dest : List Nat) (code ch arg : Nat) (s : State) : (raiseTo dest code ch arg s).eff = s.eff := rfl
@[simp] theorem raiseTo_latch (dest : List Nat) (code ch arg : Nat) (s : State) : (raiseTo dest code ch arg s).latch = s.latch := rfl
@[simp] theorem raiseTo_mem (dest : List Nat) (code ch arg : Nat) (s : State) : (raiseTo dest code ch arg s).mem = s.mem := rfl
@[simp] theorem raiseTo_memLost (dest : List Nat) (code ch arg : Nat) (s : State) : (raiseTo dest code ch arg s).memLost = s.memLost := rfl
@[simp] theorem raiseTo_poison (dest : List Nat) (code ch arg : Nat) (s : State) : (raiseTo dest code ch arg s).poison = s.poison := rfl
@[simp] theorem raiseTo_hub (dest : List Nat) (code ch arg : Nat) (s : State) : (raiseTo dest code ch arg s).hub = s.hub := rfl
@[simp] theorem raiseTo_pins (dest : List Nat) (code ch arg : Nat) (s : State) : (raiseTo dest code ch arg s).pins = s.pins := rfl
@[simp] theorem raiseTo_evr (dest : List Nat) (code ch arg : Nat) (s : State) : (raiseTo dest code ch arg s).evr = s.evr := rfl
@[simp] theorem raiseTo_grants (dest : List Nat) (code ch arg : Nat) (s : State) : (raiseTo dest code ch arg s).grants = s.grants := rfl
@[simp] theorem raiseTo_mgtCeil (dest : List Nat) (code ch arg : Nat) (s : State) : (raiseTo dest code ch arg s).mgtCeil = s.mgtCeil := rfl
@[simp] theorem raiseTo_weirs (dest : List Nat) (code ch arg : Nat) (s : State) : (raiseTo dest code ch arg s).weirs = s.weirs := rfl
@[simp] theorem raiseTo_seqs (dest : List Nat) (code ch arg : Nat) (s : State) : (raiseTo dest code ch arg s).seqs = s.seqs := rfl
@[simp] theorem raiseTo_lamps (dest : List Nat) (code ch arg : Nat) (s : State) : (raiseTo dest code ch arg s).lamps = s.lamps := rfl
@[simp] theorem raiseTo_strs (dest : List Nat) (code ch arg : Nat) (s : State) : (raiseTo dest code ch arg s).strs = s.strs := rfl
@[simp] theorem raiseTo_drvs (dest : List Nat) (code ch arg : Nat) (s : State) : (raiseTo dest code ch arg s).drvs = s.drvs := rfl
@[simp] theorem raiseTo_ports (dest : List Nat) (code ch arg : Nat) (s : State) : (raiseTo dest code ch arg s).ports = s.ports := rfl
@[simp] theorem raiseTo_curves (dest : List Nat) (code ch arg : Nat) (s : State) : (raiseTo dest code ch arg s).curves = s.curves := rfl
@[simp] theorem raiseTo_prog (dest : List Nat) (code ch arg : Nat) (s : State) : (raiseTo dest code ch arg s).prog = s.prog := rfl
@[simp] theorem raiseTo_descr (dest : List Nat) (code ch arg : Nat) (s : State) : (raiseTo dest code ch arg s).descr = s.descr := rfl
@[simp] theorem raiseTo_moves (dest : List Nat) (code ch arg : Nat) (s : State) : (raiseTo dest code ch arg s).moves = s.moves := rfl
@[simp] theorem raiseTo_slots (dest : List Nat) (code ch arg : Nat) (s : State) : (raiseTo dest code ch arg s).slots = s.slots := rfl
@[simp] theorem raiseTo_cores (dest : List Nat) (code ch arg : Nat) (s : State) : (raiseTo dest code ch arg s).cores = s.cores := rfl
@[simp] theorem raiseTo_eddys (dest : List Nat) (code ch arg : Nat) (s : State) : (raiseTo dest code ch arg s).eddys = s.eddys := rfl
@[simp] theorem raiseTo_lprog (dest : List Nat) (code ch arg : Nat) (s : State) : (raiseTo dest code ch arg s).lprog = s.lprog := rfl
@[simp] theorem raiseTo_ldata (dest : List Nat) (code ch arg : Nat) (s : State) : (raiseTo dest code ch arg s).ldata = s.ldata := rfl
@[simp] theorem raiseTo_binds (dest : List Nat) (code ch arg : Nat) (s : State) : (raiseTo dest code ch arg s).binds = s.binds := rfl
@[simp] theorem raiseTo_sps (dest : List Nat) (code ch arg : Nat) (s : State) : (raiseTo dest code ch arg s).sps = s.sps := rfl
@[simp] theorem raiseTo_spReg (dest : List Nat) (code ch arg : Nat) (s : State) : (raiseTo dest code ch arg s).spReg = s.spReg := rfl
@[simp] theorem raiseTo_serve (dest : List Nat) (code ch arg : Nat) (s : State) : (raiseTo dest code ch arg s).serve = s.serve := rfl
@[simp] theorem raiseTo_retired (dest : List Nat) (code ch arg : Nat) (s : State) : (raiseTo dest code ch arg s).retired = s.retired := rfl
@[simp] theorem raiseTo_thermAt (dest : List Nat) (code ch arg : Nat) (s : State) : (raiseTo dest code ch arg s).thermAt = s.thermAt := rfl
@[simp] theorem raiseTo_frms (dest : List Nat) (code ch arg : Nat) (s : State) : (raiseTo dest code ch arg s).frms = s.frms := rfl
@[simp] theorem raiseTo_fmts (dest : List Nat) (code ch arg : Nat) (s : State) : (raiseTo dest code ch arg s).fmts = s.fmts := rfl
@[simp] theorem raiseTo_time (dest : List Nat) (code ch arg : Nat) (s : State) : (raiseTo dest code ch arg s).time = s.time := rfl
@[simp] theorem raiseTo_dst (dest : List Nat) (code ch arg : Nat) (s : State) : (raiseTo dest code ch arg s).dst = s.dst := rfl
@[simp] theorem raiseTo_ddrs (dest : List Nat) (code ch arg : Nat) (s : State) : (raiseTo dest code ch arg s).ddrs = s.ddrs := rfl
@[simp] theorem raiseTo_dreqs (dest : List Nat) (code ch arg : Nat) (s : State) : (raiseTo dest code ch arg s).dreqs = s.dreqs := rfl
@[simp] theorem raiseTo_swBusy (dest : List Nat) (code ch arg : Nat) (s : State) : (raiseTo dest code ch arg s).swBusy = s.swBusy := rfl
@[simp] theorem raiseTo_spareRows (dest : List Nat) (code ch arg : Nat) (s : State) : (raiseTo dest code ch arg s).spareRows = s.spareRows := rfl
@[simp] theorem raiseTo_rates (dest : List Nat) (code ch arg : Nat) (s : State) : (raiseTo dest code ch arg s).rates = s.rates := rfl
@[simp] theorem raiseTo_surfs (dest : List Nat) (code ch arg : Nat) (s : State) : (raiseTo dest code ch arg s).surfs = s.surfs := rfl
@[simp] theorem raiseTo_flrs (dest : List Nat) (code ch arg : Nat) (s : State) : (raiseTo dest code ch arg s).flrs = s.flrs := rfl
@[simp] theorem raiseTo_chs (dest : List Nat) (code ch arg : Nat) (s : State) : (raiseTo dest code ch arg s).chs = s.chs := rfl
@[simp] theorem raiseTo_luts (dest : List Nat) (code ch arg : Nat) (s : State) : (raiseTo dest code ch arg s).luts = s.luts := rfl
@[simp] theorem raiseTo_cmds (dest : List Nat) (code ch arg : Nat) (s : State) : (raiseTo dest code ch arg s).cmds = s.cmds := rfl
@[simp] theorem raiseTo_nextCmd (dest : List Nat) (code ch arg : Nat) (s : State) : (raiseTo dest code ch arg s).nextCmd = s.nextCmd := rfl
@[simp] theorem raiseTo_rings (dest : List Nat) (code ch arg : Nat) (s : State) : (raiseTo dest code ch arg s).rings = s.rings := rfl
@[simp] theorem raiseTo_epochs (dest : List Nat) (code ch arg : Nat) (s : State) : (raiseTo dest code ch arg s).epochs = s.epochs := rfl
@[simp] theorem raiseTo_crosses (dest : List Nat) (code ch arg : Nat) (s : State) : (raiseTo dest code ch arg s).crosses = s.crosses := rfl
@[simp] theorem raiseTo_d2ds (dest : List Nat) (code ch arg : Nat) (s : State) : (raiseTo dest code ch arg s).d2ds = s.d2ds := rfl
@[simp] theorem raiseTo_lockAt (dest : List Nat) (code ch arg : Nat) (s : State) : (raiseTo dest code ch arg s).lockAt = s.lockAt := rfl
@[simp] theorem raiseTo_hk (dest : List Nat) (code ch arg : Nat) (s : State) : (raiseTo dest code ch arg s).hk = s.hk := rfl
@[simp] theorem raiseTo_cal (dest : List Nat) (code ch arg : Nat) (s : State) : (raiseTo dest code ch arg s).cal = s.cal := rfl
@[simp] theorem raiseTo_cals (dest : List Nat) (code ch arg : Nat) (s : State) : (raiseTo dest code ch arg s).cals = s.cals := rfl
@[simp] theorem raiseTo_calRec (dest : List Nat) (code ch arg : Nat) (s : State) : (raiseTo dest code ch arg s).calRec = s.calRec := rfl
@[simp] theorem raiseTo_curveDue (dest : List Nat) (code ch arg : Nat) (s : State) : (raiseTo dest code ch arg s).curveDue = s.curveDue := rfl
@[simp] theorem raiseTo_oxs (dest : List Nat) (code ch arg : Nat) (s : State) : (raiseTo dest code ch arg s).oxs = s.oxs := rfl
@[simp] theorem raiseTo_pipes (dest : List Nat) (code ch arg : Nat) (s : State) : (raiseTo dest code ch arg s).pipes = s.pipes := rfl
@[simp] theorem raiseTo_pipeChs (dest : List Nat) (code ch arg : Nat) (s : State) : (raiseTo dest code ch arg s).pipeChs = s.pipeChs := rfl
@[simp] theorem raiseTo_pipeRec (dest : List Nat) (code ch arg : Nat) (s : State) : (raiseTo dest code ch arg s).pipeRec = s.pipeRec := rfl
@[simp] theorem raiseTo_pipeDead (dest : List Nat) (code ch arg : Nat) (s : State) : (raiseTo dest code ch arg s).pipeDead = s.pipeDead := rfl
@[simp] theorem raiseTo_cfg (dest : List Nat) (code ch arg : Nat) (s : State) : (raiseTo dest code ch arg s).cfg = s.cfg := rfl
@[simp] theorem raiseTo_fw (dest : List Nat) (code ch arg : Nat) (s : State) : (raiseTo dest code ch arg s).fw = s.fw := rfl
@[simp] theorem raiseTo_mgt (dest : List Nat) (code ch arg : Nat) (s : State) : (raiseTo dest code ch arg s).mgt = s.mgt := rfl
@[simp] theorem raiseTo_ide (dest : List Nat) (code ch arg : Nat) (s : State) : (raiseTo dest code ch arg s).ide = s.ide := rfl
@[simp] theorem raiseTo_spdm (dest : List Nat) (code ch arg : Nat) (s : State) : (raiseTo dest code ch arg s).spdm = s.spdm := rfl

/-! ### `resetRange` -/

@[simp] theorem resetRange_pending (lo hi : Nat) (s : State) : (resetRange lo hi s).pending = s.pending := rfl
@[simp] theorem resetRange_out (lo hi : Nat) (s : State) : (resetRange lo hi s).out = s.out := rfl
@[simp] theorem resetRange_free (lo hi : Nat) (s : State) : (resetRange lo hi s).free = s.free := rfl
@[simp] theorem resetRange_evq (lo hi : Nat) (s : State) : (resetRange lo hi s).evq = s.evq := rfl
@[simp] theorem resetRange_memq (lo hi : Nat) (s : State) : (resetRange lo hi s).memq = s.memq := rfl
@[simp] theorem resetRange_tick (lo hi : Nat) (s : State) : (resetRange lo hi s).tick = s.tick := rfl
@[simp] theorem resetRange_ht (lo hi : Nat) (s : State) : (resetRange lo hi s).ht = s.ht := rfl
@[simp] theorem resetRange_latch (lo hi : Nat) (s : State) : (resetRange lo hi s).latch = s.latch := rfl
@[simp] theorem resetRange_mem (lo hi : Nat) (s : State) : (resetRange lo hi s).mem = s.mem := rfl
@[simp] theorem resetRange_memLost (lo hi : Nat) (s : State) : (resetRange lo hi s).memLost = s.memLost := rfl
@[simp] theorem resetRange_poison (lo hi : Nat) (s : State) : (resetRange lo hi s).poison = s.poison := rfl
@[simp] theorem resetRange_hub (lo hi : Nat) (s : State) : (resetRange lo hi s).hub = s.hub := rfl
@[simp] theorem resetRange_pins (lo hi : Nat) (s : State) : (resetRange lo hi s).pins = s.pins := rfl
@[simp] theorem resetRange_evr (lo hi : Nat) (s : State) : (resetRange lo hi s).evr = s.evr := rfl
@[simp] theorem resetRange_grants (lo hi : Nat) (s : State) : (resetRange lo hi s).grants = s.grants := rfl
@[simp] theorem resetRange_mgtCeil (lo hi : Nat) (s : State) : (resetRange lo hi s).mgtCeil = s.mgtCeil := rfl
@[simp] theorem resetRange_weirs (lo hi : Nat) (s : State) : (resetRange lo hi s).weirs = s.weirs := rfl
@[simp] theorem resetRange_seqs (lo hi : Nat) (s : State) : (resetRange lo hi s).seqs = s.seqs := rfl
@[simp] theorem resetRange_lamps (lo hi : Nat) (s : State) : (resetRange lo hi s).lamps = s.lamps := rfl
@[simp] theorem resetRange_strs (lo hi : Nat) (s : State) : (resetRange lo hi s).strs = s.strs := rfl
@[simp] theorem resetRange_drvs (lo hi : Nat) (s : State) : (resetRange lo hi s).drvs = s.drvs := rfl
@[simp] theorem resetRange_ports (lo hi : Nat) (s : State) : (resetRange lo hi s).ports = s.ports := rfl
@[simp] theorem resetRange_curves (lo hi : Nat) (s : State) : (resetRange lo hi s).curves = s.curves := rfl
@[simp] theorem resetRange_prog (lo hi : Nat) (s : State) : (resetRange lo hi s).prog = s.prog := rfl
@[simp] theorem resetRange_descr (lo hi : Nat) (s : State) : (resetRange lo hi s).descr = s.descr := rfl
@[simp] theorem resetRange_moves (lo hi : Nat) (s : State) : (resetRange lo hi s).moves = s.moves := rfl
@[simp] theorem resetRange_slots (lo hi : Nat) (s : State) : (resetRange lo hi s).slots = s.slots := rfl
@[simp] theorem resetRange_cores (lo hi : Nat) (s : State) : (resetRange lo hi s).cores = s.cores := rfl
@[simp] theorem resetRange_eddys (lo hi : Nat) (s : State) : (resetRange lo hi s).eddys = s.eddys := rfl
@[simp] theorem resetRange_lprog (lo hi : Nat) (s : State) : (resetRange lo hi s).lprog = s.lprog := rfl
@[simp] theorem resetRange_ldata (lo hi : Nat) (s : State) : (resetRange lo hi s).ldata = s.ldata := rfl
@[simp] theorem resetRange_binds (lo hi : Nat) (s : State) : (resetRange lo hi s).binds = s.binds := rfl
@[simp] theorem resetRange_sps (lo hi : Nat) (s : State) : (resetRange lo hi s).sps = s.sps := rfl
@[simp] theorem resetRange_spReg (lo hi : Nat) (s : State) : (resetRange lo hi s).spReg = s.spReg := rfl
@[simp] theorem resetRange_serve (lo hi : Nat) (s : State) : (resetRange lo hi s).serve = s.serve := rfl
@[simp] theorem resetRange_retired (lo hi : Nat) (s : State) : (resetRange lo hi s).retired = s.retired := rfl
@[simp] theorem resetRange_thermAt (lo hi : Nat) (s : State) : (resetRange lo hi s).thermAt = s.thermAt := rfl
@[simp] theorem resetRange_frms (lo hi : Nat) (s : State) : (resetRange lo hi s).frms = s.frms := rfl
@[simp] theorem resetRange_fmts (lo hi : Nat) (s : State) : (resetRange lo hi s).fmts = s.fmts := rfl
@[simp] theorem resetRange_time (lo hi : Nat) (s : State) : (resetRange lo hi s).time = s.time := rfl
@[simp] theorem resetRange_dst (lo hi : Nat) (s : State) : (resetRange lo hi s).dst = s.dst := rfl
@[simp] theorem resetRange_ddrs (lo hi : Nat) (s : State) : (resetRange lo hi s).ddrs = s.ddrs := rfl
@[simp] theorem resetRange_dreqs (lo hi : Nat) (s : State) : (resetRange lo hi s).dreqs = s.dreqs := rfl
@[simp] theorem resetRange_swBusy (lo hi : Nat) (s : State) : (resetRange lo hi s).swBusy = s.swBusy := rfl
@[simp] theorem resetRange_spareRows (lo hi : Nat) (s : State) : (resetRange lo hi s).spareRows = s.spareRows := rfl
@[simp] theorem resetRange_rates (lo hi : Nat) (s : State) : (resetRange lo hi s).rates = s.rates := rfl
@[simp] theorem resetRange_surfs (lo hi : Nat) (s : State) : (resetRange lo hi s).surfs = s.surfs := rfl
@[simp] theorem resetRange_flrs (lo hi : Nat) (s : State) : (resetRange lo hi s).flrs = s.flrs := rfl
@[simp] theorem resetRange_chs (lo hi : Nat) (s : State) : (resetRange lo hi s).chs = s.chs := rfl
@[simp] theorem resetRange_luts (lo hi : Nat) (s : State) : (resetRange lo hi s).luts = s.luts := rfl
@[simp] theorem resetRange_cmds (lo hi : Nat) (s : State) : (resetRange lo hi s).cmds = s.cmds := rfl
@[simp] theorem resetRange_nextCmd (lo hi : Nat) (s : State) : (resetRange lo hi s).nextCmd = s.nextCmd := rfl
@[simp] theorem resetRange_rings (lo hi : Nat) (s : State) : (resetRange lo hi s).rings = s.rings := rfl
@[simp] theorem resetRange_epochs (lo hi : Nat) (s : State) : (resetRange lo hi s).epochs = s.epochs := rfl
@[simp] theorem resetRange_crosses (lo hi : Nat) (s : State) : (resetRange lo hi s).crosses = s.crosses := rfl
@[simp] theorem resetRange_d2ds (lo hi : Nat) (s : State) : (resetRange lo hi s).d2ds = s.d2ds := rfl
@[simp] theorem resetRange_lockAt (lo hi : Nat) (s : State) : (resetRange lo hi s).lockAt = s.lockAt := rfl
@[simp] theorem resetRange_hk (lo hi : Nat) (s : State) : (resetRange lo hi s).hk = s.hk := rfl
@[simp] theorem resetRange_cal (lo hi : Nat) (s : State) : (resetRange lo hi s).cal = s.cal := rfl
@[simp] theorem resetRange_cals (lo hi : Nat) (s : State) : (resetRange lo hi s).cals = s.cals := rfl
@[simp] theorem resetRange_calRec (lo hi : Nat) (s : State) : (resetRange lo hi s).calRec = s.calRec := rfl
@[simp] theorem resetRange_curveDue (lo hi : Nat) (s : State) : (resetRange lo hi s).curveDue = s.curveDue := rfl
@[simp] theorem resetRange_oxs (lo hi : Nat) (s : State) : (resetRange lo hi s).oxs = s.oxs := rfl
@[simp] theorem resetRange_pipes (lo hi : Nat) (s : State) : (resetRange lo hi s).pipes = s.pipes := rfl
@[simp] theorem resetRange_pipeChs (lo hi : Nat) (s : State) : (resetRange lo hi s).pipeChs = s.pipeChs := rfl
@[simp] theorem resetRange_pipeRec (lo hi : Nat) (s : State) : (resetRange lo hi s).pipeRec = s.pipeRec := rfl
@[simp] theorem resetRange_pipeDead (lo hi : Nat) (s : State) : (resetRange lo hi s).pipeDead = s.pipeDead := rfl
@[simp] theorem resetRange_cfg (lo hi : Nat) (s : State) : (resetRange lo hi s).cfg = s.cfg := rfl
@[simp] theorem resetRange_fw (lo hi : Nat) (s : State) : (resetRange lo hi s).fw = s.fw := rfl
@[simp] theorem resetRange_mgt (lo hi : Nat) (s : State) : (resetRange lo hi s).mgt = s.mgt := rfl
@[simp] theorem resetRange_ide (lo hi : Nat) (s : State) : (resetRange lo hi s).ide = s.ide := rfl
@[simp] theorem resetRange_spdm (lo hi : Nat) (s : State) : (resetRange lo hi s).spdm = s.spdm := rfl

/-! ### `begun` -/

@[simp] theorem begun_pending (s : State) : (begun s).pending = s.pending := rfl
@[simp] theorem begun_free (s : State) : (begun s).free = s.free := rfl
@[simp] theorem begun_evq (s : State) : (begun s).evq = s.evq := rfl
@[simp] theorem begun_memq (s : State) : (begun s).memq = s.memq := rfl
@[simp] theorem begun_tick (s : State) : (begun s).tick = s.tick := rfl
@[simp] theorem begun_ht (s : State) : (begun s).ht = s.ht := rfl
@[simp] theorem begun_regs (s : State) : (begun s).regs = s.regs := rfl
@[simp] theorem begun_eff (s : State) : (begun s).eff = s.eff := rfl
@[simp] theorem begun_latch (s : State) : (begun s).latch = s.latch := rfl
@[simp] theorem begun_mem (s : State) : (begun s).mem = s.mem := rfl
@[simp] theorem begun_memLost (s : State) : (begun s).memLost = s.memLost := rfl
@[simp] theorem begun_poison (s : State) : (begun s).poison = s.poison := rfl
@[simp] theorem begun_hub (s : State) : (begun s).hub = s.hub := rfl
@[simp] theorem begun_pins (s : State) : (begun s).pins = s.pins := rfl
@[simp] theorem begun_evr (s : State) : (begun s).evr = s.evr := rfl
@[simp] theorem begun_grants (s : State) : (begun s).grants = s.grants := rfl
@[simp] theorem begun_mgtCeil (s : State) : (begun s).mgtCeil = s.mgtCeil := rfl
@[simp] theorem begun_weirs (s : State) : (begun s).weirs = s.weirs := rfl
@[simp] theorem begun_seqs (s : State) : (begun s).seqs = s.seqs := rfl
@[simp] theorem begun_lamps (s : State) : (begun s).lamps = s.lamps := rfl
@[simp] theorem begun_strs (s : State) : (begun s).strs = s.strs := rfl
@[simp] theorem begun_drvs (s : State) : (begun s).drvs = s.drvs := rfl
@[simp] theorem begun_ports (s : State) : (begun s).ports = s.ports := rfl
@[simp] theorem begun_curves (s : State) : (begun s).curves = s.curves := rfl
@[simp] theorem begun_prog (s : State) : (begun s).prog = s.prog := rfl
@[simp] theorem begun_descr (s : State) : (begun s).descr = s.descr := rfl
@[simp] theorem begun_moves (s : State) : (begun s).moves = s.moves := rfl
@[simp] theorem begun_slots (s : State) : (begun s).slots = s.slots := rfl
@[simp] theorem begun_cores (s : State) : (begun s).cores = s.cores := rfl
@[simp] theorem begun_eddys (s : State) : (begun s).eddys = s.eddys := rfl
@[simp] theorem begun_lprog (s : State) : (begun s).lprog = s.lprog := rfl
@[simp] theorem begun_ldata (s : State) : (begun s).ldata = s.ldata := rfl
@[simp] theorem begun_binds (s : State) : (begun s).binds = s.binds := rfl
@[simp] theorem begun_sps (s : State) : (begun s).sps = s.sps := rfl
@[simp] theorem begun_spReg (s : State) : (begun s).spReg = s.spReg := rfl
@[simp] theorem begun_serve (s : State) : (begun s).serve = s.serve := rfl
@[simp] theorem begun_retired (s : State) : (begun s).retired = s.retired := rfl
@[simp] theorem begun_thermAt (s : State) : (begun s).thermAt = s.thermAt := rfl
@[simp] theorem begun_frms (s : State) : (begun s).frms = s.frms := rfl
@[simp] theorem begun_fmts (s : State) : (begun s).fmts = s.fmts := rfl
@[simp] theorem begun_time (s : State) : (begun s).time = s.time := rfl
@[simp] theorem begun_dst (s : State) : (begun s).dst = s.dst := rfl
@[simp] theorem begun_ddrs (s : State) : (begun s).ddrs = s.ddrs := rfl
@[simp] theorem begun_dreqs (s : State) : (begun s).dreqs = s.dreqs := rfl
@[simp] theorem begun_swBusy (s : State) : (begun s).swBusy = s.swBusy := rfl
@[simp] theorem begun_spareRows (s : State) : (begun s).spareRows = s.spareRows := rfl
@[simp] theorem begun_rates (s : State) : (begun s).rates = s.rates := rfl
@[simp] theorem begun_surfs (s : State) : (begun s).surfs = s.surfs := rfl
@[simp] theorem begun_flrs (s : State) : (begun s).flrs = s.flrs := rfl
@[simp] theorem begun_chs (s : State) : (begun s).chs = s.chs := rfl
@[simp] theorem begun_luts (s : State) : (begun s).luts = s.luts := rfl
@[simp] theorem begun_cmds (s : State) : (begun s).cmds = s.cmds := rfl
@[simp] theorem begun_nextCmd (s : State) : (begun s).nextCmd = s.nextCmd := rfl
@[simp] theorem begun_rings (s : State) : (begun s).rings = s.rings := rfl
@[simp] theorem begun_epochs (s : State) : (begun s).epochs = s.epochs := rfl
@[simp] theorem begun_crosses (s : State) : (begun s).crosses = s.crosses := rfl
@[simp] theorem begun_d2ds (s : State) : (begun s).d2ds = s.d2ds := rfl
@[simp] theorem begun_lockAt (s : State) : (begun s).lockAt = s.lockAt := rfl
@[simp] theorem begun_hk (s : State) : (begun s).hk = s.hk := rfl
@[simp] theorem begun_cal (s : State) : (begun s).cal = s.cal := rfl
@[simp] theorem begun_cals (s : State) : (begun s).cals = s.cals := rfl
@[simp] theorem begun_calRec (s : State) : (begun s).calRec = s.calRec := rfl
@[simp] theorem begun_curveDue (s : State) : (begun s).curveDue = s.curveDue := rfl
@[simp] theorem begun_oxs (s : State) : (begun s).oxs = s.oxs := rfl
@[simp] theorem begun_pipes (s : State) : (begun s).pipes = s.pipes := rfl
@[simp] theorem begun_pipeChs (s : State) : (begun s).pipeChs = s.pipeChs := rfl
@[simp] theorem begun_pipeRec (s : State) : (begun s).pipeRec = s.pipeRec := rfl
@[simp] theorem begun_pipeDead (s : State) : (begun s).pipeDead = s.pipeDead := rfl
@[simp] theorem begun_cfg (s : State) : (begun s).cfg = s.cfg := rfl
@[simp] theorem begun_fw (s : State) : (begun s).fw = s.fw := rfl
@[simp] theorem begun_ide (s : State) : (begun s).ide = s.ide := rfl
@[simp] theorem begun_spdm (s : State) : (begun s).spdm = s.spdm := rfl

/-! ### `commitMem` -/

@[simp] theorem commitMem_pending (s : State) : (commitMem s).pending = s.pending := rfl
@[simp] theorem commitMem_out (s : State) : (commitMem s).out = s.out := rfl
@[simp] theorem commitMem_free (s : State) : (commitMem s).free = s.free := rfl
@[simp] theorem commitMem_tick (s : State) : (commitMem s).tick = s.tick := rfl
@[simp] theorem commitMem_ht (s : State) : (commitMem s).ht = s.ht := rfl
@[simp] theorem commitMem_regs (s : State) : (commitMem s).regs = s.regs := rfl
@[simp] theorem commitMem_eff (s : State) : (commitMem s).eff = s.eff := rfl
@[simp] theorem commitMem_latch (s : State) : (commitMem s).latch = s.latch := rfl
@[simp] theorem commitMem_poison (s : State) : (commitMem s).poison = s.poison := rfl
@[simp] theorem commitMem_hub (s : State) : (commitMem s).hub = s.hub := rfl
@[simp] theorem commitMem_pins (s : State) : (commitMem s).pins = s.pins := rfl
@[simp] theorem commitMem_evr (s : State) : (commitMem s).evr = s.evr := rfl
@[simp] theorem commitMem_grants (s : State) : (commitMem s).grants = s.grants := rfl
@[simp] theorem commitMem_mgtCeil (s : State) : (commitMem s).mgtCeil = s.mgtCeil := rfl
@[simp] theorem commitMem_weirs (s : State) : (commitMem s).weirs = s.weirs := rfl
@[simp] theorem commitMem_seqs (s : State) : (commitMem s).seqs = s.seqs := rfl
@[simp] theorem commitMem_lamps (s : State) : (commitMem s).lamps = s.lamps := rfl
@[simp] theorem commitMem_strs (s : State) : (commitMem s).strs = s.strs := rfl
@[simp] theorem commitMem_drvs (s : State) : (commitMem s).drvs = s.drvs := rfl
@[simp] theorem commitMem_ports (s : State) : (commitMem s).ports = s.ports := rfl
@[simp] theorem commitMem_curves (s : State) : (commitMem s).curves = s.curves := rfl
@[simp] theorem commitMem_prog (s : State) : (commitMem s).prog = s.prog := rfl
@[simp] theorem commitMem_descr (s : State) : (commitMem s).descr = s.descr := rfl
@[simp] theorem commitMem_moves (s : State) : (commitMem s).moves = s.moves := rfl
@[simp] theorem commitMem_slots (s : State) : (commitMem s).slots = s.slots := rfl
@[simp] theorem commitMem_cores (s : State) : (commitMem s).cores = s.cores := rfl
@[simp] theorem commitMem_eddys (s : State) : (commitMem s).eddys = s.eddys := rfl
@[simp] theorem commitMem_lprog (s : State) : (commitMem s).lprog = s.lprog := rfl
@[simp] theorem commitMem_ldata (s : State) : (commitMem s).ldata = s.ldata := rfl
@[simp] theorem commitMem_binds (s : State) : (commitMem s).binds = s.binds := rfl
@[simp] theorem commitMem_sps (s : State) : (commitMem s).sps = s.sps := rfl
@[simp] theorem commitMem_spReg (s : State) : (commitMem s).spReg = s.spReg := rfl
@[simp] theorem commitMem_serve (s : State) : (commitMem s).serve = s.serve := rfl
@[simp] theorem commitMem_retired (s : State) : (commitMem s).retired = s.retired := rfl
@[simp] theorem commitMem_thermAt (s : State) : (commitMem s).thermAt = s.thermAt := rfl
@[simp] theorem commitMem_frms (s : State) : (commitMem s).frms = s.frms := rfl
@[simp] theorem commitMem_fmts (s : State) : (commitMem s).fmts = s.fmts := rfl
@[simp] theorem commitMem_time (s : State) : (commitMem s).time = s.time := rfl
@[simp] theorem commitMem_dst (s : State) : (commitMem s).dst = s.dst := rfl
@[simp] theorem commitMem_ddrs (s : State) : (commitMem s).ddrs = s.ddrs := rfl
@[simp] theorem commitMem_dreqs (s : State) : (commitMem s).dreqs = s.dreqs := rfl
@[simp] theorem commitMem_swBusy (s : State) : (commitMem s).swBusy = s.swBusy := rfl
@[simp] theorem commitMem_spareRows (s : State) : (commitMem s).spareRows = s.spareRows := rfl
@[simp] theorem commitMem_rates (s : State) : (commitMem s).rates = s.rates := rfl
@[simp] theorem commitMem_surfs (s : State) : (commitMem s).surfs = s.surfs := rfl
@[simp] theorem commitMem_flrs (s : State) : (commitMem s).flrs = s.flrs := rfl
@[simp] theorem commitMem_chs (s : State) : (commitMem s).chs = s.chs := rfl
@[simp] theorem commitMem_luts (s : State) : (commitMem s).luts = s.luts := rfl
@[simp] theorem commitMem_cmds (s : State) : (commitMem s).cmds = s.cmds := rfl
@[simp] theorem commitMem_nextCmd (s : State) : (commitMem s).nextCmd = s.nextCmd := rfl
@[simp] theorem commitMem_rings (s : State) : (commitMem s).rings = s.rings := rfl
@[simp] theorem commitMem_epochs (s : State) : (commitMem s).epochs = s.epochs := rfl
@[simp] theorem commitMem_crosses (s : State) : (commitMem s).crosses = s.crosses := rfl
@[simp] theorem commitMem_d2ds (s : State) : (commitMem s).d2ds = s.d2ds := rfl
@[simp] theorem commitMem_lockAt (s : State) : (commitMem s).lockAt = s.lockAt := rfl
@[simp] theorem commitMem_hk (s : State) : (commitMem s).hk = s.hk := rfl
@[simp] theorem commitMem_cal (s : State) : (commitMem s).cal = s.cal := rfl
@[simp] theorem commitMem_cals (s : State) : (commitMem s).cals = s.cals := rfl
@[simp] theorem commitMem_calRec (s : State) : (commitMem s).calRec = s.calRec := rfl
@[simp] theorem commitMem_curveDue (s : State) : (commitMem s).curveDue = s.curveDue := rfl
@[simp] theorem commitMem_oxs (s : State) : (commitMem s).oxs = s.oxs := rfl
@[simp] theorem commitMem_pipes (s : State) : (commitMem s).pipes = s.pipes := rfl
@[simp] theorem commitMem_pipeChs (s : State) : (commitMem s).pipeChs = s.pipeChs := rfl
@[simp] theorem commitMem_pipeRec (s : State) : (commitMem s).pipeRec = s.pipeRec := rfl
@[simp] theorem commitMem_pipeDead (s : State) : (commitMem s).pipeDead = s.pipeDead := rfl
@[simp] theorem commitMem_cfg (s : State) : (commitMem s).cfg = s.cfg := rfl
@[simp] theorem commitMem_fw (s : State) : (commitMem s).fw = s.fw := rfl
@[simp] theorem commitMem_mgt (s : State) : (commitMem s).mgt = s.mgt := rfl
@[simp] theorem commitMem_ide (s : State) : (commitMem s).ide = s.ide := rfl
@[simp] theorem commitMem_spdm (s : State) : (commitMem s).spdm = s.spdm := rfl

/-! ### `wrB` -/

@[simp] theorem wrB_pending (b : Nat) (f : Fld) (v : Bool) (s : State) (i : Nat) : (wrB b f v s i).pending = s.pending := rfl
@[simp] theorem wrB_out (b : Nat) (f : Fld) (v : Bool) (s : State) (i : Nat) : (wrB b f v s i).out = s.out := rfl
@[simp] theorem wrB_free (b : Nat) (f : Fld) (v : Bool) (s : State) (i : Nat) : (wrB b f v s i).free = s.free := rfl
@[simp] theorem wrB_evq (b : Nat) (f : Fld) (v : Bool) (s : State) (i : Nat) : (wrB b f v s i).evq = s.evq := rfl
@[simp] theorem wrB_memq (b : Nat) (f : Fld) (v : Bool) (s : State) (i : Nat) : (wrB b f v s i).memq = s.memq := rfl
@[simp] theorem wrB_tick (b : Nat) (f : Fld) (v : Bool) (s : State) (i : Nat) : (wrB b f v s i).tick = s.tick := rfl
@[simp] theorem wrB_ht (b : Nat) (f : Fld) (v : Bool) (s : State) (i : Nat) : (wrB b f v s i).ht = s.ht := rfl
@[simp] theorem wrB_eff (b : Nat) (f : Fld) (v : Bool) (s : State) (i : Nat) : (wrB b f v s i).eff = s.eff := rfl
@[simp] theorem wrB_latch (b : Nat) (f : Fld) (v : Bool) (s : State) (i : Nat) : (wrB b f v s i).latch = s.latch := rfl
@[simp] theorem wrB_mem (b : Nat) (f : Fld) (v : Bool) (s : State) (i : Nat) : (wrB b f v s i).mem = s.mem := rfl
@[simp] theorem wrB_memLost (b : Nat) (f : Fld) (v : Bool) (s : State) (i : Nat) : (wrB b f v s i).memLost = s.memLost := rfl
@[simp] theorem wrB_poison (b : Nat) (f : Fld) (v : Bool) (s : State) (i : Nat) : (wrB b f v s i).poison = s.poison := rfl
@[simp] theorem wrB_hub (b : Nat) (f : Fld) (v : Bool) (s : State) (i : Nat) : (wrB b f v s i).hub = s.hub := rfl
@[simp] theorem wrB_pins (b : Nat) (f : Fld) (v : Bool) (s : State) (i : Nat) : (wrB b f v s i).pins = s.pins := rfl
@[simp] theorem wrB_evr (b : Nat) (f : Fld) (v : Bool) (s : State) (i : Nat) : (wrB b f v s i).evr = s.evr := rfl
@[simp] theorem wrB_grants (b : Nat) (f : Fld) (v : Bool) (s : State) (i : Nat) : (wrB b f v s i).grants = s.grants := rfl
@[simp] theorem wrB_mgtCeil (b : Nat) (f : Fld) (v : Bool) (s : State) (i : Nat) : (wrB b f v s i).mgtCeil = s.mgtCeil := rfl
@[simp] theorem wrB_weirs (b : Nat) (f : Fld) (v : Bool) (s : State) (i : Nat) : (wrB b f v s i).weirs = s.weirs := rfl
@[simp] theorem wrB_seqs (b : Nat) (f : Fld) (v : Bool) (s : State) (i : Nat) : (wrB b f v s i).seqs = s.seqs := rfl
@[simp] theorem wrB_lamps (b : Nat) (f : Fld) (v : Bool) (s : State) (i : Nat) : (wrB b f v s i).lamps = s.lamps := rfl
@[simp] theorem wrB_strs (b : Nat) (f : Fld) (v : Bool) (s : State) (i : Nat) : (wrB b f v s i).strs = s.strs := rfl
@[simp] theorem wrB_drvs (b : Nat) (f : Fld) (v : Bool) (s : State) (i : Nat) : (wrB b f v s i).drvs = s.drvs := rfl
@[simp] theorem wrB_ports (b : Nat) (f : Fld) (v : Bool) (s : State) (i : Nat) : (wrB b f v s i).ports = s.ports := rfl
@[simp] theorem wrB_curves (b : Nat) (f : Fld) (v : Bool) (s : State) (i : Nat) : (wrB b f v s i).curves = s.curves := rfl
@[simp] theorem wrB_prog (b : Nat) (f : Fld) (v : Bool) (s : State) (i : Nat) : (wrB b f v s i).prog = s.prog := rfl
@[simp] theorem wrB_descr (b : Nat) (f : Fld) (v : Bool) (s : State) (i : Nat) : (wrB b f v s i).descr = s.descr := rfl
@[simp] theorem wrB_moves (b : Nat) (f : Fld) (v : Bool) (s : State) (i : Nat) : (wrB b f v s i).moves = s.moves := rfl
@[simp] theorem wrB_slots (b : Nat) (f : Fld) (v : Bool) (s : State) (i : Nat) : (wrB b f v s i).slots = s.slots := rfl
@[simp] theorem wrB_cores (b : Nat) (f : Fld) (v : Bool) (s : State) (i : Nat) : (wrB b f v s i).cores = s.cores := rfl
@[simp] theorem wrB_eddys (b : Nat) (f : Fld) (v : Bool) (s : State) (i : Nat) : (wrB b f v s i).eddys = s.eddys := rfl
@[simp] theorem wrB_lprog (b : Nat) (f : Fld) (v : Bool) (s : State) (i : Nat) : (wrB b f v s i).lprog = s.lprog := rfl
@[simp] theorem wrB_ldata (b : Nat) (f : Fld) (v : Bool) (s : State) (i : Nat) : (wrB b f v s i).ldata = s.ldata := rfl
@[simp] theorem wrB_binds (b : Nat) (f : Fld) (v : Bool) (s : State) (i : Nat) : (wrB b f v s i).binds = s.binds := rfl
@[simp] theorem wrB_sps (b : Nat) (f : Fld) (v : Bool) (s : State) (i : Nat) : (wrB b f v s i).sps = s.sps := rfl
@[simp] theorem wrB_spReg (b : Nat) (f : Fld) (v : Bool) (s : State) (i : Nat) : (wrB b f v s i).spReg = s.spReg := rfl
@[simp] theorem wrB_serve (b : Nat) (f : Fld) (v : Bool) (s : State) (i : Nat) : (wrB b f v s i).serve = s.serve := rfl
@[simp] theorem wrB_retired (b : Nat) (f : Fld) (v : Bool) (s : State) (i : Nat) : (wrB b f v s i).retired = s.retired := rfl
@[simp] theorem wrB_thermAt (b : Nat) (f : Fld) (v : Bool) (s : State) (i : Nat) : (wrB b f v s i).thermAt = s.thermAt := rfl
@[simp] theorem wrB_frms (b : Nat) (f : Fld) (v : Bool) (s : State) (i : Nat) : (wrB b f v s i).frms = s.frms := rfl
@[simp] theorem wrB_fmts (b : Nat) (f : Fld) (v : Bool) (s : State) (i : Nat) : (wrB b f v s i).fmts = s.fmts := rfl
@[simp] theorem wrB_time (b : Nat) (f : Fld) (v : Bool) (s : State) (i : Nat) : (wrB b f v s i).time = s.time := rfl
@[simp] theorem wrB_dst (b : Nat) (f : Fld) (v : Bool) (s : State) (i : Nat) : (wrB b f v s i).dst = s.dst := rfl
@[simp] theorem wrB_ddrs (b : Nat) (f : Fld) (v : Bool) (s : State) (i : Nat) : (wrB b f v s i).ddrs = s.ddrs := rfl
@[simp] theorem wrB_dreqs (b : Nat) (f : Fld) (v : Bool) (s : State) (i : Nat) : (wrB b f v s i).dreqs = s.dreqs := rfl
@[simp] theorem wrB_swBusy (b : Nat) (f : Fld) (v : Bool) (s : State) (i : Nat) : (wrB b f v s i).swBusy = s.swBusy := rfl
@[simp] theorem wrB_spareRows (b : Nat) (f : Fld) (v : Bool) (s : State) (i : Nat) : (wrB b f v s i).spareRows = s.spareRows := rfl
@[simp] theorem wrB_rates (b : Nat) (f : Fld) (v : Bool) (s : State) (i : Nat) : (wrB b f v s i).rates = s.rates := rfl
@[simp] theorem wrB_surfs (b : Nat) (f : Fld) (v : Bool) (s : State) (i : Nat) : (wrB b f v s i).surfs = s.surfs := rfl
@[simp] theorem wrB_flrs (b : Nat) (f : Fld) (v : Bool) (s : State) (i : Nat) : (wrB b f v s i).flrs = s.flrs := rfl
@[simp] theorem wrB_chs (b : Nat) (f : Fld) (v : Bool) (s : State) (i : Nat) : (wrB b f v s i).chs = s.chs := rfl
@[simp] theorem wrB_luts (b : Nat) (f : Fld) (v : Bool) (s : State) (i : Nat) : (wrB b f v s i).luts = s.luts := rfl
@[simp] theorem wrB_cmds (b : Nat) (f : Fld) (v : Bool) (s : State) (i : Nat) : (wrB b f v s i).cmds = s.cmds := rfl
@[simp] theorem wrB_nextCmd (b : Nat) (f : Fld) (v : Bool) (s : State) (i : Nat) : (wrB b f v s i).nextCmd = s.nextCmd := rfl
@[simp] theorem wrB_rings (b : Nat) (f : Fld) (v : Bool) (s : State) (i : Nat) : (wrB b f v s i).rings = s.rings := rfl
@[simp] theorem wrB_epochs (b : Nat) (f : Fld) (v : Bool) (s : State) (i : Nat) : (wrB b f v s i).epochs = s.epochs := rfl
@[simp] theorem wrB_crosses (b : Nat) (f : Fld) (v : Bool) (s : State) (i : Nat) : (wrB b f v s i).crosses = s.crosses := rfl
@[simp] theorem wrB_d2ds (b : Nat) (f : Fld) (v : Bool) (s : State) (i : Nat) : (wrB b f v s i).d2ds = s.d2ds := rfl
@[simp] theorem wrB_lockAt (b : Nat) (f : Fld) (v : Bool) (s : State) (i : Nat) : (wrB b f v s i).lockAt = s.lockAt := rfl
@[simp] theorem wrB_hk (b : Nat) (f : Fld) (v : Bool) (s : State) (i : Nat) : (wrB b f v s i).hk = s.hk := rfl
@[simp] theorem wrB_cal (b : Nat) (f : Fld) (v : Bool) (s : State) (i : Nat) : (wrB b f v s i).cal = s.cal := rfl
@[simp] theorem wrB_cals (b : Nat) (f : Fld) (v : Bool) (s : State) (i : Nat) : (wrB b f v s i).cals = s.cals := rfl
@[simp] theorem wrB_calRec (b : Nat) (f : Fld) (v : Bool) (s : State) (i : Nat) : (wrB b f v s i).calRec = s.calRec := rfl
@[simp] theorem wrB_curveDue (b : Nat) (f : Fld) (v : Bool) (s : State) (i : Nat) : (wrB b f v s i).curveDue = s.curveDue := rfl
@[simp] theorem wrB_oxs (b : Nat) (f : Fld) (v : Bool) (s : State) (i : Nat) : (wrB b f v s i).oxs = s.oxs := rfl
@[simp] theorem wrB_pipes (b : Nat) (f : Fld) (v : Bool) (s : State) (i : Nat) : (wrB b f v s i).pipes = s.pipes := rfl
@[simp] theorem wrB_pipeChs (b : Nat) (f : Fld) (v : Bool) (s : State) (i : Nat) : (wrB b f v s i).pipeChs = s.pipeChs := rfl
@[simp] theorem wrB_pipeRec (b : Nat) (f : Fld) (v : Bool) (s : State) (i : Nat) : (wrB b f v s i).pipeRec = s.pipeRec := rfl
@[simp] theorem wrB_pipeDead (b : Nat) (f : Fld) (v : Bool) (s : State) (i : Nat) : (wrB b f v s i).pipeDead = s.pipeDead := rfl
@[simp] theorem wrB_cfg (b : Nat) (f : Fld) (v : Bool) (s : State) (i : Nat) : (wrB b f v s i).cfg = s.cfg := rfl
@[simp] theorem wrB_fw (b : Nat) (f : Fld) (v : Bool) (s : State) (i : Nat) : (wrB b f v s i).fw = s.fw := rfl
@[simp] theorem wrB_mgt (b : Nat) (f : Fld) (v : Bool) (s : State) (i : Nat) : (wrB b f v s i).mgt = s.mgt := rfl
@[simp] theorem wrB_ide (b : Nat) (f : Fld) (v : Bool) (s : State) (i : Nat) : (wrB b f v s i).ide = s.ide := rfl
@[simp] theorem wrB_spdm (b : Nat) (f : Fld) (v : Bool) (s : State) (i : Nat) : (wrB b f v s i).spdm = s.spdm := rfl

/-! ### `bump` -/

@[simp] theorem bump_pending (b : Nat) (f : Fld) (s : State) (k i : Nat) : (bump b f s k i).pending = s.pending := rfl
@[simp] theorem bump_out (b : Nat) (f : Fld) (s : State) (k i : Nat) : (bump b f s k i).out = s.out := rfl
@[simp] theorem bump_free (b : Nat) (f : Fld) (s : State) (k i : Nat) : (bump b f s k i).free = s.free := rfl
@[simp] theorem bump_evq (b : Nat) (f : Fld) (s : State) (k i : Nat) : (bump b f s k i).evq = s.evq := rfl
@[simp] theorem bump_memq (b : Nat) (f : Fld) (s : State) (k i : Nat) : (bump b f s k i).memq = s.memq := rfl
@[simp] theorem bump_tick (b : Nat) (f : Fld) (s : State) (k i : Nat) : (bump b f s k i).tick = s.tick := rfl
@[simp] theorem bump_ht (b : Nat) (f : Fld) (s : State) (k i : Nat) : (bump b f s k i).ht = s.ht := rfl
@[simp] theorem bump_eff (b : Nat) (f : Fld) (s : State) (k i : Nat) : (bump b f s k i).eff = s.eff := rfl
@[simp] theorem bump_latch (b : Nat) (f : Fld) (s : State) (k i : Nat) : (bump b f s k i).latch = s.latch := rfl
@[simp] theorem bump_mem (b : Nat) (f : Fld) (s : State) (k i : Nat) : (bump b f s k i).mem = s.mem := rfl
@[simp] theorem bump_memLost (b : Nat) (f : Fld) (s : State) (k i : Nat) : (bump b f s k i).memLost = s.memLost := rfl
@[simp] theorem bump_poison (b : Nat) (f : Fld) (s : State) (k i : Nat) : (bump b f s k i).poison = s.poison := rfl
@[simp] theorem bump_hub (b : Nat) (f : Fld) (s : State) (k i : Nat) : (bump b f s k i).hub = s.hub := rfl
@[simp] theorem bump_pins (b : Nat) (f : Fld) (s : State) (k i : Nat) : (bump b f s k i).pins = s.pins := rfl
@[simp] theorem bump_evr (b : Nat) (f : Fld) (s : State) (k i : Nat) : (bump b f s k i).evr = s.evr := rfl
@[simp] theorem bump_grants (b : Nat) (f : Fld) (s : State) (k i : Nat) : (bump b f s k i).grants = s.grants := rfl
@[simp] theorem bump_mgtCeil (b : Nat) (f : Fld) (s : State) (k i : Nat) : (bump b f s k i).mgtCeil = s.mgtCeil := rfl
@[simp] theorem bump_weirs (b : Nat) (f : Fld) (s : State) (k i : Nat) : (bump b f s k i).weirs = s.weirs := rfl
@[simp] theorem bump_seqs (b : Nat) (f : Fld) (s : State) (k i : Nat) : (bump b f s k i).seqs = s.seqs := rfl
@[simp] theorem bump_lamps (b : Nat) (f : Fld) (s : State) (k i : Nat) : (bump b f s k i).lamps = s.lamps := rfl
@[simp] theorem bump_strs (b : Nat) (f : Fld) (s : State) (k i : Nat) : (bump b f s k i).strs = s.strs := rfl
@[simp] theorem bump_drvs (b : Nat) (f : Fld) (s : State) (k i : Nat) : (bump b f s k i).drvs = s.drvs := rfl
@[simp] theorem bump_ports (b : Nat) (f : Fld) (s : State) (k i : Nat) : (bump b f s k i).ports = s.ports := rfl
@[simp] theorem bump_curves (b : Nat) (f : Fld) (s : State) (k i : Nat) : (bump b f s k i).curves = s.curves := rfl
@[simp] theorem bump_prog (b : Nat) (f : Fld) (s : State) (k i : Nat) : (bump b f s k i).prog = s.prog := rfl
@[simp] theorem bump_descr (b : Nat) (f : Fld) (s : State) (k i : Nat) : (bump b f s k i).descr = s.descr := rfl
@[simp] theorem bump_moves (b : Nat) (f : Fld) (s : State) (k i : Nat) : (bump b f s k i).moves = s.moves := rfl
@[simp] theorem bump_slots (b : Nat) (f : Fld) (s : State) (k i : Nat) : (bump b f s k i).slots = s.slots := rfl
@[simp] theorem bump_cores (b : Nat) (f : Fld) (s : State) (k i : Nat) : (bump b f s k i).cores = s.cores := rfl
@[simp] theorem bump_eddys (b : Nat) (f : Fld) (s : State) (k i : Nat) : (bump b f s k i).eddys = s.eddys := rfl
@[simp] theorem bump_lprog (b : Nat) (f : Fld) (s : State) (k i : Nat) : (bump b f s k i).lprog = s.lprog := rfl
@[simp] theorem bump_ldata (b : Nat) (f : Fld) (s : State) (k i : Nat) : (bump b f s k i).ldata = s.ldata := rfl
@[simp] theorem bump_binds (b : Nat) (f : Fld) (s : State) (k i : Nat) : (bump b f s k i).binds = s.binds := rfl
@[simp] theorem bump_sps (b : Nat) (f : Fld) (s : State) (k i : Nat) : (bump b f s k i).sps = s.sps := rfl
@[simp] theorem bump_spReg (b : Nat) (f : Fld) (s : State) (k i : Nat) : (bump b f s k i).spReg = s.spReg := rfl
@[simp] theorem bump_serve (b : Nat) (f : Fld) (s : State) (k i : Nat) : (bump b f s k i).serve = s.serve := rfl
@[simp] theorem bump_retired (b : Nat) (f : Fld) (s : State) (k i : Nat) : (bump b f s k i).retired = s.retired := rfl
@[simp] theorem bump_thermAt (b : Nat) (f : Fld) (s : State) (k i : Nat) : (bump b f s k i).thermAt = s.thermAt := rfl
@[simp] theorem bump_frms (b : Nat) (f : Fld) (s : State) (k i : Nat) : (bump b f s k i).frms = s.frms := rfl
@[simp] theorem bump_fmts (b : Nat) (f : Fld) (s : State) (k i : Nat) : (bump b f s k i).fmts = s.fmts := rfl
@[simp] theorem bump_time (b : Nat) (f : Fld) (s : State) (k i : Nat) : (bump b f s k i).time = s.time := rfl
@[simp] theorem bump_dst (b : Nat) (f : Fld) (s : State) (k i : Nat) : (bump b f s k i).dst = s.dst := rfl
@[simp] theorem bump_ddrs (b : Nat) (f : Fld) (s : State) (k i : Nat) : (bump b f s k i).ddrs = s.ddrs := rfl
@[simp] theorem bump_dreqs (b : Nat) (f : Fld) (s : State) (k i : Nat) : (bump b f s k i).dreqs = s.dreqs := rfl
@[simp] theorem bump_swBusy (b : Nat) (f : Fld) (s : State) (k i : Nat) : (bump b f s k i).swBusy = s.swBusy := rfl
@[simp] theorem bump_spareRows (b : Nat) (f : Fld) (s : State) (k i : Nat) : (bump b f s k i).spareRows = s.spareRows := rfl
@[simp] theorem bump_rates (b : Nat) (f : Fld) (s : State) (k i : Nat) : (bump b f s k i).rates = s.rates := rfl
@[simp] theorem bump_surfs (b : Nat) (f : Fld) (s : State) (k i : Nat) : (bump b f s k i).surfs = s.surfs := rfl
@[simp] theorem bump_flrs (b : Nat) (f : Fld) (s : State) (k i : Nat) : (bump b f s k i).flrs = s.flrs := rfl
@[simp] theorem bump_chs (b : Nat) (f : Fld) (s : State) (k i : Nat) : (bump b f s k i).chs = s.chs := rfl
@[simp] theorem bump_luts (b : Nat) (f : Fld) (s : State) (k i : Nat) : (bump b f s k i).luts = s.luts := rfl
@[simp] theorem bump_cmds (b : Nat) (f : Fld) (s : State) (k i : Nat) : (bump b f s k i).cmds = s.cmds := rfl
@[simp] theorem bump_nextCmd (b : Nat) (f : Fld) (s : State) (k i : Nat) : (bump b f s k i).nextCmd = s.nextCmd := rfl
@[simp] theorem bump_rings (b : Nat) (f : Fld) (s : State) (k i : Nat) : (bump b f s k i).rings = s.rings := rfl
@[simp] theorem bump_epochs (b : Nat) (f : Fld) (s : State) (k i : Nat) : (bump b f s k i).epochs = s.epochs := rfl
@[simp] theorem bump_crosses (b : Nat) (f : Fld) (s : State) (k i : Nat) : (bump b f s k i).crosses = s.crosses := rfl
@[simp] theorem bump_d2ds (b : Nat) (f : Fld) (s : State) (k i : Nat) : (bump b f s k i).d2ds = s.d2ds := rfl
@[simp] theorem bump_lockAt (b : Nat) (f : Fld) (s : State) (k i : Nat) : (bump b f s k i).lockAt = s.lockAt := rfl
@[simp] theorem bump_hk (b : Nat) (f : Fld) (s : State) (k i : Nat) : (bump b f s k i).hk = s.hk := rfl
@[simp] theorem bump_cal (b : Nat) (f : Fld) (s : State) (k i : Nat) : (bump b f s k i).cal = s.cal := rfl
@[simp] theorem bump_cals (b : Nat) (f : Fld) (s : State) (k i : Nat) : (bump b f s k i).cals = s.cals := rfl
@[simp] theorem bump_calRec (b : Nat) (f : Fld) (s : State) (k i : Nat) : (bump b f s k i).calRec = s.calRec := rfl
@[simp] theorem bump_curveDue (b : Nat) (f : Fld) (s : State) (k i : Nat) : (bump b f s k i).curveDue = s.curveDue := rfl
@[simp] theorem bump_oxs (b : Nat) (f : Fld) (s : State) (k i : Nat) : (bump b f s k i).oxs = s.oxs := rfl
@[simp] theorem bump_pipes (b : Nat) (f : Fld) (s : State) (k i : Nat) : (bump b f s k i).pipes = s.pipes := rfl
@[simp] theorem bump_pipeChs (b : Nat) (f : Fld) (s : State) (k i : Nat) : (bump b f s k i).pipeChs = s.pipeChs := rfl
@[simp] theorem bump_pipeRec (b : Nat) (f : Fld) (s : State) (k i : Nat) : (bump b f s k i).pipeRec = s.pipeRec := rfl
@[simp] theorem bump_pipeDead (b : Nat) (f : Fld) (s : State) (k i : Nat) : (bump b f s k i).pipeDead = s.pipeDead := rfl
@[simp] theorem bump_cfg (b : Nat) (f : Fld) (s : State) (k i : Nat) : (bump b f s k i).cfg = s.cfg := rfl
@[simp] theorem bump_fw (b : Nat) (f : Fld) (s : State) (k i : Nat) : (bump b f s k i).fw = s.fw := rfl
@[simp] theorem bump_mgt (b : Nat) (f : Fld) (s : State) (k i : Nat) : (bump b f s k i).mgt = s.mgt := rfl
@[simp] theorem bump_ide (b : Nat) (f : Fld) (s : State) (k i : Nat) : (bump b f s k i).ide = s.ide := rfl
@[simp] theorem bump_spdm (b : Nat) (f : Fld) (s : State) (k i : Nat) : (bump b f s k i).spdm = s.spdm := rfl

/-! ### `raiseAt` and `raise`: only the event queue and, in HOLD, the hold log change -/

@[simp] theorem raiseAt_pending (stamp code ch arg : Nat) (s : State) : (raiseAt stamp code ch arg s).pending = s.pending := by
  unfold raiseAt; dsimp only; split <;> rfl
@[simp] theorem raiseAt_out (stamp code ch arg : Nat) (s : State) : (raiseAt stamp code ch arg s).out = s.out := by
  unfold raiseAt; dsimp only; split <;> rfl
@[simp] theorem raiseAt_free (stamp code ch arg : Nat) (s : State) : (raiseAt stamp code ch arg s).free = s.free := by
  unfold raiseAt; dsimp only; split <;> rfl
@[simp] theorem raiseAt_memq (stamp code ch arg : Nat) (s : State) : (raiseAt stamp code ch arg s).memq = s.memq := by
  unfold raiseAt; dsimp only; split <;> rfl
@[simp] theorem raiseAt_tick (stamp code ch arg : Nat) (s : State) : (raiseAt stamp code ch arg s).tick = s.tick := by
  unfold raiseAt; dsimp only; split <;> rfl
@[simp] theorem raiseAt_ht (stamp code ch arg : Nat) (s : State) : (raiseAt stamp code ch arg s).ht = s.ht := by
  unfold raiseAt; dsimp only; split <;> rfl
@[simp] theorem raiseAt_regs (stamp code ch arg : Nat) (s : State) : (raiseAt stamp code ch arg s).regs = s.regs := by
  unfold raiseAt; dsimp only; split <;> rfl
@[simp] theorem raiseAt_eff (stamp code ch arg : Nat) (s : State) : (raiseAt stamp code ch arg s).eff = s.eff := by
  unfold raiseAt; dsimp only; split <;> rfl
@[simp] theorem raiseAt_latch (stamp code ch arg : Nat) (s : State) : (raiseAt stamp code ch arg s).latch = s.latch := by
  unfold raiseAt; dsimp only; split <;> rfl
@[simp] theorem raiseAt_mem (stamp code ch arg : Nat) (s : State) : (raiseAt stamp code ch arg s).mem = s.mem := by
  unfold raiseAt; dsimp only; split <;> rfl
@[simp] theorem raiseAt_memLost (stamp code ch arg : Nat) (s : State) : (raiseAt stamp code ch arg s).memLost = s.memLost := by
  unfold raiseAt; dsimp only; split <;> rfl
@[simp] theorem raiseAt_poison (stamp code ch arg : Nat) (s : State) : (raiseAt stamp code ch arg s).poison = s.poison := by
  unfold raiseAt; dsimp only; split <;> rfl
@[simp] theorem raiseAt_pins (stamp code ch arg : Nat) (s : State) : (raiseAt stamp code ch arg s).pins = s.pins := by
  unfold raiseAt; dsimp only; split <;> rfl
@[simp] theorem raiseAt_evr (stamp code ch arg : Nat) (s : State) : (raiseAt stamp code ch arg s).evr = s.evr := by
  unfold raiseAt; dsimp only; split <;> rfl
@[simp] theorem raiseAt_grants (stamp code ch arg : Nat) (s : State) : (raiseAt stamp code ch arg s).grants = s.grants := by
  unfold raiseAt; dsimp only; split <;> rfl
@[simp] theorem raiseAt_mgtCeil (stamp code ch arg : Nat) (s : State) : (raiseAt stamp code ch arg s).mgtCeil = s.mgtCeil := by
  unfold raiseAt; dsimp only; split <;> rfl
@[simp] theorem raiseAt_weirs (stamp code ch arg : Nat) (s : State) : (raiseAt stamp code ch arg s).weirs = s.weirs := by
  unfold raiseAt; dsimp only; split <;> rfl
@[simp] theorem raiseAt_seqs (stamp code ch arg : Nat) (s : State) : (raiseAt stamp code ch arg s).seqs = s.seqs := by
  unfold raiseAt; dsimp only; split <;> rfl
@[simp] theorem raiseAt_lamps (stamp code ch arg : Nat) (s : State) : (raiseAt stamp code ch arg s).lamps = s.lamps := by
  unfold raiseAt; dsimp only; split <;> rfl
@[simp] theorem raiseAt_strs (stamp code ch arg : Nat) (s : State) : (raiseAt stamp code ch arg s).strs = s.strs := by
  unfold raiseAt; dsimp only; split <;> rfl
@[simp] theorem raiseAt_drvs (stamp code ch arg : Nat) (s : State) : (raiseAt stamp code ch arg s).drvs = s.drvs := by
  unfold raiseAt; dsimp only; split <;> rfl
@[simp] theorem raiseAt_ports (stamp code ch arg : Nat) (s : State) : (raiseAt stamp code ch arg s).ports = s.ports := by
  unfold raiseAt; dsimp only; split <;> rfl
@[simp] theorem raiseAt_curves (stamp code ch arg : Nat) (s : State) : (raiseAt stamp code ch arg s).curves = s.curves := by
  unfold raiseAt; dsimp only; split <;> rfl
@[simp] theorem raiseAt_prog (stamp code ch arg : Nat) (s : State) : (raiseAt stamp code ch arg s).prog = s.prog := by
  unfold raiseAt; dsimp only; split <;> rfl
@[simp] theorem raiseAt_descr (stamp code ch arg : Nat) (s : State) : (raiseAt stamp code ch arg s).descr = s.descr := by
  unfold raiseAt; dsimp only; split <;> rfl
@[simp] theorem raiseAt_moves (stamp code ch arg : Nat) (s : State) : (raiseAt stamp code ch arg s).moves = s.moves := by
  unfold raiseAt; dsimp only; split <;> rfl
@[simp] theorem raiseAt_slots (stamp code ch arg : Nat) (s : State) : (raiseAt stamp code ch arg s).slots = s.slots := by
  unfold raiseAt; dsimp only; split <;> rfl
@[simp] theorem raiseAt_cores (stamp code ch arg : Nat) (s : State) : (raiseAt stamp code ch arg s).cores = s.cores := by
  unfold raiseAt; dsimp only; split <;> rfl
@[simp] theorem raiseAt_eddys (stamp code ch arg : Nat) (s : State) : (raiseAt stamp code ch arg s).eddys = s.eddys := by
  unfold raiseAt; dsimp only; split <;> rfl
@[simp] theorem raiseAt_lprog (stamp code ch arg : Nat) (s : State) : (raiseAt stamp code ch arg s).lprog = s.lprog := by
  unfold raiseAt; dsimp only; split <;> rfl
@[simp] theorem raiseAt_ldata (stamp code ch arg : Nat) (s : State) : (raiseAt stamp code ch arg s).ldata = s.ldata := by
  unfold raiseAt; dsimp only; split <;> rfl
@[simp] theorem raiseAt_binds (stamp code ch arg : Nat) (s : State) : (raiseAt stamp code ch arg s).binds = s.binds := by
  unfold raiseAt; dsimp only; split <;> rfl
@[simp] theorem raiseAt_sps (stamp code ch arg : Nat) (s : State) : (raiseAt stamp code ch arg s).sps = s.sps := by
  unfold raiseAt; dsimp only; split <;> rfl
@[simp] theorem raiseAt_spReg (stamp code ch arg : Nat) (s : State) : (raiseAt stamp code ch arg s).spReg = s.spReg := by
  unfold raiseAt; dsimp only; split <;> rfl
@[simp] theorem raiseAt_serve (stamp code ch arg : Nat) (s : State) : (raiseAt stamp code ch arg s).serve = s.serve := by
  unfold raiseAt; dsimp only; split <;> rfl
@[simp] theorem raiseAt_retired (stamp code ch arg : Nat) (s : State) : (raiseAt stamp code ch arg s).retired = s.retired := by
  unfold raiseAt; dsimp only; split <;> rfl
@[simp] theorem raiseAt_thermAt (stamp code ch arg : Nat) (s : State) : (raiseAt stamp code ch arg s).thermAt = s.thermAt := by
  unfold raiseAt; dsimp only; split <;> rfl
@[simp] theorem raiseAt_frms (stamp code ch arg : Nat) (s : State) : (raiseAt stamp code ch arg s).frms = s.frms := by
  unfold raiseAt; dsimp only; split <;> rfl
@[simp] theorem raiseAt_fmts (stamp code ch arg : Nat) (s : State) : (raiseAt stamp code ch arg s).fmts = s.fmts := by
  unfold raiseAt; dsimp only; split <;> rfl
@[simp] theorem raiseAt_time (stamp code ch arg : Nat) (s : State) : (raiseAt stamp code ch arg s).time = s.time := by
  unfold raiseAt; dsimp only; split <;> rfl
@[simp] theorem raiseAt_dst (stamp code ch arg : Nat) (s : State) : (raiseAt stamp code ch arg s).dst = s.dst := by
  unfold raiseAt; dsimp only; split <;> rfl
@[simp] theorem raiseAt_ddrs (stamp code ch arg : Nat) (s : State) : (raiseAt stamp code ch arg s).ddrs = s.ddrs := by
  unfold raiseAt; dsimp only; split <;> rfl
@[simp] theorem raiseAt_dreqs (stamp code ch arg : Nat) (s : State) : (raiseAt stamp code ch arg s).dreqs = s.dreqs := by
  unfold raiseAt; dsimp only; split <;> rfl
@[simp] theorem raiseAt_swBusy (stamp code ch arg : Nat) (s : State) : (raiseAt stamp code ch arg s).swBusy = s.swBusy := by
  unfold raiseAt; dsimp only; split <;> rfl
@[simp] theorem raiseAt_spareRows (stamp code ch arg : Nat) (s : State) : (raiseAt stamp code ch arg s).spareRows = s.spareRows := by
  unfold raiseAt; dsimp only; split <;> rfl
@[simp] theorem raiseAt_rates (stamp code ch arg : Nat) (s : State) : (raiseAt stamp code ch arg s).rates = s.rates := by
  unfold raiseAt; dsimp only; split <;> rfl
@[simp] theorem raiseAt_surfs (stamp code ch arg : Nat) (s : State) : (raiseAt stamp code ch arg s).surfs = s.surfs := by
  unfold raiseAt; dsimp only; split <;> rfl
@[simp] theorem raiseAt_flrs (stamp code ch arg : Nat) (s : State) : (raiseAt stamp code ch arg s).flrs = s.flrs := by
  unfold raiseAt; dsimp only; split <;> rfl
@[simp] theorem raiseAt_chs (stamp code ch arg : Nat) (s : State) : (raiseAt stamp code ch arg s).chs = s.chs := by
  unfold raiseAt; dsimp only; split <;> rfl
@[simp] theorem raiseAt_luts (stamp code ch arg : Nat) (s : State) : (raiseAt stamp code ch arg s).luts = s.luts := by
  unfold raiseAt; dsimp only; split <;> rfl
@[simp] theorem raiseAt_cmds (stamp code ch arg : Nat) (s : State) : (raiseAt stamp code ch arg s).cmds = s.cmds := by
  unfold raiseAt; dsimp only; split <;> rfl
@[simp] theorem raiseAt_nextCmd (stamp code ch arg : Nat) (s : State) : (raiseAt stamp code ch arg s).nextCmd = s.nextCmd := by
  unfold raiseAt; dsimp only; split <;> rfl
@[simp] theorem raiseAt_rings (stamp code ch arg : Nat) (s : State) : (raiseAt stamp code ch arg s).rings = s.rings := by
  unfold raiseAt; dsimp only; split <;> rfl
@[simp] theorem raiseAt_epochs (stamp code ch arg : Nat) (s : State) : (raiseAt stamp code ch arg s).epochs = s.epochs := by
  unfold raiseAt; dsimp only; split <;> rfl
@[simp] theorem raiseAt_crosses (stamp code ch arg : Nat) (s : State) : (raiseAt stamp code ch arg s).crosses = s.crosses := by
  unfold raiseAt; dsimp only; split <;> rfl
@[simp] theorem raiseAt_d2ds (stamp code ch arg : Nat) (s : State) : (raiseAt stamp code ch arg s).d2ds = s.d2ds := by
  unfold raiseAt; dsimp only; split <;> rfl
@[simp] theorem raiseAt_lockAt (stamp code ch arg : Nat) (s : State) : (raiseAt stamp code ch arg s).lockAt = s.lockAt := by
  unfold raiseAt; dsimp only; split <;> rfl
@[simp] theorem raiseAt_hk (stamp code ch arg : Nat) (s : State) : (raiseAt stamp code ch arg s).hk = s.hk := by
  unfold raiseAt; dsimp only; split <;> rfl
@[simp] theorem raiseAt_cal (stamp code ch arg : Nat) (s : State) : (raiseAt stamp code ch arg s).cal = s.cal := by
  unfold raiseAt; dsimp only; split <;> rfl
@[simp] theorem raiseAt_cals (stamp code ch arg : Nat) (s : State) : (raiseAt stamp code ch arg s).cals = s.cals := by
  unfold raiseAt; dsimp only; split <;> rfl
@[simp] theorem raiseAt_calRec (stamp code ch arg : Nat) (s : State) : (raiseAt stamp code ch arg s).calRec = s.calRec := by
  unfold raiseAt; dsimp only; split <;> rfl
@[simp] theorem raiseAt_curveDue (stamp code ch arg : Nat) (s : State) : (raiseAt stamp code ch arg s).curveDue = s.curveDue := by
  unfold raiseAt; dsimp only; split <;> rfl
@[simp] theorem raiseAt_oxs (stamp code ch arg : Nat) (s : State) : (raiseAt stamp code ch arg s).oxs = s.oxs := by
  unfold raiseAt; dsimp only; split <;> rfl
@[simp] theorem raiseAt_pipes (stamp code ch arg : Nat) (s : State) : (raiseAt stamp code ch arg s).pipes = s.pipes := by
  unfold raiseAt; dsimp only; split <;> rfl
@[simp] theorem raiseAt_pipeChs (stamp code ch arg : Nat) (s : State) : (raiseAt stamp code ch arg s).pipeChs = s.pipeChs := by
  unfold raiseAt; dsimp only; split <;> rfl
@[simp] theorem raiseAt_pipeRec (stamp code ch arg : Nat) (s : State) : (raiseAt stamp code ch arg s).pipeRec = s.pipeRec := by
  unfold raiseAt; dsimp only; split <;> rfl
@[simp] theorem raiseAt_pipeDead (stamp code ch arg : Nat) (s : State) : (raiseAt stamp code ch arg s).pipeDead = s.pipeDead := by
  unfold raiseAt; dsimp only; split <;> rfl
@[simp] theorem raiseAt_cfg (stamp code ch arg : Nat) (s : State) : (raiseAt stamp code ch arg s).cfg = s.cfg := by
  unfold raiseAt; dsimp only; split <;> rfl
@[simp] theorem raiseAt_fw (stamp code ch arg : Nat) (s : State) : (raiseAt stamp code ch arg s).fw = s.fw := by
  unfold raiseAt; dsimp only; split <;> rfl
@[simp] theorem raiseAt_mgt (stamp code ch arg : Nat) (s : State) : (raiseAt stamp code ch arg s).mgt = s.mgt := by
  unfold raiseAt; dsimp only; split <;> rfl
@[simp] theorem raiseAt_ide (stamp code ch arg : Nat) (s : State) : (raiseAt stamp code ch arg s).ide = s.ide := by
  unfold raiseAt; dsimp only; split <;> rfl
@[simp] theorem raiseAt_spdm (stamp code ch arg : Nat) (s : State) : (raiseAt stamp code ch arg s).spdm = s.spdm := by
  unfold raiseAt; dsimp only; split <;> rfl

@[simp] theorem raise_pending (code ch arg : Nat) (s : State) : (raise code ch arg s).pending = s.pending := raiseAt_pending s.ht code ch arg s
@[simp] theorem raise_out (code ch arg : Nat) (s : State) : (raise code ch arg s).out = s.out := raiseAt_out s.ht code ch arg s
@[simp] theorem raise_free (code ch arg : Nat) (s : State) : (raise code ch arg s).free = s.free := raiseAt_free s.ht code ch arg s
@[simp] theorem raise_memq (code ch arg : Nat) (s : State) : (raise code ch arg s).memq = s.memq := raiseAt_memq s.ht code ch arg s
@[simp] theorem raise_tick (code ch arg : Nat) (s : State) : (raise code ch arg s).tick = s.tick := raiseAt_tick s.ht code ch arg s
@[simp] theorem raise_ht (code ch arg : Nat) (s : State) : (raise code ch arg s).ht = s.ht := raiseAt_ht s.ht code ch arg s
@[simp] theorem raise_regs (code ch arg : Nat) (s : State) : (raise code ch arg s).regs = s.regs := raiseAt_regs s.ht code ch arg s
@[simp] theorem raise_eff (code ch arg : Nat) (s : State) : (raise code ch arg s).eff = s.eff := raiseAt_eff s.ht code ch arg s
@[simp] theorem raise_latch (code ch arg : Nat) (s : State) : (raise code ch arg s).latch = s.latch := raiseAt_latch s.ht code ch arg s
@[simp] theorem raise_mem (code ch arg : Nat) (s : State) : (raise code ch arg s).mem = s.mem := raiseAt_mem s.ht code ch arg s
@[simp] theorem raise_memLost (code ch arg : Nat) (s : State) : (raise code ch arg s).memLost = s.memLost := raiseAt_memLost s.ht code ch arg s
@[simp] theorem raise_poison (code ch arg : Nat) (s : State) : (raise code ch arg s).poison = s.poison := raiseAt_poison s.ht code ch arg s
@[simp] theorem raise_pins (code ch arg : Nat) (s : State) : (raise code ch arg s).pins = s.pins := raiseAt_pins s.ht code ch arg s
@[simp] theorem raise_evr (code ch arg : Nat) (s : State) : (raise code ch arg s).evr = s.evr := raiseAt_evr s.ht code ch arg s
@[simp] theorem raise_grants (code ch arg : Nat) (s : State) : (raise code ch arg s).grants = s.grants := raiseAt_grants s.ht code ch arg s
@[simp] theorem raise_mgtCeil (code ch arg : Nat) (s : State) : (raise code ch arg s).mgtCeil = s.mgtCeil := raiseAt_mgtCeil s.ht code ch arg s
@[simp] theorem raise_weirs (code ch arg : Nat) (s : State) : (raise code ch arg s).weirs = s.weirs := raiseAt_weirs s.ht code ch arg s
@[simp] theorem raise_seqs (code ch arg : Nat) (s : State) : (raise code ch arg s).seqs = s.seqs := raiseAt_seqs s.ht code ch arg s
@[simp] theorem raise_lamps (code ch arg : Nat) (s : State) : (raise code ch arg s).lamps = s.lamps := raiseAt_lamps s.ht code ch arg s
@[simp] theorem raise_strs (code ch arg : Nat) (s : State) : (raise code ch arg s).strs = s.strs := raiseAt_strs s.ht code ch arg s
@[simp] theorem raise_drvs (code ch arg : Nat) (s : State) : (raise code ch arg s).drvs = s.drvs := raiseAt_drvs s.ht code ch arg s
@[simp] theorem raise_ports (code ch arg : Nat) (s : State) : (raise code ch arg s).ports = s.ports := raiseAt_ports s.ht code ch arg s
@[simp] theorem raise_curves (code ch arg : Nat) (s : State) : (raise code ch arg s).curves = s.curves := raiseAt_curves s.ht code ch arg s
@[simp] theorem raise_prog (code ch arg : Nat) (s : State) : (raise code ch arg s).prog = s.prog := raiseAt_prog s.ht code ch arg s
@[simp] theorem raise_descr (code ch arg : Nat) (s : State) : (raise code ch arg s).descr = s.descr := raiseAt_descr s.ht code ch arg s
@[simp] theorem raise_moves (code ch arg : Nat) (s : State) : (raise code ch arg s).moves = s.moves := raiseAt_moves s.ht code ch arg s
@[simp] theorem raise_slots (code ch arg : Nat) (s : State) : (raise code ch arg s).slots = s.slots := raiseAt_slots s.ht code ch arg s
@[simp] theorem raise_cores (code ch arg : Nat) (s : State) : (raise code ch arg s).cores = s.cores := raiseAt_cores s.ht code ch arg s
@[simp] theorem raise_eddys (code ch arg : Nat) (s : State) : (raise code ch arg s).eddys = s.eddys := raiseAt_eddys s.ht code ch arg s
@[simp] theorem raise_lprog (code ch arg : Nat) (s : State) : (raise code ch arg s).lprog = s.lprog := raiseAt_lprog s.ht code ch arg s
@[simp] theorem raise_ldata (code ch arg : Nat) (s : State) : (raise code ch arg s).ldata = s.ldata := raiseAt_ldata s.ht code ch arg s
@[simp] theorem raise_binds (code ch arg : Nat) (s : State) : (raise code ch arg s).binds = s.binds := raiseAt_binds s.ht code ch arg s
@[simp] theorem raise_sps (code ch arg : Nat) (s : State) : (raise code ch arg s).sps = s.sps := raiseAt_sps s.ht code ch arg s
@[simp] theorem raise_spReg (code ch arg : Nat) (s : State) : (raise code ch arg s).spReg = s.spReg := raiseAt_spReg s.ht code ch arg s
@[simp] theorem raise_serve (code ch arg : Nat) (s : State) : (raise code ch arg s).serve = s.serve := raiseAt_serve s.ht code ch arg s
@[simp] theorem raise_retired (code ch arg : Nat) (s : State) : (raise code ch arg s).retired = s.retired := raiseAt_retired s.ht code ch arg s
@[simp] theorem raise_thermAt (code ch arg : Nat) (s : State) : (raise code ch arg s).thermAt = s.thermAt := raiseAt_thermAt s.ht code ch arg s
@[simp] theorem raise_frms (code ch arg : Nat) (s : State) : (raise code ch arg s).frms = s.frms := raiseAt_frms s.ht code ch arg s
@[simp] theorem raise_fmts (code ch arg : Nat) (s : State) : (raise code ch arg s).fmts = s.fmts := raiseAt_fmts s.ht code ch arg s
@[simp] theorem raise_time (code ch arg : Nat) (s : State) : (raise code ch arg s).time = s.time := raiseAt_time s.ht code ch arg s
@[simp] theorem raise_dst (code ch arg : Nat) (s : State) : (raise code ch arg s).dst = s.dst := raiseAt_dst s.ht code ch arg s
@[simp] theorem raise_ddrs (code ch arg : Nat) (s : State) : (raise code ch arg s).ddrs = s.ddrs := raiseAt_ddrs s.ht code ch arg s
@[simp] theorem raise_dreqs (code ch arg : Nat) (s : State) : (raise code ch arg s).dreqs = s.dreqs := raiseAt_dreqs s.ht code ch arg s
@[simp] theorem raise_swBusy (code ch arg : Nat) (s : State) : (raise code ch arg s).swBusy = s.swBusy := raiseAt_swBusy s.ht code ch arg s
@[simp] theorem raise_spareRows (code ch arg : Nat) (s : State) : (raise code ch arg s).spareRows = s.spareRows := raiseAt_spareRows s.ht code ch arg s
@[simp] theorem raise_rates (code ch arg : Nat) (s : State) : (raise code ch arg s).rates = s.rates := raiseAt_rates s.ht code ch arg s
@[simp] theorem raise_surfs (code ch arg : Nat) (s : State) : (raise code ch arg s).surfs = s.surfs := raiseAt_surfs s.ht code ch arg s
@[simp] theorem raise_flrs (code ch arg : Nat) (s : State) : (raise code ch arg s).flrs = s.flrs := raiseAt_flrs s.ht code ch arg s
@[simp] theorem raise_chs (code ch arg : Nat) (s : State) : (raise code ch arg s).chs = s.chs := raiseAt_chs s.ht code ch arg s
@[simp] theorem raise_luts (code ch arg : Nat) (s : State) : (raise code ch arg s).luts = s.luts := raiseAt_luts s.ht code ch arg s
@[simp] theorem raise_cmds (code ch arg : Nat) (s : State) : (raise code ch arg s).cmds = s.cmds := raiseAt_cmds s.ht code ch arg s
@[simp] theorem raise_nextCmd (code ch arg : Nat) (s : State) : (raise code ch arg s).nextCmd = s.nextCmd := raiseAt_nextCmd s.ht code ch arg s
@[simp] theorem raise_rings (code ch arg : Nat) (s : State) : (raise code ch arg s).rings = s.rings := raiseAt_rings s.ht code ch arg s
@[simp] theorem raise_epochs (code ch arg : Nat) (s : State) : (raise code ch arg s).epochs = s.epochs := raiseAt_epochs s.ht code ch arg s
@[simp] theorem raise_crosses (code ch arg : Nat) (s : State) : (raise code ch arg s).crosses = s.crosses := raiseAt_crosses s.ht code ch arg s
@[simp] theorem raise_d2ds (code ch arg : Nat) (s : State) : (raise code ch arg s).d2ds = s.d2ds := raiseAt_d2ds s.ht code ch arg s
@[simp] theorem raise_lockAt (code ch arg : Nat) (s : State) : (raise code ch arg s).lockAt = s.lockAt := raiseAt_lockAt s.ht code ch arg s
@[simp] theorem raise_hk (code ch arg : Nat) (s : State) : (raise code ch arg s).hk = s.hk := raiseAt_hk s.ht code ch arg s
@[simp] theorem raise_cal (code ch arg : Nat) (s : State) : (raise code ch arg s).cal = s.cal := raiseAt_cal s.ht code ch arg s
@[simp] theorem raise_cals (code ch arg : Nat) (s : State) : (raise code ch arg s).cals = s.cals := raiseAt_cals s.ht code ch arg s
@[simp] theorem raise_calRec (code ch arg : Nat) (s : State) : (raise code ch arg s).calRec = s.calRec := raiseAt_calRec s.ht code ch arg s
@[simp] theorem raise_curveDue (code ch arg : Nat) (s : State) : (raise code ch arg s).curveDue = s.curveDue := raiseAt_curveDue s.ht code ch arg s
@[simp] theorem raise_oxs (code ch arg : Nat) (s : State) : (raise code ch arg s).oxs = s.oxs := raiseAt_oxs s.ht code ch arg s
@[simp] theorem raise_pipes (code ch arg : Nat) (s : State) : (raise code ch arg s).pipes = s.pipes := raiseAt_pipes s.ht code ch arg s
@[simp] theorem raise_pipeChs (code ch arg : Nat) (s : State) : (raise code ch arg s).pipeChs = s.pipeChs := raiseAt_pipeChs s.ht code ch arg s
@[simp] theorem raise_pipeRec (code ch arg : Nat) (s : State) : (raise code ch arg s).pipeRec = s.pipeRec := raiseAt_pipeRec s.ht code ch arg s
@[simp] theorem raise_pipeDead (code ch arg : Nat) (s : State) : (raise code ch arg s).pipeDead = s.pipeDead := raiseAt_pipeDead s.ht code ch arg s
@[simp] theorem raise_cfg (code ch arg : Nat) (s : State) : (raise code ch arg s).cfg = s.cfg := raiseAt_cfg s.ht code ch arg s
@[simp] theorem raise_fw (code ch arg : Nat) (s : State) : (raise code ch arg s).fw = s.fw := raiseAt_fw s.ht code ch arg s
@[simp] theorem raise_mgt (code ch arg : Nat) (s : State) : (raise code ch arg s).mgt = s.mgt := raiseAt_mgt s.ht code ch arg s
@[simp] theorem raise_ide (code ch arg : Nat) (s : State) : (raise code ch arg s).ide = s.ide := raiseAt_ide s.ht code ch arg s
@[simp] theorem raise_spdm (code ch arg : Nat) (s : State) : (raise code ch arg s).spdm = s.spdm := raiseAt_spdm s.ht code ch arg s

/-! ### `when_`: a field after a conditional effect -/

theorem when_true (f : State → State) (s : State) : when_ true f s = f s := rfl
theorem when_false (f : State → State) (s : State) : when_ false f s = s := rfl

end Sys2Proof.Machine
end

