-- ==== Sys2Proof/Laws/Ops.lean ====
section
/-!
SUPPORT. One lemma per shared operation: sparse tables, registers, conditional and repeated effects, events, memory, and
the frame `run` of every command.
-/

namespace Sys2Proof.Machine
open Sys2Proof Sys2Proof.Safety

/-! ### Sparse tables -/

theorem tget_terase {α : Type} (d : α) (k k' : Nat) (t : Tbl α) :
    tget d k (terase k' t) = if k' = k then d else tget d k t := by
  induction t with
  | nil => simp [terase, tget]
  | cons e t ih =>
    obtain ⟨j, v⟩ := e
    by_cases h : j = k'
    · subst h
      by_cases h2 : j = k <;> simp_all [terase, tget]
    · by_cases h2 : j = k
      · subst h2
        have h3 : k' ≠ j := fun e => h e.symm
        simp [terase, tget, h, h3]
      · simp [terase, tget, h, h2, ih]

theorem tget_tins_same {α : Type} (d : α) (k : Nat) (v : α) (t : Tbl α) :
    tget d k (tins k v (terase k t)) = v := by
  induction t with
  | nil => simp [terase, tins, tget]
  | cons e t ih =>
    obtain ⟨j, w⟩ := e
    by_cases h : j = k
    · simp [terase, h, ih]
    · by_cases h2 : k < j
      · simp [terase, tins, tget, h, h2]
      · simp [terase, tins, tget, h, h2, ih]

theorem tget_tins_ne {α : Type} (d : α) (k k' : Nat) (v : α) (t : Tbl α) (h : k' ≠ k) :
    tget d k (tins k' v t) = tget d k t := by
  induction t with
  | nil => simp [tins, tget, h]
  | cons e t ih =>
    obtain ⟨j, w⟩ := e
    by_cases h2 : k' < j
    · simp [tins, tget, h2, h]
    · by_cases h3 : j = k
      · subst h3; simp [tins, tget, h2]
      · simp [tins, tget, h2, h3, ih]

/-- A read after a write of the same key gives what was written. -/
@[simp] theorem tget_tset_same {α : Type} [DecidableEq α] (d : α) (k : Nat) (v : α) (t : Tbl α) :
    tget d k (tset d k v t) = v := by
  unfold tset
  split
  · next h => simp [tget_terase, h]
  · exact tget_tins_same d k v t

/-- A write leaves every other key alone. -/
theorem tget_tset_ne {α : Type} [DecidableEq α] (d d' : α) (k k' : Nat) (v : α) (t : Tbl α) (h : k' ≠ k) :
    tget d k (tset d' k' v t) = tget d k t := by
  unfold tset
  split
  · simp [tget_terase, h]
  · rw [tget_tins_ne _ _ _ _ _ h]; simp [tget_terase, h]

/-! ### The canonical form of tables, and of memory (R618) -/

/-- Every key of the table is larger than `k`. -/
def tAbove {α : Type} (k : Nat) (t : Tbl α) : Prop := ∀ e ∈ t, k < e.1

theorem twf_cons {α : Type} [DecidableEq α] (d : α) (k : Nat) (v : α) (t : Tbl α) :
    twf d ((k, v) :: t) = true ↔ v ≠ d ∧ tAbove k t ∧ twf d t = true := by
  induction t generalizing k v with
  | nil => simp [twf, tAbove]
  | cons e t ih =>
    obtain ⟨j, w⟩ := e
    constructor
    · intro h
      simp only [twf, Bool.and_eq_true, decide_eq_true_eq, bne_iff_ne] at h
      refine ⟨h.1.2, ?_, h.2⟩
      intro x hx
      rcases List.mem_cons.mp hx with rfl | hx
      · exact h.1.1
      · exact Nat.lt_trans h.1.1 (((ih j w).mp h.2).2.1 x hx)
    · rintro ⟨h1, h2, h3⟩
      simp only [twf, Bool.and_eq_true, decide_eq_true_eq, bne_iff_ne]
      exact ⟨⟨h2 (j, w) (List.mem_cons_self ..), h1⟩, h3⟩

theorem terase_sub {α : Type} (k : Nat) (t : Tbl α) : ∀ e ∈ terase k t, e ∈ t ∧ e.1 ≠ k := by
  induction t with
  | nil => simp [terase]
  | cons e t ih =>
    obtain ⟨j, w⟩ := e
    intro x hx
    by_cases h : j = k
    · simp only [terase, h, if_true] at hx
      exact ⟨List.mem_cons_of_mem _ (ih x hx).1, (ih x hx).2⟩
    · simp only [terase, h, if_false] at hx
      rcases List.mem_cons.mp hx with rfl | hx
      · exact ⟨List.mem_cons_self .., h⟩
      · exact ⟨List.mem_cons_of_mem _ (ih x hx).1, (ih x hx).2⟩

theorem terase_wf {α : Type} [DecidableEq α] (d : α) (k : Nat) (t : Tbl α) (h : twf d t = true) :
    twf d (terase k t) = true := by
  induction t with
  | nil => rfl
  | cons e t ih =>
    obtain ⟨j, w⟩ := e
    obtain ⟨h1, h2, h3⟩ := (twf_cons d j w t).mp h
    by_cases hj : j = k
    · simp only [terase, hj, if_true]; exact ih h3
    · simp only [terase, hj, if_false]
      exact (twf_cons ..).mpr ⟨h1, fun x hx => h2 x (terase_sub k t x hx).1, ih h3⟩

theorem tins_mem {α : Type} (k : Nat) (v : α) (t : Tbl α) : ∀ e ∈ tins k v t, e = (k, v) ∨ e ∈ t := by
  induction t with
  | nil => simp [tins]
  | cons e t ih =>
    obtain ⟨j, w⟩ := e
    intro x hx
    by_cases h : k < j
    · simp only [tins, h, if_true] at hx
      exact List.mem_cons.mp hx
    · simp only [tins, h, if_false] at hx
      rcases List.mem_cons.mp hx with rfl | hx
      · exact .inr (List.mem_cons_self ..)
      · exact (ih x hx).imp id (List.mem_cons_of_mem _)

theorem tins_wf {α : Type} [DecidableEq α] (d : α) (k : Nat) (v : α) (hv : v ≠ d) (t : Tbl α) (h : twf d t = true)
    (hk : ∀ e ∈ t, e.1 ≠ k) : twf d (tins k v t) = true := by
  induction t with
  | nil => simp [tins, twf, hv]
  | cons e t ih =>
    obtain ⟨j, w⟩ := e
    obtain ⟨h1, h2, h3⟩ := (twf_cons d j w t).mp h
    have hj : j ≠ k := hk (j, w) (List.mem_cons_self ..)
    by_cases hkj : k < j
    · simp only [tins, hkj, if_true]
      refine (twf_cons ..).mpr ⟨hv, ?_, h⟩
      intro x hx
      rcases List.mem_cons.mp hx with rfl | hx
      · exact hkj
      · exact Nat.lt_trans hkj (h2 x hx)
    · simp only [tins, hkj, if_false]
      refine (twf_cons ..).mpr ⟨h1, ?_, ih h3 (fun e he => hk e (List.mem_cons_of_mem _ he))⟩
      intro x hx
      rcases tins_mem k v t x hx with rfl | hx
      · exact Nat.lt_of_le_of_ne (Nat.le_of_not_lt hkj) hj
      · exact h2 x hx

/-- A write to a table keeps its canonical form. -/
theorem tset_wf {α : Type} [DecidableEq α] (d : α) (k : Nat) (v : α) (t : Tbl α) (h : twf d t = true) :
    twf d (tset d k v t) = true := by
  unfold tset
  split
  · exact terase_wf d k t h
  · next hv => exact tins_wf d k v hv _ (terase_wf d k t h) (fun e he => (terase_sub k t e he).2)

/-- A write of bytes keeps the memory's canonical form. -/
theorem memWrite_wf (a : Nat) (bs : List Byte) (m : List Host.Cell) (h : Memory.wf m = true) :
    Memory.wf (memWrite a bs m) = true := by
  induction bs generalizing a m with
  | nil => exact h
  | cons b t ih => exact ih (a + 1) _ (tset_wf 0 a b m h)

theorem filter_wf {α : Type} [DecidableEq α] (d : α) (p : Nat × α → Bool) (t : Tbl α) (h : twf d t = true) :
    twf d (t.filter p) = true := by
  induction t with
  | nil => rfl
  | cons e t ih =>
    obtain ⟨j, w⟩ := e
    obtain ⟨h1, h2, h3⟩ := (twf_cons d j w t).mp h
    by_cases hp : p (j, w) = true
    · rw [List.filter_cons_of_pos hp]
      exact (twf_cons ..).mpr ⟨h1, fun x hx => h2 x (List.mem_filter.mp hx).1, ih h3⟩
    · rw [List.filter_cons_of_neg hp]; exact ih h3

/-- The loss of the contents of dies keeps the memory's canonical form. -/
theorem memDrop_wf (lost : Nat) (m : List Host.Cell) (h : Memory.wf m = true) : Memory.wf (memDrop lost m) = true :=
  filter_wf 0 _ m h

/-- The writes of a step keep the memory's canonical form. -/
theorem commitMem_wf (s : State) (h : Memory.wf s.mem = true) : Memory.wf (commitMem s).mem = true := by
  have go : ∀ (l : List MemWrite) (m : List Host.Cell), Memory.wf m = true →
      Memory.wf (l.foldl (fun m w => memWrite w.addr w.bytes m) m) = true := by
    intro l
    induction l with
    | nil => exact fun m hm => hm
    | cons w t ih => exact fun m hm => ih _ (memWrite_wf _ _ _ hm)
  exact go s.memq _ (memDrop_wf _ _ h)

/-- A byte after a write: of the bytes written the new one, every other as before. -/
theorem memByte_memWrite (a : Nat) (bs : List Byte) (m : List Host.Cell) (x : Nat) :
    memByte (memWrite a bs m) x = if a ≤ x ∧ x < a + bs.length then bs.getD (x - a) 0 else memByte m x := by
  induction bs generalizing a m with
  | nil =>
    simp [memWrite]
  | cons b t ih =>
    rw [memWrite, ih]
    by_cases h1 : a + 1 ≤ x ∧ x < a + 1 + t.length
    · have h2 : a ≤ x ∧ x < a + (b :: t).length := by simp only [List.length_cons]; omega
      have h3 : x - a = (x - (a + 1)) + 1 := by omega
      rw [if_pos h1, if_pos h2, h3, List.getD_cons_succ]
    · rw [if_neg h1]
      by_cases h2 : x = a
      · subst h2
        have h3 : x ≤ x ∧ x < x + (b :: t).length := by simp only [List.length_cons]; omega
        rw [if_pos h3]
        simp [memByte]
      · have h3 : ¬ (a ≤ x ∧ x < a + (b :: t).length) := by simp only [List.length_cons]; omega
        rw [if_neg h3]
        exact tget_tset_ne 0 0 x a b m (fun e => h2 e.symm)

/-- The memory of the reset state is in its canonical form. -/
theorem reset_mem_wf : Memory.wf State.reset.mem = true := rfl

/-! ### Registers -/

/-- A field reads back what was written, cut to its width. -/
@[simp] theorem rd_wr_same (s : State) (b : Nat) (f : Fld) (v i : Nat) : rd (wr b f v s i) b f i = v % 2 ^ f.w := by
  simp [rd, wr]

/-- A write of another key leaves a field alone. -/
theorem rd_wr_ne (s : State) (b b' : Nat) (f f' : Fld) (v i i' : Nat) (h : f'.key b' i' ≠ f.key b i) :
    rd (wr b' f' v s i') b f i = rd s b f i := by
  simp [rd, wr, tget_tset_ne _ _ _ _ _ _ h]

/-- A field is what the register table holds. -/
theorem rd_of_regs {s t : State} (h : s.regs = t.regs) (b : Nat) (f : Fld) (i : Nat) : rd s b f i = rd t b f i := by
  simp [rd, h]

@[simp] theorem rd_emitOut (o : Out) (s : State) (b : Nat) (f : Fld) (i : Nat) : rd (emitOut o s) b f i = rd s b f i := rfl
@[simp] theorem rd_store (a : Nat) (bs : List Byte) (s : State) (b : Nat) (f : Fld) (i : Nat) :
    rd (store a bs s) b f i = rd s b f i := rfl
@[simp] theorem rd_setEf (s : State) (b b' : Nat) (f f' : Fld) (v i i' : Nat) :
    rd (setEf b' f' v s i') b f i = rd s b f i := rfl
@[simp] theorem rd_begun (s : State) (b : Nat) (f : Fld) (i : Nat) : rd (begun s) b f i = rd s b f i := rfl
@[simp] theorem rd_raise (code ch arg : Nat) (s : State) (b : Nat) (f : Fld) (i : Nat) :
    rd (raise code ch arg s) b f i = rd s b f i := rd_of_regs (raise_regs code ch arg s) b f i

/-- A counter counts one more, or stays at its largest value. -/
@[simp] theorem rd_bump_same (s : State) (b : Nat) (f : Fld) (k i : Nat) :
    rd (bump b f s k i) b f i = satU f.w (rd s b f i + k) % 2 ^ f.w := rd_wr_same ..

theorem rd_bump_ne (s : State) (b b' : Nat) (f f' : Fld) (k i i' : Nat) (h : f'.key b' i' ≠ f.key b i) :
    rd (bump b' f' s k i') b f i = rd s b f i := rd_wr_ne _ _ _ _ _ _ _ _ h

/-- The mode, and a channel's state, are what the register table holds. -/
theorem mode_of_regs {s t : State} (h : s.regs = t.regs) : s.mode = t.mode := by simp [State.mode, rd_of_regs h]
theorem chState_of_regs {s t : State} (h : s.regs = t.regs) (n : Nat) : s.chState n = t.chState n := by
  simp [State.chState, rd_of_regs h]

@[simp] theorem Mode.ofCode_code (m : Mode) : Mode.ofCode m.code = m := by cases m <;> rfl
@[simp] theorem ChState.ofCode_code (x : ChState) : ChState.ofCode x.code = x := by cases x <;> rfl

@[simp] theorem ef_setEf_same (s : State) (b : Nat) (f : Fld) (v i : Nat) : ef (setEf b f v s i) b f i = v % 2 ^ f.w := by
  simp [ef, setEf]

/-! ### Conditional and repeated effects -/

/-- A reading that every single effect leaves alone, all of them together leave alone. -/
theorem each_keeps {α β : Type} (P : State → β) (f : α → State → State) (h : ∀ a s, P (f a s) = P s) (l : List α)
    (s : State) : P (each l f s) = P s := by
  induction l generalizing s with
  | nil => rfl
  | cons a t ih => exact (ih (f a s)).trans (h a s)

theorem foldl_keeps {α β : Type} (P : State → β) (f : State → α → State) (h : ∀ s a, P (f s a) = P s) (l : List α)
    (s : State) : P (l.foldl f s) = P s := by
  induction l generalizing s with
  | nil => rfl
  | cons a t ih => exact (ih (f s a)).trans (h s a)

theorem when_keeps {β : Type} (P : State → β) (c : Bool) (f : State → State) (s : State) (h : P (f s) = P s) :
    P (when_ c f s) = P s := by
  cases c
  · rfl
  · exact h

@[simp] theorem each_nil {α : Type} (f : α → State → State) (s : State) : each [] f s = s := rfl
@[simp] theorem each_cons {α : Type} (a : α) (t : List α) (f : α → State → State) (s : State) :
    each (a :: t) f s = each t f (f a s) := rfl

/-! ### Events and the end of a step -/

/-- Writing an event record changes rings, the write queue, the poison markers and the outputs only. -/
theorem evWrite_keeps {β : Type} (P : State → β) (h1 : ∀ a bs s, P (store a bs s) = P s)
    (h2 : ∀ t r s, P (setEvRing t r s) = P s) (h3 : ∀ o s, P (emitOut o s) = P s) (e : Event) (t : Nat) (s : State) :
    P (evWrite e t s) = P s := by
  unfold evWrite
  dsimp only
  split <;> simp only [h1, h2, h3]

theorem evOverflow_keeps {β : Type} (P : State → β) (h1 : ∀ a bs s, P (store a bs s) = P s)
    (h2 : ∀ t r s, P (setEvRing t r s) = P s) (h3 : ∀ o s, P (emitOut o s) = P s) (t : Nat) (s : State) :
    P (evOverflow t s) = P s := by
  unfold evOverflow
  dsimp only
  split
  · rfl
  · rw [evWrite_keeps P h1 h2 h3, h2]

theorem deliverTo_keeps {β : Type} (P : State → β) (h1 : ∀ a bs s, P (store a bs s) = P s)
    (h2 : ∀ t r s, P (setEvRing t r s) = P s) (h3 : ∀ o s, P (emitOut o s) = P s) (e : Event) (t : Nat) (s : State) :
    P (deliverTo e t s) = P s := by
  unfold deliverTo
  dsimp only
  split
  · rw [evWrite_keeps P h1 h2 h3, evOverflow_keeps P h1 h2 h3]
  · rw [h2, evOverflow_keeps P h1 h2 h3]

/-- What the delivery of events leaves alone. -/
theorem deliver_keeps {β : Type} (P : State → β) (h0 : ∀ s : State, P { s with evq := [] } = P s)
    (h1 : ∀ a bs s, P (store a bs s) = P s)
    (h2 : ∀ t r s, P (setEvRing t r s) = P s) (h3 : ∀ o s, P (emitOut o s) = P s) (s : State) :
    P (deliver s) = P s := by
  have h : ∀ (s : State) (q : Queued), P (q.dest.foldl (fun s t => deliverTo q.ev t s) s) = P s :=
    fun s q => foldl_keeps P _ (fun s t => deliverTo_keeps P h1 h2 h3 q.ev t s) _ _
  have hq := foldl_keeps P _ h (qsort s.evq) { s with evq := [] }
  have hs := h0 s
  rw [← hs, ← hq]
  delta deliver
  rfl

@[simp] theorem deliver_pending (s : State) : (deliver s).pending = s.pending :=
  deliver_keeps (·.pending) (fun _ => rfl) (fun _ _ _ => rfl) (fun _ _ _ => rfl) (fun _ _ => rfl) s
@[simp] theorem deliver_free (s : State) : (deliver s).free = s.free :=
  deliver_keeps (·.free) (fun _ => rfl) (fun _ _ _ => rfl) (fun _ _ _ => rfl) (fun _ _ => rfl) s
@[simp] theorem deliver_tick (s : State) : (deliver s).tick = s.tick :=
  deliver_keeps (·.tick) (fun _ => rfl) (fun _ _ _ => rfl) (fun _ _ _ => rfl) (fun _ _ => rfl) s
@[simp] theorem deliver_ht (s : State) : (deliver s).ht = s.ht :=
  deliver_keeps (·.ht) (fun _ => rfl) (fun _ _ _ => rfl) (fun _ _ _ => rfl) (fun _ _ => rfl) s
@[simp] theorem deliver_regs (s : State) : (deliver s).regs = s.regs :=
  deliver_keeps (·.regs) (fun _ => rfl) (fun _ _ _ => rfl) (fun _ _ _ => rfl) (fun _ _ => rfl) s
@[simp] theorem deliver_eff (s : State) : (deliver s).eff = s.eff :=
  deliver_keeps (·.eff) (fun _ => rfl) (fun _ _ _ => rfl) (fun _ _ _ => rfl) (fun _ _ => rfl) s
@[simp] theorem deliver_latch (s : State) : (deliver s).latch = s.latch :=
  deliver_keeps (·.latch) (fun _ => rfl) (fun _ _ _ => rfl) (fun _ _ _ => rfl) (fun _ _ => rfl) s
@[simp] theorem deliver_mem (s : State) : (deliver s).mem = s.mem :=
  deliver_keeps (·.mem) (fun _ => rfl) (fun _ _ _ => rfl) (fun _ _ _ => rfl) (fun _ _ => rfl) s
@[simp] theorem deliver_memLost (s : State) : (deliver s).memLost = s.memLost :=
  deliver_keeps (·.memLost) (fun _ => rfl) (fun _ _ _ => rfl) (fun _ _ _ => rfl) (fun _ _ => rfl) s
@[simp] theorem deliver_hub (s : State) : (deliver s).hub = s.hub :=
  deliver_keeps (·.hub) (fun _ => rfl) (fun _ _ _ => rfl) (fun _ _ _ => rfl) (fun _ _ => rfl) s
@[simp] theorem deliver_pins (s : State) : (deliver s).pins = s.pins :=
  deliver_keeps (·.pins) (fun _ => rfl) (fun _ _ _ => rfl) (fun _ _ _ => rfl) (fun _ _ => rfl) s
@[simp] theorem deliver_grants (s : State) : (deliver s).grants = s.grants :=
  deliver_keeps (·.grants) (fun _ => rfl) (fun _ _ _ => rfl) (fun _ _ _ => rfl) (fun _ _ => rfl) s
@[simp] theorem deliver_mgtCeil (s : State) : (deliver s).mgtCeil = s.mgtCeil :=
  deliver_keeps (·.mgtCeil) (fun _ => rfl) (fun _ _ _ => rfl) (fun _ _ _ => rfl) (fun _ _ => rfl) s
@[simp] theorem deliver_weirs (s : State) : (deliver s).weirs = s.weirs :=
  deliver_keeps (·.weirs) (fun _ => rfl) (fun _ _ _ => rfl) (fun _ _ _ => rfl) (fun _ _ => rfl) s
@[simp] theorem deliver_seqs (s : State) : (deliver s).seqs = s.seqs :=
  deliver_keeps (·.seqs) (fun _ => rfl) (fun _ _ _ => rfl) (fun _ _ _ => rfl) (fun _ _ => rfl) s
@[simp] theorem deliver_lamps (s : State) : (deliver s).lamps = s.lamps :=
  deliver_keeps (·.lamps) (fun _ => rfl) (fun _ _ _ => rfl) (fun _ _ _ => rfl) (fun _ _ => rfl) s
@[simp] theorem deliver_strs (s : State) : (deliver s).strs = s.strs :=
  deliver_keeps (·.strs) (fun _ => rfl) (fun _ _ _ => rfl) (fun _ _ _ => rfl) (fun _ _ => rfl) s
@[simp] theorem deliver_drvs (s : State) : (deliver s).drvs = s.drvs :=
  deliver_keeps (·.drvs) (fun _ => rfl) (fun _ _ _ => rfl) (fun _ _ _ => rfl) (fun _ _ => rfl) s
@[simp] theorem deliver_ports (s : State) : (deliver s).ports = s.ports :=
  deliver_keeps (·.ports) (fun _ => rfl) (fun _ _ _ => rfl) (fun _ _ _ => rfl) (fun _ _ => rfl) s
@[simp] theorem deliver_curves (s : State) : (deliver s).curves = s.curves :=
  deliver_keeps (·.curves) (fun _ => rfl) (fun _ _ _ => rfl) (fun _ _ _ => rfl) (fun _ _ => rfl) s
@[simp] theorem deliver_prog (s : State) : (deliver s).prog = s.prog :=
  deliver_keeps (·.prog) (fun _ => rfl) (fun _ _ _ => rfl) (fun _ _ _ => rfl) (fun _ _ => rfl) s
@[simp] theorem deliver_descr (s : State) : (deliver s).descr = s.descr :=
  deliver_keeps (·.descr) (fun _ => rfl) (fun _ _ _ => rfl) (fun _ _ _ => rfl) (fun _ _ => rfl) s
@[simp] theorem deliver_moves (s : State) : (deliver s).moves = s.moves :=
  deliver_keeps (·.moves) (fun _ => rfl) (fun _ _ _ => rfl) (fun _ _ _ => rfl) (fun _ _ => rfl) s
@[simp] theorem deliver_slots (s : State) : (deliver s).slots = s.slots :=
  deliver_keeps (·.slots) (fun _ => rfl) (fun _ _ _ => rfl) (fun _ _ _ => rfl) (fun _ _ => rfl) s
@[simp] theorem deliver_cores (s : State) : (deliver s).cores = s.cores :=
  deliver_keeps (·.cores) (fun _ => rfl) (fun _ _ _ => rfl) (fun _ _ _ => rfl) (fun _ _ => rfl) s
@[simp] theorem deliver_eddys (s : State) : (deliver s).eddys = s.eddys :=
  deliver_keeps (·.eddys) (fun _ => rfl) (fun _ _ _ => rfl) (fun _ _ _ => rfl) (fun _ _ => rfl) s
@[simp] theorem deliver_lprog (s : State) : (deliver s).lprog = s.lprog :=
  deliver_keeps (·.lprog) (fun _ => rfl) (fun _ _ _ => rfl) (fun _ _ _ => rfl) (fun _ _ => rfl) s
@[simp] theorem deliver_ldata (s : State) : (deliver s).ldata = s.ldata :=
  deliver_keeps (·.ldata) (fun _ => rfl) (fun _ _ _ => rfl) (fun _ _ _ => rfl) (fun _ _ => rfl) s
@[simp] theorem deliver_binds (s : State) : (deliver s).binds = s.binds :=
  deliver_keeps (·.binds) (fun _ => rfl) (fun _ _ _ => rfl) (fun _ _ _ => rfl) (fun _ _ => rfl) s
@[simp] theorem deliver_sps (s : State) : (deliver s).sps = s.sps :=
  deliver_keeps (·.sps) (fun _ => rfl) (fun _ _ _ => rfl) (fun _ _ _ => rfl) (fun _ _ => rfl) s
@[simp] theorem deliver_spReg (s : State) : (deliver s).spReg = s.spReg :=
  deliver_keeps (·.spReg) (fun _ => rfl) (fun _ _ _ => rfl) (fun _ _ _ => rfl) (fun _ _ => rfl) s
@[simp] theorem deliver_serve (s : State) : (deliver s).serve = s.serve :=
  deliver_keeps (·.serve) (fun _ => rfl) (fun _ _ _ => rfl) (fun _ _ _ => rfl) (fun _ _ => rfl) s
@[simp] theorem deliver_retired (s : State) : (deliver s).retired = s.retired :=
  deliver_keeps (·.retired) (fun _ => rfl) (fun _ _ _ => rfl) (fun _ _ _ => rfl) (fun _ _ => rfl) s
@[simp] theorem deliver_thermAt (s : State) : (deliver s).thermAt = s.thermAt :=
  deliver_keeps (·.thermAt) (fun _ => rfl) (fun _ _ _ => rfl) (fun _ _ _ => rfl) (fun _ _ => rfl) s
@[simp] theorem deliver_frms (s : State) : (deliver s).frms = s.frms :=
  deliver_keeps (·.frms) (fun _ => rfl) (fun _ _ _ => rfl) (fun _ _ _ => rfl) (fun _ _ => rfl) s
@[simp] theorem deliver_fmts (s : State) : (deliver s).fmts = s.fmts :=
  deliver_keeps (·.fmts) (fun _ => rfl) (fun _ _ _ => rfl) (fun _ _ _ => rfl) (fun _ _ => rfl) s
@[simp] theorem deliver_time (s : State) : (deliver s).time = s.time :=
  deliver_keeps (·.time) (fun _ => rfl) (fun _ _ _ => rfl) (fun _ _ _ => rfl) (fun _ _ => rfl) s
@[simp] theorem deliver_dst (s : State) : (deliver s).dst = s.dst :=
  deliver_keeps (·.dst) (fun _ => rfl) (fun _ _ _ => rfl) (fun _ _ _ => rfl) (fun _ _ => rfl) s
@[simp] theorem deliver_ddrs (s : State) : (deliver s).ddrs = s.ddrs :=
  deliver_keeps (·.ddrs) (fun _ => rfl) (fun _ _ _ => rfl) (fun _ _ _ => rfl) (fun _ _ => rfl) s
@[simp] theorem deliver_dreqs (s : State) : (deliver s).dreqs = s.dreqs :=
  deliver_keeps (·.dreqs) (fun _ => rfl) (fun _ _ _ => rfl) (fun _ _ _ => rfl) (fun _ _ => rfl) s
@[simp] theorem deliver_swBusy (s : State) : (deliver s).swBusy = s.swBusy :=
  deliver_keeps (·.swBusy) (fun _ => rfl) (fun _ _ _ => rfl) (fun _ _ _ => rfl) (fun _ _ => rfl) s
@[simp] theorem deliver_spareRows (s : State) : (deliver s).spareRows = s.spareRows :=
  deliver_keeps (·.spareRows) (fun _ => rfl) (fun _ _ _ => rfl) (fun _ _ _ => rfl) (fun _ _ => rfl) s
@[simp] theorem deliver_rates (s : State) : (deliver s).rates = s.rates :=
  deliver_keeps (·.rates) (fun _ => rfl) (fun _ _ _ => rfl) (fun _ _ _ => rfl) (fun _ _ => rfl) s
@[simp] theorem deliver_surfs (s : State) : (deliver s).surfs = s.surfs :=
  deliver_keeps (·.surfs) (fun _ => rfl) (fun _ _ _ => rfl) (fun _ _ _ => rfl) (fun _ _ => rfl) s
@[simp] theorem deliver_flrs (s : State) : (deliver s).flrs = s.flrs :=
  deliver_keeps (·.flrs) (fun _ => rfl) (fun _ _ _ => rfl) (fun _ _ _ => rfl) (fun _ _ => rfl) s
@[simp] theorem deliver_chs (s : State) : (deliver s).chs = s.chs :=
  deliver_keeps (·.chs) (fun _ => rfl) (fun _ _ _ => rfl) (fun _ _ _ => rfl) (fun _ _ => rfl) s
@[simp] theorem deliver_luts (s : State) : (deliver s).luts = s.luts :=
  deliver_keeps (·.luts) (fun _ => rfl) (fun _ _ _ => rfl) (fun _ _ _ => rfl) (fun _ _ => rfl) s
@[simp] theorem deliver_cmds (s : State) : (deliver s).cmds = s.cmds :=
  deliver_keeps (·.cmds) (fun _ => rfl) (fun _ _ _ => rfl) (fun _ _ _ => rfl) (fun _ _ => rfl) s
@[simp] theorem deliver_nextCmd (s : State) : (deliver s).nextCmd = s.nextCmd :=
  deliver_keeps (·.nextCmd) (fun _ => rfl) (fun _ _ _ => rfl) (fun _ _ _ => rfl) (fun _ _ => rfl) s
@[simp] theorem deliver_rings (s : State) : (deliver s).rings = s.rings :=
  deliver_keeps (·.rings) (fun _ => rfl) (fun _ _ _ => rfl) (fun _ _ _ => rfl) (fun _ _ => rfl) s
@[simp] theorem deliver_epochs (s : State) : (deliver s).epochs = s.epochs :=
  deliver_keeps (·.epochs) (fun _ => rfl) (fun _ _ _ => rfl) (fun _ _ _ => rfl) (fun _ _ => rfl) s
@[simp] theorem deliver_crosses (s : State) : (deliver s).crosses = s.crosses :=
  deliver_keeps (·.crosses) (fun _ => rfl) (fun _ _ _ => rfl) (fun _ _ _ => rfl) (fun _ _ => rfl) s
@[simp] theorem deliver_d2ds (s : State) : (deliver s).d2ds = s.d2ds :=
  deliver_keeps (·.d2ds) (fun _ => rfl) (fun _ _ _ => rfl) (fun _ _ _ => rfl) (fun _ _ => rfl) s
@[simp] theorem deliver_lockAt (s : State) : (deliver s).lockAt = s.lockAt :=
  deliver_keeps (·.lockAt) (fun _ => rfl) (fun _ _ _ => rfl) (fun _ _ _ => rfl) (fun _ _ => rfl) s
@[simp] theorem deliver_hk (s : State) : (deliver s).hk = s.hk :=
  deliver_keeps (·.hk) (fun _ => rfl) (fun _ _ _ => rfl) (fun _ _ _ => rfl) (fun _ _ => rfl) s
@[simp] theorem deliver_cal (s : State) : (deliver s).cal = s.cal :=
  deliver_keeps (·.cal) (fun _ => rfl) (fun _ _ _ => rfl) (fun _ _ _ => rfl) (fun _ _ => rfl) s
@[simp] theorem deliver_cals (s : State) : (deliver s).cals = s.cals :=
  deliver_keeps (·.cals) (fun _ => rfl) (fun _ _ _ => rfl) (fun _ _ _ => rfl) (fun _ _ => rfl) s
@[simp] theorem deliver_calRec (s : State) : (deliver s).calRec = s.calRec :=
  deliver_keeps (·.calRec) (fun _ => rfl) (fun _ _ _ => rfl) (fun _ _ _ => rfl) (fun _ _ => rfl) s
@[simp] theorem deliver_curveDue (s : State) : (deliver s).curveDue = s.curveDue :=
  deliver_keeps (·.curveDue) (fun _ => rfl) (fun _ _ _ => rfl) (fun _ _ _ => rfl) (fun _ _ => rfl) s
@[simp] theorem deliver_oxs (s : State) : (deliver s).oxs = s.oxs :=
  deliver_keeps (·.oxs) (fun _ => rfl) (fun _ _ _ => rfl) (fun _ _ _ => rfl) (fun _ _ => rfl) s
@[simp] theorem deliver_pipes (s : State) : (deliver s).pipes = s.pipes :=
  deliver_keeps (·.pipes) (fun _ => rfl) (fun _ _ _ => rfl) (fun _ _ _ => rfl) (fun _ _ => rfl) s
@[simp] theorem deliver_pipeChs (s : State) : (deliver s).pipeChs = s.pipeChs :=
  deliver_keeps (·.pipeChs) (fun _ => rfl) (fun _ _ _ => rfl) (fun _ _ _ => rfl) (fun _ _ => rfl) s
@[simp] theorem deliver_pipeRec (s : State) : (deliver s).pipeRec = s.pipeRec :=
  deliver_keeps (·.pipeRec) (fun _ => rfl) (fun _ _ _ => rfl) (fun _ _ _ => rfl) (fun _ _ => rfl) s
@[simp] theorem deliver_pipeDead (s : State) : (deliver s).pipeDead = s.pipeDead :=
  deliver_keeps (·.pipeDead) (fun _ => rfl) (fun _ _ _ => rfl) (fun _ _ _ => rfl) (fun _ _ => rfl) s
@[simp] theorem deliver_cfg (s : State) : (deliver s).cfg = s.cfg :=
  deliver_keeps (·.cfg) (fun _ => rfl) (fun _ _ _ => rfl) (fun _ _ _ => rfl) (fun _ _ => rfl) s
@[simp] theorem deliver_fw (s : State) : (deliver s).fw = s.fw :=
  deliver_keeps (·.fw) (fun _ => rfl) (fun _ _ _ => rfl) (fun _ _ _ => rfl) (fun _ _ => rfl) s
@[simp] theorem deliver_mgt (s : State) : (deliver s).mgt = s.mgt :=
  deliver_keeps (·.mgt) (fun _ => rfl) (fun _ _ _ => rfl) (fun _ _ _ => rfl) (fun _ _ => rfl) s
@[simp] theorem deliver_ide (s : State) : (deliver s).ide = s.ide :=
  deliver_keeps (·.ide) (fun _ => rfl) (fun _ _ _ => rfl) (fun _ _ _ => rfl) (fun _ _ => rfl) s
@[simp] theorem deliver_spdm (s : State) : (deliver s).spdm = s.spdm :=
  deliver_keeps (·.spdm) (fun _ => rfl) (fun _ _ _ => rfl) (fun _ _ _ => rfl) (fun _ _ => rfl) s

@[simp] theorem finish_pending (s : State) : (finish s).pending = s.pending := deliver_pending s
@[simp] theorem finish_free (s : State) : (finish s).free = s.free := deliver_free s
@[simp] theorem finish_tick (s : State) : (finish s).tick = s.tick := deliver_tick s
@[simp] theorem finish_ht (s : State) : (finish s).ht = s.ht := deliver_ht s
@[simp] theorem finish_regs (s : State) : (finish s).regs = s.regs := deliver_regs s
@[simp] theorem finish_eff (s : State) : (finish s).eff = s.eff := deliver_eff s
@[simp] theorem finish_latch (s : State) : (finish s).latch = s.latch := deliver_latch s
@[simp] theorem finish_hub (s : State) : (finish s).hub = s.hub := deliver_hub s
@[simp] theorem finish_grants (s : State) : (finish s).grants = s.grants := deliver_grants s
@[simp] theorem finish_mgtCeil (s : State) : (finish s).mgtCeil = s.mgtCeil := deliver_mgtCeil s
@[simp] theorem finish_weirs (s : State) : (finish s).weirs = s.weirs := deliver_weirs s
@[simp] theorem finish_seqs (s : State) : (finish s).seqs = s.seqs := deliver_seqs s
@[simp] theorem finish_lamps (s : State) : (finish s).lamps = s.lamps := deliver_lamps s
@[simp] theorem finish_strs (s : State) : (finish s).strs = s.strs := deliver_strs s
@[simp] theorem finish_drvs (s : State) : (finish s).drvs = s.drvs := deliver_drvs s
@[simp] theorem finish_ports (s : State) : (finish s).ports = s.ports := deliver_ports s
@[simp] theorem finish_curves (s : State) : (finish s).curves = s.curves := deliver_curves s
@[simp] theorem finish_prog (s : State) : (finish s).prog = s.prog := deliver_prog s
@[simp] theorem finish_descr (s : State) : (finish s).descr = s.descr := deliver_descr s
@[simp] theorem finish_moves (s : State) : (finish s).moves = s.moves := deliver_moves s
@[simp] theorem finish_slots (s : State) : (finish s).slots = s.slots := deliver_slots s
@[simp] theorem finish_cores (s : State) : (finish s).cores = s.cores := deliver_cores s
@[simp] theorem finish_eddys (s : State) : (finish s).eddys = s.eddys := deliver_eddys s
@[simp] theorem finish_lprog (s : State) : (finish s).lprog = s.lprog := deliver_lprog s
@[simp] theorem finish_ldata (s : State) : (finish s).ldata = s.ldata := deliver_ldata s
@[simp] theorem finish_binds (s : State) : (finish s).binds = s.binds := deliver_binds s
@[simp] theorem finish_sps (s : State) : (finish s).sps = s.sps := deliver_sps s
@[simp] theorem finish_spReg (s : State) : (finish s).spReg = s.spReg := deliver_spReg s
@[simp] theorem finish_serve (s : State) : (finish s).serve = s.serve := deliver_serve s
@[simp] theorem finish_retired (s : State) : (finish s).retired = s.retired := deliver_retired s
@[simp] theorem finish_thermAt (s : State) : (finish s).thermAt = s.thermAt := deliver_thermAt s
@[simp] theorem finish_frms (s : State) : (finish s).frms = s.frms := deliver_frms s
@[simp] theorem finish_fmts (s : State) : (finish s).fmts = s.fmts := deliver_fmts s
@[simp] theorem finish_time (s : State) : (finish s).time = s.time := deliver_time s
@[simp] theorem finish_dst (s : State) : (finish s).dst = s.dst := deliver_dst s
@[simp] theorem finish_ddrs (s : State) : (finish s).ddrs = s.ddrs := deliver_ddrs s
@[simp] theorem finish_dreqs (s : State) : (finish s).dreqs = s.dreqs := deliver_dreqs s
@[simp] theorem finish_swBusy (s : State) : (finish s).swBusy = s.swBusy := deliver_swBusy s
@[simp] theorem finish_spareRows (s : State) : (finish s).spareRows = s.spareRows := deliver_spareRows s
@[simp] theorem finish_rates (s : State) : (finish s).rates = s.rates := deliver_rates s
@[simp] theorem finish_surfs (s : State) : (finish s).surfs = s.surfs := deliver_surfs s
@[simp] theorem finish_flrs (s : State) : (finish s).flrs = s.flrs := deliver_flrs s
@[simp] theorem finish_chs (s : State) : (finish s).chs = s.chs := deliver_chs s
@[simp] theorem finish_luts (s : State) : (finish s).luts = s.luts := deliver_luts s
@[simp] theorem finish_cmds (s : State) : (finish s).cmds = s.cmds := deliver_cmds s
@[simp] theorem finish_nextCmd (s : State) : (finish s).nextCmd = s.nextCmd := deliver_nextCmd s
@[simp] theorem finish_rings (s : State) : (finish s).rings = s.rings := deliver_rings s
@[simp] theorem finish_epochs (s : State) : (finish s).epochs = s.epochs := deliver_epochs s
@[simp] theorem finish_crosses (s : State) : (finish s).crosses = s.crosses := deliver_crosses s
@[simp] theorem finish_d2ds (s : State) : (finish s).d2ds = s.d2ds := deliver_d2ds s
@[simp] theorem finish_lockAt (s : State) : (finish s).lockAt = s.lockAt := deliver_lockAt s
@[simp] theorem finish_hk (s : State) : (finish s).hk = s.hk := deliver_hk s
@[simp] theorem finish_cal (s : State) : (finish s).cal = s.cal := deliver_cal s
@[simp] theorem finish_cals (s : State) : (finish s).cals = s.cals := deliver_cals s
@[simp] theorem finish_calRec (s : State) : (finish s).calRec = s.calRec := deliver_calRec s
@[simp] theorem finish_curveDue (s : State) : (finish s).curveDue = s.curveDue := deliver_curveDue s
@[simp] theorem finish_oxs (s : State) : (finish s).oxs = s.oxs := deliver_oxs s
@[simp] theorem finish_pipes (s : State) : (finish s).pipes = s.pipes := deliver_pipes s
@[simp] theorem finish_pipeChs (s : State) : (finish s).pipeChs = s.pipeChs := deliver_pipeChs s
@[simp] theorem finish_pipeRec (s : State) : (finish s).pipeRec = s.pipeRec := deliver_pipeRec s
@[simp] theorem finish_pipeDead (s : State) : (finish s).pipeDead = s.pipeDead := deliver_pipeDead s
@[simp] theorem finish_cfg (s : State) : (finish s).cfg = s.cfg := deliver_cfg s
@[simp] theorem finish_fw (s : State) : (finish s).fw = s.fw := deliver_fw s
@[simp] theorem finish_mgt (s : State) : (finish s).mgt = s.mgt := deliver_mgt s
@[simp] theorem finish_ide (s : State) : (finish s).ide = s.ide := deliver_ide s
@[simp] theorem finish_spdm (s : State) : (finish s).spdm = s.spdm := deliver_spdm s

@[simp] theorem finish_evq (s : State) : (finish s).evq = [] := rfl
@[simp] theorem finish_memq (s : State) : (finish s).memq = [] := rfl
@[simp] theorem finish_memLost (s : State) : (finish s).memLost = 0 := rfl
@[simp] theorem finish_pins (s : State) : (finish s).pins = pinsOf (commitMem (deliver s)) := rfl

/-! ### The frame of every command -/

@[simp] theorem done_pending (f : State → State) (s : State) : (done f s).pending = s.pending := finish_pending _

@[simp] theorem done_free (f : State → State) (s : State) : (done f s).free = (f (begun s)).free := finish_free _
@[simp] theorem done_tick (f : State → State) (s : State) : (done f s).tick = (f (begun s)).tick := finish_tick _
@[simp] theorem done_ht (f : State → State) (s : State) : (done f s).ht = (f (begun s)).ht := finish_ht _
@[simp] theorem done_regs (f : State → State) (s : State) : (done f s).regs = (f (begun s)).regs := finish_regs _
@[simp] theorem done_eff (f : State → State) (s : State) : (done f s).eff = (f (begun s)).eff := finish_eff _
@[simp] theorem done_latch (f : State → State) (s : State) : (done f s).latch = (f (begun s)).latch := finish_latch _
@[simp] theorem done_hub (f : State → State) (s : State) : (done f s).hub = (f (begun s)).hub := finish_hub _
@[simp] theorem done_grants (f : State → State) (s : State) : (done f s).grants = (f (begun s)).grants := finish_grants _
@[simp] theorem done_mgtCeil (f : State → State) (s : State) : (done f s).mgtCeil = (f (begun s)).mgtCeil := finish_mgtCeil _
@[simp] theorem done_weirs (f : State → State) (s : State) : (done f s).weirs = (f (begun s)).weirs := finish_weirs _
@[simp] theorem done_seqs (f : State → State) (s : State) : (done f s).seqs = (f (begun s)).seqs := finish_seqs _
@[simp] theorem done_lamps (f : State → State) (s : State) : (done f s).lamps = (f (begun s)).lamps := finish_lamps _
@[simp] theorem done_strs (f : State → State) (s : State) : (done f s).strs = (f (begun s)).strs := finish_strs _
@[simp] theorem done_drvs (f : State → State) (s : State) : (done f s).drvs = (f (begun s)).drvs := finish_drvs _
@[simp] theorem done_ports (f : State → State) (s : State) : (done f s).ports = (f (begun s)).ports := finish_ports _
@[simp] theorem done_curves (f : State → State) (s : State) : (done f s).curves = (f (begun s)).curves := finish_curves _
@[simp] theorem done_prog (f : State → State) (s : State) : (done f s).prog = (f (begun s)).prog := finish_prog _
@[simp] theorem done_descr (f : State → State) (s : State) : (done f s).descr = (f (begun s)).descr := finish_descr _
@[simp] theorem done_moves (f : State → State) (s : State) : (done f s).moves = (f (begun s)).moves := finish_moves _
@[simp] theorem done_slots (f : State → State) (s : State) : (done f s).slots = (f (begun s)).slots := finish_slots _
@[simp] theorem done_cores (f : State → State) (s : State) : (done f s).cores = (f (begun s)).cores := finish_cores _
@[simp] theorem done_eddys (f : State → State) (s : State) : (done f s).eddys = (f (begun s)).eddys := finish_eddys _
@[simp] theorem done_lprog (f : State → State) (s : State) : (done f s).lprog = (f (begun s)).lprog := finish_lprog _
@[simp] theorem done_ldata (f : State → State) (s : State) : (done f s).ldata = (f (begun s)).ldata := finish_ldata _
@[simp] theorem done_binds (f : State → State) (s : State) : (done f s).binds = (f (begun s)).binds := finish_binds _
@[simp] theorem done_sps (f : State → State) (s : State) : (done f s).sps = (f (begun s)).sps := finish_sps _
@[simp] theorem done_spReg (f : State → State) (s : State) : (done f s).spReg = (f (begun s)).spReg := finish_spReg _
@[simp] theorem done_serve (f : State → State) (s : State) : (done f s).serve = (f (begun s)).serve := finish_serve _
@[simp] theorem done_retired (f : State → State) (s : State) : (done f s).retired = (f (begun s)).retired := finish_retired _
@[simp] theorem done_thermAt (f : State → State) (s : State) : (done f s).thermAt = (f (begun s)).thermAt := finish_thermAt _
@[simp] theorem done_frms (f : State → State) (s : State) : (done f s).frms = (f (begun s)).frms := finish_frms _
@[simp] theorem done_fmts (f : State → State) (s : State) : (done f s).fmts = (f (begun s)).fmts := finish_fmts _
@[simp] theorem done_time (f : State → State) (s : State) : (done f s).time = (f (begun s)).time := finish_time _
@[simp] theorem done_dst (f : State → State) (s : State) : (done f s).dst = (f (begun s)).dst := finish_dst _
@[simp] theorem done_ddrs (f : State → State) (s : State) : (done f s).ddrs = (f (begun s)).ddrs := finish_ddrs _
@[simp] theorem done_dreqs (f : State → State) (s : State) : (done f s).dreqs = (f (begun s)).dreqs := finish_dreqs _
@[simp] theorem done_swBusy (f : State → State) (s : State) : (done f s).swBusy = (f (begun s)).swBusy := finish_swBusy _
@[simp] theorem done_spareRows (f : State → State) (s : State) : (done f s).spareRows = (f (begun s)).spareRows := finish_spareRows _
@[simp] theorem done_rates (f : State → State) (s : State) : (done f s).rates = (f (begun s)).rates := finish_rates _
@[simp] theorem done_surfs (f : State → State) (s : State) : (done f s).surfs = (f (begun s)).surfs := finish_surfs _
@[simp] theorem done_flrs (f : State → State) (s : State) : (done f s).flrs = (f (begun s)).flrs := finish_flrs _
@[simp] theorem done_chs (f : State → State) (s : State) : (done f s).chs = (f (begun s)).chs := finish_chs _
@[simp] theorem done_luts (f : State → State) (s : State) : (done f s).luts = (f (begun s)).luts := finish_luts _
@[simp] theorem done_cmds (f : State → State) (s : State) : (done f s).cmds = (f (begun s)).cmds := finish_cmds _
@[simp] theorem done_nextCmd (f : State → State) (s : State) : (done f s).nextCmd = (f (begun s)).nextCmd := finish_nextCmd _
@[simp] theorem done_rings (f : State → State) (s : State) : (done f s).rings = (f (begun s)).rings := finish_rings _
@[simp] theorem done_epochs (f : State → State) (s : State) : (done f s).epochs = (f (begun s)).epochs := finish_epochs _
@[simp] theorem done_crosses (f : State → State) (s : State) : (done f s).crosses = (f (begun s)).crosses := finish_crosses _
@[simp] theorem done_d2ds (f : State → State) (s : State) : (done f s).d2ds = (f (begun s)).d2ds := finish_d2ds _
@[simp] theorem done_lockAt (f : State → State) (s : State) : (done f s).lockAt = (f (begun s)).lockAt := finish_lockAt _
@[simp] theorem done_hk (f : State → State) (s : State) : (done f s).hk = (f (begun s)).hk := finish_hk _
@[simp] theorem done_cal (f : State → State) (s : State) : (done f s).cal = (f (begun s)).cal := finish_cal _
@[simp] theorem done_cals (f : State → State) (s : State) : (done f s).cals = (f (begun s)).cals := finish_cals _
@[simp] theorem done_calRec (f : State → State) (s : State) : (done f s).calRec = (f (begun s)).calRec := finish_calRec _
@[simp] theorem done_curveDue (f : State → State) (s : State) : (done f s).curveDue = (f (begun s)).curveDue := finish_curveDue _
@[simp] theorem done_oxs (f : State → State) (s : State) : (done f s).oxs = (f (begun s)).oxs := finish_oxs _
@[simp] theorem done_pipes (f : State → State) (s : State) : (done f s).pipes = (f (begun s)).pipes := finish_pipes _
@[simp] theorem done_pipeChs (f : State → State) (s : State) : (done f s).pipeChs = (f (begun s)).pipeChs := finish_pipeChs _
@[simp] theorem done_pipeRec (f : State → State) (s : State) : (done f s).pipeRec = (f (begun s)).pipeRec := finish_pipeRec _
@[simp] theorem done_pipeDead (f : State → State) (s : State) : (done f s).pipeDead = (f (begun s)).pipeDead := finish_pipeDead _
@[simp] theorem done_cfg (f : State → State) (s : State) : (done f s).cfg = (f (begun s)).cfg := finish_cfg _
@[simp] theorem done_fw (f : State → State) (s : State) : (done f s).fw = (f (begun s)).fw := finish_fw _
@[simp] theorem done_mgt (f : State → State) (s : State) : (done f s).mgt = (f (begun s)).mgt := finish_mgt _
@[simp] theorem done_ide (f : State → State) (s : State) : (done f s).ide = (f (begun s)).ide := finish_ide _
@[simp] theorem done_spdm (f : State → State) (s : State) : (done f s).spdm = (f (begun s)).spdm := finish_spdm _

/-- A register after a command is what its effect left of it. -/
@[simp] theorem rd_done (f : State → State) (s : State) (b : Nat) (g : Fld) (i : Nat) :
    rd (done f s) b g i = rd (f (begun s)) b g i := rd_of_regs (done_regs f s) b g i

/-- A command's frame: it answers a next state, which has `P`. -/
theorem leads_run {c : Instr} {s : State} {f : State → State} {P : State → Prop} (h : exec c s = run f s)
    (hp : P (done f s)) : Leads c s P := ⟨done f s, h, hp⟩

theorem leads_guarded {c : Instr} {s : State} {ok : Bool} {f : State → State} {P : State → Prop}
    (h : exec c s = guarded ok f s) (hok : ok = true) (hp : P (done f s)) : Leads c s P :=
  ⟨done f s, by rw [h, guarded, hok]; rfl, hp⟩

end Sys2Proof.Machine
end

