-- ==== Sys2Proof/Laws/Parts.lean ====
section
/-!
SUPPORT. One lemma per field and update of the tables of channels, ports, strings, drivers, slots, cores and
substitutions: the entry written, every other entry, every other field of the state, and the registers.
-/

namespace Sys2Proof.Machine
open Sys2Proof

/-! ### `setWeir` -/

@[simp] theorem modWeir_eq (n : Nat) (f : WeirSt → WeirSt) (s : State) : modWeir n f s = setWeir n (f (s.weir n)) s := rfl
@[simp] theorem setWeir_same (n : Nat) (x : WeirSt) (s : State) : (setWeir n x s).weir n = x := tget_tset_same ..
theorem setWeir_ne (n n' : Nat) (x : WeirSt) (s : State) (h : n ≠ n') :
    (setWeir n x s).weir n' = s.weir n' := tget_tset_ne _ _ _ _ _ _ h
@[simp] theorem rd_setWeir (n : Nat) (x : WeirSt) (s : State) (b : Nat) (f : Fld) (i : Nat) :
    rd (setWeir n x s) b f i = rd s b f i := rfl
@[simp] theorem setWeir_pending (n : Nat) (x : WeirSt) (s : State) : (setWeir n x s).pending = s.pending := rfl
@[simp] theorem setWeir_out (n : Nat) (x : WeirSt) (s : State) : (setWeir n x s).out = s.out := rfl
@[simp] theorem setWeir_free (n : Nat) (x : WeirSt) (s : State) : (setWeir n x s).free = s.free := rfl
@[simp] theorem setWeir_evq (n : Nat) (x : WeirSt) (s : State) : (setWeir n x s).evq = s.evq := rfl
@[simp] theorem setWeir_memq (n : Nat) (x : WeirSt) (s : State) : (setWeir n x s).memq = s.memq := rfl
@[simp] theorem setWeir_tick (n : Nat) (x : WeirSt) (s : State) : (setWeir n x s).tick = s.tick := rfl
@[simp] theorem setWeir_ht (n : Nat) (x : WeirSt) (s : State) : (setWeir n x s).ht = s.ht := rfl
@[simp] theorem setWeir_regs (n : Nat) (x : WeirSt) (s : State) : (setWeir n x s).regs = s.regs := rfl
@[simp] theorem setWeir_eff (n : Nat) (x : WeirSt) (s : State) : (setWeir n x s).eff = s.eff := rfl
@[simp] theorem setWeir_latch (n : Nat) (x : WeirSt) (s : State) : (setWeir n x s).latch = s.latch := rfl
@[simp] theorem setWeir_mem (n : Nat) (x : WeirSt) (s : State) : (setWeir n x s).mem = s.mem := rfl
@[simp] theorem setWeir_memLost (n : Nat) (x : WeirSt) (s : State) : (setWeir n x s).memLost = s.memLost := rfl
@[simp] theorem setWeir_poison (n : Nat) (x : WeirSt) (s : State) : (setWeir n x s).poison = s.poison := rfl
@[simp] theorem setWeir_hub (n : Nat) (x : WeirSt) (s : State) : (setWeir n x s).hub = s.hub := rfl
@[simp] theorem setWeir_pins (n : Nat) (x : WeirSt) (s : State) : (setWeir n x s).pins = s.pins := rfl
@[simp] theorem setWeir_evr (n : Nat) (x : WeirSt) (s : State) : (setWeir n x s).evr = s.evr := rfl
@[simp] theorem setWeir_grants (n : Nat) (x : WeirSt) (s : State) : (setWeir n x s).grants = s.grants := rfl
@[simp] theorem setWeir_mgtCeil (n : Nat) (x : WeirSt) (s : State) : (setWeir n x s).mgtCeil = s.mgtCeil := rfl
@[simp] theorem setWeir_seqs (n : Nat) (x : WeirSt) (s : State) : (setWeir n x s).seqs = s.seqs := rfl
@[simp] theorem setWeir_lamps (n : Nat) (x : WeirSt) (s : State) : (setWeir n x s).lamps = s.lamps := rfl
@[simp] theorem setWeir_strs (n : Nat) (x : WeirSt) (s : State) : (setWeir n x s).strs = s.strs := rfl
@[simp] theorem setWeir_drvs (n : Nat) (x : WeirSt) (s : State) : (setWeir n x s).drvs = s.drvs := rfl
@[simp] theorem setWeir_ports (n : Nat) (x : WeirSt) (s : State) : (setWeir n x s).ports = s.ports := rfl
@[simp] theorem setWeir_curves (n : Nat) (x : WeirSt) (s : State) : (setWeir n x s).curves = s.curves := rfl
@[simp] theorem setWeir_prog (n : Nat) (x : WeirSt) (s : State) : (setWeir n x s).prog = s.prog := rfl
@[simp] theorem setWeir_descr (n : Nat) (x : WeirSt) (s : State) : (setWeir n x s).descr = s.descr := rfl
@[simp] theorem setWeir_moves (n : Nat) (x : WeirSt) (s : State) : (setWeir n x s).moves = s.moves := rfl
@[simp] theorem setWeir_slots (n : Nat) (x : WeirSt) (s : State) : (setWeir n x s).slots = s.slots := rfl
@[simp] theorem setWeir_cores (n : Nat) (x : WeirSt) (s : State) : (setWeir n x s).cores = s.cores := rfl
@[simp] theorem setWeir_eddys (n : Nat) (x : WeirSt) (s : State) : (setWeir n x s).eddys = s.eddys := rfl
@[simp] theorem setWeir_lprog (n : Nat) (x : WeirSt) (s : State) : (setWeir n x s).lprog = s.lprog := rfl
@[simp] theorem setWeir_ldata (n : Nat) (x : WeirSt) (s : State) : (setWeir n x s).ldata = s.ldata := rfl
@[simp] theorem setWeir_binds (n : Nat) (x : WeirSt) (s : State) : (setWeir n x s).binds = s.binds := rfl
@[simp] theorem setWeir_sps (n : Nat) (x : WeirSt) (s : State) : (setWeir n x s).sps = s.sps := rfl
@[simp] theorem setWeir_spReg (n : Nat) (x : WeirSt) (s : State) : (setWeir n x s).spReg = s.spReg := rfl
@[simp] theorem setWeir_serve (n : Nat) (x : WeirSt) (s : State) : (setWeir n x s).serve = s.serve := rfl
@[simp] theorem setWeir_retired (n : Nat) (x : WeirSt) (s : State) : (setWeir n x s).retired = s.retired := rfl
@[simp] theorem setWeir_thermAt (n : Nat) (x : WeirSt) (s : State) : (setWeir n x s).thermAt = s.thermAt := rfl
@[simp] theorem setWeir_frms (n : Nat) (x : WeirSt) (s : State) : (setWeir n x s).frms = s.frms := rfl
@[simp] theorem setWeir_fmts (n : Nat) (x : WeirSt) (s : State) : (setWeir n x s).fmts = s.fmts := rfl
@[simp] theorem setWeir_time (n : Nat) (x : WeirSt) (s : State) : (setWeir n x s).time = s.time := rfl
@[simp] theorem setWeir_dst (n : Nat) (x : WeirSt) (s : State) : (setWeir n x s).dst = s.dst := rfl
@[simp] theorem setWeir_ddrs (n : Nat) (x : WeirSt) (s : State) : (setWeir n x s).ddrs = s.ddrs := rfl
@[simp] theorem setWeir_dreqs (n : Nat) (x : WeirSt) (s : State) : (setWeir n x s).dreqs = s.dreqs := rfl
@[simp] theorem setWeir_swBusy (n : Nat) (x : WeirSt) (s : State) : (setWeir n x s).swBusy = s.swBusy := rfl
@[simp] theorem setWeir_spareRows (n : Nat) (x : WeirSt) (s : State) : (setWeir n x s).spareRows = s.spareRows := rfl
@[simp] theorem setWeir_rates (n : Nat) (x : WeirSt) (s : State) : (setWeir n x s).rates = s.rates := rfl
@[simp] theorem setWeir_surfs (n : Nat) (x : WeirSt) (s : State) : (setWeir n x s).surfs = s.surfs := rfl
@[simp] theorem setWeir_flrs (n : Nat) (x : WeirSt) (s : State) : (setWeir n x s).flrs = s.flrs := rfl
@[simp] theorem setWeir_chs (n : Nat) (x : WeirSt) (s : State) : (setWeir n x s).chs = s.chs := rfl
@[simp] theorem setWeir_luts (n : Nat) (x : WeirSt) (s : State) : (setWeir n x s).luts = s.luts := rfl
@[simp] theorem setWeir_cmds (n : Nat) (x : WeirSt) (s : State) : (setWeir n x s).cmds = s.cmds := rfl
@[simp] theorem setWeir_nextCmd (n : Nat) (x : WeirSt) (s : State) : (setWeir n x s).nextCmd = s.nextCmd := rfl
@[simp] theorem setWeir_rings (n : Nat) (x : WeirSt) (s : State) : (setWeir n x s).rings = s.rings := rfl
@[simp] theorem setWeir_epochs (n : Nat) (x : WeirSt) (s : State) : (setWeir n x s).epochs = s.epochs := rfl
@[simp] theorem setWeir_crosses (n : Nat) (x : WeirSt) (s : State) : (setWeir n x s).crosses = s.crosses := rfl
@[simp] theorem setWeir_d2ds (n : Nat) (x : WeirSt) (s : State) : (setWeir n x s).d2ds = s.d2ds := rfl
@[simp] theorem setWeir_lockAt (n : Nat) (x : WeirSt) (s : State) : (setWeir n x s).lockAt = s.lockAt := rfl
@[simp] theorem setWeir_hk (n : Nat) (x : WeirSt) (s : State) : (setWeir n x s).hk = s.hk := rfl
@[simp] theorem setWeir_cal (n : Nat) (x : WeirSt) (s : State) : (setWeir n x s).cal = s.cal := rfl
@[simp] theorem setWeir_cals (n : Nat) (x : WeirSt) (s : State) : (setWeir n x s).cals = s.cals := rfl
@[simp] theorem setWeir_calRec (n : Nat) (x : WeirSt) (s : State) : (setWeir n x s).calRec = s.calRec := rfl
@[simp] theorem setWeir_curveDue (n : Nat) (x : WeirSt) (s : State) : (setWeir n x s).curveDue = s.curveDue := rfl
@[simp] theorem setWeir_oxs (n : Nat) (x : WeirSt) (s : State) : (setWeir n x s).oxs = s.oxs := rfl
@[simp] theorem setWeir_pipes (n : Nat) (x : WeirSt) (s : State) : (setWeir n x s).pipes = s.pipes := rfl
@[simp] theorem setWeir_pipeChs (n : Nat) (x : WeirSt) (s : State) : (setWeir n x s).pipeChs = s.pipeChs := rfl
@[simp] theorem setWeir_pipeRec (n : Nat) (x : WeirSt) (s : State) : (setWeir n x s).pipeRec = s.pipeRec := rfl
@[simp] theorem setWeir_pipeDead (n : Nat) (x : WeirSt) (s : State) : (setWeir n x s).pipeDead = s.pipeDead := rfl
@[simp] theorem setWeir_cfg (n : Nat) (x : WeirSt) (s : State) : (setWeir n x s).cfg = s.cfg := rfl
@[simp] theorem setWeir_fw (n : Nat) (x : WeirSt) (s : State) : (setWeir n x s).fw = s.fw := rfl
@[simp] theorem setWeir_mgt (n : Nat) (x : WeirSt) (s : State) : (setWeir n x s).mgt = s.mgt := rfl
@[simp] theorem setWeir_ide (n : Nat) (x : WeirSt) (s : State) : (setWeir n x s).ide = s.ide := rfl
@[simp] theorem setWeir_spdm (n : Nat) (x : WeirSt) (s : State) : (setWeir n x s).spdm = s.spdm := rfl

/-! ### `setSeq` -/

@[simp] theorem modSeq_eq (n : Nat) (f : SeqSt → SeqSt) (s : State) : modSeq n f s = setSeq n (f (s.seq n)) s := rfl
@[simp] theorem setSeq_same (n : Nat) (x : SeqSt) (s : State) : (setSeq n x s).seq n = x := tget_tset_same ..
theorem setSeq_ne (n n' : Nat) (x : SeqSt) (s : State) (h : n ≠ n') :
    (setSeq n x s).seq n' = s.seq n' := tget_tset_ne _ _ _ _ _ _ h
@[simp] theorem rd_setSeq (n : Nat) (x : SeqSt) (s : State) (b : Nat) (f : Fld) (i : Nat) :
    rd (setSeq n x s) b f i = rd s b f i := rfl
@[simp] theorem setSeq_pending (n : Nat) (x : SeqSt) (s : State) : (setSeq n x s).pending = s.pending := rfl
@[simp] theorem setSeq_out (n : Nat) (x : SeqSt) (s : State) : (setSeq n x s).out = s.out := rfl
@[simp] theorem setSeq_free (n : Nat) (x : SeqSt) (s : State) : (setSeq n x s).free = s.free := rfl
@[simp] theorem setSeq_evq (n : Nat) (x : SeqSt) (s : State) : (setSeq n x s).evq = s.evq := rfl
@[simp] theorem setSeq_memq (n : Nat) (x : SeqSt) (s : State) : (setSeq n x s).memq = s.memq := rfl
@[simp] theorem setSeq_tick (n : Nat) (x : SeqSt) (s : State) : (setSeq n x s).tick = s.tick := rfl
@[simp] theorem setSeq_ht (n : Nat) (x : SeqSt) (s : State) : (setSeq n x s).ht = s.ht := rfl
@[simp] theorem setSeq_regs (n : Nat) (x : SeqSt) (s : State) : (setSeq n x s).regs = s.regs := rfl
@[simp] theorem setSeq_eff (n : Nat) (x : SeqSt) (s : State) : (setSeq n x s).eff = s.eff := rfl
@[simp] theorem setSeq_latch (n : Nat) (x : SeqSt) (s : State) : (setSeq n x s).latch = s.latch := rfl
@[simp] theorem setSeq_mem (n : Nat) (x : SeqSt) (s : State) : (setSeq n x s).mem = s.mem := rfl
@[simp] theorem setSeq_memLost (n : Nat) (x : SeqSt) (s : State) : (setSeq n x s).memLost = s.memLost := rfl
@[simp] theorem setSeq_poison (n : Nat) (x : SeqSt) (s : State) : (setSeq n x s).poison = s.poison := rfl
@[simp] theorem setSeq_hub (n : Nat) (x : SeqSt) (s : State) : (setSeq n x s).hub = s.hub := rfl
@[simp] theorem setSeq_pins (n : Nat) (x : SeqSt) (s : State) : (setSeq n x s).pins = s.pins := rfl
@[simp] theorem setSeq_evr (n : Nat) (x : SeqSt) (s : State) : (setSeq n x s).evr = s.evr := rfl
@[simp] theorem setSeq_grants (n : Nat) (x : SeqSt) (s : State) : (setSeq n x s).grants = s.grants := rfl
@[simp] theorem setSeq_mgtCeil (n : Nat) (x : SeqSt) (s : State) : (setSeq n x s).mgtCeil = s.mgtCeil := rfl
@[simp] theorem setSeq_weirs (n : Nat) (x : SeqSt) (s : State) : (setSeq n x s).weirs = s.weirs := rfl
@[simp] theorem setSeq_lamps (n : Nat) (x : SeqSt) (s : State) : (setSeq n x s).lamps = s.lamps := rfl
@[simp] theorem setSeq_strs (n : Nat) (x : SeqSt) (s : State) : (setSeq n x s).strs = s.strs := rfl
@[simp] theorem setSeq_drvs (n : Nat) (x : SeqSt) (s : State) : (setSeq n x s).drvs = s.drvs := rfl
@[simp] theorem setSeq_ports (n : Nat) (x : SeqSt) (s : State) : (setSeq n x s).ports = s.ports := rfl
@[simp] theorem setSeq_curves (n : Nat) (x : SeqSt) (s : State) : (setSeq n x s).curves = s.curves := rfl
@[simp] theorem setSeq_prog (n : Nat) (x : SeqSt) (s : State) : (setSeq n x s).prog = s.prog := rfl
@[simp] theorem setSeq_descr (n : Nat) (x : SeqSt) (s : State) : (setSeq n x s).descr = s.descr := rfl
@[simp] theorem setSeq_moves (n : Nat) (x : SeqSt) (s : State) : (setSeq n x s).moves = s.moves := rfl
@[simp] theorem setSeq_slots (n : Nat) (x : SeqSt) (s : State) : (setSeq n x s).slots = s.slots := rfl
@[simp] theorem setSeq_cores (n : Nat) (x : SeqSt) (s : State) : (setSeq n x s).cores = s.cores := rfl
@[simp] theorem setSeq_eddys (n : Nat) (x : SeqSt) (s : State) : (setSeq n x s).eddys = s.eddys := rfl
@[simp] theorem setSeq_lprog (n : Nat) (x : SeqSt) (s : State) : (setSeq n x s).lprog = s.lprog := rfl
@[simp] theorem setSeq_ldata (n : Nat) (x : SeqSt) (s : State) : (setSeq n x s).ldata = s.ldata := rfl
@[simp] theorem setSeq_binds (n : Nat) (x : SeqSt) (s : State) : (setSeq n x s).binds = s.binds := rfl
@[simp] theorem setSeq_sps (n : Nat) (x : SeqSt) (s : State) : (setSeq n x s).sps = s.sps := rfl
@[simp] theorem setSeq_spReg (n : Nat) (x : SeqSt) (s : State) : (setSeq n x s).spReg = s.spReg := rfl
@[simp] theorem setSeq_serve (n : Nat) (x : SeqSt) (s : State) : (setSeq n x s).serve = s.serve := rfl
@[simp] theorem setSeq_retired (n : Nat) (x : SeqSt) (s : State) : (setSeq n x s).retired = s.retired := rfl
@[simp] theorem setSeq_thermAt (n : Nat) (x : SeqSt) (s : State) : (setSeq n x s).thermAt = s.thermAt := rfl
@[simp] theorem setSeq_frms (n : Nat) (x : SeqSt) (s : State) : (setSeq n x s).frms = s.frms := rfl
@[simp] theorem setSeq_fmts (n : Nat) (x : SeqSt) (s : State) : (setSeq n x s).fmts = s.fmts := rfl
@[simp] theorem setSeq_time (n : Nat) (x : SeqSt) (s : State) : (setSeq n x s).time = s.time := rfl
@[simp] theorem setSeq_dst (n : Nat) (x : SeqSt) (s : State) : (setSeq n x s).dst = s.dst := rfl
@[simp] theorem setSeq_ddrs (n : Nat) (x : SeqSt) (s : State) : (setSeq n x s).ddrs = s.ddrs := rfl
@[simp] theorem setSeq_dreqs (n : Nat) (x : SeqSt) (s : State) : (setSeq n x s).dreqs = s.dreqs := rfl
@[simp] theorem setSeq_swBusy (n : Nat) (x : SeqSt) (s : State) : (setSeq n x s).swBusy = s.swBusy := rfl
@[simp] theorem setSeq_spareRows (n : Nat) (x : SeqSt) (s : State) : (setSeq n x s).spareRows = s.spareRows := rfl
@[simp] theorem setSeq_rates (n : Nat) (x : SeqSt) (s : State) : (setSeq n x s).rates = s.rates := rfl
@[simp] theorem setSeq_surfs (n : Nat) (x : SeqSt) (s : State) : (setSeq n x s).surfs = s.surfs := rfl
@[simp] theorem setSeq_flrs (n : Nat) (x : SeqSt) (s : State) : (setSeq n x s).flrs = s.flrs := rfl
@[simp] theorem setSeq_chs (n : Nat) (x : SeqSt) (s : State) : (setSeq n x s).chs = s.chs := rfl
@[simp] theorem setSeq_luts (n : Nat) (x : SeqSt) (s : State) : (setSeq n x s).luts = s.luts := rfl
@[simp] theorem setSeq_cmds (n : Nat) (x : SeqSt) (s : State) : (setSeq n x s).cmds = s.cmds := rfl
@[simp] theorem setSeq_nextCmd (n : Nat) (x : SeqSt) (s : State) : (setSeq n x s).nextCmd = s.nextCmd := rfl
@[simp] theorem setSeq_rings (n : Nat) (x : SeqSt) (s : State) : (setSeq n x s).rings = s.rings := rfl
@[simp] theorem setSeq_epochs (n : Nat) (x : SeqSt) (s : State) : (setSeq n x s).epochs = s.epochs := rfl
@[simp] theorem setSeq_crosses (n : Nat) (x : SeqSt) (s : State) : (setSeq n x s).crosses = s.crosses := rfl
@[simp] theorem setSeq_d2ds (n : Nat) (x : SeqSt) (s : State) : (setSeq n x s).d2ds = s.d2ds := rfl
@[simp] theorem setSeq_lockAt (n : Nat) (x : SeqSt) (s : State) : (setSeq n x s).lockAt = s.lockAt := rfl
@[simp] theorem setSeq_hk (n : Nat) (x : SeqSt) (s : State) : (setSeq n x s).hk = s.hk := rfl
@[simp] theorem setSeq_cal (n : Nat) (x : SeqSt) (s : State) : (setSeq n x s).cal = s.cal := rfl
@[simp] theorem setSeq_cals (n : Nat) (x : SeqSt) (s : State) : (setSeq n x s).cals = s.cals := rfl
@[simp] theorem setSeq_calRec (n : Nat) (x : SeqSt) (s : State) : (setSeq n x s).calRec = s.calRec := rfl
@[simp] theorem setSeq_curveDue (n : Nat) (x : SeqSt) (s : State) : (setSeq n x s).curveDue = s.curveDue := rfl
@[simp] theorem setSeq_oxs (n : Nat) (x : SeqSt) (s : State) : (setSeq n x s).oxs = s.oxs := rfl
@[simp] theorem setSeq_pipes (n : Nat) (x : SeqSt) (s : State) : (setSeq n x s).pipes = s.pipes := rfl
@[simp] theorem setSeq_pipeChs (n : Nat) (x : SeqSt) (s : State) : (setSeq n x s).pipeChs = s.pipeChs := rfl
@[simp] theorem setSeq_pipeRec (n : Nat) (x : SeqSt) (s : State) : (setSeq n x s).pipeRec = s.pipeRec := rfl
@[simp] theorem setSeq_pipeDead (n : Nat) (x : SeqSt) (s : State) : (setSeq n x s).pipeDead = s.pipeDead := rfl
@[simp] theorem setSeq_cfg (n : Nat) (x : SeqSt) (s : State) : (setSeq n x s).cfg = s.cfg := rfl
@[simp] theorem setSeq_fw (n : Nat) (x : SeqSt) (s : State) : (setSeq n x s).fw = s.fw := rfl
@[simp] theorem setSeq_mgt (n : Nat) (x : SeqSt) (s : State) : (setSeq n x s).mgt = s.mgt := rfl
@[simp] theorem setSeq_ide (n : Nat) (x : SeqSt) (s : State) : (setSeq n x s).ide = s.ide := rfl
@[simp] theorem setSeq_spdm (n : Nat) (x : SeqSt) (s : State) : (setSeq n x s).spdm = s.spdm := rfl

/-! ### `setLamp` -/

@[simp] theorem modLamp_eq (n : Nat) (f : LampSt → LampSt) (s : State) : modLamp n f s = setLamp n (f (s.lamp n)) s := rfl
@[simp] theorem setLamp_same (n : Nat) (x : LampSt) (s : State) : (setLamp n x s).lamp n = x := tget_tset_same ..
theorem setLamp_ne (n n' : Nat) (x : LampSt) (s : State) (h : n ≠ n') :
    (setLamp n x s).lamp n' = s.lamp n' := tget_tset_ne _ _ _ _ _ _ h
@[simp] theorem rd_setLamp (n : Nat) (x : LampSt) (s : State) (b : Nat) (f : Fld) (i : Nat) :
    rd (setLamp n x s) b f i = rd s b f i := rfl
@[simp] theorem setLamp_pending (n : Nat) (x : LampSt) (s : State) : (setLamp n x s).pending = s.pending := rfl
@[simp] theorem setLamp_out (n : Nat) (x : LampSt) (s : State) : (setLamp n x s).out = s.out := rfl
@[simp] theorem setLamp_free (n : Nat) (x : LampSt) (s : State) : (setLamp n x s).free = s.free := rfl
@[simp] theorem setLamp_evq (n : Nat) (x : LampSt) (s : State) : (setLamp n x s).evq = s.evq := rfl
@[simp] theorem setLamp_memq (n : Nat) (x : LampSt) (s : State) : (setLamp n x s).memq = s.memq := rfl
@[simp] theorem setLamp_tick (n : Nat) (x : LampSt) (s : State) : (setLamp n x s).tick = s.tick := rfl
@[simp] theorem setLamp_ht (n : Nat) (x : LampSt) (s : State) : (setLamp n x s).ht = s.ht := rfl
@[simp] theorem setLamp_regs (n : Nat) (x : LampSt) (s : State) : (setLamp n x s).regs = s.regs := rfl
@[simp] theorem setLamp_eff (n : Nat) (x : LampSt) (s : State) : (setLamp n x s).eff = s.eff := rfl
@[simp] theorem setLamp_latch (n : Nat) (x : LampSt) (s : State) : (setLamp n x s).latch = s.latch := rfl
@[simp] theorem setLamp_mem (n : Nat) (x : LampSt) (s : State) : (setLamp n x s).mem = s.mem := rfl
@[simp] theorem setLamp_memLost (n : Nat) (x : LampSt) (s : State) : (setLamp n x s).memLost = s.memLost := rfl
@[simp] theorem setLamp_poison (n : Nat) (x : LampSt) (s : State) : (setLamp n x s).poison = s.poison := rfl
@[simp] theorem setLamp_hub (n : Nat) (x : LampSt) (s : State) : (setLamp n x s).hub = s.hub := rfl
@[simp] theorem setLamp_pins (n : Nat) (x : LampSt) (s : State) : (setLamp n x s).pins = s.pins := rfl
@[simp] theorem setLamp_evr (n : Nat) (x : LampSt) (s : State) : (setLamp n x s).evr = s.evr := rfl
@[simp] theorem setLamp_grants (n : Nat) (x : LampSt) (s : State) : (setLamp n x s).grants = s.grants := rfl
@[simp] theorem setLamp_mgtCeil (n : Nat) (x : LampSt) (s : State) : (setLamp n x s).mgtCeil = s.mgtCeil := rfl
@[simp] theorem setLamp_weirs (n : Nat) (x : LampSt) (s : State) : (setLamp n x s).weirs = s.weirs := rfl
@[simp] theorem setLamp_seqs (n : Nat) (x : LampSt) (s : State) : (setLamp n x s).seqs = s.seqs := rfl
@[simp] theorem setLamp_strs (n : Nat) (x : LampSt) (s : State) : (setLamp n x s).strs = s.strs := rfl
@[simp] theorem setLamp_drvs (n : Nat) (x : LampSt) (s : State) : (setLamp n x s).drvs = s.drvs := rfl
@[simp] theorem setLamp_ports (n : Nat) (x : LampSt) (s : State) : (setLamp n x s).ports = s.ports := rfl
@[simp] theorem setLamp_curves (n : Nat) (x : LampSt) (s : State) : (setLamp n x s).curves = s.curves := rfl
@[simp] theorem setLamp_prog (n : Nat) (x : LampSt) (s : State) : (setLamp n x s).prog = s.prog := rfl
@[simp] theorem setLamp_descr (n : Nat) (x : LampSt) (s : State) : (setLamp n x s).descr = s.descr := rfl
@[simp] theorem setLamp_moves (n : Nat) (x : LampSt) (s : State) : (setLamp n x s).moves = s.moves := rfl
@[simp] theorem setLamp_slots (n : Nat) (x : LampSt) (s : State) : (setLamp n x s).slots = s.slots := rfl
@[simp] theorem setLamp_cores (n : Nat) (x : LampSt) (s : State) : (setLamp n x s).cores = s.cores := rfl
@[simp] theorem setLamp_eddys (n : Nat) (x : LampSt) (s : State) : (setLamp n x s).eddys = s.eddys := rfl
@[simp] theorem setLamp_lprog (n : Nat) (x : LampSt) (s : State) : (setLamp n x s).lprog = s.lprog := rfl
@[simp] theorem setLamp_ldata (n : Nat) (x : LampSt) (s : State) : (setLamp n x s).ldata = s.ldata := rfl
@[simp] theorem setLamp_binds (n : Nat) (x : LampSt) (s : State) : (setLamp n x s).binds = s.binds := rfl
@[simp] theorem setLamp_sps (n : Nat) (x : LampSt) (s : State) : (setLamp n x s).sps = s.sps := rfl
@[simp] theorem setLamp_spReg (n : Nat) (x : LampSt) (s : State) : (setLamp n x s).spReg = s.spReg := rfl
@[simp] theorem setLamp_serve (n : Nat) (x : LampSt) (s : State) : (setLamp n x s).serve = s.serve := rfl
@[simp] theorem setLamp_retired (n : Nat) (x : LampSt) (s : State) : (setLamp n x s).retired = s.retired := rfl
@[simp] theorem setLamp_thermAt (n : Nat) (x : LampSt) (s : State) : (setLamp n x s).thermAt = s.thermAt := rfl
@[simp] theorem setLamp_frms (n : Nat) (x : LampSt) (s : State) : (setLamp n x s).frms = s.frms := rfl
@[simp] theorem setLamp_fmts (n : Nat) (x : LampSt) (s : State) : (setLamp n x s).fmts = s.fmts := rfl
@[simp] theorem setLamp_time (n : Nat) (x : LampSt) (s : State) : (setLamp n x s).time = s.time := rfl
@[simp] theorem setLamp_dst (n : Nat) (x : LampSt) (s : State) : (setLamp n x s).dst = s.dst := rfl
@[simp] theorem setLamp_ddrs (n : Nat) (x : LampSt) (s : State) : (setLamp n x s).ddrs = s.ddrs := rfl
@[simp] theorem setLamp_dreqs (n : Nat) (x : LampSt) (s : State) : (setLamp n x s).dreqs = s.dreqs := rfl
@[simp] theorem setLamp_swBusy (n : Nat) (x : LampSt) (s : State) : (setLamp n x s).swBusy = s.swBusy := rfl
@[simp] theorem setLamp_spareRows (n : Nat) (x : LampSt) (s : State) : (setLamp n x s).spareRows = s.spareRows := rfl
@[simp] theorem setLamp_rates (n : Nat) (x : LampSt) (s : State) : (setLamp n x s).rates = s.rates := rfl
@[simp] theorem setLamp_surfs (n : Nat) (x : LampSt) (s : State) : (setLamp n x s).surfs = s.surfs := rfl
@[simp] theorem setLamp_flrs (n : Nat) (x : LampSt) (s : State) : (setLamp n x s).flrs = s.flrs := rfl
@[simp] theorem setLamp_chs (n : Nat) (x : LampSt) (s : State) : (setLamp n x s).chs = s.chs := rfl
@[simp] theorem setLamp_luts (n : Nat) (x : LampSt) (s : State) : (setLamp n x s).luts = s.luts := rfl
@[simp] theorem setLamp_cmds (n : Nat) (x : LampSt) (s : State) : (setLamp n x s).cmds = s.cmds := rfl
@[simp] theorem setLamp_nextCmd (n : Nat) (x : LampSt) (s : State) : (setLamp n x s).nextCmd = s.nextCmd := rfl
@[simp] theorem setLamp_rings (n : Nat) (x : LampSt) (s : State) : (setLamp n x s).rings = s.rings := rfl
@[simp] theorem setLamp_epochs (n : Nat) (x : LampSt) (s : State) : (setLamp n x s).epochs = s.epochs := rfl
@[simp] theorem setLamp_crosses (n : Nat) (x : LampSt) (s : State) : (setLamp n x s).crosses = s.crosses := rfl
@[simp] theorem setLamp_d2ds (n : Nat) (x : LampSt) (s : State) : (setLamp n x s).d2ds = s.d2ds := rfl
@[simp] theorem setLamp_lockAt (n : Nat) (x : LampSt) (s : State) : (setLamp n x s).lockAt = s.lockAt := rfl
@[simp] theorem setLamp_hk (n : Nat) (x : LampSt) (s : State) : (setLamp n x s).hk = s.hk := rfl
@[simp] theorem setLamp_cal (n : Nat) (x : LampSt) (s : State) : (setLamp n x s).cal = s.cal := rfl
@[simp] theorem setLamp_cals (n : Nat) (x : LampSt) (s : State) : (setLamp n x s).cals = s.cals := rfl
@[simp] theorem setLamp_calRec (n : Nat) (x : LampSt) (s : State) : (setLamp n x s).calRec = s.calRec := rfl
@[simp] theorem setLamp_curveDue (n : Nat) (x : LampSt) (s : State) : (setLamp n x s).curveDue = s.curveDue := rfl
@[simp] theorem setLamp_oxs (n : Nat) (x : LampSt) (s : State) : (setLamp n x s).oxs = s.oxs := rfl
@[simp] theorem setLamp_pipes (n : Nat) (x : LampSt) (s : State) : (setLamp n x s).pipes = s.pipes := rfl
@[simp] theorem setLamp_pipeChs (n : Nat) (x : LampSt) (s : State) : (setLamp n x s).pipeChs = s.pipeChs := rfl
@[simp] theorem setLamp_pipeRec (n : Nat) (x : LampSt) (s : State) : (setLamp n x s).pipeRec = s.pipeRec := rfl
@[simp] theorem setLamp_pipeDead (n : Nat) (x : LampSt) (s : State) : (setLamp n x s).pipeDead = s.pipeDead := rfl
@[simp] theorem setLamp_cfg (n : Nat) (x : LampSt) (s : State) : (setLamp n x s).cfg = s.cfg := rfl
@[simp] theorem setLamp_fw (n : Nat) (x : LampSt) (s : State) : (setLamp n x s).fw = s.fw := rfl
@[simp] theorem setLamp_mgt (n : Nat) (x : LampSt) (s : State) : (setLamp n x s).mgt = s.mgt := rfl
@[simp] theorem setLamp_ide (n : Nat) (x : LampSt) (s : State) : (setLamp n x s).ide = s.ide := rfl
@[simp] theorem setLamp_spdm (n : Nat) (x : LampSt) (s : State) : (setLamp n x s).spdm = s.spdm := rfl

/-! ### `setStr` -/

@[simp] theorem modStr_eq (n k : Nat) (f : StrSt → StrSt) (s : State) : modStr n k f s = setStr n k (f (s.str n k)) s := rfl
@[simp] theorem setStr_same (n k : Nat) (x : StrSt) (s : State) : (setStr n k x s).str n k = x := tget_tset_same ..
theorem setStr_ne (n k n' k' : Nat) (x : StrSt) (s : State) (h : 8 * n + k ≠ 8 * n' + k') :
    (setStr n k x s).str n' k' = s.str n' k' := tget_tset_ne _ _ _ _ _ _ h
@[simp] theorem rd_setStr (n k : Nat) (x : StrSt) (s : State) (b : Nat) (f : Fld) (i : Nat) :
    rd (setStr n k x s) b f i = rd s b f i := rfl
@[simp] theorem setStr_pending (n k : Nat) (x : StrSt) (s : State) : (setStr n k x s).pending = s.pending := rfl
@[simp] theorem setStr_out (n k : Nat) (x : StrSt) (s : State) : (setStr n k x s).out = s.out := rfl
@[simp] theorem setStr_free (n k : Nat) (x : StrSt) (s : State) : (setStr n k x s).free = s.free := rfl
@[simp] theorem setStr_evq (n k : Nat) (x : StrSt) (s : State) : (setStr n k x s).evq = s.evq := rfl
@[simp] theorem setStr_memq (n k : Nat) (x : StrSt) (s : State) : (setStr n k x s).memq = s.memq := rfl
@[simp] theorem setStr_tick (n k : Nat) (x : StrSt) (s : State) : (setStr n k x s).tick = s.tick := rfl
@[simp] theorem setStr_ht (n k : Nat) (x : StrSt) (s : State) : (setStr n k x s).ht = s.ht := rfl
@[simp] theorem setStr_regs (n k : Nat) (x : StrSt) (s : State) : (setStr n k x s).regs = s.regs := rfl
@[simp] theorem setStr_eff (n k : Nat) (x : StrSt) (s : State) : (setStr n k x s).eff = s.eff := rfl
@[simp] theorem setStr_latch (n k : Nat) (x : StrSt) (s : State) : (setStr n k x s).latch = s.latch := rfl
@[simp] theorem setStr_mem (n k : Nat) (x : StrSt) (s : State) : (setStr n k x s).mem = s.mem := rfl
@[simp] theorem setStr_memLost (n k : Nat) (x : StrSt) (s : State) : (setStr n k x s).memLost = s.memLost := rfl
@[simp] theorem setStr_poison (n k : Nat) (x : StrSt) (s : State) : (setStr n k x s).poison = s.poison := rfl
@[simp] theorem setStr_hub (n k : Nat) (x : StrSt) (s : State) : (setStr n k x s).hub = s.hub := rfl
@[simp] theorem setStr_pins (n k : Nat) (x : StrSt) (s : State) : (setStr n k x s).pins = s.pins := rfl
@[simp] theorem setStr_evr (n k : Nat) (x : StrSt) (s : State) : (setStr n k x s).evr = s.evr := rfl
@[simp] theorem setStr_grants (n k : Nat) (x : StrSt) (s : State) : (setStr n k x s).grants = s.grants := rfl
@[simp] theorem setStr_mgtCeil (n k : Nat) (x : StrSt) (s : State) : (setStr n k x s).mgtCeil = s.mgtCeil := rfl
@[simp] theorem setStr_weirs (n k : Nat) (x : StrSt) (s : State) : (setStr n k x s).weirs = s.weirs := rfl
@[simp] theorem setStr_seqs (n k : Nat) (x : StrSt) (s : State) : (setStr n k x s).seqs = s.seqs := rfl
@[simp] theorem setStr_lamps (n k : Nat) (x : StrSt) (s : State) : (setStr n k x s).lamps = s.lamps := rfl
@[simp] theorem setStr_drvs (n k : Nat) (x : StrSt) (s : State) : (setStr n k x s).drvs = s.drvs := rfl
@[simp] theorem setStr_ports (n k : Nat) (x : StrSt) (s : State) : (setStr n k x s).ports = s.ports := rfl
@[simp] theorem setStr_curves (n k : Nat) (x : StrSt) (s : State) : (setStr n k x s).curves = s.curves := rfl
@[simp] theorem setStr_prog (n k : Nat) (x : StrSt) (s : State) : (setStr n k x s).prog = s.prog := rfl
@[simp] theorem setStr_descr (n k : Nat) (x : StrSt) (s : State) : (setStr n k x s).descr = s.descr := rfl
@[simp] theorem setStr_moves (n k : Nat) (x : StrSt) (s : State) : (setStr n k x s).moves = s.moves := rfl
@[simp] theorem setStr_slots (n k : Nat) (x : StrSt) (s : State) : (setStr n k x s).slots = s.slots := rfl
@[simp] theorem setStr_cores (n k : Nat) (x : StrSt) (s : State) : (setStr n k x s).cores = s.cores := rfl
@[simp] theorem setStr_eddys (n k : Nat) (x : StrSt) (s : State) : (setStr n k x s).eddys = s.eddys := rfl
@[simp] theorem setStr_lprog (n k : Nat) (x : StrSt) (s : State) : (setStr n k x s).lprog = s.lprog := rfl
@[simp] theorem setStr_ldata (n k : Nat) (x : StrSt) (s : State) : (setStr n k x s).ldata = s.ldata := rfl
@[simp] theorem setStr_binds (n k : Nat) (x : StrSt) (s : State) : (setStr n k x s).binds = s.binds := rfl
@[simp] theorem setStr_sps (n k : Nat) (x : StrSt) (s : State) : (setStr n k x s).sps = s.sps := rfl
@[simp] theorem setStr_spReg (n k : Nat) (x : StrSt) (s : State) : (setStr n k x s).spReg = s.spReg := rfl
@[simp] theorem setStr_serve (n k : Nat) (x : StrSt) (s : State) : (setStr n k x s).serve = s.serve := rfl
@[simp] theorem setStr_retired (n k : Nat) (x : StrSt) (s : State) : (setStr n k x s).retired = s.retired := rfl
@[simp] theorem setStr_thermAt (n k : Nat) (x : StrSt) (s : State) : (setStr n k x s).thermAt = s.thermAt := rfl
@[simp] theorem setStr_frms (n k : Nat) (x : StrSt) (s : State) : (setStr n k x s).frms = s.frms := rfl
@[simp] theorem setStr_fmts (n k : Nat) (x : StrSt) (s : State) : (setStr n k x s).fmts = s.fmts := rfl
@[simp] theorem setStr_time (n k : Nat) (x : StrSt) (s : State) : (setStr n k x s).time = s.time := rfl
@[simp] theorem setStr_dst (n k : Nat) (x : StrSt) (s : State) : (setStr n k x s).dst = s.dst := rfl
@[simp] theorem setStr_ddrs (n k : Nat) (x : StrSt) (s : State) : (setStr n k x s).ddrs = s.ddrs := rfl
@[simp] theorem setStr_dreqs (n k : Nat) (x : StrSt) (s : State) : (setStr n k x s).dreqs = s.dreqs := rfl
@[simp] theorem setStr_swBusy (n k : Nat) (x : StrSt) (s : State) : (setStr n k x s).swBusy = s.swBusy := rfl
@[simp] theorem setStr_spareRows (n k : Nat) (x : StrSt) (s : State) : (setStr n k x s).spareRows = s.spareRows := rfl
@[simp] theorem setStr_rates (n k : Nat) (x : StrSt) (s : State) : (setStr n k x s).rates = s.rates := rfl
@[simp] theorem setStr_surfs (n k : Nat) (x : StrSt) (s : State) : (setStr n k x s).surfs = s.surfs := rfl
@[simp] theorem setStr_flrs (n k : Nat) (x : StrSt) (s : State) : (setStr n k x s).flrs = s.flrs := rfl
@[simp] theorem setStr_chs (n k : Nat) (x : StrSt) (s : State) : (setStr n k x s).chs = s.chs := rfl
@[simp] theorem setStr_luts (n k : Nat) (x : StrSt) (s : State) : (setStr n k x s).luts = s.luts := rfl
@[simp] theorem setStr_cmds (n k : Nat) (x : StrSt) (s : State) : (setStr n k x s).cmds = s.cmds := rfl
@[simp] theorem setStr_nextCmd (n k : Nat) (x : StrSt) (s : State) : (setStr n k x s).nextCmd = s.nextCmd := rfl
@[simp] theorem setStr_rings (n k : Nat) (x : StrSt) (s : State) : (setStr n k x s).rings = s.rings := rfl
@[simp] theorem setStr_epochs (n k : Nat) (x : StrSt) (s : State) : (setStr n k x s).epochs = s.epochs := rfl
@[simp] theorem setStr_crosses (n k : Nat) (x : StrSt) (s : State) : (setStr n k x s).crosses = s.crosses := rfl
@[simp] theorem setStr_d2ds (n k : Nat) (x : StrSt) (s : State) : (setStr n k x s).d2ds = s.d2ds := rfl
@[simp] theorem setStr_lockAt (n k : Nat) (x : StrSt) (s : State) : (setStr n k x s).lockAt = s.lockAt := rfl
@[simp] theorem setStr_hk (n k : Nat) (x : StrSt) (s : State) : (setStr n k x s).hk = s.hk := rfl
@[simp] theorem setStr_cal (n k : Nat) (x : StrSt) (s : State) : (setStr n k x s).cal = s.cal := rfl
@[simp] theorem setStr_cals (n k : Nat) (x : StrSt) (s : State) : (setStr n k x s).cals = s.cals := rfl
@[simp] theorem setStr_calRec (n k : Nat) (x : StrSt) (s : State) : (setStr n k x s).calRec = s.calRec := rfl
@[simp] theorem setStr_curveDue (n k : Nat) (x : StrSt) (s : State) : (setStr n k x s).curveDue = s.curveDue := rfl
@[simp] theorem setStr_oxs (n k : Nat) (x : StrSt) (s : State) : (setStr n k x s).oxs = s.oxs := rfl
@[simp] theorem setStr_pipes (n k : Nat) (x : StrSt) (s : State) : (setStr n k x s).pipes = s.pipes := rfl
@[simp] theorem setStr_pipeChs (n k : Nat) (x : StrSt) (s : State) : (setStr n k x s).pipeChs = s.pipeChs := rfl
@[simp] theorem setStr_pipeRec (n k : Nat) (x : StrSt) (s : State) : (setStr n k x s).pipeRec = s.pipeRec := rfl
@[simp] theorem setStr_pipeDead (n k : Nat) (x : StrSt) (s : State) : (setStr n k x s).pipeDead = s.pipeDead := rfl
@[simp] theorem setStr_cfg (n k : Nat) (x : StrSt) (s : State) : (setStr n k x s).cfg = s.cfg := rfl
@[simp] theorem setStr_fw (n k : Nat) (x : StrSt) (s : State) : (setStr n k x s).fw = s.fw := rfl
@[simp] theorem setStr_mgt (n k : Nat) (x : StrSt) (s : State) : (setStr n k x s).mgt = s.mgt := rfl
@[simp] theorem setStr_ide (n k : Nat) (x : StrSt) (s : State) : (setStr n k x s).ide = s.ide := rfl
@[simp] theorem setStr_spdm (n k : Nat) (x : StrSt) (s : State) : (setStr n k x s).spdm = s.spdm := rfl

/-! ### `setDrv` -/

@[simp] theorem modDrv_eq (n k : Nat) (f : DrvSt → DrvSt) (s : State) : modDrv n k f s = setDrv n k (f (s.drv n k)) s := rfl
@[simp] theorem setDrv_same (n k : Nat) (x : DrvSt) (s : State) : (setDrv n k x s).drv n k = x := tget_tset_same ..
theorem setDrv_ne (n k n' k' : Nat) (x : DrvSt) (s : State) (h : 16 * n + k ≠ 16 * n' + k') :
    (setDrv n k x s).drv n' k' = s.drv n' k' := tget_tset_ne _ _ _ _ _ _ h
@[simp] theorem rd_setDrv (n k : Nat) (x : DrvSt) (s : State) (b : Nat) (f : Fld) (i : Nat) :
    rd (setDrv n k x s) b f i = rd s b f i := rfl
@[simp] theorem setDrv_pending (n k : Nat) (x : DrvSt) (s : State) : (setDrv n k x s).pending = s.pending := rfl
@[simp] theorem setDrv_out (n k : Nat) (x : DrvSt) (s : State) : (setDrv n k x s).out = s.out := rfl
@[simp] theorem setDrv_free (n k : Nat) (x : DrvSt) (s : State) : (setDrv n k x s).free = s.free := rfl
@[simp] theorem setDrv_evq (n k : Nat) (x : DrvSt) (s : State) : (setDrv n k x s).evq = s.evq := rfl
@[simp] theorem setDrv_memq (n k : Nat) (x : DrvSt) (s : State) : (setDrv n k x s).memq = s.memq := rfl
@[simp] theorem setDrv_tick (n k : Nat) (x : DrvSt) (s : State) : (setDrv n k x s).tick = s.tick := rfl
@[simp] theorem setDrv_ht (n k : Nat) (x : DrvSt) (s : State) : (setDrv n k x s).ht = s.ht := rfl
@[simp] theorem setDrv_regs (n k : Nat) (x : DrvSt) (s : State) : (setDrv n k x s).regs = s.regs := rfl
@[simp] theorem setDrv_eff (n k : Nat) (x : DrvSt) (s : State) : (setDrv n k x s).eff = s.eff := rfl
@[simp] theorem setDrv_latch (n k : Nat) (x : DrvSt) (s : State) : (setDrv n k x s).latch = s.latch := rfl
@[simp] theorem setDrv_mem (n k : Nat) (x : DrvSt) (s : State) : (setDrv n k x s).mem = s.mem := rfl
@[simp] theorem setDrv_memLost (n k : Nat) (x : DrvSt) (s : State) : (setDrv n k x s).memLost = s.memLost := rfl
@[simp] theorem setDrv_poison (n k : Nat) (x : DrvSt) (s : State) : (setDrv n k x s).poison = s.poison := rfl
@[simp] theorem setDrv_hub (n k : Nat) (x : DrvSt) (s : State) : (setDrv n k x s).hub = s.hub := rfl
@[simp] theorem setDrv_pins (n k : Nat) (x : DrvSt) (s : State) : (setDrv n k x s).pins = s.pins := rfl
@[simp] theorem setDrv_evr (n k : Nat) (x : DrvSt) (s : State) : (setDrv n k x s).evr = s.evr := rfl
@[simp] theorem setDrv_grants (n k : Nat) (x : DrvSt) (s : State) : (setDrv n k x s).grants = s.grants := rfl
@[simp] theorem setDrv_mgtCeil (n k : Nat) (x : DrvSt) (s : State) : (setDrv n k x s).mgtCeil = s.mgtCeil := rfl
@[simp] theorem setDrv_weirs (n k : Nat) (x : DrvSt) (s : State) : (setDrv n k x s).weirs = s.weirs := rfl
@[simp] theorem setDrv_seqs (n k : Nat) (x : DrvSt) (s : State) : (setDrv n k x s).seqs = s.seqs := rfl
@[simp] theorem setDrv_lamps (n k : Nat) (x : DrvSt) (s : State) : (setDrv n k x s).lamps = s.lamps := rfl
@[simp] theorem setDrv_strs (n k : Nat) (x : DrvSt) (s : State) : (setDrv n k x s).strs = s.strs := rfl
@[simp] theorem setDrv_ports (n k : Nat) (x : DrvSt) (s : State) : (setDrv n k x s).ports = s.ports := rfl
@[simp] theorem setDrv_curves (n k : Nat) (x : DrvSt) (s : State) : (setDrv n k x s).curves = s.curves := rfl
@[simp] theorem setDrv_prog (n k : Nat) (x : DrvSt) (s : State) : (setDrv n k x s).prog = s.prog := rfl
@[simp] theorem setDrv_descr (n k : Nat) (x : DrvSt) (s : State) : (setDrv n k x s).descr = s.descr := rfl
@[simp] theorem setDrv_moves (n k : Nat) (x : DrvSt) (s : State) : (setDrv n k x s).moves = s.moves := rfl
@[simp] theorem setDrv_slots (n k : Nat) (x : DrvSt) (s : State) : (setDrv n k x s).slots = s.slots := rfl
@[simp] theorem setDrv_cores (n k : Nat) (x : DrvSt) (s : State) : (setDrv n k x s).cores = s.cores := rfl
@[simp] theorem setDrv_eddys (n k : Nat) (x : DrvSt) (s : State) : (setDrv n k x s).eddys = s.eddys := rfl
@[simp] theorem setDrv_lprog (n k : Nat) (x : DrvSt) (s : State) : (setDrv n k x s).lprog = s.lprog := rfl
@[simp] theorem setDrv_ldata (n k : Nat) (x : DrvSt) (s : State) : (setDrv n k x s).ldata = s.ldata := rfl
@[simp] theorem setDrv_binds (n k : Nat) (x : DrvSt) (s : State) : (setDrv n k x s).binds = s.binds := rfl
@[simp] theorem setDrv_sps (n k : Nat) (x : DrvSt) (s : State) : (setDrv n k x s).sps = s.sps := rfl
@[simp] theorem setDrv_spReg (n k : Nat) (x : DrvSt) (s : State) : (setDrv n k x s).spReg = s.spReg := rfl
@[simp] theorem setDrv_serve (n k : Nat) (x : DrvSt) (s : State) : (setDrv n k x s).serve = s.serve := rfl
@[simp] theorem setDrv_retired (n k : Nat) (x : DrvSt) (s : State) : (setDrv n k x s).retired = s.retired := rfl
@[simp] theorem setDrv_thermAt (n k : Nat) (x : DrvSt) (s : State) : (setDrv n k x s).thermAt = s.thermAt := rfl
@[simp] theorem setDrv_frms (n k : Nat) (x : DrvSt) (s : State) : (setDrv n k x s).frms = s.frms := rfl
@[simp] theorem setDrv_fmts (n k : Nat) (x : DrvSt) (s : State) : (setDrv n k x s).fmts = s.fmts := rfl
@[simp] theorem setDrv_time (n k : Nat) (x : DrvSt) (s : State) : (setDrv n k x s).time = s.time := rfl
@[simp] theorem setDrv_dst (n k : Nat) (x : DrvSt) (s : State) : (setDrv n k x s).dst = s.dst := rfl
@[simp] theorem setDrv_ddrs (n k : Nat) (x : DrvSt) (s : State) : (setDrv n k x s).ddrs = s.ddrs := rfl
@[simp] theorem setDrv_dreqs (n k : Nat) (x : DrvSt) (s : State) : (setDrv n k x s).dreqs = s.dreqs := rfl
@[simp] theorem setDrv_swBusy (n k : Nat) (x : DrvSt) (s : State) : (setDrv n k x s).swBusy = s.swBusy := rfl
@[simp] theorem setDrv_spareRows (n k : Nat) (x : DrvSt) (s : State) : (setDrv n k x s).spareRows = s.spareRows := rfl
@[simp] theorem setDrv_rates (n k : Nat) (x : DrvSt) (s : State) : (setDrv n k x s).rates = s.rates := rfl
@[simp] theorem setDrv_surfs (n k : Nat) (x : DrvSt) (s : State) : (setDrv n k x s).surfs = s.surfs := rfl
@[simp] theorem setDrv_flrs (n k : Nat) (x : DrvSt) (s : State) : (setDrv n k x s).flrs = s.flrs := rfl
@[simp] theorem setDrv_chs (n k : Nat) (x : DrvSt) (s : State) : (setDrv n k x s).chs = s.chs := rfl
@[simp] theorem setDrv_luts (n k : Nat) (x : DrvSt) (s : State) : (setDrv n k x s).luts = s.luts := rfl
@[simp] theorem setDrv_cmds (n k : Nat) (x : DrvSt) (s : State) : (setDrv n k x s).cmds = s.cmds := rfl
@[simp] theorem setDrv_nextCmd (n k : Nat) (x : DrvSt) (s : State) : (setDrv n k x s).nextCmd = s.nextCmd := rfl
@[simp] theorem setDrv_rings (n k : Nat) (x : DrvSt) (s : State) : (setDrv n k x s).rings = s.rings := rfl
@[simp] theorem setDrv_epochs (n k : Nat) (x : DrvSt) (s : State) : (setDrv n k x s).epochs = s.epochs := rfl
@[simp] theorem setDrv_crosses (n k : Nat) (x : DrvSt) (s : State) : (setDrv n k x s).crosses = s.crosses := rfl
@[simp] theorem setDrv_d2ds (n k : Nat) (x : DrvSt) (s : State) : (setDrv n k x s).d2ds = s.d2ds := rfl
@[simp] theorem setDrv_lockAt (n k : Nat) (x : DrvSt) (s : State) : (setDrv n k x s).lockAt = s.lockAt := rfl
@[simp] theorem setDrv_hk (n k : Nat) (x : DrvSt) (s : State) : (setDrv n k x s).hk = s.hk := rfl
@[simp] theorem setDrv_cal (n k : Nat) (x : DrvSt) (s : State) : (setDrv n k x s).cal = s.cal := rfl
@[simp] theorem setDrv_cals (n k : Nat) (x : DrvSt) (s : State) : (setDrv n k x s).cals = s.cals := rfl
@[simp] theorem setDrv_calRec (n k : Nat) (x : DrvSt) (s : State) : (setDrv n k x s).calRec = s.calRec := rfl
@[simp] theorem setDrv_curveDue (n k : Nat) (x : DrvSt) (s : State) : (setDrv n k x s).curveDue = s.curveDue := rfl
@[simp] theorem setDrv_oxs (n k : Nat) (x : DrvSt) (s : State) : (setDrv n k x s).oxs = s.oxs := rfl
@[simp] theorem setDrv_pipes (n k : Nat) (x : DrvSt) (s : State) : (setDrv n k x s).pipes = s.pipes := rfl
@[simp] theorem setDrv_pipeChs (n k : Nat) (x : DrvSt) (s : State) : (setDrv n k x s).pipeChs = s.pipeChs := rfl
@[simp] theorem setDrv_pipeRec (n k : Nat) (x : DrvSt) (s : State) : (setDrv n k x s).pipeRec = s.pipeRec := rfl
@[simp] theorem setDrv_pipeDead (n k : Nat) (x : DrvSt) (s : State) : (setDrv n k x s).pipeDead = s.pipeDead := rfl
@[simp] theorem setDrv_cfg (n k : Nat) (x : DrvSt) (s : State) : (setDrv n k x s).cfg = s.cfg := rfl
@[simp] theorem setDrv_fw (n k : Nat) (x : DrvSt) (s : State) : (setDrv n k x s).fw = s.fw := rfl
@[simp] theorem setDrv_mgt (n k : Nat) (x : DrvSt) (s : State) : (setDrv n k x s).mgt = s.mgt := rfl
@[simp] theorem setDrv_ide (n k : Nat) (x : DrvSt) (s : State) : (setDrv n k x s).ide = s.ide := rfl
@[simp] theorem setDrv_spdm (n k : Nat) (x : DrvSt) (s : State) : (setDrv n k x s).spdm = s.spdm := rfl

/-! ### `setPort` -/

@[simp] theorem modPort_eq (n : Nat) (f : PortSt → PortSt) (s : State) : modPort n f s = setPort n (f (s.port n)) s := rfl
@[simp] theorem setPort_same (n : Nat) (x : PortSt) (s : State) : (setPort n x s).port n = x := tget_tset_same ..
theorem setPort_ne (n n' : Nat) (x : PortSt) (s : State) (h : n ≠ n') :
    (setPort n x s).port n' = s.port n' := tget_tset_ne _ _ _ _ _ _ h
@[simp] theorem rd_setPort (n : Nat) (x : PortSt) (s : State) (b : Nat) (f : Fld) (i : Nat) :
    rd (setPort n x s) b f i = rd s b f i := rfl
@[simp] theorem setPort_pending (n : Nat) (x : PortSt) (s : State) : (setPort n x s).pending = s.pending := rfl
@[simp] theorem setPort_out (n : Nat) (x : PortSt) (s : State) : (setPort n x s).out = s.out := rfl
@[simp] theorem setPort_free (n : Nat) (x : PortSt) (s : State) : (setPort n x s).free = s.free := rfl
@[simp] theorem setPort_evq (n : Nat) (x : PortSt) (s : State) : (setPort n x s).evq = s.evq := rfl
@[simp] theorem setPort_memq (n : Nat) (x : PortSt) (s : State) : (setPort n x s).memq = s.memq := rfl
@[simp] theorem setPort_tick (n : Nat) (x : PortSt) (s : State) : (setPort n x s).tick = s.tick := rfl
@[simp] theorem setPort_ht (n : Nat) (x : PortSt) (s : State) : (setPort n x s).ht = s.ht := rfl
@[simp] theorem setPort_regs (n : Nat) (x : PortSt) (s : State) : (setPort n x s).regs = s.regs := rfl
@[simp] theorem setPort_eff (n : Nat) (x : PortSt) (s : State) : (setPort n x s).eff = s.eff := rfl
@[simp] theorem setPort_latch (n : Nat) (x : PortSt) (s : State) : (setPort n x s).latch = s.latch := rfl
@[simp] theorem setPort_mem (n : Nat) (x : PortSt) (s : State) : (setPort n x s).mem = s.mem := rfl
@[simp] theorem setPort_memLost (n : Nat) (x : PortSt) (s : State) : (setPort n x s).memLost = s.memLost := rfl
@[simp] theorem setPort_poison (n : Nat) (x : PortSt) (s : State) : (setPort n x s).poison = s.poison := rfl
@[simp] theorem setPort_hub (n : Nat) (x : PortSt) (s : State) : (setPort n x s).hub = s.hub := rfl
@[simp] theorem setPort_pins (n : Nat) (x : PortSt) (s : State) : (setPort n x s).pins = s.pins := rfl
@[simp] theorem setPort_evr (n : Nat) (x : PortSt) (s : State) : (setPort n x s).evr = s.evr := rfl
@[simp] theorem setPort_grants (n : Nat) (x : PortSt) (s : State) : (setPort n x s).grants = s.grants := rfl
@[simp] theorem setPort_mgtCeil (n : Nat) (x : PortSt) (s : State) : (setPort n x s).mgtCeil = s.mgtCeil := rfl
@[simp] theorem setPort_weirs (n : Nat) (x : PortSt) (s : State) : (setPort n x s).weirs = s.weirs := rfl
@[simp] theorem setPort_seqs (n : Nat) (x : PortSt) (s : State) : (setPort n x s).seqs = s.seqs := rfl
@[simp] theorem setPort_lamps (n : Nat) (x : PortSt) (s : State) : (setPort n x s).lamps = s.lamps := rfl
@[simp] theorem setPort_strs (n : Nat) (x : PortSt) (s : State) : (setPort n x s).strs = s.strs := rfl
@[simp] theorem setPort_drvs (n : Nat) (x : PortSt) (s : State) : (setPort n x s).drvs = s.drvs := rfl
@[simp] theorem setPort_curves (n : Nat) (x : PortSt) (s : State) : (setPort n x s).curves = s.curves := rfl
@[simp] theorem setPort_prog (n : Nat) (x : PortSt) (s : State) : (setPort n x s).prog = s.prog := rfl
@[simp] theorem setPort_descr (n : Nat) (x : PortSt) (s : State) : (setPort n x s).descr = s.descr := rfl
@[simp] theorem setPort_moves (n : Nat) (x : PortSt) (s : State) : (setPort n x s).moves = s.moves := rfl
@[simp] theorem setPort_slots (n : Nat) (x : PortSt) (s : State) : (setPort n x s).slots = s.slots := rfl
@[simp] theorem setPort_cores (n : Nat) (x : PortSt) (s : State) : (setPort n x s).cores = s.cores := rfl
@[simp] theorem setPort_eddys (n : Nat) (x : PortSt) (s : State) : (setPort n x s).eddys = s.eddys := rfl
@[simp] theorem setPort_lprog (n : Nat) (x : PortSt) (s : State) : (setPort n x s).lprog = s.lprog := rfl
@[simp] theorem setPort_ldata (n : Nat) (x : PortSt) (s : State) : (setPort n x s).ldata = s.ldata := rfl
@[simp] theorem setPort_binds (n : Nat) (x : PortSt) (s : State) : (setPort n x s).binds = s.binds := rfl
@[simp] theorem setPort_sps (n : Nat) (x : PortSt) (s : State) : (setPort n x s).sps = s.sps := rfl
@[simp] theorem setPort_spReg (n : Nat) (x : PortSt) (s : State) : (setPort n x s).spReg = s.spReg := rfl
@[simp] theorem setPort_serve (n : Nat) (x : PortSt) (s : State) : (setPort n x s).serve = s.serve := rfl
@[simp] theorem setPort_retired (n : Nat) (x : PortSt) (s : State) : (setPort n x s).retired = s.retired := rfl
@[simp] theorem setPort_thermAt (n : Nat) (x : PortSt) (s : State) : (setPort n x s).thermAt = s.thermAt := rfl
@[simp] theorem setPort_frms (n : Nat) (x : PortSt) (s : State) : (setPort n x s).frms = s.frms := rfl
@[simp] theorem setPort_fmts (n : Nat) (x : PortSt) (s : State) : (setPort n x s).fmts = s.fmts := rfl
@[simp] theorem setPort_time (n : Nat) (x : PortSt) (s : State) : (setPort n x s).time = s.time := rfl
@[simp] theorem setPort_dst (n : Nat) (x : PortSt) (s : State) : (setPort n x s).dst = s.dst := rfl
@[simp] theorem setPort_ddrs (n : Nat) (x : PortSt) (s : State) : (setPort n x s).ddrs = s.ddrs := rfl
@[simp] theorem setPort_dreqs (n : Nat) (x : PortSt) (s : State) : (setPort n x s).dreqs = s.dreqs := rfl
@[simp] theorem setPort_swBusy (n : Nat) (x : PortSt) (s : State) : (setPort n x s).swBusy = s.swBusy := rfl
@[simp] theorem setPort_spareRows (n : Nat) (x : PortSt) (s : State) : (setPort n x s).spareRows = s.spareRows := rfl
@[simp] theorem setPort_rates (n : Nat) (x : PortSt) (s : State) : (setPort n x s).rates = s.rates := rfl
@[simp] theorem setPort_surfs (n : Nat) (x : PortSt) (s : State) : (setPort n x s).surfs = s.surfs := rfl
@[simp] theorem setPort_flrs (n : Nat) (x : PortSt) (s : State) : (setPort n x s).flrs = s.flrs := rfl
@[simp] theorem setPort_chs (n : Nat) (x : PortSt) (s : State) : (setPort n x s).chs = s.chs := rfl
@[simp] theorem setPort_luts (n : Nat) (x : PortSt) (s : State) : (setPort n x s).luts = s.luts := rfl
@[simp] theorem setPort_cmds (n : Nat) (x : PortSt) (s : State) : (setPort n x s).cmds = s.cmds := rfl
@[simp] theorem setPort_nextCmd (n : Nat) (x : PortSt) (s : State) : (setPort n x s).nextCmd = s.nextCmd := rfl
@[simp] theorem setPort_rings (n : Nat) (x : PortSt) (s : State) : (setPort n x s).rings = s.rings := rfl
@[simp] theorem setPort_epochs (n : Nat) (x : PortSt) (s : State) : (setPort n x s).epochs = s.epochs := rfl
@[simp] theorem setPort_crosses (n : Nat) (x : PortSt) (s : State) : (setPort n x s).crosses = s.crosses := rfl
@[simp] theorem setPort_d2ds (n : Nat) (x : PortSt) (s : State) : (setPort n x s).d2ds = s.d2ds := rfl
@[simp] theorem setPort_lockAt (n : Nat) (x : PortSt) (s : State) : (setPort n x s).lockAt = s.lockAt := rfl
@[simp] theorem setPort_hk (n : Nat) (x : PortSt) (s : State) : (setPort n x s).hk = s.hk := rfl
@[simp] theorem setPort_cal (n : Nat) (x : PortSt) (s : State) : (setPort n x s).cal = s.cal := rfl
@[simp] theorem setPort_cals (n : Nat) (x : PortSt) (s : State) : (setPort n x s).cals = s.cals := rfl
@[simp] theorem setPort_calRec (n : Nat) (x : PortSt) (s : State) : (setPort n x s).calRec = s.calRec := rfl
@[simp] theorem setPort_curveDue (n : Nat) (x : PortSt) (s : State) : (setPort n x s).curveDue = s.curveDue := rfl
@[simp] theorem setPort_oxs (n : Nat) (x : PortSt) (s : State) : (setPort n x s).oxs = s.oxs := rfl
@[simp] theorem setPort_pipes (n : Nat) (x : PortSt) (s : State) : (setPort n x s).pipes = s.pipes := rfl
@[simp] theorem setPort_pipeChs (n : Nat) (x : PortSt) (s : State) : (setPort n x s).pipeChs = s.pipeChs := rfl
@[simp] theorem setPort_pipeRec (n : Nat) (x : PortSt) (s : State) : (setPort n x s).pipeRec = s.pipeRec := rfl
@[simp] theorem setPort_pipeDead (n : Nat) (x : PortSt) (s : State) : (setPort n x s).pipeDead = s.pipeDead := rfl
@[simp] theorem setPort_cfg (n : Nat) (x : PortSt) (s : State) : (setPort n x s).cfg = s.cfg := rfl
@[simp] theorem setPort_fw (n : Nat) (x : PortSt) (s : State) : (setPort n x s).fw = s.fw := rfl
@[simp] theorem setPort_mgt (n : Nat) (x : PortSt) (s : State) : (setPort n x s).mgt = s.mgt := rfl
@[simp] theorem setPort_ide (n : Nat) (x : PortSt) (s : State) : (setPort n x s).ide = s.ide := rfl
@[simp] theorem setPort_spdm (n : Nat) (x : PortSt) (s : State) : (setPort n x s).spdm = s.spdm := rfl

/-! ### `setFrms` -/

@[simp] theorem setFrms_same (n : Nat) (x : List Frm) (s : State) : (setFrms n x s).frmsOf n = x := tget_tset_same ..
theorem setFrms_ne (n n' : Nat) (x : List Frm) (s : State) (h : n ≠ n') :
    (setFrms n x s).frmsOf n' = s.frmsOf n' := tget_tset_ne _ _ _ _ _ _ h
@[simp] theorem rd_setFrms (n : Nat) (x : List Frm) (s : State) (b : Nat) (f : Fld) (i : Nat) :
    rd (setFrms n x s) b f i = rd s b f i := rfl
@[simp] theorem setFrms_pending (n : Nat) (x : List Frm) (s : State) : (setFrms n x s).pending = s.pending := rfl
@[simp] theorem setFrms_out (n : Nat) (x : List Frm) (s : State) : (setFrms n x s).out = s.out := rfl
@[simp] theorem setFrms_free (n : Nat) (x : List Frm) (s : State) : (setFrms n x s).free = s.free := rfl
@[simp] theorem setFrms_evq (n : Nat) (x : List Frm) (s : State) : (setFrms n x s).evq = s.evq := rfl
@[simp] theorem setFrms_memq (n : Nat) (x : List Frm) (s : State) : (setFrms n x s).memq = s.memq := rfl
@[simp] theorem setFrms_tick (n : Nat) (x : List Frm) (s : State) : (setFrms n x s).tick = s.tick := rfl
@[simp] theorem setFrms_ht (n : Nat) (x : List Frm) (s : State) : (setFrms n x s).ht = s.ht := rfl
@[simp] theorem setFrms_regs (n : Nat) (x : List Frm) (s : State) : (setFrms n x s).regs = s.regs := rfl
@[simp] theorem setFrms_eff (n : Nat) (x : List Frm) (s : State) : (setFrms n x s).eff = s.eff := rfl
@[simp] theorem setFrms_latch (n : Nat) (x : List Frm) (s : State) : (setFrms n x s).latch = s.latch := rfl
@[simp] theorem setFrms_mem (n : Nat) (x : List Frm) (s : State) : (setFrms n x s).mem = s.mem := rfl
@[simp] theorem setFrms_memLost (n : Nat) (x : List Frm) (s : State) : (setFrms n x s).memLost = s.memLost := rfl
@[simp] theorem setFrms_poison (n : Nat) (x : List Frm) (s : State) : (setFrms n x s).poison = s.poison := rfl
@[simp] theorem setFrms_hub (n : Nat) (x : List Frm) (s : State) : (setFrms n x s).hub = s.hub := rfl
@[simp] theorem setFrms_pins (n : Nat) (x : List Frm) (s : State) : (setFrms n x s).pins = s.pins := rfl
@[simp] theorem setFrms_evr (n : Nat) (x : List Frm) (s : State) : (setFrms n x s).evr = s.evr := rfl
@[simp] theorem setFrms_grants (n : Nat) (x : List Frm) (s : State) : (setFrms n x s).grants = s.grants := rfl
@[simp] theorem setFrms_mgtCeil (n : Nat) (x : List Frm) (s : State) : (setFrms n x s).mgtCeil = s.mgtCeil := rfl
@[simp] theorem setFrms_weirs (n : Nat) (x : List Frm) (s : State) : (setFrms n x s).weirs = s.weirs := rfl
@[simp] theorem setFrms_seqs (n : Nat) (x : List Frm) (s : State) : (setFrms n x s).seqs = s.seqs := rfl
@[simp] theorem setFrms_lamps (n : Nat) (x : List Frm) (s : State) : (setFrms n x s).lamps = s.lamps := rfl
@[simp] theorem setFrms_strs (n : Nat) (x : List Frm) (s : State) : (setFrms n x s).strs = s.strs := rfl
@[simp] theorem setFrms_drvs (n : Nat) (x : List Frm) (s : State) : (setFrms n x s).drvs = s.drvs := rfl
@[simp] theorem setFrms_ports (n : Nat) (x : List Frm) (s : State) : (setFrms n x s).ports = s.ports := rfl
@[simp] theorem setFrms_curves (n : Nat) (x : List Frm) (s : State) : (setFrms n x s).curves = s.curves := rfl
@[simp] theorem setFrms_prog (n : Nat) (x : List Frm) (s : State) : (setFrms n x s).prog = s.prog := rfl
@[simp] theorem setFrms_descr (n : Nat) (x : List Frm) (s : State) : (setFrms n x s).descr = s.descr := rfl
@[simp] theorem setFrms_moves (n : Nat) (x : List Frm) (s : State) : (setFrms n x s).moves = s.moves := rfl
@[simp] theorem setFrms_slots (n : Nat) (x : List Frm) (s : State) : (setFrms n x s).slots = s.slots := rfl
@[simp] theorem setFrms_cores (n : Nat) (x : List Frm) (s : State) : (setFrms n x s).cores = s.cores := rfl
@[simp] theorem setFrms_eddys (n : Nat) (x : List Frm) (s : State) : (setFrms n x s).eddys = s.eddys := rfl
@[simp] theorem setFrms_lprog (n : Nat) (x : List Frm) (s : State) : (setFrms n x s).lprog = s.lprog := rfl
@[simp] theorem setFrms_ldata (n : Nat) (x : List Frm) (s : State) : (setFrms n x s).ldata = s.ldata := rfl
@[simp] theorem setFrms_binds (n : Nat) (x : List Frm) (s : State) : (setFrms n x s).binds = s.binds := rfl
@[simp] theorem setFrms_sps (n : Nat) (x : List Frm) (s : State) : (setFrms n x s).sps = s.sps := rfl
@[simp] theorem setFrms_spReg (n : Nat) (x : List Frm) (s : State) : (setFrms n x s).spReg = s.spReg := rfl
@[simp] theorem setFrms_serve (n : Nat) (x : List Frm) (s : State) : (setFrms n x s).serve = s.serve := rfl
@[simp] theorem setFrms_retired (n : Nat) (x : List Frm) (s : State) : (setFrms n x s).retired = s.retired := rfl
@[simp] theorem setFrms_thermAt (n : Nat) (x : List Frm) (s : State) : (setFrms n x s).thermAt = s.thermAt := rfl
@[simp] theorem setFrms_fmts (n : Nat) (x : List Frm) (s : State) : (setFrms n x s).fmts = s.fmts := rfl
@[simp] theorem setFrms_time (n : Nat) (x : List Frm) (s : State) : (setFrms n x s).time = s.time := rfl
@[simp] theorem setFrms_dst (n : Nat) (x : List Frm) (s : State) : (setFrms n x s).dst = s.dst := rfl
@[simp] theorem setFrms_ddrs (n : Nat) (x : List Frm) (s : State) : (setFrms n x s).ddrs = s.ddrs := rfl
@[simp] theorem setFrms_dreqs (n : Nat) (x : List Frm) (s : State) : (setFrms n x s).dreqs = s.dreqs := rfl
@[simp] theorem setFrms_swBusy (n : Nat) (x : List Frm) (s : State) : (setFrms n x s).swBusy = s.swBusy := rfl
@[simp] theorem setFrms_spareRows (n : Nat) (x : List Frm) (s : State) : (setFrms n x s).spareRows = s.spareRows := rfl
@[simp] theorem setFrms_rates (n : Nat) (x : List Frm) (s : State) : (setFrms n x s).rates = s.rates := rfl
@[simp] theorem setFrms_surfs (n : Nat) (x : List Frm) (s : State) : (setFrms n x s).surfs = s.surfs := rfl
@[simp] theorem setFrms_flrs (n : Nat) (x : List Frm) (s : State) : (setFrms n x s).flrs = s.flrs := rfl
@[simp] theorem setFrms_chs (n : Nat) (x : List Frm) (s : State) : (setFrms n x s).chs = s.chs := rfl
@[simp] theorem setFrms_luts (n : Nat) (x : List Frm) (s : State) : (setFrms n x s).luts = s.luts := rfl
@[simp] theorem setFrms_cmds (n : Nat) (x : List Frm) (s : State) : (setFrms n x s).cmds = s.cmds := rfl
@[simp] theorem setFrms_nextCmd (n : Nat) (x : List Frm) (s : State) : (setFrms n x s).nextCmd = s.nextCmd := rfl
@[simp] theorem setFrms_rings (n : Nat) (x : List Frm) (s : State) : (setFrms n x s).rings = s.rings := rfl
@[simp] theorem setFrms_epochs (n : Nat) (x : List Frm) (s : State) : (setFrms n x s).epochs = s.epochs := rfl
@[simp] theorem setFrms_crosses (n : Nat) (x : List Frm) (s : State) : (setFrms n x s).crosses = s.crosses := rfl
@[simp] theorem setFrms_d2ds (n : Nat) (x : List Frm) (s : State) : (setFrms n x s).d2ds = s.d2ds := rfl
@[simp] theorem setFrms_lockAt (n : Nat) (x : List Frm) (s : State) : (setFrms n x s).lockAt = s.lockAt := rfl
@[simp] theorem setFrms_hk (n : Nat) (x : List Frm) (s : State) : (setFrms n x s).hk = s.hk := rfl
@[simp] theorem setFrms_cal (n : Nat) (x : List Frm) (s : State) : (setFrms n x s).cal = s.cal := rfl
@[simp] theorem setFrms_cals (n : Nat) (x : List Frm) (s : State) : (setFrms n x s).cals = s.cals := rfl
@[simp] theorem setFrms_calRec (n : Nat) (x : List Frm) (s : State) : (setFrms n x s).calRec = s.calRec := rfl
@[simp] theorem setFrms_curveDue (n : Nat) (x : List Frm) (s : State) : (setFrms n x s).curveDue = s.curveDue := rfl
@[simp] theorem setFrms_oxs (n : Nat) (x : List Frm) (s : State) : (setFrms n x s).oxs = s.oxs := rfl
@[simp] theorem setFrms_pipes (n : Nat) (x : List Frm) (s : State) : (setFrms n x s).pipes = s.pipes := rfl
@[simp] theorem setFrms_pipeChs (n : Nat) (x : List Frm) (s : State) : (setFrms n x s).pipeChs = s.pipeChs := rfl
@[simp] theorem setFrms_pipeRec (n : Nat) (x : List Frm) (s : State) : (setFrms n x s).pipeRec = s.pipeRec := rfl
@[simp] theorem setFrms_pipeDead (n : Nat) (x : List Frm) (s : State) : (setFrms n x s).pipeDead = s.pipeDead := rfl
@[simp] theorem setFrms_cfg (n : Nat) (x : List Frm) (s : State) : (setFrms n x s).cfg = s.cfg := rfl
@[simp] theorem setFrms_fw (n : Nat) (x : List Frm) (s : State) : (setFrms n x s).fw = s.fw := rfl
@[simp] theorem setFrms_mgt (n : Nat) (x : List Frm) (s : State) : (setFrms n x s).mgt = s.mgt := rfl
@[simp] theorem setFrms_ide (n : Nat) (x : List Frm) (s : State) : (setFrms n x s).ide = s.ide := rfl
@[simp] theorem setFrms_spdm (n : Nat) (x : List Frm) (s : State) : (setFrms n x s).spdm = s.spdm := rfl

/-! ### `setFmts` -/

@[simp] theorem setFmts_same (n : Nat) (x : List Fmt) (s : State) : (setFmts n x s).fmtsOf n = x := tget_tset_same ..
theorem setFmts_ne (n n' : Nat) (x : List Fmt) (s : State) (h : n ≠ n') :
    (setFmts n x s).fmtsOf n' = s.fmtsOf n' := tget_tset_ne _ _ _ _ _ _ h
@[simp] theorem rd_setFmts (n : Nat) (x : List Fmt) (s : State) (b : Nat) (f : Fld) (i : Nat) :
    rd (setFmts n x s) b f i = rd s b f i := rfl
@[simp] theorem setFmts_pending (n : Nat) (x : List Fmt) (s : State) : (setFmts n x s).pending = s.pending := rfl
@[simp] theorem setFmts_out (n : Nat) (x : List Fmt) (s : State) : (setFmts n x s).out = s.out := rfl
@[simp] theorem setFmts_free (n : Nat) (x : List Fmt) (s : State) : (setFmts n x s).free = s.free := rfl
@[simp] theorem setFmts_evq (n : Nat) (x : List Fmt) (s : State) : (setFmts n x s).evq = s.evq := rfl
@[simp] theorem setFmts_memq (n : Nat) (x : List Fmt) (s : State) : (setFmts n x s).memq = s.memq := rfl
@[simp] theorem setFmts_tick (n : Nat) (x : List Fmt) (s : State) : (setFmts n x s).tick = s.tick := rfl
@[simp] theorem setFmts_ht (n : Nat) (x : List Fmt) (s : State) : (setFmts n x s).ht = s.ht := rfl
@[simp] theorem setFmts_regs (n : Nat) (x : List Fmt) (s : State) : (setFmts n x s).regs = s.regs := rfl
@[simp] theorem setFmts_eff (n : Nat) (x : List Fmt) (s : State) : (setFmts n x s).eff = s.eff := rfl
@[simp] theorem setFmts_latch (n : Nat) (x : List Fmt) (s : State) : (setFmts n x s).latch = s.latch := rfl
@[simp] theorem setFmts_mem (n : Nat) (x : List Fmt) (s : State) : (setFmts n x s).mem = s.mem := rfl
@[simp] theorem setFmts_memLost (n : Nat) (x : List Fmt) (s : State) : (setFmts n x s).memLost = s.memLost := rfl
@[simp] theorem setFmts_poison (n : Nat) (x : List Fmt) (s : State) : (setFmts n x s).poison = s.poison := rfl
@[simp] theorem setFmts_hub (n : Nat) (x : List Fmt) (s : State) : (setFmts n x s).hub = s.hub := rfl
@[simp] theorem setFmts_pins (n : Nat) (x : List Fmt) (s : State) : (setFmts n x s).pins = s.pins := rfl
@[simp] theorem setFmts_evr (n : Nat) (x : List Fmt) (s : State) : (setFmts n x s).evr = s.evr := rfl
@[simp] theorem setFmts_grants (n : Nat) (x : List Fmt) (s : State) : (setFmts n x s).grants = s.grants := rfl
@[simp] theorem setFmts_mgtCeil (n : Nat) (x : List Fmt) (s : State) : (setFmts n x s).mgtCeil = s.mgtCeil := rfl
@[simp] theorem setFmts_weirs (n : Nat) (x : List Fmt) (s : State) : (setFmts n x s).weirs = s.weirs := rfl
@[simp] theorem setFmts_seqs (n : Nat) (x : List Fmt) (s : State) : (setFmts n x s).seqs = s.seqs := rfl
@[simp] theorem setFmts_lamps (n : Nat) (x : List Fmt) (s : State) : (setFmts n x s).lamps = s.lamps := rfl
@[simp] theorem setFmts_strs (n : Nat) (x : List Fmt) (s : State) : (setFmts n x s).strs = s.strs := rfl
@[simp] theorem setFmts_drvs (n : Nat) (x : List Fmt) (s : State) : (setFmts n x s).drvs = s.drvs := rfl
@[simp] theorem setFmts_ports (n : Nat) (x : List Fmt) (s : State) : (setFmts n x s).ports = s.ports := rfl
@[simp] theorem setFmts_curves (n : Nat) (x : List Fmt) (s : State) : (setFmts n x s).curves = s.curves := rfl
@[simp] theorem setFmts_prog (n : Nat) (x : List Fmt) (s : State) : (setFmts n x s).prog = s.prog := rfl
@[simp] theorem setFmts_descr (n : Nat) (x : List Fmt) (s : State) : (setFmts n x s).descr = s.descr := rfl
@[simp] theorem setFmts_moves (n : Nat) (x : List Fmt) (s : State) : (setFmts n x s).moves = s.moves := rfl
@[simp] theorem setFmts_slots (n : Nat) (x : List Fmt) (s : State) : (setFmts n x s).slots = s.slots := rfl
@[simp] theorem setFmts_cores (n : Nat) (x : List Fmt) (s : State) : (setFmts n x s).cores = s.cores := rfl
@[simp] theorem setFmts_eddys (n : Nat) (x : List Fmt) (s : State) : (setFmts n x s).eddys = s.eddys := rfl
@[simp] theorem setFmts_lprog (n : Nat) (x : List Fmt) (s : State) : (setFmts n x s).lprog = s.lprog := rfl
@[simp] theorem setFmts_ldata (n : Nat) (x : List Fmt) (s : State) : (setFmts n x s).ldata = s.ldata := rfl
@[simp] theorem setFmts_binds (n : Nat) (x : List Fmt) (s : State) : (setFmts n x s).binds = s.binds := rfl
@[simp] theorem setFmts_sps (n : Nat) (x : List Fmt) (s : State) : (setFmts n x s).sps = s.sps := rfl
@[simp] theorem setFmts_spReg (n : Nat) (x : List Fmt) (s : State) : (setFmts n x s).spReg = s.spReg := rfl
@[simp] theorem setFmts_serve (n : Nat) (x : List Fmt) (s : State) : (setFmts n x s).serve = s.serve := rfl
@[simp] theorem setFmts_retired (n : Nat) (x : List Fmt) (s : State) : (setFmts n x s).retired = s.retired := rfl
@[simp] theorem setFmts_thermAt (n : Nat) (x : List Fmt) (s : State) : (setFmts n x s).thermAt = s.thermAt := rfl
@[simp] theorem setFmts_frms (n : Nat) (x : List Fmt) (s : State) : (setFmts n x s).frms = s.frms := rfl
@[simp] theorem setFmts_time (n : Nat) (x : List Fmt) (s : State) : (setFmts n x s).time = s.time := rfl
@[simp] theorem setFmts_dst (n : Nat) (x : List Fmt) (s : State) : (setFmts n x s).dst = s.dst := rfl
@[simp] theorem setFmts_ddrs (n : Nat) (x : List Fmt) (s : State) : (setFmts n x s).ddrs = s.ddrs := rfl
@[simp] theorem setFmts_dreqs (n : Nat) (x : List Fmt) (s : State) : (setFmts n x s).dreqs = s.dreqs := rfl
@[simp] theorem setFmts_swBusy (n : Nat) (x : List Fmt) (s : State) : (setFmts n x s).swBusy = s.swBusy := rfl
@[simp] theorem setFmts_spareRows (n : Nat) (x : List Fmt) (s : State) : (setFmts n x s).spareRows = s.spareRows := rfl
@[simp] theorem setFmts_rates (n : Nat) (x : List Fmt) (s : State) : (setFmts n x s).rates = s.rates := rfl
@[simp] theorem setFmts_surfs (n : Nat) (x : List Fmt) (s : State) : (setFmts n x s).surfs = s.surfs := rfl
@[simp] theorem setFmts_flrs (n : Nat) (x : List Fmt) (s : State) : (setFmts n x s).flrs = s.flrs := rfl
@[simp] theorem setFmts_chs (n : Nat) (x : List Fmt) (s : State) : (setFmts n x s).chs = s.chs := rfl
@[simp] theorem setFmts_luts (n : Nat) (x : List Fmt) (s : State) : (setFmts n x s).luts = s.luts := rfl
@[simp] theorem setFmts_cmds (n : Nat) (x : List Fmt) (s : State) : (setFmts n x s).cmds = s.cmds := rfl
@[simp] theorem setFmts_nextCmd (n : Nat) (x : List Fmt) (s : State) : (setFmts n x s).nextCmd = s.nextCmd := rfl
@[simp] theorem setFmts_rings (n : Nat) (x : List Fmt) (s : State) : (setFmts n x s).rings = s.rings := rfl
@[simp] theorem setFmts_epochs (n : Nat) (x : List Fmt) (s : State) : (setFmts n x s).epochs = s.epochs := rfl
@[simp] theorem setFmts_crosses (n : Nat) (x : List Fmt) (s : State) : (setFmts n x s).crosses = s.crosses := rfl
@[simp] theorem setFmts_d2ds (n : Nat) (x : List Fmt) (s : State) : (setFmts n x s).d2ds = s.d2ds := rfl
@[simp] theorem setFmts_lockAt (n : Nat) (x : List Fmt) (s : State) : (setFmts n x s).lockAt = s.lockAt := rfl
@[simp] theorem setFmts_hk (n : Nat) (x : List Fmt) (s : State) : (setFmts n x s).hk = s.hk := rfl
@[simp] theorem setFmts_cal (n : Nat) (x : List Fmt) (s : State) : (setFmts n x s).cal = s.cal := rfl
@[simp] theorem setFmts_cals (n : Nat) (x : List Fmt) (s : State) : (setFmts n x s).cals = s.cals := rfl
@[simp] theorem setFmts_calRec (n : Nat) (x : List Fmt) (s : State) : (setFmts n x s).calRec = s.calRec := rfl
@[simp] theorem setFmts_curveDue (n : Nat) (x : List Fmt) (s : State) : (setFmts n x s).curveDue = s.curveDue := rfl
@[simp] theorem setFmts_oxs (n : Nat) (x : List Fmt) (s : State) : (setFmts n x s).oxs = s.oxs := rfl
@[simp] theorem setFmts_pipes (n : Nat) (x : List Fmt) (s : State) : (setFmts n x s).pipes = s.pipes := rfl
@[simp] theorem setFmts_pipeChs (n : Nat) (x : List Fmt) (s : State) : (setFmts n x s).pipeChs = s.pipeChs := rfl
@[simp] theorem setFmts_pipeRec (n : Nat) (x : List Fmt) (s : State) : (setFmts n x s).pipeRec = s.pipeRec := rfl
@[simp] theorem setFmts_pipeDead (n : Nat) (x : List Fmt) (s : State) : (setFmts n x s).pipeDead = s.pipeDead := rfl
@[simp] theorem setFmts_cfg (n : Nat) (x : List Fmt) (s : State) : (setFmts n x s).cfg = s.cfg := rfl
@[simp] theorem setFmts_fw (n : Nat) (x : List Fmt) (s : State) : (setFmts n x s).fw = s.fw := rfl
@[simp] theorem setFmts_mgt (n : Nat) (x : List Fmt) (s : State) : (setFmts n x s).mgt = s.mgt := rfl
@[simp] theorem setFmts_ide (n : Nat) (x : List Fmt) (s : State) : (setFmts n x s).ide = s.ide := rfl
@[simp] theorem setFmts_spdm (n : Nat) (x : List Fmt) (s : State) : (setFmts n x s).spdm = s.spdm := rfl

/-! ### `setCh` -/

@[simp] theorem modCh_eq (n : Nat) (f : ChSt → ChSt) (s : State) : modCh n f s = setCh n (f (s.chst n)) s := rfl
@[simp] theorem setCh_same (n : Nat) (x : ChSt) (s : State) : (setCh n x s).chst n = x := tget_tset_same ..
theorem setCh_ne (n n' : Nat) (x : ChSt) (s : State) (h : n ≠ n') :
    (setCh n x s).chst n' = s.chst n' := tget_tset_ne _ _ _ _ _ _ h
@[simp] theorem rd_setCh (n : Nat) (x : ChSt) (s : State) (b : Nat) (f : Fld) (i : Nat) :
    rd (setCh n x s) b f i = rd s b f i := rfl
@[simp] theorem setCh_pending (n : Nat) (x : ChSt) (s : State) : (setCh n x s).pending = s.pending := rfl
@[simp] theorem setCh_out (n : Nat) (x : ChSt) (s : State) : (setCh n x s).out = s.out := rfl
@[simp] theorem setCh_free (n : Nat) (x : ChSt) (s : State) : (setCh n x s).free = s.free := rfl
@[simp] theorem setCh_evq (n : Nat) (x : ChSt) (s : State) : (setCh n x s).evq = s.evq := rfl
@[simp] theorem setCh_memq (n : Nat) (x : ChSt) (s : State) : (setCh n x s).memq = s.memq := rfl
@[simp] theorem setCh_tick (n : Nat) (x : ChSt) (s : State) : (setCh n x s).tick = s.tick := rfl
@[simp] theorem setCh_ht (n : Nat) (x : ChSt) (s : State) : (setCh n x s).ht = s.ht := rfl
@[simp] theorem setCh_regs (n : Nat) (x : ChSt) (s : State) : (setCh n x s).regs = s.regs := rfl
@[simp] theorem setCh_eff (n : Nat) (x : ChSt) (s : State) : (setCh n x s).eff = s.eff := rfl
@[simp] theorem setCh_latch (n : Nat) (x : ChSt) (s : State) : (setCh n x s).latch = s.latch := rfl
@[simp] theorem setCh_mem (n : Nat) (x : ChSt) (s : State) : (setCh n x s).mem = s.mem := rfl
@[simp] theorem setCh_memLost (n : Nat) (x : ChSt) (s : State) : (setCh n x s).memLost = s.memLost := rfl
@[simp] theorem setCh_poison (n : Nat) (x : ChSt) (s : State) : (setCh n x s).poison = s.poison := rfl
@[simp] theorem setCh_hub (n : Nat) (x : ChSt) (s : State) : (setCh n x s).hub = s.hub := rfl
@[simp] theorem setCh_pins (n : Nat) (x : ChSt) (s : State) : (setCh n x s).pins = s.pins := rfl
@[simp] theorem setCh_evr (n : Nat) (x : ChSt) (s : State) : (setCh n x s).evr = s.evr := rfl
@[simp] theorem setCh_grants (n : Nat) (x : ChSt) (s : State) : (setCh n x s).grants = s.grants := rfl
@[simp] theorem setCh_mgtCeil (n : Nat) (x : ChSt) (s : State) : (setCh n x s).mgtCeil = s.mgtCeil := rfl
@[simp] theorem setCh_weirs (n : Nat) (x : ChSt) (s : State) : (setCh n x s).weirs = s.weirs := rfl
@[simp] theorem setCh_seqs (n : Nat) (x : ChSt) (s : State) : (setCh n x s).seqs = s.seqs := rfl
@[simp] theorem setCh_lamps (n : Nat) (x : ChSt) (s : State) : (setCh n x s).lamps = s.lamps := rfl
@[simp] theorem setCh_strs (n : Nat) (x : ChSt) (s : State) : (setCh n x s).strs = s.strs := rfl
@[simp] theorem setCh_drvs (n : Nat) (x : ChSt) (s : State) : (setCh n x s).drvs = s.drvs := rfl
@[simp] theorem setCh_ports (n : Nat) (x : ChSt) (s : State) : (setCh n x s).ports = s.ports := rfl
@[simp] theorem setCh_curves (n : Nat) (x : ChSt) (s : State) : (setCh n x s).curves = s.curves := rfl
@[simp] theorem setCh_prog (n : Nat) (x : ChSt) (s : State) : (setCh n x s).prog = s.prog := rfl
@[simp] theorem setCh_descr (n : Nat) (x : ChSt) (s : State) : (setCh n x s).descr = s.descr := rfl
@[simp] theorem setCh_moves (n : Nat) (x : ChSt) (s : State) : (setCh n x s).moves = s.moves := rfl
@[simp] theorem setCh_slots (n : Nat) (x : ChSt) (s : State) : (setCh n x s).slots = s.slots := rfl
@[simp] theorem setCh_cores (n : Nat) (x : ChSt) (s : State) : (setCh n x s).cores = s.cores := rfl
@[simp] theorem setCh_eddys (n : Nat) (x : ChSt) (s : State) : (setCh n x s).eddys = s.eddys := rfl
@[simp] theorem setCh_lprog (n : Nat) (x : ChSt) (s : State) : (setCh n x s).lprog = s.lprog := rfl
@[simp] theorem setCh_ldata (n : Nat) (x : ChSt) (s : State) : (setCh n x s).ldata = s.ldata := rfl
@[simp] theorem setCh_binds (n : Nat) (x : ChSt) (s : State) : (setCh n x s).binds = s.binds := rfl
@[simp] theorem setCh_sps (n : Nat) (x : ChSt) (s : State) : (setCh n x s).sps = s.sps := rfl
@[simp] theorem setCh_spReg (n : Nat) (x : ChSt) (s : State) : (setCh n x s).spReg = s.spReg := rfl
@[simp] theorem setCh_serve (n : Nat) (x : ChSt) (s : State) : (setCh n x s).serve = s.serve := rfl
@[simp] theorem setCh_retired (n : Nat) (x : ChSt) (s : State) : (setCh n x s).retired = s.retired := rfl
@[simp] theorem setCh_thermAt (n : Nat) (x : ChSt) (s : State) : (setCh n x s).thermAt = s.thermAt := rfl
@[simp] theorem setCh_frms (n : Nat) (x : ChSt) (s : State) : (setCh n x s).frms = s.frms := rfl
@[simp] theorem setCh_fmts (n : Nat) (x : ChSt) (s : State) : (setCh n x s).fmts = s.fmts := rfl
@[simp] theorem setCh_time (n : Nat) (x : ChSt) (s : State) : (setCh n x s).time = s.time := rfl
@[simp] theorem setCh_dst (n : Nat) (x : ChSt) (s : State) : (setCh n x s).dst = s.dst := rfl
@[simp] theorem setCh_ddrs (n : Nat) (x : ChSt) (s : State) : (setCh n x s).ddrs = s.ddrs := rfl
@[simp] theorem setCh_dreqs (n : Nat) (x : ChSt) (s : State) : (setCh n x s).dreqs = s.dreqs := rfl
@[simp] theorem setCh_swBusy (n : Nat) (x : ChSt) (s : State) : (setCh n x s).swBusy = s.swBusy := rfl
@[simp] theorem setCh_spareRows (n : Nat) (x : ChSt) (s : State) : (setCh n x s).spareRows = s.spareRows := rfl
@[simp] theorem setCh_rates (n : Nat) (x : ChSt) (s : State) : (setCh n x s).rates = s.rates := rfl
@[simp] theorem setCh_surfs (n : Nat) (x : ChSt) (s : State) : (setCh n x s).surfs = s.surfs := rfl
@[simp] theorem setCh_flrs (n : Nat) (x : ChSt) (s : State) : (setCh n x s).flrs = s.flrs := rfl
@[simp] theorem setCh_luts (n : Nat) (x : ChSt) (s : State) : (setCh n x s).luts = s.luts := rfl
@[simp] theorem setCh_cmds (n : Nat) (x : ChSt) (s : State) : (setCh n x s).cmds = s.cmds := rfl
@[simp] theorem setCh_nextCmd (n : Nat) (x : ChSt) (s : State) : (setCh n x s).nextCmd = s.nextCmd := rfl
@[simp] theorem setCh_rings (n : Nat) (x : ChSt) (s : State) : (setCh n x s).rings = s.rings := rfl
@[simp] theorem setCh_epochs (n : Nat) (x : ChSt) (s : State) : (setCh n x s).epochs = s.epochs := rfl
@[simp] theorem setCh_crosses (n : Nat) (x : ChSt) (s : State) : (setCh n x s).crosses = s.crosses := rfl
@[simp] theorem setCh_d2ds (n : Nat) (x : ChSt) (s : State) : (setCh n x s).d2ds = s.d2ds := rfl
@[simp] theorem setCh_lockAt (n : Nat) (x : ChSt) (s : State) : (setCh n x s).lockAt = s.lockAt := rfl
@[simp] theorem setCh_hk (n : Nat) (x : ChSt) (s : State) : (setCh n x s).hk = s.hk := rfl
@[simp] theorem setCh_cal (n : Nat) (x : ChSt) (s : State) : (setCh n x s).cal = s.cal := rfl
@[simp] theorem setCh_cals (n : Nat) (x : ChSt) (s : State) : (setCh n x s).cals = s.cals := rfl
@[simp] theorem setCh_calRec (n : Nat) (x : ChSt) (s : State) : (setCh n x s).calRec = s.calRec := rfl
@[simp] theorem setCh_curveDue (n : Nat) (x : ChSt) (s : State) : (setCh n x s).curveDue = s.curveDue := rfl
@[simp] theorem setCh_oxs (n : Nat) (x : ChSt) (s : State) : (setCh n x s).oxs = s.oxs := rfl
@[simp] theorem setCh_pipes (n : Nat) (x : ChSt) (s : State) : (setCh n x s).pipes = s.pipes := rfl
@[simp] theorem setCh_pipeChs (n : Nat) (x : ChSt) (s : State) : (setCh n x s).pipeChs = s.pipeChs := rfl
@[simp] theorem setCh_pipeRec (n : Nat) (x : ChSt) (s : State) : (setCh n x s).pipeRec = s.pipeRec := rfl
@[simp] theorem setCh_pipeDead (n : Nat) (x : ChSt) (s : State) : (setCh n x s).pipeDead = s.pipeDead := rfl
@[simp] theorem setCh_cfg (n : Nat) (x : ChSt) (s : State) : (setCh n x s).cfg = s.cfg := rfl
@[simp] theorem setCh_fw (n : Nat) (x : ChSt) (s : State) : (setCh n x s).fw = s.fw := rfl
@[simp] theorem setCh_mgt (n : Nat) (x : ChSt) (s : State) : (setCh n x s).mgt = s.mgt := rfl
@[simp] theorem setCh_ide (n : Nat) (x : ChSt) (s : State) : (setCh n x s).ide = s.ide := rfl
@[simp] theorem setCh_spdm (n : Nat) (x : ChSt) (s : State) : (setCh n x s).spdm = s.spdm := rfl

/-! ### `setSlot` -/

@[simp] theorem modSlot_eq (n : Nat) (f : SlotSt → SlotSt) (s : State) : modSlot n f s = setSlot n (f (s.slot n)) s := rfl
@[simp] theorem setSlot_same (n : Nat) (x : SlotSt) (s : State) : (setSlot n x s).slot n = x := tget_tset_same ..
theorem setSlot_ne (n n' : Nat) (x : SlotSt) (s : State) (h : n ≠ n') :
    (setSlot n x s).slot n' = s.slot n' := tget_tset_ne _ _ _ _ _ _ h
@[simp] theorem rd_setSlot (n : Nat) (x : SlotSt) (s : State) (b : Nat) (f : Fld) (i : Nat) :
    rd (setSlot n x s) b f i = rd s b f i := rfl
@[simp] theorem setSlot_pending (n : Nat) (x : SlotSt) (s : State) : (setSlot n x s).pending = s.pending := rfl
@[simp] theorem setSlot_out (n : Nat) (x : SlotSt) (s : State) : (setSlot n x s).out = s.out := rfl
@[simp] theorem setSlot_free (n : Nat) (x : SlotSt) (s : State) : (setSlot n x s).free = s.free := rfl
@[simp] theorem setSlot_evq (n : Nat) (x : SlotSt) (s : State) : (setSlot n x s).evq = s.evq := rfl
@[simp] theorem setSlot_memq (n : Nat) (x : SlotSt) (s : State) : (setSlot n x s).memq = s.memq := rfl
@[simp] theorem setSlot_tick (n : Nat) (x : SlotSt) (s : State) : (setSlot n x s).tick = s.tick := rfl
@[simp] theorem setSlot_ht (n : Nat) (x : SlotSt) (s : State) : (setSlot n x s).ht = s.ht := rfl
@[simp] theorem setSlot_regs (n : Nat) (x : SlotSt) (s : State) : (setSlot n x s).regs = s.regs := rfl
@[simp] theorem setSlot_eff (n : Nat) (x : SlotSt) (s : State) : (setSlot n x s).eff = s.eff := rfl
@[simp] theorem setSlot_latch (n : Nat) (x : SlotSt) (s : State) : (setSlot n x s).latch = s.latch := rfl
@[simp] theorem setSlot_mem (n : Nat) (x : SlotSt) (s : State) : (setSlot n x s).mem = s.mem := rfl
@[simp] theorem setSlot_memLost (n : Nat) (x : SlotSt) (s : State) : (setSlot n x s).memLost = s.memLost := rfl
@[simp] theorem setSlot_poison (n : Nat) (x : SlotSt) (s : State) : (setSlot n x s).poison = s.poison := rfl
@[simp] theorem setSlot_hub (n : Nat) (x : SlotSt) (s : State) : (setSlot n x s).hub = s.hub := rfl
@[simp] theorem setSlot_pins (n : Nat) (x : SlotSt) (s : State) : (setSlot n x s).pins = s.pins := rfl
@[simp] theorem setSlot_evr (n : Nat) (x : SlotSt) (s : State) : (setSlot n x s).evr = s.evr := rfl
@[simp] theorem setSlot_grants (n : Nat) (x : SlotSt) (s : State) : (setSlot n x s).grants = s.grants := rfl
@[simp] theorem setSlot_mgtCeil (n : Nat) (x : SlotSt) (s : State) : (setSlot n x s).mgtCeil = s.mgtCeil := rfl
@[simp] theorem setSlot_weirs (n : Nat) (x : SlotSt) (s : State) : (setSlot n x s).weirs = s.weirs := rfl
@[simp] theorem setSlot_seqs (n : Nat) (x : SlotSt) (s : State) : (setSlot n x s).seqs = s.seqs := rfl
@[simp] theorem setSlot_lamps (n : Nat) (x : SlotSt) (s : State) : (setSlot n x s).lamps = s.lamps := rfl
@[simp] theorem setSlot_strs (n : Nat) (x : SlotSt) (s : State) : (setSlot n x s).strs = s.strs := rfl
@[simp] theorem setSlot_drvs (n : Nat) (x : SlotSt) (s : State) : (setSlot n x s).drvs = s.drvs := rfl
@[simp] theorem setSlot_ports (n : Nat) (x : SlotSt) (s : State) : (setSlot n x s).ports = s.ports := rfl
@[simp] theorem setSlot_curves (n : Nat) (x : SlotSt) (s : State) : (setSlot n x s).curves = s.curves := rfl
@[simp] theorem setSlot_prog (n : Nat) (x : SlotSt) (s : State) : (setSlot n x s).prog = s.prog := rfl
@[simp] theorem setSlot_descr (n : Nat) (x : SlotSt) (s : State) : (setSlot n x s).descr = s.descr := rfl
@[simp] theorem setSlot_moves (n : Nat) (x : SlotSt) (s : State) : (setSlot n x s).moves = s.moves := rfl
@[simp] theorem setSlot_cores (n : Nat) (x : SlotSt) (s : State) : (setSlot n x s).cores = s.cores := rfl
@[simp] theorem setSlot_eddys (n : Nat) (x : SlotSt) (s : State) : (setSlot n x s).eddys = s.eddys := rfl
@[simp] theorem setSlot_lprog (n : Nat) (x : SlotSt) (s : State) : (setSlot n x s).lprog = s.lprog := rfl
@[simp] theorem setSlot_ldata (n : Nat) (x : SlotSt) (s : State) : (setSlot n x s).ldata = s.ldata := rfl
@[simp] theorem setSlot_binds (n : Nat) (x : SlotSt) (s : State) : (setSlot n x s).binds = s.binds := rfl
@[simp] theorem setSlot_sps (n : Nat) (x : SlotSt) (s : State) : (setSlot n x s).sps = s.sps := rfl
@[simp] theorem setSlot_spReg (n : Nat) (x : SlotSt) (s : State) : (setSlot n x s).spReg = s.spReg := rfl
@[simp] theorem setSlot_serve (n : Nat) (x : SlotSt) (s : State) : (setSlot n x s).serve = s.serve := rfl
@[simp] theorem setSlot_retired (n : Nat) (x : SlotSt) (s : State) : (setSlot n x s).retired = s.retired := rfl
@[simp] theorem setSlot_thermAt (n : Nat) (x : SlotSt) (s : State) : (setSlot n x s).thermAt = s.thermAt := rfl
@[simp] theorem setSlot_frms (n : Nat) (x : SlotSt) (s : State) : (setSlot n x s).frms = s.frms := rfl
@[simp] theorem setSlot_fmts (n : Nat) (x : SlotSt) (s : State) : (setSlot n x s).fmts = s.fmts := rfl
@[simp] theorem setSlot_time (n : Nat) (x : SlotSt) (s : State) : (setSlot n x s).time = s.time := rfl
@[simp] theorem setSlot_dst (n : Nat) (x : SlotSt) (s : State) : (setSlot n x s).dst = s.dst := rfl
@[simp] theorem setSlot_ddrs (n : Nat) (x : SlotSt) (s : State) : (setSlot n x s).ddrs = s.ddrs := rfl
@[simp] theorem setSlot_dreqs (n : Nat) (x : SlotSt) (s : State) : (setSlot n x s).dreqs = s.dreqs := rfl
@[simp] theorem setSlot_swBusy (n : Nat) (x : SlotSt) (s : State) : (setSlot n x s).swBusy = s.swBusy := rfl
@[simp] theorem setSlot_spareRows (n : Nat) (x : SlotSt) (s : State) : (setSlot n x s).spareRows = s.spareRows := rfl
@[simp] theorem setSlot_rates (n : Nat) (x : SlotSt) (s : State) : (setSlot n x s).rates = s.rates := rfl
@[simp] theorem setSlot_surfs (n : Nat) (x : SlotSt) (s : State) : (setSlot n x s).surfs = s.surfs := rfl
@[simp] theorem setSlot_flrs (n : Nat) (x : SlotSt) (s : State) : (setSlot n x s).flrs = s.flrs := rfl
@[simp] theorem setSlot_chs (n : Nat) (x : SlotSt) (s : State) : (setSlot n x s).chs = s.chs := rfl
@[simp] theorem setSlot_luts (n : Nat) (x : SlotSt) (s : State) : (setSlot n x s).luts = s.luts := rfl
@[simp] theorem setSlot_cmds (n : Nat) (x : SlotSt) (s : State) : (setSlot n x s).cmds = s.cmds := rfl
@[simp] theorem setSlot_nextCmd (n : Nat) (x : SlotSt) (s : State) : (setSlot n x s).nextCmd = s.nextCmd := rfl
@[simp] theorem setSlot_rings (n : Nat) (x : SlotSt) (s : State) : (setSlot n x s).rings = s.rings := rfl
@[simp] theorem setSlot_epochs (n : Nat) (x : SlotSt) (s : State) : (setSlot n x s).epochs = s.epochs := rfl
@[simp] theorem setSlot_crosses (n : Nat) (x : SlotSt) (s : State) : (setSlot n x s).crosses = s.crosses := rfl
@[simp] theorem setSlot_d2ds (n : Nat) (x : SlotSt) (s : State) : (setSlot n x s).d2ds = s.d2ds := rfl
@[simp] theorem setSlot_lockAt (n : Nat) (x : SlotSt) (s : State) : (setSlot n x s).lockAt = s.lockAt := rfl
@[simp] theorem setSlot_hk (n : Nat) (x : SlotSt) (s : State) : (setSlot n x s).hk = s.hk := rfl
@[simp] theorem setSlot_cal (n : Nat) (x : SlotSt) (s : State) : (setSlot n x s).cal = s.cal := rfl
@[simp] theorem setSlot_cals (n : Nat) (x : SlotSt) (s : State) : (setSlot n x s).cals = s.cals := rfl
@[simp] theorem setSlot_calRec (n : Nat) (x : SlotSt) (s : State) : (setSlot n x s).calRec = s.calRec := rfl
@[simp] theorem setSlot_curveDue (n : Nat) (x : SlotSt) (s : State) : (setSlot n x s).curveDue = s.curveDue := rfl
@[simp] theorem setSlot_oxs (n : Nat) (x : SlotSt) (s : State) : (setSlot n x s).oxs = s.oxs := rfl
@[simp] theorem setSlot_pipes (n : Nat) (x : SlotSt) (s : State) : (setSlot n x s).pipes = s.pipes := rfl
@[simp] theorem setSlot_pipeChs (n : Nat) (x : SlotSt) (s : State) : (setSlot n x s).pipeChs = s.pipeChs := rfl
@[simp] theorem setSlot_pipeRec (n : Nat) (x : SlotSt) (s : State) : (setSlot n x s).pipeRec = s.pipeRec := rfl
@[simp] theorem setSlot_pipeDead (n : Nat) (x : SlotSt) (s : State) : (setSlot n x s).pipeDead = s.pipeDead := rfl
@[simp] theorem setSlot_cfg (n : Nat) (x : SlotSt) (s : State) : (setSlot n x s).cfg = s.cfg := rfl
@[simp] theorem setSlot_fw (n : Nat) (x : SlotSt) (s : State) : (setSlot n x s).fw = s.fw := rfl
@[simp] theorem setSlot_mgt (n : Nat) (x : SlotSt) (s : State) : (setSlot n x s).mgt = s.mgt := rfl
@[simp] theorem setSlot_ide (n : Nat) (x : SlotSt) (s : State) : (setSlot n x s).ide = s.ide := rfl
@[simp] theorem setSlot_spdm (n : Nat) (x : SlotSt) (s : State) : (setSlot n x s).spdm = s.spdm := rfl

/-! ### `setCore` -/

@[simp] theorem modCore_eq (n : Nat) (f : CoreSt → CoreSt) (s : State) : modCore n f s = setCore n (f (s.core n)) s := rfl
@[simp] theorem setCore_same (n : Nat) (x : CoreSt) (s : State) : (setCore n x s).core n = x := tget_tset_same ..
theorem setCore_ne (n n' : Nat) (x : CoreSt) (s : State) (h : n ≠ n') :
    (setCore n x s).core n' = s.core n' := tget_tset_ne _ _ _ _ _ _ h
@[simp] theorem rd_setCore (n : Nat) (x : CoreSt) (s : State) (b : Nat) (f : Fld) (i : Nat) :
    rd (setCore n x s) b f i = rd s b f i := rfl
@[simp] theorem setCore_pending (n : Nat) (x : CoreSt) (s : State) : (setCore n x s).pending = s.pending := rfl
@[simp] theorem setCore_out (n : Nat) (x : CoreSt) (s : State) : (setCore n x s).out = s.out := rfl
@[simp] theorem setCore_free (n : Nat) (x : CoreSt) (s : State) : (setCore n x s).free = s.free := rfl
@[simp] theorem setCore_evq (n : Nat) (x : CoreSt) (s : State) : (setCore n x s).evq = s.evq := rfl
@[simp] theorem setCore_memq (n : Nat) (x : CoreSt) (s : State) : (setCore n x s).memq = s.memq := rfl
@[simp] theorem setCore_tick (n : Nat) (x : CoreSt) (s : State) : (setCore n x s).tick = s.tick := rfl
@[simp] theorem setCore_ht (n : Nat) (x : CoreSt) (s : State) : (setCore n x s).ht = s.ht := rfl
@[simp] theorem setCore_regs (n : Nat) (x : CoreSt) (s : State) : (setCore n x s).regs = s.regs := rfl
@[simp] theorem setCore_eff (n : Nat) (x : CoreSt) (s : State) : (setCore n x s).eff = s.eff := rfl
@[simp] theorem setCore_latch (n : Nat) (x : CoreSt) (s : State) : (setCore n x s).latch = s.latch := rfl
@[simp] theorem setCore_mem (n : Nat) (x : CoreSt) (s : State) : (setCore n x s).mem = s.mem := rfl
@[simp] theorem setCore_memLost (n : Nat) (x : CoreSt) (s : State) : (setCore n x s).memLost = s.memLost := rfl
@[simp] theorem setCore_poison (n : Nat) (x : CoreSt) (s : State) : (setCore n x s).poison = s.poison := rfl
@[simp] theorem setCore_hub (n : Nat) (x : CoreSt) (s : State) : (setCore n x s).hub = s.hub := rfl
@[simp] theorem setCore_pins (n : Nat) (x : CoreSt) (s : State) : (setCore n x s).pins = s.pins := rfl
@[simp] theorem setCore_evr (n : Nat) (x : CoreSt) (s : State) : (setCore n x s).evr = s.evr := rfl
@[simp] theorem setCore_grants (n : Nat) (x : CoreSt) (s : State) : (setCore n x s).grants = s.grants := rfl
@[simp] theorem setCore_mgtCeil (n : Nat) (x : CoreSt) (s : State) : (setCore n x s).mgtCeil = s.mgtCeil := rfl
@[simp] theorem setCore_weirs (n : Nat) (x : CoreSt) (s : State) : (setCore n x s).weirs = s.weirs := rfl
@[simp] theorem setCore_seqs (n : Nat) (x : CoreSt) (s : State) : (setCore n x s).seqs = s.seqs := rfl
@[simp] theorem setCore_lamps (n : Nat) (x : CoreSt) (s : State) : (setCore n x s).lamps = s.lamps := rfl
@[simp] theorem setCore_strs (n : Nat) (x : CoreSt) (s : State) : (setCore n x s).strs = s.strs := rfl
@[simp] theorem setCore_drvs (n : Nat) (x : CoreSt) (s : State) : (setCore n x s).drvs = s.drvs := rfl
@[simp] theorem setCore_ports (n : Nat) (x : CoreSt) (s : State) : (setCore n x s).ports = s.ports := rfl
@[simp] theorem setCore_curves (n : Nat) (x : CoreSt) (s : State) : (setCore n x s).curves = s.curves := rfl
@[simp] theorem setCore_prog (n : Nat) (x : CoreSt) (s : State) : (setCore n x s).prog = s.prog := rfl
@[simp] theorem setCore_descr (n : Nat) (x : CoreSt) (s : State) : (setCore n x s).descr = s.descr := rfl
@[simp] theorem setCore_moves (n : Nat) (x : CoreSt) (s : State) : (setCore n x s).moves = s.moves := rfl
@[simp] theorem setCore_slots (n : Nat) (x : CoreSt) (s : State) : (setCore n x s).slots = s.slots := rfl
@[simp] theorem setCore_eddys (n : Nat) (x : CoreSt) (s : State) : (setCore n x s).eddys = s.eddys := rfl
@[simp] theorem setCore_lprog (n : Nat) (x : CoreSt) (s : State) : (setCore n x s).lprog = s.lprog := rfl
@[simp] theorem setCore_ldata (n : Nat) (x : CoreSt) (s : State) : (setCore n x s).ldata = s.ldata := rfl
@[simp] theorem setCore_binds (n : Nat) (x : CoreSt) (s : State) : (setCore n x s).binds = s.binds := rfl
@[simp] theorem setCore_sps (n : Nat) (x : CoreSt) (s : State) : (setCore n x s).sps = s.sps := rfl
@[simp] theorem setCore_spReg (n : Nat) (x : CoreSt) (s : State) : (setCore n x s).spReg = s.spReg := rfl
@[simp] theorem setCore_serve (n : Nat) (x : CoreSt) (s : State) : (setCore n x s).serve = s.serve := rfl
@[simp] theorem setCore_retired (n : Nat) (x : CoreSt) (s : State) : (setCore n x s).retired = s.retired := rfl
@[simp] theorem setCore_thermAt (n : Nat) (x : CoreSt) (s : State) : (setCore n x s).thermAt = s.thermAt := rfl
@[simp] theorem setCore_frms (n : Nat) (x : CoreSt) (s : State) : (setCore n x s).frms = s.frms := rfl
@[simp] theorem setCore_fmts (n : Nat) (x : CoreSt) (s : State) : (setCore n x s).fmts = s.fmts := rfl
@[simp] theorem setCore_time (n : Nat) (x : CoreSt) (s : State) : (setCore n x s).time = s.time := rfl
@[simp] theorem setCore_dst (n : Nat) (x : CoreSt) (s : State) : (setCore n x s).dst = s.dst := rfl
@[simp] theorem setCore_ddrs (n : Nat) (x : CoreSt) (s : State) : (setCore n x s).ddrs = s.ddrs := rfl
@[simp] theorem setCore_dreqs (n : Nat) (x : CoreSt) (s : State) : (setCore n x s).dreqs = s.dreqs := rfl
@[simp] theorem setCore_swBusy (n : Nat) (x : CoreSt) (s : State) : (setCore n x s).swBusy = s.swBusy := rfl
@[simp] theorem setCore_spareRows (n : Nat) (x : CoreSt) (s : State) : (setCore n x s).spareRows = s.spareRows := rfl
@[simp] theorem setCore_rates (n : Nat) (x : CoreSt) (s : State) : (setCore n x s).rates = s.rates := rfl
@[simp] theorem setCore_surfs (n : Nat) (x : CoreSt) (s : State) : (setCore n x s).surfs = s.surfs := rfl
@[simp] theorem setCore_flrs (n : Nat) (x : CoreSt) (s : State) : (setCore n x s).flrs = s.flrs := rfl
@[simp] theorem setCore_chs (n : Nat) (x : CoreSt) (s : State) : (setCore n x s).chs = s.chs := rfl
@[simp] theorem setCore_luts (n : Nat) (x : CoreSt) (s : State) : (setCore n x s).luts = s.luts := rfl
@[simp] theorem setCore_cmds (n : Nat) (x : CoreSt) (s : State) : (setCore n x s).cmds = s.cmds := rfl
@[simp] theorem setCore_nextCmd (n : Nat) (x : CoreSt) (s : State) : (setCore n x s).nextCmd = s.nextCmd := rfl
@[simp] theorem setCore_rings (n : Nat) (x : CoreSt) (s : State) : (setCore n x s).rings = s.rings := rfl
@[simp] theorem setCore_epochs (n : Nat) (x : CoreSt) (s : State) : (setCore n x s).epochs = s.epochs := rfl
@[simp] theorem setCore_crosses (n : Nat) (x : CoreSt) (s : State) : (setCore n x s).crosses = s.crosses := rfl
@[simp] theorem setCore_d2ds (n : Nat) (x : CoreSt) (s : State) : (setCore n x s).d2ds = s.d2ds := rfl
@[simp] theorem setCore_lockAt (n : Nat) (x : CoreSt) (s : State) : (setCore n x s).lockAt = s.lockAt := rfl
@[simp] theorem setCore_hk (n : Nat) (x : CoreSt) (s : State) : (setCore n x s).hk = s.hk := rfl
@[simp] theorem setCore_cal (n : Nat) (x : CoreSt) (s : State) : (setCore n x s).cal = s.cal := rfl
@[simp] theorem setCore_cals (n : Nat) (x : CoreSt) (s : State) : (setCore n x s).cals = s.cals := rfl
@[simp] theorem setCore_calRec (n : Nat) (x : CoreSt) (s : State) : (setCore n x s).calRec = s.calRec := rfl
@[simp] theorem setCore_curveDue (n : Nat) (x : CoreSt) (s : State) : (setCore n x s).curveDue = s.curveDue := rfl
@[simp] theorem setCore_oxs (n : Nat) (x : CoreSt) (s : State) : (setCore n x s).oxs = s.oxs := rfl
@[simp] theorem setCore_pipes (n : Nat) (x : CoreSt) (s : State) : (setCore n x s).pipes = s.pipes := rfl
@[simp] theorem setCore_pipeChs (n : Nat) (x : CoreSt) (s : State) : (setCore n x s).pipeChs = s.pipeChs := rfl
@[simp] theorem setCore_pipeRec (n : Nat) (x : CoreSt) (s : State) : (setCore n x s).pipeRec = s.pipeRec := rfl
@[simp] theorem setCore_pipeDead (n : Nat) (x : CoreSt) (s : State) : (setCore n x s).pipeDead = s.pipeDead := rfl
@[simp] theorem setCore_cfg (n : Nat) (x : CoreSt) (s : State) : (setCore n x s).cfg = s.cfg := rfl
@[simp] theorem setCore_fw (n : Nat) (x : CoreSt) (s : State) : (setCore n x s).fw = s.fw := rfl
@[simp] theorem setCore_mgt (n : Nat) (x : CoreSt) (s : State) : (setCore n x s).mgt = s.mgt := rfl
@[simp] theorem setCore_ide (n : Nat) (x : CoreSt) (s : State) : (setCore n x s).ide = s.ide := rfl
@[simp] theorem setCore_spdm (n : Nat) (x : CoreSt) (s : State) : (setCore n x s).spdm = s.spdm := rfl

/-! ### `setMove` -/

@[simp] theorem modMove_eq (n : Nat) (f : MoveSt → MoveSt) (s : State) : modMove n f s = setMove n (f (s.move n)) s := rfl
@[simp] theorem setMove_same (n : Nat) (x : MoveSt) (s : State) : (setMove n x s).move n = x := tget_tset_same ..
theorem setMove_ne (n n' : Nat) (x : MoveSt) (s : State) (h : n ≠ n') :
    (setMove n x s).move n' = s.move n' := tget_tset_ne _ _ _ _ _ _ h
@[simp] theorem rd_setMove (n : Nat) (x : MoveSt) (s : State) (b : Nat) (f : Fld) (i : Nat) :
    rd (setMove n x s) b f i = rd s b f i := rfl
@[simp] theorem setMove_pending (n : Nat) (x : MoveSt) (s : State) : (setMove n x s).pending = s.pending := rfl
@[simp] theorem setMove_out (n : Nat) (x : MoveSt) (s : State) : (setMove n x s).out = s.out := rfl
@[simp] theorem setMove_free (n : Nat) (x : MoveSt) (s : State) : (setMove n x s).free = s.free := rfl
@[simp] theorem setMove_evq (n : Nat) (x : MoveSt) (s : State) : (setMove n x s).evq = s.evq := rfl
@[simp] theorem setMove_memq (n : Nat) (x : MoveSt) (s : State) : (setMove n x s).memq = s.memq := rfl
@[simp] theorem setMove_tick (n : Nat) (x : MoveSt) (s : State) : (setMove n x s).tick = s.tick := rfl
@[simp] theorem setMove_ht (n : Nat) (x : MoveSt) (s : State) : (setMove n x s).ht = s.ht := rfl
@[simp] theorem setMove_regs (n : Nat) (x : MoveSt) (s : State) : (setMove n x s).regs = s.regs := rfl
@[simp] theorem setMove_eff (n : Nat) (x : MoveSt) (s : State) : (setMove n x s).eff = s.eff := rfl
@[simp] theorem setMove_latch (n : Nat) (x : MoveSt) (s : State) : (setMove n x s).latch = s.latch := rfl
@[simp] theorem setMove_mem (n : Nat) (x : MoveSt) (s : State) : (setMove n x s).mem = s.mem := rfl
@[simp] theorem setMove_memLost (n : Nat) (x : MoveSt) (s : State) : (setMove n x s).memLost = s.memLost := rfl
@[simp] theorem setMove_poison (n : Nat) (x : MoveSt) (s : State) : (setMove n x s).poison = s.poison := rfl
@[simp] theorem setMove_hub (n : Nat) (x : MoveSt) (s : State) : (setMove n x s).hub = s.hub := rfl
@[simp] theorem setMove_pins (n : Nat) (x : MoveSt) (s : State) : (setMove n x s).pins = s.pins := rfl
@[simp] theorem setMove_evr (n : Nat) (x : MoveSt) (s : State) : (setMove n x s).evr = s.evr := rfl
@[simp] theorem setMove_grants (n : Nat) (x : MoveSt) (s : State) : (setMove n x s).grants = s.grants := rfl
@[simp] theorem setMove_mgtCeil (n : Nat) (x : MoveSt) (s : State) : (setMove n x s).mgtCeil = s.mgtCeil := rfl
@[simp] theorem setMove_weirs (n : Nat) (x : MoveSt) (s : State) : (setMove n x s).weirs = s.weirs := rfl
@[simp] theorem setMove_seqs (n : Nat) (x : MoveSt) (s : State) : (setMove n x s).seqs = s.seqs := rfl
@[simp] theorem setMove_lamps (n : Nat) (x : MoveSt) (s : State) : (setMove n x s).lamps = s.lamps := rfl
@[simp] theorem setMove_strs (n : Nat) (x : MoveSt) (s : State) : (setMove n x s).strs = s.strs := rfl
@[simp] theorem setMove_drvs (n : Nat) (x : MoveSt) (s : State) : (setMove n x s).drvs = s.drvs := rfl
@[simp] theorem setMove_ports (n : Nat) (x : MoveSt) (s : State) : (setMove n x s).ports = s.ports := rfl
@[simp] theorem setMove_curves (n : Nat) (x : MoveSt) (s : State) : (setMove n x s).curves = s.curves := rfl
@[simp] theorem setMove_prog (n : Nat) (x : MoveSt) (s : State) : (setMove n x s).prog = s.prog := rfl
@[simp] theorem setMove_descr (n : Nat) (x : MoveSt) (s : State) : (setMove n x s).descr = s.descr := rfl
@[simp] theorem setMove_slots (n : Nat) (x : MoveSt) (s : State) : (setMove n x s).slots = s.slots := rfl
@[simp] theorem setMove_cores (n : Nat) (x : MoveSt) (s : State) : (setMove n x s).cores = s.cores := rfl
@[simp] theorem setMove_eddys (n : Nat) (x : MoveSt) (s : State) : (setMove n x s).eddys = s.eddys := rfl
@[simp] theorem setMove_lprog (n : Nat) (x : MoveSt) (s : State) : (setMove n x s).lprog = s.lprog := rfl
@[simp] theorem setMove_ldata (n : Nat) (x : MoveSt) (s : State) : (setMove n x s).ldata = s.ldata := rfl
@[simp] theorem setMove_binds (n : Nat) (x : MoveSt) (s : State) : (setMove n x s).binds = s.binds := rfl
@[simp] theorem setMove_sps (n : Nat) (x : MoveSt) (s : State) : (setMove n x s).sps = s.sps := rfl
@[simp] theorem setMove_spReg (n : Nat) (x : MoveSt) (s : State) : (setMove n x s).spReg = s.spReg := rfl
@[simp] theorem setMove_serve (n : Nat) (x : MoveSt) (s : State) : (setMove n x s).serve = s.serve := rfl
@[simp] theorem setMove_retired (n : Nat) (x : MoveSt) (s : State) : (setMove n x s).retired = s.retired := rfl
@[simp] theorem setMove_thermAt (n : Nat) (x : MoveSt) (s : State) : (setMove n x s).thermAt = s.thermAt := rfl
@[simp] theorem setMove_frms (n : Nat) (x : MoveSt) (s : State) : (setMove n x s).frms = s.frms := rfl
@[simp] theorem setMove_fmts (n : Nat) (x : MoveSt) (s : State) : (setMove n x s).fmts = s.fmts := rfl
@[simp] theorem setMove_time (n : Nat) (x : MoveSt) (s : State) : (setMove n x s).time = s.time := rfl
@[simp] theorem setMove_dst (n : Nat) (x : MoveSt) (s : State) : (setMove n x s).dst = s.dst := rfl
@[simp] theorem setMove_ddrs (n : Nat) (x : MoveSt) (s : State) : (setMove n x s).ddrs = s.ddrs := rfl
@[simp] theorem setMove_dreqs (n : Nat) (x : MoveSt) (s : State) : (setMove n x s).dreqs = s.dreqs := rfl
@[simp] theorem setMove_swBusy (n : Nat) (x : MoveSt) (s : State) : (setMove n x s).swBusy = s.swBusy := rfl
@[simp] theorem setMove_spareRows (n : Nat) (x : MoveSt) (s : State) : (setMove n x s).spareRows = s.spareRows := rfl
@[simp] theorem setMove_rates (n : Nat) (x : MoveSt) (s : State) : (setMove n x s).rates = s.rates := rfl
@[simp] theorem setMove_surfs (n : Nat) (x : MoveSt) (s : State) : (setMove n x s).surfs = s.surfs := rfl
@[simp] theorem setMove_flrs (n : Nat) (x : MoveSt) (s : State) : (setMove n x s).flrs = s.flrs := rfl
@[simp] theorem setMove_chs (n : Nat) (x : MoveSt) (s : State) : (setMove n x s).chs = s.chs := rfl
@[simp] theorem setMove_luts (n : Nat) (x : MoveSt) (s : State) : (setMove n x s).luts = s.luts := rfl
@[simp] theorem setMove_cmds (n : Nat) (x : MoveSt) (s : State) : (setMove n x s).cmds = s.cmds := rfl
@[simp] theorem setMove_nextCmd (n : Nat) (x : MoveSt) (s : State) : (setMove n x s).nextCmd = s.nextCmd := rfl
@[simp] theorem setMove_rings (n : Nat) (x : MoveSt) (s : State) : (setMove n x s).rings = s.rings := rfl
@[simp] theorem setMove_epochs (n : Nat) (x : MoveSt) (s : State) : (setMove n x s).epochs = s.epochs := rfl
@[simp] theorem setMove_crosses (n : Nat) (x : MoveSt) (s : State) : (setMove n x s).crosses = s.crosses := rfl
@[simp] theorem setMove_d2ds (n : Nat) (x : MoveSt) (s : State) : (setMove n x s).d2ds = s.d2ds := rfl
@[simp] theorem setMove_lockAt (n : Nat) (x : MoveSt) (s : State) : (setMove n x s).lockAt = s.lockAt := rfl
@[simp] theorem setMove_hk (n : Nat) (x : MoveSt) (s : State) : (setMove n x s).hk = s.hk := rfl
@[simp] theorem setMove_cal (n : Nat) (x : MoveSt) (s : State) : (setMove n x s).cal = s.cal := rfl
@[simp] theorem setMove_cals (n : Nat) (x : MoveSt) (s : State) : (setMove n x s).cals = s.cals := rfl
@[simp] theorem setMove_calRec (n : Nat) (x : MoveSt) (s : State) : (setMove n x s).calRec = s.calRec := rfl
@[simp] theorem setMove_curveDue (n : Nat) (x : MoveSt) (s : State) : (setMove n x s).curveDue = s.curveDue := rfl
@[simp] theorem setMove_oxs (n : Nat) (x : MoveSt) (s : State) : (setMove n x s).oxs = s.oxs := rfl
@[simp] theorem setMove_pipes (n : Nat) (x : MoveSt) (s : State) : (setMove n x s).pipes = s.pipes := rfl
@[simp] theorem setMove_pipeChs (n : Nat) (x : MoveSt) (s : State) : (setMove n x s).pipeChs = s.pipeChs := rfl
@[simp] theorem setMove_pipeRec (n : Nat) (x : MoveSt) (s : State) : (setMove n x s).pipeRec = s.pipeRec := rfl
@[simp] theorem setMove_pipeDead (n : Nat) (x : MoveSt) (s : State) : (setMove n x s).pipeDead = s.pipeDead := rfl
@[simp] theorem setMove_cfg (n : Nat) (x : MoveSt) (s : State) : (setMove n x s).cfg = s.cfg := rfl
@[simp] theorem setMove_fw (n : Nat) (x : MoveSt) (s : State) : (setMove n x s).fw = s.fw := rfl
@[simp] theorem setMove_mgt (n : Nat) (x : MoveSt) (s : State) : (setMove n x s).mgt = s.mgt := rfl
@[simp] theorem setMove_ide (n : Nat) (x : MoveSt) (s : State) : (setMove n x s).ide = s.ide := rfl
@[simp] theorem setMove_spdm (n : Nat) (x : MoveSt) (s : State) : (setMove n x s).spdm = s.spdm := rfl

/-! ### `setOx` -/

@[simp] theorem setOx_same (n : Nat) (x : OxSt) (s : State) : (setOx n x s).ox n = x := tget_tset_same ..
theorem setOx_ne (n n' : Nat) (x : OxSt) (s : State) (h : n ≠ n') :
    (setOx n x s).ox n' = s.ox n' := tget_tset_ne _ _ _ _ _ _ h
@[simp] theorem rd_setOx (n : Nat) (x : OxSt) (s : State) (b : Nat) (f : Fld) (i : Nat) :
    rd (setOx n x s) b f i = rd s b f i := rfl
@[simp] theorem setOx_pending (n : Nat) (x : OxSt) (s : State) : (setOx n x s).pending = s.pending := rfl
@[simp] theorem setOx_out (n : Nat) (x : OxSt) (s : State) : (setOx n x s).out = s.out := rfl
@[simp] theorem setOx_free (n : Nat) (x : OxSt) (s : State) : (setOx n x s).free = s.free := rfl
@[simp] theorem setOx_evq (n : Nat) (x : OxSt) (s : State) : (setOx n x s).evq = s.evq := rfl
@[simp] theorem setOx_memq (n : Nat) (x : OxSt) (s : State) : (setOx n x s).memq = s.memq := rfl
@[simp] theorem setOx_tick (n : Nat) (x : OxSt) (s : State) : (setOx n x s).tick = s.tick := rfl
@[simp] theorem setOx_ht (n : Nat) (x : OxSt) (s : State) : (setOx n x s).ht = s.ht := rfl
@[simp] theorem setOx_regs (n : Nat) (x : OxSt) (s : State) : (setOx n x s).regs = s.regs := rfl
@[simp] theorem setOx_eff (n : Nat) (x : OxSt) (s : State) : (setOx n x s).eff = s.eff := rfl
@[simp] theorem setOx_latch (n : Nat) (x : OxSt) (s : State) : (setOx n x s).latch = s.latch := rfl
@[simp] theorem setOx_mem (n : Nat) (x : OxSt) (s : State) : (setOx n x s).mem = s.mem := rfl
@[simp] theorem setOx_memLost (n : Nat) (x : OxSt) (s : State) : (setOx n x s).memLost = s.memLost := rfl
@[simp] theorem setOx_poison (n : Nat) (x : OxSt) (s : State) : (setOx n x s).poison = s.poison := rfl
@[simp] theorem setOx_hub (n : Nat) (x : OxSt) (s : State) : (setOx n x s).hub = s.hub := rfl
@[simp] theorem setOx_pins (n : Nat) (x : OxSt) (s : State) : (setOx n x s).pins = s.pins := rfl
@[simp] theorem setOx_evr (n : Nat) (x : OxSt) (s : State) : (setOx n x s).evr = s.evr := rfl
@[simp] theorem setOx_grants (n : Nat) (x : OxSt) (s : State) : (setOx n x s).grants = s.grants := rfl
@[simp] theorem setOx_mgtCeil (n : Nat) (x : OxSt) (s : State) : (setOx n x s).mgtCeil = s.mgtCeil := rfl
@[simp] theorem setOx_weirs (n : Nat) (x : OxSt) (s : State) : (setOx n x s).weirs = s.weirs := rfl
@[simp] theorem setOx_seqs (n : Nat) (x : OxSt) (s : State) : (setOx n x s).seqs = s.seqs := rfl
@[simp] theorem setOx_lamps (n : Nat) (x : OxSt) (s : State) : (setOx n x s).lamps = s.lamps := rfl
@[simp] theorem setOx_strs (n : Nat) (x : OxSt) (s : State) : (setOx n x s).strs = s.strs := rfl
@[simp] theorem setOx_drvs (n : Nat) (x : OxSt) (s : State) : (setOx n x s).drvs = s.drvs := rfl
@[simp] theorem setOx_ports (n : Nat) (x : OxSt) (s : State) : (setOx n x s).ports = s.ports := rfl
@[simp] theorem setOx_curves (n : Nat) (x : OxSt) (s : State) : (setOx n x s).curves = s.curves := rfl
@[simp] theorem setOx_prog (n : Nat) (x : OxSt) (s : State) : (setOx n x s).prog = s.prog := rfl
@[simp] theorem setOx_descr (n : Nat) (x : OxSt) (s : State) : (setOx n x s).descr = s.descr := rfl
@[simp] theorem setOx_moves (n : Nat) (x : OxSt) (s : State) : (setOx n x s).moves = s.moves := rfl
@[simp] theorem setOx_slots (n : Nat) (x : OxSt) (s : State) : (setOx n x s).slots = s.slots := rfl
@[simp] theorem setOx_cores (n : Nat) (x : OxSt) (s : State) : (setOx n x s).cores = s.cores := rfl
@[simp] theorem setOx_eddys (n : Nat) (x : OxSt) (s : State) : (setOx n x s).eddys = s.eddys := rfl
@[simp] theorem setOx_lprog (n : Nat) (x : OxSt) (s : State) : (setOx n x s).lprog = s.lprog := rfl
@[simp] theorem setOx_ldata (n : Nat) (x : OxSt) (s : State) : (setOx n x s).ldata = s.ldata := rfl
@[simp] theorem setOx_binds (n : Nat) (x : OxSt) (s : State) : (setOx n x s).binds = s.binds := rfl
@[simp] theorem setOx_sps (n : Nat) (x : OxSt) (s : State) : (setOx n x s).sps = s.sps := rfl
@[simp] theorem setOx_spReg (n : Nat) (x : OxSt) (s : State) : (setOx n x s).spReg = s.spReg := rfl
@[simp] theorem setOx_serve (n : Nat) (x : OxSt) (s : State) : (setOx n x s).serve = s.serve := rfl
@[simp] theorem setOx_retired (n : Nat) (x : OxSt) (s : State) : (setOx n x s).retired = s.retired := rfl
@[simp] theorem setOx_thermAt (n : Nat) (x : OxSt) (s : State) : (setOx n x s).thermAt = s.thermAt := rfl
@[simp] theorem setOx_frms (n : Nat) (x : OxSt) (s : State) : (setOx n x s).frms = s.frms := rfl
@[simp] theorem setOx_fmts (n : Nat) (x : OxSt) (s : State) : (setOx n x s).fmts = s.fmts := rfl
@[simp] theorem setOx_time (n : Nat) (x : OxSt) (s : State) : (setOx n x s).time = s.time := rfl
@[simp] theorem setOx_dst (n : Nat) (x : OxSt) (s : State) : (setOx n x s).dst = s.dst := rfl
@[simp] theorem setOx_ddrs (n : Nat) (x : OxSt) (s : State) : (setOx n x s).ddrs = s.ddrs := rfl
@[simp] theorem setOx_dreqs (n : Nat) (x : OxSt) (s : State) : (setOx n x s).dreqs = s.dreqs := rfl
@[simp] theorem setOx_swBusy (n : Nat) (x : OxSt) (s : State) : (setOx n x s).swBusy = s.swBusy := rfl
@[simp] theorem setOx_spareRows (n : Nat) (x : OxSt) (s : State) : (setOx n x s).spareRows = s.spareRows := rfl
@[simp] theorem setOx_rates (n : Nat) (x : OxSt) (s : State) : (setOx n x s).rates = s.rates := rfl
@[simp] theorem setOx_surfs (n : Nat) (x : OxSt) (s : State) : (setOx n x s).surfs = s.surfs := rfl
@[simp] theorem setOx_flrs (n : Nat) (x : OxSt) (s : State) : (setOx n x s).flrs = s.flrs := rfl
@[simp] theorem setOx_chs (n : Nat) (x : OxSt) (s : State) : (setOx n x s).chs = s.chs := rfl
@[simp] theorem setOx_luts (n : Nat) (x : OxSt) (s : State) : (setOx n x s).luts = s.luts := rfl
@[simp] theorem setOx_cmds (n : Nat) (x : OxSt) (s : State) : (setOx n x s).cmds = s.cmds := rfl
@[simp] theorem setOx_nextCmd (n : Nat) (x : OxSt) (s : State) : (setOx n x s).nextCmd = s.nextCmd := rfl
@[simp] theorem setOx_rings (n : Nat) (x : OxSt) (s : State) : (setOx n x s).rings = s.rings := rfl
@[simp] theorem setOx_epochs (n : Nat) (x : OxSt) (s : State) : (setOx n x s).epochs = s.epochs := rfl
@[simp] theorem setOx_crosses (n : Nat) (x : OxSt) (s : State) : (setOx n x s).crosses = s.crosses := rfl
@[simp] theorem setOx_d2ds (n : Nat) (x : OxSt) (s : State) : (setOx n x s).d2ds = s.d2ds := rfl
@[simp] theorem setOx_lockAt (n : Nat) (x : OxSt) (s : State) : (setOx n x s).lockAt = s.lockAt := rfl
@[simp] theorem setOx_hk (n : Nat) (x : OxSt) (s : State) : (setOx n x s).hk = s.hk := rfl
@[simp] theorem setOx_cal (n : Nat) (x : OxSt) (s : State) : (setOx n x s).cal = s.cal := rfl
@[simp] theorem setOx_cals (n : Nat) (x : OxSt) (s : State) : (setOx n x s).cals = s.cals := rfl
@[simp] theorem setOx_calRec (n : Nat) (x : OxSt) (s : State) : (setOx n x s).calRec = s.calRec := rfl
@[simp] theorem setOx_curveDue (n : Nat) (x : OxSt) (s : State) : (setOx n x s).curveDue = s.curveDue := rfl
@[simp] theorem setOx_pipes (n : Nat) (x : OxSt) (s : State) : (setOx n x s).pipes = s.pipes := rfl
@[simp] theorem setOx_pipeChs (n : Nat) (x : OxSt) (s : State) : (setOx n x s).pipeChs = s.pipeChs := rfl
@[simp] theorem setOx_pipeRec (n : Nat) (x : OxSt) (s : State) : (setOx n x s).pipeRec = s.pipeRec := rfl
@[simp] theorem setOx_pipeDead (n : Nat) (x : OxSt) (s : State) : (setOx n x s).pipeDead = s.pipeDead := rfl
@[simp] theorem setOx_cfg (n : Nat) (x : OxSt) (s : State) : (setOx n x s).cfg = s.cfg := rfl
@[simp] theorem setOx_fw (n : Nat) (x : OxSt) (s : State) : (setOx n x s).fw = s.fw := rfl
@[simp] theorem setOx_mgt (n : Nat) (x : OxSt) (s : State) : (setOx n x s).mgt = s.mgt := rfl
@[simp] theorem setOx_ide (n : Nat) (x : OxSt) (s : State) : (setOx n x s).ide = s.ide := rfl
@[simp] theorem setOx_spdm (n : Nat) (x : OxSt) (s : State) : (setOx n x s).spdm = s.spdm := rfl

/-! ### `setPipeCh` -/

@[simp] theorem setPipeCh_same (n : Nat) (x : PipeCh) (s : State) : (setPipeCh n x s).pipeCh n = x := tget_tset_same ..
theorem setPipeCh_ne (n n' : Nat) (x : PipeCh) (s : State) (h : n ≠ n') :
    (setPipeCh n x s).pipeCh n' = s.pipeCh n' := tget_tset_ne _ _ _ _ _ _ h
@[simp] theorem rd_setPipeCh (n : Nat) (x : PipeCh) (s : State) (b : Nat) (f : Fld) (i : Nat) :
    rd (setPipeCh n x s) b f i = rd s b f i := rfl
@[simp] theorem setPipeCh_pending (n : Nat) (x : PipeCh) (s : State) : (setPipeCh n x s).pending = s.pending := rfl
@[simp] theorem setPipeCh_out (n : Nat) (x : PipeCh) (s : State) : (setPipeCh n x s).out = s.out := rfl
@[simp] theorem setPipeCh_free (n : Nat) (x : PipeCh) (s : State) : (setPipeCh n x s).free = s.free := rfl
@[simp] theorem setPipeCh_evq (n : Nat) (x : PipeCh) (s : State) : (setPipeCh n x s).evq = s.evq := rfl
@[simp] theorem setPipeCh_memq (n : Nat) (x : PipeCh) (s : State) : (setPipeCh n x s).memq = s.memq := rfl
@[simp] theorem setPipeCh_tick (n : Nat) (x : PipeCh) (s : State) : (setPipeCh n x s).tick = s.tick := rfl
@[simp] theorem setPipeCh_ht (n : Nat) (x : PipeCh) (s : State) : (setPipeCh n x s).ht = s.ht := rfl
@[simp] theorem setPipeCh_regs (n : Nat) (x : PipeCh) (s : State) : (setPipeCh n x s).regs = s.regs := rfl
@[simp] theorem setPipeCh_eff (n : Nat) (x : PipeCh) (s : State) : (setPipeCh n x s).eff = s.eff := rfl
@[simp] theorem setPipeCh_latch (n : Nat) (x : PipeCh) (s : State) : (setPipeCh n x s).latch = s.latch := rfl
@[simp] theorem setPipeCh_mem (n : Nat) (x : PipeCh) (s : State) : (setPipeCh n x s).mem = s.mem := rfl
@[simp] theorem setPipeCh_memLost (n : Nat) (x : PipeCh) (s : State) : (setPipeCh n x s).memLost = s.memLost := rfl
@[simp] theorem setPipeCh_poison (n : Nat) (x : PipeCh) (s : State) : (setPipeCh n x s).poison = s.poison := rfl
@[simp] theorem setPipeCh_hub (n : Nat) (x : PipeCh) (s : State) : (setPipeCh n x s).hub = s.hub := rfl
@[simp] theorem setPipeCh_pins (n : Nat) (x : PipeCh) (s : State) : (setPipeCh n x s).pins = s.pins := rfl
@[simp] theorem setPipeCh_evr (n : Nat) (x : PipeCh) (s : State) : (setPipeCh n x s).evr = s.evr := rfl
@[simp] theorem setPipeCh_grants (n : Nat) (x : PipeCh) (s : State) : (setPipeCh n x s).grants = s.grants := rfl
@[simp] theorem setPipeCh_mgtCeil (n : Nat) (x : PipeCh) (s : State) : (setPipeCh n x s).mgtCeil = s.mgtCeil := rfl
@[simp] theorem setPipeCh_weirs (n : Nat) (x : PipeCh) (s : State) : (setPipeCh n x s).weirs = s.weirs := rfl
@[simp] theorem setPipeCh_seqs (n : Nat) (x : PipeCh) (s : State) : (setPipeCh n x s).seqs = s.seqs := rfl
@[simp] theorem setPipeCh_lamps (n : Nat) (x : PipeCh) (s : State) : (setPipeCh n x s).lamps = s.lamps := rfl
@[simp] theorem setPipeCh_strs (n : Nat) (x : PipeCh) (s : State) : (setPipeCh n x s).strs = s.strs := rfl
@[simp] theorem setPipeCh_drvs (n : Nat) (x : PipeCh) (s : State) : (setPipeCh n x s).drvs = s.drvs := rfl
@[simp] theorem setPipeCh_ports (n : Nat) (x : PipeCh) (s : State) : (setPipeCh n x s).ports = s.ports := rfl
@[simp] theorem setPipeCh_curves (n : Nat) (x : PipeCh) (s : State) : (setPipeCh n x s).curves = s.curves := rfl
@[simp] theorem setPipeCh_prog (n : Nat) (x : PipeCh) (s : State) : (setPipeCh n x s).prog = s.prog := rfl
@[simp] theorem setPipeCh_descr (n : Nat) (x : PipeCh) (s : State) : (setPipeCh n x s).descr = s.descr := rfl
@[simp] theorem setPipeCh_moves (n : Nat) (x : PipeCh) (s : State) : (setPipeCh n x s).moves = s.moves := rfl
@[simp] theorem setPipeCh_slots (n : Nat) (x : PipeCh) (s : State) : (setPipeCh n x s).slots = s.slots := rfl
@[simp] theorem setPipeCh_cores (n : Nat) (x : PipeCh) (s : State) : (setPipeCh n x s).cores = s.cores := rfl
@[simp] theorem setPipeCh_eddys (n : Nat) (x : PipeCh) (s : State) : (setPipeCh n x s).eddys = s.eddys := rfl
@[simp] theorem setPipeCh_lprog (n : Nat) (x : PipeCh) (s : State) : (setPipeCh n x s).lprog = s.lprog := rfl
@[simp] theorem setPipeCh_ldata (n : Nat) (x : PipeCh) (s : State) : (setPipeCh n x s).ldata = s.ldata := rfl
@[simp] theorem setPipeCh_binds (n : Nat) (x : PipeCh) (s : State) : (setPipeCh n x s).binds = s.binds := rfl
@[simp] theorem setPipeCh_sps (n : Nat) (x : PipeCh) (s : State) : (setPipeCh n x s).sps = s.sps := rfl
@[simp] theorem setPipeCh_spReg (n : Nat) (x : PipeCh) (s : State) : (setPipeCh n x s).spReg = s.spReg := rfl
@[simp] theorem setPipeCh_serve (n : Nat) (x : PipeCh) (s : State) : (setPipeCh n x s).serve = s.serve := rfl
@[simp] theorem setPipeCh_retired (n : Nat) (x : PipeCh) (s : State) : (setPipeCh n x s).retired = s.retired := rfl
@[simp] theorem setPipeCh_thermAt (n : Nat) (x : PipeCh) (s : State) : (setPipeCh n x s).thermAt = s.thermAt := rfl
@[simp] theorem setPipeCh_frms (n : Nat) (x : PipeCh) (s : State) : (setPipeCh n x s).frms = s.frms := rfl
@[simp] theorem setPipeCh_fmts (n : Nat) (x : PipeCh) (s : State) : (setPipeCh n x s).fmts = s.fmts := rfl
@[simp] theorem setPipeCh_time (n : Nat) (x : PipeCh) (s : State) : (setPipeCh n x s).time = s.time := rfl
@[simp] theorem setPipeCh_dst (n : Nat) (x : PipeCh) (s : State) : (setPipeCh n x s).dst = s.dst := rfl
@[simp] theorem setPipeCh_ddrs (n : Nat) (x : PipeCh) (s : State) : (setPipeCh n x s).ddrs = s.ddrs := rfl
@[simp] theorem setPipeCh_dreqs (n : Nat) (x : PipeCh) (s : State) : (setPipeCh n x s).dreqs = s.dreqs := rfl
@[simp] theorem setPipeCh_swBusy (n : Nat) (x : PipeCh) (s : State) : (setPipeCh n x s).swBusy = s.swBusy := rfl
@[simp] theorem setPipeCh_spareRows (n : Nat) (x : PipeCh) (s : State) : (setPipeCh n x s).spareRows = s.spareRows := rfl
@[simp] theorem setPipeCh_rates (n : Nat) (x : PipeCh) (s : State) : (setPipeCh n x s).rates = s.rates := rfl
@[simp] theorem setPipeCh_surfs (n : Nat) (x : PipeCh) (s : State) : (setPipeCh n x s).surfs = s.surfs := rfl
@[simp] theorem setPipeCh_flrs (n : Nat) (x : PipeCh) (s : State) : (setPipeCh n x s).flrs = s.flrs := rfl
@[simp] theorem setPipeCh_chs (n : Nat) (x : PipeCh) (s : State) : (setPipeCh n x s).chs = s.chs := rfl
@[simp] theorem setPipeCh_luts (n : Nat) (x : PipeCh) (s : State) : (setPipeCh n x s).luts = s.luts := rfl
@[simp] theorem setPipeCh_cmds (n : Nat) (x : PipeCh) (s : State) : (setPipeCh n x s).cmds = s.cmds := rfl
@[simp] theorem setPipeCh_nextCmd (n : Nat) (x : PipeCh) (s : State) : (setPipeCh n x s).nextCmd = s.nextCmd := rfl
@[simp] theorem setPipeCh_rings (n : Nat) (x : PipeCh) (s : State) : (setPipeCh n x s).rings = s.rings := rfl
@[simp] theorem setPipeCh_epochs (n : Nat) (x : PipeCh) (s : State) : (setPipeCh n x s).epochs = s.epochs := rfl
@[simp] theorem setPipeCh_crosses (n : Nat) (x : PipeCh) (s : State) : (setPipeCh n x s).crosses = s.crosses := rfl
@[simp] theorem setPipeCh_d2ds (n : Nat) (x : PipeCh) (s : State) : (setPipeCh n x s).d2ds = s.d2ds := rfl
@[simp] theorem setPipeCh_lockAt (n : Nat) (x : PipeCh) (s : State) : (setPipeCh n x s).lockAt = s.lockAt := rfl
@[simp] theorem setPipeCh_hk (n : Nat) (x : PipeCh) (s : State) : (setPipeCh n x s).hk = s.hk := rfl
@[simp] theorem setPipeCh_cal (n : Nat) (x : PipeCh) (s : State) : (setPipeCh n x s).cal = s.cal := rfl
@[simp] theorem setPipeCh_cals (n : Nat) (x : PipeCh) (s : State) : (setPipeCh n x s).cals = s.cals := rfl
@[simp] theorem setPipeCh_calRec (n : Nat) (x : PipeCh) (s : State) : (setPipeCh n x s).calRec = s.calRec := rfl
@[simp] theorem setPipeCh_curveDue (n : Nat) (x : PipeCh) (s : State) : (setPipeCh n x s).curveDue = s.curveDue := rfl
@[simp] theorem setPipeCh_oxs (n : Nat) (x : PipeCh) (s : State) : (setPipeCh n x s).oxs = s.oxs := rfl
@[simp] theorem setPipeCh_pipes (n : Nat) (x : PipeCh) (s : State) : (setPipeCh n x s).pipes = s.pipes := rfl
@[simp] theorem setPipeCh_pipeRec (n : Nat) (x : PipeCh) (s : State) : (setPipeCh n x s).pipeRec = s.pipeRec := rfl
@[simp] theorem setPipeCh_pipeDead (n : Nat) (x : PipeCh) (s : State) : (setPipeCh n x s).pipeDead = s.pipeDead := rfl
@[simp] theorem setPipeCh_cfg (n : Nat) (x : PipeCh) (s : State) : (setPipeCh n x s).cfg = s.cfg := rfl
@[simp] theorem setPipeCh_fw (n : Nat) (x : PipeCh) (s : State) : (setPipeCh n x s).fw = s.fw := rfl
@[simp] theorem setPipeCh_mgt (n : Nat) (x : PipeCh) (s : State) : (setPipeCh n x s).mgt = s.mgt := rfl
@[simp] theorem setPipeCh_ide (n : Nat) (x : PipeCh) (s : State) : (setPipeCh n x s).ide = s.ide := rfl
@[simp] theorem setPipeCh_spdm (n : Nat) (x : PipeCh) (s : State) : (setPipeCh n x s).spdm = s.spdm := rfl

end Sys2Proof.Machine
end

