-- ==== Sys2Proof/Laws/Modes.lean ====
section
/-!
SUPPORT. What the changes of a channel's state and of the device's mode do: the new state or mode, and the registers that
they leave alone.
-/

namespace Sys2Proof.Machine
open Sys2Proof

/-- MGT_SNAP is the only register that a change counted by it writes. -/
theorem rd_bumpSnap (s : State) (b : Nat) (f : Fld) (i : Nat) (h : R.MGT_SNAP_EPOCH.key mgtB 0 ≠ f.key b i) :
    rd (bumpSnap s) b f i = rd s b f i := by
  unfold bumpSnap
  split
  · rfl
  · exact rd_wr_ne _ _ _ _ _ _ _ _ h

/-- CH_STATUS.SAFE_DARK is the only register that a rill's change to or from SAFE-DARK writes. -/
theorem rd_refreshSafeDark (n : Nat) (s : State) (b : Nat) (f : Fld) (i : Nat)
    (h : R.CH_STATUS_SAFE_DARK.key (chB n) 0 ≠ f.key b i) : rd (refreshSafeDark n s) b f i = rd s b f i := by
  unfold refreshSafeDark
  dsimp only
  split
  · rw [rd_emitOut, each_keeps (fun s => rd s b f i) (fun k => modStr n k _) (fun _ _ => rfl)]
    exact rd_wr_ne s b (chB n) f R.CH_STATUS_SAFE_DARK 1 i 0 h
  · split
    · exact rd_wr_ne s b (chB n) f R.CH_STATUS_SAFE_DARK 0 i 0 h
    · rfl

/-- The registers of the housekeeping block. -/
abbrev hkKey (k : Nat) : Prop := hkB * 32 ≤ k ∧ k < (hkB + 0x1000) * 32

/-- An outcome of a calibration target writes registers of the housekeeping block only. -/
theorem rd_calOutcome (t : Nat) (o : CalOut) (s : State) (b : Nat) (f : Fld) (i : Nat) (h : ¬ hkKey (f.key b i)) :
    rd (calOutcome t o s) b f i = rd s b f i := by
  have hw : ∀ g ∈ [R.HK_CAL_STATUS_BUSY, R.HK_CAL_RESULT_ACCEPTED, R.HK_CAL_RESULT_DISAGREE, R.HK_CAL_RESULT_STARVED,
      R.HK_CAL_RESULT_REFUSED], g.key hkB 0 ≠ f.key b i := by
    have hr : ∀ g ∈ [R.HK_CAL_STATUS_BUSY, R.HK_CAL_RESULT_ACCEPTED, R.HK_CAL_RESULT_DISAGREE, R.HK_CAL_RESULT_STARVED,
        R.HK_CAL_RESULT_REFUSED], hkKey (g.key hkB 0) := by decide
    exact fun g hg e => h (e ▸ hr g hg)
  have hend : ∀ s : State, rd (calEnd s) b f i = rd s b f i := by
    intro s
    unfold calEnd
    split
    · rw [rd_raise]; exact rd_wr_ne _ _ _ _ _ _ _ _ (hw _ (by simp))
    · rfl
  unfold calOutcome
  dsimp only
  rw [hend, rd_raise]
  have ho : o.fld.key hkB 0 ≠ f.key b i := by cases o <;> exact hw _ (by simp [CalOut.fld])
  exact rd_bump_ne _ _ _ _ _ _ _ _ ho

theorem rd_calStarve (p : Nat → Bool) (s : State) (b : Nat) (f : Fld) (i : Nat) (h : ¬ hkKey (f.key b i)) :
    rd (calStarve p s) b f i = rd s b f i :=
  each_keeps (fun s => rd s b f i) _ (fun t s => rd_calOutcome t .starved s b f i h) _ s

theorem rd_calLeft (n : Nat) (s : State) (b : Nat) (f : Fld) (i : Nat) (h : ¬ hkKey (f.key b i)) :
    rd (calLeft n s) b f i = rd s b f i := by
  unfold calLeft
  split
  · rfl
  · exact rd_calStarve _ s b f i h

/-- A channel that takes a state has it (R63, R104). -/
@[simp] theorem setChState_chState (n : Nat) (x : ChState) (s : State) : (setChState n x s).chState n = x := by
  have hk : ∀ n : Nat, R.CH_STATUS_STATE.key (chB n) 0 = (0x1000000 + 0x4000 * n + 4) * 32 := fun n => by
    simp [Fld.key, R.CH_STATUS_STATE]
  have h1 : R.MGT_SNAP_EPOCH.key mgtB 0 ≠ R.CH_STATUS_STATE.key (chB n) 0 := by
    rw [hk]; simp only [Fld.key, R.MGT_SNAP_EPOCH, mgtB]; omega
  have h2 : R.CH_STATUS_SAFE_DARK.key (chB n) 0 ≠ R.CH_STATUS_STATE.key (chB n) 0 := by
    rw [hk]; simp only [Fld.key, R.CH_STATUS_SAFE_DARK]; omega
  have h3 : ¬ hkKey (R.CH_STATUS_STATE.key (chB n) 0) := by rw [hk]; simp only [hkKey, hkB]; omega
  have h4 : x.code % 2 ^ R.CH_STATUS_STATE.w = x.code := by cases x <;> rfl
  have h : rd (setChState n x s) (chB n) R.CH_STATUS_STATE 0 = x.code := by
    unfold setChState
    dsimp only
    rw [when_keeps (fun s => rd s (chB n) R.CH_STATUS_STATE 0) _ _ _ (rd_calLeft n _ _ _ _ h3),
      rd_refreshSafeDark n _ _ _ _ h2, rd_raise, rd_bumpSnap _ _ _ _ h1, rd_wr_same, h4]
  rw [State.chState, h, ChState.ofCode_code]

/-- A mode that is taken is in force (R53, R104). -/
@[simp] theorem setMode_mode (m : Mode) (cause : Nat) (s : State) : (setMode m cause s).mode = m := by
  have hk : R.HUB_MODE_MODE.key hubB 0 = 0x10 * 32 := rfl
  have h1 : R.MGT_SNAP_EPOCH.key mgtB 0 ≠ R.HUB_MODE_MODE.key hubB 0 := by decide
  have h2 : ∀ n : Nat, R.CH_STATUS_SAFE_DARK.key (chB n) 0 ≠ R.HUB_MODE_MODE.key hubB 0 := by
    intro n; rw [hk]; simp only [Fld.key, R.CH_STATUS_SAFE_DARK]; omega
  have h3 : ¬ hkKey (R.HUB_MODE_MODE.key hubB 0) := by decide
  have h4 : m.code % 2 ^ R.HUB_MODE_MODE.w = m.code := by cases m <;> rfl
  have hc : ∀ s : State, rd (ceilAll s) hubB R.HUB_MODE_MODE 0 = rd s hubB R.HUB_MODE_MODE 0 := fun s =>
    each_keeps (fun s => rd s hubB R.HUB_MODE_MODE 0) _ (fun n s => by split <;> rfl) _ s
  have h : rd (setMode m cause s) hubB R.HUB_MODE_MODE 0 = m.code := by
    unfold setMode
    dsimp only
    rw [each_keeps (fun s => rd s hubB R.HUB_MODE_MODE 0) _ (fun n s => rd_refreshSafeDark n s _ _ _ (h2 n)),
      when_keeps (fun s => rd s hubB R.HUB_MODE_MODE 0) _ _ _ (hc _),
      when_keeps (fun s => rd s hubB R.HUB_MODE_MODE 0) _ _ _ (rd_calStarve _ _ _ _ _ h3),
      rd_bumpSnap _ _ _ _ h1, rd_raise, rd_wr_same, h4]
  rw [State.mode, h, Mode.ofCode_code]

end Sys2Proof.Machine
end

