-- ==== Sys2Proof/Tests/Slice0.lean ====
section
/-!
SUPPORT. Small tests: the checks of WellFormed refuse an ill-formed command of each kind, the hypotheses of every
statement can be met, and single commands on small states.
-/

namespace Sys2Proof.Tests
open Sys2Proof Machine Safety

-- The tests are elaborated one after another: each kernel evaluation would else hold a thread of its own.
set_option Elab.async false

/-! ### Small states -/

/-- Registers set one after another: block, field, value. -/
def regsOf (l : List (Nat × Fld × Nat)) : Tbl Nat := (l.foldl (fun s e => wr e.1 e.2.1 e.2.2 s) ({} : State)).regs


/-- A small state for the witnesses. -/
def sReady : State :=
  { hub := { up := true }, regs := regsOf [(hubB, R.HUB_MODE_READY, 1), (timeB, R.TIME_STATUS_VALID, 1)] }

/-- A small state for the witnesses. -/
def sShow : State :=
  { hub := { up := true, island := true }, regs := regsOf [(hubB, R.HUB_MODE_READY, 1), (hubB, R.HUB_MODE_MODE, 2)] }

/-- A small state for the witnesses. -/
def sLeaving : State :=
  { hub := { up := true }, regs := regsOf [(hubB, R.HUB_MODE_MODE, 2), (hubB, R.HUB_MODE_REQ_PENDING, 1)] }

/-- A small state for the witnesses. -/
def sStarting : State :=
  { hub := { up := true, starting := true } }

/-- A small state for the witnesses. -/
def sReturning : State :=
  { hub := { up := true, starting := true, returning := true }, regs := regsOf [(hubB, R.HUB_MODE_MODE, 4)] }

/-- A small state for the witnesses. -/
def sPerst : State :=
  { hub := { perst := true } }

/-- A small state for the witnesses. -/
def sHold : State :=
  { hub := { up := true, island := true, mainOk := true, charge := 5000 }, tick := 3000000000, regs := regsOf [(hubB, R.HUB_MODE_MODE, 4), (holdB, R.HOLD_STATUS_HANDOVER, 1), (holdB, R.HOLD_CAPACITY_CAP, 7)] }

/-- A small state for the witnesses. -/
def sFull : State :=
  { hub := { up := true, island := true, fullRounds := 8 }, regs := regsOf [(holdB, R.HOLD_CAPACITY_CAP, 7)] }

/-- A small state for the witnesses. -/
def sTripped : State :=
  { hub := { up := true, tripLatch := 2 }, tick := 400000000, regs := regsOf [(hubB, R.HUB_MODE_MODE, 5)] }

/-- A small state for the witnesses. -/
def sNoVddio : State :=
  { hub := { up := true, island := true, badRails := [17] }, regs := regsOf [(hubB, R.HUB_MODE_MODE, 1)] }

/-- A small state for the witnesses. -/
def sArmable : State :=
  { hub := { up := true }, regs := regsOf [(hubB, R.HUB_MODE_READY, 1), (hubB, R.HUB_MODE_MODE, 2), (chB 191, R.CH_KIND_HEAD_KIND, 0), (chB 191, R.SEQ_STATUS_VERIFIED0, 1), (ephyB 191, R.EPHY_STATUS_WIDTH, 4), (dieB 3, R.HUB_DIE_STATUS_READY, 1), (timeB, R.TIME_STATUS_VALID, 1)] }

/-- A small state for the witnesses. -/
def sArmed : State :=
  { hub := { up := true }, regs := regsOf [(hubB, R.HUB_MODE_READY, 1), (hubB, R.HUB_MODE_MODE, 2), (chB 191, R.CH_STATUS_STATE, 1)] }

/-- A small state for the witnesses. -/
def sRunning : State :=
  { hub := { up := true }, regs := regsOf [(hubB, R.HUB_MODE_READY, 1), (hubB, R.HUB_MODE_MODE, 2), (chB 191, R.CH_STATUS_STATE, 2)] }

/-- A small state for the witnesses. -/
def sDraining : State :=
  { hub := { up := true }, ht := 40000000, regs := regsOf [(hubB, R.HUB_MODE_MODE, 2), (chB 191, R.CH_STATUS_STATE, 3)], seqs := [(191, { run := .stopped, stopT := some 0 })] }

/-- A small state for the witnesses. -/
def sFaulted : State :=
  { hub := { up := true }, regs := regsOf [(hubB, R.HUB_MODE_READY, 1), (hubB, R.HUB_MODE_MODE, 2), (chB 191, R.CH_STATUS_STATE, 4), (chB 191, R.CH_STATUS_FAULT, 3)] }

/-- A small state for the witnesses. -/
def sBusy : State :=
  { hub := { up := true }, regs := regsOf [(hubB, R.HUB_MODE_READY, 1), (hubB, R.HUB_MODE_MODE, 2), (timeB, R.TIME_STATUS_VALID, 1), (chB 0, R.CH_STATUS_STATE, 2), (chB 7, R.CH_STATUS_STATE, 4), (chB 47, R.CH_STATUS_STATE, 3), (chB 191, R.CH_STATUS_STATE, 1)] }

/-- A small state for the witnesses. -/
def timeMsg : List Nat :=
  316 :: 1 :: 7 :: List.replicate 25 1 ++ [255, 112, 111, 41] ++ [509]

/-- A small state for the witnesses. -/
def delayMsg : List Nat :=
  316 :: 2 :: 7 :: List.replicate 25 1 ++ [76, 228, 66, 234] ++ [509]

/-- A small state for the witnesses. -/
def respMsg : List Nat :=
  316 :: 3 :: 7 :: List.replicate 25 1 ++ [34, 104, 89, 171] ++ [509]

/-- A small state for the witnesses. -/
def sMaster : State :=
  { ht := 6000000, regs := regsOf [(timeB, R.TIME_CTRL_ROLE, 1), (timeB, R.TIME_STATUS_STATE, 1), (timeB, R.TIME_STATUS_REF_OK, 1), (timeB, R.TIME_STATUS_VALID, 1), (timeB, R.TIME_SET_LO_SET, 77), (timeB, R.TIME_CTRL_OUT_EN, 1)] }

/-- A small state for the witnesses. -/
def sMasterSet : State :=
  { ht := 8000000, time := { setReq := some (77, 8000000) }, regs := regsOf [(timeB, R.TIME_CTRL_ROLE, 1), (timeB, R.TIME_STATUS_STATE, 1), (timeB, R.TIME_STATUS_REF_OK, 1), (timeB, R.TIME_STATUS_VALID, 1)] }

/-- A small state for the witnesses. -/
def sFollow : State :=
  { ht := 2000000, tick := 50000000000, time := { following := true, inA := { lock := true, seen := 1, holdAt := 5, delays := [3], req := some (9, 5) }, inB := { lock := true, seen := 1, delays := [3], validAt := 5, req := some (9, 5) } }, regs := regsOf [(timeB, R.TIME_STATUS_STATE, 2), (timeB, R.TIME_STATUS_VALID, 1), (timeB, R.TIME_STATUS_A_VALID, 1), (timeB, R.TIME_STATUS_B_VALID, 1), (timeB, R.TIME_CTRL_REVERT, 1), (timeB, R.TIME_CTRL_PRIMARY, 1)] }

/-- A small state for the witnesses. -/
def sStepPending : State :=
  { ht := 900, time := { stepOfs := -1600 }, regs := regsOf [(timeB, R.TIME_STATUS_STEP_PENDING, 1), (timeB, R.TIME_STATUS_STATE, 3)] }

/-- A small state for the witnesses. -/
def sHoldover : State :=
  { tick := 40000000000000, time := { e0 := 5 }, regs := regsOf [(timeB, R.TIME_STATUS_STATE, 3), (timeB, R.TIME_STATUS_VALID, 1), (timeB, R.TIME_BOUND_HOLD_MAX, 1)] }

/-- A small state for the witnesses. -/
def sExpiredMaster : State :=
  { tick := 4000000000, regs := regsOf [(timeB, R.TIME_STATUS_REF_OK, 1), (timeB, R.TIME_CTRL_ROLE, 1), (timeB, R.TIME_STATUS_STATE, 4)] }

/-- A small state for the witnesses. -/
def sPlain : State :=
  { hub := { up := true }, ht := 5 * 2 ^ 32 + 7, regs := regsOf [(hubB, R.HUB_MODE_MODE, 1), (sluiceB, R.SLUICE_CTRL_DEFER_MAX, 9)], latch := [(0, 65540, 4)] }

/-- A small state for the witnesses. -/
def sLine : State :=
  { hub := { up := true }, ht := 5000000, frms := [(191, [{ fno := 5, bnd := 900, flipped := true, comp := { gov := regsOf [(chB 191, R.PLANE_GEOM_H_M1, 1), (fetchB 191 0, R.FETCH_SURF_EN, 1), (fetchB 191 0, R.FETCH_SRC_SIZE_H_M1, 1), (fetchB 191 1, R.FETCH_SURF_EN, 1), (fetchB 191 1, R.FETCH_SRC_SIZE_H_M1, 1), (compB 191 1, R.COMP_LSCALER_SCALER, 4), (compB 191 0, R.COMP_LSCALER_SCALER, 4)], got := [(0, [])] } }])] }

/-- A small state for the witnesses. -/
def sLineR : State :=
  { hub := { up := true }, ht := 5000000, frms := [(191, [{ fno := 5, bnd := 900, flipped := true, comp := { gov := regsOf [(chB 191, R.PLANE_GEOM_H_M1, 1), (fetchB 191 0, R.FETCH_SURF_EN, 1), (fetchB 191 0, R.FETCH_SRC_SIZE_H_M1, 1), (fetchB 191 1, R.FETCH_SURF_EN, 1), (fetchB 191 1, R.FETCH_SRC_SIZE_H_M1, 1), (compB 191 1, R.COMP_LSCALER_SCALER, 4), (compB 191 0, R.COMP_LSCALER_SCALER, 4)], got := [(0, [])], own := [(0, 7)] } }])], surfs := [(7168, { w := 1, h := 2, stride := 64, fmt := 3 })] }

/-- A small state for the witnesses. -/
def sLine2 : State :=
  { hub := { up := true }, ht := 5000000, frms := [(191, [{ fno := 5, bnd := 900, flipped := true, lines := 1, comp := { gov := regsOf [(chB 191, R.PLANE_GEOM_H_M1, 1), (fetchB 191 0, R.FETCH_SURF_EN, 1), (fetchB 191 0, R.FETCH_SRC_SIZE_H_M1, 1), (compB 191 0, R.COMP_LSCALER_SCALER, 4)] } }])] }

/-- A small state for the witnesses. -/
def sDoneFrame : State :=
  { hub := { up := true }, ht := 5000000, frms := [(191, [{ fno := 5, bnd := 900, flipped := true, lines := 2, comp := { gov := regsOf [(chB 191, R.PLANE_GEOM_H_M1, 1), (fetchB 191 0, R.FETCH_SURF_EN, 1), (fetchB 191 0, R.FETCH_SRC_SIZE_H_M1, 1), (compB 191 0, R.COMP_LSCALER_SCALER, 4)], levee := true, band := 4 } }])] }

/-- A small state for the witnesses. -/
def sFlip : State :=
  { hub := { up := true }, ht := 96000000, frms := [(191, [{ fno := 5, bnd := 100000000 }])], chs := [(191, { nextFno := 6 })], regs := regsOf [(chB 191, R.CH_STATUS_STATE, 2), (chB 191, R.COMP_CSEQ_SEQ, 3)] }

/-- A small state for the witnesses. -/
def sPreempt : State :=
  { hub := { up := true }, regs := regsOf [(hubB, R.HUB_MODE_READY, 1), (hubB, R.HUB_MODE_MODE, 2), (chB 191, R.CH_STATUS_STATE, 2), (ddrDieB 3, R.DDR_DIE_STATUS_MEM_OK, 1), (ddrDieB 3, R.DDR_DIE_CAP_GIB, 1)], eff := regsOf [(chB 191, R.PLANE_POOL_BASE_HI_BASE, 6144)] }

/-- A small state for the witnesses. -/
def sWaits : State :=
  { hub := { up := true }, ht := 5000000, frms := [(191, [{ fno := 5, bnd := 900, flipped := true, waitLines := 1, comp := { gov := regsOf [(chB 191, R.PLANE_GEOM_H_M1, 1), (fetchB 191 0, R.FETCH_SURF_EN, 1), (fetchB 191 0, R.FETCH_SRC_SIZE_H_M1, 1), (compB 191 0, R.COMP_LSCALER_SCALER, 4)], ended := true } }])] }

/-- A small state for the witnesses. -/
def sWb : State :=
  { hub := { up := true }, ht := 5000000, frms := [(191, [{ fno := 5, bnd := 900, flipped := true, comp := { gov := regsOf [(chB 191, R.PLANE_GEOM_H_M1, 1), (fetchB 191 0, R.FETCH_SURF_EN, 1), (fetchB 191 0, R.FETCH_SRC_SIZE_H_M1, 1), (compB 191 0, R.COMP_LSCALER_SCALER, 4)], ended := true, wb := some 2 } }])], regs := regsOf [(chB 191, R.COMP_WB_SEQ_LO_SEQ, 4294967295), (chB 191, R.COMP_WB_SEQ_HI_SEQ, 4294967295)] }

/-- A small state for the witnesses. -/
def sWbBad : State :=
  { hub := { up := true }, ht := 5000000, frms := [(191, [{ fno := 5, bnd := 900, flipped := true, comp := { gov := regsOf [(chB 191, R.PLANE_GEOM_H_M1, 1), (fetchB 191 0, R.FETCH_SURF_EN, 1), (fetchB 191 0, R.FETCH_SRC_SIZE_H_M1, 1), (compB 191 0, R.COMP_LSCALER_SCALER, 4)], ended := true, wb := some 2, wbDrop := 1 } }])] }

/-- A small state for the witnesses. -/
def ringEntry0 : List Byte :=
  ([0, 0, 52, 18] : List Byte) ++ List.replicate 60 0

/-- A small state for the witnesses. -/
def ringEntry1 : List Byte :=
  ([63, 0, 52, 18] : List Byte) ++ List.replicate 60 0

/-- A small state for the witnesses. -/
def ringEntry2 : List Byte :=
  ([1, 0, 52, 18, 0, 0, 0, 0, 255, 3, 0, 0, 0, 0, 0, 0, 0, 0, 1, 0, 0, 0, 0, 0, 0, 0, 0, 0, 0, 0, 0, 0, 1, 0, 1, 0, 1] : List Byte) ++ List.replicate 27 0

/-- A small state for the witnesses. -/
def ringEntry3 : List Byte :=
  ([1, 0, 52, 18, 0, 0, 0, 0, 0, 4, 0, 0, 0, 0, 0, 0, 0, 0, 1, 0, 0, 0, 0, 0, 0, 0, 0, 0, 0, 0, 0, 0, 1, 0, 1, 0, 1] : List Byte) ++ List.replicate 27 0

/-- A small state for the witnesses. -/
def ringEntry4 : List Byte :=
  ([2, 0, 52, 18, 0, 0, 0, 0, 255, 3] : List Byte) ++ List.replicate 54 0

/-- A small state for the witnesses. -/
def ringEntry5 : List Byte :=
  ([2, 0, 52, 18, 0, 0, 0, 0, 0, 4] : List Byte) ++ List.replicate 54 0

/-- A small state for the witnesses. -/
def ringEntry6 : List Byte :=
  ([3, 0, 52, 18, 191, 0, 7, 0, 0, 0, 0, 0, 5, 0, 0, 0, 0, 0, 0, 0, 0, 0, 0, 0, 0, 0, 0, 0, 0, 0, 1, 0, 0, 0, 1] : List Byte) ++ List.replicate 29 0

/-- A small state for the witnesses. -/
def ringEntry7 : List Byte :=
  ([3, 0, 52, 18, 191, 0, 9] : List Byte) ++ List.replicate 57 0

/-- A small state for the witnesses. -/
def ringEntry8 : List Byte :=
  ([4, 0, 52, 18, 191, 0, 0, 0, 57, 48] : List Byte) ++ List.replicate 54 0

/-- A small state for the witnesses. -/
def ringEntry9 : List Byte :=
  ([66, 0, 52, 18, 191] : List Byte) ++ List.replicate 59 0

/-- A small state for the witnesses. -/
def ringEntry10 : List Byte :=
  ([5, 0, 52, 18, 0, 0, 0, 0, 0, 16, 0, 0, 0, 0, 0, 0, 7, 0, 0, 0, 0, 0, 0, 0, 9] : List Byte) ++ List.replicate 39 0

/-- A small state for the witnesses. -/
def ringEntry11 : List Byte :=
  ([5, 0, 52, 18, 0, 0, 0, 0, 4, 16] : List Byte) ++ List.replicate 54 0

/-- A small state for the witnesses. -/
def ringEntry12 : List Byte :=
  ([5, 0, 52, 18] : List Byte) ++ List.replicate 60 0

/-- A small state for the witnesses. -/
def ringEntry13 : List Byte :=
  ([] : List Byte) ++ List.replicate 64 0

/-- A small state for the witnesses. -/
def ringEntry14 : List Byte :=
  ([6, 0, 52, 18, 191, 0, 0, 0, 0, 32, 0, 0, 0, 0, 0, 0, 36] : List Byte) ++ List.replicate 47 0

/-- A small state for the witnesses. -/
def ringEntry15 : List Byte :=
  ([6, 0, 52, 18, 191, 0, 0, 0, 0, 32, 0, 0, 0, 0, 0, 0, 35] : List Byte) ++ List.replicate 47 0

/-- A small state for the witnesses. -/
def ringEntry16 : List Byte :=
  ([6, 1, 52, 18, 0, 0, 0, 0, 0, 32, 0, 0, 0, 0, 0, 0, 40, 0, 0, 0, 0, 6] : List Byte) ++ List.replicate 42 0

/-- A small state for the witnesses. -/
def ringEntry17 : List Byte :=
  ([6, 1, 52, 18, 0, 0, 0, 0, 0, 0, 0, 0, 0, 0, 0, 0, 0, 0, 0, 0, 0, 0, 0, 0, 5] : List Byte) ++ List.replicate 39 0

/-- A small state for the witnesses. -/
def ringEntry18 : List Byte :=
  ([6, 1, 52, 18] : List Byte) ++ List.replicate 60 0

/-- A small state for the witnesses. -/
def ringEntry19 : List Byte :=
  ([7, 0, 52, 18, 191, 0, 0, 0, 77] : List Byte) ++ List.replicate 55 0

/-- A small state for the witnesses. -/
def ringEntry20 : List Byte :=
  ([8, 0, 52, 18, 191, 0, 3, 0, 0, 0, 0, 0, 0, 0, 0, 0, 1, 16, 1] : List Byte) ++ List.replicate 45 0

/-- A small state for the witnesses. -/
def ringEntry21 : List Byte :=
  ([8, 0, 52, 18, 191, 0, 3, 0, 0, 32, 0, 0, 0, 0, 0, 0, 2, 0, 255, 0, 0, 0, 0, 0, 9] : List Byte) ++ List.replicate 39 0

/-- A small state for the witnesses. -/
def ringEntry22 : List Byte :=
  ([9, 0, 52, 18, 191, 0, 3, 0, 9] : List Byte) ++ List.replicate 55 0

/-- A small state for the witnesses. -/
def ringEntry23 : List Byte :=
  ([10, 0, 52, 18, 0, 0, 15, 0, 0, 16] : List Byte) ++ List.replicate 54 0

/-- A small state for the witnesses. -/
def ringEntry24 : List Byte :=
  ([10, 0, 52, 18, 0, 0, 0, 0, 0, 16] : List Byte) ++ List.replicate 54 0

/-- A small state for the witnesses. -/
def ringEntry25 : List Byte :=
  ([64, 0, 52, 18, 191, 0, 0, 0, 1, 1] : List Byte) ++ List.replicate 54 0

/-- A small state for the witnesses. -/
def ringEntry26 : List Byte :=
  ([64, 0, 52, 18, 191, 0, 0, 0, 0, 1, 15, 255, 5] : List Byte) ++ List.replicate 51 0

/-- A small state for the witnesses. -/
def ringEntry27 : List Byte :=
  ([65, 0, 52, 18, 191, 0, 0, 0, 0, 1, 15] : List Byte) ++ List.replicate 53 0

/-- A small state for the witnesses. -/
def sModeRequestsAreRejectedInOrder3 : State :=
  { sLeaving with regs := regsOf [(hubB, R.HUB_MODE_READY, 1), (hubB, R.HUB_MODE_REQ_PENDING, 1)] }

/-- A small state for the witnesses. -/
def sModeRequestsAreRejectedInOrder4 : State :=
  { hub := { up := true }, regs := regsOf [(hubB, R.HUB_MODE_READY, 1)] }

/-- A small state for the witnesses. -/
def sModeRequestsAreRejectedInOrder5 : State :=
  { regs := regsOf [(hubB, R.HUB_MODE_READY, 1), (mgtB, R.MGT_STATUS_MGT_MODE, 1)] }

/-- A small state for the witnesses. -/
def sRailsFiveToSeventeen3 : State :=
  { sShow with regs := regsOf [(ddrB 3 7, R.DDR_STATUS_STATE, 2)] }

/-- A small state for the witnesses. -/
def sRailsFiveToSeventeen4 : State :=
  { sShow with regs := regsOf [(d2dB 3, R.HUB_D2D_STATUS_MOD1, 2)] }

/-- A small state for the witnesses. -/
def sChannelsRunAndDrain0 : State :=
  { ht := 40000000, regs := regsOf [(chB 191, R.CH_STATUS_STATE, 1), (chB 191, R.CH_STATUS_COMMITTED, 1)], weirs := [(191, { q := [{ kind := .mark, t := 4000000, frame := 4000000 }] })] }

/-- A small state for the witnesses. -/
def sChannelsRunAndDrain1 : State :=
  { hub := { up := true }, ht := 40000000, regs := regsOf [(hubB, R.HUB_MODE_MODE, 2), (chB 191, R.CH_STATUS_STATE, 3), (ephyB 191, R.EPHY_STATUS_WIDTH, 4)], seqs := [(191, { run := .stopped, stopT := some 0 })] }

/-- A small state for the witnesses. -/
def sTimeSetIsLatchedAndLoaded4 : State :=
  { ht := 9, time := { setReq := some (77, 9) } }

/-- A small state for the witnesses. -/
def sHeadwaterMessagesAreSent0 : State :=
  { sMaster with ht := 8000000, tick := 9 }

/-- A small state for the witnesses. -/
def sHeadwaterMessagesAreSent3 : State :=
  { time := { outLock := true } }

/-- A small state for the witnesses. -/
def sHeadwaterMessagesAreTaken3 : State :=
  { ht := 9, time := { inB := { lock := true, req := some (7, 5) } } }

/-- A small state for the witnesses. -/
def sHeadwaterLinksAndReferences5 : State :=
  { sHoldover with time := { e0 := 1 } }

/-- A small state for the witnesses. -/
def sHeadwaterLinksAndReferences8 : State :=
  { tick := 7 }

/-- A small state for the witnesses. -/
def sHeadwaterLinksAndReferences9 : State :=
  { regs := regsOf [(dieB 3, R.HUB_DIE_STATUS_CLK_LOCK, 1)] }

/-- A small state for the witnesses. -/
def sRegisterWritesFollowTheAccessCodes5 : State :=
  { sRunning with regs := (wrB (chB 191) R.CH_STATUS_WRITE_REJECTED true sRunning).regs }

/-- A small state for the witnesses. -/
def sRegisterWritesFollowTheAccessCodes6 : State :=
  { sPlain with latch := [] }

/-- A small state for the witnesses. -/
def sFlipsStartFrames2 : State :=
  { chs := [(191, { darkOk := true, darkFrom := some 3 })], regs := regsOf [(chB 191, R.PLANE_STATUS_FMT_DARK, 1)] }

/-- A small state for the witnesses. -/
def sFlipsStartFrames3 : State :=
  { chs := [(191, { rangeOk := true, rangeFrom := some 3 })], regs := regsOf [(chB 191, R.SEQ_RANGE_STAT_RANGE_DARK, 1)] }

/-- A small state for the witnesses. -/
def sPoolSlotsAndWriteBack1 : State :=
  { ht := 900, frms := [(191, [{ fno := 4, bnd := 800, flipped := true, complete := some 1 }, { fno := 5, bnd := 900, flipped := true }])], chs := [(191, { nextFno := 5 })], regs := regsOf [(chB 191, R.CH_STATUS_STATE, 2)], fmts := [(191, [{ frames := 1 }])] }

/-- A small state for the witnesses. -/
def sCompositionRegistersWithAStepOfTheirOwn0 : State :=
  { regs := regsOf [(chB 191, R.COMP_LUT_IDX_BANK, 1), (chB 191, R.COMP_LUT_IDX_ENTRY, 1024)] }

/-- A small state for the witnesses. -/
def sCompositionRegistersWithAStepOfTheirOwn3 : State :=
  { regs := regsOf [(chB 191, R.COMP_LEVEE_CTRL_ACTIVE, 1), (chB 191, R.COMP_LEVEE_CTRL_FLOOR, 100)] }

/-- A small state for the witnesses. -/
def sCompositionRegistersWithAStepOfTheirOwn5 : State :=
  { regs := regsOf [(compB 191 8, R.COMP_LLATE_CNT_COUNT, 4)] }

/-- A small state for the witnesses. -/
def sSequencerRegisterInstructions0 : State :=
  { hub := { up := true }, regs := regsOf [(hubB, R.HUB_MODE_MODE, 2), (chB 191, R.SEQ_BSIZE_COUNT, 4)], prog := [(382 * 4096 + 3, 0)], seqs := [(191, { run := .ready, pc := 3, S := [(0, 4294967295), (5, 7), (15, 70)] })] }

/-- A small state for the witnesses. -/
def sSequencerRegisterInstructions1 : State :=
  { hub := { up := true }, regs := regsOf [(hubB, R.HUB_MODE_MODE, 2), (chB 191, R.SEQ_BSIZE_COUNT, 4)], prog := [(382 * 4096 + 3, 165707776)], seqs := [(191, { run := .ready, pc := 3, S := [(0, 4294967295), (5, 7), (15, 70)] })] }

/-- A small state for the witnesses. -/
def sSequencerRegisterInstructions1b : State :=
  { hub := { up := true }, regs := regsOf [(hubB, R.HUB_MODE_MODE, 2), (chB 191, R.SEQ_BSIZE_COUNT, 4)], prog := [(382 * 4096 + 3, 134414335)], seqs := [(191, { run := .ready, pc := 3, S := [(0, 4294967295), (5, 7), (15, 70)] })] }

/-- A small state for the witnesses. -/
def sSequencerRegisterInstructions2 : State :=
  { hub := { up := true }, regs := regsOf [(hubB, R.HUB_MODE_MODE, 2), (chB 191, R.SEQ_BSIZE_COUNT, 4)], prog := [(382 * 4096 + 3, 233897984)], seqs := [(191, { run := .ready, pc := 3, S := [(0, 4294967295), (5, 7), (15, 70)], tc := 2 ^ 33 + 5 })] }

/-- A small state for the witnesses. -/
def sSequencerRegisterInstructions2b : State :=
  { hub := { up := true }, regs := regsOf [(hubB, R.HUB_MODE_MODE, 2), (chB 191, R.SEQ_BSIZE_COUNT, 4)], prog := [(382 * 4096 + 3, 239075328)], seqs := [(191, { run := .ready, pc := 3, S := [(0, 4294967295), (5, 7), (15, 70)], dx := 4 })] }

/-- A small state for the witnesses. -/
def sSequencerRegisterInstructions3 : State :=
  { hub := { up := true }, regs := regsOf [(hubB, R.HUB_MODE_MODE, 2), (chB 191, R.SEQ_BSIZE_COUNT, 4)], prog := [(382 * 4096 + 3, 299958271)], seqs := [(191, { run := .ready, pc := 3, S := [(0, 4294967295), (5, 7), (15, 70)] })] }

/-- A small state for the witnesses. -/
def sSequencerRegisterInstructions4 : State :=
  { hub := { up := true }, regs := regsOf [(hubB, R.HUB_MODE_MODE, 2), (chB 191, R.SEQ_BSIZE_COUNT, 4)], prog := [(382 * 4096 + 3, 337984512)], seqs := [(191, { run := .ready, pc := 3, S := [(0, 4294967295), (5, 7), (15, 70)] })] }

/-- A small state for the witnesses. -/
def sSequencerRegisterInstructions5 : State :=
  { hub := { up := true }, regs := regsOf [(hubB, R.HUB_MODE_MODE, 2), (chB 191, R.SEQ_BSIZE_COUNT, 4)], prog := [(382 * 4096 + 3, 404755456)], seqs := [(191, { run := .ready, pc := 3, S := [(0, 4294967295), (5, 7), (15, 70)] })] }

/-- A small state for the witnesses. -/
def sSequencerRegisterInstructions6 : State :=
  { hub := { up := true }, regs := regsOf [(hubB, R.HUB_MODE_MODE, 2), (chB 191, R.SEQ_BSIZE_COUNT, 4)], prog := [(382 * 4096 + 3, 471864320)], seqs := [(191, { run := .ready, pc := 3, S := [(0, 4294967295), (5, 7), (15, 70)] })] }

/-- A small state for the witnesses. -/
def sSequencerRegisterInstructions7 : State :=
  { hub := { up := true }, regs := regsOf [(hubB, R.HUB_MODE_MODE, 2), (chB 191, R.SEQ_BSIZE_COUNT, 4)], prog := [(382 * 4096 + 3, 538973184)], seqs := [(191, { run := .ready, pc := 3, S := [(0, 4294967295), (5, 7), (15, 70)] })] }

/-- A small state for the witnesses. -/
def sSequencerRegisterInstructions8 : State :=
  { hub := { up := true }, regs := regsOf [(hubB, R.HUB_MODE_MODE, 2), (chB 191, R.SEQ_BSIZE_COUNT, 4)], prog := [(382 * 4096 + 3, 606092288)], seqs := [(191, { run := .ready, pc := 3, S := [(0, 4294967295), (5, 7), (15, 70)] })] }

/-- A small state for the witnesses. -/
def sSequencerRegisterInstructions9 : State :=
  { hub := { up := true }, regs := regsOf [(hubB, R.HUB_MODE_MODE, 2), (chB 191, R.SEQ_BSIZE_COUNT, 4)], prog := [(382 * 4096 + 3, 673218591)], seqs := [(191, { run := .ready, pc := 3, S := [(0, 4294967295), (5, 7), (15, 70)] })] }

/-- A small state for the witnesses. -/
def sSequencerRegisterInstructions10 : State :=
  { hub := { up := true }, regs := regsOf [(hubB, R.HUB_MODE_MODE, 2), (chB 191, R.SEQ_BSIZE_COUNT, 4)], prog := [(382 * 4096 + 3, 738202624)], seqs := [(191, { run := .ready, pc := 3, S := [(0, 4294967295), (5, 7), (15, 70)] })] }

/-- A small state for the witnesses. -/
def sSequencerRegisterInstructions11 : State :=
  { hub := { up := true }, regs := regsOf [(hubB, R.HUB_MODE_MODE, 2), (chB 191, R.SEQ_BSIZE_COUNT, 4)], prog := [(382 * 4096 + 3, 805310463)], seqs := [(191, { run := .ready, pc := 3, S := [(0, 4294967295), (5, 7), (15, 70)] })] }

/-- A small state for the witnesses. -/
def sSequencerRegisterInstructions12 : State :=
  { hub := { up := true }, regs := regsOf [(hubB, R.HUB_MODE_MODE, 2), (chB 191, R.SEQ_BSIZE_COUNT, 4)], prog := [(382 * 4096 + 3, 905969666)], seqs := [(191, { run := .ready, pc := 3, S := [(0, 4294967295), (5, 7), (15, 70)], t := true })] }

/-- A small state for the witnesses. -/
def sSequencerRegisterInstructions12b : State :=
  { hub := { up := true }, regs := regsOf [(hubB, R.HUB_MODE_MODE, 2), (chB 191, R.SEQ_BSIZE_COUNT, 4)], prog := [(382 * 4096 + 3, 901775362)], seqs := [(191, { run := .ready, pc := 3, S := [(0, 4294967295), (5, 7), (15, 70)], n := true })] }

/-- A small state for the witnesses. -/
def sSequencerRegisterInstructions13 : State :=
  { hub := { up := true }, regs := regsOf [(hubB, R.HUB_MODE_MODE, 2), (chB 191, R.SEQ_BSIZE_COUNT, 4)], prog := [(382 * 4096 + 3, 939524097)], seqs := [(191, { run := .ready, pc := 3, S := [(0, 4294967295), (5, 7), (15, 70)] })] }

/-- A small state for the witnesses. -/
def sSequencerRegisterInstructions14 : State :=
  { hub := { up := true }, regs := regsOf [(hubB, R.HUB_MODE_MODE, 2), (chB 191, R.SEQ_BSIZE_COUNT, 4)], prog := [(382 * 4096 + 3, 1006632960)], seqs := [(191, { run := .ready, pc := 3, S := [(0, 4294967295), (5, 7), (15, 70)], stack := [9, 8] })] }

/-- A small state for the witnesses. -/
def sLoopRegisterInstructions0 : State :=
  { hub := { up := true }, regs := regsOf [(hubB, R.HUB_MODE_MODE, 2), (slB 2047, R.LOOP_SLOT_STATUS_STATE, 2), (slB 2047, R.LOOP_SLOT_IMG_COUNT, 4)], lprog := [(1024 * 255 + 3, 0)], slots := [(2047, { phase := .computing, pc := 3 })], cores := [(255, { cur := some 2047, I := [(0, 4294967295), (5, 7), (7, 70)], F := [(0, 0x3F800000), (5, 0x40000000), (31, 0xC0000000)] })] }

/-- A small state for the witnesses. -/
def sLoopRegisterInstructions1 : State :=
  { hub := { up := true }, regs := regsOf [(hubB, R.HUB_MODE_MODE, 2), (slB 2047, R.LOOP_SLOT_STATUS_STATE, 2), (slB 2047, R.LOOP_SLOT_IMG_COUNT, 4)], lprog := [(1024 * 255 + 3, 200425344)], slots := [(2047, { phase := .computing, pc := 3 })], cores := [(255, { cur := some 2047, I := [(0, 4294967295), (5, 7), (7, 70)], F := [(0, 0x3F800000), (5, 0x40000000), (31, 0xC0000000)] })] }

/-- A small state for the witnesses. -/
def sLoopRegisterInstructions1b : State :=
  { hub := { up := true }, regs := regsOf [(hubB, R.HUB_MODE_MODE, 2), (slB 2047, R.LOOP_SLOT_STATUS_STATE, 2), (slB 2047, R.LOOP_SLOT_IMG_COUNT, 4)], lprog := [(1024 * 255 + 3, 134250496)], slots := [(2047, { phase := .computing, pc := 3 })], cores := [(255, { cur := some 2047, I := [(0, 4294967295), (5, 7), (7, 70)], F := [(0, 0x3F800000), (5, 0x40000000), (31, 0xC0000000)] })] }

/-- A small state for the witnesses. -/
def sLoopRegisterInstructions2 : State :=
  { hub := { up := true }, regs := regsOf [(hubB, R.HUB_MODE_MODE, 2), (slB 2047, R.LOOP_SLOT_STATUS_STATE, 2), (slB 2047, R.LOOP_SLOT_IMG_COUNT, 4)], lprog := [(1024 * 255 + 3, 217055232)], slots := [(2047, { phase := .computing, pc := 3 })], cores := [(255, { cur := some 2047, I := [(0, 4294967295), (5, 7), (7, 70)], F := [(0, 0x3F800000), (5, 0x40000000), (31, 0xC0000000)] })] }

/-- A small state for the witnesses. -/
def sLoopRegisterInstructions2b : State :=
  { hub := { up := true }, regs := regsOf [(hubB, R.HUB_MODE_MODE, 2), (slB 2047, R.LOOP_SLOT_STATUS_STATE, 2), (slB 2047, R.LOOP_SLOT_IMG_COUNT, 4)], lprog := [(1024 * 255 + 3, 268419072)], slots := [(2047, { phase := .computing, pc := 3 })], cores := [(255, { cur := some 2047, I := [(0, 4294967295), (5, 7), (7, 70)], F := [(0, 0x3F800000), (5, 0x40000000), (31, 0xC0000000)] })] }

/-- A small state for the witnesses. -/
def sLoopRegisterInstructions2bb : State :=
  { hub := { up := true }, regs := regsOf [(hubB, R.HUB_MODE_MODE, 2), (slB 2047, R.LOOP_SLOT_STATUS_STATE, 2), (slB 2047, R.LOOP_SLOT_IMG_COUNT, 4)], lprog := [(1024 * 255 + 3, 204537856)], slots := [(2047, { phase := .computing, pc := 3, cTick := 905, phi := 5, per := 100 })], cores := [(255, { cur := some 2047, I := [(0, 4294967295), (5, 7), (7, 70)], F := [(0, 0x3F800000), (5, 0x40000000), (31, 0xC0000000)] })] }

/-- A small state for the witnesses. -/
def sLoopRegisterInstructions3 : State :=
  { hub := { up := true }, regs := regsOf [(hubB, R.HUB_MODE_MODE, 2), (slB 2047, R.LOOP_SLOT_STATUS_STATE, 2), (slB 2047, R.LOOP_SLOT_IMG_COUNT, 4)], lprog := [(1024 * 255 + 3, 283181055)], slots := [(2047, { phase := .computing, pc := 3 })], cores := [(255, { cur := some 2047, I := [(0, 4294967295), (5, 7), (7, 70)], F := [(0, 0x3F800000), (5, 0x40000000), (31, 0xC0000000)] })] }

/-- A small state for the witnesses. -/
def sLoopRegisterInstructions4 : State :=
  { hub := { up := true }, regs := regsOf [(hubB, R.HUB_MODE_MODE, 2), (slB 2047, R.LOOP_SLOT_STATUS_STATE, 2), (slB 2047, R.LOOP_SLOT_IMG_COUNT, 4)], lprog := [(1024 * 255 + 3, 337976320)], slots := [(2047, { phase := .computing, pc := 3 })], cores := [(255, { cur := some 2047, I := [(0, 4294967295), (5, 7), (7, 70)], F := [(0, 0x3F800000), (5, 0x40000000), (31, 0xC0000000)] })] }

/-- A small state for the witnesses. -/
def sLoopRegisterInstructions5 : State :=
  { hub := { up := true }, regs := regsOf [(hubB, R.HUB_MODE_MODE, 2), (slB 2047, R.LOOP_SLOT_STATUS_STATE, 2), (slB 2047, R.LOOP_SLOT_IMG_COUNT, 4)], lprog := [(1024 * 255 + 3, 404755456)], slots := [(2047, { phase := .computing, pc := 3 })], cores := [(255, { cur := some 2047, I := [(0, 4294967295), (5, 7), (7, 70)], F := [(0, 0x3F800000), (5, 0x40000000), (31, 0xC0000000)] })] }

/-- A small state for the witnesses. -/
def sLoopRegisterInstructions6 : State :=
  { hub := { up := true }, regs := regsOf [(hubB, R.HUB_MODE_MODE, 2), (slB 2047, R.LOOP_SLOT_STATUS_STATE, 2), (slB 2047, R.LOOP_SLOT_IMG_COUNT, 4)], lprog := [(1024 * 255 + 3, 471864320)], slots := [(2047, { phase := .computing, pc := 3 })], cores := [(255, { cur := some 2047, I := [(0, 4294967295), (5, 7), (7, 70)], F := [(0, 0x3F800000), (5, 0x40000000), (31, 0xC0000000)] })] }

/-- A small state for the witnesses. -/
def sLoopRegisterInstructions7 : State :=
  { hub := { up := true }, regs := regsOf [(hubB, R.HUB_MODE_MODE, 2), (slB 2047, R.LOOP_SLOT_STATUS_STATE, 2), (slB 2047, R.LOOP_SLOT_IMG_COUNT, 4)], lprog := [(1024 * 255 + 3, 538973184)], slots := [(2047, { phase := .computing, pc := 3 })], cores := [(255, { cur := some 2047, I := [(0, 4294967295), (5, 7), (7, 70)], F := [(0, 0x3F800000), (5, 0x40000000), (31, 0xC0000000)] })] }

/-- A small state for the witnesses. -/
def sLoopRegisterInstructions8 : State :=
  { hub := { up := true }, regs := regsOf [(hubB, R.HUB_MODE_MODE, 2), (slB 2047, R.LOOP_SLOT_STATUS_STATE, 2), (slB 2047, R.LOOP_SLOT_IMG_COUNT, 4)], lprog := [(1024 * 255 + 3, 606084096)], slots := [(2047, { phase := .computing, pc := 3 })], cores := [(255, { cur := some 2047, I := [(0, 4294967295), (5, 7), (7, 70)], F := [(0, 0x3F800000), (5, 0x40000000), (31, 0xC0000000)] })] }

/-- A small state for the witnesses. -/
def sLoopRegisterInstructions9 : State :=
  { hub := { up := true }, regs := regsOf [(hubB, R.HUB_MODE_MODE, 2), (slB 2047, R.LOOP_SLOT_STATUS_STATE, 2), (slB 2047, R.LOOP_SLOT_IMG_COUNT, 4)], lprog := [(1024 * 255 + 3, 673218591)], slots := [(2047, { phase := .computing, pc := 3 })], cores := [(255, { cur := some 2047, I := [(0, 4294967295), (5, 7), (7, 70)], F := [(0, 0x3F800000), (5, 0x40000000), (31, 0xC0000000)] })] }

/-- A small state for the witnesses. -/
def sLoopRegisterInstructions10 : State :=
  { hub := { up := true }, regs := regsOf [(hubB, R.HUB_MODE_MODE, 2), (slB 2047, R.LOOP_SLOT_STATUS_STATE, 2), (slB 2047, R.LOOP_SLOT_IMG_COUNT, 4)], lprog := [(1024 * 255 + 3, 738202624)], slots := [(2047, { phase := .computing, pc := 3 })], cores := [(255, { cur := some 2047, I := [(0, 4294967295), (5, 7), (7, 70)], F := [(0, 0x3F800000), (5, 0x40000000), (31, 0xC0000000)] })] }

/-- A small state for the witnesses. -/
def sLoopRegisterInstructions11 : State :=
  { hub := { up := true }, regs := regsOf [(hubB, R.HUB_MODE_MODE, 2), (slB 2047, R.LOOP_SLOT_STATUS_STATE, 2), (slB 2047, R.LOOP_SLOT_IMG_COUNT, 4)], lprog := [(1024 * 255 + 3, 742326272)], slots := [(2047, { phase := .computing, pc := 3 })], cores := [(255, { cur := some 2047, I := [(0, 4294967295), (5, 7), (7, 70)], F := [(0, 0x3F800000), (5, 0x40000000), (31, 0xC0000000)] })] }

/-- A small state for the witnesses. -/
def sLoopRegisterInstructions12 : State :=
  { hub := { up := true }, regs := regsOf [(hubB, R.HUB_MODE_MODE, 2), (slB 2047, R.LOOP_SLOT_STATUS_STATE, 2), (slB 2047, R.LOOP_SLOT_IMG_COUNT, 4)], lprog := [(1024 * 255 + 3, 805310463)], slots := [(2047, { phase := .computing, pc := 3 })], cores := [(255, { cur := some 2047, I := [(0, 4294967295), (5, 7), (7, 70)], F := [(0, 0x3F800000), (5, 0x40000000), (31, 0xC0000000)] })] }

/-- A small state for the witnesses. -/
def sLoopRegisterInstructions13 : State :=
  { hub := { up := true }, regs := regsOf [(hubB, R.HUB_MODE_MODE, 2), (slB 2047, R.LOOP_SLOT_STATUS_STATE, 2), (slB 2047, R.LOOP_SLOT_IMG_COUNT, 4)], lprog := [(1024 * 255 + 3, 872415234)], slots := [(2047, { phase := .computing, pc := 3 })], cores := [(255, { cur := some 2047, I := [(0, 4294967295), (5, 7), (7, 70)], F := [(0, 0x3F800000), (5, 0x40000000), (31, 0xC0000000)], z := true })] }

/-- A small state for the witnesses. -/
def sLoopRegisterInstructions13b : State :=
  { hub := { up := true }, regs := regsOf [(hubB, R.HUB_MODE_MODE, 2), (slB 2047, R.LOOP_SLOT_STATUS_STATE, 2), (slB 2047, R.LOOP_SLOT_IMG_COUNT, 4)], lprog := [(1024 * 255 + 3, 876609538)], slots := [(2047, { phase := .computing, pc := 3 })], cores := [(255, { cur := some 2047, I := [(0, 4294967295), (5, 7), (7, 70)], F := [(0, 0x3F800000), (5, 0x40000000), (31, 0xC0000000)], z := true })] }

/-- A small state for the witnesses. -/
def sLoopRegisterInstructions14 : State :=
  { hub := { up := true }, regs := regsOf [(hubB, R.HUB_MODE_MODE, 2), (slB 2047, R.LOOP_SLOT_STATUS_STATE, 2), (slB 2047, R.LOOP_SLOT_IMG_COUNT, 4)], lprog := [(1024 * 255 + 3, 939524097)], slots := [(2047, { phase := .computing, pc := 3 })], cores := [(255, { cur := some 2047, I := [(0, 4294967295), (5, 7), (7, 70)], F := [(0, 0x3F800000), (5, 0x40000000), (31, 0xC0000000)] })] }

/-- A small state for the witnesses. -/
def sLoopRegisterInstructions15 : State :=
  { hub := { up := true }, regs := regsOf [(hubB, R.HUB_MODE_MODE, 2), (slB 2047, R.LOOP_SLOT_STATUS_STATE, 2), (slB 2047, R.LOOP_SLOT_IMG_COUNT, 4)], lprog := [(1024 * 255 + 3, 1006632960)], slots := [(2047, { phase := .computing, pc := 3, stack := [9, 8] })], cores := [(255, { cur := some 2047, I := [(0, 4294967295), (5, 7), (7, 70)], F := [(0, 0x3F800000), (5, 0x40000000), (31, 0xC0000000)] })] }

/-- A small state for the witnesses. -/
def sMemoryHaltAndSignalInstructions0 : State :=
  { hub := { up := true }, regs := regsOf [(hubB, R.HUB_MODE_MODE, 2), (chB 191, R.SEQ_BSIZE_COUNT, 4)], prog := [(382 * 4096 + 3, 1107247100)], seqs := [(191, { run := .ready, pc := 3, S := [(0, 4294967295), (5, 7), (15, 70)] })] }

/-- A small state for the witnesses. -/
def sMemoryHaltAndSignalInstructions0b : State :=
  { hub := { up := true }, regs := regsOf [(hubB, R.HUB_MODE_MODE, 2), (chB 191, R.SEQ_BSIZE_COUNT, 4)], prog := [(382 * 4096 + 3, 1076166657)], seqs := [(191, { run := .ready, pc := 3, S := [(0, 4294967295), (5, 7), (15, 70)] })] }

/-- A small state for the witnesses. -/
def sMemoryHaltAndSignalInstructions1 : State :=
  { hub := { up := true }, regs := regsOf [(hubB, R.HUB_MODE_MODE, 2), (chB 191, R.SEQ_BSIZE_COUNT, 4)], prog := [(382 * 4096 + 3, 1174355964)], seqs := [(191, { run := .ready, pc := 3, S := [(0, 4294967295), (5, 7), (15, 70)] })] }

/-- A small state for the witnesses. -/
def sMemoryHaltAndSignalInstructions1b : State :=
  { hub := { up := true }, regs := regsOf [(hubB, R.HUB_MODE_MODE, 2), (chB 191, R.SEQ_BSIZE_COUNT, 4)], prog := [(382 * 4096 + 3, 1143275521)], seqs := [(191, { run := .ready, pc := 3, S := [(0, 4294967295), (5, 7), (15, 70)] })] }

/-- A small state for the witnesses. -/
def sMemoryHaltAndSignalInstructions2 : State :=
  { hub := { up := true }, regs := regsOf [(hubB, R.HUB_MODE_MODE, 2), (slB 2047, R.LOOP_SLOT_STATUS_STATE, 2), (slB 2047, R.LOOP_SLOT_IMG_COUNT, 4), (slB 2047, R.LOOP_SLOT_WIN_DSIZE, 8)], lprog := [(1024 * 255 + 3, 1140817948)], slots := [(2047, { phase := .computing, pc := 3 })], cores := [(255, { cur := some 2047, I := [(0, 4294967295), (5, 7), (7, 70)], F := [(0, 0x3F800000), (5, 0x40000000), (31, 0xC0000000)] })] }

/-- A small state for the witnesses. -/
def sMemoryHaltAndSignalInstructions3 : State :=
  { hub := { up := true }, regs := regsOf [(hubB, R.HUB_MODE_MODE, 2), (slB 2047, R.LOOP_SLOT_STATUS_STATE, 2), (slB 2047, R.LOOP_SLOT_IMG_COUNT, 4), (slB 2047, R.LOOP_SLOT_WIN_DSIZE, 8)], lprog := [(1024 * 255 + 3, 1207926812)], slots := [(2047, { phase := .computing, pc := 3 })], cores := [(255, { cur := some 2047, I := [(0, 4294967295), (5, 7), (7, 70)], F := [(0, 0x3F800000), (5, 0x40000000), (31, 0xC0000000)] })] }

/-- A small state for the witnesses. -/
def sMemoryHaltAndSignalInstructions4 : State :=
  { hub := { up := true }, regs := regsOf [(hubB, R.HUB_MODE_MODE, 2), (chB 191, R.SEQ_BSIZE_COUNT, 4)], prog := [(382 * 4096 + 3, 67108864)], seqs := [(191, { run := .ready, pc := 3, S := [(0, 4294967295), (5, 7), (15, 70)] })] }

/-- A small state for the witnesses. -/
def sMemoryHaltAndSignalInstructions5 : State :=
  { hub := { up := true }, regs := regsOf [(hubB, R.HUB_MODE_MODE, 2), (slB 2047, R.LOOP_SLOT_STATUS_STATE, 2), (slB 2047, R.LOOP_SLOT_IMG_COUNT, 4)], lprog := [(1024 * 255 + 3, 67108864)], slots := [(2047, { phase := .computing, pc := 3 })], cores := [(255, { cur := some 2047, I := [(0, 4294967295), (5, 7), (7, 70)], F := [(0, 0x3F800000), (5, 0x40000000), (31, 0xC0000000)] })] }

/-- A small state for the witnesses. -/
def sMemoryHaltAndSignalInstructions6 : State :=
  { hub := { up := true }, regs := regsOf [(hubB, R.HUB_MODE_MODE, 2), (chB 191, R.SEQ_BSIZE_COUNT, 4)], prog := [(382 * 4096 + 3, 1208025087)], seqs := [(191, { run := .ready, pc := 3, S := [(0, 4294967295), (5, 7), (15, 70)] })] }

/-- A small state for the witnesses. -/
def sMemoryHaltAndSignalInstructions7 : State :=
  { hub := { up := true }, regs := regsOf [(hubB, R.HUB_MODE_MODE, 2), (slB 2047, R.LOOP_SLOT_STATUS_STATE, 2), (slB 2047, R.LOOP_SLOT_IMG_COUNT, 4)], lprog := [(1024 * 255 + 3, 1208025087)], slots := [(2047, { phase := .computing, pc := 3 })], cores := [(255, { cur := some 2047, I := [(0, 4294967295), (5, 7), (7, 70)], F := [(0, 0x3F800000), (5, 0x40000000), (31, 0xC0000000)] })] }

/-- A small state for the witnesses. -/
def sMemoryHaltAndSignalInstructions10 : State :=
  { hub := { up := true }, regs := regsOf [(hubB, R.HUB_MODE_MODE, 2), (chB 191, R.SEQ_BSIZE_COUNT, 4)], prog := [(382 * 4096 + 3, 1073741825)], seqs := [(191, { run := .ready, pc := 3, S := [(0, 4294967295), (5, 7), (15, 70)] })] }

/-- A small state for the witnesses. -/
def sMemoryHaltAndSignalInstructions10b : State :=
  { hub := { up := true }, regs := regsOf [(hubB, R.HUB_MODE_MODE, 2), (chB 191, R.SEQ_BSIZE_COUNT, 4)], prog := [(382 * 4096 + 3, 1075773442)], seqs := [(191, { run := .ready, pc := 3, S := [(0, 4294967295), (5, 7), (15, 70)] })] }

/-- A small state for the witnesses. -/
def sItemsSamplesAndTime0 : State :=
  { hub := { up := true }, regs := regsOf [(hubB, R.HUB_MODE_MODE, 2), (chB 191, R.SEQ_BSIZE_COUNT, 4), (chB 191 + 24, R.EPROT_HCAP_VALUE, 1536)], eff := regsOf [(chB 191, R.PLANE_GEOM_H_M1, 9)], prog := [(382 * 4096 + 3, 1652555776)], seqs := [(191, { run := .ready, pc := 3, tc := 20000, dx := 2047 })], descr := [(382 * 4096 + 4094, 256 + 65536), (382 * 4096 + 4095, 5000)] }

/-- A small state for the witnesses. -/
def sItemsSamplesAndTime0b : State :=
  { hub := { up := true }, regs := regsOf [(hubB, R.HUB_MODE_MODE, 2), (chB 191, R.SEQ_BSIZE_COUNT, 4), (chB 191 + 24, R.EPROT_HCAP_VALUE, 1536)], eff := regsOf [(chB 191, R.PLANE_GEOM_H_M1, 9)], prog := [(382 * 4096 + 3, 1610612741)], seqs := [(191, { run := .ready, pc := 3, tc := 20000, S := [(1, 7), (2, 3)] })] }

/-- A small state for the witnesses. -/
def sItemsSamplesAndTime1 : State :=
  { hub := { up := true }, regs := regsOf [(hubB, R.HUB_MODE_MODE, 2), (chB 191, R.SEQ_BSIZE_COUNT, 4), (chB 191 + 24, R.EPROT_HCAP_VALUE, 1536), (chB 191, R.CH_KIND_KIND, 1)], eff := regsOf [(chB 191, R.PLANE_GEOM_H_M1, 9)], prog := [(382 * 4096 + 3, 1677721609)], seqs := [(191, { run := .ready, pc := 3, tc := 20000, S := [(1, 7), (2, 3)] })] }

/-- A small state for the witnesses. -/
def sItemsSamplesAndTime1b : State :=
  { hub := { up := true }, regs := regsOf [(hubB, R.HUB_MODE_MODE, 2), (chB 191, R.SEQ_BSIZE_COUNT, 4), (chB 191 + 24, R.EPROT_HCAP_VALUE, 1536), (chB 191, R.CH_KIND_KIND, 1)], eff := regsOf [(chB 191, R.PLANE_GEOM_H_M1, 9)], prog := [(382 * 4096 + 3, 1694564352)], seqs := [(191, { run := .ready, pc := 3, tc := 20000, S := [(1, 7), (2, 3)] })] }

/-- A small state for the witnesses. -/
def sItemsSamplesAndTime2 : State :=
  { hub := { up := true }, regs := regsOf [(hubB, R.HUB_MODE_MODE, 2), (chB 191, R.SEQ_BSIZE_COUNT, 4), (chB 191 + 24, R.EPROT_HCAP_VALUE, 1536)], eff := regsOf [(chB 191, R.PLANE_GEOM_H_M1, 9), (chB 191, R.PLANE_CFG_BLOCKS_M1, 15)], prog := [(382 * 4096 + 3, 1744895999)], seqs := [(191, { run := .ready, pc := 3, tc := 20000, S := [(1, 7), (2, 3)] })] }

/-- A small state for the witnesses. -/
def sItemsSamplesAndTime3 : State :=
  { hub := { up := true }, regs := regsOf [(hubB, R.HUB_MODE_MODE, 2), (chB 191, R.SEQ_BSIZE_COUNT, 4), (chB 191 + 24, R.EPROT_HCAP_VALUE, 1536)], eff := regsOf [(chB 191, R.PLANE_GEOM_H_M1, 9)], prog := [(382 * 4096 + 3, 1832976383)], seqs := [(191, { run := .ready, pc := 3, tc := 20000, S := [(1, 7), (2, 3)] })] }

/-- A small state for the witnesses. -/
def sItemsSamplesAndTime3b : State :=
  { hub := { up := true }, regs := regsOf [(hubB, R.HUB_MODE_MODE, 2), (chB 191, R.SEQ_BSIZE_COUNT, 4), (chB 191 + 24, R.EPROT_HCAP_VALUE, 1536)], eff := regsOf [(chB 191, R.PLANE_GEOM_H_M1, 9)], prog := [(382 * 4096 + 3, 1814102016)], seqs := [(191, { run := .ready, pc := 3, tc := 20000, S := [(1, 7), (2, 3)] })] }

/-- A small state for the witnesses. -/
def sItemsSamplesAndTime4 : State :=
  { hub := { up := true }, regs := regsOf [(hubB, R.HUB_MODE_MODE, 2), (chB 191, R.SEQ_BSIZE_COUNT, 4), (chB 191 + 24, R.EPROT_HCAP_VALUE, 1536)], eff := regsOf [(chB 191, R.PLANE_GEOM_H_M1, 9)], prog := [(382 * 4096 + 3, 1903230975)], seqs := [(191, { run := .ready, pc := 3, tc := 20000, S := [(1, 7), (2, 3)] })] }

/-- A small state for the witnesses. -/
def sItemsSamplesAndTime5 : State :=
  { hub := { up := true }, regs := regsOf [(hubB, R.HUB_MODE_MODE, 2), (chB 191, R.SEQ_BSIZE_COUNT, 4), (chB 191 + 24, R.EPROT_HCAP_VALUE, 1536)], eff := regsOf [(chB 191, R.PLANE_GEOM_H_M1, 9)], prog := [(382 * 4096 + 3, 1946222592)], seqs := [(191, { run := .ready, pc := 3, tc := 20000, S := [(1, 7), (2, 3)] })] }

/-- A small state for the witnesses. -/
def sItemsSamplesAndTime6 : State :=
  { hub := { up := true }, regs := regsOf [(hubB, R.HUB_MODE_MODE, 2), (chB 191, R.SEQ_BSIZE_COUNT, 4), (chB 191 + 24, R.EPROT_HCAP_VALUE, 1536)], eff := regsOf [(chB 191, R.PLANE_GEOM_H_M1, 9)], prog := [(382 * 4096 + 3, 2021720063)], seqs := [(191, { run := .ready, pc := 3, tc := 20000, S := [(1, 7), (2, 3)] })] }

/-- A small state for the witnesses. -/
def sItemsSamplesAndTime6b : State :=
  { hub := { up := true }, regs := regsOf [(hubB, R.HUB_MODE_MODE, 2), (chB 191, R.SEQ_BSIZE_COUNT, 4), (chB 191 + 24, R.EPROT_HCAP_VALUE, 1536)], eff := regsOf [(chB 191, R.PLANE_GEOM_H_M1, 9)], prog := [(382 * 4096 + 3, 2019622912)], seqs := [(191, { run := .ready, pc := 3, tc := 20000, S := [(1, 7), (2, 3)] })] }

/-- A small state for the witnesses. -/
def sItemsSamplesAndTime7 : State :=
  { hub := { up := true }, regs := regsOf [(hubB, R.HUB_MODE_MODE, 2), (chB 191, R.SEQ_BSIZE_COUNT, 4), (chB 191 + 24, R.EPROT_HCAP_VALUE, 1536)], eff := regsOf [(chB 191, R.PLANE_GEOM_H_M1, 9)], prog := [(382 * 4096 + 3, 2080374784)], seqs := [(191, { run := .ready, pc := 3, tc := 20000, S := [(1, 7), (2, 3)] })], ht := 20000 }

/-- A small state for the witnesses. -/
def sItemsSamplesAndTime8 : State :=
  { hub := { up := true }, regs := regsOf [(hubB, R.HUB_MODE_MODE, 2), (chB 191, R.SEQ_BSIZE_COUNT, 4), (chB 191 + 24, R.EPROT_HCAP_VALUE, 1536)], eff := regsOf [(chB 191, R.PLANE_GEOM_H_M1, 9)], prog := [(382 * 4096 + 3, 2080374784)], seqs := [(191, { run := .ready, pc := 3, tc := 20000, S := [(1, 7), (2, 3)] })] }

/-- A small state for the witnesses. -/
def sItemsSamplesAndTime9 : State :=
  { ht := 5, seqs := [(191, { run := .waitT, tc := 5 })], regs := regsOf [(chB 191, R.SEQ_STATUS_WAITING, 1)] }

/-- A small state for the witnesses. -/
def sItemsSamplesAndTime10 : State :=
  { hub := { up := true }, regs := regsOf [(hubB, R.HUB_MODE_MODE, 2), (chB 191, R.SEQ_BSIZE_COUNT, 4), (slB 1536, R.LOOP_SLOT_STATUS_STATE, 2), (slB 1536, R.LOOP_SLOT_CFG_ROLE, 3), (slB 1536, R.LOOP_SLOT_CFG_CHANNEL, 191), (chB 191, R.MOVE_STATUS_PRED, 1)], eff := regsOf [(chB 191, R.PLANE_GEOM_H_M1, 9)], prog := [(382 * 4096 + 3, 2147483648)], seqs := [(191, { run := .ready, pc := 3, tc := 20000, S := [(1, 7), (2, 3)] })], moves := [(191, { predI := some 15000, predP := some 4000 })] }

/-- A small state for the witnesses. -/
def sItemsSamplesAndTime11 : State :=
  { hub := { up := true }, regs := regsOf [(hubB, R.HUB_MODE_MODE, 2), (chB 191, R.SEQ_BSIZE_COUNT, 4), (slB 1536, R.LOOP_SLOT_STATUS_STATE, 2), (slB 1536, R.LOOP_SLOT_CFG_ROLE, 3), (slB 1536, R.LOOP_SLOT_CFG_CHANNEL, 191)], eff := regsOf [(chB 191, R.PLANE_GEOM_H_M1, 9)], prog := [(382 * 4096 + 3, 2147680263)], seqs := [(191, { run := .ready, pc := 3, tc := 20000, S := [(1, 7), (2, 3)] })] }

/-- A small state for the witnesses. -/
def sItemsSamplesAndTime12 : State :=
  { seqs := [(191, { run := .waitIx 0 9, tc := 20000 })], regs := regsOf [(chB 191, R.MOVE_STATUS_PRED, 1)], moves := [(191, { predI := some 15000, predP := some 4000 })] }

/-- A small state for the witnesses. -/
def sItemsSamplesAndTime13 : State :=
  { ht := 9, seqs := [(191, { run := .waitIx 0 9, tc := 20000 })] }

/-- A small state for the witnesses. -/
def sMarksGapsAndPrivilegedItems0 : State :=
  { hub := { up := true }, regs := regsOf [(hubB, R.HUB_MODE_MODE, 2), (chB 191, R.SEQ_BSIZE_COUNT, 4), (chB 191 + 24, R.EPROT_HCAP_VALUE, 1536), (chB 191, R.CH_KIND_KIND, 2)], eff := regsOf [(chB 191, R.PLANE_GEOM_H_M1, 9)], prog := [(382 * 4096 + 3, 2214592512)], seqs := [(191, { run := .ready, pc := 3, tc := 20000, S := [(1, 7), (2, 3)] })] }

/-- A small state for the witnesses. -/
def sMarksGapsAndPrivilegedItems1 : State :=
  { hub := { up := true }, regs := regsOf [(hubB, R.HUB_MODE_MODE, 2), (chB 191, R.SEQ_BSIZE_COUNT, 4), (chB 191 + 24, R.EPROT_HCAP_VALUE, 1536)], eff := regsOf [(chB 191, R.PLANE_GEOM_H_M1, 9)], prog := [(382 * 4096 + 3, 2281701376)], seqs := [(191, { run := .ready, pc := 3, tc := 20000, lastF := some 19999 })] }

/-- A small state for the witnesses. -/
def sMarksGapsAndPrivilegedItems2 : State :=
  { hub := { up := true }, regs := regsOf [(hubB, R.HUB_MODE_MODE, 2), (chB 191, R.SEQ_BSIZE_COUNT, 4), (chB 191 + 24, R.EPROT_HCAP_VALUE, 1536)], eff := regsOf [(chB 191, R.PLANE_GEOM_H_M1, 9)], prog := [(382 * 4096 + 3, 2357198857)], seqs := [(191, { run := .ready, pc := 3, tc := 20000, S := [(1, 7), (2, 3)] })] }

/-- A small state for the witnesses. -/
def sMarksGapsAndPrivilegedItems3 : State :=
  { ht := 9, seqs := [(191, { gaps := [{ t := 9, e := 20 }] })] }

/-- A small state for the witnesses. -/
def sMarksGapsAndPrivilegedItems4 : State :=
  { hub := { up := true }, regs := regsOf [(hubB, R.HUB_MODE_MODE, 2), (chB 191, R.SEQ_BSIZE_COUNT, 4), (chB 191 + 24, R.EPROT_HCAP_VALUE, 1536)], eff := regsOf [(chB 191, R.PLANE_GEOM_H_M1, 9)], prog := [(382 * 4096 + 3, 2705391615)], seqs := [(191, { run := .ready, pc := 3, tc := 20000, S := [(1, 7), (2, 3)] })] }

/-- A small state for the witnesses. -/
def sMarksGapsAndPrivilegedItems4b : State :=
  { hub := { up := true }, regs := regsOf [(hubB, R.HUB_MODE_MODE, 2), (chB 191, R.SEQ_BSIZE_COUNT, 4), (chB 191 + 24, R.EPROT_HCAP_VALUE, 1536)], eff := regsOf [(chB 191, R.PLANE_GEOM_H_M1, 9)], prog := [(382 * 4096 + 3, 2686517248)], seqs := [(191, { run := .ready, pc := 3, tc := 20000, S := [(1, 7), (2, 3)] })] }

/-- A small state for the witnesses. -/
def sMarksGapsAndPrivilegedItems5 : State :=
  { hub := { up := true }, regs := regsOf [(hubB, R.HUB_MODE_MODE, 2), (chB 191, R.SEQ_BSIZE_COUNT, 4), (chB 191 + 24, R.EPROT_HCAP_VALUE, 1536)], eff := regsOf [(chB 191, R.PLANE_GEOM_H_M1, 9)], prog := [(382 * 4096 + 3, 2751463424)], seqs := [(191, { run := .ready, pc := 3, tc := 20000, S := [(1, 7), (2, 3)] })] }

/-- A small state for the witnesses. -/
def sMarksGapsAndPrivilegedItems6 : State :=
  { hub := { up := true }, regs := regsOf [(hubB, R.HUB_MODE_MODE, 2), (chB 191, R.SEQ_BSIZE_COUNT, 4), (chB 191 + 24, R.EPROT_HCAP_VALUE, 1536), (chB 191, R.CH_STATUS_STATE, 1)], eff := regsOf [(chB 191, R.PLANE_GEOM_H_M1, 9)], prog := [(382 * 4096 + 3, 2818572288)], seqs := [(191, { run := .ready, pc := 3, tc := 20000, S := [(1, 7), (2, 3)] })] }

/-- A small state for the witnesses. -/
def sMarksGapsAndPrivilegedItems7 : State :=
  { hub := { up := true }, regs := regsOf [(hubB, R.HUB_MODE_MODE, 2), (chB 191, R.SEQ_BSIZE_COUNT, 4), (chB 191 + 24, R.EPROT_HCAP_VALUE, 1536), (chB 191, R.CH_STATUS_STATE, 1)], eff := regsOf [(chB 191, R.PLANE_GEOM_H_M1, 9)], prog := [(382 * 4096 + 3, 2818572289)], seqs := [(191, { run := .ready, pc := 3, tc := 20000, S := [(1, 7), (2, 3)] })] }

/-- A small state for the witnesses. -/
def sMarksGapsAndPrivilegedItems8 : State :=
  { hub := { up := true }, regs := regsOf [(hubB, R.HUB_MODE_MODE, 2), (chB 191, R.SEQ_BSIZE_COUNT, 4), (chB 191 + 24, R.EPROT_HCAP_VALUE, 1536), (chB 191, R.CH_STATUS_STATE, 2)], eff := regsOf [(chB 191, R.PLANE_GEOM_H_M1, 9)], prog := [(382 * 4096 + 3, 2818572289)], seqs := [(191, { run := .ready, pc := 3, tc := 20000, S := [(1, 7), (2, 3)] })] }

/-- A small state for the witnesses. -/
def sMarksGapsAndPrivilegedItems9 : State :=
  { hub := { up := true }, regs := regsOf [(hubB, R.HUB_MODE_MODE, 2), (chB 191, R.SEQ_BSIZE_COUNT, 4), (chB 191 + 24, R.EPROT_HCAP_VALUE, 1536), (chB 191, R.CH_STATUS_STATE, 1), (chB 191, R.COMP_LEVEE_CTRL_ACTIVE, 1)], eff := regsOf [(chB 191, R.PLANE_GEOM_H_M1, 9)], prog := [(382 * 4096 + 3, 2818572290)], seqs := [(191, { run := .ready, pc := 3, tc := 20000, S := [(1, 7), (2, 3)] })] }

/-- A small state for the witnesses. -/
def sMarksGapsAndPrivilegedItems10 : State :=
  { hub := { up := true }, regs := regsOf [(hubB, R.HUB_MODE_MODE, 2), (chB 191, R.SEQ_BSIZE_COUNT, 4), (chB 191 + 24, R.EPROT_HCAP_VALUE, 1536)], eff := regsOf [(chB 191, R.PLANE_GEOM_H_M1, 9)], prog := [(382 * 4096 + 3, 2885681152)], seqs := [(191, { run := .ready, pc := 3, tc := 20000, S := [(1, 7), (2, 3)] })] }

/-- A small state for the witnesses. -/
def sMarksGapsAndPrivilegedItems10b : State :=
  { hub := { up := true }, regs := regsOf [(hubB, R.HUB_MODE_MODE, 2), (chB 191, R.SEQ_BSIZE_COUNT, 4), (chB 191 + 24, R.EPROT_HCAP_VALUE, 1536)], eff := regsOf [(chB 191, R.PLANE_GEOM_H_M1, 9)], prog := [(382 * 4096 + 3, 2885681168)], seqs := [(191, { run := .ready, pc := 3, tc := 20000, S := [(1, 7), (2, 3)] })] }

/-- A small state for the witnesses. -/
def sMarksGapsAndPrivilegedItems11 : State :=
  { hub := { up := true }, regs := regsOf [(hubB, R.HUB_MODE_MODE, 2), (chB 191, R.SEQ_BSIZE_COUNT, 4), (chB 191 + 24, R.EPROT_HCAP_VALUE, 1536)], eff := regsOf [(chB 191, R.PLANE_GEOM_H_M1, 9)], prog := [(382 * 4096 + 3, 2952986624)], seqs := [(191, { run := .ready, pc := 3, tc := 20000, S := [(1, 7), (2, 3)] })] }

/-- A small state for the witnesses. -/
def sMarksGapsAndPrivilegedItems12 : State :=
  { hub := { up := true }, regs := regsOf [(hubB, R.HUB_MODE_MODE, 2), (chB 191, R.SEQ_BSIZE_COUNT, 4), (chB 191 + 24, R.EPROT_HCAP_VALUE, 1536)], eff := regsOf [(chB 191, R.PLANE_GEOM_H_M1, 9)], prog := [(382 * 4096 + 3, 2953249023)], seqs := [(191, { run := .ready, pc := 3, tc := 20000, S := [(1, 7), (2, 3)] })] }

/-- A small state for the witnesses. -/
def sSequencerWaitsWatchdogAndSwap0 : State :=
  { seqs := [(191, { run := .window, held := some { item := { kind := .reset, t := 20000, idx := 1 }, pc := 4, tc := 20000 } })] }

/-- A small state for the witnesses. -/
def sSequencerWaitsWatchdogAndSwap1 : State :=
  { seqs := [(191, { run := .full, held := some { item := { kind := .reset, t := 20000, idx := 1 }, pc := 4, tc := 20000 } })] }

/-- A small state for the witnesses. -/
def sSequencerWaitsWatchdogAndSwap2 : State :=
  { hub := { up := true }, regs := regsOf [(hubB, R.HUB_MODE_MODE, 2), (chB 191, R.SEQ_BSIZE_COUNT, 4), (chB 191, R.SEQ_WDOG_LIMIT, 1)], prog := [(382 * 4096 + 3, 1207959552)], seqs := [(191, { run := .ready, pc := 3, insns := 1024 })] }

/-- A small state for the witnesses. -/
def sSequencerWaitsWatchdogAndSwap2b : State :=
  { hub := { up := true }, regs := regsOf [(hubB, R.HUB_MODE_MODE, 2), (chB 191, R.SEQ_BSIZE_COUNT, 4), (chB 191, R.SEQ_WDOG_LIMIT, 1)], prog := [(382 * 4096 + 3, 0)], seqs := [(191, { run := .ready, pc := 3, insns := 1024 })] }

/-- A small state for the witnesses. -/
def sSequencerWaitsWatchdogAndSwap3 : State :=
  { hub := { up := true }, regs := regsOf [(hubB, R.HUB_MODE_MODE, 2), (chB 191, R.SEQ_BSIZE_COUNT, 4), (chB 191, R.SEQ_WDOG_LIMIT, 1)], prog := [(382 * 4096 + 3, 1006632960)], seqs := [(191, { run := .ready, pc := 3, insns := 1024 })] }

/-- A small state for the witnesses. -/
def sSequencerWaitsWatchdogAndSwap4 : State :=
  { hub := { up := true }, regs := regsOf [(hubB, R.HUB_MODE_MODE, 2), (chB 191, R.SEQ_BSIZE_COUNT, 4), (chB 191, R.SEQ_WDOG_LIMIT, 1)], prog := [(382 * 4096 + 3, 0)], seqs := [(191, { run := .ready, pc := 4, insns := 1024 })] }

/-- A small state for the witnesses. -/
def sSequencerWaitsWatchdogAndSwap5 : State :=
  {}

/-- A small state for the witnesses. -/
def sSequencerWaitsWatchdogAndSwap6 : State :=
  { regs := regsOf [(chB 191, R.SEQ_STATUS_VERIFIED1, 1)], seqs := [(191, { swap := some {} })] }

/-- A small state for the witnesses. -/
def sSequencerWaitsWatchdogAndSwap7 : State :=
  { regs := regsOf [(chB 191, R.SEQ_STATUS_VERIFIED1, 1)] }

/-- A small state for the witnesses. -/
def sSequencerWaitsWatchdogAndSwap8 : State :=
  { regs := regsOf [(chB 191, R.SEQ_STATUS_VERIFIED1, 1), (chB 191, R.CH_STATUS_STATE, 2), (chB 191, R.SEQ_SWAP_T_HI_T, 4294967295)], seqs := [(191, { run := .ready })] }

/-- A small state for the witnesses. -/
def sLoopFloatingPointAndIoInstructions0 : State :=
  { hub := { up := true }, regs := regsOf [(hubB, R.HUB_MODE_MODE, 2), (slB 2047, R.LOOP_SLOT_STATUS_STATE, 2), (slB 2047, R.LOOP_SLOT_IMG_COUNT, 4)], lprog := [(1024 * 255 + 3, 3286239360)], slots := [(2047, { phase := .computing, pc := 3 })], cores := [(255, { cur := some 2047, I := [(0, 4294967295), (5, 7)], F := [(0, 0x3F800000), (1, 0xC0000000), (2, 0x40400000), (31, 0x7F800000)] })] }

/-- A small state for the witnesses. -/
def sLoopFloatingPointAndIoInstructions0b : State :=
  { hub := { up := true }, regs := regsOf [(hubB, R.HUB_MODE_MODE, 2), (slB 2047, R.LOOP_SLOT_STATUS_STATE, 2), (slB 2047, R.LOOP_SLOT_IMG_COUNT, 4)], lprog := [(1024 * 255 + 3, 3223259136)], slots := [(2047, { phase := .computing, pc := 3 })], cores := [(255, { cur := some 2047, I := [(0, 4294967295), (5, 7)], F := [(0, 0x3F800000), (1, 0xC0000000), (2, 0x40400000), (31, 0x7F800000)] })] }

/-- A small state for the witnesses. -/
def sLoopFloatingPointAndIoInstructions1 : State :=
  { hub := { up := true }, regs := regsOf [(hubB, R.HUB_MODE_MODE, 2), (slB 2047, R.LOOP_SLOT_STATUS_STATE, 2), (slB 2047, R.LOOP_SLOT_IMG_COUNT, 4)], lprog := [(1024 * 255 + 3, 3353348224)], slots := [(2047, { phase := .computing, pc := 3 })], cores := [(255, { cur := some 2047, I := [(0, 4294967295), (5, 7)], F := [(0, 0x3F800000), (1, 0xC0000000), (2, 0x40400000), (31, 0x7F800000)] })] }

/-- A small state for the witnesses. -/
def sLoopFloatingPointAndIoInstructions2 : State :=
  { hub := { up := true }, regs := regsOf [(hubB, R.HUB_MODE_MODE, 2), (slB 2047, R.LOOP_SLOT_STATUS_STATE, 2), (slB 2047, R.LOOP_SLOT_IMG_COUNT, 4)], lprog := [(1024 * 255 + 3, 3420457088)], slots := [(2047, { phase := .computing, pc := 3 })], cores := [(255, { cur := some 2047, I := [(0, 4294967295), (5, 7)], F := [(0, 0x3F800000), (1, 0xC0000000), (2, 0x40400000), (31, 0x7F800000)] })] }

/-- A small state for the witnesses. -/
def sLoopFloatingPointAndIoInstructions3 : State :=
  { hub := { up := true }, regs := regsOf [(hubB, R.HUB_MODE_MODE, 2), (slB 2047, R.LOOP_SLOT_STATUS_STATE, 2), (slB 2047, R.LOOP_SLOT_IMG_COUNT, 4)], lprog := [(1024 * 255 + 3, 3487565952)], slots := [(2047, { phase := .computing, pc := 3 })], cores := [(255, { cur := some 2047, I := [(0, 4294967295), (5, 7)], F := [(0, 0x3F800000), (1, 0xC0000000), (2, 0x40400000), (31, 0x7F800000)] })] }

/-- A small state for the witnesses. -/
def sLoopFloatingPointAndIoInstructions4 : State :=
  { hub := { up := true }, regs := regsOf [(hubB, R.HUB_MODE_MODE, 2), (slB 2047, R.LOOP_SLOT_STATUS_STATE, 2), (slB 2047, R.LOOP_SLOT_IMG_COUNT, 4)], lprog := [(1024 * 255 + 3, 3554674816)], slots := [(2047, { phase := .computing, pc := 3 })], cores := [(255, { cur := some 2047, I := [(0, 4294967295), (5, 7)], F := [(0, 0x3F800000), (1, 0xC0000000), (2, 0x40400000), (31, 0x7F800000)] })] }

/-- A small state for the witnesses. -/
def sLoopFloatingPointAndIoInstructions5 : State :=
  { hub := { up := true }, regs := regsOf [(hubB, R.HUB_MODE_MODE, 2), (slB 2047, R.LOOP_SLOT_STATUS_STATE, 2), (slB 2047, R.LOOP_SLOT_IMG_COUNT, 4)], lprog := [(1024 * 255 + 3, 3621783680)], slots := [(2047, { phase := .computing, pc := 3 })], cores := [(255, { cur := some 2047, I := [(0, 4294967295), (5, 7)], F := [(0, 0x3F800000), (1, 0xC0000000), (2, 0x40400000), (31, 0x7F800000)] })] }

/-- A small state for the witnesses. -/
def sLoopFloatingPointAndIoInstructions6 : State :=
  { hub := { up := true }, regs := regsOf [(hubB, R.HUB_MODE_MODE, 2), (slB 2047, R.LOOP_SLOT_STATUS_STATE, 2), (slB 2047, R.LOOP_SLOT_IMG_COUNT, 4)], lprog := [(1024 * 255 + 3, 3688892544)], slots := [(2047, { phase := .computing, pc := 3 })], cores := [(255, { cur := some 2047, I := [(0, 4294967295), (5, 7)], F := [(0, 0x3F800000), (1, 0xC0000000), (2, 0x40400000), (31, 0x7F800000)] })] }

/-- A small state for the witnesses. -/
def sLoopFloatingPointAndIoInstructions7 : State :=
  { hub := { up := true }, regs := regsOf [(hubB, R.HUB_MODE_MODE, 2), (slB 2047, R.LOOP_SLOT_STATUS_STATE, 2), (slB 2047, R.LOOP_SLOT_IMG_COUNT, 4)], lprog := [(1024 * 255 + 3, 3691053056)], slots := [(2047, { phase := .computing, pc := 3 })], cores := [(255, { cur := some 2047, I := [(0, 4294967295), (5, 7)], F := [(0, 0x3F800000), (1, 0xC0000000), (2, 0x40400000), (31, 0x7F800000)] })] }

/-- A small state for the witnesses. -/
def sLoopFloatingPointAndIoInstructions8 : State :=
  { hub := { up := true }, regs := regsOf [(hubB, R.HUB_MODE_MODE, 2), (slB 2047, R.LOOP_SLOT_STATUS_STATE, 2), (slB 2047, R.LOOP_SLOT_IMG_COUNT, 4)], lprog := [(1024 * 255 + 3, 3758161920)], slots := [(2047, { phase := .computing, pc := 3 })], cores := [(255, { cur := some 2047, I := [(0, 4294967295), (5, 7)], F := [(0, 0x3F800000), (1, 0xC0000000), (2, 0x40400000), (31, 0x7F800000)] })] }

/-- A small state for the witnesses. -/
def sLoopFloatingPointAndIoInstructions8b : State :=
  { hub := { up := true }, regs := regsOf [(hubB, R.HUB_MODE_MODE, 2), (slB 2047, R.LOOP_SLOT_STATUS_STATE, 2), (slB 2047, R.LOOP_SLOT_IMG_COUNT, 4)], lprog := [(1024 * 255 + 3, 3758096384)], slots := [(2047, { phase := .computing, pc := 3 })], cores := [(255, { cur := some 2047, I := [(0, 4294967295), (5, 7)], F := [(0, 0x3F800000), (1, 0xC0000000), (2, 0x40400000), (31, 0x7F800000)] })] }

/-- A small state for the witnesses. -/
def sLoopFloatingPointAndIoInstructions9 : State :=
  { hub := { up := true }, regs := regsOf [(hubB, R.HUB_MODE_MODE, 2), (slB 2047, R.LOOP_SLOT_STATUS_STATE, 2), (slB 2047, R.LOOP_SLOT_IMG_COUNT, 4)], lprog := [(1024 * 255 + 3, 3825205248)], slots := [(2047, { phase := .computing, pc := 3 })], cores := [(255, { cur := some 2047, I := [(0, 4294967295), (5, 7)], F := [(0, 0x3F800000), (1, 0xC0000000), (2, 0x40400000), (31, 0x7F800000)] })] }

/-- A small state for the witnesses. -/
def sLoopFloatingPointAndIoInstructions10 : State :=
  { hub := { up := true }, regs := regsOf [(hubB, R.HUB_MODE_MODE, 2), (slB 2047, R.LOOP_SLOT_STATUS_STATE, 2), (slB 2047, R.LOOP_SLOT_IMG_COUNT, 4)], lprog := [(1024 * 255 + 3, 3825213440)], slots := [(2047, { phase := .computing, pc := 3 })], cores := [(255, { cur := some 2047, I := [(0, 4294967295), (5, 7)], F := [(0, 0x3F800000), (1, 0xC0000000), (2, 0x40400000), (31, 0x7F800000)] })] }

/-- A small state for the witnesses. -/
def sLoopFloatingPointAndIoInstructions11 : State :=
  { hub := { up := true }, regs := regsOf [(hubB, R.HUB_MODE_MODE, 2), (slB 2047, R.LOOP_SLOT_STATUS_STATE, 2), (slB 2047, R.LOOP_SLOT_IMG_COUNT, 4)], lprog := [(1024 * 255 + 3, 3825287168)], slots := [(2047, { phase := .computing, pc := 3 })], cores := [(255, { cur := some 2047, I := [(0, 4294967295), (5, 7)], F := [(0, 0x3F800000), (1, 0xC0000000), (2, 0x40400000), (31, 0x7F800000)] })] }

/-- A small state for the witnesses. -/
def sLoopFloatingPointAndIoInstructions11b : State :=
  { hub := { up := true }, regs := regsOf [(hubB, R.HUB_MODE_MODE, 2), (slB 2047, R.LOOP_SLOT_STATUS_STATE, 2), (slB 2047, R.LOOP_SLOT_IMG_COUNT, 4)], lprog := [(1024 * 255 + 3, 3827261440)], slots := [(2047, { phase := .computing, pc := 3 })], cores := [(255, { cur := some 2047, I := [(0, 4294967295), (5, 7)], F := [(0, 0x3F800000), (1, 0xC0000000), (2, 0x40400000), (31, 0x7F800000)] })] }

/-- A small state for the witnesses. -/
def sLoopFloatingPointAndIoInstructions12 : State :=
  { hub := { up := true }, regs := regsOf [(hubB, R.HUB_MODE_MODE, 2), (slB 2047, R.LOOP_SLOT_STATUS_STATE, 2), (slB 2047, R.LOOP_SLOT_IMG_COUNT, 4)], lprog := [(1024 * 255 + 3, 3825303552)], slots := [(2047, { phase := .computing, pc := 3 })], cores := [(255, { cur := some 2047, I := [(0, 4294967295), (5, 7)], F := [(0, 0x3F800000), (1, 0xC0000000), (2, 0x40400000), (31, 0x7F800000)] })] }

/-- A small state for the witnesses. -/
def sLoopFloatingPointAndIoInstructions12b : State :=
  { hub := { up := true }, regs := regsOf [(hubB, R.HUB_MODE_MODE, 2), (slB 2047, R.LOOP_SLOT_STATUS_STATE, 2), (slB 2047, R.LOOP_SLOT_IMG_COUNT, 4)], lprog := [(1024 * 255 + 3, 3827269632)], slots := [(2047, { phase := .computing, pc := 3 })], cores := [(255, { cur := some 2047, I := [(0, 4294967295), (5, 7)], F := [(0, 0x3F800000), (1, 0xC0000000), (2, 0x40400000), (31, 0x7F800000)] })] }

/-- A small state for the witnesses. -/
def sLoopFloatingPointAndIoInstructions13 : State :=
  { hub := { up := true }, regs := regsOf [(hubB, R.HUB_MODE_MODE, 2), (slB 2047, R.LOOP_SLOT_STATUS_STATE, 2), (slB 2047, R.LOOP_SLOT_IMG_COUNT, 4), (slB 2047, R.LOOP_SLOT_WIN_DSIZE, 8)], lprog := [(1024 * 255 + 3, 3900833792)], slots := [(2047, { phase := .computing, pc := 3 })], cores := [(255, { cur := some 2047, I := [(0, 4294967295), (5, 7)], F := [(0, 0x3F800000), (1, 0xC0000000), (2, 0x40400000), (31, 0x7F800000)] })], ldata := [(512 * 255 + 0, 0), (512 * 255 + 1, 0x3F800000), (512 * 255 + 2, 4), (512 * 255 + 3, 0x3F800000), (512 * 255 + 4, 0x40000000), (512 * 255 + 5, 0x40400000), (512 * 255 + 6, 0x40800000)] }

/-- A small state for the witnesses. -/
def sLoopFloatingPointAndIoInstructions14 : State :=
  { hub := { up := true }, regs := regsOf [(hubB, R.HUB_MODE_MODE, 2), (slB 2047, R.LOOP_SLOT_STATUS_STATE, 2), (slB 2047, R.LOOP_SLOT_IMG_COUNT, 4)], lprog := [(1024 * 255 + 3, 3965714447)], slots := [(2047, { phase := .computing, pc := 3, latched := [(15, 0x40000000)] })], cores := [(255, { cur := some 2047, I := [(0, 4294967295), (5, 7)], F := [(0, 0x3F800000), (1, 0xC0000000), (2, 0x40400000), (31, 0x7F800000)] })] }

/-- A small state for the witnesses. -/
def sLoopFloatingPointAndIoInstructions15 : State :=
  { hub := { up := true }, regs := regsOf [(hubB, R.HUB_MODE_MODE, 2), (slB 2047, R.LOOP_SLOT_STATUS_STATE, 2), (slB 2047, R.LOOP_SLOT_IMG_COUNT, 4)], lprog := [(1024 * 255 + 3, 4026597391)], slots := [(2047, { phase := .computing, pc := 3 })], cores := [(255, { cur := some 2047, I := [(0, 4294967295), (5, 7)], F := [(0, 0x3F800000), (1, 0xC0000000), (2, 0x40400000), (31, 0x7F800000)] })] }

/-- A small state for the witnesses. -/
def sLoopFloatingPointAndIoInstructions16 : State :=
  { hub := { up := true }, regs := regsOf [(hubB, R.HUB_MODE_MODE, 2), (slB 2047, R.LOOP_SLOT_STATUS_STATE, 2), (slB 2047, R.LOOP_SLOT_IMG_COUNT, 4), (slB 2047, R.LOOP_SLOT_CFG_CHANNEL, 191)], lprog := [(1024 * 255 + 3, 4026531855)], slots := [(2047, { phase := .computing, pc := 3 })], cores := [(255, { cur := some 2047, I := [(0, 4294967295), (5, 7)], F := [(0, 0x3F800000), (1, 0xC0000000), (2, 0x40400000), (31, 0x7F800000)] })], binds := [(48 * 2047 + 31, 1 + 256 * 5)] }

/-- A small state for the witnesses. -/
def sLoopFloatingPointAndIoInstructions17 : State :=
  { hub := { up := true }, regs := regsOf [(hubB, R.HUB_MODE_MODE, 2), (slB 2047, R.LOOP_SLOT_STATUS_STATE, 2), (slB 2047, R.LOOP_SLOT_IMG_COUNT, 4), (slB 2047, R.LOOP_SLOT_CFG_CHANNEL, 191)], lprog := [(1024 * 255 + 3, 4026531855)], slots := [(2047, { phase := .computing, pc := 3 })], cores := [(255, { cur := some 2047, I := [(0, 4294967295), (5, 7)], F := [(0, 0x3F800000), (1, 0xC0000000), (2, 0x40400000), (31, 0x7F800000)] })], binds := [(48 * 2047 + 31, 2 + 256 * 5)] }

/-- A small state for the witnesses. -/
def sLoopFloatingPointAndIoInstructions18 : State :=
  { hub := { up := true }, regs := regsOf [(hubB, R.HUB_MODE_MODE, 2), (slB 2047, R.LOOP_SLOT_STATUS_STATE, 2), (slB 2047, R.LOOP_SLOT_IMG_COUNT, 4)], lprog := [(1024 * 255 + 3, 4093640704)], slots := [(2047, { phase := .computing, pc := 3 })], cores := [(255, { cur := some 2047, I := [(0, 4294967295), (5, 7)], F := [(0, 0x3F800000), (1, 0xC0000000), (2, 0x40400000), (31, 0x7F800000)] })] }

/-- A small state for the witnesses. -/
def sLoopFloatingPointAndIoInstructions19 : State :=
  { hub := { up := true }, regs := regsOf [(hubB, R.HUB_MODE_MODE, 2), (slB 2047, R.LOOP_SLOT_STATUS_STATE, 2), (slB 2047, R.LOOP_SLOT_IMG_COUNT, 4)], lprog := [(1024 * 255 + 3, 4160753600)], slots := [(2047, { phase := .computing, pc := 3 })], cores := [(255, { cur := some 2047, I := [(0, 4294967295), (5, 7)], F := [(0, 0x3F800000), (1, 0xC0000000), (2, 0x40400000), (31, 0x7F800000)] })] }

/-- A small state for the witnesses. -/
def sLoopFloatingPointAndIoInstructions20 : State :=
  { hub := { up := true }, regs := regsOf [(hubB, R.HUB_MODE_MODE, 2), (slB 2047, R.LOOP_SLOT_STATUS_STATE, 2), (slB 2047, R.LOOP_SLOT_IMG_COUNT, 4)], lprog := [(1024 * 255 + 3, 4227923983)], slots := [(2047, { phase := .computing, pc := 3, traces := [(3, 7)] })], cores := [(255, { cur := some 2047, I := [(0, 4294967295), (5, 7)], F := [(0, 0x3F800000), (1, 0xC0000000), (2, 0x40400000), (31, 0x7F800000)] })] }

/-- A small state for the witnesses. -/
def sLoopSlotStates0 : State :=
  { hub := { up := true }, ht := 4000000000, regs := regsOf [(hubB, R.HUB_MODE_MODE, 2), (slB 2047, R.LOOP_SLOT_STATUS_STATE, 1), (slB 2047, R.LOOP_SLOT_PERIOD_P, 400000), (slB 2047, R.LOOP_SLOT_PHASE_PHI, 399999), (slB 2047, R.LOOP_SLOT_BUDGET_BUDGET, 100), (slB 2047, R.LOOP_SLOT_CFG_CHANNEL, 255)], slots := [(2047, { entry := 3 })] }

/-- A small state for the witnesses. -/
def sLoopSlotStates1 : State :=
  { hub := { up := true }, ht := 4000000000, regs := regsOf [(hubB, R.HUB_MODE_MODE, 2), (slB 2047, R.LOOP_SLOT_STATUS_STATE, 1), (slB 2047, R.LOOP_SLOT_CFG_CHANNEL, 255), (slB 2047, R.LOOP_SLOT_PERIOD_P, 39999)], slots := [(2047, { entry := 3 })] }

/-- A small state for the witnesses. -/
def sLoopSlotStates2 : State :=
  { hub := { up := true }, ht := 4000000000, regs := regsOf [(hubB, R.HUB_MODE_MODE, 2), (slB 2047, R.LOOP_SLOT_STATUS_STATE, 5)], slots := [(2047, { entry := 3 })] }

/-- A small state for the witnesses. -/
def sLoopSlotStates3 : State :=
  { hub := { up := true }, ht := 4000000000, regs := regsOf [(hubB, R.HUB_MODE_MODE, 2), (slB 2047, R.LOOP_SLOT_STATUS_STATE, 2), (slB 2047, R.LOOP_SLOT_CFG_CHANNEL, 255)], slots := [(2047, { entry := 3, phase := .computing })], cores := [(255, { cur := some 2047 })] }

/-- A small state for the witnesses. -/
def sLoopSlotStates3b : State :=
  { hub := { up := true }, ht := 4000000000, regs := regsOf [(hubB, R.HUB_MODE_MODE, 2), (slB 2047, R.LOOP_SLOT_STATUS_STATE, 5), (slB 2047, R.LOOP_SLOT_CFG_CHANNEL, 255)], slots := [(2047, { entry := 3 })] }

/-- A small state for the witnesses. -/
def sLoopSlotStates4 : State :=
  { hub := { up := true }, ht := 4000000000, regs := regsOf [(hubB, R.HUB_MODE_MODE, 2), (slB 2047, R.LOOP_SLOT_STATUS_STATE, 1)], slots := [(2047, { entry := 3 })] }

/-- A small state for the witnesses. -/
def sLoopSlotStates5 : State :=
  { hub := { up := true }, ht := 4000000000, regs := regsOf [(hubB, R.HUB_MODE_MODE, 2), (slB 2047, R.LOOP_SLOT_STATUS_STATE, 3), (slB 2047, R.LOOP_SLOT_CFG_CHANNEL, 255)], slots := [(2047, { entry := 3 })] }

/-- A small state for the witnesses. -/
def sLoopSlotStates5b : State :=
  { hub := { up := true }, ht := 4000000000, regs := regsOf [(hubB, R.HUB_MODE_MODE, 2), (slB 2047, R.LOOP_SLOT_STATUS_STATE, 5), (slB 2047, R.LOOP_SLOT_CFG_CHANNEL, 255), (slB 2047, R.LOOP_SLOT_STATUS_HOLD_CAUSE, 3)], slots := [(2047, { entry := 3 })] }

/-- A small state for the witnesses. -/
def sLoopSlotStates6 : State :=
  { hub := { up := true }, ht := 4000000000, regs := regsOf [(hubB, R.HUB_MODE_MODE, 2), (slB 2047, R.LOOP_SLOT_STATUS_STATE, 4), (slB 2047, R.LOOP_SLOT_CFG_CHANNEL, 255), (slB 2047, R.LOOP_SLOT_WIN_DSIZE, 2)], slots := [(2047, { entry := 3, init := [7] })], ldata := [(512 * 255 + 1, 9)] }

/-- A small state for the witnesses. -/
def sLoopSlotStates7 : State :=
  { hub := { up := true }, ht := 4000000000, regs := regsOf [(hubB, R.HUB_MODE_MODE, 2), (slB 2047, R.LOOP_SLOT_STATUS_STATE, 2)], slots := [(2047, { entry := 3 })] }

/-- A small state for the witnesses. -/
def sLoopSlotStates7b : State :=
  { hub := { up := true }, ht := 4000000000, regs := regsOf [(hubB, R.HUB_MODE_MODE, 2), (slB 2047, R.LOOP_SLOT_STATUS_STATE, 5), (slB 2047, R.LOOP_SLOT_STATUS_HOLD_CAUSE, 4)], slots := [(2047, { entry := 3 })], serve := [(255, 128)] }

/-- A small state for the witnesses. -/
def sLoopSlotStates8 : State :=
  { hub := { up := true }, ht := 4000000000, regs := regsOf [(hubB, R.HUB_MODE_MODE, 2), (slB 2047, R.LOOP_SLOT_STATUS_STATE, 2), (slB 2047, R.LOOP_SLOT_CFG_CHANNEL, 255)], slots := [(2047, { entry := 3 })] }

/-- A small state for the witnesses. -/
def sLoopSlotStates8b : State :=
  { hub := { up := true }, ht := 4000000000, regs := regsOf [(hubB, R.HUB_MODE_MODE, 2), (slB 2047, R.LOOP_SLOT_STATUS_STATE, 2), (slB 2047, R.LOOP_SLOT_CFG_CHANNEL, 191), (slB 2047, R.LOOP_SLOT_CFG_ROLE, 1), (chB 191, R.CH_STATUS_STATE, 2)], slots := [(2047, { entry := 3 })] }

/-- A small state for the witnesses. -/
def sLoopSlotStates9 : State :=
  { hub := { up := true }, ht := 4000000000, regs := regsOf [(hubB, R.HUB_MODE_MODE, 2), (slB 2047, R.LOOP_SLOT_STATUS_STATE, 3)], slots := [(2047, { entry := 3 })] }

/-- A small state for the witnesses. -/
def sLoopSlotStates10 : State :=
  { hub := { up := true }, ht := 4000000000, regs := regsOf [(hubB, R.HUB_MODE_MODE, 2), (slB 2047, R.LOOP_SLOT_STATUS_STATE, 1), (slB 2047, R.LOOP_SLOT_CFG_CHANNEL, 255), (slB 2047, R.LOOP_SLOT_IMG_COUNT, 9)], slots := [(2047, { entry := 3 })] }

/-- A small state for the witnesses. -/
def sLoopSlotStates12 : State :=
  { hub := { up := true }, ht := 4000000000, regs := regsOf [(hubB, R.HUB_MODE_MODE, 2), (slB 2047, R.LOOP_SLOT_STATUS_STATE, 3), (slB 2047, R.LOOP_SLOT_CFG_CHANNEL, 255), (slB 2047, R.LOOP_SLOT_HOLD_HOLD, 1000)], slots := [(2047, { entry := 3 })] }

/-- A small state for the witnesses. -/
def sLoopSlotStates13 : State :=
  { hub := { up := true }, ht := 4000000000, regs := regsOf [(hubB, R.HUB_MODE_MODE, 2), (slB 2047, R.LOOP_SLOT_STATUS_STATE, 4), (slB 2047, R.LOOP_SLOT_CFG_CHANNEL, 255), (slB 2047, R.LOOP_SLOT_HOLD_RAMP, 1000)], slots := [(2047, { entry := 3 })] }

/-- A small state for the witnesses. -/
def sLoopSlotStates14 : State :=
  { hub := { up := true }, ht := 4000000000, regs := regsOf [(hubB, R.HUB_MODE_MODE, 2), (slB 2047, R.LOOP_SLOT_STATUS_STATE, 2), (slB 2047, R.LOOP_SLOT_CFG_CHANNEL, 255), (slB 2047, R.LOOP_SLOT_STATUS_SKIP_RUN, 15)], slots := [(2047, { entry := 3 })] }

/-- A small state for the witnesses. -/
def sLoopSamplesCoresAndEddies0 : State :=
  { hub := { up := true }, ht := 4000000000, regs := regsOf [(hubB, R.HUB_MODE_MODE, 2), (slB 2047, R.LOOP_SLOT_STATUS_STATE, 2), (slB 2047, R.LOOP_SLOT_CFG_CHANNEL, 255)], slots := [(2047, { entry := 3, per := 400000, phi := 0, open_ := true })] }

/-- A small state for the witnesses. -/
def sLoopSamplesCoresAndEddies1 : State :=
  { hub := { up := true }, ht := 4000000000, regs := regsOf [(hubB, R.HUB_MODE_MODE, 2), (slB 2047, R.LOOP_SLOT_STATUS_STATE, 2), (slB 2047, R.LOOP_SLOT_CFG_CHANNEL, 255)], slots := [(2047, { entry := 3, open_ := true, tick := some 9 })] }

/-- A small state for the witnesses. -/
def sLoopSamplesCoresAndEddies2 : State :=
  { hub := { up := true }, ht := 4000000000, regs := regsOf [(hubB, R.HUB_MODE_MODE, 2), (slB 2047, R.LOOP_SLOT_STATUS_STATE, 2), (slB 2047, R.LOOP_SLOT_CFG_CHANNEL, 255)], slots := [(2047, { entry := 3, open_ := true, tick := some 9, phase := .computing })] }

/-- A small state for the witnesses. -/
def sLoopSamplesCoresAndEddies3 : State :=
  { regs := regsOf [(clB 3 15, R.LOOP_BIND_IDX_WORD, 47), (clB 3 15, R.LOOP_BIND_IDX_SLOT, 31)] }

/-- A small state for the witnesses. -/
def sLoopSamplesCoresAndEddies4 : State :=
  { regs := regsOf [(clB 3 15, R.LOOP_BIND_IDX_WORD, 47)] }

/-- A small state for the witnesses. -/
def sLoopSamplesCoresAndEddies6 : State :=
  { regs := regsOf [(slB (clusterSlot 3 15 31), R.LOOP_SLOT_STATUS_STATE, 2), (clB 3 15, R.LOOP_SP_IDX_SLOT, 31), (clB 3 15, R.LOOP_SP_IDX_N, 3)] }

/-- A small state for the witnesses. -/
def sLoopSamplesCoresAndEddies7 : State :=
  { hub := { up := true }, regs := regsOf [(hubB, R.HUB_MODE_MODE, 2), (slB 2047, R.LOOP_SLOT_STATUS_STATE, 2), (slB 2047, R.LOOP_SLOT_CFG_CHANNEL, 255)], cores := [(255, { cur := none })], slots := [(2047, { phase := .computing })] }

/-- A small state for the witnesses. -/
def sLoopSamplesCoresAndEddies8 : State :=
  { hub := { up := true }, regs := regsOf [(hubB, R.HUB_MODE_MODE, 2)], cores := [(255, { cur := none })], slots := [] }

/-- A small state for the witnesses. -/
def sLoopSamplesCoresAndEddies9 : State :=
  { cores := [(255, { cur := some 2047 })] }

/-- A small state for the witnesses. -/
def sLoopSamplesCoresAndEddies10 : State :=
  { hub := { up := true } }

/-- A small state for the witnesses. -/
def sLoopSamplesCoresAndEddies11 : State :=
  { hub := { up := true }, regs := regsOf [(hubB, R.HUB_MODE_MODE, 2)], cores := [(255, { cur := none, migTo := some (64, true) })], slots := [] }

/-- A small state for the witnesses. -/
def sLoopSamplesCoresAndEddies12 : State :=
  { hub := { up := true }, regs := regsOf [(hubB, R.HUB_MODE_MODE, 2), (edB 67, R.LOOP_EDDY_STATUS_STATE, 3)], eddys := [(67, { recs := [{ tick := 5, slot := 2047, nodes := [(3, 7)], lat := 1, flags := 0 }] })] }

/-- A small state for the witnesses. -/
def sLoopSamplesCoresAndEddies13 : State :=
  { hub := { up := true }, regs := regsOf [(hubB, R.HUB_MODE_MODE, 2), (edB 67, R.LOOP_EDDY_STATUS_STATE, 1)], eddys := [(67, { recs := [] })] }

/-- A small state for the witnesses. -/
def sLoopSamplesCoresAndEddies14 : State :=
  { hub := { up := true }, regs := regsOf [(hubB, R.HUB_MODE_MODE, 2), (edB 67, R.LOOP_EDDY_STATUS_STATE, 1)], eddys := [(67, { recs := [{ tick := 5, slot := 2047, nodes := [(3, 7)], lat := 1, flags := 0 }] })] }

/-- A small state for the witnesses. -/
def sLoopSamplesCoresAndEddies15 : State :=
  { hub := { up := true }, regs := regsOf [(hubB, R.HUB_MODE_MODE, 2), (edB 67, R.LOOP_EDDY_STATUS_STATE, 3)], eddys := [(67, { recs := [] })] }

/-- A small state for the witnesses. -/
def sLoopSamplesCoresAndEddies16 : State :=
  { hub := { up := true }, regs := regsOf [(hubB, R.HUB_MODE_MODE, 2), (edB 67, R.LOOP_EDDY_STATUS_STATE, 2)], eddys := [(67, { recs := [] })] }

/-- A small state for the witnesses. -/
def sLoopSamplesCoresAndEddies18 : State :=
  { hub := { up := true }, regs := regsOf [(hubB, R.HUB_MODE_MODE, 2), (edB 67, R.LOOP_EDDY_STATUS_STATE, 3), (edB 67, R.LOOP_EDDY_CTRL_ARCH_EN, 1)], eddys := [(67, { recs := [] })] }

/-- A small state for the witnesses. -/
def sLoopSamplesCoresAndEddies19 : State :=
  { hub := { up := true }, regs := regsOf [(hubB, R.HUB_MODE_MODE, 2), (edB 67, R.LOOP_EDDY_STATUS_STATE, 3), (edB 67, R.LOOP_EDDY_CTRL_ARCH_EN, 1), (edB 67, R.LOOP_EDDY_ARCH_BASE_HI_BASE, 6144), (ddrDieB 3, R.DDR_DIE_STATUS_MEM_OK, 1), (ddrDieB 3, R.DDR_DIE_CAP_GIB, 1)], eddys := [(67, { recs := [] })] }

/-- A small state for the witnesses. -/
def sLaunchQueueStagingAndRelease0 : State :=
  { hub := { up := true, portsOn := true }, ht := 100000, regs := regsOf [(hubB, R.HUB_MODE_MODE, 2), (chB 191, R.CH_STATUS_STATE, 2)], weirs := [(191, { q := [{ t := 50000, dur := 1000, fno := 5, frame := 40000 }] })], frms := [(191, [{ fno := 5, bnd := 40000, flipped := true, complete := some 7 }])] }

/-- A small state for the witnesses. -/
def sLaunchQueueStagingAndRelease1 : State :=
  { hub := { up := true, portsOn := true }, ht := 100000, regs := regsOf [(hubB, R.HUB_MODE_MODE, 2), (chB 191, R.CH_STATUS_STATE, 2)], weirs := [(191, { q := [{ t := 50000, dur := 1000, fno := 5, frame := 40000 }] })], frms := [(191, [{ fno := 5, bnd := 40000, flipped := true }])] }

/-- A small state for the witnesses. -/
def sLaunchQueueStagingAndRelease2 : State :=
  { hub := { up := true, portsOn := true }, ht := 100000, regs := regsOf [(hubB, R.HUB_MODE_MODE, 2), (chB 191, R.CH_STATUS_STATE, 2), (ephyB 191, R.EPHY_STATUS_STATE, 9), (ephyB 191, R.EPHY_STATUS_WIDTH, 4), (ephyB 191, R.EPHY_STATUS_TX_IDLE, 0), (chB 191 + 32, R.EPROT_HCAP_VALUE, 65535)], weirs := [(191, { q := [{ t := 50000, dur := 1000, fno := 5, frame := 40000 }] })], frms := [(191, [{ fno := 5, bnd := 40000, flipped := true, complete := some 7 }])] }

/-- A small state for the witnesses. -/
def sLaunchQueueStagingAndRelease3 : State :=
  { hub := { up := true, portsOn := true }, ht := 50000, regs := regsOf [(hubB, R.HUB_MODE_MODE, 2), (chB 191, R.CH_STATUS_STATE, 2)], weirs := [(191, { q := [{ t := 50000, dur := 1000, fno := 5, frame := 40000, stage := .active }] })] }

/-- A small state for the witnesses. -/
def sLaunchQueueStagingAndRelease5 : State :=
  { hub := { up := true, portsOn := true }, ht := 100000, regs := regsOf [(hubB, R.HUB_MODE_MODE, 2), (chB 191, R.CH_STATUS_STATE, 2)], weirs := [(191, { q := [{ t := 50000, dur := 1000, fno := 5, frame := 40000, decided := true, show_ := .prev }] })], frms := [(191, [{ fno := 5, bnd := 40000, flipped := true, complete := some 7 }])] }

/-- A small state for the witnesses. -/
def sLaunchQueueStagingAndRelease6 : State :=
  { hub := { up := true, portsOn := true }, ht := 100000, regs := regsOf [(hubB, R.HUB_MODE_MODE, 2), (chB 191, R.CH_STATUS_STATE, 2)], weirs := [(191, { q := [{ t := 50000, dur := 1000, fno := 5, frame := 40000, stage := .active }] })], frms := [(191, [{ fno := 5, bnd := 40000, flipped := true, complete := some 7 }])] }

/-- A small state for the witnesses. -/
def sLaunchQueueStagingAndRelease8 : State :=
  { hub := { up := true, portsOn := true }, ht := 100000, regs := regsOf [(hubB, R.HUB_MODE_MODE, 2), (chB 191, R.CH_STATUS_STATE, 2), (ephyB 191, R.EPHY_STATUS_STATE, 9), (ephyB 191, R.EPHY_STATUS_WIDTH, 4), (ephyB 191, R.EPHY_STATUS_TX_IDLE, 0)], weirs := [(191, { q := [{ t := 50000, dur := 1000, fno := 5, frame := 40000, sent := some (3, 9) }] })], frms := [(191, [{ fno := 5, bnd := 40000, flipped := true, complete := some 7 }])], ports := [(191, { tokBytes := [(3, [3, 3, 1])] })] }

/-- A small state for the witnesses. -/
def sLaunchQueueStagingAndRelease9 : State :=
  { hub := { up := true, portsOn := true }, ht := 100000, regs := regsOf [(hubB, R.HUB_MODE_MODE, 2), (chB 191, R.CH_STATUS_STATE, 2)], weirs := [(191, { q := [{ kind := .mark, t := 50000, fno := 6 }] })] }

/-- A small state for the witnesses. -/
def sLaunchQueueStagingAndRelease10 : State :=
  { hub := { up := true, portsOn := true }, ht := 100000, regs := regsOf [(hubB, R.HUB_MODE_MODE, 2), (chB 191, R.CH_STATUS_STATE, 1)], weirs := [(191, { q := [{ t := 50000, dur := 1000, fno := 5, frame := 40000 }] })] }

/-- A small state for the witnesses. -/
def sLaunchQueueStagingAndRelease11 : State :=
  { hub := { up := true, portsOn := true }, ht := 100000, regs := regsOf [(hubB, R.HUB_MODE_MODE, 2), (chB 191, R.CH_STATUS_STATE, 2)], weirs := [(191, { q := [], openPlane := some (5, 7), planeEnd := 9 })] }

/-- A small state for the witnesses. -/
def sLaunchQueueStagingAndRelease12 : State :=
  { hub := { up := true, portsOn := true }, ht := 3000000, regs := regsOf [(hubB, R.HUB_MODE_MODE, 2), (chB 191, R.CH_STATUS_STATE, 2), (ephyB 191, R.EPHY_STATUS_STATE, 9), (ephyB 191, R.EPHY_STATUS_WIDTH, 4), (ephyB 191, R.EPHY_STATUS_TX_IDLE, 0)], weirs := [(191, { q := [] })] }

/-- A small state for the witnesses. -/
def sLaunchQueueStagingAndRelease13 : State :=
  { hub := { up := true, portsOn := true }, ht := 100000, regs := regsOf [(hubB, R.HUB_MODE_MODE, 2), (chB 191, R.CH_STATUS_STATE, 2)], weirs := [(191, { q := [], wds := [{ cause := 2, restage := false, tc := 9, td := 8, tw := some 8, cmd := none, cands := [5], leaked := 0 }] })] }

/-- A small state for the witnesses. -/
def sLaunchQueueStagingAndRelease14 : State :=
  { regs := regsOf [(dieB 3, R.WEIR_AVS_CTRL_EN, 0)] }

/-- A small state for the witnesses. -/
def sLaunchQueueStagingAndRelease15 : State :=
  { regs := regsOf [(dieB 3, R.WEIR_AVS_CTRL_EN, 1), (dieB 3, R.WEIR_AVS_STATUS_VOUT, 700), (chB 191, R.CH_STATUS_STATE, 2)], weirs := [(191, { slackPeriod := some (-5) })] }

/-- A small state for the witnesses. -/
def sLampCommandsAndRill0 : State :=
  { hub := { up := true, portsOn := true }, ht := 4000000000, tick := 4000000000, regs := regsOf [(hubB, R.HUB_MODE_MODE, 2), (chB 191, R.CH_STATUS_STATE, 2), (chB 191 + 24, R.EPROT_HCAP_VALUE, 1536), (strB 191 5, R.LAMP_SSTAT_OPEN, 1)], strs := [(8 * 191 + 5, { cuts := 6, opens := 3 })] }

/-- A small state for the witnesses. -/
def sLampCommandsAndRill1 : State :=
  { regs := regsOf [(chB 191, R.LAMP_CURVE_IDX_ENTRY, 32), (chB 191, R.LAMP_CURVE_IDX_STR, 5), (chB 191, R.LAMP_CURVE_IDX_RANGE, 1)] }

/-- A small state for the witnesses. -/
def sLampCommandsAndRill2 : State :=
  { hub := { up := true, portsOn := true }, ht := 4000000000, tick := 4000000000, regs := regsOf [(hubB, R.HUB_MODE_MODE, 2), (chB 191, R.CH_STATUS_STATE, 2), (chB 191, R.LAMP_CURVE_IDX_ENTRY, 32), (chB 191, R.LAMP_CURVE_IDX_STR, 5), (chB 191, R.LAMP_CURVE_IDX_RANGE, 1)] }

/-- A small state for the witnesses. -/
def sLampCommandsAndRill4 : State :=
  { hub := { up := true, portsOn := true }, ht := 4000000000, tick := 4000000000, regs := regsOf [(hubB, R.HUB_MODE_MODE, 2), (chB 191, R.CH_STATUS_STATE, 2), (chB 191 + 24, R.EPROT_HCAP_VALUE, 1536)] }

/-- A small state for the witnesses. -/
def sLampCommandsAndRill6 : State :=
  { hub := { up := true, portsOn := true }, ht := 4000000000, tick := 4000000000, regs := regsOf [(hubB, R.HUB_MODE_MODE, 2), (chB 191, R.CH_STATUS_STATE, 2)] }

/-- A small state for the witnesses. -/
def sLampCommandsAndRill8 : State :=
  { hub := { up := true, portsOn := true }, ht := 4000000000, tick := 4000000000, regs := regsOf [(hubB, R.HUB_MODE_MODE, 2), (chB 191, R.CH_STATUS_STATE, 2)], lamps := [(191, { fadeB := { v1 := 9, active := true } })] }

/-- A small state for the witnesses. -/
def sLampCommandsAndRill9 : State :=
  { hub := { up := true, portsOn := true }, ht := 4000000000, tick := 4000000000, regs := regsOf [(hubB, R.HUB_MODE_MODE, 2), (chB 191, R.CH_STATUS_STATE, 2)], lamps := [(191, { fadeC := { v1 := 9, active := true } })] }

/-- A small state for the witnesses. -/
def sLampCommandsAndRill10 : State :=
  { hub := { up := true, portsOn := true }, ht := 4000000000, tick := 4000000000, regs := regsOf [(hubB, R.HUB_MODE_MODE, 2), (chB 191, R.CH_STATUS_STATE, 2), (strB 191 5, R.LAMP_STEMP_SRC, 2)], strs := [(8 * 191 + 5, { prevTel := some 800, telOk := true, telAt := 4000000000, telSince := 3000000000 })] }

/-- A small state for the witnesses. -/
def sLampCommandsAndRill11 : State :=
  { hub := { up := true, portsOn := true }, ht := 4000000000, tick := 4000000000, regs := regsOf [(hubB, R.HUB_MODE_MODE, 2), (chB 191, R.CH_STATUS_STATE, 2), (strB 191 5, R.LAMP_STEMP_SRC, 0)] }

/-- A small state for the witnesses. -/
def sLampCommandsAndRill12 : State :=
  { hub := { up := true, portsOn := true }, ht := 4000000000, tick := 4000000000, regs := regsOf [(hubB, R.HUB_MODE_MODE, 2), (chB 191, R.CH_STATUS_STATE, 2), (chB 191 + 24, R.EPROT_HCAP_VALUE, 1536), (chB 191, R.CH_STATUS_SAFE_DARK, 0)] }

/-- A small state for the witnesses. -/
def sLampCommandsAndRill13 : State :=
  { hub := { up := true, portsOn := true }, ht := 4000000000, tick := 4000000000, regs := regsOf [(hubB, R.HUB_MODE_MODE, 2), (chB 191, R.CH_STATUS_STATE, 2), (chB 191 + 24, R.EPROT_HCAP_VALUE, 1536), (chB 191, R.CH_STATUS_SAFE_DARK, 0)], lamps := [(191, { holdReqs := [(true, 9)] })] }

/-- A small state for the witnesses. -/
def sLampCommandsAndRill14 : State :=
  { hub := { up := true, portsOn := true }, ht := 4000000000, tick := 4000000000, regs := regsOf [(hubB, R.HUB_MODE_MODE, 2), (chB 191, R.CH_STATUS_STATE, 2)], drvs := [(16 * 191 + 15, { cmds := [{ cmd := 7, tag := 3, prog := true, first := some 9 }] })] }

/-- A small state for the witnesses. -/
def sLampCommandsAndRill15 : State :=
  { hub := { up := true, portsOn := true }, ht := 4000000000, tick := 4000000000, regs := regsOf [(hubB, R.HUB_MODE_MODE, 2), (chB 191, R.CH_STATUS_STATE, 2)], drvs := [(16 * 191 + 15, { cmds := [{ cmd := 5, tag := 3, first := some 9 }] })] }

/-- A small state for the witnesses. -/
def sLampCommandsAndRill17 : State :=
  { hub := { up := true, portsOn := true }, ht := 4000000000, tick := 4000000000, regs := regsOf [(hubB, R.HUB_MODE_MODE, 2), (chB 191, R.CH_STATUS_STATE, 2)], strs := [(8 * 191 + 5, { bypSince := some 9 })] }

/-- A small state for the witnesses. -/
def sMovingParts0 : State :=
  { hub := { up := true }, ht := 4000000000, regs := regsOf [(hubB, R.HUB_MODE_MODE, 2), (chB 191, R.CH_STATUS_STATE, 2), (chB 191, R.MOVE_STATUS_WSTATE, 2), (chB 191, R.MOVE_STATUS_SSTATE, 0), (slB 1536, R.LOOP_SLOT_STATUS_STATE, 2), (slB 1536, R.LOOP_SLOT_CFG_ROLE, 3), (slB 1536, R.LOOP_SLOT_CFG_CHANNEL, 191), (chB 191, R.MOVE_WHEEL_TGT_SPEED, 65535)], moves := [(191, { wAt := 0 })] }

/-- A small state for the witnesses. -/
def sMovingParts1 : State :=
  { hub := { up := true }, ht := 4000000000, regs := regsOf [(hubB, R.HUB_MODE_MODE, 2), (chB 191, R.CH_STATUS_STATE, 2), (chB 191, R.MOVE_STATUS_WSTATE, 4), (chB 191, R.MOVE_STATUS_SSTATE, 0), (slB 1536, R.LOOP_SLOT_STATUS_STATE, 2), (slB 1536, R.LOOP_SLOT_CFG_ROLE, 3), (slB 1536, R.LOOP_SLOT_CFG_CHANNEL, 191), (chB 191, R.MOVE_WHEEL_TGT_SPEED, 0)], moves := [(191, { wAt := 0 })] }

/-- A small state for the witnesses. -/
def sMovingParts2 : State :=
  { hub := { up := true }, ht := 4000000000, regs := regsOf [(hubB, R.HUB_MODE_MODE, 2), (chB 191, R.CH_STATUS_STATE, 2), (chB 191, R.MOVE_STATUS_WSTATE, 1), (chB 191, R.MOVE_STATUS_SSTATE, 0), (slB 1536, R.LOOP_SLOT_STATUS_STATE, 2), (slB 1536, R.LOOP_SLOT_CFG_ROLE, 3), (slB 1536, R.LOOP_SLOT_CFG_CHANNEL, 191)], moves := [(191, { wAt := 0 })] }

/-- A small state for the witnesses. -/
def sMovingParts3 : State :=
  { hub := { up := true }, ht := 4000000000, regs := regsOf [(hubB, R.HUB_MODE_MODE, 2), (chB 191, R.CH_STATUS_STATE, 2), (chB 191, R.MOVE_STATUS_WSTATE, 6), (chB 191, R.MOVE_STATUS_SSTATE, 0), (slB 1536, R.LOOP_SLOT_STATUS_STATE, 2), (slB 1536, R.LOOP_SLOT_CFG_ROLE, 3), (slB 1536, R.LOOP_SLOT_CFG_CHANNEL, 191)], moves := [(191, { wAt := 0 })] }

/-- A small state for the witnesses. -/
def sMovingParts4 : State :=
  { hub := { up := true }, ht := 4000000000, regs := regsOf [(hubB, R.HUB_MODE_MODE, 2), (chB 191, R.CH_STATUS_STATE, 2), (chB 191, R.MOVE_STATUS_WSTATE, 2), (chB 191, R.MOVE_STATUS_SSTATE, 0), (slB 1536, R.LOOP_SLOT_STATUS_STATE, 2), (slB 1536, R.LOOP_SLOT_CFG_ROLE, 3), (slB 1536, R.LOOP_SLOT_CFG_CHANNEL, 191)], moves := [(191, { wAt := 0 })] }

/-- A small state for the witnesses. -/
def sMovingParts5 : State :=
  { hub := { up := true }, ht := 4000000000, regs := regsOf [(hubB, R.HUB_MODE_MODE, 2), (chB 191, R.CH_STATUS_STATE, 2), (chB 191, R.MOVE_STATUS_WSTATE, 0), (chB 191, R.MOVE_STATUS_SSTATE, 2), (slB 1536, R.LOOP_SLOT_STATUS_STATE, 1), (slB 1536, R.LOOP_SLOT_CFG_ROLE, 4), (slB 1536, R.LOOP_SLOT_CFG_CHANNEL, 191), (slB 1536, R.LOOP_SLOT_PERIOD_P, 400000), (slB 1536, R.LOOP_SLOT_BUDGET_BUDGET, 100), (chB 191, R.MOVE_SCAN_CFG_TYPE, 0)], moves := [(191, { wAt := 0 })] }

/-- A small state for the witnesses. -/
def sMovingParts6 : State :=
  { hub := { up := true }, ht := 4000000000, regs := regsOf [(hubB, R.HUB_MODE_MODE, 2), (chB 191, R.CH_STATUS_STATE, 2), (chB 191, R.MOVE_STATUS_WSTATE, 0), (chB 191, R.MOVE_STATUS_SSTATE, 2), (slB 1536, R.LOOP_SLOT_STATUS_STATE, 1), (slB 1536, R.LOOP_SLOT_CFG_ROLE, 4), (slB 1536, R.LOOP_SLOT_CFG_CHANNEL, 191), (slB 1536, R.LOOP_SLOT_PERIOD_P, 400000), (slB 1536, R.LOOP_SLOT_BUDGET_BUDGET, 100), (chB 191, R.MOVE_SCAN_CFG_TYPE, 1)], moves := [(191, { wAt := 0 })] }

/-- A small state for the witnesses. -/
def sMovingParts7 : State :=
  { hub := { up := true }, ht := 4000000000, regs := regsOf [(hubB, R.HUB_MODE_MODE, 2), (chB 191, R.CH_STATUS_STATE, 2), (chB 191, R.MOVE_STATUS_WSTATE, 0), (chB 191, R.MOVE_STATUS_SSTATE, 2), (slB 1536, R.LOOP_SLOT_STATUS_STATE, 1), (slB 1536, R.LOOP_SLOT_CFG_ROLE, 4), (slB 1536, R.LOOP_SLOT_CFG_CHANNEL, 191), (slB 1536, R.LOOP_SLOT_PERIOD_P, 1), (chB 191, R.MOVE_SCAN_CFG_TYPE, 1)], moves := [(191, { wAt := 0 })] }

/-- A small state for the witnesses. -/
def sMovingParts8 : State :=
  { hub := { up := true }, ht := 4000000000, regs := regsOf [(hubB, R.HUB_MODE_MODE, 2), (chB 191, R.CH_STATUS_STATE, 2), (chB 191, R.MOVE_STATUS_WSTATE, 0), (chB 191, R.MOVE_STATUS_SSTATE, 5), (slB 1536, R.LOOP_SLOT_STATUS_STATE, 1), (slB 1536, R.LOOP_SLOT_CFG_ROLE, 4), (slB 1536, R.LOOP_SLOT_CFG_CHANNEL, 191), (slB 1536, R.LOOP_SLOT_PERIOD_P, 400000), (slB 1536, R.LOOP_SLOT_BUDGET_BUDGET, 100)], moves := [(191, { wAt := 0 })] }

/-- A small state for the witnesses. -/
def sMovingParts9 : State :=
  { hub := { up := true }, ht := 4000000000, regs := regsOf [(hubB, R.HUB_MODE_MODE, 2), (chB 191, R.CH_STATUS_STATE, 2), (chB 191, R.MOVE_STATUS_WSTATE, 0), (chB 191, R.MOVE_STATUS_SSTATE, 3)], moves := [(191, { wAt := 0 })] }

/-- A small state for the witnesses. -/
def sMovingParts9b : State :=
  { hub := { up := true }, ht := 4000000000, regs := regsOf [(hubB, R.HUB_MODE_MODE, 2), (chB 191, R.CH_STATUS_STATE, 2), (chB 191, R.MOVE_STATUS_WSTATE, 0), (chB 191, R.MOVE_STATUS_SSTATE, 5)], moves := [(191, { wAt := 0 })] }

/-- A small state for the witnesses. -/
def sMovingParts10 : State :=
  { hub := { up := true }, ht := 4000000000, regs := regsOf [(hubB, R.HUB_MODE_MODE, 2), (chB 191, R.CH_STATUS_STATE, 2), (chB 191, R.MOVE_STATUS_WSTATE, 0), (chB 191, R.MOVE_STATUS_SSTATE, 6)], moves := [(191, { wAt := 0 })] }

/-- A small state for the witnesses. -/
def sMovingParts10b : State :=
  { hub := { up := true }, ht := 4000000000, regs := regsOf [(hubB, R.HUB_MODE_MODE, 2), (chB 191, R.CH_STATUS_STATE, 2), (chB 191, R.MOVE_STATUS_WSTATE, 0), (chB 191, R.MOVE_STATUS_SSTATE, 0)], moves := [(191, { wAt := 0 })] }

/-- A small state for the witnesses. -/
def sMovingParts11 : State :=
  { hub := { up := true }, ht := 4000000000, regs := regsOf [(hubB, R.HUB_MODE_MODE, 2), (chB 191, R.CH_STATUS_STATE, 2), (chB 191, R.MOVE_STATUS_WSTATE, 1), (chB 191, R.MOVE_STATUS_SSTATE, 0)], moves := [(191, { wAt := 0, stopSince := some 9, speedAt := some 3900000000 })] }

/-- A small state for the witnesses. -/
def sMovingParts11b : State :=
  { hub := { up := true }, ht := 4000000000, regs := regsOf [(hubB, R.HUB_MODE_MODE, 2), (chB 191, R.CH_STATUS_STATE, 2), (chB 191, R.MOVE_STATUS_WSTATE, 6), (chB 191, R.MOVE_STATUS_SSTATE, 0)], moves := [(191, { wAt := 0, stopSince := some 9, speedAt := some 3900000000 })] }

/-- A small state for the witnesses. -/
def sMovingParts12 : State :=
  { hub := { up := true }, ht := 4000000000, regs := regsOf [(hubB, R.HUB_MODE_MODE, 2), (chB 191, R.CH_STATUS_STATE, 2), (chB 191, R.MOVE_STATUS_WSTATE, 5), (chB 191, R.MOVE_STATUS_SSTATE, 0)], moves := [(191, { wAt := 0, stopSince := some 9, speedAt := some 3900000000 })] }

/-- A small state for the witnesses. -/
def sMovingParts13 : State :=
  { hub := { up := true }, ht := 4000000000, regs := regsOf [(hubB, R.HUB_MODE_MODE, 2), (chB 191, R.CH_STATUS_STATE, 2), (chB 191, R.MOVE_STATUS_WSTATE, 2), (chB 191, R.MOVE_STATUS_SSTATE, 0)], moves := [(191, { wAt := 0, speedAt := some 9 })] }

/-- A small state for the witnesses. -/
def sMovingParts14 : State :=
  { hub := { up := true }, ht := 4000000000, regs := regsOf [(hubB, R.HUB_MODE_MODE, 2), (chB 191, R.CH_STATUS_STATE, 2), (chB 191, R.MOVE_STATUS_WSTATE, 4), (chB 191, R.MOVE_STATUS_SSTATE, 0)], moves := [(191, { wAt := 0, lockFail := some 9 })] }

/-- A small state for the witnesses. -/
def sMovingParts15 : State :=
  { hub := { up := true }, ht := 4000000000, regs := regsOf [(hubB, R.HUB_MODE_MODE, 2), (chB 191, R.CH_STATUS_STATE, 2), (chB 191, R.MOVE_STATUS_WSTATE, 3), (chB 191, R.MOVE_STATUS_SSTATE, 0), (chB 191 + 24, R.EPROT_HCAP_VALUE, 1536)], moves := [(191, { wAt := 0 })] }

/-- A small state for the witnesses. -/
def sMovingParts16 : State :=
  { hub := { up := true }, ht := 4000000000, regs := regsOf [(hubB, R.HUB_MODE_MODE, 2), (chB 191, R.CH_STATUS_STATE, 2), (chB 191, R.MOVE_STATUS_WSTATE, 4), (chB 191, R.MOVE_STATUS_SSTATE, 0), (chB 191 + 24, R.EPROT_HCAP_VALUE, 1536), (chB 191, R.MOVE_STATUS_PRED, 1), (chB 191, R.MOVE_STATUS_W_ILK, 1)], moves := [(191, { wAt := 0, speedGood := 4000000000, wClear := some 0 })], strs := [(8 * 191 + 5, { cuts := 32 })] }

/-- A small state for the witnesses. -/
def sMovingParts17 : State :=
  { hub := { up := true }, ht := 4000000000, regs := regsOf [(hubB, R.HUB_MODE_MODE, 2), (chB 191, R.CH_STATUS_STATE, 2), (chB 191, R.MOVE_STATUS_WSTATE, 4), (chB 191, R.MOVE_STATUS_SSTATE, 0), (chB 191, R.MOVE_STATUS_PRED, 1)], moves := [(191, { wAt := 0, predI := some 15000, predP := some 4000 })] }

/-- A small state for the witnesses. -/
def sMovingParts18 : State :=
  { hub := { up := true }, ht := 4000000000, regs := regsOf [(hubB, R.HUB_MODE_MODE, 2), (chB 191, R.CH_STATUS_STATE, 2), (chB 191, R.MOVE_STATUS_WSTATE, 0), (chB 191, R.MOVE_STATUS_SSTATE, 3)], moves := [(191, { wAt := 0, sweepF := 8000 })] }

/-- A small state for the witnesses. -/
def sMovingParts19 : State :=
  { hub := { up := true }, ht := 4000000000, regs := regsOf [(hubB, R.HUB_MODE_MODE, 2), (chB 191, R.CH_STATUS_STATE, 2), (chB 191, R.MOVE_STATUS_WSTATE, 0), (chB 191, R.MOVE_STATUS_SSTATE, 3)], moves := [(191, { wAt := 0, sweepF := 48000 })] }

/-- A small state for the witnesses. -/
def sMovingParts20 : State :=
  { hub := { up := true }, ht := 4000000000, regs := regsOf [(hubB, R.HUB_MODE_MODE, 2), (chB 191, R.CH_STATUS_STATE, 2), (chB 191, R.MOVE_STATUS_WSTATE, 0), (chB 191, R.MOVE_STATUS_SSTATE, 3), (slB 1536, R.LOOP_SLOT_STATUS_STATE, 1), (slB 1536, R.LOOP_SLOT_CFG_ROLE, 4), (slB 1536, R.LOOP_SLOT_CFG_CHANNEL, 191), (slB 1536, R.LOOP_SLOT_PERIOD_P, 400000), (slB 1536, R.LOOP_SLOT_BUDGET_BUDGET, 100), (chB 191, R.MOVE_SCAN_MEAS_AMP, 2)], moves := [(191, { wAt := 0, sweepF := 48000, sweep := [(8000, 1), (9000, 40)] })] }

/-- A small state for the witnesses. -/
def sMovingParts21 : State :=
  { hub := { up := true }, ht := 4000000000, regs := regsOf [(hubB, R.HUB_MODE_MODE, 2), (chB 191, R.CH_STATUS_STATE, 2), (chB 191, R.MOVE_STATUS_WSTATE, 0), (chB 191, R.MOVE_STATUS_SSTATE, 4), (chB 191, R.MOVE_STATUS_GRID, 1), (chB 191, R.MOVE_SCAN_MEAS_AMP, 65535), (chB 191, R.MOVE_STATUS_S_ILK, 1)], moves := [(191, { wAt := 0, sClear := some 0, ampAt := some 4000000000 })] }

/-- A small state for the witnesses. -/
def sMovingParts22 : State :=
  { hub := { up := true }, ht := 4000000000, regs := regsOf [(hubB, R.HUB_MODE_MODE, 2), (chB 191, R.CH_STATUS_STATE, 2), (chB 191, R.MOVE_STATUS_WSTATE, 0), (chB 191, R.MOVE_STATUS_SSTATE, 5), (chB 191 + 24, R.EPROT_HCAP_VALUE, 1536)], moves := [(191, { wAt := 0, ampAt := some 9 })] }

/-- A small state for the witnesses. -/
def sMovingParts23 : State :=
  { hub := { up := true }, ht := 4000000000, regs := regsOf [(hubB, R.HUB_MODE_MODE, 2), (chB 191, R.CH_STATUS_STATE, 2), (chB 191, R.MOVE_STATUS_WSTATE, 0), (chB 191, R.MOVE_STATUS_SSTATE, 6), (slB 1536, R.LOOP_SLOT_STATUS_STATE, 2), (slB 1536, R.LOOP_SLOT_CFG_ROLE, 4), (slB 1536, R.LOOP_SLOT_CFG_CHANNEL, 191)], moves := [(191, { wAt := 0 })] }

/-- A small state for the witnesses. -/
def sMovingParts24 : State :=
  { hub := { up := true }, ht := 4000000000, regs := regsOf [(hubB, R.HUB_MODE_MODE, 2), (chB 191, R.CH_STATUS_STATE, 2), (chB 191, R.MOVE_STATUS_WSTATE, 0), (chB 191, R.MOVE_STATUS_SSTATE, 6)], moves := [(191, { wAt := 0, smallSince := some 9, ampAt := some 3990000000 })] }

/-- A small state for the witnesses. -/
def sPortBringUp0 : State :=
  { hub := { up := true, portsOn := true }, tick := 8000000000, ht := 8000000000, regs := regsOf [(hubB, R.HUB_MODE_MODE, 2), (ephyB 191, R.EPHY_STATUS_STATE, 0), (ephyB 191, R.EPHY_STATUS_TX_IDLE, 0), (ephyB 191, R.EPHY_CTRL_EN, 0)], ports := [(191, { stAt := 0 })] }

/-- A small state for the witnesses. -/
def sPortBringUp1 : State :=
  { hub := { up := true, portsOn := true }, tick := 8000000000, ht := 8000000000, regs := regsOf [(hubB, R.HUB_MODE_MODE, 2), (ephyB 191, R.EPHY_STATUS_STATE, 9), (ephyB 191, R.EPHY_STATUS_TX_IDLE, 0), (ephyB 191, R.EPHY_CTRL_EN, 1)], ports := [(191, { stAt := 0 })] }

/-- A small state for the witnesses. -/
def sPortBringUp2 : State :=
  { hub := { up := true, portsOn := true }, tick := 8000000000, ht := 8000000000, regs := regsOf [(hubB, R.HUB_MODE_MODE, 2), (ephyB 191, R.EPHY_STATUS_STATE, 9), (ephyB 191, R.EPHY_STATUS_TX_IDLE, 0), (ephyB 191, R.EPHY_CTRL_EN, 1), (chB 191, R.CH_STATUS_STATE, 4)], ports := [(191, { stAt := 0 })] }

/-- A small state for the witnesses. -/
def sPortBringUp3 : State :=
  { hub := { up := true, portsOn := true }, tick := 8000000000, ht := 8000000000, regs := regsOf [(hubB, R.HUB_MODE_MODE, 2), (ephyB 191, R.EPHY_STATUS_STATE, 1), (ephyB 191, R.EPHY_STATUS_TX_IDLE, 0), (ephyB 191, R.EPHY_CFG_MAX_RATE, 3), (dieB 3, R.HUB_DIE_STATUS_IN_RESET, 0)], ports := [(191, { stAt := 0 })] }

/-- A small state for the witnesses. -/
def sPortBringUp4 : State :=
  { hub := { up := true, portsOn := true }, tick := 8000000000, ht := 8000000000, regs := regsOf [(hubB, R.HUB_MODE_MODE, 2), (ephyB 191, R.EPHY_STATUS_STATE, 2), (ephyB 191, R.EPHY_STATUS_TX_IDLE, 0)], ports := [(191, { stAt := 0 })] }

/-- A small state for the witnesses. -/
def sPortBringUp5 : State :=
  { hub := { up := true, portsOn := true }, tick := 8000000000, ht := 8000000000, regs := regsOf [(hubB, R.HUB_MODE_MODE, 2), (ephyB 191, R.EPHY_STATUS_STATE, 2), (ephyB 191, R.EPHY_STATUS_TX_IDLE, 0), (ephyB 191, R.EPHY_STATUS_RATE, 3)], ports := [(191, { stAt := 0 })] }

/-- A small state for the witnesses. -/
def sPortBringUp6 : State :=
  { hub := { up := true, portsOn := true }, tick := 8000000000, ht := 8000000000, regs := regsOf [(hubB, R.HUB_MODE_MODE, 2), (ephyB 191, R.EPHY_STATUS_STATE, 4), (ephyB 191, R.EPHY_STATUS_TX_IDLE, 0)], ports := [(191, { stAt := 0, tsCount := [(3, 15)] })] }

/-- A small state for the witnesses. -/
def sPortBringUp9 : State :=
  { hub := { up := true, portsOn := true }, tick := 8000000000, ht := 8000000000, regs := regsOf [(hubB, R.HUB_MODE_MODE, 2), (ephyB 191, R.EPHY_STATUS_STATE, 2), (ephyB 191, R.EPHY_STATUS_TX_IDLE, 0), (ephyB 191, R.EPHY_STATUS_RATE, 0)], ports := [(191, { stAt := 0 })] }

/-- A small state for the witnesses. -/
def sPortBringUp10 : State :=
  { hub := { up := true, portsOn := true }, tick := 8000000000, ht := 8000000000, regs := regsOf [(hubB, R.HUB_MODE_MODE, 2), (ephyB 191, R.EPHY_STATUS_STATE, 3), (ephyB 191, R.EPHY_STATUS_TX_IDLE, 0)], ports := [(191, { stAt := 0 })] }

/-- A small state for the witnesses. -/
def sPortBringUp11 : State :=
  { hub := { up := true, portsOn := true }, tick := 8000000000, ht := 8000000000, regs := regsOf [(hubB, R.HUB_MODE_MODE, 2), (ephyB 191, R.EPHY_STATUS_STATE, 4), (ephyB 191, R.EPHY_STATUS_TX_IDLE, 0), (laneB 191 3, R.EPHY_LSTAT_LOCK, 1)], ports := [(191, { stAt := 0, tsCount := [(3, 16)], tsInv := 8 })] }

/-- A small state for the witnesses. -/
def sPortBringUp12 : State :=
  { hub := { up := true, portsOn := true }, tick := 8000000000, ht := 8000000000, regs := regsOf [(hubB, R.HUB_MODE_MODE, 2), (ephyB 191, R.EPHY_STATUS_STATE, 6), (ephyB 191, R.EPHY_STATUS_TX_IDLE, 0), (laneB 191 0, R.EPHY_LSTAT_LOCK, 1), (laneB 191 3, R.EPHY_LSTAT_LOCK, 1)], ports := [(191, { stAt := 0, markers := [(0, (255, 41))] })] }

/-- A small state for the witnesses. -/
def sPortBringUp13 : State :=
  { hub := { up := true, portsOn := true }, tick := 8000000000, ht := 8000000000, regs := regsOf [(hubB, R.HUB_MODE_MODE, 2), (ephyB 191, R.EPHY_STATUS_STATE, 3), (ephyB 191, R.EPHY_STATUS_TX_IDLE, 0), (ephyB 191, R.EPHY_STATUS_RATE, 3)], ports := [(191, { stAt := 0 })] }

/-- A small state for the witnesses. -/
def sPortBringUp14 : State :=
  { hub := { up := true, portsOn := true }, tick := 8000000000, ht := 8000000000, regs := regsOf [(hubB, R.HUB_MODE_MODE, 2), (ephyB 191, R.EPHY_STATUS_STATE, 3), (ephyB 191, R.EPHY_STATUS_TX_IDLE, 0), (ephyB 191, R.EPHY_STATUS_RATE, 0)], ports := [(191, { stAt := 0 })] }

/-- A small state for the witnesses. -/
def sPortBringUp15 : State :=
  { hub := { up := true, portsOn := true }, tick := 8000000000, ht := 8000000000, regs := regsOf [(hubB, R.HUB_MODE_MODE, 2), (ephyB 191, R.EPHY_STATUS_STATE, 6), (ephyB 191, R.EPHY_STATUS_TX_IDLE, 0), (ephyB 191, R.EPHY_STATUS_RATE, 3)], ports := [(191, { stAt := 0 })] }

/-- A small state for the witnesses. -/
def sPortBringUp16 : State :=
  { hub := { up := true, portsOn := true }, tick := 8000000000, ht := 8000000000, regs := regsOf [(hubB, R.HUB_MODE_MODE, 2), (ephyB 191, R.EPHY_STATUS_STATE, 6), (ephyB 191, R.EPHY_STATUS_TX_IDLE, 0), (ephyB 191, R.EPHY_STATUS_RATE, 0)], ports := [(191, { stAt := 0 })] }

/-- A small state for the witnesses. -/
def sPortBringUp17 : State :=
  { hub := { up := true, portsOn := true }, tick := 8000000000, ht := 8000000000, regs := regsOf [(hubB, R.HUB_MODE_MODE, 2), (ephyB 191, R.EPHY_STATUS_STATE, 8), (ephyB 191, R.EPHY_STATUS_TX_IDLE, 0), (ephyB 191, R.EPHY_STATUS_RATE, 3)], ports := [(191, { stAt := 0 })] }

/-- A small state for the witnesses. -/
def sPortBringUp18 : State :=
  { hub := { up := true, portsOn := true }, tick := 8000000000, ht := 8000000000, regs := regsOf [(hubB, R.HUB_MODE_MODE, 2), (ephyB 191, R.EPHY_STATUS_STATE, 9), (ephyB 191, R.EPHY_STATUS_TX_IDLE, 0)], ports := [(191, { stAt := 0 })] }

/-- A small state for the witnesses. -/
def sPortBringUp20 : State :=
  { hub := { up := true, portsOn := true }, tick := 8000000000, ht := 8000000000, regs := regsOf [(hubB, R.HUB_MODE_MODE, 2), (ephyB 191, R.EPHY_STATUS_STATE, 9), (ephyB 191, R.EPHY_STATUS_TX_IDLE, 0), (chB 191, R.CH_STATUS_STATE, 4)], ports := [(191, { stAt := 0 })] }

/-- A small state for the witnesses. -/
def sPortBringUp21 : State :=
  { hub := { up := true, portsOn := true }, tick := 8000000000, ht := 8000000000, regs := regsOf [(hubB, R.HUB_MODE_MODE, 2), (ephyB 191, R.EPHY_STATUS_STATE, 9), (ephyB 191, R.EPHY_STATUS_TX_IDLE, 0), (ephyB 191, R.EPHY_CTRL_TX_SLEEP, 1)], ports := [(191, { stAt := 0 })] }

/-- A small state for the witnesses. -/
def sPortBringUp22 : State :=
  { regs := regsOf [(hubB, R.HUB_MODE_MODE, 1), (ephyB 191, R.EPHY_STATUS_STATE, 9)] }

/-- A small state for the witnesses. -/
def sPortBringUp24 : State :=
  { hub := { up := true, portsOn := true }, tick := 8000000000, ht := 8000000000, regs := regsOf [(hubB, R.HUB_MODE_MODE, 2), (ephyB 191, R.EPHY_STATUS_STATE, 11), (ephyB 191, R.EPHY_STATUS_TX_IDLE, 0)], ports := [(191, { stAt := 0 })] }

/-- A small state for the witnesses. -/
def sPortRunning0 : State :=
  { hub := { up := true, portsOn := true }, tick := 8000000000, ht := 8000000000, regs := regsOf [(hubB, R.HUB_MODE_MODE, 2), (ephyB 191, R.EPHY_STATUS_STATE, 9), (ephyB 191, R.EPHY_STATUS_TX_IDLE, 0)], ports := [(191, { stAt := 0, markSeq := 255 })] }

/-- A small state for the witnesses. -/
def sPortRunning1 : State :=
  { hub := { up := true, portsOn := true }, tick := 8000000000, ht := 8000000000, regs := regsOf [(hubB, R.HUB_MODE_MODE, 2), (ephyB 191, R.EPHY_STATUS_STATE, 9), (ephyB 191, R.EPHY_STATUS_TX_IDLE, 0)], ports := [(191, { stAt := 0, wreq := some { seq := 1, width := 2, lanes := 3, widen := false, sentAt := 0, lossAt := 0, acked := true } })] }

/-- A small state for the witnesses. -/
def sPortRunning2 : State :=
  { hub := { up := true, portsOn := true }, tick := 8000000000, ht := 8000000000, regs := regsOf [(hubB, R.HUB_MODE_MODE, 2), (ephyB 191, R.EPHY_STATUS_STATE, 9), (ephyB 191, R.EPHY_STATUS_TX_IDLE, 0), (ephyB 191, R.EPHY_STATUS_GOOD, 15), (ephyB 191, R.EPHY_STATUS_LANES, 15), (laneB 191 3, R.EPHY_LSTAT_LOGICAL, 3)], ports := [(191, { stAt := 0 })] }

/-- A small state for the witnesses. -/
def sPortRunning2b : State :=
  { hub := { up := true, portsOn := true }, tick := 8000000000, ht := 8000000000, regs := regsOf [(hubB, R.HUB_MODE_MODE, 2), (ephyB 191, R.EPHY_STATUS_STATE, 9), (ephyB 191, R.EPHY_STATUS_TX_IDLE, 0), (ephyB 191, R.EPHY_STATUS_GOOD, 8), (ephyB 191, R.EPHY_STATUS_LANES, 8), (laneB 191 3, R.EPHY_LSTAT_LOGICAL, 3)], ports := [(191, { stAt := 0 })] }

/-- A small state for the witnesses. -/
def sPortRunning4 : State :=
  { tick := 8000, ports := [(191, { wreq := some { seq := 1, width := 2, lanes := 3, widen := false, sentAt := 0, lossAt := 0 } })] }

/-- A small state for the witnesses. -/
def sPortRunning5 : State :=
  { hub := { up := true, portsOn := true }, tick := 8000000000, ht := 8000000000, regs := regsOf [(hubB, R.HUB_MODE_MODE, 2), (ephyB 191, R.EPHY_STATUS_STATE, 9), (ephyB 191, R.EPHY_STATUS_TX_IDLE, 0)], ports := [(191, { stAt := 0, wreq := some { seq := 1, width := 2, lanes := 3, widen := false, sentAt := 0, lossAt := 0 } })] }

/-- A small state for the witnesses. -/
def sPortRunning6 : State :=
  { hub := { up := true, portsOn := true }, tick := 8000000000, ht := 8000000000, regs := regsOf [(hubB, R.HUB_MODE_MODE, 2), (ephyB 191, R.EPHY_STATUS_STATE, 3), (ephyB 191, R.EPHY_STATUS_TX_IDLE, 0), (ephyB 191, R.EPHY_CFG_LOSS_MS, 0), (chB 191, R.CH_STATUS_STATE, 2)], ports := [(191, { stAt := 0, lossAt := some 9 })] }

/-- A small state for the witnesses. -/
def sPortRunning7 : State :=
  { hub := { up := true, portsOn := true }, tick := 8000000000, ht := 8000000000, regs := regsOf [(hubB, R.HUB_MODE_MODE, 2), (ephyB 191, R.EPHY_STATUS_STATE, 9), (ephyB 191, R.EPHY_STATUS_TX_IDLE, 0), (ephyB 191, R.EPHY_CFG_WIDEN_HOLD, 1), (ephyB 191, R.EPHY_STATUS_GOOD, 3), (ephyB 191, R.EPHY_STATUS_LANES, 3), (ephyB 191, R.EPHY_STATUS_WIDTH, 2), (laneB 191 3, R.EPHY_LSTAT_LOGICAL, 3), (laneB 191 3, R.EPHY_LSTAT_EXCLUDED, 1)], ports := [(191, { stAt := 0, back := [(3, 1)] })] }

/-- A small state for the witnesses. -/
def sPortRunning8 : State :=
  { hub := { up := true, portsOn := true }, tick := 8000000000, ht := 8000000000, regs := regsOf [(hubB, R.HUB_MODE_MODE, 2), (ephyB 191, R.EPHY_STATUS_STATE, 9), (ephyB 191, R.EPHY_STATUS_TX_IDLE, 0), (laneB 191 3, R.EPHY_LSTAT_LOCK, 1), (laneB 191 2, R.EPHY_LSTAT_FOM, 7)], ports := [(191, { stAt := 0 })] }

/-- A small state for the witnesses. -/
def sPortRunning9 : State :=
  { hub := { up := true, portsOn := true }, tick := 8000000000, ht := 8000000000, regs := regsOf [(hubB, R.HUB_MODE_MODE, 2), (ephyB 191, R.EPHY_STATUS_STATE, 9), (ephyB 191, R.EPHY_STATUS_TX_IDLE, 0), (ephyB 191, R.EPHY_STATUS_LANES, 8), (laneB 191 3, R.EPHY_LSTAT_LOGICAL, 3)], ports := [(191, { stAt := 0, fomLow := [(3, 1)] })] }

/-- A small state for the witnesses. -/
def sPortRunning10 : State :=
  { hub := { up := true, portsOn := true }, tick := 8000000000, ht := 8000000000, regs := regsOf [(hubB, R.HUB_MODE_MODE, 2), (ephyB 191, R.EPHY_STATUS_STATE, 9), (ephyB 191, R.EPHY_STATUS_TX_IDLE, 0), (ephyB 191, R.EPHY_STATUS_RX_IDLE, 0), (laneB 191 3, R.EPHY_LSTAT_LOCK, 1)], ports := [(191, { stAt := 0 })] }

/-- A small state for the witnesses. -/
def sPortRunning11 : State :=
  { hub := { up := true, portsOn := true }, tick := 8000000000, ht := 8000000000, regs := regsOf [(hubB, R.HUB_MODE_MODE, 2), (ephyB 191, R.EPHY_STATUS_STATE, 9), (ephyB 191, R.EPHY_STATUS_TX_IDLE, 0), (ephyB 191, R.EPHY_STATUS_RX_IDLE, 0), (chB 191, R.CH_STATUS_STATE, 2)], ports := [(191, { stAt := 0 })] }

/-- A small state for the witnesses. -/
def sPortRunning12 : State :=
  { hub := { up := true, portsOn := true }, tick := 8000000000, ht := 8000000000, regs := regsOf [(hubB, R.HUB_MODE_MODE, 2), (ephyB 191, R.EPHY_STATUS_STATE, 9), (ephyB 191, R.EPHY_STATUS_TX_IDLE, 0), (ephyB 191, R.EPHY_STATUS_RX_IDLE, 1)], ports := [(191, { stAt := 0 })] }

/-- A small state for the witnesses. -/
def sPortRunning13 : State :=
  { hub := { up := true, portsOn := true }, tick := 8000000000, ht := 8000000000, regs := regsOf [(hubB, R.HUB_MODE_MODE, 2), (ephyB 191, R.EPHY_STATUS_STATE, 9), (ephyB 191, R.EPHY_STATUS_TX_IDLE, 0), (ephyB 191, R.EPHY_STATUS_LANES, 8), (laneB 191 3, R.EPHY_LSTAT_LOGICAL, 3)], ports := [(191, { stAt := 0, wakeAt := some 9 })] }

/-- A small state for the witnesses. -/
def sPortRunning14 : State :=
  { hub := { up := true, portsOn := true }, tick := 8000000000, ht := 8000000000, regs := regsOf [(hubB, R.HUB_MODE_MODE, 2), (ephyB 191, R.EPHY_STATUS_STATE, 9), (ephyB 191, R.EPHY_STATUS_TX_IDLE, 0), (ephyB 191, R.EPHY_STATUS_LANES, 8), (laneB 191 3, R.EPHY_LSTAT_LOGICAL, 3), (laneB 191 3, R.EPHY_LSTAT_LOCK, 1), (laneB 191 3, R.EPHY_LSTAT_DESKEWED, 1)], ports := [(191, { stAt := 0, wakeAt := some 9 })] }

/-- A small state for the witnesses. -/
def sHeadMessages0 : State :=
  { hub := { up := true, portsOn := true }, tick := 8000000000, ht := 8000000000, regs := regsOf [(hubB, R.HUB_MODE_MODE, 2), (ephyB 191, R.EPHY_STATUS_STATE, 9), (ephyB 191, R.EPHY_STATUS_TX_IDLE, 0), (ephyB 191, R.EPHY_STATUS_WIDTH, 4)], ports := [(191, { stAt := 0, cfg := [{ tag := 255, write := false, addr := 0x8000, words := [], count := 2, pass := true }], ident := .yes })] }

/-- A small state for the witnesses. -/
def sHeadMessages1 : State :=
  { hub := { up := true, portsOn := true }, tick := 8000000000, ht := 8000000000, regs := regsOf [(hubB, R.HUB_MODE_MODE, 2), (ephyB 191, R.EPHY_STATUS_STATE, 8), (ephyB 191, R.EPHY_STATUS_TX_IDLE, 0), (ephyB 191, R.EPHY_STATUS_WIDTH, 4)], ports := [(191, { stAt := 0, cfg := [{ tag := 255, write := false, addr := 0, words := [], count := 2, pass := false }], ident := .reading })] }

/-- A small state for the witnesses. -/
def sHeadMessages2 : State :=
  { hub := { up := true, portsOn := true }, tick := 8000000000, ht := 8000000000, regs := regsOf [(hubB, R.HUB_MODE_MODE, 2), (ephyB 191, R.EPHY_STATUS_STATE, 9), (ephyB 191, R.EPHY_STATUS_TX_IDLE, 0), (ephyB 191, R.EPHY_STATUS_WIDTH, 4)], ports := [(191, { stAt := 0, cfg := [{ tag := 255, write := true, addr := 0x108, words := [], count := 2, pass := false }], ident := .yes })] }

/-- A small state for the witnesses. -/
def sHeadMessages4 : State :=
  { hub := { up := true, portsOn := true }, tick := 8000000000, ht := 8000000000, regs := regsOf [(hubB, R.HUB_MODE_MODE, 2), (ephyB 191, R.EPHY_STATUS_STATE, 9), (ephyB 191, R.EPHY_STATUS_TX_IDLE, 0), (ephyB 191, R.EPHY_STATUS_WIDTH, 4)], ports := [(191, { stAt := 0, cfg := [{ tag := 255, write := true, addr := 0x108, words := [], count := 2, pass := false }] })] }

/-- A small state for the witnesses. -/
def sHeadMessages5 : State :=
  { hub := { up := true, portsOn := true }, tick := 8000000000, ht := 8000000000, regs := regsOf [(hubB, R.HUB_MODE_MODE, 2), (ephyB 191, R.EPHY_STATUS_STATE, 9), (ephyB 191, R.EPHY_STATUS_TX_IDLE, 0), (ephyB 191, R.EPHY_STATUS_WIDTH, 4)], ports := [(191, { stAt := 0, cfg := [{ tag := 255, write := true, addr := 0x8000, words := [], count := 2, pass := true, resent := true }] })] }

/-- A small state for the witnesses. -/
def sHeadMessages6 : State :=
  { hub := { up := true, portsOn := true }, tick := 8000000000, ht := 8000000000, regs := regsOf [(hubB, R.HUB_MODE_MODE, 2), (ephyB 191, R.EPHY_STATUS_STATE, 9), (ephyB 191, R.EPHY_STATUS_TX_IDLE, 0), (ephyB 191, R.EPHY_STATUS_WIDTH, 4), (chB 191, R.EPROT_PASS_CTRL_WRITE, 1), (chB 191, R.EPROT_PASS_CTRL_ADDR, 0x7FFF)], ports := [(191, { stAt := 0 })] }

/-- A small state for the witnesses. -/
def sHeadMessages7 : State :=
  { hub := { up := true, portsOn := true }, tick := 8000000000, ht := 8000000000, regs := regsOf [(hubB, R.HUB_MODE_MODE, 2), (ephyB 191, R.EPHY_STATUS_STATE, 9), (ephyB 191, R.EPHY_STATUS_TX_IDLE, 0), (ephyB 191, R.EPHY_STATUS_WIDTH, 4), (chB 191, R.EPROT_PASS_CTRL_WRITE, 1), (chB 191, R.EPROT_PASS_CTRL_ADDR, 0x8000)], ports := [(191, { stAt := 0 })] }

/-- A small state for the witnesses. -/
def sHeadMessages8 : State :=
  { hub := { up := true, portsOn := true }, tick := 8000000000, ht := 8000000000, regs := regsOf [(hubB, R.HUB_MODE_MODE, 2), (ephyB 191, R.EPHY_STATUS_STATE, 9), (ephyB 191, R.EPHY_STATUS_TX_IDLE, 0), (ephyB 191, R.EPHY_STATUS_WIDTH, 4)], ports := [(191, { stAt := 0 })] }

/-- A small state for the witnesses. -/
def sHeadMessages10 : State :=
  { hub := { up := true, portsOn := true }, tick := 8000000000, ht := 8000000000, regs := regsOf [(hubB, R.HUB_MODE_MODE, 2), (ephyB 191, R.EPHY_STATUS_STATE, 9), (ephyB 191, R.EPHY_STATUS_TX_IDLE, 0), (ephyB 191, R.EPHY_STATUS_WIDTH, 4), (chB 191, R.EPROT_STATUS_TEL_STALE, 1)], ports := [(191, { stAt := 0 })] }

/-- A small state for the witnesses. -/
def sHeadMessages11 : State :=
  { hub := { up := true, portsOn := true }, tick := 8000000000, ht := 8000000000, regs := regsOf [(hubB, R.HUB_MODE_MODE, 2), (ephyB 191, R.EPHY_STATUS_STATE, 9), (ephyB 191, R.EPHY_STATUS_TX_IDLE, 0), (ephyB 191, R.EPHY_STATUS_WIDTH, 4), (chB 191 + 24, R.EPROT_HCAP_VALUE, 1536)], ports := [(191, { stAt := 0 })] }

/-- A small state for the witnesses. -/
def sHeadMessages12 : State :=
  { hub := { up := true, portsOn := true }, tick := 8000000000, ht := 8000000000, regs := regsOf [(hubB, R.HUB_MODE_MODE, 2), (ephyB 191, R.EPHY_STATUS_STATE, 9), (ephyB 191, R.EPHY_STATUS_TX_IDLE, 0), (ephyB 191, R.EPHY_STATUS_WIDTH, 4)], ports := [(191, { stAt := 0, scheds := [(4, 0, 2 ^ 17)] })] }

/-- A small state for the witnesses. -/
def sHeadMessages14 : State :=
  { hub := { up := true, portsOn := true }, tick := 8000000000, ht := 8000000000, regs := regsOf [(hubB, R.HUB_MODE_MODE, 2), (ephyB 191, R.EPHY_STATUS_STATE, 9), (ephyB 191, R.EPHY_STATUS_TX_IDLE, 0), (ephyB 191, R.EPHY_STATUS_WIDTH, 4)], ports := [(191, { stAt := 0, samples := [{ stag := 255, str := 5, kind := 0, cur := 40000, t := 0, fno := 7 }] })] }

/-- A small state for the witnesses. -/
def sHeadMessages15 : State :=
  { hub := { up := true, portsOn := true }, tick := 8000000000, ht := 8000000000, regs := regsOf [(hubB, R.HUB_MODE_MODE, 2), (ephyB 191, R.EPHY_STATUS_STATE, 9), (ephyB 191, R.EPHY_STATUS_TX_IDLE, 0), (ephyB 191, R.EPHY_STATUS_WIDTH, 4), (chB 191, R.MOVE_STATUS_PRED, 1)], ports := [(191, { stAt := 0 })], moves := [(191, { wAt := 0, predI := some 15000, predP := some 4000 })] }

/-- A small state for the witnesses. -/
def sHeadMessages16 : State :=
  { hub := { up := true, portsOn := true }, tick := 8000000000, ht := 8000000000, regs := regsOf [(hubB, R.HUB_MODE_MODE, 2), (ephyB 191, R.EPHY_STATUS_STATE, 9), (ephyB 191, R.EPHY_STATUS_TX_IDLE, 0), (ephyB 191, R.EPHY_STATUS_WIDTH, 4), (chB 191 + 24, R.EPROT_HCAP_VALUE, 1536), (chB 191, R.LAMP_RILL_CFG_LEN_M1, 15)], ports := [(191, { stAt := 0 })] }

/-- A small state for the witnesses. -/
def sHeadMessages19 : State :=
  { hub := { up := true, portsOn := true }, tick := 8000000000, ht := 8000000000, regs := regsOf [(hubB, R.HUB_MODE_MODE, 2), (ephyB 191, R.EPHY_STATUS_STATE, 9), (ephyB 191, R.EPHY_STATUS_TX_IDLE, 0), (ephyB 191, R.EPHY_STATUS_WIDTH, 4)], ports := [(191, { stAt := 0, telAt := 9 })] }

/-- A small state for the witnesses. -/
def sHeadMessages20 : State :=
  { hub := { up := true, portsOn := true }, tick := 8000000000, ht := 8000000000, regs := regsOf [(hubB, R.HUB_MODE_MODE, 2), (ephyB 191, R.EPHY_STATUS_STATE, 8), (ephyB 191, R.EPHY_STATUS_TX_IDLE, 0), (ephyB 191, R.EPHY_STATUS_WIDTH, 4)], ports := [(191, { stAt := 0, ident := .parking, parkWait := true, parkSeq := 255 })] }

/-- A small state for the witnesses. -/
def sHeadMessages21 : State :=
  { hub := { up := true, portsOn := true }, tick := 8000000000, ht := 8000000000, regs := regsOf [(hubB, R.HUB_MODE_MODE, 2), (ephyB 191, R.EPHY_STATUS_STATE, 9), (ephyB 191, R.EPHY_STATUS_TX_IDLE, 0), (ephyB 191, R.EPHY_STATUS_WIDTH, 4), (chB 191, R.CH_STATUS_STATE, 3)], ports := [(191, { stAt := 0, parkWait := true, parkSeq := 255 })], weirs := [(191, { parkSent := true })] }

/-- A small state for the witnesses. -/
def sHeadMessages22 : State :=
  { hub := { up := true, portsOn := true }, tick := 8000000000, ht := 8000000000, regs := regsOf [(hubB, R.HUB_MODE_MODE, 2), (ephyB 191, R.EPHY_STATUS_STATE, 9), (ephyB 191, R.EPHY_STATUS_TX_IDLE, 0), (ephyB 191, R.EPHY_STATUS_WIDTH, 4)], ports := [(191, { stAt := 0, parkWait := true, parkFirst := 7999000000 })] }

/-- A small state for the witnesses. -/
def sHeadMessages23 : State :=
  { hub := { up := true, portsOn := true }, tick := 8000000000, ht := 8000000000, regs := regsOf [(hubB, R.HUB_MODE_MODE, 2), (ephyB 191, R.EPHY_STATUS_STATE, 9), (ephyB 191, R.EPHY_STATUS_TX_IDLE, 0), (ephyB 191, R.EPHY_STATUS_WIDTH, 4)], ports := [(191, { stAt := 0, parkWait := true })] }

/-- A small state for the witnesses. -/
def sHeadMessages25 : State :=
  { hub := { up := true, portsOn := true }, tick := 8000000000, ht := 8000000000, regs := regsOf [(hubB, R.HUB_MODE_MODE, 2), (ephyB 191, R.EPHY_STATUS_STATE, 9), (ephyB 191, R.EPHY_STATUS_TX_IDLE, 0), (ephyB 191, R.EPHY_STATUS_WIDTH, 4)], ports := [(191, { stAt := 0, rreq := some 3 })] }

/-- A small state for the witnesses. -/
def sHeadMessages26 : State :=
  { hub := { up := true, portsOn := true }, tick := 8000000000, ht := 8000000000, regs := regsOf [(hubB, R.HUB_MODE_MODE, 2), (ephyB 191, R.EPHY_STATUS_STATE, 9), (ephyB 191, R.EPHY_STATUS_TX_IDLE, 0), (ephyB 191, R.EPHY_STATUS_WIDTH, 4), (ephyB 191, R.EPHY_STATUS_GOOD, 15), (ephyB 191, R.EPHY_STATUS_LANES, 15), (laneB 191 3, R.EPHY_LSTAT_LOGICAL, 3)], ports := [(191, { stAt := 0 })] }

/-- A small state for the witnesses. -/
def sHeadMessages27 : State :=
  { hub := { up := true, portsOn := true }, tick := 8000000000, ht := 8000000000, regs := regsOf [(hubB, R.HUB_MODE_MODE, 2), (ephyB 191, R.EPHY_STATUS_STATE, 9), (ephyB 191, R.EPHY_STATUS_TX_IDLE, 0), (ephyB 191, R.EPHY_STATUS_WIDTH, 4)], ports := [(191, { stAt := 0, wreq := some { seq := 1, width := 2, lanes := 3, widen := false, sentAt := 0, lossAt := 0 } })] }

/-- A small state for the witnesses. -/
def sHeadMessages28 : State :=
  { hub := { up := true, portsOn := true }, tick := 8000000000, ht := 8000000000, regs := regsOf [(hubB, R.HUB_MODE_MODE, 2), (ephyB 191, R.EPHY_STATUS_STATE, 3), (ephyB 191, R.EPHY_STATUS_TX_IDLE, 0), (ephyB 191, R.EPHY_STATUS_WIDTH, 4)], ports := [(191, { stAt := 0, rreq := some 255 })] }

/-- A small state for the witnesses. -/
def sMemoryControllers0 : State :=
  { hub := { up := true }, tick := 8000000000000, ht := 8000000000000, regs := regsOf [(hubB, R.HUB_MODE_MODE, 2), (ddrB 3 7, R.DDR_STATUS_STATE, 2), (ddrDieB 3, R.DDR_DIE_STATUS_MEM_OK, 1), (ddrDieB 3, R.DDR_DIE_CAP_GIB, 4), (ddrDieB 3, R.DDR_DIE_STATUS_INIT_DONE, 1)], mem := [(26388279066650, 7)] }

/-- A small state for the witnesses. -/
def sMemoryControllers1 : State :=
  { hub := { up := true }, tick := 8000000000000, ht := 8000000000000, regs := regsOf [(hubB, R.HUB_MODE_MODE, 2), (ddrB 3 7, R.DDR_STATUS_STATE, 2), (ddrDieB 3, R.DDR_DIE_STATUS_MEM_OK, 1), (ddrDieB 3, R.DDR_DIE_CAP_GIB, 4), (ddrDieB 3, R.DDR_DIE_STATUS_INIT_DONE, 1)] }

/-- A small state for the witnesses. -/
def sMemoryControllers3 : State :=
  { hub := { up := true }, tick := 8000000000000, ht := 8000000000000, regs := regsOf [(hubB, R.HUB_MODE_MODE, 2), (ddrB 3 7, R.DDR_STATUS_STATE, 2), (ddrDieB 3, R.DDR_DIE_STATUS_MEM_OK, 1), (ddrDieB 3, R.DDR_DIE_CAP_GIB, 4), (ddrDieB 3, R.DDR_DIE_STATUS_INIT_DONE, 1)], swBusy := [(3, 9000000000000)] }

/-- A small state for the witnesses. -/
def sMemoryControllers5 : State :=
  { hub := { up := true }, tick := 8000000000000, ht := 8000000000000, regs := regsOf [(hubB, R.HUB_MODE_MODE, 2), (ddrB 3 7, R.DDR_STATUS_STATE, 2), (ddrDieB 3, R.DDR_DIE_STATUS_MEM_OK, 1), (ddrDieB 3, R.DDR_DIE_CAP_GIB, 4), (ddrDieB 3, R.DDR_DIE_STATUS_INIT_DONE, 1)], dreqs := [{ level := 7 }, { level := 4, len := 3 }] }

/-- A small state for the witnesses. -/
def sMemoryControllers6 : State :=
  { hub := { up := true }, tick := 8000000000000, ht := 8000000000000, regs := regsOf [(hubB, R.HUB_MODE_MODE, 2), (ddrB 3 7, R.DDR_STATUS_STATE, 2), (ddrDieB 3, R.DDR_DIE_STATUS_MEM_OK, 1), (ddrDieB 3, R.DDR_DIE_CAP_GIB, 4), (ddrDieB 3, R.DDR_DIE_STATUS_INIT_DONE, 1)], ddrs := [(31, { pages := [(192, (5, 6))] })] }

/-- A small state for the witnesses. -/
def sMemoryControllers7 : State :=
  { hub := { up := true }, tick := 8000000000000, ht := 8000000000000, regs := regsOf [(hubB, R.HUB_MODE_MODE, 2), (ddrB 3 7, R.DDR_STATUS_STATE, 2), (ddrDieB 3, R.DDR_DIE_STATUS_MEM_OK, 1), (ddrDieB 3, R.DDR_DIE_CAP_GIB, 4), (ddrDieB 3, R.DDR_DIE_STATUS_INIT_DONE, 1)], ddrs := [(31, { pause := some 0 })] }

/-- A small state for the witnesses. -/
def sMemoryControllers10 : State :=
  { hub := { up := true }, tick := 8000000000000, ht := 8000000000000, regs := regsOf [(hubB, R.HUB_MODE_MODE, 2), (ddrB 3 7, R.DDR_STATUS_STATE, 2), (ddrDieB 3, R.DDR_DIE_STATUS_MEM_OK, 1), (ddrDieB 3, R.DDR_DIE_CAP_GIB, 4), (ddrDieB 3, R.DDR_DIE_STATUS_INIT_DONE, 1)], ddrs := [(31, { pause := some 3, held := [1] })] }

/-- A small state for the witnesses. -/
def sMemoryControllers12 : State :=
  { hub := { up := true }, tick := 8000000000000, ht := 8000000000000, regs := regsOf [(hubB, R.HUB_MODE_MODE, 2), (ddrB 3 7, R.DDR_STATUS_STATE, 2), (ddrDieB 3, R.DDR_DIE_STATUS_MEM_OK, 1), (ddrDieB 3, R.DDR_DIE_CAP_GIB, 4), (ddrDieB 3, R.DDR_DIE_STATUS_INIT_DONE, 1)], ddrs := [(31, { waits := [(3, 5)] })] }

/-- A small state for the witnesses. -/
def sMemoryControllers16 : State :=
  { hub := { up := true }, tick := 8000000000000, ht := 8000000000000, regs := regsOf [(hubB, R.HUB_MODE_MODE, 2), (ddrB 3 7, R.DDR_STATUS_STATE, 2), (ddrDieB 3, R.DDR_DIE_STATUS_MEM_OK, 1), (ddrDieB 3, R.DDR_DIE_CAP_GIB, 4), (ddrDieB 3, R.DDR_DIE_STATUS_INIT_DONE, 1), (ddrDieB 3, R.DDR_DIE_RAS1_REPLAY_MAX, 0)] }

/-- A small state for the witnesses. -/
def sMemoryControllers17 : State :=
  { hub := { up := true }, tick := 8000000000000, ht := 8000000000000, regs := regsOf [(hubB, R.HUB_MODE_MODE, 2), (ddrB 3 7, R.DDR_STATUS_STATE, 4), (ddrDieB 3, R.DDR_DIE_STATUS_MEM_OK, 1), (ddrDieB 3, R.DDR_DIE_CAP_GIB, 4), (ddrDieB 3, R.DDR_DIE_STATUS_INIT_DONE, 1)] }

/-- A small state for the witnesses. -/
def sMemoryControllers21 : State :=
  { regs := regsOf [(ddrDieB 3, R.DDR_DIE_STATUS_MEM_OK, 1), (ddrDieB 3, R.DDR_DIE_CAP_GIB, 4)], dst := [(3, { initNext := 5, initOut := [6, 9] })] }

/-- A small state for the witnesses. -/
def sMemoryControllers23 : State :=
  { hub := { up := true }, tick := 8000000000000, ht := 8000000000000, regs := regsOf [(hubB, R.HUB_MODE_MODE, 2), (ddrB 3 7, R.DDR_STATUS_STATE, 2), (ddrDieB 3, R.DDR_DIE_STATUS_MEM_OK, 1), (ddrDieB 3, R.DDR_DIE_CAP_GIB, 4), (ddrDieB 3, R.DDR_DIE_STATUS_INIT_DONE, 1), (ddrB 3 7 + 12, R.DDR_RANK_BUCKET, 9)] }

/-- A small state for the witnesses. -/
def sMemoryControllers24 : State :=
  { hub := { up := true }, tick := 8000000000000, ht := 8000000000000, regs := regsOf [(hubB, R.HUB_MODE_MODE, 2), (ddrB 3 7, R.DDR_STATUS_STATE, 2), (ddrDieB 3, R.DDR_DIE_STATUS_MEM_OK, 1), (ddrDieB 3, R.DDR_DIE_CAP_GIB, 4), (ddrDieB 3, R.DDR_DIE_STATUS_INIT_DONE, 1), (ddrB 3 7, R.DDR_STATUS_SPARE_AVAIL, 1), (ddrB 3 7, R.DDR_STATUS_SPARE, 3), (ddrB 3 7, R.DDR_STATUS_IN_SERVICE, 7)] }

/-- A small state for the witnesses. -/
def sMemoryControllers26 : State :=
  { hub := { up := true }, tick := 8000000000000, ht := 8000000000000, regs := regsOf [(hubB, R.HUB_MODE_MODE, 2), (ddrB 3 7, R.DDR_STATUS_STATE, 2), (ddrDieB 3, R.DDR_DIE_STATUS_MEM_OK, 1), (ddrDieB 3, R.DDR_DIE_CAP_GIB, 4), (ddrDieB 3, R.DDR_DIE_STATUS_INIT_DONE, 1), (ddrB 3 7, R.DDR_STATUS_MIGRATING, 1), (ddrB 3 7, R.DDR_MIG_FROM, 2), (ddrB 3 7, R.DDR_MIG_TO, 3), (ddrB 3 7, R.DDR_STATUS_IN_SERVICE, 7)] }

/-- A small state for the witnesses. -/
def sRingsAndTheHostSide0 : State :=
  { hub := { up := true, vf := true }, tick := 8000000000, ht := 8000000000, regs := regsOf [(hubB, R.HUB_MODE_MODE, 2), (ddrDieB 0, R.DDR_DIE_STATUS_MEM_OK, 1), (ddrDieB 0, R.DDR_DIE_CAP_GIB, 1), (ddrDieB 0, R.DDR_DIE_STATUS_INIT_DONE, 1), (tenB 256, R.SLUICE_TSEG0_V, 1), (tenB 256, R.SLUICE_TSEG0_R, 1), (tenB 256, R.SLUICE_TSEG0_W, 1), (tenB 256, R.SLUICE_TSEG1_LIMIT, 15), (ringB 256 3, R.SLUICE_SQ_HEAD_HEAD, 7)] }

/-- A small state for the witnesses. -/
def sRingsAndTheHostSide1 : State :=
  { hub := { up := true, vf := true }, tick := 8000000000, ht := 8000000000, regs := regsOf [(hubB, R.HUB_MODE_MODE, 2), (ddrDieB 0, R.DDR_DIE_STATUS_MEM_OK, 1), (ddrDieB 0, R.DDR_DIE_CAP_GIB, 1), (ddrDieB 0, R.DDR_DIE_STATUS_INIT_DONE, 1)] }

/-- A small state for the witnesses. -/
def sRingsAndTheHostSide3 : State :=
  { hub := { up := true, vf := true }, tick := 8000000000, ht := 8000000000, regs := regsOf [(hubB, R.HUB_MODE_MODE, 2), (ddrDieB 0, R.DDR_DIE_STATUS_MEM_OK, 1), (ddrDieB 0, R.DDR_DIE_CAP_GIB, 1), (ddrDieB 0, R.DDR_DIE_STATUS_INIT_DONE, 1), (ringB 0 15, R.SLUICE_RING_STATUS_RUN, 1)] }

/-- A small state for the witnesses. -/
def sRingsAndTheHostSide4 : State :=
  { hub := { up := true, vf := true }, tick := 8000000000, ht := 8000000000, regs := regsOf [(hubB, R.HUB_MODE_MODE, 2), (ddrDieB 0, R.DDR_DIE_STATUS_MEM_OK, 1), (ddrDieB 0, R.DDR_DIE_CAP_GIB, 1), (ddrDieB 0, R.DDR_DIE_STATUS_INIT_DONE, 1), (ringB 0 15, R.SLUICE_RING_CFG_SQ_LOG, 15)] }

/-- A small state for the witnesses. -/
def sRingsAndTheHostSide7 : State :=
  { hub := { up := true, vf := true }, tick := 8000000000, ht := 8000000000, regs := regsOf [(hubB, R.HUB_MODE_MODE, 2), (ddrDieB 0, R.DDR_DIE_STATUS_MEM_OK, 1), (ddrDieB 0, R.DDR_DIE_CAP_GIB, 1), (ddrDieB 0, R.DDR_DIE_STATUS_INIT_DONE, 1), (ringB 256 3, R.SLUICE_RING_STATUS_RUN, 1), (ringB 256 3, R.SLUICE_SQ_TAIL_TAIL, 1)] }

/-- A small state for the witnesses. -/
def sRingsAndTheHostSide8 : State :=
  { hub := { up := true, vf := true }, tick := 8000000000, ht := 8000000000, regs := regsOf [(hubB, R.HUB_MODE_MODE, 2), (ddrDieB 0, R.DDR_DIE_STATUS_MEM_OK, 1), (ddrDieB 0, R.DDR_DIE_CAP_GIB, 1), (ddrDieB 0, R.DDR_DIE_STATUS_INIT_DONE, 1), (ringB 0 15, R.SLUICE_RING_STATUS_RUN, 1), (ringB 0 15, R.SLUICE_SQ_TAIL_TAIL, 1)] }

/-- A small state for the witnesses. -/
def sRingsAndTheHostSide10 : State :=
  { hub := { up := true, vf := true }, tick := 8000000000, ht := 8000000000, regs := regsOf [(hubB, R.HUB_MODE_MODE, 2), (ddrDieB 0, R.DDR_DIE_STATUS_MEM_OK, 1), (ddrDieB 0, R.DDR_DIE_CAP_GIB, 1), (ddrDieB 0, R.DDR_DIE_STATUS_INIT_DONE, 1), (ringB 0 15, R.SLUICE_CQ_IRQ_TIME, 5), (ringB 0 15, R.SLUICE_RING_CFG_VEC, 2000)], rings := [(15, { unsig := 3 })] }

/-- A small state for the witnesses. -/
def sRingsAndTheHostSide11 : State :=
  { hub := { up := true, vf := true }, tick := 8000000000, ht := 8000000000, regs := regsOf [(hubB, R.HUB_MODE_MODE, 2), (ddrDieB 0, R.DDR_DIE_STATUS_MEM_OK, 1), (ddrDieB 0, R.DDR_DIE_CAP_GIB, 1), (ddrDieB 0, R.DDR_DIE_STATUS_INIT_DONE, 1), (tenB 256, R.SLUICE_TSEG0_V, 1), (tenB 256, R.SLUICE_TSEG0_R, 1), (tenB 256, R.SLUICE_TSEG0_W, 1), (tenB 256, R.SLUICE_TSEG1_LIMIT, 15)] }

/-- A small state for the witnesses. -/
def sRingsAndTheHostSide14 : State :=
  { hub := { up := true, vf := true }, tick := 8000000000, ht := 8000000000, regs := regsOf [(hubB, R.HUB_MODE_MODE, 2), (ddrDieB 0, R.DDR_DIE_STATUS_MEM_OK, 1), (ddrDieB 0, R.DDR_DIE_CAP_GIB, 1), (ddrDieB 0, R.DDR_DIE_STATUS_INIT_DONE, 1), (aptB 256, R.SLUICE_APT_LO_APT, 65535)] }

/-- A small state for the witnesses. -/
def sRingsAndTheHostSide17 : State :=
  { hub := { up := true, vf := true }, tick := 8000000000, ht := 8000000000, regs := regsOf [(hubB, R.HUB_MODE_MODE, 2), (ddrDieB 0, R.DDR_DIE_STATUS_MEM_OK, 1), (ddrDieB 0, R.DDR_DIE_CAP_GIB, 1), (ddrDieB 0, R.DDR_DIE_STATUS_INIT_DONE, 1)], dst := [(3, { traffic := List.replicate 16 9 })] }

/-- A small state for the witnesses. -/
def sRingsAndTheHostSide19 : State :=
  { hub := { up := true, vf := true }, tick := 8000000000, ht := 8000000000, regs := regsOf [(hubB, R.HUB_MODE_MODE, 2), (ddrDieB 0, R.DDR_DIE_STATUS_MEM_OK, 1), (ddrDieB 0, R.DDR_DIE_CAP_GIB, 1), (ddrDieB 0, R.DDR_DIE_STATUS_INIT_DONE, 1), (tenB 256, R.SLUICE_TSEG0_V, 1), (tenB 256, R.SLUICE_TSEG0_R, 1), (tenB 256, R.SLUICE_TSEG0_W, 1), (tenB 256, R.SLUICE_TSEG1_LIMIT, 15)], evr := [(256, { wr := 3 })] }

/-- A small state for the witnesses. -/
def sRingsAndTheHostSide20 : State :=
  { hub := { up := true, vf := true, replay := [{ stamp := 1, code := 0x10B, channel := 65535, arg := 0 }] }, tick := 8000000000, ht := 8000000000, regs := regsOf [(hubB, R.HUB_MODE_MODE, 2), (ddrDieB 0, R.DDR_DIE_STATUS_MEM_OK, 1), (ddrDieB 0, R.DDR_DIE_CAP_GIB, 1), (ddrDieB 0, R.DDR_DIE_STATUS_INIT_DONE, 1)] }

/-- A small state for the witnesses. -/
def sRingsAndTheHostSide23 : State :=
  { hub := { up := true, vf := true }, tick := 8000000000, ht := 8000000000, regs := regsOf [(hubB, R.HUB_MODE_MODE, 2), (ddrDieB 0, R.DDR_DIE_STATUS_MEM_OK, 1), (ddrDieB 0, R.DDR_DIE_CAP_GIB, 1), (ddrDieB 0, R.DDR_DIE_STATUS_INIT_DONE, 1), (ringB 256 3, R.SLUICE_RING_STATUS_RUN, 1)], cmds := [{ id := 1, fn := 256, ring := 3, tag := 0, op := 5, ch := 0, sub := 0 }], grants := [{ tenant := 256, g := 0, channel := 191, layers := 1, seq := true }], seqs := [(191, { owner := 256 })] }

/-- A small state for the witnesses. -/
def sRingsAndTheHostSide25 : State :=
  { hub := { up := true, vf := true }, tick := 8000000000, ht := 8000000000, regs := regsOf [(hubB, R.HUB_MODE_MODE, 2), (ddrDieB 0, R.DDR_DIE_STATUS_MEM_OK, 1), (ddrDieB 0, R.DDR_DIE_CAP_GIB, 1), (ddrDieB 0, R.DDR_DIE_STATUS_INIT_DONE, 1)], cmds := [{ id := 1, fn := 256, ring := 3, tag := 0, op := 5, ch := 0, sub := 0 }] }

/-- A small state for the witnesses. -/
def sRingCommands0 : State :=
  { hub := { up := true, vf := true }, tick := 8000000000, ht := 8000000000, regs := regsOf [(hubB, R.HUB_MODE_MODE, 2), (ddrDieB 0, R.DDR_DIE_STATUS_MEM_OK, 1), (ddrDieB 0, R.DDR_DIE_CAP_GIB, 1), (ddrDieB 0, R.DDR_DIE_STATUS_INIT_DONE, 1), (ringB 0 15, R.SLUICE_RING_STATUS_RUN, 1), (ringB 0 15, R.SLUICE_SQ_TAIL_TAIL, 1), (ringB 0 15, R.SLUICE_CQ_BASE_LO_BASE, 128)], mem := [(2, 52), (3, 18)] }

/-- A small state for the witnesses. -/
def sRingCommands0b : State :=
  { hub := { up := true, vf := true }, tick := 8000000000, ht := 8000000000, regs := regsOf [(hubB, R.HUB_MODE_MODE, 2), (ddrDieB 0, R.DDR_DIE_STATUS_MEM_OK, 1), (ddrDieB 0, R.DDR_DIE_CAP_GIB, 1), (ddrDieB 0, R.DDR_DIE_STATUS_INIT_DONE, 1), (ringB 0 15, R.SLUICE_RING_STATUS_RUN, 1), (ringB 0 15, R.SLUICE_SQ_TAIL_TAIL, 1), (ringB 0 15, R.SLUICE_CQ_BASE_LO_BASE, 128), (ringB 0 15, R.SLUICE_CQ_TAIL_TAIL, 63), (ringB 0 15, R.SLUICE_CQ_HEAD_HEAD, 9), (ringB 0 15, R.SLUICE_CQ_TAIL_PHASE, 1)], mem := [(2, 52), (3, 18)] }

/-- A small state for the witnesses. -/
def sRingCommands1 : State :=
  { hub := { up := true, vf := true }, tick := 8000000000, ht := 8000000000, regs := regsOf [(hubB, R.HUB_MODE_MODE, 2), (ddrDieB 0, R.DDR_DIE_STATUS_MEM_OK, 1), (ddrDieB 0, R.DDR_DIE_CAP_GIB, 1), (ddrDieB 0, R.DDR_DIE_STATUS_INIT_DONE, 1), (ringB 0 15, R.SLUICE_RING_STATUS_RUN, 1), (ringB 0 15, R.SLUICE_SQ_TAIL_TAIL, 1), (ringB 0 15, R.SLUICE_CQ_BASE_LO_BASE, 128)], mem := [(0, 63), (2, 52), (3, 18)] }

/-- A small state for the witnesses. -/
def sRingCommands2 : State :=
  { hub := { up := true, vf := true }, regs := regsOf [(hubB, R.HUB_MODE_MODE, 2), (ringB 256 3, R.SLUICE_RING_STATUS_RUN, 1), (ringB 256 3, R.SLUICE_SQ_TAIL_TAIL, 1)] }

/-- A small state for the witnesses. -/
def sRingCommands4 : State :=
  { hub := { up := true, vf := true }, tick := 8000000000, ht := 8000000000, regs := regsOf [(hubB, R.HUB_MODE_MODE, 2), (ddrDieB 0, R.DDR_DIE_STATUS_MEM_OK, 1), (ddrDieB 0, R.DDR_DIE_CAP_GIB, 1), (ddrDieB 0, R.DDR_DIE_STATUS_INIT_DONE, 1), (ringB 0 15, R.SLUICE_RING_STATUS_RUN, 1), (ringB 0 15, R.SLUICE_SQ_TAIL_TAIL, 1), (ringB 0 15, R.SLUICE_CQ_BASE_LO_BASE, 128)], mem := [(0, 1), (2, 52), (3, 18), (8, 255), (9, 3), (18, 1), (32, 1), (34, 1), (36, 1)] }

/-- A small state for the witnesses. -/
def sRingCommands5 : State :=
  { hub := { up := true, vf := true }, tick := 8000000000, ht := 8000000000, regs := regsOf [(hubB, R.HUB_MODE_MODE, 2), (ddrDieB 0, R.DDR_DIE_STATUS_MEM_OK, 1), (ddrDieB 0, R.DDR_DIE_CAP_GIB, 1), (ddrDieB 0, R.DDR_DIE_STATUS_INIT_DONE, 1), (ringB 0 15, R.SLUICE_RING_STATUS_RUN, 1), (ringB 0 15, R.SLUICE_SQ_TAIL_TAIL, 1), (ringB 0 15, R.SLUICE_CQ_BASE_LO_BASE, 128)], mem := [(0, 1), (2, 52), (3, 18), (9, 4), (18, 1), (32, 1), (34, 1), (36, 1)] }

/-- A small state for the witnesses. -/
def sRingCommands6 : State :=
  { hub := { up := true, vf := true }, tick := 8000000000, ht := 8000000000, regs := regsOf [(hubB, R.HUB_MODE_MODE, 2), (ddrDieB 0, R.DDR_DIE_STATUS_MEM_OK, 1), (ddrDieB 0, R.DDR_DIE_CAP_GIB, 1), (ddrDieB 0, R.DDR_DIE_STATUS_INIT_DONE, 1), (ringB 0 15, R.SLUICE_RING_STATUS_RUN, 1), (ringB 0 15, R.SLUICE_SQ_TAIL_TAIL, 1), (ringB 0 15, R.SLUICE_CQ_BASE_LO_BASE, 128)], mem := [(0, 2), (2, 52), (3, 18), (8, 255), (9, 3)], surfs := [(1023, { base := 256, w := 1, h := 1 })] }

/-- A small state for the witnesses. -/
def sRingCommands7 : State :=
  { hub := { up := true, vf := true }, tick := 8000000000, ht := 8000000000, regs := regsOf [(hubB, R.HUB_MODE_MODE, 2), (ddrDieB 0, R.DDR_DIE_STATUS_MEM_OK, 1), (ddrDieB 0, R.DDR_DIE_CAP_GIB, 1), (ddrDieB 0, R.DDR_DIE_STATUS_INIT_DONE, 1), (ringB 0 15, R.SLUICE_RING_STATUS_RUN, 1), (ringB 0 15, R.SLUICE_SQ_TAIL_TAIL, 1), (ringB 0 15, R.SLUICE_CQ_BASE_LO_BASE, 128)], mem := [(0, 2), (2, 52), (3, 18), (9, 4)] }

/-- A small state for the witnesses. -/
def sRingCommands8 : State :=
  { hub := { up := true, vf := true }, tick := 8000000000, ht := 8000000000, regs := regsOf [(hubB, R.HUB_MODE_MODE, 2), (ddrDieB 0, R.DDR_DIE_STATUS_MEM_OK, 1), (ddrDieB 0, R.DDR_DIE_CAP_GIB, 1), (ddrDieB 0, R.DDR_DIE_STATUS_INIT_DONE, 1), (ringB 0 15, R.SLUICE_RING_STATUS_RUN, 1), (ringB 0 15, R.SLUICE_SQ_TAIL_TAIL, 1), (ringB 0 15, R.SLUICE_CQ_BASE_LO_BASE, 128)], mem := [(0, 3), (2, 52), (3, 18), (4, 191), (6, 7), (12, 5), (30, 1), (34, 1)] }

/-- A small state for the witnesses. -/
def sRingCommands9 : State :=
  { hub := { up := true, vf := true }, tick := 8000000000, ht := 8000000000, regs := regsOf [(hubB, R.HUB_MODE_MODE, 2), (ddrDieB 0, R.DDR_DIE_STATUS_MEM_OK, 1), (ddrDieB 0, R.DDR_DIE_CAP_GIB, 1), (ddrDieB 0, R.DDR_DIE_STATUS_INIT_DONE, 1), (ringB 0 15, R.SLUICE_RING_STATUS_RUN, 1), (ringB 0 15, R.SLUICE_SQ_TAIL_TAIL, 1), (ringB 0 15, R.SLUICE_CQ_BASE_LO_BASE, 128)], mem := [(0, 3), (2, 52), (3, 18), (4, 191), (6, 9)] }

/-- A small state for the witnesses. -/
def sRingCommands10 : State :=
  { hub := { up := true, vf := true }, tick := 8000000000, ht := 8000000000, regs := regsOf [(hubB, R.HUB_MODE_MODE, 2), (ddrDieB 0, R.DDR_DIE_STATUS_MEM_OK, 1), (ddrDieB 0, R.DDR_DIE_CAP_GIB, 1), (ddrDieB 0, R.DDR_DIE_STATUS_INIT_DONE, 1), (ringB 0 15, R.SLUICE_RING_STATUS_RUN, 1), (ringB 0 15, R.SLUICE_SQ_TAIL_TAIL, 1), (ringB 0 15, R.SLUICE_CQ_BASE_LO_BASE, 128), (chB 191, R.CH_STATUS_STATE, 2), (ddrDieB 3, R.DDR_DIE_STATUS_MEM_OK, 1), (ddrDieB 3, R.DDR_DIE_CAP_GIB, 1)], mem := [(0, 4), (2, 52), (3, 18), (4, 191), (8, 57), (9, 48)], eff := regsOf [(chB 191, R.PLANE_POOL_BASE_HI_BASE, 6144)] }

/-- A small state for the witnesses. -/
def sRingCommands11 : State :=
  { hub := { up := true, vf := true }, tick := 8000000000, ht := 8000000000, regs := regsOf [(hubB, R.HUB_MODE_MODE, 2), (ddrDieB 0, R.DDR_DIE_STATUS_MEM_OK, 1), (ddrDieB 0, R.DDR_DIE_CAP_GIB, 1), (ddrDieB 0, R.DDR_DIE_STATUS_INIT_DONE, 1), (ringB 0 15, R.SLUICE_RING_STATUS_RUN, 1), (ringB 0 15, R.SLUICE_SQ_TAIL_TAIL, 1), (ringB 0 15, R.SLUICE_CQ_BASE_LO_BASE, 128), (ddrDieB 3, R.DDR_DIE_STATUS_MEM_OK, 1), (ddrDieB 3, R.DDR_DIE_CAP_GIB, 1)], mem := [(0, 4), (2, 52), (3, 18), (4, 191), (8, 57), (9, 48)], eff := regsOf [(chB 191, R.PLANE_POOL_BASE_HI_BASE, 6144)] }

/-- A small state for the witnesses. -/
def sRingCommands12 : State :=
  { hub := { up := true, vf := true }, tick := 8000000000, ht := 8000000000, regs := regsOf [(hubB, R.HUB_MODE_MODE, 2), (ddrDieB 0, R.DDR_DIE_STATUS_MEM_OK, 1), (ddrDieB 0, R.DDR_DIE_CAP_GIB, 1), (ddrDieB 0, R.DDR_DIE_STATUS_INIT_DONE, 1), (ringB 0 15, R.SLUICE_RING_STATUS_RUN, 1), (ringB 0 15, R.SLUICE_SQ_TAIL_TAIL, 1), (ringB 0 15, R.SLUICE_CQ_BASE_LO_BASE, 128), (compB 191 7, R.COMP_LBLEND_MODE, 2)], mem := [(0, 4), (2, 52), (3, 18), (4, 191), (8, 57), (9, 48)] }

/-- A small state for the witnesses. -/
def sRingCommands13 : State :=
  { hub := { up := true, vf := true }, tick := 8000000000, ht := 8000000000, regs := regsOf [(hubB, R.HUB_MODE_MODE, 2), (ddrDieB 0, R.DDR_DIE_STATUS_MEM_OK, 1), (ddrDieB 0, R.DDR_DIE_CAP_GIB, 1), (ddrDieB 0, R.DDR_DIE_STATUS_INIT_DONE, 1), (ringB 0 15, R.SLUICE_RING_STATUS_RUN, 1), (ringB 0 15, R.SLUICE_SQ_TAIL_TAIL, 1), (ringB 0 15, R.SLUICE_CQ_BASE_LO_BASE, 128), (chB 191, R.CH_STATUS_STATE, 2), (ddrDieB 3, R.DDR_DIE_STATUS_MEM_OK, 1), (ddrDieB 3, R.DDR_DIE_CAP_GIB, 1)], mem := [(0, 66), (2, 52), (3, 18), (4, 191)], eff := regsOf [(chB 191, R.PLANE_POOL_BASE_HI_BASE, 6144)] }

/-- A small state for the witnesses. -/
def sRingCommands14 : State :=
  { hub := { up := true, vf := true }, tick := 8000000000, ht := 8000000000, regs := regsOf [(hubB, R.HUB_MODE_MODE, 2), (ddrDieB 0, R.DDR_DIE_STATUS_MEM_OK, 1), (ddrDieB 0, R.DDR_DIE_CAP_GIB, 1), (ddrDieB 0, R.DDR_DIE_STATUS_INIT_DONE, 1), (ringB 0 15, R.SLUICE_RING_STATUS_RUN, 1), (ringB 0 15, R.SLUICE_SQ_TAIL_TAIL, 1), (ringB 0 15, R.SLUICE_CQ_BASE_LO_BASE, 128)], mem := [(0, 5), (2, 52), (3, 18), (9, 16), (16, 7), (24, 9)] }

/-- A small state for the witnesses. -/
def sRingCommands15 : State :=
  { hub := { up := true, vf := true }, tick := 8000000000, ht := 8000000000, regs := regsOf [(hubB, R.HUB_MODE_MODE, 2), (ddrDieB 0, R.DDR_DIE_STATUS_MEM_OK, 1), (ddrDieB 0, R.DDR_DIE_CAP_GIB, 1), (ddrDieB 0, R.DDR_DIE_STATUS_INIT_DONE, 1), (ringB 0 15, R.SLUICE_RING_STATUS_RUN, 1), (ringB 0 15, R.SLUICE_SQ_TAIL_TAIL, 1), (ringB 0 15, R.SLUICE_CQ_BASE_LO_BASE, 128)], mem := [(0, 5), (2, 52), (3, 18), (8, 4), (9, 16)] }

/-- A small state for the witnesses. -/
def sRingCommands16 : State :=
  { hub := { up := true, vf := true }, tick := 8000000000, ht := 8000000000, regs := regsOf [(hubB, R.HUB_MODE_MODE, 2), (ddrDieB 0, R.DDR_DIE_STATUS_MEM_OK, 1), (ddrDieB 0, R.DDR_DIE_CAP_GIB, 1), (ddrDieB 0, R.DDR_DIE_STATUS_INIT_DONE, 1), (ringB 0 15, R.SLUICE_RING_STATUS_RUN, 1), (ringB 0 15, R.SLUICE_SQ_TAIL_TAIL, 1), (ringB 0 15, R.SLUICE_CQ_BASE_LO_BASE, 128)], mem := [(0, 5), (2, 52), (3, 18)], cmds := [{ id := 1, fn := 0, ring := 15, tag := 0, op := 5, ch := 0, sub := 0, args := [0, 5, 9] }] }

/-- A small state for the witnesses. -/
def sRingCommands17 : State :=
  { hub := { up := true, vf := true }, tick := 8000000000, ht := 8000000000, regs := regsOf [(hubB, R.HUB_MODE_MODE, 2), (ddrDieB 0, R.DDR_DIE_STATUS_MEM_OK, 1), (ddrDieB 0, R.DDR_DIE_CAP_GIB, 1), (ddrDieB 0, R.DDR_DIE_STATUS_INIT_DONE, 1), (ringB 0 15, R.SLUICE_RING_STATUS_RUN, 1), (ringB 0 15, R.SLUICE_SQ_TAIL_TAIL, 1), (ringB 0 15, R.SLUICE_CQ_BASE_LO_BASE, 128)], mem := [], cmds := [{ id := 1, fn := 0, ring := 15, tag := 0, op := 5, ch := 0, sub := 0, args := [0, 5, 9] }] }

/-- A small state for the witnesses. -/
def sRingCommands19 : State :=
  { hub := { up := true, vf := true }, tick := 8000000000, ht := 8000000000, regs := regsOf [(hubB, R.HUB_MODE_MODE, 2), (ddrDieB 0, R.DDR_DIE_STATUS_MEM_OK, 1), (ddrDieB 0, R.DDR_DIE_CAP_GIB, 1), (ddrDieB 0, R.DDR_DIE_STATUS_INIT_DONE, 1), (ringB 0 15, R.SLUICE_RING_STATUS_RUN, 1), (ringB 0 15, R.SLUICE_SQ_TAIL_TAIL, 1), (ringB 0 15, R.SLUICE_CQ_BASE_LO_BASE, 128)], mem := [(0, 6), (2, 52), (3, 18), (4, 191), (9, 32), (16, 36), (8192, 86), (8193, 73), (8194, 76), (8195, 84), (8196, 1), (8197, 1), (8198, 1), (8202, 255), (8203, 255), (8204, 255), (8205, 255), (8208, 5), (8209, 27), (8210, 41), (8211, 38), (8227, 4)] }

/-- A small state for the witnesses. -/
def sRingCommands20 : State :=
  { hub := { up := true, vf := true }, tick := 8000000000, ht := 8000000000, regs := regsOf [(hubB, R.HUB_MODE_MODE, 2), (ddrDieB 0, R.DDR_DIE_STATUS_MEM_OK, 1), (ddrDieB 0, R.DDR_DIE_CAP_GIB, 1), (ddrDieB 0, R.DDR_DIE_STATUS_INIT_DONE, 1), (ringB 0 15, R.SLUICE_RING_STATUS_RUN, 1), (ringB 0 15, R.SLUICE_SQ_TAIL_TAIL, 1), (ringB 0 15, R.SLUICE_CQ_BASE_LO_BASE, 128)], mem := [(0, 6), (2, 52), (3, 18), (4, 191), (9, 32), (16, 35)] }

/-- A small state for the witnesses. -/
def sRingCommands21 : State :=
  { hub := { up := true, vf := true }, tick := 8000000000, ht := 8000000000, regs := regsOf [(hubB, R.HUB_MODE_MODE, 2), (ddrDieB 0, R.DDR_DIE_STATUS_MEM_OK, 1), (ddrDieB 0, R.DDR_DIE_CAP_GIB, 1), (ddrDieB 0, R.DDR_DIE_STATUS_INIT_DONE, 1), (ringB 0 15, R.SLUICE_RING_STATUS_RUN, 1), (ringB 0 15, R.SLUICE_SQ_TAIL_TAIL, 1), (ringB 0 15, R.SLUICE_CQ_BASE_LO_BASE, 128)], mem := [(0, 6), (1, 1), (2, 52), (3, 18), (9, 32), (16, 40), (21, 6), (8192, 86), (8193, 73), (8194, 76), (8195, 84), (8196, 2), (8197, 1), (8198, 1), (8206, 1), (8208, 223), (8209, 204), (8210, 71), (8211, 29), (8227, 4), (8230, 128), (8231, 63)] }

/-- A small state for the witnesses. -/
def sRingCommands22 : State :=
  { hub := { up := true, vf := true }, tick := 8000000000, ht := 8000000000, regs := regsOf [(hubB, R.HUB_MODE_MODE, 2), (ddrDieB 0, R.DDR_DIE_STATUS_MEM_OK, 1), (ddrDieB 0, R.DDR_DIE_CAP_GIB, 1), (ddrDieB 0, R.DDR_DIE_STATUS_INIT_DONE, 1), (ringB 0 15, R.SLUICE_RING_STATUS_RUN, 1), (ringB 0 15, R.SLUICE_SQ_TAIL_TAIL, 1), (ringB 0 15, R.SLUICE_CQ_BASE_LO_BASE, 128)], mem := [(0, 6), (1, 1), (2, 52), (3, 18), (24, 5)] }

/-- A small state for the witnesses. -/
def sRingCommands22b : State :=
  { hub := { up := true, vf := true }, tick := 8000000000, ht := 8000000000, regs := regsOf [(hubB, R.HUB_MODE_MODE, 2), (ddrDieB 0, R.DDR_DIE_STATUS_MEM_OK, 1), (ddrDieB 0, R.DDR_DIE_CAP_GIB, 1), (ddrDieB 0, R.DDR_DIE_STATUS_INIT_DONE, 1), (ringB 0 15, R.SLUICE_RING_STATUS_RUN, 1), (ringB 0 15, R.SLUICE_SQ_TAIL_TAIL, 1), (ringB 0 15, R.SLUICE_CQ_BASE_LO_BASE, 128)], mem := [(0, 6), (1, 1), (2, 52), (3, 18)] }

/-- A small state for the witnesses. -/
def sRingCommands23 : State :=
  { hub := { up := true, vf := true }, tick := 8000000000, ht := 8000000000, regs := regsOf [(hubB, R.HUB_MODE_MODE, 2), (ddrDieB 0, R.DDR_DIE_STATUS_MEM_OK, 1), (ddrDieB 0, R.DDR_DIE_CAP_GIB, 1), (ddrDieB 0, R.DDR_DIE_STATUS_INIT_DONE, 1), (ringB 0 15, R.SLUICE_RING_STATUS_RUN, 1), (ringB 0 15, R.SLUICE_SQ_TAIL_TAIL, 1), (ringB 0 15, R.SLUICE_CQ_BASE_LO_BASE, 128), (chB 191, R.CH_STATUS_STATE, 2), (chB 191, R.SEQ_STATUS_VERIFIED1, 1)], mem := [(0, 7), (2, 52), (3, 18), (4, 191), (8, 77)] }

/-- A small state for the witnesses. -/
def sRingCommands24 : State :=
  { hub := { up := true, vf := true }, tick := 8000000000, ht := 8000000000, regs := regsOf [(hubB, R.HUB_MODE_MODE, 2), (ddrDieB 0, R.DDR_DIE_STATUS_MEM_OK, 1), (ddrDieB 0, R.DDR_DIE_CAP_GIB, 1), (ddrDieB 0, R.DDR_DIE_STATUS_INIT_DONE, 1), (ringB 0 15, R.SLUICE_RING_STATUS_RUN, 1), (ringB 0 15, R.SLUICE_SQ_TAIL_TAIL, 1), (ringB 0 15, R.SLUICE_CQ_BASE_LO_BASE, 128), (chB 191, R.SEQ_STATUS_VERIFIED1, 1)], mem := [(0, 7), (2, 52), (3, 18), (4, 191), (8, 77)] }

/-- A small state for the witnesses. -/
def sRingCommands25 : State :=
  { hub := { up := true, vf := true }, tick := 8000000000, ht := 8000000000, regs := regsOf [(hubB, R.HUB_MODE_MODE, 2), (ddrDieB 0, R.DDR_DIE_STATUS_MEM_OK, 1), (ddrDieB 0, R.DDR_DIE_CAP_GIB, 1), (ddrDieB 0, R.DDR_DIE_STATUS_INIT_DONE, 1), (ringB 0 15, R.SLUICE_RING_STATUS_RUN, 1), (ringB 0 15, R.SLUICE_SQ_TAIL_TAIL, 1), (ringB 0 15, R.SLUICE_CQ_BASE_LO_BASE, 128)], mem := [(0, 7), (2, 52), (3, 18), (4, 191), (8, 77)] }

/-- A small state for the witnesses. -/
def sRingCommands26 : State :=
  { hub := { up := true, vf := true }, tick := 8000000000, ht := 8000000000, regs := regsOf [(hubB, R.HUB_MODE_MODE, 2), (ddrDieB 0, R.DDR_DIE_STATUS_MEM_OK, 1), (ddrDieB 0, R.DDR_DIE_CAP_GIB, 1), (ddrDieB 0, R.DDR_DIE_STATUS_INIT_DONE, 1), (ringB 0 15, R.SLUICE_RING_STATUS_RUN, 1), (ringB 0 15, R.SLUICE_SQ_TAIL_TAIL, 1), (ringB 0 15, R.SLUICE_CQ_BASE_LO_BASE, 128)], mem := [(0, 8), (2, 52), (3, 18), (4, 191), (6, 3), (16, 1), (17, 16), (18, 1)] }

/-- A small state for the witnesses. -/
def sRingCommands27 : State :=
  { hub := { up := true, vf := true }, tick := 8000000000, ht := 8000000000, regs := regsOf [(hubB, R.HUB_MODE_MODE, 2), (ddrDieB 0, R.DDR_DIE_STATUS_MEM_OK, 1), (ddrDieB 0, R.DDR_DIE_CAP_GIB, 1), (ddrDieB 0, R.DDR_DIE_STATUS_INIT_DONE, 1), (ringB 0 15, R.SLUICE_RING_STATUS_RUN, 1), (ringB 0 15, R.SLUICE_SQ_TAIL_TAIL, 1), (ringB 0 15, R.SLUICE_CQ_BASE_LO_BASE, 128)], mem := [(0, 8), (2, 52), (3, 18), (4, 191), (6, 3), (9, 32), (16, 2), (18, 255), (24, 9), (8192, 5), (8196, 6)], surfs := [(5, { base := 256, w := 1, h := 1 }), (6, { base := 256, w := 1, h := 1 })] }

/-- A small state for the witnesses. -/
def sRingCommands28 : State :=
  { hub := { up := true, vf := true }, tick := 8000000000, ht := 8000000000, regs := regsOf [(hubB, R.HUB_MODE_MODE, 2), (ddrDieB 0, R.DDR_DIE_STATUS_MEM_OK, 1), (ddrDieB 0, R.DDR_DIE_CAP_GIB, 1), (ddrDieB 0, R.DDR_DIE_STATUS_INIT_DONE, 1), (ringB 0 15, R.SLUICE_RING_STATUS_RUN, 1), (ringB 0 15, R.SLUICE_SQ_TAIL_TAIL, 1), (ringB 0 15, R.SLUICE_CQ_BASE_LO_BASE, 128)], mem := [(0, 9), (2, 52), (3, 18), (4, 191), (6, 3), (8, 9)] }

/-- A small state for the witnesses. -/
def sRingCommands29 : State :=
  { hub := { up := true, vf := true }, tick := 8000000000, ht := 8000000000, regs := regsOf [(hubB, R.HUB_MODE_MODE, 2), (ddrDieB 0, R.DDR_DIE_STATUS_MEM_OK, 1), (ddrDieB 0, R.DDR_DIE_CAP_GIB, 1), (ddrDieB 0, R.DDR_DIE_STATUS_INIT_DONE, 1), (ringB 0 15, R.SLUICE_RING_STATUS_RUN, 1), (ringB 0 15, R.SLUICE_SQ_TAIL_TAIL, 1), (ringB 0 15, R.SLUICE_CQ_BASE_LO_BASE, 128)], mem := [(0, 9), (2, 52), (3, 18), (4, 191), (6, 3), (8, 9)], chs := [(191, { clips := [{ layer := 3 }, { layer := 4 }] })] }

/-- A small state for the witnesses. -/
def sRingCommands30 : State :=
  { hub := { up := true, vf := true }, tick := 8000000000, ht := 8000000000, regs := regsOf [(hubB, R.HUB_MODE_MODE, 2), (ddrDieB 0, R.DDR_DIE_STATUS_MEM_OK, 1), (ddrDieB 0, R.DDR_DIE_CAP_GIB, 1), (ddrDieB 0, R.DDR_DIE_STATUS_INIT_DONE, 1), (ringB 0 15, R.SLUICE_RING_STATUS_RUN, 1), (ringB 0 15, R.SLUICE_SQ_TAIL_TAIL, 1), (ringB 0 15, R.SLUICE_CQ_BASE_LO_BASE, 128), (ringB 256 3, R.SLUICE_RING_STATUS_RUN, 1), (ringB 256 3, R.SLUICE_SQ_TAIL_TAIL, 1), (ringB 256 3, R.SLUICE_CQ_BASE_LO_BASE, 384), (tenB 256, R.SLUICE_TSEG0_V, 1), (tenB 256, R.SLUICE_TSEG0_R, 1), (tenB 256, R.SLUICE_TSEG0_W, 1), (tenB 256, R.SLUICE_TSEG1_LIMIT, 15)], mem := [(0, 10), (2, 52), (3, 18), (6, 15), (9, 16)], grants := [{ tenant := 256, g := 15, channel := 191, layers := 3, seq := true }] }

/-- A small state for the witnesses. -/
def sRingCommands31 : State :=
  { hub := { up := true, vf := true }, tick := 8000000000, ht := 8000000000, regs := regsOf [(hubB, R.HUB_MODE_MODE, 2), (ddrDieB 0, R.DDR_DIE_STATUS_MEM_OK, 1), (ddrDieB 0, R.DDR_DIE_CAP_GIB, 1), (ddrDieB 0, R.DDR_DIE_STATUS_INIT_DONE, 1), (ringB 0 15, R.SLUICE_RING_STATUS_RUN, 1), (ringB 0 15, R.SLUICE_SQ_TAIL_TAIL, 1), (ringB 0 15, R.SLUICE_CQ_BASE_LO_BASE, 128)], mem := [(0, 10), (2, 52), (3, 18), (9, 16)] }

/-- A small state for the witnesses. -/
def sRingCommands32 : State :=
  { hub := { up := true, vf := true }, tick := 8000000000, ht := 8000000000, regs := regsOf [(hubB, R.HUB_MODE_MODE, 2), (ddrDieB 0, R.DDR_DIE_STATUS_MEM_OK, 1), (ddrDieB 0, R.DDR_DIE_CAP_GIB, 1), (ddrDieB 0, R.DDR_DIE_STATUS_INIT_DONE, 1), (ringB 0 15, R.SLUICE_RING_STATUS_RUN, 1), (ringB 0 15, R.SLUICE_SQ_TAIL_TAIL, 1), (ringB 0 15, R.SLUICE_CQ_BASE_LO_BASE, 128)], mem := [(0, 64), (2, 52), (3, 18), (4, 191), (8, 1), (9, 1)] }

/-- A small state for the witnesses. -/
def sRingCommands33 : State :=
  { hub := { up := true, vf := true }, tick := 8000000000, ht := 8000000000, regs := regsOf [(hubB, R.HUB_MODE_MODE, 2), (ddrDieB 0, R.DDR_DIE_STATUS_MEM_OK, 1), (ddrDieB 0, R.DDR_DIE_CAP_GIB, 1), (ddrDieB 0, R.DDR_DIE_STATUS_INIT_DONE, 1), (ringB 0 15, R.SLUICE_RING_STATUS_RUN, 1), (ringB 0 15, R.SLUICE_SQ_TAIL_TAIL, 1), (ringB 0 15, R.SLUICE_CQ_BASE_LO_BASE, 128)], mem := [(0, 64), (2, 52), (3, 18), (4, 191), (9, 1), (10, 15), (11, 255), (12, 5)] }

/-- A small state for the witnesses. -/
def sRingCommands34 : State :=
  { hub := { up := true, vf := true }, tick := 8000000000, ht := 8000000000, regs := regsOf [(hubB, R.HUB_MODE_MODE, 2), (ddrDieB 0, R.DDR_DIE_STATUS_MEM_OK, 1), (ddrDieB 0, R.DDR_DIE_CAP_GIB, 1), (ddrDieB 0, R.DDR_DIE_STATUS_INIT_DONE, 1), (ringB 0 15, R.SLUICE_RING_STATUS_RUN, 1), (ringB 0 15, R.SLUICE_SQ_TAIL_TAIL, 1), (ringB 0 15, R.SLUICE_CQ_BASE_LO_BASE, 128), (chB 191, R.CH_STATUS_STATE, 2)], mem := [(0, 65), (2, 52), (3, 18), (4, 191), (9, 1), (10, 15)], grants := [{ tenant := 256, g := 15, channel := 191, layers := 3, seq := true }], seqs := [(191, { owner := 256 })] }

/-- A small state for the witnesses. -/
def sRingCommands35 : State :=
  { hub := { up := true, vf := true }, tick := 8000000000, ht := 8000000000, regs := regsOf [(hubB, R.HUB_MODE_MODE, 2), (ddrDieB 0, R.DDR_DIE_STATUS_MEM_OK, 1), (ddrDieB 0, R.DDR_DIE_CAP_GIB, 1), (ddrDieB 0, R.DDR_DIE_STATUS_INIT_DONE, 1), (ringB 0 15, R.SLUICE_RING_STATUS_RUN, 1), (ringB 0 15, R.SLUICE_SQ_TAIL_TAIL, 1), (ringB 0 15, R.SLUICE_CQ_BASE_LO_BASE, 128)], mem := [(0, 65), (2, 52), (3, 18), (4, 191), (9, 1), (10, 15)] }

/-- A small state for the witnesses. -/
def sModulesLocksAndDies0 : State :=
  { hub := { up := true }, tick := 8000000000, ht := 8000000000, regs := regsOf [(hubB, R.HUB_MODE_MODE, 2), (d2dB 3, R.HUB_D2D_STATUS_MOD0, 2)] }

/-- A small state for the witnesses. -/
def sModulesLocksAndDies1 : State :=
  { hub := { up := true }, tick := 8000000000, ht := 8000000000, regs := regsOf [(hubB, R.HUB_MODE_MODE, 2), (d2dB 3, R.HUB_D2D_STATUS_MOD1, 2)] }

/-- A small state for the witnesses. -/
def sModulesLocksAndDies2 : State :=
  { hub := { up := true }, tick := 8000000000, ht := 8000000000, regs := regsOf [(hubB, R.HUB_MODE_MODE, 2), (d2dB 3, R.HUB_D2D_STATUS_MOD1, 2)], d2ds := [(7, { errs := [(135, List.replicate 17 8000000000)] })] }

/-- A small state for the witnesses. -/
def sModulesLocksAndDies3 : State :=
  { hub := { up := true }, tick := 8000000000, ht := 8000000000, regs := regsOf [(hubB, R.HUB_MODE_MODE, 2), (d2dB 3, R.HUB_D2D_STATUS_MOD1, 2)], d2ds := [(7, { errs := [(135, List.replicate 16 8000000000)] })] }

/-- A small state for the witnesses. -/
def sModulesLocksAndDies5 : State :=
  { hub := { up := true }, tick := 8000000000, ht := 8000000000, regs := regsOf [(hubB, R.HUB_MODE_MODE, 2), (d2dB 3, R.HUB_D2D_STATUS_MOD1, 3), (d2dB 3, R.HUB_D2D_STATUS_MOD1_TX_SPARES, 4), (d2dB 3, R.HUB_D2D_STATUS_MOD1_RX_SPARES, 2)] }

/-- A small state for the witnesses. -/
def sModulesLocksAndDies6 : State :=
  { hub := { up := true }, tick := 8000000000, ht := 8000000000, regs := regsOf [(hubB, R.HUB_MODE_MODE, 2), (d2dB 3, R.HUB_D2D_STATUS_MOD1, 3), (d2dB 3, R.HUB_D2D_STATUS_MOD0, 2)] }

/-- A small state for the witnesses. -/
def sModulesLocksAndDies7 : State :=
  { hub := { up := true }, tick := 8000000000, ht := 8000000000, regs := regsOf [(hubB, R.HUB_MODE_MODE, 2), (d2dB 3, R.HUB_D2D_STATUS_MOD1, 3), (dieB 3, R.HUB_DIE_STATUS_IN_RESET, 0)] }

/-- A small state for the witnesses. -/
def sModulesLocksAndDies8 : State :=
  { hub := { up := true }, tick := 8000000000, ht := 8000000000, regs := regsOf [(hubB, R.HUB_MODE_MODE, 2), (d2dB 3, R.HUB_D2D_STATUS_MOD1, 0)], d2ds := [(7, { downAt := 5 })] }

/-- A small state for the witnesses. -/
def sModulesLocksAndDies9 : State :=
  { hub := { up := true }, tick := 8000000000, ht := 8000000000, regs := regsOf [(hubB, R.HUB_MODE_MODE, 2)], crosses := [(319, { since := 5 })] }

/-- A small state for the witnesses. -/
def sModulesLocksAndDies11 : State :=
  { hub := { up := true }, tick := 8000000000, ht := 8000000000, regs := regsOf [(hubB, R.HUB_MODE_MODE, 2), (lockB 255, R.LOCK_LEASE_MS, 5)] }

/-- A small state for the witnesses. -/
def sModulesLocksAndDies12 : State :=
  { hub := { up := true }, tick := 8000000000, ht := 8000000000, regs := regsOf [(hubB, R.HUB_MODE_MODE, 2), (lockB 255, R.LOCK_STAT_OWNER, 512), (lockB 255, R.LOCK_LEASE_MS, 5)] }

/-- A small state for the witnesses. -/
def sModulesLocksAndDies13 : State :=
  { hub := { up := true }, tick := 8000000000, ht := 8000000000, regs := regsOf [(hubB, R.HUB_MODE_MODE, 2), (lockB 255, R.LOCK_STAT_OWNER, 512), (lockB 255, R.LOCK_LEASE_MS, 5)], lockAt := [(255, (8000000001, 5))] }

/-- A small state for the witnesses. -/
def sModulesLocksAndDies15 : State :=
  { hub := { up := true }, tick := 8000000000, ht := 8000000000, regs := regsOf [(hubB, R.HUB_MODE_MODE, 2), (lockB 255, R.LOCK_STAT_OWNER, 1038), (lockB 255, R.LOCK_LEASE_MS, 5)] }

/-- A small state for the witnesses. -/
def sModulesLocksAndDies21 : State :=
  { hub := { up := true }, tick := 8000000000, ht := 8000000000, regs := regsOf [(hubB, R.HUB_MODE_MODE, 2), (lockB 255, R.LOCK_STAT_OWNER, 1038), (lockB 255, R.LOCK_LEASE_MS, 5)], lockAt := [(255, (7, 5))] }

/-- A small state for the witnesses. -/
def sModulesLocksAndDies22 : State :=
  { hub := { up := true }, tick := 8000000000, ht := 8000000000, regs := regsOf [(hubB, R.HUB_MODE_MODE, 2), (chB 191, R.CH_STATUS_STATE, 2)] }

/-- A small state for the witnesses. -/
def sModulesLocksAndDies23 : State :=
  { hub := { up := true }, tick := 8000000000, ht := 8000000000, regs := regsOf [(hubB, R.HUB_MODE_MODE, 2), (dieB 3, R.HUB_DIE_CTRL_RESET, 1)] }

/-- A small state for the witnesses. -/
def sModulesLocksAndDies24 : State :=
  { hub := { up := true }, tick := 8000000000, ht := 8000000000, regs := regsOf [(hubB, R.HUB_MODE_MODE, 2), (dieB 3, R.HUB_DIE_STATUS_IN_RESET, 1), (d2dB 3, R.HUB_D2D_STATUS_MOD1, 2)] }

/-- A small state for the witnesses. -/
def sModulesLocksAndDies25 : State :=
  { hub := { up := true }, tick := 8000000000, ht := 8000000000, regs := regsOf [(hubB, R.HUB_MODE_MODE, 2), (ddrB 3 7, R.DDR_STATUS_STATE, 1)], dst := [(3, { leftAt := 5 })] }

/-- A small state for the witnesses. -/
def sModulesLocksAndDies26 : State :=
  { hub := { up := true }, tick := 8000000000, ht := 8000000000, regs := regsOf [(hubB, R.HUB_MODE_MODE, 2), (dieB 3, R.HUB_DIE_STATUS_IN_RESET, 0)], dst := [(3, { leftAt := 5 })] }

/-- A small state for the witnesses. -/
def sHousekeepingCalibrationOxbow0 : State :=
  { hub := { up := true }, tick := 8000000000, ht := 8000000000, regs := regsOf [(hubB, R.HUB_MODE_MODE, 2)], hk := { slot := 23 } }

/-- A small state for the witnesses. -/
def sHousekeepingCalibrationOxbow1 : State :=
  { hub := { up := true }, tick := 8000000000, ht := 8000000000, regs := regsOf [(hubB, R.HUB_MODE_MODE, 2)], hk := { slot := 31 } }

/-- A small state for the witnesses. -/
def sHousekeepingCalibrationOxbow2 : State :=
  { hub := { up := true }, tick := 8000000000, ht := 8000000000, regs := regsOf [(hubB, R.HUB_MODE_MODE, 2)], hk := { slot := 37 } }

/-- A small state for the witnesses. -/
def sHousekeepingCalibrationOxbow3 : State :=
  { hub := { up := true }, tick := 8000000000, ht := 8000000000, regs := regsOf [(hubB, R.HUB_MODE_MODE, 2), (hkB, R.HK_ROUND_COUNT, 4294967295)], hk := { slot := 63 } }

/-- A small state for the witnesses. -/
def sHousekeepingCalibrationOxbow4 : State :=
  { hub := { up := true }, tick := 8000000000, ht := 8000000000, regs := regsOf [(hubB, R.HUB_MODE_MODE, 2), (hubB, R.HUB_MODE_MODE, 4)], hk := { slot := 63 } }

/-- A small state for the witnesses. -/
def sHousekeepingCalibrationOxbow5 : State :=
  { hub := { up := true }, tick := 8000000000, ht := 8000000000, regs := regsOf [(hubB, R.HUB_MODE_MODE, 2)], hk := { sens := [(95, { bad := 8 }), (103, { bad := 8 })] } }

/-- A small state for the witnesses. -/
def sHousekeepingCalibrationOxbow6 : State :=
  { hub := { up := true }, tick := 8000000000, ht := 8000000000, regs := regsOf [(hubB, R.HUB_MODE_MODE, 2)], hk := { sens := [(103, { bad := 7 })] } }

/-- A small state for the witnesses. -/
def sHousekeepingCalibrationOxbow7 : State :=
  { hub := { up := true }, tick := 8000000000, ht := 8000000000, regs := regsOf [(hubB, R.HUB_MODE_MODE, 2)], hk := { thermGood := [(31, 9)] } }

/-- A small state for the witnesses. -/
def sHousekeepingCalibrationOxbow8 : State :=
  { hub := { up := true }, tick := 8000000000, ht := 8000000000, regs := regsOf [(hubB, R.HUB_MODE_MODE, 2)] }

/-- A small state for the witnesses. -/
def sHousekeepingCalibrationOxbow9 : State :=
  { hub := { up := true }, tick := 8000000000, ht := 8000000000, regs := regsOf [(hubB, R.HUB_MODE_MODE, 2), (ephyB 191, R.EPHY_STATUS_STATE, 9)] }

/-- A small state for the witnesses. -/
def sHousekeepingCalibrationOxbow11 : State :=
  { hub := { up := true }, tick := 8000000000, ht := 8000000000, regs := regsOf [(hubB, R.HUB_MODE_MODE, 2), (hkB, R.HK_CAL_RESULT_STARVED, 3)] }

/-- A small state for the witnesses. -/
def sHousekeepingCalibrationOxbow12 : State :=
  { hub := { up := true }, tick := 8000000000, ht := 8000000000, regs := regsOf [(hubB, R.HUB_MODE_MODE, 2), (hkB, R.HK_CAL_STATUS_BUSY, 1), (hkB, R.HK_CAL_STATUS_KIND, 5)], cal := { targets := [{ target := 191, run1 := none }], deadline := 8000000001 } }

/-- A small state for the witnesses. -/
def sHousekeepingCalibrationOxbow13 : State :=
  { hub := { up := true }, tick := 8000000000, ht := 8000000000, regs := regsOf [(hubB, R.HUB_MODE_MODE, 2), (hkB, R.HK_CAL_STATUS_BUSY, 1), (hkB, R.HK_CAL_STATUS_KIND, 5)], cal := { targets := [{ target := 191, run1 := some [some 200] }], deadline := 8000000001 } }

/-- A small state for the witnesses. -/
def sHousekeepingCalibrationOxbow14 : State :=
  { hub := { up := true }, tick := 8000000000, ht := 8000000000, regs := regsOf [(hubB, R.HUB_MODE_MODE, 2), (hkB, R.HK_CAL_STATUS_BUSY, 1), (hkB, R.HK_CAL_STATUS_KIND, 5)], cal := { targets := [{ target := 191, run1 := some [some 199] }], deadline := 8000000001 } }

/-- A small state for the witnesses. -/
def sHousekeepingCalibrationOxbow15 : State :=
  { hub := { up := true }, tick := 8000000000, ht := 8000000000, regs := regsOf [(hubB, R.HUB_MODE_MODE, 2), (hkB, R.HK_CAL_STATUS_BUSY, 1), (hkB, R.HK_CAL_STATUS_KIND, 5)], cal := { targets := [{ target := 191, run1 := none }], deadline := 8000000000 } }

/-- A small state for the witnesses. -/
def sHousekeepingCalibrationOxbow18 : State :=
  { hub := { up := true }, tick := 8000000000, ht := 8000000000, regs := regsOf [(hubB, R.HUB_MODE_MODE, 2)], dst := [(3, { vernier := some [0, 200, 550, 751] })] }

/-- A small state for the witnesses. -/
def sHousekeepingCalibrationOxbow19 : State :=
  { hub := { up := true }, tick := 8000000000, ht := 8000000000, regs := regsOf [(hubB, R.HUB_MODE_MODE, 2), (chB 191, R.CH_STATUS_STATE, 2), (chB 191, R.COMP_FLIP_LEAD, 0)], dst := [(3, { vernier := some [0, 200, 550, 801] })] }

/-- A small state for the witnesses. -/
def sHousekeepingCalibrationOxbow20 : State :=
  { hub := { up := true }, tick := 8000000000, ht := 8000000000, regs := regsOf [(hubB, R.HUB_MODE_MODE, 2), (hkB, R.HK_CAL_IDX_KIND, 6), (hkB, R.HK_CAL_IDX_TARGET, 3), (hkB, R.HK_CAL_IDX_WORD, 3)] }

/-- A small state for the witnesses. -/
def sHousekeepingCalibrationOxbow22 : State :=
  { hub := { up := true }, tick := 8000000000, ht := 8000000000, regs := regsOf [(hubB, R.HUB_MODE_MODE, 2), (oxbB 3, R.HUB_OXB_CFG_SOFT_THR, 3)], pipes := [(203, { soft := [7999999999, 4000000001, 4000000000] })] }

/-- A small state for the witnesses. -/
def sHousekeepingCalibrationOxbow24 : State :=
  { hub := { up := true }, tick := 8000000000, ht := 8000000000, regs := regsOf [(hubB, R.HUB_MODE_MODE, 2), (chB 191, R.CH_STATUS_STATE, 2), (chB 191, R.COMP_FLIP_LEAD, 0)] }

/-- A small state for the witnesses. -/
def sHousekeepingCalibrationOxbow25 : State :=
  { hub := { up := true }, tick := 8000000000, ht := 8000000000, regs := regsOf [(hubB, R.HUB_MODE_MODE, 2), (chB 191, R.CH_STATUS_STATE, 2), (chB 191, R.COMP_FLIP_LEAD, 0)], pipeDead := [(204, 1), (205, 1), (206, 1), (207, 1)] }

/-- A small state for the witnesses. -/
def sHousekeepingCalibrationOxbow29 : State :=
  { hub := { up := true }, tick := 8000000000, ht := 8000000000, regs := regsOf [(hubB, R.HUB_MODE_MODE, 2)], oxs := [(3, { port := some 47, phase := 1, trigger := 1, spare := 51 })] }

/-- A small state for the witnesses. -/
def sHousekeepingCalibrationOxbow30 : State :=
  { hub := { up := true }, tick := 8000000000, ht := 8000000000, regs := regsOf [(hubB, R.HUB_MODE_MODE, 2), (chB 191, R.CH_STATUS_STATE, 2), (chB 191, R.COMP_FLIP_LEAD, 0)], oxs := [(3, { port := some 47, phase := 1, trigger := 3, spare := 51 })] }

/-- A small state for the witnesses. -/
def sHousekeepingCalibrationOxbow31 : State :=
  { hub := { up := true }, tick := 8000000000, ht := 8000000000, regs := regsOf [(hubB, R.HUB_MODE_MODE, 2), (chB 191, R.CH_STATUS_STATE, 4)], oxs := [(3, { port := some 47, phase := 1, trigger := 2, clear := true, spare := 51 })] }

/-- A small state for the witnesses. -/
def sHousekeepingCalibrationOxbow32 : State :=
  { hub := { up := true }, tick := 8000000000, ht := 8000000000, regs := regsOf [(hubB, R.HUB_MODE_MODE, 2)], oxs := [(3, { port := some 47, phase := 2, trigger := 1, spare := 49, shadow := true, frames := 1 })] }

/-- A small state for the witnesses. -/
def sHousekeepingCalibrationOxbow33 : State :=
  { hub := { up := true }, tick := 8000000000, ht := 8000000000, regs := regsOf [(hubB, R.HUB_MODE_MODE, 2)], oxs := [(3, { port := some 47, phase := 2, trigger := 1, spare := 49, shadow := true, good := 1, frames := 2 })] }

/-- A small state for the witnesses. -/
def sHousekeepingCalibrationOxbow34 : State :=
  { hub := { up := true }, tick := 8000000000, ht := 8000000000, regs := regsOf [(hubB, R.HUB_MODE_MODE, 2), (oxbB 3, R.HUB_OXB_CFG_ATTEMPTS, 3)], oxs := [(3, { port := some 47, phase := 2, trigger := 1, spare := 49, shadow := true, attempt := 1 })] }

/-- A small state for the witnesses. -/
def sHousekeepingCalibrationOxbow35 : State :=
  { hub := { up := true }, tick := 8000000000, ht := 8000000000, regs := regsOf [(hubB, R.HUB_MODE_MODE, 2), (oxbB 3, R.HUB_OXB_CFG_ATTEMPTS, 3)], oxs := [(3, { port := some 47, phase := 2, trigger := 1, spare := 49, shadow := true, attempt := 3 })] }

/-- A small state for the witnesses. -/
def sHousekeepingCalibrationOxbow36 : State :=
  { hub := { up := true }, tick := 8000000000, ht := 8000000000, regs := regsOf [(hubB, R.HUB_MODE_MODE, 2)], oxs := [(3, { port := some 47, phase := 2, trigger := 1, spare := 49, shadow := true, success := true, fs := some (8000000000, 3) })] }

/-- A small state for the witnesses. -/
def sHousekeepingCalibrationOxbow37 : State :=
  { hub := { up := true }, tick := 8000000000, ht := 8000000000, regs := regsOf [(hubB, R.HUB_MODE_MODE, 2)], oxs := [(3, { port := some 47, phase := 2, trigger := 1, spare := 49, shadow := true, success := true })] }

/-- A small state for the witnesses. -/
def sHousekeepingCalibrationOxbow38 : State :=
  { hub := { up := true }, tick := 8000000000, ht := 8000000000, regs := regsOf [(hubB, R.HUB_MODE_MODE, 2), (chB 191, R.CH_STATUS_STATE, 2), (chB 191, R.COMP_FLIP_LEAD, 0)], oxs := [(3, { port := some 47, phase := 2, trigger := 1, spare := 49, shadow := true, success := true, switched := true, fs := some (8004000000, 3) })] }

/-- A small state for the witnesses. -/
def sHousekeepingCalibrationOxbow39 : State :=
  { hub := { up := true }, tick := 8000000000, ht := 8000000000, regs := regsOf [(hubB, R.HUB_MODE_MODE, 2), (chB 191, R.CH_STATUS_STATE, 2), (chB 191, R.COMP_FLIP_LEAD, 0)], oxs := [(3, { port := some 47, phase := 2, trigger := 1, spare := 49, shadow := true, success := true, switched := true, fs := some (8004000001, 3) })] }

/-- A small state for the witnesses. -/
def sConfigurationStoreAndFirmware0 : State :=
  { hub := { up := true }, tick := 8000000000, ht := 8000000000, regs := regsOf [(hubB, R.HUB_MODE_MODE, 2), (hubB, R.HUB_MODE_READY, 1)], cfg := { dirty := [(3, 5)] } }

/-- A small state for the witnesses. -/
def sConfigurationStoreAndFirmware1 : State :=
  { hub := { up := true }, tick := 8000000000, ht := 8000000000, regs := regsOf [(hubB, R.HUB_MODE_MODE, 2), (hubB, R.HUB_MODE_READY, 1)], cfg := { dirty := [(4, 5)], write := some { k := 1, gen := 2 } } }

/-- A small state for the witnesses. -/
def sConfigurationStoreAndFirmware2 : State :=
  { hub := { up := true }, tick := 8000000000, ht := 8000000000, regs := regsOf [(hubB, R.HUB_MODE_MODE, 2), (hubB, R.HUB_MODE_READY, 1)], cfg := { dirty := [(4, 5)] } }

/-- A small state for the witnesses. -/
def sConfigurationStoreAndFirmware3 : State :=
  { hub := { up := true }, tick := 8000000000, ht := 8000000000, regs := regsOf [(hubB, R.HUB_MODE_MODE, 2), (hubB, R.HUB_MODE_READY, 1)], cfg := { write := some { k := 4, gen := 9, payload := [1, 2], src := 0, copy := 1, again := false, same := 0 } } }

/-- A small state for the witnesses. -/
def sConfigurationStoreAndFirmware4 : State :=
  { hub := { up := true }, tick := 8000000000, ht := 8000000000, regs := regsOf [(hubB, R.HUB_MODE_MODE, 2), (hubB, R.HUB_MODE_READY, 1)], cfg := { write := some { k := 4, gen := 9, payload := [1, 2], src := 0, copy := 2, again := false, same := 0 } } }

/-- A small state for the witnesses. -/
def sConfigurationStoreAndFirmware6 : State :=
  { hub := { up := true }, tick := 8000000000, ht := 8000000000, regs := regsOf [(hubB, R.HUB_MODE_MODE, 2), (hubB, R.HUB_MODE_READY, 1)], cfg := { write := some { k := 4, gen := 9, payload := [1, 2], src := 0, copy := 0, again := true, same := 0 } } }

/-- A small state for the witnesses. -/
def sConfigurationStoreAndFirmware7 : State :=
  { hub := { up := true }, tick := 8000000000, ht := 8000000000, regs := regsOf [(hubB, R.HUB_MODE_MODE, 2), (hubB, R.HUB_MODE_READY, 1)], cfg := { chosen := [(4, (5, [7]))] } }

/-- A small state for the witnesses. -/
def sConfigurationStoreAndFirmware8 : State :=
  { hub := { up := true }, tick := 8000000000, ht := 8000000000, regs := regsOf [(hubB, R.HUB_MODE_MODE, 2), (hubB, R.HUB_MODE_READY, 1)], cfg := { chosen := [(3, (5, [7]))] } }

/-- A small state for the witnesses. -/
def sConfigurationStoreAndFirmware9 : State :=
  { hub := { up := true }, tick := 8000000000, ht := 8000000000, regs := regsOf [(hubB, R.HUB_MODE_MODE, 2), (hubB, R.HUB_MODE_READY, 1)] }

/-- A small state for the witnesses. -/
def sConfigurationStoreAndFirmware10 : State :=
  { hub := { up := true }, tick := 8000000000, ht := 8000000000, regs := regsOf [(hubB, R.HUB_MODE_MODE, 2), (hubB, R.HUB_MODE_READY, 1), (cfgB, R.CFG_LEN_BYTES, 65537)] }

/-- A small state for the witnesses. -/
def sConfigurationStoreAndFirmware11 : State :=
  { hub := { up := true }, tick := 8000000000, ht := 8000000000, regs := regsOf [(hubB, R.HUB_MODE_MODE, 2), (hubB, R.HUB_MODE_READY, 1), (cfgB, R.CFG_LEN_BYTES, 4194304)] }

/-- A small state for the witnesses. -/
def sConfigurationStoreAndFirmware12 : State :=
  { hub := { up := true }, tick := 8000000000, ht := 8000000000, regs := regsOf [(hubB, R.HUB_MODE_MODE, 2), (hubB, R.HUB_MODE_READY, 1), (cfgB, R.CFG_LEN_BYTES, 3), (ddrDieB 0, R.DDR_DIE_STATUS_MEM_OK, 1), (ddrDieB 0, R.DDR_DIE_CAP_GIB, 1), (ddrDieB 0, R.DDR_DIE_STATUS_INIT_DONE, 1)] }

/-- A small state for the witnesses. -/
def sConfigurationStoreAndFirmware13 : State :=
  { hub := { up := true }, tick := 8000000000, ht := 8000000000, regs := regsOf [(hubB, R.HUB_MODE_MODE, 2), (hubB, R.HUB_MODE_READY, 1), (cfgB, R.CFG_LEN_BYTES, 3), (ddrDieB 0, R.DDR_DIE_STATUS_MEM_OK, 1), (ddrDieB 0, R.DDR_DIE_CAP_GIB, 1), (ddrDieB 0, R.DDR_DIE_STATUS_INIT_DONE, 1)], cfg := { queue := [{ k := 2, src := 1 }] } }

/-- A small state for the witnesses. -/
def sConfigurationStoreAndFirmware14 : State :=
  { hub := { up := true }, tick := 8000000000, ht := 8000000000, regs := regsOf [(hubB, R.HUB_MODE_MODE, 2), (hubB, R.HUB_MODE_READY, 1), (cfgB, R.CFG_LEN_BYTES, 64), (cfgB, R.CFG_SRC_LO_ADDR, 5), (ddrDieB 0, R.DDR_DIE_STATUS_MEM_OK, 1), (ddrDieB 0, R.DDR_DIE_CAP_GIB, 1), (ddrDieB 0, R.DDR_DIE_STATUS_INIT_DONE, 1)] }

/-- A small state for the witnesses. -/
def sConfigurationStoreAndFirmware15 : State :=
  { hub := { up := true }, tick := 8000000000, ht := 8000000000, regs := regsOf [(hubB, R.HUB_MODE_MODE, 2), (hubB, R.HUB_MODE_READY, 1), (cfgB, R.CFG_STATUS_ACTIVATING, 1)] }

/-- A small state for the witnesses. -/
def sConfigurationStoreAndFirmware16 : State :=
  { hub := { up := true }, tick := 8000000000, ht := 8000000000, regs := regsOf [(hubB, R.HUB_MODE_MODE, 2), (hubB, R.HUB_MODE_READY, 1)], cfg := { chosen := [(1, (5, [7]))] } }

/-- A small state for the witnesses. -/
def sConfigurationStoreAndFirmware17 : State :=
  { hub := { up := true }, tick := 8000000000, ht := 8000000000, regs := regsOf [(hubB, R.HUB_MODE_MODE, 2), (hubB, R.HUB_MODE_READY, 1)], cfg := { chosen := [(1, (5, [7]))], write := some { k := 2 } } }

/-- A small state for the witnesses. -/
def sConfigurationStoreAndFirmware18 : State :=
  { hub := { up := true }, tick := 8000000000, ht := 8000000000, regs := regsOf [(hubB, R.HUB_MODE_MODE, 2), (hubB, R.HUB_MODE_READY, 1)], fw := { next := some ({ svn := 3, gen := 5, payload := [7] } : FwImage), startAt := some 8000000000 } }

/-- A small state for the witnesses. -/
def sConfigurationStoreAndFirmware19 : State :=
  { hub := { up := true }, tick := 8000000000, ht := 8000000000, regs := regsOf [(hubB, R.HUB_MODE_MODE, 2), (hubB, R.HUB_MODE_READY, 1)], fw := { next := some ({ svn := 3, gen := 5, payload := [7] } : FwImage), startAt := some 8000000001 } }

/-- A small state for the witnesses. -/
def sConfigurationStoreAndFirmware20 : State :=
  { hub := { up := true }, tick := 8000000000, ht := 8000000000, regs := regsOf [(hubB, R.HUB_MODE_MODE, 2), (hubB, R.HUB_MODE_READY, 1), (cfgB, R.CFG_STATUS_ACTIVATING, 1)], fw := { active := ({ svn := 3, gen := 5, payload := [7] } : FwImage), startAt := some 8000000000 } }

/-- A small state for the witnesses. -/
def sConfigurationStoreAndFirmware22 : State :=
  { hub := { up := true }, tick := 8000000000, ht := 8000000000, regs := regsOf [(hubB, R.HUB_MODE_MODE, 2), (hubB, R.HUB_MODE_READY, 1), (cfgB, R.CFG_STATUS_ACTIVATING, 1)], fw := { active := ({ svn := 3, gen := 5, payload := [7] } : FwImage), startAt := some 7800000000 } }

/-- A small state for the witnesses. -/
def sConfigurationStoreAndFirmware23 : State :=
  { hub := { up := true }, tick := 8000000000, ht := 8000000000, regs := regsOf [(hubB, R.HUB_MODE_MODE, 2), (hubB, R.HUB_MODE_READY, 1), (cfgB, R.CFG_STATUS_ACTIVATING, 1)], fw := { active := ({ svn := 3, gen := 5, payload := [7] } : FwImage), startAt := some 7800000001 } }

/-- A small state for the witnesses. -/
def sTheManagementPort2 : State :=
  { hub := { up := true }, tick := 8000000000, ht := 8000000000, regs := regsOf [(hubB, R.HUB_MODE_MODE, 2), (hubB, R.HUB_MODE_READY, 1), (hubB, R.HUB_MODE_READY, 0)] }

/-- A small state for the witnesses. -/
def sTheManagementPort5 : State :=
  { hub := { up := true }, tick := 8000000000, ht := 8000000000, regs := regsOf [(hubB, R.HUB_MODE_MODE, 2), (hubB, R.HUB_MODE_READY, 1), (chB 0, R.CH_STATUS_STATE, 0)] }

/-- A small state for the witnesses. -/
def sTheManagementPort7 : State :=
  { hub := { up := true }, tick := 8000000000, ht := 8000000000, regs := regsOf [(hubB, R.HUB_MODE_MODE, 2), (hubB, R.HUB_MODE_READY, 1), (mgtB, R.MGT_STATUS_ALERT, 1), (hubB, R.HUB_MODE_MODE, 4)] }

/-- A small state for the witnesses. -/
def sTheManagementPort8 : State :=
  { hub := { up := true }, tick := 8000000000, ht := 8000000000, regs := regsOf [(hubB, R.HUB_MODE_MODE, 2), (hubB, R.HUB_MODE_READY, 1), (hubB, R.HUB_MODE_MODE, 4)] }

/-- A small state for the witnesses. -/
def sTheManagementPort9 : State :=
  { hub := { up := true }, tick := 8000000000, ht := 8000000000, regs := regsOf [(hubB, R.HUB_MODE_MODE, 2), (hubB, R.HUB_MODE_READY, 1)], cfg := { copies := [(11, [1, 2, 3])] } }

/-- A small state for the witnesses. -/
def sTheManagementPort12 : State :=
  { hub := { up := true }, tick := 8000000000, ht := 8000000000, regs := regsOf [(hubB, R.HUB_MODE_MODE, 2), (hubB, R.HUB_MODE_READY, 1)], cfg := { queue := [{ k := 2, src := 2 }] } }

/-- A small state for the witnesses. -/
def sTheManagementPort15 : State :=
  { hub := { up := true }, tick := 8000000000, ht := 8000000000, regs := regsOf [(hubB, R.HUB_MODE_MODE, 2), (hubB, R.HUB_MODE_READY, 1)], fw := { waiting := true } }

/-- A small state for the witnesses. -/
def sTheManagementPort17 : State :=
  { hub := { up := true }, tick := 8000000000, ht := 8000000000, regs := regsOf [(hubB, R.HUB_MODE_MODE, 2), (hubB, R.HUB_MODE_READY, 1), (mgtB, R.MGT_STATUS_MGT_MODE, 1), (mgtB, R.MGT_HOLD_HOLD, 5)], mgtCeil := [(0, 9)] }

/-- A small state for the witnesses. -/
def sTheManagementPort18 : State :=
  { hub := { up := true }, tick := 8000000000, ht := 8000000000, regs := regsOf [(hubB, R.HUB_MODE_MODE, 2), (hubB, R.HUB_MODE_READY, 1)], mgt := { stagingLen := 9, recTag := some 4 } }

/-- A small state for the witnesses. -/
def sTheManagementPort24 : State :=
  { hub := { up := true }, tick := 8000000000, ht := 8000000000, regs := regsOf [(hubB, R.HUB_MODE_MODE, 2), (hubB, R.HUB_MODE_READY, 1)], spdm := [(0, 2)] }

/-- A small state for the witnesses. -/
def sTheManagementPort25 : State :=
  { hub := { up := true }, tick := 8000000000, ht := 8000000000, regs := regsOf [(hubB, R.HUB_MODE_MODE, 2), (hubB, R.HUB_MODE_READY, 1)], spdm := [(0, 2)], ide := [(7, 1)] }

/-- A small state for the witnesses. -/
def sTheManagementPort26 : State :=
  { hub := { up := true, vf := true }, tick := 8000000000, ht := 8000000000, regs := regsOf [(hubB, R.HUB_MODE_MODE, 2), (hubB, R.HUB_MODE_READY, 1)] }

/-- A small state for the witnesses. -/
def sTheManagementPort27 : State :=
  { hub := { up := true }, tick := 8000000000, ht := 8000000000, regs := regsOf [(hubB, R.HUB_MODE_MODE, 2), (hubB, R.HUB_MODE_READY, 1), (mgtB, R.MGT_STATUS_I3C, 1)] }

/-- A small state for the witnesses. -/
def sTheManagementPort28 : State :=
  { hub := { up := true, badRails := [3] }, tick := 8000000000, ht := 8000000000, regs := regsOf [(hubB, R.HUB_MODE_MODE, 2), (hubB, R.HUB_MODE_READY, 1)] }

/-- A small state for the witnesses. -/
def sTheManagementPort29 : State :=
  { hub := { up := true }, tick := 8000000000, ht := 8000000000, regs := regsOf [(hubB, R.HUB_MODE_MODE, 2), (hubB, R.HUB_MODE_READY, 1), (mgtB, R.MGT_STATUS_EID, 9)] }

/-- A small state for the witnesses. -/
def sTheManagementPort30 : State :=
  { hub := { up := true }, tick := 8000000000, ht := 8000000000, regs := regsOf [(hubB, R.HUB_MODE_MODE, 2), (hubB, R.HUB_MODE_READY, 1), (mgtB, R.MGT_STATUS_EID_SET, 1), (mgtB, R.MGT_STATUS_EID, 255)] }

/-- A small state for the witnesses. -/
def sEventsAreWrittenToTheRings0 : State :=
  { hub := { up := true }, tick := 8000000000, ht := 8000000000, regs := regsOf [(hubB, R.HUB_MODE_MODE, 2), (ddrDieB 0, R.DDR_DIE_STATUS_MEM_OK, 1), (ddrDieB 0, R.DDR_DIE_CAP_GIB, 1), (ddrDieB 0, R.DDR_DIE_STATUS_INIT_DONE, 1), (evRingB 0, R.SLUICE_EV_CFG_EN, 1), (evRingB 0, R.SLUICE_EV_CFG_LOG, 6), (evRingB 0, R.SLUICE_EV_CFG_VEC, 2000), (evRingB 0, R.SLUICE_EV_CFG_THR, 2), (hubB, R.HUB_MODE_REQ_PENDING, 1), (hubB, R.HUB_MODE_TARGET, 0)], evr := [(0, { wr := 63, rd := 5 })] }

/-- A small state for the witnesses. -/
def sEventsAreWrittenToTheRings2 : State :=
  { hub := { up := true }, tick := 8000000000, ht := 8000000000, regs := regsOf [(hubB, R.HUB_MODE_MODE, 2), (ddrDieB 0, R.DDR_DIE_STATUS_MEM_OK, 1), (ddrDieB 0, R.DDR_DIE_CAP_GIB, 1), (ddrDieB 0, R.DDR_DIE_STATUS_INIT_DONE, 1), (evRingB 0, R.SLUICE_EV_CFG_EN, 1), (evRingB 0, R.SLUICE_EV_CFG_LOG, 6), (evRingB 0, R.SLUICE_EV_CFG_VEC, 2000), (evRingB 0, R.SLUICE_EV_CFG_THR, 2), (hubB, R.HUB_MODE_REQ_PENDING, 1), (hubB, R.HUB_MODE_TARGET, 0)], evr := [(0, { wr := 63, rd := 5, unsig := 1 })] }

/-- A small state for the witnesses. -/
def sEventsAreWrittenToTheRings4 : State :=
  { hub := { up := true }, tick := 8000000000, ht := 8000000000, regs := regsOf [(hubB, R.HUB_MODE_MODE, 2), (ddrDieB 0, R.DDR_DIE_STATUS_MEM_OK, 1), (ddrDieB 0, R.DDR_DIE_CAP_GIB, 1), (ddrDieB 0, R.DDR_DIE_STATUS_INIT_DONE, 1), (evRingB 0, R.SLUICE_EV_CFG_EN, 1), (evRingB 0, R.SLUICE_EV_CFG_LOG, 6), (evRingB 0, R.SLUICE_EV_CFG_VEC, 2000), (evRingB 0, R.SLUICE_EV_CFG_THR, 2), (hubB, R.HUB_MODE_REQ_PENDING, 1), (hubB, R.HUB_MODE_TARGET, 0)], evr := [(0, { wr := 63, rd := 0, drop := 4294967295 })] }

/-- A small state for the witnesses. -/
def sEventsAreWrittenToTheRings5 : State :=
  { hub := { up := true }, tick := 8000000000, ht := 8000000000, regs := regsOf [(hubB, R.HUB_MODE_MODE, 2), (ddrDieB 0, R.DDR_DIE_STATUS_MEM_OK, 1), (ddrDieB 0, R.DDR_DIE_CAP_GIB, 1), (ddrDieB 0, R.DDR_DIE_STATUS_INIT_DONE, 1), (evRingB 0, R.SLUICE_EV_CFG_EN, 1), (evRingB 0, R.SLUICE_EV_CFG_LOG, 6), (evRingB 0, R.SLUICE_EV_CFG_VEC, 2000), (evRingB 0, R.SLUICE_EV_CFG_THR, 2), (hubB, R.HUB_MODE_REQ_PENDING, 1), (hubB, R.HUB_MODE_TARGET, 0)], evr := [(0, { wr := 63, rd := 5, lost := 9 })] }

/-- A small state for the witnesses. -/
def sEventsAreWrittenToTheRings6 : State :=
  { hub := { up := true, vf := true }, tick := 8000000000, ht := 8000000000, regs := regsOf [(hubB, R.HUB_MODE_MODE, 2), (ddrDieB 0, R.DDR_DIE_STATUS_MEM_OK, 1), (ddrDieB 0, R.DDR_DIE_CAP_GIB, 1), (ddrDieB 0, R.DDR_DIE_STATUS_INIT_DONE, 1), (tenB 256, R.SLUICE_TSEG0_V, 1), (tenB 256, R.SLUICE_TSEG0_W, 1), (tenB 256, R.SLUICE_TSEG1_LIMIT, 15), (evRingB 256, R.SLUICE_EV_CFG_EN, 1), (hubB, R.HUB_MODE_REQ_PENDING, 1), (hubB, R.HUB_MODE_TARGET, 0)], grants := [{ tenant := 256, g := 0, channel := 191, layers := 1, seq := false }] }

/-- A small state for the witnesses. -/
def sEventsAreWrittenToTheRings7 : State :=
  { hub := { up := true }, tick := 8000000000, ht := 8000000000, regs := regsOf [(hubB, R.HUB_MODE_MODE, 4), (ddrDieB 0, R.DDR_DIE_STATUS_MEM_OK, 1), (ddrDieB 0, R.DDR_DIE_CAP_GIB, 1), (ddrDieB 0, R.DDR_DIE_STATUS_INIT_DONE, 1), (evRingB 0, R.SLUICE_EV_CFG_EN, 1), (evRingB 0, R.SLUICE_EV_CFG_LOG, 6), (evRingB 0, R.SLUICE_EV_CFG_VEC, 2000), (evRingB 0, R.SLUICE_EV_CFG_THR, 2)] }

/-! ### Ill-formed commands are refused -/

theorem test_ill_mode : (Instr.modeReqUnrequestable true 2).wellFormed = false := by decide
theorem test_ill_mode_stops : exec (.modeReqUnrequestable true 2) {} = .fault .illFormed := rfl
theorem test_ill_wait : (Instr.delayReqReceived 0 399985 []).wellFormed = false := by decide
theorem test_well_wait : (Instr.delayReqReceived 0 399984 []).wellFormed = true := by decide
theorem test_ill_aperture_length : (Instr.apertureWrite 1 0 (List.replicate 513 0)).wellFormed = false := by decide +kernel
theorem test_ill_aperture_end : (Instr.apertureWrite 256 1073741823 [0, 0]).wellFormed = false := by decide +kernel
theorem test_ill_aperture_read : (Instr.apertureRead 0 68719476735 2).wellFormed = false := by decide +kernel
theorem test_ill_cmd : (Instr.mgtInvalidCmd 0 9).wellFormed = false := by decide
theorem test_well_cmd : (Instr.mgtInvalidCmd 0 10).wellFormed = true := by decide

/-! ### The specification's worked examples and totals -/

/-- Spare pipeline 2.49 and loop core 3.67 (spec/00_scope.md, after R4). -/
theorem test_identities : seqIdentity 2 49 = 0x1231 ∧ coreIdentity 3 67 = 0x2343 := by decide

/-- Addresses on the running channel (spec/20_register_map.md, worked example). -/
theorem test_addresses : strB 60 2 + R.LAMP_SSTAT_OPEN.off = 0x10F18B0 ∧ slB 554 + R.LOOP_SLOT_STATUS_STATE.off = 0x2141A9C
    ∧ dieB 1 + R.WEIR_AVS_STATUS_BAND.off = 0x210011C ∧ tenB 57 + R.SLUICE_TSEG0_BASE.off + 5 * 8 = 0x3039828 := by
  decide +kernel

/-- Plane 17 of slot 2 (spec/15_memory.md, worked example): channel 1.2, subchannel B, bank group 4, bank 0, row 270. -/
theorem test_address_map : locate { regs := regsOf [(ddrB 1 2, R.DDR_GEOM_PAGE_BITS, 13), (ddrB 1 2, R.DDR_GEOM_ROW_BITS, 16),
    (ddrB 1 2, R.DDR_STATUS_IN_SERVICE, 15)] } 0x80043850000
      = { d := 1, m := 2, sub := 1, bank := 4, row := 270, rank := 0 } := by decide +kernel

/-- One plane's current (spec/10_lamps_rill.md, worked example). -/
theorem test_driven : driven 65535 51609 = 51609 ∧ driven 8533 51609 = 6720 := by decide

/-- Balls (R808) and power domains (R824). -/
theorem test_balls : (ballGroups.map (·.balls)).sum = 15876 := by decide
theorem test_domains : domains.length = 516 := by decide +kernel

/-! ### Single commands -/

/-- A tick of the device (R7). -/
theorem test_tick : step { ht := 5, tick := 5 } = .next { ht := 6, tick := 6 } := by rfl

/-- A command at the front of the queue is the one that is carried out. -/
theorem test_front : ∃ t, step { pending := [.chDisarm 3, .chStop 3] } = .next t ∧ t.pending = [.chStop 3] := ⟨_, rfl, rfl⟩


/-! ### The hypotheses of the statements can be met -/

theorem test_meets_EmptyQueueIsATick :
    ((State.reset.pending = [])) := by
  decide +kernel

theorem test_meets_ExecLeavesTheQueue :
    exec .fabCntClr State.reset = .next (done (resetFlds fabB fabCounters) State.reset) := rfl

theorem test_meets_StepKeepsTheInvariant :
    Inv State.reset ∧ step State.reset = .next (done tickEffect State.reset) :=
  ⟨⟨by decide, rfl, rfl⟩, rfl⟩

theorem test_meets_StatusPinsFollowTheMode :
    step State.reset = .next (done tickEffect State.reset) := rfl

theorem test_meets_PowerGoodAndPerstReset :
    ((sPerst.hub.up = false) ∧ (sPerst.hub.perst = true)) ∧
    ((sReady.hub.up = true) ∧ (sReady.mode ≠ .hold)) ∧
    ((sNoVddio.hub.up = true) ∧ (rdB sNoVddio hubB R.HUB_MODE_READY = false) ∧ (sNoVddio.hub.starting = false) ∧
      (sNoVddio.mode ≠ .hold)) ∧
    ((sPerst.hub.island = false)) := by
  refine ⟨?_, ?_, ?_, ?_⟩ <;> decide +kernel

theorem test_meets_StartupEnds :
    ((sStarting.hub.starting = true) ∧ (sStarting.hub.returning = decide (sStarting.mode = .hold))) ∧
    ((sReturning.hub.starting = true) ∧ (sReturning.hub.returning = decide (sReturning.mode = .hold))) ∧
    ((sStarting.hub.starting = true)) ∧
    ((sStarting.hub.starting = true)) ∧
    ((sStarting.hub.starting = true)) := by
  refine ⟨?_, ?_, ?_, ?_, ?_⟩ <;> decide +kernel

theorem test_meets_ModeRequestsAreCarriedOut :
    ((sReady.mode ≠ .hold) ∧ (reqReason sReady true 1 = 0)) ∧
    ((sShow.mode ≠ .hold) ∧ (reqReason sShow false 1 = 0)) ∧
    ((sReady.mode = .dormant ∨ sReady.mode = .service) ∧ (reqReason sReady false 2 = 0)) ∧
    ((sShow.mode ≠ .hold) ∧ (sShow.mode ≠ .dormant) ∧ (reqReason sShow false 0 = 0)) ∧
    ((rdB sLeaving hubB R.HUB_MODE_REQ_PENDING = true) ∧ (inUse sLeaving = false)) := by
  refine ⟨?_, ?_, ?_, ?_, ?_⟩ <;> decide +kernel

theorem test_meets_ModeRequestsAreRejectedInOrder :
    ((3 ≤ (3 : Fin 8).val) ∧ (sReady.mode ≠ .hold)) ∧
    ((sTripped.mode = .tripped)) ∧
    ((sStarting.mode ≠ .hold) ∧ (sStarting.mode ≠ .tripped) ∧ (rdB sStarting hubB R.HUB_MODE_READY = false)) ∧
    ((sModeRequestsAreRejectedInOrder3.mode ≠ .hold) ∧ (sModeRequestsAreRejectedInOrder3.mode ≠ .tripped) ∧ (rdB
      sModeRequestsAreRejectedInOrder3 hubB R.HUB_MODE_READY = true) ∧ (rdB sModeRequestsAreRejectedInOrder3 hubB
      R.HUB_MODE_REQ_PENDING = true)) ∧
    ((sModeRequestsAreRejectedInOrder4.mode = .dormant ∨ sModeRequestsAreRejectedInOrder4.mode = .service) ∧ (rdB
      sModeRequestsAreRejectedInOrder4 hubB R.HUB_MODE_READY = true) ∧ (overridden sModeRequestsAreRejectedInOrder4
      false 2 = false) ∧ (rdB sModeRequestsAreRejectedInOrder4 hubB R.HUB_MODE_REQ_PENDING = false) ∧ (htValid
      sModeRequestsAreRejectedInOrder4 = false)) ∧
    ((sModeRequestsAreRejectedInOrder5.mode ≠ .tripped) ∧ (rdB sModeRequestsAreRejectedInOrder5 hubB
      R.HUB_MODE_READY = true) ∧ (overridden sModeRequestsAreRejectedInOrder5 false 2 = true)) := by
  refine ⟨?_, ?_, ?_, ?_, ?_, ?_⟩ <;> decide +kernel

theorem test_meets_HandOverToHold :
    ((sShow.hub.up = true) ∧ (sShow.mode ≠ .hold) ∧ (sShow.mode ≠ .tripped)) ∧
    ((sShow.hub.up = true) ∧ (sShow.mode ≠ .hold) ∧ (sShow.mode ≠ .tripped)) ∧
    ((sShow.hub.up = true) ∧ (sShow.mode ≠ .hold) ∧ (sShow.mode ≠ .tripped)) := by
  refine ⟨?_, ?_, ?_⟩ <;> decide +kernel

theorem test_meets_HoldLogAndReturn :
    ((rdB sHold holdB R.HOLD_STATUS_HANDOVER = true)) ∧
    ((mayExit ({} : HoldEnd).back sHold = true) ∧ (sHold.hub.perst = false)) ∧
    ((State.reset.tick < State.reset.hub.t0 + 200 * ms ∨ State.reset.tick < State.reset.hub.stableAt + 500 * ms)) ∧
    ((sHold.mode = .hold) ∧ (sHold.hub.island = true)) := by
  refine ⟨?_, ?_, ?_, ?_⟩ <;> decide +kernel

theorem test_meets_HoldStoreGauge :
    ((sHold.mode = .hold) ∧ (sHold.hub.island = true)) ∧
    ((sFull.hub.fullRounds = 8) ∧ (sFull.hub.island = true) ∧ (0 < rd sFull holdB R.HOLD_CAPACITY_CAP) ∧ (rd sFull
      holdB R.HOLD_CAPACITY_CAP < 2 ^ 24)) ∧
    ((sFull.hub.island = true)) := by
  refine ⟨?_, ?_, ?_⟩ <;> decide +kernel

theorem test_meets_TripsAndTheTripLatch :
    ((sShow.hub.up = true)) ∧
    ((sTripped.hub.up = true)) ∧
    ((sShow.hub.up = true) ∧ (rdB sShow (chB (191 : Fin 192)) R.CH_STATUS_SAFE_DARK = true)) ∧
    ((sTripped.hub.mainOk = false) ∧ (sTripped.hub.mainAt + 100 * ms ≤ sTripped.tick)) ∧
    ((State.reset.hub.mainOk = true ∨ State.reset.tick < State.reset.hub.mainAt + 100 * ms)) := by
  refine ⟨?_, ?_, ?_, ?_, ?_⟩ <;> decide +kernel

theorem test_meets_RailsFiveToSeventeen :
    ((17 ∈ sNoVddio.hub.badRails) ∧ (sNoVddio.hub.up = true) ∧ (sNoVddio.mode ≠ .hold) ∧ (sNoVddio.mode ≠ .tripped)
      ∧ (sNoVddio.hub.perst = false) ∧ (sNoVddio.hub.tripLatch = 0)) ∧
    ((sTripped.hub.up = true) ∧ (sTripped.mode = .tripped)) ∧
    ((sRailsFiveToSeventeen3.hub.up = true) ∧ (sRailsFiveToSeventeen3.mode ≠ .tripped) ∧
      (sRailsFiveToSeventeen3.mode ≠ .hold) ∧ (8 ≤ (11 : Fin 12).val)) ∧
    ((sRailsFiveToSeventeen4.hub.up = true) ∧ (sRailsFiveToSeventeen4.mode ≠ .tripped) ∧
      (sRailsFiveToSeventeen4.mode ≠ .hold) ∧ ((7 : Fin 12).val < 8)) := by
  refine ⟨?_, ?_, ?_, ?_⟩ <;> decide +kernel

theorem test_meets_ChannelCommandsMoveTheChannel :
    ((sArmable.chState (191 : Fin 192) = .off) ∧ (isHeld sArmable (191 : Fin 192) = false) ∧ (armReason (armRecheck
      (191 : Fin 192) (begun sArmable)) (191 : Fin 192) = 0) ∧ (armMode sArmable = true) ∧ (armKind sArmable (191 :
      Fin 192) = true)) ∧
    ((sArmed.chState (191 : Fin 192) = .armed)) ∧
    ((sRunning.chState (191 : Fin 192) = .running)) ∧
    ((sFaulted.chState (191 : Fin 192) = .faulted) ∧ (1 ≤ rd sFaulted (chB (191 : Fin 192)) R.CH_STATUS_FAULT) ∧
      (rd sFaulted (chB (191 : Fin 192)) R.CH_STATUS_FAULT ≤ 3)) ∧
    ((rdB sFaulted (dieB ((191 : Fin 192).val / 48)) R.HUB_DIE_STATUS_IN_RESET = false)) ∧
    ((rdB sRunning (dieB ((191 : Fin 192).val / 48)) R.HUB_DIE_STATUS_IN_RESET = false)) := by
  refine ⟨?_, ?_, ?_, ?_, ?_, ?_⟩ <;> decide +kernel

theorem test_meets_InvalidChannelCommandsOnlySetCmdIgnored :
    ((sArmed.chState (191 : Fin 192) ≠ .off)) ∧
    ((sFaulted.chState (191 : Fin 192) ≠ .armed)) ∧
    ((sArmed.chState (191 : Fin 192) ≠ .running)) ∧
    ((sArmed.chState (191 : Fin 192) ≠ .faulted)) ∧
    ((sReady.chState (191 : Fin 192) = .off) ∧ (isHeld sReady (191 : Fin 192) = false) ∧ (armMode sReady = false)) := by
  refine ⟨?_, ?_, ?_, ?_, ?_⟩ <;> decide +kernel

theorem test_meets_ChannelsRunAndDrain :
    ((sChannelsRunAndDrain0.chState (191 : Fin 192) = .armed) ∧ ((sChannelsRunAndDrain0.weir (191 : Fin
      192)).q.find? (fun i => i.kind == .mark) = some ({ kind := .mark, t := 4000000, frame := 4000000 } : Item)) ∧
      (runDue sChannelsRunAndDrain0 (191 : Fin 192) ({ kind := .mark, t := 4000000, frame := 4000000 } : Item).t =
      true) ∧ (pinPassed sChannelsRunAndDrain0 (191 : Fin 192) ({ kind := .mark, t := 4000000, frame := 4000000 } :
      Item).t sChannelsRunAndDrain0.ht = true) ∧ (sChannelsRunAndDrain0.hub.noRelease = false)) ∧
    ((sChannelsRunAndDrain1.chState (191 : Fin 192) = .draining) ∧ (drained sChannelsRunAndDrain1 (191 : Fin 192) =
      true) ∧ ((sChannelsRunAndDrain1.weir (191 : Fin 192)).parkSent = false) ∧ (linkTrained sChannelsRunAndDrain1
      (191 : Fin 192) = true) ∧ ((sChannelsRunAndDrain1.port (191 : Fin 192)).parkDone = false)) ∧
    ((sDraining.chState (191 : Fin 192) = .draining) ∧ ((sDraining.seq (191 : Fin 192)).stopT = some 0) ∧ (0 + 10 *
      ms ≤ sDraining.ht)) := by
  refine ⟨?_, ?_, ?_⟩ <;> decide +kernel

theorem test_meets_TimeSetIsLatchedAndLoaded :
    ((setReject (rdPair sMaster timeB R.TIME_SET_LO_SET R.TIME_SET_HI_SET) sMaster = 0)) ∧
    ((setReject (rdPair State.reset timeB R.TIME_SET_LO_SET R.TIME_SET_HI_SET) State.reset ≠ 0)) ∧
    ((sMasterSet.time.setReq = some (77, 8000000)) ∧ (8000000 ≤ sMasterSet.ht) ∧ (setReject 77 sMasterSet = 0)) ∧
    ((sTimeSetIsLatchedAndLoaded4.time.setReq = some (77, 9)) ∧ (9 ≤ sTimeSetIsLatchedAndLoaded4.ht) ∧ (setReject
      77 sTimeSetIsLatchedAndLoaded4 ≠ 0)) := by
  refine ⟨?_, ?_, ?_, ?_⟩ <;> decide +kernel

theorem test_meets_PendingStepsAreAppliedOnlyOutOfUse :
    ((inUse sStepPending = false) ∧ ((sStepPending.ht : Int) - sStepPending.time.stepOfs / 16 < 2 ^ 63) ∧ (rdB
      sStepPending timeB R.TIME_STATUS_STEP_PENDING = true)) ∧
    ((inUse sArmed = true)) ∧
    ((inUse State.reset = false) ∧ (rdB State.reset timeB R.TIME_STATUS_STEP_PENDING = false)) ∧
    ((inUse sStepPending = false) ∧ ((sStepPending.ht : Int) - sStepPending.time.stepOfs / 16 < 2 ^ 63) ∧ (rdB
      sStepPending timeB R.TIME_STATUS_STEP_PENDING = true)) ∧
    ((inUse sArmed = true)) := by
  refine ⟨?_, ?_, ?_, ?_, ?_⟩ <;> decide +kernel

theorem test_meets_SourcesAreSwitched :
    ((inValid sFollow (!followsB sFollow) = true)) ∧
    ((inValid State.reset (!followsB State.reset) = false)) ∧
    ((isMaster sFollow = false) ∧ (sFollow.time.following = true) ∧ (inValid sFollow (!followsB sFollow) = true) ∧
      ((hwIn sFollow (followsB sFollow)).holdAt ≠ 0) ∧ ((hwIn sFollow (followsB sFollow)).holdAt + 1000 * ms ≤
      sFollow.tick + 1) ∧ (bitOf (hwIn sFollow (!followsB sFollow)).flags 0 = false)) ∧
    ((isMaster sFollow = false) ∧ (sFollow.time.following = true) ∧ (rdB sFollow timeB R.TIME_CTRL_REVERT = true) ∧
      (followsB sFollow = !rdB sFollow timeB R.TIME_CTRL_PRIMARY) ∧ (inValid sFollow (rdB sFollow timeB
      R.TIME_CTRL_PRIMARY) = true) ∧ ((hwIn sFollow (rdB sFollow timeB R.TIME_CTRL_PRIMARY)).validAt + 10000 * ms ≤
      sFollow.tick)) := by
  refine ⟨?_, ?_, ?_, ?_⟩ <;> decide +kernel

theorem test_meets_HeadwaterMessagesAreSent :
    ((timeDue sHeadwaterMessagesAreSent0 = true) ∧ (htValid sHeadwaterMessagesAreSent0 = true) ∧ (rdB
      sHeadwaterMessagesAreSent0 timeB R.TIME_CTRL_OUT_EN = true) ∧ (sHeadwaterMessagesAreSent0.mode ≠ .hold)) ∧
    ((isMaster sMaster = true)) ∧
    ((isMaster sFollow = false) ∧ (sFollow.mode ≠ .hold) ∧ ((hwIn sFollow true).lock = true) ∧ (sFollow.ht % ms =
      2000000) ∧ ((hwIn sFollow true).req.any (fun r => r.2 == sFollow.ht) = false)) ∧
    ((isMaster sFollow = false) ∧ (sFollow.mode ≠ .hold) ∧ ((hwIn sFollow false).lock = true) ∧ (sFollow.ht % ms =
      2000000) ∧ ((hwIn sFollow false).req.any (fun r => r.2 == sFollow.ht) = false)) ∧
    ((delayWaitOk 399984 = true) ∧ (sHeadwaterMessagesAreSent3.mode ≠ .hold) ∧
      (sHeadwaterMessagesAreSent3.time.outLock = true) ∧ (msgBad delayMsg = 0) ∧ (msgAt delayMsg 1 = 2)) ∧
    (((hwIn sFollow true).req = some (9, 5)) ∧ (5 + 200 * us ≤ sFollow.ht)) := by
  refine ⟨?_, ?_, ?_, ?_, ?_, ?_⟩ <;> decide +kernel

theorem test_meets_HeadwaterMessagesAreTaken :
    ((isMaster sFollow = false) ∧ (sFollow.mode ≠ .hold) ∧ ((hwIn sFollow false).lock = true) ∧ (msgBad (316 ::
      List.replicate 27 1 ++ [0, 0, 0, 0, 509]) = 1)) ∧
    ((isMaster sFollow = false) ∧ (sFollow.mode ≠ .hold) ∧ ((hwIn sFollow false).lock = true) ∧ (msgBad [] = 2)) ∧
    ((isMaster sFollow = false) ∧ (sFollow.mode ≠ .hold) ∧ ((hwIn sFollow true).lock = true) ∧ (msgBad timeMsg = 0)
      ∧ (msgAt timeMsg 1 = 1)) ∧
    ((isMaster sHeadwaterMessagesAreTaken3 = false) ∧ (sHeadwaterMessagesAreTaken3.mode ≠ .hold) ∧ ((hwIn
      sHeadwaterMessagesAreTaken3 true).lock = true) ∧ (msgBad respMsg = 0) ∧ (msgAt respMsg 1 = 3) ∧ ((hwIn
      sHeadwaterMessagesAreTaken3 true).req = some (msgAt respMsg 2, 5)) ∧ (sHeadwaterMessagesAreTaken3.ht < 5 +
      200 * us)) := by
  refine ⟨?_, ?_, ?_, ?_⟩ <;> decide +kernel

theorem test_meets_HeadwaterLinksAndReferences :
    ((sFollow.mode ≠ .hold)) ∧
    ((sFollow.mode ≠ .hold) ∧ ((1 : Fin 3) ≠ 2)) ∧
    (((0 : Fin 3) ≠ 2)) ∧
    (((hwIn sFollow true).seen = 0 ∨ 3 * ms + (hwIn sFollow true).seen < sFollow.tick + 1)) ∧
    ((timeState sHeadwaterLinksAndReferences5 = 3) ∧ (sHeadwaterLinksAndReferences5.time.e0 ≤ rd
      sHeadwaterLinksAndReferences5 timeB R.TIME_BOUND_HOLD_MAX) ∧ ((rd sHeadwaterLinksAndReferences5 timeB
      R.TIME_BOUND_HOLD_MAX - sHeadwaterLinksAndReferences5.time.e0) * (16 * 10 ^ 23) <
      (sHeadwaterLinksAndReferences5.tick - sHeadwaterLinksAndReferences5.time.holdAt) * (2 * 10 ^ 14) + 165 *
      (sHeadwaterLinksAndReferences5.tick - sHeadwaterLinksAndReferences5.time.holdAt) *
      (sHeadwaterLinksAndReferences5.tick - sHeadwaterLinksAndReferences5.time.holdAt))) ∧
    ((isMaster sMaster = true) ∧ (rdB sMaster timeB R.TIME_STATUS_REF_OK = true)) ∧
    ((isMaster sExpiredMaster = true) ∧ (timeState sExpiredMaster = 4) ∧ (sExpiredMaster.mode ≠ .hold) ∧ (rdB
      sExpiredMaster timeB R.TIME_STATUS_REF_OK = true) ∧ (sExpiredMaster.time.refAt + second ≤
      sExpiredMaster.tick)) ∧
    ((rdB sHeadwaterLinksAndReferences8 timeB R.TIME_STATUS_REF_OK = false)) ∧
    ((rdB sHeadwaterLinksAndReferences9 (dieB (3 : Fin 4)) R.HUB_DIE_STATUS_CLK_LOCK = true)) := by
  refine ⟨?_, ?_, ?_, ?_, ?_, ?_, ?_, ?_, ?_⟩ <;> decide +kernel

theorem test_meets_RegisterWritesFollowTheAccessCodes :
    ((([4, 5, 6] : List Byte).length < 4)) ∧
    ((262146 % 4 ≠ 0)) ∧
    ((windowAt 0x6000000 = none) ∧ (blockAt 0x6000000 = none)) ∧
    ((hostOff sPlain = false)) ∧
    ((hostOff sRunning = false) ∧ (inReset sRunning ((191 : Fin 192).val / 48) = false) ∧ (chRuns sRunning (191 :
      Fin 192) = true) ∧ ((2 : Fin 4294967296).val % 4 ≠ rd sRunning (chB (191 : Fin 192)) R.CH_KIND_KIND)) ∧
    ((hostOff sRegisterWritesFollowTheAccessCodes5 = false) ∧ (inReset sRegisterWritesFollowTheAccessCodes5 ((191 :
      Fin 192).val / 48) = false)) ∧
    ((hostOff sRegisterWritesFollowTheAccessCodes5 = false) ∧ (inReset sRegisterWritesFollowTheAccessCodes5 ((191 :
      Fin 192).val / 48) = false)) ∧
    ((hostOff sRegisterWritesFollowTheAccessCodes6 = false) ∧ (sRegisterWritesFollowTheAccessCodes6.latch = [])) := by
  refine ⟨?_, ?_, ?_, ?_, ?_, ?_, ?_, ?_⟩ <;> decide +kernel

theorem test_meets_WideAccessesAreSplitInAscendingOrder :
    ((hostOff sRegisterWritesFollowTheAccessCodes6 = false) ∧ ((timeB + R.TIME_NOW_LO_NOW.off) % 4 = 0)) := by
  decide +kernel

theorem test_meets_PairReadsLatchTheUpperWord :
    ((hostOff sPlain = false)) ∧
    ((hostOff sPlain = false)) ∧
    ((hostOff sPlain = false) ∧ (sPlain.latch.find? (fun e => e.1 == 0 && e.2.1 == timeB + R.TIME_NOW_HI_NOW.off) =
      some (0, timeB + R.TIME_NOW_HI_NOW.off, 4))) ∧
    ((hostOff sMaster = false) ∧ (sMaster.latch.find? (fun e => e.1 == 0 && e.2.1 == timeB + R.TIME_NOW_HI_NOW.off)
      = none)) := by
  refine ⟨?_, ?_, ?_, ?_⟩ <;> decide +kernel

theorem test_meets_LinesOfAFrameAreComposed :
    ((composing sLine (191 : Fin 192) = some ((sLine.frmsOf 191).headD { fno := 0, bnd := 0 })) ∧ (frameOf sLine
      (191 : Fin 192) ((sLine.frmsOf 191).headD { fno := 0, bnd := 0 }).fno = some ((sLine.frmsOf 191).headD
      { fno := 0, bnd := 0 })) ∧ (((sLine.frmsOf 191).headD { fno := 0, bnd := 0 }).lines < 1) ∧ (1 < frmH
      ((sLine.frmsOf 191).headD { fno := 0, bnd := 0 }) (191 : Fin 192)) ∧ (needsLayer ((sLine.frmsOf 191).headD
      { fno := 0, bnd := 0 }).comp (191 : Fin 192) (0 : Fin 9) 1 = true) ∧ (gotLine ((sLine.frmsOf 191).headD
      { fno := 0, bnd := 0 }).comp (0 : Fin 9) 1 = none) ∧ (linesBefore ((sLine.frmsOf 191).headD
      { fno := 0, bnd := 0 }) (191 : Fin 192) (0 : Fin 9) 1 = true) ∧ (lineReady ((sLine.frmsOf 191).headD
      { fno := 0, bnd := 0 }).comp (191 : Fin 192) ((sLine.frmsOf 191).headD { fno := 0, bnd := 0 }).lines = false)
      ∧ (∀ j < 8, layerFn ((sLine.frmsOf 191).headD { fno := 0, bnd := 0 }).comp j = 0)) ∧
    ((composing sLineR (191 : Fin 192) = some ((sLineR.frmsOf 191).headD { fno := 0, bnd := 0 })) ∧ (frameOf sLineR
      (191 : Fin 192) ((sLineR.frmsOf 191).headD { fno := 0, bnd := 0 }).fno = some ((sLineR.frmsOf 191).headD
      { fno := 0, bnd := 0 })) ∧ (((sLineR.frmsOf 191).headD { fno := 0, bnd := 0 }).lines < 1) ∧ (1 < frmH
      ((sLineR.frmsOf 191).headD { fno := 0, bnd := 0 }) (191 : Fin 192)) ∧ (needsLayer ((sLineR.frmsOf 191).headD
      { fno := 0, bnd := 0 }).comp (191 : Fin 192) (0 : Fin 9) 1 = true) ∧ (gotLine ((sLineR.frmsOf 191).headD
      { fno := 0, bnd := 0 }).comp (0 : Fin 9) 1 = none) ∧ (linesBefore ((sLineR.frmsOf 191).headD
      { fno := 0, bnd := 0 }) (191 : Fin 192) (0 : Fin 9) 1 = true) ∧ (lineReady ((sLineR.frmsOf 191).headD
      { fno := 0, bnd := 0 }).comp (191 : Fin 192) ((sLineR.frmsOf 191).headD { fno := 0, bnd := 0 }).lines =
      false) ∧ (∀ j < 9, j ≠ (0 : Fin 9).val → needsLayer ((sLineR.frmsOf 191).headD { fno := 0, bnd := 0 }).comp
      (191 : Fin 192) j ((sLineR.frmsOf 191).headD { fno := 0, bnd := 0 }).lines = true → layerFn ((sLineR.frmsOf
      191).headD { fno := 0, bnd := 0 }).comp j = 0) ∧ ((lineUnits sLineR ((sLineR.frmsOf 191).headD
      { fno := 0, bnd := 0 }).comp (191 : Fin 192) (0 : Fin 9) (frmW ((sLineR.frmsOf 191).headD
      { fno := 0, bnd := 0 }) (191 : Fin 192)) 1 (frmW ((sLineR.frmsOf 191).headD { fno := 0, bnd := 0 }) (191 :
      Fin 192))).head? = some 1) ∧ (((sLineR.frmsOf 191).headD { fno := 0, bnd := 0 }).comp.units = []) ∧
      (fetchUnit sLineR (layerFn ((sLineR.frmsOf 191).headD { fno := 0, bnd := 0 }).comp (0 : Fin 9)) (layerSurf
      sLineR ((sLineR.frmsOf 191).headD { fno := 0, bnd := 0 }).comp (191 : Fin 192) (0 : Fin 9)) 1 = none)) ∧
    ((composing sLine2 (191 : Fin 192) = some ((sLine2.frmsOf 191).headD { fno := 0, bnd := 0 })) ∧ (frameOf sLine2
      (191 : Fin 192) ((sLine2.frmsOf 191).headD { fno := 0, bnd := 0 }).fno = some ((sLine2.frmsOf 191).headD
      { fno := 0, bnd := 0 })) ∧ (((sLine2.frmsOf 191).headD { fno := 0, bnd := 0 }).lines < frmH ((sLine2.frmsOf
      191).headD { fno := 0, bnd := 0 }) (191 : Fin 192)) ∧ (lineDeadline sLine2 (191 : Fin 192) ((sLine2.frmsOf
      191).headD { fno := 0, bnd := 0 }) ((sLine2.frmsOf 191).headD { fno := 0, bnd := 0 }).lines ≤ sLine2.ht)) ∧
    ((composing sDoneFrame (191 : Fin 192) = some ((sDoneFrame.frmsOf 191).headD { fno := 0, bnd := 0 })) ∧
      (frameOf sDoneFrame (191 : Fin 192) ((sDoneFrame.frmsOf 191).headD { fno := 0, bnd := 0 }).fno = some
      ((sDoneFrame.frmsOf 191).headD { fno := 0, bnd := 0 })) ∧ (frmH ((sDoneFrame.frmsOf 191).headD
      { fno := 0, bnd := 0 }) (191 : Fin 192) ≤ ((sDoneFrame.frmsOf 191).headD { fno := 0, bnd := 0 }).lines) ∧
      (((sDoneFrame.frmsOf 191).headD { fno := 0, bnd := 0 }).comp.levee = false ∨ rdB sDoneFrame (chB (191 : Fin
      192)) R.COMP_LEVEE_CTRL_FORCE_DARK = false)) := by
  refine ⟨?_, ?_, ?_, ?_⟩ <;> decide +kernel

theorem test_meets_FlipsStartFrames :
    ((flipDue sFlip (191 : Fin 192) = some ((sFlip.frmsOf 191).headD { fno := 0, bnd := 0 })) ∧ (isLive sFlip (191
      : Fin 192) = true) ∧ (flipsAt sFlip (191 : Fin 192) ((sFlip.frmsOf 191).headD { fno := 0, bnd := 0 }).bnd =
      true) ∧ ((sFlip.chst (191 : Fin 192)).pre = []) ∧ ((sFlip.chst (191 : Fin 192)).commits = []) ∧ ((sFlip.chst
      (191 : Fin 192)).updates = []) ∧ ((sFlip.chst (191 : Fin 192)).fences = []) ∧ ((sFlip.chst (191 : Fin
      192)).clips = []) ∧ ((sFlip.chst (191 : Fin 192)).leave = 0) ∧ ((sFlip.chst (191 : Fin 192)).released = []) ∧
      ((sFlip.pipeCh (191 : Fin 192)).down = false)) ∧
    ((sPreempt.chState (191 : Fin 192) = .running) ∧ (commitReason sPreempt (191 : Fin 192) 0 (pf0Flips sPreempt
      (191 : Fin 192)) = 0) ∧ ((sPreempt.chst (191 : Fin 192)).preempt = none) ∧ ((sPreempt.frmsOf (191 : Fin
      192)).find? (fun p => decide (sPreempt.ht + rd sPreempt (chB (191 : Fin 192)) R.COMP_FLIP_PREEMPT_LEAD * us ≤
      p.bnd)) = none)) ∧
    ((fmtMayEnd sFlipsStartFrames2 (191 : Fin 192) = true)) ∧
    ((rangeMayEnd sFlipsStartFrames3 (191 : Fin 192) = true)) := by
  refine ⟨?_, ?_, ?_, ?_⟩ <;> decide +kernel

theorem test_meets_PoolSlotsAndWriteBack :
    (((sWaits.frmsOf (191 : Fin 192)).find? (fun p => p.flipped && !p.dropped && p.complete.isNone) = some
      ((sWaits.frmsOf 191).headD { fno := 0, bnd := 0 })) ∧ (slotFree sWaits (191 : Fin 192) ((sWaits.frmsOf
      191).headD { fno := 0, bnd := 0 }) = true) ∧ (((sWaits.frmsOf 191).headD { fno := 0, bnd := 0 }).comp.held ≠
      [] ∨ ((sWaits.frmsOf 191).headD { fno := 0, bnd := 0 }).waitLines ≠ 0) ∧ (((sWaits.frmsOf 191).headD
      { fno := 0, bnd := 0 }).comp.ended = true)) ∧
    (((sPoolSlotsAndWriteBack1.frmsOf (191 : Fin 192)).find? (fun p => p.flipped && !p.dropped &&
      p.complete.isNone) = some ({ fno := 5, bnd := 900, flipped := true } : Machine.Frm)) ∧ (slotFree
      sPoolSlotsAndWriteBack1 (191 : Fin 192) ({ fno := 5, bnd := 900, flipped := true } : Machine.Frm) = false) ∧
      (({ fno := 5, bnd := 900, flipped := true } : Machine.Frm).bnd ≤ sPoolSlotsAndWriteBack1.ht + lead
      sPoolSlotsAndWriteBack1 (191 : Fin 192)) ∧ (({ fno := 5, bnd := 900, flipped := true } : Machine.Frm).written
      = 0)) ∧
    (((sWb.frmsOf (191 : Fin 192)).find? (fun p => p.flipped && p.comp.ended && p.comp.wb.isSome) = some
      ((sWb.frmsOf 191).headD { fno := 0, bnd := 0 })) ∧ (((sWb.frmsOf 191).headD
      { fno := 0, bnd := 0 }).comp.wbDrop = 0)) ∧
    (((sWbBad.frmsOf (191 : Fin 192)).find? (fun p => p.flipped && p.comp.ended && p.comp.wb.isSome) = some
      ((sWbBad.frmsOf 191).headD { fno := 0, bnd := 0 })) ∧ (((sWbBad.frmsOf 191).headD
      { fno := 0, bnd := 0 }).comp.wbDrop ≠ 0)) := by
  refine ⟨?_, ?_, ?_, ?_⟩ <;> decide +kernel

theorem test_meets_CompositionRegistersWithAStepOfTheirOwn :
    ((rd sCompositionRegistersWithAStepOfTheirOwn0 (chB (191 : Fin 192)) R.COMP_LUT_IDX_ENTRY ≤ 1024) ∧ (rd
      sCompositionRegistersWithAStepOfTheirOwn0 (chB (191 : Fin 192)) R.COMP_LUT_IDX_PRI ≠ 3) ∧ (ef
      sCompositionRegistersWithAStepOfTheirOwn0 (chB (191 : Fin 192)) R.COMP_CTRL_LUT_BANK ≠ rd
      sCompositionRegistersWithAStepOfTheirOwn0 (chB (191 : Fin 192)) R.COMP_LUT_IDX_BANK) ∧ (rd
      sCompositionRegistersWithAStepOfTheirOwn0 (chB (191 : Fin 192)) R.COMP_CTRL_LUT_BANK ≠ rd
      sCompositionRegistersWithAStepOfTheirOwn0 (chB (191 : Fin 192)) R.COMP_LUT_IDX_BANK)) ∧
    ((rd sRunning (chB (191 : Fin 192)) R.COMP_LUT_IDX_ENTRY ≤ 1024) ∧ (rd sRunning (chB (191 : Fin 192))
      R.COMP_LUT_IDX_PRI ≠ 3)) ∧
    ((rd sRunning (chB (191 : Fin 192)) R.COMP_LUT_IDX_ENTRY ≤ 1024) ∧ (rd sRunning (chB (191 : Fin 192))
      R.COMP_LUT_IDX_PRI ≠ 3) ∧ (ef sRunning (chB (191 : Fin 192)) R.COMP_CTRL_LUT_BANK = rd sRunning (chB (191 :
      Fin 192)) R.COMP_LUT_IDX_BANK ∨ rd sRunning (chB (191 : Fin 192)) R.COMP_CTRL_LUT_BANK = rd sRunning (chB
      (191 : Fin 192)) R.COMP_LUT_IDX_BANK)) ∧
    (((0 : Fin 257).val = 0 ∨ seqOwner sCompositionRegistersWithAStepOfTheirOwn3 (191 : Fin 192) = (0 : Fin
      257).val)) ∧
    (((256 : Fin 257).val ≠ 0) ∧ (seqOwner sRunning (191 : Fin 192) ≠ (256 : Fin 257).val)) := by
  refine ⟨?_, ?_, ?_, ?_, ?_⟩ <;> decide +kernel

theorem test_meets_SequencerRegisterInstructions :
    ((SeqAt sSequencerRegisterInstructions0 (191 : Fin 192) 0) ∧ (opcode 0 = 0)) ∧
    ((SeqAt sSequencerRegisterInstructions1 (191 : Fin 192) 165707776) ∧ (opcode 165707776 = 2)) ∧
    ((SeqAt sSequencerRegisterInstructions1b (191 : Fin 192) 134414335) ∧ (opcode 134414335 = 2)) ∧
    ((SeqAt sSequencerRegisterInstructions2 (191 : Fin 192) 233897984) ∧ (opcode 233897984 = 3)) ∧
    ((SeqAt sSequencerRegisterInstructions2b (191 : Fin 192) 239075328) ∧ (opcode 239075328 = 3)) ∧
    ((SeqAt sSequencerRegisterInstructions3 (191 : Fin 192) 299958271) ∧ (opcode 299958271 = 4)) ∧
    ((SeqAt sSequencerRegisterInstructions4 (191 : Fin 192) 337984512) ∧ (opcode 337984512 = 5)) ∧
    ((SeqAt sSequencerRegisterInstructions5 (191 : Fin 192) 404755456) ∧ (opcode 404755456 = 6)) ∧
    ((SeqAt sSequencerRegisterInstructions6 (191 : Fin 192) 471864320) ∧ (opcode 471864320 = 7)) ∧
    ((SeqAt sSequencerRegisterInstructions7 (191 : Fin 192) 538973184) ∧ (opcode 538973184 = 8)) ∧
    ((SeqAt sSequencerRegisterInstructions8 (191 : Fin 192) 606092288) ∧ (opcode 606092288 = 9)) ∧
    ((SeqAt sSequencerRegisterInstructions9 (191 : Fin 192) 673218591) ∧ (opcode 673218591 = 10)) ∧
    ((SeqAt sSequencerRegisterInstructions10 (191 : Fin 192) 738202624) ∧ (opcode 738202624 = 11)) ∧
    ((SeqAt sSequencerRegisterInstructions11 (191 : Fin 192) 805310463) ∧ (opcode 805310463 = 12)) ∧
    ((SeqAt sSequencerRegisterInstructions12 (191 : Fin 192) 905969666) ∧ (opcode 905969666 = 13)) ∧
    ((SeqAt sSequencerRegisterInstructions12b (191 : Fin 192) 901775362) ∧ (opcode 901775362 = 13)) ∧
    ((SeqAt sSequencerRegisterInstructions13 (191 : Fin 192) 939524097) ∧ (opcode 939524097 = 14)) ∧
    ((SeqAt sSequencerRegisterInstructions14 (191 : Fin 192) 1006632960) ∧ (opcode 1006632960 = 15) ∧
      ((sSequencerRegisterInstructions14.seq (191 : Fin 192)).stack = 9 :: [8])) := by
  refine ⟨?_, ?_, ?_, ?_, ?_, ?_, ?_, ?_, ?_, ?_, ?_, ?_, ?_, ?_, ?_, ?_, ?_, ?_⟩ <;> decide +kernel

theorem test_meets_LoopRegisterInstructions :
    ((LoopAt sLoopRegisterInstructions0 (2047 : Fin 2048) 0) ∧ (opcode 0 = 0)) ∧
    ((LoopAt sLoopRegisterInstructions1 (2047 : Fin 2048) 200425344) ∧ (opcode 200425344 = 2)) ∧
    ((LoopAt sLoopRegisterInstructions1b (2047 : Fin 2048) 134250496) ∧ (opcode 134250496 = 2)) ∧
    ((LoopAt sLoopRegisterInstructions2 (2047 : Fin 2048) 217055232) ∧ (opcode 217055232 = 3)) ∧
    ((LoopAt sLoopRegisterInstructions2b (2047 : Fin 2048) 268419072) ∧ (opcode 268419072 = 3)) ∧
    ((LoopAt sLoopRegisterInstructions2bb (2047 : Fin 2048) 204537856) ∧ (opcode 204537856 = 3)) ∧
    ((LoopAt sLoopRegisterInstructions3 (2047 : Fin 2048) 283181055) ∧ (opcode 283181055 = 4)) ∧
    ((LoopAt sLoopRegisterInstructions4 (2047 : Fin 2048) 337976320) ∧ (opcode 337976320 = 5)) ∧
    ((LoopAt sLoopRegisterInstructions5 (2047 : Fin 2048) 404755456) ∧ (opcode 404755456 = 6)) ∧
    ((LoopAt sLoopRegisterInstructions6 (2047 : Fin 2048) 471864320) ∧ (opcode 471864320 = 7)) ∧
    ((LoopAt sLoopRegisterInstructions7 (2047 : Fin 2048) 538973184) ∧ (opcode 538973184 = 8)) ∧
    ((LoopAt sLoopRegisterInstructions8 (2047 : Fin 2048) 606084096) ∧ (opcode 606084096 = 9)) ∧
    ((LoopAt sLoopRegisterInstructions9 (2047 : Fin 2048) 673218591) ∧ (opcode 673218591 = 10)) ∧
    ((LoopAt sLoopRegisterInstructions10 (2047 : Fin 2048) 738202624) ∧ (opcode 738202624 = 11) ∧ (bitOf 738202624
      21 = false)) ∧
    ((LoopAt sLoopRegisterInstructions11 (2047 : Fin 2048) 742326272) ∧ (opcode 742326272 = 11) ∧ (bitOf 742326272
      21 = true) ∧ (fNaN ((sLoopRegisterInstructions11.core (coreOf (2047 : Fin 2048))).f (iRA 742326272)) = false)
      ∧ (fNaN ((sLoopRegisterInstructions11.core (coreOf (2047 : Fin 2048))).f (iRB 742326272)) = false)) ∧
    ((LoopAt sLoopRegisterInstructions12 (2047 : Fin 2048) 805310463) ∧ (opcode 805310463 = 12)) ∧
    ((LoopAt sLoopRegisterInstructions13 (2047 : Fin 2048) 872415234) ∧ (opcode 872415234 = 13)) ∧
    ((LoopAt sLoopRegisterInstructions13b (2047 : Fin 2048) 876609538) ∧ (opcode 876609538 = 13)) ∧
    ((LoopAt sLoopRegisterInstructions14 (2047 : Fin 2048) 939524097) ∧ (opcode 939524097 = 14)) ∧
    ((LoopAt sLoopRegisterInstructions15 (2047 : Fin 2048) 1006632960) ∧ (opcode 1006632960 = 15) ∧
      ((sLoopRegisterInstructions15.slot (2047 : Fin 2048)).stack = 9 :: [8])) := by
  refine ⟨?_, ?_, ?_, ?_, ?_, ?_, ?_, ?_, ?_, ?_, ?_, ?_, ?_, ?_, ?_, ?_, ?_, ?_, ?_, ?_⟩ <;> decide +kernel

theorem test_meets_MemoryHaltAndSignalInstructions :
    ((SeqAt sMemoryHaltAndSignalInstructions0 (191 : Fin 192) 1107247100) ∧ (opcode 1107247100 = 16) ∧ (badAccess
      (memAddr ((sMemoryHaltAndSignalInstructions0.seq (191 : Fin 192)).reg (iRA 1107247100)) 1107247100) 0x4000 =
      false)) ∧
    ((SeqAt sMemoryHaltAndSignalInstructions0b (191 : Fin 192) 1076166657) ∧ (opcode 1076166657 = 16) ∧ (badAccess
      (memAddr ((sMemoryHaltAndSignalInstructions0b.seq (191 : Fin 192)).reg (iRA 1076166657)) 1076166657) 0x4000 =
      false)) ∧
    ((SeqAt sMemoryHaltAndSignalInstructions1 (191 : Fin 192) 1174355964) ∧ (opcode 1174355964 = 17) ∧ (badAccess
      (memAddr ((sMemoryHaltAndSignalInstructions1.seq (191 : Fin 192)).reg (iRA 1174355964)) 1174355964) 0x4000 =
      false)) ∧
    ((SeqAt sMemoryHaltAndSignalInstructions1b (191 : Fin 192) 1143275521) ∧ (opcode 1143275521 = 17) ∧ (badAccess
      (memAddr ((sMemoryHaltAndSignalInstructions1b.seq (191 : Fin 192)).reg (iRA 1143275521)) 1143275521) 0x4000 =
      false)) ∧
    ((LoopAt sMemoryHaltAndSignalInstructions2 (2047 : Fin 2048) 1140817948) ∧ (opcode 1140817948 = 16) ∧
      (badAccess (memAddr ((sMemoryHaltAndSignalInstructions2.core (coreOf (2047 : Fin 2048))).i (iRA 1140817948))
      1140817948) (4 * winSize sMemoryHaltAndSignalInstructions2 (2047 : Fin 2048)) = false)) ∧
    ((LoopAt sMemoryHaltAndSignalInstructions3 (2047 : Fin 2048) 1207926812) ∧ (opcode 1207926812 = 17) ∧
      (badAccess (memAddr ((sMemoryHaltAndSignalInstructions3.core (coreOf (2047 : Fin 2048))).i (iRA 1207926812))
      1207926812) (4 * winSize sMemoryHaltAndSignalInstructions3 (2047 : Fin 2048)) = false)) ∧
    ((SeqAt sMemoryHaltAndSignalInstructions4 (191 : Fin 192) 67108864) ∧ (opcode 67108864 = 1)) ∧
    ((LoopAt sMemoryHaltAndSignalInstructions5 (2047 : Fin 2048) 67108864) ∧ (opcode 67108864 = 1)) ∧
    ((SeqAt sMemoryHaltAndSignalInstructions6 (191 : Fin 192) 1208025087) ∧ (opcode 1208025087 = 18)) ∧
    ((LoopAt sMemoryHaltAndSignalInstructions7 (2047 : Fin 2048) 1208025087) ∧ (opcode 1208025087 = 18)) ∧
    ((SeqAt sMemoryHaltAndSignalInstructions6 (191 : Fin 192) 1208025087) ∧ (opcode 1208025087 = 18)) ∧
    ((LoopAt sMemoryHaltAndSignalInstructions7 (2047 : Fin 2048) 1208025087) ∧ (opcode 1208025087 = 18)) ∧
    ((SeqAt sMemoryHaltAndSignalInstructions10 (191 : Fin 192) 1073741825) ∧ (opcode 1073741825 = 16) ∧ (badAccess
      (memAddr ((sMemoryHaltAndSignalInstructions10.seq (191 : Fin 192)).reg (iRA 1073741825)) 1073741825) 0x4000 =
      true)) ∧
    ((SeqAt sMemoryHaltAndSignalInstructions10b (191 : Fin 192) 1075773442) ∧ (opcode 1075773442 = 16) ∧ (badAccess
      (memAddr ((sMemoryHaltAndSignalInstructions10b.seq (191 : Fin 192)).reg (iRA 1075773442)) 1075773442) 0x4000
      = true)) := by
  refine ⟨?_, ?_, ?_, ?_, ?_, ?_, ?_, ?_, ?_, ?_, ?_, ?_, ?_, ?_⟩ <;> decide +kernel

theorem test_meets_CounterClears :
    (((256 : Fin 257).val ≠ 0)) := by
  decide +kernel

theorem test_meets_ItemsSamplesAndTime :
    ((SeqAt sItemsSamplesAndTime0 (191 : Fin 192) 1652555776) ∧ (opcode 1652555776 = 0x18) ∧ (PassesAt
      sItemsSamplesAndTime0 (191 : Fin 192) (sItemsSamplesAndTime0.seq (191 : Fin 192)).tc) ∧ (kindAllows (rd
      sItemsSamplesAndTime0 (chB (191 : Fin 192)) R.CH_KIND_KIND) 0x18 = true) ∧ (2047 = (if bits 1652555776 24 2 =
      0 then bits 1652555776 0 11 else if bits 1652555776 24 2 = 1 then (sItemsSamplesAndTime0.seq (191 : Fin
      192)).reg (iRA 1652555776) else (sItemsSamplesAndTime0.seq (191 : Fin 192)).dx)) ∧ (2047 < 2048) ∧ (dReserved
      (descrAt sItemsSamplesAndTime0 (191 : Fin 192) (seqBank sItemsSamplesAndTime0 (191 : Fin 192)) 2047) = false)
      ∧ (dSlice (descrAt sItemsSamplesAndTime0 (191 : Fin 192) (seqBank sItemsSamplesAndTime0 (191 : Fin 192))
      2047) < sliceN sItemsSamplesAndTime0 (191 : Fin 192)) ∧ (dStr (descrAt sItemsSamplesAndTime0 (191 : Fin 192)
      (seqBank sItemsSamplesAndTime0 (191 : Fin 192)) 2047) < headStrings sItemsSamplesAndTime0 (191 : Fin 192)) ∧
      ((sItemsSamplesAndTime0.seq (191 : Fin 192)).tc + 4 * dDur (descrAt sItemsSamplesAndTime0 (191 : Fin 192)
      (seqBank sItemsSamplesAndTime0 (191 : Fin 192)) 2047) < 2 ^ 63)) ∧
    ((SeqAt sItemsSamplesAndTime0b (191 : Fin 192) 1610612741) ∧ (opcode 1610612741 = 0x18) ∧ (PassesAt
      sItemsSamplesAndTime0b (191 : Fin 192) (sItemsSamplesAndTime0b.seq (191 : Fin 192)).tc) ∧ (kindAllows (rd
      sItemsSamplesAndTime0b (chB (191 : Fin 192)) R.CH_KIND_KIND) 0x18 = true) ∧ (5 = (if bits 1610612741 24 2 = 0
      then bits 1610612741 0 11 else if bits 1610612741 24 2 = 1 then (sItemsSamplesAndTime0b.seq (191 : Fin
      192)).reg (iRA 1610612741) else (sItemsSamplesAndTime0b.seq (191 : Fin 192)).dx)) ∧ (5 < 2048) ∧ (dReserved
      (descrAt sItemsSamplesAndTime0b (191 : Fin 192) (seqBank sItemsSamplesAndTime0b (191 : Fin 192)) 5) = false)
      ∧ (dSlice (descrAt sItemsSamplesAndTime0b (191 : Fin 192) (seqBank sItemsSamplesAndTime0b (191 : Fin 192)) 5)
      < sliceN sItemsSamplesAndTime0b (191 : Fin 192)) ∧ (dStr (descrAt sItemsSamplesAndTime0b (191 : Fin 192)
      (seqBank sItemsSamplesAndTime0b (191 : Fin 192)) 5) < headStrings sItemsSamplesAndTime0b (191 : Fin 192)) ∧
      ((sItemsSamplesAndTime0b.seq (191 : Fin 192)).tc + 4 * dDur (descrAt sItemsSamplesAndTime0b (191 : Fin 192)
      (seqBank sItemsSamplesAndTime0b (191 : Fin 192)) 5) < 2 ^ 63)) ∧
    ((SeqAt sItemsSamplesAndTime1 (191 : Fin 192) 1677721609) ∧ (opcode 1677721609 = 0x19) ∧ (PassesAt
      sItemsSamplesAndTime1 (191 : Fin 192) (sItemsSamplesAndTime1.seq (191 : Fin 192)).tc) ∧ (kindAllows (rd
      sItemsSamplesAndTime1 (chB (191 : Fin 192)) R.CH_KIND_KIND) 0x19 = true) ∧ (9 = (if iReg24 1677721609 = true
      then (sItemsSamplesAndTime1.seq (191 : Fin 192)).reg (iRA 1677721609) % 4096 else bits 1677721609 0 12)) ∧ (9
      < outH sItemsSamplesAndTime1 (191 : Fin 192))) ∧
    ((SeqAt sItemsSamplesAndTime1b (191 : Fin 192) 1694564352) ∧ (opcode 1694564352 = 0x19) ∧ (PassesAt
      sItemsSamplesAndTime1b (191 : Fin 192) (sItemsSamplesAndTime1b.seq (191 : Fin 192)).tc) ∧ (kindAllows (rd
      sItemsSamplesAndTime1b (chB (191 : Fin 192)) R.CH_KIND_KIND) 0x19 = true) ∧ (7 = (if iReg24 1694564352 = true
      then (sItemsSamplesAndTime1b.seq (191 : Fin 192)).reg (iRA 1694564352) % 4096 else bits 1694564352 0 12)) ∧
      (7 < outH sItemsSamplesAndTime1b (191 : Fin 192))) ∧
    ((SeqAt sItemsSamplesAndTime2 (191 : Fin 192) 1744895999) ∧ (opcode 1744895999 = 0x1A) ∧ (PassesAt
      sItemsSamplesAndTime2 (191 : Fin 192) (sItemsSamplesAndTime2.seq (191 : Fin 192)).tc) ∧ (kindAllows (rd
      sItemsSamplesAndTime2 (chB (191 : Fin 192)) R.CH_KIND_KIND) 0x1A = true) ∧ (65535 = (if iReg24 1744895999 =
      true then (sItemsSamplesAndTime2.seq (191 : Fin 192)).reg (iRA 1744895999) % 65536 else iImm 1744895999)) ∧
      (65535 < 2 ^ outBlocks sItemsSamplesAndTime2 (191 : Fin 192))) ∧
    ((SeqAt sItemsSamplesAndTime3 (191 : Fin 192) 1832976383) ∧ (opcode 1832976383 = 0x1B) ∧ (PassesAt
      sItemsSamplesAndTime3 (191 : Fin 192) (sItemsSamplesAndTime3.seq (191 : Fin 192)).tc) ∧ (iStr 1832976383 <
      headStrings sItemsSamplesAndTime3 (191 : Fin 192)) ∧ (65535 = (if iReg 1832976383 = true then
      (sItemsSamplesAndTime3.seq (191 : Fin 192)).reg (iRA 1832976383) % 65536 else iImm 1832976383))) ∧
    ((SeqAt sItemsSamplesAndTime3b (191 : Fin 192) 1814102016) ∧ (opcode 1814102016 = 0x1B) ∧ (PassesAt
      sItemsSamplesAndTime3b (191 : Fin 192) (sItemsSamplesAndTime3b.seq (191 : Fin 192)).tc) ∧ (iStr 1814102016 <
      headStrings sItemsSamplesAndTime3b (191 : Fin 192)) ∧ (7 = (if iReg 1814102016 = true then
      (sItemsSamplesAndTime3b.seq (191 : Fin 192)).reg (iRA 1814102016) % 65536 else iImm 1814102016))) ∧
    ((SeqAt sItemsSamplesAndTime4 (191 : Fin 192) 1903230975) ∧ (opcode 1903230975 = 0x1C) ∧ (iStr 1903230975 <
      headStrings sItemsSamplesAndTime4 (191 : Fin 192))) ∧
    ((SeqAt sItemsSamplesAndTime5 (191 : Fin 192) 1946222592) ∧ (opcode 1946222592 = 0x1D) ∧
      ((sItemsSamplesAndTime5.seq (191 : Fin 192)).reg (iRA 1946222592 + 1) < 2 ^ 31)) ∧
    ((SeqAt sItemsSamplesAndTime6 (191 : Fin 192) 2021720063) ∧ (opcode 2021720063 = 0x1E) ∧ (262140000 = (if iReg
      2021720063 = true then (sItemsSamplesAndTime6.seq (191 : Fin 192)).reg (iRA 2021720063) % 2 ^ 32 else iImm
      2021720063) * (if iUnit 2021720063 = 0 then 1 else if iUnit 2021720063 = 1 then 4 else 4000)) ∧
      ((sItemsSamplesAndTime6.seq (191 : Fin 192)).tc + 262140000 < 2 ^ 63)) ∧
    ((SeqAt sItemsSamplesAndTime6b (191 : Fin 192) 2019622912) ∧ (opcode 2019622912 = 0x1E) ∧ (28 = (if iReg
      2019622912 = true then (sItemsSamplesAndTime6b.seq (191 : Fin 192)).reg (iRA 2019622912) % 2 ^ 32 else iImm
      2019622912) * (if iUnit 2019622912 = 0 then 1 else if iUnit 2019622912 = 1 then 4 else 4000)) ∧
      ((sItemsSamplesAndTime6b.seq (191 : Fin 192)).tc + 28 < 2 ^ 63)) ∧
    ((SeqAt sItemsSamplesAndTime7 (191 : Fin 192) 2080374784) ∧ (opcode 2080374784 = 0x1F) ∧
      ((sItemsSamplesAndTime7.seq (191 : Fin 192)).tc ≤ sItemsSamplesAndTime7.ht)) ∧
    ((SeqAt sItemsSamplesAndTime8 (191 : Fin 192) 2080374784) ∧ (opcode 2080374784 = 0x1F) ∧
      (sItemsSamplesAndTime8.ht < (sItemsSamplesAndTime8.seq (191 : Fin 192)).tc)) ∧
    (((sItemsSamplesAndTime9.seq (191 : Fin 192)).run = .waitT) ∧ ((sItemsSamplesAndTime9.seq (191 : Fin 192)).tc ≤
      sItemsSamplesAndTime9.ht)) ∧
    ((SeqAt sItemsSamplesAndTime10 (191 : Fin 192) 2147483648) ∧ (opcode 2147483648 = 0x20) ∧ (wheelLoop
      sItemsSamplesAndTime10 (191 : Fin 192) = true) ∧ (nextIndex sItemsSamplesAndTime10 (191 : Fin 192) (bits
      2147483648 16 4) (sItemsSamplesAndTime10.seq (191 : Fin 192)).tc = some 23000) ∧ (23000 < 2 ^ 63)) ∧
    ((SeqAt sItemsSamplesAndTime11 (191 : Fin 192) 2147680263) ∧ (opcode 2147680263 = 0x20) ∧ (wheelLoop
      sItemsSamplesAndTime11 (191 : Fin 192) = true) ∧ (prediction sItemsSamplesAndTime11 (191 : Fin 192) = none)) ∧
    (((sItemsSamplesAndTime12.seq (191 : Fin 192)).run = .waitIx 0 9) ∧ (nextIndex sItemsSamplesAndTime12 (191 :
      Fin 192) 0 (sItemsSamplesAndTime12.seq (191 : Fin 192)).tc = some 23000) ∧ (23000 < 2 ^ 63)) ∧
    (((sItemsSamplesAndTime13.seq (191 : Fin 192)).run = .waitIx 0 9) ∧ (prediction sItemsSamplesAndTime13 (191 :
      Fin 192) = none) ∧ (9 ≤ sItemsSamplesAndTime13.ht)) := by
  refine ⟨?_, ?_, ?_, ?_, ?_, ?_, ?_, ?_, ?_, ?_, ?_, ?_, ?_, ?_, ?_, ?_, ?_, ?_⟩ <;> decide +kernel

theorem test_meets_MarksGapsAndPrivilegedItems :
    ((SeqAt sMarksGapsAndPrivilegedItems0 (191 : Fin 192) 2214592512) ∧ (opcode 2214592512 = 0x21) ∧ (PassesAt
      sMarksGapsAndPrivilegedItems0 (191 : Fin 192) (sMarksGapsAndPrivilegedItems0.seq (191 : Fin 192)).tc) ∧
      (kindAllows (rd sMarksGapsAndPrivilegedItems0 (chB (191 : Fin 192)) R.CH_KIND_KIND) 0x21 = true) ∧
      ((sMarksGapsAndPrivilegedItems0.seq (191 : Fin 192)).swaps = 0)) ∧
    ((SeqAt sMarksGapsAndPrivilegedItems1 (191 : Fin 192) 2281701376) ∧ (opcode 2281701376 = 0x22) ∧ (EmitsAt
      sMarksGapsAndPrivilegedItems1 (191 : Fin 192) (sMarksGapsAndPrivilegedItems1.seq (191 : Fin 192)).tc) ∧
      ((sMarksGapsAndPrivilegedItems1.seq (191 : Fin 192)).lastT ≤ (sMarksGapsAndPrivilegedItems1.seq (191 : Fin
      192)).tc) ∧ (∀ f ∈ (sMarksGapsAndPrivilegedItems1.seq (191 : Fin 192)).lastF, f <
      (sMarksGapsAndPrivilegedItems1.seq (191 : Fin 192)).tc) ∧ ((sMarksGapsAndPrivilegedItems1.seq (191 : Fin
      192)).swap = none) ∧ (rdB sMarksGapsAndPrivilegedItems1 (chB (191 : Fin 192)) R.SEQ_WIDTH_SWITCH_PENDING =
      false) ∧ ((sMarksGapsAndPrivilegedItems1.chst (191 : Fin 192)).preempt = none)) ∧
    ((SeqAt sMarksGapsAndPrivilegedItems2 (191 : Fin 192) 2357198857) ∧ (opcode 2357198857 = 0x23) ∧ (EmitsAt
      sMarksGapsAndPrivilegedItems2 (191 : Fin 192) (sMarksGapsAndPrivilegedItems2.seq (191 : Fin 192)).tc) ∧
      ((sMarksGapsAndPrivilegedItems2.seq (191 : Fin 192)).lastT ≤ (sMarksGapsAndPrivilegedItems2.seq (191 : Fin
      192)).tc)) ∧
    (((sMarksGapsAndPrivilegedItems3.seq (191 : Fin 192)).gaps = [({ t := 9, e := 20 } : Gap)]) ∧
      (({ t := 9, e := 20 } : Gap).offered = false) ∧ (({ t := 9, e := 20 } : Gap).t ≤
      sMarksGapsAndPrivilegedItems3.ht)) ∧
    ((SeqAt sMarksGapsAndPrivilegedItems4 (191 : Fin 192) 2705391615) ∧ (opcode 2705391615 = 0x28) ∧ (seqOwner
      sMarksGapsAndPrivilegedItems4 (191 : Fin 192) = 0) ∧ (PassesAt sMarksGapsAndPrivilegedItems4 (191 : Fin 192)
      (sMarksGapsAndPrivilegedItems4.seq (191 : Fin 192)).tc) ∧ (iStr 2705391615 < headStrings
      sMarksGapsAndPrivilegedItems4 (191 : Fin 192))) ∧
    ((SeqAt sMarksGapsAndPrivilegedItems4b (191 : Fin 192) 2686517248) ∧ (opcode 2686517248 = 0x28) ∧ (seqOwner
      sMarksGapsAndPrivilegedItems4b (191 : Fin 192) = 0) ∧ (PassesAt sMarksGapsAndPrivilegedItems4b (191 : Fin
      192) (sMarksGapsAndPrivilegedItems4b.seq (191 : Fin 192)).tc) ∧ (iStr 2686517248 < headStrings
      sMarksGapsAndPrivilegedItems4b (191 : Fin 192))) ∧
    ((SeqAt sMarksGapsAndPrivilegedItems5 (191 : Fin 192) 2751463424) ∧ (opcode 2751463424 = 0x29) ∧ (seqOwner
      sMarksGapsAndPrivilegedItems5 (191 : Fin 192) = 0) ∧ (PassesAt sMarksGapsAndPrivilegedItems5 (191 : Fin 192)
      (sMarksGapsAndPrivilegedItems5.seq (191 : Fin 192)).tc)) ∧
    ((SeqAt sMarksGapsAndPrivilegedItems6 (191 : Fin 192) 2818572288) ∧ (seqOwner sMarksGapsAndPrivilegedItems6
      (191 : Fin 192) = 0) ∧ (PassesAt sMarksGapsAndPrivilegedItems6 (191 : Fin 192)
      (sMarksGapsAndPrivilegedItems6.seq (191 : Fin 192)).tc) ∧ (isLevee 0 2818572288 = true) ∧ (isLive
      sMarksGapsAndPrivilegedItems6 (191 : Fin 192) = true)) ∧
    ((SeqAt sMarksGapsAndPrivilegedItems7 (191 : Fin 192) 2818572289) ∧ (seqOwner sMarksGapsAndPrivilegedItems7
      (191 : Fin 192) = 0) ∧ (PassesAt sMarksGapsAndPrivilegedItems7 (191 : Fin 192)
      (sMarksGapsAndPrivilegedItems7.seq (191 : Fin 192)).tc) ∧ (isLevee 1 2818572289 = true) ∧ (isLive
      sMarksGapsAndPrivilegedItems7 (191 : Fin 192) = true) ∧ (sMarksGapsAndPrivilegedItems7.chState (191 : Fin
      192) ≠ .running)) ∧
    ((SeqAt sMarksGapsAndPrivilegedItems8 (191 : Fin 192) 2818572289) ∧ (seqOwner sMarksGapsAndPrivilegedItems8
      (191 : Fin 192) = 0) ∧ (PassesAt sMarksGapsAndPrivilegedItems8 (191 : Fin 192)
      (sMarksGapsAndPrivilegedItems8.seq (191 : Fin 192)).tc) ∧ (isLevee 1 2818572289 = true) ∧
      (sMarksGapsAndPrivilegedItems8.chState (191 : Fin 192) = .running) ∧ ((sMarksGapsAndPrivilegedItems8.chst
      (191 : Fin 192)).preempt = none) ∧ ((sMarksGapsAndPrivilegedItems8.frmsOf (191 : Fin 192)).find? (fun p =>
      decide (sMarksGapsAndPrivilegedItems8.ht + rd sMarksGapsAndPrivilegedItems8 (chB (191 : Fin 192))
      R.COMP_FLIP_PREEMPT_LEAD * us ≤ p.bnd)) = none)) ∧
    ((SeqAt sMarksGapsAndPrivilegedItems9 (191 : Fin 192) 2818572290) ∧ (seqOwner sMarksGapsAndPrivilegedItems9
      (191 : Fin 192) = 0) ∧ (PassesAt sMarksGapsAndPrivilegedItems9 (191 : Fin 192)
      (sMarksGapsAndPrivilegedItems9.seq (191 : Fin 192)).tc) ∧ (isLevee 2 2818572290 = true) ∧ (isLive
      sMarksGapsAndPrivilegedItems9 (191 : Fin 192) = true)) ∧
    ((SeqAt sMarksGapsAndPrivilegedItems10 (191 : Fin 192) 2885681152) ∧ (opcode 2885681152 = 0x2B) ∧ (seqOwner
      sMarksGapsAndPrivilegedItems10 (191 : Fin 192) = 0) ∧ (PassesAt sMarksGapsAndPrivilegedItems10 (191 : Fin
      192) (sMarksGapsAndPrivilegedItems10.seq (191 : Fin 192)).tc) ∧ (kindAllows (rd
      sMarksGapsAndPrivilegedItems10 (chB (191 : Fin 192)) R.CH_KIND_KIND) 0x2B = true) ∧ (bits 2885681152 0 4 <
      headWaves sMarksGapsAndPrivilegedItems10 (191 : Fin 192))) ∧
    ((SeqAt sMarksGapsAndPrivilegedItems10b (191 : Fin 192) 2885681168) ∧ (opcode 2885681168 = 0x2B) ∧ (seqOwner
      sMarksGapsAndPrivilegedItems10b (191 : Fin 192) = 0) ∧ (PassesAt sMarksGapsAndPrivilegedItems10b (191 : Fin
      192) (sMarksGapsAndPrivilegedItems10b.seq (191 : Fin 192)).tc) ∧ (kindAllows (rd
      sMarksGapsAndPrivilegedItems10b (chB (191 : Fin 192)) R.CH_KIND_KIND) 0x2B = true) ∧ (bits 2885681168 0 4 <
      headWaves sMarksGapsAndPrivilegedItems10b (191 : Fin 192))) ∧
    ((SeqAt sMarksGapsAndPrivilegedItems11 (191 : Fin 192) 2952986624) ∧ (opcode 2952986624 = 0x2C) ∧ (seqOwner
      sMarksGapsAndPrivilegedItems11 (191 : Fin 192) = 0) ∧ (PassesAt sMarksGapsAndPrivilegedItems11 (191 : Fin
      192) (sMarksGapsAndPrivilegedItems11.seq (191 : Fin 192)).tc) ∧ (bits 2952986624 16 4 = 3) ∧ (bits 2952986624
      20 4 < rillLen sMarksGapsAndPrivilegedItems11 (191 : Fin 192))) ∧
    ((SeqAt sMarksGapsAndPrivilegedItems12 (191 : Fin 192) 2953249023) ∧ (opcode 2953249023 = 0x2C) ∧ (seqOwner
      sMarksGapsAndPrivilegedItems12 (191 : Fin 192) = 0) ∧ (PassesAt sMarksGapsAndPrivilegedItems12 (191 : Fin
      192) (sMarksGapsAndPrivilegedItems12.seq (191 : Fin 192)).tc) ∧ (rillAllowed (bits 2953249023 16 4) = true) ∧
      (bits 2953249023 16 4 ≠ 3) ∧ (bits 2953249023 20 4 < rillLen sMarksGapsAndPrivilegedItems12 (191 : Fin 192))) := by
  refine ⟨?_, ?_, ?_, ?_, ?_, ?_, ?_, ?_, ?_, ?_, ?_, ?_, ?_, ?_, ?_⟩ <;> decide +kernel

theorem test_meets_SequencerWaitsWatchdogAndSwap :
    (((sSequencerWaitsWatchdogAndSwap0.seq (191 : Fin 192)).run = .window) ∧ ((sSequencerWaitsWatchdogAndSwap0.seq
      (191 : Fin 192)).held = some ({ item := { kind := .reset, t := 20000, idx := 1 }, pc := 4, tc := 20000 } :
      Emit)) ∧ (({ item := { kind := .reset, t := 20000, idx := 1 }, pc := 4, tc := 20000 } : Emit).gap = none) ∧
      (({ item := { kind := .reset, t := 20000, idx := 1 }, pc := 4, tc := 20000 } : Emit).item.kind = .reset) ∧
      ((sSequencerWaitsWatchdogAndSwap0.seq (191 : Fin 192)).stopReq = none) ∧
      ((sSequencerWaitsWatchdogAndSwap0.seq (191 : Fin 192)).stopT = none) ∧
      (({ item := { kind := .reset, t := 20000, idx := 1 }, pc := 4, tc := 20000 } : Emit).item.t ≤
      sSequencerWaitsWatchdogAndSwap0.ht + window sSequencerWaitsWatchdogAndSwap0 (191 : Fin 192)) ∧ (queueFull
      sSequencerWaitsWatchdogAndSwap0 (191 : Fin 192) = false) ∧ ((sSequencerWaitsWatchdogAndSwap0.pipeCh (191 :
      Fin 192)).skip = 0) ∧ (expiredAt sSequencerWaitsWatchdogAndSwap0 (191 : Fin 192)
      ({ item := { kind := .reset, t := 20000, idx := 1 }, pc := 4, tc := 20000 } : Emit).item = false) ∧
      ((slotLimit sSequencerWaitsWatchdogAndSwap0 (191 : Fin 192)).isNone = true)) ∧
    (((sSequencerWaitsWatchdogAndSwap1.seq (191 : Fin 192)).run = .full) ∧ ((sSequencerWaitsWatchdogAndSwap1.seq
      (191 : Fin 192)).held = some ({ item := { kind := .reset, t := 20000, idx := 1 }, pc := 4, tc := 20000 } :
      Emit)) ∧ (({ item := { kind := .reset, t := 20000, idx := 1 }, pc := 4, tc := 20000 } : Emit).gap = none) ∧
      (({ item := { kind := .reset, t := 20000, idx := 1 }, pc := 4, tc := 20000 } : Emit).item.kind = .reset) ∧
      ((sSequencerWaitsWatchdogAndSwap1.seq (191 : Fin 192)).stopReq = none) ∧
      ((sSequencerWaitsWatchdogAndSwap1.seq (191 : Fin 192)).stopT = none) ∧
      (({ item := { kind := .reset, t := 20000, idx := 1 }, pc := 4, tc := 20000 } : Emit).item.t ≤
      sSequencerWaitsWatchdogAndSwap1.ht + window sSequencerWaitsWatchdogAndSwap1 (191 : Fin 192)) ∧ (queueFull
      sSequencerWaitsWatchdogAndSwap1 (191 : Fin 192) = false) ∧ ((sSequencerWaitsWatchdogAndSwap1.pipeCh (191 :
      Fin 192)).skip = 0) ∧ (expiredAt sSequencerWaitsWatchdogAndSwap1 (191 : Fin 192)
      ({ item := { kind := .reset, t := 20000, idx := 1 }, pc := 4, tc := 20000 } : Emit).item = false) ∧
      ((slotLimit sSequencerWaitsWatchdogAndSwap1 (191 : Fin 192)).isNone = true)) ∧
    (((sSequencerWaitsWatchdogAndSwap2.seq (191 : Fin 192)).run = .ready) ∧ (watchdog
      sSequencerWaitsWatchdogAndSwap2 (191 : Fin 192) ≤ (sSequencerWaitsWatchdogAndSwap2.seq (191 : Fin
      192)).insns) ∧ ((sSequencerWaitsWatchdogAndSwap2.seq (191 : Fin 192)).pc < bankCount
      sSequencerWaitsWatchdogAndSwap2 (191 : Fin 192) (seqBank sSequencerWaitsWatchdogAndSwap2 (191 : Fin 192))) ∧
      (opcode (progAt sSequencerWaitsWatchdogAndSwap2 (191 : Fin 192) (seqBank sSequencerWaitsWatchdogAndSwap2 (191
      : Fin 192)) (sSequencerWaitsWatchdogAndSwap2.seq (191 : Fin 192)).pc) ∈ [0x00, 0x01, 0x02, 0x03, 0x04, 0x05,
      0x06, 0x07, 0x08, 0x09, 0x0A, 0x0B, 0x0C, 0x0D, 0x0E, 0x12])) ∧
    (((sSequencerWaitsWatchdogAndSwap2b.seq (191 : Fin 192)).run = .ready) ∧ (watchdog
      sSequencerWaitsWatchdogAndSwap2b (191 : Fin 192) ≤ (sSequencerWaitsWatchdogAndSwap2b.seq (191 : Fin
      192)).insns) ∧ ((sSequencerWaitsWatchdogAndSwap2b.seq (191 : Fin 192)).pc < bankCount
      sSequencerWaitsWatchdogAndSwap2b (191 : Fin 192) (seqBank sSequencerWaitsWatchdogAndSwap2b (191 : Fin 192)))
      ∧ (opcode (progAt sSequencerWaitsWatchdogAndSwap2b (191 : Fin 192) (seqBank sSequencerWaitsWatchdogAndSwap2b
      (191 : Fin 192)) (sSequencerWaitsWatchdogAndSwap2b.seq (191 : Fin 192)).pc) ∈ [0x00, 0x01, 0x02, 0x03, 0x04,
      0x05, 0x06, 0x07, 0x08, 0x09, 0x0A, 0x0B, 0x0C, 0x0D, 0x0E, 0x12])) ∧
    (((sSequencerWaitsWatchdogAndSwap3.seq (191 : Fin 192)).run = .ready) ∧ (watchdog
      sSequencerWaitsWatchdogAndSwap3 (191 : Fin 192) ≤ (sSequencerWaitsWatchdogAndSwap3.seq (191 : Fin
      192)).insns) ∧ ((sSequencerWaitsWatchdogAndSwap3.seq (191 : Fin 192)).pc < bankCount
      sSequencerWaitsWatchdogAndSwap3 (191 : Fin 192) (seqBank sSequencerWaitsWatchdogAndSwap3 (191 : Fin 192))) ∧
      (opcode (progAt sSequencerWaitsWatchdogAndSwap3 (191 : Fin 192) (seqBank sSequencerWaitsWatchdogAndSwap3 (191
      : Fin 192)) (sSequencerWaitsWatchdogAndSwap3.seq (191 : Fin 192)).pc) = 0x0F) ∧
      ((sSequencerWaitsWatchdogAndSwap3.seq (191 : Fin 192)).stack = [])) ∧
    (((sSequencerWaitsWatchdogAndSwap4.seq (191 : Fin 192)).run = .ready) ∧ (watchdog
      sSequencerWaitsWatchdogAndSwap4 (191 : Fin 192) ≤ (sSequencerWaitsWatchdogAndSwap4.seq (191 : Fin
      192)).insns) ∧ (bankCount sSequencerWaitsWatchdogAndSwap4 (191 : Fin 192) (seqBank
      sSequencerWaitsWatchdogAndSwap4 (191 : Fin 192)) ≤ (sSequencerWaitsWatchdogAndSwap4.seq (191 : Fin 192)).pc)) ∧
    ((verified sSequencerWaitsWatchdogAndSwap5 (191 : Fin 192) (1 - seqBank sSequencerWaitsWatchdogAndSwap5 (191 :
      Fin 192)) = false)) ∧
    ((verified sSequencerWaitsWatchdogAndSwap6 (191 : Fin 192) (1 - seqBank sSequencerWaitsWatchdogAndSwap6 (191 :
      Fin 192)) = true) ∧ ((sSequencerWaitsWatchdogAndSwap6.seq (191 : Fin 192)).swap.isSome = true)) ∧
    ((verified sSequencerWaitsWatchdogAndSwap7 (191 : Fin 192) (1 - seqBank sSequencerWaitsWatchdogAndSwap7 (191 :
      Fin 192)) = true) ∧ ((sSequencerWaitsWatchdogAndSwap7.seq (191 : Fin 192)).swap = none) ∧ (isLive
      sSequencerWaitsWatchdogAndSwap7 (191 : Fin 192) = false)) ∧
    ((verified sSequencerWaitsWatchdogAndSwap8 (191 : Fin 192) (1 - seqBank sSequencerWaitsWatchdogAndSwap8 (191 :
      Fin 192)) = true) ∧ ((sSequencerWaitsWatchdogAndSwap8.seq (191 : Fin 192)).swap = none) ∧ (isLive
      sSequencerWaitsWatchdogAndSwap8 (191 : Fin 192) = true) ∧ ((sSequencerWaitsWatchdogAndSwap8.seq (191 : Fin
      192)).run ≠ .halted)) := by
  refine ⟨?_, ?_, ?_, ?_, ?_, ?_, ?_, ?_, ?_, ?_⟩ <;> decide +kernel

theorem test_meets_LoopFloatingPointAndIoInstructions :
    ((LoopAt sLoopFloatingPointAndIoInstructions0 (2047 : Fin 2048) 3286239360) ∧ (opcode 3286239360 = 0x30) ∧
      (fAdd ((sLoopFloatingPointAndIoInstructions0.core (coreOf (2047 : Fin 2048))).f (iRA 3286239360))
      ((sLoopFloatingPointAndIoInstructions0.core (coreOf (2047 : Fin 2048))).f (iFB 3286239360)) = some
      0xBF800000)) ∧
    ((LoopAt sLoopFloatingPointAndIoInstructions0b (2047 : Fin 2048) 3223259136) ∧ (opcode 3223259136 = 0x30) ∧
      (fAdd ((sLoopFloatingPointAndIoInstructions0b.core (coreOf (2047 : Fin 2048))).f (iRA 3223259136))
      ((sLoopFloatingPointAndIoInstructions0b.core (coreOf (2047 : Fin 2048))).f (iFB 3223259136)) = some
      0x7F800000)) ∧
    ((LoopAt sLoopFloatingPointAndIoInstructions1 (2047 : Fin 2048) 3353348224) ∧ (opcode 3353348224 = 0x31) ∧
      (fSub ((sLoopFloatingPointAndIoInstructions1.core (coreOf (2047 : Fin 2048))).f (iRA 3353348224))
      ((sLoopFloatingPointAndIoInstructions1.core (coreOf (2047 : Fin 2048))).f (iFB 3353348224)) = some
      0x40400000)) ∧
    ((LoopAt sLoopFloatingPointAndIoInstructions2 (2047 : Fin 2048) 3420457088) ∧ (opcode 3420457088 = 0x32) ∧
      (fMul ((sLoopFloatingPointAndIoInstructions2.core (coreOf (2047 : Fin 2048))).f (iRA 3420457088))
      ((sLoopFloatingPointAndIoInstructions2.core (coreOf (2047 : Fin 2048))).f (iFB 3420457088)) = some
      0xC0000000)) ∧
    ((LoopAt sLoopFloatingPointAndIoInstructions3 (2047 : Fin 2048) 3487565952) ∧ (opcode 3487565952 = 0x33) ∧
      (fFma ((sLoopFloatingPointAndIoInstructions3.core (coreOf (2047 : Fin 2048))).f (iRA 3487565952))
      ((sLoopFloatingPointAndIoInstructions3.core (coreOf (2047 : Fin 2048))).f (iFB 3487565952))
      ((sLoopFloatingPointAndIoInstructions3.core (coreOf (2047 : Fin 2048))).f (iFC 3487565952)) = some
      0x3F800000)) ∧
    ((LoopAt sLoopFloatingPointAndIoInstructions4 (2047 : Fin 2048) 3554674816) ∧ (opcode 3554674816 = 0x34) ∧
      (fNaN ((sLoopFloatingPointAndIoInstructions4.core (coreOf (2047 : Fin 2048))).f (iRA 3554674816)) = false) ∧
      (fNaN ((sLoopFloatingPointAndIoInstructions4.core (coreOf (2047 : Fin 2048))).f (iFB 3554674816)) = false)) ∧
    ((LoopAt sLoopFloatingPointAndIoInstructions5 (2047 : Fin 2048) 3621783680) ∧ (opcode 3621783680 = 0x35) ∧
      (fNaN ((sLoopFloatingPointAndIoInstructions5.core (coreOf (2047 : Fin 2048))).f (iRA 3621783680)) = false) ∧
      (fNaN ((sLoopFloatingPointAndIoInstructions5.core (coreOf (2047 : Fin 2048))).f (iFB 3621783680)) = false)) ∧
    ((LoopAt sLoopFloatingPointAndIoInstructions6 (2047 : Fin 2048) 3688892544) ∧ (opcode 3688892544 = 0x36) ∧
      (fNaN ((sLoopFloatingPointAndIoInstructions6.core (coreOf (2047 : Fin 2048))).f (iRA 3688892544)) = false) ∧
      (fNaN ((sLoopFloatingPointAndIoInstructions6.core (coreOf (2047 : Fin 2048))).f (iFB 3688892544)) = false) ∧
      (fNaN ((sLoopFloatingPointAndIoInstructions6.core (coreOf (2047 : Fin 2048))).f (iFC 3688892544)) = false) ∧
      (fLt ((sLoopFloatingPointAndIoInstructions6.core (coreOf (2047 : Fin 2048))).f (iFC 3688892544))
      ((sLoopFloatingPointAndIoInstructions6.core (coreOf (2047 : Fin 2048))).f (iFB 3688892544)) = false)) ∧
    ((LoopAt sLoopFloatingPointAndIoInstructions7 (2047 : Fin 2048) 3691053056) ∧ (opcode 3691053056 = 0x37) ∧
      (fNaN ((sLoopFloatingPointAndIoInstructions7.core (coreOf (2047 : Fin 2048))).f (iRA 3691053056)) = false) ∧
      ((sLoopFloatingPointAndIoInstructions7.core (coreOf (2047 : Fin 2048))).f (iRA 3691053056) < 2 ^ 32)) ∧
    ((LoopAt sLoopFloatingPointAndIoInstructions8 (2047 : Fin 2048) 3758161920) ∧ (opcode 3758161920 = 0x38) ∧
      (fNaN ((sLoopFloatingPointAndIoInstructions8.core (coreOf (2047 : Fin 2048))).f (iRA 3758161920)) = false) ∧
      ((sLoopFloatingPointAndIoInstructions8.core (coreOf (2047 : Fin 2048))).f (iRA 3758161920) < 2 ^ 32)) ∧
    ((LoopAt sLoopFloatingPointAndIoInstructions8b (2047 : Fin 2048) 3758096384) ∧ (opcode 3758096384 = 0x38) ∧
      (fNaN ((sLoopFloatingPointAndIoInstructions8b.core (coreOf (2047 : Fin 2048))).f (iRA 3758096384)) = false) ∧
      ((sLoopFloatingPointAndIoInstructions8b.core (coreOf (2047 : Fin 2048))).f (iRA 3758096384) < 2 ^ 32)) ∧
    ((LoopAt sLoopFloatingPointAndIoInstructions9 (2047 : Fin 2048) 3825205248) ∧ (opcode 3825205248 = 0x39) ∧
      (bits 3825205248 13 3 = 0)) ∧
    ((LoopAt sLoopFloatingPointAndIoInstructions10 (2047 : Fin 2048) 3825213440) ∧ (opcode 3825213440 = 0x39) ∧
      (bits 3825213440 13 3 = 1)) ∧
    ((LoopAt sLoopFloatingPointAndIoInstructions11 (2047 : Fin 2048) 3825287168) ∧ (opcode 3825287168 = 0x39) ∧
      (bits 3825287168 13 3 = 2 ∨ bits 3825287168 13 3 = 3) ∧ (fNaN ((sLoopFloatingPointAndIoInstructions11.core
      (coreOf (2047 : Fin 2048))).f (iRA 3825287168)) = false)) ∧
    ((LoopAt sLoopFloatingPointAndIoInstructions11b (2047 : Fin 2048) 3827261440) ∧ (opcode 3827261440 = 0x39) ∧
      (bits 3827261440 13 3 = 2 ∨ bits 3827261440 13 3 = 3) ∧ (fNaN ((sLoopFloatingPointAndIoInstructions11b.core
      (coreOf (2047 : Fin 2048))).f (iRA 3827261440)) = false)) ∧
    ((LoopAt sLoopFloatingPointAndIoInstructions12 (2047 : Fin 2048) 3825303552) ∧ (opcode 3825303552 = 0x39) ∧
      (bits 3825303552 13 3 = 4) ∧ (fNaN ((sLoopFloatingPointAndIoInstructions12.core (coreOf (2047 : Fin 2048))).f
      (iRA 3825303552)) = false)) ∧
    ((LoopAt sLoopFloatingPointAndIoInstructions12b (2047 : Fin 2048) 3827269632) ∧ (opcode 3827269632 = 0x39) ∧
      (bits 3827269632 13 3 = 4) ∧ (fNaN ((sLoopFloatingPointAndIoInstructions12b.core (coreOf (2047 : Fin
      2048))).f (iRA 3827269632)) = false)) ∧
    ((LoopAt sLoopFloatingPointAndIoInstructions13 (2047 : Fin 2048) 3900833792) ∧ (opcode 3900833792 = 0x3A) ∧
      (bits 3900833792 0 9 + 4 + 2 < winSize sLoopFloatingPointAndIoInstructions13 (2047 : Fin 2048)) ∧ (4 =
      winWord sLoopFloatingPointAndIoInstructions13 (2047 : Fin 2048) (bits 3900833792 0 9 + 2)) ∧ (2 ≤ 4) ∧ (4 ≤
      64) ∧ (fSub ((sLoopFloatingPointAndIoInstructions13.core (coreOf (2047 : Fin 2048))).f (iRA 3900833792))
      (winWord sLoopFloatingPointAndIoInstructions13 (2047 : Fin 2048) (bits 3900833792 0 9)) = some 0x40400000) ∧
      (fMul 0x40400000 (winWord sLoopFloatingPointAndIoInstructions13 (2047 : Fin 2048) (bits 3900833792 0 9 + 1))
      = some 0x40400000) ∧ (0x40400000 = fMin (fMax 0x40400000 0) (fOfInt ((4 - 1 : Nat) : Int))) ∧ (2 = min
      (fToInt 0x40400000 false).toNat (4 - 2)) ∧ (fSub 0x40400000 (fOfInt 2) = some 0x3F800000) ∧ (fSub (winWord
      sLoopFloatingPointAndIoInstructions13 (2047 : Fin 2048) (bits 3900833792 0 9 + 4 + 2)) (winWord
      sLoopFloatingPointAndIoInstructions13 (2047 : Fin 2048) (bits 3900833792 0 9 + 3 + 2)) = some 0x3F800000) ∧
      (fMul 0x3F800000 0x3F800000 = some 0x3F800000) ∧ (fAdd (winWord sLoopFloatingPointAndIoInstructions13 (2047 :
      Fin 2048) (bits 3900833792 0 9 + 3 + 2)) 0x3F800000 = some 0x40800000)) ∧
    ((LoopAt sLoopFloatingPointAndIoInstructions14 (2047 : Fin 2048) 3965714447) ∧ (opcode 3965714447 = 0x3B)) ∧
    ((LoopAt sLoopFloatingPointAndIoInstructions15 (2047 : Fin 2048) 4026597391) ∧ (opcode 4026597391 = 0x3C) ∧
      (fNaN ((sLoopFloatingPointAndIoInstructions15.core (coreOf (2047 : Fin 2048))).f (iRA 4026597391)) = false) ∧
      (outDst sLoopFloatingPointAndIoInstructions15 (2047 : Fin 2048) (bits 4026597391 0 4) = 0)) ∧
    ((LoopAt sLoopFloatingPointAndIoInstructions16 (2047 : Fin 2048) 4026531855) ∧ (opcode 4026531855 = 0x3C) ∧
      (fNaN ((sLoopFloatingPointAndIoInstructions16.core (coreOf (2047 : Fin 2048))).f (iRA 4026531855)) = false) ∧
      (outDst sLoopFloatingPointAndIoInstructions16 (2047 : Fin 2048) (bits 4026531855 0 4) = 1)) ∧
    ((LoopAt sLoopFloatingPointAndIoInstructions17 (2047 : Fin 2048) 4026531855) ∧ (opcode 4026531855 = 0x3C) ∧
      (fNaN ((sLoopFloatingPointAndIoInstructions17.core (coreOf (2047 : Fin 2048))).f (iRA 4026531855)) = false) ∧
      (outDst sLoopFloatingPointAndIoInstructions17 (2047 : Fin 2048) (bits 4026531855 0 4) = 2)) ∧
    ((LoopAt sLoopFloatingPointAndIoInstructions18 (2047 : Fin 2048) 4093640704) ∧ (opcode 4093640704 = 0x3D) ∧
      ((sLoopFloatingPointAndIoInstructions18.slot (2047 : Fin 2048)).stack = []) ∧
      ((sLoopFloatingPointAndIoInstructions18.core (coreOf (2047 : Fin 2048))).migReq = false)) ∧
    ((LoopAt sLoopFloatingPointAndIoInstructions19 (2047 : Fin 2048) 4160753600) ∧ (opcode 4160753600 = 0x3E) ∧
      (fSub ((sLoopFloatingPointAndIoInstructions19.core (coreOf (2047 : Fin 2048))).f (iRA 4160753600))
      ((sLoopFloatingPointAndIoInstructions19.core (coreOf (2047 : Fin 2048))).f (iFB 4160753600)) = some
      0x40400000) ∧ (fNaN ((sLoopFloatingPointAndIoInstructions19.core (coreOf (2047 : Fin 2048))).f (iFC
      4160753600)) = false) ∧ (fLe (fAbs 0x40400000) ((sLoopFloatingPointAndIoInstructions19.core (coreOf (2047 :
      Fin 2048))).f (iFC 4160753600)) = true)) ∧
    ((LoopAt sLoopFloatingPointAndIoInstructions20 (2047 : Fin 2048) 4227923983) ∧ (opcode 4227923983 = 0x3F) ∧
      (fNaN ((sLoopFloatingPointAndIoInstructions20.core (coreOf (2047 : Fin 2048))).f (iRA 4227923983)) = false)) := by
  refine ⟨?_, ?_, ?_, ?_, ?_, ?_, ?_, ?_, ?_, ?_, ?_, ?_, ?_, ?_, ?_, ?_, ?_, ?_, ?_, ?_, ?_, ?_, ?_, ?_, ?_⟩ <;> decide +kernel

theorem test_meets_LoopSlotStates :
    ((sLoopSlotStates0.slotState (2047 : Fin 2048) = .stopped) ∧ (startReject sLoopSlotStates0 (2047 : Fin 2048) =
      0)) ∧
    ((sLoopSlotStates1.slotState (2047 : Fin 2048) = .stopped) ∧ (startReject sLoopSlotStates1 (2047 : Fin 2048) ≠
      0)) ∧
    ((slotActive sLoopSlotStates2 (2047 : Fin 2048) = true)) ∧
    ((slotActive sLoopSlotStates3 (2047 : Fin 2048) = true)) ∧
    ((slotActive sLoopSlotStates3b (2047 : Fin 2048) = true)) ∧
    ((slotActive sLoopSlotStates4 (2047 : Fin 2048) = false)) ∧
    ((sLoopSlotStates5.slotState (2047 : Fin 2048) = .holding ∨ sLoopSlotStates5.slotState (2047 : Fin 2048) =
      .ramping ∨ sLoopSlotStates5.slotState (2047 : Fin 2048) = .safe) ∧ (causeAbsent sLoopSlotStates5 (2047 : Fin
      2048) = true)) ∧
    ((sLoopSlotStates5b.slotState (2047 : Fin 2048) = .holding ∨ sLoopSlotStates5b.slotState (2047 : Fin 2048) =
      .ramping ∨ sLoopSlotStates5b.slotState (2047 : Fin 2048) = .safe) ∧ (causeAbsent sLoopSlotStates5b (2047 :
      Fin 2048) = true)) ∧
    ((sLoopSlotStates6.slotState (2047 : Fin 2048) = .holding ∨ sLoopSlotStates6.slotState (2047 : Fin 2048) =
      .ramping ∨ sLoopSlotStates6.slotState (2047 : Fin 2048) = .safe) ∧ (causeAbsent sLoopSlotStates6 (2047 : Fin
      2048) = true)) ∧
    ((sLoopSlotStates7.slotState (2047 : Fin 2048) = .running ∨ sLoopSlotStates7.slotState (2047 : Fin 2048) =
      .stopped ∨ causeAbsent sLoopSlotStates7 (2047 : Fin 2048) = false)) ∧
    ((sLoopSlotStates7b.slotState (2047 : Fin 2048) = .running ∨ sLoopSlotStates7b.slotState (2047 : Fin 2048) =
      .stopped ∨ causeAbsent sLoopSlotStates7b (2047 : Fin 2048) = false)) ∧
    ((sLoopSlotStates8.slotState (2047 : Fin 2048) = .running)) ∧
    ((sLoopSlotStates8b.slotState (2047 : Fin 2048) = .running)) ∧
    ((sLoopSlotStates9.slotState (2047 : Fin 2048) ≠ .running)) ∧
    ((sLoopSlotStates10.slotState (2047 : Fin 2048) = .stopped)) ∧
    ((sLoopSlotStates7.slotState (2047 : Fin 2048) ≠ .stopped)) ∧
    ((sLoopSlotStates12.slotState (2047 : Fin 2048) = .holding) ∧ ((sLoopSlotStates12.slot (2047 : Fin
      2048)).holdAt + rd sLoopSlotStates12 (slB (2047 : Fin 2048)) R.LOOP_SLOT_HOLD_HOLD * 4000000 ≤
      sLoopSlotStates12.ht)) ∧
    ((sLoopSlotStates13.slotState (2047 : Fin 2048) = .ramping) ∧ ((sLoopSlotStates13.slot (2047 : Fin
      2048)).holdAt + rd sLoopSlotStates13 (slB (2047 : Fin 2048)) R.LOOP_SLOT_HOLD_RAMP * 4000000 ≤
      sLoopSlotStates13.ht)) ∧
    ((sLoopSlotStates14.slotState (2047 : Fin 2048) = .running) ∧ (max 1 (rd sLoopSlotStates14 (slB (2047 : Fin
      2048)) R.LOOP_SLOT_CFG_OVR_N) ≤ rd sLoopSlotStates14 (slB (2047 : Fin 2048)) R.LOOP_SLOT_STATUS_SKIP_RUN)) := by
  refine ⟨?_, ?_, ?_, ?_, ?_, ?_, ?_, ?_, ?_, ?_, ?_, ?_, ?_, ?_, ?_, ?_, ?_, ?_, ?_⟩ <;> decide +kernel

theorem test_meets_LoopSamplesCoresAndEddies :
    ((sLoopSamplesCoresAndEddies0.slotState (2047 : Fin 2048) = .running) ∧ (tickAt
      (sLoopSamplesCoresAndEddies0.slot (2047 : Fin 2048)).per (sLoopSamplesCoresAndEddies0.slot (2047 : Fin
      2048)).phi sLoopSamplesCoresAndEddies0.ht = some 4000000000) ∧ ((sLoopSamplesCoresAndEddies0.slot (2047 : Fin
      2048)).tick ≠ some 4000000000)) ∧
    ((sLoopSamplesCoresAndEddies1.slotState (2047 : Fin 2048) = .running) ∧ (recordComplete
      sLoopSamplesCoresAndEddies1 (2047 : Fin 2048) = true) ∧ (noLink sLoopSamplesCoresAndEddies1 (2047 : Fin 2048)
      = false) ∧ ((sLoopSamplesCoresAndEddies1.slot (2047 : Fin 2048)).phase = .waiting) ∧
      ((sLoopSamplesCoresAndEddies1.core (coreOf (2047 : Fin 2048))).migTo = none) ∧ ((servedBy
      sLoopSamplesCoresAndEddies1 (coreOf (2047 : Fin 2048))).isSome = true) ∧ ((sLoopSamplesCoresAndEddies1.core
      (coreOf (2047 : Fin 2048))).cur = none)) ∧
    ((sLoopSamplesCoresAndEddies2.slotState (2047 : Fin 2048) = .running) ∧ (recordComplete
      sLoopSamplesCoresAndEddies2 (2047 : Fin 2048) = true) ∧ (noLink sLoopSamplesCoresAndEddies2 (2047 : Fin 2048)
      = false) ∧ ((sLoopSamplesCoresAndEddies2.slot (2047 : Fin 2048)).phase ≠ .waiting)) ∧
    (((15 : Fin 17).val < 16) ∧ (rd sLoopSamplesCoresAndEddies3 (clB (3 : Fin 4) (15 : Fin 17))
      R.LOOP_BIND_IDX_WORD ≤ 47) ∧ (slotActive sLoopSamplesCoresAndEddies3 (clusterSlot (3 : Fin 4) (15 : Fin 17)
      (rd sLoopSamplesCoresAndEddies3 (clB (3 : Fin 4) (15 : Fin 17)) R.LOOP_BIND_IDX_SLOT)) = false)) ∧
    (((15 : Fin 17).val < 16) ∧ (rd sLoopSamplesCoresAndEddies4 (clB (3 : Fin 4) (15 : Fin 17))
      R.LOOP_BIND_IDX_WORD ≤ 47)) ∧
    (((15 : Fin 17).val < 16) ∧ (sPlain.slotState (clusterSlot (3 : Fin 4) (15 : Fin 17) (rd sPlain (clB (3 : Fin
      4) (15 : Fin 17)) R.LOOP_SP_IDX_SLOT)) = .idle)) ∧
    (((15 : Fin 17).val < 16) ∧ (sLoopSamplesCoresAndEddies6.slotState (clusterSlot (3 : Fin 4) (15 : Fin 17) (rd
      sLoopSamplesCoresAndEddies6 (clB (3 : Fin 4) (15 : Fin 17)) R.LOOP_SP_IDX_SLOT)) ≠ .idle)) ∧
    ((freeSpare sLoopSamplesCoresAndEddies8 (3 : Fin 4) = some 64) ∧ ((sLoopSamplesCoresAndEddies8.core (64 * (3 :
      Fin 4) + (63 : Fin 64) : Nat)).migTo = none) ∧ ((sLoopSamplesCoresAndEddies8.core (64 * (3 : Fin 4) + (63 :
      Fin 64) : Nat)).migReq = false) ∧ ((servedBy sLoopSamplesCoresAndEddies8 (64 * (3 : Fin 4) + (63 : Fin 64) :
      Nat)).isSome = true) ∧ ((sLoopSamplesCoresAndEddies8.core (64 * (3 : Fin 4) + (63 : Fin 64) : Nat)).cur =
      none)) ∧
    (((freeSpare sLoopSamplesCoresAndEddies9 (3 : Fin 4)).isSome = true) ∧ ((sLoopSamplesCoresAndEddies9.core (64 *
      (3 : Fin 4) + (63 : Fin 64) : Nat)).migTo = none) ∧ ((sLoopSamplesCoresAndEddies9.core (64 * (3 : Fin 4) +
      (63 : Fin 64) : Nat)).migReq = false) ∧ ((servedBy sLoopSamplesCoresAndEddies9 (64 * (3 : Fin 4) + (63 : Fin
      64) : Nat)).isSome = true) ∧ ((sLoopSamplesCoresAndEddies9.core (64 * (3 : Fin 4) + (63 : Fin 64) : Nat)).cur
      ≠ none)) ∧
    ((isRetired sLoopSamplesCoresAndEddies10 (3 : Fin 4) (67 : Fin 68) = false)) ∧
    ((isRetired sLoopSamplesCoresAndEddies10 (3 : Fin 4) (0 : Fin 68) = false)) ∧
    (((sLoopSamplesCoresAndEddies11.core (64 * (3 : Fin 4) + (63 : Fin 64) : Nat)).migTo = some (64, true)) ∧ (64 <
      68)) ∧
    ((eddyState sLoopSamplesCoresAndEddies13 (eddyKey (3 : Fin 4) (16 : Fin 17)) = 1) ∧
      ((sLoopSamplesCoresAndEddies13.eddy (eddyKey (3 : Fin 4) (16 : Fin 17))).recs = [])) ∧
    ((eddyState sLoopSamplesCoresAndEddies14 (eddyKey (3 : Fin 4) (16 : Fin 17)) = 1) ∧
      ((sLoopSamplesCoresAndEddies14.eddy (eddyKey (3 : Fin 4) (16 : Fin 17))).recs ≠ [])) ∧
    ((eddyState sLoopSamplesCoresAndEddies15 (eddyKey (3 : Fin 4) (16 : Fin 17)) ≠ 1)) ∧
    ((eddyState sLoopSamplesCoresAndEddies16 (eddyKey (3 : Fin 4) (16 : Fin 17)) = 2) ∧
      ((sLoopSamplesCoresAndEddies16.eddy (eddyKey (3 : Fin 4) (16 : Fin 17))).left = 0)) ∧
    ((eddyState sLoopSamplesCoresAndEddies18 (eddyKey (3 : Fin 4) (16 : Fin 17)) = 3) ∧
      ((sLoopSamplesCoresAndEddies18.eddy (eddyKey (3 : Fin 4) (16 : Fin 17))).archived = false) ∧ (rdB
      sLoopSamplesCoresAndEddies18 (edB (eddyKey (3 : Fin 4) (16 : Fin 17))) R.LOOP_EDDY_CTRL_ARCH_EN = true) ∧
      (rdB sLoopSamplesCoresAndEddies18 hkB R.HK_DIE_THROTTLE (3 : Fin 4) = false) ∧ (0 = rdPair
      sLoopSamplesCoresAndEddies18 (edB (eddyKey (3 : Fin 4) (16 : Fin 17))) R.LOOP_EDDY_ARCH_BASE_LO_BASE
      R.LOOP_EDDY_ARCH_BASE_HI_BASE + rd sLoopSamplesCoresAndEddies18 (edB (eddyKey (3 : Fin 4) (16 : Fin 17)))
      R.LOOP_EDDY_ARCH_CNT_COUNT % max 1 (rd sLoopSamplesCoresAndEddies18 (edB (eddyKey (3 : Fin 4) (16 : Fin 17)))
      R.LOOP_EDDY_ARCH_CFG_ARCH_N) * 65536) ∧ (dieOf 0 ≠ (3 : Fin 4).val ∨ installedAll
      sLoopSamplesCoresAndEddies18 0 65536 = false)) ∧
    ((eddyState sLoopSamplesCoresAndEddies19 (eddyKey (3 : Fin 4) (16 : Fin 17)) = 3) ∧
      ((sLoopSamplesCoresAndEddies19.eddy (eddyKey (3 : Fin 4) (16 : Fin 17))).archived = false) ∧ (rdB
      sLoopSamplesCoresAndEddies19 (edB (eddyKey (3 : Fin 4) (16 : Fin 17))) R.LOOP_EDDY_CTRL_ARCH_EN = true) ∧
      (rdB sLoopSamplesCoresAndEddies19 hkB R.HK_DIE_THROTTLE (3 : Fin 4) = false) ∧ (26388279066624 = rdPair
      sLoopSamplesCoresAndEddies19 (edB (eddyKey (3 : Fin 4) (16 : Fin 17))) R.LOOP_EDDY_ARCH_BASE_LO_BASE
      R.LOOP_EDDY_ARCH_BASE_HI_BASE + rd sLoopSamplesCoresAndEddies19 (edB (eddyKey (3 : Fin 4) (16 : Fin 17)))
      R.LOOP_EDDY_ARCH_CNT_COUNT % max 1 (rd sLoopSamplesCoresAndEddies19 (edB (eddyKey (3 : Fin 4) (16 : Fin 17)))
      R.LOOP_EDDY_ARCH_CFG_ARCH_N) * 65536) ∧ (dieOf 26388279066624 = (3 : Fin 4).val) ∧ (installedAll
      sLoopSamplesCoresAndEddies19 26388279066624 65536 = true)) := by
  refine ⟨?_, ?_, ?_, ?_, ?_, ?_, ?_, ?_, ?_, ?_, ?_, ?_, ?_, ?_, ?_, ?_, ?_, ?_⟩ <;> decide +kernel

theorem test_meets_LaunchQueueStagingAndRelease :
    (((sLaunchQueueStagingAndRelease0.weir (191 : Fin 192)).q.find? (decisionDue sLaunchQueueStagingAndRelease0
      (191 : Fin 192)) = some ({ t := 50000, dur := 1000, fno := 5, frame := 40000 } : Item)) ∧ (chKind
      sLaunchQueueStagingAndRelease0 (191 : Fin 192) ≠ .matrix) ∧
      (({ t := 50000, dur := 1000, fno := 5, frame := 40000 } : Item).dark = false) ∧ (itemData
      sLaunchQueueStagingAndRelease0 (191 : Fin 192) ({ t := 50000, dur := 1000, fno := 5, frame := 40000 } : Item)
      = some 7)) ∧
    (((sLaunchQueueStagingAndRelease1.weir (191 : Fin 192)).q.find? (decisionDue sLaunchQueueStagingAndRelease1
      (191 : Fin 192)) = some ({ t := 50000, dur := 1000, fno := 5, frame := 40000 } : Item)) ∧ (chKind
      sLaunchQueueStagingAndRelease1 (191 : Fin 192) ≠ .matrix) ∧
      (({ t := 50000, dur := 1000, fno := 5, frame := 40000 } : Item).dark = false) ∧ (itemData
      sLaunchQueueStagingAndRelease1 (191 : Fin 192) ({ t := 50000, dur := 1000, fno := 5, frame := 40000 } : Item)
      = none)) ∧
    ((chKind sLaunchQueueStagingAndRelease2 (191 : Fin 192) ≠ .matrix) ∧ (stageNext sLaunchQueueStagingAndRelease2
      (191 : Fin 192) = some ({ t := 50000, dur := 1000, fno := 5, frame := 40000 } : Item)) ∧
      (({ t := 50000, dur := 1000, fno := 5, frame := 40000 } : Item).stage = .none) ∧ (portUp
      sLaunchQueueStagingAndRelease2 (191 : Fin 192) = true) ∧ (packetsOn sLaunchQueueStagingAndRelease2 (191 : Fin
      192) = true) ∧ (mayStage sLaunchQueueStagingAndRelease2 (191 : Fin 192)
      ({ t := 50000, dur := 1000, fno := 5, frame := 40000 } : Item).frame = true) ∧ (withheld
      (sLaunchQueueStagingAndRelease2.weir (191 : Fin 192)) ({ t := 50000, dur := 1000, fno := 5, frame := 40000 }
      : Item).t = false) ∧ (({ t := 50000, dur := 1000, fno := 5, frame := 40000 } : Item).dark = false) ∧
      (({ t := 50000, dur := 1000, fno := 5, frame := 40000 } : Item).show_ ≠ .dark) ∧ (stageSource
      sLaunchQueueStagingAndRelease2 (191 : Fin 192) ({ t := 50000, dur := 1000, fno := 5, frame := 40000 } : Item)
      = some (0, 64)) ∧ (reusable sLaunchQueueStagingAndRelease2 (191 : Fin 192)
      ({ t := 50000, dur := 1000, fno := 5, frame := 40000 } : Item) = none) ∧ (freeBuf
      sLaunchQueueStagingAndRelease2 (191 : Fin 192) = some 0)) ∧
    ((chKind sLaunchQueueStagingAndRelease3 (191 : Fin 192) ≠ .matrix) ∧ ((sLaunchQueueStagingAndRelease3.weir (191
      : Fin 192)).q.find? (fun (i : Item) => i.stage == .active) = some
      ({ t := 50000, dur := 1000, fno := 5, frame := 40000, stage := .active } : Item)) ∧
      (sLaunchQueueStagingAndRelease3.ht ≤ stageDeadline sLaunchQueueStagingAndRelease3 (191 : Fin 192)
      ({ t := 50000, dur := 1000, fno := 5, frame := 40000, stage := .active } : Item) (blocksOf
      sLaunchQueueStagingAndRelease3 (191 : Fin 192)
      ({ t := 50000, dur := 1000, fno := 5, frame := 40000, stage := .active } : Item) - 1))) ∧
    ((chKind sLaunchQueueStagingAndRelease0 (191 : Fin 192) ≠ .matrix) ∧ (stageNext sLaunchQueueStagingAndRelease0
      (191 : Fin 192) = some ({ t := 50000, dur := 1000, fno := 5, frame := 40000 } : Item)) ∧ (mayStage
      sLaunchQueueStagingAndRelease0 (191 : Fin 192) ({ t := 50000, dur := 1000, fno := 5, frame := 40000 } :
      Item).frame = true) ∧ (({ t := 50000, dur := 1000, fno := 5, frame := 40000 } : Item).dark = false) ∧
      (({ t := 50000, dur := 1000, fno := 5, frame := 40000 } : Item).decided = false ∨
      ({ t := 50000, dur := 1000, fno := 5, frame := 40000 } : Item).show_ = .own) ∧ (stageDeadline
      sLaunchQueueStagingAndRelease0 (191 : Fin 192) ({ t := 50000, dur := 1000, fno := 5, frame := 40000 } : Item)
      (0 : Fin 16) < sLaunchQueueStagingAndRelease0.ht) ∧ ((0 : Fin 16).val < blocksOf
      sLaunchQueueStagingAndRelease0 (191 : Fin 192) ({ t := 50000, dur := 1000, fno := 5, frame := 40000 } :
      Item))) ∧
    ((chKind sLaunchQueueStagingAndRelease5 (191 : Fin 192) ≠ .matrix) ∧ (stageNext sLaunchQueueStagingAndRelease5
      (191 : Fin 192) = some
      ({ t := 50000, dur := 1000, fno := 5, frame := 40000, decided := true, show_ := .prev } : Item)) ∧ (mayStage
      sLaunchQueueStagingAndRelease5 (191 : Fin 192)
      ({ t := 50000, dur := 1000, fno := 5, frame := 40000, decided := true, show_ := .prev } : Item).frame = true)
      ∧ (({ t := 50000, dur := 1000, fno := 5, frame := 40000, decided := true, show_ := .prev } : Item).dark =
      false) ∧ (({ t := 50000, dur := 1000, fno := 5, frame := 40000, decided := true, show_ := .prev } :
      Item).decided = true) ∧
      (({ t := 50000, dur := 1000, fno := 5, frame := 40000, decided := true, show_ := .prev } : Item).show_ ≠
      .own) ∧ (stageDeadline sLaunchQueueStagingAndRelease5 (191 : Fin 192)
      ({ t := 50000, dur := 1000, fno := 5, frame := 40000, decided := true, show_ := .prev } : Item) (0 : Fin 16)
      < sLaunchQueueStagingAndRelease5.ht) ∧ ((0 : Fin 16).val < blocksOf sLaunchQueueStagingAndRelease5 (191 : Fin
      192) ({ t := 50000, dur := 1000, fno := 5, frame := 40000, decided := true, show_ := .prev } : Item))) ∧
    ((chKind sLaunchQueueStagingAndRelease6 (191 : Fin 192) ≠ .matrix) ∧ ((sLaunchQueueStagingAndRelease6.weir (191
      : Fin 192)).q.find? (fun (i : Item) => i.stage == .active) = some
      ({ t := 50000, dur := 1000, fno := 5, frame := 40000, stage := .active } : Item))) ∧
    (((sLaunchQueueStagingAndRelease0.weir (191 : Fin 192)).q.find? (tokenMissed sLaunchQueueStagingAndRelease0
      (191 : Fin 192)) = some ({ t := 50000, dur := 1000, fno := 5, frame := 40000 } : Item))) ∧
    (((sLaunchQueueStagingAndRelease8.weir (191 : Fin 192)).q =
      ({ t := 50000, dur := 1000, fno := 5, frame := 40000, sent := some (3, 9) } : Item) :: ([] : List Item)) ∧
      (({ t := 50000, dur := 1000, fno := 5, frame := 40000, sent := some (3, 9) } : Item).kind = .plane) ∧
      (({ t := 50000, dur := 1000, fno := 5, frame := 40000, sent := some (3, 9) } : Item).sent = some (3, 9)) ∧
      (({ t := 50000, dur := 1000, fno := 5, frame := 40000, sent := some (3, 9) } : Item).missed = false) ∧ (∀ i ∈
      ([] : List Item), i.t ≠ ({ t := 50000, dur := 1000, fno := 5, frame := 40000, sent := some (3, 9) } :
      Item).t) ∧ ((sLaunchQueueStagingAndRelease8.weir (191 : Fin 192)).wds = []) ∧
      (sLaunchQueueStagingAndRelease8.hub.noRelease = false) ∧ (pinPassed sLaunchQueueStagingAndRelease8 (191 : Fin
      192) ({ t := 50000, dur := 1000, fno := 5, frame := 40000, sent := some (3, 9) } : Item).t
      sLaunchQueueStagingAndRelease8.ht = true) ∧ (sLaunchQueueStagingAndRelease8.chState (191 : Fin 192) =
      .running) ∧ (portUp sLaunchQueueStagingAndRelease8 (191 : Fin 192) = true)) ∧
    (((sLaunchQueueStagingAndRelease9.weir (191 : Fin 192)).q = ({ kind := .mark, t := 50000, fno := 6 } : Item) ::
      ([] : List Item)) ∧ (({ kind := .mark, t := 50000, fno := 6 } : Item).kind = .mark) ∧ (∀ i ∈ ([] : List
      Item), i.t = ({ kind := .mark, t := 50000, fno := 6 } : Item).t → i.kind ≠ .mark) ∧
      (sLaunchQueueStagingAndRelease9.hub.noRelease = false) ∧ (pinPassed sLaunchQueueStagingAndRelease9 (191 : Fin
      192) ({ kind := .mark, t := 50000, fno := 6 } : Item).t sLaunchQueueStagingAndRelease9.ht = true) ∧
      (sLaunchQueueStagingAndRelease9.chState (191 : Fin 192) = .running)) ∧
    (((sLaunchQueueStagingAndRelease10.weir (191 : Fin 192)).q =
      ({ t := 50000, dur := 1000, fno := 5, frame := 40000 } : Item) :: ([] : List Item)) ∧
      (({ t := 50000, dur := 1000, fno := 5, frame := 40000 } : Item).kind ≠ .mark) ∧
      (sLaunchQueueStagingAndRelease10.hub.noRelease = false) ∧ (pinPassed sLaunchQueueStagingAndRelease10 (191 :
      Fin 192) ({ t := 50000, dur := 1000, fno := 5, frame := 40000 } : Item).t sLaunchQueueStagingAndRelease10.ht
      = true) ∧ (sLaunchQueueStagingAndRelease10.chState (191 : Fin 192) = .armed) ∧ (runDue
      sLaunchQueueStagingAndRelease10 (191 : Fin 192) ({ t := 50000, dur := 1000, fno := 5, frame := 40000 } :
      Item).frame = false)) ∧
    (((sLaunchQueueStagingAndRelease11.weir (191 : Fin 192)).openPlane = some (5, 7)) ∧
      ((sLaunchQueueStagingAndRelease11.weir (191 : Fin 192)).planeEnd ≤ sLaunchQueueStagingAndRelease11.ht)) ∧
    ((portUp sLaunchQueueStagingAndRelease12 ({ n := 191, ph := 3 } : PortPhase).n = true) ∧ (rdB
      sLaunchQueueStagingAndRelease12 (ephyB ({ n := 191, ph := 3 } : PortPhase).n) R.EPHY_STATUS_TX_IDLE = false)
      ∧ (narrowing sLaunchQueueStagingAndRelease12 ({ n := 191, ph := 3 } : PortPhase).n = false) ∧ (30000003 =
      sLaunchQueueStagingAndRelease12.ht / 1000000 * 10000000 + (({ n := 191, ph := 3 } : PortPhase).ph.val %
      charPeriod sLaunchQueueStagingAndRelease12 ({ n := 191, ph := 3 } : PortPhase).n + charPeriod
      sLaunchQueueStagingAndRelease12 ({ n := 191, ph := 3 } : PortPhase).n - sLaunchQueueStagingAndRelease12.ht /
      1000000 * 10000000 % charPeriod sLaunchQueueStagingAndRelease12 ({ n := 191, ph := 3 } : PortPhase).n) %
      charPeriod sLaunchQueueStagingAndRelease12 ({ n := 191, ph := 3 } : PortPhase).n) ∧ (30000003 / 10 =
      sLaunchQueueStagingAndRelease12.ht)) ∧
    (((sLaunchQueueStagingAndRelease13.weir (191 : Fin 192)).wds =
      [({ cause := 2, restage := false, tc := 9, td := 8, tw := some 8, cmd := none, cands := [5], leaked := 0 } :
      Withdrawal)]) ∧
      (({ cause := 2, restage := false, tc := 9, td := 8, tw := some 8, cmd := none, cands := [5], leaked := 0 } :
      Withdrawal).restage = false) ∧
      (({ cause := 2, restage := false, tc := 9, td := 8, tw := some 8, cmd := none, cands := [5], leaked := 0 } :
      Withdrawal).cmd = none) ∧ (wdDue sLaunchQueueStagingAndRelease13 (191 : Fin 192)
      ({ cause := 2, restage := false, tc := 9, td := 8, tw := some 8, cmd := none, cands := [5], leaked := 0 } :
      Withdrawal) = some 80) ∧ (80 ≤ 10 * sLaunchQueueStagingAndRelease13.ht)) ∧
    ((rdB sLaunchQueueStagingAndRelease14 (dieB (3 : Fin 4)) R.WEIR_AVS_CTRL_EN = false)) ∧
    ((rdB sLaunchQueueStagingAndRelease15 (dieB (3 : Fin 4)) R.WEIR_AVS_CTRL_EN = true) ∧ (periodSlack
      sLaunchQueueStagingAndRelease15 (3 : Fin 4) = some ((-5), 47)) ∧ ((-5) < 4000 * ((rd
      sLaunchQueueStagingAndRelease15 (dieB (3 : Fin 4)) R.WEIR_AVS_MARGIN_MARGIN (rd
      sLaunchQueueStagingAndRelease15 (dieB (3 : Fin 4)) R.WEIR_AVS_STATUS_BAND) : Nat) : Int)) ∧ (rd
      sLaunchQueueStagingAndRelease15 (dieB (3 : Fin 4)) R.WEIR_AVS_STATUS_VOUT < (avsLimits
      sLaunchQueueStagingAndRelease15 (3 : Fin 4)).2) ∧ (rdB sLaunchQueueStagingAndRelease15 hkB R.HK_DIE_THROTTLE
      (3 : Fin 4) = false) ∧ ((3 : Fin 5).val < 4) ∧ (sLaunchQueueStagingAndRelease15.hub.badRails.contains 17 =
      false)) := by
  refine ⟨?_, ?_, ?_, ?_, ?_, ?_, ?_, ?_, ?_, ?_, ?_, ?_, ?_, ?_, ?_, ?_⟩ <;> decide +kernel

theorem test_meets_LampCommandsAndRill :
    (((5 : Fin 6).val < headStrings sLampCommandsAndRill0 (191 : Fin 192)) ∧ (bitOf 32 (5 : Fin 6) = true)) ∧
    ((rd sLampCommandsAndRill1 (chB (191 : Fin 192)) R.LAMP_CURVE_IDX_ENTRY ≤ 32) ∧ (rd sLampCommandsAndRill1 (chB
      (191 : Fin 192)) R.LAMP_CURVE_IDX_STR ≤ 5) ∧ (chRuns sLampCommandsAndRill1 (191 : Fin 192) = false)) ∧
    ((rd sLampCommandsAndRill2 (chB (191 : Fin 192)) R.LAMP_CURVE_IDX_ENTRY ≤ 32) ∧ (rd sLampCommandsAndRill2 (chB
      (191 : Fin 192)) R.LAMP_CURVE_IDX_STR ≤ 5) ∧ (chRuns sLampCommandsAndRill2 (191 : Fin 192) = true) ∧ (7 %
      65536 ≠ curveAt sLampCommandsAndRill2 (191 : Fin 192) (rd sLampCommandsAndRill2 (chB (191 : Fin 192))
      R.LAMP_CURVE_IDX_STR) (rd sLampCommandsAndRill2 (chB (191 : Fin 192)) R.LAMP_CURVE_IDX_RANGE) (rd
      sLampCommandsAndRill2 (chB (191 : Fin 192)) R.LAMP_CURVE_IDX_ENTRY))) ∧
    ((rd sLampCommandsAndRill2 (chB (191 : Fin 192)) R.LAMP_CURVE_IDX_ENTRY ≤ 32) ∧ (rd sLampCommandsAndRill2 (chB
      (191 : Fin 192)) R.LAMP_CURVE_IDX_STR ≤ 5)) ∧
    (((5 : Fin 6).val < headStrings sLampCommandsAndRill4 (191 : Fin 192))) ∧
    (((5 : Fin 6).val < headStrings sLampCommandsAndRill4 (191 : Fin 192))) ∧
    (((sLampCommandsAndRill8.lamp (191 : Fin 192)).fadeB.active = true) ∧ ((sLampCommandsAndRill8.lamp (191 : Fin
      192)).fadeB.t0 + (sLampCommandsAndRill8.lamp (191 : Fin 192)).fadeB.dur ≤ sLampCommandsAndRill8.ht)) ∧
    (((sLampCommandsAndRill9.lamp (191 : Fin 192)).fadeC.active = true) ∧ ((sLampCommandsAndRill9.lamp (191 : Fin
      192)).fadeC.t0 + (sLampCommandsAndRill9.lamp (191 : Fin 192)).fadeC.dur ≤ sLampCommandsAndRill9.ht)) ∧
    ((rd sLampCommandsAndRill10 (strB (191 : Fin 192) (5 : Fin 6)) R.LAMP_STEMP_SRC ≠ 0) ∧ (telQualifies
      sLampCommandsAndRill10 (191 : Fin 192) (5 : Fin 6) = true)) ∧
    ((rd sLampCommandsAndRill11 (strB (191 : Fin 192) (5 : Fin 6)) R.LAMP_STEMP_SRC = 0) ∧ (telFresh
      sLampCommandsAndRill11 (191 : Fin 192) (5 : Fin 6) = false)) ∧
    (((sLampCommandsAndRill12.lamp (191 : Fin 192)).nextFrame ≤ sLampCommandsAndRill12.ht) ∧ (inSafeDark
      sLampCommandsAndRill12 (191 : Fin 192) = false) ∧ (sLampCommandsAndRill12.hub.badRails.contains 17 = false) ∧
      ((sLampCommandsAndRill12.lamp (191 : Fin 192)).hold = false) ∧ ((sLampCommandsAndRill12.lamp (191 : Fin
      192)).holdReqs = [])) ∧
    (((sLampCommandsAndRill13.lamp (191 : Fin 192)).nextFrame ≤ sLampCommandsAndRill13.ht) ∧ (inSafeDark
      sLampCommandsAndRill13 (191 : Fin 192) = false) ∧ (sLampCommandsAndRill13.hub.badRails.contains 17 = false) ∧
      ((sLampCommandsAndRill13.lamp (191 : Fin 192)).hold = false) ∧ ((sLampCommandsAndRill13.lamp (191 : Fin
      192)).holdReqs = [(true, 9)]) ∧ (9 ≤ sLampCommandsAndRill13.ht)) ∧
    (((sLampCommandsAndRill14.drv (191 : Fin 192) (15 : Fin 16)).cmds =
      ({ cmd := 7, tag := 3, prog := true, first := some 9 } : RillCmd) :: []) ∧
      (({ cmd := 7, tag := 3, prog := true, first := some 9 } : RillCmd).first = some 9) ∧
      (({ cmd := 7, tag := 3, prog := true, first := some 9 } : RillCmd).late = false) ∧ (9 + max 1 (rd
      sLampCommandsAndRill14 (chB (191 : Fin 192)) R.LAMP_RILL_CFG_ACK) * 4000000 ≤ sLampCommandsAndRill14.ht) ∧
      (({ cmd := 7, tag := 3, prog := true, first := some 9 } : RillCmd).prog = true)) ∧
    (((sLampCommandsAndRill15.drv (191 : Fin 192) (15 : Fin 16)).cmds = ({ cmd := 5, tag := 3, first := some 9 } :
      RillCmd) :: []) ∧ (({ cmd := 5, tag := 3, first := some 9 } : RillCmd).first = some 9) ∧
      (({ cmd := 5, tag := 3, first := some 9 } : RillCmd).late = false) ∧ (9 + max 1 (rd sLampCommandsAndRill15
      (chB (191 : Fin 192)) R.LAMP_RILL_CFG_ACK) * 4000000 ≤ sLampCommandsAndRill15.ht) ∧
      (({ cmd := 5, tag := 3, first := some 9 } : RillCmd).prog = false)) ∧
    (((sLampCommandsAndRill17.str (191 : Fin 192) (5 : Fin 6)).bypSince = some 9) ∧ (9 + 400000000 ≤
      sLampCommandsAndRill17.ht) ∧ ((sLampCommandsAndRill17.str (191 : Fin 192) (5 : Fin 6)).bypDark = none)) := by
  refine ⟨?_, ?_, ?_, ?_, ?_, ?_, ?_, ?_, ?_, ?_, ?_, ?_, ?_, ?_, ?_⟩ <;> decide +kernel

theorem test_meets_MovingParts :
    ((wheelReason sMovingParts0 (191 : Fin 192) false = 0) ∧ (min 0xF000 (rd sMovingParts0 (chB (191 : Fin 192))
      R.MOVE_WHEEL_TGT_SPEED) ≠ 0)) ∧
    ((wheelReason sMovingParts1 (191 : Fin 192) false = 0) ∧ (min 0xF000 (rd sMovingParts1 (chB (191 : Fin 192))
      R.MOVE_WHEEL_TGT_SPEED) = 0) ∧ (sMovingParts1.wst (191 : Fin 192) = .ramp ∨ sMovingParts1.wst (191 : Fin 192)
      = .locked ∨ sMovingParts1.wst (191 : Fin 192) = .coast)) ∧
    ((wheelReason sMovingParts2 (191 : Fin 192) false ≠ 0)) ∧
    ((wheelReason sMovingParts3 (191 : Fin 192) true = 0)) ∧
    ((wheelReason sMovingParts4 (191 : Fin 192) true ≠ 0)) ∧
    ((scanStartReason sMovingParts5 (191 : Fin 192) = 0) ∧ (rdB sMovingParts5 (chB (191 : Fin 192))
      R.MOVE_SCAN_CFG_TYPE = false)) ∧
    ((scanStartReason sMovingParts6 (191 : Fin 192) = 0) ∧ (rdB sMovingParts6 (chB (191 : Fin 192))
      R.MOVE_SCAN_CFG_TYPE = true) ∧ (startReject sMovingParts6 (scanSlot sMovingParts6 (191 : Fin 192)) = 0)) ∧
    ((scanStartReason sMovingParts7 (191 : Fin 192) = 0) ∧ (rdB sMovingParts7 (chB (191 : Fin 192))
      R.MOVE_SCAN_CFG_TYPE = true) ∧ (startReject sMovingParts7 (scanSlot sMovingParts7 (191 : Fin 192)) ≠ 0)) ∧
    ((scanStartReason sMovingParts8 (191 : Fin 192) ≠ 0)) ∧
    ((sMovingParts9.sst (191 : Fin 192) = .sweep ∨ sMovingParts9.sst (191 : Fin 192) = .locking ∨ sMovingParts9.sst
      (191 : Fin 192) = .locked)) ∧
    ((sMovingParts9b.sst (191 : Fin 192) = .sweep ∨ sMovingParts9b.sst (191 : Fin 192) = .locking ∨
      sMovingParts9b.sst (191 : Fin 192) = .locked)) ∧
    ((4 = (if sMovingParts10.sst (191 : Fin 192) = .off then 1 else if sMovingParts10.sst (191 : Fin 192) =
      .unknown then 3 else 4)) ∧ (sMovingParts10.sst (191 : Fin 192) ≠ .sweep) ∧ (sMovingParts10.sst (191 : Fin
      192) ≠ .locking) ∧ (sMovingParts10.sst (191 : Fin 192) ≠ .locked)) ∧
    ((1 = (if sMovingParts10b.sst (191 : Fin 192) = .off then 1 else if sMovingParts10b.sst (191 : Fin 192) =
      .unknown then 3 else 4)) ∧ (sMovingParts10b.sst (191 : Fin 192) ≠ .sweep) ∧ (sMovingParts10b.sst (191 : Fin
      192) ≠ .locking) ∧ (sMovingParts10b.sst (191 : Fin 192) ≠ .locked)) ∧
    ((sMovingParts11.wst (191 : Fin 192) = .unknown ∨ sMovingParts11.wst (191 : Fin 192) = .coast) ∧
      ((sMovingParts11.move (191 : Fin 192)).stopSince = some 9) ∧ (9 + 400000000 ≤ sMovingParts11.ht) ∧
      ((sMovingParts11.move (191 : Fin 192)).speedAt = some 3900000000) ∧ (sMovingParts11.ht ≤ 3900000000 +
      400000000)) ∧
    ((sMovingParts11b.wst (191 : Fin 192) = .unknown ∨ sMovingParts11b.wst (191 : Fin 192) = .coast) ∧
      ((sMovingParts11b.move (191 : Fin 192)).stopSince = some 9) ∧ (9 + 400000000 ≤ sMovingParts11b.ht) ∧
      ((sMovingParts11b.move (191 : Fin 192)).speedAt = some 3900000000) ∧ (sMovingParts11b.ht ≤ 3900000000 +
      400000000)) ∧
    ((sMovingParts12.wst (191 : Fin 192) = .rundown) ∧ ((sMovingParts12.move (191 : Fin 192)).wheel.value
      sMovingParts12.ht = 0) ∧ ((sMovingParts12.move (191 : Fin 192)).stopSince = some 9) ∧ (9 + 400000000 ≤
      sMovingParts12.ht) ∧ ((sMovingParts12.move (191 : Fin 192)).speedAt = some 3900000000) ∧ (sMovingParts12.ht ≤
      3900000000 + 400000000)) ∧
    ((sMovingParts13.wst (191 : Fin 192) = .stopped ∨ sMovingParts13.wst (191 : Fin 192) = .coast) ∧
      ((sMovingParts13.move (191 : Fin 192)).speedAt.getD (sMovingParts13.move (191 : Fin 192)).wAt + 400000000 ≤
      sMovingParts13.ht)) ∧
    ((sMovingParts14.wst (191 : Fin 192) = .locked) ∧ (lockConds sMovingParts14 (191 : Fin 192) = false) ∧
      ((sMovingParts14.move (191 : Fin 192)).lockFail = some 9) ∧ (9 + max 1 (rd sMovingParts14 (chB (191 : Fin
      192)) R.MOVE_WHEEL_ILK_DWELL) * 4000000 < sMovingParts14.ht)) ∧
    ((wheelConds sMovingParts15 (191 : Fin 192) ≠ []) ∧ (rdB sMovingParts15 (chB (191 : Fin 192))
      R.MOVE_STATUS_W_ILK = false)) ∧
    ((wheelConds sMovingParts16 (191 : Fin 192) = []) ∧ (rdB sMovingParts16 (chB (191 : Fin 192))
      R.MOVE_STATUS_W_ILK = true) ∧ ((sMovingParts16.move (191 : Fin 192)).wClear = some 0) ∧ (0 + rd
      sMovingParts16 (chB (191 : Fin 192)) R.MOVE_WHEEL_ILK_RELEASE * 4000000 ≤ sMovingParts16.ht)) ∧
    ((prediction sMovingParts17 (191 : Fin 192) = some (15000, 4000)) ∧ ((sMovingParts17.move (191 : Fin
      192)).idxAt + max 1 (rd sMovingParts17 (chB (191 : Fin 192)) R.MOVE_WHEEL_CFG_IDX_TO) * 4000 ≤
      sMovingParts17.ht)) ∧
    ((sMovingParts18.sst (191 : Fin 192) = .sweep) ∧ ((sMovingParts18.move (191 : Fin 192)).sweepAt + max 1 (rd
      sMovingParts18 (chB (191 : Fin 192)) R.MOVE_SCAN_STEP_DWELL) * 4000000 ≤ sMovingParts18.ht) ∧
      ((sMovingParts18.move (191 : Fin 192)).sweepF + max 1 (rd sMovingParts18 (chB (191 : Fin 192))
      R.MOVE_SCAN_STEP_STEP) ≤ sweepHi sMovingParts18 (191 : Fin 192))) ∧
    ((sMovingParts19.sst (191 : Fin 192) = .sweep) ∧ ((sMovingParts19.move (191 : Fin 192)).sweepAt + max 1 (rd
      sMovingParts19 (chB (191 : Fin 192)) R.MOVE_SCAN_STEP_DWELL) * 4000000 ≤ sMovingParts19.ht) ∧ (sweepHi
      sMovingParts19 (191 : Fin 192) < (sMovingParts19.move (191 : Fin 192)).sweepF + max 1 (rd sMovingParts19 (chB
      (191 : Fin 192)) R.MOVE_SCAN_STEP_STEP)) ∧ (resonance ((sMovingParts19.move (191 : Fin 192)).sweep ++
      [((sMovingParts19.move (191 : Fin 192)).sweepF, rd sMovingParts19 (chB (191 : Fin 192))
      R.MOVE_SCAN_MEAS_AMP)]) = none)) ∧
    ((sMovingParts20.sst (191 : Fin 192) = .sweep) ∧ ((sMovingParts20.move (191 : Fin 192)).sweepAt + max 1 (rd
      sMovingParts20 (chB (191 : Fin 192)) R.MOVE_SCAN_STEP_DWELL) * 4000000 ≤ sMovingParts20.ht) ∧ (sweepHi
      sMovingParts20 (191 : Fin 192) < (sMovingParts20.move (191 : Fin 192)).sweepF + max 1 (rd sMovingParts20 (chB
      (191 : Fin 192)) R.MOVE_SCAN_STEP_STEP)) ∧ (resonance ((sMovingParts20.move (191 : Fin 192)).sweep ++
      [((sMovingParts20.move (191 : Fin 192)).sweepF, rd sMovingParts20 (chB (191 : Fin 192))
      R.MOVE_SCAN_MEAS_AMP)]) = some 9000) ∧ (sMovingParts20.slotState (scanSlot sMovingParts20 (191 : Fin 192)) =
      .stopped) ∧ (startReject sMovingParts20 (scanSlot sMovingParts20 (191 : Fin 192)) = 0)) ∧
    ((sMovingParts21.sst (191 : Fin 192) = .locking) ∧ (scanConds sMovingParts21 (191 : Fin 192) = []) ∧
      ((sMovingParts21.move (191 : Fin 192)).sClear = some 0) ∧ (0 + rd sMovingParts21 (chB (191 : Fin 192))
      R.MOVE_SCAN_ILK_RELEASE * 4000000 ≤ sMovingParts21.ht)) ∧
    ((sMovingParts22.sst (191 : Fin 192) ≠ .off) ∧ ((sMovingParts22.move (191 : Fin 192)).ampAt = some 9) ∧ (9 +
      4000000 ≤ sMovingParts22.ht) ∧ (rdB sMovingParts22 (chB (191 : Fin 192)) R.MOVE_STATUS_S_ILK = false)) ∧
    ((sMovingParts23.sst (191 : Fin 192) = .rundown) ∧ ((sMovingParts23.move (191 : Fin 192)).runDone = false) ∧
      ((sMovingParts23.move (191 : Fin 192)).scan.value sMovingParts23.ht = 0)) ∧
    ((sMovingParts24.sst (191 : Fin 192) = .unknown ∨ sMovingParts24.sst (191 : Fin 192) = .rundown) ∧
      ((sMovingParts24.move (191 : Fin 192)).smallSince = some 9) ∧ (9 + 40000000 ≤ sMovingParts24.ht) ∧
      ((sMovingParts24.move (191 : Fin 192)).ampAt = some 3990000000) ∧ (sMovingParts24.ht ≤ 3990000000 +
      40000000)) := by
  refine ⟨?_, ?_, ?_, ?_, ?_, ?_, ?_, ?_, ?_, ?_, ?_, ?_, ?_, ?_, ?_, ?_, ?_, ?_, ?_, ?_, ?_, ?_, ?_, ?_, ?_, ?_, ?_, ?_⟩ <;> decide +kernel

theorem test_meets_PortBringUp :
    ((rdB sPortBringUp0 (ephyB (191 : Fin 192)) R.EPHY_CTRL_EN = false) ∧ (rd sPortBringUp0 (chB (191 : Fin 192))
      R.CH_STATUS_STATE = 0)) ∧
    ((rdB sPortBringUp1 (ephyB (191 : Fin 192)) R.EPHY_CTRL_EN = true) ∧ (rd sPortBringUp1 (chB (191 : Fin 192))
      R.CH_STATUS_STATE = 0)) ∧
    ((rdB sPortBringUp2 (ephyB (191 : Fin 192)) R.EPHY_CTRL_EN = true) ∧ (rd sPortBringUp2 (chB (191 : Fin 192))
      R.CH_STATUS_STATE ≠ 0)) ∧
    ((sPortBringUp3.pst (191 : Fin 192) = .detect) ∧ (rdB sPortBringUp3 (dieB ((191 : Fin 192) / 48))
      R.HUB_DIE_STATUS_IN_RESET = false) ∧ (sPortBringUp3.hub.portsOn = true) ∧ (rdB sPortBringUp3 (ephyB (191 :
      Fin 192)) R.EPHY_CTRL_TX_SLEEP = false)) ∧
    ((sPortBringUp4.pst (191 : Fin 192) ≠ .detect)) ∧
    ((sPortBringUp5.pst (191 : Fin 192) = .rate) ∧ (tsValid [1, 0, 15, 0, 0, 0, 0, 0, 0, 0, 0, 0, 177] = true) ∧
      (bitOf ([1, 0, 15, 0, 0, 0, 0, 0, 0, 0, 0, 0, 177].getD 2 0) (rd sPortBringUp5 (ephyB (191 : Fin 192))
      R.EPHY_STATUS_RATE) = true)) ∧
    ((sPortBringUp6.pst (191 : Fin 192) = .polarity) ∧ (tsValid [1, 3, 15, 0, 0, 0, 0, 0, 0, 0, 0, 0, 144] = true)) ∧
    ((tsValid ([] : List Nat) = false)) ∧
    ((sPortBringUp5.pst (191 : Fin 192) = .rate) ∧ ((sPortBringUp5.port (191 : Fin 192)).stAt + 500 * us ≤
      sPortBringUp5.tick) ∧ (rd sPortBringUp5 (ephyB (191 : Fin 192)) R.EPHY_STATUS_RATE ≠ 0)) ∧
    ((sPortBringUp9.pst (191 : Fin 192) = .rate) ∧ ((sPortBringUp9.port (191 : Fin 192)).stAt + 500 * us ≤
      sPortBringUp9.tick) ∧ (rd sPortBringUp9 (ephyB (191 : Fin 192)) R.EPHY_STATUS_RATE = 0)) ∧
    ((sPortBringUp10.pst (191 : Fin 192) = .lock) ∧ ((15 : Fin 16) ≠ 0) ∧ ((15 : Fin 16) = 15 ∨
      (sPortBringUp10.port (191 : Fin 192)).stAt + ms ≤ sPortBringUp10.tick)) ∧
    ((sPortBringUp10.pst (191 : Fin 192) = .lock) ∧ ((9 : Fin 16) ≠ 0) ∧ ((9 : Fin 16) = 15 ∨ (sPortBringUp10.port
      (191 : Fin 192)).stAt + ms ≤ sPortBringUp10.tick)) ∧
    ((sPortBringUp11.pst (191 : Fin 192) = .polarity) ∧ (∀ l ∈ lanesLocked sPortBringUp11 (191 : Fin 192), 16 ≤
      tget 0 l (sPortBringUp11.port (191 : Fin 192)).tsCount)) ∧
    ((sPortBringUp12.pst (191 : Fin 192) = .deskew) ∧ ((3 : Fin 4).val ∈ lanesLeft sPortBringUp12 (191 : Fin 192))
      ∧ (∀ k ∈ lanesLeft sPortBringUp12 (191 : Fin 192), k ≠ (3 : Fin 4).val → (tget (0, 0) k (sPortBringUp12.port
      (191 : Fin 192)).markers).1 = (255 : Fin 256).val ∧ (tget (0, 0) k (sPortBringUp12.port (191 : Fin
      192)).markers).2 ≠ 0)) ∧
    ((sPortBringUp13.pst (191 : Fin 192) = .lock ∨ sPortBringUp13.pst (191 : Fin 192) = .width) ∧
      ((sPortBringUp13.port (191 : Fin 192)).stAt + ms ≤ sPortBringUp13.tick) ∧ (rd sPortBringUp13 (ephyB (191 :
      Fin 192)) R.EPHY_STATUS_RATE ≠ 0)) ∧
    ((sPortBringUp14.pst (191 : Fin 192) = .lock ∨ sPortBringUp14.pst (191 : Fin 192) = .width) ∧
      ((sPortBringUp14.port (191 : Fin 192)).stAt + ms ≤ sPortBringUp14.tick) ∧ (rd sPortBringUp14 (ephyB (191 :
      Fin 192)) R.EPHY_STATUS_RATE = 0)) ∧
    ((sPortBringUp15.pst (191 : Fin 192) = .deskew) ∧ ((sPortBringUp15.port (191 : Fin 192)).stAt + 4 *
      markerPeriod sPortBringUp15 (191 : Fin 192) ≤ sPortBringUp15.tick) ∧ (rd sPortBringUp15 (ephyB (191 : Fin
      192)) R.EPHY_STATUS_RATE ≠ 0)) ∧
    ((sPortBringUp16.pst (191 : Fin 192) = .deskew) ∧ ((sPortBringUp16.port (191 : Fin 192)).stAt + 4 *
      markerPeriod sPortBringUp16 (191 : Fin 192) ≤ sPortBringUp16.tick) ∧ (rd sPortBringUp16 (ephyB (191 : Fin
      192)) R.EPHY_STATUS_RATE = 0)) ∧
    ((sPortBringUp17.pst (191 : Fin 192) = .ident) ∧ ((sPortBringUp17.port (191 : Fin 192)).stAt + 50 * ms ≤
      sPortBringUp17.tick)) ∧
    ((sPortBringUp18.pst (191 : Fin 192) = .up)) ∧
    ((sPortBringUp18.chState (191 : Fin 192) = .off) ∧ (rdB sPortBringUp18 (ephyB (191 : Fin 192))
      R.EPHY_CTRL_TX_SLEEP = false)) ∧
    ((sPortBringUp20.chState (191 : Fin 192) ≠ .off)) ∧
    ((rdB sPortBringUp21 (ephyB (191 : Fin 192)) R.EPHY_CTRL_TX_SLEEP = true) ∧ (sPortBringUp21.pst (191 : Fin 192)
      = .up)) ∧
    (((3 : Fin 8) ≠ 0) ∧ (lbRefused sPortBringUp22 (191 : Fin 192) (3 : Fin 8) = false)) ∧
    (((4 : Fin 8) ≠ 0) ∧ (lbRefused sPortBringUp18 (191 : Fin 192) (4 : Fin 8) = true)) ∧
    ((sPortBringUp24.pst (191 : Fin 192) = .loopback)) ∧
    ((sPortBringUp24.pst (191 : Fin 192) = .loopback)) ∧
    ((bits 0xF1010 0 5 ≤ 16) ∧ (bits 0xF1010 8 5 ≤ 24) ∧ (bits 0xF1010 0 5 + bits 0xF1010 8 5 ≤ 32)) ∧
    ((16 < bits 0x1011 0 5 ∨ 24 < bits 0x1011 8 5 ∨ 32 < bits 0x1011 0 5 + bits 0x1011 8 5)) ∧
    ((16 < bits 0x1110 0 5 ∨ 24 < bits 0x1110 8 5 ∨ 32 < bits 0x1110 0 5 + bits 0x1110 8 5)) := by
  refine ⟨?_, ?_, ?_, ?_, ?_, ?_, ?_, ?_, ?_, ?_, ?_, ?_, ?_, ?_, ?_, ?_, ?_, ?_, ?_, ?_, ?_, ?_, ?_, ?_, ?_, ?_, ?_, ?_, ?_, ?_⟩ <;> decide +kernel

theorem test_meets_PortRunning :
    ((sPortRunning0.pst ({ n := 191 } : PortLate).n ≠ .disabled) ∧ (sPortRunning0.pst ({ n := 191 } : PortLate).n ≠
      .detect) ∧ (rdB sPortRunning0 (ephyB ({ n := 191 } : PortLate).n) R.EPHY_STATUS_TX_IDLE = false) ∧
      (markerFits sPortRunning0 ({ n := 191 } : PortLate).n ({ n := 191 } : PortLate).late = true) ∧ (switchDue
      sPortRunning0 ({ n := 191 } : PortLate).n = none) ∧ ((sPortRunning0.port ({ n := 191 } : PortLate).n).txWake
      = none)) ∧
    ((sPortRunning1.pst ({ n := 191 } : PortLate).n = .up) ∧ (rdB sPortRunning1 (ephyB ({ n := 191 } : PortLate).n)
      R.EPHY_STATUS_TX_IDLE = false) ∧ (markerFits sPortRunning1 ({ n := 191 } : PortLate).n ({ n := 191 } :
      PortLate).late = true) ∧ (switchDue sPortRunning1 ({ n := 191 } : PortLate).n = some
      ({ seq := 1, width := 2, lanes := 3, widen := false, sentAt := 0, lossAt := 0, acked := true } : WidthReq)) ∧
      ((sPortRunning1.port ({ n := 191 } : PortLate).n).headRetrain = none)) ∧
    ((carries sPortRunning2 (191 : Fin 192) = true) ∧ (isGood sPortRunning2 (191 : Fin 192) (logicalLane
      sPortRunning2 (191 : Fin 192) (3 : Fin 4)) = true) ∧ (laneUsed sPortRunning2 (191 : Fin 192) (logicalLane
      sPortRunning2 (191 : Fin 192) (3 : Fin 4)) = true)) ∧
    ((carries sPortRunning2b (191 : Fin 192) = true) ∧ (isGood sPortRunning2b (191 : Fin 192) (logicalLane
      sPortRunning2b (191 : Fin 192) (3 : Fin 4)) = true) ∧ (laneUsed sPortRunning2b (191 : Fin 192) (logicalLane
      sPortRunning2b (191 : Fin 192) (3 : Fin 4)) = true)) ∧
    ((sPortRunning2b.pst (191 : Fin 192) = .up) ∧ (rd sPortRunning2b (ephyB (191 : Fin 192)) R.EPHY_STATUS_LANES =
      2 ^ (3 : Fin 4).val) ∧ (rd sPortRunning2b (ephyB (191 : Fin 192)) R.EPHY_STATUS_GOOD = 2 ^ (3 : Fin 4).val) ∧
      (logicalLane sPortRunning2b (191 : Fin 192) (3 : Fin 4) = (3 : Fin 4))) ∧
    (((sPortRunning4.port (191 : Fin 192)).wreq = some
      ({ seq := 1, width := 2, lanes := 3, widen := false, sentAt := 0, lossAt := 0 } : WidthReq)) ∧
      (({ seq := 1, width := 2, lanes := 3, widen := false, sentAt := 0, lossAt := 0 } : WidthReq).acked = false) ∧
      (({ seq := 1, width := 2, lanes := 3, widen := false, sentAt := 0, lossAt := 0 } : WidthReq).resent = false)
      ∧ (({ seq := 1, width := 2, lanes := 3, widen := false, sentAt := 0, lossAt := 0 } : WidthReq).sentAt + 2 *
      us ≤ sPortRunning4.tick) ∧ (sPortRunning4.tick <
      ({ seq := 1, width := 2, lanes := 3, widen := false, sentAt := 0, lossAt := 0 } : WidthReq).sentAt + 10 *
      us)) ∧
    (((sPortRunning5.port (191 : Fin 192)).wreq = some
      ({ seq := 1, width := 2, lanes := 3, widen := false, sentAt := 0, lossAt := 0 } : WidthReq)) ∧
      (({ seq := 1, width := 2, lanes := 3, widen := false, sentAt := 0, lossAt := 0 } : WidthReq).acked = false) ∧
      (({ seq := 1, width := 2, lanes := 3, widen := false, sentAt := 0, lossAt := 0 } : WidthReq).sentAt + 10 * us
      ≤ sPortRunning5.tick) ∧ (sPortRunning5.pst (191 : Fin 192) = .up)) ∧
    (((sPortRunning6.port (191 : Fin 192)).lossAt = some 9) ∧ (9 + max 1 rd sPortRunning6 (ephyB (191 : Fin 192))
      R.EPHY_CFG_LOSS_MS * ms ≤ sPortRunning6.tick) ∧ (sPortRunning6.chState (191 : Fin 192) ≠ .off) ∧
      (sPortRunning6.chState (191 : Fin 192) ≠ .faulted)) ∧
    ((sPortRunning7.pst (191 : Fin 192) = .up) ∧ (logicalLane sPortRunning7 (191 : Fin 192) (3 : Fin 4) < 4) ∧
      (tget 0 (3 : Fin 4) (sPortRunning7.port (191 : Fin 192)).back ≠ 0) ∧ (tget 0 (3 : Fin 4) (sPortRunning7.port
      (191 : Fin 192)).back + max 1 rd sPortRunning7 (ephyB (191 : Fin 192)) R.EPHY_CFG_WIDEN_HOLD * ms ≤
      sPortRunning7.tick + 1)) ∧
    ((carries sPortRunning9 (191 : Fin 192) = true) ∧ (laneUsed sPortRunning9 (191 : Fin 192) (logicalLane
      sPortRunning9 (191 : Fin 192) (3 : Fin 4)) = true) ∧ (tget 0 (3 : Fin 4) (sPortRunning9.port (191 : Fin
      192)).fomLow ≠ 0) ∧ (tget 0 (3 : Fin 4) (sPortRunning9.port (191 : Fin 192)).fomLow + 100 * ms ≤
      sPortRunning9.tick + 1)) ∧
    ((carries sPortRunning10 (191 : Fin 192) = true) ∧ (rdB sPortRunning10 (ephyB (191 : Fin 192))
      R.EPHY_STATUS_RX_IDLE = false) ∧ (sPortRunning10.chState (191 : Fin 192) = .off ∨ sPortRunning10.chState (191
      : Fin 192) = .faulted)) ∧
    ((sPortRunning11.pst (191 : Fin 192) = .up) ∧ (rdB sPortRunning11 (ephyB (191 : Fin 192)) R.EPHY_STATUS_RX_IDLE
      = false) ∧ (sPortRunning11.chState (191 : Fin 192) ≠ .off) ∧ (sPortRunning11.chState (191 : Fin 192) ≠
      .faulted)) ∧
    ((carries sPortRunning12 (191 : Fin 192) = true) ∧ (rdB sPortRunning12 (ephyB (191 : Fin 192))
      R.EPHY_STATUS_RX_IDLE = true)) ∧
    (((sPortRunning13.port (191 : Fin 192)).wakeAt = some 9) ∧ (9 + 100 * us ≤ sPortRunning13.tick) ∧
      (sPortRunning13.pst (191 : Fin 192) = .up) ∧ (3 < 4) ∧ (laneUsed sPortRunning13 (191 : Fin 192) (logicalLane
      sPortRunning13 (191 : Fin 192) 3) = true) ∧ (rdB sPortRunning13 (laneB (191 : Fin 192) 3) R.EPHY_LSTAT_LOCK =
      false)) ∧
    (((sPortRunning14.port (191 : Fin 192)).wakeAt = some 9) ∧ (9 + 100 * us ≤ sPortRunning14.tick) ∧ (∀ l ∈
      laneNums, laneUsed sPortRunning14 (191 : Fin 192) (logicalLane sPortRunning14 (191 : Fin 192) l) = true → rdB
      sPortRunning14 (laneB (191 : Fin 192) l) R.EPHY_LSTAT_LOCK = true ∧ rdB sPortRunning14 (laneB (191 : Fin 192)
      l) R.EPHY_LSTAT_DESKEWED = true)) := by
  refine ⟨?_, ?_, ?_, ?_, ?_, ?_, ?_, ?_, ?_, ?_, ?_, ?_, ?_, ?_, ?_⟩ <;> decide +kernel

theorem test_meets_HeadMessages :
    ((carries sHeadMessages0 (191 : Fin 192) = true) ∧ ((0 : Fin 256) ≤ 3) ∧ ((sHeadMessages0.port (191 : Fin
      192)).cfg.find? (fun x => x.tag == (255 : Fin 256).val) = some
      ({ tag := 255, write := false, addr := 0x8000, words := [], count := 2, pass := true } : CfgReq)) ∧
      (({ tag := 255, write := false, addr := 0x8000, words := [], count := 2, pass := true } : CfgReq).pass =
      true)) ∧
    ((carries sHeadMessages1 (191 : Fin 192) = true) ∧ ((3 : Fin 256) ≤ 3) ∧ ((3 : Fin 256) ≠ 0) ∧
      ((sHeadMessages1.port (191 : Fin 192)).cfg.find? (fun x => x.tag == (255 : Fin 256).val) = some
      ({ tag := 255, write := false, addr := 0, words := [], count := 2, pass := false } : CfgReq)) ∧
      (({ tag := 255, write := false, addr := 0, words := [], count := 2, pass := false } : CfgReq).pass = false) ∧
      (({ tag := 255, write := false, addr := 0, words := [], count := 2, pass := false } : CfgReq).write = false)
      ∧ ((sHeadMessages1.port (191 : Fin 192)).ident = .reading)) ∧
    ((carries sHeadMessages2 (191 : Fin 192) = true) ∧ ((2 : Fin 256) ≤ 3) ∧ ((2 : Fin 256) ≠ 0) ∧
      ((sHeadMessages2.port (191 : Fin 192)).cfg.find? (fun x => x.tag == (255 : Fin 256).val) = some
      ({ tag := 255, write := true, addr := 0x108, words := [], count := 2, pass := false } : CfgReq)) ∧
      (({ tag := 255, write := true, addr := 0x108, words := [], count := 2, pass := false } : CfgReq).pass =
      false) ∧ (({ tag := 255, write := true, addr := 0x108, words := [], count := 2, pass := false } :
      CfgReq).write = true) ∧
      (({ tag := 255, write := true, addr := 0x108, words := [], count := 2, pass := false } : CfgReq).addr = 0x100
      ∨ ({ tag := 255, write := true, addr := 0x108, words := [], count := 2, pass := false } : CfgReq).addr =
      0x104 ∨ ({ tag := 255, write := true, addr := 0x108, words := [], count := 2, pass := false } : CfgReq).addr
      = 0x108) ∧ ((sHeadMessages2.port (191 : Fin 192)).ident = .yes)) ∧
    ((carries sHeadMessages2 (191 : Fin 192) = true) ∧ ((0 : Fin 256) ≤ 3) ∧ ((sHeadMessages2.port (191 : Fin
      192)).cfg.find? (fun x => x.tag == (255 : Fin 256).val) = some
      ({ tag := 255, write := true, addr := 0x108, words := [], count := 2, pass := false } : CfgReq))) ∧
    (((sHeadMessages4.port (191 : Fin 192)).cfg.find? (fun x => x.tag == (255 : Fin 256).val) = some
      ({ tag := 255, write := true, addr := 0x108, words := [], count := 2, pass := false } : CfgReq)) ∧ (packetsOn
      sHeadMessages4 (191 : Fin 192) = true) ∧
      (({ tag := 255, write := true, addr := 0x108, words := [], count := 2, pass := false } : CfgReq).sent + 100 *
      us ≤ sHeadMessages4.tick) ∧
      (({ tag := 255, write := true, addr := 0x108, words := [], count := 2, pass := false } : CfgReq).resent =
      false)) ∧
    (((sHeadMessages5.port (191 : Fin 192)).cfg.find? (fun x => x.tag == (255 : Fin 256).val) = some
      ({ tag := 255, write := true, addr := 0x8000, words := [], count := 2, pass := true, resent := true } :
      CfgReq)) ∧ (packetsOn sHeadMessages5 (191 : Fin 192) = true) ∧
      (({ tag := 255, write := true, addr := 0x8000, words := [], count := 2, pass := true, resent := true } :
      CfgReq).sent + 100 * us ≤ sHeadMessages5.tick) ∧
      (({ tag := 255, write := true, addr := 0x8000, words := [], count := 2, pass := true, resent := true } :
      CfgReq).resent = true) ∧
      (({ tag := 255, write := true, addr := 0x8000, words := [], count := 2, pass := true, resent := true } :
      CfgReq).pass = true)) ∧
    ((rdB sHeadMessages6 (chB (191 : Fin 192)) R.EPROT_PASS_STAT_BUSY = false) ∧ (rdB sHeadMessages6 (chB (191 :
      Fin 192)) R.EPROT_PASS_CTRL_WRITE = true) ∧ (rd sHeadMessages6 (chB (191 : Fin 192)) R.EPROT_PASS_CTRL_ADDR <
      0x8000)) ∧
    ((rdB sHeadMessages7 (chB (191 : Fin 192)) R.EPROT_PASS_STAT_BUSY = false) ∧ (rdB sHeadMessages7 (chB (191 :
      Fin 192)) R.EPROT_PASS_CTRL_WRITE = false ∨ 0x8000 ≤ rd sHeadMessages7 (chB (191 : Fin 192))
      R.EPROT_PASS_CTRL_ADDR)) ∧
    ((carries sHeadMessages8 (191 : Fin 192) = true)) ∧
    ((carries sHeadMessages8 (191 : Fin 192) = true) ∧ (3 ≠ 0)) ∧
    ((carries sHeadMessages10 (191 : Fin 192) = true)) ∧
    ((carries sHeadMessages11 (191 : Fin 192) = true) ∧ (headStrings sHeadMessages11 (191 : Fin 192) ≤ 6)) ∧
    ((carries sHeadMessages12 (191 : Fin 192) = true) ∧ ((sHeadMessages12.port (191 : Fin 192)).scheds.getD (0 :
      Fin 8) (0, 0, 0) = (4, 0, 2 ^ 17)) ∧ (4 ≠ 0)) ∧
    ((carries sHeadMessages12 (191 : Fin 192) = true) ∧ (([] : List Nat).length ≠ (bitList 21
      ((sHeadMessages12.port (191 : Fin 192)).scheds.getD (0 : Fin 8) (0, 0, 0)).2.2).length)) ∧
    ((carries sHeadMessages14 (191 : Fin 192) = true) ∧ ((sHeadMessages14.port (191 : Fin 192)).samples.find? (fun
      x => x.stag == (255 : Fin 256).val) = some
      ({ stag := 255, str := 5, kind := 0, cur := 40000, t := 0, fno := 7 } : SampleOut)) ∧ ((sHeadMessages14.weir
      (191 : Fin 192)).curFno ≤ ({ stag := 255, str := 5, kind := 0, cur := 40000, t := 0, fno := 7 } :
      SampleOut).fno + 1) ∧ (({ stag := 255, str := 5, kind := 0, cur := 40000, t := 0, fno := 7 } : SampleOut).str
      < 6) ∧ (rd sHeadMessages14 (chB (191 : Fin 192)) R.LAMP_DET_CFG_IMIN ≤
      ({ stag := 255, str := 5, kind := 0, cur := 40000, t := 0, fno := 7 } : SampleOut).cur)) ∧
    ((carries sHeadMessages15 (191 : Fin 192) = true) ∧ (prediction sHeadMessages15 (191 : Fin 192) = some (15000,
      4000)) ∧ ((19 : Int) = 16 * 15001 + (3 : Fin 16) - 16 * 15000)) ∧
    ((carries sHeadMessages16 (191 : Fin 192) = true)) ∧
    ((carries sHeadMessages8 (191 : Fin 192) = true)) ∧
    ((carries sHeadMessages8 (191 : Fin 192) = true) ∧ ((65535 : Fin 65536) ≠ 0)) ∧
    ((rdB sHeadMessages19 (chB (191 : Fin 192)) R.EPROT_STATUS_TEL_STALE = false) ∧ (9 = max (sHeadMessages19.port
      (191 : Fin 192)).telAt (if sHeadMessages19.pst (191 : Fin 192) = .up then (sHeadMessages19.port (191 : Fin
      192)).stAt + 1 else 0)) ∧ (9 ≠ 0) ∧ (9 + max 1 rd sHeadMessages19 (chB (191 : Fin 192)) R.EPROT_CFG_STALE *
      ms ≤ sHeadMessages19.tick + 1)) ∧
    ((sHeadMessages20.pst (191 : Fin 192) = .ident) ∧ ((sHeadMessages20.port (191 : Fin 192)).ident = .parking) ∧
      ((sHeadMessages20.port (191 : Fin 192)).parkWait = true) ∧ ((sHeadMessages20.port (191 : Fin 192)).parkSeq =
      (255 : Fin 256).val)) ∧
    ((sHeadMessages21.pst (191 : Fin 192) = .up) ∧ (sHeadMessages21.chState (191 : Fin 192) = .draining) ∧
      ((sHeadMessages21.weir (191 : Fin 192)).parkSent = true) ∧ ((sHeadMessages21.port (191 : Fin 192)).parkWait =
      true) ∧ ((sHeadMessages21.port (191 : Fin 192)).parkSeq = (255 : Fin 256).val)) ∧
    (((sHeadMessages22.port (191 : Fin 192)).parkWait = true) ∧ (linkTrained sHeadMessages22 (191 : Fin 192) =
      true) ∧ ((sHeadMessages22.port (191 : Fin 192)).parkLast + 100 * us ≤ sHeadMessages22.tick) ∧
      (sHeadMessages22.tick < (sHeadMessages22.port (191 : Fin 192)).parkFirst + 10 * ms)) ∧
    (((sHeadMessages23.port (191 : Fin 192)).parkWait = true) ∧ ((sHeadMessages23.port (191 : Fin 192)).parkFirst +
      10 * ms ≤ sHeadMessages23.tick)) ∧
    ((sHeadMessages8.pst (191 : Fin 192) = .up) ∧ ((sHeadMessages8.port (191 : Fin 192)).headSet ≠ some (1, (15 :
      Fin 16).val, (0 : Fin 256).val)) ∧ (ownRequest sHeadMessages8 (191 : Fin 192) = false)) ∧
    ((sHeadMessages25.pst (191 : Fin 192) = .up) ∧ ((sHeadMessages25.port (191 : Fin 192)).headSet ≠ some (1, (15 :
      Fin 16).val, (0 : Fin 256).val)) ∧ (ownRequest sHeadMessages25 (191 : Fin 192) = true)) ∧
    ((carries sHeadMessages26 (191 : Fin 192) = true) ∧ ((sHeadMessages26.port (191 : Fin 192)).headSet ≠ some (3,
      (7 : Fin 16).val, (0 : Fin 256).val)) ∧ (3 < 4) ∧ (isGood sHeadMessages26 (191 : Fin 192) (logicalLane
      sHeadMessages26 (191 : Fin 192) 3) = true) ∧ (laneUsed sHeadMessages26 (191 : Fin 192) (logicalLane
      sHeadMessages26 (191 : Fin 192) 3) = true) ∧ (bitOf (7 : Fin 16) (logicalLane sHeadMessages26 (191 : Fin 192)
      3) = false)) ∧
    ((carries sHeadMessages27 (191 : Fin 192) = true) ∧ ((sHeadMessages27.port (191 : Fin 192)).wreq = some
      ({ seq := 1, width := 2, lanes := 3, widen := false, sentAt := 0, lossAt := 0 } : WidthReq))) ∧
    (((sHeadMessages28.port (191 : Fin 192)).rreq = some (255 : Fin 256).val) ∧ ((sHeadMessages28.port (191 : Fin
      192)).headRetrain = none)) := by
  refine ⟨?_, ?_, ?_, ?_, ?_, ?_, ?_, ?_, ?_, ?_, ?_, ?_, ?_, ?_, ?_, ?_, ?_, ?_, ?_, ?_, ?_, ?_, ?_, ?_, ?_, ?_, ?_, ?_, ?_⟩ <;> decide +kernel

theorem test_meets_MemoryControllers :
    ((isIdentity ({ src := 0x1300, level := 0 } : Asker).src = true) ∧ (MemoryFree sMemoryControllers0
      (26388279066650 : Fin 35184372088832) (70 : Fin 65537) ({ src := 0x1300, level := 0 } : Asker).src)) ∧
    ((isIdentity ({ src := 0x1334, level := 0 } : Asker).src = false)) ∧
    ((isIdentity ({ src := 0x1300, level := 0 } : Asker).src = true) ∧ (MemoryFree sMemoryControllers0
      (26388279066686 : Fin 35184372088832) ([1, 0, 3, 255] : List Byte).length ({ src := 0x1300, level := 0 } :
      Asker).src)) ∧
    ((isIdentity ({ src := 0x1000, level := 0 } : Asker).src = true) ∧ (agentDie ({ src := 0x1000, level := 0 } :
      Asker).src ≠ some (dieOf (26388279066650 : Fin 35184372088832))) ∧ (sMemoryControllers3.tick < tget 0 (dieOf
      (26388279066650 : Fin 35184372088832)) sMemoryControllers3.swBusy)) ∧
    ((isIdentity ({ src := 0x1300, level := 0 } : Asker).src = true) ∧ (MemoryFree sMemoryControllers1
      (26388279066686 : Fin 35184372088832) (withinGranule (26388279066686 : Fin 35184372088832) ([1, 0, 3, 255] :
      List Byte)).length ({ src := 0x1300, level := 0 } : Asker).src)) ∧
    ((sMemoryControllers5.dreqs[0]? = some ({ level := 7 } : DramReq)) ∧ (5 ≤ ({ level := 7 } : DramReq).level) ∧
      (({ level := 7 } : DramReq).since + ms ≤ sMemoryControllers5.tick)) ∧
    ((ddrState sMemoryControllers6 (3 : Fin 4) (7 : Fin 8) = 2) ∧ (tget 0 (3 : Fin 4) (sMemoryControllers6.ddr (3 :
      Fin 4) (7 : Fin 8)).refAt ≤ sMemoryControllers6.tick) ∧ ((sMemoryControllers6.ddr (3 : Fin 4) (7 : Fin
      8)).pause = none)) ∧
    ((ddrState sMemoryControllers7 (3 : Fin 4) (7 : Fin 8) = 2) ∧ (tget 0 (3 : Fin 4) (sMemoryControllers7.ddr (3 :
      Fin 4) (7 : Fin 8)).refAt ≤ sMemoryControllers7.tick) ∧ ((sMemoryControllers7.ddr (3 : Fin 4) (7 : Fin
      8)).pause ≠ none)) ∧
    ((ddrState sMemoryControllers1 (3 : Fin 4) (7 : Fin 8) = 2) ∧ ((sMemoryControllers1.ddr (3 : Fin 4) (7 : Fin
      8)).pause = none) ∧ (tget 0 (3 : Fin 4) (sMemoryControllers1.ddr (3 : Fin 4) (7 : Fin 8)).trainAt ≤
      sMemoryControllers1.tick)) ∧
    ((ddrState sMemoryControllers1 (3 : Fin 4) (7 : Fin 8) = 2) ∧ ((sMemoryControllers1.ddr (3 : Fin 4) (7 : Fin
      8)).pause ≠ some (3 : Fin 4).val) ∧ (tget 0 (3 : Fin 4) (sMemoryControllers1.ddr (3 : Fin 4) (7 : Fin
      8)).trainAt ≤ sMemoryControllers1.tick) ∧ ((sMemoryControllers1.ddr (3 : Fin 4) (7 : Fin 8)).waits.any (fun w
      => w.1 == (3 : Fin 4).val) = false)) ∧
    (((sMemoryControllers10.ddr (3 : Fin 4) (7 : Fin 8)).pause ≠ none)) ∧
    (((sMemoryControllers10.ddr (3 : Fin 4) (7 : Fin 8)).pause ≠ none)) ∧
    ((ddrState sMemoryControllers12 (3 : Fin 4) (7 : Fin 8) = 2) ∧ ((sMemoryControllers12.ddr (3 : Fin 4) (7 : Fin
      8)).pause = none) ∧ ((sMemoryControllers12.ddr (3 : Fin 4) (7 : Fin 8)).waits.find? (fun x => x.1 == (3 : Fin
      4).val) = some (3, 5)) ∧ ((3, 5).2 + ms * max 1 (rd sMemoryControllers12 (ddrDieB (3 : Fin 4))
      R.DDR_DIE_TRAIN_OVERDUE) ≤ sMemoryControllers12.tick)) ∧
    ((idleEnough sMemoryControllers1 (3 : Fin 4) (7 : Fin 8) false = true)) ∧
    ((idleEnough sMemoryControllers1 (3 : Fin 4) (7 : Fin 8) true = false)) ∧
    ((ddrState sMemoryControllers1 (3 : Fin 4) (7 : Fin 8) ≠ 0) ∧ (ddrState sMemoryControllers1 (3 : Fin 4) (7 :
      Fin 8) ≠ 5)) ∧
    ((ddrState sMemoryControllers16 (3 : Fin 4) (7 : Fin 8) = 2) ∧ (max 1 (rd sMemoryControllers16 (ddrDieB (3 :
      Fin 4)) R.DDR_DIE_RAS1_REPLAY_MAX) ≤ (sMemoryControllers16.ddr (3 : Fin 4) (7 : Fin 8)).alerts + 1)) ∧
    ((ddrState sMemoryControllers17 (3 : Fin 4) (7 : Fin 8) = 4)) ∧
    ((ddrState sMemoryControllers17 (3 : Fin 4) (7 : Fin 8) = 4)) ∧
    ((rd sMemoryControllers1 (ddrB (3 : Fin 4) (7 : Fin 8)) R.DDR_STATUS_BAND ≤ 4)) ∧
    ((rdB sMemoryControllers21 (ddrDieB (3 : Fin 4)) R.DDR_DIE_STATUS_INIT_DONE = false) ∧ (rdB
      sMemoryControllers21 (ddrDieB (3 : Fin 4)) R.DDR_DIE_STATUS_MEM_OK = true)) ∧
    ((scrubs sMemoryControllers1 (3 : Fin 4) (7 : Fin 8) = true)) ∧
    (((sMemoryControllers23.die (3 : Fin 4)).leakAt + second * max 1 (rd sMemoryControllers23 (ddrDieB (3 : Fin 4))
      R.DDR_DIE_RAS0_LEAK) ≤ sMemoryControllers23.tick)) ∧
    ((spareReady sMemoryControllers24 (3 : Fin 4) (7 : Fin 8) = true) ∧ (bitOf (rd sMemoryControllers24 (ddrB (3 :
      Fin 4) (7 : Fin 8)) R.DDR_STATUS_IN_SERVICE) (2 : Fin 4) = true)) ∧
    ((spareReady sMemoryControllers1 (3 : Fin 4) (7 : Fin 8) = false ∨ bitOf (rd sMemoryControllers1 (ddrB (3 : Fin
      4) (7 : Fin 8)) R.DDR_STATUS_IN_SERVICE) (2 : Fin 4) = false)) ∧
    ((rdB sMemoryControllers26 (ddrB (3 : Fin 4) (7 : Fin 8)) R.DDR_STATUS_MIGRATING = true) ∧ (2 = rd
      sMemoryControllers26 (ddrB (3 : Fin 4) (7 : Fin 8)) R.DDR_MIG_FROM) ∧ (3 = rd sMemoryControllers26 (ddrB (3 :
      Fin 4) (7 : Fin 8)) R.DDR_MIG_TO) ∧ (2 < 4) ∧ (3 < 4) ∧ (2 ≠ 3)) ∧
    (((62 : Fin 64) < (63 : Fin 64))) ∧
    (((63 : Fin 64) ≤ (63 : Fin 64))) := by
  refine ⟨?_, ?_, ?_, ?_, ?_, ?_, ?_, ?_, ?_, ?_, ?_, ?_, ?_, ?_, ?_, ?_, ?_, ?_, ?_, ?_, ?_, ?_, ?_, ?_, ?_, ?_, ?_, ?_⟩ <;> decide +kernel

theorem test_meets_RingsAndTheHostSide :
    ((ringExists sRingsAndTheHostSide0 (256 : Fin 257) (3 : Fin 16) = true) ∧ (ringOn sRingsAndTheHostSide0 (256 :
      Fin 257) (3 : Fin 16) = false) ∧ (ringFits sRingsAndTheHostSide0 (256 : Fin 257) (3 : Fin 16) = true)) ∧
    ((ringExists sRingsAndTheHostSide1 (0 : Fin 257) (15 : Fin 16) = true) ∧ (ringOn sRingsAndTheHostSide1 (0 : Fin
      257) (15 : Fin 16) = false) ∧ (ringFits sRingsAndTheHostSide1 (0 : Fin 257) (15 : Fin 16) = true) ∧ ((ringSt
      sRingsAndTheHostSide1 (0 : Fin 257) (15 : Fin 16)).held = [])) ∧
    ((ringExists sRingsAndTheHostSide1 (256 : Fin 257) (3 : Fin 16) = true) ∧ (ringOn sRingsAndTheHostSide1 (256 :
      Fin 257) (3 : Fin 16) = false) ∧ (ringFits sRingsAndTheHostSide1 (256 : Fin 257) (3 : Fin 16) = false)) ∧
    ((ringExists sRingsAndTheHostSide3 (0 : Fin 257) (15 : Fin 16) = true)) ∧
    ((ringExists sRingsAndTheHostSide4 (0 : Fin 257) (15 : Fin 16) = true) ∧ (32767 < sqSize sRingsAndTheHostSide4
      (0 : Fin 257) (15 : Fin 16))) ∧
    ((ringExists sRingsAndTheHostSide1 (0 : Fin 257) (15 : Fin 16) = true) ∧ (sqSize sRingsAndTheHostSide1 (0 : Fin
      257) (15 : Fin 16) ≤ 65536)) ∧
    ((ringExists sRingsAndTheHostSide1 (256 : Fin 257) (4 : Fin 16) = false)) ∧
    ((ringOn sRingsAndTheHostSide7 (256 : Fin 257) (3 : Fin 16) = true) ∧ (sqWaits sRingsAndTheHostSide7 (256 : Fin
      257) (3 : Fin 16) = true) ∧ (segOk sRingsAndTheHostSide7 (256 : Fin 257) false (sqAddr sRingsAndTheHostSide7
      (256 : Fin 257) (3 : Fin 16)) 64 = false)) ∧
    ((segOk sRingsAndTheHostSide8 (0 : Fin 257) false (sqAddr sRingsAndTheHostSide8 (0 : Fin 257) (15 : Fin 16)) 64
      = true) ∧ (segOk sRingsAndTheHostSide8 (0 : Fin 257) true (cqBase sRingsAndTheHostSide8 (0 : Fin 257) (15 :
      Fin 16) + 32 * rd sRingsAndTheHostSide8 (ringB (0 : Fin 257) (15 : Fin 16)) R.SLUICE_CQ_TAIL_TAIL) 32 =
      true)) ∧
    ((ringExists sRingsAndTheHostSide1 (0 : Fin 257) (15 : Fin 16) = true)) ∧
    ((rd sRingsAndTheHostSide10 (ringB (0 : Fin 257) (15 : Fin 16)) R.SLUICE_CQ_IRQ_TIME ≠ 0) ∧ ((ringSt
      sRingsAndTheHostSide10 (0 : Fin 257) (15 : Fin 16)).unsig ≠ 0) ∧ ((ringSt sRingsAndTheHostSide10 (0 : Fin
      257) (15 : Fin 16)).unsigAt + rd sRingsAndTheHostSide10 (ringB (0 : Fin 257) (15 : Fin 16))
      R.SLUICE_CQ_IRQ_TIME * us ≤ sRingsAndTheHostSide10.tick)) ∧
    ((fnUp sRingsAndTheHostSide11 (256 : Fin 257) = true) ∧ (aptWriteOk (256 : Fin 257) 65530 ([1, 0, 255] : List
      Byte).length = true) ∧ (segOk sRingsAndTheHostSide11 (256 : Fin 257) true (aptOf sRingsAndTheHostSide11 (256
      : Fin 257) + 65530) ([1, 0, 255] : List Byte).length = true) ∧ (MemoryFree sRingsAndTheHostSide11 (aptOf
      sRingsAndTheHostSide11 (256 : Fin 257) + 65530) ([1, 0, 255] : List Byte).length (256 : Fin 257))) ∧
    ((fnUp sRingsAndTheHostSide11 (256 : Fin 257) = true) ∧ (aptReadOk (256 : Fin 257) 65530 (8 : Fin 4097) = true)
      ∧ (segOk sRingsAndTheHostSide11 (256 : Fin 257) false (aptOf sRingsAndTheHostSide11 (256 : Fin 257) + 65530)
      (8 : Fin 4097) = true) ∧ (MemoryFree sRingsAndTheHostSide11 (aptOf sRingsAndTheHostSide11 (256 : Fin 257) +
      65530) (8 : Fin 4097) (256 : Fin 257))) ∧
    ((fnUp sRingsAndTheHostSide11 (256 : Fin 257) = true) ∧ (aptReadOk (256 : Fin 257) 1048570 (8 : Fin 4097) =
      true) ∧ (segOk sRingsAndTheHostSide11 (256 : Fin 257) false (aptOf sRingsAndTheHostSide11 (256 : Fin 257) +
      1048570) (8 : Fin 4097) = false) ∧ (tget 0 (dieOf (aptOf sRingsAndTheHostSide11 (256 : Fin 257) + 1048570))
      sRingsAndTheHostSide11.swBusy ≤ sRingsAndTheHostSide11.tick)) ∧
    ((fnUp sRingsAndTheHostSide14 (256 : Fin 257) = true)) ∧
    (((256 : Fin 257) ≠ 0)) ∧
    (((256 : Fin 257) ≠ 0)) ∧
    (((256 : Fin 257) ≠ 0) ∧ (sRingsAndTheHostSide19.evq = []) ∧ (fnUp sRingsAndTheHostSide19 (256 : Fin 257) =
      true) ∧ (rdB sRingsAndTheHostSide19 (evRingB (256 : Fin 257)) R.SLUICE_EV_CFG_EN = false) ∧ (segOk
      sRingsAndTheHostSide19 (256 : Fin 257) true (evBase sRingsAndTheHostSide19 (256 : Fin 257)) (16 * evSize
      sRingsAndTheHostSide19 (256 : Fin 257)) = true) ∧ (spanInstalled sRingsAndTheHostSide19 (evBase
      sRingsAndTheHostSide19 (256 : Fin 257)) (16 * evSize sRingsAndTheHostSide19 (256 : Fin 257)) = true)) ∧
    ((rdB sRingsAndTheHostSide20 (evRingB 0) R.SLUICE_EV_CFG_EN = false) ∧ (spanInstalled sRingsAndTheHostSide20
      (evBase sRingsAndTheHostSide20 0) (16 * evSize sRingsAndTheHostSide20 0) = true)) ∧
    ((fnUp sRingsAndTheHostSide1 (256 : Fin 257) = true) ∧ (rdB sRingsAndTheHostSide1 (evRingB (256 : Fin 257))
      R.SLUICE_EV_CFG_EN = false) ∧ (segOk sRingsAndTheHostSide1 (256 : Fin 257) true (evBase sRingsAndTheHostSide1
      (256 : Fin 257)) (16 * evSize sRingsAndTheHostSide1 (256 : Fin 257)) = false ∨ spanInstalled
      sRingsAndTheHostSide1 (evBase sRingsAndTheHostSide1 (256 : Fin 257)) (16 * evSize sRingsAndTheHostSide1 (256
      : Fin 257)) = false)) ∧
    ((fnUp sRingsAndTheHostSide1 (256 : Fin 257) = true)) ∧
    (((256 : Fin 257) ≠ 0) ∧ (sRingsAndTheHostSide23.hub.vf = true)) ∧
    (((0 : Fin 257) = 0 ∨ sRingsAndTheHostSide1.hub.vf = false)) := by
  refine ⟨?_, ?_, ?_, ?_, ?_, ?_, ?_, ?_, ?_, ?_, ?_, ?_, ?_, ?_, ?_, ?_, ?_, ?_, ?_, ?_, ?_, ?_, ?_⟩ <;> decide +kernel

theorem test_meets_RingCommands :
    ((TakesAt sRingCommands0 (0 : Fin 257) (15 : Fin 16) ringEntry0) ∧ (field ringEntry0 0 1 = 0) ∧ (CqClear
      sRingCommands0 (0 : Fin 257) (15 : Fin 16))) ∧
    ((TakesAt sRingCommands0b (0 : Fin 257) (15 : Fin 16) ringEntry0) ∧ (field ringEntry0 0 1 = 0) ∧ (CqClear
      sRingCommands0b (0 : Fin 257) (15 : Fin 16))) ∧
    ((canTake sRingCommands1 (0 : Fin 257) (15 : Fin 16) = true) ∧ (segOk sRingCommands1 (0 : Fin 257) false
      (sqAddr sRingCommands1 (0 : Fin 257) (15 : Fin 16)) 64 = true) ∧ (poisonedAny sRingCommands1 (sqAddr
      sRingCommands1 (0 : Fin 257) (15 : Fin 16)) 64 = false) ∧ (ringEntry1 = loadBytes sRingCommands1 (sqAddr
      sRingCommands1 (0 : Fin 257) (15 : Fin 16)) 64) ∧ (opKnown (field ringEntry1 0 1) = false) ∧ (segOk
      sRingCommands1 (0 : Fin 257) true (cqBase sRingCommands1 (0 : Fin 257) (15 : Fin 16) + 32 * rd sRingCommands1
      (ringB (0 : Fin 257) (15 : Fin 16)) R.SLUICE_CQ_TAIL_TAIL) 32 = true) ∧ (CqClear sRingCommands1 (0 : Fin 257)
      (15 : Fin 16))) ∧
    ((canTake sRingCommands2 (256 : Fin 257) (3 : Fin 16) = true) ∧ (segOk sRingCommands2 (256 : Fin 257) false
      (sqAddr sRingCommands2 (256 : Fin 257) (3 : Fin 16)) 64 = false)) ∧
    ((TakesAt sRingCommands0 (0 : Fin 257) (15 : Fin 16) ringEntry0) ∧ (field ringEntry0 0 1 ≠ 1)) ∧
    ((TakesAt sRingCommands4 (0 : Fin 257) (15 : Fin 16) ringEntry2) ∧ (field ringEntry2 0 1 = 1) ∧ (CqClear
      sRingCommands4 (0 : Fin 257) (15 : Fin 16)) ∧ (lowest (surfReasons sRingCommands4 (0 : Fin 257) (field
      ringEntry2 8 2) ((ringEntry2.drop 16).take 32)) = 0)) ∧
    ((TakesAt sRingCommands5 (0 : Fin 257) (15 : Fin 16) ringEntry3) ∧ (field ringEntry3 0 1 = 1) ∧ (CqClear
      sRingCommands5 (0 : Fin 257) (15 : Fin 16)) ∧ (9 = lowest (surfReasons sRingCommands5 (0 : Fin 257) (field
      ringEntry3 8 2) ((ringEntry3.drop 16).take 32))) ∧ (9 ≠ 0)) ∧
    ((TakesAt sRingCommands6 (0 : Fin 257) (15 : Fin 16) ringEntry4) ∧ (field ringEntry4 0 1 = 2) ∧ (CqClear
      sRingCommands6 (0 : Fin 257) (15 : Fin 16)) ∧ (field ringEntry4 8 2 ≤ 0x3FF) ∧ (handleBound sRingCommands6 (0
      : Fin 257) (field ringEntry4 8 2) = false)) ∧
    ((TakesAt sRingCommands7 (0 : Fin 257) (15 : Fin 16) ringEntry5) ∧ (field ringEntry5 0 1 = 2) ∧ (CqClear
      sRingCommands7 (0 : Fin 257) (15 : Fin 16)) ∧ (0x3FF < field ringEntry5 8 2)) ∧
    ((TakesAt sRingCommands8 (0 : Fin 257) (15 : Fin 16) ringEntry6) ∧ (field ringEntry6 0 1 = 3) ∧ (CqClear
      sRingCommands8 (0 : Fin 257) (15 : Fin 16)) ∧ (191 = field ringEntry6 4 2) ∧ (fenceMode sRingCommands8 191 =
      false) ∧ ((0 : Fin 257) = 0 ∨ layerHolder sRingCommands8 191 (field ringEntry6 6 1) = (0 : Fin 257)) ∧ (field
      ringEntry6 6 1 < 8 ∨ ((0 : Fin 257) = 0 ∧ field ringEntry6 6 1 = 8)) ∧ (bitOf (field ringEntry6 1 1) 0 =
      false) ∧ (updateReserved 191 (field ringEntry6 6 1) (fields ringEntry6 8 4 12) = false) ∧ (lowest
      (stackReasons (pendLayer 191 (0 : Fin 257) (field ringEntry6 6 1) (fields ringEntry6 8 4 12) sRingCommands8)
      191 (0 : Fin 257) (commitFlips (pendLayer 191 (0 : Fin 257) (field ringEntry6 6 1) (fields ringEntry6 8 4 12)
      sRingCommands8) 191 (0 : Fin 257))) = 0)) ∧
    ((TakesAt sRingCommands9 (0 : Fin 257) (15 : Fin 16) ringEntry7) ∧ (field ringEntry7 0 1 = 3) ∧ (CqClear
      sRingCommands9 (0 : Fin 257) (15 : Fin 16)) ∧ (9 ≤ field ringEntry7 6 1)) ∧
    ((TakesAt sRingCommands10 (0 : Fin 257) (15 : Fin 16) ringEntry8) ∧ (field ringEntry8 0 1 = 4) ∧ (191 = field
      ringEntry8 4 2) ∧ (isLive sRingCommands10 191 = true) ∧ (commitReason sRingCommands10 191 (0 : Fin 257)
      (reqFlips sRingCommands10 191 { fn := (0 : Fin 257), target := field ringEntry8 8 8 }) = 0)) ∧
    ((TakesAt sRingCommands11 (0 : Fin 257) (15 : Fin 16) ringEntry8) ∧ (field ringEntry8 0 1 = 4) ∧ (191 = field
      ringEntry8 4 2) ∧ (isLive sRingCommands11 191 = false) ∧ (commitReason sRingCommands11 191 (0 : Fin 257)
      (reqFlips sRingCommands11 191 { fn := (0 : Fin 257), target := field ringEntry8 8 8 }) = 0) ∧ (admitFlip
      sRingCommands11 191 (0 : Fin 257) (reqFlips sRingCommands11 191
      { fn := (0 : Fin 257), target := field ringEntry8 8 8 }) = .ok)) ∧
    ((TakesAt sRingCommands12 (0 : Fin 257) (15 : Fin 16) ringEntry8) ∧ (field ringEntry8 0 1 = 4) ∧ (191 = field
      ringEntry8 4 2) ∧ (commitReason sRingCommands12 191 (0 : Fin 257) (reqFlips sRingCommands12 191
      { fn := (0 : Fin 257), target := field ringEntry8 8 8 }) ≠ 0)) ∧
    ((TakesAt sRingCommands13 (0 : Fin 257) (15 : Fin 16) ringEntry9) ∧ (field ringEntry9 0 1 = 0x42) ∧ (191 =
      field ringEntry9 4 2) ∧ (sRingCommands13.chState 191 = .running) ∧ (commitReason sRingCommands13 191 0
      (pf0Flips sRingCommands13 191) = 0) ∧ ((sRingCommands13.chst 191).preempt = none) ∧ (sRingCommands13.frmsOf
      191 = [])) ∧
    ((TakesAt sRingCommands14 (0 : Fin 257) (15 : Fin 16) ringEntry10) ∧ (field ringEntry10 0 1 = 5) ∧ (field
      ringEntry10 8 8 % 8 = 0) ∧ (segOk sRingCommands14 (0 : Fin 257) false (field ringEntry10 8 8) 8 = true)) ∧
    ((TakesAt sRingCommands15 (0 : Fin 257) (15 : Fin 16) ringEntry11) ∧ (field ringEntry11 0 1 = 5) ∧ (CqClear
      sRingCommands15 (0 : Fin 257) (15 : Fin 16)) ∧ (field ringEntry11 8 8 % 8 ≠ 0)) ∧
    ((waitOf sRingCommands16 (0 : Fin 257) (15 : Fin 16) = some
      (({ id := 1, fn := 0, ring := 15, tag := 0, op := 5, ch := 0, sub := 0, args := [0, 5, 9] } : Cmd), 0, 5, 9))
      ∧ (segOk sRingCommands16 (0 : Fin 257) false 0 8 = true) ∧ (poisonedAny sRingCommands16 0 8 = false) ∧ (5 ≤
      loadN sRingCommands16 0 8)) ∧
    ((waitOf sRingCommands17 (0 : Fin 257) (15 : Fin 16) = some
      (({ id := 1, fn := 0, ring := 15, tag := 0, op := 5, ch := 0, sub := 0, args := [0, 5, 9] } : Cmd), 0, 5, 9))
      ∧ (segOk sRingCommands17 (0 : Fin 257) false 0 8 = true) ∧ (poisonedAny sRingCommands17 0 8 = false) ∧ (loadN
      sRingCommands17 0 8 < 5)) ∧
    ((waitOf sRingCommands16 (0 : Fin 257) (15 : Fin 16) = some
      (({ id := 1, fn := 0, ring := 15, tag := 0, op := 5, ch := 0, sub := 0, args := [0, 5, 9] } : Cmd), 0, 5, 9))
      ∧ (9 ≠ 0) ∧ (9 ≤ sRingCommands16.ht)) ∧
    ((TakesAt sRingCommands19 (0 : Fin 257) (15 : Fin 16) ringEntry14) ∧ (field ringEntry14 0 1 = 6) ∧ (191 = field
      ringEntry14 4 2) ∧ (bitOf (field ringEntry14 1 1) 0 = false) ∧ (1 = 1 - seqBank sRingCommands19 191) ∧
      ((parseImage false (imageBytes
      { mem := [(8192, 86), (8193, 73), (8194, 76), (8195, 84), (8196, 1), (8197, 1), (8198, 1), (8202, 255), (8203, 255), (8204, 255), (8205, 255), (8208, 5), (8209, 27), (8210, 41), (8211, 38), (8227, 4)] }
      8192 36)) = parseImage false (imageBytes sRingCommands19 (field ringEntry14 8 8) (field ringEntry14 16 4))) ∧
      (lowest (seqReasons sRingCommands19 (0 : Fin 257) 191 (field ringEntry14 8 8) (field ringEntry14 16 4)) = 0)) ∧
    ((TakesAt sRingCommands20 (0 : Fin 257) (15 : Fin 16) ringEntry15) ∧ (field ringEntry15 0 1 = 6) ∧ (CqClear
      sRingCommands20 (0 : Fin 257) (15 : Fin 16)) ∧ (191 = field ringEntry15 4 2) ∧ (bitOf (field ringEntry15 1 1)
      0 = false) ∧ (1 = lowest (seqReasons sRingCommands20 (0 : Fin 257) 191 (field ringEntry15 8 8) (field
      ringEntry15 16 4))) ∧ (1 ∉ [0, 2, 0xA, 0xB])) ∧
    ((TakesAt sRingCommands21 (0 : Fin 257) (15 : Fin 16) ringEntry16) ∧ (field ringEntry16 0 1 = 6) ∧ (CqClear
      sRingCommands21 (0 : Fin 257) (15 : Fin 16)) ∧ ((0 : Fin 257) = 0) ∧ (bitOf (field ringEntry16 1 1) 0 = true)
      ∧ (field ringEntry16 24 1 = 0) ∧ (1536 = field ringEntry16 20 2) ∧ (0 = field ringEntry16 22 2) ∧ (([86, 73,
      76, 84, 2, 1, 1, 0, 0, 0, 0, 0, 0, 0, 1, 0, 223, 204, 71, 29, 0, 0, 0, 0, 0, 0, 0, 0, 0, 0, 0, 0, 0, 0, 0, 4,
      0, 0, 128, 63] : List Byte) = imageBytes sRingCommands21 (field ringEntry16 8 8) (field ringEntry16 16 4)) ∧
      (poisonedAny sRingCommands21 (field ringEntry16 8 8) (field ringEntry16 16 4) = false) ∧ (headerBad true
      ([86, 73, 76, 84, 2, 1, 1, 0, 0, 0, 0, 0, 0, 0, 1, 0, 223, 204, 71, 29, 0, 0, 0, 0, 0, 0, 0, 0, 0, 0, 0, 0,
      0, 0, 0, 4, 0, 0, 128, 63] : List Byte) = false) ∧ (field ringEntry16 16 4 = ([86, 73, 76, 84, 2, 1, 1, 0, 0,
      0, 0, 0, 0, 0, 1, 0, 223, 204, 71, 29, 0, 0, 0, 0, 0, 0, 0, 0, 0, 0, 0, 0, 0, 0, 0, 4, 0, 0, 128, 63] : List
      Byte).length) ∧ ((parseImage true ([86, 73, 76, 84, 2, 1, 1, 0, 0, 0, 0, 0, 0, 0, 1, 0, 223, 204, 71, 29, 0,
      0, 0, 0, 0, 0, 0, 0, 0, 0, 0, 0, 0, 0, 0, 4, 0, 0, 128, 63] : List Byte)) = parseImage true ([86, 73, 76, 84,
      2, 1, 1, 0, 0, 0, 0, 0, 0, 0, 1, 0, 223, 204, 71, 29, 0, 0, 0, 0, 0, 0, 0, 0, 0, 0, 0, 0, 0, 0, 0, 4, 0, 0,
      128, 63] : List Byte)) ∧ (contentReasons true false 0 ([86, 73, 76, 84, 2, 1, 1, 0, 0, 0, 0, 0, 0, 0, 1, 0,
      223, 204, 71, 29, 0, 0, 0, 0, 0, 0, 0, 0, 0, 0, 0, 0, 0, 0, 0, 4, 0, 0, 128, 63] : List Byte) (parseImage
      true ([86, 73, 76, 84, 2, 1, 1, 0, 0, 0, 0, 0, 0, 0, 1, 0, 223, 204, 71, 29, 0, 0, 0, 0, 0, 0, 0, 0, 0, 0, 0,
      0, 0, 0, 0, 4, 0, 0, 128, 63] : List Byte)) ++ slotReasons sRingCommands21 1536 0 (parseImage true ([86, 73,
      76, 84, 2, 1, 1, 0, 0, 0, 0, 0, 0, 0, 1, 0, 223, 204, 71, 29, 0, 0, 0, 0, 0, 0, 0, 0, 0, 0, 0, 0, 0, 0, 0, 4,
      0, 0, 128, 63] : List Byte)) = [])) ∧
    ((TakesAt sRingCommands22 (0 : Fin 257) (15 : Fin 16) ringEntry17) ∧ (field ringEntry17 0 1 = 6) ∧ (CqClear
      sRingCommands22 (0 : Fin 257) (15 : Fin 16)) ∧ (bitOf (field ringEntry17 1 1) 0 = true) ∧ (4 < field
      ringEntry17 24 1 ∨ (field ringEntry17 24 1 = 0 ∧ field ringEntry17 16 4 = 0))) ∧
    ((TakesAt sRingCommands22b (0 : Fin 257) (15 : Fin 16) ringEntry18) ∧ (field ringEntry18 0 1 = 6) ∧ (CqClear
      sRingCommands22b (0 : Fin 257) (15 : Fin 16)) ∧ (bitOf (field ringEntry18 1 1) 0 = true) ∧ (4 < field
      ringEntry18 24 1 ∨ (field ringEntry18 24 1 = 0 ∧ field ringEntry18 16 4 = 0))) ∧
    ((TakesAt sRingCommands23 (0 : Fin 257) (15 : Fin 16) ringEntry19) ∧ (field ringEntry19 0 1 = 7) ∧ (191 = field
      ringEntry19 4 2) ∧ (verified sRingCommands23 191 (1 - seqBank sRingCommands23 191) = true) ∧
      ((sRingCommands23.seq 191).swap = none) ∧ ((0 : Fin 257) = 0 ∨ leveeActive sRingCommands23 191 = false) ∧
      (isLive sRingCommands23 191 = true) ∧ ((sRingCommands23.seq 191).run ≠ .halted)) ∧
    ((TakesAt sRingCommands24 (0 : Fin 257) (15 : Fin 16) ringEntry19) ∧ (field ringEntry19 0 1 = 7) ∧ (191 = field
      ringEntry19 4 2) ∧ (verified sRingCommands24 191 (1 - seqBank sRingCommands24 191) = true) ∧
      ((sRingCommands24.seq 191).swap = none) ∧ ((0 : Fin 257) = 0 ∨ leveeActive sRingCommands24 191 = false) ∧
      (isLive sRingCommands24 191 = false) ∧ (seqBank sRingCommands24 191 ≤ 1)) ∧
    ((TakesAt sRingCommands25 (0 : Fin 257) (15 : Fin 16) ringEntry19) ∧ (field ringEntry19 0 1 = 7) ∧ (191 = field
      ringEntry19 4 2) ∧ (verified sRingCommands25 191 (1 - seqBank sRingCommands25 191) = false ∨
      (sRingCommands25.seq 191).swap ≠ none)) ∧
    ((TakesAt sRingCommands26 (0 : Fin 257) (15 : Fin 16) ringEntry20) ∧ (field ringEntry20 0 1 = 8) ∧ (CqClear
      sRingCommands26 (0 : Fin 257) (15 : Fin 16)) ∧ (field ringEntry20 16 2 = 0 ∨ 4096 < field ringEntry20 16 2 ∨
      field ringEntry20 18 1 = 0)) ∧
    ((TakesAt sRingCommands27 (0 : Fin 257) (15 : Fin 16) ringEntry21) ∧ (field ringEntry21 0 1 = 8) ∧ (191 = field
      ringEntry21 4 2) ∧ (0 < field ringEntry21 16 2) ∧ (field ringEntry21 16 2 ≤ 4096) ∧ (field ringEntry21 18 1 ≠
      0) ∧ (ownsLayer sRingCommands27 (0 : Fin 257) 191 (field ringEntry21 6 1) = true) ∧ (segOk sRingCommands27 (0
      : Fin 257) false (field ringEntry21 8 8) (4 * field ringEntry21 16 2) = true) ∧ (poisonedAny sRingCommands27
      (field ringEntry21 8 8) (4 * field ringEntry21 16 2) = false) ∧ ([5, 6] = fields (loadBytes sRingCommands27
      (field ringEntry21 8 8) (4 * field ringEntry21 16 2)) 0 4 (field ringEntry21 16 2)) ∧ ([5, 6].all (fun h => h
      < 1024 && !(surf sRingCommands27 (tableFn sRingCommands27 191 (field ringEntry21 6 1)) h).empty) = true) ∧
      (({ layer := 3, table := [5, 6], frames := 255, start := 9 } : Clip) =
      { layer := field ringEntry21 6 1, fn := (0 : Fin 257), table := [5, 6], frames := field ringEntry21 18 1, loops := field ringEntry21 20 4, start := field ringEntry21 24 8 })
      ∧ (lowest (sluiceReasons (modCh 191 (fun y =>
      { y with clips := [({ layer := 3, table := [5, 6], frames := 255, start := 9 } : Clip)] }) sRingCommands27)
      191 (0 : Fin 257) noFlip) = 0)) ∧
    ((TakesAt sRingCommands28 (0 : Fin 257) (15 : Fin 16) ringEntry22) ∧ (field ringEntry22 0 1 = 9) ∧ (CqClear
      sRingCommands28 (0 : Fin 257) (15 : Fin 16)) ∧ (191 = field ringEntry22 4 2) ∧ (ownsLayer sRingCommands28 (0
      : Fin 257) 191 (field ringEntry22 6 1) = true) ∧ ((sRingCommands28.chst 191).clips.any (fun x => x.layer ==
      field ringEntry22 6 1) = false)) ∧
    ((TakesAt sRingCommands29 (0 : Fin 257) (15 : Fin 16) ringEntry22) ∧ (field ringEntry22 0 1 = 9) ∧ (191 = field
      ringEntry22 4 2) ∧ (ownsLayer sRingCommands29 (0 : Fin 257) 191 (field ringEntry22 6 1) = true) ∧
      ((sRingCommands29.chst 191).clips.any (fun x => x.layer == field ringEntry22 6 1) = true)) ∧
    ((TakesAt sRingCommands30 (256 : Fin 257) (3 : Fin 16) ringEntry23) ∧ (field ringEntry23 0 1 = 0xA) ∧ (CqClear
      sRingCommands30 (256 : Fin 257) (3 : Fin 16)) ∧ (field ringEntry23 8 8 % 4096 = 0) ∧ (segOk sRingCommands30
      (256 : Fin 257) true (field ringEntry23 8 8) 4096 = true) ∧ ((256 : Fin 257) ≠ 0) ∧ ((grantAt sRingCommands30
      (256 : Fin 257) (field ringEntry23 6 1)).isSome = true)) ∧
    ((TakesAt sRingCommands31 (0 : Fin 257) (15 : Fin 16) ringEntry24) ∧ (field ringEntry24 0 1 = 0xA) ∧ (CqClear
      sRingCommands31 (0 : Fin 257) (15 : Fin 16)) ∧ (field ringEntry24 8 8 % 4096 = 0) ∧ ((0 : Fin 257) = 0)) ∧
    ((TakesAt sRingCommands32 (0 : Fin 257) (15 : Fin 16) ringEntry25) ∧ (field ringEntry25 0 1 = 0x40) ∧ (CqClear
      sRingCommands32 (0 : Fin 257) (15 : Fin 16)) ∧ (grantBad (askedGrant ringEntry25) = true)) ∧
    ((TakesAt sRingCommands33 (0 : Fin 257) (15 : Fin 16) ringEntry26) ∧ (field ringEntry26 0 1 = 0x40) ∧ (grantBad
      (askedGrant ringEntry26) = false) ∧ (grantClash sRingCommands33 (askedGrant ringEntry26) = false) ∧ (lowest
      (grantReasons sRingCommands33 (askedGrant ringEntry26)) = 0) ∧ (replaced sRingCommands33 (askedGrant
      ringEntry26) = none)) ∧
    ((TakesAt sRingCommands34 (0 : Fin 257) (15 : Fin 16) ringEntry27) ∧ (field ringEntry27 0 1 = 0x41) ∧ (field
      ringEntry27 8 2 ≠ 0) ∧ (field ringEntry27 8 2 ≤ 256) ∧ (field ringEntry27 10 1 ≤ 15) ∧
      (sRingCommands34.grants.find? (fun y => y.tenant == field ringEntry27 8 2 && y.g == field ringEntry27 10 1 &&
      !(sRingCommands34.chst y.channel).released.contains (field ringEntry27 8 2, y.g)) = some
      ({ tenant := 256, g := 15, channel := 191, layers := 3, seq := true } : Grant)) ∧ (191 =
      ({ tenant := 256, g := 15, channel := 191, layers := 3, seq := true } : Grant).channel) ∧ (isLive
      sRingCommands34 191 = true)) ∧
    ((TakesAt sRingCommands35 (0 : Fin 257) (15 : Fin 16) ringEntry27) ∧ (field ringEntry27 0 1 = 0x41) ∧ (CqClear
      sRingCommands35 (0 : Fin 257) (15 : Fin 16)) ∧ (field ringEntry27 8 2 ≤ 256) ∧ (field ringEntry27 8 2 ≠ 0) ∧
      (field ringEntry27 10 1 ≤ 15) ∧ (sRingCommands35.grants.any (fun g => g.tenant == field ringEntry27 8 2 &&
      g.g == field ringEntry27 10 1) = false)) := by
  refine ⟨?_, ?_, ?_, ?_, ?_, ?_, ?_, ?_, ?_, ?_, ?_, ?_, ?_, ?_, ?_, ?_, ?_, ?_, ?_, ?_, ?_, ?_, ?_, ?_, ?_, ?_, ?_, ?_, ?_, ?_, ?_, ?_, ?_, ?_, ?_, ?_, ?_, ?_⟩ <;> decide +kernel

theorem test_meets_ModulesLocksAndDies :
    ((2 ≤ modState sModulesLocksAndDies0 (3 : Fin 4) 0)) ∧
    ((2 ≤ modState sModulesLocksAndDies1 (3 : Fin 4) 1)) ∧
    ((modState sModulesLocksAndDies2 (3 : Fin 4) (1 : Fin 2) = 2) ∧ ((sModulesLocksAndDies2.d2d (3 : Fin 4) (1 :
      Fin 2)).errs.any (fun e => 16 < (e.2.filter (fun x => sModulesLocksAndDies2.tick < x + ms)).length) = true)) ∧
    (((sModulesLocksAndDies3.d2d (3 : Fin 4) (1 : Fin 2)).errs.all (fun e => (e.2.filter (fun x =>
      sModulesLocksAndDies3.tick < x + ms)).length ≤ 16) = true)) ∧
    ((modState sModulesLocksAndDies1 (3 : Fin 4) (1 : Fin 2) = 2)) ∧
    ((modState sModulesLocksAndDies5 (3 : Fin 4) (1 : Fin 2) = 3) ∧ (rd sModulesLocksAndDies5 (d2dB (3 : Fin 4))
      (spareFld (1 : Fin 2) 0) ≤ 4) ∧ (rd sModulesLocksAndDies5 (d2dB (3 : Fin 4)) (spareFld (1 : Fin 2) 1) ≤ 4) ∧
      ((4 : Fin 5) ≤ rd sModulesLocksAndDies5 (d2dB (3 : Fin 4)) (spareFld (1 : Fin 2) 0)) ∧ ((1 : Fin 5) ≤ rd
      sModulesLocksAndDies5 (d2dB (3 : Fin 4)) (spareFld (1 : Fin 2) 1))) ∧
    ((modState sModulesLocksAndDies6 (3 : Fin 4) (1 : Fin 2) = 3) ∧ (modState sModulesLocksAndDies6 (3 : Fin 4) (1
      - (1 : Fin 2)) ≠ 0)) ∧
    ((modState sModulesLocksAndDies7 (3 : Fin 4) (1 : Fin 2) = 3) ∧ (modState sModulesLocksAndDies7 (3 : Fin 4) (1
      - (1 : Fin 2)) = 0) ∧ (rdB sModulesLocksAndDies7 (dieB (3 : Fin 4)) R.HUB_DIE_STATUS_IN_RESET = false)) ∧
    ((modState sModulesLocksAndDies8 (3 : Fin 4) (1 : Fin 2) = 0) ∧ ((sModulesLocksAndDies8.d2d (3 : Fin 4) (1 :
      Fin 2)).downAt ≠ 0) ∧ ((sModulesLocksAndDies8.d2d (3 : Fin 4) (1 : Fin 2)).downAt + second ≤
      sModulesLocksAndDies8.tick + 1)) ∧
    ((tget {} (64 * (4 : Fin 5) + (63 : Fin 64)) sModulesLocksAndDies9.crosses = ({ since := 5 } : Cross)) ∧
      (({ since := 5 } : Cross).since ≠ 0) ∧ (({ since := 5 } : Cross).since + 2 * us ≤ sModulesLocksAndDies9.tick
      + 1) ∧ (({ since := 5 } : Cross).failed = false)) ∧
    ((lockAgent (0x40E : Fin 65536) = true) ∧ (lockOwner sModulesLocksAndDies11 (255 : Fin 256) = 0xFFFF)) ∧
    ((lockAgent (0 : Fin 65536) = true) ∧ ((tget (0, 0) (255 : Fin 256) sModulesLocksAndDies12.lockAt).2 = 0 ∨
      sModulesLocksAndDies12.tick + 1 < (tget (0, 0) (255 : Fin 256) sModulesLocksAndDies12.lockAt).1 + (tget (0,
      0) (255 : Fin 256) sModulesLocksAndDies12.lockAt).2 * ms) ∧ (lockOwner sModulesLocksAndDies12 (255 : Fin 256)
      ≠ 0xFFFF) ∧ ((tget (0, 0) (255 : Fin 256) sModulesLocksAndDies12.lockAt).1 ≠ sModulesLocksAndDies12.tick +
      1)) ∧
    ((lockAgent (0 : Fin 65536) = true) ∧ ((tget (0, 0) (255 : Fin 256) sModulesLocksAndDies13.lockAt).2 = 0 ∨
      sModulesLocksAndDies13.tick + 1 < (tget (0, 0) (255 : Fin 256) sModulesLocksAndDies13.lockAt).1 + (tget (0,
      0) (255 : Fin 256) sModulesLocksAndDies13.lockAt).2 * ms) ∧ ((0 : Fin 65536) < lockOwner
      sModulesLocksAndDies13 (255 : Fin 256)) ∧ ((tget (0, 0) (255 : Fin 256) sModulesLocksAndDies13.lockAt).1 =
      sModulesLocksAndDies13.tick + 1)) ∧
    ((lockAgent (0x40F : Fin 65536) = false) ∧ ((tget (0, 0) (255 : Fin 256) sModulesLocksAndDies11.lockAt).2 = 0 ∨
      sModulesLocksAndDies11.tick + 1 < (tget (0, 0) (255 : Fin 256) sModulesLocksAndDies11.lockAt).1 + (tget (0,
      0) (255 : Fin 256) sModulesLocksAndDies11.lockAt).2 * ms)) ∧
    ((lockAgent (0x40E : Fin 65536) = true) ∧ ((tget (0, 0) (255 : Fin 256) sModulesLocksAndDies15.lockAt).2 = 0 ∨
      sModulesLocksAndDies15.tick + 1 < (tget (0, 0) (255 : Fin 256) sModulesLocksAndDies15.lockAt).1 + (tget (0,
      0) (255 : Fin 256) sModulesLocksAndDies15.lockAt).2 * ms) ∧ (lockOwner sModulesLocksAndDies15 (255 : Fin 256)
      = (0x40E : Fin 65536).val)) ∧
    ((lockAgent (0 : Fin 65536) = true) ∧ ((tget (0, 0) (255 : Fin 256) sModulesLocksAndDies15.lockAt).2 = 0 ∨
      sModulesLocksAndDies15.tick + 1 < (tget (0, 0) (255 : Fin 256) sModulesLocksAndDies15.lockAt).1 + (tget (0,
      0) (255 : Fin 256) sModulesLocksAndDies15.lockAt).2 * ms) ∧ (lockOwner sModulesLocksAndDies15 (255 : Fin 256)
      ≠ (0 : Fin 65536).val)) ∧
    ((lockAgent (0x40E : Fin 65536) = true) ∧ ((tget (0, 0) (255 : Fin 256) sModulesLocksAndDies15.lockAt).2 = 0 ∨
      sModulesLocksAndDies15.tick + 1 < (tget (0, 0) (255 : Fin 256) sModulesLocksAndDies15.lockAt).1 + (tget (0,
      0) (255 : Fin 256) sModulesLocksAndDies15.lockAt).2 * ms) ∧ (lockOwner sModulesLocksAndDies15 (255 : Fin 256)
      = (0x40E : Fin 65536).val)) ∧
    ((lockAgent (0 : Fin 65536) = true) ∧ ((tget (0, 0) (255 : Fin 256) sModulesLocksAndDies15.lockAt).2 = 0 ∨
      sModulesLocksAndDies15.tick + 1 < (tget (0, 0) (255 : Fin 256) sModulesLocksAndDies15.lockAt).1 + (tget (0,
      0) (255 : Fin 256) sModulesLocksAndDies15.lockAt).2 * ms) ∧ (lockOwner sModulesLocksAndDies15 (255 : Fin 256)
      ≠ (0 : Fin 65536).val)) ∧
    (((0x200 : Fin 65536) = 0 ∨ (0x200 : Fin 65536) = 0x200) ∧ (lockOwner sModulesLocksAndDies15 (255 : Fin 256) ≠
      0xFFFF)) ∧
    (((0x400 : Fin 65536) ≠ 0) ∧ ((0x400 : Fin 65536) ≠ 0x200)) ∧
    ((lockOwner sModulesLocksAndDies21 (255 : Fin 256) ≠ 0xFFFF) ∧ ((tget (0, 0) (255 : Fin 256)
      sModulesLocksAndDies21.lockAt).2 ≠ 0) ∧ ((tget (0, 0) (255 : Fin 256) sModulesLocksAndDies21.lockAt).1 +
      (tget (0, 0) (255 : Fin 256) sModulesLocksAndDies21.lockAt).2 * ms ≤ sModulesLocksAndDies21.tick + 1)) ∧
    ((rdB sModulesLocksAndDies22 (dieB (3 : Fin 4)) R.HUB_DIE_CTRL_RESET = false)) ∧
    ((rdB sModulesLocksAndDies24 (dieB (3 : Fin 4)) R.HUB_DIE_CTRL_RESET = false) ∧ (rdB sModulesLocksAndDies24
      (dieB (3 : Fin 4)) R.HUB_DIE_STATUS_ISOLATED = false) ∧ (rdB sModulesLocksAndDies24 (dieB (3 : Fin 4))
      R.HUB_DIE_STATUS_IN_RESET = true) ∧ (modState sModulesLocksAndDies24 (3 : Fin 4) 0 = 2 ∨ modState
      sModulesLocksAndDies24 (3 : Fin 4) 1 = 2)) ∧
    (((sModulesLocksAndDies25.die (3 : Fin 4)).leftAt ≠ 0)) ∧
    (((sModulesLocksAndDies26.die (3 : Fin 4)).leftAt ≠ 0) ∧ ((sModulesLocksAndDies26.die (3 : Fin 4)).leftAt + 800
      * ms ≤ sModulesLocksAndDies26.tick + 1)) := by
  refine ⟨?_, ?_, ?_, ?_, ?_, ?_, ?_, ?_, ?_, ?_, ?_, ?_, ?_, ?_, ?_, ?_, ?_, ?_, ?_, ?_, ?_, ?_, ?_, ?_, ?_⟩ <;> decide +kernel

theorem test_meets_HousekeepingCalibrationOxbow :
    ((sHousekeepingCalibrationOxbow0.hub.up = true) ∧ (sHousekeepingCalibrationOxbow0.mode ≠ .hold) ∧
      (sHousekeepingCalibrationOxbow0.hk.slot < 24)) ∧
    ((sHousekeepingCalibrationOxbow1.hub.up = true) ∧ (sHousekeepingCalibrationOxbow1.mode ≠ .hold) ∧ (24 ≤
      sHousekeepingCalibrationOxbow1.hk.slot) ∧ (sHousekeepingCalibrationOxbow1.hk.slot < 32)) ∧
    ((sHousekeepingCalibrationOxbow2.hub.up = true) ∧ (sHousekeepingCalibrationOxbow2.mode ≠ .hold) ∧ (34 ≤
      sHousekeepingCalibrationOxbow2.hk.slot) ∧ (sHousekeepingCalibrationOxbow2.hk.slot < 38)) ∧
    ((sHousekeepingCalibrationOxbow3.hub.up = true) ∧ (sHousekeepingCalibrationOxbow3.mode ≠ .hold) ∧
      (sHousekeepingCalibrationOxbow3.hk.slot = 63) ∧ (sHousekeepingCalibrationOxbow3.hk.hot2 = true ∨ ∀ i < 104,
      (sens sHousekeepingCalibrationOxbow3 i).hot = false)) ∧
    ((sHousekeepingCalibrationOxbow4.hub.up = false ∨ sHousekeepingCalibrationOxbow4.mode = .hold)) ∧
    (((sens sHousekeepingCalibrationOxbow5 (103 : Fin 104)).excl = false) ∧ (8 ≤ (sens
      sHousekeepingCalibrationOxbow5 (103 : Fin 104)).bad)) ∧
    (((sens sHousekeepingCalibrationOxbow6 (103 : Fin 104)).bad < 8)) ∧
    ((9 ≤ tget 0 (31 : Fin 32) sHousekeepingCalibrationOxbow7.hk.thermGood)) ∧
    ((rdB sHousekeepingCalibrationOxbow8 hkB R.HK_CAL_STATUS_BUSY = true ∨ bits (15 : Fin 4294967296) 1 3 = 0 ∨
      bits (15 : Fin 4294967296) 1 3 = 7)) ∧
    ((rdB sHousekeepingCalibrationOxbow9 hkB R.HK_CAL_STATUS_BUSY = false) ∧ (bits (4294907883 : Fin 4294967296) 1
      3 ≠ 0) ∧ (bits (4294907883 : Fin 4294967296) 1 3 ≠ 7) ∧ (bits (4294907883 : Fin 4294967296) 1 3 ≠ 4) ∧ (bitOf
      (4294907883 : Fin 4294967296) 4 = false) ∧ (calReady sHousekeepingCalibrationOxbow9 (bits (4294907883 : Fin
      4294967296) 1 3) (bits (4294907883 : Fin 4294967296) 5 8) = true)) ∧
    ((rdB sHousekeepingCalibrationOxbow8 hkB R.HK_CAL_STATUS_BUSY = false) ∧ (bits (29 : Fin 4294967296) 1 3 ≠ 0) ∧
      (bits (29 : Fin 4294967296) 1 3 ≠ 7) ∧ (bitOf (29 : Fin 4294967296) 4 = true) ∧ (∀ c ∈ calAll (bits (29 : Fin
      4294967296) 1 3), calReady sHousekeepingCalibrationOxbow8 (bits (29 : Fin 4294967296) 1 3) c = true)) ∧
    ((rdB sHousekeepingCalibrationOxbow11 hkB R.HK_CAL_STATUS_BUSY = false) ∧ (bits (8165 : Fin 4294967296) 1 3 ≠
      0) ∧ (bits (8165 : Fin 4294967296) 1 3 ≠ 7) ∧ (bits (8165 : Fin 4294967296) 1 3 ≠ 4) ∧ (bitOf (8165 : Fin
      4294967296) 4 = false) ∧ (calReady sHousekeepingCalibrationOxbow11 (bits (8165 : Fin 4294967296) 1 3) (bits
      (8165 : Fin 4294967296) 5 8) = false)) ∧
    ((sHousekeepingCalibrationOxbow12.cal.targets.find? (fun y => y.target == (191 : Fin 192).val) = some
      ({ target := 191, run1 := none } : CalTarget)) ∧ (([some 225] : List (Option (Fin 65536))).length = calSize
      sHousekeepingCalibrationOxbow12 (calKind sHousekeepingCalibrationOxbow12) (191 : Fin 192)) ∧ (calKind
      sHousekeepingCalibrationOxbow12 = 3 ∨ ([some 225] : List (Option (Fin 65536))).all (·.isSome) = true) ∧
      (calStepsDone sHousekeepingCalibrationOxbow12 (calKind sHousekeepingCalibrationOxbow12)
      ({ target := 191, run1 := none } : CalTarget) (([some 225] : List (Option (Fin 65536))).map (·.map (·.val)))
      = true) ∧ (sHousekeepingCalibrationOxbow12.tick < sHousekeepingCalibrationOxbow12.cal.deadline) ∧
      (({ target := 191, run1 := none } : CalTarget).run1 = none)) ∧
    ((sHousekeepingCalibrationOxbow13.cal.targets.find? (fun y => y.target == (191 : Fin 192).val) = some
      ({ target := 191, run1 := some [some 200] } : CalTarget)) ∧ (([some 225] : List (Option (Fin 65536))).length
      = calSize sHousekeepingCalibrationOxbow13 (calKind sHousekeepingCalibrationOxbow13) (191 : Fin 192)) ∧
      (calKind sHousekeepingCalibrationOxbow13 = 3 ∨ ([some 225] : List (Option (Fin 65536))).all (·.isSome) =
      true) ∧ (calStepsDone sHousekeepingCalibrationOxbow13 (calKind sHousekeepingCalibrationOxbow13)
      ({ target := 191, run1 := some [some 200] } : CalTarget) (([some 225] : List (Option (Fin 65536))).map (·.map
      (·.val))) = true) ∧ (sHousekeepingCalibrationOxbow13.tick < sHousekeepingCalibrationOxbow13.cal.deadline) ∧
      (({ target := 191, run1 := some [some 200] } : CalTarget).run1 = some ([some 200] : List (Option Nat))) ∧
      ((([some 200] : List (Option Nat)).zip ([some 225] : List (Option (Fin 65536)))).zipIdx.all (fun p =>
      p.1.1.isNone || p.1.2.isNone || calAgree (calKind sHousekeepingCalibrationOxbow13) p.2 (p.1.1.getD 0)
      ((p.1.2.map (·.val)).getD 0)) = true)) ∧
    ((sHousekeepingCalibrationOxbow14.cal.targets.find? (fun y => y.target == (191 : Fin 192).val) = some
      ({ target := 191, run1 := some [some 199] } : CalTarget)) ∧ (([some 225] : List (Option (Fin 65536))).length
      = calSize sHousekeepingCalibrationOxbow14 (calKind sHousekeepingCalibrationOxbow14) (191 : Fin 192)) ∧
      (calKind sHousekeepingCalibrationOxbow14 = 3 ∨ ([some 225] : List (Option (Fin 65536))).all (·.isSome) =
      true) ∧ (calStepsDone sHousekeepingCalibrationOxbow14 (calKind sHousekeepingCalibrationOxbow14)
      ({ target := 191, run1 := some [some 199] } : CalTarget) (([some 225] : List (Option (Fin 65536))).map (·.map
      (·.val))) = true) ∧ (sHousekeepingCalibrationOxbow14.tick < sHousekeepingCalibrationOxbow14.cal.deadline) ∧
      (({ target := 191, run1 := some [some 199] } : CalTarget).run1 = some ([some 199] : List (Option Nat))) ∧
      ((([some 199] : List (Option Nat)).zip ([some 225] : List (Option (Fin 65536)))).zipIdx.all (fun p =>
      p.1.1.isNone || p.1.2.isNone || calAgree (calKind sHousekeepingCalibrationOxbow14) p.2 (p.1.1.getD 0)
      ((p.1.2.map (·.val)).getD 0)) = false)) ∧
    ((sHousekeepingCalibrationOxbow15.cal.targets.find? (fun y => y.target == (191 : Fin 192).val) = some
      ({ target := 191, run1 := none } : CalTarget)) ∧ (([some 225] : List (Option (Fin 65536))).length = calSize
      sHousekeepingCalibrationOxbow15 (calKind sHousekeepingCalibrationOxbow15) (191 : Fin 192)) ∧ (calKind
      sHousekeepingCalibrationOxbow15 = 3 ∨ ([some 225] : List (Option (Fin 65536))).all (·.isSome) = true) ∧
      (calStepsDone sHousekeepingCalibrationOxbow15 (calKind sHousekeepingCalibrationOxbow15)
      ({ target := 191, run1 := none } : CalTarget) (([some 225] : List (Option (Fin 65536))).map (·.map (·.val)))
      = true) ∧ (sHousekeepingCalibrationOxbow15.cal.deadline ≤ sHousekeepingCalibrationOxbow15.tick)) ∧
    ((rdB sHousekeepingCalibrationOxbow15 hkB R.HK_CAL_STATUS_BUSY = true) ∧
      (sHousekeepingCalibrationOxbow15.cal.deadline ≤ sHousekeepingCalibrationOxbow15.tick) ∧
      (sHousekeepingCalibrationOxbow15.cal.targets ≠ [])) ∧
    ((sHousekeepingCalibrationOxbow12.tick < sHousekeepingCalibrationOxbow12.cal.deadline)) ∧
    (((sHousekeepingCalibrationOxbow18.die (3 : Fin 4)).vernier = some ([0, 200, 550, 751] : List Nat)) ∧ (([0,
      200, 550, 751] : List Nat).length = 4) ∧ (if vernierSmall sHousekeepingCalibrationOxbow18 (3 : Fin 4) ([0,
      200, 550, 751] : List Nat) then sHousekeepingCalibrationOxbow18.ht % ms < 2 else dieIdle
      sHousekeepingCalibrationOxbow18 (3 : Fin 4) = true)) ∧
    (((sHousekeepingCalibrationOxbow19.die (3 : Fin 4)).vernier = some ([0, 200, 550, 801] : List Nat)) ∧
      (vernierSmall sHousekeepingCalibrationOxbow19 (3 : Fin 4) ([0, 200, 550, 801] : List Nat) = false) ∧ (dieIdle
      sHousekeepingCalibrationOxbow19 (3 : Fin 4) = false)) ∧
    ((rd sHousekeepingCalibrationOxbow20 hkB R.HK_CAL_IDX_WORD < calWords sHousekeepingCalibrationOxbow20 (rd
      sHousekeepingCalibrationOxbow20 hkB R.HK_CAL_IDX_KIND) (rd sHousekeepingCalibrationOxbow20 hkB
      R.HK_CAL_IDX_TARGET))) ∧
    ((isDead sHousekeepingCalibrationOxbow8 (3 : Fin 4) (47 : Fin 52) = false)) ∧
    ((isDead sHousekeepingCalibrationOxbow22 (3 : Fin 4) (47 : Fin 52) = false) ∧ (pipeChannel
      sHousekeepingCalibrationOxbow22 (3 : Fin 4) (47 : Fin 52) ≠ none) ∧ (max 1 (rd
      sHousekeepingCalibrationOxbow22 (oxbB (3 : Fin 4)) R.HUB_OXB_CFG_SOFT_THR) ≤ softCount
      sHousekeepingCalibrationOxbow22 (3 : Fin 4) (47 : Fin 52) + 1) ∧ ((sHousekeepingCalibrationOxbow22.ox (3 :
      Fin 4)).port = none) ∧ (nextSpare sHousekeepingCalibrationOxbow22 (3 : Fin 4) none = some (48 : Fin 52).val)) ∧
    ((isDead sHousekeepingCalibrationOxbow8 (3 : Fin 4) (47 : Fin 52) = false)) ∧
    ((isDead sHousekeepingCalibrationOxbow24 (3 : Fin 4) (47 : Fin 52) = false) ∧ (pipeChannel
      sHousekeepingCalibrationOxbow24 (3 : Fin 4) (47 : Fin 52) ≠ none) ∧ ((sHousekeepingCalibrationOxbow24.ox (3 :
      Fin 4)).port = none) ∧ (nextSpare sHousekeepingCalibrationOxbow24 (3 : Fin 4) none = some (48 : Fin 52).val)) ∧
    ((isDead sHousekeepingCalibrationOxbow25 (3 : Fin 4) (47 : Fin 52) = false) ∧ (pipeChannel
      sHousekeepingCalibrationOxbow25 (3 : Fin 4) (47 : Fin 52) = some 191) ∧ (chLive
      sHousekeepingCalibrationOxbow25 191 = true) ∧ ((sHousekeepingCalibrationOxbow25.ox (3 : Fin 4)).port = none)
      ∧ (nextSpare sHousekeepingCalibrationOxbow25 (3 : Fin 4) none = none)) ∧
    (((sHousekeepingCalibrationOxbow8.ox (3 : Fin 4)).port ≠ none ∨ 48 ≤ (48 : Fin 64).val ∨
      sHousekeepingCalibrationOxbow8.chState (48 * (3 : Fin 4) + (48 : Fin 64)) = .off)) ∧
    (((sHousekeepingCalibrationOxbow24.ox (3 : Fin 4)).port = none) ∧ (sHousekeepingCalibrationOxbow24.chState (48
      * (3 : Fin 4) + (47 : Fin 48)) ≠ .off) ∧ (nextSpare sHousekeepingCalibrationOxbow24 (3 : Fin 4) none = some
      (48 : Fin 52).val)) ∧
    (((sHousekeepingCalibrationOxbow25.ox (3 : Fin 4)).port = none) ∧ (sHousekeepingCalibrationOxbow25.chState (48
      * (3 : Fin 4) + (47 : Fin 48)) ≠ .off) ∧ (nextSpare sHousekeepingCalibrationOxbow25 (3 : Fin 4) none = none)) ∧
    (((sHousekeepingCalibrationOxbow29.ox (3 : Fin 4)).port = some (47 : Fin 48).val) ∧
      ((sHousekeepingCalibrationOxbow29.ox (3 : Fin 4)).phase = 1) ∧ ((sHousekeepingCalibrationOxbow29.ox (3 : Fin
      4)).clear = false) ∧ ((sHousekeepingCalibrationOxbow29.ox (3 : Fin 4)).trigger ≠ 3)) ∧
    (((sHousekeepingCalibrationOxbow30.ox (3 : Fin 4)).port = some (47 : Fin 48).val) ∧
      ((sHousekeepingCalibrationOxbow30.ox (3 : Fin 4)).phase = 1) ∧ ((sHousekeepingCalibrationOxbow30.ox (3 : Fin
      4)).clear = false) ∧ ((sHousekeepingCalibrationOxbow30.ox (3 : Fin 4)).trigger = 3) ∧ (chLive
      sHousekeepingCalibrationOxbow30 (48 * (3 : Fin 4) + (47 : Fin 48)) = true)) ∧
    (((sHousekeepingCalibrationOxbow31.ox (3 : Fin 4)).port = some (47 : Fin 48).val) ∧
      ((sHousekeepingCalibrationOxbow31.ox (3 : Fin 4)).phase = 1) ∧ ((sHousekeepingCalibrationOxbow31.ox (3 : Fin
      4)).clear = true) ∧ (sHousekeepingCalibrationOxbow31.chState (48 * (3 : Fin 4) + (47 : Fin 48)) = .faulted)) ∧
    (((sHousekeepingCalibrationOxbow32.ox (3 : Fin 4)).port = some (47 : Fin 48).val) ∧ (2 ≤
      (sHousekeepingCalibrationOxbow32.ox (3 : Fin 4)).phase) ∧ ((sHousekeepingCalibrationOxbow32.ox (3 : Fin
      4)).trigger ≠ 3) ∧ ((sHousekeepingCalibrationOxbow32.ox (3 : Fin 4)).shadow = true) ∧
      ((sHousekeepingCalibrationOxbow32.ox (3 : Fin 4)).switched = false) ∧ ((sHousekeepingCalibrationOxbow32.ox (3
      : Fin 4)).fs = none) ∧ ((sHousekeepingCalibrationOxbow32.ox (3 : Fin 4)).success = false) ∧
      ((sHousekeepingCalibrationOxbow32.ox (3 : Fin 4)).good = 0)) ∧
    (((sHousekeepingCalibrationOxbow33.ox (3 : Fin 4)).port = some (47 : Fin 48).val) ∧ (2 ≤
      (sHousekeepingCalibrationOxbow33.ox (3 : Fin 4)).phase) ∧ ((sHousekeepingCalibrationOxbow33.ox (3 : Fin
      4)).trigger ≠ 3) ∧ ((sHousekeepingCalibrationOxbow33.ox (3 : Fin 4)).shadow = true) ∧
      ((sHousekeepingCalibrationOxbow33.ox (3 : Fin 4)).switched = false) ∧ ((sHousekeepingCalibrationOxbow33.ox (3
      : Fin 4)).fs = none) ∧ ((sHousekeepingCalibrationOxbow33.ox (3 : Fin 4)).success = false) ∧
      ((sHousekeepingCalibrationOxbow33.ox (3 : Fin 4)).good ≠ 0) ∧ ((sHousekeepingCalibrationOxbow33.ox (3 : Fin
      4)).frames ≤ max 2 (rd sHousekeepingCalibrationOxbow33 (oxbB (3 : Fin 4)) R.HUB_OXB_CFG_WINDOW))) ∧
    (((sHousekeepingCalibrationOxbow34.ox (3 : Fin 4)).port = some (47 : Fin 48).val) ∧ (2 ≤
      (sHousekeepingCalibrationOxbow34.ox (3 : Fin 4)).phase) ∧ ((sHousekeepingCalibrationOxbow34.ox (3 : Fin
      4)).trigger ≠ 3) ∧ ((sHousekeepingCalibrationOxbow34.ox (3 : Fin 4)).shadow = true) ∧
      ((sHousekeepingCalibrationOxbow34.ox (3 : Fin 4)).switched = false) ∧ ((sHousekeepingCalibrationOxbow34.ox (3
      : Fin 4)).fs = none) ∧ ((true && true && false) = false) ∧ ((sHousekeepingCalibrationOxbow34.ox (3 : Fin
      4)).attempt < max 1 (rd sHousekeepingCalibrationOxbow34 (oxbB (3 : Fin 4)) R.HUB_OXB_CFG_ATTEMPTS)) ∧
      (nextSpare sHousekeepingCalibrationOxbow34 (3 : Fin 4) (some (sHousekeepingCalibrationOxbow34.ox (3 : Fin
      4)).spare) = some (50 : Fin 52).val)) ∧
    (((sHousekeepingCalibrationOxbow35.ox (3 : Fin 4)).port = some (47 : Fin 48).val) ∧ (2 ≤
      (sHousekeepingCalibrationOxbow35.ox (3 : Fin 4)).phase) ∧ ((sHousekeepingCalibrationOxbow35.ox (3 : Fin
      4)).trigger ≠ 3) ∧ ((sHousekeepingCalibrationOxbow35.ox (3 : Fin 4)).shadow = true) ∧
      ((sHousekeepingCalibrationOxbow35.ox (3 : Fin 4)).switched = false) ∧ ((sHousekeepingCalibrationOxbow35.ox (3
      : Fin 4)).fs = none) ∧ ((false && true && true) = false) ∧ (max 1 (rd sHousekeepingCalibrationOxbow35 (oxbB
      (3 : Fin 4)) R.HUB_OXB_CFG_ATTEMPTS) ≤ (sHousekeepingCalibrationOxbow35.ox (3 : Fin 4)).attempt) ∧
      ((sHousekeepingCalibrationOxbow35.ox (3 : Fin 4)).waits = [])) ∧
    (((sHousekeepingCalibrationOxbow36.ox (3 : Fin 4)).port = some (47 : Fin 48).val) ∧
      ((sHousekeepingCalibrationOxbow36.ox (3 : Fin 4)).fs ≠ none) ∧ ((sHousekeepingCalibrationOxbow36.ox (3 : Fin
      4)).switched = false) ∧ ((sHousekeepingCalibrationOxbow36.ox (3 : Fin 4)).trigger ≠ 3)) ∧
    (((sHousekeepingCalibrationOxbow37.ox (3 : Fin 4)).port = some (47 : Fin 48).val) ∧
      ((sHousekeepingCalibrationOxbow37.ox (3 : Fin 4)).fs = none)) ∧
    (((sHousekeepingCalibrationOxbow38.ox (3 : Fin 4)).port = some (47 : Fin 48).val) ∧
      ((sHousekeepingCalibrationOxbow38.ox (3 : Fin 4)).switched = true) ∧ ((sHousekeepingCalibrationOxbow38.ox (3
      : Fin 4)).fs = some ((8004000000, 3) : Nat × Nat)) ∧ (((8004000000, 3) : Nat × Nat).1 ≤
      sHousekeepingCalibrationOxbow38.ht + max 1000 (rd sHousekeepingCalibrationOxbow38 (chB (48 * (3 : Fin 4) +
      (47 : Fin 48))) R.COMP_FLIP_LEAD) * us) ∧ ((sHousekeepingCalibrationOxbow38.ox (3 : Fin 4)).waits = [])) ∧
    (((sHousekeepingCalibrationOxbow39.ox (3 : Fin 4)).port = some (47 : Fin 48).val) ∧
      ((sHousekeepingCalibrationOxbow39.ox (3 : Fin 4)).fs = some ((8004000001, 3) : Nat × Nat)) ∧
      (sHousekeepingCalibrationOxbow39.ht + max 1000 (rd sHousekeepingCalibrationOxbow39 (chB (48 * (3 : Fin 4) +
      (47 : Fin 48))) R.COMP_FLIP_LEAD) * us < ((8004000001, 3) : Nat × Nat).1) ∧ (chLive
      sHousekeepingCalibrationOxbow39 (48 * (3 : Fin 4) + (47 : Fin 48)) = true)) := by
  refine ⟨?_, ?_, ?_, ?_, ?_, ?_, ?_, ?_, ?_, ?_, ?_, ?_, ?_, ?_, ?_, ?_, ?_, ?_, ?_, ?_, ?_, ?_, ?_, ?_, ?_, ?_, ?_, ?_, ?_, ?_, ?_, ?_, ?_, ?_, ?_, ?_, ?_, ?_, ?_, ?_⟩ <;> decide +kernel

theorem test_meets_ConfigurationStoreAndFirmware :
    ((sConfigurationStoreAndFirmware0.cfg.write = none) ∧ (sConfigurationStoreAndFirmware0.cfg.queue = []) ∧
      (sConfigurationStoreAndFirmware0.mode ≠ .hold) ∧ (rdB sConfigurationStoreAndFirmware0 cfgB
      R.CFG_STATUS_ACTIVATING = false) ∧ (tget 0 (if true then 3 else 4) sConfigurationStoreAndFirmware0.cfg.dirty
      ≠ 0)) ∧
    ((sConfigurationStoreAndFirmware1.cfg.write ≠ none) ∧ (tget 0 (if false then 3 else 4)
      sConfigurationStoreAndFirmware1.cfg.dirty ≠ 0)) ∧
    ((tget 0 (if true then 3 else 4) sConfigurationStoreAndFirmware2.cfg.dirty = 0)) ∧
    ((sConfigurationStoreAndFirmware3.cfg.write = some
      ({ k := 4, gen := 9, payload := [1, 2], src := 0, copy := 1, again := false, same := 0 } : RecWrite)) ∧
      (({ k := 4, gen := 9, payload := [1, 2], src := 0, copy := 1, again := false, same := 0 } : RecWrite).copy <
      2) ∧ (sConfigurationStoreAndFirmware3.mode ≠ .hold)) ∧
    ((sConfigurationStoreAndFirmware4.cfg.write = some
      ({ k := 4, gen := 9, payload := [1, 2], src := 0, copy := 2, again := false, same := 0 } : RecWrite)) ∧
      (({ k := 4, gen := 9, payload := [1, 2], src := 0, copy := 2, again := false, same := 0 } : RecWrite).copy =
      2) ∧ (({ k := 4, gen := 9, payload := [1, 2], src := 0, copy := 2, again := false, same := 0 } :
      RecWrite).gen ≠ 0)) ∧
    ((sConfigurationStoreAndFirmware4.cfg.write = some
      ({ k := 4, gen := 9, payload := [1, 2], src := 0, copy := 2, again := false, same := 0 } : RecWrite)) ∧
      (({ k := 4, gen := 9, payload := [1, 2], src := 0, copy := 2, again := false, same := 0 } : RecWrite).again =
      false)) ∧
    ((sConfigurationStoreAndFirmware6.cfg.write = some
      ({ k := 4, gen := 9, payload := [1, 2], src := 0, copy := 0, again := true, same := 0 } : RecWrite)) ∧
      (({ k := 4, gen := 9, payload := [1, 2], src := 0, copy := 0, again := true, same := 0 } : RecWrite).again =
      true)) ∧
    ((chosenRec sConfigurationStoreAndFirmware7 ((3 : Fin 4) + 1) = some ((5, [7]) : Nat × List Byte)) ∧ (rdB
      sConfigurationStoreAndFirmware7 hubB R.HUB_MODE_READY = true) ∧ (sConfigurationStoreAndFirmware7.mode ≠
      .hold) ∧ (sConfigurationStoreAndFirmware7.cfg.write = none) ∧ (copyMatches sConfigurationStoreAndFirmware7
      ((3 : Fin 4) + 1) (2 : Fin 3) = false)) ∧
    ((rdB sConfigurationStoreAndFirmware8 hubB R.HUB_MODE_READY = false ∨ sConfigurationStoreAndFirmware8.mode =
      .hold ∨ sConfigurationStoreAndFirmware8.cfg.write ≠ none ∨ chosenRec sConfigurationStoreAndFirmware8 ((3 :
      Fin 4) + 1) = none)) ∧
    (((3 : Fin 256).val ≠ 1) ∧ ((3 : Fin 256).val ≠ 2)) ∧
    (((2 : Fin 256).val = 1 ∨ (2 : Fin 256).val = 2) ∧ (rd sConfigurationStoreAndFirmware10 cfgB R.CFG_LEN_BYTES =
      0 ∨ recMax (2 : Fin 256) < rd sConfigurationStoreAndFirmware10 cfgB R.CFG_LEN_BYTES)) ∧
    (((1 : Fin 256).val = 1 ∨ (1 : Fin 256).val = 2) ∧ (1 ≤ rd sConfigurationStoreAndFirmware11 cfgB
      R.CFG_LEN_BYTES) ∧ (rd sConfigurationStoreAndFirmware11 cfgB R.CFG_LEN_BYTES ≤ recMax (1 : Fin 256)) ∧ (¬
      (installedAll sConfigurationStoreAndFirmware11 (rdPair sConfigurationStoreAndFirmware11 cfgB
      R.CFG_SRC_LO_ADDR R.CFG_SRC_HI_ADDR) (rd sConfigurationStoreAndFirmware11 cfgB R.CFG_LEN_BYTES) = true ∧
      poisonedAny sConfigurationStoreAndFirmware11 (rdPair sConfigurationStoreAndFirmware11 cfgB R.CFG_SRC_LO_ADDR
      R.CFG_SRC_HI_ADDR) (rd sConfigurationStoreAndFirmware11 cfgB R.CFG_LEN_BYTES) = false))) ∧
    (((1 : Fin 256).val = 1) ∧ (1 ≤ rd sConfigurationStoreAndFirmware12 cfgB R.CFG_LEN_BYTES) ∧ (rd
      sConfigurationStoreAndFirmware12 cfgB R.CFG_LEN_BYTES ≤ recMax (1 : Fin 256)) ∧ (installedAll
      sConfigurationStoreAndFirmware12 (rdPair sConfigurationStoreAndFirmware12 cfgB R.CFG_SRC_LO_ADDR
      R.CFG_SRC_HI_ADDR) (rd sConfigurationStoreAndFirmware12 cfgB R.CFG_LEN_BYTES) = true ∧ poisonedAny
      sConfigurationStoreAndFirmware12 (rdPair sConfigurationStoreAndFirmware12 cfgB R.CFG_SRC_LO_ADDR
      R.CFG_SRC_HI_ADDR) (rd sConfigurationStoreAndFirmware12 cfgB R.CFG_LEN_BYTES) = false)) ∧
    (((2 : Fin 256).val = 2) ∧ (1 ≤ rd sConfigurationStoreAndFirmware13 cfgB R.CFG_LEN_BYTES) ∧ (rd
      sConfigurationStoreAndFirmware13 cfgB R.CFG_LEN_BYTES ≤ recMax (2 : Fin 256)) ∧ (installedAll
      sConfigurationStoreAndFirmware13 (rdPair sConfigurationStoreAndFirmware13 cfgB R.CFG_SRC_LO_ADDR
      R.CFG_SRC_HI_ADDR) (rd sConfigurationStoreAndFirmware13 cfgB R.CFG_LEN_BYTES) = true ∧ poisonedAny
      sConfigurationStoreAndFirmware13 (rdPair sConfigurationStoreAndFirmware13 cfgB R.CFG_SRC_LO_ADDR
      R.CFG_SRC_HI_ADDR) (rd sConfigurationStoreAndFirmware13 cfgB R.CFG_LEN_BYTES) = false) ∧
      (sConfigurationStoreAndFirmware13.cfg.queue.any (fun w => w.src == 1) = true)) ∧
    (((2 : Fin 256).val = 2) ∧ (1 ≤ rd sConfigurationStoreAndFirmware14 cfgB R.CFG_LEN_BYTES) ∧ (rd
      sConfigurationStoreAndFirmware14 cfgB R.CFG_LEN_BYTES ≤ recMax (2 : Fin 256)) ∧ (installedAll
      sConfigurationStoreAndFirmware14 (rdPair sConfigurationStoreAndFirmware14 cfgB R.CFG_SRC_LO_ADDR
      R.CFG_SRC_HI_ADDR) (rd sConfigurationStoreAndFirmware14 cfgB R.CFG_LEN_BYTES) = true ∧ poisonedAny
      sConfigurationStoreAndFirmware14 (rdPair sConfigurationStoreAndFirmware14 cfgB R.CFG_SRC_LO_ADDR
      R.CFG_SRC_HI_ADDR) (rd sConfigurationStoreAndFirmware14 cfgB R.CFG_LEN_BYTES) = false) ∧
      (sConfigurationStoreAndFirmware14.cfg.write = none) ∧ (sConfigurationStoreAndFirmware14.cfg.queue = []) ∧
      (sConfigurationStoreAndFirmware14.mode ≠ .hold) ∧ (rdB sConfigurationStoreAndFirmware14 cfgB
      R.CFG_STATUS_ACTIVATING = false)) ∧
    ((fwRefused sConfigurationStoreAndFirmware15 = true)) ∧
    ((sConfigurationStoreAndFirmware16.mode ≠ .hold) ∧ (sConfigurationStoreAndFirmware16.mode ≠ .tripped) ∧ (rdB
      sConfigurationStoreAndFirmware16 cfgB R.CFG_STATUS_ACTIVATING = false) ∧
      (sConfigurationStoreAndFirmware16.fw.waiting = false) ∧ ((chosenFw sConfigurationStoreAndFirmware16).gen ≠
      sConfigurationStoreAndFirmware16.fw.active.gen ∨ (chosenFw sConfigurationStoreAndFirmware16).payload ≠
      sConfigurationStoreAndFirmware16.fw.active.payload ∨ (chosenFw sConfigurationStoreAndFirmware16).svn ≠
      sConfigurationStoreAndFirmware16.fw.active.svn) ∧ (sConfigurationStoreAndFirmware16.cfg.write = none)) ∧
    ((sConfigurationStoreAndFirmware17.mode ≠ .hold) ∧ (sConfigurationStoreAndFirmware17.mode ≠ .tripped) ∧ (rdB
      sConfigurationStoreAndFirmware17 cfgB R.CFG_STATUS_ACTIVATING = false) ∧
      (sConfigurationStoreAndFirmware17.fw.waiting = false) ∧ ((chosenFw sConfigurationStoreAndFirmware17).gen ≠
      sConfigurationStoreAndFirmware17.fw.active.gen ∨ (chosenFw sConfigurationStoreAndFirmware17).payload ≠
      sConfigurationStoreAndFirmware17.fw.active.payload ∨ (chosenFw sConfigurationStoreAndFirmware17).svn ≠
      sConfigurationStoreAndFirmware17.fw.active.svn) ∧ (sConfigurationStoreAndFirmware17.cfg.write ≠ none)) ∧
    ((sConfigurationStoreAndFirmware18.fw.next = some ({ svn := 3, gen := 5, payload := [7] } : FwImage)) ∧
      (sConfigurationStoreAndFirmware18.fw.startAt = some 8000000000) ∧ (8000000000 ≤
      sConfigurationStoreAndFirmware18.ht)) ∧
    ((sConfigurationStoreAndFirmware19.fw.next = some ({ svn := 3, gen := 5, payload := [7] } : FwImage)) ∧
      (sConfigurationStoreAndFirmware19.fw.startAt = some 8000000001) ∧ (sConfigurationStoreAndFirmware19.ht <
      8000000001)) ∧
    ((inSelfTest sConfigurationStoreAndFirmware20 = true)) ∧
    ((inSelfTest sConfigurationStoreAndFirmware20 = true)) ∧
    ((inSelfTest sConfigurationStoreAndFirmware22 = true) ∧ (sConfigurationStoreAndFirmware22.fw.startAt = some
      7800000000) ∧ (7800000000 + 50 * ms ≤ sConfigurationStoreAndFirmware22.ht)) ∧
    ((sConfigurationStoreAndFirmware23.fw.startAt = some 7800000001) ∧ (sConfigurationStoreAndFirmware23.ht <
      7800000001 + 50 * ms)) := by
  refine ⟨?_, ?_, ?_, ?_, ?_, ?_, ?_, ?_, ?_, ?_, ?_, ?_, ?_, ?_, ?_, ?_, ?_, ?_, ?_, ?_, ?_, ?_, ?_, ?_⟩ <;> decide +kernel

theorem test_meets_TheManagementPort :
    ((mgtAlive sConfigurationStoreAndFirmware9 = true) ∧ (turnedAway sConfigurationStoreAndFirmware9 false = 0) ∧
      (regSpan (134217664 : Fin 4294967296) (16 : Fin 256) = true)) ∧
    ((mgtAlive sConfigurationStoreAndFirmware9 = true) ∧ (turnedAway sConfigurationStoreAndFirmware9 false = 0) ∧
      (regSpan (134217668 : Fin 4294967296) (16 : Fin 256) = false)) ∧
    ((mgtAlive sTheManagementPort2 = true) ∧ (sTheManagementPort2.mode = .hold ∨ rdB sTheManagementPort2 hubB
      R.HUB_MODE_READY = false)) ∧
    ((mgtAlive sConfigurationStoreAndFirmware15 = true) ∧ (sConfigurationStoreAndFirmware15.mode ≠ .hold) ∧ (rdB
      sConfigurationStoreAndFirmware15 hubB R.HUB_MODE_READY = true) ∧ (inSelfTest sConfigurationStoreAndFirmware15
      = true)) ∧
    ((mgtAlive sConfigurationStoreAndFirmware9 = true) ∧ (turnedAway sConfigurationStoreAndFirmware9 false = 0) ∧
      (regSpan (8 : Fin 4294967296) (1 : Fin 256) = true) ∧ (([5] : List (Fin 4294967296)).length = (1 : Fin 256))
      ∧ (∀ i < (1 : Fin 256).val, mgmtExcluded ((8 : Fin 4294967296) + 4 * i) = false) ∧ ((writeRegs (8 : Fin
      4294967296) (([5] : List (Fin 4294967296)).map (·.val)) (begun sConfigurationStoreAndFirmware9)).1 = true)) ∧
    ((mgtAlive sTheManagementPort5 = true) ∧ (turnedAway sTheManagementPort5 false = 0) ∧ (regSpan (459264 : Fin
      4294967296) (1 : Fin 256) = true) ∧ (([15] : List (Fin 4294967296)).length = (1 : Fin 256)) ∧ (∀ i < (1 : Fin
      256).val, mgmtExcluded ((459264 : Fin 4294967296) + 4 * i) = false) ∧ ((writeRegs (459264 : Fin 4294967296)
      (([15] : List (Fin 4294967296)).map (·.val)) (begun sTheManagementPort5)).1 = false)) ∧
    ((mgtAlive sConfigurationStoreAndFirmware9 = true) ∧ (turnedAway sConfigurationStoreAndFirmware9 false = 0) ∧
      (regSpan (0x6FFFC : Fin 4294967296) (1 : Fin 256) = true) ∧ (([7] : List (Fin 4294967296)).length = (1 : Fin
      256)) ∧ (mgmtExcluded (0x6FFFC : Fin 4294967296) = true) ∧ (1 ≤ (1 : Fin 256).val)) ∧
    ((mgtAlive sTheManagementPort7 = true) ∧ (inSelfTest sTheManagementPort7 = false)) ∧
    ((mgtAlive sTheManagementPort8 = true) ∧ (inSelfTest sTheManagementPort8 = false) ∧ ((192 : Fin 65536).val ≤
      192) ∧ ((1048384 : Fin 4294967296).val + (192 : Fin 65536) ≤ 0x100000)) ∧
    ((mgtAlive sTheManagementPort9 = true) ∧ (turnedAway sTheManagementPort9 false = 0) ∧ (1 ≤ (4 : Fin 256).val) ∧
      ((4 : Fin 256).val ≤ 4) ∧ ((2 : Fin 256).val < 3) ∧ ((192 : Fin 65536).val ≤ 192) ∧ ((1 : Fin 4294967296).val
      + (192 : Fin 65536) ≤ 0x500000)) ∧
    ((mgtAlive sTheManagementPort9 = true) ∧ (turnedAway sTheManagementPort9 false = 0) ∧ ((5 : Fin 256).val = 0 ∨
      4 < (5 : Fin 256).val ∨ 3 ≤ (2 : Fin 256).val ∨ 192 < (192 : Fin 65536).val ∨ 0x500000 < (1 : Fin
      4294967296).val + (192 : Fin 65536))) ∧
    ((mgtAlive sConfigurationStoreAndFirmware9 = true) ∧ (turnedAway sConfigurationStoreAndFirmware9 false = 0) ∧
      (([9, 0, 255] : List (Fin 256)).length ≤ 192) ∧ ((4194301 : Fin 4294967296) + ([9, 0, 255] : List (Fin
      256)).length ≤ 0x400000) ∧ (stagingBusy sConfigurationStoreAndFirmware9 = false)) ∧
    ((mgtAlive sTheManagementPort12 = true) ∧ (turnedAway sTheManagementPort12 false = 0) ∧ (([9, 0, 255] : List
      (Fin 256)).length ≤ 192) ∧ ((0 : Fin 4294967296) + ([9, 0, 255] : List (Fin 256)).length ≤ 0x400000) ∧
      (stagingBusy sTheManagementPort12 = true)) ∧
    ((mgtAlive sConfigurationStoreAndFirmware9 = true) ∧ (turnedAway sConfigurationStoreAndFirmware9 false = 0) ∧
      (([9, 0, 255] : List (Fin 256)).length ≤ 192) ∧ ((2 : Fin 4294967296) + ([9, 0, 255] : List (Fin 256)).length
      ≤ 0x400000) ∧ (stagingBusy sConfigurationStoreAndFirmware9 = false) ∧ ((2 : Fin 256).val = 2) ∧ (1 ≤ (staged
      (stage (2 : Fin 4294967296) (([9, 0, 255] : List (Fin 256)).map (·.val))
      sConfigurationStoreAndFirmware9)).length) ∧ ((staged (stage (2 : Fin 4294967296) (([9, 0, 255] : List (Fin
      256)).map (·.val)) sConfigurationStoreAndFirmware9)).length ≤ 65536) ∧
      (sConfigurationStoreAndFirmware9.cfg.write = none) ∧ (sConfigurationStoreAndFirmware9.cfg.queue = []) ∧
      (sConfigurationStoreAndFirmware9.mode ≠ .hold) ∧ (rdB sConfigurationStoreAndFirmware9 cfgB
      R.CFG_STATUS_ACTIVATING = false)) ∧
    ((mgtAlive sConfigurationStoreAndFirmware9 = true) ∧ (turnedAway sConfigurationStoreAndFirmware9 false = 0) ∧
      (([9, 0, 255] : List (Fin 256)).length ≤ 192) ∧ ((2 : Fin 4294967296) + ([9, 0, 255] : List (Fin 256)).length
      ≤ 0x400000) ∧ (stagingBusy sConfigurationStoreAndFirmware9 = false) ∧ ((3 : Fin 256).val ≠ 1) ∧ ((3 : Fin
      256).val ≠ 2)) ∧
    ((mgtAlive sTheManagementPort15 = true) ∧ (turnedAway sTheManagementPort15 false = 0) ∧ (fwRefused
      sTheManagementPort15 = true)) ∧
    ((mgtAlive sConfigurationStoreAndFirmware16 = true) ∧ (turnedAway sConfigurationStoreAndFirmware16 false = 0) ∧
      (sConfigurationStoreAndFirmware16.mode ≠ .hold) ∧ (sConfigurationStoreAndFirmware16.mode ≠ .tripped) ∧ (rdB
      sConfigurationStoreAndFirmware16 cfgB R.CFG_STATUS_ACTIVATING = false) ∧
      (sConfigurationStoreAndFirmware16.fw.waiting = false) ∧ ((chosenFw sConfigurationStoreAndFirmware16).gen ≠
      sConfigurationStoreAndFirmware16.fw.active.gen ∨ (chosenFw sConfigurationStoreAndFirmware16).payload ≠
      sConfigurationStoreAndFirmware16.fw.active.payload ∨ (chosenFw sConfigurationStoreAndFirmware16).svn ≠
      sConfigurationStoreAndFirmware16.fw.active.svn) ∧ (sConfigurationStoreAndFirmware16.cfg.write = none)) ∧
    ((mgtAlive sTheManagementPort17 = true) ∧ (turnedAway sTheManagementPort17 false = 0)) ∧
    ((mgtAlive sTheManagementPort18 = true) ∧ (turnedAway sTheManagementPort18 false = 0)) ∧
    ((mgtAlive sConfigurationStoreAndFirmware9 = true) ∧ (turnedAway sConfigurationStoreAndFirmware9 false = 0) ∧
      ((10 : Fin 256).val = 0 ∨ 10 ≤ (10 : Fin 256).val)) ∧
    ((mgtAlive sConfigurationStoreAndFirmware9 = true) ∧ (turnedAway sConfigurationStoreAndFirmware9 false = 0)) ∧
    ((mgtAlive sConfigurationStoreAndFirmware9 = true) ∧ (turnedAway sConfigurationStoreAndFirmware9 false = 0)) ∧
    ((mgtAlive sConfigurationStoreAndFirmware15 = true) ∧ (turnedAway sConfigurationStoreAndFirmware15 false ≠ 0)) ∧
    ((mgtAlive sConfigurationStoreAndFirmware9 = true) ∧ (turnedAway sConfigurationStoreAndFirmware9 false = 0)) ∧
    ((sTheManagementPort24.hub.up = true) ∧ (hostOff sTheManagementPort24 = false) ∧ (sessionAt
      sTheManagementPort24 0 = 2)) ∧
    ((sTheManagementPort25.hub.up = true) ∧ (hostOff sTheManagementPort25 = false) ∧ (sessionAt
      sTheManagementPort25 0 = 2) ∧ (1 ≤ tget 0 (7 : Fin 8) sTheManagementPort25.ide)) ∧
    ((sTheManagementPort26.hub.up = true) ∧ (hostOff sTheManagementPort26 = false) ∧ (fnUp sTheManagementPort26 256
      = true)) ∧
    ((mgtAlive sTheManagementPort27 = true)) ∧
    ((mgtAlive sTheManagementPort28 = true)) ∧
    ((mgtAlive sTheManagementPort29 = true) ∧ (rdB sTheManagementPort29 mgtB R.MGT_STATUS_EID_SET = false ∨ rd
      sTheManagementPort29 mgtB R.MGT_STATUS_EID ≠ (255 : Fin 256))) ∧
    ((mgtAlive sTheManagementPort30 = true) ∧ (rdB sTheManagementPort30 mgtB R.MGT_STATUS_EID_SET = true) ∧ (rd
      sTheManagementPort30 mgtB R.MGT_STATUS_EID = (255 : Fin 256))) := by
  refine ⟨?_, ?_, ?_, ?_, ?_, ?_, ?_, ?_, ?_, ?_, ?_, ?_, ?_, ?_, ?_, ?_, ?_, ?_, ?_, ?_, ?_, ?_, ?_, ?_, ?_, ?_, ?_, ?_, ?_, ?_, ?_⟩ <;> decide +kernel

theorem test_meets_EventsAreWrittenToTheRings :
    ((sEventsAreWrittenToTheRings0.evq = []) ∧ (sEventsAreWrittenToTheRings0.memq = []) ∧
      (sEventsAreWrittenToTheRings0.memLost = 0) ∧ (sEventsAreWrittenToTheRings0.chState (191 : Fin 192) = .off) ∧
      (isHeld sEventsAreWrittenToTheRings0 (191 : Fin 192) = false) ∧ (armMode sEventsAreWrittenToTheRings0 =
      false) ∧ (sEventsAreWrittenToTheRings0.mode ≠ .hold) ∧ (tenantsOn sEventsAreWrittenToTheRings0 (191 : Fin
      192) = []) ∧ (evFits sEventsAreWrittenToTheRings0 0 = true) ∧ ((evRing sEventsAreWrittenToTheRings0 0).lost =
      0) ∧ (poisonedAny sEventsAreWrittenToTheRings0 (evBase sEventsAreWrittenToTheRings0 0 + 16 * (evRing
      sEventsAreWrittenToTheRings0 0).wr) 16 = false)) ∧
    ((sEventsAreWrittenToTheRings0.evq = []) ∧ (sEventsAreWrittenToTheRings0.memq = []) ∧
      (sEventsAreWrittenToTheRings0.memLost = 0) ∧ (sEventsAreWrittenToTheRings0.chState (191 : Fin 192) = .off) ∧
      (isHeld sEventsAreWrittenToTheRings0 (191 : Fin 192) = false) ∧ (armMode sEventsAreWrittenToTheRings0 =
      false) ∧ (sEventsAreWrittenToTheRings0.mode ≠ .hold) ∧ (tenantsOn sEventsAreWrittenToTheRings0 (191 : Fin
      192) = []) ∧ (evFits sEventsAreWrittenToTheRings0 0 = true) ∧ ((evRing sEventsAreWrittenToTheRings0 0).lost =
      0) ∧ (poisonedAny sEventsAreWrittenToTheRings0 (evBase sEventsAreWrittenToTheRings0 0 + 16 * (evRing
      sEventsAreWrittenToTheRings0 0).wr) 16 = false)) ∧
    ((sEventsAreWrittenToTheRings2.evq = []) ∧ (sEventsAreWrittenToTheRings2.memq = []) ∧
      (sEventsAreWrittenToTheRings2.memLost = 0) ∧ (sEventsAreWrittenToTheRings2.chState (191 : Fin 192) = .off) ∧
      (isHeld sEventsAreWrittenToTheRings2 (191 : Fin 192) = false) ∧ (armMode sEventsAreWrittenToTheRings2 =
      false) ∧ (sEventsAreWrittenToTheRings2.mode ≠ .hold) ∧ (tenantsOn sEventsAreWrittenToTheRings2 (191 : Fin
      192) = []) ∧ (evFits sEventsAreWrittenToTheRings2 0 = true) ∧ ((evRing sEventsAreWrittenToTheRings2 0).lost =
      0) ∧ (max 1 (rd sEventsAreWrittenToTheRings2 (evRingB 0) R.SLUICE_EV_CFG_THR) ≤ (evRing
      sEventsAreWrittenToTheRings2 0).unsig + 1)) ∧
    ((sEventsAreWrittenToTheRings0.evq = []) ∧ (sEventsAreWrittenToTheRings0.memq = []) ∧
      (sEventsAreWrittenToTheRings0.memLost = 0) ∧ (sEventsAreWrittenToTheRings0.chState (191 : Fin 192) = .off) ∧
      (isHeld sEventsAreWrittenToTheRings0 (191 : Fin 192) = false) ∧ (armMode sEventsAreWrittenToTheRings0 =
      false) ∧ (sEventsAreWrittenToTheRings0.mode ≠ .hold) ∧ (tenantsOn sEventsAreWrittenToTheRings0 (191 : Fin
      192) = []) ∧ (evFits sEventsAreWrittenToTheRings0 0 = true) ∧ ((evRing sEventsAreWrittenToTheRings0 0).lost =
      0) ∧ ((evRing sEventsAreWrittenToTheRings0 0).unsig + 1 < max 1 (rd sEventsAreWrittenToTheRings0 (evRingB 0)
      R.SLUICE_EV_CFG_THR))) ∧
    ((sEventsAreWrittenToTheRings4.evq = []) ∧ (sEventsAreWrittenToTheRings4.memq = []) ∧
      (sEventsAreWrittenToTheRings4.memLost = 0) ∧ (sEventsAreWrittenToTheRings4.chState (191 : Fin 192) = .off) ∧
      (isHeld sEventsAreWrittenToTheRings4 (191 : Fin 192) = false) ∧ (armMode sEventsAreWrittenToTheRings4 =
      false) ∧ (sEventsAreWrittenToTheRings4.mode ≠ .hold) ∧ (tenantsOn sEventsAreWrittenToTheRings4 (191 : Fin
      192) = []) ∧ (evFits sEventsAreWrittenToTheRings4 0 = false)) ∧
    ((sEventsAreWrittenToTheRings5.evq = []) ∧ (sEventsAreWrittenToTheRings5.memq = []) ∧
      (sEventsAreWrittenToTheRings5.memLost = 0) ∧ (sEventsAreWrittenToTheRings5.chState (191 : Fin 192) = .off) ∧
      (isHeld sEventsAreWrittenToTheRings5 (191 : Fin 192) = false) ∧ (armMode sEventsAreWrittenToTheRings5 =
      false) ∧ (sEventsAreWrittenToTheRings5.mode ≠ .hold) ∧ (tenantsOn sEventsAreWrittenToTheRings5 (191 : Fin
      192) = []) ∧ (evFits sEventsAreWrittenToTheRings5 0 = true) ∧ ((evRing sEventsAreWrittenToTheRings5 0).lost ≠
      0) ∧ (poisonedAny sEventsAreWrittenToTheRings5 (evBase sEventsAreWrittenToTheRings5 0 + 16 * (evRing
      sEventsAreWrittenToTheRings5 0).wr) 16 = false)) ∧
    ((sEventsAreWrittenToTheRings6.evq = []) ∧ (sEventsAreWrittenToTheRings6.memq = []) ∧
      (sEventsAreWrittenToTheRings6.memLost = 0) ∧ (sEventsAreWrittenToTheRings6.chState (191 : Fin 192) = .off) ∧
      (isHeld sEventsAreWrittenToTheRings6 (191 : Fin 192) = false) ∧ (armMode sEventsAreWrittenToTheRings6 =
      false) ∧ (sEventsAreWrittenToTheRings6.mode ≠ .hold) ∧ (1 ≤ (256 : Fin 257).val) ∧ (tenantsOn
      sEventsAreWrittenToTheRings6 (191 : Fin 192) = [(256 : Fin 257).val]) ∧ (evFits sEventsAreWrittenToTheRings6
      0 = false) ∧ (evFits sEventsAreWrittenToTheRings6 (256 : Fin 257) = true) ∧ ((evRing
      sEventsAreWrittenToTheRings6 (256 : Fin 257)).lost = 0) ∧ (poisonedAny sEventsAreWrittenToTheRings6 (evBase
      sEventsAreWrittenToTheRings6 (256 : Fin 257) + 16 * (evRing sEventsAreWrittenToTheRings6 (256 : Fin 257)).wr)
      16 = false)) ∧
    ((sEventsAreWrittenToTheRings7.mode = .hold) ∧ (sEventsAreWrittenToTheRings7.chState (191 : Fin 192) = .off) ∧
      (isHeld sEventsAreWrittenToTheRings7 (191 : Fin 192) = false)) := by
  refine ⟨?_, ?_, ?_, ?_, ?_, ?_, ?_, ?_⟩ <;> decide +kernel

theorem test_meets_AccessesChangeOnlyTheBytesTheyStore :
    ((sMemoryControllers0.memLost = 0) ∧ (isIdentity ({ src := 0x1300, level := 0 } : Asker).src = true) ∧
      (MemoryFree sMemoryControllers0 (26388279066686 : Fin 35184372088832) ([1, 0, 3, 255] : List Byte).length
      ({ src := 0x1300, level := 0 } : Asker).src)) ∧
    ((sMemoryControllers1.memLost = 0) ∧ (isIdentity ({ src := 0x1300, level := 0 } : Asker).src = true) ∧
      (MemoryFree sMemoryControllers1 (26388279066686 : Fin 35184372088832) (withinGranule (26388279066686 : Fin
      35184372088832) ([1, 0, 3, 255] : List Byte)).length ({ src := 0x1300, level := 0 } : Asker).src)) ∧
    ((sMemoryControllers1.memLost = 0) ∧ (isIdentity ({ src := 0x1300, level := 0 } : Asker).src = true) ∧
      (MemoryFree sMemoryControllers1 (26388279066650 : Fin 35184372088832) (70 : Fin 65537)
      ({ src := 0x1300, level := 0 } : Asker).src)) ∧
    ((sRingsAndTheHostSide11.memLost = 0) ∧ (fnUp sRingsAndTheHostSide11 (256 : Fin 257) = true) ∧ (aptWriteOk (256
      : Fin 257) 65530 ([1, 0, 255] : List Byte).length = true) ∧ (segOk sRingsAndTheHostSide11 (256 : Fin 257)
      true (aptOf sRingsAndTheHostSide11 (256 : Fin 257) + 65530) ([1, 0, 255] : List Byte).length = true) ∧
      (MemoryFree sRingsAndTheHostSide11 (aptOf sRingsAndTheHostSide11 (256 : Fin 257) + 65530) ([1, 0, 255] : List
      Byte).length (256 : Fin 257))) ∧
    ((sRingsAndTheHostSide11.memLost = 0) ∧ (fnUp sRingsAndTheHostSide11 (256 : Fin 257) = true) ∧ (aptReadOk (256
      : Fin 257) 65530 (8 : Fin 4097) = true) ∧ (segOk sRingsAndTheHostSide11 (256 : Fin 257) false (aptOf
      sRingsAndTheHostSide11 (256 : Fin 257) + 65530) (8 : Fin 4097) = true) ∧ (MemoryFree sRingsAndTheHostSide11
      (aptOf sRingsAndTheHostSide11 (256 : Fin 257) + 65530) (8 : Fin 4097) (256 : Fin 257))) ∧
    ((sSequencerWaitsWatchdogAndSwap5.memLost = 0) ∧ (sSequencerWaitsWatchdogAndSwap5.evq = []) ∧
      (sSequencerWaitsWatchdogAndSwap5.memq = []) ∧ (fnUp sSequencerWaitsWatchdogAndSwap5 (256 : Fin 257) = false)
      ∧ (aptWriteOk (256 : Fin 257) 65530 ([1, 0, 255] : List Byte).length = true)) := by
  refine ⟨?_, ?_, ?_, ?_, ?_, ?_⟩ <;> decide +kernel

end Sys2Proof.Tests
end

section
/-!
PROOFS. Statements of the family 00_scope that no state of a run refutes, but that speak of every state: a state with a
value in a table that no command puts there refutes them.
-/

namespace Sys2Proof.Scope
open Sys2Proof Sys2Proof.Machine Sys2Proof.Safety

/-- A command whose effect is `f` leads to `done f s` and to nothing else. -/
theorem of_leads_run {c : Instr} {s : State} {f : State → State} {P : State → Prop} (h : Leads c s P)
    (hc : exec c s = run f s) : P (done f s) := by
  obtain ⟨t, ht, hp⟩ := h
  rw [hc] at ht
  cases ht
  exact hp

/-! ### A register value wider than its field -/

/-- CH_STATUS.WRITE_REJECTED of channel 0, one bit wide, holds 3. -/
def wideFlag : State := { State.reset with regs := [(R.CH_STATUS_WRITE_REJECTED.key (chB 0) 0, 3)] }

/-- A word of zeros clears no bit, and puts the low bit of the 3 into the field. -/
theorem wideFlag_after_zero_written :
    rdB (done (busWrite 0 (chB 0 + R.CH_STATUS_STATE.off) (leBytes 4 0)) wideFlag) (chB 0) R.CH_STATUS_WRITE_REJECTED
      = true := by decide +kernel

/-- Refutes O27: its sixth clause says that a 0 written to CH_STATUS.WRITE_REJECTED leaves the flag as it is read, for
every table of registers. Where the table holds 3 for this one-bit field, which no write of the model does, the flag does
not read as set before the access and does after it. The premise that every value fits its field is missing. -/
theorem not_registerWritesFollowTheAccessCodes : ¬ Obligations.RegisterWritesFollowTheAccessCodes := by
  unfold Obligations.RegisterWritesFollowTheAccessCodes
  rintro ⟨-, -, -, -, -, hflag, -⟩
  obtain ⟨hrej, -⟩ := of_leads_run (hflag wideFlag 0 0 (by decide +kernel) (by decide +kernel)) rfl
  exact absurd (wideFlag_after_zero_written.symm.trans hrej) (by decide +kernel)

/-! ### An event that waits between two steps -/

/-- PF0's event ring is enabled, and an event for it waits, which no step leaves behind (`Inv`). -/
def eventWaiting : State :=
  wrB (evRingB 0) R.SLUICE_EV_CFG_EN true <| wrB (ddrDieB 0) R.DDR_DIE_STATUS_MEM_OK true <|
    wr (ddrDieB 0) R.DDR_DIE_CAP_GIB 1
      { State.reset with
        evq := [{ dest := [0], ev := { stamp := 0, code := 0x0101, channel := noCh, arg := 0 } }] }

/-- A read of 8 bytes then has two outputs: the data, and the vector of the event's record. -/
theorem eventWaiting_read_outputs :
    (done (busRead 0 hubB 8) eventWaiting).out.length = 2 := by decide +kernel

/-- Refutes O28: its clause on a read of 8 bytes says that the data are the only output, in every state. With an event
waiting for an enabled ring the same step also writes the event's record and signals its vector. `Inv`, which says that no
event waits between two steps, is the missing premise. -/
theorem not_wideAccessesAreSplitInAscendingOrder : ¬ Obligations.WideAccessesAreSplitInAscendingOrder := by
  unfold Obligations.WideAccessesAreSplitInAscendingOrder
  rintro ⟨-, hread⟩
  have hout := of_leads_run (hread eventWaiting hubB (by decide +kernel) (by decide)) rfl
  exact absurd (eventWaiting_read_outputs.symm.trans (congrArg List.length hout)) (Nat.succ_ne_self 1)

/-! ### A rank number above 3 -/

/-- Channel 1 of die 0 is RETRAINING. On channel 0, whose only logical rank is mapped to "physical rank 2025", a read
waits that meets a correctable error. -/
def strayRank : State :=
  modDdr 0 0 (fun x => { x with ranks := [2025] }) <| setDdrState 0 1 4 <|
    wrB (ddrDieB 0) R.DDR_DIE_STATUS_MEM_OK true <| wr (ddrDieB 0) R.DDR_DIE_CAP_GIB 1
      { State.reset with dreqs := [{ len := 64, level := 1, errs := [(0, false, 0, false)] }] }

/-- The error bucket of "rank 2025" of channel 0 lies where DDR_STATUS.STATE of channel 1 does. -/
theorem bucket_2025_is_state_of_next_channel :
    R.DDR_RANK_BUCKET.key (ddrB 0 0) 2025 = R.DDR_STATUS_STATE.key (ddrB 0 1) 0 := by decide

/-- The error of the read served at the end of the retrain counts the 2 of UP up to 3. -/
theorem strayRank_state_after_retrain :
    ddrState (done (fullRetrainDone 0 1 true) strayRank) 0 1 = 3 := by decide +kernel

/-- Refutes O50: its clause on FULL_RETRAIN_DONE says that the channel is UP after it, in every state. The end of a retrain
serves the requests that wait; where a channel's map names a physical rank above 3, which no migration of the model does,
the error bucket of that rank falls on a register of another channel, here on the STATE just written. The premise that
the ranks of `DdrSt.ranks` lie below 4 is missing. -/
theorem not_memoryControllers : ¬ Obligations.MemoryControllers := by
  unfold Obligations.MemoryControllers
  rintro ⟨-, -, -, -, -, -, -, -, -, -, -, -, -, -, -, -, -, hretrain, -⟩
  have hup := of_leads_run (hretrain strayRank 0 1 (by decide +kernel)) rfl
  exact absurd (strayRank_state_after_retrain.symm.trans hup) (by decide)

end Sys2Proof.Scope
end

section
namespace Sys2Proof.Scope
open Sys2Proof Sys2Proof.Machine Sys2Proof.Safety

/-! ### Outputs of a step -/

theorem mem_out_emitOut {o : Out} (x : Out) {s : State} (h : o ∈ s.out) : o ∈ (emitOut x s).out := by
  unfold emitOut
  dsimp only
  split
  · exact List.mem_append_left _ h
  · split
    · exact h
    · split <;> exact List.mem_append_left _ h

theorem mem_out_evWrite {o : Out} (e : Event) (t : Nat) {s : State} (h : o ∈ s.out) : o ∈ (evWrite e t s).out := by
  unfold evWrite
  dsimp only
  split
  · exact mem_out_emitOut _ h
  · exact h

theorem mem_out_evOverflow {o : Out} (t : Nat) {s : State} (h : o ∈ s.out) : o ∈ (evOverflow t s).out := by
  unfold evOverflow
  dsimp only
  split
  · exact h
  · exact mem_out_evWrite _ _ h

theorem mem_out_deliverTo {o : Out} (e : Event) (t : Nat) {s : State} (h : o ∈ s.out) : o ∈ (deliverTo e t s).out := by
  unfold deliverTo
  dsimp only
  split
  · exact mem_out_evWrite _ _ (mem_out_evOverflow t h)
  · exact mem_out_evOverflow t h

theorem mem_out_deliver {o : Out} {s : State} (h : o ∈ s.out) : o ∈ (deliver s).out :=
  List.foldlRecOn (motive := fun s : State => o ∈ s.out) _ _ h fun _ h q _ =>
    List.foldlRecOn (motive := fun s : State => o ∈ s.out) _ _ h fun _ h t _ => mem_out_deliverTo q.ev t h

/-- What a command puts out stays put out: the end of its step only adds the signals of the event rings. -/
theorem mem_out_done {o : Out} {f : State → State} {s : State} (h : o ∈ (f (begun s)).out) : o ∈ (done f s).out :=
  mem_out_deliver (s := { f (begun s) with pending := s.pending, mem := s.mem }) h

/-! ### Reads of TIME_NOW (R14 to R16) -/

abbrev timeLo : Nat := timeB + R.TIME_NOW_LO_NOW.off
abbrev timeHi : Nat := timeB + R.TIME_NOW_HI_NOW.off

theorem regWord_timeLo (s : State) : regWord 0 s timeLo = s.ht % 2 ^ 32 := by
  have hword : regWord 0 s timeLo = 0 + s.ht % 2 ^ 32 % 2 ^ 32 * 2 ^ 0 := rfl
  rw [hword]; omega

theorem regWord_timeHi (s : State) : regWord 0 s timeHi = s.ht / 2 ^ 32 % 2 ^ 32 := by
  have hword : regWord 0 s timeHi = 0 + s.ht / 2 ^ 32 % 2 ^ 32 % 2 ^ 32 * 2 ^ 0 := rfl
  rw [hword]; omega

/-- The lower word is the lower word of a pair: a read of it latches the upper one. -/
theorem regRead_timeLo (s : State) : regRead 0 timeLo s =
    ((takeLatch 0 timeLo (s.ht % 2 ^ 32) s).1,
      latchUpper 0 timeHi (s.ht / 2 ^ 32 % 2 ^ 32) (takeLatch 0 timeLo (s.ht % 2 ^ 32) s).2) := by
  rw [← regWord_timeLo, ← regWord_timeHi]
  rfl

theorem regRead_timeHi (s : State) : regRead 0 timeHi s = takeLatch 0 timeHi (s.ht / 2 ^ 32 % 2 ^ 32) s := by
  rw [← regWord_timeHi]
  rfl

/-- A latched word is answered, and the latch is empty after it. -/
theorem takeLatch_latched {fn a w v : Nat} {s : State}
    (h : s.latch.find? (fun e => e.1 == fn && e.2.1 == a) = some (fn, a, v)) :
    takeLatch fn a w s = (v, { s with latch := s.latch.filter (fun e => !(e.1 == fn && e.2.1 == a)) }) := by
  simp [takeLatch, h]

theorem takeLatch_free {fn a w : Nat} {s : State} (h : s.latch.find? (fun e => e.1 == fn && e.2.1 == a) = none) :
    takeLatch fn a w s = (w, s) := by
  simp [takeLatch, h]

/-- A latched word is returned once: after the read nothing is latched at its address. -/
theorem takeLatch_find?_latch (fn a w : Nat) (s : State) :
    (takeLatch fn a w s).2.latch.find? (fun e => e.1 == fn && e.2.1 == a) = none := by
  unfold takeLatch
  split
  · exact List.find?_eq_none.mpr fun e he => by
      simpa only [Bool.not_eq_true, Bool.not_eq_eq_eq_not, Bool.not_true] using (List.mem_filter.mp he).2
  · next hfree => exact hfree

@[simp] theorem takeLatch_regs (fn a w : Nat) (s : State) : (takeLatch fn a w s).2.regs = s.regs := by
  unfold takeLatch
  split <;> rfl

/-- A read of bytes of one aligned word of PF0 BAR0 is one access of that word. -/
theorem busRead_oneWord {a i len : Nat} {s : State} (hoff : hostOff s = false) (ha : a % 4 = 0) (hlen : 0 < len)
    (hi : i + len ≤ 4) : busRead 0 (a + i) len s =
      emitOut (.readData 0 (((leBytes 4 (regRead 0 a s).1).drop i).take len)) (regRead 0 a s).2 := by
  have hmod : (a + i) % 4 = i := by omega
  have hdiv : (a + i) / 4 * 4 = a := by omega
  have hwords : (i + len + 3) / 4 = 1 := by omega
  have hlen0 : ¬ len = 0 := by omega
  simp [busRead, hoff, fnUp, hlen0, hmod, hdiv, hwords, List.range_one]

theorem mem_out_readData (fn : Nat) (l : List Byte) (s : State) :
    Out.readData fn l ∈ (emitOut (.readData fn l) s).out :=
  List.mem_append_right _ (List.mem_singleton.mpr rfl)

/-- A read of some bytes of TIME_NOW's lower word. -/
theorem read_timeLo_leads {s : State} {i len : Nat} (hoff : hostOff s = false) (hlen : 0 < len) (hi : i + len ≤ 4) :
    Leads (.registerPairRead 0 { addr := timeLo + i, len }) s fun t =>
      (s.latch.find? (fun e => e.1 == 0 && e.2.1 == timeLo) = none →
        .readData 0 (((leBytes 4 (s.ht % 2 ^ 32)).drop i).take len) ∈ t.out) ∧
      t.latch.head? = some (0, timeHi, s.ht / 2 ^ 32 % 2 ^ 32) ∧ t.regs = s.regs := by
  have hread : busRead 0 (timeLo + i) len (begun s) =
      emitOut (.readData 0 (((leBytes 4 (takeLatch 0 timeLo (s.ht % 2 ^ 32) (begun s)).1).drop i).take len))
        (latchUpper 0 timeHi (s.ht / 2 ^ 32 % 2 ^ 32) (takeLatch 0 timeLo (s.ht % 2 ^ 32) (begun s)).2) := by
    rw [busRead_oneWord (s := begun s) hoff (by decide) hlen hi, regRead_timeLo, begun_ht]
  refine leads_run (f := busRead 0 (timeLo + i) len) rfl ⟨fun hfree => mem_out_done ?_, ?_, ?_⟩
  · rw [hread, takeLatch_free (s := begun s) hfree]
    exact mem_out_readData ..
  · rw [done_latch, hread]; rfl
  · rw [done_regs, hread]
    exact takeLatch_regs ..

/-- A read of TIME_NOW's upper word. -/
theorem busRead_timeHi {s : State} (hoff : hostOff s = false) : busRead 0 timeHi 4 s =
    emitOut (.readData 0 (leBytes 4 (takeLatch 0 timeHi (s.ht / 2 ^ 32 % 2 ^ 32) s).1))
      (takeLatch 0 timeHi (s.ht / 2 ^ 32 % 2 ^ 32) s).2 := by
  have hword := busRead_oneWord (a := timeHi) (i := 0) (len := 4) hoff (by decide) (by decide) (by decide)
  rw [regRead_timeHi] at hword
  exact hword

/-- Settles O29: a read of the lower word latches the upper one whatever its width, and a read of the upper word takes the
latch away. -/
theorem pairReadsLatchTheUpperWord : Obligations.PairReadsLatchTheUpperWord := by
  unfold Obligations.PairReadsLatchTheUpperWord
  refine ⟨fun s i hoff => read_timeLo_leads hoff (by decide) (by omega),
    fun s hoff => read_timeLo_leads (i := 0) (len := 4) hoff (by decide) (by decide), fun s v hoff hv => ?_,
    fun s hoff hfree => ?_⟩
  · have hread := busRead_timeHi (s := begun s) hoff
    rw [takeLatch_latched (s := begun s) hv] at hread
    refine leads_run (f := busRead 0 timeHi 4) rfl ⟨mem_out_done ?_, ?_, ?_⟩
    · rw [hread]; exact mem_out_readData ..
    · rw [done_latch, busRead_timeHi (s := begun s) hoff]; exact takeLatch_find?_latch ..
    · rw [done_regs, hread]; rfl
  · have hread := busRead_timeHi (s := begun s) hoff
    rw [takeLatch_free (s := begun s) hfree] at hread
    refine leads_run (f := busRead 0 timeHi 4) rfl ⟨mem_out_done ?_, ?_, ?_⟩
    · rw [hread]; exact mem_out_readData ..
    · rw [done_latch, hread]; rfl
    · rw [done_regs, hread]; rfl

end Sys2Proof.Scope
end

section
namespace Sys2Proof.Scope
open Sys2Proof Sys2Proof.Machine Sys2Proof.Safety

/-! ### Bytes of memory within a step and after it (R598, R605) -/

/-- The write reaches byte `x`. -/
def Covers (w : MemWrite) (x : Nat) : Prop := w.addr ≤ x ∧ x < w.addr + w.bytes.length

theorem queuedByte_cons (x : Nat) (w : MemWrite) (l : List MemWrite) : queuedByte x (w :: l) =
    (queuedByte x l).or (if w.addr ≤ x && x < w.addr + w.bytes.length then w.bytes[x - w.addr]? else none) := by
  rw [queuedByte]
  cases queuedByte x l <;> rfl

theorem queuedByte_append (x : Nat) (l k : List MemWrite) :
    queuedByte x (l ++ k) = (queuedByte x k).or (queuedByte x l) := by
  induction l with
  | nil => simp [queuedByte]
  | cons w l ih => rw [List.cons_append, queuedByte_cons, queuedByte_cons, ih, Option.or_assoc]

theorem queuedByte_eq_none {x : Nat} {l : List MemWrite} (h : ∀ w ∈ l, ¬ Covers w x) : queuedByte x l = none := by
  induction l with
  | nil => rfl
  | cons w l ih =>
    have hw : ¬ Covers w x := h w (List.mem_cons_self ..)
    rw [queuedByte_cons, ih fun w hw => h w (List.mem_cons_of_mem _ hw)]
    simp [Covers] at hw
    simp; omega

/-- Writes that agree on byte `x`, one of which reaches it, give it their value. -/
theorem queuedByte_eq_some {x : Nat} {b : Byte} {l : List MemWrite} (hc : ∃ w ∈ l, Covers w x)
    (h : ∀ w ∈ l, Covers w x → w.bytes[x - w.addr]? = some b) : queuedByte x l = some b := by
  induction l with
  | nil => obtain ⟨w, hw, -⟩ := hc; cases hw
  | cons w l ih =>
    have hl : ∀ v ∈ l, Covers v x → v.bytes[x - v.addr]? = some b := fun v hv => h v (List.mem_cons_of_mem _ hv)
    rw [queuedByte_cons]
    by_cases hcl : ∃ v ∈ l, Covers v x
    · rw [ih hcl hl]; rfl
    · have hw : Covers w x := by
        obtain ⟨v, hv, hvx⟩ := hc
        rcases List.mem_cons.mp hv with rfl | hv
        · exact hvx
        · exact absurd ⟨v, hv, hvx⟩ hcl
      rw [queuedByte_eq_none fun v hv hvx => hcl ⟨v, hv, hvx⟩, Option.none_or,
        if_pos (by simpa [Covers] using hw)]
      exact h w (List.mem_cons_self ..) hw

/-- The writes queued in a step are what the memory holds after it. -/
theorem memByte_foldl_memWrite (x : Nat) (l : List MemWrite) (m : List Host.Cell) :
    memByte (l.foldl (fun m w => memWrite w.addr w.bytes m) m) x = (queuedByte x l).getD (memByte m x) := by
  induction l generalizing m with
  | nil => rfl
  | cons w l ih =>
    rw [List.foldl_cons, ih, memByte_memWrite, queuedByte_cons]
    cases queuedByte x l with
    | some b => rfl
    | none =>
      by_cases hw : w.addr ≤ x ∧ x < w.addr + w.bytes.length
      · have hlt : x - w.addr < w.bytes.length := by omega
        simp [hw, hlt]
      · simp [hw]

theorem memDrop_zero (m : List Host.Cell) : memDrop 0 m = m :=
  List.filter_eq_self.mpr fun c _ => by simp [bitOf]

theorem loadByte_commitMem {s : State} (h : s.memLost = 0) (x : Nat) : loadByte (commitMem s) x = loadByte s x := by
  simp only [loadByte, commitMem, h, memDrop_zero, memByte_foldl_memWrite, queuedByte, Option.getD_none]

/-! ### A store within a step -/

theorem mem_granules {g a len : Nat} (h : g ∈ granules a len) : a / 64 ≤ g ∧ 64 * g < a + len := by
  unfold granules at h
  split at h
  · cases h
  · obtain ⟨i, hi, rfl⟩ := List.mem_map.mp h
    have := List.mem_range.mp hi
    omega

theorem granule_mem_granules {x a len : Nat} (h : a ≤ x ∧ x < a + len) : x / 64 ∈ granules a len := by
  unfold granules
  rw [if_neg (by omega)]
  exact List.mem_map.mpr ⟨x / 64 - a / 64, List.mem_range.mpr (by omega), by omega⟩

/-- The part of a store that falls into granule `g`. -/
def granulePart (a : Nat) (bs : List Byte) (g : Nat) : MemWrite :=
  { addr := max a (64 * g)
    bytes := (bs.drop (max a (64 * g) - a)).take (min (a + bs.length) (64 * g + 64) - max a (64 * g)) }

theorem store_memq (a : Nat) (bs : List Byte) (s : State) : (store a bs s).memq = s.memq ++
    (granules a bs.length).filterMap (fun g => if reachable s g then some (granulePart a bs g) else none) := rfl

theorem granulePart_length {a g : Nat} {bs : List Byte} :
    (granulePart a bs g).bytes.length = min (a + bs.length) (64 * g + 64) - max a (64 * g) := by
  simp only [granulePart, List.length_take, List.length_drop]
  omega

theorem granulePart_byte {a g x : Nat} {bs : List Byte} (h : Covers (granulePart a bs g) x) :
    (granulePart a bs g).bytes[x - (granulePart a bs g).addr]? = bs[x - a]? ∧ a ≤ x ∧ x < a + bs.length := by
  obtain ⟨hlo, hhi⟩ := h
  rw [granulePart_length] at hhi
  have haddr : (granulePart a bs g).addr = max a (64 * g) := rfl
  rw [haddr] at hlo hhi ⊢
  refine ⟨?_, by omega, by omega⟩
  rw [granulePart, List.getElem?_take_of_lt (by omega), List.getElem?_drop]
  congr 1
  omega

/-- A store leaves every byte beside it as it was. -/
theorem loadByte_store_of_not_mem {a x : Nat} {bs : List Byte} (s : State) (h : x < a ∨ a + bs.length ≤ x) :
    loadByte (store a bs s) x = loadByte s x := by
  have hnone : queuedByte x ((granules a bs.length).filterMap
      (fun g => if reachable s g then some (granulePart a bs g) else none)) = none := by
    refine queuedByte_eq_none fun w hw hwx => ?_
    obtain ⟨g, -, hg⟩ := List.mem_filterMap.mp hw
    split at hg
    · cases hg
      obtain ⟨-, hlo, hhi⟩ := granulePart_byte hwx
      omega
    · cases hg
  rw [loadByte, store_memq, queuedByte_append, hnone, Option.none_or]
  rfl

theorem reachable_of_not_poisoned {s : State} {a len g : Nat}
    (h : poisonedAny s a len = false) (hg : g ∈ granules a len) :
    reachable s g = true := by
  have hp : poisoned s g = false := by simpa using (List.any_eq_false.mp h) g hg
  simp [poisoned] at hp
  exact hp.1

/-- Where no granule reads as poison, a store puts its bytes. -/
theorem loadByte_store_of_mem {a x : Nat} {bs : List Byte} {s : State} (hp : poisonedAny s a bs.length = false)
    (h : a ≤ x ∧ x < a + bs.length) : loadByte (store a bs s) x = bs.getD (x - a) 0 := by
  have hlt : x - a < bs.length := by omega
  have hsome : queuedByte x ((granules a bs.length).filterMap
      (fun g => if reachable s g then some (granulePart a bs g) else none)) = some bs[x - a] := by
    refine queuedByte_eq_some ⟨granulePart a bs (x / 64), ?_, ?_⟩ fun w hw hwx => ?_
    · have hg := granule_mem_granules h
      exact List.mem_filterMap.mpr ⟨x / 64, hg, by rw [if_pos (reachable_of_not_poisoned hp hg)]⟩
    · rw [Covers, granulePart_length]
      simp only [granulePart]
      omega
    · obtain ⟨g, -, hg⟩ := List.mem_filterMap.mp hw
      split at hg
      · cases hg
        rw [(granulePart_byte hwx).1, List.getElem?_eq_getElem hlt]
      · cases hg
  rw [loadByte, store_memq, queuedByte_append, hsome, Option.some_or, Option.getD_some, List.getD_eq_getElem _ _ hlt]

theorem loadBytes_store {a : Nat} {bs : List Byte} {s : State} (hp : poisonedAny s a bs.length = false) :
    loadBytes (store a bs s) a bs.length = bs := by
  refine List.ext_getElem (by simp [loadBytes]) fun i h1 h2 => ?_
  have hx : a + i - a = i := by omega
  simp only [loadBytes, List.getElem_map, List.getElem_range]
  rw [loadByte_store_of_mem hp (by omega), hx, List.getD_eq_getElem _ _ h2]

theorem loadBytes_congr {s t : State} {a len : Nat} (h : ∀ x, a ≤ x → x < a + len → loadByte t x = loadByte s x) :
    loadBytes t a len = loadBytes s a len :=
  List.map_congr_left fun _ hi => h _ (Nat.le_add_right ..) (Nat.add_lt_add_left (List.mem_range.mp hi) a)


/-! ### What an event ring reads, and registers that do not touch it -/

/-- The keys of the channel blocks' registers. -/
def chKey (k : Nat) : Prop := 0x1000000 * 32 ≤ k ∧ k < 0x1300000 * 32

/-- Two states agree on every register outside the channel blocks. -/
def AgreeOffChannels (s t : State) : Prop := ∀ b f i, ¬ chKey (f.key b i) → rd s b f i = rd t b f i

theorem AgreeOffChannels.of_regs {s t : State} (h : s.regs = t.regs) : AgreeOffChannels s t :=
  fun b f i _ => rd_of_regs h b f i

theorem not_chKey_evRing (t : Nat) {f : Fld} (i : Nat)
    (hf : f.off + f.stride * i < 0x1000 ∧ f.lo + f.bstep * i < 32) : ¬ chKey (f.key (evRingB t) i) := by
  unfold chKey Fld.key evRingB vfB
  split <;> omega

theorem not_chKey_above {b : Nat} (f : Fld) (i : Nat) (hb : 0x1300000 ≤ b) : ¬ chKey (f.key b i) := by
  unfold chKey Fld.key
  omega

section Congr
variable {s t : State} (h : AgreeOffChannels s t)
include h

theorem evBase_congr (k : Nat) : evBase s k = evBase t k := by
  rw [evBase, evBase, rdPair, rdPair, h _ _ _ (not_chKey_evRing k 0 (by decide)),
    h _ _ _ (not_chKey_evRing k 0 (by decide))]

theorem evSize_congr (k : Nat) : evSize s k = evSize t k := by
  rw [evSize, evSize, h _ _ _ (not_chKey_evRing k 0 (by decide))]

theorem rd_die_congr (a : Nat) (f : Fld) (i : Nat) : rd s (ddrDieB (dieOf a)) f i = rd t (ddrDieB (dieOf a)) f i :=
  h _ _ _ (not_chKey_above f i (by unfold ddrDieB dieB; omega))

theorem installed_congr (a : Nat) : installed s a = installed t a := by
  simp only [installed, rdB, rd_die_congr h]

theorem chanOf_congr (a : Nat) : chanOf s a = chanOf t a := by
  simp only [chanOf, cbit, cmask, rd_die_congr h]

theorem reachable_congr (g : Nat) : reachable s g = reachable t g := by
  have hstate : ∀ m, rd s (ddrB (dieOf (64 * g)) m) R.DDR_STATUS_STATE =
      rd t (ddrB (dieOf (64 * g)) m) R.DDR_STATUS_STATE :=
    fun m => h _ _ _ (not_chKey_above _ _ (by unfold ddrB dieB; omega))
  simp only [reachable, chanFailed, installed_congr h, chanOf_congr h, hstate]

theorem poisonedAny_congr (hp : s.poison = t.poison) (a len : Nat) : poisonedAny s a len = poisonedAny t a len := by
  have hg : poisoned s = poisoned t := funext fun g => by simp only [poisoned, reachable_congr h, hp]
  rw [poisonedAny, poisonedAny, hg]

theorem segOk_congr (k : Nat) (w : Bool) (a len : Nat) : segOk s k w a len = segOk t k w a len := by
  have hten : ∀ f i, rd s (tenB k) f i = rd t (tenB k) f i := fun f i =>
    h _ _ _ (not_chKey_above f i (by unfold tenB; omega))
  simp only [segOk, segEntry, rdB, hten]

theorem evFits_congr {k : Nat} (he : evRing s k = evRing t k) : evFits s k = evFits t k := by
  simp only [evFits, he, evBase_congr h, evSize_congr h, segOk_congr h, installedAll, installed_congr h, rdB,
    h _ _ _ (not_chKey_evRing k (f := R.SLUICE_EV_CFG_EN) 0 (by decide))]

end Congr

/-! ### One record (R19, R679, R680) -/

/-- The address of the next record of a function's event ring. -/
abbrev evAddr (s : State) (t : Nat) : Nat := evBase s t + 16 * (evRing s t).wr

theorem leBytes_length (n x : Nat) : (leBytes n x).length = n := by
  induction n generalizing x with
  | zero => rfl
  | succ n ih => rw [leBytes, List.length_cons, ih]

@[simp] theorem record_length (e : Event) : e.record.length = 16 := by
  simp [Event.record, leBytes_length]

@[simp] theorem evRing_setEvRing_same (t : Nat) (r : EvRing) (s : State) : evRing (setEvRing t r s) t = r :=
  tget_tset_same ..

theorem evRing_setEvRing_ne {t t' : Nat} (r : EvRing) (s : State) (h : t ≠ t') :
    evRing (setEvRing t r s) t' = evRing s t' := tget_tset_ne _ _ _ _ _ _ h

/-- What a record changes of memory is the store of its 16 bytes. -/
theorem loadByte_evWrite (e : Event) (t : Nat) (s : State) (x : Nat) :
    loadByte (evWrite e t s) x = loadByte (store (evAddr s t) e.record s) x := by
  unfold evWrite
  dsimp only
  split <;> rfl

theorem loadBytes_evWrite {e : Event} {t : Nat} {s : State} (hp : poisonedAny s (evAddr s t) 16 = false) :
    loadBytes (evWrite e t s) (evAddr s t) 16 = e.record := by
  rw [loadBytes_congr fun x _ _ => loadByte_evWrite e t s x]
  have hs := loadBytes_store (a := evAddr s t) (bs := e.record) (s := s)
  rw [record_length] at hs
  exact hs hp

theorem loadByte_evWrite_of_not_mem {t x : Nat} (e : Event) (s : State) (h : x < evAddr s t ∨ evAddr s t + 16 ≤ x) :
    loadByte (evWrite e t s) x = loadByte s x := by
  rw [loadByte_evWrite, loadByte_store_of_not_mem s (by rwa [record_length])]

theorem evWrite_ring_wr (e : Event) (t : Nat) (s : State) :
    (evRing (evWrite e t s) t).wr = ((evRing s t).wr + 1) % evSize s t := by
  unfold evWrite
  dsimp only
  split
  · exact congrArg EvRing.wr (tget_tset_same ..)
  · exact congrArg EvRing.wr (tget_tset_same ..)

/-- THR records stand unsignalled: the vector is signalled. -/
theorem evWrite_signals {e : Event} {t : Nat} {s : State}
    (h : max 1 (rd s (evRingB t) R.SLUICE_EV_CFG_THR) ≤ (evRing s t).unsig + 1) :
    Out.msix t (min (lastVec t) (rd s (evRingB t) R.SLUICE_EV_CFG_VEC)) ∈ (evWrite e t s).out
      ∧ (evRing (evWrite e t s) t).unsig = 0 := by
  unfold evWrite
  dsimp only
  rw [if_pos h]
  exact ⟨List.mem_append_right _ (List.mem_singleton.mpr rfl), congrArg EvRing.unsig (tget_tset_same ..)⟩

/-- Below THR the record is counted as unsignalled. -/
theorem evWrite_counts {e : Event} {t : Nat} {s : State}
    (h : (evRing s t).unsig + 1 < max 1 (rd s (evRingB t) R.SLUICE_EV_CFG_THR)) :
    (evRing (evWrite e t s) t).unsig = (evRing s t).unsig + 1 := by
  unfold evWrite
  dsimp only
  rw [if_neg (Nat.not_le.mpr h)]
  exact congrArg EvRing.unsig (tget_tset_same ..)

/-! ### One event at one ring -/

/-- The ring counts an event that it drops. -/
def evDrop (t : Nat) (s : State) : State :=
  setEvRing t { evRing s t with drop := satU 32 ((evRing s t).drop + 1), lost := satU 32 ((evRing s t).lost + 1) } s

theorem evOverflow_of_none_lost {t : Nat} {s : State} (h : (evRing s t).lost = 0) : evOverflow t s = s := by
  simp [evOverflow, h]

theorem deliverTo_of_fits {e : Event} {t : Nat} {s : State} (hl : (evRing s t).lost = 0) (hf : evFits s t = true) :
    deliverTo e t s = evWrite e t s := by
  simp [deliverTo, evOverflow_of_none_lost hl, hf]

theorem deliverTo_of_not_fits {e : Event} {t : Nat} {s : State} (hf : evFits s t = false) :
    deliverTo e t s = evDrop t s := by
  simp [deliverTo, evOverflow, evDrop, hf]

/-- The ring with the record of the events it has lost. -/
def evLossWritten (t : Nat) (s : State) : State :=
  evWrite { stamp := s.ht, code := 0x0E02, channel := noCh, arg := (evRing s t).lost } t
    (setEvRing t { evRing s t with lost := 0 } s)

/-- The record of the events lost comes first, where there is space for it (R679). -/
theorem deliverTo_after_loss {e : Event} {t : Nat} {s : State} (hl : (evRing s t).lost ≠ 0) (hf : evFits s t = true) :
    deliverTo e t s =
      if evFits (evLossWritten t s) t then evWrite e t (evLossWritten t s) else evDrop t (evLossWritten t s) := by
  have hover : evOverflow t s = evLossWritten t s := by simp [evOverflow, evLossWritten, hf, hl]
  rw [deliverTo, hover]
  rfl

/-- The slot after a ring's next one is another slot. -/
theorem next_slot_ne (s : State) (t w : Nat) : (w + 1) % evSize s t ≠ w := by
  have hsize : 2 ≤ evSize s t := Nat.pow_le_pow_right (n := 2) (i := 1) (by decide) (le_trans (by decide) (le_max_left 6 _))
  intro h
  have hlt := Nat.mod_lt (w + 1) (by omega : evSize s t > 0)
  rcases Nat.lt_or_ge (w + 1) (evSize s t) with hw | hw
  · rw [Nat.mod_eq_of_lt hw] at h; omega
  · have hw1 : w + 1 = evSize s t := by omega
    rw [hw1, Nat.mod_self] at h
    omega

/-! ### The end of a step, once the events are delivered -/

/-- Memory is written and the pins follow: what the end of a step does after the events. -/
def sealStep (s : State) : State := { commitMem s with pins := pinsOf (commitMem s) }

theorem loadByte_sealStep {s : State} (h : s.memLost = 0) (x : Nat) : loadByte (sealStep s) x = loadByte s x :=
  loadByte_commitMem h x

theorem loadBytes_sealStep {s : State} (h : s.memLost = 0) (a len : Nat) :
    loadBytes (sealStep s) a len = loadBytes s a len := loadBytes_congr fun x _ _ => loadByte_sealStep h x

theorem evRing_sealStep (s : State) (t : Nat) : evRing (sealStep s) t = evRing s t := rfl

@[simp] theorem evWrite_memLost (e : Event) (t : Nat) (s : State) : (evWrite e t s).memLost = s.memLost :=
  evWrite_keeps (·.memLost) (fun _ _ _ => rfl) (fun _ _ _ => rfl) (fun _ _ => rfl) e t s

/-! ### A refused ARM (R65) -/

/-- Event 0x0111 of an ARM refused for the mode. -/
def armRefusal (s : State) (n : Nat) : Event := { stamp := s.ht, code := 0x0111, channel := n, arg := 1 }

/-- The state in which the event of a refused ARM is delivered. -/
def armRefused (s : State) (n : Nat) : State := { wr (chB n) R.CH_STATUS_ARM_REJECT 1 (begun s) with evq := [] }

/-- An ARM of channel `n` would be refused for the mode, which is not HOLD, and no event and no write to memory waits. -/
structure RefusedArm (s : State) (n : Nat) : Prop where
  evq : s.evq = []
  memq : s.memq = []
  memLost : s.memLost = 0
  off : s.chState n = .off
  free : isHeld s n = false
  mode : armMode s = false
  noHold : s.mode ≠ .hold

theorem chArm_refused {s : State} {n : Nat} (hoff : s.chState n = .off) (hfree : isHeld s n = false)
    (hmode : armMode s = false) :
    chArm false n s = raise 0x0111 n 1 (wr (chB n) R.CH_STATUS_ARM_REJECT 1 s) := by
  simp [chArm, hoff, hfree, hmode, armReason]

theorem mode_wr_armReject (s : State) (n v : Nat) : (wr (chB n) R.CH_STATUS_ARM_REJECT v s).mode = s.mode := by
  have hkey : R.CH_STATUS_ARM_REJECT.key (chB n) 0 ≠ R.HUB_MODE_MODE.key hubB 0 := by
    simp only [Fld.key, R.CH_STATUS_ARM_REJECT, R.HUB_MODE_MODE, chB, hubB]; omega
  rw [State.mode, State.mode, rd_wr_ne _ _ _ _ _ _ _ _ hkey]

/-- The step of a refused ARM: its one event goes to PF0's ring and to those of the tenants on the channel (R678). -/
theorem done_refusedArm {s : State} {n : Nat} (h : RefusedArm s n) : done (chArm false n) s =
    sealStep ((0 :: (tenantsOn s n).filter (fun t => 1 ≤ t && t ≤ 256)).foldl
      (fun u t => deliverTo (armRefusal s n) t u) (armRefused s n)) := by
  have hm : ¬ (wr (chB n) R.CH_STATUS_ARM_REJECT 1 (begun s)).mode = .hold := by
    rw [mode_wr_armReject]; exact h.noHold
  have hraise : raise 0x0111 n 1 (wr (chB n) R.CH_STATUS_ARM_REJECT 1 (begun s)) =
      { wr (chB n) R.CH_STATUS_ARM_REJECT 1 (begun s) with
        evq := [{ dest := 0 :: (tenantsOn s n).filter (fun t => 1 ≤ t && t ≤ 256), ev := armRefusal s n }] } := by
    rw [raise, raiseAt, if_neg hm]
    simp only [wr_evq, begun_evq, h.evq, List.nil_append]
    rfl
  rw [done, chArm_refused (s := begun s) h.off h.free h.mode, hraise]
  rfl

theorem done_refusedArm_alone {s : State} {n : Nat} (h : RefusedArm s n) (hten : tenantsOn s n = []) :
    done (chArm false n) s = sealStep (deliverTo (armRefusal s n) 0 (armRefused s n)) := by
  rw [done_refusedArm h, hten]
  rfl

/-- CH_STATUS.ARM_REJECT says why, whatever becomes of the event. -/
theorem rd_armReject_refusedArm {s : State} {n : Nat} (h : RefusedArm s n) :
    rd (done (chArm false n) s) (chB n) R.CH_STATUS_ARM_REJECT = 1 := by
  rw [rd_done, chArm_refused (s := begun s) h.off h.free h.mode, rd_raise, rd_wr_same]
  rfl

/-! ### A ring as the event finds it -/

/-- In `u` the ring of function `t`, its registers and the state of the memory are still those of `s`. -/
structure SameRing (u s : State) (t : Nat) : Prop where
  regs : AgreeOffChannels u s
  ring : evRing u t = evRing s t
  poison : u.poison = s.poison
  memLost : u.memLost = s.memLost

theorem armRefused_sameRing (s : State) (n : Fin 192) (t : Nat) : SameRing (armRefused s n) s t := by
  refine ⟨fun b f i hk => ?_, rfl, rfl, rfl⟩
  have hkey : R.CH_STATUS_ARM_REJECT.key (chB n) 0 ≠ f.key b i := by
    intro e
    rw [← e] at hk
    simp only [chKey, Fld.key, R.CH_STATUS_ARM_REJECT, chB] at hk
    omega
  have hregs : rd (armRefused s n) b f i = rd (wr (chB n) R.CH_STATUS_ARM_REJECT 1 (begun s)) b f i :=
    rd_of_regs rfl b f i
  exact hregs.trans (rd_wr_ne (begun s) _ _ _ _ _ _ _ hkey)

/-- An event that one ring drops does not touch another ring. -/
theorem SameRing.after_evDrop {u s : State} {t k : Nat} (h : SameRing u s t) (hk : k ≠ t) : SameRing (evDrop k u) s t :=
  ⟨h.regs, (evRing_setEvRing_ne _ _ hk).trans h.ring, h.poison, h.memLost⟩

section SameRing
variable {u s : State} {t : Nat} (h : SameRing u s t)
include h

theorem SameRing.evAddr_eq : evAddr u t = evAddr s t := by
  rw [evAddr, evAddr, evBase_congr h.regs, h.ring]

theorem SameRing.evFits_eq : evFits u t = evFits s t := evFits_congr h.regs h.ring

theorem SameRing.poisonedAny_eq (a len : Nat) : poisonedAny u a len = poisonedAny s a len :=
  poisonedAny_congr h.regs h.poison a len

theorem SameRing.rd_cfg {f : Fld} (hf : f.off + f.stride * 0 < 0x1000 ∧ f.lo + f.bstep * 0 < 32) :
    rd u (evRingB t) f = rd s (evRingB t) f := h.regs _ _ _ (not_chKey_evRing t 0 hf)

/-- The ring takes the event. -/
theorem SameRing.deliverTo_eq {e : Event} (hf : evFits s t = true) (hl : (evRing s t).lost = 0) :
    deliverTo e t u = evWrite e t u := deliverTo_of_fits (by rwa [h.ring]) (by rwa [h.evFits_eq])

/-- The ring drops the event. -/
theorem SameRing.deliverTo_eq_drop {e : Event} (hf : evFits s t = false) : deliverTo e t u = evDrop t u :=
  deliverTo_of_not_fits (by rwa [h.evFits_eq])

/-- The record stands at SLUICE_EV_WR once the step is over. -/
theorem SameRing.loadBytes_record (e : Event) (hlost : s.memLost = 0)
    (hp : poisonedAny s (evAddr s t) 16 = false) :
    loadBytes (sealStep (evWrite e t u)) (evAddr s t) 16 = e.record := by
  rw [loadBytes_sealStep (by rw [evWrite_memLost, h.memLost, hlost]), ← h.evAddr_eq]
  exact loadBytes_evWrite (by rwa [h.poisonedAny_eq, h.evAddr_eq])

theorem SameRing.wr_record (e : Event) :
    (evRing (sealStep (evWrite e t u)) t).wr = ((evRing s t).wr + 1) % evSize s t := by
  rw [evRing_sealStep, evWrite_ring_wr, h.ring, evSize_congr h.regs]

/-- Writing the record of lost events moves the ring on by one slot and leaves its registers. -/
theorem SameRing.evAddr_evLossWritten :
    evAddr (evLossWritten t u) t = evBase s t + 16 * (((evRing s t).wr + 1) % evSize s t) := by
  have hregs : AgreeOffChannels (evLossWritten t u) u :=
    .of_regs (evWrite_keeps (·.regs) (fun _ _ _ => rfl) (fun _ _ _ => rfl) (fun _ _ => rfl) ..)
  have hsize : evSize (setEvRing t { evRing u t with lost := 0 } u) t = evSize s t := evSize_congr h.regs t
  rw [evAddr, evBase_congr hregs, evBase_congr h.regs, evLossWritten, evWrite_ring_wr, evRing_setEvRing_same, hsize,
    h.ring]

theorem SameRing.loadBytes_evLossWritten (hp : poisonedAny s (evAddr s t) 16 = false) :
    loadBytes (evLossWritten t u) (evAddr s t) 16 =
      Event.record { stamp := u.ht, code := 0x0E02, channel := noCh, arg := (evRing s t).lost } := by
  have hregs : AgreeOffChannels (setEvRing t { evRing u t with lost := 0 } u) s := h.regs
  have haddr : evAddr (setEvRing t { evRing u t with lost := 0 } u) t = evAddr s t := by
    rw [evAddr, evRing_setEvRing_same, evBase_congr hregs, h.ring]
  rw [← haddr, ← h.ring]
  exact loadBytes_evWrite (by rwa [haddr, poisonedAny_congr hregs h.poison])

/-- With events lost before, the first record at SLUICE_EV_WR is 0x0E02 with their number, and what follows it stands in
another slot (R679). -/
theorem SameRing.loadBytes_lossRecord (e : Event) (hlost : s.memLost = 0) (hf : evFits s t = true)
    (hl : (evRing s t).lost ≠ 0) (hp : poisonedAny s (evAddr s t) 16 = false) :
    loadBytes (sealStep (deliverTo e t u)) (evAddr s t) 16 =
      Event.record { stamp := u.ht, code := 0x0E02, channel := noCh, arg := (evRing s t).lost } := by
  have hmem : (evLossWritten t u).memLost = 0 := (evWrite_memLost ..).trans (h.memLost.trans hlost)
  rw [deliverTo_after_loss (by rwa [h.ring]) (by rwa [h.evFits_eq]), ← h.loadBytes_evLossWritten hp]
  split
  · rw [loadBytes_sealStep (by rwa [evWrite_memLost])]
    refine loadBytes_congr fun x hlo hhi => loadByte_evWrite_of_not_mem e _ ?_
    have hne := next_slot_ne s t (evRing s t).wr
    rw [h.evAddr_evLossWritten]
    rw [evAddr] at hlo hhi
    omega
  · rw [loadBytes_sealStep (s := evDrop t (evLossWritten t u)) hmem]
    rfl

end SameRing

/-! ### The statement -/

/-- PF0's ring takes the event of a refused ARM. -/
theorem done_refusedArm_recorded {s : State} {n : Fin 192} (h : RefusedArm s n) (hten : tenantsOn s n = [])
    (hf : evFits s 0 = true) (hl : (evRing s 0).lost = 0) :
    done (chArm false n) s = sealStep (evWrite (armRefusal s n) 0 (armRefused s n)) := by
  rw [done_refusedArm_alone h hten, (armRefused_sameRing s n 0).deliverTo_eq hf hl]

theorem sealStep_mem {s : State} (hq : s.memq = []) (hl : s.memLost = 0) : (sealStep s).mem = s.mem := by
  simp [sealStep, commitMem, hq, hl, memDrop_zero]

/-- Settles O57: one event of a refused ARM, followed into PF0's ring, into a tenant's ring or to the hold log. -/
theorem eventsAreWrittenToTheRings : Obligations.EventsAreWrittenToTheRings := by
  unfold Obligations.EventsAreWrittenToTheRings
  refine ⟨?record, ?frame, ?signalled, ?counted, ?dropped, ?afterLoss, ?tenant, ?hold⟩
  case record =>
    intro s n hq hm hlost hoff hfree hmode hhold hten hf hl hp
    have h : RefusedArm s n := ⟨hq, hm, hlost, hoff, hfree, hmode, hhold⟩
    have hring := armRefused_sameRing s n 0
    refine leads_run (f := chArm false n) rfl ⟨?_, ?_, rd_armReject_refusedArm h⟩
    · rw [done_refusedArm_recorded h hten hf hl]
      exact hring.loadBytes_record (armRefusal s n) hlost hp
    · rw [done_refusedArm_recorded h hten hf hl]
      exact hring.wr_record (armRefusal s n)
  case frame =>
    intro s n hq hm hlost hoff hfree hmode hhold hten hf hl hp
    have h : RefusedArm s n := ⟨hq, hm, hlost, hoff, hfree, hmode, hhold⟩
    refine leads_run (f := chArm false n) rfl fun x hx => ?_
    rw [done_refusedArm_recorded h hten hf hl, loadByte_sealStep (by rw [evWrite_memLost]; exact hlost)]
    exact loadByte_evWrite_of_not_mem (armRefusal s n) (armRefused s n)
      (by rwa [(armRefused_sameRing s n 0).evAddr_eq])
  case signalled =>
    intro s n hq hm hlost hoff hfree hmode hhold hten hf hl hthr
    have h : RefusedArm s n := ⟨hq, hm, hlost, hoff, hfree, hmode, hhold⟩
    have hring := armRefused_sameRing s n 0
    obtain ⟨hout, hunsig⟩ := evWrite_signals (e := armRefusal s n) (t := 0) (s := armRefused s n)
      (by rwa [hring.rd_cfg (by decide), hring.ring])
    refine leads_run (f := chArm false n) rfl ?_
    rw [done_refusedArm_recorded h hten hf hl]
    rw [hring.rd_cfg (by decide)] at hout
    exact ⟨hout, hunsig⟩
  case counted =>
    intro s n hq hm hlost hoff hfree hmode hhold hten hf hl hthr
    have h : RefusedArm s n := ⟨hq, hm, hlost, hoff, hfree, hmode, hhold⟩
    have hring := armRefused_sameRing s n 0
    refine leads_run (f := chArm false n) rfl ?_
    rw [done_refusedArm_recorded h hten hf hl, evRing_sealStep,
      evWrite_counts (by rwa [hring.rd_cfg (by decide), hring.ring]), hring.ring]
  case dropped =>
    intro s n hq hm hlost hoff hfree hmode hhold hten hf
    have h : RefusedArm s n := ⟨hq, hm, hlost, hoff, hfree, hmode, hhold⟩
    refine leads_run (f := chArm false n) rfl ?_
    rw [done_refusedArm_alone h hten, (armRefused_sameRing s n 0).deliverTo_eq_drop hf, evRing_sealStep, evDrop,
      evRing_setEvRing_same]
    exact ⟨rfl, rfl, rfl, sealStep_mem hm hlost⟩
  case afterLoss =>
    intro s n hq hm hlost hoff hfree hmode hhold hten hf hl hp
    have h : RefusedArm s n := ⟨hq, hm, hlost, hoff, hfree, hmode, hhold⟩
    refine leads_run (f := chArm false n) rfl ?_
    rw [done_refusedArm_alone h hten]
    exact (armRefused_sameRing s n 0).loadBytes_lossRecord (armRefusal s n) hlost hf hl hp
  case tenant =>
    intro s n v hq hm hlost hoff hfree hmode hhold hv hten hf0 hf hl hp
    have h : RefusedArm s n := ⟨hq, hm, hlost, hoff, hfree, hmode, hhold⟩
    have hring : SameRing (evDrop 0 (armRefused s n)) s v := (armRefused_sameRing s n v).after_evDrop (by omega)
    have hroutes : (tenantsOn s n).filter (fun t => 1 ≤ t && t ≤ 256) = [v.val] := by
      rw [hten]; simp; omega
    have hdone : done (chArm false n) s = sealStep (evWrite (armRefusal s n) v (evDrop 0 (armRefused s n))) := by
      rw [done_refusedArm h, hroutes]
      simp only [List.foldl_cons, List.foldl_nil]
      rw [(armRefused_sameRing s n 0).deliverTo_eq_drop hf0, hring.deliverTo_eq hf hl]
    refine leads_run (f := chArm false n) rfl ?_
    rw [hdone]
    exact ⟨hring.loadBytes_record (armRefusal s n) hlost hp, hring.wr_record (armRefusal s n)⟩
  case hold =>
    intro s n hhold hoff hfree
    have hmode : armMode s = false := by simp [armMode, hhold]
    have hm : (wr (chB n) R.CH_STATUS_ARM_REJECT 1 (begun s)).mode = .hold := by rwa [mode_wr_armReject]
    refine leads_run (f := chArm false n) rfl ?_
    rw [done_hub, chArm_refused (s := begun s) hoff hfree hmode, raise, raiseAt, if_pos hm]
    rfl

end Sys2Proof.Scope
end

section
namespace Sys2Proof.Scope
open Sys2Proof Sys2Proof.Machine Sys2Proof.Safety

/-! ### What keeps the clock

Of everything that a tick does only `tickPass` moves device time and HT. The lemmas of this section say so of each
operation that a tick may reach, one after the other in the order in which they call each other; each follows from those
of the operations it is made of. -/

/-- The operation leaves device time and HT as they are. -/
@[simp] abbrev KeepsClock (f : State → State) : Prop := ∀ s, (f s).tick = s.tick ∧ (f s).ht = s.ht

theorem KeepsClock.comp {f g : State → State} (hf : KeepsClock f) (hg : KeepsClock g) :
    KeepsClock (fun s => f (g s)) :=
  fun s => ⟨(hf _).1.trans (hg s).1, (hf _).2.trans (hg s).2⟩

@[simp] theorem tick_ite (c : Prop) [Decidable c] (s t : State) :
    (if c then s else t).tick = if c then s.tick else t.tick := apply_ite ..
@[simp] theorem ht_ite (c : Prop) [Decidable c] (s t : State) :
    (if c then s else t).ht = if c then s.ht else t.ht := apply_ite ..

@[simp] theorem each_clock {α : Type} (f : α → State → State) (l : List α) (h : ∀ a, KeepsClock (f a)) :
    KeepsClock (each l f) := fun s =>
  ⟨each_keeps (·.tick) f (fun a s => (h a s).1) l s, each_keeps (·.ht) f (fun a s => (h a s).2) l s⟩

@[simp] theorem when_clock (c : Bool) (f : State → State) (h : KeepsClock f) : KeepsClock (when_ c f) := fun s =>
  ⟨when_keeps (·.tick) c f s (h s).1, when_keeps (·.ht) c f s (h s).2⟩

@[simp] theorem draw_clock (w : Nat) : KeepsClock (fun s => (draw w s).2) := fun _ => ⟨rfl, rfl⟩

/-! ### Small operations -/

@[simp] theorem bumpSnap_clock : KeepsClock bumpSnap := fun s => by simp [bumpSnap]
@[simp] theorem modRing_clock (t r : Nat) (f : RingSt → RingSt) : KeepsClock (modRing t r f) := fun _ => ⟨rfl, rfl⟩
@[simp] theorem modDie_clock (d : Nat) (f : DieSt → DieSt) : KeepsClock (modDie d f) := fun _ => ⟨rfl, rfl⟩
@[simp] theorem modDdr_clock (d m : Nat) (f : DdrSt → DdrSt) : KeepsClock (modDdr d m f) := fun _ => ⟨rfl, rfl⟩
@[simp] theorem modTime_clock (f : TimeSt → TimeSt) : KeepsClock (modTime f) := fun _ => ⟨rfl, rfl⟩
@[simp] theorem rateFlush_clock (k : Nat) : KeepsClock (rateFlush k) := fun s => by simp [rateFlush]

@[simp] theorem raiseRate_clock (key code ch arg lo w per : Nat) :
    KeepsClock (fun s => raiseRate key code ch arg lo w s per) := by
  intro s
  simp [raiseRate]

/-! ### Completions of commands (R646, R651) -/

@[simp] theorem stopRing_clock (t r why : Nat) : KeepsClock (stopRing t r why) := fun s => by simp [stopRing]
@[simp] theorem signalCq_clock (t r : Nat) : KeepsClock (signalCq t r) := fun s => by simp [signalCq]

@[simp] theorem writeCq_clock (t r : Nat) : KeepsClock (writeCq t r) := by
  intro s
  unfold writeCq
  split
  · exact ⟨rfl, rfl⟩
  · simp

@[simp] theorem flushCq_clock (t r : Nat) : KeepsClock (flushCq t r) := fun s => by simp [flushCq]
@[simp] theorem pushCq_clock (t r : Nat) (e : List Byte) : KeepsClock (pushCq t r e) := fun s => by simp [pushCq]
@[simp] theorem refreshOut_clock (t r : Nat) : KeepsClock (refreshOut t r) := fun s => by simp [refreshOut]

@[simp] theorem completeAt_clock (id code detail ht frames : Nat) :
    KeepsClock (completeAt id code detail ht frames) := by
  intro s
  unfold completeAt
  split <;> simp

@[simp] theorem complete_clock (id code detail : Nat) : KeepsClock (complete id code detail) :=
    fun s => by simp [complete]

@[simp] theorem complete?_clock (id : Option Nat) (code detail : Nat) : KeepsClock (complete? id code detail) := by
  intro s
  cases id <;> simp [complete?]

/-! ### Calibration and SAFE-DARK (R446, R748) -/

@[simp] theorem calEnd_clock : KeepsClock calEnd := fun s => by simp [calEnd]
@[simp] theorem calOutcome_clock (t : Nat) (o : CalOut) : KeepsClock (calOutcome t o) := fun s => by simp [calOutcome]
@[simp] theorem calStarve_clock (p : Nat → Bool) : KeepsClock (calStarve p) := fun s => by simp [calStarve]
@[simp] theorem calLeft_clock (n : Nat) : KeepsClock (calLeft n) := fun s => by simp [calLeft]
@[simp] theorem refreshSafeDark_clock (n : Nat) : KeepsClock (refreshSafeDark n) := fun s => by simp [refreshSafeDark]
@[simp] theorem setChState_clock (n : Nat) (x : ChState) : KeepsClock (setChState n x) :=
    fun s => by simp [setChState]

/-! ### Links (R565, R572, R585) -/

@[simp] theorem sendPark_clock (n : Nat) : KeepsClock (sendPark n) := fun s => by simp [sendPark]
@[simp] theorem sendPacket_clock (n : Nat) (o : Out) : KeepsClock (sendPacket n o) := fun s => by simp [sendPacket]
@[simp] theorem sendCfg_clock (n : Nat) (write : Bool) (addr : Nat) (words : List Nat) (count : Nat) (pass : Bool) :
    KeepsClock (sendCfg n write addr words count pass) :=
    fun s => by simp [sendCfg]
@[simp] theorem writeHead_clock (n addr v : Nat) : KeepsClock (writeHead n addr v) := fun s => by simp [writeHead]
@[simp] theorem writeFormat_clock (n : Nat) (m : Fmt) : KeepsClock (writeFormat n m) := fun s => by simp [writeFormat]

@[simp] theorem sendCancel_clock (n cause tc : Nat) : KeepsClock (fun s => (sendCancel n cause tc s).2) := by
  intro s
  by_cases hlink : linkTrained s n <;> simp [sendCancel, hlink]

/-! ### Flips and their demand (R207 to R216, R667, R673) -/

@[simp] theorem refreshSqueeze_clock (d : Nat) : KeepsClock (refreshSqueeze d) := fun s => by simp [refreshSqueeze]
@[simp] theorem refreshDie_clock (d : Nat) : KeepsClock (refreshDie d) := fun s => by simp [refreshDie]
@[simp] theorem refreshDemand_clock (n : Nat) : KeepsClock (refreshDemand n) := fun s => by simp [refreshDemand]
@[simp] theorem showEffect_clock (n : Nat) : KeepsClock (showEffect n) := fun s => by simp [showEffect]

@[simp] theorem settleScalers_clock (n : Nat) : KeepsClock (settleScalers n) := by
  intro s
  unfold settleScalers
  simp only [modCh_eq, setCh_tick, setCh_ht]
  refine each_clock _ _ (fun sc s => ?_) s
  split <;> simp

@[simp] theorem flipsDone_clock (n : Nat) : KeepsClock (flipsDone n) := fun s => by simp [flipsDone]
@[simp] theorem showLayer_clock (n k : Nat) : KeepsClock (showLayer n k) := fun s => by simp [showLayer]
@[simp] theorem putEffect_clock (n : Nat) (vals : List (Nat × Option Nat)) (bnd : Nat) (live : Bool) :
    KeepsClock (putEffect n vals bnd live) :=
    fun s => by simp [putEffect]
@[simp] theorem flipVals_clock (n : Nat) (vals : List (Nat × Option Nat)) (coefs : List CoefReq) (bnd : Nat)
    (live : Bool) :
    KeepsClock (flipVals n vals coefs bnd live) :=
    fun s => by simp [flipVals]
@[simp] theorem flipPre_clock (n bnd : Nat) (live : Bool) : KeepsClock (flipPre n bnd live) :=
    fun s => by simp [flipPre]
@[simp] theorem formatAtOnce_clock (n : Nat) (old : Fmt) : KeepsClock (formatAtOnce n old) :=
    fun s => by simp [formatAtOnce]
@[simp] theorem takePending_clock (n : Nat) (flip : Nat → Bool) (cf : CoefReq → Bool) :
    KeepsClock (fun s => (takePending n flip cf s).2.2) := fun _ => ⟨rfl, rfl⟩
@[simp] theorem applyFlip_clock (n : Nat) (flip : Nat → Bool) (cf : CoefReq → Bool) (bnd : Nat) (live : Bool) :
    KeepsClock (applyFlip n flip cf bnd live) :=
    fun s => by simp [applyFlip]
@[simp] theorem bumpCseq_clock (n : Nat) : KeepsClock (bumpCseq n) := fun s => by simp [bumpCseq]
@[simp] theorem commitNow_clock (n : Nat) (c : CommitReq) : KeepsClock (commitNow n c) := fun s => by simp [commitNow]

@[simp] theorem finishUpdatesWith_clock (n k at_ code detail late : Nat) :
    KeepsClock (finishUpdatesWith n k at_ code detail late) := by
  intro s
  unfold finishUpdatesWith
  refine (each_clock _ _ fun u s => ?_).comp (g := modCh n fun x => { x with updates := x.updates.filter (·.layer != k) })
    (by simp) s
  split <;> simp

@[simp] theorem finishUpdates_clock (n k at_ code late : Nat) : KeepsClock (finishUpdates n k at_ code late) :=
    fun s => by simp [finishUpdates]
@[simp] theorem updateNow_clock (n fn k : Nat) : KeepsClock (updateNow n fn k) := fun s => by simp [updateNow]
@[simp] theorem flipLeave_clock (n bnd : Nat) : KeepsClock (flipLeave n bnd) := fun s => by simp [flipLeave]

@[simp] theorem flushRefused_clock (n : Nat) : KeepsClock (flushRefused n) := by
  intro s
  unfold flushRefused
  split <;> simp

@[simp] theorem flushCommits_clock (n : Nat) : KeepsClock (flushCommits n) := by
  intro s
  unfold flushCommits
  cases hp : (s.chst n).preempt <;> simp [hp]

/-! ### Frames and withdrawals (R396, R407) -/

@[simp] theorem closeItems_clock (n fno : Nat) : KeepsClock (closeItems n fno) := fun s => by simp [closeItems]

@[simp] theorem closeFrame_clock (n fno : Nat) : KeepsClock (closeFrame n fno) := by
  intro s
  unfold closeFrame
  dsimp only
  split <;> split <;> simp

@[simp] theorem closeLast_clock (n : Nat) : KeepsClock (closeLast n) := fun s => by simp [closeLast]
@[simp] theorem withdraw_clock (n cause tc : Nat) (restage : Bool) (cmd : Option Nat) :
    KeepsClock (withdraw n cause tc restage cmd) :=
    fun s => by simp [withdraw]

/-! ### Substitutions (R755 to R758) -/

@[simp] theorem showOx_clock (d : Nat) : KeepsClock (showOx d) := fun s => by simp [showOx]
@[simp] theorem modOx_clock (d : Nat) (f : OxSt → OxSt) : KeepsClock (modOx d f) := fun s => by simp [modOx]
@[simp] theorem oxTake_clock (d k trig attempt p : Nat) : KeepsClock (oxTake d k trig attempt p) :=
    fun s => by simp [oxTake]
@[simp] theorem oxFailed_clock (d k why : Nat) : KeepsClock (oxFailed d k why) := fun s => by simp [oxFailed]
@[simp] theorem oxLoadClear_clock (d k : Nat) : KeepsClock (oxLoadClear d k) := fun s => by simp [oxLoadClear]

@[simp] theorem oxStart_clock (d k trig : Nat) : KeepsClock (oxStart d k trig) := by
  intro s
  unfold oxStart
  split <;> simp

@[simp] theorem oxNext_clock (d : Nat) : KeepsClock (oxNext d) := fun s => by simp [oxNext]
@[simp] theorem oxEnd_clock (d : Nat) : KeepsClock (oxEnd d) := fun s => by simp [oxEnd]
@[simp] theorem oxAbandon_clock (n : Nat) : KeepsClock (oxAbandon n) := fun s => by simp [oxAbandon]

/-! ### A channel that stops (R62, R329) -/

@[simp] theorem swapEffect_clock (n deferred : Nat) (bnd : Option Nat) : KeepsClock (swapEffect n deferred bnd) := by
  intro s
  unfold swapEffect
  dsimp only
  split <;> simp

@[simp] theorem swapAtOnce_clock (n : Nat) : KeepsClock (swapAtOnce n) := fun s => by simp [swapAtOnce]
@[simp] theorem idleChannel_clock (n : Nat) (park : Bool) : KeepsClock (idleChannel n park) :=
    fun s => by simp [idleChannel]

@[simp] theorem chFault_clock (n cause : Nat) : KeepsClock (chFault n cause) := by
  intro s
  unfold chFault
  dsimp only
  split
  · simp
  · split <;> simp
  · simp

/-! ### What waits for a substitution begins (R756) -/

@[simp] theorem oxHard_clock (d k : Nat) (spare : Option Nat) : KeepsClock (oxHard d k spare) := by
  intro s
  cases spare <;> simp [oxHard]

@[simp] theorem oxServe_clock (d : Nat) : KeepsClock (oxServe d) := by
  intro s
  unfold oxServe
  split
  · exact ⟨rfl, rfl⟩
  · split <;> simp

/-! ### Migration and errors of the memory (R619, R626 to R630) -/

@[simp] theorem recDirty_clock (k : Nat) : KeepsClock (recDirty k) := fun s => by simp [recDirty]
@[simp] theorem spareChanged_clock : KeepsClock spareChanged := fun s => by simp [spareChanged]
@[simp] theorem refreshRanksFree_clock (d : Nat) : KeepsClock (refreshRanksFree d) :=
    fun s => by simp [refreshRanksFree]
@[simp] theorem setDdrState_clock (d m v : Nat) : KeepsClock (setDdrState d m v) := fun s => by simp [setDdrState]
@[simp] theorem startMigration_clock (d m r : Nat) (asked : Bool) : KeepsClock (startMigration d m r asked) :=
    fun s => by simp [startMigration]
@[simp] theorem spareSpent_clock (d m : Nat) : KeepsClock (spareSpent d m) := fun s => by simp [spareSpent]
@[simp] theorem abandonMigration_clock (d m : Nat) : KeepsClock (abandonMigration d m) :=
    fun s => by simp [abandonMigration]
@[simp] theorem rankThreshold_clock (d m r : Nat) : KeepsClock (rankThreshold d m r) :=
    fun s => by simp [rankThreshold]
@[simp] theorem setBucket_clock (d m r v : Nat) : KeepsClock (setBucket d m r v) := fun s => by simp [setBucket]
@[simp] theorem recordErr_clock (l : Loc) (a r type dev : Nat) : KeepsClock (recordErr l a r type dev) :=
    fun s => by simp [recordErr]
@[simp] theorem recordRow_clock (l : Loc) (r : Nat) : KeepsClock (recordRow l r) := fun s => by simp [recordRow]
@[simp] theorem correctable_clock (a : Nat) (l : Loc) (r dev : Nat) : KeepsClock (correctable a l r dev) :=
    fun s => by simp [correctable]
@[simp] theorem firstUe_clock (d m r : Nat) : KeepsClock (firstUe d m r) := fun s => by simp [firstUe]
@[simp] theorem markPoison_clock (g : Nat) : KeepsClock (markPoison g) := fun s => by simp [markPoison]
@[simp] theorem uncorrectable_clock (g : Nat) (l : Loc) (r : Nat) : KeepsClock (uncorrectable g l r) :=
    fun s => by simp [uncorrectable]
@[simp] theorem poisonWritten_clock (g : Nat) (l : Loc) (r : Nat) (old : Bool) :
    KeepsClock (poisonWritten g l r old) :=
    fun s => by simp [poisonWritten]

/-! ### Accesses to memory (R603 to R607, R618) -/

@[simp] theorem initCheck_clock (d : Nat) : KeepsClock (initCheck d) := fun s => by simp [initCheck]
@[simp] theorem initFor_clock (g : Nat) : KeepsClock (initFor g) := fun s => by simp [initFor]
@[simp] theorem refreshWq_clock (d m : Nat) : KeepsClock (refreshWq d m) := fun s => by simp [refreshWq]
@[simp] theorem queueWrite_clock (g : Nat) (l : Loc) : KeepsClock (queueWrite g l) := fun s => by simp [queueWrite]
@[simp] theorem issueWrite_clock (g d m : Nat) : KeepsClock (issueWrite g d m) := fun s => by simp [issueWrite]
@[simp] theorem wake_clock (d m : Nat) : KeepsClock (wake d m) := fun s => by simp [wake]
@[simp] theorem touchPage_clock (l : Loc) (keep : Bool) : KeepsClock (touchPage l keep) :=
    fun s => by simp [touchPage]
@[simp] theorem access_clock (g : Nat) (l : Loc) (r : DramReq) : KeepsClock (access g l r) :=
    fun s => by simp [access]

@[simp] theorem readGranule_clock (r : DramReq) (i g : Nat) : KeepsClock (readGranule r i g) := by
  intro s
  unfold readGranule
  rcases errOf r i with _ | ⟨bad, dev, sp⟩
  · simp
  · cases bad <;> simp

@[simp] theorem writeGranule_clock (r : DramReq) (i g : Nat) : KeepsClock (writeGranule r i g) := by
  intro s
  unfold writeGranule
  rcases errOf r i with _ | ⟨bad, dev, sp⟩
  · simp
  · cases bad <;> simp

/-! ### Requests to memory (R599, R640, R698, R700) -/

@[simp] theorem outOfRange_clock (gs : List Nat) : KeepsClock (outOfRange gs) := by
  intro s
  unfold outOfRange
  split <;> simp

@[simp] theorem staleReply_clock (cls idx : Nat) : KeepsClock (staleReply cls idx) := fun s => by simp [staleReply]
@[simp] theorem apertureAnswer_clock (t a len : Nat) (bad : Bool) : KeepsClock (apertureAnswer t a len bad) :=
    fun s => by simp [apertureAnswer]
@[simp] theorem aptFault_clock (t : Nat) (write : Bool) : KeepsClock (aptFault t write) := fun s => by simp [aptFault]
@[simp] theorem aptRefuse_clock (t : Nat) (r : DramReq) : KeepsClock (aptRefuse t r) := fun s => by simp [aptRefuse]

@[simp] theorem doAccess_clock (r : DramReq) : KeepsClock (doAccess r) := by
  intro s
  unfold doAccess
  cases r.fn <;> simp

@[simp] theorem doRequest_clock (r : DramReq) : KeepsClock (doRequest r) := by
  intro s
  unfold doRequest
  split <;> simp

@[simp] theorem passSwitch_clock (r : DramReq) : KeepsClock (passSwitch r) := fun s => by simp [passSwitch]
@[simp] theorem serveReq_clock (r : DramReq) : KeepsClock (serveReq r) := fun s => by simp [serveReq]
@[simp] theorem serveDram_clock : KeepsClock serveDram := fun s => by simp [serveDram]

/-! ### The memory's and the other units' share of a tick -/

@[simp] theorem drainWq_clock (d m : Nat) : KeepsClock (drainWq d m) := by
  intro s
  unfold drainWq
  split <;> simp

@[simp] theorem closePages_clock (d m : Nat) : KeepsClock (closePages d m) := fun s => by simp [closePages]
@[simp] theorem ddrTick_clock : KeepsClock ddrTick := fun s => by simp [ddrTick]
@[simp] theorem flushRates_clock : KeepsClock flushRates := fun s => by simp [flushRates]

@[simp] theorem stopLamps_clock (n : Nat) : KeepsClock (stopLamps n) := by
  intro s
  unfold stopLamps
  split <;> simp

@[simp] theorem calPlace_clock (k : Nat) (x : CalTarget) : KeepsClock (calPlace k x) := fun s => by simp [calPlace]
@[simp] theorem calPlaces_clock : KeepsClock calPlaces := fun s => by simp [calPlaces]
@[simp] theorem flrSweep_clock : KeepsClock flrSweep := fun s => by simp [flrSweep]

/-! ### The tick -/

@[simp] theorem advanceHt_tick (k : Nat) (s : State) : (advanceHt k s).tick = s.tick := rfl
@[simp] theorem advanceHt_ht (k : Nat) (s : State) : (advanceHt k s).ht = min (s.ht + k) (2 ^ 64 - 1) := rfl

theorem tickPass_tick (s : State) : (tickPass s).tick = s.tick + 1 := by
  unfold tickPass
  simp

/-- HT advances by one tick where the servo has nothing to take out, and else by none, one or two (R7, R133). -/
theorem tickPass_ht (s : State) : (s.time.slew = 0 → (tickPass s).ht = min (s.ht + 1) (2 ^ 64 - 1)) ∧
    ((tickPass s).ht = s.ht ∨ ∃ k ∈ [1, 2], (tickPass s).ht = min (s.ht + k) (2 ^ 64 - 1)) := by
  unfold tickPass
  dsimp only
  rw [(each_clock _ _ (fun k s => by simp) _).2]
  split
  · next hslew =>
    refine ⟨fun h0 => by simp [h0] at hslew, ?_⟩
    split
    · exact .inr ⟨1, by simp, rfl⟩
    · split
      · exact .inr ⟨2, by simp, rfl⟩
      · exact .inl rfl
  · exact ⟨fun _ => rfl, .inr ⟨1, by simp, rfl⟩⟩

/-- Of the parts of a tick only the first moves the clock. -/
theorem tickEffect_clock (s : State) :
    (tickEffect s).tick = (tickPass s).tick ∧ (tickEffect s).ht = (tickPass s).ht := by
  unfold tickEffect
  simp

/-- Settles O2: the tick's first part moves the clock, and everything else that a tick does keeps it. -/
theorem emptyQueueIsATick : Obligations.EmptyQueueIsATick := by
  unfold Obligations.EmptyQueueIsATick
  intro s hq
  have hstep : step s = .next (done tickEffect s) := by simp [step, hq, idle, run]
  have htick : (done tickEffect s).tick = s.tick + 1 := by
    rw [done_tick, (tickEffect_clock _).1, tickPass_tick, begun_tick]
  have hht : (done tickEffect s).ht = (tickPass (begun s)).ht := by rw [done_ht, (tickEffect_clock _).2]
  obtain ⟨hsteady, hmove⟩ := tickPass_ht (begun s)
  rw [begun_time, begun_ht] at hsteady
  rw [begun_ht] at hmove
  refine ⟨_, hstep, htick, (done_pending ..).trans hq, fun hroom => ⟨fun h0 => ?_, ?_⟩, fun hlt => ?_⟩
  · rw [hht, hsteady h0]
    omega
  · rw [hht]
    rcases hmove with h | ⟨k, hk, h⟩
    · omega
    · have hk2 : k = 1 ∨ k = 2 := by simpa using hk
      omega
  · rw [hht]
    rcases hmove with h | ⟨k, -, h⟩ <;> omega

end Sys2Proof.Scope
end

section
/-!
PROOFS. Statements of the family 02_modes_power_hold: what the commands of modes, power and channels answer.
-/

namespace Sys2Proof.PowerModes
open Sys2Proof Sys2Proof.Machine Sys2Proof.Safety

/-! ### The reset state -/

/-- Settles O7: every table of the reset state is empty, so every field reads its reset value. -/
theorem resetLeavesTheDeviceDarkAndDormant : Obligations.ResetLeavesTheDeviceDarkAndDormant := by
  unfold Obligations.ResetLeavesTheDeviceDarkAndDormant
  exact ⟨rfl, rfl, rfl, fun _ => ⟨rfl, rfl, rfl⟩, fun _ _ _ => rfl, rfl, rfl⟩

/-! ### Commands that stop -/

/-- Every command is one effect in the frame `run`, behind the check of its operands. -/
theorem exec_eq_guarded (c : Instr) (s : State) : ∃ f, exec c s = guarded c.wellFormed f s := by
  cases c
  case vNop e | vHalt e | vLdi e | vMov e | vAdd e | vSub e | vAnd e | vOr e | vXor e | vShl e | vShr e | vCmp e | vBr e
      | vBrc e | vCall e | vRet e | vLd e | vSt e | vSig e => cases e <;> exact ⟨_, rfl⟩
  all_goals exact ⟨_, rfl⟩

/-- Settles O6: the check of the operands is the only way in which a command stops. -/
theorem commandsStopOnlyOnIllFormedOperands : Obligations.CommandsStopOnlyOnIllFormedOperands := by
  unfold Obligations.CommandsStopOnlyOnIllFormedOperands
  intro c s
  obtain ⟨f, hf⟩ := exec_eq_guarded c s
  rw [hf]
  exact ⟨fun h => by rw [h]; exact ⟨_, rfl⟩, fun h => by rw [h]; rfl⟩

/-! ### Mode requests that are rejected (R841) -/

theorem reqReason_tripped {s : State} (mgmt : Bool) (m : Nat) (h : s.mode = .tripped) : reqReason s mgmt m = 5 := by
  simp [reqReason, h]

theorem reqReason_notReady {s : State} (mgmt : Bool) (m : Nat) (ht : s.mode ≠ .tripped)
    (hr : rdB s hubB R.HUB_MODE_READY = false) : reqReason s mgmt m = 2 := by
  simp [reqReason, ht, hr]

section Ready
variable {s : State} (mgmt : Bool) (m : Nat) (ht : s.mode ≠ .tripped) (hr : rdB s hubB R.HUB_MODE_READY = true)
include ht hr

theorem reqReason_unrequestable (hm : 2 < m) : reqReason s mgmt m = 4 := by
  simp [reqReason, ht, hr, hm]

theorem reqReason_overridden (ho : overridden s mgmt m = true) : reqReason s mgmt m = 4 := by
  simp [reqReason, ht, hr, ho]

theorem reqReason_pending (hm : m ≤ 2) (ho : overridden s mgmt m = false)
    (hp : rdB s hubB R.HUB_MODE_REQ_PENDING = true) : reqReason s mgmt m = 1 := by
  simp [reqReason, ht, hr, ho, hp, hm]

end Ready

/-- No standing request is more restrictive than DORMANT. -/
theorem overridden_dormant (s : State) (mgmt : Bool) : overridden s mgmt 0 = false := by
  simp [overridden]

theorem reqReason_show_htInvalid {s : State} (mgmt : Bool) (hm : s.mode = .dormant ∨ s.mode = .service)
    (hr : rdB s hubB R.HUB_MODE_READY = true) (ho : overridden s mgmt 2 = false)
    (hp : rdB s hubB R.HUB_MODE_REQ_PENDING = false) (hv : htValid s = false) : reqReason s mgmt 2 = 3 := by
  rcases hm with hm | hm <;> simp [reqReason, hm, hr, ho, hp, hv]

/-- A request with a reason against it raises event 0x0102, and does no more unless it is an override (R790). -/
theorem modeReq_rejected {s : State} {mgmt : Bool} {m r : Nat} (hh : s.mode ≠ .hold) (hr : reqReason s mgmt m = r)
    (h0 : r ≠ 0) (ho : r = 4 → overridden s mgmt m = false) : modeReq mgmt m s = raise 0x0102 noCh (m + 256 * r) s := by
  subst hr
  by_cases h4 : reqReason s mgmt m = 4
  · have hov : overridden (raise 0x0102 noCh (m + 256 * 4) s) mgmt m = false := by
      rw [← ho h4, overridden, overridden, standing, standing, rd_raise, rd_raise]
    simp [modeReq, hh, h4, hov]
  · simp [modeReq, hh, h0, h4]

theorem done_modeReq_rejected {s : State} {mgmt : Bool} {m r : Nat} (hh : s.mode ≠ .hold) (hr : reqReason s mgmt m = r)
    (h0 : r ≠ 0) (ho : r = 4 → overridden s mgmt m = false) :
    done (modeReq mgmt m) s = done (raise 0x0102 noCh (m + 256 * r)) s := by
  rw [done, modeReq_rejected (s := begun s) hh hr h0 ho]
  rfl

/-- Settles O12: in each case the reasons that come before the one given do not apply. -/
theorem modeRequestsAreRejectedInOrder : Obligations.ModeRequestsAreRejectedInOrder := by
  unfold Obligations.ModeRequestsAreRejectedInOrder
  refine ⟨?unrequestable, ?tripped, ?notReady, ?pending, ?htInvalid, ?overridden⟩
  case unrequestable =>
    intro s b m hm hh
    have hover : overridden s b m = false := by simp [overridden]; omega
    have hexec : exec (.modeReqUnrequestable b m) s = .next (done (modeReq b m) s) := by
      simp [exec, execModeReqUnrequestable, guarded, modeReqOk, hm, run]
    rw [hexec]
    split
    · next ht => rw [done_modeReq_rejected hh (reqReason_tripped b m ht) (by decide) fun _ => hover]
    · next ht =>
      split
      · next hr => rw [done_modeReq_rejected hh (reqReason_notReady b m ht hr) (by decide) fun _ => hover]
      · next hr =>
        rw [done_modeReq_rejected hh (reqReason_unrequestable b m ht (by simpa using hr) hm) (by decide) fun _ => hover]
  case tripped =>
    intro s b ht
    exact congrArg _ (done_modeReq_rejected (by simp [ht]) (reqReason_tripped b 2 ht) (by decide) (by simp))
  case notReady =>
    intro s b hh ht hr
    exact congrArg _ (done_modeReq_rejected hh (reqReason_notReady b 1 ht hr) (by decide) (by simp))
  case pending =>
    intro s b hh ht hr hp
    exact congrArg _ (done_modeReq_rejected hh
      (reqReason_pending b 0 ht hr (by decide) (overridden_dormant s b) hp) (by decide) (by simp))
  case htInvalid =>
    intro s b hm hr ho hp hv
    have hh : s.mode ≠ .hold := by rcases hm with hm | hm <;> simp [hm]
    exact congrArg _ (done_modeReq_rejected hh (reqReason_show_htInvalid b hm hr ho hp hv) (by decide) (by simp))
  case overridden =>
    exact fun s b m ht hr ho => reqReason_overridden b m ht hr ho

/-! ### Channel commands that are not valid (R70) -/

theorem chArm_ignored {mgmt : Bool} {n : Nat} {s : State} (h : s.chState n ≠ .off) : chArm mgmt n s = cmdIgnored n s := by
  simp [chArm, h]

theorem chDisarm_ignored {n : Nat} {s : State} (h : s.chState n ≠ .armed) : chDisarm n s = cmdIgnored n s := by
  simp [chDisarm, h]

theorem chStop_ignored {n : Nat} {s : State} (h : s.chState n ≠ .running) : chStop n s = cmdIgnored n s := by
  simp [chStop, h]

theorem chClear_ignored {n : Nat} {s : State} (h : s.chState n ≠ .faulted) : chClear n s = cmdIgnored n s := by
  simp [chClear, h]

/-- A command whose effect is that of `g` in the state in which it starts. -/
theorem exec_of_effect {c : Instr} {s : State} {f g : State → State} (hc : exec c s = run f s)
    (h : f (begun s) = g (begun s)) : exec c s = .next (done g s) := by
  rw [hc, run, done, done, h]

/-- In a mode that arms no channel the first reason of R65 is the mode. -/
theorem chArm_rejected_mode {mgmt : Bool} {n : Nat} {s : State} (hoff : s.chState n = .off) (hfree : isHeld s n = false)
    (hmode : armMode s = false) : chArm mgmt n s = raise 0x0111 n 1 (wr (chB n) R.CH_STATUS_ARM_REJECT 1 s) := by
  simp [chArm, hoff, hfree, hmode, armReason]

/-- ARM_REJECT is no other field of CH_STATUS. -/
theorem rd_chStatus_armReject {f : Fld} (n v : Nat) (s : State) (h : f.off = 4 ∧ f.lo ≠ 4 ∧ f.lo < 32) :
    rd (wr (chB n) R.CH_STATUS_ARM_REJECT v s) (chB n) f = rd s (chB n) f := by
  refine rd_wr_ne _ _ _ _ _ _ _ _ ?_
  simp only [Fld.key, R.CH_STATUS_ARM_REJECT]
  omega

/-- Settles O19: in a state for which it is not valid a command is CMD_IGNORED set, and a rejected ARM is no such command. -/
theorem invalidChannelCommandsOnlySetCmdIgnored : Obligations.InvalidChannelCommandsOnlySetCmdIgnored := by
  unfold Obligations.InvalidChannelCommandsOnlySetCmdIgnored
  refine ⟨fun s n b h => exec_of_effect rfl (chArm_ignored (s := begun s) h),
    fun s n h => exec_of_effect rfl (chDisarm_ignored (s := begun s) h),
    fun s n h => exec_of_effect rfl (chStop_ignored (s := begun s) h),
    fun s n h => exec_of_effect rfl (chClear_ignored (s := begun s) h), fun _ _ => rfl, ?_⟩
  intro s n b hoff hfree hmode
  have hrd : ∀ f, rd (done (chArm b n) s) (chB n) f = rd (wr (chB n) R.CH_STATUS_ARM_REJECT 1 (begun s)) (chB n) f := by
    intro f
    rw [rd_done, chArm_rejected_mode (s := begun s) hoff hfree hmode, rd_raise]
  refine leads_run rfl ⟨?_, ?_, ?_⟩
  · rw [State.chState, hrd, rd_chStatus_armReject _ _ _ (by decide)]
    exact hoff
  · rw [hrd, rd_wr_same]; rfl
  · rw [rdB, hrd, rd_chStatus_armReject _ _ _ (by decide)]; rfl

end Sys2Proof.PowerModes
end

section
/-!
PROOFS. What the operations of the machine leave alone: the registers that only mode changes, hand-overs, channel
commands and die resets write, and the hub's own state.
-/

namespace Sys2Proof.PowerModes
open Sys2Proof Sys2Proof.Machine Sys2Proof.Safety Sys2Proof.Scope

/-! ### The shielded registers

The mode word of the hub, the status word of the hold block, the state of each channel with its faults, and the reset and
link words of each die: all but a few operations leave these alone, wherever their own blocks lie. -/

/-- The key is one of HUB_MODE, HOLD_STATUS, CH_STATUS below SAFE_DARK but for its two flags, SEQ_STATUS.FAULT,
HUB_DIE_CTRL, HUB_DIE_STATUS or HUB_D2D_STATUS below EXHAUSTED. -/
def shielded (k : Nat) : Bool :=
  let a := k / 32
  let l := k % 32
  a == 0x10 || a == 0x90000
    || (0x1000000 ≤ a && a < 0x1300000 && (a % 0x4000 == 4 && (l < 16 || l == 18) || a % 0x4000 == 0x1004 && l == 8))
    || (0x2000000 ≤ a && a < 0x2400000
        && (a % 0x100000 == 0 && l < 1 || a % 0x100000 == 4 && l < 4 || a % 0x100000 == 0x200 && l < 16))

theorem not_shielded_iff (k : Nat) : shielded k = false ↔ k / 32 ≠ 0x10 ∧ k / 32 ≠ 0x90000
    ∧ ¬ (0x1000000 ≤ k / 32 ∧ k / 32 < 0x1300000
        ∧ (k / 32 % 0x4000 = 4 ∧ (k % 32 < 16 ∨ k % 32 = 18) ∨ k / 32 % 0x4000 = 0x1004 ∧ k % 32 = 8))
    ∧ ¬ (0x2000000 ≤ k / 32 ∧ k / 32 < 0x2400000
        ∧ (k / 32 % 0x100000 = 0 ∧ k % 32 < 1 ∨ k / 32 % 0x100000 = 4 ∧ k % 32 < 4
            ∨ k / 32 % 0x100000 = 0x200 ∧ k % 32 < 16)) := by
  simp only [shielded, Bool.or_eq_false_iff, Bool.and_eq_false_iff, beq_eq_false_iff_ne, decide_eq_false_iff_not]
  omega

/-- What the register table holds under the shielded keys. -/
def shieldedRegs (t : Tbl Nat) : {k // shielded k = true} → Nat → Nat := fun k d => tget d k t

theorem rd_of_shieldedRegs {s t : State} (h : shieldedRegs t.regs = shieldedRegs s.regs) {b : Nat} {f : Fld} {i : Nat}
    (hk : shielded (f.key b i) = true) : rd t b f i = rd s b f i :=
  congrFun (congrFun h ⟨_, hk⟩) _

theorem shieldedRegs_tset (d k v : Nat) (t : Tbl Nat) (h : shielded k = false) :
    shieldedRegs (tset d k v t) = shieldedRegs t := by
  funext ⟨j, hj⟩ e
  refine tget_tset_ne _ _ _ _ _ _ (fun hkj => ?_)
  rw [hkj, hj] at h
  exact Bool.noConfusion h

@[simp] theorem shieldedRegs_wr (b : Nat) (f : Fld) (v : Nat) (s : State) (i : Nat) (h : shielded (f.key b i) = false) :
    shieldedRegs (wr b f v s i).regs = shieldedRegs s.regs := shieldedRegs_tset _ _ _ _ h
@[simp] theorem shieldedRegs_wrB (b : Nat) (f : Fld) (v : Bool) (s : State) (i : Nat)
    (h : shielded (f.key b i) = false) :
    shieldedRegs (wrB b f v s i).regs = shieldedRegs s.regs := shieldedRegs_tset _ _ _ _ h
@[simp] theorem shieldedRegs_bump (b : Nat) (f : Fld) (s : State) (k i : Nat) (h : shielded (f.key b i) = false) :
    shieldedRegs (bump b f s k i).regs = shieldedRegs s.regs := shieldedRegs_tset _ _ _ _ h

/-! #### Which fields lie elsewhere -/

/-- In a block at a multiple of `m` the field lies neither in the first word of a group of `m` bytes nor in the second. -/
def offWords (m : Nat) (f : Fld) (i : Nat) : Bool := f.loAt i < 32 && f.offAt i % m != 0 && f.offAt i % m != 4

theorem key_div (f : Fld) (b i : Nat) (h : f.loAt i < 32) : f.key b i / 32 = b + f.offAt i := by
  simp only [Fld.key, Fld.offAt, Fld.loAt] at *
  omega

theorem key_mod (f : Fld) (b i : Nat) (h : f.loAt i < 32) : f.key b i % 32 = f.loAt i := by
  simp only [Fld.key, Fld.loAt] at *
  omega

theorem not_shielded_of_offWords32 (b : Nat) (f : Fld) (i : Nat) (hb : b % 0x20 = 0) (h0 : 0x20 ≤ b)
    (hf : offWords 0x20 f i = true) : shielded (f.key b i) = false := by
  simp only [offWords, Bool.and_eq_true, decide_eq_true_eq, bne_iff_ne] at hf
  obtain ⟨⟨hl, h1⟩, h2⟩ := hf
  rw [not_shielded_iff, key_div f b i hl, key_mod f b i hl]
  omega

theorem not_shielded_of_offWords64 (b : Nat) (f : Fld) (i : Nat) (hb : b % 0x40 = 0) (h0 : 0x40 ≤ b)
    (hf : offWords 0x40 f i = true) : shielded (f.key b i) = false := by
  simp only [offWords, Bool.and_eq_true, decide_eq_true_eq, bne_iff_ne] at hf
  obtain ⟨⟨hl, h1⟩, h2⟩ := hf
  rw [not_shielded_iff, key_div f b i hl, key_mod f b i hl]
  omega

/-- Above the last Reach die nothing is shielded: the blocks of the host side. -/
theorem not_shielded_of_high (b : Nat) (f : Fld) (i : Nat) (h0 : 0x2400000 ≤ b) : shielded (f.key b i) = false := by
  have ha : 0x2400000 ≤ f.key b i / 32 := by
    simp only [Fld.key]
    omega
  rw [not_shielded_iff]
  omega

/-- A field of a channel's block that is no shielded one, and that falls on none of a die either. -/
def offChannelWords (f : Fld) (i : Nat) : Bool :=
  f.loAt i < 32 && f.offAt i < 0x4000 && f.offAt i != 0 && f.offAt i != 0x200
    && (f.offAt i != 4 || 16 ≤ f.loAt i && f.loAt i != 18) && (f.offAt i != 0x1004 || f.loAt i != 8)

theorem not_shielded_chB (n : Nat) (f : Fld) (i : Nat) (hf : offChannelWords f i = true) :
    shielded (f.key (chB n) i) = false := by
  simp only [offChannelWords, Bool.and_eq_true, Bool.or_eq_true, decide_eq_true_eq, bne_iff_ne] at hf
  obtain ⟨⟨⟨⟨⟨hl, h1⟩, h2⟩, h3⟩, h4⟩, h5⟩ := hf
  rw [not_shielded_iff, key_div f _ i hl, key_mod f _ i hl, chB]
  omega

theorem strB_mod (n k : Nat) : strB n k % 0x20 = 0 ∧ 0x20 ≤ strB n k := by simp only [strB, chB]; omega
theorem compB_mod (n k : Nat) : compB n k % 0x40 = 0 ∧ 0x40 ≤ compB n k := by simp only [compB, chB]; omega
theorem slDieB_mod (d : Nat) : slDieB d % 0x40 = 0 ∧ 0x40 ≤ slDieB d := by simp only [slDieB]; omega
theorem oxbB_mod (d : Nat) : oxbB d % 0x40 = 0 ∧ 0x40 ≤ oxbB d := by simp only [oxbB, dieB]; omega
theorem ephyB_mod (n : Nat) : ephyB n % 0x40 = 0 ∧ 0x40 ≤ ephyB n := by simp only [ephyB, dieB]; omega
theorem slB_mod (k : Nat) : slB k % 0x40 = 0 ∧ 0x40 ≤ slB k := by
  simp only [slB, slotDie, slotCore, slotB, clB, dieB]; omega
theorem crB_mod (c : Nat) : crB c % 0x40 = 0 ∧ 0x40 ≤ crB c := by simp only [crB, coreB, clB, dieB]; omega
theorem ddrB_mod (d m : Nat) : ddrB d m % 0x40 = 0 ∧ 0x40 ≤ ddrB d m := by simp only [ddrB, dieB]; omega
theorem ddrDieB_mod (d : Nat) : ddrDieB d % 0x40 = 0 ∧ 0x40 ≤ ddrDieB d := by simp only [ddrDieB, dieB]; omega
theorem edB_mod (e : Nat) : edB e % 0x40 = 0 ∧ 0x40 ≤ edB e := by simp only [edB, eddyB, dieB]; omega

theorem not_shielded_strB (n k : Nat) (f : Fld) (i : Nat) (hf : offWords 0x20 f i = true) :
    shielded (f.key (strB n k) i) = false := not_shielded_of_offWords32 _ _ _ (strB_mod ..).1 (strB_mod ..).2 hf
theorem not_shielded_compB (n k : Nat) (f : Fld) (i : Nat) (hf : offWords 0x40 f i = true) :
    shielded (f.key (compB n k) i) = false := not_shielded_of_offWords64 _ _ _ (compB_mod ..).1 (compB_mod ..).2 hf
theorem not_shielded_slDieB (d : Nat) (f : Fld) (i : Nat) (hf : offWords 0x40 f i = true) :
    shielded (f.key (slDieB d) i) = false := not_shielded_of_offWords64 _ _ _ (slDieB_mod ..).1 (slDieB_mod ..).2 hf
theorem not_shielded_oxbB (d : Nat) (f : Fld) (i : Nat) (hf : offWords 0x40 f i = true) :
    shielded (f.key (oxbB d) i) = false := not_shielded_of_offWords64 _ _ _ (oxbB_mod ..).1 (oxbB_mod ..).2 hf
theorem not_shielded_ephyB (n : Nat) (f : Fld) (i : Nat) (hf : offWords 0x40 f i = true) :
    shielded (f.key (ephyB n) i) = false := not_shielded_of_offWords64 _ _ _ (ephyB_mod ..).1 (ephyB_mod ..).2 hf
theorem not_shielded_slB (k : Nat) (f : Fld) (i : Nat) (hf : offWords 0x40 f i = true) :
    shielded (f.key (slB k) i) = false := not_shielded_of_offWords64 _ _ _ (slB_mod ..).1 (slB_mod ..).2 hf
theorem not_shielded_crB (c : Nat) (f : Fld) (i : Nat) (hf : offWords 0x40 f i = true) :
    shielded (f.key (crB c) i) = false := not_shielded_of_offWords64 _ _ _ (crB_mod ..).1 (crB_mod ..).2 hf
theorem not_shielded_ddrB (d m : Nat) (f : Fld) (i : Nat) (hf : offWords 0x40 f i = true) :
    shielded (f.key (ddrB d m) i) = false := not_shielded_of_offWords64 _ _ _ (ddrB_mod ..).1 (ddrB_mod ..).2 hf
theorem not_shielded_ddrDieB (d : Nat) (f : Fld) (i : Nat) (hf : f.loAt i < 32 ∧ f.offAt i < 0x1000) :
    shielded (f.key (ddrDieB d) i) = false := by
  obtain ⟨h, ho⟩ := hf
  rw [not_shielded_iff, key_div f _ i h, ddrDieB, dieB]
  omega
theorem not_shielded_edB (e : Nat) (f : Fld) (i : Nat) (hf : offWords 0x40 f i = true) :
    shielded (f.key (edB e) i) = false := not_shielded_of_offWords64 _ _ _ (edB_mod ..).1 (edB_mod ..).2 hf

@[simp] theorem not_shielded_ringB (t r : Nat) (f : Fld) (i : Nat) : shielded (f.key (ringB t r) i) = false :=
  not_shielded_of_high _ _ _ (by simp only [ringB, vfB]; split <;> omega)
@[simp] theorem not_shielded_tenB (t : Nat) (f : Fld) (i : Nat) : shielded (f.key (tenB t) i) = false :=
  not_shielded_of_high _ _ _ (by simp only [tenB]; omega)
@[simp] theorem not_shielded_aptB (t : Nat) (f : Fld) (i : Nat) : shielded (f.key (aptB t) i) = false :=
  not_shielded_of_high _ _ _ (by simp only [aptB, vfB]; split <;> omega)
@[simp] theorem not_shielded_channel (n : Nat) :
    shielded (R.CH_KIND_HEAD_KIND.key (chB n) 0) = false ∧ shielded (R.CH_KIND_KIND_MISMATCH.key (chB n) 0) = false ∧
    shielded (R.CH_STATUS_SAFE_DARK.key (chB n) 0) = false ∧ shielded (R.COMP_CSEQ_SEQ.key (chB n) 0) = false ∧
    shielded (R.EPROT_STATUS_IDENTIFIED.key (chB n) 0) = false ∧
    shielded (R.EPROT_STATUS_SCHED.key (chB n) 0) = false ∧ shielded (R.FETCH_BUF_USED_BYTES.key (chB n) 0) = false ∧
    shielded (R.FETCH_STATUS_BUF_REFUSED.key (chB n) 0) = false ∧
    shielded (R.EPROT_STATUS_REJECT.key (chB n) 0) = false := by
  and_intros <;> exact not_shielded_chB _ _ _ (by decide)
@[simp] theorem not_shielded_lamps (n : Nat) :
    shielded (R.LAMP_CUT_CNT_COUNT.key (chB n) 0) = false ∧
    shielded (R.LAMP_RILL_ABORT_CNT_COUNT.key (chB n) 0) = false ∧
    shielded (R.LAMP_RILL_FRAME_CNT_COUNT.key (chB n) 0) = false ∧
    shielded (R.LAMP_STATUS_CMD_PENDING.key (chB n) 0) = false ∧ shielded (R.LAMP_STATUS_CUT.key (chB n) 0) = false := by
  and_intros <;> exact not_shielded_chB _ _ _ (by decide)
@[simp] theorem not_shielded_motion (n : Nat) :
    shielded (R.MOVE_SILK_CNT_COUNT.key (chB n) 0) = false ∧ shielded (R.MOVE_STATUS_GRID.key (chB n) 0) = false ∧
    shielded (R.MOVE_STATUS_PRED.key (chB n) 0) = false ∧ shielded (R.MOVE_STATUS_SSTATE.key (chB n) 0) = false ∧
    shielded (R.MOVE_STATUS_S_ILK.key (chB n) 0) = false ∧ shielded (R.MOVE_STATUS_WSTATE.key (chB n) 0) = false ∧
    shielded (R.MOVE_STATUS_W_ILK.key (chB n) 0) = false ∧ shielded (R.MOVE_WIDX_HI_HT.key (chB n) 0) = false ∧
    shielded (R.MOVE_WIDX_LO_HT.key (chB n) 0) = false ∧ shielded (R.MOVE_WILK_CNT_COUNT.key (chB n) 0) = false ∧
    shielded (R.MOVE_WPERIOD_PERIOD.key (chB n) 0) = false := by
  and_intros <;> exact not_shielded_chB _ _ _ (by decide)
@[simp] theorem not_shielded_planes (n : Nat) :
    shielded (R.PLANE_DRIFT_BIT.key (chB n) 0) = false ∧ shielded (R.PLANE_DRIFT_CNT_COUNT.key (chB n) 0) = false ∧
    shielded (R.PLANE_DRIFT_DELTA.key (chB n) 0) = false ∧ shielded (R.PLANE_DRIFT_PRI.key (chB n) 0) = false ∧
    shielded (R.PLANE_POOL_SIZE_SIZE.key (chB n) 0) = false ∧ shielded (R.PLANE_STATUS_DRIFT.key (chB n) 0) = false ∧
    shielded (R.PLANE_STATUS_DRIFT_UNCORR.key (chB n) 0) = false ∧
    shielded (R.PLANE_STATUS_FMT_DARK.key (chB n) 0) = false ∧ shielded (R.PLANE_VIOL_CNT_COUNT.key (chB n) 0) = false := by
  and_intros <;> exact not_shielded_chB _ _ _ (by decide)
@[simp] theorem not_shielded_sequencer (n : Nat) :
    shielded (R.SEQ_FRAME_CNT_COUNT.key (chB n) 0) = false ∧ shielded (R.SEQ_FRAME_HI_HT.key (chB n) 0) = false ∧
    shielded (R.SEQ_FRAME_LO_HT.key (chB n) 0) = false ∧ shielded (R.SEQ_GAP_DROP_CNT_COUNT.key (chB n) 0) = false ∧
    shielded (R.SEQ_LOADCHK_REASON.key (chB n) 0) = false ∧
    shielded (R.SEQ_OFFGRID_CNT_COUNT.key (chB n) 0) = false ∧
    shielded (R.SEQ_RANGE_STAT_RANGE_DARK.key (chB n) 0) = false ∧
    shielded (R.SEQ_SAMPLE_DROP_CNT_COUNT.key (chB n) 0) = false ∧
    shielded (R.SEQ_SLOTS_USED.key (chB n) 0) = false ∧ shielded (R.SEQ_SLOT_DROP_CNT_COUNT.key (chB n) 0) = false ∧
    shielded (R.SEQ_STATUS_BANK.key (chB n) 0) = false ∧ shielded (R.SEQ_STATUS_HALTED.key (chB n) 0) = false ∧
    shielded (R.SEQ_STATUS_SWAP_PENDING.key (chB n) 0) = false ∧
    shielded (R.SEQ_STATUS_VERIFIED0.key (chB n) 0) = false ∧
    shielded (R.SEQ_STATUS_VERIFIED1.key (chB n) 0) = false ∧ shielded (R.SEQ_STATUS_WAITING.key (chB n) 0) = false ∧
    shielded (R.SEQ_SWAPERR_CNT_COUNT.key (chB n) 0) = false ∧
    shielded (R.SEQ_SWITCH_CNT_COUNT.key (chB n) 0) = false ∧ shielded (R.SEQ_WIDTH_ENTRY.key (chB n) 0) = false ∧
    shielded (R.SEQ_WIDTH_SWITCH_PENDING.key (chB n) 0) = false ∧
    shielded (R.SEQ_WIDTH_WIDER_ENTRY.key (chB n) 0) = false ∧ shielded (R.SEQ_WIDTH_WIDTH.key (chB n) 0) = false := by
  and_intros <;> exact not_shielded_chB _ _ _ (by decide)
@[simp] theorem not_shielded_launches (n : Nat) :
    shielded (R.WEIR_EXPIRED_CNT_COUNT.key (chB n) 0) = false ∧
    shielded (R.WEIR_LEAK_CNT_COUNT.key (chB n) 0) = false ∧ shielded (R.WEIR_QUEUE_PEAK.key (chB n) 0) = false ∧
    shielded (R.WEIR_SLACK_FRAME_SLACK.key (chB n) 0) = false ∧
    shielded (R.WEIR_SLACK_LOW_SLACK.key (chB n) 0) = false ∧
    shielded (R.WEIR_STATUS_EXPIRED.key (chB n) 0) = false ∧ shielded (R.WEIR_STATUS_LATE.key (chB n) 0) = false ∧
    shielded (R.WEIR_STATUS_MISS.key (chB n) 0) = false ∧ shielded (R.WEIR_STATUS_WD_ACTIVE.key (chB n) 0) = false ∧
    shielded (R.WEIR_TRIM_TRIM.key (chB n) 0) = false ∧ shielded (R.WEIR_WD_CNT_COUNT.key (chB n) 0) = false ∧
    shielded (R.WEIR_WD_INFO_CAUSE.key (chB n) 0) = false ∧ shielded (R.WEIR_WD_INFO_KIND.key (chB n) 0) = false ∧
    shielded (R.WEIR_WD_INFO_LEAKED.key (chB n) 0) = false ∧
    shielded (R.WEIR_WD_INFO_PENDING.key (chB n) 0) = false ∧ shielded (R.WEIR_WD_PIN_HI_HT.key (chB n) 0) = false ∧
    shielded (R.WEIR_WD_PIN_LO_HT.key (chB n) 0) = false ∧ shielded (R.WEIR_WD_T_HI_HT.key (chB n) 0) = false ∧
    shielded (R.WEIR_WD_T_LO_HT.key (chB n) 0) = false := by
  and_intros <;> exact not_shielded_chB _ _ _ (by decide)
@[simp] theorem not_shielded_string (n k : Nat) :
    shielded (R.LAMP_SLIMIT_RILL_CEIL.key (strB n k) 0) = false ∧
    shielded (R.LAMP_SSTAT_CAUSE.key (strB n k) 0) = false ∧ shielded (R.LAMP_SSTAT_CUT.key (strB n k) 0) = false := by
  and_intros <;> exact not_shielded_strB _ _ _ _ (by decide)
@[simp] theorem not_shielded_layer (n k : Nat) :
    shielded (R.COMP_LFLIP_LO_HT.key (compB n k) 0) = false ∧
    shielded (R.COMP_LFLIP_HI_HT.key (compB n k) 0) = false ∧
    shielded (R.COMP_LFLIP_STAT_LATE.key (compB n k) 0) = false ∧
    shielded (R.COMP_LFLIP_STAT_LATE_RUN.key (compB n k) 0) = false ∧
    shielded (R.COMP_LFLIP_STAT_ARMED.key (compB n k) 0) = false ∧
    shielded (R.COMP_LFLIP_STAT_PENDING.key (compB n k) 0) = false := by
  and_intros <;> exact not_shielded_compB _ _ _ _ (by decide)
@[simp] theorem not_shielded_demand (d : Nat) :
    shielded (R.SLUICE_DIE_RES_MBPS.key (slDieB d) 0) = false ∧
    shielded (R.SLUICE_DIE_ELASTIC_MBPS.key (slDieB d) 0) = false ∧
    shielded (R.SLUICE_DIE_LINK_IN_MBPS.key (slDieB d) 0) = false ∧
    shielded (R.SLUICE_DIE_LINK_OUT_MBPS.key (slDieB d) 0) = false ∧
    shielded (R.SLUICE_DIE_POOL_USED_UNITS.key (slDieB d) 0) = false ∧
    shielded (R.SLUICE_DIE_SLOT_USED_KITEMS.key (slDieB d) 0) = false ∧
    shielded (R.SLUICE_DIE_STATUS_OVER.key (slDieB d) 0) = false := by
  and_intros <;> exact not_shielded_slDieB _ _ _ (by decide)
@[simp] theorem not_shielded_oxbow (d : Nat) :
    shielded (R.HUB_OXB_FAIL_CNT_COUNT.key (oxbB d) 0) = false ∧
    shielded (R.HUB_OXB_STATUS_ATTEMPT.key (oxbB d) 0) = false ∧
    shielded (R.HUB_OXB_STATUS_BUSY.key (oxbB d) 0) = false ∧
    shielded (R.HUB_OXB_STATUS_PHASE.key (oxbB d) 0) = false ∧
    shielded (R.HUB_OXB_STATUS_PORT.key (oxbB d) 0) = false ∧ shielded (R.HUB_OXB_STATUS_SPARE.key (oxbB d) 0) = false := by
  and_intros <;> exact not_shielded_oxbB _ _ _ (by decide)
@[simp] theorem not_shielded_port (n : Nat) :
    shielded (R.EPHY_DOWN_CNT_COUNT.key (ephyB n) 0) = false ∧
    shielded (R.EPHY_STATUS_GOOD.key (ephyB n) 0) = false ∧ shielded (R.EPHY_STATUS_LANES.key (ephyB n) 0) = false ∧
    shielded (R.EPHY_STATUS_REVERSED.key (ephyB n) 0) = false ∧
    shielded (R.EPHY_STATUS_RX_IDLE.key (ephyB n) 0) = false ∧
    shielded (R.EPHY_STATUS_STATE.key (ephyB n) 0) = false ∧
    shielded (R.EPHY_STATUS_TX_IDLE.key (ephyB n) 0) = false ∧
    shielded (R.EPHY_STATUS_WIDEN_PENDING.key (ephyB n) 0) = false ∧
    shielded (R.EPHY_STATUS_WIDTH.key (ephyB n) 0) = false ∧ shielded (R.EPHY_STATUS_RATE.key (ephyB n) 0) = false := by
  and_intros <;> exact not_shielded_ephyB _ _ _ (by decide)
@[simp] theorem not_shielded_slot (k : Nat) :
    shielded (R.LOOP_SLOT_STATUS_HOLD_CAUSE.key (slB k) 0) = false ∧
    shielded (R.LOOP_SLOT_STATUS_STATE.key (slB k) 0) = false ∧
    shielded (R.LOOP_SLOT_IMG_CODE_BASE.key (slB k) 0) = false ∧
    shielded (R.LOOP_SLOT_IMG_COUNT.key (slB k) 0) = false ∧ shielded (R.LOOP_SLOT_WIN_DBASE.key (slB k) 0) = false ∧
    shielded (R.LOOP_SLOT_WIN_DSIZE.key (slB k) 0) = false := by
  and_intros <;> exact not_shielded_slB _ _ _ (by decide)
@[simp] theorem not_shielded_eddy (e : Nat) :
    shielded (R.LOOP_EDDY_STATUS_CAUSE.key (edB e) 0) = false ∧
    shielded (R.LOOP_EDDY_STATUS_RECORDS.key (edB e) 0) = false ∧
    shielded (R.LOOP_EDDY_STATUS_STATE.key (edB e) 0) = false ∧
    shielded (R.LOOP_EDDY_TRIG_T_HI_HT.key (edB e) 0) = false ∧
    shielded (R.LOOP_EDDY_TRIG_T_LO_HT.key (edB e) 0) = false := by
  and_intros <;> exact not_shielded_edB _ _ _ (by decide)
@[simp] theorem not_shielded_coreLoad (c : Nat) :
    shielded (R.LOOP_CORE_LOAD_ADMITTED.key (crB c) 0) = false ∧
    shielded (R.LOOP_CORE_LOAD_PEAK.key (crB c) 0) = false ∧
    shielded (R.LOOP_CORE_MEM_CODE_USED.key (crB c) 0) = false ∧
    shielded (R.LOOP_CORE_MEM_DATA_USED.key (crB c) 0) = false := by
  and_intros <;> exact not_shielded_crB _ _ _ (by decide)
@[simp] theorem not_shielded_dram (d m : Nat) :
    shielded (R.DDR_DRFM_CNT_COUNT.key (ddrB d m) 0) = false ∧
    shielded (R.DDR_HARD_RETRAIN_CNT_COUNT.key (ddrB d m) 0) = false ∧
    shielded (R.DDR_POISON_WR_CNT_COUNT.key (ddrB d m) 0) = false ∧
    shielded (R.DDR_SR_CNT_COUNT.key (ddrB d m) 0) = false ∧ shielded (R.DDR_UE_CNT_COUNT.key (ddrB d m) 0) = false ∧
    shielded (R.DDR_WQ_BATCH.key (ddrB d m) 0) = false ∧ shielded (R.DDR_WQ_PEAK.key (ddrB d m) 0) = false ∧
    shielded (R.DDR_WQ_USED.key (ddrB d m) 0) = false ∧ shielded (R.DDR_MIG_FROM.key (ddrB d m) 0) = false ∧
    shielded (R.DDR_MIG_PROGRESS.key (ddrB d m) 0) = false ∧ shielded (R.DDR_MIG_TO.key (ddrB d m) 0) = false ∧
    shielded (R.DDR_GEOM_MRDIMM.key (ddrB d m) 0) = false ∧
    shielded (R.DDR_GEOM_PAGE_BITS.key (ddrB d m) 0) = false ∧ shielded (R.DDR_GEOM_RANKS.key (ddrB d m) 0) = false ∧
    shielded (R.DDR_GEOM_RANK_GIB.key (ddrB d m) 0) = false ∧
    shielded (R.DDR_GEOM_ROW_BITS.key (ddrB d m) 0) = false ∧ shielded (R.DDR_RATE_MTS.key (ddrB d m) 0) = false := by
  and_intros <;> exact not_shielded_ddrB _ _ _ _ (by decide)
@[simp] theorem not_shielded_timeB :
    shielded (R.TIME_AB_DIFF_DIFF.key timeB 0) = false ∧ shielded (R.TIME_CTRL_PRIMARY.key timeB 0) = false ∧
    shielded (R.TIME_CTRL_ROLE.key timeB 0) = false ∧ shielded (R.TIME_ERRCNT_SWITCHES.key timeB 0) = false ∧
    shielded (R.TIME_OFFSET_O.key timeB 0) = false ∧ shielded (R.TIME_SRC_FLAGS.key timeB 0) = false ∧
    shielded (R.TIME_SRC_HOP.key timeB 0) = false ∧ shielded (R.TIME_SRC_ID_ID.key timeB 0) = false ∧
    shielded (R.TIME_STATUS_A_VALID.key timeB 0) = false ∧ shielded (R.TIME_STATUS_B_VALID.key timeB 0) = false ∧
    shielded (R.TIME_STATUS_FOLLOWING.key timeB 0) = false ∧ shielded (R.TIME_STATUS_REF_OK.key timeB 0) = false ∧
    shielded (R.TIME_STATUS_SRC_HOLDOVER.key timeB 0) = false ∧ shielded (R.TIME_STATUS_STATE.key timeB 0) = false ∧
    shielded (R.TIME_STATUS_VALID.key timeB 0) = false := by
  decide
@[simp] theorem not_shielded_lockUnitB :
    shielded (R.LOCK_BROKEN_CNT_COUNT.key lockUnitB 0) = false := by
  decide
@[simp] theorem not_shielded_fabB :
    shielded (R.HUB_FAB_STALE_CNT_COUNT.key fabB 0) = false ∧
    shielded (R.HUB_FAB_UNITRESET_CNT_COUNT.key fabB 0) = false := by
  decide
@[simp] theorem not_shielded_mgtB :
    shielded (R.MGT_SNAP_EPOCH.key mgtB 0) = false ∧ shielded (R.MGT_STATUS_ALERT.key mgtB 0) = false ∧
    shielded (R.MGT_STATUS_OVR_CEIL.key mgtB 0) = false ∧ shielded (R.MGT_STATUS_OVR_CH.key mgtB 0) = false ∧
    shielded (R.MGT_STATUS_OVR_MODE.key mgtB 0) = false ∧ shielded (R.MGT_STATUS_PF0_MODE.key mgtB 0) = false ∧
    shielded (R.MGT_SVC_CEIL_PF0.key mgtB 0) = false := by
  decide
@[simp] theorem not_shielded_hkB :
    shielded (R.HK_CAL_STATUS_BUSY.key hkB 0) = false := by
  decide
@[simp] theorem not_shielded_cfgB :
    shielded (R.CFG_FW_GEN_GEN.key cfgB 0) = false ∧ shielded (R.CFG_FW_SVN.key cfgB 0) = false := by
  decide
@[simp] theorem not_shielded_healthB :
    shielded (R.HUB_SPREC_GEN.key healthB 0) = false ∧ shielded (R.HUB_SPREC_PENDING.key healthB 0) = false ∧
    shielded (R.HUB_REPLACE_PIPE.key healthB 0) = false ∧ shielded (R.HUB_REPLACE_LOOP.key healthB 0) = false ∧
    shielded (R.HUB_REPLACE_RANK.key healthB 0) = false ∧ shielded (R.HUB_REPLACE_UCIE.key healthB 0) = false ∧
    shielded (R.HUB_REPLACE_CONFIG.key healthB 0) = false ∧ shielded (R.HUB_REPLACE_HOLD.key healthB 0) = false ∧
    shielded (R.HUB_REPLACE_PIPE_DIES.key healthB 0) = false ∧
    shielded (R.HUB_REPLACE_LOOP_DIES.key healthB 0) = false := by
  decide
@[simp] theorem not_shielded_hubB :
    shielded (R.HUB_SVC_CEIL_CEIL.key hubB 0) = false ∧ shielded (R.HUB_DEGRADE_REPLACE.key hubB 0) = false ∧
    shielded (R.HUB_DEGRADE_CONFIG_DIVERGED.key hubB 0) = false ∧
    shielded (R.HUB_DEGRADE_DIE_OFFLINE.key hubB 0) = false ∧ shielded (R.HUB_DEGRADE_CONTAINED.key hubB 0) = false := by
  decide
@[simp] theorem not_shielded_calOutcome (o : CalOut) : shielded (o.fld.key hkB 0) = false := by cases o <;> decide
@[simp] theorem not_shielded_inputValid (b : Bool) : shielded ((validFld b).key timeB 0) = false := by cases b <;> decide
@[simp] theorem not_shielded_surfEnable (n k : Nat) : shielded (R.FETCH_SURF_EN.key (fetchB n k) 0) = false := by
  simp only [not_shielded_iff, Fld.key, R.FETCH_SURF_EN, fetchB, chB]
  omega
@[simp] theorem not_shielded_ddrState (d m : Nat) (hm : m < 8) :
    shielded (R.DDR_STATUS_STATE.key (ddrB d m) 0) = false
      ∧ shielded (R.DDR_STATUS_IN_SERVICE.key (ddrB d m) 0) = false
      ∧ shielded (R.DDR_STATUS_CONTENT_LOST.key (ddrB d m) 0) = false := by
  simp only [not_shielded_iff, Fld.key, R.DDR_STATUS_STATE, R.DDR_STATUS_IN_SERVICE, R.DDR_STATUS_CONTENT_LOST, ddrB, dieB]
  omega
@[simp] theorem not_shielded_ddrSpare (d m : Nat) :
    shielded (R.DDR_STATUS_SPARE.key (ddrB d m) 0) = false
      ∧ shielded (R.DDR_STATUS_SPARE_AVAIL.key (ddrB d m) 0) = false
      ∧ shielded (R.DDR_STATUS_SPARE_USED.key (ddrB d m) 0) = false := by
  simp only [not_shielded_iff, Fld.key, R.DDR_STATUS_SPARE, R.DDR_STATUS_SPARE_AVAIL, R.DDR_STATUS_SPARE_USED, ddrB, dieB]
  omega
@[simp] theorem not_shielded_rankRows (d m r : Nat) (hr : r < 4) :
    shielded (R.DDR_RANK_ROWS.key (ddrB d m) r) = false := by
  simp only [not_shielded_iff, Fld.key, R.DDR_RANK_ROWS, ddrB, dieB]
  omega
@[simp] theorem not_shielded_coreStat (c : Nat) :
    shielded (R.LOOP_CORE_STAT_SLOTS.key (crB c) 0) = false
      ∧ shielded (R.LOOP_CORE_STAT_MIGRATING.key (crB c) 0) = false
      ∧ shielded (R.LOOP_CORE_STAT_RETIRED.key (crB c) 0) = false := by
  simp only [not_shielded_iff, Fld.key, R.LOOP_CORE_STAT_SLOTS, R.LOOP_CORE_STAT_MIGRATING, R.LOOP_CORE_STAT_RETIRED,
    crB, coreB,
    clB, dieB]
  omega
@[simp] theorem not_shielded_bypass (n i : Nat) (hi : i < 16) :
    shielded (R.LAMP_BYP_STAT_FAILED.key (bypB n i) 0) = false
      ∧ shielded (R.LAMP_BYP_STAT_MASK.key (bypB n i) 0) = false := by
  simp only [not_shielded_iff, Fld.key, R.LAMP_BYP_STAT_FAILED, R.LAMP_BYP_STAT_MASK, bypB, chB]
  omega
@[simp] theorem not_shielded_levels (n i : Nat) (hi : i < 16) :
    shielded (R.PLANE_LVL_AMP.key (chB n) i) = false ∧ shielded (R.PLANE_LVL_CORR.key (chB n) i) = false := by
  simp only [not_shielded_iff, Fld.key, R.PLANE_LVL_AMP, R.PLANE_LVL_CORR, chB]
  omega
@[simp] theorem not_shielded_gain (n k : Nat) (hk : k < 8) :
    shielded (R.LAMP_SGAIN_TRIM.key (strB n k) 0) = false ∧ shielded (R.LAMP_SGAIN_GAIN.key (strB n k) 0) = false := by
  simp only [not_shielded_iff, Fld.key, R.LAMP_SGAIN_TRIM, R.LAMP_SGAIN_GAIN, strB, chB]
  omega
theorem not_shielded_lane (n l : Nat) (hl : l < 4) (f : Fld) (i : Nat) (h : f.loAt i < 32)
    (ho : f.offAt i < 0x10) : shielded (f.key (laneB n l) i) = false := by
  rw [not_shielded_iff, key_div f _ i h, laneB, ephyB, dieB]
  omega
@[simp] theorem not_shielded_spareSum (d : Nat) (hd : d < 4) :
    shielded (R.HUB_SPARE_SUM_CORES_FREE.key healthB d) = false
      ∧ shielded (R.HUB_SPARE_SUM_RANKS_FREE.key healthB d) = false
      ∧ shielded (R.HUB_SPARE_SUM_UCIE_MIN.key healthB d) = false
      ∧ shielded (R.HUB_SPARE_SUM_PIPES_FREE.key healthB d) = false := by
  simp only [not_shielded_iff, Fld.key, R.HUB_SPARE_SUM_CORES_FREE, R.HUB_SPARE_SUM_RANKS_FREE, R.HUB_SPARE_SUM_UCIE_MIN,
    R.HUB_SPARE_SUM_PIPES_FREE, healthB]
  omega
@[simp] theorem not_shielded_record (i : Nat) (hi : i < 4) :
    shielded (R.CFG_REC_VALID.key cfgB i) = false ∧ shielded (R.CFG_REC_MATCH.key cfgB i) = false
      ∧ shielded (R.CFG_REC_DEFAULT.key cfgB i) = false ∧ shielded (R.CFG_REC_GEN_GEN.key cfgB i) = false := by
  simp only [not_shielded_iff, Fld.key, R.CFG_REC_VALID, R.CFG_REC_MATCH, R.CFG_REC_DEFAULT, R.CFG_REC_GEN_GEN,
    cfgB]
  omega

/-! ### Quiet operations -/

/-- What of the hub's own state outlives the events of HOLD and the going dark of the ports. -/
def calm (h : HubSt) : HubSt := { h with holdLog := [], portsOn := false, noRelease := false }

/-- The die accepts no ARM until this long after it left reset. -/
def leftAts (t : Tbl DieSt) : Nat → Nat := fun d => (tget ({} : DieSt) d t).leftAt

/-- The states agree in the shielded registers, the hub's own state, HT, the epochs, the state of modules and crossings,
and the dies' exits from reset. -/
@[simp] abbrev Still (s t : State) : Prop :=
  shieldedRegs t.regs = shieldedRegs s.regs ∧ calm t.hub = calm s.hub ∧ t.ht = s.ht
    ∧ t.epochs = s.epochs ∧ t.d2ds = s.d2ds ∧ t.crosses = s.crosses ∧ leftAts t.dst = leftAts s.dst

theorem Still.refl (s : State) : Still s s := ⟨rfl, rfl, rfl, rfl, rfl, rfl, rfl⟩

theorem Still.trans {s t u : State} (h : Still s t) (k : Still t u) : Still s u := by
  obtain ⟨h1, h2, h3, h4, h5, h6, h7⟩ := h
  obtain ⟨k1, k2, k3, k4, k5, k6, k7⟩ := k
  exact ⟨k1.trans h1, k2.trans h2, k3.trans h3, k4.trans h4, k5.trans h5, k6.trans h6, k7.trans h7⟩

theorem still_hub (s : State) (h : HubSt) (hc : calm h = calm s.hub) : Still s { s with hub := h } :=
  ⟨rfl, hc, rfl, rfl, rfl, rfl, rfl⟩

theorem calm_portsOn (h : HubSt) (b : Bool) : calm { h with portsOn := b } = calm h := rfl
theorem calm_noRelease (h : HubSt) (b : Bool) : calm { h with noRelease := b } = calm h := rfl

/-- The operation keeps all of that. -/
@[simp] abbrev Quiet (f : State → State) : Prop := ∀ s, Still s (f s)

@[simp] theorem regs_ite (c : Prop) [Decidable c] (s t : State) :
    (if c then s else t).regs = if c then s.regs else t.regs := apply_ite ..
@[simp] theorem hub_ite (c : Prop) [Decidable c] (s t : State) :
    (if c then s else t).hub = if c then s.hub else t.hub := apply_ite ..
@[simp] theorem epochs_ite (c : Prop) [Decidable c] (s t : State) :
    (if c then s else t).epochs = if c then s.epochs else t.epochs := apply_ite ..
@[simp] theorem d2ds_ite (c : Prop) [Decidable c] (s t : State) :
    (if c then s else t).d2ds = if c then s.d2ds else t.d2ds := apply_ite ..
@[simp] theorem crosses_ite (c : Prop) [Decidable c] (s t : State) :
    (if c then s else t).crosses = if c then s.crosses else t.crosses := apply_ite ..
@[simp] theorem dst_ite (c : Prop) [Decidable c] (s t : State) :
    (if c then s else t).dst = if c then s.dst else t.dst := apply_ite ..
@[simp] theorem shieldedRegs_ite (c : Prop) [Decidable c] (t u : Tbl Nat) :
    shieldedRegs (if c then t else u) = if c then shieldedRegs t else shieldedRegs u := apply_ite ..
@[simp] theorem calm_ite (c : Prop) [Decidable c] (g h : HubSt) :
    calm (if c then g else h) = if c then calm g else calm h := apply_ite ..
@[simp] theorem leftAts_ite (c : Prop) [Decidable c] (t u : Tbl DieSt) :
    leftAts (if c then t else u) = if c then leftAts t else leftAts u := apply_ite ..

/-- What every single effect on a list leaves alone, all of them together leave alone. -/
theorem each_quiet_mem {α : Type} (f : α → State → State) (l : List α) (h : ∀ a ∈ l, Quiet (f a)) :
    Quiet (each l f) := by
  induction l with
  | nil => exact Still.refl
  | cons a t ih =>
    exact fun s => (h a (List.mem_cons_self ..) s).trans (ih (fun b hb => h b (List.mem_cons_of_mem _ hb)) (f a s))

@[simp] theorem each_quiet {α : Type} (f : α → State → State) (l : List α) (h : ∀ a, Quiet (f a)) :
    Quiet (each l f) := each_quiet_mem f l (fun a _ => h a)

@[simp] theorem when_quiet (c : Bool) (f : State → State) (h : Quiet f) : Quiet (when_ c f) := by
  intro s
  cases c
  · exact Still.refl s
  · exact h s

@[simp] theorem draw_quiet (w : Nat) : Quiet (fun s => (draw w s).2) := fun s => Still.refl s
@[simp] theorem raiseAt_calm (stamp code ch arg : Nat) (s : State) :
    calm (raiseAt stamp code ch arg s).hub = calm s.hub := by
  unfold raiseAt
  split <;> rfl
@[simp] theorem raise_calm (code ch arg : Nat) (s : State) : calm (raise code ch arg s).hub = calm s.hub := raiseAt_calm ..

theorem foldl_quiet_mem {α : Type} (f : State → α → State) (l : List α) (h : ∀ a ∈ l, Quiet (fun s => f s a)) :
    Quiet (fun s => l.foldl f s) := each_quiet_mem (fun a s => f s a) l h

/-- A return to reset of fields none of which is shielded. -/
theorem resetFlds_quiet (b : Nat) (fs : List Fld) (h : ∀ f ∈ fs, ∀ i < f.n, shielded (f.key b i) = false) :
    Quiet (resetFlds b fs) :=
  foldl_quiet_mem _ _ fun f hf => foldl_quiet_mem _ _ fun i hi s => by simp [h f hf i (List.mem_range.mp hi)]

theorem resetFlags_quiet (b : Nat) (l : List Fld)
    (h : ∀ f ∈ l.filter (·.acc == .w1c), ∀ i < f.n, shielded (f.key b i) = false) : Quiet (resetFlags b l) :=
  resetFlds_quiet b _ h

end Sys2Proof.PowerModes
end

section
namespace Sys2Proof.PowerModes
open Sys2Proof Sys2Proof.Machine Sys2Proof.Safety Sys2Proof.Scope

/-! ### One lemma per operation

Each says that an operation is quiet, in the order in which the operations build on one another: `simp` opens the operation
and knows the lemmas of those it calls. -/

/-! #### Ports that go dark, rings and completions -/

@[simp] theorem refreshSafeDark_quiet (n : Nat) : Quiet (refreshSafeDark n) := fun s => by simp [refreshSafeDark]
@[simp] theorem sendPark_quiet (n : Nat) : Quiet (sendPark n) := fun s => by simp [sendPark]
@[simp] theorem portIdle_quiet (n : Nat) : Quiet (portIdle n) := fun s => by simp [portIdle]
@[simp] theorem portsDark_quiet : Quiet portsDark := fun s => by
  unfold portsDark
  refine Still.trans ?_ (still_hub _ _ (calm_portsOn _ _))
  exact each_quiet _ _ (fun n s => by simp) s
@[simp] theorem refreshOut_quiet (t r : Nat) : Quiet (refreshOut t r) := fun s => by simp [refreshOut]
@[simp] theorem stopRing_quiet (t r why : Nat) : Quiet (stopRing t r why) := fun s => by simp [stopRing]
@[simp] theorem modRing_quiet (t r : Nat) (f : RingSt → RingSt) : Quiet (modRing t r f) := fun s => by simp [modRing]
@[simp] theorem signalCq_quiet (t r : Nat) : Quiet (signalCq t r) := fun s => by simp [signalCq]
@[simp] theorem writeCq_quiet (t r : Nat) : Quiet (writeCq t r) := fun s => by
  unfold writeCq
  split <;> simp
@[simp] theorem flushCq_quiet (t r : Nat) : Quiet (flushCq t r) := fun s => by simp [flushCq]
@[simp] theorem pushCq_quiet (t r : Nat) (e : List Byte) : Quiet (pushCq t r e) := fun s => by simp [pushCq]
@[simp] theorem completeAt_quiet (id code detail ht frames : Nat) : Quiet (completeAt id code detail ht frames) :=
  fun s => by
  unfold completeAt
  split <;> simp
@[simp] theorem finishWd_quiet (n : Nat) (d : Withdrawal) (leaked : Nat) : Quiet (finishWd n d leaked) := fun s => by
  unfold finishWd
  split <;> simp
@[simp] theorem abandonWds_quiet (n : Nat) : Quiet (abandonWds n) := fun s => by simp [abandonWds]

/-! #### Memory controllers -/

@[simp] theorem modDdr_quiet (d m : Nat) (f : DdrSt → DdrSt) : Quiet (modDdr d m f) := fun s => by simp [modDdr]
@[simp] theorem setDdrState_quiet (d m v : Nat) (hm : m < 8) : Quiet (setDdrState d m v) :=
    fun s => by simp [setDdrState, hm]
@[simp] theorem refreshWq_quiet (d m : Nat) : Quiet (refreshWq d m) := fun s => by simp [refreshWq]
@[simp] theorem issueAll_quiet (d m : Nat) : Quiet (issueAll d m) := fun s => by simp [issueAll]
@[simp] theorem enterSelfRefresh_quiet (d m : Nat) (hm : m < 8) : Quiet (enterSelfRefresh d m) :=
    fun s => by simp [enterSelfRefresh, hm]
@[simp] theorem handoverSelfRefresh_quiet (d : Nat) : Quiet (handoverSelfRefresh d) :=
  each_quiet_mem _ _ fun m hm s => by simp [List.mem_range.mp hm]

/-! #### The darkness of a hand-over -/

theorem dark_quiet (s : State) :
    Still s (each dies handoverSelfRefresh (each channels refreshSafeDark (portsDark (each channels abandonWds s)))) :=
  (((each_quiet abandonWds channels abandonWds_quiet s).trans (portsDark_quiet _)).trans
    (each_quiet refreshSafeDark channels refreshSafeDark_quiet _)).trans
    (each_quiet handoverSelfRefresh dies handoverSelfRefresh_quiet _)

theorem dark_noRelease_quiet (s : State) (h : HubSt) (hc : calm h = calm s.hub) :
    Still s (each dies handoverSelfRefresh (each channels refreshSafeDark
      (portsDark (each channels abandonWds { s with hub := h })))) :=
  (still_hub s h hc).trans (dark_quiet _)

@[simp] theorem handoverDark_quiet : Quiet handoverDark := fun s => by
  unfold handoverDark
  exact dark_noRelease_quiet s _ (calm_noRelease s.hub true)

/-! #### Rill frames and cuts of the lamps -/

@[simp] theorem spoilOpen_quiet (n : Nat) : Quiet (spoilOpen n) := fun s => by
  unfold spoilOpen
  dsimp only
  split <;> simp
@[simp] theorem settleRill_quiet (n : Nat) : Quiet (settleRill n) := fun s => by simp [settleRill]
@[simp] theorem refreshPending_quiet (n : Nat) : Quiet (refreshPending n) := fun s => by simp [refreshPending]
@[simp] theorem rillDrivers_quiet (n t latch : Nat) (l : List Nat) : Quiet (each l (fun i s =>
    match dueCmd s n i t latch, (s.drv n i).cmds with
    | some c, _ :: rest =>
      if c.first = none then
        setDrv n i { s.drv n i with cmds := { c with first := some t, stale := c.tag == (s.drv n i).tag } :: rest,
                                    lastTag := c.tag } s
      else s
    | none, c :: _ =>
      if c.cmd = 5 && (s.str n (drvString s n i)).bypSince = none then
        modStr n (drvString s n i) (fun x => { x with bypSince := some t }) s
      else s
    | _, _ => s)) := each_quiet _ _ fun i s => by split <;> simp

theorem rillCeils_quiet (n : Nat) (l : List Nat) : Quiet (each l (fun k s => wr (strB n k) R.LAMP_SLIMIT_RILL_CEIL
    (rillCeil s n k) (modStr n k (fun x => { x with govern := x.govern.filter (fun g => s.ht < g.2) }) s))) := 
  each_quiet _ _ (fun k s => by simp)
@[simp] theorem sendRill_quiet (n t : Nat) : Quiet (sendRill n t) := fun s => by
  unfold sendRill
  extract_lets s1 latch drs mask ceil shares sent s2 s3 l s4 s5
  have h1 : Still s s1 := by simp [s1]
  have h2 : Still s1 s2 := rillCeils_quiet n (strings s1 n) s1
  have h3 : Still s2 s3 := rillDrivers_quiet n t latch drs s2
  clear_value s3 sent shares
  have h5 : Still s3 s5 := by simp [s5, s4]
  exact ((((h1.trans h2).trans h3).trans h5).trans (by simp))
@[simp] theorem abortRill_quiet (n : Nat) : Quiet (abortRill n) := fun s => by simp [abortRill]
@[simp] theorem cutStart_quiet (n k cause : Nat) : Quiet (cutStart n k cause) := fun s => by simp [cutStart]
@[simp] theorem cutEnd_quiet (n k cause : Nat) : Quiet (cutEnd n k cause) := fun s => by simp [cutEnd]
@[simp] theorem cutMotion_quiet (n : Nat) (on : Bool) : Quiet (cutMotion n on) := fun s => by
  unfold cutMotion
  split <;> simp

/-! #### Motion -/

@[simp] theorem wheelEval_quiet (n : Nat) : Quiet (wheelEval n) := fun s => by
  unfold wheelEval
  extract_lets u cs
  have hu : Still s u := by simp [u]
  clear_value u cs
  refine hu.trans ?_
  split
  · rcases cs with _ | ⟨c, cs⟩
    · simp
    · simp
  · simp
@[simp] theorem setWst_quiet (n : Nat) (x : WState) : Quiet (setWst n x) := fun s => by simp [setWst]
@[simp] theorem scanToward_quiet (n target : Nat) (v0 : Option Nat) : Quiet (scanToward n target v0) :=
  fun s => by simp [scanToward]
@[simp] theorem moveSst_quiet (n : Nat) (x : SState) : Quiet (moveSst n x) := fun s => by
  unfold moveSst
  split <;> simp
@[simp] theorem scanEval_quiet (n : Nat) : Quiet (scanEval n) := fun s => by
  unfold scanEval
  dsimp only
  split <;> simp [when_]
@[simp] theorem setSst_quiet (n : Nat) (x : SState) : Quiet (setSst n x) := fun s => by simp [setSst]

/-! #### Records, snapshots and calibration -/

@[simp] theorem keepMotion_quiet (old : State) : Quiet (keepMotion old) := fun s => by simp [keepMotion]
@[simp] theorem keepSpares_quiet (old : State) : Quiet (keepSpares old) := fun s => by simp [keepSpares]
@[simp] theorem apertureAnswer_quiet (t a len : Nat) (bad : Bool) : Quiet (apertureAnswer t a len bad) :=
  fun s => by simp [apertureAnswer]
@[simp] theorem bumpSnap_quiet : Quiet bumpSnap := fun s => by simp [bumpSnap]
@[simp] theorem calEnd_quiet : Quiet calEnd := fun s => by simp [calEnd]
@[simp] theorem calOutcome_quiet (t : Nat) (o : CalOut) : Quiet (calOutcome t o) := fun s => by simp [calOutcome]
@[simp] theorem calStarve_quiet (p : Nat → Bool) : Quiet (calStarve p) := fun s => by simp [calStarve]
@[simp] theorem calLeft_quiet (n : Nat) : Quiet (calLeft n) := fun s => by simp [calLeft]
@[simp] theorem mgtEvent_quiet (code arg : Nat) : Quiet (mgtEvent code arg) := fun s => by simp [mgtEvent]
@[simp] theorem refreshOvr_quiet : Quiet refreshOvr := fun s => by simp [refreshOvr]
@[simp] theorem ceilAll_quiet : Quiet ceilAll := fun s => by simp [ceilAll]

/-! #### Swaps of a bank and substitutions of a pipe -/

@[simp] theorem swapEffect_quiet (n deferred : Nat) (bnd : Option Nat) : Quiet (swapEffect n deferred bnd) :=
  fun s => by
  unfold swapEffect
  dsimp only
  split <;> simp
@[simp] theorem swapAtOnce_quiet (n : Nat) : Quiet (swapAtOnce n) := fun s => by simp [swapAtOnce]
@[simp] theorem flushRefused_quiet (n : Nat) : Quiet (flushRefused n) := fun s => by
  unfold flushRefused
  split <;> simp
@[simp] theorem showOx_quiet (d : Nat) : Quiet (showOx d) := fun s => by simp [showOx]
@[simp] theorem modOx_quiet (d : Nat) (f : OxSt → OxSt) : Quiet (modOx d f) := fun s => by simp [modOx]
@[simp] theorem oxLoadClear_quiet (d k : Nat) : Quiet (oxLoadClear d k) := fun s => by simp [oxLoadClear]
@[simp] theorem oxTake_quiet (d k trig attempt p : Nat) : Quiet (oxTake d k trig attempt p) := fun s => by simp [oxTake]
@[simp] theorem oxFailed_quiet (d k why : Nat) : Quiet (oxFailed d k why) := fun s => by simp [oxFailed]
@[simp] theorem oxStart_quiet (d k trig : Nat) : Quiet (oxStart d k trig) := fun s => by
  unfold oxStart
  split <;> simp
@[simp] theorem oxNext_quiet (d : Nat) : Quiet (oxNext d) := fun s => by simp [oxNext]
@[simp] theorem oxEnd_quiet (d : Nat) : Quiet (oxEnd d) := fun s => by simp [oxEnd]
@[simp] theorem oxAbandon_quiet (n : Nat) : Quiet (oxAbandon n) := fun s => by simp [oxAbandon]

/-! #### Composition: flips, updates and commits -/

@[simp] theorem putEffect_quiet (n : Nat) (vals : List (Nat × Option Nat)) (bnd : Nat) (live : Bool) :
    Quiet (putEffect n vals bnd live) :=
  fun s => by simp [putEffect]
@[simp] theorem showLayer_quiet (n k : Nat) : Quiet (showLayer n k) := fun s => by simp [showLayer]
@[simp] theorem flipVals_quiet (n : Nat) (vals : List (Nat × Option Nat)) (coefs : List CoefReq) (bnd : Nat) (live : Bool) :
    Quiet (flipVals n vals coefs bnd live) :=
  fun s => by simp [flipVals]
@[simp] theorem flipPre_quiet (n bnd : Nat) (live : Bool) : Quiet (flipPre n bnd live) := fun s => by simp [flipPre]
@[simp] theorem refreshSqueeze_quiet (d : Nat) : Quiet (refreshSqueeze d) := fun s => by simp [refreshSqueeze]
@[simp] theorem refreshDie_quiet (d : Nat) : Quiet (refreshDie d) := fun s => by simp [refreshDie]
@[simp] theorem refreshDemand_quiet (n : Nat) : Quiet (refreshDemand n) := fun s => by simp [refreshDemand]
@[simp] theorem showEffect_quiet (n : Nat) : Quiet (showEffect n) := fun s => by simp [showEffect]
@[simp] theorem settleScalers_quiet (n : Nat) : Quiet (settleScalers n) := fun s => by
  unfold settleScalers
  extract_lets u
  refine Still.trans (t := u) (each_quiet _ _ (fun sc s => ?_) s) (by simp)
  extract_lets now x v
  have hv : Still s v := by
    unfold v
    clear_value now
    rcases now with _ | k
    · simp
    · simp
  exact hv.trans (each_quiet _ _ (fun c s => by simp) v)
@[simp] theorem flipsDone_quiet (n : Nat) : Quiet (flipsDone n) := fun s => by simp [flipsDone]
@[simp] theorem sendPacket_quiet (n : Nat) (o : Out) : Quiet (sendPacket n o) := fun s => by simp [sendPacket]
@[simp] theorem sendCfg_quiet (n : Nat) (write : Bool) (addr : Nat) (words : List Nat) (count : Nat) (pass : Bool) :
    Quiet (sendCfg n write addr words count pass) :=
  fun s => by simp [sendCfg]
@[simp] theorem writeHead_quiet (n addr v : Nat) : Quiet (writeHead n addr v) := fun s => by simp [writeHead]
@[simp] theorem writeFormat_quiet (n : Nat) (m : Fmt) : Quiet (writeFormat n m) := fun s => by simp [writeFormat]
@[simp] theorem formatAtOnce_quiet (n : Nat) (old : Fmt) : Quiet (formatAtOnce n old) := fun s => by simp [formatAtOnce]
@[simp] theorem complete_quiet (id code detail : Nat) : Quiet (complete id code detail) := fun s => by simp [complete]
@[simp] theorem complete?_quiet (id : Option Nat) (code detail : Nat) : Quiet (complete? id code detail) := fun s => by
  unfold complete?
  split <;> simp
@[simp] theorem bumpCseq_quiet (n : Nat) : Quiet (bumpCseq n) := fun s => by simp [bumpCseq]
@[simp] theorem takePending_quiet (n : Nat) (flip : Nat → Bool) (cf : CoefReq → Bool) :
    Quiet (fun s => (takePending n flip cf s).2.2) := fun _ => ⟨rfl, rfl, rfl, rfl, rfl, rfl, rfl⟩
@[simp] theorem applyFlip_quiet (n : Nat) (flip : Nat → Bool) (cf : CoefReq → Bool) (bnd : Nat) (live : Bool) :
    Quiet (applyFlip n flip cf bnd live) :=
    fun s => by simp [applyFlip]
@[simp] theorem commitNow_quiet (n : Nat) (c : CommitReq) : Quiet (commitNow n c) := fun s => by simp [commitNow]
@[simp] theorem finishUpdatesWith_quiet (n k at_ code detail late : Nat) :
    Quiet (finishUpdatesWith n k at_ code detail late) := fun s =>
  Still.trans (t := modCh n (fun x => { x with updates := x.updates.filter (·.layer != k) }) s) (by simp)
    (each_quiet _ _ (fun u s => by cases u.cmd <;> simp) _)
@[simp] theorem finishUpdates_quiet (n k at_ code late : Nat) : Quiet (finishUpdates n k at_ code late) :=
  fun s => by simp [finishUpdates]
@[simp] theorem updateNow_quiet (n fn k : Nat) : Quiet (updateNow n fn k) := fun s => by simp [updateNow]
@[simp] theorem flipLeave_quiet (n bnd : Nat) : Quiet (flipLeave n bnd) := fun s => by simp [flipLeave]
@[simp] theorem flushCommits_quiet (n : Nat) : Quiet (flushCommits n) := fun s => by
  unfold flushCommits
  dsimp only
  split <;> simp [when_]

/-! #### Channels that come to rest, and their frames -/

@[simp] theorem idleChannel_quiet (n : Nat) (park : Bool) : Quiet (idleChannel n park) := fun s => by simp [idleChannel]
@[simp] theorem modTime_quiet (f : TimeSt → TimeSt) : Quiet (modTime f) := fun s => by simp [modTime]
@[simp] theorem setTimeState_quiet (st : Nat) : Quiet (setTimeState st) := fun s => by simp [setTimeState]
@[simp] theorem sendCancel_quiet (n cause tc : Nat) : Quiet (fun s => (sendCancel n cause tc s).2) := fun s => by
  by_cases hlink : linkTrained s n <;> simp [sendCancel, hlink]
@[simp] theorem withdraw_quiet (n cause tc : Nat) (restage : Bool) (cmd : Option Nat) :
    Quiet (withdraw n cause tc restage cmd) :=
    fun s => by simp [withdraw]
@[simp] theorem closeItems_quiet (n fno : Nat) : Quiet (closeItems n fno) := fun s => by simp [closeItems]
@[simp] theorem closeFrame_quiet (n fno : Nat) : Quiet (closeFrame n fno) := fun s => by
  simp only [closeFrame]
  split
  · split <;> simp
  · split <;> simp
@[simp] theorem closeLast_quiet (n : Nat) : Quiet (closeLast n) := fun s => by simp [closeLast]

/-! #### Time, firmware, bindings and pipes -/

@[simp] theorem takeMaster_quiet : Quiet takeMaster := fun s => by simp [takeMaster]
@[simp] theorem masterAgain_quiet : Quiet masterAgain := fun s => by simp [masterAgain]
@[simp] theorem roleChanged_quiet : Quiet roleChanged := fun s => by simp [roleChanged]
@[simp] theorem showFw_quiet : Quiet showFw := fun s => by simp [showFw]
@[simp] theorem applyFirmware_quiet : Quiet applyFirmware := fun s => by simp [applyFirmware]
@[simp] theorem ownBindings_quiet : Quiet ownBindings := fun s => by simp [ownBindings]
@[simp] theorem recDirty_quiet (k : Nat) : Quiet (recDirty k) := fun s => by simp [recDirty]
@[simp] theorem retirePipe_quiet (d p : Nat) : Quiet (retirePipe d p) := fun s => by simp [retirePipe]
@[simp] theorem bindPipe_quiet (n p : Nat) : Quiet (bindPipe n p) := fun s => by simp [bindPipe]
@[simp] theorem spareChanged_quiet : Quiet spareChanged := fun s => by simp [spareChanged]

/-! #### Loop cores, slots and eddy buffers -/

@[simp] theorem coreLoad_quiet (k insns : Nat) : Quiet (coreLoad k insns) := fun s => by simp [coreLoad]
@[simp] theorem modEddy_quiet (e : Nat) (f : EddySt → EddySt) : Quiet (modEddy e f) := fun s => by simp [modEddy]
@[simp] theorem beginCapture_quiet (e c : Nat) (r : EddyRec) : Quiet (beginCapture e c r) :=
  fun s => by simp [beginCapture]
@[simp] theorem eddyRecord_quiet (e : Nat) (r : EddyRec) (mig : Bool) : Quiet (eddyRecord e r mig) := fun s => by
  unfold eddyRecord
  extract_lets st c r u v
  have hu : Still s u := by simp [u, when_]
  have hv : Still s v := hu.trans (by simp [v])
  split
  · split
    · exact hv.trans (by simp)
    · exact hv
  · exact hv
@[simp] theorem endSample_quiet (k : Nat) (abandoned : Bool) : Quiet (endSample k abandoned) := fun s => by
  unfold endSample
  dsimp only
  split <;> simp
@[simp] theorem refreshCore_quiet (c : Nat) : Quiet (refreshCore c) := fun s => by simp [refreshCore]
@[simp] theorem setSlotState_quiet (k : Nat) (x : SlotState) : Quiet (setSlotState k x) :=
  fun s => by simp [setSlotState]
@[simp] theorem beginSample_quiet (k : Nat) : Quiet (beginSample k) := fun s => by simp [beginSample]
@[simp] theorem nextOnCore_quiet (c : Nat) : Quiet (nextOnCore c) := fun s => by
  unfold nextOnCore
  split <;> simp
@[simp] theorem leaveCore_quiet (k : Nat) : Quiet (leaveCore k) := fun s => by simp [leaveCore]
@[simp] theorem slotLeft_quiet (k : Nat) : Quiet (slotLeft k) := fun s => by simp [slotLeft]
@[simp] theorem requesterReset_quiet (p : Nat → Bool) : Quiet (requesterReset p) := fun s => by simp [requesterReset]
theorem takeSetPoints_quiet (k : Nat) (l : List SpWrite) :
    Quiet (fun s => l.foldl (fun s w => { s with sps := tset 0 (4 * k + w.n) w.v s.sps }) s) :=
  foldl_quiet_mem _ l fun _ _ _ => ⟨rfl, rfl, rfl, rfl, rfl, rfl, rfl⟩
@[simp] theorem freeSlot_quiet (k : Nat) : Quiet (freeSlot k) := fun s => by
  simp [freeSlot, takeSetPoints_quiet]
@[simp] theorem slotReset_quiet (k : Nat) : Quiet (slotReset k) := fun s => by
  have hflags := resetFlds_quiet (slB k)
    (R.slotBlk.filter (fun f => f.acc == .w1c || f.off == R.LOOP_SLOT_STATUS_SKIP_RUN.off))
    (fun f hf i hi => not_shielded_slB k f i ((by decide : ∀ f ∈ R.slotBlk.filter
      (fun f => f.acc == .w1c || f.off == R.LOOP_SLOT_STATUS_SKIP_RUN.off), ∀ i < f.n, offWords 0x40 f i = true)
      f hf i hi))
  simp [slotReset, hflags]

@[simp] theorem eddyEmpty_quiet (e : Nat) : Quiet (eddyEmpty e) := fun s => by simp [eddyEmpty]

/-! #### The reset of a channel and of its port -/

@[simp] theorem motionUnknown_quiet (n : Nat) : Quiet (motionUnknown n) := fun s => by
  simp only [motionUnknown]
  split
  · split <;> simp
  · split <;> simp
@[simp] theorem setVerified_quiet (n b : Nat) (v : Bool) : Quiet (setVerified n b v) := fun s => by simp [setVerified]
@[simp] theorem banksReset_quiet (n : Nat) : Quiet (banksReset n) := fun s => by simp [banksReset]
@[simp] theorem setIdle_quiet (n : Nat) (tx rx : Bool) : Quiet (setIdle n tx rx) := fun s => by simp [setIdle]
@[simp] theorem clearLanes_quiet (n : Nat) : Quiet (clearLanes n) := fun s => by
  have hlanes : Quiet (each laneNums (fun l => resetFlds (laneB n l)
      [R.EPHY_LSTAT_LOCK, R.EPHY_LSTAT_INVERTED, R.EPHY_LSTAT_LOGICAL, R.EPHY_LSTAT_EXCLUDED, R.EPHY_LSTAT_MARGINAL,
       R.EPHY_LSTAT_DESKEWED, R.EPHY_LSTAT_SKEW])) :=
    each_quiet_mem _ _ fun l hl => resetFlds_quiet _ _ fun f hf i hi => by
      have hl4 : l < 4 := (by decide : ∀ l ∈ laneNums, l < 4) l hl
      obtain ⟨hlo, hoff⟩ := (by decide : ∀ f ∈ [R.EPHY_LSTAT_LOCK, R.EPHY_LSTAT_INVERTED, R.EPHY_LSTAT_LOGICAL,
        R.EPHY_LSTAT_EXCLUDED, R.EPHY_LSTAT_MARGINAL, R.EPHY_LSTAT_DESKEWED, R.EPHY_LSTAT_SKEW], ∀ i < f.n,
        f.loAt i < 32 ∧ f.offAt i < 0x10) f hf i hi
      exact not_shielded_lane n l hl4 f i hlo hoff
  simp [clearLanes, hlanes]
@[simp] theorem showMismatch_quiet (n : Nat) : Quiet (showMismatch n) := fun s => by simp [showMismatch]
@[simp] theorem headGone_quiet (n : Nat) : Quiet (headGone n) := fun s => by simp [headGone]
@[simp] theorem showWider_quiet (n : Nat) : Quiet (showWider n) := fun s => by simp [showWider]
@[simp] theorem setWidth_quiet (n w : Nat) : Quiet (setWidth n w) := fun s => by simp [setWidth]
@[simp] theorem toPst_quiet (n : Nat) (x : PState) : Quiet (toPst n x) := fun s => by simp [toPst]
@[simp] theorem enterDetect_quiet (n : Nat) : Quiet (enterDetect n) := fun s => by simp [enterDetect]
theorem portFlags_quiet (n : Nat) : Quiet (resetFlags (ephyB n) R.ephyBlk) :=
  resetFlags_quiet (ephyB n) R.ephyBlk fun f hf i hi => not_shielded_ephyB n f i
    ((by decide : ∀ f ∈ R.ephyBlk.filter (·.acc == .w1c), ∀ i < f.n, offWords 0x40 f i = true) f hf i hi)
theorem headFields_quiet (n : Nat) :
    Quiet (resetFlds (chB n) [R.EPROT_STATUS_IDENTIFIED, R.EPROT_STATUS_REJECT, R.EPROT_STATUS_SCHED]) :=
  resetFlds_quiet _ _ fun f hf i hi => not_shielded_chB n f i
    ((by decide : ∀ f ∈ [R.EPROT_STATUS_IDENTIFIED, R.EPROT_STATUS_REJECT, R.EPROT_STATUS_SCHED],
      ∀ i < f.n, offChannelWords f i = true) f hf i hi)
theorem portCleared_quiet (n : Nat) (f : PortSt → PortSt) : Quiet fun s => wrB (ephyB n) R.EPHY_STATUS_RX_IDLE true
    (resetFlags (ephyB n) R.ephyBlk (resetFlds (chB n) [R.EPROT_STATUS_IDENTIFIED, R.EPROT_STATUS_REJECT,
      R.EPROT_STATUS_SCHED] (modPort n f (enterDetect n s)))) := fun s =>
  have hidle : Quiet fun s => wrB (ephyB n) R.EPHY_STATUS_RX_IDLE true s := fun s => by simp
  have h : Still s (modPort n f (enterDetect n s)) := by simp
  ((h.trans (headFields_quiet n _)).trans (portFlags_quiet n _)).trans (hidle _)
@[simp] theorem portReset_quiet (n : Nat) : Quiet (portReset n) := fun s => by
  unfold portReset
  have hoff : Quiet (wr (ephyB n) R.EPHY_STATUS_STATE PState.disabled.code) := fun s => by simp
  extract_lets b s1 s2 s3 s4
  have h : Still s s4 := portCleared_quiet n (fun p => { prevId := p.prevId, lastW := p.lastW, stAt := p.stAt }) s
  clear_value s4
  split
  · exact h
  · exact h.trans (hoff s4)

/-! #### Commands, predictors and outputs of loops -/

@[simp] theorem dropWaiting_quiet (n : Nat) (p : Nat → Bool) : Quiet (dropWaiting n p) := fun s => by simp [dropWaiting]
@[simp] theorem abortCommands_quiet (n : Nat) (p : Cmd → Bool) (code detail : Nat) :
    Quiet (abortCommands n p code detail) :=
  fun s => by simp [abortCommands]
@[simp] theorem unitResetCmds_quiet (n : Nat) : Quiet (unitResetCmds n) := fun s => by simp [unitResetCmds]
@[simp] theorem writeActuator_quiet (n addr v : Nat) : Quiet (writeActuator n addr v) :=
  fun s => by simp [writeActuator]
@[simp] theorem withdrawPred_quiet (n : Nat) : Quiet (withdrawPred n) := fun s => by simp [withdrawPred]
@[simp] theorem showPred_quiet (n : Nat) : Quiet (showPred n) := fun s => by
  unfold showPred
  split <;> simp
@[simp] theorem predPeriod_quiet (n : Nat) (v : ℤ) : Quiet (predPeriod n v) := fun s => by simp [predPeriod]
@[simp] theorem predPhase_quiet (n ref : Nat) (v : ℤ) : Quiet (predPhase n ref v) := fun s => by simp [predPhase]
@[simp] theorem gridPeriod_quiet (n : Nat) (v : ℤ) : Quiet (gridPeriod n v) := fun s => by simp [gridPeriod]
@[simp] theorem gridPhase_quiet (n : Nat) (v : Int) : Quiet (gridPhase n v) := fun s => by
  unfold gridPhase
  extract_lets p
  have h : Still s (modMove n (fun m => { m with gridPh := p }) s) := by simp
  exact h.trans (writeActuator_quiet n 0x120 _ _)
@[simp] theorem applyAct_quiet (k i : Nat) (v : Int) (ref : Nat) : Quiet (applyAct k i v ref) := fun s => by
  unfold applyAct
  have hstr : outArg s k i % 8 < 8 := Nat.mod_lt _ (by decide)
  have hlevel : 4 * (outArg s k i % 4) + bits (outArg s k i) 2 2 < 16 := by
    have : bits (outArg s k i) 2 2 < 4 := Nat.mod_lt _ (by decide)
    omega
  split <;> simp [hlevel, (not_shielded_gain _ _ hstr)]
@[simp] theorem toSafe_quiet (k : Nat) : Quiet (toSafe k) := fun s => by simp [toSafe]
@[simp] theorem refreshScheds_quiet (n : Nat) (fresh : Option Nat) : Quiet (refreshScheds n fresh) := fun s => by
  unfold refreshScheds
  dsimp only
  split
  · simp
  · split <;> simp
@[simp] theorem stopSlot_quiet (k : Nat) : Quiet (stopSlot k) := fun s => by simp [stopSlot]
@[simp] theorem slotChReset_quiet (k : Nat) : Quiet (slotChReset k) := fun s => by simp [slotChReset]
@[simp] theorem motionChReset_quiet (n : Nat) : Quiet (motionChReset n) := fun s => by simp [motionChReset]
@[simp] theorem dieOxbow_quiet (d : Nat) : Quiet (dieOxbow d) := fun s => by simp [dieOxbow]

/-! #### The start of the memory -/

@[simp] theorem startChannel_quiet (d m : Nat) (x : Dimm) (rate : Nat) (hm : m < 8) :
    Quiet (startChannel d m x rate) := fun s => by
  have hrows (rows : Nat → Nat) : Quiet (each (List.range 4) (fun r s =>
      wr (ddrB d m) R.DDR_RANK_ROWS (satU 8 (rows r)) s r)) :=
    each_quiet_mem _ _ fun r hr s => by simp [List.mem_range.mp hr]
  unfold startChannel
  dsimp only
  split
  · simp [hm]
  · split <;> simp [hm, hrows]
@[simp] theorem not_shielded_ddrDie (d : Nat) :
    shielded (R.DDR_DIE_STATUS_MAP_DEFAULT.key (ddrDieB d) 0) = false ∧ shielded (R.DDR_DIE_CFOLD_P0.key
      (ddrDieB d) 0) = false
      ∧ shielded (R.DDR_DIE_CFOLD_P1.key (ddrDieB d) 0) = false ∧ shielded (R.DDR_DIE_CFOLD_P2.key (ddrDieB d) 0) = false
      ∧ shielded (R.DDR_DIE_CFOLD_P3.key (ddrDieB d) 0) = false ∧ shielded (R.DDR_DIE_BFOLD_Q.key
        (ddrDieB d) 0) = false := by
  and_intros <;> exact not_shielded_ddrDieB _ _ _ (by decide)
theorem maskPairs_quiet (d k : Nat) (lo hi : Fld) (v w : Nat → Nat)
    (h : ∀ i < k, (lo.loAt i < 32 ∧ lo.offAt i < 0x1000) ∧ hi.loAt i < 32 ∧ hi.offAt i < 0x1000) :
    Quiet (each (List.range k) fun i s => wr (ddrDieB d) lo (v i) (wr (ddrDieB d) hi (w i) s i) i) :=
  each_quiet_mem _ _ fun i hi s => by
    obtain ⟨hlo, hhi⟩ := h i (List.mem_range.mp hi)
    simp [not_shielded_ddrDieB d _ i hlo, not_shielded_ddrDieB d _ i hhi]
theorem pageFolds_quiet (d p q r t : Nat) :
    Quiet fun s => wr (ddrDieB d) R.DDR_DIE_CFOLD_P0 p (wr (ddrDieB d) R.DDR_DIE_CFOLD_P1 q
    (wr (ddrDieB d) R.DDR_DIE_CFOLD_P2 r (wr (ddrDieB d) R.DDR_DIE_CFOLD_P3 t s))) := fun s => by simp
theorem foldQ_quiet (d q : Nat) : Quiet (fun s => wr (ddrDieB d) R.DDR_DIE_BFOLD_Q q s) := fun s => by simp
@[simp] theorem loadMap_quiet (d page : Nat) : Quiet (loadMap d page) := fun s => by
  have hbad : Still s (raise 0x0D0D noCh (8 * d) (wrB (ddrDieB d) R.DDR_DIE_STATUS_MAP_DEFAULT true s)) := by simp
  unfold loadMap
  extract_lets b g
  clear_value g
  split
  next l =>
    split
    · have hc := maskPairs_quiet d 4 R.DDR_DIE_CMASK_LO_MASK R.DDR_DIE_CMASK_HI_MASK (fun i => l.getD i 0 % 2 ^ 32)
        (fun i => l.getD i 0 / 2 ^ 32) (by decide) s
      have hb := maskPairs_quiet d 5 R.DDR_DIE_BMASK_LO_MASK R.DDR_DIE_BMASK_HI_MASK (fun j => l.getD (8 + j) 0 % 2 ^ 32)
        (fun j => l.getD (8 + j) 0 / 2 ^ 32) (by decide)
      exact ((hc.trans (pageFolds_quiet d ..)).trans (hb _)).trans (foldQ_quiet d _ _)
    · exact hbad
  · exact hbad
@[simp] theorem refreshRanksFree_quiet (d : Nat) (hd : d < 4) : Quiet (refreshRanksFree d) :=
    fun s => by simp [refreshRanksFree, hd]

/-! #### The launch queue -/

@[simp] theorem armRecheck_quiet (n : Nat) : Quiet (armRecheck n) := fun s => by simp [armRecheck]
@[simp] theorem stopFix_quiet (n t : Nat) : Quiet (stopFix n t) := fun s => by simp [stopFix]
@[simp] theorem seqHalt_quiet (n : Nat) : Quiet (seqHalt n) := fun s => by simp [seqHalt]
@[simp] theorem dropGap_quiet (n : Nat) (g : Gap) : Quiet (dropGap n g) := fun s => by simp [dropGap]
@[simp] theorem decideGaps_quiet (n t : Nat) : Quiet (decideGaps n t) := fun s => by simp [decideGaps]
@[simp] theorem notePrev_quiet (n : Nat) (str : Option Nat) : Quiet (notePrev n str) := fun s => by simp [notePrev]
@[simp] theorem modQ_quiet (n : Nat) (f : List Item → List Item) : Quiet (modQ n f) := fun s => by simp [modQ]
@[simp] theorem noteGap_quiet (n : Nat) : Quiet (noteGap n) := fun s => by
  unfold noteGap
  dsimp only
  split <;> simp
@[simp] theorem frameEnd_quiet (n : Nat) : Quiet (frameEnd n) := fun s => by simp [frameEnd]
@[simp] theorem preemptAt_quiet (n fp : Nat) (cmds : List Nat) : Quiet (preemptAt n fp cmds) := fun s => by
  unfold preemptAt
  split <;> simp
@[simp] theorem preemptMark_quiet (n bnd : Nat) : Quiet (preemptMark n bnd) := fun s => by
  unfold preemptMark
  split <;> simp
@[simp] theorem slackOut_quiet (n fno : Nat) : Quiet (slackOut n fno) := fun s => by simp [slackOut]
@[simp] theorem markTaken_quiet (n fno : Nat) : Quiet (markTaken n fno) := fun s => by simp [markTaken]
@[simp] theorem countExpired_quiet (n : Nat) (it : Item) : Quiet (countExpired n it) := fun s => by simp [countExpired]
@[simp] theorem enqueue_quiet (n : Nat) (it : Item) : Quiet (enqueue n it) := fun s => by simp [enqueue]
@[simp] theorem keepToken_quiet (n tok : Nat) (bs : List Byte) : Quiet (keepToken n tok bs) :=
  fun s => by simp [keepToken]
@[simp] theorem contToken_quiet (n t str cur : Nat) : Quiet (contToken n t str cur) := fun s => by simp [contToken]
@[simp] theorem takeFactor_quiet (n : Nat) (it : Item) : Quiet (takeFactor n it) := fun s => by simp [takeFactor]
@[simp] theorem sendToken_quiet (n : Nat) (it : Item) : Quiet (sendToken n it) := fun s => by
  unfold sendToken
  split <;> simp
@[simp] theorem sendTokens_quiet (n : Nat) : Quiet (sendTokens n) := fun s => by simp [sendTokens]
theorem autoSample_quiet (n : Nat) (it : Item) : Quiet (fun s => (autoSample n it s).2) := fun s => by
  dsimp only
  unfold autoSample
  split
  · simp
  extract_lets due
  split
  · simp
  split
  · rcases List.find? _ _ with _ | k <;> simp
  · simp
@[simp] theorem takeItem_quiet (n : Nat) (it : Item) : Quiet (takeItem n it) := fun s => by
  unfold takeItem
  split
  · simp
  extract_lets u a v w before x
  have hv : Still s v := by
    have ha : Still u a.2 := autoSample_quiet n it u
    exact (Still.trans (by simp [u]) ha).trans (by simp [v])
  have hx : Still v x := by
    unfold x
    clear_value v before
    split
    · exact Still.refl v
    rcases before with _ | p
    · rcases w.openPlane with _ | ⟨k, c⟩ <;> simp
    · simp
  exact (hv.trans hx).trans (by simp)

/-! #### Marks and the start of a sequencer -/

@[simp] theorem oxMark_quiet (n t : Nat) : Quiet (oxMark n t) := fun s => by simp [oxMark]
@[simp] theorem emitMark_quiet (n t : Nat) : Quiet (emitMark n t) := fun s => by simp [emitMark]
@[simp] theorem enterBank_quiet (n tc : Nat) : Quiet (enterBank n tc) := fun s => by simp [enterBank]
@[simp] theorem frameRestart_quiet (n f : Nat) : Quiet (frameRestart n f) := fun s => by simp [frameRestart]
@[simp] theorem emitNow_mark_quiet (n : Nat) (e : Emit) (he : e.item.kind = .mark) : Quiet (emitNow n e) := fun s => by
  unfold emitNow
  dsimp only
  split <;> simp [he]
@[simp] theorem doEmit_mark_quiet (n : Nat) (e : Emit) (he : e.item.kind = .mark) : Quiet (doEmit n e) :=
    fun s => by simp [doEmit, he]
@[simp] theorem tryEmit_mark_quiet (n : Nat) (e : Emit) (he : e.item.kind = .mark) : Quiet (tryEmit n e) := fun s => by
  unfold tryEmit
  extract_lets t u stop
  have hu : Still s u := by
    unfold u
    split
    · simp
    · simp
  refine hu.trans ?_
  by_cases hs : stop
  · rw [if_pos hs]
    exact seqHalt_quiet n u
  · rw [if_neg hs]
    clear hs stop
    clear_value u
    simp [he]
@[simp] theorem startMark_quiet (n tc : Nat) : Quiet (startMark n tc) := fun s => by simp [startMark]
@[simp] theorem seqStart_quiet (n : Nat) : Quiet (seqStart n) := fun s => by simp [seqStart]

/-! #### Lamps at the end of a frame -/

@[simp] theorem showBypass_quiet (n i : Nat) (hi : i < 16) : Quiet (showBypass n i) :=
    fun s => by simp [showBypass, hi]
@[simp] theorem armBypass_quiet (n : Nat) : Quiet (armBypass n) := fun s => by
  unfold armBypass
  split
  · exact ⟨rfl, rfl, rfl, rfl, rfl, rfl, rfl⟩
  · exact each_quiet_mem _ _ (fun i hi s => by simp [List.mem_range.mp hi]) s
@[simp] theorem ownTag_quiet (n i : Nat) : Quiet (fun s => (ownTag n i s).2) :=
    fun _ => ⟨rfl, rfl, rfl, rfl, rfl, rfl, rfl⟩
@[simp] theorem queueOwn_quiet (n i cmd pos spare : Nat) : Quiet (fun s => queueOwn n i cmd pos spare s) :=
    fun s => by simp [queueOwn]
@[simp] theorem showLevels_quiet (n fno : Nat) : Quiet (showLevels n fno) := fun s => by
  unfold showLevels
  split
  · exact ⟨rfl, rfl, rfl, rfl, rfl, rfl, rfl⟩
  · exact each_quiet_mem _ _
      (fun i hi s => by simp [Nat.lt_trans (List.mem_range.mp hi) (by decide : 12 < 16)]) s
@[simp] theorem driftCheck_quiet (n fno : Nat) : Quiet (driftCheck n fno) := fun s => by
  unfold driftCheck
  dsimp only
  split
  · simp
  · split
    · simp
    · split <;> simp [when_]
@[simp] theorem endFrame_quiet (n fno : Nat) : Quiet (endFrame n fno) := fun s => by simp [endFrame]
@[simp] theorem endLast_quiet (n : Nat) : Quiet (endLast n) := fun s => by simp [endLast]
@[simp] theorem drainComplete_quiet (n : Nat) : Quiet (drainComplete n) := fun s => by simp [drainComplete]
end Sys2Proof.PowerModes
end

section
namespace Sys2Proof.PowerModes
open Sys2Proof Sys2Proof.Machine Sys2Proof.Safety Sys2Proof.Scope

/-! ### Operations that write some of the shielded registers -/

/-- What the table of shielded registers holds under the keys of `p`. -/
def only (p : Nat → Prop) (r : {k // shielded k = true} → Nat → Nat) :
    {k : {k // shielded k = true} // p k} → Nat → Nat := fun k => r k

/-- What the table of epochs holds under the keys of `e`. -/
def onlyEpochs (e : Nat → Prop) (t : Tbl Nat) : {k // e k} → Nat := fun k => tget 0 k t

/-- The states agree as `Still` says, but in the shielded registers only under the keys of `p`, in the epochs only under
those of `e`, and not in the state of modules and crossings. -/
@[simp] abbrev Apart (p e : Nat → Prop) (s t : State) : Prop :=
  only p (shieldedRegs t.regs) = only p (shieldedRegs s.regs) ∧ calm t.hub = calm s.hub ∧ t.ht = s.ht
    ∧ onlyEpochs e t.epochs = onlyEpochs e s.epochs ∧ leftAts t.dst = leftAts s.dst

theorem Apart.refl {p e : Nat → Prop} (s : State) : Apart p e s s := ⟨rfl, rfl, rfl, rfl, rfl⟩

theorem Apart.trans {p e : Nat → Prop} {s t u : State} (h : Apart p e s t) (k : Apart p e t u) : Apart p e s u := by
  obtain ⟨h1, h2, h3, h4, h5⟩ := h
  obtain ⟨k1, k2, k3, k4, k5⟩ := k
  exact ⟨k1.trans h1, k2.trans h2, k3.trans h3, k4.trans h4, k5.trans h5⟩

theorem Still.apart {p e : Nat → Prop} {s t : State} (h : Still s t) : Apart p e s t := by
  obtain ⟨hr, hh, ht, he, _, _, hl⟩ := h
  exact ⟨congrArg (only p) hr, hh, ht, congrArg (onlyEpochs e) he, hl⟩

theorem rd_of_only {p : Nat → Prop} {s t : State} (h : only p (shieldedRegs t.regs) = only p (shieldedRegs s.regs))
    {b : Nat} {f : Fld} {i : Nat} (hk : shielded (f.key b i) = true) (hp : p (f.key b i)) : rd t b f i = rd s b f i :=
  congrFun (congrFun h ⟨⟨_, hk⟩, hp⟩) _

theorem only_tset (p : Nat → Prop) (d k v : Nat) (t : Tbl Nat) (h : ¬ p k) :
    only p (shieldedRegs (tset d k v t)) = only p (shieldedRegs t) := by
  funext ⟨⟨j, hj⟩, hp⟩ e
  exact tget_tset_ne _ _ _ _ _ _ fun hkj => h (hkj ▸ hp)

@[simp] theorem only_wr (p : Nat → Prop) (b : Nat) (f : Fld) (v : Nat) (s : State) (i : Nat) (h : ¬ p (f.key b i)) :
    only p (shieldedRegs (wr b f v s i).regs) = only p (shieldedRegs s.regs) := only_tset _ _ _ _ _ h
@[simp] theorem only_wrB (p : Nat → Prop) (b : Nat) (f : Fld) (v : Bool) (s : State) (i : Nat) (h : ¬ p (f.key b i)) :
    only p (shieldedRegs (wrB b f v s i).regs) = only p (shieldedRegs s.regs) := only_tset _ _ _ _ _ h
@[simp] theorem only_bump (p : Nat → Prop) (b : Nat) (f : Fld) (s : State) (k i : Nat) (h : ¬ p (f.key b i)) :
    only p (shieldedRegs (bump b f s k i).regs) = only p (shieldedRegs s.regs) := only_tset _ _ _ _ _ h
@[simp] theorem only_ite (p : Nat → Prop) (c : Prop) [Decidable c] (t u : {k // shielded k = true} → Nat → Nat) :
    only p (if c then t else u) = if c then only p t else only p u := apply_ite ..
@[simp] theorem onlyEpochs_ite (e : Nat → Prop) (c : Prop) [Decidable c] (t u : Tbl Nat) :
    onlyEpochs e (if c then t else u) = if c then onlyEpochs e t else onlyEpochs e u := apply_ite ..
@[simp] theorem onlyEpochs_tset (e : Nat → Prop) (k v : Nat) (t : Tbl Nat) (h : ¬ e k) :
    onlyEpochs e (tset 0 k v t) = onlyEpochs e t := by
  funext ⟨j, hj⟩
  exact tget_tset_ne _ _ _ _ _ _ fun hkj => h (hkj ▸ hj)

theorem each_apart_mem {p e : Nat → Prop} {α : Type} (f : α → State → State) (l : List α)
    (h : ∀ a ∈ l, ∀ s, Apart p e s (f a s)) (s : State) : Apart p e s (each l f s) := by
  induction l generalizing s with
  | nil => exact Apart.refl s
  | cons a t ih =>
    exact (h a (List.mem_cons_self ..) s).trans (ih (fun b hb => h b (List.mem_cons_of_mem _ hb)) (f a s))

@[simp] theorem each_apart {p e : Nat → Prop} {α : Type} (f : α → State → State) (l : List α)
    (h : ∀ a s, Apart p e s (f a s)) (s : State) : Apart p e s (each l f s) := each_apart_mem f l (fun a _ => h a) s

/-- A return of fields to their reset values, none of them under a key of `p`. -/
theorem resetFlds_apart {p e : Nat → Prop} (b : Nat) (fs : List Fld) (h : ∀ f ∈ fs, ∀ i < f.n, ¬ p (f.key b i))
    (s : State) : Apart p e s (resetFlds b fs s) :=
  each_apart_mem (fun f s => (List.range f.n).foldl (fun s i => wr b f (f.reset i) s i) s) fs (fun f hf s =>
    each_apart_mem (fun i s => wr b f (f.reset i) s i) _ (fun i hi s => by
      simp [h f hf i (List.mem_range.mp hi)]) s) s

theorem resetFlags_apart {p e : Nat → Prop} (b : Nat) (l : List Fld)
    (h : ∀ f ∈ l.filter (·.acc == .w1c), ∀ i < f.n, ¬ p (f.key b i)) (s : State) : Apart p e s (resetFlags b l s) :=
  resetFlds_apart b _ h s

/-! #### Locks and epochs -/

/-- No key of `p` lies in the second, third or fourth word of a 16-byte block, where a lock's registers lie. -/
abbrev OffLocks (p : Nat → Prop) : Prop := ∀ k, p k → k / 32 % 16 = 0

theorem not_lockUnit {p : Nat → Prop} (h : OffLocks p) : ¬ p (R.LOCK_BROKEN_CNT_COUNT.key lockUnitB 0) := fun hk => by
  have := h _ hk
  revert this
  decide

theorem not_lockWord {p : Nat → Prop} (h : OffLocks p) (n : Nat) (f : Fld)
    (hf : f.loAt 0 < 32 ∧ f.offAt 0 < 16 ∧ 0 < f.offAt 0) : ¬ p (f.key (lockB n) 0) := fun hk => by
  have := h _ hk
  simp only [Fld.key, lockB, Fld.loAt, Fld.offAt] at *
  omega

theorem breakLock_apart {p e : Nat → Prop} (h : OffLocks p) (n cause : Nat) (s : State) :
    Apart p e s (breakLock n cause s) := by
  simp [breakLock, freeLock, not_lockWord h n R.LOCK_STAT_BROKEN (by decide),
    not_lockWord h n R.LOCK_STAT_CAUSE (by decide), not_lockWord h n R.LOCK_PREV_OWNER (by decide),
    not_lockWord h n R.LOCK_STAT_OWNER (by decide)]

theorem breakOwned_apart {p e : Nat → Prop} (h : OffLocks p) (q : Nat → Bool) (s : State) :
    Apart p e s (breakOwned q s) := each_apart _ _ (fun n s => breakLock_apart h n 1 s) s

theorem trigger_apart {p e : Nat → Prop} (h : OffLocks p) (cls i c : Nat) (he : ¬ e (512 * cls + i)) (s : State) :
    Apart p e s (trigger cls i c s) := by
  unfold trigger
  extract_lets s1 s2 s3
  have h3 : Apart p e s s3 := by simp [s3, s2, s1, he]
  split
  · exact h3.trans (breakOwned_apart h _ s3)
  split
  · exact h3.trans (breakOwned_apart h _ s3)
  · exact h3

/-- The trigger of a class whose agents hold no locks. -/
theorem trigger_apart_unowned {p e : Nat → Prop} (cls i c : Nat) (h0 : cls ≠ 0) (h5 : cls ≠ 5)
    (he : ¬ e (512 * cls + i)) (s : State) : Apart p e s (trigger cls i c s) := by
  simp [trigger, h0, h5, he]

/-! #### A channel's words -/

/-- No key of `p` lies in the block of channel `n`. -/
abbrev OffChannel (p : Nat → Prop) (n : Nat) : Prop := ∀ k, p k → k / 32 / 0x4000 ≠ 0x400 + n

theorem not_channelWord {p : Nat → Prop} {n : Nat} (h : OffChannel p n) (f : Fld) (i : Nat)
    (hf : f.loAt i < 32 ∧ f.offAt i < 0x4000) : ¬ p (f.key (chB n) i) := fun hk => by
  have := h _ hk
  simp only [Fld.key, chB, Fld.loAt, Fld.offAt] at *
  omega

section Channel
variable {p e : Nat → Prop} {n : Nat} (h : OffChannel p n)
include h

theorem setChState_apart (x : ChState) (s : State) : Apart p e s (setChState n x s) := by
  simp [setChState, not_channelWord h R.CH_STATUS_STATE 0 (by decide)]

theorem toOff_apart (park : Bool) (s : State) : Apart p e s (toOff n park s) :=
  (setChState_apart h .off s).trans (idleChannel_quiet n park _).apart

theorem drain_apart (r : Nat) (s : State) : Apart p e s (drain n r s) := by
  unfold drain
  extract_lets r s1 w
  have h1 : Apart p e s s1 := setChState_apart h .draining s
  clear_value s1
  split
  · extract_lets s2
    have h2 : Apart p e s s2 := h1.trans (stopFix_quiet ..).apart
    clear_value s2
    split
    · split
      · exact h2.trans (seqHalt_quiet ..).apart
      · exact h2
    · exact h2
  · simpa using h1

theorem chFault_apart (cause : Nat) (s : State) : Apart p e s (chFault n cause s) := by
  have hgo (s : State) : Apart p e s (setChState n .faulted (wr (chB n) R.CH_STATUS_FAULT cause s)) :=
    Apart.trans (by simp [not_channelWord h R.CH_STATUS_FAULT 0 (by decide)]) (setChState_apart h .faulted _)
  unfold chFault
  extract_lets go
  split
  · exact Apart.refl s
  · split
    · exact hgo s
    · exact Apart.refl s
  · have h1 : Apart p e s (withdraw n 3 s.ht false none (closeLast n s)) :=
      (closeLast_quiet n s).apart.trans (withdraw_quiet ..).apart
    exact (h1.trans (hgo _)).trans (idleChannel_quiet n true _).apart

theorem chReset_apart (wd : Bool) (he : ¬ e (512 * 2 + n)) (s : State) : Apart p e s (chReset wd n s) := by
  have hoff (u : State) : Apart p e u (toOff n true u) := toOff_apart h true u
  have htrig (c : Nat) (u : State) : Apart p e u (trigger 2 n c u) :=
    trigger_apart_unowned 2 n c (by decide) (by decide) he u
  simp [chReset, hoff, htrig, not_channelWord h R.CH_STATUS_FAULT 0 (by decide),
    not_channelWord h R.SEQ_STATUS_FAULT 0 (by decide)]

theorem dieChannel_apart (he : ¬ e (512 * 2 + n)) (s : State) : Apart p e s (dieChannel n s) := by
  have hreset := chReset_apart h false he s
  have hflags (u : State) : Apart p e u (resetFlags (chB n) R.chBlk u) := resetFlags_apart (chB n) R.chBlk (fun f hf i hi =>
    not_channelWord h f i ((by decide : ∀ f ∈ R.chBlk.filter (·.acc == .w1c), ∀ i < f.n, f.loAt i < 32 ∧ f.offAt i < 0x4000)
      f hf i hi)) u
  unfold dieChannel
  extract_lets s1
  have h1 : Apart p e s s1 := by simpa [s1] using hreset
  exact h1.trans (hflags s1)

end Channel
end Sys2Proof.PowerModes
end

section
namespace Sys2Proof.PowerModes
open Sys2Proof Sys2Proof.Machine Sys2Proof.Safety Sys2Proof.Scope

/-! #### The device's mode -/

/-- No key of `p` lies in the word HUB_MODE. -/
abbrev OffMode (p : Nat → Prop) : Prop := ∀ k, p k → k / 32 ≠ 0x10

theorem not_modeWord {p : Nat → Prop} (h : OffMode p) :
    ¬ p (R.HUB_MODE_MODE.key hubB 0) ∧ ¬ p (R.HUB_MODE_CAUSE.key hubB 0) :=
  ⟨fun hk => h _ hk rfl, fun hk => h _ hk rfl⟩

/-- A change of the mode writes its two fields of HUB_MODE and leaves everything else alone. -/
theorem setMode_still (m : Mode) (cause : Nat) (s : State) :
    Still (wr hubB R.HUB_MODE_MODE m.code (wr hubB R.HUB_MODE_CAUSE cause s)) (setMode m cause s) := by
  simp [setMode]

theorem setMode_apart {p e : Nat → Prop} (h : OffMode p) (m : Mode) (cause : Nat) (s : State) :
    Apart p e s (setMode m cause s) :=
  Apart.trans (by simp [not_modeWord h]) (setMode_still m cause s).apart

theorem rd_setMode (m : Mode) (cause : Nat) (s : State) {f : Fld} (hf : shielded (f.key hubB 0) = true)
    (hm : R.HUB_MODE_MODE.key hubB 0 ≠ f.key hubB 0) (hc : R.HUB_MODE_CAUSE.key hubB 0 ≠ f.key hubB 0) :
    rd (setMode m cause s) hubB f = rd s hubB f := by
  rw [rd_of_shieldedRegs (setMode_still m cause s).1 hf, rd_wr_ne _ _ _ _ _ _ _ _ hm, rd_wr_ne _ _ _ _ _ _ _ _ hc]

theorem setMode_cause (m : Mode) (cause : Nat) (s : State) :
    rd (setMode m cause s) hubB R.HUB_MODE_CAUSE = cause % 2 ^ R.HUB_MODE_CAUSE.w := by
  rw [rd_of_shieldedRegs (setMode_still m cause s).1 (by decide), rd_wr_ne _ _ _ _ _ _ _ _ (by decide), rd_wr_same]

section Degrade
variable {f : Fld} (hf : shielded (f.key hubB 0) = false)
include hf

theorem setDegrade_apart {p e : Nat → Prop} (h : OffMode p) (v : Bool) (s : State) :
    Apart p e s (setDegrade f v s) := by
  have hmode (m : Mode) (c : Nat) (u : State) : Apart p e u (setMode m c u) := setMode_apart h m c u
  simp [setDegrade, hmode, hf]

/-- In no other mode than SHOW and DEGRADED a mark of a degraded unit changes the mode. -/
theorem setDegrade_still (v : Bool) (s : State) (h1 : s.mode ≠ .show_) (h2 : s.mode ≠ .degraded) :
    Still s (setDegrade f v s) := by
  unfold setDegrade
  split
  · exact Still.refl s
  · extract_lets s1 s2
    have hs : Still s s2 := by simp [s2, s1, hf]
    have hm : s2.mode = s.mode := congrArg Mode.ofCode (rd_of_shieldedRegs hs.1 (by decide))
    rw [if_neg (by simp [hm, h1]), if_neg (by simp [hm, h2])]
    exact hs

end Degrade

/-- The hub's part in a start-up. -/
def startKey (h : HubSt) : Bool × Bool × Bool × Nat := (h.perst, h.starting, h.returning, h.t1)

/-- The key lies in the word HUB_MODE. -/
abbrev modeKey (k : Nat) : Prop := k / 32 = 0x10

/-- The start-up goes on, and outside SHOW and DEGRADED the word HUB_MODE is what it was. -/
def Steady (s t : State) : Prop :=
  (s.mode ≠ .show_ → s.mode ≠ .degraded → only modeKey (shieldedRegs t.regs) = only modeKey (shieldedRegs s.regs))
    ∧ startKey (calm t.hub) = startKey (calm s.hub)

theorem mode_of_only {s t : State} (h : only modeKey (shieldedRegs t.regs) = only modeKey (shieldedRegs s.regs)) :
    t.mode = s.mode := congrArg Mode.ofCode (rd_of_only h (by decide) (by decide))

theorem Steady.refl (s : State) : Steady s s := ⟨fun _ _ => rfl, rfl⟩

theorem Steady.trans {s t u : State} (h : Steady s t) (k : Steady t u) : Steady s u := by
  obtain ⟨h1, h2⟩ := h
  obtain ⟨k1, k2⟩ := k
  refine ⟨fun hs hd => ?_, k2.trans h2⟩
  have hm := mode_of_only (h1 hs hd)
  exact (k1 (hm ▸ hs) (hm ▸ hd)).trans (h1 hs hd)

theorem Apart.steady {e : Nat → Prop} {s t : State} (h : Apart modeKey e s t) : Steady s t :=
  ⟨fun _ _ => h.1, congrArg startKey h.2.1⟩

theorem Still.steady {s t : State} (h : Still s t) : Steady s t :=
  Apart.steady (Still.apart h : Apart modeKey (fun _ => False) s t)

theorem each_steady_mem {α : Type} (f : α → State → State) (l : List α) (h : ∀ a ∈ l, ∀ s, Steady s (f a s))
    (s : State) : Steady s (each l f s) := by
  induction l generalizing s with
  | nil => exact Steady.refl s
  | cons a t ih => exact (h a (List.mem_cons_self ..) s).trans (ih (fun b hb => h b (List.mem_cons_of_mem _ hb)) (f a s))

theorem each_steady {α : Type} (f : α → State → State) (l : List α) (h : ∀ a s, Steady s (f a s)) (s : State) :
    Steady s (each l f s) := each_steady_mem f l (fun a _ => h a) s

theorem when_steady (c : Bool) (f : State → State) (s : State) (h : Steady s (f s)) : Steady s (when_ c f s) := by
  cases c
  · exact Steady.refl s
  · exact h

theorem setDegrade_steady {f : Fld} (hf : shielded (f.key hubB 0) = false) (v : Bool) (s : State) :
    Steady s (setDegrade f v s) := by
  refine ⟨fun h1 h2 => congrArg (only modeKey) (setDegrade_still hf v s h1 h2).1, ?_⟩
  have h : Apart (fun _ => False) (fun _ => False) s (setDegrade f v s) := setDegrade_apart hf (fun _ h => h.elim) v s
  exact congrArg startKey h.2.1

theorem changeReplace_apart {p e : Nat → Prop} (h : OffMode p) {g : State → State} (hg : Quiet g) (s : State) :
    Apart p e s (changeReplace g s) := by
  have hrep (v : Bool) (u : State) : Apart p e u (setDegrade R.HUB_DEGRADE_REPLACE v u) :=
    setDegrade_apart (by simp) h v u
  unfold changeReplace
  extract_lets whole t up dies
  have ht : Apart p e s t := (hg s).apart
  clear_value t
  split
  · exact ht
  · refine (ht.trans ?_).trans (hrep _ _)
    simp

theorem changeReplace_steady {g : State → State} (hg : Quiet g) (s : State) : Steady s (changeReplace g s) := by
  unfold changeReplace
  extract_lets whole t up dies
  have ht : Steady s t := (hg s).steady
  clear_value t
  split
  · exact ht
  · refine (ht.trans (Still.steady ?_)).trans (setDegrade_steady (by simp) _ _)
    simp

section Replace
variable {f : Fld} (hf : shielded (f.key healthB 0) = false)
include hf

theorem setReplace_apart {p e : Nat → Prop} (h : OffMode p) (v : Bool) (s : State) : Apart p e s (setReplace f v s) :=
  changeReplace_apart h (fun s => by simp [hf]) s

theorem setReplace_steady (v : Bool) (s : State) : Steady s (setReplace f v s) :=
  changeReplace_steady (fun s => by simp [hf]) s

theorem setReplaceDie_steady {m : Fld} (hm : shielded (m.key healthB 0) = false) (d : Nat) (s : State) :
    Steady s (setReplaceDie f m d s) := changeReplace_steady (fun s => by simp [hf, hm]) s

end Replace
end Sys2Proof.PowerModes
end

section
namespace Sys2Proof.PowerModes
open Sys2Proof Sys2Proof.Machine Sys2Proof.Safety Sys2Proof.Scope

theorem not_shielded_exhausted (d : Nat) : shielded (R.HUB_D2D_STATUS_EXHAUSTED.key (d2dB d) 0) = false := by
  simp only [not_shielded_iff, Fld.key, R.HUB_D2D_STATUS_EXHAUSTED, d2dB, dieB]
  omega

/-- The spare lanes left on each die are shown. -/
theorem showSpares_quiet : Quiet (each dies fun d s =>
    let l := [0, 1].flatMap (fun k => [0, 1].map (fun dir => rd s (d2dB d) (spareFld k dir)))
    wr healthB R.HUB_SPARE_SUM_UCIE_MIN (leastD 4 l)
      (wrB (d2dB d) R.HUB_D2D_STATUS_EXHAUSTED (d2dExhausted s d) s) d) :=
  each_quiet_mem _ _ fun d hd s => by
    have hmin : shielded (R.HUB_SPARE_SUM_UCIE_MIN.key healthB d) = false :=
      (by decide : ∀ d ∈ dies, shielded (R.HUB_SPARE_SUM_UCIE_MIN.key healthB d) = false) d hd
    simp [hmin, not_shielded_exhausted]

theorem refreshUcie_apart {p e : Nat → Prop} (h : OffMode p) (s : State) : Apart p e s (refreshUcie s) :=
  (showSpares_quiet s).apart.trans (setReplace_apart (by simp) h _ _)

theorem refreshUcie_steady (s : State) : Steady s (refreshUcie s) :=
  (showSpares_quiet s).steady.trans (setReplace_steady (by simp) _ _)

theorem refreshOffline_apart {p e : Nat → Prop} (h : OffMode p) (s : State) : Apart p e s (refreshOffline s) :=
  setDegrade_apart (by simp) h _ s

theorem refreshOffline_steady (s : State) : Steady s (refreshOffline s) := setDegrade_steady (by simp) _ s

/-! #### Dies held in reset -/

/-- The die's status words, and its place in the table of dies, once it is held in reset. -/
def holdWords (d : Nat) (iso : Bool) (s : State) : State :=
  let b := dieB d
  let s := wrB b R.HUB_DIE_STATUS_IN_RESET true (wrB b R.HUB_DIE_STATUS_ISOLATED iso s)
  let s := wrB b R.HUB_DIE_STATUS_READY false (wrB b R.HUB_DIE_STATUS_CLK_LOCK false s)
  modDie d (fun x => { x with leftAt := 0, traffic := [], avsDown := 0, avsShort := 0, avsLong := 0 }) s

/-- The requests of a die that is held end, and its epoch advances. -/
def sweepRequests (d : Nat) (s : State) : State :=
  requesterReset (agentDie · == some d) (trigger 1 d 0 (handoverSelfRefresh d s))

/-- The channels of a die that is held are reset. -/
def sweepChannels (d : Nat) (s : State) : State := each (channelsOf d) dieChannel (dieOxbow d s)

/-- The other units of a die that is held are reset, and its channels go dark. -/
def sweepUnits (d : Nat) (s : State) : State :=
  let s := triggerDdr d (resetFlags (ddrDieB d) R.ddrDieBlk (dieLoops d s))
  each (channelsOf d) refreshSafeDark s

/-- What is reset on a die that is held. -/
def sweepDie (d : Nat) (s : State) : State := sweepUnits d (sweepChannels d (sweepRequests d s))

theorem holdDie_eq (d : Nat) (iso : Bool) (s : State) :
    holdDie d iso s = refreshOffline (sweepDie d (holdWords d iso s)) := rfl

theorem abortDram_quiet (d m : Nat) : Quiet fun s => (abortDram d m s).2 := fun s => by
  unfold abortDram
  exact Still.trans (t := { s with dreqs := s.dreqs.filter fun q => !(dieOf q.addr == d && chanOf s q.addr == m) })
    (by simp) (each_quiet _ _ (fun q s => by split <;> [simp; (split <;> simp)]) _)

theorem triggerDdr_apart {p e : Nat → Prop} (d : Nat) (he : ∀ m < 8, ¬ e (512 * 4 + (8 * d + m))) (s : State) :
    Apart p e s (triggerDdr d s) :=
  each_apart_mem _ _ (fun m hm s => ((abortDram_quiet d m s).apart : Apart p e s (abortDram d m s).2).trans
    (trigger_apart_unowned 4 _ _ (by decide) (by decide) (he m (List.mem_range.mp hm)) _)) s

theorem dieLoops_apart {p e : Nat → Prop} (d : Nat) (he : ∀ c < 64, ¬ e (512 * 3 + (64 * d + c))) (s : State) :
    Apart p e s (dieLoops d s) := by
  have hslots : Quiet (each ((List.range 512).map (512 * d + ·))
    (fun k s => if s.slotState k = .idle then s else slotReset k s)) :=
    each_quiet _ _ fun k s => by simp
  have heddies : Quiet (each ((List.range 17).map (eddyKey d)) (fun e s =>
      wr (edB e) R.LOOP_EDDY_STATUS_STATE 0 (resetFlags (edB e) R.eddyBlk (eddyEmpty e s)))) := by
    have hflags (e : Nat) : Quiet (resetFlags (edB e) R.eddyBlk) :=
      resetFlags_quiet _ _ fun f hf i hi => not_shielded_edB e f i
      ((by decide : ∀ f ∈ R.eddyBlk.filter (·.acc == .w1c), ∀ i < f.n, offWords 0x40 f i = true) f hf i hi)
    exact each_quiet _ _ fun e s => by simp [eddyEmpty, hflags]
  have hcores (u : State) : Apart p e u (each ((List.range 64).map (64 * d + ·)) (fun c s =>
      trigger 3 c 0 (refreshCore c (modCore c (fun x => { migTo := none, load := x.load }) s))) u) :=
    each_apart_mem _ _ (fun c hc s => by
      obtain ⟨i, hi, rfl⟩ := List.mem_map.mp hc
      exact Apart.trans (Still.apart (by simp)) (trigger_apart_unowned 3 _ 0 (by decide) (by decide)
        (he i (List.mem_range.mp hi)) _)) u
  unfold dieLoops
  exact ((hslots s).apart.trans (hcores _)).trans (heddies _).apart

/-- The epochs of the units of a die: its channels, its loop cores and its DRAM controllers. -/
def dieUnit (d k : Nat) : Prop :=
  (∃ n ∈ channelsOf d, k = 512 * 2 + n) ∨ (∃ c < 64, k = 512 * 3 + (64 * d + c)) ∨ ∃ m < 8, k = 512 * 4 + (8 * d + m)

section Sweep
variable {p e : Nat → Prop} (d : Nat)

theorem sweepRequests_apart (hd : ¬ e (512 * 1 + d)) (s : State) : Apart p e s (sweepRequests d s) := by
  have htrig (u : State) : Apart p e u (trigger 1 d 0 u) := trigger_apart_unowned 1 d 0 (by decide) (by decide) hd u
  simp [sweepRequests, htrig]

theorem sweepChannels_apart (hch : ∀ n ∈ channelsOf d, OffChannel p n) (he : ∀ n ∈ channelsOf d, ¬ e (512 * 2 + n))
    (s : State) : Apart p e s (sweepChannels d s) :=
  (dieOxbow_quiet d s).apart.trans (each_apart_mem dieChannel _ (fun n hn u => dieChannel_apart (hch n hn) (he n hn) u) _)

theorem sweepUnits_apart (he : ∀ k, dieUnit d k → ¬ e k) (s : State) : Apart p e s (sweepUnits d s) := by
  have hflags : Quiet (resetFlags (ddrDieB d) R.ddrDieBlk) := resetFlags_quiet _ _ fun f hf i hi =>
    not_shielded_ddrDieB d f i ((by decide : ∀ f ∈ R.ddrDieBlk.filter (·.acc == .w1c), ∀ i < f.n,
      f.loAt i < 32 ∧ f.offAt i < 0x1000) f hf i hi)
  have h1 : Apart p e s (dieLoops d s) := dieLoops_apart d (fun c hc => he _ (.inr (.inl ⟨c, hc, rfl⟩))) s
  have h2 (u : State) : Apart p e u (triggerDdr d u) := triggerDdr_apart d (fun m hm => he _ (.inr (.inr ⟨m, hm, rfl⟩))) u
  have h3 (u : State) : Apart p e u (each (channelsOf d) refreshSafeDark u) :=
    (each_quiet refreshSafeDark _ refreshSafeDark_quiet u).apart
  exact ((h1.trans (hflags _).apart).trans (h2 _)).trans (h3 _)

theorem sweepDie_apart (hch : ∀ n ∈ channelsOf d, OffChannel p n) (hd : ¬ e (512 * 1 + d))
    (he : ∀ k, dieUnit d k → ¬ e k) (s : State) : Apart p e s (sweepDie d s) :=
  ((sweepRequests_apart d hd s).trans (sweepChannels_apart d hch (fun n hn => he _ (.inl ⟨n, hn, rfl⟩)) _)).trans
    (sweepUnits_apart d he _)

end Sweep
end Sys2Proof.PowerModes
end

section
namespace Sys2Proof.PowerModes
open Sys2Proof Sys2Proof.Machine Sys2Proof.Safety Sys2Proof.Scope

/-! #### The start-up -/

theorem not_modeKey {b : Nat} (hb : 0x11 ≤ b) (f : Fld) (i : Nat) (hf : f.loAt i < 32) : ¬ modeKey (f.key b i) := by
  simp only [modeKey, Fld.key, Fld.loAt] at *
  omega

theorem wr_steady {b : Nat} (hb : 0x11 ≤ b) (f : Fld) (v : Nat) (i : Nat) (hf : f.loAt i < 32) (s : State) :
    Steady s (wr b f v s i) :=
  ⟨fun _ _ => only_wr modeKey b f v s i (not_modeKey hb f i hf), rfl⟩

theorem wrB_steady {b : Nat} (hb : 0x11 ≤ b) (f : Fld) (v : Bool) (i : Nat) (hf : f.loAt i < 32) (s : State) :
    Steady s (wrB b f v s i) := wr_steady hb f _ i hf s

theorem holdWords_steady (d : Nat) (iso : Bool) (s : State) : Steady s (holdWords d iso s) := by
  have hb : 0x11 ≤ dieB d := by simp only [dieB]; omega
  have hw (f : Fld) (hf : f.loAt 0 < 32) (v : Bool) (u : State) : Steady u (wrB (dieB d) f v u) := wrB_steady hb f v 0 hf u
  unfold holdWords
  extract_lets b s1 s2
  have h1 : Steady s s1 :=
    (hw R.HUB_DIE_STATUS_ISOLATED (by decide) iso s).trans (hw R.HUB_DIE_STATUS_IN_RESET (by decide) true _)
  have h2 : Steady s1 s2 :=
    (hw R.HUB_DIE_STATUS_CLK_LOCK (by decide) false s1).trans (hw R.HUB_DIE_STATUS_READY (by decide) false _)
  clear_value s2
  exact (h1.trans h2).trans ⟨fun _ _ => rfl, rfl⟩

theorem offChannel_modeKey (n : Nat) : OffChannel modeKey n := fun k hk => by
  simp only [modeKey] at hk
  omega

theorem sweepDie_steady (d : Nat) (s : State) : Steady s (sweepDie d s) :=
  Apart.steady (sweepDie_apart d (fun n _ => offChannel_modeKey n) (fun h => h) (fun _ _ h => h) s)

theorem holdDie_steady (d : Nat) (iso : Bool) (s : State) : Steady s (holdDie d iso s) :=
  ((holdWords_steady d iso s).trans (sweepDie_steady d _)).trans (refreshOffline_steady _)

theorem chFault_steady (n cause : Nat) (s : State) : Steady s (chFault n cause s) :=
  Apart.steady (chFault_apart (offChannel_modeKey n) cause s : Apart modeKey (fun _ => False) s _)

theorem slotHold_steady (k cause : Nat) (s : State) : Steady s (slotHold k cause s) := by
  unfold slotHold
  split
  · exact Steady.refl s
  extract_lets comp s1 s2 s3 s4 s5
  have h : Still s s5 := by simp [s5, s4, s3, s2, s1]
  clear_value s5
  split
  · exact h.steady.trans (chFault_steady _ 5 s5)
  · exact h.steady

theorem noSpare_steady (c : Nat) (s : State) : Steady s (noSpare c s) := by
  unfold noSpare
  extract_lets s1 s2 s3 s4
  have h1 : Still s s1 := by simp [s1]
  have h2 : Steady s1 s2 := each_steady _ _ (fun k s => slotHold_steady k 4 s) s1
  clear_value s2
  have h4 : Still s2 s4 := by simp [s4, s3]
  have h5 : Steady s4 (setDegrade R.HUB_DEGRADE_CONTAINED true s4) := setDegrade_steady (by simp) _ _
  exact (((h1.steady.trans h2).trans h4.steady).trans h5).trans (Still.steady (by simp))

theorem refreshPipe_steady (d : Nat) (s : State) : Steady s (refreshPipe d s) := by
  unfold refreshPipe
  split
  · exact setReplaceDie_steady (by simp) (by simp) d s
  · exact Steady.refl s

theorem spareCores_steady (d : Nat) (hd : d < 4) (s : State) : Steady s (spareCores d s) := by
  have hsum : shielded (R.HUB_SPARE_SUM_CORES_FREE.key healthB d) = false :=
    (by decide : ∀ d < 4, shielded (R.HUB_SPARE_SUM_CORES_FREE.key healthB d) = false) d hd
  unfold spareCores
  extract_lets l free s1
  have h1 : Still s s1 := by simp [s1, hsum]
  exact h1.steady.trans (when_steady _ _ s1 (setReplaceDie_steady (by simp) (by simp) d s1))

theorem sramFailed_steady (f : SramFail) (s : State) : Steady s (sramFailed f s) := by
  unfold sramFailed
  split
  case h_1 d p =>
    split
    · exact Steady.refl s
    · extract_lets n s1 s2
      have h1 : Still s s1 := retirePipe_quiet _ _ s
      have h2 : Still s1 s2 := by
        unfold s2
        split
        · exact bindPipe_quiet ..
        · exact Still.refl s1
      exact ((h1.trans h2).trans (spareChanged_quiet s2)).steady.trans (refreshPipe_steady _ _)
  case h_2 d p =>
    split
    · exact Steady.refl s
    · extract_lets c s1 s2
      have h1 : Still s s1 := by simp [s1]
      have h2 : Steady s1 s2 := by
        unfold s2
        clear_value s1 c
        rcases c with _ | c
        · exact Steady.refl s1
        dsimp only
        cases freeSpare s1 d
        · exact Steady.trans (t := { s1 with serve := tset 0 c 128 s1.serve }) (Still.steady (by simp)) (noSpare_steady c _)
        · exact Still.steady (by simp)
      exact (h1.steady.trans h2).trans (spareCores_steady d d.isLt s2)
  case h_3 d => exact holdDie_steady d true s
  case h_4 => exact setDegrade_steady (by simp) true s
end Sys2Proof.PowerModes
end

section
namespace Sys2Proof.PowerModes
open Sys2Proof Sys2Proof.Machine Sys2Proof.Safety Sys2Proof.Scope

theorem le_spareFld (d : Nat) : 0x11 ≤ d2dB d := by simp only [d2dB, dieB]; omega

theorem spareFld_loAt (k dir : Nat) : (spareFld k dir).loAt 0 < 32 := by
  unfold spareFld
  split <;> decide

theorem modFld_loAt (k : Nat) : (modFld k).loAt 0 < 32 := by
  unfold modFld
  split <;> decide

theorem startModule_steady (d k : Nat) (x : Bool × Nat × Nat) (s : State) : Steady s (startModule d k x s) := by
  have hw (f : Fld) (hf : f.loAt 0 < 32) (v : Nat) (u : State) : Steady u (wr (d2dB d) f v u) :=
    wr_steady (le_spareFld d) f v 0 hf u
  unfold startModule
  extract_lets r tx rx ok s1 s2
  have h1 : Steady s s1 := by
    unfold s1
    clear_value ok
    cases ok
    · exact ⟨fun _ _ => rfl, rfl⟩
    · exact (when_steady _ _ s (spareChanged_quiet s).steady).trans ⟨fun _ _ => rfl, rfl⟩
  clear_value s1
  have h2 : Steady s1 s2 := (hw (spareFld k 1) (spareFld_loAt k 1) _ s1).trans (hw (spareFld k 0) (spareFld_loAt k 0) _ _)
  exact (h1.trans h2).trans (hw (modFld k) (modFld_loAt k) _ s2)

theorem startLinks_steady (x : StartIn) (s : State) : Steady s (startLinks x s) := by
  have hdies (u : State) : Steady u (each dies (fun d s =>
      if [0, 1].all (fun k => modState s d k == 0) then holdDie d true s else s) u) :=
    each_steady _ _ (fun d s => by
      split
      · exact holdDie_steady d true s
      · exact Steady.refl s) u
  unfold startLinks
  extract_lets s1
  have h1 : Steady s s1 := each_steady _ _ (fun i s => startModule_steady _ _ _ s) s
  exact (h1.trans (hdies s1)).trans (refreshUcie_steady _)

/-- The controllers of a die are started. -/
theorem startChannels_quiet (d rate : Nat) (l : List Dimm) (hl : l.length = 8) :
    Quiet (each l.zipIdx fun e s => startChannel d e.2 e.1 rate s) := each_quiet_mem _ _ fun e he s =>
  startChannel_quiet d e.2 e.1 rate (by have := List.snd_lt_of_mem_zipIdx he; omega) s

theorem startMemory_steady (d : Nat) (hd : d < 4) (x : StartIn) (s : State) : Steady s (startMemory d x s) := by
  have hb : 0x11 ≤ ddrDieB d := by simp only [ddrDieB, dieB]; omega
  have hwB (f : Fld) (hf : f.loAt 0 < 32) (v : Bool) (u : State) : Steady u (wrB (ddrDieB d) f v u) :=
    wrB_steady hb f v 0 hf u
  have hw (f : Fld) (hf : f.loAt 0 < 32) (v : Nat) (u : State) : Steady u (wr (ddrDieB d) f v u) := wr_steady hb f v 0 hf u
  unfold startMemory
  extract_lets l b rate s1 a same usable s2 n s3
  have h1 : Steady s s1 := (startChannels_quiet d rate l (by simp [l]) s).steady
  clear_value s1 same n usable
  split
  · exact ((h1.trans (hwB R.DDR_DIE_STATUS_ORG_MISMATCH (by decide) true s1)).trans (holdDie_steady d true _)).trans
      (refreshOffline_steady _)
  · have h2 : Steady s1 s2 := ((hwB R.DDR_DIE_STATUS_MEM_OK (by decide) true s1).trans
      (hw R.DDR_DIE_CAP_GIB (by decide) (8 * usable) _)).trans (loadMap_quiet d a.pageBits _).steady
    clear_value s2
    have h3 : Steady s2 s3 := by
      unfold s3
      split
      · exact (hwB R.DDR_DIE_STATUS_INIT_DONE (by decide) true s2).trans (hw R.DDR_DIE_STATUS_INIT_PROGRESS
          (by decide) 255 _)
      · exact hw R.DDR_DIE_STATUS_INIT_PROGRESS (by decide) _ s2
    clear_value s3
    exact ((h1.trans h2).trans h3).trans ((refreshRanksFree_quiet d hd s3).trans (refreshDie_quiet d _)).steady

theorem raise_steady (code ch arg : Nat) (s : State) : Steady s (raise code ch arg s) := Still.steady (by simp)

theorem refreshRecs_steady (s : State) : Steady s (refreshRecs s) := by
  have hcfg (i : Nat) (f : Fld) (hf : f.loAt i < 32) (v : Nat) (u : State) : Steady u (wr cfgB f v u i) :=
    wr_steady (by decide) f v i hf u
  unfold refreshRecs
  extract_lets s1 few s2 s3
  have h1 : Steady s s1 := each_steady_mem _ _ (fun k hk u => by
    have hlo (f : Fld) (h : f ∈ [R.CFG_REC_VALID, R.CFG_REC_MATCH, R.CFG_REC_DEFAULT,
      R.CFG_REC_GEN_GEN]) : f.loAt (k - 1) < 32 :=
      (by decide : ∀ k ∈ recTypes, ∀ f ∈ [R.CFG_REC_VALID, R.CFG_REC_MATCH, R.CFG_REC_DEFAULT, R.CFG_REC_GEN_GEN],
        f.loAt (k - 1) < 32) k hk f h
    extract_lets i u1 u2 u3
    have k1 : Steady u u1 := hcfg i R.CFG_REC_VALID (hlo _ (by simp)) _ u
    have k2 : Steady u1 u2 := hcfg i R.CFG_REC_MATCH (hlo _ (by simp)) _ u1
    have k3 : Steady u2 u3 := hcfg i R.CFG_REC_DEFAULT (hlo _ (by simp)) _ u2
    exact ((k1.trans k2).trans k3).trans (hcfg i R.CFG_REC_GEN_GEN (hlo _ (by simp)) _ u3)) s
  clear_value s1
  have h2 : Steady s1 s2 := setReplace_steady (by simp) _ s1
  clear_value s2
  have h3 : Steady s2 s3 := setDegrade_steady (by simp) _ s2
  clear_value s3
  exact ((h1.trans h2).trans h3).trans (wr_steady (by decide) R.HUB_SPREC_GEN _ 0 (by decide) s3)

theorem chooseRecords_steady (x : StartIn) (s : State) : Steady s (chooseRecords x s) := by
  unfold chooseRecords
  extract_lets s1 c s2
  have h1 : Still s s1 := each_quiet _ _ (fun e s => by simp) s
  clear_value s1
  have h2 : Still s1 s2 := by simp [s2]
  clear_value s2
  exact ((h1.trans h2).steady.trans (refreshRecs_steady s2)).trans (each_quiet _ _ (fun k s => by simp) _).steady

theorem gaugeFollow_steady (a b : Bool) (s : State) : Steady s (gaugeFollow a b s) := by
  have hold (f : Fld) (hf : f.loAt 0 < 32) (v : Nat) (u : State) : Steady u (wr holdB f v u) :=
    wr_steady (by decide) f v 0 hf u
  have hunc (c : Nat) (u : State) : Steady u (uncertain c u) :=
    (hold R.HOLD_STATUS_UNCERTAIN (by decide) (b2n true) u).trans (raise_steady ..)
  unfold gaugeFollow
  extract_lets s1 s2 s3 low s4
  have h1 : Steady s s1 := when_steady _ _ s (hunc 0 s)
  clear_value s1
  have h2 : Steady s1 s2 := when_steady _ _ s1 (hunc 2 s1)
  clear_value s2
  have h3 : Steady s2 s3 := when_steady _ _ s2 (hold R.HOLD_STATUS_UNCERTAIN (by decide) (b2n true) s2)
  clear_value low s3
  have h4 : Steady s3 s4 := by
    unfold s4
    split
    · exact Steady.refl s3
    · exact (hold R.HOLD_STATUS_CAP_LOW (by decide) (b2n low) s3).trans (setReplace_steady (by simp) _ _)
  clear_value s4
  have h := ((h1.trans h2).trans h3).trans h4
  split
  · exact h
  · exact (h.trans (hold R.HOLD_STATUS_ASSURE (by decide) _ s4)).trans (raise_steady ..)

theorem setCharge_steady (q : Int) (s : State) : Steady s (setCharge q s) :=
  Steady.trans (t := { s with hub := { s.hub with charge := (max 0 (min q (1000 * capacity s))).toNat } })
    ⟨fun _ _ => rfl, rfl⟩ (wr_steady (by decide) R.HOLD_GAUGE_CHARGE _ 0 (by decide) _)

theorem gauge_steady (f : State → State) (s : State) (h : Steady s (f s)) : Steady s (Machine.gauge f s) := by
  unfold Machine.gauge
  split
  · exact Steady.refl s
  · exact h.trans (gaugeFollow_steady _ _ _)

theorem applyConfig_steady (s : State) : Steady s (applyConfig s) := by
  unfold applyConfig
  extract_lets p m s1 s2
  have h1 : Steady s s1 := ⟨fun _ _ => rfl, rfl⟩
  clear_value s1 p
  split
  · exact h1.trans (masterAgain_quiet s1).steady
  · have h2 : Steady s1 s2 := by
      unfold s2
      split
      · exact (wr_steady (by decide) R.TIME_CTRL_PRIMARY _ 0 (by decide) s1).trans
          (wr_steady (by decide) R.TIME_CTRL_ROLE _ 0 (by decide) _)
      · exact Steady.refl s1
    clear_value s2
    have h3 : Steady s2 { s2 with hub := { s2.hub with cold := false } } := ⟨fun _ _ => rfl, rfl⟩
    exact ((h1.trans h2).trans h3).trans (roleChanged_quiet _).steady

theorem applyCal_steady (s : State) : Steady s (applyCal s) :=
  Steady.trans (t := { s with curves := s.calRec.curves, cals := s.calRec.cals }) ⟨fun _ _ => rfl, rfl⟩
    (each_steady _ _ (fun e s => wr_steady (by simp only [chB]; omega) R.WEIR_TRIM_TRIM _ 0 (by decide) s) _)

theorem applyCalibration_steady (old : Option (Nat × List Byte)) (s : State) : Steady s (applyCalibration old s) := by
  unfold applyCalibration
  extract_lets g s1 g' s2 s3
  have h1 : Steady s s1 := by
    unfold s1
    split
    · exact ⟨fun _ _ => rfl, rfl⟩
    · split
      · exact Steady.refl s
      · exact ⟨fun _ _ => rfl, rfl⟩
  clear_value s1
  have h2 : Steady s1 s2 := by
    unfold s2
    split
    · next v _ =>
      exact Steady.trans (t := { s1 with hub := { s1.hub with capRecord := v, capWrite := some v, learned := none } })
        ⟨fun _ _ => rfl, rfl⟩ (recDirty_quiet 3 _).steady
    · exact Steady.refl s1
  clear_value s2
  have h3 : Steady s2 s3 := by
    unfold s3
    split
    · refine gauge_steady _ s2 ?_
      refine Steady.trans (t := { s2 with hub := { s2.hub with islandLost := false } }) ⟨fun _ _ => rfl, rfl⟩ ?_
      exact (wr_steady (by decide) R.HOLD_CAPACITY_CAP _ 0 (by decide) _).trans (setCharge_steady _ _)
    · exact Steady.refl s2
  clear_value s3
  exact ((h1.trans h2).trans h3).trans (applyCal_steady s3)

theorem applySpare_steady (old : Option (Nat × List Byte)) (s : State) : Steady s (applySpare old s) := by
  have hused (i : Nat) (v : Bool) (u : State) : Steady u (wrB (ddrB (i / 8) (i % 8)) R.DDR_STATUS_SPARE_USED v u) :=
    wrB_steady (by simp only [ddrB, dieB]; omega) _ v 0 (by decide) u
  have hmod (d k : Nat) (f : D2dSt → D2dSt) (u : State) : Steady u (modD2d d k f u) := ⟨fun _ _ => rfl, rfl⟩
  unfold applySpare
  split
  · exact ⟨fun _ _ => rfl, rfl⟩
  · split
    · exact Steady.refl s
    · extract_lets a b c d e f s1 s2
      have h1 : Steady s s1 := ⟨fun _ _ => rfl, rfl⟩
      clear_value s1
      have h2 : Steady s1 s2 := each_steady _ _ (fun i s => hmod _ _ _ s) s1
      clear_value s2
      exact (h1.trans h2).trans (each_steady _ _ (fun i s => hused i _ s) s2)

theorem repairRow_steady (e : Nat × Nat) (s : State) : Steady s (repairRow e s) := by
  have hrows (r v : Nat) (u : State) : Steady u (wr (ddrB (e.1 / 8) (e.1 % 8)) R.DDR_RANK_ROWS v u r) :=
    wr_steady (by simp only [ddrB, dieB]; omega) _ v r (by simp [Fld.loAt, R.DDR_RANK_ROWS]) u
  unfold repairRow
  extract_lets bank sub r s1 s2
  have h1 : Steady s s1 := Steady.trans (t := { s with spareRows := s.spareRows.erase e }) ⟨fun _ _ => rfl, rfl⟩
    (spareChanged_quiet _).steady
  clear_value s1
  exact (h1.trans (hrows r _ s1)).trans (raise_steady ..)

/-- The health of one die is shown. -/
def healthOfDie (d : Nat) (s : State) : State :=
  let s := refreshRanksFree d s
  let l := [64, 65, 66, 67]
  let s := wr healthB R.HUB_SPARE_SUM_CORES_FREE (l.filter (fun p => !isRetired s d p && !spareUsed s d p)).length s d
  let s := each (l.filter (isRetired s d)) (fun p => wrB (coreB d p) R.LOOP_CORE_STAT_RETIRED true) s
  let s := each (((List.range 64).map (64 * d + ·)).filter (fun c => (servedBy s c).isNone))
    (fun c => wrB (crB c) R.LOOP_CORE_STAT_RETIRED true) s
  let s := when_ (l.any (spareUsed s d)) (setReplaceDie R.HUB_REPLACE_LOOP R.HUB_REPLACE_LOOP_DIES d) s
  refreshPipe d s

theorem refreshHealth_steady (s : State) : Steady s (refreshHealth s) := by
  have hcore (b : Nat) (hb : 0x11 ≤ b) (u : State) : Steady u (wrB b R.LOOP_CORE_STAT_RETIRED true u) :=
    wrB_steady hb _ true 0 (by decide) u
  have hdie (d : Nat) (hd : d ∈ dies) (u : State) : Steady u (healthOfDie d u) := by
    have hsum : R.HUB_SPARE_SUM_CORES_FREE.loAt d < 32 :=
      (by decide : ∀ d ∈ dies, R.HUB_SPARE_SUM_CORES_FREE.loAt d < 32) d hd
    have hd4 : d < 4 := (by decide : ∀ d ∈ dies, d < 4) d hd
    unfold healthOfDie
    extract_lets u1 l u2 u3 u4 u5
    have h1 : Steady u u1 := (refreshRanksFree_quiet d hd4 u).steady
    clear_value u1
    have h2 : Steady u1 u2 := wr_steady (by decide) R.HUB_SPARE_SUM_CORES_FREE _ d hsum u1
    clear_value u2
    have h3 : Steady u2 u3 :=
      each_steady _ _ (fun p s => hcore _ (by simp only [coreB, clB, dieB]; omega) s) u2
    clear_value u3
    have h4 : Steady u3 u4 :=
      each_steady _ _ (fun p s => hcore _ (by simp only [crB, coreB, clB, dieB]; omega) s) u3
    clear_value u4
    have h5 : Steady u4 u5 := when_steady _ _ u4 (setReplaceDie_steady (by simp) (by simp) d u4)
    clear_value u5
    exact ((((h1.trans h2).trans h3).trans h4).trans h5).trans (refreshPipe_steady d u5)
  unfold refreshHealth
  extract_lets l s1 used s2
  have h1 : Steady s s1 := each_steady_mem _ _ hdie s
  clear_value s1 used
  have h2 : Steady s1 s2 := setReplace_steady (by simp) used s1
  clear_value s2
  exact (h1.trans h2).trans (setReplace_steady (by simp) _ s2)

theorem startResync_steady (loc : Nat) (s : State) : Steady s (startResync loc s) := ⟨fun _ _ => rfl, rfl⟩

/-- A start-up begins, and then goes on through all its steps. -/
theorem startUp_steady (x : StartIn) (s : State) :
    Steady { s with hub := { s.hub with starting := true, t1 := s.tick } } (startUp x s) := by
  have hdie (d : Nat) (f : Fld) (hf : f.loAt 0 < 32) (v : Bool) (u : State) : Steady u (wrB (dieB d) f v u) :=
    wrB_steady (by simp only [dieB]; omega) f v 0 hf u
  unfold startUp
  extract_lets h s0 old3 old4 s1 s2 s3 s4 s5 s6 rows s7 s8 s9 h' s10
  change Steady s0 _
  clear_value s0
  have h1 : Steady s0 s1 := when_steady _ _ s0 (wrB_steady (by decide) R.TIME_STATUS_REF_OK x.ref 0 (by decide) s0)
  clear_value s1
  have h2 : Steady s1 s2 := ((chooseRecords_steady x s1).trans (applyFirmware_quiet _).steady).trans (applyConfig_steady _)
  clear_value s2
  have h3 : Steady s2 s3 :=
    ((applyCalibration_steady old3 s2).trans (applySpare_steady old4 _)).trans (ownBindings_quiet _).steady
  clear_value s3
  have h4 : Steady s3 s4 := each_steady _ _ sramFailed_steady s3
  clear_value s4
  have h5 : Steady s4 s5 := each_steady _ _ (fun d s => by
    split
    · exact Steady.refl s
    · exact hdie d R.HUB_DIE_STATUS_CLK_LOCK (by decide) true s) s4
  clear_value s5
  have h6 : Steady s5 s6 := startLinks_steady x s5
  clear_value s6
  have h7 : Steady s6 s7 := each_steady_mem _ _ (fun d hd s => by
    split
    · exact Steady.refl s
    · exact startMemory_steady d ((by decide : ∀ d ∈ dies, d < 4) d hd) x s) s6
  clear_value s7
  have h8 : Steady s7 s8 := each_steady _ _ repairRow_steady s7
  clear_value s8
  have h9 : Steady s8 s9 := each_steady _ _ (fun d s => by
    split
    · exact Steady.refl s
    · exact hdie d R.HUB_DIE_STATUS_READY (by decide) true s) s8
  clear_value s9
  have h10 : Steady s9 s10 := ⟨fun _ _ => rfl, rfl⟩
  clear_value s10
  have h11 : Steady s10 (each (List.range 5) startResync s10) := each_steady _ _ startResync_steady s10
  exact ((((((((((h1.trans h2).trans h3).trans h4).trans h5).trans h6).trans h7).trans h8).trans h9).trans h10).trans
    h11).trans ((refreshOffline_steady _).trans (refreshHealth_steady _))
end Sys2Proof.PowerModes
end

section
namespace Sys2Proof.PowerModes
open Sys2Proof Sys2Proof.Machine Sys2Proof.Safety Sys2Proof.Scope

/-! ### The hold block and its gauge (R95 to R103) -/

/-- The registers of the hold block. -/
abbrev holdKey (k : Nat) : Prop := holdB ≤ k / 32 ∧ k / 32 < holdB + 0x100

/-- The operation leaves the registers of the hold block as they are. -/
def KeepsHold (f : State → State) : Prop :=
  ∀ (s : State) (b : Nat) (g : Fld) (i : Nat), holdKey (g.key b i) → rd (f s) b g i = rd s b g i

theorem wr_keepsHold {b : Nat} {f : Fld} {i : Nat} (h : ¬ holdKey (f.key b i)) (v : Nat) :
    KeepsHold fun s => wr b f v s i := fun s b' g i' hg => rd_wr_ne s b' b g f v i' i fun he => h (he ▸ hg)

theorem not_holdKey_safeDark (n : Nat) : ¬ holdKey (R.CH_STATUS_SAFE_DARK.key (chB n) 0) := by
  simp only [holdKey, holdB, Fld.key, R.CH_STATUS_SAFE_DARK, chB]
  omega

theorem not_hkKey {k : Nat} (h : holdKey k) : ¬ hkKey k := by
  simp only [holdKey, hkKey, holdB, hkB] at *
  omega

theorem KeepsHold.ne {b : Nat} {f : Fld} {i : Nat} (h : ¬ holdKey (f.key b i)) {k : Nat} (hk : holdKey k) :
    f.key b i ≠ k := fun he => h (he ▸ hk)

/-- The registers that a change of the mode writes. -/
theorem rd_setMode_ne (m : Mode) (cause : Nat) (s : State) (b : Nat) (g : Fld) (i : Nat)
    (hm : R.HUB_MODE_MODE.key hubB 0 ≠ g.key b i) (hc : R.HUB_MODE_CAUSE.key hubB 0 ≠ g.key b i)
    (hs : R.MGT_SNAP_EPOCH.key mgtB 0 ≠ g.key b i) (hd : ∀ n, R.CH_STATUS_SAFE_DARK.key (chB n) 0 ≠ g.key b i)
    (hk : ¬ hkKey (g.key b i)) : rd (setMode m cause s) b g i = rd s b g i := by
  have hceil (u : State) : rd (ceilAll u) b g i = rd u b g i :=
    each_keeps (fun s => rd s b g i) _ (fun n s => by split <;> rfl) _ u
  have hstarve (u : State) : rd (calStarve (fun _ => true) u) b g i = rd u b g i := rd_calStarve _ u b g i hk
  unfold setMode
  dsimp only
  rw [each_keeps (fun s => rd s b g i) _ (fun n s => rd_refreshSafeDark n s b g i (hd n)),
    when_keeps (fun s => rd s b g i) _ _ _ (hceil _), when_keeps (fun s => rd s b g i) _ _ _ (hstarve _),
    rd_bumpSnap _ _ _ _ hs, rd_raise, rd_wr_ne _ _ _ _ _ _ _ _ hm, rd_wr_ne _ _ _ _ _ _ _ _ hc]

theorem setMode_keepsHold (m : Mode) (cause : Nat) : KeepsHold (setMode m cause) := fun s b g i hg =>
  rd_setMode_ne m cause s b g i (KeepsHold.ne (by decide) hg) (KeepsHold.ne (by decide) hg) (KeepsHold.ne (by decide) hg)
    (fun n => KeepsHold.ne (not_holdKey_safeDark n) hg) (not_hkKey hg)

theorem setDegrade_keepsHold {f : Fld} (hf : ¬ holdKey (f.key hubB 0)) (v : Bool) : KeepsHold (setDegrade f v) :=
    fun s b g i hg => by
  unfold setDegrade
  split
  · rfl
  · extract_lets s1 s2
    have h1 : rd s2 b g i = rd s b g i := by
      rw [show s2 = bumpSnap (raise 0x0103 noCh (degrade s1) s1) from rfl,
        rd_bumpSnap _ _ _ _ (KeepsHold.ne (by decide) hg),
        rd_raise]
      exact wr_keepsHold hf (b2n v) s b g i hg
    split
    · rw [setMode_keepsHold _ _ _ _ _ _ hg, h1]
    · split
      · rw [setMode_keepsHold _ _ _ _ _ _ hg, h1]
      · exact h1

theorem setReplace_keepsHold {f : Fld} (hf : ¬ holdKey (f.key healthB 0)) (v : Bool) : KeepsHold (setReplace f v) :=
    fun s b g i hg => by
  have h1 : rd (wrB healthB f v s) b g i = rd s b g i := wr_keepsHold hf (b2n v) s b g i hg
  unfold setReplace changeReplace
  extract_lets whole t up dies
  split
  · exact h1
  · rw [setDegrade_keepsHold (by decide) _ _ _ _ _ hg, rd_bumpSnap _ _ _ _ (KeepsHold.ne (by decide) hg), rd_raise]
    exact h1

/-- CAP_LOW and ASSURE as the gauge and its flags give them. -/
def showGauge (s : State) : State :=
  let low : Bool := capacity s != 0 && capacity s < rd s holdB R.HOLD_CAP_MIN_CHARGE
  let s := if rdB s holdB R.HOLD_STATUS_CAP_LOW == low then s
    else setReplace R.HUB_REPLACE_HOLD low (wrB holdB R.HOLD_STATUS_CAP_LOW low s)
  if assurance s = rd s holdB R.HOLD_STATUS_ASSURE then s
  else raise 0x010D noCh (assurance s) (wr holdB R.HOLD_STATUS_ASSURE (assurance s) s)

/-- UNCERTAIN as the gauge gives it. -/
def markUncertain (empty unknown : Bool) (s : State) : State :=
  let s := when_ (gaugeEmpty s && !empty) (uncertain 0) s
  let s := when_ (capUnknown s && !unknown) (uncertain 2) s
  when_ (gaugeEmpty s || capUnknown s) (wrB holdB R.HOLD_STATUS_UNCERTAIN true) s

theorem gaugeFollow_eq (a b : Bool) (s : State) : gaugeFollow a b s = showGauge (markUncertain a b s) := rfl

theorem rd_showGauge (s : State) (f : Fld) (hf : holdKey (f.key holdB 0))
    (ha : R.HOLD_STATUS_ASSURE.key holdB 0 ≠ f.key holdB 0) (hl : R.HOLD_STATUS_CAP_LOW.key holdB 0 ≠ f.key holdB 0) :
    rd (showGauge s) holdB f = rd s holdB f := by
  have hrep (v : Bool) (u : State) :
      rd (setReplace R.HUB_REPLACE_HOLD v (wrB holdB R.HOLD_STATUS_CAP_LOW v u)) holdB f = rd u holdB f := by
    rw [setReplace_keepsHold (by decide) _ _ _ _ _ hf]
    exact rd_wr_ne _ _ _ _ _ _ _ _ hl
  unfold showGauge
  extract_lets low s1
  have h1 : rd s1 holdB f = rd s holdB f := by
    unfold s1
    split
    · rfl
    · exact hrep low s
  split
  · exact h1
  · rw [rd_raise, rd_wr_ne _ _ _ _ _ _ _ _ ha, h1]

theorem rd_uncertain (c : Nat) (s : State) (f : Fld) (hu : R.HOLD_STATUS_UNCERTAIN.key holdB 0 ≠ f.key holdB 0) :
    rd (uncertain c s) holdB f = rd s holdB f := by
  unfold uncertain
  rw [rd_raise]
  exact rd_wr_ne _ _ _ _ _ _ _ _ hu

theorem rd_markUncertain (a b : Bool) (s : State) (f : Fld)
    (hu : R.HOLD_STATUS_UNCERTAIN.key holdB 0 ≠ f.key holdB 0) : rd (markUncertain a b s) holdB f = rd s holdB f := by
  unfold markUncertain
  dsimp only
  rw [when_keeps (rd · holdB f) _ _ _ (rd_wr_ne _ _ _ _ _ _ _ _ hu),
    when_keeps (rd · holdB f) _ _ _ (rd_uncertain 2 _ f hu), when_keeps (rd · holdB f) _ _ _ (rd_uncertain 0 s f hu)]

/-- The gauge and what it rests on outlive what the gauge is followed by. -/
theorem rd_gaugeFollow (a b : Bool) (s : State) (f : Fld) (hf : holdKey (f.key holdB 0))
    (hu : R.HOLD_STATUS_UNCERTAIN.key holdB 0 ≠ f.key holdB 0) (ha : R.HOLD_STATUS_ASSURE.key holdB 0 ≠ f.key holdB 0)
    (hl : R.HOLD_STATUS_CAP_LOW.key holdB 0 ≠ f.key holdB 0) : rd (gaugeFollow a b s) holdB f = rd s holdB f := by
  rw [gaugeFollow_eq, rd_showGauge _ f hf ha hl, rd_markUncertain a b s f hu]

theorem gaugeFollow_apart {p e : Nat → Prop} (hm : OffMode p) (hp : ∀ k, p k → k / 32 ≠ holdB) (a b : Bool) (s : State) :
    Apart p e s (gaugeFollow a b s) := by
  have hst (f : Fld) (hf : f.loAt 0 < 32 ∧ f.offAt 0 = 0) : ¬ p (f.key holdB 0) := fun hk => by
    have := hp _ hk
    simp only [Fld.key, Fld.loAt, Fld.offAt, holdB] at *
    omega
  have hunc (c : Nat) (u : State) : Apart p e u (uncertain c u) := by
    simp [uncertain, hst R.HOLD_STATUS_UNCERTAIN (by decide)]
  have hrep (v : Bool) (u : State) : Apart p e u (setReplace R.HUB_REPLACE_HOLD v u) := setReplace_apart (by simp) hm v u
  unfold gaugeFollow
  extract_lets s1 s2 s3 low s4
  have h1 : Apart p e s s1 := by
    unfold s1 when_
    split
    · exact hunc 0 s
    · exact Apart.refl s
  have h2 : Apart p e s1 s2 := by
    unfold s2 when_
    split
    · exact hunc 2 s1
    · exact Apart.refl s1
  have h3 : Apart p e s2 s3 := by
    unfold s3 when_
    split
    · simp [hst R.HOLD_STATUS_UNCERTAIN (by decide)]
    · exact Apart.refl s2
  have h4 : Apart p e s3 s4 := by
    unfold s4
    split
    · exact Apart.refl s3
    · exact Apart.trans (by simp [hst R.HOLD_STATUS_CAP_LOW (by decide)]) (hrep low _)
  have h := ((h1.trans h2).trans h3).trans h4
  split
  · exact h
  · exact h.trans (by simp [hst R.HOLD_STATUS_ASSURE (by decide)])

/-- The hub's own state, but for the hold log, outlives what the gauge is followed by. -/
theorem gaugeFollow_calm (a b : Bool) (s : State) : calm (gaugeFollow a b s).hub = calm s.hub :=
  (gaugeFollow_apart (p := fun _ => False) (e := fun _ => False) (fun _ h => h.elim) (fun _ h => h.elim) a b s).2.1

/-- A part of the hub's own state that `calm` leaves. -/
theorem hub_of_calm {α : Type} (f : HubSt → α) (hf : ∀ h, f (calm h) = f h) {g h : HubSt} (hc : calm g = calm h) :
    f g = f h := by
  rw [← hf g, hc, hf h]

theorem gaugeFollow_charge (a b : Bool) (s : State) : (gaugeFollow a b s).hub.charge = s.hub.charge :=
  hub_of_calm HubSt.charge (fun _ => rfl) (gaugeFollow_calm a b s)

/-- UNCERTAIN stays 0 while the gauge is neither empty nor without a capacity. -/
theorem gaugeFollow_uncertain (a b : Bool) (s : State) (he : gaugeEmpty s = false) (hc : capUnknown s = false) :
    rdB (gaugeFollow a b s) holdB R.HOLD_STATUS_UNCERTAIN = rdB s holdB R.HOLD_STATUS_UNCERTAIN := by
  have hm : markUncertain a b s = s := by simp [markUncertain, he, hc, when_]
  rw [rdB, rdB, gaugeFollow_eq, hm, rd_showGauge s _ (by decide) (by decide) (by decide)]

/-! #### The rounds of the gauge -/

/-- The gauge takes the charge within 0 and CAP and shows it in mC. -/
theorem setCharge_charge (q : Int) (s : State) :
    (setCharge q s).hub.charge = (max 0 (min q (1000 * (rd s holdB R.HOLD_CAPACITY_CAP : Nat)))).toNat := rfl

theorem rd_setCharge_gauge (q : Int) (s : State) :
    rd (setCharge q s) holdB R.HOLD_GAUGE_CHARGE = (setCharge q s).hub.charge / 1000 % 2 ^ 24 := rd_wr_same ..

theorem rd_setCharge_ne (q : Int) (s : State) (f : Fld) (h : R.HOLD_GAUGE_CHARGE.key holdB 0 ≠ f.key holdB 0) :
    rd (setCharge q s) holdB f = rd s holdB f := rd_wr_ne _ _ _ _ _ _ _ _ h

theorem gauge_of_island {s : State} (h : s.hub.island = true) (f : State → State) :
    Machine.gauge f s = gaugeFollow (gaugeEmpty s) (capUnknown s) (f s) := by
  simp [Machine.gauge, h]

/-- One round of the gauge in HOLD, before its flags are followed. -/
def countRound (mv : Nat) (s : State) : State :=
  let s := setVhold mv s
  let d := roundDraw (rd s holdB R.HOLD_VHOLD_MV) s
  setCharge (s.hub.charge - (d : Int)) { s with hub := { s.hub with drawn := s.hub.drawn + d } }

/-- The charge that a round draws. -/
def drawnRound (mv : Nat) (s : State) : Nat := (Config.islandDraw % 4096 + rd s holdB R.HOLD_DRAW_EXTRA) * 16000 / mv

theorem rd_setVhold (mv : Nat) (s : State) (f : Fld) (hok : R.HOLD_STATUS_VHOLD_OK.key holdB 0 ≠ f.key holdB 0)
    (hmv : R.HOLD_VHOLD_MV.key holdB 0 ≠ f.key holdB 0) : rd (setVhold mv s) holdB f = rd s holdB f := by
  unfold setVhold
  exact (rd_wr_ne _ _ _ _ _ _ _ _ hok).trans (rd_wr_ne _ _ _ _ _ _ _ _ hmv)

theorem rd_setVhold_mv {mv : Nat} (h : mv < 8192) (s : State) : rd (setVhold mv s) holdB R.HOLD_VHOLD_MV = mv := by
  have hs : satU 13 mv % 2 ^ 13 = mv := by simp only [satU]; omega
  unfold setVhold
  rw [wrB, rd_wr_ne _ _ _ _ _ _ _ _ (by decide), rd_wr_same]
  exact hs

theorem rd_countRound_mv {mv : Nat} (h : mv < 8192) (s : State) : rd (countRound mv s) holdB R.HOLD_VHOLD_MV = mv := by
  unfold countRound
  rw [rd_setCharge_ne _ _ _ (by decide)]
  exact rd_setVhold_mv h s

theorem countRound_charge {mv : Nat} (h : mv < 8192) (s : State) : (countRound mv s).hub.charge =
    (max 0 (min ((s.hub.charge : Int) - (drawnRound mv s : Nat)) (1000 *
      (rd s holdB R.HOLD_CAPACITY_CAP : Nat)))).toNat := by
  unfold countRound
  extract_lets u d
  have hd : d = drawnRound mv s := by
    simp only [d, u, roundDraw, drawnRound]
    rw [rd_setVhold_mv h, rd_setVhold _ _ _ (by decide) (by decide)]
  have hcap : rd u holdB R.HOLD_CAPACITY_CAP = rd s holdB R.HOLD_CAPACITY_CAP := rd_setVhold _ _ _ (by decide) (by decide)
  have hq : u.hub.charge = s.hub.charge := rfl
  rw [setCharge_charge, ← hcap, hd, hq]
  rfl

theorem holdRound_eq {mv : Nat} {s : State} (hm : s.mode = .hold) (hi : s.hub.island = true) :
    holdRound mv s = gaugeFollow (gaugeEmpty s) (capUnknown s) (countRound mv s) := by
  unfold holdRound
  rw [if_neg (by simp [hm])]
  exact gauge_of_island hi (countRound mv)

/-- The full charge is reached. -/
def fillGauge (s : State) : State :=
  let s := setCharge (1000 * capacity s) { s with hub := { s.hub with fullRounds := 9, fromFull := true } }
  raise 0x010C noCh (capacity s) (wrB holdB R.HOLD_STATUS_UNCERTAIN false s)

theorem fullCharge_eq {s : State} (hr : s.hub.fullRounds = 8) (hi : s.hub.island = true) :
    fullCharge s = gaugeFollow (gaugeEmpty s) (capUnknown s) (fillGauge s) := by
  unfold fullCharge
  rw [if_neg (by simp [hr])]
  exact gauge_of_island hi fillGauge

theorem rd_fillGauge_cap (s : State) : rd (fillGauge s) holdB R.HOLD_CAPACITY_CAP = rd s holdB R.HOLD_CAPACITY_CAP := by
  unfold fillGauge
  rw [rd_raise, wrB, rd_wr_ne _ _ _ _ _ _ _ _ (by decide), rd_setCharge_ne _ _ _ (by decide)]
  rfl

theorem rd_fillGauge_charge {s : State} (hw : rd s holdB R.HOLD_CAPACITY_CAP < 2 ^ 24) :
    rd (fillGauge s) holdB R.HOLD_GAUGE_CHARGE = rd s holdB R.HOLD_CAPACITY_CAP := by
  unfold fillGauge
  rw [rd_raise, wrB, rd_wr_ne _ _ _ _ _ _ _ _ (by decide), rd_setCharge_gauge, setCharge_charge]
  have hc (h : HubSt) : rd { s with hub := h } holdB R.HOLD_CAPACITY_CAP = rd s holdB R.HOLD_CAPACITY_CAP := rfl
  rw [hc, capacity]
  omega

theorem rd_fillGauge_uncertain (s : State) : rdB (fillGauge s) holdB R.HOLD_STATUS_UNCERTAIN = false := by
  unfold fillGauge
  rw [rdB, rd_raise, wrB, rd_wr_same]
  rfl

theorem rdB_done (f : State → State) (s : State) (b : Nat) (g : Fld) (i : Nat) :
    rdB (done f s) b g i = rdB (f (begun s)) b g i := congrArg (· == 1) (rd_done f s b g i)

theorem holdRound_leads (s : State) (mv : Fin 8192) (hm : s.mode = .hold) (hi : s.hub.island = true) :
    Leads (.holdGaugeRound mv) s fun t => rd t holdB R.HOLD_VHOLD_MV = mv ∧ t.hub.charge = (max 0 (min
      ((s.hub.charge : Int) - ((Config.islandDraw % 4096 + rd s holdB R.HOLD_DRAW_EXTRA) * 16000 / mv.val : Nat))
      (1000 * (rd s holdB R.HOLD_CAPACITY_CAP : Nat)))).toNat ∧
      rd t holdB R.HOLD_GAUGE_CHARGE = t.hub.charge / 1000 % 2 ^ 24 := by
  have hround : holdRound mv (begun s) = _ := holdRound_eq hm hi
  refine leads_run (f := holdRound mv) rfl ?_
  simp only [rd_done, done_hub]
  rw [hround, gaugeFollow_charge, rd_gaugeFollow _ _ _ _ (by decide) (by decide) (by decide) (by decide),
    rd_gaugeFollow _ _ _ _ (by decide) (by decide) (by decide) (by decide), rd_countRound_mv mv.isLt]
  exact ⟨rfl, countRound_charge mv.isLt (begun s), rd_setCharge_gauge _ _⟩

theorem fullCharge_leads (s : State) (hr : s.hub.fullRounds = 8) (hi : s.hub.island = true)
    (hc : 0 < rd s holdB R.HOLD_CAPACITY_CAP) (hw : rd s holdB R.HOLD_CAPACITY_CAP < 2 ^ 24) :
    Leads .gaugeFullCharge s fun t => rd t holdB R.HOLD_GAUGE_CHARGE = rd s holdB R.HOLD_CAPACITY_CAP ∧
      rdB t holdB R.HOLD_STATUS_UNCERTAIN = false := by
  have hfull : fullCharge (begun s) = _ := fullCharge_eq hr hi
  have hcharge : rd (fillGauge (begun s)) holdB R.HOLD_GAUGE_CHARGE = rd s holdB R.HOLD_CAPACITY_CAP :=
    rd_fillGauge_charge (s := begun s) hw
  have hcap : rd (fillGauge (begun s)) holdB R.HOLD_CAPACITY_CAP = rd s holdB R.HOLD_CAPACITY_CAP := rd_fillGauge_cap _
  have hempty : gaugeEmpty (fillGauge (begun s)) = false := by
    simp [gaugeEmpty, hcharge, Nat.pos_iff_ne_zero.mp hc]
  have hknown : capUnknown (fillGauge (begun s)) = false := by
    simp [capUnknown, capacity, hcap, Nat.pos_iff_ne_zero.mp hc]
  refine leads_run (f := fullCharge) rfl ?_
  rw [rd_done, rdB_done, hfull, rd_gaugeFollow _ _ _ _ (by decide) (by decide) (by decide) (by decide), hcharge,
    gaugeFollow_uncertain _ _ _ hempty hknown]
  exact ⟨rfl, rd_fillGauge_uncertain _⟩

theorem holdCapWrite_leads (s : State) (v : Fin 16777216) (hi : s.hub.island = true) :
    Leads (.holdCapacityWrite v) s fun t => rd t holdB R.HOLD_CAPACITY_CAP = v ∧ t.hub.capWrite = some v.val := by
  have hregs (k : Nat) (u : State) : (recDirty k u).regs = u.regs := by unfold recDirty; split <;> rfl
  have hhub (k : Nat) (u : State) : (recDirty k u).hub = u.hub := by unfold recDirty; split <;> rfl
  have hv : v.val % 2 ^ 24 = v.val := Nat.mod_eq_of_lt v.isLt
  have hcap : rd (Machine.gauge (fun s => setCharge s.hub.charge (wr holdB R.HOLD_CAPACITY_CAP v s)) (begun s)) holdB
      R.HOLD_CAPACITY_CAP = v.val := by
    rw [gauge_of_island (s := begun s) hi, rd_gaugeFollow _ _ _ _ (by decide) (by decide) (by decide) (by decide),
      rd_setCharge_ne _ _ _ (by decide), rd_wr_same]
    exact hv
  refine leads_run (f := holdCapWrite v) rfl ⟨?_, ?_⟩
  · rw [rd_done, holdCapWrite, rd_of_regs (hregs 3 _)]
    exact hcap
  · rw [done_hub, holdCapWrite, hhub]
    exact congrArg some hv

/-- Settles O15: what a round counts, and that what the gauge is followed by leaves the count. -/
theorem holdStoreGauge : Obligations.HoldStoreGauge := by
  unfold Obligations.HoldStoreGauge
  exact ⟨holdRound_leads, fullCharge_leads, holdCapWrite_leads⟩

end Sys2Proof.PowerModes
end

section
namespace Sys2Proof.PowerModes
open Sys2Proof Sys2Proof.Machine Sys2Proof.Safety Sys2Proof.Scope

/-! ### Resets of the device (R76, R843) -/

theorem tget_filter_of_not {α : Type} (d : α) (k : Nat) (q : Nat → Bool) (t : Tbl α) (h : q k = false) :
    tget d k (t.filter fun e => q e.1) = d := by
  induction t with
  | nil => rfl
  | cons e t ih =>
    by_cases hq : q e.1 = true
    · have hne : e.1 ≠ k := fun he => by simp [he, h] at hq
      simp only [List.filter_cons, hq, if_true, tget, if_neg hne, ih]
    · simp only [List.filter_cons, hq, if_neg, not_false_iff, ih, Bool.false_eq_true]

/-- What a reset keeps of the registers, the hub's own state and HT. -/
theorem baseReset_still (pon : Bool) (s : State) : ∃ t : State, Still t (baseReset pon s) ∧
    t.regs = s.regs.filter (fun e => keptKey pon e.1) ∧ t.hub = keptHub pon s.hub ∧ t.ht = s.ht := by
  unfold baseReset
  extract_lets t1 t2 t3
  refine ⟨t3, (keepSpares_quiet s t3).trans (keepMotion_quiet s _), ?_, ?_, ?_⟩ <;> cases pon <;> rfl

theorem rd_baseReset (pon : Bool) (s : State) {f : Fld} (hf : shielded (f.key hubB 0) = true)
    (hk : keptKey pon (f.key hubB 0) = false) : rd (baseReset pon s) hubB f = f.reset 0 := by
  obtain ⟨t, hs, hr, -, -⟩ := baseReset_still pon s
  rw [rd_of_shieldedRegs hs.1 hf, rd, hr, tget_filter_of_not _ _ _ _ hk]

theorem baseReset_calm (pon : Bool) (s : State) : calm (baseReset pon s).hub = calm (keptHub pon s.hub) := by
  obtain ⟨t, hs, -, hh, -⟩ := baseReset_still pon s
  rw [← hh, hs.2.1]

theorem baseReset_ht (pon : Bool) (s : State) : (baseReset pon s).ht = s.ht := by
  obtain ⟨t, hs, -, -, ht⟩ := baseReset_still pon s
  rw [← ht, hs.2.2.1]

/-- The states agree in the hub's own state, but for the hold log, and in HT. -/
abbrev HubKept (s t : State) : Prop := Apart (fun _ => False) (fun _ => False) s t

theorem triggers_hubKept (cls c : Nat) (l : List Nat) (s : State) :
    HubKept s (each l (fun i => trigger cls i c) s) :=
  each_apart _ _ (fun i s => trigger_apart (fun _ h => h.elim) cls i c (fun h => h) s) s

theorem triggerDies_hubKept (s : State) : HubKept s (triggerDies s) :=
  each_apart _ _ (fun d s => by
    have h (cls i c : Nat) (u : State) : HubKept u (trigger cls i c u) :=
      trigger_apart (fun _ h => h.elim) cls i c (fun h => h) u
    have h2 (u : State) : HubKept u (each (channelsOf d) (fun n s => trigger 2 n (s.cmds.filter (·.ch == n)).length s) u) :=
      each_apart _ _ (fun n s => h 2 n _ s) u
    have h3 (u : State) : HubKept u (each (List.range 64) (fun c => trigger 3 (64 * d + c) 0) u) :=
      each_apart _ _ (fun c s => h 3 _ 0 s) u
    exact (((h 1 d 0 s).trans (h2 _)).trans (h3 _)).trans (triggerDdr_apart d (fun _ _ h => h) _)) s

theorem allOff_hubKept (s : State) : HubKept s (allOff s) :=
  each_apart _ _ (fun n s => by
    split
    · exact Apart.refl s
    · exact setChState_apart (fun _ h => h.elim) .off s) s

theorem calm_keptHub (pon : Bool) (h : HubSt) : calm (keptHub pon h) = calm (keptHub pon (calm h)) := rfl

/-- After the registers and tables of a reset the ceilings and overrides are shown again. -/
def showReset (s : State) : State :=
  let s := wr mgtB R.MGT_STATUS_PF0_MODE 7 (wr mgtB R.MGT_SVC_CEIL_PF0 R.MGT_SVC_CEIL_PF0.rst s)
  refreshOvr (wr hubB R.HUB_SVC_CEIL_CEIL (svcCeil s) s)

theorem showReset_quiet : Quiet showReset := fun s => by simp [showReset]

/-- What goes before the reset of the registers and tables. -/
def dropUnits (s : State) : State := breakOwned (fun _ => true) (triggerDies (allOff s))

theorem dropUnits_hubKept (s : State) : HubKept s (dropUnits s) :=
  ((allOff_hubKept s).trans (triggerDies_hubKept _)).trans (breakOwned_apart (fun _ h => h.elim) _ _)

theorem resetCore_eq (s : State) : resetCore s = showReset (baseReset false (dropUnits s)) := by
  unfold resetCore showReset dropUnits
  rfl

/-- What a reset leaves of the hub's own state, of HT and of READY. -/
theorem resetCore_hub (s : State) : calm (resetCore s).hub = calm (keptHub false s.hub) ∧ (resetCore s).ht = s.ht ∧
    rd (resetCore s) hubB R.HUB_MODE_READY = 0 := by
  obtain ⟨-, hh, ht, -, -⟩ := dropUnits_hubKept s
  rw [resetCore_eq]
  generalize dropUnits s = u at hh ht
  obtain ⟨hr, hc, hht, -⟩ := showReset_quiet (baseReset false u)
  refine ⟨?_, ?_, ?_⟩
  · rw [hc, baseReset_calm, calm_keptHub, hh, ← calm_keptHub]
  · rw [hht, baseReset_ht, ht]
  · rw [rd_of_shieldedRegs hr (by decide)]
    exact rd_baseReset false u (by decide) (by decide)

/-- The mode to which a reset of the device leads. -/
def resetMode (s : State) : Mode := if s.hub.tripLatch = 0 then .dormant else .tripped

/-- The units that a reset of the device holds go dark. -/
def darken (s : State) : State := each offInReset (fun i => trigger 0 i 0) (handoverDark s)

theorem darken_hubKept (s : State) : HubKept s (darken s) :=
  (handoverDark_quiet s).apart.trans (triggers_hubKept 0 0 _ _)

/-- The device takes mode `m`, which was `old` before the reset, with the cause of a reset. -/
def takeResetMode (old m : Mode) (s : State) : State :=
  if old = m then wr hubB R.HUB_MODE_CAUSE 0x0A (wr hubB R.HUB_MODE_MODE old.code s)
  else setMode m 0x0A (wr hubB R.HUB_MODE_MODE old.code s)

theorem deviceReset_eq (s : State) :
    deviceReset s = takeResetMode s.mode (resetMode s) (resetCore (darken s)) := by
  unfold deviceReset takeResetMode darken resetMode
  rfl

theorem mode_wr (m : Mode) (s : State) : (wr hubB R.HUB_MODE_MODE m.code s).mode = m := by
  rw [State.mode, rd_wr_same, show m.code % 2 ^ R.HUB_MODE_MODE.w = m.code by cases m <;> rfl, Mode.ofCode_code]

theorem takeResetMode_kept (old m : Mode) (s : State) : (takeResetMode old m s).mode = m ∧
    rd (takeResetMode old m s) hubB R.HUB_MODE_CAUSE = 0x0A ∧
    rd (takeResetMode old m s) hubB R.HUB_MODE_READY = rd s hubB R.HUB_MODE_READY ∧
    calm (takeResetMode old m s).hub = calm s.hub ∧ (takeResetMode old m s).ht = s.ht := by
  have hready : rd (wr hubB R.HUB_MODE_MODE old.code s) hubB R.HUB_MODE_READY = rd s hubB R.HUB_MODE_READY :=
    rd_wr_ne _ _ _ _ _ _ _ _ (by decide)
  unfold takeResetMode
  split
  next h =>
    refine ⟨?_, rd_wr_same .., (rd_wr_ne _ _ _ _ _ _ _ _ (by decide)).trans hready, rfl, rfl⟩
    rw [← h]
    exact (congrArg Mode.ofCode (rd_wr_ne _ _ _ _ _ _ _ _ (by decide))).trans (mode_wr old s)
  next h =>
    obtain ⟨-, sh, st, -⟩ := setMode_still m 0x0A (wr hubB R.HUB_MODE_MODE old.code s)
    exact ⟨setMode_mode .., setMode_cause .., (rd_setMode _ _ _ (by decide) (by decide) (by decide)).trans hready, sh, st⟩

theorem deviceReset_kept (s : State) : (deviceReset s).mode = resetMode s ∧
    rd (deviceReset s) hubB R.HUB_MODE_CAUSE = 0x0A ∧ rdB (deviceReset s) hubB R.HUB_MODE_READY = false ∧
    calm (deviceReset s).hub = calm (keptHub false s.hub) ∧ (deviceReset s).ht = s.ht := by
  rw [deviceReset_eq]
  obtain ⟨-, hh, ht, -, -⟩ := darken_hubKept s
  generalize darken s = u at hh ht
  obtain ⟨kh, kt, kr⟩ := resetCore_hub u
  generalize resetCore u = v at kh kt kr
  obtain ⟨hmode, hcause, hready, hhub, hht⟩ := takeResetMode_kept s.mode (resetMode s) v
  refine ⟨hmode, hcause, ?_, ?_, hht.trans (kt.trans ht)⟩
  · rw [rdB, hready, kr]
    rfl
  · rw [hhub, kh, calm_keptHub, hh, ← calm_keptHub]

/-- The state in which PERST# is asserted. -/
abbrev underPerst (s : State) : State := { s with hub := { s.hub with perst := true } }

theorem perstAssert_eq {s : State} (hup : s.hub.up = true) (hm : s.mode ≠ .hold) :
    perstAssert s = deviceReset (underPerst s) := by
  unfold perstAssert
  extract_lets h u
  have hu : u.hub.up = true := hup
  have hmu : u.mode ≠ .hold := hm
  rw [if_neg (by simp [hu, hmu]), if_neg hmu]

theorem perstAssert_leads (s : State) (hup : s.hub.up = true) (hm : s.mode ≠ .hold) :
    Leads .perstAssert s fun t => t.hub.perst = true ∧
      t.mode = (if s.hub.tripLatch = 0 then .dormant else .tripped) ∧ rd t hubB R.HUB_MODE_CAUSE = 0x0A ∧
      rdB t hubB R.HUB_MODE_READY = false ∧ t.ht = s.ht ∧ t.hub.tripLatch = s.hub.tripLatch := by
  have hreset : perstAssert (begun s) = _ := perstAssert_eq (s := begun s) hup hm
  obtain ⟨hmode, hcause, hready, hhub, hht⟩ := deviceReset_kept (underPerst (begun s))
  have hperst := hub_of_calm HubSt.perst (fun _ => rfl) hhub
  have htrip := hub_of_calm HubSt.tripLatch (fun _ => rfl) hhub
  rw [← hreset] at hmode hcause hready hperst htrip hht
  refine leads_run (f := perstAssert) rfl ⟨?_, ?_, ?_, ?_, ?_, ?_⟩
  · rw [done_hub]; exact hperst
  · rw [mode_of_regs (done_regs _ _)]; exact hmode
  · rw [rd_done]; exact hcause
  · rw [rdB_done]; exact hready
  · rw [done_ht]; exact hht
  · rw [done_hub]; exact htrip
end Sys2Proof.PowerModes
end

section
namespace Sys2Proof.PowerModes
open Sys2Proof Sys2Proof.Machine Sys2Proof.Safety Sys2Proof.Scope

theorem each_holds {α : Type} (Q : State → Prop) (g : α → State → State) (l : List α)
    (hkeep : ∀ a ∈ l, ∀ s, Q s → Q (g a s)) (s : State) (hs : Q s) : Q (each l g s) := by
  induction l generalizing s with
  | nil => exact hs
  | cons b t ih =>
    exact ih (fun c hc => hkeep c (List.mem_cons_of_mem _ hc)) _ (hkeep b (List.mem_cons_self ..) s hs)

theorem when_holds (Q : State → Prop) (c : Bool) (f : State → State) (s : State) (hs : Q s) (hf : Q (f s)) :
    Q (when_ c f s) := by
  cases c
  · exact hs
  · exact hf

/-- What one element's effect establishes and no element's effect destroys holds after all of them. -/
theorem each_establishes {α : Type} (Q : State → Prop) (g : α → State → State) (l : List α)
    (hkeep : ∀ a ∈ l, ∀ s, Q s → Q (g a s)) {a : α} (ha : a ∈ l) (hset : ∀ s, Q (g a s)) (s : State) :
    Q (each l g s) := by
  induction l generalizing s with
  | nil => cases ha
  | cons b t ih =>
    have ht := fun c hc => hkeep c (List.mem_cons_of_mem _ hc)
    rcases List.mem_cons.mp ha with rfl | hat
    · exact each_holds Q g t ht _ (hset s)
    · exact ih ht hat _

/-- A field that returns to its reset value has it, if no other field of the list lies at its place. -/
theorem rd_resetFlds {b : Nat} {fs : List Fld} {f : Fld} (hf : f ∈ fs) (hn : 0 < f.n) 
    (h : ∀ g ∈ fs, ∀ i < g.n, g.key b i = f.key b 0 → g.reset i = f.reset 0 ∧ g.reset i < 2 ^ g.w) (s : State) :
    rd (resetFlds b fs s) b f = f.reset 0 := by
  have hset (s : State) : rd (wr b f (f.reset 0) s 0) b f = f.reset 0 := by
    rw [rd_wr_same, Nat.mod_eq_of_lt (h f hf 0 hn rfl).2]
  have hkeep (g : Fld) (hg : g ∈ fs) (i : Nat) (hi : i ∈ List.range g.n) (s : State) (hs : rd s b f = f.reset 0) :
      rd (wr b g (g.reset i) s i) b f = f.reset 0 := by
    by_cases hk : g.key b i = f.key b 0
    · have hi := List.mem_range.mp hi
      obtain ⟨he, hw⟩ := h g hg i hi hk
      rw [rd, wr, hk, Nat.mod_eq_of_lt hw, he]
      exact tget_tset_same ..
    · rw [rd_wr_ne _ _ _ _ _ _ _ _ hk, hs]
  exact each_establishes (rd · b f = f.reset 0) (fun g => each (List.range g.n) fun i s => wr b g (g.reset i) s i) fs
    (fun g hg => each_holds _ _ _ (hkeep g hg)) hf
    (each_establishes _ _ _ (hkeep f hf) (List.mem_range.mpr hn) hset) s

/-! ### Power-good and the hold island (R53, R843) -/

theorem capacity_of_start (s : State) : rd (resetFlds holdB R.holdBlk s) holdB R.HOLD_CAPACITY_CAP = 0 :=
  rd_resetFlds (by simp [R.holdBlk]) (by decide) (by decide) s

/-- The hold island before its gauge is followed for the first time. -/
def islandBegun (vholdOk : Bool) (s : State) : State :=
  let s := resetFlds holdB R.holdBlk s
  wrB holdB R.HOLD_STATUS_VHOLD_OK vholdOk (uncertain 1 { s with
    ht := 0
    hub := { s.hub with
      island := true, islandLost := true, fullRounds := 0, fromFull := false, drawn := 0, charge := 0
      holdLog := [], replay := [] } })

theorem islandStart_eq (v : Bool) (s : State) : islandStart v s = gaugeFollow false false (islandBegun v s) := rfl

theorem resetFlds_keeps {β : Type} (P : State → β) (hP : ∀ b f v i s, P (wr b f v s i) = P s) (b : Nat) (fs : List Fld)
    (s : State) : P (resetFlds b fs s) = P s :=
  foldl_keeps P _ (fun s f => foldl_keeps P _ (fun s i => hP b f _ i s) _ s) _ s

theorem uncertain_calm (c : Nat) (s : State) : calm (uncertain c s).hub = calm s.hub := by simp [uncertain]

theorem rd_islandBegun_cap (v : Bool) (s : State) : rd (islandBegun v s) holdB R.HOLD_CAPACITY_CAP = 0 := by
  unfold islandBegun
  rw [wrB, rd_wr_ne _ _ _ _ _ _ _ _ (by decide), rd_uncertain _ _ _ (by decide)]
  exact capacity_of_start s

theorem rd_islandBegun_uncertain (v : Bool) (s : State) :
    rdB (islandBegun v s) holdB R.HOLD_STATUS_UNCERTAIN = true := by
  unfold islandBegun uncertain
  rw [rdB, wrB, rd_wr_ne _ _ _ _ _ _ _ _ (by decide), rd_raise, wrB, rd_wr_same]
  rfl

theorem rd_islandBegun_vholdOk (v : Bool) (s : State) : rdB (islandBegun v s) holdB R.HOLD_STATUS_VHOLD_OK = v := by
  unfold islandBegun
  rw [rdB, wrB, rd_wr_same]
  cases v <;> rfl

/-- UNCERTAIN that is 1 stays 1. -/
theorem gaugeFollow_uncertain_true (a b : Bool) (s : State) (h : rdB s holdB R.HOLD_STATUS_UNCERTAIN = true) :
    rdB (gaugeFollow a b s) holdB R.HOLD_STATUS_UNCERTAIN = true := by
  have hset (u : State) : rdB (wrB holdB R.HOLD_STATUS_UNCERTAIN true u) holdB R.HOLD_STATUS_UNCERTAIN = true := by
    rw [rdB, wrB, rd_wr_same]
    rfl
  have hunc (c : Nat) (u : State) : rdB (uncertain c u) holdB R.HOLD_STATUS_UNCERTAIN = true := by
    rw [uncertain, rdB, rd_raise]
    exact hset u
  have hm : rdB (markUncertain a b s) holdB R.HOLD_STATUS_UNCERTAIN = true := by
    unfold markUncertain
    extract_lets s1 s2
    have h1 : rdB s1 holdB R.HOLD_STATUS_UNCERTAIN = true :=
      when_holds (rdB · holdB R.HOLD_STATUS_UNCERTAIN = true) _ _ _ h (hunc 0 s)
    have h2 : rdB s2 holdB R.HOLD_STATUS_UNCERTAIN = true :=
      when_holds (rdB · holdB R.HOLD_STATUS_UNCERTAIN = true) _ _ _ h1 (hunc 2 s1)
    exact when_holds (rdB · holdB R.HOLD_STATUS_UNCERTAIN = true) _ _ _ h2 (hset s2)
  rw [rdB, gaugeFollow_eq, rd_showGauge _ _ (by decide) (by decide) (by decide)]
  exact hm

theorem holdIslandStart_leads (s : State) (v : Bool) (hi : s.hub.island = false) :
    Leads (.holdIslandStart v) s fun t => t.hub.island = true ∧ rd t holdB R.HOLD_CAPACITY_CAP = 0 ∧
      rdB t holdB R.HOLD_STATUS_UNCERTAIN = true ∧ rdB t holdB R.HOLD_STATUS_VHOLD_OK = v := by
  have hisl : (islandBegun v (begun s)).hub.island = true :=
    hub_of_calm HubSt.island (fun _ => rfl) (uncertain_calm 1 _)
  refine leads_run (f := fun s => if s.hub.island then s else islandStart v s) rfl ?_
  simp only [done_hub, rd_done, rdB_done]
  rw [if_neg (by simp [hi]), islandStart_eq]
  refine ⟨?_, ?_, gaugeFollow_uncertain_true _ _ _ (rd_islandBegun_uncertain _ _), ?_⟩
  · exact (hub_of_calm HubSt.island (fun _ => rfl) (gaugeFollow_calm _ _ _)).trans hisl
  · rw [rd_gaugeFollow _ _ _ _ (by decide) (by decide) (by decide) (by decide), rd_islandBegun_cap]
  · rw [rdB, rd_gaugeFollow _ _ _ _ (by decide) (by decide) (by decide) (by decide)]
    exact rd_islandBegun_vholdOk _ _

theorem perstDeassert_leads (s : State) (x : StartIn) (hup : s.hub.up = true)
    (hr : rdB s hubB R.HUB_MODE_READY = false) (hs : s.hub.starting = false) (hm : s.mode ≠ .hold) :
    Leads (.perstDeassert x) s fun t => t.hub.perst = false ∧ t.hub.starting = true ∧ t.hub.t1 = s.tick := by
  have hstart : perstDeassert x (begun s) = startUp x { begun s with hub := { s.hub with perst := false } } := by
    unfold perstDeassert
    extract_lets h u
    have hur : rdB u hubB R.HUB_MODE_READY = false := hr
    have hum : u.mode ≠ .hold := hm
    have huu : u.hub.up = true := hup
    have hus : u.hub.starting = false := hs
    rw [if_neg (by simp [hur, hum, huu, hus])]
    rfl
  have hkey := (startUp_steady x { begun s with hub := { s.hub with perst := false } }).2
  rw [← hstart] at hkey
  have hperst : (perstDeassert x (begun s)).hub.perst = false := congrArg (·.1) hkey
  have hstarting : (perstDeassert x (begun s)).hub.starting = true := congrArg (·.2.1) hkey
  have ht1 : (perstDeassert x (begun s)).hub.t1 = s.tick := congrArg (·.2.2.2) hkey
  exact leads_run (f := perstDeassert x) rfl (by rw [done_hub]; exact ⟨hperst, hstarting, ht1⟩)
end Sys2Proof.PowerModes
end

section
namespace Sys2Proof.PowerModes
open Sys2Proof Sys2Proof.Machine Sys2Proof.Safety Sys2Proof.Scope

/-- What a power-on reset leaves: the hub's latch and pins, and HUB_MODE as it is out of reset. -/
def Fresh (s t : State) : Prop :=
  t.mode = .dormant ∧ rd t hubB R.HUB_MODE_CAUSE = 0x0A ∧ rd t hubB R.HUB_MODE_READY = 0
    ∧ t.hub.tripLatch = s.hub.tripLatch ∧ t.hub.perst = s.hub.perst

theorem baseReset_fresh (pon : Bool) (s : State) : Fresh s (baseReset pon s) := by
  have hr (f : Fld) (hf : shielded (f.key hubB 0) = true) (h1 : keptKey true (f.key hubB 0) = false)
      (h0 : keptKey false (f.key hubB 0) = false) : rd (baseReset pon s) hubB f = f.reset 0 :=
    rd_baseReset pon s hf (by cases pon <;> assumption)
  refine ⟨congrArg Mode.ofCode (hr _ (by decide) (by decide) (by decide)), hr _ (by decide) (by decide) (by decide),
    hr _ (by decide) (by decide) (by decide), ?_, ?_⟩
  · exact (hub_of_calm HubSt.tripLatch (fun _ => rfl) (baseReset_calm pon s)).trans rfl
  · exact (hub_of_calm HubSt.perst (fun _ => rfl) (baseReset_calm pon s)).trans rfl

/-- The word HUB_MODE and the hub's power, latch and pins are as before. -/
def WordKept (s t : State) : Prop :=
  only modeKey (shieldedRegs t.regs) = only modeKey (shieldedRegs s.regs)
    ∧ t.hub.tripLatch = s.hub.tripLatch ∧ t.hub.perst = s.hub.perst ∧ t.hub.up = s.hub.up

theorem Fresh.trans {s t u : State} (h : Fresh s t) (k : WordKept t u) : Fresh s u := by
  obtain ⟨hm, hc, hr, hl, hp⟩ := h
  obtain ⟨kr, kl, kp, -⟩ := k
  exact ⟨(mode_of_only kr).trans hm, (rd_of_only kr (by decide) (by decide)).trans hc,
    (rd_of_only kr (by decide) (by decide)).trans hr, kl.trans hl, kp.trans hp⟩

theorem WordKept.trans {s t u : State} (h : WordKept s t) (k : WordKept t u) : WordKept s u := by
  obtain ⟨h1, h2, h3, h4⟩ := h
  obtain ⟨k1, k2, k3, k4⟩ := k
  exact ⟨k1.trans h1, k2.trans h2, k3.trans h3, k4.trans h4⟩

theorem wordKept_of_calm {s t : State} (h : only modeKey (shieldedRegs t.regs) = only modeKey (shieldedRegs s.regs))
    (hc : calm t.hub = calm s.hub) : WordKept s t :=
  ⟨h, hub_of_calm HubSt.tripLatch (fun _ => rfl) hc, hub_of_calm HubSt.perst (fun _ => rfl) hc,
    hub_of_calm HubSt.up (fun _ => rfl) hc⟩

theorem Apart.wordKept {e : Nat → Prop} {s t : State} (h : Apart modeKey e s t) : WordKept s t :=
  wordKept_of_calm h.1 h.2.1

theorem Still.wordKept {s t : State} (h : Still s t) : WordKept s t :=
  Apart.wordKept (Still.apart h : Apart modeKey (fun _ => False) s t)

theorem showTrip_wordKept (s : State) : WordKept s (showTrip s) := by
  unfold showTrip
  exact ⟨by simp [Fld.key, R.HUB_TRIP_PREV_THERMAL, R.HUB_TRIP_PREV_LOCKSTEP, R.HUB_TRIP_PREV_RILL_READBACK,
    R.HUB_TRIP_THERMAL, R.HUB_TRIP_LOCKSTEP, R.HUB_TRIP_RILL_READBACK], rfl, rfl, rfl⟩

theorem wrB_wordKept {b : Nat} {f : Fld} (h : ¬ modeKey (f.key b 0)) (v : Bool) (s : State) :
    WordKept s (wrB b f v s) := ⟨only_wr modeKey b f _ s 0 h, rfl, rfl, rfl⟩

theorem uncertain_wordKept (c : Nat) (s : State) : WordKept s (uncertain c s) :=
  by
  have hraise (u : State) : Still u (raise 0x010B noCh c u) := by simp
  exact (wrB_wordKept (b := holdB) (f := R.HOLD_STATUS_UNCERTAIN) (by decide) true s).trans (hraise _).wordKept

theorem islandStart_wordKept (v : Bool) (s : State) (hm : s.mode = .dormant) : WordKept s (islandStart v s) := by
  have hbegun : WordKept s (islandBegun v s) := by
    unfold islandBegun
    extract_lets u h
    have hu : WordKept s u := (resetFlds_apart (p := modeKey) (e := fun _ => False) holdB R.holdBlk (by decide) s).wordKept
    clear_value u
    have hisl : WordKept u { u with ht := 0, hub := { h with
        island := true, islandLost := true, fullRounds := 0, fromFull := false, drawn := 0, charge := 0
        holdLog := [], replay := [] } } := ⟨rfl, rfl, rfl, rfl⟩
    exact ((hu.trans hisl).trans (uncertain_wordKept 1 _)).trans (wrB_wordKept (by decide) v _)
  have hmode : (islandBegun v s).mode = .dormant := (mode_of_only hbegun.1).trans hm
  rw [islandStart_eq]
  exact hbegun.trans (wordKept_of_calm ((gaugeFollow_steady _ _ _).1 (by simp [hmode]) (by simp [hmode]))
    (gaugeFollow_calm ..))

theorem powerGood_kept {s : State} (v : Bool) (x : StartIn) (hup : s.hub.up = false) (hp : s.hub.perst = true) :
    (powerGood v x s).hub.up = true ∧ (powerGood v x s).mode = (if s.hub.tripLatch = 0 then .dormant else .tripped) ∧
      rd (powerGood v x s) hubB R.HUB_MODE_CAUSE = 0x0A ∧ rdB (powerGood v x s) hubB R.HUB_MODE_READY = false ∧
      (powerGood v x s).hub.tripLatch = s.hub.tripLatch := by
  unfold powerGood
  rw [if_neg (Bool.eq_false_iff.mp hup)]
  extract_lets h s1 s2 s3 h' s4 s5 s6 s7 s8
  have h3 : Fresh s s3 := by
    have h2 : Fresh s s2 := baseReset_fresh true s1
    unfold s3
    clear_value s2
    split
    · exact h2
    · exact h2.trans (islandStart_wordKept v s2 h2.1)
  clear_value s3
  have h6 : WordKept { s3 with hub := { s3.hub with up := true } } s6 := by
    have h5 : Still s4 s5 := each_quiet _ _ (fun n s => by simp) s4
    have h6 : Still s5 s6 := each_quiet _ _ (fun n s => by simp) s5
    exact (showTrip_wordKept _).trans (h5.trans h6).wordKept
  have hup6 : s6.hub.up = true := h6.2.2.2
  have h3' : Fresh s { s3 with hub := { s3.hub with up := true } } := h3
  obtain ⟨mode6, cause6, ready6, latch6, perst6⟩ := h3'.trans h6
  clear_value s6
  have h7 : s7.mode = (if s.hub.tripLatch = 0 then .dormant else .tripped) ∧ rd s7 hubB R.HUB_MODE_CAUSE = 0x0A ∧
      rd s7 hubB R.HUB_MODE_READY = 0 ∧ s7.hub.tripLatch = s.hub.tripLatch ∧ s7.hub.perst = s.hub.perst ∧
      s7.hub.up = true := by
    unfold s7
    rw [latch6]
    split
    · exact ⟨mode6, cause6, ready6, latch6, perst6, hup6⟩
    · obtain ⟨-, hc, -⟩ := setMode_still .tripped 0x0A s6
      exact ⟨setMode_mode .., setMode_cause .., (rd_setMode _ _ _ (by decide) (by decide) (by decide)).trans ready6,
        (hub_of_calm HubSt.tripLatch (fun _ => rfl) hc).trans latch6,
        (hub_of_calm HubSt.perst (fun _ => rfl) hc).trans perst6, (hub_of_calm HubSt.up (fun _ => rfl) hc).trans hup6⟩
  clear_value s7
  obtain ⟨mode7, cause7, ready7, latch7, perst7, hup7⟩ := h7
  obtain ⟨kr, kl, kp, kup⟩ : WordKept s7 s8 := (mgtEvent_quiet 0x1101 0 s7).wordKept
  clear_value s8
  rw [if_pos (kp.trans (perst7.trans hp))]
  refine ⟨kup.trans hup7, (mode_of_only kr).trans mode7, (rd_of_only kr (by decide) (by decide)).trans cause7, ?_,
    kl.trans latch7⟩
  rw [rdB, rd_of_only kr (by decide) (by decide), ready7]
  rfl

theorem powerGood_leads (s : State) (v : Bool) (x : StartIn) (hup : s.hub.up = false) (hp : s.hub.perst = true) :
    Leads (.powerGood v x) s fun t => t.hub.up = true ∧ t.mode = (if s.hub.tripLatch = 0 then .dormant else .tripped) ∧
      rd t hubB R.HUB_MODE_CAUSE = 0x0A ∧ rdB t hubB R.HUB_MODE_READY = false ∧
      t.hub.tripLatch = s.hub.tripLatch := by
  obtain ⟨h1, h2, h3, h4, h5⟩ := powerGood_kept (s := begun s) v x hup hp
  refine leads_run (f := powerGood v x) rfl ?_
  rw [done_hub, rd_done, rdB_done, mode_of_regs (done_regs _ _)]
  exact ⟨h1, h2, h3, h4, h5⟩

/-- Settles O9: the resets follow what they do to HUB_MODE and to the hub's own state, step by step. -/
theorem powerGoodAndPerstReset : Obligations.PowerGoodAndPerstReset := by
  unfold Obligations.PowerGoodAndPerstReset
  exact ⟨powerGood_leads, perstAssert_leads, perstDeassert_leads, holdIslandStart_leads⟩
end Sys2Proof.PowerModes
end

section
namespace Sys2Proof.PowerModes
open Sys2Proof Sys2Proof.Machine Sys2Proof.Safety Sys2Proof.Scope

/-! ### The hold log and the way out of HOLD (R86 to R97) -/

/-- The words HUB_MODE and HOLD_STATUS. -/
abbrev homeKey (k : Nat) : Prop := k / 32 = 0x10 ∨ k / 32 = 0x90000

theorem homeKey_offLocks : OffLocks homeKey := fun k hk => by
  rcases hk with h | h <;> rw [h]

theorem logCommitted_leads (s : State) (k : Nat) (h : rdB s holdB R.HOLD_STATUS_HANDOVER = true) :
    Leads (.holdLogCommitted k) s fun t => rdB t holdB R.HOLD_STATUS_HANDOVER = false ∧
      rdB t holdB R.HOLD_STATUS_LOG_OK = decide (s.hub.holdLog.length ≤ k) ∧
      t.hub.committed = s.hub.holdLog.take k ∧ t.mode = s.mode := by
  have htrig (u : State) : Apart homeKey (fun _ => False) u (each offAfterLog (fun i => trigger 0 i 0) u) :=
    each_apart _ _ (fun i u => trigger_apart homeKey_offLocks 0 i 0 (fun h => h) u) u
  refine leads_run (f := logCommitted k) rfl ?_
  rw [rdB_done, rdB_done, done_hub, mode_of_regs (done_regs _ _)]
  unfold logCommitted
  rw [if_neg (by simp [show rdB (begun s) holdB R.HOLD_STATUS_HANDOVER = true from h])]
  extract_lets n all h1 s1 s2 s3
  have hall : all = decide (s.hub.holdLog.length ≤ k) := by
    have : min k s.hub.holdLog.length = s.hub.holdLog.length ↔ s.hub.holdLog.length ≤ k := min_eq_right_iff
    rw [Bool.eq_iff_iff]
    simp [all, n]
  have hs3 : rdB s3 holdB R.HOLD_STATUS_HANDOVER = false ∧ rdB s3 holdB R.HOLD_STATUS_LOG_OK = all ∧
      s3.hub.committed = s.hub.holdLog.take k ∧ s3.mode = s.mode := by
    unfold s3 s2
    refine ⟨?_, ?_, ?_, ?_⟩
    · rw [rdB, rd_raise, wrB, rd_wr_ne _ _ _ _ _ _ _ _ (by decide), wrB, rd_wr_same]
      rfl
    · rw [rdB, rd_raise, wrB, rd_wr_same]
      cases all <;> rfl
    · have hc := raise_calm 0x0109 noCh (n % 65536 + 65536 * b2n (!all)) s2
      refine (hub_of_calm HubSt.committed (fun _ => rfl) hc).trans ?_
      simp [s2, s1, h1, n]
    · rw [State.mode, rd_raise, wrB, rd_wr_ne _ _ _ _ _ _ _ _ (by decide), wrB, rd_wr_ne _ _ _ _ _ _ _ _ (by decide)]
      rfl
  clear_value s3
  obtain ⟨hand, log, com, mode⟩ := hs3
  split
  · obtain ⟨hr, hh, -⟩ := htrig s3
    refine ⟨?_, ?_, (hub_of_calm HubSt.committed (fun _ => rfl) hh).trans com, ?_⟩
    · exact (congrArg (· == 1) (rd_of_only hr (by decide) (by decide))).trans hand
    · exact (congrArg (· == 1) (rd_of_only hr (by decide) (by decide))).trans (log.trans hall)
    · exact (congrArg Mode.ofCode (rd_of_only hr (by decide) (by decide))).trans mode
  · exact ⟨hand, log.trans hall, com, mode⟩

theorem mainOkRise_leads (s : State) :
    Leads .mainOkRise s fun t => t.hub.mainOk = true ∧ t.hub.stableAt = s.tick ∧ t.regs = s.regs := by
  refine leads_run (f := mainOkRise) rfl ?_
  rw [done_hub, done_regs]
  unfold mainOkRise
  extract_lets h u
  split
  · have hc := raise_calm 0x0107 noCh (satU 32 ((u.tick - u.hub.t0) / us)) u
    exact ⟨hub_of_calm HubSt.mainOk (fun _ => rfl) hc, hub_of_calm HubSt.stableAt (fun _ => rfl) hc, raise_regs ..⟩
  · exact ⟨rfl, rfl, rfl⟩

theorem mayExit_mode {back : Option Nat} {s : State} (h : mayExit back s = true) : s.mode = .hold := by
  simp only [mayExit, Bool.and_eq_true, beq_iff_eq] at h
  exact h.1.1.1.1.2

theorem inRangeSince_le {back : Option Nat} {s : State} {t : Nat} (h : inRangeSince s back = some t) :
    s.hub.stableAt ≤ t := by
  unfold inRangeSince at h
  split at h
  · exact (Option.some.inj h).le
  · cases back with
    | none => cases h
    | some b =>
      dsimp only at h
      split at h
      next hb =>
        obtain rfl := Option.some.inj h
        simp only [Bool.and_eq_true, decide_eq_true_eq] at hb
        exact hb.1.le
      next => cases h

/-- Before 200 ms have passed since the hand-over, or 500 ms with everything in range, HOLD is not left (R86, R87). -/
theorem mayExit_early {back : Option Nat} {s : State}
    (h : s.tick < s.hub.t0 + 200 * ms ∨ s.tick < s.hub.stableAt + 500 * ms) : mayExit back s = false := by
  rw [Bool.eq_false_iff]
  intro hm
  simp only [mayExit, Bool.and_eq_true, decide_eq_true_eq, Option.any_eq_true] at hm
  obtain ⟨⟨-, t, ht, hle⟩, ht0⟩ := hm
  have := inRangeSince_le ht
  omega

theorem holdExit_early (s : State) (x : StartIn) (h : HoldEnd)
    (he : s.tick < s.hub.t0 + 200 * ms ∨ s.tick < s.hub.stableAt + 500 * ms) :
    exec (.holdExit x h) s = .next (done id s) := by
  have hm : mayExit h.back (begun s) = false := mayExit_early he
  have hd : done (holdExit x (h.lost.map (·.val)) h.back) s = done id s := by
    unfold done holdExit
    rw [if_pos (by simp [hm])]
    rfl
  exact congrArg Host.Outcome.next hd

/-- The hub's words and state once a reset has brought it to the way out of HOLD. -/
def holdLeft (cause : Nat) (s : State) : State :=
  let s := wr hubB R.HUB_MODE_CAUSE cause (wr hubB R.HUB_MODE_MODE Mode.hold.code s)
  { s with hub := { s.hub with returning := true } }

theorem holdLeft_kept (cause : Nat) (s : State) : (holdLeft cause s).mode = .hold ∧
    rd (holdLeft cause s) hubB R.HUB_MODE_READY = rd s hubB R.HUB_MODE_READY ∧
    (holdLeft cause s).hub.returning = true ∧ (holdLeft cause s).hub.perst = s.hub.perst :=
  ⟨(congrArg Mode.ofCode (rd_wr_ne _ _ _ _ _ _ _ _ (by decide))).trans (mode_wr .hold s),
    (rd_wr_ne _ _ _ _ _ _ _ _ (by decide)).trans (rd_wr_ne _ _ _ _ _ _ _ _ (by decide)), rfl, rfl⟩

theorem holdReset_eq (s : State) : holdReset s = holdLeft (rd s hubB R.HUB_MODE_CAUSE) (resetCore s) := by
  unfold holdReset holdLeft
  rfl

theorem holdReset_kept (s : State) : (holdReset s).mode = .hold ∧ rd (holdReset s) hubB R.HUB_MODE_READY = 0 ∧
    (holdReset s).hub.returning = true ∧ (holdReset s).hub.perst = s.hub.perst := by
  obtain ⟨hh, -, hr⟩ := resetCore_hub s
  have hperst := (hub_of_calm HubSt.perst (fun _ => rfl) hh).trans (rfl : (keptHub false s.hub).perst = s.hub.perst)
  obtain ⟨hmode, hready, hret, hp⟩ := holdLeft_kept (rd s hubB R.HUB_MODE_CAUSE) (resetCore s)
  rw [holdReset_eq]
  exact ⟨hmode, hready.trans hr, hret, hp.trans hperst⟩

theorem contentLost_steady (d : Nat) (s : State) : Steady s (contentLost d s) := by
  have hw (m : Nat) (u : State) : Steady u (wrB (ddrB d m) R.DDR_STATUS_CONTENT_LOST true u) :=
    wrB_steady (by simp only [ddrB, dieB]; omega) _ true 0 (by decide) u
  unfold contentLost
  extract_lets s1 s2
  have h1 : Steady s s1 := ⟨fun _ _ => rfl, rfl⟩
  have h2 : Steady s1 s2 := ⟨fun _ _ => rfl, rfl⟩
  clear_value s1 s2
  exact (h1.trans h2).trans (each_steady _ _ hw s2)

theorem startKey_eq {g h : HubSt} (e : startKey (calm g) = startKey (calm h)) :
    g.perst = h.perst ∧ g.starting = h.starting ∧ g.returning = h.returning ∧ g.t1 = h.t1 := by
  simpa [startKey, calm] using e

theorem leaveHold_kept (l : List Nat) (s : State) : (each l contentLost (holdReset s)).mode = .hold ∧
    rd (each l contentLost (holdReset s)) hubB R.HUB_MODE_READY = 0 ∧ (each l contentLost
      (holdReset s)).hub.returning = true ∧
    (each l contentLost (holdReset s)).hub.perst = s.hub.perst := by
  obtain ⟨mode, ready, ret, per⟩ := holdReset_kept s
  generalize holdReset s = u at mode ready ret per
  have hl : Steady u (each l contentLost u) := each_steady _ _ contentLost_steady u
  generalize each l contentLost u = v at hl
  have hr := hl.1 (by simp [mode]) (by simp [mode])
  obtain ⟨hp, -, hret, -⟩ := startKey_eq hl.2
  exact ⟨(mode_of_only hr).trans mode, (rd_of_only hr (by decide) (by decide)).trans ready, hret.trans ret, hp.trans per⟩

theorem startUp_hub (x : StartIn) (s : State) : (startUp x s).hub.perst = s.hub.perst ∧
    (startUp x s).hub.starting = true ∧ (startUp x s).hub.returning = s.hub.returning ∧ (startUp x s).hub.t1 = s.tick := by
  obtain ⟨h1, h2, h3, h4⟩ := startKey_eq (startUp_steady x s).2
  exact ⟨h1, h2, h3, h4⟩

theorem startUp_word (x : StartIn) (s : State) (h1 : s.mode ≠ .show_) (h2 : s.mode ≠ .degraded) :
    only modeKey (shieldedRegs (startUp x s).regs) = only modeKey (shieldedRegs s.regs) :=
  (startUp_steady x s).1 h1 h2

theorem holdExit_leads (s : State) (x : StartIn) (h : HoldEnd) (hm : mayExit h.back s = true) (hp : s.hub.perst = false) :
    Leads (.holdExit x h) s fun t => t.hub.starting = true ∧ t.hub.returning = true ∧ t.mode = .hold ∧
      rdB t hubB R.HUB_MODE_READY = false := by
  refine leads_run (f := holdExit x (h.lost.map (·.val)) h.back) rfl ?_
  rw [done_hub, rdB_done, mode_of_regs (done_regs _ _)]
  unfold holdExit
  rw [if_neg (by simp [show mayExit h.back (begun s) = true from hm])]
  extract_lets h' s1 s2 s3
  have hp2 : s2.hub.perst = false :=
    (hub_of_calm HubSt.perst (fun _ => rfl) (raise_calm 0x0108 noCh (satU 32 ((s1.tick - s1.hub.t0) / ms)) s1)).trans hp
  clear_value s2
  have h3 : s3.mode = .hold ∧ rd s3 hubB R.HUB_MODE_READY = 0 ∧ s3.hub.returning = true ∧ s3.hub.perst = s2.hub.perst :=
    leaveHold_kept _ s2
  clear_value s3
  obtain ⟨mode, ready, ret, per⟩ := h3
  rw [if_neg (by simp [per, hp2])]
  have hr := startUp_word x s3 (by simp [mode]) (by simp [mode])
  obtain ⟨-, starting, returning, -⟩ := startUp_hub x s3
  refine ⟨starting, returning.trans ret, (mode_of_only hr).trans mode, ?_⟩
  rw [rdB, rd_of_only hr (by decide) (by decide)]
  exact congrArg (· == 1) ready

/-- The gauge when VHOLD reaches the stop voltage. -/
def stopVhold (s : State) : State :=
  let s := wrB holdB R.HOLD_STATUS_VHOLD_OK false s
  if s.hub.fromFull then
    setCharge s.hub.charge (wr holdB R.HOLD_CAPACITY_CAP (satU 24 (s.hub.drawn / 1000))
      { s with hub := { s.hub with learned := some (satU 24 (s.hub.drawn / 1000)) } })
  else s

/-- VHOLD is not above the stop voltage, and the device is in HOLD with its rails as before. -/
def Stopped (s t : State) : Prop :=
  rd t holdB R.HOLD_STATUS_VHOLD_OK = 0 ∧ t.mode = .hold ∧ t.hub.badRails = s.hub.badRails ∧ t.hub.island = s.hub.island

theorem stopVhold_stopped (s : State) (hm : s.mode = .hold) : Stopped s (stopVhold s) := by
  have hok : rd (wrB holdB R.HOLD_STATUS_VHOLD_OK false s) holdB R.HOLD_STATUS_VHOLD_OK = 0 := rd_wr_same ..
  have hmode : (wrB holdB R.HOLD_STATUS_VHOLD_OK false s).mode = .hold :=
    (congrArg Mode.ofCode (rd_wr_ne _ _ _ _ _ _ _ _ (by decide))).trans hm
  unfold stopVhold
  extract_lets u h
  have hu : Stopped s u := ⟨hok, hmode, rfl, rfl⟩
  clear_value u
  obtain ⟨uok, umode, ubad, uisl⟩ := hu
  split
  · refine ⟨?_, ?_, ubad, uisl⟩
    · rw [rd_setCharge_ne _ _ _ (by decide), rd_wr_ne _ _ _ _ _ _ _ _ (by decide)]
      exact uok
    · refine Eq.trans (congrArg Mode.ofCode ?_) umode
      exact (rd_wr_ne _ _ _ _ _ _ _ _ (by decide)).trans (rd_wr_ne _ _ _ _ _ _ _ _ (by decide))
  · exact ⟨uok, umode, ubad, uisl⟩

theorem gaugeFollow_stopped (a b : Bool) {s t : State} (h : Stopped s t) : Stopped s (gaugeFollow a b t) := by
  obtain ⟨ok, mode, bad, isl⟩ := h
  have hc := gaugeFollow_calm a b t
  refine ⟨?_, ?_, (hub_of_calm HubSt.badRails (fun _ => rfl) hc).trans bad,
    (hub_of_calm HubSt.island (fun _ => rfl) hc).trans isl⟩
  · rw [rd_gaugeFollow _ _ _ _ (by decide) (by decide) (by decide) (by decide), ok]
  · exact (mode_of_only ((gaugeFollow_steady a b t).1 (by simp [mode]) (by simp [mode]))).trans mode

theorem Stopped.still {s t u : State} (h : Stopped s t) (k : Still t u) : Stopped s u := by
  obtain ⟨ok, mode, bad, isl⟩ := h
  obtain ⟨kr, kh, -⟩ := k
  exact ⟨(rd_of_shieldedRegs kr (by decide)).trans ok,
    (congrArg Mode.ofCode (rd_of_shieldedRegs kr (by decide))).trans mode,
    (hub_of_calm HubSt.badRails (fun _ => rfl) kh).trans bad, (hub_of_calm HubSt.island (fun _ => rfl) kh).trans isl⟩

/-- The hold island goes down where VDDIO is out of its range as well (R91). -/
theorem islandCheck_stopped {s t : State} (h : Stopped s t) (hi : s.hub.island = true) :
    rdB (islandCheck t) holdB R.HOLD_STATUS_VHOLD_OK = false ∧ (islandCheck t).mode = .hold ∧
      (17 ∈ s.hub.badRails → (islandCheck t).hub.island = false ∧ (islandCheck t).hub.up = false) := by
  have hok : rdB t holdB R.HOLD_STATUS_VHOLD_OK = false := congrArg (· == 1) h.1
  have hdead : islandDead t = s.hub.badRails.contains 17 := by
    rw [islandDead, hok, h.2.2.1]
    rfl
  have hisl : t.hub.island = true := h.2.2.2.trans hi
  unfold islandCheck
  rw [hisl, hdead]
  split
  next =>
    have hdown : Still t (if timeState t = 3 then setTimeState 4 t else t) := by simp
    obtain ⟨ok, mode, -⟩ := h.still hdown
    exact ⟨congrArg (· == 1) ok, mode, fun _ => ⟨rfl, rfl⟩⟩
  next hn => exact ⟨hok, h.2.1, fun hb => absurd (by simpa using hb) hn⟩

theorem vholdStop_leads (s : State) (hm : s.mode = .hold) (hi : s.hub.island = true) :
    Leads .vholdStop s fun t => rdB t holdB R.HOLD_STATUS_VHOLD_OK = false ∧ t.mode = .hold ∧
      (17 ∈ s.hub.badRails → t.hub.island = false ∧ t.hub.up = false) := by
  refine leads_run (f := vholdStop) rfl ?_
  rw [done_hub, rdB_done, mode_of_regs (done_regs _ _)]
  unfold vholdStop
  rw [if_neg (by simp [hi, show (begun s).mode = .hold from hm])]
  extract_lets u v h
  have hu : u = gaugeFollow _ _ (stopVhold (begun s)) := gauge_of_island (s := begun s) hi stopVhold
  have hstop : Stopped (begun s) u := hu ▸ gaugeFollow_stopped _ _ (stopVhold_stopped (begun s) hm)
  clear_value u
  have hv : Stopped (begun s) v := hstop.still (by simp [v])
  clear_value v
  exact islandCheck_stopped (t := { v with hub := { v.hub with committed := v.hub.holdLog } }) hv hi

/-- Settles O14: each step follows HOLD_STATUS, HUB_MODE and the hub's own state. -/
theorem holdLogAndReturn : Obligations.HoldLogAndReturn := by
  unfold Obligations.HoldLogAndReturn
  exact ⟨logCommitted_leads, mainOkRise_leads, holdExit_leads, holdExit_early, vholdStop_leads⟩
end Sys2Proof.PowerModes
end

section
namespace Sys2Proof.PowerModes
open Sys2Proof Sys2Proof.Machine Sys2Proof.Safety Sys2Proof.Scope

/-! ### The end of a start-up (R79, R81, R92) -/

/-- A mark of a degraded unit has the value it was given. -/
theorem setDegrade_marked {f : Fld} (hm : R.HUB_MODE_MODE.key hubB 0 ≠ f.key hubB 0)
    (hc : R.HUB_MODE_CAUSE.key hubB 0 ≠ f.key hubB 0) (hs : R.MGT_SNAP_EPOCH.key mgtB 0 ≠ f.key hubB 0)
    (hd : ∀ n, R.CH_STATUS_SAFE_DARK.key (chB n) 0 ≠ f.key hubB 0) (hk : ¬ hkKey (f.key hubB 0)) (hw : f.w ≠ 0)
    (v : Bool) (s : State) : rdB (setDegrade f v s) hubB f = v := by
  unfold setDegrade
  split
  next h => exact beq_iff_eq.mp h
  next =>
    extract_lets s1 s2
    have h2 : rdB s2 hubB f = v := by
      unfold s2 s1
      rw [rdB, rd_bumpSnap _ _ _ _ hs, rd_raise, wrB, rd_wr_same,
        Nat.mod_eq_of_lt (lt_of_lt_of_le (by cases v <;> decide : b2n v < 2 ^ 1) (Nat.pow_le_pow_right (by decide)
          (Nat.pos_of_ne_zero hw)))]
      cases v <;> rfl
    clear_value s2
    split
    · exact (congrArg (· == 1) (rd_setMode_ne _ _ _ _ _ _ hm hc hs hd hk)).trans h2
    · split
      · exact (congrArg (· == 1) (rd_setMode_ne _ _ _ _ _ _ hm hc hs hd hk)).trans h2
      · exact h2

theorem safeDark_ne {k : Nat} (h : k < 0x1000000 * 32) (n : Nat) : R.CH_STATUS_SAFE_DARK.key (chB n) 0 ≠ k := by
  simp only [Fld.key, R.CH_STATUS_SAFE_DARK, chB]
  omega

theorem configDiverged_marked (v : Bool) (s : State) :
    rdB (setDegrade R.HUB_DEGRADE_CONFIG_DIVERGED v s) hubB R.HUB_DEGRADE_CONFIG_DIVERGED = v :=
  setDegrade_marked (by decide) (by decide) (by decide) (safeDark_ne (by decide)) (by decide) (by decide) v s

theorem contained_marked (v : Bool) (s : State) :
    rdB (setDegrade R.HUB_DEGRADE_CONTAINED v s) hubB R.HUB_DEGRADE_CONTAINED = v :=
  setDegrade_marked (by decide) (by decide) (by decide) (safeDark_ne (by decide)) (by decide) (by decide) v s

theorem dieOffline_marked (v : Bool) (s : State) :
    rdB (setDegrade R.HUB_DEGRADE_DIE_OFFLINE v s) hubB R.HUB_DEGRADE_DIE_OFFLINE = v :=
  setDegrade_marked (by decide) (by decide) (by decide) (safeDark_ne (by decide)) (by decide) (by decide) v s

/-- The status word of die `d`. -/
abbrev dieStatusKey (d k : Nat) : Prop := k / 32 = dieB d + 4

theorem rdB_holdWords (d : Nat) (iso : Bool) (s : State) :
    rdB (holdWords d iso s) (dieB d) R.HUB_DIE_STATUS_IN_RESET = true ∧
      rdB (holdWords d iso s) (dieB d) R.HUB_DIE_STATUS_ISOLATED = iso ∧
      rdB (holdWords d iso s) (dieB d) R.HUB_DIE_STATUS_READY = false := by
  have hne (f g : Fld) (h : f.key 0 0 ≠ g.key 0 0) : f.key (dieB d) 0 ≠ g.key (dieB d) 0 := fun e => h (by
    simp only [Fld.key] at e ⊢
    omega)
  have hmod (f : DieSt → DieSt) (u : State) (g : Fld) : rd (modDie d f u) (dieB d) g = rd u (dieB d) g := rfl
  unfold holdWords
  simp only [rdB, hmod, wrB]
  refine ⟨?_, ?_, ?_⟩
  · rw [rd_wr_ne _ _ _ _ _ _ _ _ (hne _ _ (by decide)), rd_wr_ne _ _ _ _ _ _ _ _ (hne _ _ (by decide)), rd_wr_same]
    rfl
  · rw [rd_wr_ne _ _ _ _ _ _ _ _ (hne _ _ (by decide)), rd_wr_ne _ _ _ _ _ _ _ _ (hne _ _ (by decide)),
      rd_wr_ne _ _ _ _ _ _ _ _ (hne _ _ (by decide)), rd_wr_same]
    cases iso <;> rfl
  · rw [rd_wr_same]
    rfl

theorem channelsOf_lt {d n : Nat} (hd : d < 4) (hn : n ∈ channelsOf d) : n < 192 := by
  revert n
  revert d
  decide

theorem dieStatusKey_offChannel {d n : Nat} (hd : d < 4) (hn : n ∈ channelsOf d) : OffChannel (dieStatusKey d) n :=
    fun k hk => by
  have := channelsOf_lt hd hn
  simp only [dieStatusKey, dieB] at hk
  omega

/-- A die that is held keeps the status in which it is held. -/
theorem holdDie_status {d : Nat} (hd : d < 4) (iso : Bool) (s : State) :
    rdB (holdDie d iso s) (dieB d) R.HUB_DIE_STATUS_IN_RESET = true ∧
      rdB (holdDie d iso s) (dieB d) R.HUB_DIE_STATUS_ISOLATED = iso ∧
      rdB (holdDie d iso s) (dieB d) R.HUB_DIE_STATUS_READY = false ∧
      rdB (holdDie d iso s) hubB R.HUB_DEGRADE_DIE_OFFLINE = true := by
  obtain ⟨w1, w2, w3⟩ := rdB_holdWords d iso s
  have hsweep : Apart (dieStatusKey d) (fun _ => False) (holdWords d iso s) (sweepDie d (holdWords d iso s)) :=
    sweepDie_apart d (fun n hn => dieStatusKey_offChannel hd hn) (fun h => h) (fun _ _ h => h) _
  have hoff (u : State) : Apart (dieStatusKey d) (fun _ => False) u (refreshOffline u) :=
    refreshOffline_apart (fun k hk => by simp only [dieStatusKey, dieB] at hk; omega) u
  have hkey (f : Fld) (hf : f ∈ [R.HUB_DIE_STATUS_IN_RESET, R.HUB_DIE_STATUS_ISOLATED, R.HUB_DIE_STATUS_READY]) :
      shielded (f.key (dieB d) 0) = true ∧ dieStatusKey d (f.key (dieB d) 0) :=
    (by decide : ∀ d < 4, ∀ f ∈ [R.HUB_DIE_STATUS_IN_RESET, R.HUB_DIE_STATUS_ISOLATED, R.HUB_DIE_STATUS_READY],
      shielded (f.key (dieB d) 0) = true ∧ dieStatusKey d (f.key (dieB d) 0)) d hd f hf
  rw [holdDie_eq]
  generalize holdWords d iso s = u at *
  generalize sweepDie d u = v at *
  have hkeep (f : Fld) (hf : f ∈ [R.HUB_DIE_STATUS_IN_RESET, R.HUB_DIE_STATUS_ISOLATED, R.HUB_DIE_STATUS_READY]) :
      rdB v (dieB d) f = rdB u (dieB d) f ∧ rdB (refreshOffline v) (dieB d) f = rdB v (dieB d) f :=
    ⟨congrArg (· == 1) (rd_of_only hsweep.1 (hkey f hf).1 (hkey f hf).2),
      congrArg (· == 1) (rd_of_only (hoff v).1 (hkey f hf).1 (hkey f hf).2)⟩
  obtain ⟨r1, r2⟩ := hkeep R.HUB_DIE_STATUS_IN_RESET (by simp)
  obtain ⟨i1, i2⟩ := hkeep R.HUB_DIE_STATUS_ISOLATED (by simp)
  obtain ⟨y1, y2⟩ := hkeep R.HUB_DIE_STATUS_READY (by simp)
  refine ⟨r2.trans (r1.trans w1), i2.trans (i1.trans w2), y2.trans (y1.trans w3), ?_⟩
  refine (dieOffline_marked _ v).trans (List.any_eq_true.mpr ⟨d, ?_, ?_⟩)
  · exact List.mem_range.mpr hd
  · simp [r1.trans w1]

theorem startWrite_quiet : Quiet startWrite := fun s => by
  unfold startWrite
  split
  · exact Still.refl s
  · have hb : shielded (R.CFG_STATUS_BUSY.key cfgB 0) = false := by decide
    cases s.cfg.queue <;> simp [hb]

/-- The events of the hold log are delivered to PF0's ring, and nothing else changes. -/
theorem replayLog_regs (s : State) : (replayLog s).regs = s.regs := by
  unfold replayLog
  split
  · rfl
  · exact each_keeps State.regs _ (fun e s => deliverTo_keeps State.regs (fun _ _ _ => rfl) (fun _ _ _ => rfl)
      (fun _ _ => rfl) e 0 s) _ _

theorem replayLog_hub {α : Type} (f : HubSt → α) (hf : ∀ h : HubSt, f { h with replay := [] } = f h) (s : State) :
    f (replayLog s).hub = f s.hub := by
  unfold replayLog
  split
  · rfl
  · exact (each_keeps (fun s => f s.hub) _ (fun e s => deliverTo_keeps (fun s => f s.hub) (fun _ _ _ => rfl)
      (fun _ _ _ => rfl) (fun _ _ => rfl) e 0 s) _ _).trans (hf s.hub)

/-- A device that has returned from HOLD is DORMANT (R92). -/
theorem returned_kept (s : State) :
    rd (wrB holdB R.HOLD_STATUS_ACTIVE false (setMode .dormant 7 s)) hubB R.HUB_MODE_READY = rd s hubB R.HUB_MODE_READY ∧
      (wrB holdB R.HOLD_STATUS_ACTIVE false (setMode .dormant 7 s)).hub.starting = s.hub.starting ∧
      (wrB holdB R.HOLD_STATUS_ACTIVE false (setMode .dormant 7 s)).mode = .dormant := by
  have hready := rd_setMode .dormant 7 s (f := R.HUB_MODE_READY) (by decide) (by decide) (by decide)
  have hstart := hub_of_calm HubSt.starting (fun _ => rfl) (setMode_still .dormant 7 s).2.1
  have hmode := setMode_mode .dormant 7 s
  generalize setMode .dormant 7 s = u at hready hstart hmode
  exact ⟨(rd_wr_ne _ _ _ _ _ _ _ _ (by decide)).trans hready, hstart,
    (congrArg Mode.ofCode (rd_wr_ne _ _ _ _ _ _ _ _ (by decide))).trans hmode⟩

theorem startupComplete_leads (s : State) (h : s.hub.starting = true) (hr : s.hub.returning = decide (s.mode = .hold)) :
    Leads .startupComplete s fun t => rdB t hubB R.HUB_MODE_READY = true ∧ t.hub.starting = false ∧
      t.hub.returning = false ∧ t.mode = (if s.mode = .hold then .dormant else s.mode) := by
  refine leads_run (f := startupComplete) rfl ?_
  rw [done_hub, rdB_done, mode_of_regs (done_regs _ _)]
  unfold startupComplete
  rw [if_neg (by simp [h])]
  extract_lets g s1 s2 h' s3
  have h1 : rd s1 hubB R.HUB_MODE_READY = 1 ∧ s1.hub.starting = false ∧ s1.hub.returning = decide (s.mode = .hold) ∧
      s1.mode = s.mode := by
    refine ⟨rd_wr_same .., rfl, hr, ?_⟩
    exact congrArg Mode.ofCode (rd_wr_ne _ _ _ _ _ _ _ _ (by decide))
  have h3 : rd s3 hubB R.HUB_MODE_READY = 1 ∧ s3.hub.starting = false ∧ s3.hub.returning = false ∧
      s3.mode = (if s.mode = .hold then .dormant else s.mode) := by
    clear_value s1
    obtain ⟨ready, starting, returning, mode⟩ := h1
    unfold s3
    rw [mode]
    split
    next hm =>
      obtain ⟨ready2, starting2, mode2⟩ : rd s2 hubB R.HUB_MODE_READY = rd s1 hubB R.HUB_MODE_READY ∧
        s2.hub.starting = s1.hub.starting ∧ s2.mode = .dormant := returned_kept s1
      clear_value s2
      refine ⟨?_, (replayLog_hub HubSt.starting (fun _ => rfl) _).trans (starting2.trans starting),
        replayLog_hub HubSt.returning (fun _ => rfl) _, (mode_of_regs (replayLog_regs _)).trans mode2⟩
      exact (rd_of_regs (replayLog_regs _) ..).trans (ready2.trans ready)
    next hm => exact ⟨ready, starting, returning.trans (decide_eq_false hm), mode⟩
  clear_value s3
  obtain ⟨ready, starting, returning, mode⟩ := h3
  obtain ⟨kr, kh, -⟩ := startWrite_quiet s3
  refine ⟨?_, (hub_of_calm HubSt.starting (fun _ => rfl) kh).trans starting,
    (hub_of_calm HubSt.returning (fun _ => rfl) kh).trans returning,
    (congrArg Mode.ofCode (rd_of_shieldedRegs kr (by decide))).trans mode⟩
  rw [rdB, rd_of_shieldedRegs kr (by decide), ready]
  rfl

/-- Settles O10: what a start-up that ends, or a step of it that is late, writes last. -/
theorem startupEnds : Obligations.StartupEnds := by
  unfold Obligations.StartupEnds
  refine ⟨startupComplete_leads, fun s h => ?_, fun s h => ?_, fun s d h => ?_, fun s => ?_⟩
  · have he : stepTimeout .records (begun s) = setDegrade R.HUB_DEGRADE_CONFIG_DIVERGED true (begun s) := by
      simp [stepTimeout, h]
    refine leads_run (f := stepTimeout .records) rfl ?_
    rw [rdB_done, he]
    exact configDiverged_marked true _
  · have he : stepTimeout .other (begun s) = setDegrade R.HUB_DEGRADE_CONTAINED true (begun s) := by
      simp [stepTimeout, h]
    refine leads_run (f := stepTimeout .other) rfl ?_
    rw [rdB_done, he]
    exact contained_marked true _
  · have he : stepTimeout (.die d) (begun s) = holdDie d true (begun s) := by simp [stepTimeout, h]
    refine leads_run (f := stepTimeout (.die d)) rfl ?_
    rw [rdB_done, rdB_done, rdB_done, he]
    obtain ⟨hr, hi, -, ho⟩ := holdDie_status d.isLt true (begun s)
    exact ⟨hi, hr, ho⟩
  · exact leads_run (f := fun s => { s with hub := { s.hub with vf := true } }) rfl ⟨by rw [done_hub],
      by rw [done_regs]; rfl⟩
end Sys2Proof.PowerModes
end

section
namespace Sys2Proof.PowerModes
open Sys2Proof Sys2Proof.Machine Sys2Proof.Safety Sys2Proof.Scope

/-! ### Mode requests that are carried out (R47, R55) -/

theorem toOff_still (n : Nat) (park : Bool) (s : State) : Still (setChState n .off s) (toOff n park s) :=
  idleChannel_quiet n park _

theorem drain_still (n r : Nat) (s : State) : Still (setChState n .draining s) (drain n r s) := by
  unfold drain
  extract_lets r s1 w
  change Still s1 _
  clear_value s1
  split
  · extract_lets s2
    have h2 : Still s1 s2 := stopFix_quiet ..
    clear_value s2
    split
    · split
      · exact h2.trans (seqHalt_quiet ..)
      · exact h2
    · exact h2
  · simp

theorem shielded_chState {n : Nat} (hn : n < 192) : shielded (R.CH_STATUS_STATE.key (chB n) 0) = true := by
  have hkey : R.CH_STATUS_STATE.key (chB n) 0 = (0x1000000 + 0x4000 * n + 4) * 32 := by
    simp [Fld.key, R.CH_STATUS_STATE]
  rw [← Bool.not_eq_false, not_shielded_iff, hkey]
  omega

theorem chState_of_still {s t : State} (h : Still s t) {n : Nat} (hn : n < 192) : t.chState n = s.chState n :=
  congrArg ChState.ofCode (rd_of_shieldedRegs h.1 (shielded_chState hn))

theorem toOff_chState {n : Nat} (hn : n < 192) (park : Bool) (s : State) : (toOff n park s).chState n = .off :=
  (chState_of_still (toOff_still n park s) hn).trans (setChState_chState ..)

theorem drain_chState {n : Nat} (hn : n < 192) (r : Nat) (s : State) : (drain n r s).chState n = .draining :=
  (chState_of_still (drain_still n r s) hn).trans (setChState_chState ..)

/-- The key is that of the state of channel `n`. -/
abbrev stateKey (n k : Nat) : Prop := k = R.CH_STATUS_STATE.key (chB n) 0

theorem stateKey_offChannel {m n : Nat} (h : m ≠ n) : OffChannel (stateKey m) n := fun k hk => by
  simp only [stateKey, Fld.key, R.CH_STATUS_STATE, chB] at hk
  omega

theorem chState_of_apart {e : Nat → Prop} {n : Nat} (hn : n < 192) {s t : State} (h : Apart (stateKey n) e s t) :
    t.chState n = s.chState n := congrArg ChState.ofCode (rd_of_only h.1 (shielded_chState hn) rfl)

theorem homeKey_offChannel (n : Nat) : OffChannel homeKey n := fun k hk => by
  simp only [homeKey] at hk
  omega

/-- When each element acts once, and only `a` on what `P` says, `P` is in the end as `a` makes it. -/
theorem each_once {α β : Type} (P : State → β) (g : α → State → State) (l : List α) (hl : l.Nodup) {a : α} (ha : a ∈ l)
    (h : ∀ b, b ≠ a → ∀ s, P (g b s) = P s) (s : State) : ∃ s', P s' = P s ∧ P (each l g s) = P (g a s') := by
  have hrest (l : List α) (hl : a ∉ l) : ∀ s, P (each l g s) = P s := by
    induction l with
    | nil => exact fun _ => rfl
    | cons b t ih =>
      intro s
      exact (ih (fun ht => hl (List.mem_cons_of_mem _ ht)) (g b s)).trans
        (h b (fun e => hl (e ▸ List.mem_cons_self ..)) s)
  induction l generalizing s with
  | nil => cases ha
  | cons b t ih =>
    obtain ⟨hb, ht⟩ := List.nodup_cons.mp hl
    by_cases hab : b = a
    · subst hab
      exact ⟨s, rfl, hrest t hb (g b s)⟩
    · obtain ⟨s', h1, h2⟩ := ih ht ((List.mem_cons.mp ha).resolve_left (Ne.symm hab)) (g b s)
      exact ⟨s', h1.trans (h b hab s), h2⟩

/-- What a request for DORMANT does to one channel. -/
def endChannel (n : Nat) (s : State) : State :=
  match s.chState n with
  | .armed => disarm n s
  | .running => drain n (s.ht + 1) s
  | _ => s

theorem endChannel_apart {p e : Nat → Prop} {n : Nat} (h : OffChannel p n) (s : State) : Apart p e s (endChannel n s) := by
  unfold endChannel
  split
  · exact toOff_apart h true s
  · exact drain_apart h _ s
  · exact Apart.refl s

theorem endChannels_chState {n : Nat} (hn : n < 192) (s : State) :
    (s.chState n = .armed → (each channels endChannel s).chState n = .off) ∧
      (s.chState n = .running → (each channels endChannel s).chState n = .draining) := by
  obtain ⟨s', h1, h2⟩ := each_once (fun s => s.chState n) endChannel channels List.nodup_range (List.mem_range.mpr hn)
    (fun m hm s => chState_of_apart (e := fun _ => False) hn (endChannel_apart (stateKey_offChannel (Ne.symm hm)) s)) s
  rw [h2]
  refine ⟨fun h => ?_, fun h => ?_⟩
  · simp only [endChannel, h1, h]
    exact toOff_chState hn true s'
  · simp only [endChannel, h1, h]
    exact drain_chState hn _ s'

theorem endChannels_home (s : State) : Apart homeKey (fun _ => False) s (each channels endChannel s) :=
  each_apart _ _ (fun n s => endChannel_apart (homeKey_offChannel n) s) s

/-! #### An accepted request -/

theorem setStanding_quiet (mgmt : Bool) (m : Nat) : Quiet (setStanding mgmt m) := fun s => by
  have hp : shielded (R.MGT_STATUS_PF0_MODE.key mgtB 0) = false := by decide
  have hm : shielded (R.MGT_STATUS_MGT_MODE.key mgtB 0) = false := by decide
  cases mgmt <;> simp [setStanding, hp, hm]

/-- The management block lies above the hub's registers. -/
theorem rd_wr_mgt {b : Nat} {f : Fld} {i : Nat} (h : f.key b i < mgtB * 32) (g : Fld) (v : Nat) (s : State) :
    rd (wr mgtB g v s) b f i = rd s b f i := rd_wr_ne _ _ _ _ _ _ _ _ fun he => by
  have : mgtB * 32 ≤ g.key mgtB 0 := by
    simp only [Fld.key]
    omega
  omega

theorem rd_mgtEvent {b : Nat} {f : Fld} {i : Nat} (h : f.key b i < mgtB * 32) (code arg : Nat) (s : State) :
    rd (mgtEvent code arg s) b f i = rd s b f i := by
  unfold mgtEvent
  dsimp only
  rw [when_keeps (fun s => rd s b f i) _ _ _ (rd_emitOut ..), rd_raise]
  exact rd_wr_mgt h _ _ s

theorem rd_refreshOvr {b : Nat} {f : Fld} {i : Nat} (h : f.key b i < mgtB * 32) (s : State) :
    rd (refreshOvr s) b f i = rd s b f i := by
  unfold refreshOvr
  dsimp only
  rw [when_keeps (fun s => rd s b f i) _ _ _ (rd_mgtEvent h ..)]
  simp only [wrB, rd_wr_mgt h]

theorem rd_setStanding {b : Nat} {f : Fld} {i : Nat} (h : f.key b i < mgtB * 32) (mgmt : Bool) (m : Nat) (s : State) :
    rd (setStanding mgmt m s) b f i = rd s b f i := by
  have hsnap (u : State) : rd (bumpSnap u) b f i = rd u b f i := rd_bumpSnap _ _ _ _ fun he => by
    have : mgtB * 32 ≤ R.MGT_SNAP_EPOCH.key mgtB 0 := by decide
    omega
  unfold setStanding
  dsimp only
  rw [rd_refreshOvr h, when_keeps (fun s => rd s b f i) _ _ _ (hsnap _), rd_wr_mgt h]

/-- An accepted request, before it is carried out. -/
def accept (mgmt : Bool) (m : Nat) (s : State) : State := setStanding mgmt m (wr hubB R.HUB_MODE_TARGET m s)

theorem modeReq_accepted {s : State} {mgmt : Bool} {m : Nat} (hm : s.mode ≠ .hold) (hr : reqReason s mgmt m = 0) :
    modeReq mgmt m s = carryOut mgmt m (accept mgmt m s) := by
  simp [modeReq, hm, hr, accept]

theorem accept_mode (mgmt : Bool) (m : Nat) (s : State) : (accept mgmt m s).mode = s.mode :=
  congrArg Mode.ofCode ((rd_setStanding (by decide) mgmt m _).trans (rd_wr_ne _ _ _ _ _ _ _ _ (by decide)))

theorem accept_target (mgmt : Bool) {m : Nat} (hm : m < 8) (s : State) :
    rd (accept mgmt m s) hubB R.HUB_MODE_TARGET = m := by
  rw [accept, rd_setStanding (by decide), rd_wr_same]
  exact Nat.mod_eq_of_lt hm

theorem accept_degrade (mgmt : Bool) (m : Nat) (s : State) : degrade (accept mgmt m s) = degrade s := by
  have h (f : Fld) (hf : f.key hubB 0 < mgtB * 32) (ht : R.HUB_MODE_TARGET.key hubB 0 ≠ f.key hubB 0) :
      rd (accept mgmt m s) hubB f = rd s hubB f := (rd_setStanding hf mgmt m _).trans (rd_wr_ne _ _ _ _ _ _ _ _ ht)
  simp only [degrade, h R.HUB_DEGRADE_REPLACE (by decide) (by decide),
    h R.HUB_DEGRADE_CONFIG_DIVERGED (by decide) (by decide),
    h R.HUB_DEGRADE_DIE_OFFLINE (by decide) (by decide), h R.HUB_DEGRADE_CONTAINED (by decide) (by decide)]

theorem accept_chState (mgmt : Bool) (m : Nat) (s : State) {n : Nat} (hn : n < 192) :
    (accept mgmt m s).chState n = s.chState n :=
  (chState_of_still (setStanding_quiet mgmt m _) hn).trans
    (congrArg ChState.ofCode (rd_wr_ne _ _ _ _ _ _ _ _ (by
      simp only [Fld.key, R.HUB_MODE_TARGET, R.CH_STATUS_STATE, hubB, chB]
      omega)))

/-- The cause of a requested mode (R53). -/
theorem setMode_target (m : Mode) (c : Nat) (s : State) :
    rd (setMode m c s) hubB R.HUB_MODE_TARGET = rd s hubB R.HUB_MODE_TARGET :=
  rd_setMode m c s (by decide) (by decide) (by decide)

/-- A request for DORMANT waits for the channels. -/
def pendRequest (mgmt : Bool) (s : State) : State :=
  wrB hubB R.HUB_MODE_REQ_PENDING true { s with hub := { s.hub with reqMgmt := mgmt } }

theorem pendRequest_ne {b : Nat} {f : Fld} {i : Nat} (h : R.HUB_MODE_REQ_PENDING.key hubB 0 ≠ f.key b i) (mgmt : Bool)
    (s : State) : rd (pendRequest mgmt s) b f i = rd s b f i := rd_wr_ne _ _ _ _ _ _ _ _ h

/-! What carrying out a request does, mode by mode. -/

theorem carryOut_dormant (mgmt : Bool) (s : State) : carryOut mgmt 0 s =
    if s.mode = .dormant then s
    else each channels endChannel (pendRequest mgmt s) := rfl

theorem carryOut_service (mgmt : Bool) (s : State) : carryOut mgmt 1 s =
    if s.mode = .service then s else setMode .service (if mgmt then 2 else 1) s := rfl

theorem carryOut_show (mgmt : Bool) (s : State) : carryOut mgmt 2 s =
    if s.mode = .dormant || s.mode = .service then
      setMode (if degrade s = 0 then .show_ else .degraded) (if mgmt then 2 else 1) s
    else s := rfl

theorem service_leads (s : State) (m : Bool) (hm : s.mode ≠ .hold) (hr : reqReason s m 1 = 0) :
    Leads (.modeReqService m) s fun t => t.mode = .service ∧ rd t hubB R.HUB_MODE_TARGET = 1 ∧
      (s.mode ≠ .service → rd t hubB R.HUB_MODE_CAUSE = if m then 2 else 1) := by
  refine leads_run (f := modeReq m 1) rfl ?_
  rw [mode_of_regs (done_regs _ _), rd_done, rd_done, modeReq_accepted (s := begun s) hm hr]
  have hmode : (accept m 1 (begun s)).mode = s.mode := accept_mode m 1 (begun s)
  have htarget := accept_target m (by decide : 1 < 8) (begun s)
  generalize accept m 1 (begun s) = u at hmode htarget
  rw [carryOut_service, hmode]
  split
  next h => exact ⟨hmode.trans h, htarget, fun hn => absurd h hn⟩
  next h =>
    refine ⟨setMode_mode .., (setMode_target ..).trans htarget, fun _ => (setMode_cause ..).trans ?_⟩
    cases m <;> rfl

theorem show_leads (s : State) (m : Bool) (hm : s.mode = .dormant ∨ s.mode = .service) (hr : reqReason s m 2 = 0) :
    Leads (.modeReqShow m) s fun t => t.mode = (if degrade s = 0 then .show_ else .degraded) ∧
      rd t hubB R.HUB_MODE_TARGET = 2 ∧ rd t hubB R.HUB_MODE_CAUSE = if m then 2 else 1 := by
  have hh : s.mode ≠ .hold := by rcases hm with h | h <;> simp [h]
  refine leads_run (f := modeReq m 2) rfl ?_
  rw [mode_of_regs (done_regs _ _), rd_done, rd_done, modeReq_accepted (s := begun s) hh hr]
  have hmode : (accept m 2 (begun s)).mode = s.mode := accept_mode m 2 (begun s)
  have htarget := accept_target m (by decide : 2 < 8) (begun s)
  have hdeg : degrade (accept m 2 (begun s)) = degrade s := accept_degrade m 2 (begun s)
  generalize accept m 2 (begun s) = u at hmode htarget hdeg
  rw [carryOut_show, hmode, hdeg, if_pos (by simpa using hm)]
  refine ⟨setMode_mode .., (setMode_target ..).trans htarget, (setMode_cause ..).trans ?_⟩
  cases m <;> rfl

theorem dormant_leads (s : State) (m : Bool) (hm : s.mode ≠ .hold) (hd : s.mode ≠ .dormant) (hr : reqReason s m 0 = 0) :
    Leads (.modeReqDormant m) s fun t => rdB t hubB R.HUB_MODE_REQ_PENDING = true ∧ rd t hubB R.HUB_MODE_TARGET = 0 ∧
      t.mode = s.mode ∧ t.hub.reqMgmt = m ∧ ∀ n < 192, (s.chState n = .armed → t.chState n = .off) ∧
        (s.chState n = .running → t.chState n = .draining) := by
  refine leads_run (f := modeReq m 0) rfl ?_
  simp only [chState_of_regs (done_regs _ _), mode_of_regs (done_regs _ _), rd_done, rdB_done, done_hub,
    modeReq_accepted (s := begun s) hm hr, carryOut_dormant, if_neg ((accept_mode m 0 (begun s)).trans_ne hd)]
  have hmode : (accept m 0 (begun s)).mode = s.mode := accept_mode m 0 (begun s)
  have htarget := accept_target m (by decide : 0 < 8) (begun s)
  have hch (n : Nat) (hn : n < 192) : (accept m 0 (begun s)).chState n = s.chState n := accept_chState m 0 (begun s) hn
  generalize accept m 0 (begun s) = u at hmode htarget hch
  have hv : rdB (pendRequest m u) hubB R.HUB_MODE_REQ_PENDING = true := congrArg (· == 1) (rd_wr_same ..)
  have htar : rd (pendRequest m u) hubB R.HUB_MODE_TARGET = 0 := (pendRequest_ne (by decide) m u).trans htarget
  have hmod : (pendRequest m u).mode = s.mode := (congrArg Mode.ofCode (pendRequest_ne (by decide) m u)).trans hmode
  have hreq : (pendRequest m u).hub.reqMgmt = m := rfl
  have hstate (n : Nat) (hn : n < 192) : (pendRequest m u).chState n = s.chState n :=
    (congrArg ChState.ofCode (pendRequest_ne
      (by simp only [Fld.key, R.HUB_MODE_REQ_PENDING, R.CH_STATUS_STATE, hubB, chB]; omega) m u)).trans (hch n hn)
  generalize pendRequest m u = v at hv htar hmod hreq hstate
  obtain ⟨hregs, hcalm, -⟩ := endChannels_home v
  refine ⟨(congrArg (· == 1) (rd_of_only hregs (by decide) (by decide))).trans hv,
    (rd_of_only hregs (by decide) (by decide)).trans htar,
    (congrArg Mode.ofCode (rd_of_only hregs (by decide) (by decide))).trans hmod,
    (hub_of_calm HubSt.reqMgmt (fun _ => rfl) hcalm).trans hreq, fun n hn => ?_⟩
  rw [← hstate n hn]
  exact endChannels_chState hn v

theorem dormantEntered_leads (s : State) (hp : rdB s hubB R.HUB_MODE_REQ_PENDING = true) (hu : inUse s = false) :
    Leads .dormantEntered s fun t => t.mode = .dormant ∧ rdB t hubB R.HUB_MODE_REQ_PENDING = false := by
  refine leads_run (f := dormantEntered) rfl ?_
  rw [mode_of_regs (done_regs _ _), rdB_done]
  unfold dormantEntered
  rw [if_neg (by simp [show rdB (begun s) hubB R.HUB_MODE_REQ_PENDING = true from hp,
    show inUse (begun s) = false from hu])]
  refine ⟨setMode_mode .., ?_⟩
  rw [rdB, rd_setMode _ _ _ (by decide) (by decide) (by decide), dropRequest, wrB, rd_wr_same]
  rfl

/-- Settles O11: a request is accepted with its target and then sets the mode, or the channels, and nothing after it
touches these. -/
theorem modeRequestsAreCarriedOut : Obligations.ModeRequestsAreCarriedOut := by
  unfold Obligations.ModeRequestsAreCarriedOut
  exact ⟨service_leads, show_leads, dormant_leads, dormantEntered_leads⟩
end Sys2Proof.PowerModes
end

section
namespace Sys2Proof.PowerModes
open Sys2Proof Sys2Proof.Machine Sys2Proof.Safety Sys2Proof.Scope

/-! ### What leaves the launch queues and the sequencers alone -/

/-- The channels whose launch queue is empty. -/
def queues (t : Tbl WeirSt) : Nat → Bool := fun n => (tget ({} : WeirSt) n t).q.isEmpty

/-- The states agree in which launch queues are empty, and in the sequencers. -/
@[simp] abbrev SameQueues (s t : State) : Prop := queues t.weirs = queues s.weirs ∧ t.seqs = s.seqs

theorem SameQueues.refl (s : State) : SameQueues s s := ⟨rfl, rfl⟩

theorem SameQueues.trans {s t u : State} (h : SameQueues s t) (k : SameQueues t u) : SameQueues s u :=
  ⟨k.1.trans h.1, k.2.trans h.2⟩

/-- The operation keeps empty launch queues empty and others not, and the sequencers as they were. -/
@[simp] abbrev KeepsQueues (f : State → State) : Prop := ∀ s, SameQueues s (f s)

@[simp] theorem weirs_ite (c : Prop) [Decidable c] (s t : State) :
    (if c then s else t).weirs = if c then s.weirs else t.weirs := apply_ite ..
@[simp] theorem seqs_ite (c : Prop) [Decidable c] (s t : State) :
    (if c then s else t).seqs = if c then s.seqs else t.seqs := apply_ite ..
@[simp] theorem queues_ite (c : Prop) [Decidable c] (t u : Tbl WeirSt) :
    queues (if c then t else u) = if c then queues t else queues u := apply_ite ..

@[simp] theorem setWeir_queues (n : Nat) (w : WeirSt) (s : State) (h : w.q.isEmpty = (s.weir n).q.isEmpty) :
    queues (setWeir n w s).weirs = queues s.weirs := by
  funext m
  by_cases hm : n = m
  · subst hm
    exact (congrArg (fun w : WeirSt => w.q.isEmpty) (setWeir_same n w s)).trans h
  · exact congrArg (fun w : WeirSt => w.q.isEmpty) (setWeir_ne n m w s hm)

theorem each_queues_mem {α : Type} (f : α → State → State) (l : List α) (h : ∀ a ∈ l, KeepsQueues (f a)) :
    KeepsQueues (each l f) := by
  induction l with
  | nil => exact SameQueues.refl
  | cons a t ih =>
    exact fun s => (h a (List.mem_cons_self ..) s).trans (ih (fun b hb => h b (List.mem_cons_of_mem _ hb)) (f a s))

@[simp] theorem each_queues {α : Type} (f : α → State → State) (l : List α) (h : ∀ a, KeepsQueues (f a)) :
    KeepsQueues (each l f) := each_queues_mem f l (fun a _ => h a)

@[simp] theorem when_queues (c : Bool) (f : State → State) (h : KeepsQueues f) : KeepsQueues (when_ c f) := fun s => by
  cases c
  · exact SameQueues.refl s
  · exact h s

/-! #### Composition -/

@[simp] theorem putEffect_queues (n : Nat) (vals : List (Nat × Option Nat)) (bnd : Nat) (live : Bool) :
    KeepsQueues (putEffect n vals bnd live) :=
  fun s => by simp [putEffect]
@[simp] theorem showLayer_queues (n k : Nat) : KeepsQueues (showLayer n k) := fun s => by simp [showLayer]

@[simp] theorem bumpSnap_queues : KeepsQueues bumpSnap := fun s => by simp [bumpSnap]
@[simp] theorem flipVals_queues (n : Nat) (vals : List (Nat × Option Nat)) (coefs : List CoefReq) (bnd : Nat)
    (live : Bool) :
    KeepsQueues (flipVals n vals coefs bnd live) :=
  fun s => by simp [flipVals]
@[simp] theorem flipPre_queues (n bnd : Nat) (live : Bool) : KeepsQueues (flipPre n bnd live) :=
  fun s => by simp [flipPre]
@[simp] theorem refreshSqueeze_queues (d : Nat) : KeepsQueues (refreshSqueeze d) := fun s => by simp [refreshSqueeze]
@[simp] theorem refreshDie_queues (d : Nat) : KeepsQueues (refreshDie d) := fun s => by simp [refreshDie]
@[simp] theorem refreshDemand_queues (n : Nat) : KeepsQueues (refreshDemand n) := fun s => by simp [refreshDemand]
@[simp] theorem showEffect_queues (n : Nat) : KeepsQueues (showEffect n) := fun s => by simp [showEffect]
@[simp] theorem settleScalers_queues (n : Nat) : KeepsQueues (settleScalers n) := fun s => by
  unfold settleScalers
  extract_lets u
  refine SameQueues.trans (t := u) (each_queues _ _ (fun sc s => ?_) s) (by simp)
  extract_lets now x v
  have hv : SameQueues s v := by
    unfold v
    clear_value now
    rcases now with _ | k
    · simp
    · simp
  exact hv.trans (each_queues _ _ (fun c s => by simp) v)
@[simp] theorem flipsDone_queues (n : Nat) : KeepsQueues (flipsDone n) := fun s => by simp [flipsDone]

/-! #### Packets, rings and completions -/

@[simp] theorem draw_queues (w : Nat) : KeepsQueues (fun s => (draw w s).2) := fun s => SameQueues.refl s
@[simp] theorem sendPacket_queues (n : Nat) (o : Out) : KeepsQueues (sendPacket n o) := fun s => by simp [sendPacket]
@[simp] theorem sendCfg_queues (n : Nat) (write : Bool) (addr : Nat) (words : List Nat) (count : Nat) (pass : Bool) :
    KeepsQueues (sendCfg n write addr words count pass) :=
  fun s => by simp [sendCfg]
@[simp] theorem writeHead_queues (n addr v : Nat) : KeepsQueues (writeHead n addr v) := fun s => by simp [writeHead]
@[simp] theorem writeFormat_queues (n : Nat) (m : Fmt) : KeepsQueues (writeFormat n m) := fun s => by simp [writeFormat]
@[simp] theorem formatAtOnce_queues (n : Nat) (old : Fmt) : KeepsQueues (formatAtOnce n old) :=
  fun s => by simp [formatAtOnce]
@[simp] theorem refreshOut_queues (t r : Nat) : KeepsQueues (refreshOut t r) := fun s => by simp [refreshOut]
@[simp] theorem stopRing_queues (t r why : Nat) : KeepsQueues (stopRing t r why) := fun s => by simp [stopRing]
@[simp] theorem modRing_queues (t r : Nat) (f : RingSt → RingSt) : KeepsQueues (modRing t r f) :=
  fun s => by simp [modRing]
@[simp] theorem signalCq_queues (t r : Nat) : KeepsQueues (signalCq t r) := fun s => by simp [signalCq]
@[simp] theorem writeCq_queues (t r : Nat) : KeepsQueues (writeCq t r) := fun s => by
  unfold writeCq
  split <;> simp
@[simp] theorem flushCq_queues (t r : Nat) : KeepsQueues (flushCq t r) := fun s => by simp [flushCq]
@[simp] theorem pushCq_queues (t r : Nat) (e : List Byte) : KeepsQueues (pushCq t r e) := fun s => by simp [pushCq]
@[simp] theorem completeAt_queues (id code detail ht frames : Nat) :
    KeepsQueues (completeAt id code detail ht frames) :=
  fun s => by
  unfold completeAt
  split <;> simp
@[simp] theorem complete_queues (id code detail : Nat) : KeepsQueues (complete id code detail) :=
  fun s => by simp [complete]
@[simp] theorem complete?_queues (id : Option Nat) (code detail : Nat) : KeepsQueues (complete? id code detail) :=
  fun s => by
  unfold complete?
  split <;> simp

/-! #### Commits -/

@[simp] theorem bumpCseq_queues (n : Nat) : KeepsQueues (bumpCseq n) := fun s => by simp [bumpCseq]
@[simp] theorem takePending_queues (n : Nat) (flip : Nat → Bool) (cf : CoefReq → Bool) :
    KeepsQueues (fun s => (takePending n flip cf s).2.2) := fun s => SameQueues.refl s
@[simp] theorem applyFlip_queues (n : Nat) (flip : Nat → Bool) (cf : CoefReq → Bool) (bnd : Nat) (live : Bool) :
    KeepsQueues (applyFlip n flip cf bnd live) :=
    fun s => by simp [applyFlip]
@[simp] theorem commitNow_queues (n : Nat) (c : CommitReq) : KeepsQueues (commitNow n c) := fun s => by simp [commitNow]
@[simp] theorem finishUpdatesWith_queues (n k at_ code detail late : Nat) :
    KeepsQueues (finishUpdatesWith n k at_ code detail late) := fun s =>
  SameQueues.trans (t := modCh n (fun x => { x with updates := x.updates.filter (·.layer != k) }) s) (by simp)
    (each_queues _ _ (fun u s => by cases u.cmd <;> simp) _)
@[simp] theorem finishUpdates_queues (n k at_ code late : Nat) : KeepsQueues (finishUpdates n k at_ code late) :=
  fun s => by simp [finishUpdates]
@[simp] theorem updateNow_queues (n fn k : Nat) : KeepsQueues (updateNow n fn k) := fun s => by simp [updateNow]
@[simp] theorem flipLeave_queues (n bnd : Nat) : KeepsQueues (flipLeave n bnd) := fun s => by simp [flipLeave]
@[simp] theorem flushCommits_queues (n : Nat) : KeepsQueues (flushCommits n) := fun s => by
  unfold flushCommits
  dsimp only
  split <;> simp [when_]

/-! #### Substitutions of a pipe -/

@[simp] theorem showOx_queues (d : Nat) : KeepsQueues (showOx d) := fun s => by simp [showOx]
@[simp] theorem modOx_queues (d : Nat) (f : OxSt → OxSt) : KeepsQueues (modOx d f) := fun s => by simp [modOx]
@[simp] theorem oxLoadClear_queues (d k : Nat) : KeepsQueues (oxLoadClear d k) := fun s => by simp [oxLoadClear]
@[simp] theorem oxTake_queues (d k trig attempt p : Nat) : KeepsQueues (oxTake d k trig attempt p) :=
  fun s => by simp [oxTake]
@[simp] theorem oxFailed_queues (d k why : Nat) : KeepsQueues (oxFailed d k why) := fun s => by simp [oxFailed]
@[simp] theorem oxStart_queues (d k trig : Nat) : KeepsQueues (oxStart d k trig) := fun s => by
  unfold oxStart
  split <;> simp
@[simp] theorem oxNext_queues (d : Nat) : KeepsQueues (oxNext d) := fun s => by simp [oxNext]
@[simp] theorem oxEnd_queues (d : Nat) : KeepsQueues (oxEnd d) := fun s => by simp [oxEnd]
@[simp] theorem oxAbandon_queues (n : Nat) : KeepsQueues (oxAbandon n) := fun s => by simp [oxAbandon]

/-! #### Lamps -/

@[simp] theorem flushRefused_queues (n : Nat) : KeepsQueues (flushRefused n) := fun s => by
  unfold flushRefused
  split <;> simp
@[simp] theorem sendPark_queues (n : Nat) : KeepsQueues (sendPark n) := fun s => by simp [sendPark]

@[simp] theorem writeActuator_queues (n addr v : Nat) : KeepsQueues (writeActuator n addr v) :=
  fun s => by simp [writeActuator]
@[simp] theorem spoilOpen_queues (n : Nat) : KeepsQueues (spoilOpen n) := fun s => by
  unfold spoilOpen
  dsimp only
  split <;> simp
@[simp] theorem settleRill_queues (n : Nat) : KeepsQueues (settleRill n) := fun s => by simp [settleRill]
@[simp] theorem refreshPending_queues (n : Nat) : KeepsQueues (refreshPending n) := fun s => by simp [refreshPending]
theorem rillCeils_queues (n : Nat) (l : List Nat) : KeepsQueues (each l (fun k s => wr (strB n k) R.LAMP_SLIMIT_RILL_CEIL
    (rillCeil s n k) (modStr n k (fun x => { x with govern := x.govern.filter (fun g => s.ht < g.2) }) s))) := 
  each_queues _ _ (fun k s => by simp)
@[simp] theorem rillDrivers_queues (n t latch : Nat) (l : List Nat) : KeepsQueues (each l (fun i s =>
    match dueCmd s n i t latch, (s.drv n i).cmds with
    | some c, _ :: rest =>
      if c.first = none then
        setDrv n i { s.drv n i with cmds := { c with first := some t, stale := c.tag == (s.drv n i).tag } :: rest,
                                    lastTag := c.tag } s
      else s
    | none, c :: _ =>
      if c.cmd = 5 && (s.str n (drvString s n i)).bypSince = none then
        modStr n (drvString s n i) (fun x => { x with bypSince := some t }) s
      else s
    | _, _ => s)) := each_queues _ _ fun i s => by split <;> simp
@[simp] theorem sendRill_queues (n t : Nat) : KeepsQueues (sendRill n t) := fun s => by
  unfold sendRill
  extract_lets s1 latch drs mask ceil shares sent s2 s3 l s4 s5
  have h1 : SameQueues s s1 := by simp [s1]
  have h2 : SameQueues s1 s2 := rillCeils_queues n (strings s1 n) s1
  have h3 : SameQueues s2 s3 := rillDrivers_queues n t latch drs s2
  clear_value s3 sent shares
  have h5 : SameQueues s3 s5 := by simp [s5, s4]
  exact ((((h1.trans h2).trans h3).trans h5).trans (by simp))
@[simp] theorem abortRill_queues (n : Nat) : KeepsQueues (abortRill n) := fun s => by simp [abortRill]
@[simp] theorem cutStart_queues (n k cause : Nat) : KeepsQueues (cutStart n k cause) := fun s => by simp [cutStart]
@[simp] theorem cutEnd_queues (n k cause : Nat) : KeepsQueues (cutEnd n k cause) := fun s => by simp [cutEnd]
@[simp] theorem cutMotion_queues (n : Nat) (on : Bool) : KeepsQueues (cutMotion n on) := fun s => by
  unfold cutMotion
  split <;> simp

/-! #### Motion -/

@[simp] theorem wheelEval_queues (n : Nat) : KeepsQueues (wheelEval n) := fun s => by
  unfold wheelEval
  extract_lets u cs
  have hu : SameQueues s u := by simp [u]
  clear_value u cs
  refine hu.trans ?_
  split
  · rcases cs with _ | ⟨c, cs⟩
    · simp
    · simp
  · simp
@[simp] theorem withdrawPred_queues (n : Nat) : KeepsQueues (withdrawPred n) := fun s => by simp [withdrawPred]
@[simp] theorem showPred_queues (n : Nat) : KeepsQueues (showPred n) := fun s => by
  unfold showPred
  split <;> simp
@[simp] theorem predPeriod_queues (n : Nat) (v : ℤ) : KeepsQueues (predPeriod n v) := fun s => by simp [predPeriod]
@[simp] theorem predPhase_queues (n ref : Nat) (v : ℤ) : KeepsQueues (predPhase n ref v) := fun s => by simp [predPhase]
@[simp] theorem scanToward_queues (n target : Nat) (v0 : Option Nat) : KeepsQueues (scanToward n target v0) :=
  fun s => by simp [scanToward]
@[simp] theorem moveSst_queues (n : Nat) (x : SState) : KeepsQueues (moveSst n x) := fun s => by
  unfold moveSst
  split <;> simp
@[simp] theorem scanEval_queues (n : Nat) : KeepsQueues (scanEval n) := fun s => by
  unfold scanEval
  dsimp only
  split <;> simp [when_]
@[simp] theorem gridPeriod_queues (n : Nat) (v : ℤ) : KeepsQueues (gridPeriod n v) := fun s => by simp [gridPeriod]
@[simp] theorem gridPhase_queues (n : Nat) (v : Int) : KeepsQueues (gridPhase n v) := fun s => by
  unfold gridPhase
  extract_lets p
  have h : SameQueues s (modMove n (fun m => { m with gridPh := p }) s) := by simp
  exact h.trans (writeActuator_queues n 0x120 _ _)
@[simp] theorem applyAct_queues (k i : Nat) (v : Int) (ref : Nat) : KeepsQueues (applyAct k i v ref) := fun s => by
  unfold applyAct
  split <;> simp
@[simp] theorem toSafe_queues (k : Nat) : KeepsQueues (toSafe k) := fun s => by simp [toSafe]

/-! #### Loop cores and slots -/

@[simp] theorem refreshCore_queues (c : Nat) : KeepsQueues (refreshCore c) := fun s => by simp [refreshCore]
@[simp] theorem setSlotState_queues (k : Nat) (x : SlotState) : KeepsQueues (setSlotState k x) :=
  fun s => by simp [setSlotState]
@[simp] theorem beginSample_queues (k : Nat) : KeepsQueues (beginSample k) := fun s => by simp [beginSample]
@[simp] theorem nextOnCore_queues (c : Nat) : KeepsQueues (nextOnCore c) := fun s => by
  unfold nextOnCore
  split <;> simp
@[simp] theorem leaveCore_queues (k : Nat) : KeepsQueues (leaveCore k) := fun s => by simp [leaveCore]
@[simp] theorem refreshScheds_queues (n : Nat) (fresh : Option Nat) : KeepsQueues (refreshScheds n fresh) := fun s => by
  unfold refreshScheds
  dsimp only
  split
  · simp
  · split <;> simp
@[simp] theorem setWst_queues (n : Nat) (x : WState) : KeepsQueues (setWst n x) := fun s => by simp [setWst]
@[simp] theorem setSst_queues (n : Nat) (x : SState) : KeepsQueues (setSst n x) := fun s => by simp [setSst]
@[simp] theorem slotLeft_queues (k : Nat) : KeepsQueues (slotLeft k) := fun s => by simp [slotLeft]
@[simp] theorem stopSlot_queues (k : Nat) : KeepsQueues (stopSlot k) := fun s => by simp [stopSlot]
@[simp] theorem slotChReset_queues (k : Nat) : KeepsQueues (slotChReset k) := fun s => by simp [slotChReset]
@[simp] theorem motionChReset_queues (n : Nat) : KeepsQueues (motionChReset n) := fun s => by simp [motionChReset]

/-! #### Locks and epochs -/

@[simp] theorem freeLock_queues (n : Nat) : KeepsQueues (freeLock n) := fun s => by simp [freeLock]
@[simp] theorem breakLock_queues (n cause : Nat) : KeepsQueues (breakLock n cause) := fun s => by simp [breakLock]
@[simp] theorem breakOwned_queues (p : Nat → Bool) : KeepsQueues (breakOwned p) := fun s => by simp [breakOwned]
@[simp] theorem trigger_queues (cls idx count : Nat) : KeepsQueues (trigger cls idx count) := fun s => by simp [trigger]
end Sys2Proof.PowerModes
end

section
namespace Sys2Proof.PowerModes
open Sys2Proof Sys2Proof.Machine Sys2Proof.Safety Sys2Proof.Scope

/-! ### Channels that are armed, stopped, cleared and reset (R63, R65, R70) -/

/-- The fields of a channel's status words that arming, stopping and faults alone move. -/
theorem shielded_channel {n : Nat} (hn : n < 192) :
    shielded (R.CH_STATUS_FAULT.key (chB n) 0) = true ∧ shielded (R.CH_STATUS_ARM_REJECT.key (chB n) 0) = true ∧
      shielded (R.CH_STATUS_COMMITTED.key (chB n) 0) = true ∧ shielded (R.SEQ_STATUS_FAULT.key (chB n) 0) = true := by
  simp only [← Bool.not_eq_false, not_shielded_iff, Fld.key, R.CH_STATUS_FAULT, R.CH_STATUS_ARM_REJECT,
    R.CH_STATUS_COMMITTED, R.SEQ_STATUS_FAULT, chB]
  omega

/-- A change of state writes no other field of the channel's. -/
theorem rd_setChState (n : Nat) (x : ChState) (s : State) {f : Fld} (hk : shielded (f.key (chB n) 0) = true)
    (hs : R.CH_STATUS_STATE.key (chB n) 0 ≠ f.key (chB n) 0) : rd (setChState n x s) (chB n) f = rd s (chB n) f := by
  have h1 (u : State) : Still u (bumpSnap u) := bumpSnap_quiet u
  have h2 (a : Nat) (u : State) : Still u (refreshSafeDark n (raise 0x0110 n a u)) := by simp
  have h3 (c : Bool) (u : State) : Still u (when_ c (calLeft n) u) := when_quiet c _ (calLeft_quiet n) u
  unfold setChState
  dsimp only
  rw [rd_of_shieldedRegs ((h2 _ _).trans (h3 _ _)).1 hk, rd_of_shieldedRegs (h1 _).1 hk, rd_wr_ne _ _ _ _ _ _ _ _ hs]

theorem stateKey_ne (n : Nat) : R.CH_STATUS_STATE.key (chB n) 0 ≠ R.CH_STATUS_FAULT.key (chB n) 0 ∧
    R.CH_STATUS_STATE.key (chB n) 0 ≠ R.CH_STATUS_ARM_REJECT.key (chB n) 0 ∧
    R.CH_STATUS_STATE.key (chB n) 0 ≠ R.SEQ_STATUS_FAULT.key (chB n) 0 := by
  simp only [Fld.key, R.CH_STATUS_FAULT, R.CH_STATUS_ARM_REJECT, R.CH_STATUS_STATE, R.SEQ_STATUS_FAULT]
  omega

theorem done_weir (f : State → State) (s : State) (n : Nat) : (done f s).weir n = (f (begun s)).weir n :=
  congrArg (tget ({} : WeirSt) n) (done_weirs f s)
theorem done_seq (f : State → State) (s : State) (n : Nat) : (done f s).seq n = (f (begun s)).seq n :=
  congrArg (tget ({} : SeqSt) n) (done_seqs f s)

/-- Arming marks the channel, and then prepares its queue and its sequencer. -/
theorem armChannel_still (n : Nat) (s : State) :
    Still (wrB (chB n) R.CH_STATUS_COMMITTED false (setChState n .armed s)) (armChannel n s) := by
  unfold armChannel
  extract_lets s1 s2 s3 s4
  have h3 : Still s1 s3 := by simp [s2, s3]
  clear_value s3
  have h4 : Still s3 s4 := by
    unfold s4
    split <;> simp
  exact (h3.trans h4).trans (by simp)

theorem arm_leads (s : State) (n : Fin 192) (b : Bool) (hoff : s.chState n = .off) (hheld : isHeld s n = false)
    (hr : armReason (armRecheck n (begun s)) n = 0) (hm : armMode s = true) (hk : armKind s n = true) :
    Leads (.chArm b n) s fun t => t.chState n = .armed ∧ rdB t (chB n) R.CH_STATUS_COMMITTED = false ∧
      rd t (chB n) R.CH_STATUS_ARM_REJECT = rd s (chB n) R.CH_STATUS_ARM_REJECT := by
  refine leads_run (f := chArm b n) rfl ?_
  rw [chState_of_regs (done_regs _ _), rd_done, rdB_done]
  have harm : chArm b n (begun s) = armChannel n (armRecheck n (begun s)) := by
    simp [chArm, show (begun s).chState n = .off from hoff, show isHeld (begun s) n = false from hheld,
      show armMode (begun s) = true from hm, show armKind (begun s) n = true from hk, hr]
  have hrec : Still (begun s) (armRecheck n (begun s)) := armRecheck_quiet n _
  rw [harm]
  generalize armRecheck n (begun s) = u at hrec
  obtain ⟨-, rej, com, -⟩ := shielded_channel n.isLt
  obtain ⟨-, hne, -⟩ := stateKey_ne n
  have hst := armChannel_still n u
  generalize armChannel n u = t at hst
  refine ⟨(chState_of_still hst n.isLt).trans ?_, (congrArg (· == 1) (rd_of_shieldedRegs hst.1 com)).trans ?_,
    (rd_of_shieldedRegs hst.1 rej).trans ?_⟩
  · refine (congrArg ChState.ofCode (rd_wr_ne _ _ _ _ _ _ _ _ ?_)).trans (setChState_chState ..)
    simp only [Fld.key, R.CH_STATUS_COMMITTED, R.CH_STATUS_STATE]
    omega
  · rw [wrB, rd_wr_same]
    rfl
  · rw [wrB, rd_wr_ne, rd_setChState n _ _ rej hne]
    · exact rd_of_shieldedRegs hrec.1 rej
    · simp only [Fld.key, R.CH_STATUS_COMMITTED, R.CH_STATUS_ARM_REJECT]
      omega

/-! #### A channel that comes to OFF -/

theorem oxAbandon_flush_queues (n : Nat) (s : State) : SameQueues s (flushRefused n (oxAbandon n (flushCommits n s))) := by
  simp

/-- A swap of banks at once leaves the sequencer where it stands. -/
theorem swapAtOnce_run (n : Nat) (s : State) : ((swapAtOnce n s).seq n).run = (s.seq n).run := by
  have hset (b : Bool) (a c : Nat) (u : State) : (raise 0x0604 n a (wrB (chB n) R.SEQ_STATUS_HALTED b
      (wr (chB n) R.SEQ_STATUS_BANK c (wrB (chB n) R.SEQ_STATUS_SWAP_PENDING b u)))).seqs = u.seqs := by simp
  have hdone (id c d h f : Nat) (u : State) : (completeAt id c d h f u).seqs = u.seqs := (completeAt_queues id c d h f u).2
  unfold swapAtOnce
  split
  · unfold swapEffect
    extract_lets b cmd s1 s2 s3
    have h3 : s3.seqs = s1.seqs := hset ..
    have hs := congrArg SeqSt.run (setSeq_same n { s.seq n with swap := none, marks := [] } s)
    have h1 : (s3.seq n).run = (s.seq n).run := (congrArg (fun t => (tget ({} : SeqSt) n t).run) h3).trans hs
    clear_value s3 cmd
    split
    · rw [State.seq, hdone]
      exact h1
    · exact h1
  · rfl

/-- The channel's queue is empty and its sequencer stopped once it is idle. -/
theorem idleChannel_empty (n : Nat) (park : Bool) (s : State) :
    ((idleChannel n park s).weir n).q = [] ∧ ((idleChannel n park s).seq n).run = .stopped := by
  have hrest (u : State) : SameQueues u (when_ park (sendPark n) (flushRefused n (oxAbandon n (flushCommits n u)))) := by
    simp
  unfold idleChannel
  extract_lets s1 s2 s3 s4 s5
  have hrun : (s2.seq n).run = .stopped :=
    (swapAtOnce_run n _).trans (congrArg SeqSt.run (setSeq_same n _ s))
  have hq : queues s3.weirs n = true := congrArg (fun w : WeirSt => w.q.isEmpty) (setWeir_same n _ s2)
  have h3 : s3.seqs = s2.seqs := rfl
  have h4 : SameQueues s3 s4 := by simp [s4]
  obtain ⟨hw, hs⟩ := h4.trans (hrest s4)
  refine ⟨List.isEmpty_iff.mp ((congrFun hw n).trans hq), ?_⟩
  have hs' : (when_ park (sendPark n) s5).seqs = s2.seqs := hs.trans h3
  rw [State.seq, hs']
  exact hrun

theorem toOff_empty (n : Nat) (park : Bool) (s : State) :
    ((toOff n park s).weir n).q = [] ∧ ((toOff n park s).seq n).run = .stopped := idleChannel_empty n park _

theorem disarm_leads (s : State) (n : Fin 192) (h : s.chState n = .armed) :
    Leads (.chDisarm n) s fun t => t.chState n = .off ∧ (t.weir n).q = [] ∧ (t.seq n).run = .stopped := by
  refine leads_run (f := chDisarm n) rfl ?_
  rw [chState_of_regs (done_regs _ _), done_weir, done_seq]
  rw [chDisarm, if_pos (show (begun s).chState n = .armed from h), disarm]
  exact ⟨toOff_chState n.isLt true _, toOff_empty n true _⟩

theorem stop_leads (s : State) (n : Fin 192) (h : s.chState n = .running) :
    Leads (.chStop n) s fun t => t.chState n = .draining := by
  refine leads_run (f := chStop n) rfl ?_
  rw [chState_of_regs (done_regs _ _), chStop, if_pos (show (begun s).chState n = .running from h)]
  exact drain_chState n.isLt _ _

theorem clear_leads (s : State) (n : Fin 192) (h : s.chState n = .faulted) (h1 : 1 ≤ rd s (chB n) R.CH_STATUS_FAULT)
    (h3 : rd s (chB n) R.CH_STATUS_FAULT ≤ 3) : Leads (.chClear n) s fun t => t.chState n = .off ∧
      rd t (chB n) R.CH_STATUS_FAULT = rd s (chB n) R.CH_STATUS_FAULT ∧
      rd t (chB n) R.SEQ_STATUS_FAULT = rd s (chB n) R.SEQ_STATUS_FAULT := by
  refine leads_run (f := chClear n) rfl ?_
  rw [chState_of_regs (done_regs _ _), rd_done, rd_done]
  have hclear : chClear n (begun s) = toOff n false (begun s) := by
    have hf : rd (begun s) (chB n) R.CH_STATUS_FAULT = 1 ∨ rd (begun s) (chB n) R.CH_STATUS_FAULT = 2 ∨
        rd (begun s) (chB n) R.CH_STATUS_FAULT = 3 := by
      change rd s _ _ = 1 ∨ rd s _ _ = 2 ∨ rd s _ _ = 3
      omega
    rw [chClear, if_neg (by simp [show (begun s).chState n = .faulted from h])]
    rcases hf with hf | hf | hf <;> simp only [hf]
  rw [hclear]
  obtain ⟨hfault, -, -, hseq⟩ := shielded_channel n.isLt
  obtain ⟨hne, -, hne'⟩ := stateKey_ne n
  have hst := toOff_still n false (begun s)
  refine ⟨toOff_chState n.isLt _ _, (rd_of_shieldedRegs hst.1 hfault).trans ?_, (rd_of_shieldedRegs hst.1 hseq).trans ?_⟩
  · exact rd_setChState n _ _ hfault hne
  · exact rd_setChState n _ _ hseq hne'

theorem chReset_off {n : Nat} (hn : n < 192) (wd : Bool) (s : State) : (chReset wd n s).chState n = .off ∧
    rd (chReset wd n s) (chB n) R.CH_STATUS_FAULT = 0 ∧ rd (chReset wd n s) (chB n) R.SEQ_STATUS_FAULT = 0 ∧
    ((chReset wd n s).weir n).q = [] := by
  have htrig (c : Nat) (u : State) : Apart (fun _ => True) (fun _ => False) u (trigger 2 n c u) :=
    trigger_apart_unowned 2 n c (by decide) (by decide) (fun h => h) u
  have htrigq (c : Nat) (u : State) : SameQueues u (trigger 2 n c u) := trigger_queues 2 n c u
  obtain ⟨hfault, -, -, hseq⟩ := shielded_channel hn
  unfold chReset
  extract_lets count s1 s2 s3 s4 s5 s6 s7 s8 s9 s10 s11 s12 s13
  have hoff : s6.chState n = .off := by
    unfold s6
    split
    next h => exact (chState_of_still (idleChannel_quiet n true s5) hn).trans h
    · exact toOff_chState hn true s5
  clear_value s6
  have h7 : s7.chState n = .off ∧ rd s7 (chB n) R.CH_STATUS_FAULT = 0 ∧ rd s7 (chB n) R.SEQ_STATUS_FAULT = 0 := by
    have hne : R.CH_STATUS_FAULT.key (chB n) 0 ≠ R.CH_STATUS_STATE.key (chB n) 0 ∧
        R.SEQ_STATUS_FAULT.key (chB n) 0 ≠ R.CH_STATUS_STATE.key (chB n) 0 ∧
        R.CH_STATUS_FAULT.key (chB n) 0 ≠ R.SEQ_STATUS_FAULT.key (chB n) 0 := by
      simp only [Fld.key, R.CH_STATUS_FAULT, R.CH_STATUS_STATE, R.SEQ_STATUS_FAULT]
      omega
    obtain ⟨h1, h2, h3⟩ := hne
    refine ⟨?_, ?_, ?_⟩
    · rw [State.chState, rd_wr_ne _ _ _ _ _ _ _ _ h1, rd_wr_ne _ _ _ _ _ _ _ _ h2]
      exact hoff
    · exact rd_wr_same ..
    · rw [rd_wr_ne _ _ _ _ _ _ _ _ h3]
      exact rd_wr_same ..
  clear_value s7
  have h12 : Still s7 s12 := by simp [s8, s9, s10, s11, s12]
  have hq : queues s10.weirs n = true := congrArg (fun w : WeirSt => w.q.isEmpty) (setWeir_same n _ s9)
  have hq12 : queues s12.weirs n = true := hq
  clear_value s12
  have hk : Still s12 (motionChReset n s13) := by simp [s13]
  have hkq : SameQueues s12 (motionChReset n s13) := by simp [s13]
  generalize motionChReset n s13 = u at hk hkq
  obtain ⟨hr, -⟩ := ((h12.trans hk).apart).trans (htrig count u)
  obtain ⟨hw, -⟩ := hkq.trans (htrigq count u)
  obtain ⟨hch, hf, hs⟩ := h7
  exact ⟨(congrArg ChState.ofCode (rd_of_only hr (shielded_chState hn) trivial)).trans hch,
    (rd_of_only hr hfault trivial).trans hf, (rd_of_only hr hseq trivial).trans hs,
    List.isEmpty_iff.mp ((congrFun hw n).trans hq12)⟩

theorem reset_leads (s : State) (n : Fin 192) (h : rdB s (dieB (n.val / 48)) R.HUB_DIE_STATUS_IN_RESET = false) :
    Leads (.chReset n) s fun t => t.chState n = .off ∧ rd t (chB n) R.CH_STATUS_FAULT = 0 ∧
      rd t (chB n) R.SEQ_STATUS_FAULT = 0 ∧ (t.weir n).q = [] := by
  refine leads_run (f := chResetCmd n) rfl ?_
  rw [chState_of_regs (done_regs _ _), rd_done, rd_done, done_weir, chResetCmd,
    if_neg (by simp [show rdB (begun s) (dieB (n.val / 48)) R.HUB_DIE_STATUS_IN_RESET = false from h])]
  exact chReset_off n.isLt true _

/-- Settles O18: each command changes the channel's state first, and what follows leaves its status words alone. -/
theorem channelCommandsMoveTheChannel : Obligations.ChannelCommandsMoveTheChannel := by
  unfold Obligations.ChannelCommandsMoveTheChannel
  exact ⟨arm_leads, disarm_leads, stop_leads, clear_leads, reset_leads⟩
end Sys2Proof.PowerModes
end

section
namespace Sys2Proof.PowerModes
open Sys2Proof Sys2Proof.Machine Sys2Proof.Safety Sys2Proof.Scope

/-! ### Channels that start to run and that drain (R63, R66, R404) -/

@[simp] theorem each_weirs {α : Type} (f : α → State → State) (l : List α) (h : ∀ a s, (f a s).weirs = s.weirs)
    (s : State) : (each l f s).weirs = s.weirs := each_keeps State.weirs f h l s

@[simp] theorem calOutcome_weirs (t : Nat) (o : CalOut) (s : State) : (calOutcome t o s).weirs = s.weirs := by
  simp [calOutcome, calEnd]

@[simp] theorem bumpSnap_weirs (s : State) : (bumpSnap s).weirs = s.weirs := by
  simp [bumpSnap]

@[simp] theorem refreshSafeDark_weirs (n : Nat) (s : State) : (refreshSafeDark n s).weirs = s.weirs := by
  have h (l : List Nat) (f : Nat → StrSt → StrSt) (u : State) : (each l (fun k => modStr n k (f k)) u).weirs = u.weirs :=
    each_weirs _ l (fun k s => by simp) u
  simp [refreshSafeDark, h]

@[simp] theorem calLeft_weirs (n : Nat) (s : State) : (calLeft n s).weirs = s.weirs := by
  simp [calLeft, calStarve]

@[simp] theorem setChState_weirs (n : Nat) (x : ChState) (s : State) : (setChState n x s).weirs = s.weirs := by
  simp [setChState, when_]

theorem running_leads (s : State) (n : Fin 192) (m : Item) (ha : s.chState n = .armed)
    (hm : (s.weir n).q.find? (fun i => i.kind == .mark) = some m) (hd : runDue s n m.t = true)
    (hp : pinPassed s n m.t s.ht = true) (hr : s.hub.noRelease = false) :
    Leads (.channelRunning n) s fun t => t.chState n = .running ∧ (t.weir n).runFrame = m.t := by
  refine leads_run (f := channelRunning n) rfl ?_
  rw [chState_of_regs (done_regs _ _), done_weir]
  unfold channelRunning
  rw [show (begun s).chState n = .armed from ha,
    show ((begun s).weir n).q.find? (fun i => i.kind == .mark) = some m from hm]
  dsimp (zeta := false) only
  rw [if_neg (by simp [show runDue (begun s) n m.t = true from hd,
    show pinPassed (begun s) n m.t s.ht = true from hp, hr])]
  extract_lets s1 s2 s3 c s4 s5 s6
  have h2 : (s2.weir n).runFrame = m.t := congrArg WeirSt.runFrame (setWeir_same n _ s1)
  have h5 : s5.weirs = s2.weirs := by
    unfold s5
    rw [each_weirs _ _ fun _ _ => ?_]
    · rfl
    · simp
  have h6 : s6.weirs = s2.weirs := by
    unfold s6
    rw [each_weirs _ _ fun _ _ => ?_]
    · exact h5
    · simp [queueOwn, ownTag, draw]
  refine ⟨setChState_chState .., ?_⟩
  rw [State.weir, setChState_weirs, h6]
  exact h2

theorem drainComplete_leads (s : State) (n : Fin 192) (hs : s.chState n = .draining) (hd : drained s n = true)
    (hp : (s.weir n).parkSent = false) (ht : linkTrained s n = true) (ha : (s.port n).parkDone = false) :
    Leads (.drainComplete n) s fun t => (t.weir n).parkSent = true := by
  refine leads_run (f := fun s => drainAcked n (if linkTrained s n then drainComplete n s else s)) rfl ?_
  rw [done_weir, if_pos (show linkTrained (begun s) n = true from ht), drainComplete,
    if_neg (by simp [show (begun s).chState n = .draining from hs, show drained (begun s) n = true from hd,
      show ((begun s).weir n).parkSent = false from hp])]
  have h (u : State) (hu : (u.weir n).parkSent = true) (hl : (u.port n).parkDone = false) :
      ((drainAcked n (sendPark n u)).weir n).parkSent = true := by
    have hport : ((sendPark n u).port n).parkDone = false := by
      unfold sendPark
      split
      · exact hl
      · exact congrArg PortSt.parkDone (setPort_same ..)
    have hweir : (sendPark n u).weirs = u.weirs := by
      unfold sendPark
      split <;> rfl
    rw [drainAcked, if_neg (by simp [hport]), State.weir, hweir]
    exact hu
  exact h _ (congrArg WeirSt.parkSent (setWeir_same ..)) ha

theorem drainTimeout_leads (s : State) (n : Fin 192) (v : Nat) (hs : s.chState n = .draining)
    (hv : (s.seq n).stopT = some v) (h : v + 10 * ms ≤ s.ht) :
    Leads (.drainTimeout n) s fun t => t.chState n = .off ∧ (t.weir n).q = [] := by
  refine leads_run (f := drainTimeout n) rfl ?_
  rw [chState_of_regs (done_regs _ _), done_weir]
  unfold drainTimeout
  rw [show (begun s).chState n = .draining from hs, show ((begun s).seq n).stopT = some v from hv]
  dsimp only
  rw [if_pos (show v + 10 * ms ≤ (begun s).ht from h)]
  exact ⟨toOff_chState n.isLt _ _, (toOff_empty n true _).1⟩

/-- Settles O20: what a channel does before its state changes last leaves alone what it noted of its launch queue. -/
theorem channelsRunAndDrain : Obligations.ChannelsRunAndDrain := by
  unfold Obligations.ChannelsRunAndDrain
  exact ⟨running_leads, drainComplete_leads, drainTimeout_leads⟩
end Sys2Proof.PowerModes
end

section
namespace Sys2Proof.PowerModes
open Sys2Proof Sys2Proof.Machine Sys2Proof.Safety Sys2Proof.Scope

/-! ### A trip whose locks are not where the unit's are (R60, R722)

`lockAt` may name a lock that the 256 of the unit do not hold, no run leads there, and the registers of the lock numbered
0xFD000 would lie on those of channel 0. The trip breaks that lock and so writes the channel's state. -/

/-- Channel 0 is neither OFF nor in another state that has a code, and its state is read as the owner of lock 0xFD000. -/
def strayLock : State := { State.reset with
  hub := { State.reset.hub with up := true, island := true }
  lockAt := [(0xFD000, (0, 0))]
  regs := [(R.CH_STATUS_STATE.key (chB 0) 0, 0x400)] }

/-- The trip up to the channels: the cause is latched, the mode TRIPPED, the units are off. -/
def tripped (c : TripCause) (s : State) : State :=
  let s := wrB hubB c.fld true { s with hub := { s.hub with tripLatch := setBit s.hub.tripLatch c.bit true } }
  each offInTripped (fun i => trigger 0 i 0)
    (setMode .tripped c.code (wrB holdB R.HOLD_STATUS_ACTIVE false (dropRequest (raise 0x0104 noCh (tripBits s) s))))

/-- What a trip does to the channels. -/
def darkenChannels (s : State) : State := portsDark (each channels motionHold (each channels (fun n => chFault n 6) s))

theorem trip_eq (c : TripCause) (s : State) (hup : s.hub.up = true) (hm : s.mode ≠ .hold ∧ s.mode ≠ .tripped) :
    trip c s = darkenChannels (tripped c s) := by
  have hne : c.fld.key hubB 0 ≠ R.HUB_MODE_MODE.key hubB 0 := by cases c <;> decide
  have hmode (u : State) : (raise 0x0104 noCh (tripBits (wrB hubB c.fld true u)) (wrB hubB c.fld true u)).mode = u.mode :=
    congrArg Mode.ofCode ((rd_raise ..).trans (rd_wr_ne _ _ _ _ _ _ _ _ hne))
  unfold trip
  rw [if_neg (by simp [hup])]
  extract_lets h s1 s2 s3 held s4 s5 s6
  have h3 : s3.mode = s.mode := hmode s1
  have hheld : held = false := by simp [held, h3, hm.1]
  have h5 : s5 = tripped c s := by
    unfold s5
    rw [if_neg (by simp [hheld])]
    rfl
  rw [if_neg (by simp [h3, hm.2])]
  unfold s6
  rw [h5]
  rfl

theorem motionHold_still (n : Nat) (s : State) : Still s (motionHold n s) := by
  simp [motionHold]

/-- A channel that is OFF stays OFF. -/
theorem darkenChannels_off {n : Nat} (hn : n < 192) (s : State) (h : s.chState n = .off) :
    (darkenChannels s).chState n = .off := by
  obtain ⟨u, hu, hfault⟩ := each_once (fun s => s.chState n) (fun n => chFault n 6) channels List.nodup_range
    (List.mem_range.mpr hn) (fun m hm s => chState_of_apart (e := fun _ => False) hn
      (chFault_apart (stateKey_offChannel (Ne.symm hm)) 6 s)) s
  have hoff : (chFault n 6 u).chState n = .off := by
    have hu' : u.chState n = .off := hu.trans h
    have : chFault n 6 u = u := by
      unfold chFault
      rw [hu']
    rw [this, hu']
  have hmove (u : State) : Still u (portsDark (each channels motionHold u)) :=
    (each_quiet motionHold channels motionHold_still u).trans (portsDark_quiet _)
  exact (chState_of_still (hmove _) hn).trans (hfault.trans hoff)

theorem strayLock_tripped_off : (tripped .lockstep (begun strayLock)).chState 0 = .off := by decide +kernel

/-- Refutes O16: the trip breaks the lock and so writes the state of channel 0, which is then OFF and not FAULTED. -/
theorem not_tripsAndTheTripLatch : ¬ Obligations.TripsAndTheTripLatch := by
  unfold Obligations.TripsAndTheTripLatch
  rintro ⟨htrip, -⟩
  obtain ⟨-, -, -, hdark⟩ := of_leads_run (htrip strayLock rfl) rfl
  obtain ⟨hfaulted, -⟩ := (hdark (by decide +kernel)).2 0 (by decide) (by decide +kernel)
  rw [chState_of_regs (done_regs _ _), trip_eq .lockstep (begun strayLock) rfl (by decide +kernel),
    darkenChannels_off (by decide) _ strayLock_tripped_off] at hfaulted
  exact ChState.noConfusion hfaulted
end Sys2Proof.PowerModes
end

section
namespace Sys2Proof.PowerModes
open Sys2Proof Sys2Proof.Machine Sys2Proof.Safety Sys2Proof.Scope

/-! ### A hand-over below the stop voltage that meets a capacity below its minimum (R82, R97)

The gauge is followed as VHOLD_OK falls, and a low capacity that CAP_LOW does not show yet is noted then: the device in
SHOW degrades. -/

/-- A device in SHOW whose hold store holds 1 mC, below HOLD_CAP_MIN, while HOLD_STATUS.CAP_LOW is 0. -/
def capLowUnseen : State :=
  wr hubB R.HUB_MODE_MODE Mode.show_.code <| wr holdB R.HOLD_CAPACITY_CAP 1 <| wr holdB R.HOLD_CAP_MIN_CHARGE 2
    { State.reset with hub := { State.reset.hub with up := true, island := true } }

/-- MAIN_OK has fallen. -/
def fallen (s : State) : State :=
  let s := { s with hub := { s.hub with mainOk := false, mainAt := s.tick } }
  { s with hub := { s.hub with stableAt := s.tick } }

/-- The hand-over up to where the device goes dark, with VHOLD below the stop voltage. -/
def belowStop (s : State) : State :=
  let s := { s with hub := { s.hub with t0 := s.tick, starting := false, returning := false } }
  let s := wr holdB R.HOLD_STATUS_ENTRIES (satU 8 (rd s holdB R.HOLD_STATUS_ENTRIES + 1)) s
  let s := wrB holdB R.HOLD_STATUS_HANDOVER true (wrB holdB R.HOLD_STATUS_LOG_OK false s)
  Machine.gauge (wrB holdB R.HOLD_STATUS_VHOLD_OK false) s

/-- What a device without supply does then. -/
def goDown (s : State) : State := islandCheck (powerLost (wrB holdB R.HOLD_STATUS_HANDOVER false (handoverDark s)))

theorem handOver_belowStop (cause rail : Nat) (s : State) : handOver cause rail false s = goDown (belowStop s) := by
  unfold handOver
  extract_lets h s1 s2 s3 s4
  rw [if_neg (by decide)]
  have h4 : s4 = belowStop s := rfl
  rw [h4]
  rfl

theorem mainOkFall_belowStop (s : State) (hup : s.hub.up = true) (hm : s.mode ≠ .hold ∧ s.mode ≠ .tripped) :
    mainOkFall false s = goDown (belowStop (fallen s)) := by
  have h : mainOkFall false s = if !(fallen s).hub.up || (fallen s).mode = .tripped ||
      ((fallen s).mode = .hold && !(fallen s).hub.returning) then fallen s else handOver 5 0xFF false (fallen s) := rfl
  have hup' : (fallen s).hub.up = true := hup
  have hm' : (fallen s).mode ≠ .hold ∧ (fallen s).mode ≠ .tripped := hm
  rw [h, if_neg (by simp [hup', hm'.1, hm'.2]), handOver_belowStop]

theorem goDown_mode (s : State) : (goDown s).mode = s.mode := by
  have hcheck (u : State) : (islandCheck u).mode = u.mode := by
    have htime (u : State) : (if timeState u = 3 then setTimeState 4 u else u).mode = u.mode := by
      split
      · exact congrArg Mode.ofCode (rd_of_shieldedRegs (setTimeState_quiet 4 u).1 (by decide))
      · rfl
    unfold islandCheck
    split
    · refine (mode_of_regs ?_).trans (htime u)
      unfold islandDown powerLost
      rfl
    · rfl
  have hdark : (handoverDark s).mode = s.mode :=
    congrArg Mode.ofCode (rd_of_shieldedRegs (handoverDark_quiet s).1 (by decide))
  have hlost (u : State) : (powerLost u).mode = u.mode := mode_of_regs rfl
  have hhand (u : State) : (wrB holdB R.HOLD_STATUS_HANDOVER false u).mode = u.mode :=
    congrArg Mode.ofCode (rd_wr_ne _ _ _ _ _ _ _ _ (by decide))
  rw [goDown, hcheck, hlost, hhand, hdark]

theorem capLowUnseen_degrades : (belowStop (fallen (begun capLowUnseen))).mode = .degraded := by decide +kernel

/-- Refutes O13: a device in SHOW whose hold store is too small, which CAP_LOW does not say, is DEGRADED after the fall. -/
theorem not_handOverToHold : ¬ Obligations.HandOverToHold := by
  unfold Obligations.HandOverToHold
  rintro ⟨-, hlow, -⟩
  obtain ⟨hmode, -⟩ := of_leads_run (hlow capLowUnseen rfl (by decide +kernel) (by decide +kernel)) rfl
  rw [mode_of_regs (done_regs _ _), mainOkFall_belowStop (begun capLowUnseen) rfl (by decide +kernel), goDown_mode,
    capLowUnseen_degrades] at hmode
  exact absurd hmode (by decide +kernel)
end Sys2Proof.PowerModes
end

section
namespace Sys2Proof.PowerModes
open Sys2Proof Sys2Proof.Machine Sys2Proof.Safety Sys2Proof.Scope

/-! ### A SerDes rail out of its range while a stray field is pending (R840)

Die 0's SerDes rail carries the host link too. Its loss resets PF0, whose pending fields return to what they showed: on
channel 0 PF0 has a field pending whose key, which no write reaches, is that of a module's state. -/

/-- The key of the state of module 0 of die 0. -/
abbrev strayKey : Nat := R.HUB_D2D_STATUS_MOD0.key (d2dB 0) 0

/-- Module 0 of die 0 is UP, and among the pending fields of channel 0, which PF0 wrote, stands the key of its state. -/
def strayPending : State :=
  setMod 0 0 2 <| setCh 0 { pend := [(strayKey, 1)] }
    { State.reset with hub := { State.reset.hub with up := true } }

/-- The modules of die 0 have left UP, and the host link is about to be reset. -/
def modulesLost (s : State) : State :=
  refreshUcie (each [0, 1] (startRepair 0) (each (channelsOf 0) (fun n => lanesLost n laneNums 1) s))

/-- No field is in effect and none pending but that of channel 0, and no bandwidth is granted. -/
structure Stray (s : State) : Prop where
  pend : (s.chst 0).pend = [(strayKey, 1)]
  pre : (s.chst 0).pre = []
  eff : ∀ e ∈ s.eff, e.1 ≠ strayKey
  others : ∀ n < 192, n ≠ 0 → (s.chst n).pend = []
  grants : s.grants = []

/-! #### What the pending fields outlive -/

/-- What `Stray` says of the first state holds of the second. -/
structure SamePend (s t : State) : Prop where
  chs : ∀ n, (t.chst n).pend = (s.chst n).pend ∧ (t.chst n).pre = (s.chst n).pre
  eff : (∀ e ∈ s.eff, e.1 ≠ strayKey) → ∀ e ∈ t.eff, e.1 ≠ strayKey
  grants : t.grants = s.grants

theorem SamePend.of_eq {s t : State} (hc : t.chs = s.chs) (he : t.eff = s.eff) (hg : t.grants = s.grants) : SamePend s t :=
  ⟨fun n => by simp only [State.chst, hc, and_self], fun h => he ▸ h, hg⟩

theorem SamePend.refl (s : State) : SamePend s s := .of_eq rfl rfl rfl

theorem SamePend.trans {s t u : State} (h : SamePend s t) (k : SamePend t u) : SamePend s u :=
  ⟨fun n => ⟨(k.chs n).1.trans (h.chs n).1, (k.chs n).2.trans (h.chs n).2⟩, fun e => k.eff (h.eff e),
    k.grants.trans h.grants⟩

theorem SamePend.stray {s t : State} (h : SamePend s t) (k : Stray s) : Stray t :=
  ⟨(h.chs 0).1.trans k.pend, (h.chs 0).2.trans k.pre, h.eff k.eff,
    fun n hn h0 => (h.chs n).1.trans (k.others n hn h0), h.grants.trans k.grants⟩

theorem Stray.of_eq {s t : State} (h : Stray s) (hc : t.chs = s.chs) (he : t.eff = s.eff) (hg : t.grants = s.grants) :
    Stray t := (SamePend.of_eq hc he hg).stray h

theorem each_samePend {α : Type} (f : α → State → State) (h : ∀ a s, SamePend s (f a s)) (l : List α) (s : State) :
    SamePend s (each l f s) := by
  induction l generalizing s with
  | nil => exact SamePend.refl s
  | cons a t ih => exact (h a s).trans (ih (f a s))

theorem modCh_samePend (n : Nat) (f : ChSt → ChSt) (s : State)
    (h : (f (s.chst n)).pend = (s.chst n).pend ∧ (f (s.chst n)).pre = (s.chst n).pre) : SamePend s (modCh n f s) := by
  refine ⟨fun m => ?_, fun h => h, rfl⟩
  by_cases hm : n = m
  · subst hm
    rw [modCh_eq, setCh_same]
    exact h
  · rw [modCh_eq, setCh_ne n m _ s hm]
    exact ⟨rfl, rfl⟩

theorem showLayer_samePend (n k : Nat) (s : State) : SamePend s (showLayer n k s) := .of_eq rfl rfl rfl

theorem setEf_samePend {b : Nat} {f : Fld} {i : Nat} (h : f.key b i ≠ strayKey) (v : Nat) (s : State) :
    SamePend s (setEf b f v s i) := by
  refine ⟨fun _ => ⟨rfl, rfl⟩, fun hs e he => ?_, rfl⟩
  have hold : ∀ e ∈ terase (f.key b i) s.eff, e.1 ≠ strayKey := fun e he => hs e (terase_sub _ _ e he).1
  simp only [setEf, tset] at he
  split at he
  · exact hold e he
  · rcases tins_mem _ _ _ e he with rfl | he
    · exact h
    · exact hold e he

theorem wr_samePend (b : Nat) (f : Fld) (v : Nat) (s : State) (i : Nat) : SamePend s (wr b f v s i) :=
  .of_eq rfl rfl rfl

theorem resetFlds_samePend (b : Nat) (fs : List Fld) (s : State) : SamePend s (resetFlds b fs s) :=
  each_samePend (fun (f : Fld) s => (List.range f.n).foldl (fun s i => wr b f (f.reset i) s i) s)
    (fun f u => each_samePend (fun i s => wr b f (f.reset i) s i) (fun i s => wr_samePend b f _ s i)
      (List.range f.n) u) fs s

/-- The reset of a function's rings. -/
theorem ringsReset_samePend (t : Nat) (l : List Nat) (s : State) :
    SamePend s (each l (fun r s => resetFlds (ringB t r) R.ringBlk (modRing t r (fun _ => {}) s)) s) :=
  each_samePend _ (fun r u => SamePend.trans (t := modRing t r (fun _ => {}) u) (.of_eq rfl rfl rfl)
    (resetFlds_samePend _ _ _)) l s

theorem resetFn_samePend (t : Nat) (s : State) : SamePend s (resetFn t s) := by
  have hkey (f : Fld) : f.key (aptB t) 0 ≠ strayKey := by
    have h : strayKey < 0x3000000 * 32 := by decide
    have ha : 0x3000000 ≤ aptB t := by
      simp only [aptB, vfB]
      split <;> omega
    simp only [Fld.key] at *
    omega
  have hring (u : State) : SamePend u (setEvRing t {} u) := .of_eq rfl rfl rfl
  unfold resetFn
  extract_lets s1 s2 s3
  have h1 : SamePend s s1 := ringsReset_samePend t _ s
  have h2 : SamePend s1 s2 := ((resetFlds_samePend _ _ s1).trans (hring _)).trans (resetFlds_samePend _ _ _)
  have h3 : SamePend s2 s3 :=
    (setEf_samePend (hkey R.SLUICE_APT_HI_APT) 0 s2).trans (setEf_samePend (hkey R.SLUICE_APT_LO_APT) 0 _)
  have h := (h1.trans h2).trans h3
  clear_value s3
  exact h.trans (.of_eq rfl rfl rfl)

/-- What the reset of function `t` drops on channel `n`, `l` being the commands it had there. -/
def discardOne (t : Nat) (l : List Nat) (n : Nat) (s : State) : State :=
  let x := s.chst n
  let s := if x.pend = [] then s else dropPending n (fun _ fn => fn == t) s
  let s := if x.fences.any (fun e => e.2 == t + 1) then
      each (List.range 9) (showLayer n)
        (modCh n (fun x => { x with fences := x.fences.filter (fun e => e.2 != t + 1) }) s)
    else s
  if l = [] then s else dropWaiting n l.contains s

/-- It drops fences. -/
def dropFences (t n : Nat) (s : State) : State :=
  each (List.range 9) (showLayer n)
    (modCh n (fun x => { x with fences := x.fences.filter (fun e => e.2 != t + 1) }) s)

/-- It drops all but the pending fields. -/
def discardRest (fenced : Bool) (t : Nat) (l : List Nat) (n : Nat) (s : State) : State :=
  let s := if fenced then dropFences t n s else s
  if l = [] then s else dropWaiting n l.contains s

theorem discardOne_eq (t : Nat) (l : List Nat) (n : Nat) (s : State) : discardOne t l n s =
    discardRest ((s.chst n).fences.any (fun e => e.2 == t + 1)) t l n
      (if (s.chst n).pend = [] then s else dropPending n (fun _ fn => fn == t) s) := rfl

/-- The function's commands are gone. -/
def dropCmds (t : Nat) (s : State) : State := { s with cmds := s.cmds.filter (·.fn != t) }

theorem dropCmds_samePend (t : Nat) (s : State) : SamePend s (dropCmds t s) := .of_eq rfl rfl rfl

theorem discardFn_eq (t : Nat) (s : State) : discardFn t s =
    each channels (discardOne t ((s.cmds.filter (·.fn == t)).map (·.id))) (dropCmds t s) := rfl

theorem dropFences_samePend (t n : Nat) (s : State) : SamePend s (dropFences t n s) := by
  unfold dropFences
  refine (modCh_samePend n _ s ?_).trans (each_samePend _ (showLayer_samePend n) _ _)
  exact ⟨rfl, rfl⟩

theorem dropWaiting_samePend (n : Nat) (p : Nat → Bool) (s : State) : SamePend s (dropWaiting n p s) := by
  unfold dropWaiting
  extract_lets gone s1
  have h1 : SamePend s s1 := by
    unfold s1
    refine modCh_samePend n _ s ?_
    exact ⟨rfl, rfl⟩
  clear_value s1
  exact h1.trans (.of_eq rfl rfl rfl)

theorem discardRest_samePend (c : Bool) (t : Nat) (l : List Nat) (n : Nat) (s : State) :
    SamePend s (discardRest c t l n s) := by
  have hfence : SamePend s (if c then dropFences t n s else s) := by
    split
    · exact dropFences_samePend t n s
    · exact SamePend.refl s
  unfold discardRest
  extract_lets s1
  split
  · exact hfence
  · exact hfence.trans (dropWaiting_samePend n _ s1)

theorem discardRest_still (c : Bool) (t : Nat) (l : List Nat) (n : Nat) (s : State) : Still s (discardRest c t l n s) := by
  simp [discardRest, dropFences]

theorem discardOne_stray {t : Nat} (ht : t ≠ 0) (l : List Nat) {n : Nat} (hn : n < 192) {s : State} (h : Stray s) :
    Stray (discardOne t l n s) := by
  have hdrop (hz : n = 0) : SamePend s (dropPending n (fun _ fn => fn == t) s) := by
    unfold dropPending
    extract_lets gone s1 s2
    have h1 : SamePend s s1 := .of_eq rfl rfl rfl
    have h2 : SamePend s1 s2 := by
      refine modCh_samePend n _ s1 ⟨?_, rfl⟩
      change (s.chst n).pend.filter _ = (s.chst n).pend
      rw [hz, h.pend]
      simpa using Ne.symm ht
    exact (h1.trans h2).trans (each_samePend _ (showLayer_samePend n) _ _)
  rw [discardOne_eq]
  refine (discardRest_samePend ..).stray ?_
  split
  · exact h
  next hp => exact (hdrop (Classical.not_not.mp fun hz => hp (h.others n hn hz))).stray h

/-- The function reset of PF0 gives the module's state back its reset value. -/
theorem discardOne_zero (l : List Nat) {s : State} (h : Stray s) : modState (discardOne 0 l 0 s) 0 0 = 0 := by
  have hk : shielded strayKey = true := by decide
  have hval : flippedVal s 0 strayKey = none := by
    have : s.eff.find? (fun e => e.1 == strayKey) = none :=
      List.find?_eq_none.mpr fun e he => by simpa using h.eff e he
    simp [flippedVal, h.pre, this]
  rw [discardOne_eq, if_neg (by simp [h.pend])]
  refine (rd_of_shieldedRegs (discardRest_still ..).1 hk).trans ?_
  unfold dropPending
  extract_lets gone s1 s2
  have hgone : gone = [(strayKey, 1)] := by simp [gone, h.pend]
  have h1 : s1.regs = terase strayKey s.regs := by
    unfold s1
    simp [hgone, hval]
  have h2 : Still s1 (each (List.range 9) (fun k => showLayer 0 k) s2) := by simp [s2]
  refine (rd_of_shieldedRegs h2.1 hk).trans ?_
  rw [rd, h1]
  exact (tget_terase ..).trans (if_pos rfl)

/-- The module's state shows its reset value, and no other channel has fields pending. -/
structure Cleared (s : State) : Prop where
  state : modState s 0 0 = 0
  others : ∀ n < 192, n ≠ 0 → (s.chst n).pend = []

theorem Stray.cleared (l : List Nat) {s : State} (h : Stray s) : Cleared (discardOne 0 l 0 s) := by
  refine ⟨discardOne_zero l h, fun n hn h0 => ?_⟩
  have hdrop : (dropPending 0 (fun _ fn => fn == 0) s).chst n = s.chst n := by
    unfold dropPending
    extract_lets gone s1 s2
    exact (each_keeps (fun s => s.chst n) (fun k => showLayer 0 k) (fun _ _ => rfl) _ s2).trans
      (setCh_ne 0 n _ s1 (Ne.symm h0))
  rw [discardOne_eq, if_neg (by simp [h.pend])]
  refine ((discardRest_samePend ..).chs n).1.trans ?_
  rw [hdrop]
  exact h.others n hn h0

theorem discardOne_cleared (l : List Nat) {n : Nat} (hn : n < 192) (h0 : n ≠ 0) {s : State} (h : Cleared s) :
    Cleared (discardOne 0 l n s) := by
  rw [discardOne_eq, if_pos (h.others n hn h0)]
  have hs := discardRest_samePend ((s.chst n).fences.any (fun e => e.2 == 0 + 1)) 0 l n s
  exact ⟨(rd_of_shieldedRegs (discardRest_still ..).1 (by decide)).trans h.state,
    fun m hm hm0 => (hs.chs m).1.trans (h.others m hm hm0)⟩

theorem discardFn_cleared {s : State} (h : Stray s) : Cleared (discardFn 0 s) := by
  have hl : channels = 0 :: (List.range 191).map (· + 1) := List.range_succ_eq_map
  have hs : Stray (dropCmds 0 s) := (dropCmds_samePend 0 s).stray h
  rw [discardFn_eq, hl]
  generalize (s.cmds.filter (·.fn == 0)).map (·.id) = l
  generalize dropCmds 0 s = u at hs
  rw [each_cons]
  refine each_holds Cleared (discardOne 0 l) ((List.range 191).map (· + 1)) (fun n hn v hv => ?_) _ (hs.cleared l)
  obtain ⟨m, hm, rfl⟩ := List.mem_map.mp hn
  exact discardOne_cleared l (Nat.succ_lt_succ (List.mem_range.mp hm)) (Nat.succ_ne_zero m) hv

theorem discardFn_stray {t : Nat} (ht : t ≠ 0) {s : State} (h : Stray s) : Stray (discardFn t s) := by
  rw [discardFn_eq]
  exact each_holds Stray _ channels (fun n hn u hu => discardOne_stray ht _ (List.mem_range.mp hn) hu) _
    ((dropCmds_samePend t s).stray h)

/-- A VF's reset drops only what is its own. -/
theorem flrVf_stray {t : Nat} (ht : t ≠ 0) {s : State} (h : Stray s) : Stray (flrVf t s) := by
  have hsweep (u : State) : SamePend u (flrSweep u) := by
    unfold flrSweep
    split
    · exact SamePend.refl u
    · exact .of_eq rfl rfl rfl
  have htrig (u : State) : SamePend u (trigger 5 t 0 u) := by
    have he : trigger 5 t 0 u = { u with epochs := tset 0 (512 * 5 + t) ((epoch u 5 t + 1) % 65536) u.epochs } := by
      simp [trigger, ht]
    rw [he]
    exact .of_eq rfl rfl rfl
  have hraise (u : State) : SamePend u (raise 0x0E06 noCh t u) := .of_eq (raise_chs ..) (raise_eff ..) (raise_grants ..)
  unfold flrVf
  extract_lets s1 gs s2 s3
  have h1 : Stray s1 := discardFn_stray ht h
  have hgs : gs = [] := by simp [gs, h1.grants]
  have h2 : s2 = s1 := by
    unfold s2
    rw [hgs]
    rfl
  have hflrs (l : List Nat) (u : State) : SamePend u { u with flrs := l } := .of_eq rfl rfl rfl
  have h3 : SamePend s2 s3 := (hflrs _ s2).trans (hsweep _)
  exact (((h3.trans (resetFn_samePend t s3)).trans (hraise _)).trans (htrig _)).stray (h2 ▸ h1)

/-! #### The host link's reset -/

theorem resetFn_still (s : State) : Still s (resetFn 0 s) := by
  have hring (l : List Nat) (u : State) :
      Still u (each l (fun r s => resetFlds (ringB 0 r) R.ringBlk (modRing 0 r (fun _ => {}) s)) u) :=
    each_quiet _ l (fun r u => (modRing_quiet 0 r _ u).trans (resetFlds_quiet _ _
      (fun _ _ _ _ => not_shielded_ringB ..) _)) u
  have hapt (u : State) : Still u (resetFlds (aptB 0) R.aptBlk u) :=
    resetFlds_quiet _ _ (fun _ _ _ _ => not_shielded_aptB ..) u
  have hev (u : State) : Still u (resetFlds (evRingB 0) R.evRingBlk u) :=
    resetFlds_quiet _ _ (by decide) u
  have hset (u : State) : Still u (setEvRing 0 {} u) := ⟨rfl, rfl, rfl, rfl, rfl, rfl, rfl⟩
  have hef (f : Fld) (u : State) : Still u (setEf (aptB 0) f 0 u) := ⟨rfl, rfl, rfl, rfl, rfl, rfl, rfl⟩
  unfold resetFn
  extract_lets s1 s2 s3
  have h1 : Still s s1 := hring _ s
  have h2 : Still s1 s2 := ((hev s1).trans (hset _)).trans (hapt _)
  have h3 : Still s2 s3 := (hef R.SLUICE_APT_HI_APT s2).trans (hef R.SLUICE_APT_LO_APT _)
  have h := (h1.trans h2).trans h3
  clear_value s3
  exact h.trans ⟨rfl, rfl, rfl, rfl, rfl, rfl, rfl⟩

@[simp] theorem showSource_quiet : Quiet showSource := fun s => by simp [showSource]
@[simp] theorem switchSource_quiet (r : Nat) : Quiet (switchSource r) := fun s => by simp [switchSource]
@[simp] theorem enterHoldover_quiet : Quiet enterHoldover := fun s => by simp [enterHoldover]
@[simp] theorem loseInput_quiet (b : Bool) (r : Nat) : Quiet (loseInput b r) := fun s => by
  simp [loseInput]
@[simp] theorem hwLinkLost_quiet (k : Nat) : Quiet (hwLinkLost k) := fun s => by
  simp [hwLinkLost, modIn]

/-- The reset of PF0 gives the module's state its reset value. -/
theorem fnReset_state {s : State} (h : Stray s) : modState (trigger 5 0 0 (resetFn 0 (discardFn 0 s))) 0 0 = 0 := by
  have hk : shielded strayKey = true := by decide
  have htrig (u : State) : Apart (· = strayKey) (fun _ => False) u (trigger 5 0 0 u) :=
    trigger_apart (fun k hk => by subst hk; decide) 5 0 0 (fun h => h) u
  have hc := (discardFn_cleared h).state
  generalize discardFn 0 s = u at hc
  exact (rd_of_only (htrig _).1 hk rfl).trans ((rd_of_shieldedRegs (resetFn_still u).1 hk).trans hc)

/-- The link is down. -/
def linkDown (s : State) : State := { s with ide := [], hub := { s.hub with vf := false } }

/-- Every VF is reset. -/
def resetVfs (s : State) : State := each ((List.range 256).map (· + 1)) flrVf s

theorem linkDown_stray {s : State} (h : Stray s) : Stray (linkDown s) := h.of_eq rfl rfl rfl

theorem resetVfs_stray {s : State} (h : Stray s) : Stray (resetVfs s) :=
  each_holds Stray flrVf _ (fun t ht u hu => by
    obtain ⟨m, -, rfl⟩ := List.mem_map.mp ht
    exact flrVf_stray (Nat.succ_ne_zero m) hu) s h

/-- The reset of the link once the VFs have been reset. -/
def linkRest (kind : Nat) (s : State) : State :=
  let s := if kind = 3 then s else { s with ide := [] }
  let s := trigger 5 0 0 (resetFn 0 (discardFn 0 { s with hub := { s.hub with vf := false } }))
  let e : Event := { stamp := s.ht, code := 0x0E09, channel := noCh, arg := kind }
  { s with hub := { s.hub with afterEnable := s.hub.afterEnable ++ [e] } }

theorem linkReset_eq (kind : Nat) (s : State) : linkReset kind s = linkRest kind (resetVfs s) := by
  unfold linkReset linkRest resetVfs
  rfl

theorem linkRest_regs (s : State) :
    (linkRest 1 s).regs = (trigger 5 0 0 (resetFn 0 (discardFn 0 (linkDown s)))).regs := by
  unfold linkRest
  extract_lets s1 h1 s2 h2
  have hs1 : s1 = { s with ide := [] } := if_neg (by decide)
  clear_value s1
  have hdown : { s1 with hub := { s1.hub with vf := false } } = linkDown s := by
    rw [hs1]
    rfl
  have hs2 : s2 = trigger 5 0 0 (resetFn 0 (discardFn 0 (linkDown s))) :=
    congrArg (fun u => trigger 5 0 0 (resetFn 0 (discardFn 0 u))) hdown
  clear_value s2
  rw [← hs2]

theorem linkReset_cleared {s : State} (h : Stray s) : modState (linkReset 1 s) 0 0 = 0 := by
  rw [linkReset_eq]
  exact (rd_of_regs (linkRest_regs _) ..).trans (fnReset_state (linkDown_stray (resetVfs_stray h)))

/-- The modules are not REPAIRING once a SerDes rail of die 0 is out of its range. -/
theorem strayPending_lost : Stray (modulesLost (railBad 5 (begun strayPending))) where
  pend := by decide +kernel
  pre := by decide +kernel
  eff := by decide +kernel
  others := by decide +kernel
  grants := by decide +kernel

theorem railOut_serdes {s : State} (hup : (railBad 5 s).hub.up = true) (hm : (railBad 5 s).mode ≠ .hold ∧
    (railBad 5 s).mode ≠ .tripped) :
    railOut 5 s = each [0, 1, 2] hwLinkLost (linkReset 1 (modulesLost (railBad 5 s))) := by
  unfold railOut
  extract_lets s1
  have hup' : s1.hub.up = true := hup
  have hm' : s1.mode ≠ .hold := hm.1
  rw [if_neg (by simp [hup', hm']), if_neg hm.2, if_pos (by decide)]
  unfold serdesLost
  rfl

/-- Refutes O17: the loss of the SerDes rail of die 0 resets the host link, PF0's pending fields are dropped, and with
them the state of module 0 goes back to its reset value. -/
theorem not_railsFiveToSeventeen : ¬ Obligations.RailsFiveToSeventeen := by
  unfold Obligations.RailsFiveToSeventeen
  rintro ⟨-, -, -, -, hserdes⟩
  obtain ⟨-, hrepair⟩ := of_leads_run (hserdes strayPending 0 rfl (by decide +kernel) (by decide +kernel) (by decide)) rfl
  have h3 := hrepair 0 (by decide) (by decide +kernel)
  have hlost (u : State) : Still u (each [0, 1, 2] hwLinkLost u) := each_quiet _ _ hwLinkLost_quiet u
  have h0 : modState (railOut 5 (begun strayPending)) 0 0 = 0 := by
    rw [railOut_serdes rfl ⟨by decide +kernel, by decide +kernel⟩]
    exact (rd_of_shieldedRegs (hlost _).1 (by decide)).trans (linkReset_cleared strayPending_lost)
  rw [modState, rd_done] at h3
  exact absurd (h0.symm.trans h3) (by decide)
end Sys2Proof.PowerModes
end

section
namespace Sys2Proof.PowerModes
open Sys2Proof Sys2Proof.Machine Sys2Proof.Safety Sys2Proof.Scope

/-! ### The registers of a port -/

/-- The field lies in the port's block below its lanes, and is none of `fs`. -/
def portFld (fs : List Fld) (f : Fld) : Bool :=
  f.offAt 0 < 0x40 && f.loAt 0 < 32 && fs.all (fun g => g.key 0 0 != f.key 0 0)

theorem portFld_ne {fs : List Fld} {f : Fld} (h : portFld fs f = true) (n : Nat) {g : Fld} (hg : g ∈ fs) :
    g.key (ephyB n) 0 ≠ f.key (ephyB n) 0 := by
  simp only [portFld, Bool.and_eq_true, List.all_eq_true, bne_iff_ne] at h
  have hne := h.2 g hg
  simp only [Fld.key] at *
  omega

/-- The channel's block lies below the dies'. -/
theorem ephyB_ne_chB {n : Nat} (hn : n < 192) {g : Fld} (hg : g.key 0 0 < 0x4000 * 32) {m k : Nat} (hk : dieB m * 32 ≤ k) :
    g.key (chB n) 0 ≠ k := by
  simp only [Fld.key, chB, dieB] at *
  omega

theorem ephyB_le (n : Nat) (f : Fld) (i : Nat) : dieB (n / 48) * 32 ≤ f.key (ephyB n) i := by
  simp only [Fld.key, ephyB]
  omega

/-- A lane's registers lie above those of the port that `portFld` speaks of. -/
theorem lane_ne_port {f : Fld} (h : portFld [] f = true) (n l : Nat) (g : Fld) :
    g.key (laneB n l) 0 ≠ f.key (ephyB n) 0 := by
  simp only [portFld, Bool.and_eq_true, decide_eq_true_eq] at h
  obtain ⟨⟨ho, hl⟩, -⟩ := h
  simp only [Fld.key, laneB, Fld.offAt, Fld.loAt] at *
  omega

theorem portFld_nil {fs : List Fld} {f : Fld} (h : portFld fs f = true) : portFld [] f = true := by
  simp only [portFld, Bool.and_eq_true, List.all_nil, and_true] at *
  exact h.1

theorem pst_of_rd {s t : State} {n : Nat} (h : rd t (ephyB n) R.EPHY_STATUS_STATE = rd s (ephyB n) R.EPHY_STATUS_STATE) :
    t.pst n = s.pst n := congrArg PState.ofCode h

/-! #### What each operation writes of them -/

theorem headGone_rd {n : Nat} (hn : n < 192) (s : State) {b : Nat} {f : Fld} {i m : Nat} (h : dieB m * 32 ≤ f.key b i) :
    rd (headGone n s) b f i = rd s b f i := by
  have h1 : R.CH_KIND_KIND_MISMATCH.key (chB n) 0 ≠ f.key b i := ephyB_ne_chB hn (by decide) h
  have h2 : R.CH_KIND_HEAD_KIND.key (chB n) 0 ≠ f.key b i := ephyB_ne_chB hn (by decide) h
  have h3 : R.EPROT_STATUS_IDENTIFIED.key (chB n) 0 ≠ f.key b i := ephyB_ne_chB hn (by decide) h
  rw [headGone, showMismatch, wrB, rd_wr_ne _ _ _ _ _ _ _ _ h1, rd_wr_ne _ _ _ _ _ _ _ _ h2, wrB,
    rd_wr_ne _ _ _ _ _ _ _ _ h3]

theorem headGone_hub (n : Nat) (s : State) : (headGone n s).hub = s.hub := rfl

/-- What a change of state moves of the port's block. -/
def stateFlds : List Fld :=
  [R.EPHY_STATUS_STATE, R.EPHY_STATUS_GOOD, R.EPHY_STATUS_LANES, R.EPHY_STATUS_WIDEN_PENDING, R.EPHY_STATUS_WIDTH]

/-- The change to a state in which the port has no width. -/
theorem toPst_unlinked (n : Nat) {x : PState} (hx : x ≠ .ident ∧ x ≠ .up) (s : State) :
    ∃ p q, toPst n x s =
      let s := setPort n q (headGone n (setPort n p (wr (ephyB n) R.EPHY_STATUS_STATE x.code s)))
      wr (chB n) R.SEQ_WIDTH_WIDTH 0 (wr (ephyB n) R.EPHY_STATUS_WIDTH 0 (wrB (ephyB n) R.EPHY_STATUS_WIDEN_PENDING false
        (wr (ephyB n) R.EPHY_STATUS_GOOD 0 (wr (ephyB n) R.EPHY_STATUS_LANES 0 s)))) := by
  unfold toPst
  rw [if_neg (by simp [hx])]
  exact ⟨_, _, rfl⟩

theorem toPst_rd {n : Nat} (hn : n < 192) {x : PState} (hx : x ≠ .ident ∧ x ≠ .up)
    (s : State) {b : Nat} {f : Fld} {i m : Nat}
    (hm : dieB m * 32 ≤ f.key b i) (h : ∀ g ∈ stateFlds, g.key (ephyB n) 0 ≠ f.key b i) :
    rd (toPst n x s) b f i = rd s b f i := by
  obtain ⟨p, q, heq⟩ := toPst_unlinked n hx s
  have hw : R.SEQ_WIDTH_WIDTH.key (chB n) 0 ≠ f.key b i := ephyB_ne_chB hn (by decide) hm
  simp only [stateFlds, List.forall_mem_cons, List.not_mem_nil, false_implies, implies_true, and_true] at h
  obtain ⟨h1, h2, h3, h4, h5⟩ := h
  rw [heq]
  simp only [wrB, rd_wr_ne _ _ _ _ _ _ _ _ hw, rd_wr_ne _ _ _ _ _ _ _ _ h1, rd_wr_ne _ _ _ _ _ _ _ _ h2,
    rd_wr_ne _ _ _ _ _ _ _ _ h3, rd_wr_ne _ _ _ _ _ _ _ _ h4, rd_wr_ne _ _ _ _ _ _ _ _ h5, rd_setPort, headGone_rd hn _ hm]

theorem toPst_port {n : Nat} (hn : n < 192) {x : PState} (hx : x ≠ .ident ∧ x ≠ .up) (s : State) {f : Fld}
    (hf : portFld stateFlds f = true) : rd (toPst n x s) (ephyB n) f = rd s (ephyB n) f :=
  toPst_rd hn hx s (ephyB_le n f 0) fun _ hg => portFld_ne hf n hg

theorem toPst_pst {n : Nat} (hn : n < 192) {x : PState} (hx : x ≠ .ident ∧ x ≠ .up) (s : State) :
    (toPst n x s).pst n = x := by
  obtain ⟨p, q, heq⟩ := toPst_unlinked n hx s
  have hw : R.SEQ_WIDTH_WIDTH.key (chB n) 0 ≠ R.EPHY_STATUS_STATE.key (ephyB n) 0 :=
    ephyB_ne_chB hn (by decide) (ephyB_le n _ 0)
  have h : portFld [R.EPHY_STATUS_WIDTH, R.EPHY_STATUS_WIDEN_PENDING, R.EPHY_STATUS_GOOD, R.EPHY_STATUS_LANES]
    R.EPHY_STATUS_STATE = true := by decide
  rw [heq, State.pst, rd_wr_ne _ _ _ _ _ _ _ _ hw, rd_wr_ne _ _ _ _ _ _ _ _ (portFld_ne h n (by simp)), wrB,
    rd_wr_ne _ _ _ _ _ _ _ _ (portFld_ne h n (by simp)), rd_wr_ne _ _ _ _ _ _ _ _ (portFld_ne h n (by simp)),
    rd_wr_ne _ _ _ _ _ _ _ _ (portFld_ne h n (by simp)), rd_setPort, headGone_rd hn _ (ephyB_le n _ 0), rd_setPort,
      rd_wr_same]
  cases x <;> rfl

theorem toPst_width {n : Nat} (hn : n < 192) {x : PState} (hx : x ≠ .ident ∧ x ≠ .up) (s : State) :
    rd (toPst n x s) (ephyB n) R.EPHY_STATUS_WIDTH = 0 := by
  obtain ⟨p, q, heq⟩ := toPst_unlinked n hx s
  have hw : R.SEQ_WIDTH_WIDTH.key (chB n) 0 ≠ R.EPHY_STATUS_WIDTH.key (ephyB n) 0 :=
    ephyB_ne_chB hn (by decide) (ephyB_le n _ 0)
  rw [heq, rd_wr_ne _ _ _ _ _ _ _ _ hw, rd_wr_same, Nat.zero_mod]

theorem toPst_hub (n : Nat) {x : PState} (hx : x ≠ .ident ∧ x ≠ .up) (s : State) : (toPst n x s).hub = s.hub := by
  obtain ⟨p, q, heq⟩ := toPst_unlinked n hx s
  rw [heq]
  simp [headGone, showMismatch]

/-- A return to reset of other fields leaves a field alone. -/
theorem rd_resetFlds_ne {b b' : Nat} {fs : List Fld} {f : Fld} {j : Nat} (h : ∀ g ∈ fs, ∀ i < g.n, g.key b i ≠ f.key b' j)
    (s : State) : rd (resetFlds b fs s) b' f j = rd s b' f j :=
  each_holds (fun t => rd t b' f j = rd s b' f j) (fun (g : Fld) s => (List.range g.n).foldl (fun s i => wr b g
    (g.reset i) s i) s) fs
    (fun g hg _ hu => each_holds (fun t => rd t b' f j = rd s b' f j) (fun i s => wr b g (g.reset i) s i) (List.range g.n)
      (fun i hi u hu => (rd_wr_ne u _ _ _ _ _ _ _ (h g hg i (List.mem_range.mp hi))).trans hu) _ hu) s rfl

/-- The fields of a lane that hold what was found on it. -/
def laneFlds : List Fld :=
  [R.EPHY_LSTAT_LOCK, R.EPHY_LSTAT_INVERTED, R.EPHY_LSTAT_LOGICAL, R.EPHY_LSTAT_EXCLUDED, R.EPHY_LSTAT_MARGINAL,
    R.EPHY_LSTAT_DESKEWED, R.EPHY_LSTAT_SKEW]

theorem clearLanes_eq (n : Nat) (s : State) : ∃ p, clearLanes n s = wrB (ephyB n) R.EPHY_STATUS_REVERSED false
    (each laneNums (fun l => resetFlds (laneB n l) laneFlds) (setPort n p s)) := ⟨_, rfl⟩

theorem clearLanes_port (n : Nat) (s : State) {f : Fld} (hf : portFld [R.EPHY_STATUS_REVERSED] f = true) :
    rd (clearLanes n s) (ephyB n) f = rd s (ephyB n) f := by
  obtain ⟨p, heq⟩ := clearLanes_eq n s
  rw [heq, wrB, rd_wr_ne _ _ _ _ _ _ _ _ (portFld_ne hf n (by simp)),
    each_keeps (fun s => rd s (ephyB n) f) _ fun l s => rd_resetFlds_ne (fun g hg i hi => ?_) s]
  · rfl
  · obtain rfl : i = 0 := by
      have h : ∀ g ∈ laneFlds, g.n = 1 := by decide
      rw [h g hg] at hi
      omega
    exact lane_ne_port (portFld_nil hf) n l g

theorem clearLanes_hub (n : Nat) (s : State) : (clearLanes n s).hub = s.hub := by
  obtain ⟨p, heq⟩ := clearLanes_eq n s
  rw [heq, wrB_hub, each_keeps State.hub _ fun l s => resetFlds_keeps State.hub (fun _ _ _ _ _ => rfl) _ _ s]
  rfl

theorem setIdle_port (n : Nat) (tx rx : Bool) (s : State) {f : Fld}
    (hf : portFld [R.EPHY_STATUS_TX_IDLE, R.EPHY_STATUS_RX_IDLE] f = true) :
    rd (setIdle n tx rx s) (ephyB n) f = rd s (ephyB n) f := by
  rw [setIdle, wrB, rd_wr_ne _ _ _ _ _ _ _ _ (portFld_ne hf n (by simp)), wrB,
    rd_wr_ne _ _ _ _ _ _ _ _ (portFld_ne hf n (by simp))]

theorem setIdle_tx (n : Nat) (tx rx : Bool) (s : State) :
    rdB (setIdle n tx rx s) (ephyB n) R.EPHY_STATUS_TX_IDLE = (tx || !s.hub.portsOn) := by
  rw [setIdle, rdB, wrB, rd_wr_same]
  change (b2n (tx || !s.hub.portsOn) % 2 ^ 1 == 1) = _
  generalize (tx || !s.hub.portsOn) = v
  cases v <;> rfl

theorem sendTraining_rd (n type width : Nat) (lanes : List Nat) (s : State) (b : Nat) (f : Fld) (i : Nat) :
    rd (sendTraining n type width lanes s) b f i = rd s b f i := rfl

/-! #### DETECT, RATE and LOCK -/

/-- What the way to DETECT, RATE or LOCK moves of the port's block, beside the rate. -/
def entryFlds : List Fld :=
  stateFlds ++ [R.EPHY_STATUS_REVERSED, R.EPHY_STATUS_TX_IDLE, R.EPHY_STATUS_RX_IDLE]

theorem portFld_sub {fs gs : List Fld} (h : gs ⊆ fs) {f : Fld} (hf : portFld fs f = true) : portFld gs f = true := by
  simp only [portFld, Bool.and_eq_true, List.all_eq_true] at *
  exact ⟨hf.1, fun g hg => hf.2 g (h hg)⟩

/-- The port takes a state with its lanes cleared and the transmitter as told. -/
def enter (n : Nat) (x : PState) (tx rx : Bool) (s : State) : State := setIdle n tx rx (clearLanes n (toPst n x s))

section Enter
variable {n : Nat} (hn : n < 192) {x : PState} (hx : x ≠ .ident ∧ x ≠ .up) (tx rx : Bool) (s : State)
include hn hx

theorem enter_port {f : Fld} (hf : portFld entryFlds f = true) : rd (enter n x tx rx s) (ephyB n) f = rd s (ephyB n) f := by
  rw [enter, setIdle_port _ _ _ _ (portFld_sub (by simp [entryFlds]) hf),
    clearLanes_port _ _ (portFld_sub (by simp [entryFlds]) hf),
    toPst_port hn hx _ (portFld_sub (by simp [entryFlds]) hf)]

theorem enter_pst : (enter n x tx rx s).pst n = x := by
  refine (pst_of_rd ?_).trans (toPst_pst hn hx s)
  rw [enter, setIdle_port _ _ _ _ (by decide), clearLanes_port _ _ (by decide)]

theorem enter_width : rd (enter n x tx rx s) (ephyB n) R.EPHY_STATUS_WIDTH = 0 := by
  rw [enter, setIdle_port _ _ _ _ (by decide), clearLanes_port _ _ (by decide), toPst_width hn hx]

omit hn in
theorem enter_tx : rdB (enter n x tx rx s) (ephyB n) R.EPHY_STATUS_TX_IDLE = (tx || !s.hub.portsOn) := by
  rw [enter, setIdle_tx, clearLanes_hub, toPst_hub n hx]
end Enter

theorem enterDetect_eq (n : Nat) (s : State) : enterDetect n s = enter n .detect true true s := by
  rw [enterDetect, enter]

theorem enterLock_rd (n : Nat) (s : State) (b : Nat) (f : Fld) (i : Nat) :
    rd (enterLock n s) b f i = rd (enter n .lock false false s) b f i := by
  rw [enterLock, sendTraining_rd, enter]

theorem enterRate_rate {n : Nat} (hn : n < 192) (r : Nat) (s : State) :
    (enterRate n r s).pst n = .rate ∧ rd (enterRate n r s) (ephyB n) R.EPHY_STATUS_RATE = r % 4 ∧
      rdB (enterRate n r s) (ephyB n) R.EPHY_STATUS_TX_IDLE = !s.hub.portsOn := by
  have hx : PState.rate ≠ .ident ∧ PState.rate ≠ .up := by decide
  refine ⟨?_, ?_, ?_⟩
  · refine (pst_of_rd ?_).trans (toPst_pst hn hx s)
    rw [enterRate, sendTraining_rd, setIdle_port _ _ _ _ (by decide), clearLanes_port _ _ (by decide),
      rd_wr_ne _ _ _ _ _ _ _ _ (portFld_ne (fs := [R.EPHY_STATUS_RATE]) (by decide) n (by simp))]
  · rw [enterRate, sendTraining_rd, setIdle_port _ _ _ _ (by decide), clearLanes_port _ _ (by decide), rd_wr_same]
    rfl
  · rw [enterRate, rdB, sendTraining_rd, ← rdB, setIdle_tx, clearLanes_hub, wr_hub, toPst_hub n hx]
    rfl

/-- A failure at the lowest rate is counted; the port is back in DETECT. -/
theorem trainFailed_detect {n : Nat} (hn : n < 192) (s : State) : (trainFailed n s).pst n = .detect ∧
    rd (trainFailed n s) (ephyB n) R.EPHY_TRAIN_FAIL_CNT_COUNT =
      satU 32 (rd s (ephyB n) R.EPHY_TRAIN_FAIL_CNT_COUNT + 1) % 2 ^ 32 := by
  have hx : PState.detect ≠ .ident ∧ PState.detect ≠ .up := by decide
  refine ⟨enter_pst hn hx true true _, ?_⟩
  rw [trainFailed, enterDetect_eq, enter_port hn hx _ _ _ (by decide), rd_raise, rd_bump_same]
  rfl

theorem trainStep_lower {n : Nat} {s : State} (h : rd s (ephyB n) R.EPHY_STATUS_RATE ≠ 0) :
    trainStep n s = enterRate n (rd s (ephyB n) R.EPHY_STATUS_RATE - 1) s := if_neg h
theorem trainStep_lowest {n : Nat} {s : State} (h : rd s (ephyB n) R.EPHY_STATUS_RATE = 0) :
    trainStep n s = trainFailed n s := if_pos h

end Sys2Proof.PowerModes
end

section
namespace Sys2Proof.PowerModes
open Sys2Proof Sys2Proof.Machine Sys2Proof.Safety Sys2Proof.Scope

/-! ### A port is brought up and down (R535 to R542) -/

theorem pst_done (f : State → State) (s : State) (n : Nat) : (done f s).pst n = (f (begun s)).pst n :=
  pst_of_rd (rd_done ..)
theorem done_port (f : State → State) (s : State) (n : Nat) : (done f s).port n = (f (begun s)).port n :=
  congrArg (tget ({} : PortSt) n) (done_ports f s)

theorem not_chRuns {s : State} {n : Nat} (h : rd s (chB n) R.CH_STATUS_STATE = 0) : ephyLocked (begun s) n = false := by
  simp [ephyLocked, chRuns, show rd (begun s) (chB n) R.CH_STATUS_STATE = 0 from h]

theorem chRuns_of {s : State} {n : Nat} (h : rd s (chB n) R.CH_STATUS_STATE ≠ 0) : ephyLocked (begun s) n = true := by
  simpa [ephyLocked, chRuns] using h

theorem rdB_wrB_same (b : Nat) (f : Fld) (v : Bool) (hw : 0 < f.w) (s : State) : rdB (wrB b f v s) b f = v := by
  rw [rdB, wrB, rd_wr_same]
  have h2 : 2 ≤ 2 ^ f.w := Nat.pow_le_pow_right (n := 2) (by decide) hw
  cases v
  · simp [b2n]
  · simp [b2n, Nat.mod_eq_of_lt h2]

/-- A write that is rejected only says so. -/
theorem ephyReject_port (n : Nat) (s : State) {f : Fld} (hf : portFld [R.EPHY_STATUS_WRITE_REJECTED] f = true) :
    rd (ephyReject n s) (ephyB n) f = rd s (ephyB n) f :=
  rd_wr_ne _ _ _ _ _ _ _ _ (portFld_ne hf n (by simp))

theorem ephyReject_rejected (n : Nat) (s : State) : rdB (ephyReject n s) (ephyB n) R.EPHY_STATUS_WRITE_REJECTED = true :=
  rdB_wrB_same _ _ _ (by decide) s

theorem enable_leads (s : State) (n : Fin 192) (he : rdB s (ephyB n) R.EPHY_CTRL_EN = false)
    (hc : rd s (chB n) R.CH_STATUS_STATE = 0) : Leads (.portEnable n) s fun t => rdB t (ephyB n) R.EPHY_CTRL_EN = true ∧
      t.pst n = .detect ∧ rdB t (ephyB n) R.EPHY_STATUS_TX_IDLE = true ∧ rd t (ephyB n) R.EPHY_STATUS_WIDTH = 0 := by
  refine leads_run (f := portEnable n) rfl ?_
  have hx : PState.detect ≠ .ident ∧ PState.detect ≠ .up := by decide
  rw [pst_done, rd_done, rdB_done, rdB_done, portEnable,
    if_neg (by simp [show rdB (begun s) (ephyB n) R.EPHY_CTRL_EN = false from he]),
    if_neg (by simp [not_chRuns hc]), enterDetect_eq]
  refine ⟨?_, enter_pst n.isLt hx .., enter_tx hx .., enter_width n.isLt hx ..⟩
  rw [rdB, enter_port n.isLt hx _ _ _ (by decide), ← rdB, rdB_wrB_same _ _ _ (by decide)]

theorem disable_leads (s : State) (n : Fin 192) (he : rdB s (ephyB n) R.EPHY_CTRL_EN = true)
    (hc : rd s (chB n) R.CH_STATUS_STATE = 0) : Leads (.portDisable n) s fun t => rdB t (ephyB n) R.EPHY_CTRL_EN = false ∧
      t.pst n = .disabled ∧ rdB t (ephyB n) R.EPHY_STATUS_TX_IDLE = true ∧ rd t (ephyB n) R.EPHY_STATUS_WIDTH = 0 := by
  refine leads_run (f := portDisable n) rfl ?_
  have hx : PState.disabled ≠ .ident ∧ PState.disabled ≠ .up := by decide
  have hdis : ∃ c, portDisable n (begun s) = enter n .disabled true true
      (when_ c (emitOut (.idle n)) (wrB (ephyB n) R.EPHY_CTRL_EN false (begun s))) := by
    rw [portDisable, if_neg (by simp [show rdB (begun s) (ephyB n) R.EPHY_CTRL_EN = true from he]),
      if_neg (by simp [not_chRuns hc])]
    exact ⟨_, rfl⟩
  obtain ⟨c, hdis⟩ := hdis
  rw [pst_done, rd_done, rdB_done, rdB_done, hdis]
  refine ⟨?_, enter_pst n.isLt hx .., enter_tx hx .., enter_width n.isLt hx ..⟩
  rw [rdB, enter_port n.isLt hx _ _ _ (by decide), when_keeps (fun s => rd s (ephyB n) R.EPHY_CTRL_EN) _ _ _ rfl, ← rdB,
    rdB_wrB_same _ _ _ (by decide)]

theorem disable_rejected (s : State) (n : Fin 192) (he : rdB s (ephyB n) R.EPHY_CTRL_EN = true)
    (hc : rd s (chB n) R.CH_STATUS_STATE ≠ 0) : Leads (.portDisable n) s fun t =>
      rdB t (ephyB n) R.EPHY_STATUS_WRITE_REJECTED = true ∧ t.pst n = s.pst n ∧ rdB t (ephyB n) R.EPHY_CTRL_EN = true := by
  refine leads_run (f := portDisable n) rfl ?_
  rw [pst_done, rdB_done, rdB_done, portDisable,
    if_neg (by simp [show rdB (begun s) (ephyB n) R.EPHY_CTRL_EN = true from he]),
    if_pos (chRuns_of hc)]
  refine ⟨ephyReject_rejected .., pst_of_rd (ephyReject_port n _ (by decide)), ?_⟩
  rw [rdB, ephyReject_port n _ (by decide)]
  exact he

theorem detect_leads (s : State) (n : Fin 192) (hp : s.pst n = .detect)
    (hr : rdB s (dieB (n / 48)) R.HUB_DIE_STATUS_IN_RESET = false) (ho : s.hub.portsOn = true)
    (ht : rdB s (ephyB n) R.EPHY_CTRL_TX_SLEEP = false) : Leads (.detectTest n true) s fun t => t.pst n = .rate ∧
      rd t (ephyB n) R.EPHY_STATUS_RATE = rd s (ephyB n) R.EPHY_CFG_MAX_RATE % 4 ∧
      rdB t (ephyB n) R.EPHY_STATUS_TX_IDLE = false := by
  refine leads_run (f := detectTest n true) rfl ?_
  rw [pst_done, rd_done, rdB_done, detectTest, if_neg (by
    simp [show (begun s).pst n = .detect from hp,
      show rdB (begun s) (dieB (n / 48)) R.HUB_DIE_STATUS_IN_RESET = false from hr,
      ho, show rdB (begun s) (ephyB n) R.EPHY_CTRL_TX_SLEEP = false from ht])]
  obtain ⟨h1, h2, h3⟩ := enterRate_rate n.isLt (rd (begun s) (ephyB n) R.EPHY_CFG_MAX_RATE) (begun s)
  refine ⟨h1, h2, h3.trans ?_⟩
  simp [ho]

theorem detect_idle (s : State) (n : Fin 192) (hp : s.pst n ≠ .detect) :
    Leads (.detectTest n true) s fun t => t.regs = s.regs ∧ t.ports = s.ports := by
  refine leads_run (f := detectTest n true) rfl ?_
  rw [done_regs, done_ports, detectTest, if_pos (by simp [show (begun s).pst n ≠ .detect from hp])]
  exact ⟨rfl, rfl⟩

/-! #### Training sets -/

theorem bitOf_setBit_same (x i : Nat) (b : Bool) : bitOf (setBit x i b) i = b := by
  unfold setBit
  split
  next h => exact eq_of_beq h
  next h =>
    have hpos : 0 < 2 ^ i := Nat.two_pow_pos i
    cases b
    · have hbit : x / 2 ^ i % 2 = 1 := by simpa [bitOf] using h
      have hsub : (x - 2 ^ i) / 2 ^ i = x / 2 ^ i - 1 := by simpa using Nat.sub_mul_div x (2 ^ i) 1
      simp only [bitOf, Bool.false_eq_true, if_false, hsub, beq_eq_false_iff_ne]
      omega
    · have hbit : x / 2 ^ i % 2 ≠ 1 := by simpa [bitOf] using h
      simp only [bitOf, if_true, Nat.add_div_right _ hpos, beq_iff_eq]
      omega

theorem laneErrors_port (n l cv d : Nat) (s : State) {f : Fld} (hf : portFld [] f = true) :
    rd (laneErrors n l cv d s) (ephyB n) f = rd s (ephyB n) f := by
  rw [laneErrors, rd_bump_ne _ _ _ _ _ _ _ _ (lane_ne_port hf n l _), rd_bump_ne _ _ _ _ _ _ _ _ (lane_ne_port hf n l _)]

theorem farFoms_port (n : Nat) (ts : List Nat) (s : State) {f : Fld} (hf : portFld [] f = true) :
    rd (farFoms n ts s) (ephyB n) f = rd s (ephyB n) f :=
  each_keeps (fun s => rd s (ephyB n) f) _ (fun _ _ => rd_wr_ne _ _ _ _ _ _ _ _ (lane_ne_port hf n _ _)) _ s

theorem farFoms_ports (n : Nat) (ts : List Nat) (s : State) : (farFoms n ts s).ports = s.ports :=
  each_keeps State.ports (fun m => wr (laneB n (bits (ts.getD 4 0) (2 * m) 2)) R.EPHY_LFAR_FOM (ts.getD (6 + m) 0))
    (fun _ _ => rfl) laneNums s

/-- The set's errors are counted, and its figures of merit taken. -/
def heard (n l cv d : Nat) (ts : List Nat) (s : State) : State := farFoms n ts (laneErrors n l cv d s)

theorem heard_port (n l cv d : Nat) (ts : List Nat) (s : State) {f : Fld} (hf : portFld [] f = true) :
    rd (heard n l cv d ts s) (ephyB n) f = rd s (ephyB n) f :=
  (farFoms_port n ts _ hf).trans (laneErrors_port n l cv d s hf)

theorem heard_ports (n l cv d : Nat) (ts : List Nat) (s : State) : (heard n l cv d ts s).ports = s.ports :=
  farFoms_ports n ts _

theorem trainingSet_rate {n l cv d : Nat} {inv : Bool} {ts : List Nat} {s : State} (hp : s.pst n = .rate)
    (hv : tsValid ts = true)
    (hb : bitOf (ts.getD 2 0) (rd s (ephyB n) R.EPHY_STATUS_RATE) = true) :
    trainingSet n l inv cv d ts s = enterLock n (heard n l cv d ts s) := by
  have hp' : (heard n l cv d ts s).pst n = .rate := (pst_of_rd (heard_port n l cv d ts s (by decide))).trans hp
  have hb' : bitOf (ts.getD 2 0) (rd (heard n l cv d ts s) (ephyB n) R.EPHY_STATUS_RATE) = true := by
    rwa [heard_port n l cv d ts s (by decide)]
  unfold trainingSet
  rw [if_neg (by simp [hv]), ← heard]
  simp only [hp', hb', if_true]

theorem set_rate (s : State) (n : Fin 192) (l : Fin 4) (inv : Bool) (cv d : Nat) (ts : List Nat) (hp : s.pst n = .rate)
    (hv : tsValid ts = true) (hb : bitOf (ts.getD 2 0) (rd s (ephyB n) R.EPHY_STATUS_RATE) = true) :
    Leads (.trainingSetReceived n l inv cv d ts) s fun t => t.pst n = .lock ∧
      rd t (ephyB n) R.EPHY_STATUS_RATE = rd s (ephyB n) R.EPHY_STATUS_RATE := by
  refine leads_run (f := trainingSet n l inv cv d ts) rfl ?_
  have hx : PState.lock ≠ .ident ∧ PState.lock ≠ .up := by decide
  rw [pst_done, rd_done, trainingSet_rate (s := begun s) hp hv hb]
  refine ⟨(pst_of_rd (enterLock_rd ..)).trans (enter_pst n.isLt hx ..), ?_⟩
  rw [enterLock_rd, enter_port n.isLt hx _ _ _ (by decide), heard_port _ _ _ _ _ _ (by decide)]
  rfl

theorem set_polarity (s : State) (n : Fin 192) (l : Fin 4) (inv : Bool) (cv d : Nat) (ts : List Nat)
    (hp : s.pst n = .polarity)
    (hv : tsValid ts = true) : Leads (.trainingSetReceived n l inv cv d ts) s fun t => t.pst n = .polarity ∧
      tget 0 l (t.port n).tsCount = min 16 (tget 0 l (s.port n).tsCount + 1) ∧ bitOf (t.port n).tsInv l = inv := by
  refine leads_run (f := trainingSet n l inv cv d ts) rfl ?_
  have hp' : (heard n l cv d ts (begun s)).pst n = .polarity := (pst_of_rd (heard_port _ _ _ _ _ _ (by decide))).trans hp
  have hq : (heard n l cv d ts (begun s)).port n = s.port n := congrArg (tget ({} : PortSt) n) (heard_ports ..)
  have hset : trainingSet n l inv cv d ts (begun s) = modPort n (fun p => { p with
      tsCount := tset 0 l (min 16 (tget 0 l p.tsCount + 1)) p.tsCount, tsInv := setBit p.tsInv l inv })
        (heard n l cv d ts (begun s)) := by
    unfold trainingSet
    rw [if_neg (by simp [hv]), ← heard]
    simp only [hp']
  rw [pst_done, done_port, hset, modPort_eq, setPort_same, hq]
  exact ⟨hp', tget_tset_same .., bitOf_setBit_same ..⟩

theorem set_invalid (s : State) (n : Fin 192) (l : Fin 4) (inv : Bool) (cv d : Nat) (ts : List Nat)
    (hv : tsValid ts = false) :
    Leads (.trainingSetReceived n l inv cv d ts) s fun t => t.ports = s.ports ∧ t.pst n = s.pst n ∧
      rd t (laneB n l) R.EPHY_LERR_CV = satU 16 (rd s (laneB n l) R.EPHY_LERR_CV + cv) % 2 ^ 16 := by
  refine leads_run (f := trainingSet n l inv cv d ts) rfl ?_
  rw [pst_done, done_ports, rd_done]
  have hset : trainingSet n l inv cv d ts (begun s) = laneErrors n l cv d (begun s) := by
    unfold trainingSet
    rw [if_pos (by simp [hv])]
  rw [hset]
  refine ⟨rfl, pst_of_rd (laneErrors_port _ _ _ _ _ (by decide)), ?_⟩
  rw [laneErrors, rd_bump_ne, rd_bump_same]
  · rfl
  · simp [Fld.key, R.EPHY_LERR_CV, R.EPHY_LERR_DISP]

/-! #### Timeouts -/

theorem rateTimeout_due {n : Nat} {s : State} (hp : s.pst n = .rate) (ht : (s.port n).stAt + 500 * us ≤ s.tick) :
    rateTimeout n s = trainStep n s := if_pos (by simp [hp, ht])
theorem identTimeout_due {n : Nat} {s : State} (hp : s.pst n = .ident) (ht : (s.port n).stAt + 50 * ms ≤ s.tick) :
    identTimeout n s = trainFailed n s := if_pos (by simp [hp, ht])

theorem rateTimeout_lower (s : State) (n : Fin 192) (hp : s.pst n = .rate) (ht : (s.port n).stAt + 500 * us ≤ s.tick)
    (hr : rd s (ephyB n) R.EPHY_STATUS_RATE ≠ 0) : Leads (.rateTimeout n) s fun t => t.pst n = .rate ∧
      rd t (ephyB n) R.EPHY_STATUS_RATE = (rd s (ephyB n) R.EPHY_STATUS_RATE - 1) % 4 := by
  refine leads_run (f := rateTimeout n) rfl ?_
  rw [pst_done, rd_done, rateTimeout_due (s := begun s) hp ht, trainStep_lower (s := begun s) hr]
  obtain ⟨h1, h2, -⟩ := enterRate_rate n.isLt (rd (begun s) (ephyB n) R.EPHY_STATUS_RATE - 1) (begun s)
  exact ⟨h1, h2⟩

theorem rateTimeout_failed (s : State) (n : Fin 192) (hp : s.pst n = .rate) (ht : (s.port n).stAt + 500 * us ≤ s.tick)
    (hr : rd s (ephyB n) R.EPHY_STATUS_RATE = 0) : Leads (.rateTimeout n) s fun t => t.pst n = .detect ∧
      rd t (ephyB n) R.EPHY_TRAIN_FAIL_CNT_COUNT = satU 32 (rd s (ephyB n) R.EPHY_TRAIN_FAIL_CNT_COUNT + 1) % 2 ^ 32 := by
  refine leads_run (f := rateTimeout n) rfl ?_
  rw [pst_done, rd_done, rateTimeout_due (s := begun s) hp ht, trainStep_lowest (s := begun s) hr]
  exact trainFailed_detect n.isLt (begun s)

theorem identTimeout_leads (s : State) (n : Fin 192) (hp : s.pst n = .ident) (ht : (s.port n).stAt + 50 * ms ≤ s.tick) :
    Leads (.identTimeout n) s fun t => t.pst n = .detect ∧
      rd t (ephyB n) R.EPHY_TRAIN_FAIL_CNT_COUNT = satU 32 (rd s (ephyB n) R.EPHY_TRAIN_FAIL_CNT_COUNT + 1) % 2 ^ 32 := by
  refine leads_run (f := identTimeout n) rfl ?_
  rw [pst_done, rd_done, identTimeout_due (s := begun s) hp ht]
  exact trainFailed_detect n.isLt (begun s)

/-- The time limit of the state the port trains in has passed. -/
def trainDue (s : State) (n : Nat) : Bool :=
  let e := s.tick - (s.port n).stAt
  match s.pst n with
  | .lock => ms ≤ e
  | .polarity => true
  | .order => true
  | .deskew => 4 * markerPeriod s n ≤ e
  | .width => ms ≤ e
  | _ => false

theorem trainingTimeout_eq (n : Nat) (s : State) : trainingTimeout n s = if trainDue s n then trainStep n s else s := rfl

theorem trainDue_lock {s : State} {n : Nat} (hp : s.pst n = .lock ∨ s.pst n = .width) (ht : (s.port n).stAt + ms ≤ s.tick) :
    trainDue s n = true := by
  have : ms ≤ s.tick - (s.port n).stAt := by omega
  rcases hp with hp | hp <;> simp [trainDue, hp, this]

theorem trainDue_deskew {s : State} {n : Nat} (hp : s.pst n = .deskew)
    (ht : (s.port n).stAt + 4 * markerPeriod s n ≤ s.tick) : trainDue s n = true := by
  have : 4 * markerPeriod s n ≤ s.tick - (s.port n).stAt := by omega
  simp [trainDue, hp, this]

theorem trainingTimeout_lower (s : State) (n : Fin 192) (hd : trainDue s n = true)
    (hr : rd s (ephyB n) R.EPHY_STATUS_RATE ≠ 0) : Leads (.trainingTimeout n) s fun t => t.pst n = .rate ∧
      rd t (ephyB n) R.EPHY_STATUS_RATE = (rd s (ephyB n) R.EPHY_STATUS_RATE - 1) % 4 := by
  refine leads_run (f := trainingTimeout n) rfl ?_
  rw [pst_done, rd_done, trainingTimeout_eq, if_pos (show trainDue (begun s) n = true from hd),
    trainStep_lower (s := begun s) hr]
  obtain ⟨h1, h2, -⟩ := enterRate_rate n.isLt (rd (begun s) (ephyB n) R.EPHY_STATUS_RATE - 1) (begun s)
  exact ⟨h1, h2⟩

theorem trainingTimeout_failed (s : State) (n : Fin 192) (hd : trainDue s n = true)
    (hr : rd s (ephyB n) R.EPHY_STATUS_RATE = 0) : Leads (.trainingTimeout n) s fun t => t.pst n = .detect ∧
      rd t (ephyB n) R.EPHY_TRAIN_FAIL_CNT_COUNT = satU 32 (rd s (ephyB n) R.EPHY_TRAIN_FAIL_CNT_COUNT + 1) % 2 ^ 32 := by
  refine leads_run (f := trainingTimeout n) rfl ?_
  rw [pst_done, rd_done, trainingTimeout_eq, if_pos (show trainDue (begun s) n = true from hd),
    trainStep_lowest (s := begun s) hr]
  exact trainFailed_detect n.isLt (begun s)

/-! #### Locked lanes, polarity and markers -/

/-- A change of state leaves the lanes alone. -/
theorem toPst_lane {n : Nat} (hn : n < 192) {x : PState} (hx : x ≠ .ident ∧ x ≠ .up) (s : State) (l : Nat) (f : Fld) :
    rd (toPst n x s) (laneB n l) f = rd s (laneB n l) f := by
  refine toPst_rd hn hx s (m := n / 48) ?_ fun g hg => ?_
  · simp only [Fld.key, laneB, ephyB]
    omega
  · have hlow : ∀ g ∈ stateFlds, g.key 0 0 < 0x40 * 32 := by decide
    have := hlow g hg
    simp only [Fld.key, laneB] at *
    omega

theorem laneKey_ne {l k : Nat} (h : l ≠ k) (n : Nat) {f g : Fld} (hf : f.key 0 0 < 0x10 * 32) (hg : g.key 0 0 < 0x10 * 32) :
    g.key (laneB n k) 0 ≠ f.key (laneB n l) 0 := by
  simp only [Fld.key, laneB] at *
  omega

/-- Where each lane's turn writes that lane's own flags, a flag of lane `l` is in the end as its own turn left it. -/
theorem each_lane {n l : Nat} {f : Fld} (g : Nat → State → State) (ls : List Nat) (hn : ls.Nodup) (hl : l ∈ ls)
    (h : ∀ k, k ≠ l → ∀ s, rd (g k s) (laneB n l) f = rd s (laneB n l) f) (v : Nat)
    (hv : ∀ s, rd (g l s) (laneB n l) f = v) (s : State) : rd (each ls g s) (laneB n l) f = v := by
  obtain ⟨s', -, h2⟩ := each_once (fun s => rd s (laneB n l) f) g ls hn hl h s
  exact h2.trans (hv s')

/-- The lanes of `mask` have lock, the others are excluded. -/
def splitLanes (n mask l : Nat) (s : State) : State :=
  if bitOf mask l then wrB (laneB n l) R.EPHY_LSTAT_LOCK true s else wrB (laneB n l) R.EPHY_LSTAT_EXCLUDED true s

theorem splitLanes_ne {n mask l k : Nat} (h : k ≠ l) {f : Fld} (hf : f.key 0 0 < 0x10 * 32) (s : State) :
    rd (splitLanes n mask k s) (laneB n l) f = rd s (laneB n l) f := by
  unfold splitLanes
  split
  · exact rd_wr_ne _ _ _ _ _ _ _ _ (laneKey_ne h.symm n hf (by decide))
  · exact rd_wr_ne _ _ _ _ _ _ _ _ (laneKey_ne h.symm n hf (by decide))

theorem lockStateEnd_eq {n mask : Nat} {s : State} (hp : s.pst n = .lock) (hm : mask ≠ 0)
    (ht : mask = 15 ∨ (s.port n).stAt + ms ≤ s.tick) :
    lockStateEnd n mask s = toPst n .polarity (each laneNums (splitLanes n mask) s) :=
  if_neg (by simpa [hp, hm, or_iff_not_imp_left] using ht)

theorem lockEnd_leads (s : State) (n : Fin 192) (m : Fin 16) (hp : s.pst n = .lock) (hm : m ≠ 0)
    (ht : m = 15 ∨ (s.port n).stAt + ms ≤ s.tick) : Leads (.lockStateEnd n m) s fun t => t.pst n = .polarity ∧
      ∀ l < 4, (bitOf m l = true → rdB t (laneB n l) R.EPHY_LSTAT_LOCK = true) ∧
        (bitOf m l = false → rdB t (laneB n l) R.EPHY_LSTAT_EXCLUDED = true) := by
  refine leads_run (f := lockStateEnd n m) rfl ?_
  have hx : PState.polarity ≠ .ident ∧ PState.polarity ≠ .up := by decide
  have hm' : (m : Nat) ≠ 0 := fun h => hm (Fin.ext h)
  have ht' : (m : Nat) = 15 ∨ (s.port n).stAt + ms ≤ s.tick := ht.imp (fun h => congrArg Fin.val h) id
  simp only [pst_done, rdB_done, lockStateEnd_eq (s := begun s) hp hm' ht']
  refine ⟨toPst_pst n.isLt hx _, fun l hl => ?_⟩
  have hmem : l ∈ laneNums := by
    simp only [laneNums, List.mem_cons, List.not_mem_nil, or_false]
    omega
  have hlane (f : Fld) (hf : f.key 0 0 < 0x10 * 32) (h : ∀ s, rd (splitLanes n m l s) (laneB n l) f = 1) :
      rdB (toPst n .polarity (each laneNums (splitLanes n m) (begun s))) (laneB n l) f = true := by
    rw [rdB, toPst_lane n.isLt hx,
      each_lane (splitLanes n m) laneNums (by decide) hmem (fun k hk s => splitLanes_ne hk hf s) 1 h]
    rfl
  refine ⟨fun hb => hlane _ (by decide) fun s => ?_, fun hb => hlane _ (by decide) fun s => ?_⟩
  · rw [splitLanes, if_pos hb, wrB, rd_wr_same]
    rfl
  · rw [splitLanes, if_neg (by simp [hb]), wrB, rd_wr_same]
    rfl

/-- The polarity found on a lane is corrected. -/
def invertLane (n : Nat) (p : PortSt) (l : Nat) : State → State :=
  wrB (laneB n l) R.EPHY_LSTAT_INVERTED (bitOf p.tsInv l)

theorem polarityDone_eq {n : Nat} {s : State} (hp : s.pst n = .polarity)
    (hl : ∀ l ∈ lanesLocked s n, 16 ≤ tget 0 l (s.port n).tsCount) :
    polarityDone n s = toPst n .order (each (lanesLocked s n) (invertLane n (s.port n)) s) :=
  if_neg (by simpa [hp] using hl)

theorem rdB_invertLane (n : Nat) (p : PortSt) (l : Nat) (s : State) :
    rd (invertLane n p l s) (laneB n l) R.EPHY_LSTAT_INVERTED = b2n (bitOf p.tsInv l) := by
  rw [invertLane, wrB, rd_wr_same]
  cases bitOf p.tsInv l <;> rfl

theorem polarityDone_leads (s : State) (n : Fin 192) (hp : s.pst n = .polarity)
    (hl : ∀ l ∈ lanesLocked s n, 16 ≤ tget 0 l (s.port n).tsCount) : Leads (.polarityDone n) s fun t => t.pst n = .order ∧
      ∀ l ∈ lanesLocked s n, rdB t (laneB n l) R.EPHY_LSTAT_INVERTED = bitOf (s.port n).tsInv l := by
  refine leads_run (f := polarityDone n) rfl ?_
  have hx : PState.order ≠ .ident ∧ PState.order ≠ .up := by decide
  simp only [pst_done, rdB_done, polarityDone_eq (s := begun s) hp hl]
  refine ⟨toPst_pst n.isLt hx _, fun l hm => ?_⟩
  have hnd : (lanesLocked s n).Nodup := List.Nodup.filter _ (by decide : laneNums.Nodup)
  rw [rdB, toPst_lane n.isLt hx]
  refine (congrArg (· == 1) (each_lane (invertLane n (s.port n)) _ hnd hm (fun k hk u => rd_wr_ne _ _ _ _ _ _ _ _
    (laneKey_ne hk.symm n (by decide) (by decide))) _ (rdB_invertLane n (s.port n) l) (begun s))).trans ?_
  cases bitOf (s.port n).tsInv l <;> rfl

/-! #### The last marker -/

/-- A lane's errors are counted beside its flags. -/
theorem laneErrors_flag (n k cv d : Nat) (s : State) (l : Nat) {f : Fld} (hf : f.key 0 0 < 32) :
    rd (laneErrors n k cv d s) (laneB n l) f = rd s (laneB n l) f := by
  have h (g : Fld) (hg : 4 * 32 ≤ g.key 0 0 ∧ g.key 0 0 < 5 * 32) : g.key (laneB n k) 0 ≠ f.key (laneB n l) 0 := by
    simp only [Fld.key, laneB] at *
    omega
  rw [laneErrors, rd_bump_ne _ _ _ _ _ _ _ _ (h _ (by decide)), rd_bump_ne _ _ _ _ _ _ _ _ (h _ (by decide))]

theorem lanesLeft_of_flags {s t : State} {n : Nat}
    (h : ∀ l, ∀ f ∈ [R.EPHY_LSTAT_LOCK, R.EPHY_LSTAT_EXCLUDED], rd t (laneB n l) f = rd s (laneB n l) f) :
    lanesLeft t n = lanesLeft s n := by
  have hlock (l : Nat) := h l _ (List.mem_cons_self ..)
  have hex (l : Nat) := h l _ (List.mem_cons_of_mem _ (List.mem_cons_self ..))
  simp only [lanesLeft, lanesLocked, rdB, hlock, hex]

/-- The port is in WIDTH once every remaining lane has had a marker of one SEQ. -/
theorem deskew_width {n : Nat} (hn : n < 192) {s : State} {q : Nat} (hne : lanesLeft s n ≠ [])
    (h : ∀ k ∈ lanesLeft s n, (tget (0, 0) k (s.port n).markers).1 = q ∧ (tget (0, 0) k (s.port n).markers).2 ≠ 0) :
    (deskew n s).pst n = .width := by
  have hx : PState.width ≠ .ident ∧ PState.width ≠ .up := by decide
  unfold deskew
  extract_lets left mk
  have hleft : left = lanesLeft s n := rfl
  clear_value left
  subst hleft
  split
  next h0 => exact absurd h0 hne
  next l0 ls h0 =>
    have hall : (lanesLeft s n).all (fun l => (mk l).2 != 0 && (mk l).1 == (mk l0).1) = true := by
      have h1 : (mk l0).1 = q := (h l0 (h0 ▸ List.mem_cons_self ..)).1
      simp only [List.all_eq_true, Bool.and_eq_true, bne_iff_ne, beq_iff_eq]
      exact fun k hk => ⟨(h k hk).2, (h k hk).1.trans h1.symm⟩
    rw [if_neg (by simp [hall])]
    exact (pst_of_rd (sendTraining_rd ..)).trans (toPst_pst hn hx _)

theorem marker_leads (s : State) (n : Fin 192) (l : Fin 4) (p : Nat) (q : Fin 256) (st : Fin 32) (cv d : Nat)
    (hp : s.pst n = .deskew) (hl : l.val ∈ lanesLeft s n) (h : ∀ k ∈ lanesLeft s n, k ≠ l.val →
      (tget (0, 0) k (s.port n).markers).1 = q.val ∧ (tget (0, 0) k (s.port n).markers).2 ≠ 0) :
    Leads (.alignmentMarkerReceived n l p q st cv d) s fun t => t.pst n = .width := by
  refine leads_run (f := markerReceived n l p q st cv d) rfl ?_
  rw [pst_done]
  have hp' : (laneErrors n l cv d (begun s)).pst n = .deskew := (pst_of_rd (laneErrors_port _ _ _ _ _ (by decide))).trans hp
  unfold markerReceived
  extract_lets s1 lb
  have h1 : s1.pst n = .deskew := hp'
  have hleft : lanesLeft s1 n = lanesLeft s n := lanesLeft_of_flags fun k f hf =>
    laneErrors_flag n l cv d (begun s) k ((by decide : ∀ f ∈ [R.EPHY_LSTAT_LOCK, R.EPHY_LSTAT_EXCLUDED],
      f.key 0 0 < 32) f hf)
  have hport : s1.port n = s.port n := rfl
  clear_value s1
  simp only [h1]
  have hleft' (x : PortSt) : lanesLeft (setPort n x s1) n = lanesLeft s n := hleft
  refine deskew_width n.isLt (q := q) ?_ fun k hk => ?_
  · rw [modPort_eq, hleft']
    exact List.ne_nil_of_mem hl
  · rw [modPort_eq, hleft'] at hk
    rw [modPort_eq, setPort_same, hport]
    by_cases hkl : k = l
    · subst hkl
      simp [tget_tset_same]
    · rw [tget_tset_ne _ _ _ _ _ _ (Ne.symm hkl)]
      exact h k hk hkl
end Sys2Proof.PowerModes
end

section
namespace Sys2Proof.PowerModes
open Sys2Proof Sys2Proof.Machine Sys2Proof.Safety Sys2Proof.Scope

/-! ### Retraining, sleep, loopback and equalisation (R535, R551 to R555, R532) -/

theorem enterRetrain_lock {n : Nat} (hn : n < 192) (cause : Nat) (s : State) : (enterRetrain n cause s).pst n = .lock ∧
    rd (enterRetrain n cause s) (ephyB n) R.EPHY_DOWN_CNT_COUNT =
      satU 32 (rd s (ephyB n) R.EPHY_DOWN_CNT_COUNT + 1) % 2 ^ 32 := by
  have hx : PState.lock ≠ .ident ∧ PState.lock ≠ .up := by decide
  have hr : PState.retrain ≠ .ident ∧ PState.retrain ≠ .up := by decide
  refine ⟨(pst_of_rd (enterLock_rd ..)).trans (enter_pst hn hx ..), ?_⟩
  rw [enterRetrain, enterLock_rd, enter_port hn hx _ _ _ (by decide), rd_raise, rd_bump_same,
    toPst_port hn hr _ (by decide)]
  rfl

theorem ephyRetrain_up {n : Nat} {s : State} (hp : s.pst n = .up) : ephyRetrain n s =
    modPort n (fun p => { p with rreq := some (draw 8 s).1 })
      (enterRetrain n 2 (emitOut (.linkSet n 1 0 0 (draw 8 s).1) (draw 8 s).2)) := if_neg (by simp [hp])

theorem retrain_leads (s : State) (n : Fin 192) (hp : s.pst n = .up) : Leads (.ephyRetrain n) s fun t => t.pst n = .lock ∧
    (t.port n).rreq.isSome = true ∧
    rd t (ephyB n) R.EPHY_DOWN_CNT_COUNT = satU 32 (rd s (ephyB n) R.EPHY_DOWN_CNT_COUNT + 1) % 2 ^ 32 := by
  refine leads_run (f := ephyRetrain n) rfl ?_
  have hu : (emitOut (.linkSet n 1 0 0 (draw 8 (begun s)).1) (draw 8 (begun s)).2).regs = s.regs := rfl
  rw [pst_done, done_port, rd_done, ephyRetrain_up (s := begun s) hp, modPort_eq, setPort_same]
  generalize emitOut (.linkSet n 1 0 0 (draw 8 (begun s)).1) (draw 8 (begun s)).2 = u at hu
  obtain ⟨h1, h2⟩ := enterRetrain_lock n.isLt 2 u
  exact ⟨(pst_of_rd (rd_setPort ..)).trans h1, rfl, by rw [rd_setPort, h2, rd_of_regs hu]⟩

/-! #### Sleep -/

theorem sleep_leads (s : State) (n : Fin 192) (hc : s.chState n = .off) (ht : rdB s
    (ephyB n) R.EPHY_CTRL_TX_SLEEP = false) :
    Leads (.txSleepEnter n) s fun t => rdB t (ephyB n) R.EPHY_CTRL_TX_SLEEP = true ∧
      rdB t (ephyB n) R.EPHY_STATUS_TX_IDLE = true := by
  refine leads_run (f := txSleepEnter n) rfl ?_
  rw [rdB_done, rdB_done, txSleepEnter, if_neg (by simp [show (begun s).chState n = .off from hc]),
    if_neg (by simp [show rdB (begun s) (ephyB n) R.EPHY_CTRL_TX_SLEEP = false from ht])]
  have hne : R.EPHY_STATUS_TX_IDLE.key (ephyB n) 0 ≠ R.EPHY_CTRL_TX_SLEEP.key (ephyB n) 0 :=
    portFld_ne (fs := [R.EPHY_STATUS_TX_IDLE]) (by decide) n (by simp)
  refine ⟨?_, ?_⟩
  · rw [rdB, rd_raise, wrB, rd_wr_ne _ _ _ _ _ _ _ _ hne,
      when_keeps (fun s => rd s (ephyB n) R.EPHY_CTRL_TX_SLEEP) _ _ _ rfl, ← rdB,
      rdB_wrB_same _ _ _ (by decide)]
  · rw [rdB, rd_raise, ← rdB, rdB_wrB_same _ _ _ (by decide)]

theorem sleep_rejected (s : State) (n : Fin 192) (hc : s.chState n ≠ .off) : Leads (.txSleepEnter n) s fun t =>
    rdB t (ephyB n) R.EPHY_STATUS_WRITE_REJECTED = true ∧ t.pst n = s.pst n := by
  refine leads_run (f := txSleepEnter n) rfl ?_
  rw [rdB_done, pst_done, txSleepEnter, if_pos (by simpa using (show (begun s).chState n ≠ .off from hc))]
  exact ⟨ephyReject_rejected .., pst_of_rd (ephyReject_port n _ (by decide))⟩

/-- The port wakes: idle pairs, then the packet stream. -/
def woken (n : Nat) (s : State) : State :=
  emitOut (.idlePair n) (modPort n (fun p => { p with txWake := some s.tick }) (modPort n
    (fun p => { p with wakeAt := some s.tick }) s))

theorem rd_woken (n : Nat) (s : State) (b : Nat) (f : Fld) (i : Nat) : rd (woken n s) b f i = rd s b f i := rfl

theorem woken_port (n : Nat) (s : State) :
    ((woken n s).port n).wakeAt = some s.tick ∧ ((woken n s).port n).txWake = some s.tick := by
  unfold woken
  rw [modPort_eq, modPort_eq]
  generalize hq : setPort n _ s = u
  have hu : (u.port n).wakeAt = some s.tick := by
    subst hq
    exact congrArg PortSt.wakeAt (setPort_same ..)
  have hport (x : PortSt) : (emitOut (.idlePair n) (setPort n x u)).port n = x := setPort_same n x u
  rw [hport]
  exact ⟨hu, rfl⟩

theorem txSleepExit_up {n : Nat} {s : State} (ht : rdB s (ephyB n) R.EPHY_CTRL_TX_SLEEP = true) (hp : s.pst n = .up) :
    txSleepExit n s = raise 0x0B09 n 0 (woken n
      (wrB (ephyB n) R.EPHY_STATUS_TX_IDLE (!s.hub.portsOn) (wrB (ephyB n) R.EPHY_CTRL_TX_SLEEP false s))) := by
  have hact : txActive s n = true := by simp [txActive, hp]
  unfold txSleepExit
  rw [if_neg (by simp [ht]), hact]
  extract_lets s1 s2 s3
  have h1 : s1.pst n = .up := by
    refine (pst_of_rd (s := s) ?_).trans hp
    unfold s1
    rw [wrB, rd_wr_ne _ _ _ _ _ _ _ _ (portFld_ne (fs := [R.EPHY_STATUS_TX_IDLE]) (by decide) n (by simp)), wrB,
      rd_wr_ne _ _ _ _ _ _ _ _ (portFld_ne (fs := [R.EPHY_CTRL_TX_SLEEP]) (by decide) n (by simp))]
  have hs1 : wrB (ephyB n) R.EPHY_STATUS_TX_IDLE (!s.hub.portsOn) (wrB (ephyB n) R.EPHY_CTRL_TX_SLEEP false s) = s1 := rfl
  rw [hs1]
  have h2 : s2 = modPort n (fun p => { p with wakeAt := some s1.tick }) s1 := by
    simp [s2, h1, when_]
  have hp2 : (modPort n (fun p => { p with wakeAt := some s1.tick }) s1).pst n = .up := (pst_of_rd (rd_setPort ..)).trans h1
  have h3 : s3 = woken n s1 := by
    have hc : carries s2 n = true := by
      rw [h2, carries, hp2]
      rfl
    unfold s3
    rw [hc, h2]
    rfl
  rw [h3]

theorem wake_leads (s : State) (n : Fin 192) (ht : rdB s (ephyB n) R.EPHY_CTRL_TX_SLEEP = true) (hp : s.pst n = .up) :
    Leads (.txSleepExit n) s fun t => rdB t (ephyB n) R.EPHY_CTRL_TX_SLEEP = false ∧
      rdB t (ephyB n) R.EPHY_STATUS_TX_IDLE = !s.hub.portsOn ∧ (t.port n).wakeAt = some s.tick ∧
      (t.port n).txWake = some s.tick := by
  refine leads_run (f := txSleepExit n) rfl ?_
  rw [rdB_done, rdB_done, done_port, txSleepExit_up (s := begun s) ht hp]
  refine ⟨?_, ?_, ?_, ?_⟩
  · rw [rdB, rd_raise, rd_woken, wrB,
      rd_wr_ne _ _ _ _ _ _ _ _ (portFld_ne (fs := [R.EPHY_STATUS_TX_IDLE]) (by decide) n (by simp)),
      ← rdB, rdB_wrB_same _ _ _ (by decide)]
  · rw [rdB, rd_raise, rd_woken, ← rdB, rdB_wrB_same _ _ _ (by decide)]
    rfl
  · rw [State.port, raise_ports]
    exact (woken_port n _).1
  · rw [State.port, raise_ports]
    exact (woken_port n _).2

/-! #### Loopback -/

/-- The port is in LOOPBACK of a mode. -/
def looped (n m : Nat) (s : State) : State :=
  toPst n .loopback (when_ (m = 3) (sendTraining n 3 0 laneNums) (wr (ephyB n) R.EPHY_CTRL_LB_MODE m s))

theorem loopbackMode_on {n m : Nat} {s : State} (hm : m ≠ 0) (hr : lbRefused s n m = false) : loopbackMode n m s =
    if m = 3 then setIdle n false false (looped n m s) else emitOut (.idle n) (setIdle n true false (looped n m s)) := by
  unfold loopbackMode looped
  rw [if_neg hm, if_neg (by simp [hr])]

theorem loopback_leads (s : State) (n : Fin 192) (m : Fin 8) (hm : m ≠ 0) (hr : lbRefused s n m = false) :
    Leads (.loopbackMode n m) s fun t => t.pst n = .loopback ∧ rd t (ephyB n) R.EPHY_CTRL_LB_MODE = m.val := by
  refine leads_run (f := loopbackMode n m) rfl ?_
  have hx : PState.loopback ≠ .ident ∧ PState.loopback ≠ .up := by decide
  have hm' : (m : Nat) ≠ 0 := fun h => hm (Fin.ext h)
  have hkeep {f : Fld} (hf : portFld [R.EPHY_STATUS_TX_IDLE, R.EPHY_STATUS_RX_IDLE] f = true) :
      rd (loopbackMode n m (begun s)) (ephyB n) f = rd (looped n m (begun s)) (ephyB n) f := by
    rw [loopbackMode_on (s := begun s) hm' hr]
    split
    · exact setIdle_port _ _ _ _ hf
    · rw [rd_emitOut]
      exact setIdle_port _ _ _ _ hf
  rw [pst_done, rd_done]
  refine ⟨(pst_of_rd (hkeep (by decide))).trans (toPst_pst n.isLt hx _), ?_⟩
  rw [hkeep (by decide), looped, toPst_port n.isLt hx _ (by decide),
    when_keeps (fun s => rd s (ephyB n) R.EPHY_CTRL_LB_MODE) _ _ _ (sendTraining_rd ..), rd_wr_same]
  exact Nat.mod_eq_of_lt m.isLt

theorem loopback_rejected (s : State) (n : Fin 192) (m : Fin 8) (hm : m ≠ 0) (hr : lbRefused s n m = true) :
    Leads (.loopbackMode n m) s fun t => rdB t (ephyB n) R.EPHY_STATUS_WRITE_REJECTED = true ∧ t.pst n = s.pst n := by
  refine leads_run (f := loopbackMode n m) rfl ?_
  have hm' : (m : Nat) ≠ 0 := fun h => hm (Fin.ext h)
  have heq : loopbackMode n m (begun s) = ephyReject n (begun s) := by
    unfold loopbackMode
    rw [if_neg hm', if_pos (show lbRefused (begun s) n m = true from hr)]
  rw [rdB_done, pst_done, heq]
  exact ⟨ephyReject_rejected .., pst_of_rd (ephyReject_port n _ (by decide))⟩

theorem loopback_left (s : State) (n : Fin 192) (hp : s.pst n = .loopback) :
    Leads (.loopbackMode n 0) s fun t => t.pst n = .detect ∧ rd t (ephyB n) R.EPHY_CTRL_LB_MODE = 0 := by
  refine leads_run (f := loopbackMode n 0) rfl ?_
  have hx : PState.detect ≠ .ident ∧ PState.detect ≠ .up := by decide
  have heq : ∃ u, loopbackMode n 0 (begun s) = enterDetect n (wr (ephyB n) R.EPHY_CTRL_LB_MODE 0 u) := by
    unfold loopbackMode
    rw [if_pos rfl, if_neg (by simp [show (begun s).pst n = .loopback from hp])]
    exact ⟨_, rfl⟩
  obtain ⟨u, heq⟩ := heq
  rw [pst_done, rd_done, heq, enterDetect_eq]
  refine ⟨enter_pst n.isLt hx .., ?_⟩
  rw [enter_port n.isLt hx _ _ _ (by decide), rd_wr_same, Nat.zero_mod]

theorem loopbackGo_leads (s : State) (n : Fin 192) (e : Nat) (hp : s.pst n = .loopback) :
    Leads (.loopbackGo n e) s fun t => t.pst n = .loopback ∧
      rd t (ephyB n) R.EPHY_LB_ERR_COUNT = satU 32 (rd s (ephyB n) R.EPHY_LB_ERR_COUNT + e) % 2 ^ 32 := by
  refine leads_run (f := loopbackGo n e) rfl ?_
  rw [pst_done, rd_done, loopbackGo, if_neg (by simp [show (begun s).pst n = .loopback from hp])]
  refine ⟨(pst_of_rd (s := s) ?_).trans hp, ?_⟩
  · rw [rd_bump_ne _ _ _ _ _ _ _ _ (portFld_ne (fs := [R.EPHY_LB_ERR_COUNT]) (by decide) n (by simp))]
    rfl
  · rw [rd_bump_same]
    rfl

/-! #### Transmit equalisation -/

theorem txeq_leads (s : State) (n : Fin 192) (b : Fin 5) (v : Nat) (h1 : bits v 0 5 ≤ 16) (h2 : bits v 8 5 ≤ 24)
    (h3 : bits v 0 5 + bits v 8 5 ≤ 32) : Leads (.ephyTxeqWrite n b v) s fun t =>
      rd t (ephyB n) R.EPHY_TXEQ_PRE b = bits v 0 5 ∧ rd t (ephyB n) R.EPHY_TXEQ_POST b = bits v 8 5 ∧
      rd t (ephyB n) R.EPHY_TXEQ_SWING b = bits v 16 4 := by
  refine leads_run (f := ephyTxeqWrite n b v) rfl ?_
  have heq : ∃ u, ephyTxeqWrite n b v (begun s) = wr (ephyB n) R.EPHY_TXEQ_PRE (bits v 0 5)
      (wr (ephyB n) R.EPHY_TXEQ_POST (bits v 8 5) (wr (ephyB n) R.EPHY_TXEQ_SWING (bits v 16 4) u b) b) b := by
    unfold ephyTxeqWrite
    rw [if_neg (by simp; omega)]
    exact ⟨_, rfl⟩
  obtain ⟨u, heq⟩ := heq
  have hpre : R.EPHY_TXEQ_PRE.key (ephyB n) b ≠ R.EPHY_TXEQ_POST.key (ephyB n) b ∧
      R.EPHY_TXEQ_PRE.key (ephyB n) b ≠ R.EPHY_TXEQ_SWING.key (ephyB n) b ∧
      R.EPHY_TXEQ_POST.key (ephyB n) b ≠ R.EPHY_TXEQ_SWING.key (ephyB n) b := by
    simp [Fld.key, R.EPHY_TXEQ_PRE, R.EPHY_TXEQ_POST, R.EPHY_TXEQ_SWING]
  obtain ⟨k1, k2, k3⟩ := hpre
  have hmod (lo w : Nat) : bits v lo w % 2 ^ w = bits v lo w := Nat.mod_eq_of_lt (Nat.mod_lt _ (Nat.two_pow_pos w))
  rw [rd_done, rd_done, rd_done, heq]
  refine ⟨?_, ?_, ?_⟩
  · rw [rd_wr_same]
    exact hmod 0 5
  · rw [rd_wr_ne _ _ _ _ _ _ _ _ k1, rd_wr_same]
    exact hmod 8 5
  · rw [rd_wr_ne _ _ _ _ _ _ _ _ k2, rd_wr_ne _ _ _ _ _ _ _ _ k3, rd_wr_same]
    exact hmod 16 4

theorem txeq_rejected (s : State) (n : Fin 192) (b : Fin 5) (v : Nat)
    (h : 16 < bits v 0 5 ∨ 24 < bits v 8 5 ∨ 32 < bits v 0 5 + bits v 8 5) : Leads (.ephyTxeqWrite n b v) s fun t =>
      rdB t (ephyB n) R.EPHY_STATUS_WRITE_REJECTED = true ∧ t.pst n = s.pst n := by
  refine leads_run (f := ephyTxeqWrite n b v) rfl ?_
  have heq : ephyTxeqWrite n b v (begun s) = ephyReject n (begun s) := if_pos (by simpa [or_assoc] using h)
  rw [rdB_done, pst_done, heq]
  exact ⟨ephyReject_rejected .., pst_of_rd (ephyReject_port n _ (by decide))⟩

/-- Settles O47: every way into a state of a port ends in `toPst`, and what else each writes lies in other fields. -/
theorem portBringUp : Obligations.PortBringUp := by
  unfold Obligations.PortBringUp
  exact ⟨enable_leads, disable_leads, disable_rejected, detect_leads, detect_idle, set_rate, set_polarity, set_invalid,
    rateTimeout_lower, rateTimeout_failed, lockEnd_leads, polarityDone_leads, marker_leads,
    fun s n hp ht hr => trainingTimeout_lower s n (trainDue_lock hp ht) hr,
    fun s n hp ht hr => trainingTimeout_failed s n (trainDue_lock hp ht) hr,
    fun s n hp ht hr => trainingTimeout_lower s n (trainDue_deskew hp ht) hr,
    fun s n hp ht hr => trainingTimeout_failed s n (trainDue_deskew hp ht) hr,
    identTimeout_leads, retrain_leads, sleep_leads, sleep_rejected, wake_leads, loopback_leads, loopback_rejected,
    loopback_left, loopbackGo_leads, txeq_leads, txeq_rejected⟩
end Sys2Proof.PowerModes
end

section
namespace Sys2Proof.PowerModes
open Sys2Proof Sys2Proof.Machine Sys2Proof.Safety Sys2Proof.Scope

/-! ### Hardware locks (R719 to R724) -/

theorem lockOwner_done (f : State → State) (s : State) (n : Nat) : lockOwner (done f s) n = lockOwner (f (begun s)) n :=
  rd_done ..

theorem breakLock_free {s : State} {n : Nat} (h : lockOwner s n = 0xFFFF) (cause : Nat) : breakLock n cause s = s :=
  if_pos h

/-- A write of another field of the same block leaves a field alone. -/
theorem rd_wr_block (b : Nat) {f g : Fld} (h : f.off * 32 + f.lo ≠ g.off * 32 + g.lo) (v : Nat) (s : State) :
    rd (wr b f v s) b g = rd s b g :=
  rd_wr_ne _ _ _ _ _ _ _ _ (by simp only [Fld.key]; omega)

theorem breakCount_ne {n : Nat} (hn : n < 256) {f : Fld} (hf : f ∈ R.lockBlk) :
    R.LOCK_BROKEN_CNT_COUNT.key lockUnitB 0 ≠ f.key (lockB n) 0 := by
  have := (by decide : ∀ f ∈ R.lockBlk, f.off + f.stride * 0 < 16 ∧ f.lo + f.bstep * 0 < 32) f hf
  simp only [Fld.key, R.LOCK_BROKEN_CNT_COUNT, lockUnitB, lockB]
  omega

theorem freeLock_owner (n : Nat) (s : State) : lockOwner (freeLock n s) n = 0xFFFF :=
  rd_wr_same s (lockB n) R.LOCK_STAT_OWNER 0xFFFF 0

theorem freeLock_broken (n : Nat) (s : State) :
    rdB (freeLock n s) (lockB n) R.LOCK_STAT_BROKEN = rdB s (lockB n) R.LOCK_STAT_BROKEN :=
  congrArg (· == 1) (rd_wr_block (lockB n) (f := R.LOCK_STAT_OWNER) (g := R.LOCK_STAT_BROKEN) (by decide) 0xFFFF s)

/-- What is seen of a lock once a break has freed it, and of the count of breaks. -/
theorem breakLock_held {s : State} {n : Nat} (hn : n < 256) (h : lockOwner s n ≠ 0xFFFF) (cause : Nat) :
    lockOwner (breakLock n cause s) n = 0xFFFF ∧ rdB (breakLock n cause s) (lockB n) R.LOCK_STAT_BROKEN = true ∧
      rd (breakLock n cause s) (lockB n) R.LOCK_STAT_CAUSE = cause % 2 ^ 2 ∧
      rd (breakLock n cause s) (lockB n) R.LOCK_PREV_OWNER = lockOwner s n % 65536 ∧
      rd (breakLock n cause s) lockUnitB R.LOCK_BROKEN_CNT_COUNT =
        satU R.LOCK_BROKEN_CNT_COUNT.w (rd s lockUnitB R.LOCK_BROKEN_CNT_COUNT + 1) % 2 ^ R.LOCK_BROKEN_CNT_COUNT.w := by
  have hcount (f : Fld) (hf : f ∈ R.lockBlk) (u : State) :
      rd (bump lockUnitB R.LOCK_BROKEN_CNT_COUNT u) (lockB n) f = rd u (lockB n) f :=
    rd_bump_ne _ _ _ _ _ _ _ _ (breakCount_ne hn hf)
  rw [breakLock, if_neg h]
  refine ⟨?_, ?_, ?_, ?_, ?_⟩
  · rw [lockOwner, rd_raise, hcount _ (by simp [R.lockBlk]), wrB, rd_wr_block (lockB n) (by decide),
      rd_wr_block (lockB n) (by decide), rd_wr_block (lockB n) (by decide)]
    exact freeLock_owner n s
  · rw [rdB, rd_raise, hcount _ (by simp [R.lockBlk])]
    exact rdB_wrB_same _ _ _ (by decide) _
  · rw [rd_raise, hcount _ (by simp [R.lockBlk]), wrB, rd_wr_block (lockB n) (by decide), rd_wr_same]
    rfl
  · rw [rd_raise, hcount _ (by simp [R.lockBlk]), wrB, rd_wr_block (lockB n) (by decide), rd_wr_block (lockB n) (by decide),
      rd_wr_same]
    rfl
  · have hword (f : Fld) (hf : f ∈ R.lockBlk) (v : Nat) (u : State) :
        rd (wr (lockB n) f v u) lockUnitB R.LOCK_BROKEN_CNT_COUNT = rd u lockUnitB R.LOCK_BROKEN_CNT_COUNT :=
      rd_wr_ne _ _ _ _ _ _ _ _ (breakCount_ne hn hf).symm
    have hfree : rd (freeLock n s) lockUnitB R.LOCK_BROKEN_CNT_COUNT = rd s lockUnitB R.LOCK_BROKEN_CNT_COUNT :=
      hword R.LOCK_STAT_OWNER (by simp [R.lockBlk]) 0xFFFF s
    rw [rd_raise, rd_bump_same, wrB, hword _ (by simp [R.lockBlk]), hword _ (by simp [R.lockBlk]),
      hword _ (by simp [R.lockBlk]), hfree]

theorem leaseOut_free {s : State} {n : Nat} (h : lockOwner s n = 0xFFFF) : leaseOut n s = s := by
  rw [leaseOut, breakLock_free h, ite_self]

/-- Lock `n` has no lease, or one that has not run out. -/
abbrev Leased (s : State) (n : Nat) : Prop :=
  (tget (0, 0) n s.lockAt).2 = 0 ∨ s.tick + 1 < (tget (0, 0) n s.lockAt).1 + (tget (0, 0) n s.lockAt).2 * ms

theorem leaseOut_leased {s : State} {n : Nat} (h : Leased s n) : leaseOut n s = s :=
  if_neg (by
    simp only [Bool.and_eq_true, bne_iff_ne, decide_eq_true_eq]
    omega)

theorem leaseOut_due {s : State} {n : Nat} (h : (tget (0, 0) n s.lockAt).2 ≠ 0)
    (hd : (tget (0, 0) n s.lockAt).1 + (tget (0, 0) n s.lockAt).2 * ms ≤ s.tick + 1) : leaseOut n s = breakLock n 2 s :=
  if_pos (by simpa using ⟨h, hd⟩)

/-! #### LOCK_ACQUIRE -/

/-- The state in which agent `a` owns lock `n` from now on. -/
def lockTaken (a n : Nat) (s : State) : State :=
  { wr (lockB n) R.LOCK_STAT_OWNER a s with lockAt := tset (0, 0) n (s.tick + 1, rd s (lockB n) R.LOCK_LEASE_MS) s.lockAt }

theorem lockTaken_owner (a : Fin 65536) (n : Nat) (s : State) : lockOwner (lockTaken a n s) n = a :=
  (rd_wr_same s (lockB n) R.LOCK_STAT_OWNER a 0).trans (Nat.mod_eq_of_lt a.isLt)

theorem lockAcquire_eq {s : State} {n : Nat} (a : Nat) (h : leaseOut n s = s) :
    lockAcquire a n s = if !lockAgent a || !lockOpen s a n then s else lockTaken a n s := by
  rw [lockAcquire, h]
  rfl

theorem acquire_free (s : State) (a : Fin 65536) (n : Fin 256) (ha : lockAgent a = true) (h : lockOwner s n = 0xFFFF) :
    Leads (.lockAcquire a n) s fun t =>
      lockOwner t n = a.val ∧ tget (0, 0) n t.lockAt = (s.tick + 1, rd s (lockB n) R.LOCK_LEASE_MS) := by
  refine leads_run (f := lockAcquire a n) rfl ?_
  have heq : lockAcquire a n (begun s) = lockTaken a n (begun s) := by
    have h' : lockOwner (begun s) n = 0xFFFF := h
    rw [lockAcquire_eq a (leaseOut_free h'), if_neg (by simp [ha, lockOpen, h'])]
  rw [lockOwner_done, done_lockAt, heq]
  exact ⟨lockTaken_owner a n _, tget_tset_same (0, 0) n.val (s.tick + 1, rd s (lockB n) R.LOCK_LEASE_MS) s.lockAt⟩

theorem acquire_held (s : State) (a : Fin 65536) (n : Fin 256) (_ : lockAgent a = true) (hl : Leased s n)
    (h : lockOwner s n ≠ 0xFFFF) (hnow : (tget (0, 0) n s.lockAt).1 ≠ s.tick + 1) :
    Leads (.lockAcquire a n) s fun t => lockOwner t n = lockOwner s n ∧ t.lockAt = s.lockAt := by
  refine leads_run (f := lockAcquire a n) rfl ?_
  have heq : lockAcquire a n (begun s) = begun s := by
    have hopen : lockOpen (begun s) a n = false := by
      simp [lockOpen, show lockOwner (begun s) n ≠ 0xFFFF from h, hnow]
    rw [lockAcquire_eq a (leaseOut_leased (s := begun s) hl), if_pos (by simp [hopen])]
  rw [lockOwner_done, done_lockAt, heq]
  exact ⟨rfl, rfl⟩

theorem acquire_lower (s : State) (a : Fin 65536) (n : Fin 256) (ha : lockAgent a = true) (hl : Leased s n)
    (h : a < lockOwner s n) (hnow : (tget (0, 0) n s.lockAt).1 = s.tick + 1) :
    Leads (.lockAcquire a n) s fun t => lockOwner t n = a.val := by
  refine leads_run (f := lockAcquire a n) rfl ?_
  have hopen : lockOpen (begun s) a n = true := by
    simp [lockOpen, show a < lockOwner (begun s) n from h, hnow]
  rw [lockOwner_done, lockAcquire_eq a (leaseOut_leased (s := begun s) hl), if_neg (by simp [ha, hopen])]
  exact lockTaken_owner a n _

theorem acquire_denied (s : State) (a : Fin 65536) (n : Fin 256) (ha : lockAgent a = false) (hl : Leased s n) :
    Leads (.lockAcquire a n) s fun t => t.regs = s.regs ∧ t.lockAt = s.lockAt := by
  refine leads_run (f := lockAcquire a n) rfl ?_
  rw [done_regs, done_lockAt, lockAcquire_eq a (leaseOut_leased (s := begun s) hl), if_pos (by simp [ha])]
  exact ⟨rfl, rfl⟩

/-! #### LOCK_RELEASE and LOCK_CLEAR_BROKEN -/

theorem lockReject_owner (a n bit : Nat) (s : State) : lockOwner (lockReject a n bit s) n = lockOwner s n := by
  rw [lockOwner, lockReject, rd_raise]
  exact rd_wr_block (lockB n) (by decide) _ s

theorem lockReject_broken (a n bit : Nat) (s : State) :
    rdB (lockReject a n bit s) (lockB n) R.LOCK_STAT_BROKEN = rdB s (lockB n) R.LOCK_STAT_BROKEN := by
  rw [rdB, lockReject, rd_raise]
  exact congrArg (· == 1) (rd_wr_block (lockB n) (by decide) _ s)

theorem lockReject_rejected (a n bit : Nat) (s : State) :
    rdB (lockReject a n bit s) (lockB n) R.LOCK_STAT_WRITE_REJECTED = true := by
  rw [rdB, lockReject, rd_raise]
  exact rdB_wrB_same _ _ _ (by decide) s

theorem release_owner (s : State) (a : Fin 65536) (n : Fin 256) (ha : lockAgent a = true) (hl : Leased s n)
    (h : lockOwner s n = a.val) : Leads (.lockRelease a n) s fun t =>
      lockOwner t n = 0xFFFF ∧ rdB t (lockB n) R.LOCK_STAT_BROKEN = rdB s (lockB n) R.LOCK_STAT_BROKEN := by
  refine leads_run (f := lockRelease a n) rfl ?_
  have heq : lockRelease a n (begun s) = freeLock n (begun s) := by
    rw [lockRelease, leaseOut_leased (s := begun s) hl]
    simp [ha, show lockOwner (begun s) n = a.val from h]
  rw [lockOwner_done, rdB_done, heq]
  exact ⟨freeLock_owner n _, freeLock_broken n _⟩

theorem release_other (s : State) (a : Fin 65536) (n : Fin 256) (ha : lockAgent a = true) (hl : Leased s n)
    (h : lockOwner s n ≠ a.val) : Leads (.lockRelease a n) s fun t =>
      lockOwner t n = lockOwner s n ∧ rdB t (lockB n) R.LOCK_STAT_WRITE_REJECTED = true := by
  refine leads_run (f := lockRelease a n) rfl ?_
  have heq : lockRelease a n (begun s) = lockReject a n 8 (begun s) := by
    rw [lockRelease, leaseOut_leased (s := begun s) hl]
    simp [ha, show lockOwner (begun s) n ≠ a.val from h]
  rw [lockOwner_done, rdB_done, heq]
  exact ⟨lockReject_owner .., lockReject_rejected ..⟩

theorem clearBroken_owner (s : State) (a : Fin 65536) (n : Fin 256) (ha : lockAgent a = true) (hl : Leased s n)
    (h : lockOwner s n = a.val) : Leads (.lockClearBroken a n) s fun t =>
      rdB t (lockB n) R.LOCK_STAT_BROKEN = false ∧ lockOwner t n = a.val := by
  refine leads_run (f := lockClear a n) rfl ?_
  have heq : lockClear a n (begun s) = wrB (lockB n) R.LOCK_STAT_BROKEN false (begun s) := by
    rw [lockClear, leaseOut_leased (s := begun s) hl]
    simp [ha, show lockOwner (begun s) n = a.val from h]
  rw [lockOwner_done, rdB_done, heq]
  exact ⟨rdB_wrB_same _ _ _ (by decide) _, (rd_wr_block (lockB n) (by decide) _ _).trans h⟩

theorem clearBroken_other (s : State) (a : Fin 65536) (n : Fin 256) (ha : lockAgent a = true) (hl : Leased s n)
    (h : lockOwner s n ≠ a.val) : Leads (.lockClearBroken a n) s fun t =>
      rdB t (lockB n) R.LOCK_STAT_BROKEN = rdB s (lockB n) R.LOCK_STAT_BROKEN ∧
      rdB t (lockB n) R.LOCK_STAT_WRITE_REJECTED = true := by
  refine leads_run (f := lockClear a n) rfl ?_
  have heq : lockClear a n (begun s) = lockReject a n 9 (begun s) := by
    rw [lockClear, leaseOut_leased (s := begun s) hl]
    simp [ha, show lockOwner (begun s) n ≠ a.val from h]
  rw [rdB_done, rdB_done, heq]
  exact ⟨lockReject_broken .., lockReject_rejected ..⟩

/-! #### Broken locks -/

theorem force_leads (s : State) (a : Fin 65536) (n : Fin 256) (ha : a = 0 ∨ a = 0x200) (h : lockOwner s n ≠ 0xFFFF) :
    Leads (.lockForce a n) s fun t => lockOwner t n = 0xFFFF ∧ rdB t (lockB n) R.LOCK_STAT_BROKEN = true ∧
      rd t (lockB n) R.LOCK_STAT_CAUSE = 3 ∧ rd t (lockB n) R.LOCK_PREV_OWNER = lockOwner s n % 65536 ∧
      rd t lockUnitB R.LOCK_BROKEN_CNT_COUNT = satU R.LOCK_BROKEN_CNT_COUNT.w
        (rd s lockUnitB R.LOCK_BROKEN_CNT_COUNT + 1) % 2 ^ R.LOCK_BROKEN_CNT_COUNT.w := by
  have hf : (a.val == 0 || a.val == 0x200) = true := by rcases ha with rfl | rfl <;> rfl
  refine leads_run (f := when_ (a.val == 0 || a.val == 0x200) (breakLock n 3)) rfl ?_
  rw [lockOwner_done, rdB_done, rd_done, rd_done, rd_done, hf]
  exact breakLock_held (s := begun s) n.isLt h 3

theorem force_denied (s : State) (a : Fin 65536) (n : Fin 256) (h0 : a ≠ 0) (h2 : a ≠ 0x200) :
    Leads (.lockForce a n) s fun t => t.regs = s.regs ∧ t.lockAt = s.lockAt := by
  have hf : (a.val == 0 || a.val == 0x200) = false := by
    simp only [Bool.or_eq_false_iff, beq_eq_false_iff_ne]
    exact ⟨fun h => h0 (Fin.ext h), fun h => h2 (Fin.ext h)⟩
  refine leads_run (f := when_ (a.val == 0 || a.val == 0x200) (breakLock n 3)) rfl ?_
  rw [done_regs, done_lockAt, hf]
  exact ⟨rfl, rfl⟩

theorem leaseExpired_leads (s : State) (n : Fin 256) (h : lockOwner s n ≠ 0xFFFF)
    (h0 : (tget (0, 0) n s.lockAt).2 ≠ 0)
    (hd : (tget (0, 0) n s.lockAt).1 + (tget (0, 0) n s.lockAt).2 * ms ≤ s.tick + 1) :
    Leads (.lockLeaseExpired n) s fun t => lockOwner t n = 0xFFFF ∧ rdB t (lockB n) R.LOCK_STAT_BROKEN = true ∧
      rd t (lockB n) R.LOCK_STAT_CAUSE = 2 ∧ rd t (lockB n) R.LOCK_PREV_OWNER = lockOwner s n % 65536 ∧
      rd t lockUnitB R.LOCK_BROKEN_CNT_COUNT = satU R.LOCK_BROKEN_CNT_COUNT.w
        (rd s lockUnitB R.LOCK_BROKEN_CNT_COUNT + 1) % 2 ^ R.LOCK_BROKEN_CNT_COUNT.w := by
  refine leads_run (f := leaseOut n) rfl ?_
  rw [lockOwner_done, rdB_done, rd_done, rd_done, rd_done, leaseOut_due (s := begun s) h0 hd]
  exact breakLock_held (s := begun s) n.isLt h 2
end Sys2Proof.PowerModes
end

section
namespace Sys2Proof.PowerModes
open Sys2Proof Sys2Proof.Machine Sys2Proof.Safety Sys2Proof.Scope

/-! ### Crossings (R708)

Only a reset and its answers touch the crossings; the memory requests that a crossing lets through again do not. -/

section MemoryRequests
variable (s : State)

@[simp] theorem rateFlush_crosses (key : Nat) : (rateFlush key s).crosses = s.crosses := by
  simp only [rateFlush]
  split <;> simp [setRate]
@[simp] theorem raiseRate_crosses (key code ch arg lo w per : Nat) :
    (raiseRate key code ch arg lo w s per).crosses = s.crosses := by simp [raiseRate, setRate]
@[simp] theorem modDdr_crosses (d m : Nat) (f : DdrSt → DdrSt) : (modDdr d m f s).crosses = s.crosses := rfl
@[simp] theorem modDie_crosses (d : Nat) (f : DieSt → DieSt) : (modDie d f s).crosses = s.crosses := rfl
@[simp] theorem bump_crosses (b : Nat) (f : Fld) (k i : Nat) : (bump b f s k i).crosses = s.crosses := rfl
@[simp] theorem wrB_crosses (b : Nat) (f : Fld) (v : Bool) (i : Nat) : (wrB b f v s i).crosses = s.crosses := rfl
@[simp] theorem initCheck_crosses (d : Nat) : (initCheck d s).crosses = s.crosses := by
  simp only [initCheck]
  split <;> simp
@[simp] theorem initFor_crosses (g : Nat) : (initFor g s).crosses = s.crosses := by
  simp only [initFor]
  split <;> simp
@[simp] theorem wake_crosses (d m : Nat) : (wake d m s).crosses = s.crosses :=
  when_keeps State.crosses _ _ _ rfl
@[simp] theorem access_crosses (g : Nat) (l : Loc) (r : DramReq) : (access g l r s).crosses = s.crosses := by
  simp [access, touchPage]
@[simp] theorem refreshWq_crosses (d m : Nat) : (refreshWq d m s).crosses = s.crosses := by
  simp only [refreshWq]
  split
  · rfl
  · exact when_keeps State.crosses _ _ _ rfl
@[simp] theorem queueWrite_crosses (g : Nat) (l : Loc) : (queueWrite g l s).crosses = s.crosses := by
  simp only [queueWrite]
  split <;> simp
@[simp] theorem issueWrite_crosses (g d m : Nat) : (issueWrite g d m s).crosses = s.crosses := by simp [issueWrite]
@[simp] theorem recordErr_crosses (l : Loc) (a r type dev : Nat) : (recordErr l a r type dev s).crosses = s.crosses := by
  simp [recordErr]
@[simp] theorem spareChanged_crosses : (spareChanged s).crosses = s.crosses := (spareChanged_quiet s).2.2.2.2.2.1
@[simp] theorem rankThreshold_crosses (d m r : Nat) : (rankThreshold d m r s).crosses = s.crosses := by
  simp only [rankThreshold]
  split
  · simp [abandonMigration, spareSpent, refreshRanksFree]
  · split
    · simp [startMigration]
    · simp
@[simp] theorem firstUe_crosses (d m r : Nat) : (firstUe d m r s).crosses = s.crosses := by
  simp only [firstUe]
  split <;> simp
@[simp] theorem poisonWritten_crosses (g : Nat) (l : Loc) (r : Nat) (old : Bool) :
    (poisonWritten g l r old s).crosses = s.crosses := by simp [poisonWritten]
@[simp] theorem uncorrectable_crosses (g : Nat) (l : Loc) (r : Nat) : (uncorrectable g l r s).crosses = s.crosses := by
  simp [uncorrectable, markPoison]
@[simp] theorem recordRow_crosses (l : Loc) (r : Nat) : (recordRow l r s).crosses = s.crosses := by
  simp only [recordRow]
  split <;> simp
@[simp] theorem setBucket_crosses (d m r v : Nat) : (setBucket d m r v s).crosses = s.crosses :=
  when_keeps State.crosses _ _ _ (rankThreshold_crosses ..)
@[simp] theorem correctable_crosses (a : Nat) (l : Loc) (r dev : Nat) : (correctable a l r dev s).crosses = s.crosses := by
  simp only [correctable, setBucket_crosses]
  exact (when_keeps State.crosses _ _ _ (recordRow_crosses ..)).trans (by simp)
@[simp] theorem writeGranule_crosses (r : DramReq) (i g : Nat) : (writeGranule r i g s).crosses = s.crosses := by
  simp only [writeGranule]
  split
  · rfl
  split
  · simp
  split
  · simp
  · split <;> simp
@[simp] theorem readGranule_crosses (r : DramReq) (i g : Nat) : (readGranule r i g s).crosses = s.crosses := by
  unfold readGranule
  split
  · rfl
  extract_lets l b s1 s2
  have h1 : s1.crosses = s.crosses := by
    unfold s1
    split <;> simp
  have h2 : s2.crosses = s.crosses := (access_crosses ..).trans h1
  clear_value s2
  split
  · exact h2
  · split <;> simp [h2]
@[simp] theorem outOfRange_crosses (gs : List Nat) : (outOfRange gs s).crosses = s.crosses := by
  unfold outOfRange
  split
  · rfl
  · exact (raiseRate_crosses ..).trans rfl
theorem doAccess_crosses (r : DramReq) : (doAccess r s).crosses = s.crosses := by
  have hwrite (l : List (Nat × Nat)) (u : State) : (each l (fun p => writeGranule r p.1 p.2) u).crosses = u.crosses :=
    each_keeps State.crosses (fun p : Nat × Nat => writeGranule r p.1 p.2) (fun p u => writeGranule_crosses u r p.1 p.2) l u
  have hread (l : List (Nat × Nat)) (u : State) : (each l (fun p => readGranule r p.1 p.2) u).crosses = u.crosses :=
    each_keeps State.crosses (fun p : Nat × Nat => readGranule r p.1 p.2) (fun p u => readGranule_crosses u r p.1 p.2) l u
  unfold doAccess
  extract_lets s1 a s2 bad s3 bad'
  have h2 : s2.crosses = s.crosses := outOfRange_crosses ..
  have h3 : s3.crosses = s.crosses := (hread _ s2).trans h2
  clear_value s2 s3 bad'
  split
  · exact (hwrite _ s2).trans h2
  split
  · exact (raiseRate_crosses ..).trans h3
  · split
    · exact h3
    · unfold apertureAnswer
      split
      · exact (raise_crosses ..).trans h3
      · exact h3
theorem serveReq_crosses (r : DramReq) : (serveReq r s).crosses = s.crosses := by
  have hpass : (passSwitch r s).crosses = s.crosses := by
    simp only [passSwitch]
    split <;> rfl
  have hdo (q : DramReq) (u : State) : (doRequest q u).crosses = u.crosses := by
    simp only [doRequest]
    split
    · simp only [aptRefuse, aptFault]
      split <;> simp
    · exact doAccess_crosses u q
  simp only [serveReq]
  split
  · rfl
  · split <;> simp [hdo, hpass]

theorem serveDram_crosses : (serveDram s).crosses = s.crosses :=
  each_keeps State.crosses _ (fun _ u => each_keeps State.crosses serveReq (fun r u => serveReq_crosses u r) _ u) _ s

end MemoryRequests

theorem done_crossUp (f : State → State) (s : State) (l i : Nat) : crossUp (done f s) l i = crossUp (f (begun s)) l i :=
  congrArg (fun t => (tget ({} : Cross) (64 * l + i) t).since == 0) (done_crosses f s)

theorem resync_leads (s : State) (l : Fin 5) (i : Fin 64) : Leads (.cdcResync l i) s fun t => crossUp t l i = true := by
  refine leads_run (f := resync l i) rfl ?_
  have hc : (resync l i (begun s)).crosses = terase (64 * l + i) s.crosses := by
    simp only [resync]
    split
    · rfl
    · exact serveDram_crosses _
  rw [done_crossUp, crossUp, hc, tget_terase, if_pos rfl]
  rfl

theorem resyncRetry_leads (s : State) (l : Fin 5) (i : Fin 64) (x : Cross)
    (hx : tget {} (64 * l + i) s.crosses = x) (h0 : x.since ≠ 0) (hd : x.since + 2 * us ≤ s.tick + 1)
    (hf : x.failed = false) : Leads (.cdcResyncRetry l i) s fun t => crossUp t l i = false ∧
      tget {} (64 * l + i) t.crosses = { x with failed := true } ∧
      rd t fabB R.HUB_CDC_RESYNC_FAIL_CNT_COUNT = satU R.HUB_CDC_RESYNC_FAIL_CNT_COUNT.w
        (rd s fabB R.HUB_CDC_RESYNC_FAIL_CNT_COUNT + 1) % 2 ^ R.HUB_CDC_RESYNC_FAIL_CNT_COUNT.w := by
  refine leads_run (f := resyncRetry l i) rfl ?_
  have heq : resyncRetry l i (begun s) = raise 0x0F04 noCh (l + 256 * i) (bump fabB R.HUB_CDC_RESYNC_FAIL_CNT_COUNT
      { begun s with crosses := tset {} (64 * l + i) { x with failed := true } s.crosses }) := by
    have hx' : tget {} (64 * l.val + i.val) (begun s).crosses = x := hx
    rw [resyncRetry, if_neg (by simp [hx, h0, hf]; exact hd), hx']
    rfl
  have hcross : tget {} (64 * l.val + i.val) (resyncRetry l i (begun s)).crosses = { x with failed := true } := by
    rw [heq, raise_crosses]
    exact tget_tset_same ..
  rw [done_crossUp, done_crosses, rd_done, crossUp, hcross, heq, rd_raise, rd_bump_same]
  exact ⟨by simpa using h0, rfl, rfl⟩
end Sys2Proof.PowerModes
end

section
namespace Sys2Proof.PowerModes
open Sys2Proof Sys2Proof.Machine Sys2Proof.Safety Sys2Proof.Scope

/-! ### What the summaries leave of a die's registers

A change in one die ends with the device's own summaries: HUB_DEGRADE, HUB_REPLACE, the shares of the die's bandwidth. They
are written in the hub's blocks, and leave the blocks of the dies, the modules and the crossings alone. -/

/-- The key lies in the block of a Reach die or above, and is no SAFE_DARK of a channel. -/
def dieKey (k : Nat) : Prop := 0x2000000 ≤ k / 32 ∧ k % (32 * 0x4000) ≠ 32 * 4 + 19

/-- The states agree in the registers of the dies, their modules, their crossings and their exits from reset. -/
def DieKept (s t : State) : Prop :=
  (∀ (b : Nat) (g : Fld) (i : Nat), dieKey (g.key b i) → rd t b g i = rd s b g i)
    ∧ t.d2ds = s.d2ds ∧ t.crosses = s.crosses ∧ leftAts t.dst = leftAts s.dst

theorem DieKept.refl (s : State) : DieKept s s := ⟨fun _ _ _ _ => rfl, rfl, rfl, rfl⟩

theorem DieKept.trans {s t u : State} (h : DieKept s t) (k : DieKept t u) : DieKept s u := by
  obtain ⟨h1, h2, h3, h4⟩ := h
  obtain ⟨k1, k2, k3, k4⟩ := k
  exact ⟨fun b g i hg => (k1 b g i hg).trans (h1 b g i hg), k2.trans h2, k3.trans h3, k4.trans h4⟩

theorem Still.dieKept {s t : State} (h : Still s t)
    (hr : ∀ (b : Nat) (g : Fld) (i : Nat), dieKey (g.key b i) → rd t b g i = rd s b g i) : DieKept s t := by
  obtain ⟨-, -, -, -, hd, hc, hl⟩ := h
  exact ⟨hr, hd, hc, hl⟩

theorem each_dieKept {α : Type} (f : α → State → State) (l : List α) (h : ∀ a ∈ l, ∀ s, DieKept s (f a s)) (s : State) :
    DieKept s (each l f s) :=
  each_holds (DieKept s) f l (fun a ha t ht => ht.trans (h a ha t)) s (DieKept.refl s)

theorem key_ne_dieKey {k j : Nat} (h : ¬ dieKey k) (hj : dieKey j) : k ≠ j := fun e => h (e ▸ hj)

theorem not_dieKey_of_low {k : Nat} (h : k < 0x2000000 * 32) : ¬ dieKey k := by
  simp only [dieKey]
  omega

theorem wr_dieKept {b : Nat} {f : Fld} {i : Nat} (h : ¬ dieKey (f.key b i)) (v : Nat) (s : State) :
    DieKept s (wr b f v s i) :=
  ⟨fun _ _ _ hg => rd_wr_ne _ _ _ _ _ _ _ _ (key_ne_dieKey h hg), rfl, rfl, rfl⟩

theorem raise_dieKept (code ch arg : Nat) (s : State) : DieKept s (raise code ch arg s) :=
  Still.dieKept (by simp) fun b g i _ => rd_raise code ch arg s b g i

theorem bumpSnap_dieKept (s : State) : DieKept s (bumpSnap s) :=
  Still.dieKept (by simp) fun b g i hg => rd_bumpSnap s b g i (key_ne_dieKey (not_dieKey_of_low (by decide)) hg)

theorem setMode_dieKept (m : Mode) (cause : Nat) (s : State) : DieKept s (setMode m cause s) := by
  obtain ⟨-, -, -, -, hd, hc, hl⟩ := setMode_still m cause s
  refine ⟨fun b g i hg => rd_setMode_ne m cause s b g i ?_ ?_ ?_ (fun n => ?_) ?_, hd, hc, hl⟩
  · exact key_ne_dieKey (not_dieKey_of_low (by decide)) hg
  · exact key_ne_dieKey (not_dieKey_of_low (by decide)) hg
  · exact key_ne_dieKey (not_dieKey_of_low (by decide)) hg
  · refine key_ne_dieKey ?_ hg
    simp only [dieKey, Fld.key, R.CH_STATUS_SAFE_DARK, chB]
    omega
  · simp only [dieKey, hkKey, hkB] at *
    omega

theorem setDegrade_dieKept {f : Fld} (hf : ¬ dieKey (f.key hubB 0)) (v : Bool) (s : State) :
    DieKept s (setDegrade f v s) := by
  unfold setDegrade
  split
  · exact DieKept.refl s
  extract_lets s1 s2
  have h2 : DieKept s s2 := ((wr_dieKept hf (b2n v) s).trans (raise_dieKept ..)).trans (bumpSnap_dieKept _)
  clear_value s2
  split
  · exact h2.trans (setMode_dieKept ..)
  split
  · exact h2.trans (setMode_dieKept ..)
  · exact h2

theorem setReplace_dieKept {f : Fld} (hf : ¬ dieKey (f.key healthB 0)) (v : Bool) (s : State) :
    DieKept s (setReplace f v s) := by
  unfold setReplace changeReplace
  extract_lets whole t up dies
  have ht : DieKept s t := wr_dieKept hf (b2n v) s
  clear_value t
  split
  · exact ht
  · exact ((ht.trans (raise_dieKept ..)).trans (bumpSnap_dieKept _)).trans
      (setDegrade_dieKept (not_dieKey_of_low (by decide)) _ _)

theorem refreshOffline_dieKept (s : State) : DieKept s (refreshOffline s) :=
  setDegrade_dieKept (not_dieKey_of_low (by decide)) _ s

theorem refreshSqueeze_regs (d : Nat) (s : State) : (refreshSqueeze d s).regs = s.regs := by
  unfold refreshSqueeze
  extract_lets excess hs sh
  refine each_keeps State.regs _ (fun p u => ?_) _ s
  exact when_keeps State.regs _ _ _ (raise_regs ..)

/-- The block of a die's shares in the hub lies below the dies' own. -/
theorem shares_not_dieKey {d : Nat} (hd : d < 4) {f : Fld} (hf : f.off < 0x40 ∧ f.lo < 32) :
    ¬ dieKey (f.key (slDieB d) 0) :=
  not_dieKey_of_low (by simp only [Fld.key, slDieB]; omega)

theorem refreshDie_dieKept {d : Nat} (hd : d < 4) (s : State) : DieKept s (refreshDie d s) := by
  have hw (f : Fld) (hf : f.off < 0x40 ∧ f.lo < 32) (v : Nat) (u : State) : DieKept u (wr (slDieB d) f v u) :=
    wr_dieKept (shares_not_dieKey hd hf) v u
  refine Still.dieKept (refreshDie_quiet d s) fun b g i hg => ?_
  unfold refreshDie
  extract_lets b' s1 s2 s3 s4
  have h1 : rd s1 b g i = rd s b g i := rd_of_regs (refreshSqueeze_regs d s) b g i
  have h2 : DieKept s1 s2 :=
    (hw R.SLUICE_DIE_ELASTIC_MBPS (by decide) _ s1).trans (hw R.SLUICE_DIE_RES_MBPS (by decide) _ _)
  have h3 : DieKept s2 s3 :=
    (hw R.SLUICE_DIE_LINK_OUT_MBPS (by decide) _ s2).trans (hw R.SLUICE_DIE_LINK_IN_MBPS (by decide) _ _)
  have h4 : DieKept s3 s4 :=
    (hw R.SLUICE_DIE_SLOT_USED_KITEMS (by decide) _ s3).trans (hw R.SLUICE_DIE_POOL_USED_UNITS (by decide) _ _)
  have h5 : DieKept s4 (wrB b' R.SLUICE_DIE_STATUS_OVER (decide (resCap s4 d < resTotal s4 d)) s4) :=
    hw R.SLUICE_DIE_STATUS_OVER (by decide) _ s4
  obtain ⟨hr, -⟩ := ((h2.trans h3).trans h4).trans h5
  exact (hr b g i hg).trans h1

theorem refreshPeak_quiet {d : Nat} (hd : d < 4) : Quiet (refreshPeak d) := fun s => by
  have hk : shielded (R.SLUICE_DIE_PEAK_MBPS.key (slDieB d) 0) = false :=
    (by decide : ∀ d < 4, shielded (R.SLUICE_DIE_PEAK_MBPS.key (slDieB d) 0) = false) d hd
  simp [refreshPeak, hk]

theorem capacityFell_quiet {d : Nat} (hd : d < 4) : Quiet (capacityFell d) := fun s => by
  unfold capacityFell
  extract_lets s1
  have h1 : Still s s1 := (refreshPeak_quiet hd s).trans (each_quiet _ _ refreshDie_quiet _)
  exact h1.trans (by simp)

theorem capacityFell_dieKept {d : Nat} (hd : d < 4) (s : State) : DieKept s (capacityFell d s) := by
  unfold capacityFell
  extract_lets s1
  have h1 : DieKept s s1 := (wr_dieKept (shares_not_dieKey hd (by decide)) _ s).trans
    (each_dieKept refreshDie dies (fun d hd u => refreshDie_dieKept (List.mem_range.mp hd) u) _)
  exact h1.trans (raise_dieKept ..)
end Sys2Proof.PowerModes
end

section
namespace Sys2Proof.PowerModes
open Sys2Proof Sys2Proof.Machine Sys2Proof.Safety Sys2Proof.Scope

/-! ### Die-link modules (R693 to R695) -/

theorem done_d2d (f : State → State) (s : State) (d k : Nat) : (done f s).d2d d k = (f (begun s)).d2d d k :=
  congrArg (tget ({} : D2dSt) (2 * d + k)) (done_d2ds f s)

theorem modState_done (f : State → State) (s : State) (d k : Nat) : modState (done f s) d k = modState (f (begun s)) d k :=
  rd_done ..

theorem d2d_modD2d (d k : Nat) (f : D2dSt → D2dSt) (s : State) : (modD2d d k f s).d2d d k = f (s.d2d d k) :=
  tget_tset_same ..

theorem modState_setMod (d k v : Nat) (s : State) : modState (setMod d k v s) d k = v % 4 := by
  have hw : (modFld k).w = 2 := by
    unfold modFld
    split <;> rfl
  rw [modState, setMod, rd_wr_same, hw]
  rfl

/-! #### Errors of a lane -/

/-- The counter of a module's errors. -/
def crcCount (k : Nat) : Fld := if k = 0 then R.HUB_D2D_CRC_CNT0_COUNT else R.HUB_D2D_CRC_CNT1_COUNT

theorem d2dError_counted {s : State} {d k : Nat} (h : 2 ≤ modState s d k) (e l : Nat) :
    rd (d2dError d k e l s) (d2dB d) (crcCount k) =
      satU (crcCount k).w (rd s (d2dB d) (crcCount k) + 1) % 2 ^ (crcCount k).w ∧
      s.tick ∈ tget [] (2 * l + e) ((d2dError d k e l s).d2d d k).errs := by
  rw [d2dError, if_neg (Nat.not_lt.mpr h)]
  refine ⟨rd_bump_same s (d2dB d) (crcCount k) 1 0, ?_⟩
  rw [d2d_modD2d, tget_tset_same]
  exact List.mem_cons_self ..

theorem error0_leads (s : State) (d : Fin 4) (e : Fin 2) (l : Fin 68) (h : 2 ≤ modState s d 0) :
    Leads (.d2dCrcError d 0 e l) s fun t => rd t (d2dB d) R.HUB_D2D_CRC_CNT0_COUNT = satU R.HUB_D2D_CRC_CNT0_COUNT.w
      (rd s (d2dB d) R.HUB_D2D_CRC_CNT0_COUNT + 1) % 2 ^ R.HUB_D2D_CRC_CNT0_COUNT.w ∧
      s.tick ∈ tget [] (2 * l + e) (t.d2d d 0).errs := by
  refine leads_run (f := d2dError d 0 e l) rfl ?_
  rw [rd_done, done_d2d]
  exact d2dError_counted (k := 0) (s := begun s) h e l

theorem error1_leads (s : State) (d : Fin 4) (e : Fin 2) (l : Fin 68) (h : 2 ≤ modState s d 1) :
    Leads (.d2dCrcError d 1 e l) s fun t => rd t (d2dB d) R.HUB_D2D_CRC_CNT1_COUNT = satU R.HUB_D2D_CRC_CNT1_COUNT.w
      (rd s (d2dB d) R.HUB_D2D_CRC_CNT1_COUNT + 1) % 2 ^ R.HUB_D2D_CRC_CNT1_COUNT.w ∧
      s.tick ∈ tget [] (2 * l + e) (t.d2d d 1).errs := by
  refine leads_run (f := d2dError d 1 e l) rfl ?_
  rw [rd_done, done_d2d]
  exact d2dError_counted (k := 1) (s := begun s) h e l

/-! #### Retrains -/

/-- A module that is UP is being repaired, and its errors are forgotten. -/
theorem startRepair_up {s : State} {d k : Nat} (h : modState s d k = 2) :
    modState (startRepair d k s) d k = 3 ∧ ((startRepair d k s).d2d d k).errs = [] := by
  rw [startRepair, if_pos h]
  refine ⟨modState_setMod .., ?_⟩
  exact congrArg D2dSt.errs (d2d_modD2d d k (fun x => { x with errs := [] }) s)

theorem d2dRetrain_leads (s : State) (d : Fin 4) (k : Fin 2) (h : modState s d k = 2)
    (he : (s.d2d d k).errs.any (fun e => 16 < (e.2.filter (fun x => s.tick < x + ms)).length) = true) :
    Leads (.d2dRetrain d k) s fun t => modState t d k = 3 ∧ (t.d2d d k).errs = [] := by
  refine leads_run (f := d2dRetrain d k) rfl ?_
  have heq : d2dRetrain d k (begun s) = startRepair d k (begun s) := if_pos he
  rw [modState_done, done_d2d, heq]
  exact startRepair_up (s := begun s) h

theorem d2dRetrain_kept (s : State) (d : Fin 4) (k : Fin 2)
    (he : (s.d2d d k).errs.all (fun e => (e.2.filter (fun x => s.tick < x + ms)).length ≤ 16) = true) :
    Leads (.d2dRetrain d k) s fun t => t.regs = s.regs ∧ t.d2ds = s.d2ds := by
  refine leads_run (f := d2dRetrain d k) rfl ?_
  have heq : d2dRetrain d k (begun s) = begun s := by
    refine if_neg fun hany => ?_
    obtain ⟨e, hmem, hlt⟩ := List.any_eq_true.mp hany
    have hle := List.all_eq_true.mp he e hmem
    simp only [decide_eq_true_eq] at hlt hle
    exact absurd hlt (Nat.not_lt.mpr hle)
  rw [done_regs, done_d2ds, heq]
  exact ⟨rfl, rfl⟩

theorem d2dRetrainCmd_leads (s : State) (d : Fin 4) (k : Fin 2) (h : modState s d k = 2) :
    Leads (.d2dRetrainCmd d k) s fun t => modState t d k = 3 := by
  refine leads_run (f := startRepair d k) rfl ?_
  rw [modState_done]
  exact (startRepair_up (s := begun s) h).1

theorem moduleRetry_leads (s : State) (d : Fin 4) (k : Fin 2) (h : modState s d k = 0) (h0 : (s.d2d d k).downAt ≠ 0)
    (hd : (s.d2d d k).downAt + second ≤ s.tick + 1) : Leads (.d2dModuleRetry d k) s fun t => modState t d k = 1 := by
  refine leads_run (f := moduleRetry d k) rfl ?_
  have heq : moduleRetry d k (begun s) = setMod d k 1 (begun s) := by
    have h' : modState (begun s) d k = 0 := h
    have hd' : ((begun s).d2d d k).downAt ≠ 0 ∧ ((begun s).d2d d k).downAt + second ≤ (begun s).tick + 1 := ⟨h0, hd⟩
    refine if_neg ?_
    simp only [h', Bool.or_eq_true, decide_eq_true_eq, bne_self_eq_false, Bool.false_eq_true, false_or]
    omega
  rw [modState_done, heq]
  exact modState_setMod ..

/-! #### The end of a retrain -/

/-- The key lies in the link word of die `d`. -/
abbrev linkKey (d k : Nat) : Prop := k / 32 = d2dB d

theorem linkKey_offMode (d : Nat) : OffMode (linkKey d) := fun k hk => by
  simp only [linkKey, d2dB, dieB] at hk
  omega

/-- The fields of the link word of which a module's state is made up. -/
def moduleFlds : List Fld := [modFld 0, modFld 1, spareFld 0 0, spareFld 0 1, spareFld 1 0, spareFld 1 1]

theorem moduleFlds_key {d : Nat} (hd : d < 4) {f : Fld} (hf : f ∈ moduleFlds) :
    shielded (f.key (d2dB d) 0) = true ∧ linkKey d (f.key (d2dB d) 0) :=
  (by decide : ∀ d < 4, ∀ f ∈ moduleFlds, shielded (f.key (d2dB d) 0) = true ∧ linkKey d (f.key (d2dB d) 0)) d hd f hf

theorem modFld_mem (k : Nat) : modFld k ∈ moduleFlds := by
  unfold modFld
  split
  · exact List.mem_cons_self ..
  · exact List.mem_cons_of_mem _ (List.mem_cons_self ..)

theorem spareFld_mem (k dir : Nat) : spareFld k dir ∈ moduleFlds := by
  unfold spareFld
  split <;> simp [moduleFlds, spareFld]

theorem moduleFlds_off {f : Fld} (hf : f ∈ moduleFlds) : f.off = 0 := (by decide : ∀ f ∈ moduleFlds, f.off = 0) f hf

theorem modFld_ne_spareFld (k j dir : Nat) : (modFld k).lo ≠ (spareFld j dir).lo := by
  unfold modFld spareFld
  split <;> split <;> decide

theorem rd_of_linkKey {e : Nat → Prop} {d : Nat} (hd : d < 4) {s t : State} (h : Apart (linkKey d) e s t) {f : Fld}
    (hf : f ∈ moduleFlds) : rd t (d2dB d) f = rd s (d2dB d) f :=
  rd_of_only h.1 (moduleFlds_key hd hf).1 (moduleFlds_key hd hf).2

section Repair
variable {d k dir : Nat} (hd : d < 4)
include hd

theorem laneRepaired_eq (s : State) {g : Fld} (hg : g ∈ moduleFlds) : rd (laneRepaired d k dir s) (d2dB d) g =
    rd (wr (d2dB d) (spareFld k dir) (rd s (d2dB d) (spareFld k dir) - 1) (bump (d2dB d) R.HUB_D2D_REPAIR_CNT_COUNT s))
      (d2dB d) g := by
  have hshown (u : State) : rd (spareChanged u) (d2dB d) g = rd u (d2dB d) g :=
    rd_of_shieldedRegs (spareChanged_quiet u).1 (moduleFlds_key hd hg).1
  unfold laneRepaired
  extract_lets left s1 s2
  rw [hshown, rd_raise]
  rfl

theorem laneRepaired_same (s : State) :
    rd (laneRepaired d k dir s) (d2dB d) (spareFld k dir) = (rd s (d2dB d) (spareFld k dir) - 1) % 8 := by
  have hw : (spareFld k dir).w = 3 := by
    unfold spareFld
    split <;> rfl
  rw [laneRepaired_eq hd s (spareFld_mem k dir), rd_wr_same, hw]
  rfl

theorem laneRepaired_other (s : State) {g : Fld} (hg : g ∈ moduleFlds) (h : (spareFld k dir).lo ≠ g.lo) :
    rd (laneRepaired d k dir s) (d2dB d) g = rd s (d2dB d) g := by
  have hcount : R.HUB_D2D_REPAIR_CNT_COUNT.off * 32 + R.HUB_D2D_REPAIR_CNT_COUNT.lo ≠ g.off * 32 + g.lo :=
    (by decide : ∀ g ∈ moduleFlds,
      R.HUB_D2D_REPAIR_CNT_COUNT.off * 32 + R.HUB_D2D_REPAIR_CNT_COUNT.lo ≠ g.off * 32 + g.lo) g hg
  rw [laneRepaired_eq hd s hg, rd_wr_block _ (by rw [moduleFlds_off (spareFld_mem k dir), moduleFlds_off hg]; omega), bump,
    rd_wr_block _ hcount]

theorem lanesRepaired_same (l : List Nat) (s : State) (h4 : rd s (d2dB d) (spareFld k dir) ≤ 4)
    (hl : l.length ≤ rd s (d2dB d) (spareFld k dir)) :
    rd (each l (fun _ => laneRepaired d k dir) s) (d2dB d) (spareFld k dir) =
      rd s (d2dB d) (spareFld k dir) - l.length := by
  induction l generalizing s with
  | nil => rfl
  | cons a t ih =>
    rw [List.length_cons] at hl ⊢
    have hone : rd (laneRepaired d k dir s) (d2dB d) (spareFld k dir) = rd s (d2dB d) (spareFld k dir) - 1 :=
      (laneRepaired_same hd s).trans (Nat.mod_eq_of_lt (by omega))
    rw [each_cons, ih _ (by omega) (by omega), hone]
    omega

theorem lanesRepaired_other (l : List Nat) (s : State) {g : Fld} (hg : g ∈ moduleFlds) (h : (spareFld k dir).lo ≠ g.lo) :
    rd (each l (fun _ => laneRepaired d k dir) s) (d2dB d) g = rd s (d2dB d) g :=
  each_keeps (fun s => rd s (d2dB d) g) (fun _ => laneRepaired d k dir) (fun _ s => laneRepaired_other hd s hg h) l s

end Repair

/-- The lanes of both directions that a retrain found bad are repaired. -/
def lanesRepaired (d k tx rx : Nat) (s : State) : State :=
  each (List.range rx) (fun _ => laneRepaired d k 1) (each (List.range tx) (fun _ => laneRepaired d k 0) s)

theorem spareFld_ne (k : Nat) : (spareFld k 0).lo ≠ (spareFld k 1).lo := by
  rcases k with _ | k <;> simp [spareFld, R.HUB_D2D_STATUS_MOD0_TX_SPARES, R.HUB_D2D_STATUS_MOD0_RX_SPARES,
    R.HUB_D2D_STATUS_MOD1_TX_SPARES, R.HUB_D2D_STATUS_MOD1_RX_SPARES]

theorem lanesRepaired_spares {d k tx rx : Nat} (hd : d < 4) {s : State} (h0 : rd s (d2dB d) (spareFld k 0) ≤ 4)
    (h1 : rd s (d2dB d) (spareFld k 1) ≤ 4) (htx : tx ≤ rd s (d2dB d) (spareFld k 0))
    (hrx : rx ≤ rd s (d2dB d) (spareFld k 1)) :
    rd (lanesRepaired d k tx rx s) (d2dB d) (spareFld k 0) = rd s (d2dB d) (spareFld k 0) - tx ∧
      rd (lanesRepaired d k tx rx s) (d2dB d) (spareFld k 1) = rd s (d2dB d) (spareFld k 1) - rx := by
  have hother (l : List Nat) (u : State) : rd (each l (fun _ => laneRepaired d k 0) u) (d2dB d) (spareFld k 1)
      = rd u (d2dB d) (spareFld k 1) := lanesRepaired_other hd l u (spareFld_mem k 1) (spareFld_ne k)
  unfold lanesRepaired
  constructor
  · rw [lanesRepaired_other hd _ _ (spareFld_mem k 0) (spareFld_ne k).symm,
      lanesRepaired_same hd _ s h0 (by simpa using htx), List.length_range]
  · rw [lanesRepaired_same hd _ _ (by rw [hother]; exact h1) (by rw [hother]; simpa using hrx), hother, List.length_range]

theorem trained_leads (s : State) (d : Fin 4) (k : Fin 2) (x r : Fin 5) (h : modState s d k = 3)
    (h0 : rd s (d2dB d) (spareFld k 0) ≤ 4) (h1 : rd s (d2dB d) (spareFld k 1) ≤ 4)
    (hx : x ≤ rd s (d2dB d) (spareFld k 0)) (hr : r ≤ rd s (d2dB d) (spareFld k 1)) :
    Leads (.d2dRetrainDone d k true x r) s fun t => modState t d k = 2 ∧
      rd t (d2dB d) (spareFld k 0) = rd s (d2dB d) (spareFld k 0) - x ∧
      rd t (d2dB d) (spareFld k 1) = rd s (d2dB d) (spareFld k 1) - r := by
  refine leads_run (f := moduleTrained d k true x r) rfl ?_
  have heq : moduleTrained d k true x r (begun s) = refreshUcie (setMod d k 2 (lanesRepaired d k x r (begun s))) := by
    have h' : modState (begun s) d k = 3 := h
    have hok : (true && decide (x.val ≤ rd (begun s) (d2dB d) (spareFld k 0)) &&
        decide (r.val ≤ rd (begun s) (d2dB d) (spareFld k 1))) = true := by
      simp only [Bool.true_and, Bool.and_eq_true, decide_eq_true_eq]
      exact ⟨hx, hr⟩
    unfold moduleTrained
    simp only [h', hok, if_true]
    rfl
  have hu (u : State) {f : Fld} (hf : f ∈ moduleFlds) : rd (refreshUcie u) (d2dB d) f = rd u (d2dB d) f :=
    rd_of_linkKey d.isLt (refreshUcie_apart (linkKey_offMode d) u : Apart (linkKey d) (fun _ => False) u _) hf
  have hmod (dir : Nat) (u : State) : rd (setMod d k 2 u) (d2dB d) (spareFld k dir) = rd u (d2dB d) (spareFld k dir) :=
    rd_wr_block _ (by
      rw [moduleFlds_off (modFld_mem k), moduleFlds_off (spareFld_mem k dir)]
      have := modFld_ne_spareFld k k dir
      omega) 2 u
  rw [modState_done, rd_done, rd_done, heq, hu _ (spareFld_mem k 0), hu _ (spareFld_mem k 1), hmod, hmod]
  exact ⟨(hu _ (modFld_mem k)).trans (modState_setMod ..), lanesRepaired_spares (s := begun s) d.isLt h0 h1 hx hr⟩
end Sys2Proof.PowerModes
end

section
namespace Sys2Proof.PowerModes
open Sys2Proof Sys2Proof.Machine Sys2Proof.Safety Sys2Proof.Scope

/-! #### A module that goes DOWN -/

/-- The state in which module `k` of die `d` is DOWN from now on. -/
def moduleMarked (d k : Nat) (s : State) : State :=
  modD2d d k (fun x => { x with downAt := s.tick + 1 }) (setMod d k 0 s)

/-- The module is DOWN, its loss counted and announced; `both`: the other one is DOWN too. -/
def moduleLost (d k : Nat) (both : Bool) (s : State) : State :=
  capacityFell d (trigger 6 (2 * d + k) 0 (raise 0x0F06 noCh (d + 4 * k + 8 * b2n both)
    (bump (d2dB d) R.HUB_D2D_DOWN_CNT_COUNT (moduleMarked d k s))))

theorem moduleMarked_other {k : Nat} (hk : k < 2) (d : Nat) (s : State) :
    modState (moduleMarked d k s) d (1 - k) = modState s d (1 - k) :=
  rd_wr_block (d2dB d) ((by decide : ∀ k < 2,
    (modFld k).off * 32 + (modFld k).lo ≠ (modFld (1 - k)).off * 32 + (modFld (1 - k)).lo) k hk) 0 s

theorem moduleDown_eq {k : Nat} (hk : k < 2) (d : Nat) (s : State) {both : Bool}
    (hb : (modState s d (1 - k) == 0) = both) : moduleDown d k s =
      if both && !rdB (moduleLost d k both s) (dieB d) R.HUB_DIE_STATUS_IN_RESET then holdDie d true (moduleLost d k both s)
      else moduleLost d k both s := by
  subst hb
  rw [← moduleMarked_other hk]
  rfl

theorem moduleDown_other {k : Nat} (hk : k < 2) {d : Nat} {s : State} (h : modState s d (1 - k) ≠ 0) :
    moduleDown d k s = moduleLost d k false s :=
  (moduleDown_eq hk d s (beq_false_of_ne h)).trans (if_neg (by simp))

theorem moduleDown_last {k : Nat} (hk : k < 2) {d : Nat} {s : State} (h : modState s d (1 - k) = 0)
    (hr : rdB (moduleLost d k true s) (dieB d) R.HUB_DIE_STATUS_IN_RESET = false) :
    moduleDown d k s = holdDie d true (moduleLost d k true s) :=
  (moduleDown_eq hk d s (beq_iff_eq.mpr h)).trans (if_pos (by simp [hr]))

theorem trigger_module_dieKept (i : Nat) (s : State) : DieKept s (trigger 6 i 0 s) := by
  have h1 : DieKept s { s with epochs := tset 0 (512 * 6 + i) ((epoch s 6 i + 1) % 65536) s.epochs } :=
    ⟨fun _ _ _ _ => rfl, rfl, rfl, rfl⟩
  exact h1.trans (raise_dieKept ..)

theorem moduleLost_dieKept {d : Nat} (hd : d < 4) (k : Nat) (both : Bool) (s : State) :
    DieKept (bump (d2dB d) R.HUB_D2D_DOWN_CNT_COUNT (moduleMarked d k s)) (moduleLost d k both s) :=
  ((raise_dieKept ..).trans (trigger_module_dieKept _ _)).trans (capacityFell_dieKept hd _)

/-- What the loss of a module leaves alone, but for its own mark. -/
theorem moduleLost_apart {p : Nat → Prop} {d : Nat} (hd : d < 4) (k : Nat)
    (hp : ¬ p (R.HUB_D2D_DOWN_CNT_COUNT.key (d2dB d) 0)) (both : Bool) (s : State) :
    Apart p (fun _ => False) (moduleMarked d k s) (moduleLost d k both s) := by
  have h1 (u : State) : Apart p (fun _ => False) u (bump (d2dB d) R.HUB_D2D_DOWN_CNT_COUNT u) := by simp [hp]
  have h2 (c a : Nat) (u : State) : Apart p (fun _ => False) u (raise c noCh a u) := Still.apart (by simp)
  exact (((h1 _).trans (h2 ..)).trans (trigger_apart_unowned 6 _ 0 (by decide) (by decide) (fun h => h) _)).trans
    (capacityFell_quiet hd _).apart

theorem not_linkKey_downCount (d : Nat) : ¬ linkKey d (R.HUB_D2D_DOWN_CNT_COUNT.key (d2dB d) 0) := by
  simp only [linkKey, Fld.key, R.HUB_D2D_DOWN_CNT_COUNT]
  omega

theorem moduleLost_modState {d : Nat} (hd : d < 4) (k : Nat) (both : Bool) (s : State) :
    modState (moduleLost d k both s) d k = 0 :=
  (rd_of_linkKey hd (moduleLost_apart hd k (not_linkKey_downCount d) both s) (modFld_mem k)).trans (modState_setMod d k 0 s)

theorem moduleLost_downAt {d : Nat} (hd : d < 4) (k : Nat) (both : Bool) (s : State) :
    ((moduleLost d k both s).d2d d k).downAt = s.tick + 1 := by
  obtain ⟨-, hkeep, -⟩ := moduleLost_dieKept hd k both s
  rw [State.d2d, hkeep]
  exact congrArg D2dSt.downAt (d2d_modD2d d k (fun x => { x with downAt := s.tick + 1 }) (setMod d k 0 s))

theorem downCount_dieKey (d : Nat) : dieKey (R.HUB_D2D_DOWN_CNT_COUNT.key (d2dB d) 0) := by
  simp only [dieKey, Fld.key, R.HUB_D2D_DOWN_CNT_COUNT, d2dB, dieB]
  omega

theorem moduleLost_count {d : Nat} (hd : d < 4) (k : Nat) (both : Bool) (s : State) :
    rd (moduleLost d k both s) (d2dB d) R.HUB_D2D_DOWN_CNT_COUNT = satU R.HUB_D2D_DOWN_CNT_COUNT.w
      (rd s (d2dB d) R.HUB_D2D_DOWN_CNT_COUNT + 1) % 2 ^ R.HUB_D2D_DOWN_CNT_COUNT.w := by
  have hmark : rd (moduleMarked d k s) (d2dB d) R.HUB_D2D_DOWN_CNT_COUNT = rd s (d2dB d) R.HUB_D2D_DOWN_CNT_COUNT :=
    rd_wr_block (d2dB d) ((by decide : ∀ f ∈ moduleFlds, f.off * 32 + f.lo ≠
      R.HUB_D2D_DOWN_CNT_COUNT.off * 32 + R.HUB_D2D_DOWN_CNT_COUNT.lo) (modFld k) (modFld_mem k)) 0 s
  rw [(moduleLost_dieKept hd k both s).1 _ _ _ (downCount_dieKey d), rd_bump_same, hmark]

/-- The summaries of the link words keep a module's counter and the state of the modules. -/
theorem refreshUcie_modules (d : Nat) (s : State) : (refreshUcie s).d2ds = s.d2ds ∧
    rd (refreshUcie s) (d2dB d) R.HUB_D2D_DOWN_CNT_COUNT = rd s (d2dB d) R.HUB_D2D_DOWN_CNT_COUNT := by
  unfold refreshUcie
  extract_lets s1
  obtain ⟨hr, hd, -⟩ := setReplace_dieKept (f := R.HUB_REPLACE_UCIE) (not_dieKey_of_low (by decide))
    (dies.any (d2dExhausted s1)) s1
  have h1 : s1.d2ds = s.d2ds := (showSpares_quiet s).2.2.2.2.1
  refine ⟨hd.trans h1, (hr _ _ _ (downCount_dieKey d)).trans ?_⟩
  refine each_holds (fun t => rd t (d2dB d) R.HUB_D2D_DOWN_CNT_COUNT = rd s (d2dB d) R.HUB_D2D_DOWN_CNT_COUNT) _ dies
    (fun e he t ht => ?_) s rfl
  have he4 : e < 4 := List.mem_range.mp he
  have h2 : R.HUB_SPARE_SUM_UCIE_MIN.key healthB e ≠ R.HUB_D2D_DOWN_CNT_COUNT.key (d2dB d) 0 :=
    key_ne_dieKey (not_dieKey_of_low (by
      simp only [Fld.key, R.HUB_SPARE_SUM_UCIE_MIN, healthB]
      omega)) (downCount_dieKey d)
  have h3 : R.HUB_D2D_STATUS_EXHAUSTED.key (d2dB e) 0 ≠ R.HUB_D2D_DOWN_CNT_COUNT.key (d2dB d) 0 := by
    simp only [Fld.key, R.HUB_D2D_STATUS_EXHAUSTED, R.HUB_D2D_DOWN_CNT_COUNT, d2dB, dieB]
    omega
  dsimp only
  rw [rd_wr_ne _ _ _ _ _ _ _ _ h2, wrB, rd_wr_ne _ _ _ _ _ _ _ _ h3]
  exact ht

theorem moduleTrained_failed {s : State} {d k : Nat} (h : modState s d k = 3) (x r : Nat) :
    moduleTrained d k false x r s = refreshUcie (moduleDown d k s) := by
  unfold moduleTrained
  simp only [h]
  rfl

theorem down_leads (s : State) (d : Fin 4) (k : Fin 2) (x r : Fin 5) (h : modState s d k = 3)
    (ho : modState s d (1 - k) ≠ 0) : Leads (.d2dRetrainDone d k false x r) s fun t => modState t d k = 0 ∧
      (t.d2d d k).downAt = s.tick + 1 ∧ rd t (d2dB d) R.HUB_D2D_DOWN_CNT_COUNT =
        satU R.HUB_D2D_DOWN_CNT_COUNT.w (rd s (d2dB d) R.HUB_D2D_DOWN_CNT_COUNT + 1) % 2 ^ R.HUB_D2D_DOWN_CNT_COUNT.w := by
  refine leads_run (f := moduleTrained d k false x r) rfl ?_
  have heq : moduleTrained d k false x r (begun s) = refreshUcie (moduleLost d k false (begun s)) :=
    (moduleTrained_failed (s := begun s) h x r).trans
      (congrArg refreshUcie (moduleDown_other (s := begun s) k.isLt ho))
  have hstate := moduleLost_modState d.isLt k false (begun s)
  have hdown : ((moduleLost d k false (begun s)).d2d d k).downAt = s.tick + 1 := moduleLost_downAt d.isLt k false (begun s)
  have hcount := moduleLost_count d.isLt k false (begun s)
  rw [modState_done, done_d2d, rd_done, heq]
  generalize moduleLost d k false (begun s) = u at *
  obtain ⟨hd2ds, hkeep⟩ := refreshUcie_modules d u
  have happart : Apart (linkKey d) (fun _ => False) u (refreshUcie u) := refreshUcie_apart (linkKey_offMode d) u
  refine ⟨(rd_of_linkKey d.isLt happart (modFld_mem k)).trans hstate, ?_, hkeep.trans hcount⟩
  exact (congrArg (fun t => (tget ({} : D2dSt) (2 * d + k) t).downAt) hd2ds).trans hdown

theorem linkKey_offChannel {d n : Nat} (hd : d < 4) (hn : n ∈ channelsOf d) : OffChannel (linkKey d) n := fun k hk => by
  have := channelsOf_lt hd hn
  simp only [linkKey, d2dB, dieB] at hk
  omega

/-- The words that a held die gets lie in its status word alone. -/
theorem only_holdWords {p : Nat → Prop} {d : Nat} (hp : ∀ k, p k → k / 32 ≠ dieB d + 4) (iso : Bool) (s : State) :
    only p (shieldedRegs (holdWords d iso s).regs) = only p (shieldedRegs s.regs) := by
  have hk (f : Fld) (hf : f.off + f.stride * 0 = 4 ∧ f.lo + f.bstep * 0 < 32) : ¬ p (f.key (dieB d) 0) :=
    fun h => hp _ h (by
    simp only [Fld.key]
    omega)
  simp [holdWords, modDie, hk R.HUB_DIE_STATUS_IN_RESET (by decide), hk R.HUB_DIE_STATUS_ISOLATED (by decide),
    hk R.HUB_DIE_STATUS_READY (by decide), hk R.HUB_DIE_STATUS_CLK_LOCK (by decide)]

theorem linkKey_ne_status (d k : Nat) (h : linkKey d k) : k / 32 ≠ dieB d + 4 := by
  simp only [linkKey, d2dB] at h
  omega

theorem holdDie_modState {d : Nat} (hd : d < 4) (iso : Bool) (k : Nat) (s : State) :
    modState (holdDie d iso s) d k = modState s d k := by
  have hsweep (u : State) : Apart (linkKey d) (fun _ => False) u (refreshOffline (sweepDie d u)) :=
    (sweepDie_apart d (fun n hn => linkKey_offChannel hd hn) (fun h => h) (fun _ _ h => h) u).trans
      (refreshOffline_apart (linkKey_offMode d) _)
  obtain ⟨hkey, hlink⟩ := moduleFlds_key hd (modFld_mem k)
  rw [holdDie_eq]
  exact (rd_of_linkKey hd (hsweep _) (modFld_mem k)).trans (rd_of_only (only_holdWords
    (linkKey_ne_status d) iso s) hkey hlink)

theorem dieStatus_field {d : Nat} (hd : d < 4) {f : Fld}
    (hf : f ∈ [R.HUB_DIE_STATUS_IN_RESET, R.HUB_DIE_STATUS_ISOLATED, R.HUB_DIE_STATUS_READY]) :
    shielded (f.key (dieB d) 0) = true ∧ dieStatusKey d (f.key (dieB d) 0) :=
  (by decide : ∀ d < 4, ∀ f ∈ [R.HUB_DIE_STATUS_IN_RESET, R.HUB_DIE_STATUS_ISOLATED, R.HUB_DIE_STATUS_READY],
    shielded (f.key (dieB d) 0) = true ∧ dieStatusKey d (f.key (dieB d) 0)) d hd f hf

theorem isolated_leads (s : State) (d : Fin 4) (k : Fin 2) (x r : Fin 5) (h : modState s d k = 3)
    (ho : modState s d (1 - k) = 0) (hr : rdB s (dieB d) R.HUB_DIE_STATUS_IN_RESET = false) :
    Leads (.d2dRetrainDone d k false x r) s fun t => modState t d k = 0 ∧
      rdB t (dieB d) R.HUB_DIE_STATUS_IN_RESET = true ∧ rdB t (dieB d) R.HUB_DIE_STATUS_ISOLATED = true ∧
      rdB t (dieB d) R.HUB_DIE_STATUS_READY = false := by
  refine leads_run (f := moduleTrained d k false x r) rfl ?_
  have hreset : rdB (moduleLost d k true (begun s)) (dieB d) R.HUB_DIE_STATUS_IN_RESET = false := by
    obtain ⟨hkey, hword⟩ := dieStatus_field d.isLt (f := R.HUB_DIE_STATUS_IN_RESET) (by simp)
    have happart := moduleLost_apart (p := dieStatusKey d) d.isLt k (by
      simp only [dieStatusKey, Fld.key, R.HUB_D2D_DOWN_CNT_COUNT, d2dB]
      omega) true (begun s)
    have hmark : rd (moduleMarked d k (begun s)) (dieB d) R.HUB_DIE_STATUS_IN_RESET = rd s
      (dieB d) R.HUB_DIE_STATUS_IN_RESET :=
      rd_wr_ne (begun s) (dieB d) (d2dB d) R.HUB_DIE_STATUS_IN_RESET (modFld k) 0 0 0 (by
        have := moduleFlds_off (modFld_mem k)
        have := modFld_loAt k
        simp only [Fld.key, Fld.loAt, R.HUB_DIE_STATUS_IN_RESET, d2dB] at *
        omega)
    exact (congrArg (· == 1) ((rd_of_only happart.1 hkey hword).trans hmark)).trans hr
  have heq : moduleTrained d k false x r (begun s) = refreshUcie (holdDie d true (moduleLost d k true (begun s))) :=
    (moduleTrained_failed (s := begun s) h x r).trans
      (congrArg refreshUcie (moduleDown_last (s := begun s) k.isLt ho hreset))
  obtain ⟨h1, h2, h3, -⟩ := holdDie_status d.isLt true (moduleLost d k true (begun s))
  have hlink (u : State) : modState (refreshUcie u) d k = modState u d k :=
    rd_of_linkKey d.isLt (refreshUcie_apart (linkKey_offMode d) u : Apart (linkKey d) (fun _ => False) _ _) (modFld_mem k)
  have hstatus (u : State) {f : Fld}
      (hf : f ∈ [R.HUB_DIE_STATUS_IN_RESET, R.HUB_DIE_STATUS_ISOLATED, R.HUB_DIE_STATUS_READY]) :
      rdB (refreshUcie u) (dieB d) f = rdB u (dieB d) f := by
    have happart : Apart (dieStatusKey d) (fun _ => False) u (refreshUcie u) :=
      refreshUcie_apart (fun k hk => by simp only [dieStatusKey, dieB] at hk; omega) u
    exact congrArg (· == 1) (rd_of_only happart.1 (dieStatus_field d.isLt hf).1 (dieStatus_field d.isLt hf).2)
  rw [modState_done, rdB_done, rdB_done, rdB_done, heq, hlink, hstatus _ (by simp), hstatus _ (by simp),
    hstatus _ (by simp),
    holdDie_modState d.isLt]
  exact ⟨moduleLost_modState d.isLt k true _, h1, h2, h3⟩
end Sys2Proof.PowerModes
end

section
namespace Sys2Proof.PowerModes
open Sys2Proof Sys2Proof.Machine Sys2Proof.Safety Sys2Proof.Scope

/-! ### The reset of a Reach die (R76, R77, R710, R804) -/

theorem done_die (f : State → State) (s : State) (d : Nat) : (done f s).die d = (f (begun s)).die d :=
  congrArg (tget ({} : DieSt) d) (done_dst f s)

theorem epoch_done (f : State → State) (s : State) (cls i : Nat) : epoch (done f s) cls i = epoch (f (begun s)) cls i :=
  congrArg (tget 0 (512 * cls + i)) (done_epochs f s)

theorem die_modDie (d : Nat) (f : DieSt → DieSt) (s : State) : (modDie d f s).die d = f (s.die d) := tget_tset_same ..

theorem leftAts_die (d : Nat) (s : State) : leftAts s.dst d = (s.die d).leftAt := rfl

theorem die_wrB (b : Nat) (f : Fld) (v : Bool) (s : State) (d : Nat) : (wrB b f v s).die d = s.die d := rfl

theorem holdWords_leftAt (d : Nat) (iso : Bool) (s : State) : ((holdWords d iso s).die d).leftAt = 0 := by
  unfold holdWords
  extract_lets b s1 s2
  clear_value s2
  rw [die_modDie]

theorem holdDie_leftAt (d : Nat) (iso : Bool) (s : State) : ((holdDie d iso s).die d).leftAt = 0 := by
  have hsweep (u : State) : Apart (fun _ => False) (fun _ => False) u (refreshOffline (sweepDie d u)) :=
    (sweepDie_apart d (fun _ _ _ h => h.elim) (fun h => h) (fun _ _ h => h) u).trans
      (refreshOffline_apart (fun _ h => h.elim) _)
  have hwords := holdWords_leftAt d iso s
  rw [holdDie_eq]
  generalize holdWords d iso s = u at *
  obtain ⟨-, -, -, -, hleft⟩ := hsweep u
  rw [← leftAts_die] at hwords ⊢
  exact (congrFun hleft d).trans hwords

theorem release_leads (s : State) (d : Fin 4) : Leads (.dieRelease d) s fun t =>
    rdB t (dieB d) R.HUB_DIE_CTRL_RESET = false ∧
      rdB t (dieB d) R.HUB_DIE_STATUS_IN_RESET = rdB s (dieB d) R.HUB_DIE_STATUS_IN_RESET := by
  refine leads_run (f := dieRelease d) rfl ?_
  rw [rdB_done, rdB_done]
  exact ⟨rdB_wrB_same _ _ _ (by decide) _, congrArg (· == 1) (rd_wr_block (dieB d) (by decide) _ (begun s))⟩

theorem late_leads (s : State) (d : Fin 4) (h0 : (s.die d).leftAt ≠ 0) (hd : (s.die d).leftAt + 800 * ms ≤ s.tick + 1) :
    Leads (.dieReadyTimeout d) s fun t => rdB t (dieB d) R.HUB_DIE_STATUS_IN_RESET = true ∧
      rdB t (dieB d) R.HUB_DIE_STATUS_ISOLATED = true ∧ rdB t (dieB d) R.HUB_DIE_STATUS_READY = false ∧
      (t.die d).leftAt = 0 := by
  refine leads_run (f := dieLate d) rfl ?_
  have heq : dieLate d (begun s) = holdDie d true (begun s) := by
    have hd' : ((begun s).die d).leftAt ≠ 0 ∧ ((begun s).die d).leftAt + 800 * ms ≤ (begun s).tick + 1 := ⟨h0, hd⟩
    refine if_neg ?_
    simp only [Bool.or_eq_true, decide_eq_true_eq]
    omega
  rw [rdB_done, rdB_done, rdB_done, done_die, heq]
  obtain ⟨h1, h2, h3, -⟩ := holdDie_status d.isLt true (begun s)
  exact ⟨h1, h2, h3, holdDie_leftAt d true _⟩

/-! #### DIE_RESET -/

theorem trigger_die_epochs (d : Nat) (s : State) :
    (trigger 1 d 0 s).epochs = tset 0 (512 * 1 + d) ((epoch s 1 d + 1) % 65536) s.epochs :=
  raise_epochs ..

theorem sweepRequests_epoch (d : Nat) (s : State) :
    epoch (sweepRequests d s) 1 d = (epoch s 1 d + 1) % 65536 := by
  have h1 (u : State) : (requesterReset (agentDie · == some d) u).epochs = u.epochs := rfl
  obtain ⟨-, -, -, hq, -⟩ := handoverSelfRefresh_quiet d s
  rw [epoch, sweepRequests, h1, trigger_die_epochs, tget_tset_same, epoch, epoch, hq]

/-- No unit of the die other than the die itself has its epoch. -/
theorem dieUnit_ne {d k : Nat} (hd : d < 4) (h : dieUnit d k) : k ≠ 512 * 1 + d := by
  rcases h with ⟨n, -, rfl⟩ | ⟨c, -, rfl⟩ | ⟨m, -, rfl⟩ <;> omega

theorem holdDie_epoch {d : Nat} (hd : d < 4) (iso : Bool) (s : State) :
    epoch (holdDie d iso s) 1 d = (epoch s 1 d + 1) % 65536 := by
  have hrest (u : State) : Apart (fun _ => False) (fun k => k = 512 * 1 + d) u
      (refreshOffline (sweepUnits d (sweepChannels d u))) :=
    ((sweepChannels_apart d (fun _ _ _ h => h.elim) (fun n hn => dieUnit_ne hd (.inl ⟨n, hn, rfl⟩)) u).trans
      (sweepUnits_apart d (fun _ h => dieUnit_ne hd h) _)).trans (refreshOffline_apart (fun _ h => h.elim) _)
  obtain ⟨-, -, -, hepoch, -⟩ := hrest (sweepRequests d (holdWords d iso s))
  exact (congrFun hepoch ⟨_, rfl⟩).trans (sweepRequests_epoch d (holdWords d iso s))

theorem dieChannel_off {n : Nat} (hn : n < 192) (s : State) : (dieChannel n s).chState n = .off := by
  have hflags (u : State) : Apart (stateKey n) (fun _ => False) u (resetFlags (chB n) R.chBlk u) :=
    resetFlags_apart (chB n) R.chBlk (fun f hf i hi => by
      have := (by decide : ∀ f ∈ R.chBlk.filter (·.acc == .w1c), ∀ i < f.n, f.loAt i < 32 ∧
        (f.offAt i ≠ R.CH_STATUS_STATE.off ∨ f.loAt i ≠ R.CH_STATUS_STATE.lo)) f hf i hi
      simp only [stateKey, Fld.key, Fld.loAt, Fld.offAt, R.CH_STATUS_STATE] at *
      omega) u
  obtain ⟨hoff, -⟩ := chReset_off hn false s
  unfold dieChannel
  extract_lets s1
  have h1 : Still (chReset false n s) s1 := by simp [s1]
  exact (chState_of_apart hn (hflags s1)).trans ((chState_of_still h1 hn).trans hoff)

theorem mem_channelsOf {d n : Nat} (hn : n / 48 = d) : n ∈ channelsOf d :=
  List.mem_map.mpr ⟨n % 48, List.mem_range.mpr (Nat.mod_lt _ (by decide)), by omega⟩

theorem sweepChannels_off {d n : Nat} (hn : n < 192) (hd : n / 48 = d) (s : State) :
    (sweepChannels d s).chState n = .off := by
  have hnodup : (channelsOf d).Nodup := List.nodup_range.map fun a b h => Nat.add_left_cancel h
  obtain ⟨s', -, h⟩ := each_once (fun t => t.chState n) dieChannel (channelsOf d) hnodup (mem_channelsOf hd)
    (fun m hm t => chState_of_apart (e := fun _ => False) hn
      (dieChannel_apart (stateKey_offChannel (Ne.symm hm)) (fun h => h) t)) (dieOxbow d s)
  exact h.trans (dieChannel_off hn s')

theorem holdDie_channels {d n : Nat} (hn : n < 192) (hd : n / 48 = d) (iso : Bool) (s : State) :
    (holdDie d iso s).chState n = .off := by
  have hmode : OffMode (stateKey n) := fun k hk => by
    simp only [stateKey, Fld.key, R.CH_STATUS_STATE, chB] at hk
    omega
  have hrest (u : State) : Apart (stateKey n) (fun _ => False) u (refreshOffline (sweepUnits d u)) :=
    (sweepUnits_apart d (fun _ _ h => h) u).trans (refreshOffline_apart hmode _)
  exact (chState_of_apart hn (hrest _)).trans (sweepChannels_off hn hd _)

/-- The key lies in the control word of die `d`. -/
abbrev ctrlKey (d k : Nat) : Prop := k / 32 = dieB d

theorem holdDie_ctrl {d : Nat} (hd : d < 4) (iso : Bool) (s : State) :
    rdB (holdDie d iso s) (dieB d) R.HUB_DIE_CTRL_RESET = rdB s (dieB d) R.HUB_DIE_CTRL_RESET := by
  have hword (k : Nat) (h : ctrlKey d k) : k / 32 ≠ dieB d + 4 := by
    simp only [ctrlKey] at h
    omega
  have hkey : shielded (R.HUB_DIE_CTRL_RESET.key (dieB d) 0) = true ∧ ctrlKey d (R.HUB_DIE_CTRL_RESET.key (dieB d) 0) :=
    (by decide : ∀ d < 4, shielded (R.HUB_DIE_CTRL_RESET.key (dieB d) 0) = true ∧
      ctrlKey d (R.HUB_DIE_CTRL_RESET.key (dieB d) 0)) d hd
  have hchannel (n : Nat) (hn : n ∈ channelsOf d) : OffChannel (ctrlKey d) n := fun k hk => by
    have := channelsOf_lt hd hn
    simp only [ctrlKey, dieB] at hk
    omega
  have hsweep (u : State) : Apart (ctrlKey d) (fun _ => False) u (refreshOffline (sweepDie d u)) :=
    (sweepDie_apart d hchannel (fun h => h) (fun _ _ h => h) u).trans
      (refreshOffline_apart (fun k hk => by simp only [ctrlKey, dieB] at hk; omega) _)
  rw [holdDie_eq]
  exact congrArg (· == 1) ((rd_of_only (hsweep _).1 hkey.1 hkey.2).trans
    (rd_of_only (only_holdWords hword iso s) hkey.1 hkey.2))

theorem dieReset_leads (s : State) (d : Fin 4) (h : rdB s (dieB d) R.HUB_DIE_CTRL_RESET = false) :
    Leads (.dieReset d) s fun t => rdB t (dieB d) R.HUB_DIE_CTRL_RESET = true ∧
      rdB t (dieB d) R.HUB_DIE_STATUS_IN_RESET = true ∧ rdB t (dieB d) R.HUB_DIE_STATUS_ISOLATED = false ∧
      rdB t (dieB d) R.HUB_DIE_STATUS_READY = false ∧ epoch t 1 d = (epoch s 1 d + 1) % 65536 ∧
      ∀ n < 192, n / 48 = d.val → t.chState n = .off := by
  refine leads_run (f := dieReset d) rfl ?_
  have heq : dieReset d (begun s) = holdDie d false (wrB (dieB d) R.HUB_DIE_CTRL_RESET true (begun s)) := by
    have h' : rdB (begun s) (dieB d) R.HUB_DIE_CTRL_RESET = false := h
    exact if_neg (by simp [h'])
  have hctrl : rdB (wrB (dieB d) R.HUB_DIE_CTRL_RESET true (begun s)) (dieB d) R.HUB_DIE_CTRL_RESET = true :=
    rdB_wrB_same _ _ _ (by decide) _
  have hepoch : epoch (wrB (dieB d) R.HUB_DIE_CTRL_RESET true (begun s)) 1 d = epoch s 1 d := rfl
  rw [rdB_done, rdB_done, rdB_done, rdB_done, epoch_done, heq]
  generalize wrB (dieB d) R.HUB_DIE_CTRL_RESET true (begun s) = u at *
  obtain ⟨h1, h2, h3, -⟩ := holdDie_status d.isLt false u
  refine ⟨(holdDie_ctrl d.isLt false u).trans hctrl, h1, h2, h3, ?_, fun n hn hnd => ?_⟩
  · rw [holdDie_epoch d.isLt, hepoch]
  · rw [chState_of_regs (done_regs _ _), heq]
    exact holdDie_channels hn hnd false u

/-! #### DIE_LEAVE_RESET and DIE_READY -/

theorem startResync_crosses (loc : Nat) (s : State) {i : Nat} (hi : i ∈ crossings loc) :
    tget {} (64 * loc + i) (startResync loc s).crosses = { since := s.tick + 1 } := by
  have hstart (l : List Nat) (hl : i ∈ l) (t : Tbl Cross) : tget {} (64 * loc + i) (l.foldl (fun t i =>
      tins (64 * loc + i) ({ since := s.tick + 1 } : Cross) (terase (64 * loc + i) t)) t) = { since := s.tick + 1 } := by
    induction l using List.reverseRecOn with
    | nil => cases hl
    | append_singleton l j ih =>
      rw [List.foldl_append]
      by_cases hij : i = j
      · subst hij
        exact tget_tins_same ..
      · have hmem : i ∈ l := by simpa [hij] using hl
        have hne : 64 * loc + j ≠ 64 * loc + i := by omega
        rw [List.foldl_cons, List.foldl_nil, tget_tins_ne _ _ _ _ _ hne, tget_terase, if_neg hne]
        exact ih hmem
  exact hstart _ hi _

theorem safeDarks_dieKept (l : List Nat) (s : State) : DieKept s (each l refreshSafeDark s) := by
  refine each_dieKept refreshSafeDark l (fun n _ u => ?_) s
  refine Still.dieKept (refreshSafeDark_quiet n u) fun b g i hg => ?_
  refine rd_refreshSafeDark n u b g i (key_ne_dieKey ?_ hg)
  simp only [dieKey, Fld.key, R.CH_STATUS_SAFE_DARK, chB]
  omega

/-- What a die that leaves reset shows, before its crossings and the device's summaries follow. -/
def leaveWords (d : Nat) (s : State) : State :=
  let b := dieB d
  let s := wrB b R.HUB_DIE_STATUS_IN_RESET false (wrB b R.HUB_DIE_STATUS_CLK_LOCK true s)
  let s := modDie d (fun x => { x with leftAt := s.tick + 1 }) s
  each (List.range 8) (fun m s => if ddrState s d m = 3 then setDdrState d m 1 s else s) s

theorem retrain_quiet (d x y : Nat) :
    Quiet (each (List.range 8) fun m s => if ddrState s d m = x then setDdrState d m y s else s) :=
  each_quiet_mem _ _ fun m hm s => by
    have hm8 := List.mem_range.mp hm
    have hk : shielded (R.DDR_STATUS_STATE.key (ddrB d m) 0) = false := by
      simp only [not_shielded_iff, Fld.key, R.DDR_STATUS_STATE, ddrB, dieB]
      omega
    split
    · simp [setDdrState, hk]
    · exact Still.refl s

theorem leaveWords_shown {d : Nat} (hd : d < 4) (s : State) :
    rdB (leaveWords d s) (dieB d) R.HUB_DIE_STATUS_IN_RESET = false ∧
      rdB (leaveWords d s) (dieB d) R.HUB_DIE_STATUS_CLK_LOCK = true ∧
      ((leaveWords d s).die d).leftAt = s.tick + 1 ∧ (leaveWords d s).tick = s.tick := by
  have hkey (f : Fld) (hf : f ∈ [R.HUB_DIE_STATUS_IN_RESET, R.HUB_DIE_STATUS_CLK_LOCK]) :
      shielded (f.key (dieB d) 0) = true :=
    (by decide : ∀ d < 4, ∀ f ∈ [R.HUB_DIE_STATUS_IN_RESET, R.HUB_DIE_STATUS_CLK_LOCK],
      shielded (f.key (dieB d) 0) = true) d hd f hf
  unfold leaveWords
  extract_lets b s1 s2
  have hreset : rdB s2 (dieB d) R.HUB_DIE_STATUS_IN_RESET = false :=
    rdB_wrB_same b R.HUB_DIE_STATUS_IN_RESET false (by decide) (wrB b R.HUB_DIE_STATUS_CLK_LOCK true s)
  have hlock : rdB s2 (dieB d) R.HUB_DIE_STATUS_CLK_LOCK = true :=
    (congrArg (· == 1) (rd_wr_block b (f := R.HUB_DIE_STATUS_IN_RESET) (by decide) (b2n false) _)).trans
      (rdB_wrB_same b R.HUB_DIE_STATUS_CLK_LOCK true (by decide) s)
  have hleft : (s2.die d).leftAt = s.tick + 1 :=
    congrArg DieSt.leftAt (die_modDie d (fun x => { x with leftAt := s1.tick + 1 }) s1)
  have htick : s2.tick = s.tick := rfl
  clear_value s2
  obtain ⟨hr, -, -, -, -, -, hl⟩ := retrain_quiet d 3 1 s2
  refine ⟨(congrArg (· == 1) (rd_of_shieldedRegs hr (hkey _ (by simp)))).trans hreset,
    (congrArg (· == 1) (rd_of_shieldedRegs hr (hkey _ (by simp)))).trans hlock, (congrFun hl d).trans hleft, ?_⟩
  refine (each_keeps State.tick _ (fun m u => ?_) _ s2).trans htick
  split <;> rfl

theorem leave_leads (s : State) (d : Fin 4) (hc : rdB s (dieB d) R.HUB_DIE_CTRL_RESET = false)
    (hi : rdB s (dieB d) R.HUB_DIE_STATUS_ISOLATED = false) (hr : rdB s (dieB d) R.HUB_DIE_STATUS_IN_RESET = true)
    (hm : modState s d 0 = 2 ∨ modState s d 1 = 2) : Leads (.dieLeaveReset d) s fun t =>
      rdB t (dieB d) R.HUB_DIE_STATUS_IN_RESET = false ∧ rdB t (dieB d) R.HUB_DIE_STATUS_CLK_LOCK = true ∧
      (t.die d).leftAt = s.tick + 1 ∧ crossUp t (1 + d) 0 = false := by
  refine leads_run (f := dieLeave d) rfl ?_
  have heq : dieLeave d (begun s) = refreshOffline (each (channelsOf d) refreshSafeDark
      (startResync (1 + d) (leaveWords d (begun s)))) := by
    have hc' : rdB (begun s) (dieB d) R.HUB_DIE_CTRL_RESET = false := hc
    have hi' : rdB (begun s) (dieB d) R.HUB_DIE_STATUS_ISOLATED = false := hi
    have hr' : rdB (begun s) (dieB d) R.HUB_DIE_STATUS_IN_RESET = true := hr
    have hm' : modState (begun s) d 0 = 2 ∨ modState (begun s) d 1 = 2 := hm
    exact if_neg (by
      rcases hm' with hm' | hm' <;> simp [hc', hi', hr', hm'])
  obtain ⟨hreset, hlock, hleft, htick⟩ := leaveWords_shown d.isLt (begun s)
  rw [rdB_done, rdB_done, done_die, done_crossUp, heq]
  generalize leaveWords d (begun s) = u at *
  obtain ⟨hregs, -, hcross, hlefts⟩ := (safeDarks_dieKept (channelsOf d) (startResync (1 + d) u)).trans
    (refreshOffline_dieKept _)
  have hkey (f : Fld) (hf : f.off = 4 ∧ f.lo < 19 ∧ f.stride = 0 ∧ f.bstep = 0) : dieKey (f.key (dieB d) 0) := by
    simp only [dieKey, Fld.key, dieB]
    omega
  refine ⟨(congrArg (· == 1) (hregs _ _ _ (hkey R.HUB_DIE_STATUS_IN_RESET (by decide)))).trans hreset,
    (congrArg (· == 1) (hregs _ _ _ (hkey R.HUB_DIE_STATUS_CLK_LOCK (by decide)))).trans hlock,
    (congrFun hlefts d).trans hleft, ?_⟩
  have h0 : 0 ∈ crossings (1 + d) := by simp [crossings]
  rw [crossUp, hcross, startResync_crosses (1 + d) u h0]
  rfl

/-- A controller's state after those of the die that were in state `x` have gone over to `y`. -/
theorem retrain_ddrState (d x : Nat) {m : Nat} (hm : m < 8) (y : Nat) (s : State) (h : ddrState s d m = x) :
    ddrState (each (List.range 8) (fun m s => if ddrState s d m = x then setDdrState d m y s else s) s) d m = y % 8 := by
  obtain ⟨s', hs, ht⟩ := each_once (fun t => ddrState t d m)
    (fun m s => if ddrState s d m = x then setDdrState d m y s else s) (List.range 8) List.nodup_range
    (List.mem_range.mpr hm) (fun j hj t => by
      split
      · refine rd_wr_ne _ _ _ _ _ _ _ _ ?_
        simp only [Fld.key, ddrB, R.DDR_STATUS_STATE]
        omega
      · rfl) s
  rw [ht, if_pos (hs.trans h)]
  exact rd_wr_same ..

/-- What a die that accepts ARM shows, before the device's summaries follow. -/
def readyWords (d : Nat) (s : State) : State :=
  let s := each (List.range 8) (fun m s => if ddrState s d m = 1 then setDdrState d m 2 s else s) s
  wrB (dieB d) R.HUB_DIE_STATUS_READY true (modDie d (fun x => { x with leftAt := 0 }) s)

theorem readyWords_shown (d : Nat) (s : State) : rdB (readyWords d s) (dieB d) R.HUB_DIE_STATUS_READY = true ∧
    ((readyWords d s).die d).leftAt = 0 ∧ ∀ m < 8, ddrState s d m = 1 → ddrState (readyWords d s) d m = 2 := by
  unfold readyWords
  extract_lets s1
  have hddr (m : Nat) (hm : m < 8) (h : ddrState s d m = 1) : ddrState s1 d m = 2 := retrain_ddrState d 1 hm 2 s h
  clear_value s1
  have hne (m : Nat) : R.HUB_DIE_STATUS_READY.key (dieB d) 0 ≠ R.DDR_STATUS_STATE.key (ddrB d m) 0 := by
    simp only [Fld.key, ddrB, R.DDR_STATUS_STATE, R.HUB_DIE_STATUS_READY]
    omega
  refine ⟨rdB_wrB_same _ _ _ (by decide) _, ?_, fun m hm h => ?_⟩
  · rw [die_wrB, die_modDie]
  · exact (rd_wr_ne _ _ _ _ _ _ _ _ (hne m)).trans (hddr m hm h)

theorem ready_leads (s : State) (d : Fin 4) (h : (s.die d).leftAt ≠ 0) : Leads (.dieReady d) s fun t =>
    rdB t (dieB d) R.HUB_DIE_STATUS_READY = true ∧ (t.die d).leftAt = 0 ∧
      ∀ m < 8, ddrState s d m = 1 → ddrState t d m = 2 := by
  refine leads_run (f := fun s => if (s.die d).leftAt = 0 then s else dieAccepts d s) rfl ?_
  have heq : (if ((begun s).die d).leftAt = 0 then begun s else dieAccepts d (begun s)) =
      refreshDie d (refreshOffline (readyWords d (begun s))) := if_neg h
  obtain ⟨hready, hleft, hddr⟩ := readyWords_shown d (begun s)
  rw [rdB_done, done_die]
  simp only [ddrState, rd_done]
  rw [heq]
  generalize readyWords d (begun s) = u at *
  obtain ⟨hregs, -, -, hlefts⟩ := (refreshOffline_dieKept u).trans (refreshDie_dieKept d.isLt _)
  refine ⟨(congrArg (· == 1) (hregs _ _ _ ?_)).trans hready, (congrFun hlefts d).trans hleft,
    fun m hm h1 => (hregs _ _ _ ?_).trans (hddr m hm h1)⟩
  · simp only [dieKey, Fld.key, R.HUB_DIE_STATUS_READY, dieB]
    omega
  · simp only [dieKey, Fld.key, R.DDR_STATUS_STATE, ddrB, dieB]
    omega

/-- Settles O53: locks, modules and crossings answer from their own registers, which the device's summaries leave alone, and
a die that is held keeps the status in which it is held. -/
theorem modulesLocksAndDies : Obligations.ModulesLocksAndDies := by
  unfold Obligations.ModulesLocksAndDies
  exact ⟨error0_leads, error1_leads, d2dRetrain_leads, d2dRetrain_kept, d2dRetrainCmd_leads, trained_leads, down_leads,
    isolated_leads, moduleRetry_leads, resync_leads, resyncRetry_leads, acquire_free, acquire_held, acquire_lower,
    acquire_denied, release_owner, release_other, clearBroken_owner, clearBroken_other, force_leads, force_denied,
    leaseExpired_leads, dieReset_leads, release_leads, leave_leads, ready_leads, late_leads⟩
end Sys2Proof.PowerModes
end

section
/-!
PROOFS. The Headwater timebase: SET and pending steps, the switches of the followed input, and the links with their
references.
-/

namespace Sys2Proof.Headwater
open Sys2Proof Sys2Proof.Machine Sys2Proof.Safety Sys2Proof.Scope Sys2Proof.PowerModes

/-! ### Messages that leave (R116, R121) -/

theorem hwSend_kept (link t : Nat) (l : List Nat) (s : State) : (hwSend link t l s).ht = s.ht ∧
    (hwSend link t l s).regs = s.regs ∧ (hwSend link t l s).time.setReq = s.time.setReq := by
  unfold hwSend
  split
  · exact ⟨rfl, rfl, rfl⟩
  · exact ⟨rfl, rfl, rfl⟩

/-- A TIME message leaves HT, the registers and a latched SET alone. -/
theorem sendTime_kept (t : Nat) (s : State) : (sendTime t s).ht = s.ht ∧
    (sendTime t s).regs = s.regs ∧ (sendTime t s).time.setReq = s.time.setReq := by
  unfold sendTime
  split
  · exact ⟨rfl, rfl, rfl⟩
  · exact hwSend_kept ..

/-! ### SET (R128) -/

theorem timeSet_latched {s : State} (h : setReject (rdPair s timeB R.TIME_SET_LO_SET R.TIME_SET_HI_SET) s = 0) :
    timeSet s = modTime (fun x => { x with
      setReq := some (rdPair s timeB R.TIME_SET_LO_SET R.TIME_SET_HI_SET, (s.ht / ms + 1) * ms) }) s := by
  simp [timeSet, h]

theorem timeSet_rejected {s : State} (h : setReject (rdPair s timeB R.TIME_SET_LO_SET R.TIME_SET_HI_SET) s ≠ 0) :
    timeSet s = timeRejected (setReject (rdPair s timeB R.TIME_SET_LO_SET R.TIME_SET_HI_SET) s) 1 s := by
  simp [timeSet, h]

/-- The state without the latched SET. -/
def unlatched (s : State) : State := modTime (fun x => { x with setReq := none }) s

section Load
variable {s : State} {v u : Nat} (hreq : s.time.setReq = some (v, u)) (hdue : u ≤ s.ht)
include hreq hdue

theorem timeSetLoad_due : timeSetLoad s = if setReject v s != 0 then timeRejected (setReject v s) 1 (unlatched s)
    else sendTime v { raise 0x020A noCh v (unlatched s) with ht := v } := by
  unfold timeSetLoad
  rw [hreq]
  exact if_neg (Nat.not_lt.mpr hdue)

theorem timeSetLoad_loaded (h : setReject v s = 0) :
    timeSetLoad s = sendTime v { raise 0x020A noCh v (unlatched s) with ht := v } := by
  rw [timeSetLoad_due hreq hdue, h]
  rfl

theorem timeSetLoad_rejected (h : setReject v s ≠ 0) :
    timeSetLoad s = timeRejected (setReject v s) 1 (unlatched s) := by
  rw [timeSetLoad_due hreq hdue, if_pos (bne_iff_ne.mpr h)]

end Load

theorem setReject_eq (s : State) (v : Nat) : setReject v s = if inUse s = true then 1
    else if rd s timeB R.TIME_CTRL_ROLE ≠ 1 then 2 else if 2 ^ 63 ≤ v then 3 else 0 := by
  simp [setReject, isMaster]

/-- Settles O21: a SET is judged by `setReject` at the write and again at its load instant. -/
theorem timeSetIsLatchedAndLoaded : Obligations.TimeSetIsLatchedAndLoaded := by
  unfold Obligations.TimeSetIsLatchedAndLoaded
  refine ⟨fun s h => leads_run (f := timeSet) rfl ?_,
    fun s h => exec_of_effect (f := timeSet) rfl (timeSet_rejected (s := begun s) h), setReject_eq,
    fun s v u hreq hdue h => leads_run (f := timeSetLoad) rfl ?_,
    fun s v u hreq hdue h => leads_run (f := timeSetLoad) rfl ?_⟩
  · rw [done_time, done_ht, done_regs, timeSet_latched (s := begun s) h]
    exact ⟨rfl, rfl, rfl⟩
  · rw [done_time, done_ht, timeSetLoad_loaded (s := begun s) hreq hdue h]
    obtain ⟨hht, -, hset⟩ := sendTime_kept v { raise 0x020A noCh v (unlatched (begun s)) with ht := v }
    exact ⟨hht, hset.trans (congrArg TimeSt.setReq (raise_time ..))⟩
  · rw [done_time, done_ht, done_regs, timeSetLoad_rejected (s := begun s) hreq hdue h, timeRejected, raise_ht,
      raise_time, raise_regs]
    exact ⟨rfl, rfl, rfl⟩

/-! ### States of the timebase (R151) -/

theorem timeState_done (f : State → State) (s : State) : timeState (done f s) = timeState (f (begun s)) := rd_done ..
theorem htValid_done (f : State → State) (s : State) : htValid (done f s) = htValid (f (begun s)) := rdB_done ..
theorem inValid_done (f : State → State) (s : State) (b : Bool) : inValid (done f s) b = inValid (f (begun s)) b :=
  rdB_done ..
theorem followsB_done (f : State → State) (s : State) : followsB (done f s) = followsB (f (begun s)) := rdB_done ..

/-- A field of the time block other than STATE, VALID and the hop count outlives a change of state. -/
theorem rd_setTimeState (st : Nat) (s : State) {b : Nat} {f : Fld} {i : Nat}
    (hs : R.TIME_STATUS_STATE.key timeB 0 ≠ f.key b i) (hv : R.TIME_STATUS_VALID.key timeB 0 ≠ f.key b i)
    (hh : R.TIME_SRC_HOP.key timeB 0 ≠ f.key b i) : rd (setTimeState st s) b f i = rd s b f i := by
  unfold setTimeState
  extract_lets v old s1 s2
  have h2 : rd s2 b f i = rd s b f i := by
    unfold s2 s1
    split
    · rw [wrB, rd_wr_ne _ _ _ _ _ _ _ _ hv, rd_wr_ne _ _ _ _ _ _ _ _ hs]
    · rw [rd_wr_ne _ _ _ _ _ _ _ _ hh, wrB, rd_wr_ne _ _ _ _ _ _ _ _ hv, rd_wr_ne _ _ _ _ _ _ _ _ hs]
  clear_value s2
  exact (when_keeps (rd · b f i) _ _ s2 (rd_raise ..)).trans h2

/-- STATE and VALID after a change of state. -/
theorem setTimeState_shown (st : Nat) (s : State) : timeState (setTimeState st s) = st % 8 ∧
    htValid (setTimeState st s) = ((st == 1 && rdB s timeB R.TIME_STATUS_REF_OK) || st == 2 || st == 3) := by
  unfold setTimeState
  extract_lets v old s1 s2
  have h1 : timeState s1 = st % 8 ∧ htValid s1 = v :=
    ⟨(rd_wr_ne _ _ _ _ _ _ _ _ (by decide)).trans (rd_wr_same ..), rdB_wrB_same _ _ _ (by decide) _⟩
  clear_value s1
  have h2 : timeState s2 = timeState s1 ∧ htValid s2 = htValid s1 := by
    unfold s2
    split
    · exact ⟨rfl, rfl⟩
    · exact ⟨rd_wr_ne _ _ _ _ _ _ _ _ (by decide), congrArg (· == 1) (rd_wr_ne _ _ _ _ _ _ _ _ (by decide))⟩
  clear_value s2
  refine ⟨(when_keeps timeState _ _ s2 (rd_raise ..)).trans (h2.1.trans h1.1),
    (when_keeps htValid _ _ s2 (congrArg (· == 1) (rd_raise ..))).trans (h2.2.trans h1.2)⟩

@[simp] theorem setTimeState_time (st : Nat) (s : State) : (setTimeState st s).time = s.time := by
  unfold setTimeState
  extract_lets v old s1 s2
  have h2 : s2.time = s.time := by
    unfold s2
    split
    · rfl
    · rfl
  clear_value s2
  exact (when_keeps State.time _ _ s2 (raise_time ..)).trans h2

@[simp] theorem setTimeState_ht (st : Nat) (s : State) : (setTimeState st s).ht = s.ht :=
  (setTimeState_quiet st s).2.2.1

/-! ### Steps (R134 to R138) -/

/-- The HT that a step by `-o` leads to: whole ticks of it, and none below 0. -/
abbrev steppedHt (o : Int) (s : State) : Nat := (max 0 ((s.ht : Int) - o / 16)).toNat

theorem stepHt_made {o : Int} {s : State} (h : (s.ht : Int) - o / 16 < 2 ^ 63) : (stepHt o s).ht = steppedHt o s ∧
    (stepHt o s).regs = s.regs ∧ (stepHt o s).time.stepOfs = 0 := by
  have hv : ¬ 2 ^ 63 ≤ steppedHt o s := by
    simp only [steppedHt]
    omega
  unfold stepHt
  rw [if_neg hv]
  exact ⟨rfl, raise_regs .., rfl⟩

theorem applyStep_shown {s : State} (h : (s.ht : Int) - s.time.stepOfs / 16 < 2 ^ 63) :
    (applyStep s).ht = steppedHt s.time.stepOfs s ∧ rdB (applyStep s) timeB R.TIME_STATUS_STEP_PENDING = false ∧
      (applyStep s).time.stepOfs = 0 ∧ (timeState s = 4 → timeState (applyStep s) = 0) := by
  unfold applyStep
  extract_lets u
  obtain ⟨hht, hregs, hofs⟩ : u.ht = _ ∧ u.regs = (wrB timeB R.TIME_STATUS_STEP_PENDING false s).regs ∧
      u.time.stepOfs = 0 :=
    stepHt_made (s := wrB timeB R.TIME_STATUS_STEP_PENDING false s) h
  have hpend : rdB u timeB R.TIME_STATUS_STEP_PENDING = false :=
    (congrArg (· == 1) (rd_of_regs hregs ..)).trans (rdB_wrB_same _ _ _ (by decide) s)
  have hstate : timeState u = timeState s := (rd_of_regs hregs ..).trans (rd_wr_ne _ _ _ _ _ _ _ _ (by decide))
  clear_value u
  split
  · obtain ⟨hst, -⟩ := setTimeState_shown 0 u
    exact ⟨(setTimeState_ht ..).trans hht,
      (congrArg (· == 1) (rd_setTimeState 0 u (by decide) (by decide) (by decide))).trans hpend,
      (congrArg TimeSt.stepOfs (setTimeState_time ..)).trans hofs, fun _ => hst⟩
  · next h4 => exact ⟨hht, hpend, hofs, fun hs => absurd (hstate.trans hs) h4⟩

/-- Settles O22: both commands apply the pending step in the same way, STEP_NOW where R138 does not reject it. -/
theorem pendingStepsAreAppliedOnlyOutOfUse : Obligations.PendingStepsAreAppliedOnlyOutOfUse := by
  unfold Obligations.PendingStepsAreAppliedOnlyOutOfUse
  refine ⟨fun s hu hb hp => leads_run (f := timeStepNow) rfl ?_,
    fun s hu => exec_of_effect (f := timeStepNow) rfl (if_pos hu),
    fun s hu hp => exec_of_effect (f := timeStepNow) rfl ?_,
    fun s hu hb hp => leads_run (f := stepPendingApply) rfl ?_,
    fun s hu => exec_of_effect (f := stepPendingApply) rfl ?_⟩
  · have heq : timeStepNow (begun s) = applyStep (begun s) := by
      simp [timeStepNow, show inUse (begun s) = false from hu,
        show rdB (begun s) timeB R.TIME_STATUS_STEP_PENDING = true from hp]
    obtain ⟨hht, hpend, hofs, -⟩ := applyStep_shown (s := begun s) hb
    rw [done_ht, rdB_done, done_time, heq]
    exact ⟨hht, hpend, hofs⟩
  · simp [timeStepNow, timeRejected, show inUse (begun s) = false from hu,
      show rdB (begun s) timeB R.TIME_STATUS_STEP_PENDING = false from hp]
  · have heq : stepPendingApply (begun s) = applyStep (begun s) := by
      simp [stepPendingApply, show inUse (begun s) = false from hu,
        show rdB (begun s) timeB R.TIME_STATUS_STEP_PENDING = true from hp]
    obtain ⟨hht, hpend, -, hst⟩ := applyStep_shown (s := begun s) hb
    rw [done_ht, rdB_done, timeState_done, heq]
    exact ⟨hht, hpend, hst⟩
  · simp [stepPendingApply, show inUse (begun s) = true from hu]
end Sys2Proof.Headwater
end

section
namespace Sys2Proof.Headwater
open Sys2Proof Sys2Proof.Machine Sys2Proof.Safety Sys2Proof.Scope Sys2Proof.PowerModes

/-! ### The followed input (R130 to R132) -/

/-- The registers that show the followed source. -/
def sourceFlds : List Fld :=
  [R.TIME_OFFSET_O, R.TIME_SRC_FLAGS, R.TIME_SRC_HOP, R.TIME_SRC_ID_ID, R.TIME_STATUS_SRC_HOLDOVER]

/-- The field lies in the time block and is none of `l`. -/
abbrev OtherThan (l : List Fld) (f : Fld) : Prop := ∀ g ∈ l, g.key timeB 0 ≠ f.key timeB 0

theorem rd_showSource (s : State) {f : Fld} (h : OtherThan sourceFlds f) :
    rd (showSource s) timeB f = rd s timeB f := by
  simp only [OtherThan, sourceFlds, List.forall_mem_cons] at h
  obtain ⟨hofs, hflags, hhop, hid, hhold, -⟩ := h
  unfold showSource
  extract_lets i s1 s2 s3
  have h3 : rd s3 timeB f = rd s timeB f := by
    unfold s3 s2 s1
    rw [rd_wr_ne _ _ _ _ _ _ _ _ hofs, wrB, rd_wr_ne _ _ _ _ _ _ _ _ hhold, rd_wr_ne _ _ _ _ _ _ _ _ hid,
      rd_wr_ne _ _ _ _ _ _ _ _ hflags]
  clear_value s3
  split
  · exact (rd_wr_ne _ _ _ _ _ _ _ _ hhop).trans h3
  · exact h3

@[simp] theorem showSource_time (s : State) : (showSource s).time = s.time := by
  unfold showSource
  extract_lets i s1 s2 s3
  have h1 : s1.time = s.time := (wr_time ..).trans (wr_time ..)
  have h2 : s2.time = s1.time := wrB_time ..
  have h3 : s3.time = s.time := (wr_time ..).trans (h2.trans h1)
  split
  · exact (wr_time ..).trans h3
  · exact h3

/-- What a switch shows of the source that it takes. -/
theorem switchSource_shown (reason : Nat) (s : State) : followsB (switchSource reason s) = !followsB s ∧
    (switchSource reason s).time.following = true ∧
    rd (switchSource reason s) timeB R.TIME_ERRCNT_SWITCHES = min 255 (rd s timeB R.TIME_ERRCNT_SWITCHES + 1) := by
  unfold switchSource
  extract_lets b s1 s2 cnt s3
  have hb : followsB s3 = b :=
    (congrArg (· == 1) (rd_wr_ne s2 _ _ _ _ _ _ _ (by decide))).trans (rdB_wrB_same _ _ _ (by decide) s)
  have hcnt : cnt = rd s timeB R.TIME_ERRCNT_SWITCHES := rd_wr_ne s _ _ _ _ _ _ _ (by decide)
  have hsw : rd s3 timeB R.TIME_ERRCNT_SWITCHES = min 255 (rd s timeB R.TIME_ERRCNT_SWITCHES + 1) := by
    rw [← hcnt]
    have hlt : satU 8 (cnt + 1) < 2 ^ 8 := lt_of_le_of_lt (Nat.min_le_right ..) (by decide)
    exact ((rd_wr_same s2 _ _ _ _).trans (Nat.mod_eq_of_lt hlt)).trans (Nat.min_comm ..)
  have hfol : s3.time.following = true := rfl
  clear_value s3
  refine ⟨(congrArg (· == 1) ((rd_raise ..).trans (rd_showSource s3 (by decide)))).trans hb, ?_,
    ((rd_raise ..).trans (rd_showSource s3 (by decide))).trans hsw⟩
  rw [raise_time, showSource_time, hfol]

/-- HOLDOVER on the followed input for 1 s, and not on the other. -/
theorem srcHoldoverSwitch_switches {s : State} (hm : isMaster s = false) (hf : s.time.following = true)
    (hv : inValid s (!followsB s) = true) (h0 : (hwIn s (followsB s)).holdAt ≠ 0)
    (hat : (hwIn s (followsB s)).holdAt + 1000 * ms ≤ s.tick + 1)
    (hfl : bitOf (hwIn s (!followsB s)).flags 0 = false) : srcHoldoverSwitch s = switchSource 3 s := by
  have hlong : 1000 * ms ≤ s.tick + 1 - (hwIn s (followsB s)).holdAt := by omega
  simp only [srcHoldoverSwitch]
  exact if_pos (by simp [hm, hf, hv, h0, hlong, hfl])

/-- PRIMARY is valid for 10 s and the other input is followed. -/
theorem timeRevert_switches {s : State} (hm : isMaster s = false) (hf : s.time.following = true)
    (hr : rdB s timeB R.TIME_CTRL_REVERT = true) (hp : followsB s = !rdB s timeB R.TIME_CTRL_PRIMARY)
    (hv : inValid s (rdB s timeB R.TIME_CTRL_PRIMARY) = true)
    (hat : (hwIn s (rdB s timeB R.TIME_CTRL_PRIMARY)).validAt + 10000 * ms ≤ s.tick) :
    timeRevert s = switchSource 5 s := by
  have hlong : 10000 * ms ≤ s.tick - (hwIn s (rdB s timeB R.TIME_CTRL_PRIMARY)).validAt := by omega
  simp only [timeRevert]
  exact if_pos (by simp [hm, hf, hr, hp, hv, hlong])

theorem rd_timeCounters_reset (s : State) (f : Fld) (hf : f ∈ timeCounters) :
    rd (resetFlds timeB timeCounters s) timeB f = 0 := by
  obtain ⟨hzero, hn, halone⟩ := (by decide : ∀ f ∈ timeCounters, f.reset 0 = 0 ∧ 0 < f.n ∧ ∀ g ∈ timeCounters,
    ∀ i < g.n, g.key timeB i = f.key timeB 0 → g.reset i = f.reset 0 ∧ g.reset i < 2 ^ g.w) f hf
  exact (rd_resetFlds hf hn halone s).trans hzero

/-- Settles O23: each of the three switches is `switchSource` with a reason of its own. -/
theorem sourcesAreSwitched : Obligations.SourcesAreSwitched := by
  unfold Obligations.SourcesAreSwitched
  refine ⟨fun s hv => leads_run (f := timeSwitch) rfl ?_, fun s hv => exec_of_effect (f := timeSwitch) rfl ?_,
    fun s hm hf hv h0 hat hfl => leads_run (f := srcHoldoverSwitch) rfl ?_,
    fun s hm hf hr hp hv hat => leads_run (f := timeRevert) rfl ?_,
    fun s => leads_run (f := resetFlds timeB timeCounters) rfl ?_⟩
  · have heq : timeSwitch (begun s) = switchSource 4 (begun s) := if_pos hv
    rw [followsB_done, done_time, rd_done, heq]
    exact switchSource_shown 4 (begun s)
  · have hinv : ¬ inValid (begun s) (!followsB (begun s)) = true := Bool.eq_false_iff.mp hv
    exact if_neg hinv
  · obtain ⟨hb, -, hsw⟩ := switchSource_shown 3 (begun s)
    rw [followsB_done, rd_done, srcHoldoverSwitch_switches (s := begun s) hm hf hv h0 hat hfl]
    exact ⟨hb, hsw⟩
  · obtain ⟨hb, -⟩ := switchSource_shown 5 (begun s)
    rw [followsB_done, timeRevert_switches (s := begun s) hm hf hr hp hv hat, hb]
    exact (congrArg not hp).trans (Bool.not_not _)
  · simp only [rd_done, done_ht]
    exact ⟨rd_timeCounters_reset _ _ (by simp [timeCounters]), rd_timeCounters_reset _ _ (by simp [timeCounters]),
      rd_timeCounters_reset _ _ (by simp [timeCounters]), rd_timeCounters_reset _ _ (by simp [timeCounters]), rfl⟩
end Sys2Proof.Headwater
end

section
namespace Sys2Proof.Headwater
open Sys2Proof Sys2Proof.Machine Sys2Proof.Safety Sys2Proof.Scope Sys2Proof.PowerModes

/-! ### Inputs that are lost and regained (R118, R129, R140) -/

theorem hwIn_done (f : State → State) (s : State) (b : Bool) : hwIn (done f s) b = hwIn (f (begun s)) b := by
  rw [hwIn, hwIn, done_time]

/-- The operation leaves the validity flags of the inputs and what is known of them alone. -/
def KeepsInputs (f : State → State) : Prop := ∀ s, inValid (f s) = inValid s ∧ hwIn (f s) = hwIn s

theorem inValid_of_rd {s t : State} (h : ∀ b, rd t timeB (validFld b) = rd s timeB (validFld b)) :
    inValid t = inValid s := funext fun b => congrArg (· == 1) (h b)

theorem hwIn_of_time {s t : State} (ha : t.time.inA = s.time.inA) (hb : t.time.inB = s.time.inB) :
    hwIn t = hwIn s := funext fun b => by simp only [hwIn, ha, hb]

theorem switchSource_inputs (reason : Nat) : KeepsInputs (switchSource reason) := fun s => by
  unfold switchSource
  extract_lets b s1 s2 cnt s3
  have h3 : inValid s3 = inValid s ∧ hwIn s3 = hwIn s := by
    refine ⟨inValid_of_rd fun c => (rd_wr_ne s2 _ _ _ _ _ _ _ ?_).trans (rd_wr_ne s _ _ _ _ _ _ _ ?_),
      hwIn_of_time rfl rfl⟩
    · cases c <;> decide
    · cases c <;> decide
  clear_value s3
  obtain ⟨hv, hi⟩ := h3
  have htime : (raise 0x0202 noCh (b2n b + reason * 256) (showSource s3)).time = s3.time :=
    (raise_time ..).trans (showSource_time s3)
  refine ⟨(inValid_of_rd fun c => (rd_raise ..).trans (rd_showSource s3 ?_)).trans hv,
    (hwIn_of_time (congrArg _ htime) (congrArg _ htime)).trans hi⟩
  cases c <;> decide

theorem enterHoldover_inputs : KeepsInputs enterHoldover := fun s => by
  unfold enterHoldover
  split
  · exact ⟨rfl, rfl⟩
  · extract_lets u
    have hu : inValid u = inValid s ∧ hwIn u = hwIn s := ⟨rfl, hwIn_of_time rfl rfl⟩
    clear_value u
    have htime : (raise 0x0204 noCh 0 (setTimeState 3 u)).time = u.time := (raise_time ..).trans (setTimeState_time 3 u)
    refine ⟨(inValid_of_rd fun c => (rd_raise ..).trans (rd_setTimeState 3 u ?_ ?_ ?_)).trans hu.1,
      (hwIn_of_time (congrArg _ htime) (congrArg _ htime)).trans hu.2⟩
    · cases c <;> decide
    · cases c <;> decide
    · cases c <;> decide

/-- An input that is lost is not valid, whatever the follower does then. -/
theorem loseInput_shown (b : Bool) (reason : Nat) (s : State) :
    inValid (loseInput b reason s) b = false ∧ hwIn (loseInput b reason s) = hwIn s := by
  unfold loseInput
  split
  · next hv => exact ⟨by simpa using hv, rfl⟩
  extract_lets s1 s2 s3
  have h2 : inValid s2 b = false ∧ hwIn s2 = hwIn s := by
    have hv : inValid s1 b = false :=
      (congrArg (· == 1) (rd_wr_ne _ _ _ _ _ _ _ _ (by cases b <;> decide))).trans
        (rdB_wrB_same _ _ _ (by cases b <;> decide) s)
    have htime : s2.time = s.time := raise_time ..
    exact ⟨(congrArg (· == 1) (rd_raise ..)).trans hv, hwIn_of_time (congrArg _ htime) (congrArg _ htime)⟩
  clear_value s2
  have h3 : inValid s3 b = false ∧ hwIn s3 = hwIn s := ⟨h2.1, h2.2⟩
  clear_value s3
  have hfrom {f : State → State} {u : State} (hf : KeepsInputs f) (hu : inValid u b = false ∧ hwIn u = hwIn s) :
      inValid (f u) b = false ∧ hwIn (f u) = hwIn s :=
    ⟨(congrFun (hf u).1 b).trans hu.1, (hf u).2.trans hu.2⟩
  split
  · exact h2
  split
  · exact hfrom (switchSource_inputs 1) h2
  split
  · exact hfrom enterHoldover_inputs h3
  split
  · exact ⟨h3.1, (hwIn_of_time rfl rfl).trans h3.2⟩
  · exact h3

theorem hwIn_modIn_same (b : Bool) (f : HwIn → HwIn) (s : State) : hwIn (modIn b f s) b = f (hwIn s b) := by
  cases b <;> rfl

theorem gainInput_lock (b : Bool) (s : State) : (hwIn (gainInput b s) b).lock = (hwIn s b).lock := by
  unfold gainInput
  extract_lets i ok s1
  have h1 : (hwIn s1 b).lock = (hwIn s b).lock := by cases b <;> rfl
  clear_value s1
  split
  · rfl
  split
  · exact h1
  · exact h1

theorem abUpdate_inputs (msg : Bool) (s : State) : hwIn (abUpdate msg s) = hwIn s := by
  unfold abUpdate
  split
  · rfl
  extract_lets d s1 s2 s3
  split
  · split
    · exact hwIn_of_time rfl rfl
    · exact (hwIn_of_time (congrArg _ (raise_time ..)) (congrArg _ (raise_time ..))).trans (hwIn_of_time rfl rfl)
  · have h3 : hwIn s3 = hwIn s := when_keeps hwIn _ _ _ (hwIn_of_time rfl rfl)
    exact (when_keeps hwIn _ _ _ rfl).trans h3

/-! ### Holdover that expires, and the reference (R139 to R146, R839) -/

theorem holdoverExpired_expires {s : State} (h3 : timeState s = 3)
    (he : s.time.e0 ≤ rd s timeB R.TIME_BOUND_HOLD_MAX)
    (hover : (rd s timeB R.TIME_BOUND_HOLD_MAX - s.time.e0) * (16 * 10 ^ 23) <
      (s.tick - s.time.holdAt) * (2 * 10 ^ 14) + 165 * (s.tick - s.time.holdAt) * (s.tick - s.time.holdAt)) :
    holdoverExpired s = setTimeState 4 s := by
  simp only [holdoverExpired]
  refine if_pos ?_
  rw [h3, Nat.sub_eq_zero_of_le he]
  simpa using hover

/-- EXPIRED is no state in which HT is valid. -/
theorem setTimeState_expired (s : State) : timeState (setTimeState 4 s) = 4 ∧ htValid (setTimeState 4 s) = false :=
  setTimeState_shown 4 s

theorem refGone_shown (s : State) : timeState (refGone s) = 4 ∧ htValid (refGone s) = false ∧ (refGone s).ht = s.ht ∧
    rdB (refGone s) timeB R.TIME_STATUS_REF_OK = rdB s timeB R.TIME_STATUS_REF_OK := by
  unfold refGone
  extract_lets u
  have hu : u.ht = s.ht ∧ u.regs = s.regs := ⟨when_keeps State.ht _ _ s rfl, when_keeps State.regs _ _ s rfl⟩
  clear_value u
  obtain ⟨hst, hv⟩ := setTimeState_expired (raise 0x020D noCh 1 u)
  refine ⟨hst, hv, ((setTimeState_ht ..).trans (raise_ht ..)).trans hu.1, congrArg (· == 1) ?_⟩
  exact ((rd_setTimeState 4 _ (by decide) (by decide) (by decide)).trans (rd_raise ..)).trans (rd_of_regs hu.2 ..)

/-- A master that loses its reference is EXPIRED, in HOLD like any other device. -/
theorem refLost_shown {s : State} (hm : isMaster s = true) (hr : rdB s timeB R.TIME_STATUS_REF_OK = true) :
    rdB (refLost s) timeB R.TIME_STATUS_REF_OK = false ∧ timeState (refLost s) = 4 ∧ htValid (refLost s) = false ∧
      (refLost s).ht = s.ht := by
  unfold refLost
  rw [hr]
  simp only [Bool.not_true, Bool.false_eq_true, if_false]
  have hlost : rdB (wrB timeB R.TIME_STATUS_REF_OK false s) timeB R.TIME_STATUS_REF_OK = false :=
    rdB_wrB_same _ _ _ (by decide) s
  have hmaster : isMaster (wrB timeB R.TIME_STATUS_REF_OK false s) = true :=
    (congrArg (· == 1) (rd_wr_ne _ _ _ _ _ _ _ _ (by decide))).trans hm
  have hht : (wrB timeB R.TIME_STATUS_REF_OK false s).ht = s.ht := rfl
  generalize wrB timeB R.TIME_STATUS_REF_OK false s = u at *
  split
  · obtain ⟨hst, hv, hht', href⟩ := refGone_shown u
    exact ⟨href.trans hlost, hst, hv, hht'.trans hht⟩
  · obtain ⟨hst, hv⟩ := setTimeState_expired (raise 0x020D noCh 0 u)
    refine ⟨(congrArg (· == 1) ?_ : _ = rdB u timeB R.TIME_STATUS_REF_OK).trans hlost, hst, hv,
      ((setTimeState_ht ..).trans (raise_ht ..)).trans hht⟩
    exact (rd_setTimeState 4 _ (by decide) (by decide) (by decide)).trans (rd_raise ..)

/-- The role is taken at hop 0, with a valid HT. -/
theorem takeMaster_shown {s : State} (hm : isMaster s = true) (hr : rdB s timeB R.TIME_STATUS_REF_OK = true)
    (hst : timeState s ≠ 1) : rdB (takeMaster s) timeB R.TIME_STATUS_REF_OK = true ∧ timeState (takeMaster s) = 1 ∧
      htValid (takeMaster s) = true ∧ rd (takeMaster s) timeB R.TIME_SRC_HOP = 0 := by
  have htake : takeMaster s = raise 0x0201 noCh (1 + 8 * rd (wr timeB R.TIME_SRC_ID_ID (rd (setTimeState 1 s) timeB
      R.TIME_ID_ID) (wr timeB R.TIME_SRC_HOP 0 (setTimeState 1 s))) timeB R.TIME_STATUS_FOLLOWING)
      (wr timeB R.TIME_SRC_ID_ID (rd (setTimeState 1 s) timeB R.TIME_ID_ID)
        (wr timeB R.TIME_SRC_HOP 0 (setTimeState 1 s))) := if_neg (by simp [hm, hr, hst])
  obtain ⟨hstate, hvalid⟩ := setTimeState_shown 1 s
  have href : rdB (setTimeState 1 s) timeB R.TIME_STATUS_REF_OK = true :=
    (congrArg (· == 1) (rd_setTimeState 1 s (by decide) (by decide) (by decide))).trans hr
  rw [hr] at hvalid
  generalize setTimeState 1 s = u at *
  have hkeep {f : Fld} (hid : R.TIME_SRC_ID_ID.key timeB 0 ≠ f.key timeB 0)
      (hhop : R.TIME_SRC_HOP.key timeB 0 ≠ f.key timeB 0) : rd (takeMaster s) timeB f = rd u timeB f := by
    rw [htake, rd_raise, rd_wr_ne _ _ _ _ _ _ _ _ hid, rd_wr_ne _ _ _ _ _ _ _ _ hhop]
  refine ⟨(congrArg (· == 1) (hkeep (by decide) (by decide))).trans href, (hkeep (by decide) (by decide)).trans hstate,
    (congrArg (· == 1) (hkeep (by decide) (by decide))).trans hvalid, ?_⟩
  rw [htake, rd_raise, rd_wr_ne _ _ _ _ _ _ _ _ (by decide), rd_wr_same]
  rfl

/-! ### The launch clock of a die (R115) -/

theorem holdWords_clkLock (d : Nat) (iso : Bool) (s : State) :
    rdB (holdWords d iso s) (dieB d) R.HUB_DIE_STATUS_CLK_LOCK = false := by
  have hne : R.HUB_DIE_STATUS_READY.key (dieB d) 0 ≠ R.HUB_DIE_STATUS_CLK_LOCK.key (dieB d) 0 := by
    simp only [Fld.key, R.HUB_DIE_STATUS_READY, R.HUB_DIE_STATUS_CLK_LOCK]
    omega
  unfold holdWords
  extract_lets b s1 s2
  have h2 : rdB s2 (dieB d) R.HUB_DIE_STATUS_CLK_LOCK = false :=
    (congrArg (· == 1) (rd_wr_ne _ _ _ _ _ _ _ _ hne)).trans
      (rdB_wrB_same _ R.HUB_DIE_STATUS_CLK_LOCK false (by decide) s1)
  exact h2

/-- The launch clock of a die that is held has no lock. -/
theorem holdDie_clkLock {d : Nat} (hd : d < 4) (iso : Bool) (s : State) :
    rdB (holdDie d iso s) (dieB d) R.HUB_DIE_STATUS_CLK_LOCK = false := by
  have hkey : shielded (R.HUB_DIE_STATUS_CLK_LOCK.key (dieB d) 0) = true ∧
      dieStatusKey d (R.HUB_DIE_STATUS_CLK_LOCK.key (dieB d) 0) :=
    (by decide : ∀ d < 4, shielded (R.HUB_DIE_STATUS_CLK_LOCK.key (dieB d) 0) = true ∧
      dieStatusKey d (R.HUB_DIE_STATUS_CLK_LOCK.key (dieB d) 0)) d hd
  have hrest (u : State) : Apart (dieStatusKey d) (fun _ => False) u (refreshOffline (sweepDie d u)) :=
    (sweepDie_apart d (fun n hn => dieStatusKey_offChannel hd hn) (fun h => h) (fun _ _ h => h) u).trans
      (refreshOffline_apart (fun k hk => by simp only [dieStatusKey, dieB] at hk; omega) _)
  rw [holdDie_eq]
  exact (congrArg (· == 1) (rd_of_only (hrest _).1 hkey.1 hkey.2)).trans (holdWords_clkLock d iso s)

/-! ### The statement -/

theorem hwCharacterLock_output {s : State} (hh : s.mode ≠ .hold) :
    hwCharacterLock 2 s = modTime (fun t => { t with outLock := true }) s := by
  simp [hwCharacterLock, hwIdle, hh]

theorem hwCharacterLock_input {s : State} {k : Nat} (hh : s.mode ≠ .hold) (hk : k ≠ 2) : hwCharacterLock k s =
    abUpdate false (gainInput (k == 1) (modIn (k == 1) (fun i => { i with lock := true }) s)) := by
  simp [hwCharacterLock, hwIdle, hh, hk]

theorem hwLinkLost_input {s : State} {k : Nat} (hk : k ≠ 2) :
    hwLinkLost k s = loseInput (k == 1) 1 (modIn (k == 1) (fun i => { i with lock := false }) s) := if_neg hk

/-- The number of a link that is no output's is its input's. -/
theorem link_eq_input (k : Fin 3) : (k == 1) = ((k : Nat) == 1) := by
  revert k
  decide

theorem lock_input_leads (s : State) (k : Fin 3) (hh : s.mode ≠ .hold) (hk : k ≠ 2) :
    Leads (.hwCharacterLock k) s fun t => (hwIn t (k == 1)).lock = true := by
  have hk2 : (k : Nat) ≠ 2 := fun h => hk (Fin.ext h)
  refine leads_run (f := hwCharacterLock k) rfl ?_
  rw [hwIn_done, hwCharacterLock_input (s := begun s) hh hk2, abUpdate_inputs, link_eq_input, gainInput_lock,
    hwIn_modIn_same]

theorem lost_input_leads (s : State) (k : Fin 3) (hk : k ≠ 2) : Leads (.hwLinkLost k) s fun t =>
    (hwIn t (k == 1)).lock = false ∧ inValid t (k == 1) = false := by
  have hk2 : (k : Nat) ≠ 2 := fun h => hk (Fin.ext h)
  refine leads_run (f := hwLinkLost k) rfl ?_
  rw [hwIn_done, inValid_done, hwLinkLost_input hk2, link_eq_input]
  obtain ⟨hv, hi⟩ := loseInput_shown (k.val == 1) 1 (modIn (k.val == 1) (fun i => { i with lock := false }) (begun s))
  rw [hi, hwIn_modIn_same]
  exact ⟨rfl, hv⟩

theorem hwInputTimeout_lost {s : State} {b : Bool}
    (hseen : (hwIn s b).seen = 0 ∨ 3 * ms + (hwIn s b).seen < s.tick + 1) :
    hwInputTimeout b s = loseInput b 2 s := by
  have hlate : (hwIn s b).seen = 0 ∨ 3 * ms < s.tick + 1 - (hwIn s b).seen :=
    hseen.imp id fun h => Nat.lt_sub_of_add_lt h
  simp only [hwInputTimeout]
  exact if_pos (by simpa using hlate)

theorem input_timeout_leads (s : State) (b : Bool)
    (hseen : (hwIn s b).seen = 0 ∨ 3 * ms + (hwIn s b).seen < s.tick + 1) :
    Leads (.hwInputTimeout b) s fun t => inValid t b = false := by
  refine leads_run (f := hwInputTimeout b) rfl ?_
  rw [inValid_done, hwInputTimeout_lost (s := begun s) hseen]
  exact (loseInput_shown b 2 (begun s)).1

/-- REF_OK comes first; the role is taken once it has been 1 for a second. -/
theorem refRestored_ok {s : State} (hr : rdB s timeB R.TIME_STATUS_REF_OK = false) :
    refRestored s = modTime (fun t => { t with refAt := s.tick }) (wrB timeB R.TIME_STATUS_REF_OK true s) :=
  if_pos (by simp [hr])

theorem refRestored_takes {s : State} (hr : rdB s timeB R.TIME_STATUS_REF_OK = true) (hst : timeState s = 4)
    (hh : s.mode ≠ .hold) (hat : s.time.refAt + second ≤ s.tick) : refRestored s = takeMaster s := by
  simp [refRestored, hr, hst, hh, hat]

theorem clockUnlock_leads (s : State) (d : Fin 4) (h : rdB s (dieB d) R.HUB_DIE_STATUS_CLK_LOCK = true) :
    Leads (.launchClockUnlock d) s fun t => rdB t (dieB d) R.HUB_DIE_STATUS_ISOLATED = true ∧
      rdB t (dieB d) R.HUB_DIE_STATUS_IN_RESET = true ∧ rdB t (dieB d) R.HUB_DIE_STATUS_CLK_LOCK = false ∧
      rdB t hubB R.HUB_DEGRADE_DIE_OFFLINE = true := by
  have hheld : clockUnlock d (begun s) = holdDie d true (raise 0x020C noCh d (begun s)) :=
    if_neg (by simp [show rdB (begun s) (dieB d) R.HUB_DIE_STATUS_CLK_LOCK = true from h])
  refine leads_run (f := clockUnlock d) rfl ?_
  rw [rdB_done, rdB_done, rdB_done, rdB_done, hheld]
  obtain ⟨hreset, hiso, -, hoff⟩ := holdDie_status d.isLt true (raise 0x020C noCh d (begun s))
  exact ⟨hiso, hreset, holdDie_clkLock d.isLt true _, hoff⟩

/-- Settles O26: what each event of a link or a reference shows in the inputs' flags and in TIME_STATUS. -/
theorem headwaterLinksAndReferences : Obligations.HeadwaterLinksAndReferences := by
  unfold Obligations.HeadwaterLinksAndReferences
  refine ⟨fun s hh => leads_run (f := hwCharacterLock 2) rfl ?_, lock_input_leads,
    fun s => leads_run (f := hwLinkLost 2) rfl ?_, lost_input_leads, input_timeout_leads,
    fun s h3 he hover => leads_run (f := holdoverExpired) rfl ?_, fun s hm hr => leads_run (f := refLost) rfl ?_,
    fun s hm hst hh hr hat => leads_run (f := refRestored) rfl ?_, fun s hr => leads_run (f := refRestored) rfl ?_,
    clockUnlock_leads⟩
  · rw [done_time, hwCharacterLock_output (s := begun s) hh]
    rfl
  · rw [done_time, done_regs]
    exact ⟨rfl, rfl⟩
  · rw [timeState_done, htValid_done, holdoverExpired_expires (s := begun s) h3 he hover]
    exact setTimeState_expired (begun s)
  · rw [rdB_done, timeState_done, htValid_done, done_ht]
    exact refLost_shown (s := begun s) hm hr
  · have hst' : timeState (begun s) ≠ 1 := fun h1 => absurd (hst.symm.trans h1) (by decide)
    rw [rdB_done, timeState_done, htValid_done, rd_done, refRestored_takes (s := begun s) hr hst hh hat]
    exact takeMaster_shown (s := begun s) hm hr hst'
  · rw [rdB_done, done_time, timeState_done, refRestored_ok (s := begun s) hr]
    exact ⟨rdB_wrB_same timeB R.TIME_STATUS_REF_OK true (by decide) (begun s), rfl,
      rd_wr_ne (begun s) timeB timeB R.TIME_STATUS_STATE R.TIME_STATUS_REF_OK (b2n true) 0 0 (by decide)⟩
end Sys2Proof.Headwater
end

section
/-!
PROOFS. The Weir: decision, staging, release, withdrawal and the voltage loop, with what each leaves in the queue.
-/

namespace Sys2Proof.Launch
open Sys2Proof Sys2Proof.Machine Sys2Proof.Safety Sys2Proof.Scope Sys2Proof.PowerModes

/-! ### What sending leaves of a channel's Weir (R381, R405)

Most commands of the Weir end by sending the LAUNCH packets that have become ready. That takes tokens and factors, and
leaves everything else that the channel's Weir holds. -/

/-- An item without the token it was sent with. -/
def bare (i : Item) : Item := { i with sent := none, lim := 0 }

/-- A channel's Weir without its tokens and factors, head buffers, launch ordered sets and frame's counts. -/
def settled (w : WeirSt) : WeirSt :=
  { w with
    q := w.q.map bare, nextTok := 0, factor := [], facLim := [], corrs := [], bufs := [], setEnd := 0, ahead := [],
    closed := 0, late := [], miss := [], expired := [], edgeLate := [], down := [] }

/-- No output is taken back, and channel `n`'s Weir stays as `settled` shows it. -/
structure Kept (n : Nat) (s t : State) : Prop where
  out : s.out ⊆ t.out
  weir : settled (t.weir n) = settled (s.weir n)

theorem Kept.refl (n : Nat) (s : State) : Kept n s s := ⟨List.Subset.refl _, rfl⟩

theorem Kept.trans {n : Nat} {s t u : State} (h : Kept n s t) (k : Kept n t u) : Kept n s u :=
  ⟨List.Subset.trans h.out k.out, k.weir.trans h.weir⟩

/-- What a change of a channel's Weir leaves of it. -/
theorem weir_keeps {β : Type} (P : WeirSt → β) (n : Nat) {f : WeirSt → WeirSt} (h : ∀ w, P (f w) = P w) (s : State) :
    P ((modWeir n f s).weir n) = P (s.weir n) := (congrArg P (setWeir_same ..)).trans (h _)

theorem weir_of_weirs {s t : State} (h : t.weirs = s.weirs) (n : Nat) : t.weir n = s.weir n := by
  rw [State.weir, h]
  rfl

theorem Kept.of_eq {n : Nat} {s t : State} (hw : t.weirs = s.weirs) (ho : t.out = s.out) : Kept n s t :=
  ⟨ho ▸ List.Subset.refl _, congrArg settled (weir_of_weirs hw n)⟩

theorem kept_modWeir (n : Nat) {f : WeirSt → WeirSt} (h : ∀ w, settled (f w) = settled w) (s : State) :
    Kept n s (modWeir n f s) :=
  ⟨List.Subset.refl _, weir_keeps settled n h s⟩

theorem kept_emitOut (n : Nat) (o : Out) (s : State) : Kept n s (emitOut o s) :=
  ⟨fun _ h => mem_out_emitOut o h, rfl⟩

theorem kept_each {α : Type} {n : Nat} {f : α → State → State} (h : ∀ a s, Kept n s (f a s)) (l : List α) (s : State) :
    Kept n s (each l f s) :=
  each_holds (Kept n s) f l (fun a _ t ht => ht.trans (h a t)) s (Kept.refl n s)

theorem kept_when {n : Nat} {c : Bool} {f : State → State} {s : State} (h : Kept n s (f s)) :
    Kept n s (when_ c f s) := when_holds (Kept n s) c f s (Kept.refl n s) h

/-- A change of the first item that leaves `g` of every item alone leaves it of the list alone. -/
theorem map_modFirst {β : Type} {g : Item → β} {f : Item → Item} (h : ∀ i, g (f i) = g i) (p : Item → Bool)
    (l : List Item) : (modFirst p f l).map g = l.map g := by
  induction l with
  | nil => rfl
  | cons a l ih =>
    unfold modFirst
    split
    · rw [List.map_cons, List.map_cons, h]
    · rw [List.map_cons, List.map_cons, ih]

theorem kept_modQ (n : Nat) {f : List Item → List Item} (h : ∀ q, (f q).map bare = q.map bare) (s : State) :
    Kept n s (modQ n f s) := kept_modWeir n (fun w => by simp only [settled, h]) s

theorem kept_takeFactor (n : Nat) (it : Item) (s : State) : Kept n s (takeFactor n it s) := by
  unfold takeFactor
  split
  · exact Kept.of_eq rfl rfl
  split
  · dsimp only
    split
    · exact Kept.refl n s
    · exact Kept.trans (t := modStr n it.str (fun x => { x with zeroNext := false }) s) (Kept.of_eq rfl rfl)
        (kept_modWeir n (fun _ => by rfl) _)
  · exact Kept.refl n s

theorem kept_modPort (n m : Nat) (f : PortSt → PortSt) (s : State) : Kept n s (modPort m f s) := Kept.of_eq rfl rfl

theorem kept_sendPacket (n m : Nat) (o : Out) (s : State) : Kept n s (sendPacket m o s) := by
  unfold sendPacket
  exact (kept_emitOut n o s).trans (kept_modPort ..)

theorem kept_draw (n w : Nat) (s : State) : Kept n s (draw w s).2 := Kept.of_eq rfl rfl

theorem kept_sendToken (n : Nat) (it : Item) (s : State) : Kept n s (sendToken n it s) := by
  unfold sendToken
  extract_lets tok s1 d bs s2 fs s3 s4 lim
  have h1 : Kept n s s1 := kept_takeFactor n it s
  have hd : Kept n s1 d.2 := by
    unfold d
    split
    · exact kept_draw n 8 s1
    · exact Kept.refl n s1
  have h2 : Kept n d.2 s2 := (kept_sendPacket n n (.launchPacket n bs) d.2).trans (kept_modPort ..)
  have h3 : Kept n s2 s3 := kept_modPort ..
  have h4 : Kept n s3 s4 := kept_modWeir n (fun _ => by rfl) s3
  have hq : Kept n s4 (modQ n (modFirst (fun i => i == it) (fun i => { i with sent := some (tok, s4.ht), lim })) s4) :=
    kept_modQ n (map_modFirst (fun _ => by rfl) _) s4
  exact ((((h1.trans hd).trans h2).trans h3).trans h4).trans hq

theorem kept_sendTokens (n : Nat) (s : State) : Kept n s (sendTokens n s) :=
  kept_each (fun it t => by
    split
    · exact kept_sendToken n it t
    · exact Kept.refl n t) _ s

/-- The registers are not touched by what is sent. -/
theorem takeFactor_regs (n : Nat) (it : Item) (s : State) : (takeFactor n it s).regs = s.regs := by
  unfold takeFactor
  split
  · rfl
  split
  · dsimp only
    split <;> rfl
  · rfl

theorem sendToken_regs (n : Nat) (it : Item) (s : State) : (sendToken n it s).regs = s.regs := by
  unfold sendToken
  extract_lets tok s1 d bs s2 fs s3 s4 lim
  have hd : d.2.regs = s1.regs := by
    unfold d
    split <;> rfl
  exact hd.trans (takeFactor_regs n it s)

theorem sendTokens_regs (n : Nat) (s : State) : (sendTokens n s).regs = s.regs :=
  each_keeps State.regs _ (fun it t => by
    split
    · exact sendToken_regs n it t
    · rfl) _ s

/-! ### The end of a frame's items, and launch ordered sets (R385, R405) -/

theorem raiseAt_kept (n stamp code ch arg : Nat) (s : State) : Kept n s (raiseAt stamp code ch arg s) :=
  Kept.of_eq (raiseAt_weirs ..) (raiseAt_out ..)

theorem kept_closeItems (n fno : Nat) (s : State) : Kept n s (closeItems n fno s) := by
  unfold closeItems
  split
  · exact Kept.refl n s
  extract_lets w ev s1 s2 s3 s4
  have hev (code : Nat) (t : Tbl FrameCount) (u : State) : Kept n u (ev code t u) :=
    kept_when (raiseAt_kept n _ _ _ _ u)
  have h1 : Kept n s s1 := (((((hev 0x0701 w.late s).trans (hev 0x0702 w.miss _)).trans
    (hev 0x0703 w.expired _)).trans (hev 0x0705 w.edgeLate _)).trans (hev 0x0706 w.down _))
  clear_value s1
  exact (h1.trans (Kept.of_eq (t := s4) rfl rfl)).trans (kept_modWeir n (fun _ => by rfl) s4)

theorem kept_launchSets (n ph fno p : Nat) (toks : List Nat) (fuel : Nat) (s : State) :
    Kept n s (launchSets n ph fno p toks fuel s) := by
  induction fuel generalizing toks s with
  | zero => exact Kept.refl n s
  | succ fuel ih =>
    cases toks with
    | nil => exact Kept.refl n s
    | cons a l =>
      unfold launchSets
      extract_lets now c r late res s1 e s2 s3
      have h1 : Kept n s s1 := kept_emitOut n _ s
      have h2 : Kept n s1 s2 := (kept_modWeir n (f := fun w => { w with setEnd := e }) (fun _ => by rfl) s1).trans
        (Kept.of_eq rfl rfl)
      have h3 : Kept n s2 s3 := kept_when (Kept.trans
        (t := bump (chB n) R.WEIR_EDGE_LATE_CNT_COUNT s2 now.length) (Kept.of_eq rfl rfl)
        (kept_each (fun _ t => kept_modWeir n (fun _ => by rfl) t) _ _))
      exact ((h1.trans h2).trans h3).trans (ih _ _)
end Sys2Proof.Launch
end

section
namespace Sys2Proof.Launch
open Sys2Proof Sys2Proof.Machine Sys2Proof.Safety Sys2Proof.Scope Sys2Proof.PowerModes

/-- A view of items that does not look at their tokens is the same of lists that are the same but for these. -/
theorem map_of_bare {l l' : List Item} (h : l.map bare = l'.map bare) {β : Type} {g : Item → β}
    (hg : ∀ i, g (bare i) = g i) : l.map g = l'.map g := by
  have hcomp : g ∘ bare = g := funext hg
  rw [← hcomp, ← List.map_map, h, List.map_map]

theorem Kept.map_q {n : Nat} {s t : State} (h : Kept n s t) {β : Type} {g : Item → β} (hg : ∀ i, g (bare i) = g i) :
    (t.weir n).q.map g = (s.weir n).q.map g := map_of_bare (congrArg WeirSt.q h.weir) hg

theorem weir_modWeir (n : Nat) (f : WeirSt → WeirSt) (s : State) : (modWeir n f s).weir n = f (s.weir n) :=
  setWeir_same ..

theorem q_modQ (n : Nat) (f : List Item → List Item) (s : State) : ((modQ n f s).weir n).q = f (s.weir n).q :=
  congrArg WeirSt.q (weir_modWeir ..)

/-! ### Decision instants (R387 to R392) -/

theorem slackOut_kept (n fno : Nat) (s : State) : (slackOut n fno s).weirs = s.weirs ∧
    rd (slackOut n fno s) (chB n) R.WEIR_LATE_CNT_COUNT = rd s (chB n) R.WEIR_LATE_CNT_COUNT := by
  unfold slackOut
  extract_lets v x r s1
  have h1 : rd s1 (chB n) R.WEIR_LATE_CNT_COUNT = rd s (chB n) R.WEIR_LATE_CNT_COUNT :=
    rd_wr_block (chB n) (by decide) r s
  exact ⟨when_keeps State.weirs _ _ s1 (wr_weirs ..),
    (when_keeps (rd · (chB n) R.WEIR_LATE_CNT_COUNT) _ _ s1 (rd_wr_block (chB n) (by decide) r s1)).trans h1⟩

/-- What the decision of an item leaves: the item in its place, and the count of late items as the decision left it. -/
theorem decisionInstant_shown {n : Nat} {s u : State} {it it' : Item}
    (hfind : (s.weir n).q.find? (decisionDue s n) = some it) (hdec : decideItem n it s = (it', u)) :
    ((decisionInstant n s).weir n).q = modFirst (decisionDue s n) (fun _ => it') (u.weir n).q ∧
      rd (decisionInstant n s) (chB n) R.WEIR_LATE_CNT_COUNT = rd u (chB n) R.WEIR_LATE_CNT_COUNT := by
  have heq : decisionInstant n s = when_ (frameDecided (modQ n (modFirst (fun i => decisionDue s n i) (fun _ => it')) u)
      n it.fno) (slackOut n it.fno) (modQ n (modFirst (fun i => decisionDue s n i) (fun _ => it')) u) := by
    unfold decisionInstant
    rw [hfind]
    simp only [hdec]
  rw [heq]
  refine ⟨?_, when_keeps (rd · (chB n) R.WEIR_LATE_CNT_COUNT) _ _ _ (slackOut_kept n it.fno _).2⟩
  refine (when_keeps (fun t : State => (t.weir n).q) _ _ _ ?_).trans (q_modQ ..)
  exact congrArg WeirSt.q (weir_of_weirs (slackOut_kept n it.fno _).1 n)

section Decide
variable {n : Nat} {s : State} {it : Item} (hk : chKind s n ≠ .matrix) (hd : it.dark = false)
include hk hd

theorem decideItem_ready {x : Nat} (hx : itemData s n it = some x) : decideItem n it s =
    ({ it with decided := true, show_ := .own }, recordSlack n it.fno ((dataTime s n it : Int) - lead s n - x) s) := by
  simp [decideItem, noSwap, hk, hx, hd]

/-- An item is decided late: its slack is -1, it is counted, and its primary's drift check is left out. -/
def decidedLate (n : Nat) (it : Item) (dark : Bool) (s : State) : State :=
  when_ (it.kind = .plane) (fun u => skipDrift n it.fno (itemPri u n it) u)
    (countLate n it dark (recordSlack n it.fno (-1) s))

theorem decideItem_late (hx : itemData s n it = none) : decideItem n it s =
    ({ it with
        decided := true
        show_ := if rdB s (chB n) R.WEIR_CFG_PREV_EN = true ∧ (prevFrame s n it.fno).isSome = true then .prev
          else .dark },
      decidedLate n it (!(rdB s (chB n) R.WEIR_CFG_PREV_EN && (prevFrame s n it.fno).isSome)) s) := by
  have hswap : noSwap s n it = false := by simp [noSwap, hk]
  simp only [decideItem, hswap, hx, hd, Bool.and_eq_true, Bool.false_eq_true, if_false]
  rfl

end Decide

theorem recordSlack_q (n fno : Nat) (x : Int) (s : State) : ((recordSlack n fno x s).weir n).q = (s.weir n).q :=
  weir_keeps WeirSt.q n (fun _ => by rfl) s

theorem skipDrift_q (n fno pri : Nat) (s : State) : ((skipDrift n fno pri s).weir n).q = (s.weir n).q :=
  weir_keeps WeirSt.q n (fun _ => by rfl) s

theorem rd_skipDrift (n fno pri b : Nat) (f : Fld) (s : State) : rd (skipDrift n fno pri s) b f = rd s b f := rfl

theorem rd_modWeir (n b : Nat) (f : Fld) (g : WeirSt → WeirSt) (s : State) : rd (modWeir n g s) b f = rd s b f := rfl

/-- A late item is counted, and the queue stays as it is. -/
theorem countLate_shown (n : Nat) (it : Item) (dark : Bool) (s : State) :
    ((countLate n it dark s).weir n).q = (s.weir n).q ∧ rd (countLate n it dark s) (chB n) R.WEIR_LATE_CNT_COUNT =
      satU 32 (rd s (chB n) R.WEIR_LATE_CNT_COUNT + 1) % 2 ^ 32 := by
  unfold countLate
  extract_lets s1 s2
  have h1 : rd s1 (chB n) R.WEIR_LATE_CNT_COUNT = satU 32 (rd s (chB n) R.WEIR_LATE_CNT_COUNT + 1) % 2 ^ 32 :=
    rd_bump_same ..
  have h2 : rd s2 (chB n) R.WEIR_LATE_CNT_COUNT = rd s1 (chB n) R.WEIR_LATE_CNT_COUNT :=
    when_keeps (rd · (chB n) R.WEIR_LATE_CNT_COUNT) _ _ s1 (rd_wr_block (chB n) (by decide) _ s1)
  have hs1 : s1.weirs = s.weirs := bump_weirs ..
  have hs2 : s2.weirs = s1.weirs := when_keeps State.weirs _ _ s1 (bump_weirs ..)
  have hq : (s2.weir n).q = (s.weir n).q := congrArg WeirSt.q (weir_of_weirs (hs2.trans hs1) n)
  clear_value s2
  refine ⟨?_, ?_⟩
  · exact (weir_keeps WeirSt.q n (fun _ => by rfl) s2).trans hq
  · exact (rd_modWeir ..).trans (h2.trans h1)

theorem decidedLate_shown (n : Nat) (it : Item) (dark : Bool) (s : State) :
    ((decidedLate n it dark s).weir n).q = (s.weir n).q ∧ rd (decidedLate n it dark s) (chB n) R.WEIR_LATE_CNT_COUNT =
      satU 32 (rd s (chB n) R.WEIR_LATE_CNT_COUNT + 1) % 2 ^ 32 := by
  obtain ⟨hq, hcount⟩ := countLate_shown n it dark (recordSlack n it.fno (-1) s)
  rw [recordSlack_q] at hq
  have hskip : rd (decidedLate n it dark s) (chB n) R.WEIR_LATE_CNT_COUNT = rd (countLate n it dark
      (recordSlack n it.fno (-1) s)) (chB n) R.WEIR_LATE_CNT_COUNT :=
    when_keeps (rd · (chB n) R.WEIR_LATE_CNT_COUNT) _ _ _ (rd_skipDrift ..)
  have hkeep : ((decidedLate n it dark s).weir n).q = ((countLate n it dark (recordSlack n it.fno (-1) s)).weir n).q :=
    when_keeps (fun u : State => (u.weir n).q) _ _ _ (skipDrift_q ..)
  refine ⟨hkeep.trans hq, ?_⟩
  rw [hskip, hcount]
  exact congrArg (fun x => satU 32 (x + 1) % 2 ^ 32) (rd_modWeir ..)

theorem decision_own_leads (s : State) (n : Fin 192) (it : Item) (x : Nat)
    (hfind : (s.weir n).q.find? (decisionDue s n) = some it) (hk : chKind s n ≠ .matrix) (hd : it.dark = false)
    (hx : itemData s n it = some x) : Leads (.decisionInstant n) s fun t =>
      (t.weir n).q = modFirst (decisionDue s n) (fun _ => { it with decided := true, show_ := .own }) (s.weir n).q ∧
      rd t (chB n) R.WEIR_LATE_CNT_COUNT = rd s (chB n) R.WEIR_LATE_CNT_COUNT := by
  refine leads_run (f := decisionInstant n) rfl ?_
  obtain ⟨hq, hrd⟩ := decisionInstant_shown (s := begun s) hfind (decideItem_ready (s := begun s) hk hd hx)
  rw [done_weir, rd_done, hq, hrd]
  exact ⟨congrArg (modFirst _ _) (recordSlack_q ..), rfl⟩

theorem decision_late_leads (s : State) (n : Fin 192) (it : Item)
    (hfind : (s.weir n).q.find? (decisionDue s n) = some it) (hk : chKind s n ≠ .matrix) (hd : it.dark = false)
    (hx : itemData s n it = none) : Leads (.decisionInstant n) s fun t =>
      (t.weir n).q = modFirst (decisionDue s n) (fun _ =>
        { it with
          decided := true
          show_ := if rdB s (chB n) R.WEIR_CFG_PREV_EN = true ∧ (prevFrame s n it.fno).isSome = true then .prev
            else .dark }) (s.weir n).q ∧
      rd t (chB n) R.WEIR_LATE_CNT_COUNT = satU 32 (rd s (chB n) R.WEIR_LATE_CNT_COUNT + 1) % 2 ^ 32 := by
  refine leads_run (f := decisionInstant n) rfl ?_
  obtain ⟨hq, hrd⟩ := decisionInstant_shown (s := begun s) hfind (decideItem_late (s := begun s) hk hd hx)
  obtain ⟨hkeep, hcount⟩ := decidedLate_shown n it (!(rdB (begun s) (chB n) R.WEIR_CFG_PREV_EN &&
    (prevFrame (begun s) n it.fno).isSome)) (begun s)
  rw [done_weir, rd_done, hq, hrd, hkeep, hcount]
  exact ⟨rfl, rfl⟩

end Sys2Proof.Launch
end

section
namespace Sys2Proof.Launch
open Sys2Proof Sys2Proof.Machine Sys2Proof.Safety Sys2Proof.Scope Sys2Proof.PowerModes

/-! ### Staging (R377 to R381, R387) -/

theorem sendChunks_weirs (n buf stage addr len : Nat) (line : Bool) (s : State) :
    (sendChunks n buf stage addr len line s).weirs = s.weirs := by
  refine each_keeps State.weirs _ (fun _ _ => ?_) _ s
  rfl

theorem sendData_weirs (n buf stage addr len pitch h blocks : Nat) (line : Bool) (s : State) :
    (sendData n buf stage addr len pitch h blocks line s).weirs = s.weirs := by
  unfold sendData
  extract_lets s1
  have h1 : s1.weirs = s.weirs := by
    unfold s1
    split
    · rfl
    · refine each_keeps State.weirs _ (fun _ _ => ?_) _ s
      rfl
  exact (sendChunks_weirs ..).trans h1

/-- Staging of an item into a free buffer: its data are sent, the buffer is taken, and the item is being staged. -/
theorem stagingStart_takes {n : Nat} {s : State} {it : Item} {a len b : Nat} (hk : chKind s n ≠ .matrix)
    (hnext : stageNext s n = some it) (hstage : it.stage = .none) (hup : portUp s n = true)
    (hpackets : packetsOn s n = true) (hmay : mayStage s n it.frame = true) (hheld : withheld (s.weir n) it.t = false)
    (hdark : it.dark = false) (hshow : it.show_ ≠ .dark) (hsource : stageSource s n it = some (a, len))
    (hreuse : reusable s n it = none) (hfree : freeBuf s n = some b) : ∃ u, u.weirs = s.weirs ∧ stagingStart n s =
      setStage n it (fun i => { i with stage := .active, buf := some b }) (modWeir n (fun w =>
        { w with bufs := { buf := b, fno := it.fno, idx := it.idx, until_ := 0 } ::
            (heldBufs u n).filter (fun h => h.buf != b) }) u) := by
  have hb : (it.show_ == .dark) = false := beq_eq_false_iff_ne.mpr hshow
  unfold stagingStart
  rw [if_neg hk, hnext]
  simp -zeta only [hstage, hup, hpackets, hmay, hheld, hdark, hb, hsource, hreuse, hfree, bne_self_eq_false,
    Bool.and_self, Bool.not_true, Bool.or_self, Bool.false_eq_true, if_false]
  extract_lets d m u
  have hu : u.weirs = d.2.weirs := sendData_weirs ..
  exact ⟨u, hu, rfl⟩

theorem stagingStart_leads (s : State) (n : Fin 192) (it : Item) (a len b : Nat) (hk : chKind s n ≠ .matrix)
    (hnext : stageNext s n = some it) (hstage : it.stage = .none) (hup : portUp s n = true)
    (hpackets : packetsOn s n = true) (hmay : mayStage s n it.frame = true) (hheld : withheld (s.weir n) it.t = false)
    (hdark : it.dark = false) (hshow : it.show_ ≠ .dark) (hsource : stageSource s n it = some (a, len))
    (hreuse : reusable s n it = none) (hfree : freeBuf s n = some b) : Leads (.stagingStart n) s fun t =>
      (t.weir n).q = modFirst (fun i => i == it) (fun i => { i with stage := .active, buf := some b }) (s.weir n).q ∧
      (t.weir n).bufs.head? = some { buf := b, fno := it.fno, idx := it.idx, until_ := 0 } := by
  refine leads_run (f := stagingStart n) rfl ?_
  obtain ⟨u, hu, heq⟩ := stagingStart_takes (s := begun s) hk hnext hstage hup hpackets hmay hheld hdark hshow hsource
    hreuse hfree
  rw [done_weir, heq, setStage, modQ, weir_modWeir, weir_modWeir, weir_of_weirs hu]
  exact ⟨rfl, rfl⟩

/-- What the statements about staging show of an item. -/
def stageView (i : Item) : ItemKind × Nat × Nat × Nat × Stage := (i.kind, i.t, i.fno, i.idx, i.stage)

/-- Two changes of the first item that agree under `g` give lists that agree under it. -/
theorem map_modFirst_congr {β : Type} {g : Item → β} {f f' : Item → Item} (h : ∀ i, g (f i) = g (f' i))
    (p : Item → Bool) (l : List Item) : (modFirst p f l).map g = (modFirst p f' l).map g := by
  induction l with
  | nil => rfl
  | cons a l ih =>
    unfold modFirst
    split
    · rw [List.map_cons, List.map_cons, h]
    · rw [List.map_cons, List.map_cons, ih]

theorem stagingComplete_leads (s : State) (n : Fin 192) (it : Item) (hk : chKind s n ≠ .matrix)
    (hfind : (s.weir n).q.find? (fun i => i.stage == .active) = some it)
    (hin : s.ht ≤ stageDeadline s n it (blocksOf s n it - 1)) : Leads (.stagingComplete n) s fun t =>
      (t.weir n).q.map stageView =
        (modFirst (fun i => i == it) (fun i => { i with stage := .done }) (s.weir n).q).map stageView := by
  refine leads_run (f := stagingComplete n) rfl ?_
  have heq : stagingComplete n (begun s) =
      sendTokens n (setStage n it (fun i => { i with stage := .done }) (begun s)) := by
    unfold stagingComplete
    rw [if_neg (show chKind (begun s) n ≠ .matrix from hk),
      show ((begun s).weir n).q.find? (fun i => i.stage == .active) = some it from hfind]
    exact if_pos hin
  rw [done_weir, heq, (kept_sendTokens n _).map_q (fun _ => rfl), setStage, q_modQ]
  rfl

/-- An item that is missed is counted, and the queue stays as it is. -/
theorem countMiss_shown (n : Nat) (it : Item) (cause : Nat) (s : State) :
    ((countMiss n it cause s).weir n).q = (s.weir n).q ∧ rd (countMiss n it cause s) (chB n) R.WEIR_MISS_CNT_COUNT =
      satU 32 (rd s (chB n) R.WEIR_MISS_CNT_COUNT + 1) % 2 ^ 32 := by
  unfold countMiss
  extract_lets s1 s2
  have h1 : rd s1 (chB n) R.WEIR_MISS_CNT_COUNT = satU 32 (rd s (chB n) R.WEIR_MISS_CNT_COUNT + 1) % 2 ^ 32 :=
    rd_bump_same ..
  have h2 : rd s2 (chB n) R.WEIR_MISS_CNT_COUNT = rd s1 (chB n) R.WEIR_MISS_CNT_COUNT :=
    when_keeps (rd · (chB n) R.WEIR_MISS_CNT_COUNT) _ _ s1 (rd_skipDrift ..)
  have hs1 : s1.weirs = s.weirs := bump_weirs ..
  have hs2 : (s2.weir n).q = (s1.weir n).q := when_keeps (fun u : State => (u.weir n).q) _ _ s1 (skipDrift_q ..)
  have hq : (s2.weir n).q = (s.weir n).q := hs2.trans (congrArg WeirSt.q (weir_of_weirs hs1 n))
  clear_value s2
  refine ⟨?_, ?_⟩
  · exact (weir_keeps WeirSt.q n (fun _ => by rfl) s2).trans hq
  · exact (rd_modWeir ..).trans (h2.trans h1)

theorem rd_sendTokens (n b : Nat) (f : Fld) (s : State) : rd (sendTokens n s) b f = rd s b f :=
  rd_of_regs (sendTokens_regs n s) b f 0

/-- Staging that stops is counted as a miss, and stops the item. -/
theorem stopStage_shown (n : Nat) (it : Item) (k cause : Nat) (s : State) :
    rd (stopStage n it k cause s) (chB n) R.WEIR_MISS_CNT_COUNT =
      satU 32 (rd s (chB n) R.WEIR_MISS_CNT_COUNT + 1) % 2 ^ 32 ∧
    ((stopStage n it k cause s).weir n).q.map stageView =
      (modFirst (fun i => i == it) (fun i => { i with stage := .stopped }) (s.weir n).q).map stageView := by
  obtain ⟨hq, hcount⟩ := countMiss_shown n it cause s
  unfold stopStage
  extract_lets k' s1
  refine ⟨?_, ?_⟩
  · rw [rd_sendTokens, ← hcount]
    exact rd_modWeir ..
  · rw [(kept_sendTokens n _).map_q (fun _ => rfl), setStage, q_modQ, hq]
    refine map_modFirst_congr (fun _ => ?_) _ _
    rfl

/-- An item of a frame that may be staged is past the deadline of its block `k`. -/
theorem stageNotInTime_stops {n k : Nat} {s : State} {it : Item} (hk : chKind s n ≠ .matrix)
    (hnext : stageNext s n = some it) (hmay : mayStage s n it.frame = true) (hdark : it.dark = false)
    (hlate : stageDeadline s n it k < s.ht) (hblock : k < blocksOf s n it) : stageNotInTime n k s =
      let late := it.decided && it.show_ != .own
      let it' := if late then { it with show_ := .dark } else it
      stopStage n it' k 1 (when_ late (setStage n it (fun _ => it')) s) := by
  unfold stageNotInTime
  rw [if_neg hk, hnext]
  exact if_neg (by simp [hmay, hdark, hlate, hblock])

theorem stageNotInTime_own_leads (s : State) (n : Fin 192) (it : Item) (j : Fin 16) (hk : chKind s n ≠ .matrix)
    (hnext : stageNext s n = some it) (hmay : mayStage s n it.frame = true) (hdark : it.dark = false)
    (hown : it.decided = false ∨ it.show_ = .own) (hlate : stageDeadline s n it j < s.ht)
    (hblock : j.val < blocksOf s n it) : Leads (.stageNotInTime n j) s fun t =>
      rd t (chB n) R.WEIR_MISS_CNT_COUNT = satU 32 (rd s (chB n) R.WEIR_MISS_CNT_COUNT + 1) % 2 ^ 32 ∧
      (t.weir n).q.map stageView =
        (modFirst (fun i => i == it) (fun i => { i with stage := .stopped }) (s.weir n).q).map stageView := by
  refine leads_run (f := stageNotInTime n j) rfl ?_
  have hlate' : (it.decided && it.show_ != .own) = false := by
    rcases hown with h | h <;> simp [h]
  have heq := stageNotInTime_stops (s := begun s) hk hnext hmay hdark hlate hblock
  simp only [hlate', Bool.false_eq_true, if_false, when_] at heq
  rw [done_weir, rd_done, heq]
  exact stopStage_shown n it j 1 (begun s)

theorem stageNotInTime_late_leads (s : State) (n : Fin 192) (it : Item) (j : Fin 16) (hk : chKind s n ≠ .matrix)
    (hnext : stageNext s n = some it) (hmay : mayStage s n it.frame = true) (hdark : it.dark = false)
    (hlate : stageDeadline s n it j < s.ht) (hblock : j.val < blocksOf s n it) : Leads (.stageNotInTime n j) s fun t =>
      rd t (chB n) R.WEIR_MISS_CNT_COUNT = satU 32 (rd s (chB n) R.WEIR_MISS_CNT_COUNT + 1) % 2 ^ 32 := by
  refine leads_run (f := stageNotInTime n j) rfl ?_
  rw [rd_done, stageNotInTime_stops (s := begun s) hk hnext hmay hdark hlate hblock]
  refine (stopStage_shown ..).1.trans (congrArg (fun x => satU 32 (x + 1) % 2 ^ 32) ?_)
  exact when_keeps (rd · (chB n) R.WEIR_MISS_CNT_COUNT) _ _ _ (rd_modWeir ..)

theorem poolReadPoison_leads (s : State) (n : Fin 192) (it : Item) (j : Fin 16) (hk : chKind s n ≠ .matrix)
    (hfind : (s.weir n).q.find? (fun i => i.stage == .active) = some it) : Leads (.poolReadPoison n j) s fun t =>
      rd t (chB n) R.WEIR_MISS_CNT_COUNT = satU 32 (rd s (chB n) R.WEIR_MISS_CNT_COUNT + 1) % 2 ^ 32 ∧
      (t.weir n).q.map stageView =
        (modFirst (fun i => i == it) (fun i => { i with stage := .stopped }) (s.weir n).q).map stageView := by
  refine leads_run (f := poolReadPoison n j) rfl ?_
  have heq : poolReadPoison n j (begun s) = stopStage n it j 3 (begun s) := by
    unfold poolReadPoison
    rw [if_neg (show chKind (begun s) n ≠ .matrix from hk),
      show ((begun s).weir n).q.find? (fun i => i.stage == .active) = some it from hfind]
  rw [done_weir, rd_done, heq]
  exact stopStage_shown n it j 3 (begun s)

theorem tokenLeadMiss_leads (s : State) (n : Fin 192) (it : Item)
    (hfind : (s.weir n).q.find? (tokenMissed s n) = some it) : Leads (.tokenLeadMiss n) s fun t =>
      rd t (chB n) R.WEIR_MISS_CNT_COUNT = satU 32 (rd s (chB n) R.WEIR_MISS_CNT_COUNT + 1) % 2 ^ 32 ∧
      (t.weir n).q = modFirst (fun i => i == it) (fun i => { i with missed := true }) (s.weir n).q := by
  refine leads_run (f := tokenLeadMiss n) rfl ?_
  have heq : tokenLeadMiss n (begun s) =
      setStage n it (fun i => { i with missed := true }) (countMiss n it 2 (begun s)) := by
    unfold tokenLeadMiss
    rw [show ((begun s).weir n).q.find? (tokenMissed (begun s) n) = some it from hfind]
  obtain ⟨hq, hcount⟩ := countMiss_shown n it 2 (begun s)
  rw [done_weir, rd_done, heq, setStage, q_modQ, hq]
  exact ⟨(rd_modWeir ..).trans hcount, rfl⟩

end Sys2Proof.Launch
end

section
namespace Sys2Proof.Launch
open Sys2Proof Sys2Proof.Machine Sys2Proof.Safety Sys2Proof.Scope Sys2Proof.PowerModes

/-! ### What a discard, an interval's end and a SYNC leave (R343, R373, R563) -/

theorem not_releaseHeld {n t : Nat} {s : State} (hrel : s.hub.noRelease = false) (hpin : pinPassed s n t s.ht = true) :
    ¬ (s.hub.noRelease || !pinPassed s n t s.ht) = true := by
  simp [hrel, hpin]

/-- On an ARMED channel the items of a launch time of a frame that does not run are discarded. -/
theorem release_armed_leads (s : State) (n : Fin 192) (it : Item) (ph : Fin 128) (l : List Item)
    (hq : (s.weir n).q = it :: l) (hkind : it.kind ≠ .mark) (hrel : s.hub.noRelease = false)
    (hpin : pinPassed s n it.t s.ht = true) (hst : s.chState n = .armed) (hrun : runDue s n it.frame = false) :
    Leads (.release n ph) s fun t =>
      (t.weir n).q = (it :: l).dropWhile (fun i => i.kind != .mark && i.t = it.t) ∧ t.ports = s.ports := by
  refine leads_run (f := release n ph) rfl ?_
  have heq : release n ph (begun s) =
      modQ n (fun q => q.dropWhile (fun i => i.kind != .mark && i.t = it.t)) (begun s) := by
    unfold release
    rw [show ((begun s).weir n).q = it :: l from hq]
    dsimp only
    rw [if_neg (not_releaseHeld (s := begun s) hrel hpin),
      show (begun s).chState n = .armed from hst]
    dsimp only
    rw [if_neg hkind, show runDue (begun s) n it.frame = false from hrun, if_neg Bool.false_ne_true]
  rw [done_weir, done_ports, heq, q_modQ]
  exact ⟨congrArg _ hq, rfl⟩

theorem planeIntervalEnd_leads (s : State) (n : Fin 192) (j a : Nat) (hopen : (s.weir n).openPlane = some (j, a))
    (hend : (s.weir n).planeEnd ≤ s.ht) : Leads (.planeIntervalEnd n) s fun t =>
      (t.weir n).openPlane = none ∧ (t.weir n).q = (s.weir n).q := by
  refine leads_run (f := planeIntervalEnd n) rfl ?_
  rw [done_weir]
  unfold planeIntervalEnd
  extract_lets w
  rw [show w.openPlane = some (j, a) from hopen]
  dsimp only
  rw [if_neg (Nat.not_lt.mpr (show w.planeEnd ≤ (begun s).ht from hend)), weir_modWeir]
  exact ⟨rfl, rfl⟩

/-- What a port that carries traffic sends leaves the block. -/
theorem mem_out_port {o : Out} {n : Nat} {s : State} (ho : o.port = some n) (hon : s.hub.portsOn = true)
    (hup : crossUp s (1 + n / 48) (16 + n % 48) = true) (hidle : rdB s (ephyB n) R.EPHY_STATUS_TX_IDLE = false) :
    o ∈ (emitOut o s).out := by
  unfold emitOut
  simp only [ho, hon, hup, hidle, Bool.not_true, Bool.false_and, Bool.or_self, Bool.false_eq_true, if_false]
  split
  · exact List.mem_append_right _ (List.mem_singleton.mpr rfl)
  · exact List.mem_append_right _ (List.mem_cons_self ..)

theorem port_modPort (n : Nat) (f : PortSt → PortSt) (s : State) : (modPort n f s).port n = f (s.port n) :=
  setPort_same ..

theorem syncSend_leads (s : State) (p : PortPhase) (b : Nat) (hup : portUp s p.n = true)
    (hidle : rdB s (ephyB p.n) R.EPHY_STATUS_TX_IDLE = false) (hnarrow : narrowing s p.n = false)
    (hb : b = s.ht / 1000000 * 10000000 + (p.ph.val % charPeriod s p.n + charPeriod s p.n -
      s.ht / 1000000 * 10000000 % charPeriod s p.n) % charPeriod s p.n) (hnow : b / 10 = s.ht) :
    Leads (.syncSend p) s fun t => (t.port p.n).setAt = (b, b + 12 * charPeriod s p.n) ∧
      (s.hub.portsOn = true → crossUp s (1 + p.n.val / 48) (16 + p.n.val % 48) = true →
        .sync p.n (b * 16 / 10) (b + rd s (chB p.n) R.WEIR_TRIM_TRIM_EFF) ∈ t.out) := by
  refine leads_run (f := syncSend p.n p.ph) rfl ?_
  have heq : syncSend p.n p.ph (begun s) =
      modPort p.n (fun x => { x with setAt := (b, b + 12 * charPeriod s p.n) })
        (emitOut (.sync p.n (b * 16 / 10) (b + rd s (chB p.n) R.WEIR_TRIM_TRIM_EFF)) (begun s)) := by
    unfold syncSend
    extract_lets c from_ b'
    rw [show b' = b from hb.symm]
    exact if_pos (by simp [show portUp (begun s) p.n = true from hup,
      show rdB (begun s) (ephyB p.n) R.EPHY_STATUS_TX_IDLE = false from hidle,
      show narrowing (begun s) p.n = false from hnarrow, show b / 10 = (begun s).ht from hnow])
  refine ⟨?_, fun hon hcross => mem_out_done ?_⟩
  · rw [done_port, heq, port_modPort]
  · rw [heq]
    exact mem_out_port (s := begun s) rfl hon hcross hidle

end Sys2Proof.Launch
end

section
namespace Sys2Proof.Launch
open Sys2Proof Sys2Proof.Machine Sys2Proof.Safety Sys2Proof.Scope Sys2Proof.PowerModes

/-! ### A withdrawal completes (R400) -/

/-- The fields that a withdrawal writes last, when it completes. -/
def wdTimes : List Fld :=
  [R.WEIR_WD_T_HI_HT, R.WEIR_WD_T_LO_HT, R.WEIR_WD_PIN_HI_HT, R.WEIR_WD_PIN_LO_HT, R.WEIR_STATUS_WD_ACTIVE]

/-- What a withdrawal that no command waits for leaves when it completes. -/
theorem finishWd_shown (n : Nat) (d : Withdrawal) (leaked : Nat) (s : State) (hcmd : d.cmd = none) :
    ((finishWd n d leaked s).weir n).wds = (s.weir n).wds.filter (fun x => x != d) ∧
    rdB (finishWd n d leaked s) (chB n) R.WEIR_STATUS_WD_ACTIVE = ((s.weir n).wds.filter (fun x => x != d) != []) ∧
    rd (finishWd n d leaked s) (chB n) R.WEIR_WD_INFO_CAUSE = d.cause % 2 ^ R.WEIR_WD_INFO_CAUSE.w ∧
    rd (finishWd n d leaked s) (chB n) R.WEIR_WD_INFO_LEAKED = satU 16 leaked % 65536 ∧
    rd (finishWd n d leaked s) (chB n) R.WEIR_WD_CNT_COUNT =
      satU 32 (rd s (chB n) R.WEIR_WD_CNT_COUNT + 1) % 2 ^ 32 := by
  unfold finishWd
  extract_lets s1 s2 s3 s4 s5 tw s6 s7 s8
  rw [hcmd]
  dsimp only
  have keep (f g : Fld) (h : f.off * 32 + f.lo ≠ g.off * 32 + g.lo) (v : Nat) (u : State) :
      rd (wr (chB n) f v u) (chB n) g = rd u (chB n) g := rd_wr_block _ h v u
  have hlast (g : Fld) (h : ∀ f ∈ wdTimes, f.off * 32 + f.lo ≠ g.off * 32 + g.lo) :
      rd s8 (chB n) g = rd s4 (chB n) g := calc
    rd s8 (chB n) g = rd s7 (chB n) g := rd_raise ..
    _ = rd s6 (chB n) g := keep _ _ (h _ (by simp [wdTimes])) _ _
    _ = rd s5 (chB n) g := (keep _ _ (h _ (by simp [wdTimes])) _ _).trans (keep _ _ (h _ (by simp [wdTimes])) _ _)
    _ = rd s4 (chB n) g := (keep _ _ (h _ (by simp [wdTimes])) _ _).trans (keep _ _ (h _ (by simp [wdTimes])) _ _)
  have hweir6 : s6.weirs = s1.weirs := by
    simp only [s6, s5, s4, s3, s2, wr_weirs, wrB_weirs, bump_weirs]
  have hweir8 : s8.weirs = s6.weirs := (raise_weirs ..).trans (wrB_weirs ..)
  have hwds6 : (s6.weir n).wds = (s.weir n).wds.filter (fun x => x != d) :=
    (congrArg WeirSt.wds (weir_of_weirs hweir6 n)).trans (congrArg WeirSt.wds (weir_modWeir ..))
  refine ⟨?_, ?_, ?_, ?_, ?_⟩
  · exact (congrArg WeirSt.wds (weir_of_weirs hweir8 n)).trans hwds6
  · rw [← hwds6]
    exact (congrArg (· == 1) (rd_raise ..)).trans (rdB_wrB_same _ _ _ (by decide) s6)
  · rw [hlast _ (by decide)]
    exact (keep _ _ (by decide) _ _).trans (rd_wr_same ..)
  · rw [hlast _ (by decide)]
    exact rd_wr_same ..
  · rw [hlast _ (by decide)]
    calc rd s4 (chB n) R.WEIR_WD_CNT_COUNT = rd s3 (chB n) R.WEIR_WD_CNT_COUNT := keep _ _ (by decide) _ _
      _ = rd s2 (chB n) R.WEIR_WD_CNT_COUNT := (keep _ _ (by decide) _ _).trans (keep _ _ (by decide) _ _)
      _ = rd (bump (chB n) R.WEIR_WD_CNT_COUNT s1) (chB n) R.WEIR_WD_CNT_COUNT := keep _ _ (by decide) _ _
      _ = satU 32 (rd s1 (chB n) R.WEIR_WD_CNT_COUNT + 1) % 2 ^ 32 := rd_bump_same ..
      _ = satU 32 (rd s (chB n) R.WEIR_WD_CNT_COUNT + 1) % 2 ^ 32 :=
        congrArg (fun x => satU 32 (x + 1) % 2 ^ 32) (rd_modWeir ..)

theorem withdrawalComplete_leads (s : State) (n : Fin 192) (d : Withdrawal) (x : Nat) (hwds : (s.weir n).wds = [d])
    (hrestage : d.restage = false) (hcmd : d.cmd = none) (hdue : wdDue s n d = some x) (hx : x ≤ 10 * s.ht) :
    Leads (.withdrawalComplete n) s fun t => (t.weir n).wds = [] ∧
      rdB t (chB n) R.WEIR_STATUS_WD_ACTIVE = false ∧
      rd t (chB n) R.WEIR_WD_INFO_CAUSE = d.cause % 2 ^ R.WEIR_WD_INFO_CAUSE.w ∧
      rd t (chB n) R.WEIR_WD_INFO_LEAKED = satU 16 (leakedOf s n d (2 ^ 64)) % 65536 ∧
      rd t (chB n) R.WEIR_WD_CNT_COUNT = satU 32 (rd s (chB n) R.WEIR_WD_CNT_COUNT + 1) % 2 ^ 32 := by
  refine leads_run (f := withdrawalComplete n) rfl ?_
  obtain ⟨f, hf, heq⟩ : ∃ f : WeirSt → WeirSt, (∀ w, (f w).wds = w.wds) ∧ withdrawalComplete n (begun s) =
      sendTokens n (finishWd n d (leakedOf s n d (2 ^ 64)) (modWeir n f (begun s))) := by
    refine ⟨fun w => { w with bufs := w.bufs.filter (fun b =>
      b.until_ != 0 || w.q.any (fun i => i.buf == some b.buf)) }, fun _ => rfl, ?_⟩
    unfold withdrawalComplete
    rw [show ((begun s).weir n).wds = [d] from hwds,
      List.find?_cons_of_pos (by rw [show wdDue (begun s) n d = some x from hdue]; exact decide_eq_true hx)]
    dsimp only
    rw [hrestage]
    rfl
  have hq : ((modWeir n f (begun s)).weir n).wds.filter (fun x => x != d) = [] := by
    rw [weir_keeps WeirSt.wds n hf, show ((begun s).weir n).wds = [d] from hwds]
    simp
  obtain ⟨hgone, hactive, hcause, hleaked, hcount⟩ :=
    finishWd_shown n d (leakedOf s n d (2 ^ 64)) (modWeir n f (begun s)) hcmd
  rw [hq] at hgone hactive
  rw [done_weir, rdB_done, rd_done, rd_done, rd_done, heq, rdB, rd_sendTokens, rd_sendTokens, rd_sendTokens,
    rd_sendTokens]
  exact ⟨(congrArg WeirSt.wds (kept_sendTokens n _).weir).trans hgone, hactive, hcause, hleaked,
    hcount.trans (congrArg (fun x => satU 32 (x + 1) % 2 ^ 32) (rd_modWeir ..))⟩

end Sys2Proof.Launch
end

section
namespace Sys2Proof.Launch
open Sys2Proof Sys2Proof.Machine Sys2Proof.Safety Sys2Proof.Scope Sys2Proof.PowerModes

/-! ### The voltage period (R393 to R395) -/

/-- The fields that the voltage loop's period writes, but for the voltage and the slack. -/
def avsFlags : List Fld :=
  [R.WEIR_AVS_STATUS_LIMIT_PORT, R.WEIR_AVS_STATUS_AT_MAX, R.WEIR_AVS_STATUS_AT_MIN, R.WEIR_AVS_SHORT_CNT_COUNT,
   R.WEIR_AVS_STATUS_SHORT_AT_MAX]

/-- A field of the die that is none of `avsFlags`. -/
def AvsApart (g : Fld) : Prop := ∀ f ∈ avsFlags, f.off * 32 + f.lo ≠ g.off * 32 + g.lo

/-- What WEIR_AVS_SLACK shows of a period's slack. -/
def slackShown (best : Option (Int × Nat)) : Nat := (best.map (fun p => satTwos 32 p.1)).getD 0x7FFFFFFF

/-- The state once die `d`'s slack of the period and its port have been written. -/
def slackWritten (d : Nat) (s : State) : State :=
  wr (dieB d) R.WEIR_AVS_STATUS_LIMIT_PORT (((periodSlack s d).map Prod.snd).getD 0xFF)
    (wr (dieB d) R.WEIR_AVS_SLACK_SLACK (slackShown (periodSlack s d)) s)

theorem rd_modDie (m b : Nat) (f : DieSt → DieSt) (s : State) (g : Fld) (i : Nat) :
    rd (modDie m f s) b g i = rd s b g i := rfl

theorem modDie_regs (m : Nat) (f : DieSt → DieSt) (s : State) : (modDie m f s).regs = s.regs := rfl

theorem modDie_hub (m : Nat) (f : DieSt → DieSt) (s : State) : (modDie m f s).hub = s.hub := rfl

theorem slackWritten_hub (d : Nat) (s : State) : (slackWritten d s).hub = s.hub :=
  (wr_hub ..).trans (wr_hub ..)

/-- The voltage one step up, within its limits. -/
def avsRaise (s : State) (d : Nat) : Nat :=
  min (avsLimits s d).2 (rd s (dieB d) R.WEIR_AVS_STATUS_VOUT + max 1 (rd s (dieB d) R.WEIR_AVS_CTRL_STEP))

/-- The period's slack falls short of the margin. -/
def avsShort (s : State) (d : Nat) : Bool :=
  match periodSlack s d with
  | some (x, _) =>
    x < 4000 * (rd s (dieB d) R.WEIR_AVS_MARGIN_MARGIN (rd s (dieB d) R.WEIR_AVS_STATUS_BAND) : Nat)
  | none => false

/-- A period commands a voltage `v` or none; but for its flags it leaves each field as that command left it, and with a
short slack and no throttle `v` is one step up. -/
theorem avsPeriod_shown (d fails : Nat) (s : State) : ∃ (v : Nat) (u : State),
    u.regs = (slackWritten d s).regs ∧ u.hub = s.hub ∧
    (avsShort s d = true → rd s (dieB d) R.WEIR_AVS_STATUS_VOUT < (avsLimits s d).2 →
      rdB u hkB R.HK_DIE_THROTTLE d = false → v = avsRaise s d) ∧
    ∀ g, AvsApart g → rd (avsPeriod d fails s) (dieB d) g =
      rd (if rdB u (dieB d) R.WEIR_AVS_CTRL_EN && v != rd s (dieB d) R.WEIR_AVS_STATUS_VOUT then avsCommand d v fails u
        else u) (dieB d) g := by
  unfold avsPeriod
  extract_lets b lim best m step vout short long s1 s2 x down lower s3 v0 v s4 atMax v' s5 need s6 s7 us s8 s9
  have keep {f g : Fld} (hg : AvsApart g) (hf : f ∈ avsFlags) (w : Nat) (u : State) : rd (wr b f w u) b g = rd u b g :=
    rd_wr_block b (hg f hf) w u
  have h2 : s2 = slackWritten d s := by
    simp only [s2, s1, best, slackWritten, slackShown]
    cases periodSlack s d <;> rfl
  have h3 : s3.regs = (slackWritten d s).regs := (modDie_regs ..).trans (congrArg State.regs h2)
  have hhub : s3.hub = s.hub := (modDie_hub ..).trans ((congrArg State.hub h2).trans (slackWritten_hub d s))
  refine ⟨v, s3, h3, hhub, fun hshort hlow hthrottle => ?_, fun g hg => ?_⟩
  · have hv0 : v0 = avsRaise s d := (if_pos (show short = true from hshort)).trans (if_pos hlow)
    exact (if_neg (by rw [hthrottle]; exact Bool.false_ne_true)).trans hv0
  · calc rd (each (channelsOf d) (fun n => modWeir n (fun w => { w with slackPeriod := none })) s9) b g
        = rd s9 b g := each_keeps (rd · b g) _ (fun _ _ => rd_modWeir ..) _ s9
      _ = rd s8 b g := when_keeps (rd · b g) _ _ s8 ((rd_raise ..).trans (keep hg (by simp [avsFlags]) _ _))
      _ = rd s7 b g := by
        refine when_keeps (rd · b g) _ _ s7 ?_
        split
        · rfl
        · exact (rd_raise ..).trans (keep hg (by simp [avsFlags]) _ _)
      _ = rd s6 b g := when_keeps (rd · b g) _ _ s6 (keep hg (by simp [avsFlags]) _ _)
      _ = rd s5 b g := rd_modDie ..
      _ = rd s4 b g := (keep hg (by simp [avsFlags]) _ _).trans (keep hg (by simp [avsFlags]) _ _)

theorem rd_slackWritten (d : Nat) (s : State) {g : Fld} (hport : AvsApart g)
    (hslack : R.WEIR_AVS_SLACK_SLACK.off * 32 + R.WEIR_AVS_SLACK_SLACK.lo ≠ g.off * 32 + g.lo) :
    rd (slackWritten d s) (dieB d) g = rd s (dieB d) g :=
  (rd_wr_block _ (hport R.WEIR_AVS_STATUS_LIMIT_PORT (by simp [avsFlags])) _ _).trans (rd_wr_block _ hslack _ _)

/-- Housekeeping's registers lie below those of the dies. -/
theorem rd_slackWritten_throttle (d : Fin 4) (s : State) :
    rd (slackWritten d s) hkB R.HK_DIE_THROTTLE d = rd s hkB R.HK_DIE_THROTTLE d := by
  have hbelow (f : Fld) : R.HK_DIE_THROTTLE.key hkB d ≠ f.key (dieB d) 0 := by
    simp only [Fld.key, R.HK_DIE_THROTTLE, hkB, dieB]
    omega
  have keep (f : Fld) (v : Nat) (u : State) : rd (wr (dieB d) f v u) hkB R.HK_DIE_THROTTLE d =
      rd u hkB R.HK_DIE_THROTTLE d := rd_wr_ne _ _ _ _ _ _ _ _ (hbelow f).symm
  exact (keep _ _ _).trans (keep _ _ _)

theorem rd_slackWritten_slack (d : Nat) (s : State) :
    rd (slackWritten d s) (dieB d) R.WEIR_AVS_SLACK_SLACK = slackShown (periodSlack s d) % 2 ^ 32 :=
  (rd_wr_block _ (by decide) _ _).trans (rd_wr_same ..)

theorem avsPeriod_off_leads (s : State) (d : Fin 4) (f : Fin 5) (hoff : rdB s (dieB d) R.WEIR_AVS_CTRL_EN = false) :
    Leads (.avsPeriod d f) s fun t =>
      rd t (dieB d) R.WEIR_AVS_STATUS_VOUT = rd s (dieB d) R.WEIR_AVS_STATUS_VOUT ∧
      rd t (dieB d) R.WEIR_AVS_SLACK_SLACK = slackShown (periodSlack s d) % 2 ^ 32 := by
  refine leads_run (f := avsPeriod d f) rfl ?_
  obtain ⟨v, u, hregs, -, -, hshown⟩ := avsPeriod_shown d f (begun s)
  have hu (g : Fld) : rd u (dieB d) g = rd (slackWritten d (begun s)) (dieB d) g := rd_of_regs hregs _ _ 0
  have hoff' : rdB u (dieB d) R.WEIR_AVS_CTRL_EN = false := by
    rw [rdB, hu, rd_slackWritten d _ (by unfold AvsApart; decide) (by decide)]
    exact hoff
  rw [hoff', Bool.false_and] at hshown
  simp only [Bool.false_eq_true, if_false, hu] at hshown
  rw [rd_done, rd_done, hshown _ (by unfold AvsApart; decide), hshown _ (by unfold AvsApart; decide),
    rd_slackWritten d _ (by unfold AvsApart; decide) (by decide), rd_slackWritten_slack]
  exact ⟨rfl, rfl⟩

/-- A commanded voltage stands where one of the writes has a valid response and the rails are good. -/
theorem avsCommand_vout (d mv : Nat) {fails : Nat} {s : State} (hf : fails < 4)
    (hrail : s.hub.badRails.contains 17 = false) :
    rd (avsCommand d mv fails s) (dieB d) R.WEIR_AVS_STATUS_VOUT = mv % 2 ^ R.WEIR_AVS_STATUS_VOUT.w := by
  unfold avsCommand
  extract_lets s1
  have hhub : s1.hub = s.hub := each_keeps State.hub _ (fun _ _ => emitOut_hub ..) _ s
  rw [if_neg (by rw [hhub, hrail]; simp [hf])]
  exact rd_wr_same ..

theorem avsRaise_ne {s : State} {d : Nat} (hlow : rd s (dieB d) R.WEIR_AVS_STATUS_VOUT < (avsLimits s d).2) :
    avsRaise s d ≠ rd s (dieB d) R.WEIR_AVS_STATUS_VOUT := by
  unfold avsRaise
  omega

theorem avsPeriod_raise_leads (s : State) (d : Fin 4) (f : Fin 5) (x : Int) (j : Nat)
    (hon : rdB s (dieB d) R.WEIR_AVS_CTRL_EN = true) (hslack : periodSlack s d = some (x, j))
    (hx : x < 4000 *
      ((rd s (dieB d) R.WEIR_AVS_MARGIN_MARGIN (rd s (dieB d) R.WEIR_AVS_STATUS_BAND) : Nat) : Int))
    (hlow : rd s (dieB d) R.WEIR_AVS_STATUS_VOUT < (avsLimits s d).2)
    (hthrottle : rdB s hkB R.HK_DIE_THROTTLE d = false) (hf : f.val < 4) (hrail : s.hub.badRails.contains 17 = false) :
    Leads (.avsPeriod d f) s fun t =>
      rd t (dieB d) R.WEIR_AVS_STATUS_VOUT = avsRaise s d % 2 ^ R.WEIR_AVS_STATUS_VOUT.w := by
  refine leads_run (f := avsPeriod d f) rfl ?_
  obtain ⟨v, u, hregs, hhub, hv, hshown⟩ := avsPeriod_shown d f (begun s)
  have hshort : avsShort (begun s) d = true := by
    unfold avsShort
    rw [show periodSlack (begun s) d = some (x, j) from hslack]
    exact decide_eq_true hx
  have hfree : rdB u hkB R.HK_DIE_THROTTLE d = false := by
    rw [rdB, rd_of_regs hregs, rd_slackWritten_throttle]
    exact hthrottle
  have hon' : rdB u (dieB d) R.WEIR_AVS_CTRL_EN = true := by
    rw [rdB, rd_of_regs hregs, rd_slackWritten d _ (by unfold AvsApart; decide) (by decide)]
    exact hon
  have hv' : v = avsRaise s d := hv hshort hlow hfree
  have hne : (avsRaise s d != rd (begun s) (dieB d) R.WEIR_AVS_STATUS_VOUT) = true := bne_iff_ne.mpr (avsRaise_ne hlow)
  rw [rd_done, hshown _ (by unfold AvsApart; decide), hon', hv', hne, Bool.and_self, if_pos rfl]
  exact avsCommand_vout d _ hf (hhub ▸ hrail)

end Sys2Proof.Launch
end

section
namespace Sys2Proof.Launch
open Sys2Proof Sys2Proof.Machine Sys2Proof.Safety Sys2Proof.Scope Sys2Proof.PowerModes

/-! ### Launching an item (R114, R343, R387)

A launch takes nothing from the queue and begins no frame; both are the business of the entry that is released. -/

/-- A channel's queue without its tokens, and the frame that runs: its boundary, its number, and that there is one. -/
def queueFrame (w : WeirSt) : List Item × Nat × Nat × Bool := (w.q.map bare, w.curF, w.curFno, w.curAny)

theorem Kept.queueFrame {n : Nat} {s t : State} (h : Kept n s t) : queueFrame (t.weir n) = queueFrame (s.weir n) :=
  congrArg (fun w : WeirSt => (w.q, w.curF, w.curFno, w.curAny)) h.weir

theorem queueFrame_of_weirs {s t : State} (h : t.weirs = s.weirs) (n : Nat) :
    queueFrame (t.weir n) = queueFrame (s.weir n) := congrArg queueFrame (weir_of_weirs h n)

theorem skipDrift_queueFrame (n fno pri : Nat) (s : State) :
    queueFrame ((skipDrift n fno pri s).weir n) = queueFrame (s.weir n) :=
  weir_keeps queueFrame n (fun _ => by rfl) s

theorem countMiss_queueFrame (n : Nat) (it : Item) (cause : Nat) (s : State) :
    queueFrame ((countMiss n it cause s).weir n) = queueFrame (s.weir n) := by
  unfold countMiss
  extract_lets s1 s2
  have h1 : queueFrame (s1.weir n) = queueFrame (s.weir n) := queueFrame_of_weirs (bump_weirs ..) n
  have h2 : queueFrame (s2.weir n) = queueFrame (s1.weir n) :=
    when_keeps (fun u : State => queueFrame (u.weir n)) _ _ s1 (skipDrift_queueFrame ..)
  clear_value s2
  exact ((weir_keeps queueFrame n (fun _ => by rfl) s2).trans h2).trans h1

theorem notePlane_queueFrame (n cur : Nat) (it : Item) (s : State) :
    queueFrame ((notePlane n cur it s).weir n) = queueFrame (s.weir n) := by
  unfold notePlane
  split
  · rfl
  extract_lets pri r s1 s2 clamped
  have h1 : queueFrame (s1.weir n) = queueFrame (s.weir n) := queueFrame_of_weirs rfl n
  have h2 : queueFrame (s2.weir n) = queueFrame (s1.weir n) :=
    when_keeps (fun u : State => queueFrame (u.weir n)) _ _ s1 (weir_keeps queueFrame n (fun _ => by rfl) s1)
  exact ((when_keeps (fun u : State => queueFrame (u.weir n)) _ _ s2 (skipDrift_queueFrame ..)).trans h2).trans h1

theorem openInterval_queueFrame (n cur : Nat) (it : Item) (s : State) :
    queueFrame ((openInterval n cur it s).weir n) = queueFrame (s.weir n) := by
  unfold openInterval
  extract_lets e s1
  have h1 : queueFrame (s1.weir n) = queueFrame (s.weir n) := weir_keeps queueFrame n (fun _ => by rfl) s
  exact (queueFrame_of_weirs (s := s1) rfl n).trans h1

theorem lampActs_queueFrame (n cur : Nat) (it : Item) (s : State) :
    queueFrame ((lampActs n cur it s).weir n) = queueFrame (s.weir n) := by
  unfold lampActs
  extract_lets w wait s1
  have h1 : queueFrame (s1.weir n) = queueFrame (s.weir n) := weir_keeps queueFrame n (fun _ => by rfl) s
  exact (queueFrame_of_weirs (s := s1) rfl n).trans h1

theorem kept_holdBuf (n : Nat) (it : Item) (s : State) : Kept n s (holdBuf n it s) := by
  unfold holdBuf
  split
  · exact Kept.refl n s
  · exact kept_modWeir n (fun _ => by rfl) s

theorem launchItem_queueFrame (n : Nat) (it : Item) (s : State) :
    queueFrame ((launchItem n it s).2.weir n) = queueFrame (s.weir n) := by
  have branch {c : Prop} [Decidable c] {a b : Option Nat × State}
      (ha : queueFrame (a.2.weir n) = queueFrame (s.weir n)) (hb : queueFrame (b.2.weir n) = queueFrame (s.weir n)) :
      queueFrame ((if c then a else b).2.weir n) = queueFrame (s.weir n) := by
    split
    · exact ha
    · exact hb
  have counted {c : Prop} [Decidable c] :
      queueFrame ((if c then s else countMiss n it 2 s).weir n) = queueFrame (s.weir n) := by
    split
    · rfl
    · exact countMiss_queueFrame ..
  have hdown : queueFrame ((bump (chB n) R.WEIR_DOWN_CNT_COUNT s).weir n) = queueFrame (s.weir n) :=
    queueFrame_of_weirs (bump_weirs ..) n
  unfold launchItem
  refine branch counted (branch ((weir_keeps queueFrame n (fun _ => by rfl) _).trans hdown)
    (branch rfl (branch rfl ?_)))
  split
  · exact counted
  · extract_lets wd s1 s2 bs cur s3 fs s4 s5 s6 s7 s8
    have h1 : queueFrame (s1.weir n) = queueFrame (s.weir n) :=
      when_keeps (fun u : State => queueFrame (u.weir n)) _ _ s (weir_keeps queueFrame n (fun _ => by rfl) s)
    have h2 : queueFrame (s2.weir n) = queueFrame (s1.weir n) := (kept_takeFactor n it s1).queueFrame
    have h3 : queueFrame (s3.weir n) = queueFrame (s2.weir n) := notePlane_queueFrame ..
    have h5 : queueFrame (s5.weir n) = queueFrame (s3.weir n) := queueFrame_of_weirs rfl n
    have h6 : queueFrame (s6.weir n) = queueFrame (s5.weir n) := by
      unfold s6
      split
      · exact openInterval_queueFrame ..
      split
      · exact lampActs_queueFrame ..
      · rfl
    have h7 : queueFrame (s7.weir n) = queueFrame (s6.weir n) := (kept_holdBuf n it s6).queueFrame
    have h8 : queueFrame (s8.weir n) = queueFrame (s7.weir n) :=
      (kept_when (kept_modWeir n (fun _ => by rfl) s7)).queueFrame
    exact h8.trans (h7.trans (h6.trans (h5.trans (h3.trans (h2.trans h1)))))

end Sys2Proof.Launch
end

section
namespace Sys2Proof.Launch
open Sys2Proof Sys2Proof.Machine Sys2Proof.Safety Sys2Proof.Scope Sys2Proof.PowerModes

/-! ### Release on a running channel (R114, R343, R385) -/

/-- The entries of the queue's first launch time. -/
def frontGroup (it : Item) (l : List Item) : List Item := (it :: l).takeWhile (fun i => i.t == it.t)

theorem frontGroup_cons (it : Item) (l : List Item) :
    frontGroup it l = it :: l.takeWhile (fun i => i.t == it.t) :=
  List.takeWhile_cons_of_pos (by simp)

/-- After the entries have acted, only ordered sets, the ends of frames and LAUNCH packets follow. -/
theorem release_running_kept {n ph : Nat} {s : State} {it : Item} {l : List Item} (hq : (s.weir n).q = it :: l)
    (hrel : s.hub.noRelease = false) (hpin : pinPassed s n it.t s.ht = true) (hst : s.chState n = .running) :
    Kept n ((frontGroup it l).foldl (releaseEntry n) ([], s)).2 (release n ph s) := by
  unfold release
  rw [hq]
  dsimp only
  rw [if_neg (not_releaseHeld hrel hpin), hst]
  exact ((kept_when (kept_launchSets ..)).trans (kept_each (fun _ _ => kept_when (kept_closeItems ..)) _ _)).trans
    (kept_sendTokens ..)

theorem Kept.strCur {n : Nat} {s t : State} (h : Kept n s t) : (t.weir n).strCur = (s.weir n).strCur := by
  have hs : (settled (t.weir n)).strCur = (settled (s.weir n)).strCur := congrArg WeirSt.strCur h.weir
  exact hs

theorem Kept.openPlane {n : Nat} {s t : State} (h : Kept n s t) : (t.weir n).openPlane = (s.weir n).openPlane := by
  have hs : (settled (t.weir n)).openPlane = (settled (s.weir n)).openPlane := congrArg WeirSt.openPlane h.weir
  exact hs

theorem takeFactor_ports (n : Nat) (it : Item) (s : State) : (takeFactor n it s).ports = s.ports := by
  unfold takeFactor
  split
  · rfl
  split
  · dsimp only
    split <;> rfl
  · rfl

theorem notePlane_regs (n cur : Nat) (it : Item) (s : State) : (notePlane n cur it s).regs = s.regs := by
  unfold notePlane
  split
  · rfl
  extract_lets pri r s1 s2 clamped
  have h2 : s2.regs = s1.regs := when_keeps State.regs _ _ s1 rfl
  exact (when_keeps State.regs _ _ s2 rfl).trans h2

theorem pinTrim_of_regs {s t : State} (h : s.regs = t.regs) (n x : Nat) : pinTrim s n x = pinTrim t n x := by
  have hedge : headEdge s n = headEdge t n := by simp only [headEdge, hcap, rd_of_regs h]
  simp only [pinTrim, pin25, headLe, hedge, hcap, rd_of_regs h]

/-- A plane opens its interval with its token's current. -/
theorem openInterval_shown (n cur : Nat) (it : Item) (s : State) :
    tget 0 it.str ((openInterval n cur it s).weir n).strCur = cur ∧
    ((openInterval n cur it s).weir n).openPlane = some (it.str, it.amp) := by
  have hweir : ((openInterval n cur it s).weir n).strCur = tset 0 it.str cur [] ∧
      ((openInterval n cur it s).weir n).openPlane = some (it.str, it.amp) := by
    unfold openInterval
    extract_lets e s1
    have h1 : (s1.weir n).strCur = tset 0 it.str cur [] ∧ (s1.weir n).openPlane = some (it.str, it.amp) := by
      unfold s1
      rw [weir_modWeir]
      exact ⟨rfl, rfl⟩
    exact h1
  rw [hweir.1]
  exact ⟨tget_tset_same .., hweir.2⟩

/-- A plane whose token was sent launches with what the token says, and opens its interval. -/
theorem launchItem_plane {n : Nat} {s : State} {it : Item} {tok u : Nat} (hkind : it.kind = .plane)
    (hsent : it.sent = some (tok, u)) (hmissed : it.missed = false) (hwds : (s.weir n).wds = [])
    (hup : portUp s n = true) {bs : List Byte} (hbs : tget [] tok (s.port n).tokBytes = bs) :
    ∃ t, launchItem n it s = (some tok, t) ∧
      .release n tok it.t 1 (b2n (tokenDark bs)) (tokenCur bs) (tokenNcur bs) (pinTrim s n it.t) ∈ t.out ∧
      tget 0 it.str (t.weir n).strCur = tokenCur bs ∧ (t.weir n).openPlane = some (it.str, it.amp) := by
  have hheld : withheld (s.weir n) it.t = false := by simp [withheld, hwds]
  have hcode : it.code = 1 := by simp [Item.code, hkind]
  unfold launchItem
  rw [if_neg (by simp [hheld]), if_neg (by simp [hup]), if_neg (by simp [hkind]), if_neg (by simp [hmissed]), hsent]
  dsimp -zeta only
  extract_lets wd s1 s2 bs' cur s3 fs s4 s5 s6 s7 s8
  have h1 : s1 = s := if_neg (by simp [wd, hheld])
  have hbs' : bs' = bs := by
    have hport : s2.port n = s.port n := congrArg (tget ({} : PortSt) n) ((takeFactor_ports ..).trans (by rw [h1]))
    rw [← hbs, ← hport]
  have hregs : s4.regs = s.regs := calc
    s4.regs = s3.regs := rfl
    _ = s2.regs := notePlane_regs ..
    _ = s1.regs := takeFactor_regs ..
    _ = s.regs := congrArg State.regs h1
  have hout : .release n tok it.t 1 (b2n (tokenDark bs)) (tokenCur bs) (tokenNcur bs) (pinTrim s n it.t) ∈ s5.out := by
    rw [← hbs', ← pinTrim_of_regs hregs, ← hcode]
    exact List.mem_append_right _ (List.mem_singleton.mpr rfl)
  have h6 : s6 = openInterval n cur it s5 := if_pos hkind
  obtain ⟨hcur, hopen⟩ := openInterval_shown n cur it s5
  have hkept : Kept n s6 s8 := (kept_holdBuf n it s6).trans (kept_when (kept_modWeir n (fun _ => by rfl) s7))
  refine ⟨s8, rfl, hkept.out ?_, ?_, ?_⟩
  · rw [h6]
    exact hout
  · rw [hkept.strCur, h6, hcur]
    exact congrArg tokenCur hbs'
  · rw [hkept.openPlane, h6, hopen]

theorem release_plane_leads (s : State) (n : Fin 192) (it : Item) (ph : Fin 128) (tok u : Nat) (l : List Item)
    (hq : (s.weir n).q = it :: l) (hkind : it.kind = .plane) (hsent : it.sent = some (tok, u))
    (hmissed : it.missed = false) (halone : ∀ i ∈ l, i.t ≠ it.t) (hwds : (s.weir n).wds = [])
    (hrel : s.hub.noRelease = false) (hpin : pinPassed s n it.t s.ht = true) (hst : s.chState n = .running)
    (hup : portUp s n = true) : Leads (.release n ph) s fun t =>
      .release n tok it.t 1 (b2n (tokenDark (tget [] tok (s.port n).tokBytes)))
        (tokenCur (tget [] tok (s.port n).tokBytes)) (tokenNcur (tget [] tok (s.port n).tokBytes)) (pinTrim s n it.t) ∈
        t.out ∧
      queueKeys t n = l.map (fun i => (i.kind, i.t, i.fno, i.idx)) ∧
      tget 0 it.str (t.weir n).strCur = tokenCur (tget [] tok (s.port n).tokBytes) ∧
      (t.weir n).openPlane = some (it.str, it.amp) := by
  refine leads_run (f := release n ph) rfl ?_
  have hgroup : frontGroup it l = [it] := by
    rw [frontGroup_cons]
    refine congrArg (it :: ·) ?_
    cases l with
    | nil => rfl
    | cons a l => exact List.takeWhile_cons_of_neg (by simpa using halone a (List.mem_cons_self ..))
  have hkept := release_running_kept (s := begun s) (ph := ph) hq hrel hpin hst
  rw [hgroup] at hkept
  have hdrop : (modQ n (fun q => q.drop 1) (begun s)).weir n = { s.weir n with q := l } := by
    rw [modQ, weir_modWeir, show (begun s).weir n = s.weir n from rfl, hq]
    rfl
  obtain ⟨t, heq, hout, hcur, hopen⟩ := launchItem_plane (s := modQ n (fun q => q.drop 1) (begun s)) hkind hsent hmissed
    (by rw [hdrop]; exact hwds) hup (bs := tget [] tok (s.port n).tokBytes) rfl
  have hentry : ([it].foldl (releaseEntry n) ([], begun s)).2 = t := by
    rw [List.foldl_cons, List.foldl_nil, releaseEntry]
    dsimp only
    rw [if_neg (by simp [hkind]), heq]
  have hframe := launchItem_queueFrame n it (modQ n (fun q => q.drop 1) (begun s))
  rw [heq, hdrop] at hframe
  rw [hentry] at hkept
  refine ⟨mem_out_done (hkept.out hout), ?_, ?_, ?_⟩
  · rw [queueKeys, done_weir, hkept.map_q (fun _ => rfl)]
    exact map_of_bare (congrArg Prod.fst hframe) (fun _ => rfl)
  · rw [done_weir, hkept.strCur, hcur]
  · rw [done_weir, hkept.openPlane, hopen]

end Sys2Proof.Launch
end

section
namespace Sys2Proof.Launch
open Sys2Proof Sys2Proof.Machine Sys2Proof.Safety Sys2Proof.Scope Sys2Proof.PowerModes

/-! ### Release of a frame mark (R373, R385) -/

/-- The frame that runs: its boundary, its number, and that there is one. -/
def frameNow (s : State) (n : Nat) : Nat × Nat × Bool := ((s.weir n).curF, (s.weir n).curFno, (s.weir n).curAny)

theorem frameNow_of_queueFrame {n : Nat} {s t : State} (h : queueFrame (t.weir n) = queueFrame (s.weir n)) :
    frameNow t n = frameNow s n := congrArg Prod.snd h

theorem takeLead_weirs (n : Nat) (s : State) : (takeLead n s).weirs = s.weirs := by
  unfold takeLead
  split
  · rfl
  · rw [wr_weirs, wr_weirs, wr_weirs]

theorem passBoundary_frameNow (n fno bnd : Nat) (s : State) :
    frameNow (passBoundary n fno bnd s) n = (bnd, fno, true) := by
  unfold passBoundary
  extract_lets s1 s2 s3 s4 s5 s6 s7 s8
  have h3 : frameNow s3 n = (bnd, fno, true) := by
    unfold frameNow s3
    rw [weir_modWeir]
    rfl
  have h4 : s4.weirs = s3.weirs := takeLead_weirs n s3
  have h5 : s5.weirs = s4.weirs := wr_weirs ..
  have h6 : s6.weirs = s5.weirs := wr_weirs ..
  clear_value s6
  have h7 : s7.weirs = s6.weirs := rfl
  have h8 : s8.weirs = s7.weirs := when_keeps State.weirs _ _ s7 rfl
  have hframe : queueFrame (s8.weir n) = queueFrame (s3.weir n) :=
    queueFrame_of_weirs (h8.trans (h7.trans (h6.trans (h5.trans h4)))) n
  clear_value s8
  exact ((frameNow_of_queueFrame (weir_keeps queueFrame n (fun _ => by rfl) s8)).trans
    (frameNow_of_queueFrame hframe)).trans h3

/-- The entries that are no marks leave the frame that runs. -/
theorem releaseEntry_frameNow {n : Nat} {it : Item} (hkind : it.kind ≠ .mark) (acc : List Nat × State) :
    frameNow (releaseEntry n acc it).2 n = frameNow acc.2 n := by
  unfold releaseEntry
  extract_lets s1
  rw [if_neg hkind]
  have h1 : frameNow s1 n = frameNow acc.2 n :=
    weir_keeps (fun w : WeirSt => (w.curF, w.curFno, w.curAny)) n (fun _ => by rfl) acc.2
  exact (frameNow_of_queueFrame (launchItem_queueFrame n it s1)).trans h1

theorem releaseEntries_frameNow {n : Nat} {l : List Item} (hkind : ∀ i ∈ l, i.kind ≠ .mark) (acc : List Nat × State) :
    frameNow (l.foldl (releaseEntry n) acc).2 n = frameNow acc.2 n := by
  induction l generalizing acc with
  | nil => rfl
  | cons a l ih =>
    rw [List.foldl_cons, ih (fun i hi => hkind i (List.mem_cons_of_mem _ hi))]
    exact releaseEntry_frameNow (hkind a (List.mem_cons_self ..)) acc

theorem release_mark_leads (s : State) (n : Fin 192) (it : Item) (ph : Fin 128) (l : List Item)
    (hq : (s.weir n).q = it :: l) (hkind : it.kind = .mark) (honly : ∀ i ∈ l, i.t = it.t → i.kind ≠ .mark)
    (hrel : s.hub.noRelease = false) (hpin : pinPassed s n it.t s.ht = true) (hst : s.chState n = .running) :
    Leads (.release n ph) s fun t =>
      (t.weir n).curFno = it.fno ∧ (t.weir n).curF = it.t ∧ (t.weir n).curAny = true := by
  refine leads_run (f := release n ph) rfl ?_
  have hkept := release_running_kept (s := begun s) (ph := ph) hq hrel hpin hst
  have hrest : ∀ i ∈ l.takeWhile (fun i => i.t == it.t), i.kind ≠ .mark := fun i hi =>
    honly i (List.takeWhile_subset _ hi) (by simpa using List.mem_takeWhile_imp hi)
  have hfirst : (releaseEntry n ([], begun s) it).2 =
      passBoundary n it.fno it.t (modQ n (fun q => q.drop 1) (begun s)) := by
    unfold releaseEntry
    extract_lets s1
    rw [if_pos hkind]
  have hframe : frameNow (release n ph (begun s)) n = (it.t, it.fno, true) := by
    rw [frameNow_of_queueFrame hkept.queueFrame, frontGroup_cons, List.foldl_cons, releaseEntries_frameNow hrest,
      hfirst, passBoundary_frameNow]
  obtain ⟨hF, hrest⟩ := Prod.mk.inj hframe
  obtain ⟨hfno, hany⟩ := Prod.mk.inj hrest
  rw [done_weir]
  exact ⟨hfno, hF, hany⟩

/-- Settles O44: each command of the Weir is its own lemma; what follows a command's own effect (LAUNCH packets, ordered
sets, the ends of frames) is `Kept`. The clauses rest on the model's choices in logs 54 and 128. -/
theorem launchQueueStagingAndRelease : Obligations.LaunchQueueStagingAndRelease := by
  unfold Obligations.LaunchQueueStagingAndRelease
  exact ⟨decision_own_leads, decision_late_leads, stagingStart_leads, stagingComplete_leads, stageNotInTime_own_leads,
    fun s n it j hk hnext hmay hdark _ _ hlate hblock =>
      stageNotInTime_late_leads s n it j hk hnext hmay hdark hlate hblock,
    poolReadPoison_leads, tokenLeadMiss_leads, release_plane_leads, release_mark_leads, release_armed_leads,
    planeIntervalEnd_leads, syncSend_leads, withdrawalComplete_leads, avsPeriod_off_leads, avsPeriod_raise_leads⟩

end Sys2Proof.Launch
end
